-- ==== Sys2Proof/Word.lean ====
section
/-! DEFINITION. Word.lean: the word types of the spec's registers and memories (R10) and of the wider counts. -/

namespace Sys2Proof

/-- A register word: 32 bits (R10). -/
abbrev Word := BitVec 32

/-- One byte of a buffer, frame or memory. -/
abbrev Byte := BitVec 8

/-- A 64-bit count or stamp (R25). -/
abbrev DWord := BitVec 64

/-- A binary16 value, by its bits (R9). -/
abbrev Half16 := BitVec 16

end Sys2Proof
end

