-- ==== Sys2Proof/Types.lean ====
section
/-! DEFINITION. Types.lean: the named kinds and records that both the commands (Syntax.lean) and the state
(Machine/State.lean) are written with: stamps, flags, tokens, job sections, bytes of frames, firmware and plant events. -/

namespace Sys2Proof.Machine

/-- A stamp: timebase count in nanoseconds and web position (R25). -/
structure Stamp where
  time : DWord
  pos : Word
  deriving DecidableEq, Repr

/-- The result flags of R48. -/
structure Flags where
  sat : Bool
  stale : Bool
  degraded : Bool
  noBaseline : Bool
  restart : Bool
  deriving DecidableEq, Repr

/-- No flag set. -/
def Flags.none : Flags := ⟨false, false, false, false, false⟩

/-- The FLAGS byte of R48 and R267. -/
def Flags.toNat (f : Flags) : Nat :=
  f.sat.toNat + 2 * f.stale.toNat + 4 * f.degraded.toNat + 8 * f.noBaseline.toNat + 16 * f.restart.toNat

/-- The OR of the flags of several tokens (R48, R95). -/
def Flags.or (a b : Flags) : Flags :=
  ⟨a.sat || b.sat, a.stale || b.stale, a.degraded || b.degraded, a.noBaseline || b.noBaseline, a.restart || b.restart⟩

/-- A token: the header fields of R93 by their numbers, and the payload by its elements (signed codes, partial sums or the
bits of binary16 values, as the consuming operator takes them) (DEDUCED, log 152). -/
structure Token where
  stamp : Stamp
  tag : Nat
  job : Nat
  gen : Nat
  flags : Flags
  path : Nat
  stream : Nat
  bseq : Nat
  kind : Nat
  dstClu : Nat
  dstUnit : Nat
  srcClu : Nat
  srcUnit : Nat
  part : Nat
  npart : Nat
  len : Nat
  epoch : Nat
  oper : Nat
  seg : Nat
  bridge : Nat
  payload : List Int
  deriving DecidableEq, Repr

/-- A place in the fabric at which a token stands (R97 to R99, R113, R134). -/
inductive Place where
  /-- waiting on the hub link of a half to enter the pitch -/
  | hubLink (half : Nat)
  /-- the input buffer of a router: cluster, input port (0 to 4), class (0 to 2) -/
  | router (clu port cls : Nat)
  /-- complete at the door of a router, by a port: 1 a mesh interface or the far end of a bridge, 4 a unit of the cluster -/
  | entry (clu port : Nat)
  /-- the sending queue of bridge `b`: 0 to 7 in the west half, 8 to 15 in the east -/
  | bridge (b : Nat)
  /-- arrived at a unit of a cluster (DST_UNIT of R94) and not yet received -/
  | arrived (clu unit : Nat)
  /-- received by a unit and waiting there -/
  | unit (clu unit : Nat)
  /-- arrived at the hub -/
  | hub
  deriving DecidableEq, Repr

/-- An error found by the check bits of a link (R101). -/
inductive LinkErr where
  | none | corrected | payload | header
  deriving DecidableEq, Repr

/-- An error found by the check bits of a memory word (R90). -/
inductive MemErr where
  | none | corrected | uncorrectable
  deriving DecidableEq, Repr

/-- One access of a DMA engine under a job address (R326, R328): the job, its address, the bytes written (empty for a read),
the length of a read, and what the check bits of a word read find. -/
structure DmaAccess where
  job : Nat
  addr : Nat
  write : Bool
  bytes : List Byte
  len : Nat
  ecc : MemErr
  deriving DecidableEq, Repr

/-- The operators of the library (R37). A CONV_SEG runs as products on the weights its shards hold, its kernel laid out in them (DEDUCED, log 186). -/
inductive OperKind where
  | matvec | convSeg | adapt | mix64 | mixWide | state
  | relu | leakyRelu | sigmoid | tanh | softplus
  | normFixed | normBatch | poolMax | poolMean
  | elemSum | elemDiff | elemProd
  | headDefect | headProfile | headSoft | headMap
  deriving DecidableEq, Repr

/-- The element format of an operator's output (R50, R107, R267). -/
inductive ElemFmt where
  | int8 | int16 | f16
  deriving DecidableEq, Repr

/-- Where an operator sends its output: the consuming operator, its unit, and the bridge to use across the halves. -/
structure Route where
  oper : Nat
  clu : Nat
  unit : Nat
  kind : Nat
  bridge : Nat
  part : Nat
  npart : Nat
  deriving DecidableEq, Repr

/-- One operator of a job's graph, as the section area places it (R37, R112): its path, its kind, where it runs, the bits of
its binary16 scale and bias, the formats of its operands and of its output, the number of reduction slots of its group (0 for
an operator without one), the tokens its allotted space at a unit holds (R92), the kernel height of a CONV_SEG in lines or the rank of an
ADAPT, its inputs and outputs (R112), the tokens it emits per batch along each route, the pages of the recurrent state of a STATE
operator, the positions per line of its input, whether a POOL runs over lines, and where its output goes. -/
structure OperSpec where
  oper : Nat
  path : Nat
  kind : OperKind
  clu : Nat
  unit : Nat
  scale : Half16
  bias : Half16
  inFmt : ElemFmt
  fmt : ElemFmt
  slots : Nat
  room : Nat
  extent : Nat
  inputs : Nat
  outputs : Nat
  perBatch : Nat
  statePages : List Nat
  cols : Nat
  overLines : Bool
  routes : List Route
  deriving DecidableEq, Repr

/-- One INPUT token the hub cuts from every batch of a path and stream, for the DMA engine of its cluster (R104, R38). -/
structure InputSpec where
  path : Nat
  stream : Nat
  seg : Nat
  oper : Nat
  clu : Nat
  len : Nat
  firstPix : Nat
  pixCount : Nat
  inZero : Nat
  inScale : Half16
  deriving DecidableEq, Repr

/-- One shard a job places on a tile or on a pair of tiles (R112, R226, R240): its SHARD_NO, the quadrant it goes to and, where
the placement fixes it, the tile; whether it is a pair; its operator; where its products go (the reduction point, with PART
and NPART); its products per batch (PROD_PER_BATCH of R223). -/
structure ShardUse where
  shard : Nat
  quadrant : Nat
  tile : Option Nat
  pair : Bool
  oper : Nat
  route : Route
  perBatch : Nat
  deriving DecidableEq, Repr

/-- A MIX64 operator of a path: the half it runs in, the matrix (a shard of KIND 2) it uses in each grade, the pair that serves as its
substitute, where its outputs go, its MESH tokens per batch, and the scale s of its matrices (R39, R137, R147, R155, R242). -/
structure MeshUse where
  oper : Nat
  path : Nat
  half : Nat
  matrices : List (Nat × Nat)
  subst : Nat
  dstClu : Nat
  dstUnit : Nat
  tokPerBatch : Nat
  scale : Half16
  deriving DecidableEq, Repr

/-- An operator path: the grades that make it active (empty: every grade), its head, its element format, and the marker and
the plant output its head drives, and the most bytes one of its results takes in staging memory (R37, R39, R112, R268, R283, R424). -/
structure PathSpec where
  path : Nat
  grades : List Nat
  head : Nat
  fmt : Nat
  mark : Option Nat
  aout : Option Nat
  spans : Bool
  reduced : Bool
  half : Nat
  resultBytes : Nat
  deriving DecidableEq, Repr

/-- The section area of a job image as the module's firmware reads it. Its byte layout is private (R42): the reading comes
with the command. `supported` is false when it uses an operator, option or control flow outside R37, a feature refused by
R31, or a placement that breaks one of the rules of R112 the reading does not show (DESIGN CHOICE, log 146). -/
structure Section where
  supported : Bool
  paths : List PathSpec
  opers : List OperSpec
  inputs : List InputSpec
  shards : List ShardUse
  meshes : List MeshUse
  /-- activation SRAM pages wanted: page index, cluster, R, W, CLR -/
  sramPages : List (Nat × Nat × Bool × Bool × Bool)
  /-- staging pages wanted: page index, R, W, CLR -/
  stagePages : List (Nat × Bool × Bool × Bool)
  bridges : List Nat
  grades : List Nat
  extPorts : List Nat
  /-- the declared line rate, in lines per second (rule 11 of R112) -/
  lineRate : Nat
  /-- the KiB of activation SRAM for token queues and for recurrent state (rule 12 of R112) -/
  queueKib : Nat
  deriving DecidableEq, Repr

/-- A labelled region of a defect result (R268). -/
structure Region where
  firstLine : Nat
  lines : Nat
  firstPix : Nat
  pix : Nat
  cls : Nat
  score : Half16
  area : Nat
  deriving DecidableEq, Repr

/-- The packet kinds a receive port tells apart after the header check (R255). -/
inductive HdrCheck where
  | good | corrected | bad
  deriving DecidableEq, Repr

/-- The header of a packet as it arrives: its check, and the phase of the timebase clock at that instant, in steps of 2.5 ns (R255, R275). -/
structure Header where
  check : HdrCheck
  phase : Fin 4
  deriving DecidableEq, Repr

/-- What the read-back of a plant output finds (R429): it departs from its code, its current loop is open, or closed again. -/
inductive SelfCheck where
  | departed | loopOpen | loopClosed
  deriving DecidableEq, Repr

/-- What a write–verify of one tile records (R234, R236): PROG_REF and PROG_ERR as TCAL_PROG codes them, and the logical columns of
which a cell did not reach its window: 0 to 255, and 256 + n for spare n. -/
structure WriteMeas where
  progRef : Nat
  progErr : Nat
  failed : List Nat
  deriving DecidableEq, Repr

/-- What a read-back reads of one cell that is not at its target (R247): its row, logical column and
whether it is the minus cell of its pair, and its conductance by the slope of its readings, in nS. -/
structure CellRead where
  row : Nat
  col : Nat
  minus : Bool
  g : Nat
  deriving DecidableEq, Repr

/-- What a roll call finds on one tile (R201): legs with a missing code or step error (ADC, leg), row DACs off their monitor, the
largest magnitude of step 2 at which every ADC in service is linear, and whether chalk column 4 or 6 departs from zero. -/
structure TileFinding where
  tile : Nat
  legs : List (Nat × Nat)
  drivers : List Nat
  clip : Nat
  chalk : Bool
  deriving DecidableEq, Repr

/-- What the tone engine finds of one ring in a window (R165, R162): its index, the strongest tone, the level of the assigned tone, the level at
the ring's monitor and that monitor's dark level. -/
structure ToneRead where
  ring : Nat
  tone : Nat
  level : Nat
  mon : Nat
  darkLevel : Nat
  deriving DecidableEq, Repr

/-- The monitor reads below three times its dark level (R162). -/
def ToneRead.dark (t : ToneRead) : Bool := decide (t.mon < 3 * t.darkLevel)

/-- One reading of a power monitor (R180, R181): chiplet, index, power in units of 0.01 dBm. -/
structure MonRead where
  chip : Nat
  ix : Nat
  power : Int
  deriving DecidableEq, Repr

/-- A SETXTIME sub-command (R278): a Sync Tick, another of the synchronous mode, or one that would enter an asynchronous mode. -/
inductive XTimeSub where
  | syncTick | sync | async
  deriving DecidableEq, Repr

/-- What a firmware image says of itself (R344): version, security version and floor, checkpoint format, fence, and its firmware digest. -/
structure FwImage where
  version : Nat
  svn : Nat
  floor : Nat
  ckpt : Nat
  fenceLo : Nat
  fenceHi : Nat
  digest : List Byte
  deriving DecidableEq, Repr

/-- No image. -/
def FwImage.none : FwImage := ⟨0, 0, 0, 0, 0, 0, []⟩

end Sys2Proof.Machine
end

