-- ==== Sys2Proof/Syntax.lean ====
section
/-! DEFINITION. Syntax.lean: the commands of the block, one constructor per row of spec/opcode_table.json, with the
operands of the row: what a host, a bus controller, a pin, a measured quantity or an elapsed time brings to it. -/

namespace Sys2Proof

open Sys2Proof.Machine

/-- A command: one row of spec/opcode_table.json. -/
inductive Instr where
  /-- R276. A SYNC_IN edge is a discipline event that records the error and adjusts RATE or steps the timebase. -/
  | syncInEdge (falling : Bool) (phase : Fin 4)
  /-- R277. No discipline event within 1.5 periods moves the discipline to HOLDOVER. -/
  | holdoverTimeout
  /-- R282. WIDTH µs after the last entry fired the marker returns inactive. -/
  | markPulseEnd (k : Fin 8)
  /-- R280. A filtered encoder transition changes the web position or counts an illegal transition. -/
  | encoderTransition (a b : Bool)
  /-- R279. Writes the timebase while no job is WARMING, RUNNING or RESTARTING. -/
  | clkTbSet (m : Fin 16)
  /-- R281. Writes the web position and empties every marker queue, letting active pulses run out. -/
  | clkEncPreset (m : Fin 16)
  /-- R283. Schedules one marker entry at a host-given target position. -/
  | streamMark (m : Fin 16)
  /-- R284. Drives one marker inactive and empties its queue. -/
  | streamMarkClear (m : Fin 16)
  /-- R262. A drop run closes 1 ms after its first line and its record is emitted. -/
  | dropRunTimeout (st : Fin 48)
  /-- R271. Every PERIOD_MS a periodic status record is emitted. -/
  | periodicStatus
  /-- R260. A Frame Start short packet opens a frame, applies buffered stream settings and resets line-number
  expectation. -/
  | frameStart (p : Fin 12) (vc : Fin 16) (h : HdrCheck)
  /-- R259. A Frame End short packet closes a frame, marking a line lost if a Line Start had no long packet. -/
  | frameEnd (p : Fin 12) (vc : Fin 16) (h : HdrCheck)
  /-- R259. A numbered Line Start latches the stamp and compares its number with the expected one. -/
  | lineStart (p : Fin 12) (vc : Fin 16) (h : Header) (n : Fin 65536)
  /-- R258. A long packet carrying a line is checked, stamped, written to staging or dropped, and completes batches.
  -/
  | longPacket (p : Fin 12) (vc : Fin 16) (h : Header) (dtype : Fin 64) (crcOk room : Bool) (pix : List Nat)
  /-- R255. A receive port receives an initial or periodic skew calibration sequence after leaving the stop state and
  sets DESKEWED. -/
  | rxSkewCalibration (p : Fin 12)
  /-- R255. A receive port enters or leaves the ultra-low-power state on the transmitter's request, shown in RX_STAT
  ULPS. -/
  | rxUlpsRequest (p : Fin 12) (enter : Bool)
  /-- R104. The hub cuts the next complete batch into INPUT tokens under free tags, waiting when tags or in-flight
  limits run short. -/
  | dispatch (half : Fin 2)
  /-- R116. The longest-held result reaches HOLD and held results up to its key are emitted. -/
  | seatHoldExpiry (n : Fin 128)
  /-- R100. A router grants an output port to a waiting header by priority and round robin. -/
  | routerGrant (c : Fin 256) (o : Fin 5)
  /-- R96. A token marked stale is discarded as soon as its header reaches the front of its buffer. -/
  | staleTokenDiscard (p : Place)
  /-- R264. FRAME_US after a frame opened, it closes with a Frame End. -/
  | frameTimeout (t : Fin 4) (vc : Fin 16)
  /-- R255. Every DESKEW_MS a transmit port sends a skew calibration sequence. -/
  | deskew (t : Fin 4)
  /-- R255. A transmit port with ULPS_IDLE and no frame open for 1 ms enters the ultra-low-power state. -/
  | ulpsEntry (t : Fin 4)
  /-- R265. A transmit port sends the next ready record packet, opening and closing frames. -/
  | recordSend (t : Fin 4)
  /-- R413. A plant input conversion ends and its result is delivered and buffered by mode. -/
  | conversionEnd (n : Fin 16) (nv : Int)
  /-- R415. An input crossing its threshold fires the comparator and starts an urgent conversion. -/
  | comparatorFire (n : Fin 16) (rising : Bool)
  /-- R415. An input that has fired its comparator moves HYST past the threshold in the opposite direction and the
  comparator re-arms. -/
  | comparatorRearm (n : Fin 16) (rising : Bool)
  /-- R423. A 200 ns deglitch hold ends and the output steps to the new code. -/
  | deglitchEnd (c : Fin 8)
  /-- R422. Issues a load strobe that makes pending output values present on all channels. -/
  | plantLoad
  /-- R422. A rising edge on DAC_LOAD with PAD_EN set issues a load strobe. -/
  | dacLoadEdge
  /-- R422. A timebase multiple of PERIOD_US issues a load strobe. -/
  | periodicStrobe
  /-- R426. Each 1.024 MHz tick advances the phase and updates a sine channel's code. -/
  | sineTick (c : Fin 8)
  /-- R427. DAC_CLEAR going high forces every output to its clear code; going low lets them take the next strobe. -/
  | dacClearEdge (high : Bool)
  /-- R427. Releases a latched module clear of the plant outputs once its cause has ended. -/
  | plantRelease
  /-- R429. An output departing from its code for 1 ms sets CH_FAULT and clears, or OPEN for an open loop. -/
  | channelSelfCheck (c : Fin 8) (r : SelfCheck)
  /-- R94. A unit receives a token and discards it for bad fields, stale epoch, unknown generation or link error. -/
  | tokenReceipt (p : Place) (e : LinkErr)
  /-- R74. A tile runs one atomic matrix–vector product through its row groups and emits a result token. -/
  | tileProduct (t : Fin 4096)
  /-- R332. A product not finished 2 µs after its first fetch is a TILE fault. -/
  | tileTimeout (t : Fin 4096)
  /-- R50. A vector unit executes an operator on a token, including input conversion of pixels. -/
  | vectorOp (c : Fin 256)
  /-- R106. A reduction point opens a free slot for an ACT token and sends its inputs to the group's tiles. -/
  | slotOpen (c : Fin 256)
  /-- R107. A partial is added into its reduction slot, delivering and freeing the slot when complete. -/
  | partialAccumulate (c : Fin 256)
  /-- R109. The STATE operator updates a stream's recurrent state in ascending batch order. -/
  | stateUpdate (c : Fin 256)
  /-- R328. A cluster DMA engine translates job addresses and moves a token between SRAM, units and router. -/
  | dmaTransfer (c : Fin 256) (a : DmaAccess)
  /-- R332. A vector-unit or DMA handshake open for 10 µs is a UNIT fault. -/
  | unitTimeout (c : Fin 256) (dma : Bool)
  /-- R145. A chiplet swaps its banks when no batch straddles and enters SETTLING. -/
  | meshSwap (k : Fin 4)
  /-- R145. SWAP_WAIT expires and the chiplet swaps regardless with SWAP_FORCED. -/
  | meshSwapForced (k : Fin 4)
  /-- R144. AGE_TRIG seconds since the last swap start a trim. -/
  | meshAgeTrigger (k : Fin 4)
  /-- R142. Every 100 µs firmware recomputes the ambient phase term and applies small changes to the bank in service.
  -/
  | ambientUpdate (k : Fin 4) (small : Bool)
  /-- R144. Starts a mesh trim if the chiplet is IN_SERVICE. -/
  | trimStart (k : Fin 4)
  /-- R142. Starts a heater-crosstalk rebuild on an UNUSED, IN_SERVICE or OUT_OF_SERVICE chiplet. -/
  | xtStart (k : Fin 4)
  /-- R148. A reference carrier below half power takes the chiplet out of service with LIGHT_LOSS. -/
  | referenceLoss (k : Fin 4)
  /-- R148. An open or shorted heater takes the chiplet out of service with HEATER_FAIL. -/
  | heaterFault (k : Fin 4)
  /-- R148. Settling not complete 60 µs after a swap takes the chiplet out of service. -/
  | settleLate (k : Fin 4)
  /-- R143. A pilot pass in an idle slot refreshes the residual estimate and may trigger a trim or take the chiplet
  out of service. -/
  | pilotPass (k : Fin 4) (resid : Fin 65536) (bad : Option (Fin 512))
  /-- R134. A mesh interface checks a MESH token and places its passes in the drive buffer. -/
  | meshToken (c : Fin 256)
  /-- R135. A chiplet launches a data pass on a sample-clock edge once its transfers are in the drive buffer. -/
  | passLaunch (k : Fin 4)
  /-- R135. A mesh interface emits an output token once all its passes are corrected. -/
  | meshOutputToken (k : Fin 4)
  /-- R205. A tile swaps correction banks at a batch boundary where no batch straddles. -/
  | tableSwap (t : Fin 4096)
  /-- R204. SWAP_WAIT expires and the tile swaps regardless with FORCED. -/
  | tableSwapForced (t : Fin 4096)
  /-- R245. The job's generation advances at the hub outside the cutting of any batch. -/
  | bell (j : Fin 16)
  /-- R110. A RESULT token reaches the hub's path-order stage. -/
  | resultArrival (e : LinkErr)
  /-- R110. The path-order stage emits a result in batch order when room exists, returning its tags. -/
  | pathOrderEmit (j : Fin 16) (p : Fin 8) (st : Fin 48)
  /-- R200. A tile runs one roll-call or read-back measurement slot between products. -/
  | calibrationSlot (t : Fin 4096)
  /-- R237. Write–verify of a tile begins when the quadrant has room under its limit and order. -/
  | writeVerifyStart (q : Fin 8)
  /-- R234. Write–verify of a tile ends and PGM_CNT, PROG_REF and PROG_ERR are recorded. -/
  | writeVerifyDone (t : Fin 4096) (m l : WriteMeas)
  /-- R247. A tile read-back ends, matching its digest or making the tile due or withdrawn. -/
  | readbackDone (t : Fin 4096) (high low : List CellRead)
  /-- R251. RB_PERIOD expires and the quadrant sequencers start reading back every tile. -/
  | periodicReadback
  /-- R200. A roll-call round is measured and its 64 standby tables built, acting on findings. -/
  | roundBuild (q : Fin 8) (only : Option (Fin 4096)) (fs : List TileFinding)
  /-- R202. AGE_TRIG seconds after the last run ends a calibration run starts. -/
  | calAgeTrigger (q : Fin 8)
  /-- R202. Triggers a calibration run of the quadrant. -/
  | runStart (q : Fin 8)
  /-- R211. A job moves to or back from a spare copy or vector-unit path at a batch boundary. -/
  | copyMove (t : Fin 4096)
  /-- R334. Firmware takes up a job fault, records it and begins the restart programme. -/
  | jobRestart (j : Fin 16)
  /-- R96. At least 100 µs after the last advance the job's epoch advances, returning tags and flushing path-order and
  seating. -/
  | epochAdvance (j : Fin 16)
  /-- R335. Remedies applied and state cleared, the job enters WARMING and awaits the next batch boundary. -/
  | restartComplete (j : Fin 16)
  /-- R332. A job's oldest tag held for WATCH_MS is a STALL fault. -/
  | stallWatchdog (j : Fin 16)
  /-- R190. A restart CTRL token from a peer module restarts the job of the same number. -/
  | peerRestart (j : Fin 16)
  /-- R332. The hub link of a half is lost, starting the HALF_FAIL interval that, with a lost sideband, fails the
  half. -/
  | hubLinkLoss (h : Fin 2)
  /-- R332. A half whose hub link and sideband are lost for HALF_FAIL is declared failed. -/
  | halfFailTimeout (h : Fin 2)
  /-- R44. Checks a job image against the admission conditions in order, reserves resources, programs weights and
  returns ADMITTED or a refusal code. -/
  | jobLoad (m : Fin 16) (sec : Section)
  /-- R40. Binds the job's streams, clears recurrent state and baselines, and moves a LOADED job to WARMING or
  RUNNING. -/
  | jobStart (m : Fin 16)
  /-- R35. Unbinds the job's streams, discards the batch being collected and returns the job to LOADED once dispatched
  batches have delivered their results. -/
  | jobStop (m : Fin 16)
  /-- R41. Releases a LOADED job's tiles, pages, tags and meshes and makes the job number EMPTY. -/
  | jobUnload (m : Fin 16)
  /-- R39. Selects the active operator path by grade, changing a mesh matrix when the new grade needs one. -/
  | jobGrade (m : Fin 16)
  /-- R311. Returns state, priority, generation, epoch, tags, restarts and weight set of a job. -/
  | jobStatus (m : Fin 16)
  /-- R311. Returns up to 56 bytes of the capability descriptor from the given offset. -/
  | capsGet (m : Fin 16)
  /-- R175. Firmware begins adding a circuit on a column. -/
  | circuitAdd (port : Option (Fin 8)) (b : Fin 16) (out : Bool) (w : Fin 8) (tx rx : Fin 16)
  /-- R175. Training completes and the circuit joins the striping map, or fails with TRAIN_FAIL. -/
  | circuitUp (k : Fin 4) (l : Fin 32) (ok : Bool)
  /-- R176. A circuit is dropped from the striping map and its rings are parked. -/
  | circuitRemove (k : Fin 4) (l : Fin 32)
  /-- R176. A removed circuit's rings are parked and its lanes and wavelength are free. -/
  | parkingDone (k : Fin 4) (l : Fin 32)
  /-- R178. Ingress loss, a ring fault or 16 uncorrectable codewords take a circuit DOWN and recover affected jobs. -/
  | circuitDown (k : Fin 4) (l : Fin 32) (lost : Bool)
  /-- R173. A codeword is received, corrected or counted uncorrectable, and its transfers delivered in order. -/
  | codewordReceived (k : Fin 4) (l : Fin 32) (errs : Fin 273) (inc : List Token)
  /-- R114. Every 10 µs firmware samples bridge queues and reassigns link wavelengths. -/
  | bridgeSample
  /-- R191. Enables an external port with a minimum circuit count and waits up to 10 ms for its circuits. -/
  | optExtSet (m : Fin 16)
  /-- R189. Routes a bridge to its waveguide or an external port when no admitted job names it. -/
  | optBridgeRoute (m : Fin 16)
  /-- R188. Sets the captain half unless an admitted job declares a reduced form. -/
  | optCaptainSet (m : Fin 16)
  /-- R127. Sets the primary feed and automatic move without a key, moving the selector to the primary if present and
  not in use. -/
  | optFeedSet (m : Fin 16)
  /-- R314. Returns ring, mesh, codeword, feed, half and loss state of a chiplet without clearing any field. -/
  | optStatus (m : Fin 16)
  /-- R185. Every 10 µs the hub sends a heartbeat on each half's sideband. -/
  | sidebandHeartbeat (h : Fin 2)
  /-- R185. Three missed heartbeats lose the sideband and a cut-off half may apply precedence itself. -/
  | sidebandLoss (h : Fin 2)
  /-- R183. SPLIT_CONFIRM without any bridge circuit declares the halves split and applies captain precedence. -/
  | halfSplit (peer : Option (Fin 8))
  /-- R187. A bridge UP both ways for RETURN_STABLE ends the split and restarts spanning jobs on their full form. -/
  | splitEnd (peer : Option (Fin 8))
  /-- R137. Firmware finishes computing heater settings of a matrix or trim into the standby bank. -/
  | matrixComputeDone (k : Fin 4) (ok : Bool)
  /-- R139. Settling ends and the first pilot estimate brings the chiplet IN_SERVICE or starts a trim. -/
  | meshSettleDone (k : Fin 4) (resid : Fin 65536)
  /-- R150. A crosstalk rebuild ends with its pilot check, moving an out-of-service chiplet to UNUSED or CHANGING or
  keeping it failed. -/
  | xtalkRebuildDone (k : Fin 4) (ok : Bool) (resid : Fin 65536)
  /-- R150. The cause of a chiplet's OUT_OF_SERVICE clears and a crosstalk rebuild starts. -/
  | oosCleared (k : Fin 4)
  /-- R148. The optical sample clock unlocked for 100 µs takes the chiplet out of service. -/
  | optClockTimeout (k : Fin 4)
  /-- R127. The feed in use reads below the loss threshold for 2 µs, recovering mesh jobs and moving the selector if
  allowed. -/
  | feedLoss (f : Fin 2)
  /-- R446. A feed reads above the presence level for 1 ms, moving the selector if the feed in use is lost. -/
  | feedPresent (f : Fin 2)
  /-- R127. The selector completes a move and FEED_SW_CNT advances. -/
  | feedMoveDone
  /-- R160. Ring search begins on all chiplets once the feed is present and the sample clock locked. -/
  | ringSearchStart
  /-- R161. A ring's heater sweep ends and it is locked or parked by its peaks, or fails. -/
  | ringSweepDone (k : Fin 4) (ring : Fin 1584) (pk : List Nat)
  /-- R160. Phase 5 ends with every ring locked or parked and the crosstalk rebuild starts. -/
  | ringSearchDone (k : Fin 4)
  /-- R165. A 1 ms tone window ends and the checked rings are confirmed or found on the wrong wavelength. -/
  | toneWindow (k : Fin 4) (ts : List ToneRead)
  /-- R164. A ring's monitor reads dark and its loop freezes the heater code. -/
  | ringDark (k : Fin 4) (ring : Fin 1584)
  /-- R164. Light returns within 10 ms and the loop resumes from the frozen code. -/
  | ringLightReturn (k : Fin 4) (ring : Fin 1584)
  /-- R164. After 10 ms dark every frozen ring of the chiplet is re-searched. -/
  | ringDarkTimeout (k : Fin 4)
  /-- R167. A partial re-search of a ring ends and is confirmed. -/
  | partialResearchDone (k : Fin 4) (ring : Fin 1584) (pk : List Nat) (tone : ToneRead)
  /-- R181. Every 1 µs optical monitors are read and losses located. -/
  | monitorSample (rs : List MonRead)
  /-- R272. Sets an arm for a job image, calibration snapshot or firmware image on a receive port. -/
  | streamBulkArm (m : Fin 16)
  /-- R272. Clears an arm of purpose 1 to 4 while no frame is in progress on it. -/
  | streamBulkDisarm (m : Fin 16)
  /-- R274. A bulk frame on virtual channel 15 is taken whole into staging and ends with a bulk outcome record. -/
  | bulkFrame (p : Fin 12) (pkts : List (List Byte × Bool)) (trunc : Bool)
  /-- R232. A shard finishes writing to the golden store and frees its bulk-region space. -/
  | shardWritten (n : Fin 8) (no : Fin 65536)
  /-- R231. Takes a FREE golden-store slot and a module index and arms a bulk frame for the manifest. -/
  | wsetBegin (m : Fin 16)
  /-- R233. Moves a RECEIVING slot to HELD when every shard for this module is present. -/
  | wsetCommit (m : Fin 16)
  /-- R229. Starts erasing a slot that no job or staging uses. -/
  | wsetDelete (m : Fin 16)
  /-- R229. A slot finishes erasing and becomes FREE. -/
  | eraseDone (n : Fin 8)
  /-- R312. Returns state, module index, users, identifier and size of up to four slots. -/
  | wsetList (m : Fin 16)
  /-- R242. Checks the shape of a held set against a job's current set and begins building copies of its changed
  shards. -/
  | wsetStage (m : Fin 16)
  /-- R245. Rings the bell of a READY staging at once, or marks it to ring at READY. -/
  | wsetRing (m : Fin 16)
  /-- R250. Abandons a staging before the bell and releases its copies. -/
  | wsetAbort (m : Fin 16)
  /-- R312. Returns the job's weight-set register and the copies still being written. -/
  | wsetStatus (m : Fin 16)
  /-- R202. Triggers a calibration run on each quadrant named, or starts the first sweep in COLD form. -/
  | calRun (m : Fin 16)
  /-- R213. Sets the refresh threshold within its range unless it would exceed an admitted job's requirement. -/
  | calThreshSet (m : Fin 16)
  /-- R217. Writes a calibration snapshot and sends it as a multi-part status record on the named port. -/
  | calSave (m : Fin 16)
  /-- R219. Checks a received snapshot, writes its values into standby banks and starts the first sweep in WARM form.
  -/
  | calRestore (m : Fin 16)
  /-- R313. Returns threshold, homework state and the run registers of two quadrants. -/
  | calStatus (m : Fin 16)
  /-- R214. 1 s after firmware enters service the first sweep starts in COLD form. -/
  | firstSweepTimer
  /-- R215. The first sweep ends, tables are swapped in and waiting JOB_LOADs proceed. -/
  | firstSweepDone (fs : List TileFinding)
  /-- R399. Begins a store of the array into the shadow bank after the hold-up energy check. -/
  | nvStore (m : Fin 16)
  /-- R406. Reads or increments a non-volatile counter in one cell write. -/
  | nvCount (m : Fin 16)
  /-- R405. Sets the protection level of the array and writes it to the protect line. -/
  | nvProtect (m : Fin 16)
  /-- R399. A store writes its commit record, and after a power fail the hub's rails are switched off. -/
  | nvStoreEnd
  /-- R364. No crystal edge in 16 RC cycles trips the referee, coasting every loop and switching to RC/4. -/
  | crystalStop
  /-- R360. No RC edge in 8 crystal cycles restarts the RC oscillator. -/
  | rcStop
  /-- R366. The RC oscillator becomes ready, making a deferred switch or leaving the clock-fault state. -/
  | rcReady
  /-- R360. A 100 µs ratio window ends and the crystal is judged. -/
  | ratioWindow (count : Nat)
  /-- R363. At 1.5 ms without a good crystal the loops lock on RC/4. -/
  | startDeadline
  /-- R365. A clock multiplexer completes, forces or abandons a switch. -/
  | muxSwitchDone (obs : Bool)
  /-- R361. A multiplying loop achieves lock and its coast ends. -/
  | loopLocked (l : Fin 8)
  /-- R362. A loop loses lock and coasts alone. -/
  | lockLoss (l : Fin 8)
  /-- R366. RC/4 not ready 2 ms after a trip enters the clock-fault state. -/
  | clockFaultEntry
  /-- R367. Returns the reference to the crystal when it is judged good. -/
  | clkCfgReturn
  /-- R346. Release of reset starts clocks, store recovery, boot ROM self-test, fuse reading and bank checks. -/
  | powerOnReset (selfTestOk : Bool)
  /-- R345. The check of a firmware bank ends, passing to the fence and fuse step or to the next bank. -/
  | bankCheckDone (found : Option FwImage)
  /-- R346. Firmware scans the golden store, loads occupancy records and enters service. -/
  | bootDone
  /-- R350. An access on the locked debug port other than boundary scan is refused with DEBUG_ATTEMPT. -/
  | debugAccess (boundaryScan : Bool)
  /-- R353. Writes the identity record with public key and certificate to staging. -/
  | secIdGet (m : Fin 16)
  /-- R354. Writes a signed attestation report of the firmware state with the given nonce. -/
  | secAttest (m : Fin 16)
  /-- R325. Verifies a firmware image, writes it to the bank not in service and replaces firmware by planned takeover.
  -/
  | secFwLoad (m : Fin 16) (writeOk : Bool)
  /-- R319. The active supervisor sends a numbered journal record that the substitute applies and acknowledges. -/
  | journalRecord (acked : Bool)
  /-- R320. Every 20 µs the active supervisor sends a rally and the substitute answers. -/
  | rally (answered : Bool)
  /-- R321. A missed or failing rally moves ACTIVE to the substitute, which begins takeover. -/
  | rallyMissed (fault : Bool)
  /-- R321. The new active supervisor has applied the journal and resumes periodic duties. -/
  | takeoverDone
  /-- R321. A booted substitute finishes catching up and becomes FOLLOWING. -/
  | substFollowing
  /-- R323. The substitute misses its answers for 100 µs and is reset and rebooted. -/
  | substLost (fault : Bool)
  /-- R324. No rally for 2 ms halts dispatch, clears outputs and reboots both supervisors. -/
  | supervisionLost (selfTestOk : Bool)
  /-- R325. The substitute on new firmware takes over at a rally and SEC_FW_LOAD completes. -/
  | plannedTakeover
  /-- R325. A new image not following within 4 s reboots the substitute on the old image. -/
  | fwCatchupTimeout
  /-- R316. Returns the request bytes unchanged. -/
  | diagPing (m : Fin 16)
  /-- R294. Moves the module between SERVICE and TEST states. -/
  | diagMode (m : Fin 16)
  /-- R332. Injects a fault of a given class into a WARMING or RUNNING job in TEST state. -/
  | diagFault (m : Fin 16)
  /-- R374. A 48 V input in range for 10 ms becomes valid, releasing reset after a power fail. -/
  | inputValid (backup : Bool)
  /-- R375. A 48 V input out of range for 10 µs is lost, switching to BACKUP or starting the power-fail sequence. -/
  | inputLost (backup : Bool)
  /-- R376. MAIN valid for RET_MS returns the module from BACKUP. -/
  | mainReturn
  /-- R376. Returns the power input to MAIN, make before break, if MAIN is valid. -/
  | pwrCfgReturn
  /-- R378. 200 µs without an input halts dispatch, clears outputs, flushes markers and starts the power-fail store.
  -/
  | powerFailConfirm
  /-- R378. At 210 µs both halves and all chiplets are switched off. -/
  | powerFailSwitchOff
  /-- R377. Every 10 µs the usable hold-up energy is measured. -/
  | holdupSample (energy mainV mainI backV backI : Nat)
  /-- R380. A quadrant rail out of regulation for 20 µs switches off its half and recovers its jobs. -/
  | halfSupplyFail (h : Fin 2)
  /-- R380. A chiplet rail out of regulation for 20 µs switches off that chiplet. -/
  | chipletRailFail (k : Fin 4)
  /-- R389. At 2,000 µs of an orderly stop the plant fault is signalled and markers are flushed. -/
  | orderlyStopFault
  /-- R389. At 2,200 µs of an orderly stop the halves and chiplets are switched off. -/
  | orderlyStopOff
  /-- R391. Tmax at or below T_RESUME for 100 ms with AUTO_RESUME set leaves STOPPED. -/
  | autoResume
  /-- R391. Leaves STOPPED and switches the halves on when Tmax is at or below T_RESUME. -/
  | resume
  /-- R381. The power state START ends and the halves and chiplets are switched on to ACTIVE, or stay off in STOPPED
  if Tmax is at or above 110 °C. -/
  | endOfStart
  /-- R386. Every 100 µs the throttle level is lowered or raised by one. -/
  | throttleEval (power compI : Nat)
  /-- R382. Every 10 µs all sensors are read, driving exclusion, feed-forward, calibration and trim triggers and
  thermal stops. -/
  | sensorRead (temps : List Int)
  /-- R288. Enables in-band interrupts or hot-join and raises a pending IBI at once. -/
  | enec (int hj accepted : Bool)
  /-- R288. Disables in-band interrupts or hot-join. -/
  | disec (int hj : Bool)
  /-- R288. Resets the dynamic address as the I3C standard lays down. -/
  | rstdaa
  /-- R293. Takes part in dynamic address assignment at any time. -/
  | entdaa (addr : Fin 128)
  /-- R288. Assigns a dynamic address from the static address. -/
  | setdasa (static_ addr : Fin 128)
  /-- R288. Changes the dynamic address. -/
  | setnewda (addr : Fin 128)
  /-- R287. Sets the maximum write length within 7 to 1,027 bytes. -/
  | setmwl (n : Fin 65536)
  /-- R287. Returns the maximum write length. -/
  | getmwl
  /-- R287. Sets the maximum read length within 4 to 1,024 bytes. -/
  | setmrl (n : Fin 65536)
  /-- R287. Returns the maximum read length. -/
  | getmrl
  /-- R287. Returns the provisional ID. -/
  | getpid
  /-- R287. Returns the bus characteristics register. -/
  | getbcr
  /-- R287. Returns the device characteristics register. -/
  | getdcr
  /-- R288. Returns IBI pending, protocol error and module state. -/
  | getstatus
  /-- R288. Reports HDR-DDR as the only HDR mode. -/
  | getcaps
  /-- R291. Enters HDR-DDR mode. -/
  | enthdr0
  /-- R288. Accepted without effect. -/
  | entas0
  /-- R288. Accepted without effect. -/
  | entas1
  /-- R288. Accepted without effect. -/
  | entas2
  /-- R288. Accepted without effect. -/
  | entas3
  /-- R278. Handles synchronous-mode timing control; each Sync Tick is a timebase discipline event. -/
  | setxtime (sub : XTimeSub) (phase : Fin 4)
  /-- R278. Reports synchronous mode only. -/
  | getxtime
  /-- R288. Resets the I3C target logic and dynamic address, and in TEST state with action 0x02 the module. -/
  | rstact (action : Fin 256) (selfTestOk : Bool)
  /-- R290. Sets the register pointer from three address bytes and writes the following words. -/
  | privateWrite (bytes : List Byte)
  /-- R290. Returns register words from the pointer and advances it. -/
  | privateRead (n : Nat)
  /-- R291. Carries a write in the private-write form under command code 0x20. -/
  | hdrDdrWrite (code : Fin 256) (bytes : List Byte)
  /-- R291. Reads from the pointer under command code 0xA0. -/
  | hdrDdrRead (code : Fin 256) (n : Nat)
  /-- R289. Legacy I2C transfers are ignored without acknowledging or driving the bus. -/
  | legacyI2cTraffic
  /-- R292. Raises an IBI reporting mailbox completions and event summary once IBI_HOLD has passed since the last one.
  -/
  | inBandInterrupt (accepted : Bool)
  /-- R292. Requests a refused IBI again at the next bus idle. -/
  | ibiRetry (accepted : Bool)
  /-- R293. Requests hot-join once the target logic runs without a dynamic address. -/
  | hotJoin (accepted : Bool)
  /-- R11. Writes a register word that has no row of its own, by its access types, buffering and reserved-bit rules.
  -/
  | registerWrite (key : Nat) (v : Word)
  /-- R295. Samples an rs or rc status word and clears its fields in one step as the module state allows. -/
  | statusWordRead (key : Nat)
  /-- R11. Writes back a sequence number to clear the reported rs fields in start-up, test and recovery states. -/
  | statusWriteBack (key : Nat) (n : Fin 256)
  /-- R298. A read of the low word of a direct 64-bit value latches its high word into a shadow. -/
  | wideValueRead (key : Nat)
  /-- R297. Opens the key for the next register write when the key value is written, otherwise closes it. -/
  | keyUnlock (v : Word)
  /-- R299. Sets domain and offset of the indirect window and starts a fetch. -/
  | indAddrWrite (v : Word)
  /-- R299. Returns the fetched indirect word and with AINC advances and starts the next fetch. -/
  | indDataRead
  /-- R299. Posts a write through the indirect window and with AINC advances the offset. -/
  | indDataWrite (v : Word)
  /-- R299. A fetch or posted indirect write completes, or fails with ERR and IND_ERR. -/
  | indAccessDone
  /-- R302. Reads one bit of a selected register, clearing that bit alone if rs or rc. -/
  | aliasRead (k : Fin 128) (b : Fin 32)
  /-- R302. Writes one bit of a selected register by its access type. -/
  | aliasWrite (k : Fin 128) (b : Fin 32) (v : Word)
  /-- R306. Writes a request word of an IDLE mailbox, or is ignored with MBX_ERR. -/
  | mbxReqWrite (m w : Fin 16) (v : Word)
  /-- R306. RING moves an IDLE mailbox to QUEUED for its command family. -/
  | mbxRing (m : Fin 16)
  /-- R306. RELEASE returns a DONE mailbox to IDLE. -/
  | mbxRelease (m : Fin 16)
  /-- R127. A write of FEED_CFG that takes effect moves the selector to the primary feed if present and not in use. -/
  | feedCfgWrite (v : Word)
  /-- R188. A CAPTAIN write is ignored with CAPTAIN_REJ while any admitted job declares a reduced form. -/
  | halfCfgWrite (v : Word)
  /-- R189. Reroutes a bridge and rebuilds its circuits when no admitted job names it. -/
  | bridgeCfgWrite (b : Fin 16) (v : Word)
  /-- R260. Buffers a stream configuration to the next Frame Start, or is ignored with CFG_REJ while a job is bound.
  -/
  | streamCfgWrite (st : Fin 48) (v : Word)
  /-- R266. Maps an output stream, or is ignored with CFG_REJ while its job runs. -/
  | outMapWrite (n : Fin 128) (v : Word)
  /-- R370. Gates or enables blocks, ignoring gating of a block in use with GATE_REJ. -/
  | clkEnWrite (v : Word)
  /-- R277. Selects the discipline source, moving the discipline to ACQUIRING or FREE. -/
  | tbCfgWrite (v : Word)
  /-- R286. Makes a held TB_SYNC_LO and the new high word take effect together. -/
  | tbSyncHiWrite (v : Word)
  /-- R154. Reads or writes an entry of a chiplet's standby table area and advances the index with AINC. -/
  | meshTblDataAccess (k : Fin 4) (w : Option Word)
  /-- R224. Reads or writes a tile correction-table entry of the standby bank and advances the index with AINC. -/
  | tcalDataAccess (t : Fin 4096) (w : Option Word)
  /-- R193. Reads the state of a ring and advances the index with AINC. -/
  | ringDataAccess (k : Fin 4) (w : Option Word)
  /-- R395. Reads a temperature sensor and advances the index with AINC. -/
  | tempDataAccess (w : Option Word)
  /-- R343. Reads a job page-table entry and advances the index with AINC. -/
  | ptDataRead
  /-- R410. Reads a shadow-array word and advances the offset with AINC. -/
  | nvRawDataRead
  /-- R426. Reads or writes a sine table entry, taking effect at once, and advances the index with AINC. -/
  | sineTblDataAccess (w : Option Word)
  /-- R405. Writes an array word at once unless protected, when it is ignored with PROT_WR. -/
  | nvArrayWrite (w : Fin 65536) (v : Word)
  deriving DecidableEq, Repr

end Sys2Proof
end

