-- ==== Sys2Proof/Config.lean ====
section
/-! DEFINITION. Config.lean: the values the spec leaves open. Each is a constant without a body: nothing in Lean can
evaluate it, and a statement that mentions one holds whatever its values are. Where a value may differ at every draw, its
first argument is the place of the draw (`freeIx` of the state, log 73). -/

namespace Sys2Proof

open Sys2Proof.Machine

/-- The proportional and integral law of R276, whose gains are not given: place, error in ns, present RATE in 0.01 ppm (log 66). -/
opaque Config.rateLaw : Nat → Int → Int → Int

/-- The error of one column conversion of a tile in raw units, before it is quantised (R60, R80: the analogue terms are
typical values, R49: not reproducible): place, logical column (272 and above: chalk columns), first row and rows of the
sub-group (log 61). -/
opaque Config.tileErr : Nat → Nat → Nat → Nat → Int

/-- The results of per-batch NORM over a batch whose variance is zero, which the spec does not give (R37, R50): operator, scale,
operands, index of the result. The result is the bits of a binary16 value; it depends on its operands only (log 63). -/
opaque Config.vectorFn : OperKind → Half16 → List Int → Nat → Int

/-- The sign and fraction of a NaN result, which IEEE 754 leaves open (R9): the fraction bits of the format (log 158). -/
opaque Config.nanBits : Nat → Nat

/-- What a NaN becomes that is delivered to an integer of some bits (R50 gives saturation only; log 159). -/
opaque Config.nanInt : Nat → Int

/-- The maximum of a POOL group that holds a NaN, as the bits of a binary16 value (R37; log 160): the elements of the group. -/
opaque Config.poolNan : List Int → Int

/-- Threshold and connected-region labelling of a score map (R37; the connectivity and the threshold are the image's):
operator's scale and bias, positions per line, scores (log 64). -/
opaque Config.labelRegions : Half16 → Half16 → Nat → List Int → List Region

/-- The gated recurrent update of STATE (R37, R109): operator's scale and bias, present state, input (log 62). -/
opaque Config.gatedUpdate : Half16 → Half16 → List Int → List Int → List Int

/-- The ECC of a packet header, generated at the transmit ports by MIPI CSI-2 (R255; the spec does not repeat that standard's code): data type, virtual
channel, word count (log 177). -/
opaque Config.headerEcc : Nat → Nat → Nat → BitVec 6

/-- The payload CRC generated at the transmit ports by MIPI CSI-2 (R255): the payload (log 177). -/
opaque Config.payloadCrc : List Byte → BitVec 16

/-- The code of one output of a mesh pass (R131: its ideal value follows from a factoring whose numerical course the spec does not
fix, and the analogue terms are typical values): place, wavelength, output, drive codes of the 64 inputs (log 65). -/
opaque Config.meshCode : Nat → Nat → Nat → List Nat → Int

/-- The power of one heater that a computation of R137, R142 or R144 finds, in steps of 15.3 nW: place, heater (log 67). -/
opaque Config.heaterPower : Nat → Nat → Nat

/-- The word of one receive-table entry measured by a computation of R137: place, entry (log 67). -/
opaque Config.receiveEntry : Nat → Nat → Word

/-- One entry of a heater-crosstalk matrix as CAL_SAVE lays it out (R142, R218): place, row, entry of the row (log 67). -/
opaque Config.xtalkEntry : Nat → Nat → Nat → Word

/-- One measured entry of the table a roll call builds (R200, R224): place, tile, entry (log 68). -/
opaque Config.rollCall : Nat → Nat → Nat → Word

/-- The read noise of a tile in units of 1/256 count per conversion (R200, step 6): place, tile (log 68). -/
opaque Config.rollNoise : Nat → Nat → Nat

/-- Where in its range CAL_SAVE writes the snapshot into staging memory (R217 names no address; log 97). -/
opaque Config.snapshotPlace : Nat

/-- The character of the module's serial number at a position, as marked on the lid: an upper-case letter or a digit (R3, R54;
log 70). -/
opaque Config.serialChar : Nat → Fin 36

/-- The byte of a character of the serial number: the digits, then the upper-case letters (R3). -/
def Config.serial (i : Nat) : Byte :=
  let c := (Config.serialChar i).val
  BitVec.ofNat 8 (if c < 10 then 0x30 + c else 0x41 + (c - 10))

/-- The module is a KT640-E rather than a KT640-A (R54; log 70). -/
opaque Config.orderE : Bool

/-- The weight of a sensor in the estimated temperature of a ring (R168: measured per ring at manufacture): chiplet, ring, sensor of the
chiplet (log 69). -/
opaque Config.ringWeight : Nat → Nat → Nat → Rat

/-- KEY_HASH in the fuses (R345; log 70). -/
opaque Config.keyHash : List Byte

/-- The Falcon-1024 signature verifies (R345): public key, digest, signature (log 71). -/
opaque Config.falconVerifies : List Byte → List Byte → List Byte → Bool

/-- One byte of a Falcon-1024 signature by the module's identity key (R354): place, digest, position (log 71). -/
opaque Config.identitySign : Nat → List Byte → Nat → Byte

/-- One byte of the identity public key (R353; log 70). -/
opaque Config.identityKey : Nat → Byte

/-- One byte of the certificate of the identity key (R353; log 70). -/
opaque Config.identityCert : Nat → Byte

/-- The two-digit year of the date code of the lid (R3, R353; log 70). -/
opaque Config.dateYear : Fin 100

/-- The week of the date code of the lid, less 1: a year has at most 53 (R3, R353; log 70). -/
opaque Config.dateWeek : Fin 53

/-- The byte of a character of the date code: two digits of the year, two of the week (R3). -/
def Config.dateCode (i : Nat) : Byte :=
  let n := 100 * Config.dateYear.val + (Config.dateWeek.val + 1)
  BitVec.ofNat 8 (0x30 + n / 10 ^ (3 - i) % 10)

/-- The key engine passes its self-test (SIGNER_OK of R358; log 70). -/
opaque Config.signerOk : Bool

/-- The levels of the pads I3C_ID_3 to I3C_ID_0, as a number of which the low four bits count (R287, R440; log 70). -/
opaque Config.i3cPads : Nat

/-- One byte of an answer to a common command code that the spec leaves to the I3C standard (R288): command, position (log 72). -/
opaque Config.cccByte : Nat → Nat → Byte

end Sys2Proof
end

