-- ==== Sys2Proof/Machine/Sparse.lean ====
section
/-! DEFINITION. Machine/Sparse.lean: the sparse maps that hold registers, byte memories and records. A map lists only the
keys whose value differs from what an unlisted key reads as, in strictly rising order of key, so that equal contents are
equal data. -/

namespace Sys2Proof.Machine

/-- A sparse map from keys to values. -/
abbrev Sparse (α : Type) := List (Nat × α)

/-- The value at key `k`; an unlisted key reads as `d k`. -/
def spGet {α : Type} (d : Nat → α) (m : Sparse α) (k : Nat) : α :=
  match m with
  | [] => d k
  | (k', v) :: rest => if k = k' then v else spGet d rest k

/-- Removes every entry of key `k`. -/
def spErase {α : Type} (m : Sparse α) (k : Nat) : Sparse α :=
  match m with
  | [] => []
  | (k', v) :: rest => if k = k' then spErase rest k else (k', v) :: spErase rest k

/-- Lists the value `v` at key `k`, in its place. -/
def spInsert {α : Type} (m : Sparse α) (k : Nat) (v : α) : Sparse α :=
  match m with
  | [] => [(k, v)]
  | (k', v') :: rest =>
    if k = k' then (k, v) :: rest else if k < k' then (k, v) :: (k', v') :: rest else (k', v') :: spInsert rest k v

/-- Writes `v` at key `k`; writing what an unlisted key reads as removes the entry. -/
def spSet {α : Type} [DecidableEq α] (d : Nat → α) (m : Sparse α) (k : Nat) (v : α) : Sparse α :=
  if v = d k then spErase m k else spInsert m k v

/-- The keys rise strictly, every one above `lo`, and no entry equals what an unlisted key reads as. -/
def spWfFrom {α : Type} [DecidableEq α] (d : Nat → α) (lo : Option Nat) (m : Sparse α) : Bool :=
  match m with
  | [] => true
  | (k, v) :: rest => (lo.all fun l => decide (l < k)) && !decide (v = d k) && spWfFrom d (some k) rest

/-- The canonical form of a sparse map. -/
def spWf {α : Type} [DecidableEq α] (d : Nat → α) (m : Sparse α) : Bool := spWfFrom d none m

/-- Writes the values of `vs` at `k`, `k + step`, and so on. -/
def spSetList {α : Type} [DecidableEq α] (d : Nat → α) (m : Sparse α) (k step : Nat) (vs : List α) : Sparse α :=
  match vs with
  | [] => m
  | v :: rest => spSetList d (spSet d m k v) (k + step) step rest

/-- The `n` values at `k`, `k + step`, and so on. -/
def spGetList {α : Type} (d : Nat → α) (m : Sparse α) (k step n : Nat) : List α :=
  match n with
  | 0 => []
  | n + 1 => spGet d m k :: spGetList d m (k + step) step n

end Sys2Proof.Machine
end

