-- ==== Sys2Proof/Machine/RegMap.lean ====
section
/-! DEFINITION. Machine/RegMap.lean: the register map. One row per register table of the spec: base address, repetition,
and every field with its bits, access type and reset (R83, R84 to R88, R120 to R124, R151 to R156, R192 to R196, R220 to
R223, R252 to R254, R285, R286, R303 to R305, R340 to R343, R357, R358, R372, R373, R394, R395, R409, R410, R431 to R434).
A register's key is its byte address in the direct space, or 0x0400_0000 plus its offset in the west half's indirect
space, or 0x0800_0000 plus its offset in the east half's. -/

namespace Sys2Proof.Machine

/-- The access types of R11. -/
inductive Acc where
  | rw | ro | rc | rs | wk | wo
  deriving DecidableEq, Repr

/-- The boundary at which a buffered register's write takes effect (R300); `none` for a register that is not buffered. -/
inductive Boundary where
  | none | batch | swap | seat | frame | conversion | strobe
  deriving DecidableEq, Repr

/-- One field of a register table: lowest bit, width, access type, reset value, and whether the table marks it reserved. -/
structure FieldSpec where
  lo : Nat
  w : Nat
  acc : Acc
  reset : Nat
  rsvd : Bool
  deriving DecidableEq, Repr

/-- One register table: the key of the first register, `per` (the number of outer indices in one half, 0 in the direct
space), and the counts and strides of the outer and the inner index. -/
structure RegSpec where
  name : String
  base : Nat
  per : Nat
  n1 : Nat
  s1 : Nat
  n2 : Nat
  s2 : Nat
  bnd : Boundary
  fields : List FieldSpec
  deriving DecidableEq, Repr

/-- A named field of a register table, as the meanings read and write it. -/
structure Fld where
  base : Nat
  per : Nat
  n1 : Nat
  s1 : Nat
  n2 : Nat
  s2 : Nat
  lo : Nat
  w : Nat
  deriving DecidableEq, Repr

/-- The distance between the keys of the two halves' indirect spaces. -/
abbrev halfStep : Nat := 0x0400_0000

/-- The key of the register that holds field `f` at outer index `i` and inner index `j`, each below the number of the table's registers
(an index is taken modulo that number, so that no key lies outside its table). -/
def Fld.key (f : Fld) (i j : Nat) : Nat :=
  f.base + halfStep * (i % f.n1 / f.per) + f.s1 * (i % f.n1 % f.per) + f.s2 * (j % f.n2)

/-- The register tables of the system block. -/
def regsSystem : List RegSpec := [
  ⟨"SYS_ID", 0x0, 0, 1, 0x0, 1, 0, .none,
    [⟨0, 16, .ro, 0x640, false⟩, ⟨16, 8, .ro, 0xb2, false⟩, ⟨24, 8, .ro, 0, true⟩]⟩,
  ⟨"SYS_STAT", 0x4, 0, 1, 0x0, 1, 0, .none,
    [⟨0, 2, .ro, 0, false⟩, ⟨2, 1, .ro, 0, false⟩, ⟨3, 1, .ro, 0, false⟩, ⟨4, 4, .ro, 0, false⟩, ⟨8, 24, .ro, 0, true⟩]⟩,
  ⟨"SYS_EVT", 0x8, 0, 1, 0x0, 1, 0, .none,
    [⟨0, 8, .ro, 0, false⟩, ⟨8, 1, .rs, 0, false⟩, ⟨9, 1, .rs, 0, false⟩, ⟨10, 1, .rs, 0, false⟩, ⟨11, 1, .rs, 0, false⟩, ⟨12, 1, .rs, 0, false⟩, ⟨13, 1, .rs, 0, false⟩, ⟨14, 1, .rs, 0, false⟩, ⟨15, 1, .rs, 0, false⟩, ⟨16, 1, .rs, 0, false⟩, ⟨17, 1, .rs, 0, false⟩, ⟨18, 14, .ro, 0, true⟩]⟩,
  ⟨"SYS_CTL", 0xc, 0, 1, 0x0, 1, 0, .none,
    [⟨0, 8, .rw, 0x14, false⟩, ⟨8, 24, .rw, 0, true⟩]⟩,
  ⟨"KEY_UNLOCK", 0x10, 0, 1, 0x0, 1, 0, .none,
    [⟨0, 32, .wo, 0, false⟩]⟩,
  ⟨"EVT_SUM", 0x14, 0, 1, 0x0, 1, 0, .none,
    [⟨0, 25, .ro, 0, false⟩, ⟨25, 7, .ro, 0, true⟩]⟩,
  ⟨"EVT_MASK", 0x18, 0, 1, 0x0, 1, 0, .none,
    [⟨0, 25, .rw, 0x1ffffff, false⟩, ⟨25, 7, .rw, 0, true⟩]⟩,
  ⟨"IND_ADDR", 0x20, 0, 1, 0x0, 1, 0, .none,
    [⟨0, 26, .rw, 0, false⟩, ⟨26, 4, .rw, 0, false⟩, ⟨30, 1, .rw, 0, false⟩, ⟨31, 1, .rw, 0, true⟩]⟩,
  ⟨"IND_DATA", 0x24, 0, 1, 0x0, 1, 0, .none,
    [⟨0, 32, .rw, 0, false⟩]⟩,
  ⟨"IND_STAT", 0x28, 0, 1, 0x0, 1, 0, .none,
    [⟨0, 1, .ro, 0, false⟩, ⟨1, 1, .rc, 0, false⟩, ⟨2, 30, .ro, 0, true⟩]⟩]

/-- The register tables of the mailbox block. -/
def regsMailbox : List RegSpec := [
  ⟨"MBX_REQ", 0x10000, 0, 16, 0x80, 16, 4, .none,
    [⟨0, 32, .rw, 0, false⟩]⟩,
  ⟨"MBX_RSP", 0x10040, 0, 16, 0x80, 16, 4, .none,
    [⟨0, 32, .ro, 0, false⟩]⟩,
  ⟨"MBX_DOOR", 0x10800, 0, 16, 0x4, 1, 0, .none,
    [⟨0, 2, .wo, 0, false⟩, ⟨2, 30, .wo, 0, true⟩]⟩,
  ⟨"MBX_STAT", 0x10840, 0, 16, 0x4, 1, 0, .none,
    [⟨0, 2, .ro, 0, false⟩, ⟨2, 14, .ro, 0, true⟩, ⟨16, 16, .ro, 0, false⟩]⟩,
  ⟨"MBX_BUSY", 0x10880, 0, 1, 0x0, 1, 0, .none,
    [⟨0, 16, .ro, 0, false⟩, ⟨16, 16, .ro, 0, true⟩]⟩,
  ⟨"MBX_DONE", 0x10884, 0, 1, 0x0, 1, 0, .none,
    [⟨0, 16, .ro, 0, false⟩, ⟨16, 16, .ro, 0, true⟩]⟩]

/-- The register tables of the supervision block. -/
def regsSupervision : List RegSpec := [
  ⟨"SUP_STAT", 0x20000, 0, 1, 0x0, 1, 0, .none,
    [⟨0, 1, .ro, 0, false⟩, ⟨1, 2, .ro, 0, false⟩, ⟨3, 1, .ro, 0, false⟩, ⟨4, 4, .ro, 0, true⟩, ⟨8, 8, .ro, 0, false⟩, ⟨16, 16, .ro, 0, true⟩]⟩,
  ⟨"SUP_EVT", 0x20004, 0, 1, 0x0, 1, 0, .none,
    [⟨0, 8, .ro, 0, false⟩, ⟨8, 1, .rs, 0, false⟩, ⟨9, 1, .rs, 0, false⟩, ⟨10, 1, .rs, 0, false⟩, ⟨11, 1, .rs, 0, false⟩, ⟨12, 1, .rs, 0, false⟩, ⟨13, 1, .rs, 0, false⟩, ⟨14, 1, .rs, 0, false⟩, ⟨15, 1, .rs, 0, false⟩, ⟨16, 1, .rs, 0, false⟩, ⟨17, 1, .rs, 0, false⟩, ⟨18, 14, .ro, 0, true⟩]⟩,
  ⟨"SUP_CFG", 0x20008, 0, 1, 0x0, 1, 0, .none,
    [⟨0, 16, .rw, 0x32, false⟩, ⟨16, 8, .rw, 0xa, false⟩, ⟨24, 8, .rw, 0, true⟩]⟩,
  ⟨"TAKEOVER_CNT", 0x2000c, 0, 1, 0x0, 1, 0, .none,
    [⟨0, 32, .ro, 0, false⟩]⟩,
  ⟨"FW_VER_ACT", 0x20010, 0, 1, 0x0, 1, 0, .none,
    [⟨0, 32, .ro, 0, false⟩]⟩,
  ⟨"FW_VER_SUB", 0x20014, 0, 1, 0x0, 1, 0, .none,
    [⟨0, 32, .ro, 0, false⟩]⟩,
  ⟨"CKPT_SEQ", 0x20018, 0, 1, 0x0, 1, 0, .none,
    [⟨0, 32, .ro, 0, false⟩]⟩,
  ⟨"CKPT_LAG", 0x2001c, 0, 1, 0x0, 1, 0, .none,
    [⟨0, 16, .ro, 0, false⟩, ⟨16, 16, .rc, 0, false⟩]⟩,
  ⟨"PAGE_RET", 0x20020, 0, 1, 0x0, 1, 0, .none,
    [⟨0, 12, .ro, 0, false⟩, ⟨12, 20, .ro, 0, true⟩]⟩,
  ⟨"JOB_FAULT", 0x20100, 0, 16, 0x20, 1, 0, .none,
    [⟨0, 7, .ro, 0, false⟩, ⟨7, 1, .ro, 0, false⟩, ⟨8, 4, .ro, 0, false⟩, ⟨12, 12, .ro, 0, false⟩, ⟨24, 8, .ro, 0, true⟩]⟩,
  ⟨"JOB_RST_CNT", 0x20104, 0, 16, 0x20, 1, 0, .none,
    [⟨0, 16, .ro, 0, false⟩, ⟨16, 16, .ro, 0, false⟩]⟩,
  ⟨"JOB_GAP", 0x20108, 0, 16, 0x20, 1, 0, .none,
    [⟨0, 16, .ro, 0, false⟩, ⟨16, 16, .ro, 0, false⟩]⟩,
  ⟨"JOB_FTIME_LO", 0x2010c, 0, 16, 0x20, 1, 0, .none,
    [⟨0, 32, .ro, 0, false⟩]⟩,
  ⟨"JOB_FTIME_HI", 0x20110, 0, 16, 0x20, 1, 0, .none,
    [⟨0, 32, .ro, 0, false⟩]⟩,
  ⟨"JOB_XADDR", 0x20114, 0, 16, 0x20, 1, 0, .none,
    [⟨0, 32, .ro, 0, false⟩]⟩,
  ⟨"JOB_PAGES", 0x20118, 0, 16, 0x20, 1, 0, .none,
    [⟨0, 12, .ro, 0, false⟩, ⟨12, 10, .ro, 0, false⟩, ⟨22, 10, .ro, 0, true⟩]⟩,
  ⟨"JOB_PREEMPT_CNT", 0x2011c, 0, 16, 0x20, 1, 0, .none,
    [⟨0, 32, .ro, 0, false⟩]⟩,
  ⟨"PT_ADDR", 0x20400, 0, 1, 0x0, 1, 0, .none,
    [⟨0, 12, .rw, 0, false⟩, ⟨12, 4, .rw, 0, false⟩, ⟨16, 1, .rw, 0, false⟩, ⟨17, 15, .rw, 0, true⟩]⟩,
  ⟨"PT_DATA", 0x20404, 0, 1, 0x0, 1, 0, .none,
    [⟨0, 12, .ro, 0, false⟩, ⟨12, 1, .ro, 0, false⟩, ⟨13, 1, .ro, 0, false⟩, ⟨14, 1, .ro, 0, false⟩, ⟨15, 1, .ro, 0, false⟩, ⟨16, 16, .ro, 0, true⟩]⟩]

/-- The register tables of the tag block. -/
def regsTag : List RegSpec := [
  ⟨"TAG_STAT", 0x30000, 0, 16, 0x4, 1, 0, .none,
    [⟨0, 13, .ro, 0, false⟩, ⟨13, 3, .ro, 0, true⟩, ⟨16, 13, .ro, 0, false⟩, ⟨29, 1, .ro, 0, false⟩, ⟨30, 2, .ro, 0, true⟩]⟩,
  ⟨"TAG_POOL", 0x30040, 0, 1, 0x0, 1, 0, .none,
    [⟨0, 13, .ro, 0x1000, false⟩, ⟨13, 3, .ro, 0, true⟩, ⟨16, 13, .ro, 0, false⟩, ⟨29, 3, .ro, 0, true⟩]⟩,
  ⟨"TAG_WAIT_CNT", 0x30080, 0, 16, 0x4, 1, 0, .none,
    [⟨0, 32, .ro, 0, false⟩]⟩,
  ⟨"SEAT_CFG", 0x30100, 0, 128, 0x4, 1, 0, .seat,
    [⟨0, 10, .rw, 0, false⟩, ⟨10, 1, .rw, 0, false⟩, ⟨11, 5, .rw, 0, true⟩, ⟨16, 12, .rw, 0xc8, false⟩, ⟨28, 4, .rw, 0, true⟩]⟩,
  ⟨"SEAT_STAT", 0x30300, 0, 128, 0x4, 1, 0, .none,
    [⟨0, 10, .ro, 0, false⟩, ⟨10, 6, .ro, 0, true⟩, ⟨16, 8, .ro, 0, false⟩, ⟨24, 8, .ro, 0, false⟩]⟩]

/-- The register tables of the mesh block. -/
def regsMesh : List RegSpec := [
  ⟨"MESH_STAT", 0x40000, 0, 4, 0x200, 1, 0, .none,
    [⟨0, 3, .ro, 0, false⟩, ⟨3, 1, .ro, 0, false⟩, ⟨4, 4, .ro, 0, false⟩, ⟨8, 1, .ro, 0, false⟩, ⟨9, 1, .ro, 0, false⟩, ⟨10, 1, .ro, 0, false⟩, ⟨11, 1, .ro, 0, false⟩, ⟨12, 20, .ro, 0, true⟩]⟩,
  ⟨"MESH_EVT", 0x40004, 0, 4, 0x200, 1, 0, .none,
    [⟨0, 8, .ro, 0, false⟩, ⟨8, 1, .rs, 0, false⟩, ⟨9, 1, .rs, 0, false⟩, ⟨10, 1, .rs, 0, false⟩, ⟨11, 1, .rs, 0, false⟩, ⟨12, 1, .rs, 0, false⟩, ⟨13, 1, .rs, 0, false⟩, ⟨14, 1, .rs, 0, false⟩, ⟨15, 1, .rs, 0, false⟩, ⟨16, 1, .rs, 0, false⟩, ⟨17, 15, .ro, 0, true⟩]⟩,
  ⟨"MESH_CAL_CFG", 0x40008, 0, 4, 0x200, 1, 0, .none,
    [⟨0, 5, .rw, 8, false⟩, ⟨5, 3, .rw, 0, true⟩, ⟨8, 7, .rw, 0x64, false⟩, ⟨15, 1, .rw, 0, true⟩, ⟨16, 16, .rw, 0x258, false⟩]⟩,
  ⟨"MESH_CAL_CMD", 0x4000c, 0, 4, 0x200, 1, 0, .none,
    [⟨0, 1, .wo, 0, false⟩, ⟨1, 1, .wo, 0, false⟩, ⟨2, 30, .wo, 0, true⟩]⟩,
  ⟨"MESH_SWAP_CFG", 0x40010, 0, 4, 0x200, 1, 0, .none,
    [⟨0, 8, .rw, 0x14, false⟩, ⟨8, 8, .rw, 0x10, false⟩, ⟨16, 16, .rw, 0, true⟩]⟩,
  ⟨"MESH_RESID", 0x40014, 0, 4, 0x200, 1, 0, .none,
    [⟨0, 16, .ro, 0, false⟩, ⟨16, 16, .ro, 0, true⟩]⟩,
  ⟨"MESH_TEMP", 0x40018, 0, 4, 0x200, 1, 0, .none,
    [⟨0, 16, .ro, 0, false⟩, ⟨16, 16, .ro, 0, false⟩]⟩,
  ⟨"MESH_CAL_CNT", 0x4001c, 0, 4, 0x200, 1, 0, .none,
    [⟨0, 32, .ro, 0, false⟩]⟩,
  ⟨"MESH_CAL_TIME_LO", 0x40020, 0, 4, 0x200, 1, 0, .none,
    [⟨0, 32, .ro, 0, false⟩]⟩,
  ⟨"MESH_CAL_TIME_HI", 0x40024, 0, 4, 0x200, 1, 0, .none,
    [⟨0, 32, .ro, 0, false⟩]⟩,
  ⟨"MESH_PASS_CNT_LO", 0x40028, 0, 4, 0x200, 1, 0, .none,
    [⟨0, 32, .ro, 0, false⟩]⟩,
  ⟨"MESH_PASS_CNT_HI", 0x4002c, 0, 4, 0x200, 1, 0, .none,
    [⟨0, 32, .ro, 0, false⟩]⟩,
  ⟨"MESH_PILOT_CNT", 0x40030, 0, 4, 0x200, 1, 0, .none,
    [⟨0, 32, .ro, 0, false⟩]⟩,
  ⟨"SAMP_PHASE", 0x40034, 0, 4, 0x200, 1, 0, .none,
    [⟨0, 6, .rw, 0, false⟩, ⟨6, 26, .rw, 0, true⟩]⟩,
  ⟨"MESH_TBL_ADDR", 0x40038, 0, 4, 0x200, 1, 0, .none,
    [⟨0, 13, .rw, 0, false⟩, ⟨13, 2, .rw, 0, false⟩, ⟨15, 1, .rw, 0, false⟩, ⟨16, 1, .rw, 0, false⟩, ⟨17, 15, .rw, 0, true⟩]⟩,
  ⟨"MESH_TBL_DATA", 0x4003c, 0, 4, 0x200, 1, 0, .none,
    [⟨0, 32, .rw, 0, false⟩]⟩,
  ⟨"MESH_OP_A", 0x40040, 0, 4, 0x200, 8, 8, .none,
    [⟨0, 8, .rw, 0, false⟩, ⟨8, 8, .rw, 0, false⟩, ⟨16, 9, .rw, 0, false⟩, ⟨25, 6, .rw, 0, true⟩, ⟨31, 1, .rw, 0, false⟩]⟩,
  ⟨"MESH_OP_B", 0x40044, 0, 4, 0x200, 8, 8, .none,
    [⟨0, 8, .rw, 0, false⟩, ⟨8, 5, .rw, 0, false⟩, ⟨13, 19, .rw, 0, true⟩]⟩,
  ⟨"FEED_CFG", 0x40800, 0, 1, 0x0, 1, 0, .none,
    [⟨0, 1, .wk, 0, false⟩, ⟨1, 1, .wk, 1, false⟩, ⟨2, 30, .rw, 0, true⟩]⟩,
  ⟨"FEED_STAT", 0x40804, 0, 1, 0x0, 1, 0, .none,
    [⟨0, 1, .ro, 0, false⟩, ⟨1, 1, .ro, 0, false⟩, ⟨2, 1, .ro, 0, false⟩, ⟨3, 1, .ro, 0, false⟩, ⟨4, 28, .ro, 0, true⟩]⟩,
  ⟨"FEED_SW_CNT", 0x40808, 0, 1, 0x0, 1, 0, .none,
    [⟨0, 32, .ro, 0, false⟩]⟩]

/-- The register tables of the ring block. -/
def regsRing : List RegSpec := [
  ⟨"RING_STAT", 0x41000, 0, 4, 0x100, 1, 0, .none,
    [⟨0, 2, .ro, 0, false⟩, ⟨2, 1, .ro, 0, false⟩, ⟨3, 1, .ro, 0, false⟩, ⟨4, 11, .ro, 0, false⟩, ⟨15, 17, .ro, 0, true⟩]⟩,
  ⟨"RING_EVT", 0x41004, 0, 4, 0x100, 1, 0, .none,
    [⟨0, 8, .ro, 0, false⟩, ⟨8, 1, .rs, 0, false⟩, ⟨9, 1, .rs, 0, false⟩, ⟨10, 1, .rs, 0, false⟩, ⟨11, 1, .rs, 0, false⟩, ⟨12, 1, .rs, 0, false⟩, ⟨13, 1, .rs, 0, false⟩, ⟨14, 1, .rs, 0, false⟩, ⟨15, 17, .ro, 0, true⟩]⟩,
  ⟨"RING_ADDR", 0x41008, 0, 4, 0x100, 1, 0, .none,
    [⟨0, 11, .rw, 0, false⟩, ⟨11, 1, .rw, 0, false⟩, ⟨12, 20, .rw, 0, true⟩]⟩,
  ⟨"RING_DATA", 0x4100c, 0, 4, 0x100, 1, 0, .none,
    [⟨0, 5, .ro, 0x11, false⟩, ⟨5, 3, .ro, 0, false⟩, ⟨8, 16, .ro, 0, false⟩, ⟨24, 4, .ro, 0, false⟩, ⟨28, 1, .ro, 0, false⟩, ⟨29, 3, .ro, 0, true⟩]⟩,
  ⟨"CIRC_ADDR", 0x41010, 0, 4, 0x100, 1, 0, .none,
    [⟨0, 5, .rw, 0, false⟩, ⟨5, 27, .rw, 0, true⟩]⟩,
  ⟨"CIRC_DATA", 0x41014, 0, 4, 0x100, 1, 0, .none,
    [⟨0, 3, .ro, 0, false⟩, ⟨3, 4, .ro, 0, false⟩, ⟨7, 4, .ro, 0, false⟩, ⟨11, 3, .ro, 0, false⟩, ⟨14, 1, .ro, 0, false⟩, ⟨15, 17, .ro, 0, true⟩]⟩,
  ⟨"LINK_EVT", 0x41018, 0, 4, 0x100, 1, 0, .none,
    [⟨0, 8, .ro, 0, false⟩, ⟨8, 1, .rs, 0, false⟩, ⟨9, 1, .rs, 0, false⟩, ⟨10, 1, .rs, 0, false⟩, ⟨11, 1, .rs, 0, false⟩, ⟨12, 1, .rs, 0, false⟩, ⟨13, 1, .rs, 0, false⟩, ⟨14, 18, .ro, 0, true⟩]⟩,
  ⟨"CW_CE_CNT", 0x4101c, 0, 4, 0x100, 1, 0, .none,
    [⟨0, 32, .ro, 0, false⟩]⟩,
  ⟨"CW_UE_CNT", 0x41020, 0, 4, 0x100, 1, 0, .none,
    [⟨0, 32, .ro, 0, false⟩]⟩,
  ⟨"MON_ADDR", 0x41024, 0, 4, 0x100, 1, 0, .none,
    [⟨0, 7, .rw, 0, false⟩, ⟨7, 25, .rw, 0, true⟩]⟩,
  ⟨"MON_DATA", 0x41028, 0, 4, 0x100, 1, 0, .none,
    [⟨0, 16, .ro, 0, false⟩, ⟨16, 16, .ro, 0, false⟩]⟩,
  ⟨"RING_CFG", 0x41400, 0, 1, 0x0, 1, 0, .none,
    [⟨0, 8, .rw, 5, false⟩, ⟨8, 1, .wk, 1, false⟩, ⟨9, 7, .rw, 0, true⟩, ⟨16, 8, .rw, 0x18, false⟩, ⟨24, 8, .rw, 0, true⟩]⟩,
  ⟨"LOSS_LOC", 0x41404, 0, 1, 0x0, 1, 0, .none,
    [⟨0, 4, .ro, 0, false⟩, ⟨4, 2, .ro, 0, false⟩, ⟨6, 7, .ro, 0, false⟩, ⟨13, 1, .ro, 0, false⟩, ⟨14, 18, .ro, 0, true⟩]⟩,
  ⟨"LOSS_CNT", 0x41408, 0, 1, 0x0, 1, 0, .none,
    [⟨0, 32, .ro, 0, false⟩]⟩,
  ⟨"HALF_CFG", 0x41410, 0, 1, 0x0, 1, 0, .none,
    [⟨0, 1, .wk, 0, false⟩, ⟨1, 7, .rw, 0, true⟩, ⟨8, 8, .rw, 0x64, false⟩, ⟨16, 16, .rw, 0xa, false⟩]⟩,
  ⟨"HALF_STAT", 0x41414, 0, 1, 0x0, 1, 0, .none,
    [⟨0, 1, .ro, 0, false⟩, ⟨1, 1, .ro, 0, false⟩, ⟨2, 1, .ro, 0, false⟩, ⟨3, 1, .ro, 0, false⟩, ⟨4, 1, .rc, 0, false⟩, ⟨5, 3, .ro, 0, true⟩, ⟨8, 4, .ro, 0, false⟩, ⟨12, 20, .ro, 0, true⟩]⟩,
  ⟨"BRIDGE_STAT", 0x41420, 0, 16, 0x4, 1, 0, .none,
    [⟨0, 4, .ro, 0, false⟩, ⟨4, 4, .ro, 0, false⟩, ⟨8, 7, .ro, 0, false⟩, ⟨15, 1, .ro, 0, true⟩, ⟨16, 1, .ro, 0, false⟩, ⟨17, 15, .ro, 0, true⟩]⟩,
  ⟨"BRIDGE_CFG", 0x41460, 0, 16, 0x4, 1, 0, .none,
    [⟨0, 1, .wk, 0, false⟩, ⟨1, 1, .wk, 0, false⟩, ⟨2, 30, .rw, 0, true⟩]⟩,
  ⟨"EXT_CFG", 0x414a0, 0, 8, 0x4, 1, 0, .none,
    [⟨0, 1, .rw, 0, false⟩, ⟨1, 3, .rw, 1, false⟩, ⟨4, 28, .rw, 0, true⟩]⟩]

/-- The register tables of the cal block. -/
def regsCal : List RegSpec := [
  ⟨"CAL_CFG", 0x50000, 0, 1, 0x0, 1, 0, .none,
    [⟨0, 8, .rw, 0xc, false⟩, ⟨8, 1, .wk, 1, false⟩, ⟨9, 7, .rw, 0, true⟩, ⟨16, 16, .rw, 0xe10, false⟩]⟩,
  ⟨"CAL_THRESH", 0x50004, 0, 1, 0x0, 1, 0, .none,
    [⟨0, 8, .ro, 0x96, false⟩, ⟨8, 24, .ro, 0, true⟩]⟩,
  ⟨"CAL_STAT", 0x50008, 0, 1, 0x0, 1, 0, .none,
    [⟨0, 2, .ro, 0, false⟩, ⟨2, 1, .ro, 0, false⟩, ⟨3, 5, .ro, 0, true⟩, ⟨8, 8, .ro, 0, false⟩, ⟨16, 16, .ro, 0, true⟩]⟩,
  ⟨"CAL_EVT", 0x5000c, 0, 1, 0x0, 1, 0, .none,
    [⟨0, 8, .ro, 0, false⟩, ⟨8, 1, .rs, 0, false⟩, ⟨9, 1, .rs, 0, false⟩, ⟨10, 1, .rs, 0, false⟩, ⟨11, 1, .rs, 0, false⟩, ⟨12, 1, .rs, 0, false⟩, ⟨13, 1, .rs, 0, false⟩, ⟨14, 1, .rs, 0, false⟩, ⟨15, 17, .ro, 0, true⟩]⟩,
  ⟨"HW_CFG", 0x50010, 0, 1, 0x0, 1, 0, .none,
    [⟨0, 4, .rw, 4, false⟩, ⟨4, 4, .rw, 2, false⟩, ⟨8, 24, .rw, 0, true⟩]⟩,
  ⟨"HW_STAT", 0x50014, 0, 1, 0x0, 1, 0, .none,
    [⟨0, 7, .ro, 0, false⟩, ⟨7, 9, .ro, 0, true⟩, ⟨16, 13, .ro, 0, false⟩, ⟨29, 3, .ro, 0, true⟩]⟩,
  ⟨"CAL_SHARE", 0x50018, 0, 1, 0x0, 1, 0, .none,
    [⟨0, 5, .rw, 2, false⟩, ⟨5, 27, .rw, 0, true⟩]⟩]

/-- The register tables of the wset block. -/
def regsWset : List RegSpec := [
  ⟨"WSET_CFG", 0x51000, 0, 1, 0x0, 1, 0, .none,
    [⟨0, 16, .rw, 0xf0, false⟩, ⟨16, 1, .wk, 1, false⟩, ⟨17, 15, .rw, 0, true⟩]⟩,
  ⟨"WSET_EVT", 0x51004, 0, 1, 0x0, 1, 0, .none,
    [⟨0, 8, .ro, 0, false⟩, ⟨8, 1, .rs, 0, false⟩, ⟨9, 1, .rs, 0, false⟩, ⟨10, 1, .rs, 0, false⟩, ⟨11, 1, .rs, 0, false⟩, ⟨12, 1, .rs, 0, false⟩, ⟨13, 1, .rs, 0, false⟩, ⟨14, 1, .rs, 0, false⟩, ⟨15, 1, .rs, 0, false⟩, ⟨16, 1, .rs, 0, false⟩, ⟨17, 15, .ro, 0, true⟩]⟩,
  ⟨"WSET_SLOT", 0x51010, 0, 8, 0x4, 1, 0, .none,
    [⟨0, 2, .ro, 0, false⟩, ⟨2, 4, .ro, 0, false⟩, ⟨6, 10, .ro, 0, true⟩, ⟨16, 16, .ro, 0, false⟩]⟩,
  ⟨"WSET_SLOT_ID", 0x51030, 0, 8, 0x4, 1, 0, .none,
    [⟨0, 32, .ro, 0, false⟩]⟩,
  ⟨"WSET_JOB", 0x51060, 0, 16, 0x4, 1, 0, .none,
    [⟨0, 3, .ro, 0, false⟩, ⟨3, 3, .ro, 0, false⟩, ⟨6, 3, .ro, 0, false⟩, ⟨9, 4, .ro, 0, false⟩, ⟨13, 13, .ro, 0, false⟩, ⟨26, 1, .ro, 0, false⟩, ⟨27, 5, .ro, 0, true⟩]⟩,
  ⟨"RB_CNT", 0x510a0, 0, 1, 0x0, 1, 0, .none,
    [⟨0, 32, .ro, 0, false⟩]⟩,
  ⟨"RB_FAIL_CNT", 0x510a4, 0, 1, 0x0, 1, 0, .none,
    [⟨0, 32, .ro, 0, false⟩]⟩,
  ⟨"RB_LAST", 0x510a8, 0, 1, 0x0, 1, 0, .none,
    [⟨0, 12, .ro, 0, false⟩, ⟨12, 16, .ro, 0, false⟩, ⟨28, 4, .ro, 0, true⟩]⟩]

/-- The register tables of the stream block. -/
def regsStream : List RegSpec := [
  ⟨"RX_CFG", 0x60000, 0, 12, 0x4, 1, 0, .none,
    [⟨0, 1, .rw, 0, false⟩, ⟨1, 2, .rw, 3, false⟩, ⟨3, 29, .rw, 0, true⟩]⟩,
  ⟨"RX_STAT", 0x60040, 0, 12, 0x4, 1, 0, .none,
    [⟨0, 1, .ro, 0, false⟩, ⟨1, 1, .ro, 0, false⟩, ⟨2, 1, .ro, 0, false⟩, ⟨3, 5, .ro, 0, true⟩, ⟨8, 8, .ro, 0, false⟩, ⟨16, 8, .ro, 0, false⟩, ⟨24, 8, .ro, 0, true⟩]⟩,
  ⟨"RX_EVT", 0x60080, 0, 1, 0x0, 1, 0, .none,
    [⟨0, 8, .ro, 0, false⟩, ⟨8, 1, .rs, 0, false⟩, ⟨9, 1, .rs, 0, false⟩, ⟨10, 1, .rs, 0, false⟩, ⟨11, 1, .rs, 0, false⟩, ⟨12, 1, .rs, 0, false⟩, ⟨13, 1, .rs, 0, false⟩, ⟨14, 1, .rs, 0, false⟩, ⟨15, 9, .ro, 0, true⟩, ⟨24, 4, .ro, 0, false⟩, ⟨28, 4, .ro, 0, true⟩]⟩,
  ⟨"STREAM_CFG", 0x60100, 0, 48, 0x4, 1, 0, .frame,
    [⟨0, 1, .rw, 0, false⟩, ⟨1, 15, .rw, 0x2000, false⟩, ⟨16, 6, .rw, 0x2a, false⟩, ⟨22, 1, .rw, 0, false⟩, ⟨23, 9, .rw, 0, true⟩]⟩,
  ⟨"STREAM_STAT", 0x60200, 0, 48, 0x4, 1, 0, .none,
    [⟨0, 16, .ro, 0, false⟩, ⟨16, 1, .ro, 0, false⟩, ⟨17, 15, .ro, 0, true⟩]⟩,
  ⟨"STREAM_LINES", 0x60300, 0, 48, 0x4, 1, 0, .none,
    [⟨0, 32, .ro, 0, false⟩]⟩,
  ⟨"STREAM_DROP", 0x60400, 0, 48, 0x4, 1, 0, .none,
    [⟨0, 32, .ro, 0, false⟩]⟩,
  ⟨"TX_CFG", 0x60500, 0, 4, 0x4, 1, 0, .frame,
    [⟨0, 1, .rw, 0, false⟩, ⟨1, 2, .rw, 3, false⟩, ⟨3, 1, .rw, 0, false⟩, ⟨4, 1, .rw, 0, false⟩, ⟨5, 3, .rw, 0, true⟩, ⟨8, 8, .rw, 0xe1, false⟩, ⟨16, 8, .rw, 0x64, false⟩, ⟨24, 8, .rw, 0, true⟩]⟩,
  ⟨"TX_STAT", 0x60510, 0, 4, 0x4, 1, 0, .none,
    [⟨0, 1, .ro, 0, false⟩, ⟨1, 1, .ro, 0, false⟩, ⟨2, 6, .ro, 0, true⟩, ⟨8, 8, .ro, 0, false⟩, ⟨16, 16, .ro, 0, true⟩]⟩,
  ⟨"OUT_MAP", 0x60600, 0, 128, 0x4, 1, 0, .frame,
    [⟨0, 1, .rw, 0, false⟩, ⟨1, 2, .rw, 0, false⟩, ⟨3, 4, .rw, 0, false⟩, ⟨7, 1, .rw, 0, true⟩, ⟨8, 8, .rw, 0x40, false⟩, ⟨16, 16, .rw, 0x3e8, false⟩]⟩,
  ⟨"REC_CFG", 0x60800, 0, 1, 0x0, 1, 0, .none,
    [⟨0, 2, .rw, 0, false⟩, ⟨2, 4, .rw, 0xf, false⟩, ⟨6, 2, .rw, 0, true⟩, ⟨8, 8, .rw, 0x40, false⟩, ⟨16, 16, .rw, 0x3e8, false⟩]⟩,
  ⟨"REC_PERIOD", 0x60804, 0, 1, 0x0, 1, 0, .none,
    [⟨0, 16, .rw, 0x64, false⟩, ⟨16, 16, .rw, 0, true⟩]⟩,
  ⟨"BULK_STAT", 0x60840, 0, 4, 0x4, 1, 0, .none,
    [⟨0, 1, .ro, 0, false⟩, ⟨1, 4, .ro, 0, false⟩, ⟨5, 3, .ro, 0, false⟩, ⟨8, 24, .ro, 0, false⟩]⟩,
  ⟨"TB_LO", 0x60900, 0, 1, 0x0, 1, 0, .none,
    [⟨0, 32, .ro, 0, false⟩]⟩,
  ⟨"TB_HI", 0x60904, 0, 1, 0x0, 1, 0, .none,
    [⟨0, 32, .ro, 0, false⟩]⟩,
  ⟨"TB_CFG", 0x60908, 0, 1, 0x0, 1, 0, .none,
    [⟨0, 2, .rw, 0, false⟩, ⟨2, 1, .rw, 0, false⟩, ⟨3, 29, .rw, 0, true⟩]⟩,
  ⟨"TB_PERIOD", 0x6090c, 0, 1, 0x0, 1, 0, .none,
    [⟨0, 32, .rw, 0xf4240, false⟩]⟩,
  ⟨"TB_SYNC_LO", 0x60910, 0, 1, 0x0, 1, 0, .none,
    [⟨0, 32, .rw, 0, false⟩]⟩,
  ⟨"TB_SYNC_HI", 0x60914, 0, 1, 0x0, 1, 0, .none,
    [⟨0, 32, .rw, 0, false⟩]⟩,
  ⟨"TB_STAT", 0x60918, 0, 1, 0x0, 1, 0, .none,
    [⟨0, 2, .ro, 0, false⟩, ⟨2, 1, .ro, 0, false⟩, ⟨3, 13, .ro, 0, true⟩, ⟨16, 16, .ro, 0, false⟩]⟩,
  ⟨"TB_ERR", 0x6091c, 0, 1, 0x0, 1, 0, .none,
    [⟨0, 32, .ro, 0, false⟩]⟩,
  ⟨"TIME_EVT", 0x60920, 0, 1, 0x0, 1, 0, .none,
    [⟨0, 8, .ro, 0, false⟩, ⟨8, 1, .rs, 0, false⟩, ⟨9, 1, .rs, 0, false⟩, ⟨10, 1, .rs, 0, false⟩, ⟨11, 1, .rs, 0, false⟩, ⟨12, 1, .rs, 0, false⟩, ⟨13, 1, .rs, 0, false⟩, ⟨14, 1, .rs, 0, false⟩, ⟨15, 1, .rs, 0, false⟩, ⟨16, 1, .rs, 0, false⟩, ⟨17, 15, .ro, 0, true⟩]⟩,
  ⟨"ENC_POS", 0x60930, 0, 1, 0x0, 1, 0, .none,
    [⟨0, 32, .ro, 0, false⟩]⟩,
  ⟨"ENC_CFG", 0x60934, 0, 1, 0x0, 1, 0, .none,
    [⟨0, 1, .rw, 0, false⟩, ⟨1, 1, .rw, 0, false⟩, ⟨2, 2, .rw, 0, false⟩, ⟨4, 28, .rw, 0, true⟩]⟩,
  ⟨"ENC_SPEED", 0x60938, 0, 1, 0x0, 1, 0, .none,
    [⟨0, 32, .ro, 0, false⟩]⟩,
  ⟨"ENC_ERR_CNT", 0x6093c, 0, 1, 0x0, 1, 0, .none,
    [⟨0, 32, .ro, 0, false⟩]⟩,
  ⟨"MARK_LATE_WIN", 0x60940, 0, 1, 0x0, 1, 0, .none,
    [⟨0, 16, .rw, 0x3e8, false⟩, ⟨16, 16, .rw, 0, true⟩]⟩,
  ⟨"MARK_CFG", 0x60a00, 0, 8, 0x8, 1, 0, .none,
    [⟨0, 16, .rw, 0x3e8, false⟩, ⟨16, 1, .rw, 0, false⟩, ⟨17, 1, .rw, 0, false⟩, ⟨18, 14, .rw, 0, true⟩]⟩,
  ⟨"MARK_OFS", 0x60a04, 0, 8, 0x8, 1, 0, .none,
    [⟨0, 32, .rw, 0, false⟩]⟩,
  ⟨"MARK_STAT", 0x60a40, 0, 8, 0x4, 1, 0, .none,
    [⟨0, 7, .ro, 0, false⟩, ⟨7, 1, .ro, 0, false⟩, ⟨8, 8, .ro, 0, true⟩, ⟨16, 16, .ro, 0, false⟩]⟩]

/-- The register tables of the clock block. -/
def regsClock : List RegSpec := [
  ⟨"CLK_STAT", 0x70000, 0, 1, 0x0, 1, 0, .none,
    [⟨0, 1, .ro, 0, false⟩, ⟨1, 1, .ro, 0, false⟩, ⟨2, 1, .ro, 0, false⟩, ⟨3, 1, .ro, 0, false⟩, ⟨4, 1, .ro, 1, false⟩, ⟨5, 1, .ro, 0, false⟩, ⟨6, 1, .ro, 0, false⟩, ⟨7, 1, .ro, 0, true⟩, ⟨8, 8, .ro, 0, false⟩, ⟨16, 16, .ro, 0, true⟩]⟩,
  ⟨"CLK_EVT", 0x70004, 0, 1, 0x0, 1, 0, .none,
    [⟨0, 8, .ro, 0, false⟩, ⟨8, 1, .rs, 0, false⟩, ⟨9, 1, .rs, 0, false⟩, ⟨10, 1, .rs, 0, false⟩, ⟨11, 1, .rs, 0, false⟩, ⟨12, 1, .rs, 0, false⟩, ⟨13, 1, .rs, 0, false⟩, ⟨14, 1, .rs, 0, false⟩, ⟨15, 1, .rs, 0, false⟩, ⟨16, 1, .rs, 0, false⟩, ⟨17, 1, .rs, 0, false⟩, ⟨18, 1, .rs, 0, false⟩, ⟨19, 1, .rs, 0, false⟩, ⟨20, 12, .ro, 0, true⟩]⟩,
  ⟨"CLK_CFG", 0x70008, 0, 1, 0x0, 1, 0, .none,
    [⟨0, 1, .wk, 0, false⟩, ⟨1, 1, .wo, 0, false⟩, ⟨2, 30, .rw, 0, true⟩]⟩,
  ⟨"CLK_RATIO", 0x7000c, 0, 1, 0x0, 1, 0, .none,
    [⟨0, 16, .ro, 0, false⟩, ⟨16, 16, .ro, 0, true⟩]⟩,
  ⟨"CLK_SW_CNT", 0x70010, 0, 1, 0x0, 1, 0, .none,
    [⟨0, 16, .ro, 0, false⟩, ⟨16, 16, .ro, 0, false⟩]⟩,
  ⟨"CLK_EN", 0x70014, 0, 1, 0x0, 1, 0, .none,
    [⟨0, 12, .rw, 0xfff, false⟩, ⟨12, 4, .rw, 0xf, false⟩, ⟨16, 1, .rw, 1, false⟩, ⟨17, 1, .rw, 1, false⟩, ⟨18, 1, .rw, 1, false⟩, ⟨19, 1, .rw, 1, false⟩, ⟨20, 1, .rw, 0, false⟩, ⟨21, 11, .rw, 0, true⟩]⟩,
  ⟨"CLK_OBS_CFG", 0x70018, 0, 1, 0x0, 1, 0, .none,
    [⟨0, 4, .rw, 0, false⟩, ⟨4, 8, .rw, 0, false⟩, ⟨12, 20, .rw, 0, true⟩]⟩]

/-- The register tables of the power block. -/
def regsPower : List RegSpec := [
  ⟨"PWR_STAT", 0x71000, 0, 1, 0x0, 1, 0, .none,
    [⟨0, 1, .ro, 0, false⟩, ⟨1, 1, .ro, 0, false⟩, ⟨2, 1, .ro, 0, false⟩, ⟨3, 1, .ro, 0, false⟩, ⟨4, 3, .ro, 0, false⟩, ⟨7, 1, .ro, 0, false⟩, ⟨8, 1, .ro, 0, false⟩, ⟨9, 1, .ro, 0, false⟩, ⟨10, 1, .ro, 0, false⟩, ⟨11, 1, .ro, 0, false⟩, ⟨12, 3, .ro, 0, false⟩, ⟨15, 17, .ro, 0, true⟩]⟩,
  ⟨"PWR_EVT", 0x71004, 0, 1, 0x0, 1, 0, .none,
    [⟨0, 8, .ro, 0, false⟩, ⟨8, 1, .rs, 0, false⟩, ⟨9, 1, .rs, 0, false⟩, ⟨10, 1, .rs, 0, false⟩, ⟨11, 1, .rs, 0, false⟩, ⟨12, 1, .rs, 0, false⟩, ⟨13, 1, .rs, 0, false⟩, ⟨14, 1, .rs, 0, false⟩, ⟨15, 1, .rs, 0, false⟩, ⟨16, 1, .rs, 0, false⟩, ⟨17, 1, .rs, 0, false⟩, ⟨18, 1, .rs, 0, false⟩, ⟨19, 1, .rs, 0, false⟩, ⟨20, 12, .ro, 0, true⟩]⟩,
  ⟨"PWR_CFG", 0x71008, 0, 1, 0x0, 1, 0, .none,
    [⟨0, 16, .rw, 0x3e8, false⟩, ⟨16, 1, .wo, 0, false⟩, ⟨17, 15, .rw, 0, true⟩]⟩,
  ⟨"PWR_MAIN", 0x7100c, 0, 1, 0x0, 1, 0, .none,
    [⟨0, 16, .ro, 0, false⟩, ⟨16, 16, .ro, 0, false⟩]⟩,
  ⟨"PWR_BACKUP", 0x71010, 0, 1, 0x0, 1, 0, .none,
    [⟨0, 16, .ro, 0, false⟩, ⟨16, 16, .ro, 0, false⟩]⟩,
  ⟨"PWR_MEAS", 0x71014, 0, 1, 0x0, 1, 0, .none,
    [⟨0, 16, .ro, 0, false⟩, ⟨16, 16, .ro, 0, false⟩]⟩,
  ⟨"HOLDUP", 0x71018, 0, 1, 0x0, 1, 0, .none,
    [⟨0, 16, .ro, 0, false⟩, ⟨16, 16, .ro, 0, true⟩]⟩,
  ⟨"PWR_SW_CNT", 0x7101c, 0, 1, 0x0, 1, 0, .none,
    [⟨0, 16, .ro, 0, false⟩, ⟨16, 16, .ro, 0, false⟩]⟩,
  ⟨"THR_CFG", 0x71020, 0, 1, 0x0, 1, 0, .none,
    [⟨0, 9, .rw, 0x17c, false⟩, ⟨9, 7, .rw, 0, true⟩, ⟨16, 8, .rw, 0x64, false⟩, ⟨24, 8, .rw, 0, true⟩]⟩,
  ⟨"THR_STAT", 0x71024, 0, 1, 0x0, 1, 0, .none,
    [⟨0, 5, .ro, 0x10, false⟩, ⟨5, 3, .ro, 0, false⟩, ⟨8, 5, .rc, 0x10, false⟩, ⟨13, 19, .ro, 0, true⟩]⟩,
  ⟨"THR_CNT", 0x71028, 0, 1, 0x0, 1, 0, .none,
    [⟨0, 32, .ro, 0, false⟩]⟩,
  ⟨"TEMP_MAX", 0x7102c, 0, 1, 0x0, 1, 0, .none,
    [⟨0, 16, .ro, 0, false⟩, ⟨16, 8, .ro, 0, false⟩, ⟨24, 8, .ro, 0, false⟩]⟩,
  ⟨"TEMP_ADDR", 0x71030, 0, 1, 0x0, 1, 0, .none,
    [⟨0, 8, .rw, 0, false⟩, ⟨8, 1, .rw, 0, false⟩, ⟨9, 23, .rw, 0, true⟩]⟩,
  ⟨"TEMP_DATA", 0x71034, 0, 1, 0x0, 1, 0, .none,
    [⟨0, 16, .ro, 0, false⟩, ⟨16, 8, .ro, 0, false⟩, ⟨24, 1, .ro, 0, false⟩, ⟨25, 7, .ro, 0, true⟩]⟩,
  ⟨"THERM_CFG", 0x71038, 0, 1, 0x0, 1, 0, .none,
    [⟨0, 8, .rw, 0x5a, false⟩, ⟨8, 1, .wk, 0, false⟩, ⟨9, 1, .wo, 0, false⟩, ⟨10, 22, .rw, 0, true⟩]⟩]

/-- The register tables of the nv block. -/
def regsNv : List RegSpec := [
  ⟨"NV_STAT", 0x72000, 0, 1, 0x0, 1, 0, .none,
    [⟨0, 1, .ro, 0, false⟩, ⟨1, 1, .ro, 0, false⟩, ⟨2, 1, .ro, 0, false⟩, ⟨3, 2, .ro, 0, false⟩, ⟨5, 2, .ro, 0, false⟩, ⟨7, 2, .ro, 0, false⟩, ⟨9, 23, .ro, 0, true⟩]⟩,
  ⟨"NV_EVT", 0x72004, 0, 1, 0x0, 1, 0, .none,
    [⟨0, 8, .ro, 0, false⟩, ⟨8, 1, .rs, 0, false⟩, ⟨9, 1, .rs, 0, false⟩, ⟨10, 1, .rs, 0, false⟩, ⟨11, 1, .rs, 0, false⟩, ⟨12, 20, .ro, 0, true⟩]⟩,
  ⟨"NV_CFG", 0x72008, 0, 1, 0x0, 1, 0, .none,
    [⟨0, 1, .wk, 1, false⟩, ⟨1, 31, .rw, 0, true⟩]⟩,
  ⟨"NV_SEQ", 0x7200c, 0, 1, 0x0, 1, 0, .none,
    [⟨0, 32, .ro, 0, false⟩]⟩,
  ⟨"NV_STORE_CNT", 0x72010, 0, 1, 0x0, 1, 0, .none,
    [⟨0, 32, .ro, 0, false⟩]⟩,
  ⟨"NV_RAW_ADDR", 0x72014, 0, 1, 0x0, 1, 0, .none,
    [⟨0, 13, .rw, 0, false⟩, ⟨13, 7, .rw, 0, false⟩, ⟨20, 2, .rw, 0, false⟩, ⟨22, 1, .rw, 0, false⟩, ⟨23, 9, .rw, 0, true⟩]⟩,
  ⟨"NV_RAW_DATA", 0x72018, 0, 1, 0x0, 1, 0, .none,
    [⟨0, 32, .ro, 0, false⟩]⟩,
  ⟨"NV_CNT", 0x72100, 0, 32, 0x4, 1, 0, .none,
    [⟨0, 32, .ro, 0, false⟩]⟩]

/-- The register tables of the plant block. -/
def regsPlant : List RegSpec := [
  ⟨"PLANT_STAT", 0x73000, 0, 1, 0x0, 1, 0, .none,
    [⟨0, 1, .ro, 0, false⟩, ⟨1, 1, .ro, 0, false⟩, ⟨2, 3, .ro, 0, false⟩, ⟨5, 1, .ro, 0, false⟩, ⟨6, 26, .ro, 0, true⟩]⟩,
  ⟨"PLANT_EVT", 0x73004, 0, 1, 0x0, 1, 0, .none,
    [⟨0, 8, .ro, 0, false⟩, ⟨8, 1, .rs, 0, false⟩, ⟨9, 1, .rs, 0, false⟩, ⟨10, 1, .rs, 0, false⟩, ⟨11, 1, .rs, 0, false⟩, ⟨12, 1, .rs, 0, false⟩, ⟨13, 1, .rs, 0, false⟩, ⟨14, 1, .rs, 0, false⟩, ⟨15, 1, .rs, 0, false⟩, ⟨16, 1, .rs, 0, false⟩, ⟨17, 1, .rs, 0, false⟩, ⟨18, 1, .rs, 0, false⟩, ⟨19, 13, .ro, 0, true⟩]⟩,
  ⟨"PLANT_CTL", 0x73008, 0, 1, 0x0, 1, 0, .none,
    [⟨0, 1, .wo, 0, false⟩, ⟨1, 1, .wo, 0, false⟩, ⟨2, 30, .wo, 0, true⟩]⟩,
  ⟨"AOUT_LOAD_CFG", 0x7300c, 0, 1, 0x0, 1, 0, .none,
    [⟨0, 1, .rw, 0, false⟩, ⟨1, 15, .rw, 0, true⟩, ⟨16, 16, .rw, 0, false⟩]⟩,
  ⟨"AIN_BUF_CFG", 0x73010, 0, 1, 0x0, 1, 0, .none,
    [⟨0, 1, .rw, 0, false⟩, ⟨1, 14, .rw, 0x1000, false⟩, ⟨15, 17, .rw, 0, true⟩]⟩,
  ⟨"AIN_BUF_WPTR", 0x73014, 0, 1, 0x0, 1, 0, .none,
    [⟨0, 14, .ro, 0, false⟩, ⟨14, 18, .ro, 0, true⟩]⟩,
  ⟨"AIN_BUF_RPTR", 0x73018, 0, 1, 0x0, 1, 0, .none,
    [⟨0, 14, .rw, 0, false⟩, ⟨14, 18, .rw, 0, true⟩]⟩,
  ⟨"AIN_LOST_CNT", 0x7301c, 0, 1, 0x0, 1, 0, .none,
    [⟨0, 32, .ro, 0, false⟩]⟩,
  ⟨"AIN_TEST", 0x73020, 0, 1, 0x0, 1, 0, .none,
    [⟨0, 12, .rw, 0, false⟩, ⟨12, 4, .rw, 0, false⟩, ⟨16, 1, .rw, 0, false⟩, ⟨17, 15, .rw, 0, true⟩]⟩,
  ⟨"SINE_TBL_ADDR", 0x73024, 0, 1, 0x0, 1, 0, .none,
    [⟨0, 10, .rw, 0, false⟩, ⟨10, 1, .rw, 0, false⟩, ⟨11, 21, .rw, 0, true⟩]⟩,
  ⟨"SINE_TBL_DATA", 0x73028, 0, 1, 0x0, 1, 0, .none,
    [⟨0, 16, .rw, 0, false⟩, ⟨16, 16, .rw, 0, true⟩]⟩,
  ⟨"AIN_CFG", 0x73100, 0, 16, 0x10, 1, 0, .conversion,
    [⟨0, 2, .rw, 0, false⟩, ⟨2, 3, .rw, 3, false⟩, ⟨5, 19, .rw, 0x14000, false⟩, ⟨24, 8, .rw, 0, true⟩]⟩,
  ⟨"AIN_CMP", 0x73104, 0, 16, 0x10, 1, 0, .none,
    [⟨0, 12, .rw, 0, false⟩, ⟨12, 2, .rw, 0, false⟩, ⟨14, 2, .rw, 1, false⟩, ⟨16, 1, .ro, 0, false⟩, ⟨17, 15, .rw, 0, true⟩]⟩,
  ⟨"AIN_LAST", 0x73108, 0, 16, 0x10, 1, 0, .none,
    [⟨0, 24, .ro, 0, false⟩, ⟨24, 8, .ro, 0, false⟩]⟩,
  ⟨"AIN_CMP_CNT", 0x7310c, 0, 16, 0x10, 1, 0, .none,
    [⟨0, 32, .ro, 0, false⟩]⟩,
  ⟨"AOUT_CFG", 0x73200, 0, 8, 0x20, 1, 0, .strobe,
    [⟨0, 3, .rw, 0, false⟩, ⟨3, 1, .rw, 0, false⟩, ⟨4, 1, .rw, 0, false⟩, ⟨5, 1, .rw, 0, false⟩, ⟨6, 4, .rw, 0, false⟩, ⟨10, 1, .rw, 1, false⟩, ⟨11, 21, .rw, 0, true⟩]⟩,
  ⟨"AOUT_CODE", 0x73204, 0, 8, 0x20, 1, 0, .strobe,
    [⟨0, 16, .rw, 0, false⟩, ⟨16, 16, .ro, 0, false⟩]⟩,
  ⟨"AOUT_CLEAR", 0x73208, 0, 8, 0x20, 1, 0, .none,
    [⟨0, 16, .wk, 0, false⟩, ⟨16, 16, .rw, 0, true⟩]⟩,
  ⟨"AOUT_GAIN", 0x7320c, 0, 8, 0x20, 1, 0, .none,
    [⟨0, 32, .rw, 0x3f800000, false⟩]⟩,
  ⟨"AOUT_OFS", 0x73210, 0, 8, 0x20, 1, 0, .none,
    [⟨0, 32, .rw, 0, false⟩]⟩,
  ⟨"AOUT_FREQ", 0x73214, 0, 8, 0x20, 1, 0, .strobe,
    [⟨0, 32, .rw, 0x2a, false⟩]⟩,
  ⟨"AOUT_SHAPE", 0x73218, 0, 8, 0x20, 1, 0, .strobe,
    [⟨0, 16, .rw, 0, false⟩, ⟨16, 10, .rw, 0, false⟩, ⟨26, 6, .rw, 0, true⟩]⟩,
  ⟨"AOUT_STAT", 0x7321c, 0, 8, 0x20, 1, 0, .none,
    [⟨0, 2, .ro, 0, false⟩, ⟨2, 1, .ro, 0, false⟩, ⟨3, 1, .ro, 0, false⟩, ⟨4, 1, .ro, 0, false⟩, ⟨5, 11, .ro, 0, true⟩, ⟨16, 16, .ro, 0, false⟩]⟩]

/-- The register tables of the security block. -/
def regsSecurity : List RegSpec := [
  ⟨"SEC_STAT", 0x74000, 0, 1, 0x0, 1, 0, .none,
    [⟨0, 2, .ro, 0, false⟩, ⟨2, 2, .ro, 0, false⟩, ⟨4, 1, .ro, 0, false⟩, ⟨5, 1, .ro, 0, false⟩, ⟨6, 26, .ro, 0, true⟩]⟩,
  ⟨"SEC_EVT", 0x74004, 0, 1, 0x0, 1, 0, .none,
    [⟨0, 8, .ro, 0, false⟩, ⟨8, 1, .rs, 0, false⟩, ⟨9, 1, .rs, 0, false⟩, ⟨10, 1, .rs, 0, false⟩, ⟨11, 1, .rs, 0, false⟩, ⟨12, 1, .rs, 0, false⟩, ⟨13, 19, .ro, 0, true⟩]⟩,
  ⟨"PROT_FENCE", 0x74008, 0, 1, 0x0, 1, 0, .none,
    [⟨0, 9, .ro, 0, false⟩, ⟨9, 7, .ro, 0, true⟩, ⟨16, 9, .ro, 0, false⟩, ⟨25, 7, .ro, 0, true⟩]⟩,
  ⟨"PROT_STAT", 0x7400c, 0, 1, 0x0, 1, 0, .none,
    [⟨0, 1, .ro, 0, false⟩, ⟨1, 1, .ro, 0, false⟩, ⟨2, 30, .ro, 0, true⟩]⟩,
  ⟨"SEC_FUSE", 0x74010, 0, 1, 0x0, 1, 0, .none,
    [⟨0, 6, .ro, 0, false⟩, ⟨6, 1, .ro, 0, false⟩, ⟨7, 1, .ro, 0, false⟩, ⟨8, 24, .ro, 0, true⟩]⟩,
  ⟨"BOOT_INFO", 0x74014, 0, 1, 0x0, 1, 0, .none,
    [⟨0, 1, .ro, 0, false⟩, ⟨1, 1, .ro, 0, false⟩, ⟨2, 1, .ro, 0, false⟩, ⟨3, 1, .ro, 0, false⟩, ⟨4, 12, .ro, 0, true⟩, ⟨16, 16, .ro, 0, false⟩]⟩,
  ⟨"SEC_ATTEST_CNT", 0x74018, 0, 1, 0x0, 1, 0, .none,
    [⟨0, 32, .ro, 0, false⟩]⟩,
  ⟨"FW_DIGEST", 0x74040, 0, 16, 0x4, 1, 0, .none,
    [⟨0, 32, .ro, 0, false⟩]⟩]

/-- The register tables of the cluster block. -/
def regsCluster : List RegSpec := [
  ⟨"CLU_EVT", 0x4000000, 128, 256, 0x400, 1, 0, .none,
    [⟨0, 8, .ro, 0, false⟩, ⟨8, 1, .rs, 0, false⟩, ⟨9, 1, .rs, 0, false⟩, ⟨10, 1, .rs, 0, false⟩, ⟨11, 1, .rs, 0, false⟩, ⟨12, 1, .rs, 0, false⟩, ⟨13, 1, .rs, 0, false⟩, ⟨14, 18, .ro, 0, true⟩]⟩,
  ⟨"RTR_PRIO", 0x4000004, 128, 256, 0x400, 1, 0, .none,
    [⟨0, 32, .rw, 0, false⟩]⟩,
  ⟨"SRAM_CE_CNT", 0x4000008, 128, 256, 0x400, 1, 0, .none,
    [⟨0, 32, .ro, 0, false⟩]⟩,
  ⟨"LINK_CE_CNT", 0x400000c, 128, 256, 0x400, 1, 0, .none,
    [⟨0, 32, .ro, 0, false⟩]⟩,
  ⟨"EPOCH_DROP_CNT", 0x4000010, 128, 256, 0x400, 1, 0, .none,
    [⟨0, 32, .ro, 0, false⟩]⟩,
  ⟨"RED_SLOTS", 0x4000014, 128, 256, 0x400, 1, 0, .none,
    [⟨0, 12, .ro, 0, false⟩, ⟨12, 4, .ro, 0, true⟩, ⟨16, 12, .rc, 0, false⟩, ⟨28, 4, .ro, 0, true⟩]⟩,
  ⟨"RTR_XFER_CNT", 0x4000020, 128, 256, 0x400, 5, 4, .none,
    [⟨0, 32, .ro, 0, false⟩]⟩,
  ⟨"RTR_WAIT_CNT", 0x4000040, 128, 256, 0x400, 5, 4, .none,
    [⟨0, 32, .ro, 0, false⟩]⟩]

/-- The register tables of the quadrant block. -/
def regsQuadrant : List RegSpec := [
  ⟨"QCAL_STAT", 0x4080000, 4, 8, 0x100, 1, 0, .none,
    [⟨0, 2, .ro, 0, false⟩, ⟨2, 3, .ro, 0, false⟩, ⟨5, 1, .ro, 0, false⟩, ⟨6, 1, .ro, 0, false⟩, ⟨7, 3, .ro, 0, false⟩, ⟨10, 22, .ro, 0, true⟩]⟩,
  ⟨"QCAL_TEMP", 0x4080004, 4, 8, 0x100, 1, 0, .none,
    [⟨0, 16, .ro, 0, false⟩, ⟨16, 16, .ro, 0, false⟩]⟩,
  ⟨"QCAL_CNT", 0x4080008, 4, 8, 0x100, 1, 0, .none,
    [⟨0, 32, .ro, 0, false⟩]⟩,
  ⟨"QCAL_TIME_LO", 0x408000c, 4, 8, 0x100, 1, 0, .none,
    [⟨0, 32, .ro, 0, false⟩]⟩,
  ⟨"QCAL_TIME_HI", 0x4080010, 4, 8, 0x100, 1, 0, .none,
    [⟨0, 32, .ro, 0, false⟩]⟩,
  ⟨"QCAL_MAXEST", 0x4080014, 4, 8, 0x100, 1, 0, .none,
    [⟨0, 16, .ro, 0, false⟩, ⟨16, 9, .ro, 0, false⟩, ⟨25, 7, .ro, 0, true⟩]⟩,
  ⟨"QCAL_CMD", 0x4080018, 4, 8, 0x100, 1, 0, .none,
    [⟨0, 1, .wo, 0, false⟩, ⟨1, 31, .wo, 0, true⟩]⟩]

/-- The register tables of the tile block. -/
def regsTile : List RegSpec := [
  ⟨"TILE_CFG", 0x4100000, 2048, 4096, 0x200, 1, 0, .batch,
    [⟨0, 1, .rw, 0, false⟩, ⟨1, 1, .rw, 0, false⟩, ⟨2, 1, .ro, 0, false⟩, ⟨3, 2, .rw, 0, false⟩, ⟨5, 2, .rw, 2, false⟩, ⟨7, 1, .rw, 0, true⟩, ⟨8, 4, .rw, 0xf, false⟩, ⟨12, 4, .rw, 4, false⟩, ⟨16, 7, .rw, 0x7f, false⟩, ⟨23, 9, .rw, 0, true⟩]⟩,
  ⟨"TILE_EVT", 0x4100004, 2048, 4096, 0x200, 1, 0, .none,
    [⟨0, 8, .ro, 0, false⟩, ⟨8, 1, .rs, 0, false⟩, ⟨9, 1, .rs, 0, false⟩, ⟨10, 1, .rs, 0, false⟩, ⟨11, 1, .rs, 0, false⟩, ⟨12, 1, .rs, 0, false⟩, ⟨13, 1, .rs, 0, false⟩, ⟨14, 18, .ro, 0, true⟩]⟩,
  ⟨"SAT_CNT", 0x4100008, 2048, 4096, 0x200, 1, 0, .none,
    [⟨0, 32, .ro, 0, false⟩]⟩,
  ⟨"SPLIT_CNT", 0x410000c, 2048, 4096, 0x200, 1, 0, .none,
    [⟨0, 32, .ro, 0, false⟩]⟩,
  ⟨"SKIP_CNT", 0x4100010, 2048, 4096, 0x200, 1, 0, .none,
    [⟨0, 32, .ro, 0, false⟩]⟩,
  ⟨"PROD_CNT_LO", 0x4100014, 2048, 4096, 0x200, 1, 0, .none,
    [⟨0, 32, .ro, 0, false⟩]⟩,
  ⟨"PROD_CNT_HI", 0x4100018, 2048, 4096, 0x200, 1, 0, .none,
    [⟨0, 32, .ro, 0, false⟩]⟩,
  ⟨"PGM_CNT", 0x410001c, 2048, 4096, 0x200, 1, 0, .none,
    [⟨0, 32, .ro, 0, false⟩]⟩,
  ⟨"SPARE_MAP", 0x4100040, 2048, 4096, 0x200, 16, 4, .batch,
    [⟨0, 8, .rw, 0, false⟩, ⟨8, 7, .rw, 0, true⟩, ⟨15, 1, .rw, 0, false⟩, ⟨16, 16, .rw, 0, true⟩]⟩,
  ⟨"COL_USE", 0x4100080, 2048, 4096, 0x200, 8, 4, .batch,
    [⟨0, 32, .rw, 0xffffffff, false⟩]⟩,
  ⟨"TCAL_STAT", 0x4100020, 2048, 4096, 0x200, 1, 0, .none,
    [⟨0, 1, .ro, 0, false⟩, ⟨1, 2, .ro, 0, false⟩, ⟨3, 1, .ro, 0, false⟩, ⟨4, 1, .ro, 0, false⟩, ⟨5, 3, .ro, 0, false⟩, ⟨8, 2, .ro, 0, false⟩, ⟨10, 4, .ro, 0, false⟩, ⟨14, 18, .ro, 0, true⟩]⟩,
  ⟨"LIVE_GAIN", 0x4100024, 2048, 4096, 0x200, 1, 0, .none,
    [⟨0, 16, .ro, 0x4000, false⟩, ⟨16, 16, .ro, 0, true⟩]⟩,
  ⟨"TCAL_EST", 0x4100028, 2048, 4096, 0x200, 1, 0, .none,
    [⟨0, 16, .ro, 0, false⟩, ⟨16, 16, .ro, 0, false⟩]⟩,
  ⟨"DRIFT_LN", 0x410002c, 2048, 4096, 0x200, 1, 0, .none,
    [⟨0, 16, .ro, 0, false⟩, ⟨16, 16, .ro, 0, true⟩]⟩,
  ⟨"TCAL_ADDR", 0x4100030, 2048, 4096, 0x200, 1, 0, .none,
    [⟨0, 9, .rw, 0, false⟩, ⟨9, 1, .rw, 0, false⟩, ⟨10, 1, .rw, 0, false⟩, ⟨11, 21, .rw, 0, true⟩]⟩,
  ⟨"ROWDRV_MAP", 0x4100038, 2048, 4096, 0x200, 1, 0, .swap,
    [⟨0, 6, .rw, 0, false⟩, ⟨6, 1, .rw, 0, true⟩, ⟨7, 1, .rw, 0, false⟩, ⟨8, 6, .rw, 0, false⟩, ⟨14, 1, .rw, 0, true⟩, ⟨15, 1, .rw, 0, false⟩, ⟨16, 6, .rw, 0, false⟩, ⟨22, 1, .rw, 0, true⟩, ⟨23, 1, .rw, 0, false⟩, ⟨24, 6, .rw, 0, false⟩, ⟨30, 1, .rw, 0, true⟩, ⟨31, 1, .rw, 0, false⟩]⟩,
  ⟨"TCAL_DATA", 0x4100034, 2048, 4096, 0x200, 1, 0, .none,
    [⟨0, 32, .rw, 0, false⟩]⟩,
  ⟨"TCAL_SWAP", 0x410003c, 2048, 4096, 0x200, 1, 0, .none,
    [⟨0, 8, .rw, 0x14, false⟩, ⟨8, 8, .rw, 0, true⟩, ⟨16, 9, .rw, 0, false⟩, ⟨25, 7, .rw, 0, true⟩]⟩,
  ⟨"LEG_MAP", 0x41000a0, 2048, 4096, 0x200, 17, 4, .swap,
    [⟨0, 3, .rw, 0, false⟩, ⟨3, 1, .rw, 0, false⟩, ⟨4, 3, .rw, 0, false⟩, ⟨7, 1, .rw, 0, false⟩, ⟨8, 3, .rw, 0, false⟩, ⟨11, 1, .rw, 0, false⟩, ⟨12, 3, .rw, 0, false⟩, ⟨15, 1, .rw, 0, false⟩, ⟨16, 3, .rw, 0, false⟩, ⟨19, 1, .rw, 0, false⟩, ⟨20, 3, .rw, 0, false⟩, ⟨23, 1, .rw, 0, false⟩, ⟨24, 3, .rw, 0, false⟩, ⟨27, 1, .rw, 0, false⟩, ⟨28, 3, .rw, 0, false⟩, ⟨31, 1, .rw, 0, false⟩]⟩,
  ⟨"LEG_MAP_17", 0x41000e4, 2048, 4096, 0x200, 1, 0, .swap,
    [⟨0, 3, .rw, 0, false⟩, ⟨3, 1, .rw, 0, false⟩, ⟨4, 3, .rw, 0, false⟩, ⟨7, 1, .rw, 0, false⟩, ⟨8, 3, .rw, 0, false⟩, ⟨11, 1, .rw, 0, false⟩, ⟨12, 3, .rw, 0, false⟩, ⟨15, 1, .rw, 0, false⟩, ⟨16, 16, .rw, 0, true⟩]⟩,
  ⟨"TCAL_PROG", 0x41000e8, 2048, 4096, 0x200, 1, 0, .none,
    [⟨0, 16, .ro, 0x4000, false⟩, ⟨16, 16, .ro, 0, false⟩]⟩]

/-- The rows that can hold a key, chosen by its block of the address map of R303 (or of a half's indirect space). -/
def regRows (key : Nat) : List RegSpec :=
  if key < 0x100 then regsSystem
  else if key < 0x20000 then regsMailbox
  else if key < 0x30000 then regsSupervision
  else if key < 0x40000 then regsTag
  else if key < 0x41000 then regsMesh
  else if key < 0x50000 then regsRing
  else if key < 0x51000 then regsCal
  else if key < 0x60000 then regsWset
  else if key < 0x70000 then regsStream
  else if key < 0x71000 then regsClock
  else if key < 0x72000 then regsPower
  else if key < 0x73000 then regsNv
  else if key < 0x74000 then regsPlant
  else if key < 0x80000 then regsSecurity
  else if key < halfStep then []
  else
    let off := key % halfStep
    if off < 0x80000 then regsCluster
    else if off < 0x100000 then regsQuadrant
    else regsTile

/-- Whether the row `r` names the key. -/
def RegSpec.covers (r : RegSpec) (key : Nat) : Bool :=
  let off := if r.per = 0 then key - r.base else (key - r.base) % halfStep
  let half := if r.per = 0 then 0 else (key - r.base) / halfStep
  let rest := if r.s1 = 0 then off else off % r.s1
  let i := if r.s1 = 0 then 0 else off / r.s1
  let i0 := if r.per = 0 then r.n1 else r.per
  r.base ≤ key && decide (i < i0) && decide (half < 2) &&
    (if r.s2 = 0 then decide (rest = 0)
     else decide (rest % r.s2 = 0) && decide (rest / r.s2 < r.n2))

/-- The register table that a key belongs to, if the map assigns the key (R303). -/
def findReg (key : Nat) : Option RegSpec := (regRows key).find? fun r => r.covers key

/-- The outer index of a key in its table. -/
def RegSpec.outer (r : RegSpec) (key : Nat) : Nat :=
  if r.s1 = 0 then 0
  else if r.per = 0 then (key - r.base) / r.s1
  else r.per * ((key - r.base) / halfStep) + ((key - r.base) % halfStep) / r.s1

/-- The inner index of a key in its table. -/
def RegSpec.inner (r : RegSpec) (key : Nat) : Nat :=
  let off := if r.per = 0 then key - r.base else (key - r.base) % halfStep
  if r.s2 = 0 then 0 else (if r.s1 = 0 then off else off % r.s1) / r.s2

/-- The bits of a field. -/
def fieldMask (lo w : Nat) : Word := BitVec.ofNat 32 ((2 ^ w - 1) * 2 ^ lo)

/-- The bits of a table whose field satisfies `p`. -/
def RegSpec.maskWhere (r : RegSpec) (p : FieldSpec → Bool) : Word :=
  r.fields.foldl (fun m f => if p f then m ||| fieldMask f.lo f.w else m) 0

/-- The bits of the named fields of access type `a`. -/
def RegSpec.accMask (r : RegSpec) (a : Acc) : Word := r.maskWhere fun f => decide (f.acc = a) && !f.rsvd

/-- The reserved bits of type rw (R296). -/
def RegSpec.rsvMask (r : RegSpec) : Word := r.maskWhere fun f => decide (f.acc = .rw) && f.rsvd

/-- The word after power-on reset, from the Reset column (R13); a field marked fuse or boot is 0 until its boot row. -/
def RegSpec.resetWord (r : RegSpec) : Word :=
  r.fields.foldl (fun m f => m ||| BitVec.ofNat 32 (f.reset * 2 ^ f.lo)) 0

/-- What an unlisted register word reads as: its table's reset word, zero where no table assigns the key (R301). -/
def regReset (key : Nat) : Word := ((findReg key).map RegSpec.resetWord).getD 0

namespace R

/-- SA_CAL of TILE_CFG (R84). -/
def TILE_CFG_SA_CAL : Fld := ⟨0x4100000, 2048, 4096, 0x200, 1, 0, 0, 1⟩
/-- SA_JOB of TILE_CFG (R84). -/
def TILE_CFG_SA_JOB : Fld := ⟨0x4100000, 2048, 4096, 0x200, 1, 0, 1, 1⟩
/-- SA_ACT of TILE_CFG (R84). -/
def TILE_CFG_SA_ACT : Fld := ⟨0x4100000, 2048, 4096, 0x200, 1, 0, 2, 1⟩
/-- SLICE of TILE_CFG (R84). -/
def TILE_CFG_SLICE : Fld := ⟨0x4100000, 2048, 4096, 0x200, 1, 0, 3, 2⟩
/-- RANGE of TILE_CFG (R84). -/
def TILE_CFG_RANGE : Fld := ⟨0x4100000, 2048, 4096, 0x200, 1, 0, 5, 2⟩
/-- W_MAX of TILE_CFG (R84). -/
def TILE_CFG_W_MAX : Fld := ⟨0x4100000, 2048, 4096, 0x200, 1, 0, 8, 4⟩
/-- GUARD of TILE_CFG (R84). -/
def TILE_CFG_GUARD : Fld := ⟨0x4100000, 2048, 4096, 0x200, 1, 0, 12, 4⟩
/-- CLIP_LVL of TILE_CFG (R84). -/
def TILE_CFG_CLIP_LVL : Fld := ⟨0x4100000, 2048, 4096, 0x200, 1, 0, 16, 7⟩
/-- The whole word of TILE_CFG (R84). -/
def TILE_CFG : Fld := ⟨0x4100000, 2048, 4096, 0x200, 1, 0, 0, 32⟩
/-- SEQ of TILE_EVT (R85). -/
def TILE_EVT_SEQ : Fld := ⟨0x4100004, 2048, 4096, 0x200, 1, 0, 0, 8⟩
/-- SAT_SEEN of TILE_EVT (R85). -/
def TILE_EVT_SAT_SEEN : Fld := ⟨0x4100004, 2048, 4096, 0x200, 1, 0, 8, 1⟩
/-- SPLIT_SEEN of TILE_EVT (R85). -/
def TILE_EVT_SPLIT_SEEN : Fld := ⟨0x4100004, 2048, 4096, 0x200, 1, 0, 9, 1⟩
/-- CLIP8 of TILE_EVT (R85). -/
def TILE_EVT_CLIP8 : Fld := ⟨0x4100004, 2048, 4096, 0x200, 1, 0, 10, 1⟩
/-- SUM_SAT of TILE_EVT (R85). -/
def TILE_EVT_SUM_SAT : Fld := ⟨0x4100004, 2048, 4096, 0x200, 1, 0, 11, 1⟩
/-- CHALK_CLIP of TILE_EVT (R85). -/
def TILE_EVT_CHALK_CLIP : Fld := ⟨0x4100004, 2048, 4096, 0x200, 1, 0, 12, 1⟩
/-- PAIR_ERR of TILE_EVT (R85). -/
def TILE_EVT_PAIR_ERR : Fld := ⟨0x4100004, 2048, 4096, 0x200, 1, 0, 13, 1⟩
/-- The whole word of TILE_EVT (R85). -/
def TILE_EVT : Fld := ⟨0x4100004, 2048, 4096, 0x200, 1, 0, 0, 32⟩
/-- COUNT of SAT_CNT (R86). -/
def SAT_CNT_COUNT : Fld := ⟨0x4100008, 2048, 4096, 0x200, 1, 0, 0, 32⟩
/-- The whole word of SAT_CNT (R86). -/
def SAT_CNT : Fld := ⟨0x4100008, 2048, 4096, 0x200, 1, 0, 0, 32⟩
/-- COUNT of SPLIT_CNT (R86). -/
def SPLIT_CNT_COUNT : Fld := ⟨0x410000c, 2048, 4096, 0x200, 1, 0, 0, 32⟩
/-- The whole word of SPLIT_CNT (R86). -/
def SPLIT_CNT : Fld := ⟨0x410000c, 2048, 4096, 0x200, 1, 0, 0, 32⟩
/-- COUNT of SKIP_CNT (R86). -/
def SKIP_CNT_COUNT : Fld := ⟨0x4100010, 2048, 4096, 0x200, 1, 0, 0, 32⟩
/-- The whole word of SKIP_CNT (R86). -/
def SKIP_CNT : Fld := ⟨0x4100010, 2048, 4096, 0x200, 1, 0, 0, 32⟩
/-- COUNT_LO of PROD_CNT_LO (R86). -/
def PROD_CNT_LO_COUNT_LO : Fld := ⟨0x4100014, 2048, 4096, 0x200, 1, 0, 0, 32⟩
/-- The whole word of PROD_CNT_LO (R86). -/
def PROD_CNT_LO : Fld := ⟨0x4100014, 2048, 4096, 0x200, 1, 0, 0, 32⟩
/-- COUNT_HI of PROD_CNT_HI (R86). -/
def PROD_CNT_HI_COUNT_HI : Fld := ⟨0x4100018, 2048, 4096, 0x200, 1, 0, 0, 32⟩
/-- The whole word of PROD_CNT_HI (R86). -/
def PROD_CNT_HI : Fld := ⟨0x4100018, 2048, 4096, 0x200, 1, 0, 0, 32⟩
/-- COUNT of PGM_CNT (R86). -/
def PGM_CNT_COUNT : Fld := ⟨0x410001c, 2048, 4096, 0x200, 1, 0, 0, 32⟩
/-- The whole word of PGM_CNT (R86). -/
def PGM_CNT : Fld := ⟨0x410001c, 2048, 4096, 0x200, 1, 0, 0, 32⟩
/-- TARGET of SPARE_MAP_n (R87). -/
def SPARE_MAP_TARGET : Fld := ⟨0x4100040, 2048, 4096, 0x200, 16, 4, 0, 8⟩
/-- EN of SPARE_MAP_n (R87). -/
def SPARE_MAP_EN : Fld := ⟨0x4100040, 2048, 4096, 0x200, 16, 4, 15, 1⟩
/-- The whole word of SPARE_MAP_n (R87). -/
def SPARE_MAP : Fld := ⟨0x4100040, 2048, 4096, 0x200, 16, 4, 0, 32⟩
/-- USE of COL_USE_k (R88). -/
def COL_USE_USE : Fld := ⟨0x4100080, 2048, 4096, 0x200, 8, 4, 0, 32⟩
/-- The whole word of COL_USE_k (R88). -/
def COL_USE : Fld := ⟨0x4100080, 2048, 4096, 0x200, 8, 4, 0, 32⟩
/-- SEQ of CLU_EVT (R121). -/
def CLU_EVT_SEQ : Fld := ⟨0x4000000, 128, 256, 0x400, 1, 0, 0, 8⟩
/-- SRAM_CE of CLU_EVT (R121). -/
def CLU_EVT_SRAM_CE : Fld := ⟨0x4000000, 128, 256, 0x400, 1, 0, 8, 1⟩
/-- SRAM_UE of CLU_EVT (R121). -/
def CLU_EVT_SRAM_UE : Fld := ⟨0x4000000, 128, 256, 0x400, 1, 0, 9, 1⟩
/-- LINK_CE of CLU_EVT (R121). -/
def CLU_EVT_LINK_CE : Fld := ⟨0x4000000, 128, 256, 0x400, 1, 0, 10, 1⟩
/-- LINK_UE of CLU_EVT (R121). -/
def CLU_EVT_LINK_UE : Fld := ⟨0x4000000, 128, 256, 0x400, 1, 0, 11, 1⟩
/-- RED_OVER of CLU_EVT (R121). -/
def CLU_EVT_RED_OVER : Fld := ⟨0x4000000, 128, 256, 0x400, 1, 0, 12, 1⟩
/-- BAD_TOKEN of CLU_EVT (R121). -/
def CLU_EVT_BAD_TOKEN : Fld := ⟨0x4000000, 128, 256, 0x400, 1, 0, 13, 1⟩
/-- The whole word of CLU_EVT (R121). -/
def CLU_EVT : Fld := ⟨0x4000000, 128, 256, 0x400, 1, 0, 0, 32⟩
/-- PRIO of RTR_PRIO (R122). -/
def RTR_PRIO_PRIO : Fld := ⟨0x4000004, 128, 256, 0x400, 1, 0, 0, 32⟩
/-- The whole word of RTR_PRIO (R122). -/
def RTR_PRIO : Fld := ⟨0x4000004, 128, 256, 0x400, 1, 0, 0, 32⟩
/-- COUNT of SRAM_CE_CNT (R122). -/
def SRAM_CE_CNT_COUNT : Fld := ⟨0x4000008, 128, 256, 0x400, 1, 0, 0, 32⟩
/-- The whole word of SRAM_CE_CNT (R122). -/
def SRAM_CE_CNT : Fld := ⟨0x4000008, 128, 256, 0x400, 1, 0, 0, 32⟩
/-- COUNT of LINK_CE_CNT (R122). -/
def LINK_CE_CNT_COUNT : Fld := ⟨0x400000c, 128, 256, 0x400, 1, 0, 0, 32⟩
/-- The whole word of LINK_CE_CNT (R122). -/
def LINK_CE_CNT : Fld := ⟨0x400000c, 128, 256, 0x400, 1, 0, 0, 32⟩
/-- COUNT of EPOCH_DROP_CNT (R122). -/
def EPOCH_DROP_CNT_COUNT : Fld := ⟨0x4000010, 128, 256, 0x400, 1, 0, 0, 32⟩
/-- The whole word of EPOCH_DROP_CNT (R122). -/
def EPOCH_DROP_CNT : Fld := ⟨0x4000010, 128, 256, 0x400, 1, 0, 0, 32⟩
/-- OPEN of RED_SLOTS (R122). -/
def RED_SLOTS_OPEN : Fld := ⟨0x4000014, 128, 256, 0x400, 1, 0, 0, 12⟩
/-- PEAK of RED_SLOTS (R122). -/
def RED_SLOTS_PEAK : Fld := ⟨0x4000014, 128, 256, 0x400, 1, 0, 16, 12⟩
/-- The whole word of RED_SLOTS (R122). -/
def RED_SLOTS : Fld := ⟨0x4000014, 128, 256, 0x400, 1, 0, 0, 32⟩
/-- COUNT of RTR_XFER_CNT_k (R122). -/
def RTR_XFER_CNT_COUNT : Fld := ⟨0x4000020, 128, 256, 0x400, 5, 4, 0, 32⟩
/-- The whole word of RTR_XFER_CNT_k (R122). -/
def RTR_XFER_CNT : Fld := ⟨0x4000020, 128, 256, 0x400, 5, 4, 0, 32⟩
/-- COUNT of RTR_WAIT_CNT_k (R122). -/
def RTR_WAIT_CNT_COUNT : Fld := ⟨0x4000040, 128, 256, 0x400, 5, 4, 0, 32⟩
/-- The whole word of RTR_WAIT_CNT_k (R122). -/
def RTR_WAIT_CNT : Fld := ⟨0x4000040, 128, 256, 0x400, 5, 4, 0, 32⟩
/-- QUOTA of TAG_STAT_j (R124). -/
def TAG_STAT_QUOTA : Fld := ⟨0x30000, 0, 16, 0x4, 1, 0, 0, 13⟩
/-- IN_USE of TAG_STAT_j (R124). -/
def TAG_STAT_IN_USE : Fld := ⟨0x30000, 0, 16, 0x4, 1, 0, 16, 13⟩
/-- WAITING of TAG_STAT_j (R124). -/
def TAG_STAT_WAITING : Fld := ⟨0x30000, 0, 16, 0x4, 1, 0, 29, 1⟩
/-- The whole word of TAG_STAT_j (R124). -/
def TAG_STAT : Fld := ⟨0x30000, 0, 16, 0x4, 1, 0, 0, 32⟩
/-- UNRESERVED of TAG_POOL (R124). -/
def TAG_POOL_UNRESERVED : Fld := ⟨0x30040, 0, 1, 0x0, 1, 0, 0, 13⟩
/-- IN_USE of TAG_POOL (R124). -/
def TAG_POOL_IN_USE : Fld := ⟨0x30040, 0, 1, 0x0, 1, 0, 16, 13⟩
/-- The whole word of TAG_POOL (R124). -/
def TAG_POOL : Fld := ⟨0x30040, 0, 1, 0x0, 1, 0, 0, 32⟩
/-- COUNT of TAG_WAIT_CNT_j (R124). -/
def TAG_WAIT_CNT_COUNT : Fld := ⟨0x30080, 0, 16, 0x4, 1, 0, 0, 32⟩
/-- The whole word of TAG_WAIT_CNT_j (R124). -/
def TAG_WAIT_CNT : Fld := ⟨0x30080, 0, 16, 0x4, 1, 0, 0, 32⟩
/-- WINDOW of SEAT_CFG_n (R124). -/
def SEAT_CFG_WINDOW : Fld := ⟨0x30100, 0, 128, 0x4, 1, 0, 0, 10⟩
/-- KEY of SEAT_CFG_n (R124). -/
def SEAT_CFG_KEY : Fld := ⟨0x30100, 0, 128, 0x4, 1, 0, 10, 1⟩
/-- HOLD of SEAT_CFG_n (R124). -/
def SEAT_CFG_HOLD : Fld := ⟨0x30100, 0, 128, 0x4, 1, 0, 16, 12⟩
/-- The whole word of SEAT_CFG_n (R124). -/
def SEAT_CFG : Fld := ⟨0x30100, 0, 128, 0x4, 1, 0, 0, 32⟩
/-- HELD of SEAT_STAT_n (R124). -/
def SEAT_STAT_HELD : Fld := ⟨0x30300, 0, 128, 0x4, 1, 0, 0, 10⟩
/-- LATE_CNT of SEAT_STAT_n (R124). -/
def SEAT_STAT_LATE_CNT : Fld := ⟨0x30300, 0, 128, 0x4, 1, 0, 16, 8⟩
/-- HOLD_CNT of SEAT_STAT_n (R124). -/
def SEAT_STAT_HOLD_CNT : Fld := ⟨0x30300, 0, 128, 0x4, 1, 0, 24, 8⟩
/-- The whole word of SEAT_STAT_n (R124). -/
def SEAT_STAT : Fld := ⟨0x30300, 0, 128, 0x4, 1, 0, 0, 32⟩
/-- STATE of MESH_STAT (R152). -/
def MESH_STAT_STATE : Fld := ⟨0x40000, 0, 4, 0x200, 1, 0, 0, 3⟩
/-- HELD of MESH_STAT (R152). -/
def MESH_STAT_HELD : Fld := ⟨0x40000, 0, 4, 0x200, 1, 0, 3, 1⟩
/-- JOB of MESH_STAT (R152). -/
def MESH_STAT_JOB : Fld := ⟨0x40000, 0, 4, 0x200, 1, 0, 4, 4⟩
/-- BANK of MESH_STAT (R152). -/
def MESH_STAT_BANK : Fld := ⟨0x40000, 0, 4, 0x200, 1, 0, 8, 1⟩
/-- SUBST of MESH_STAT (R152). -/
def MESH_STAT_SUBST : Fld := ⟨0x40000, 0, 4, 0x200, 1, 0, 9, 1⟩
/-- LIGHT_OK of MESH_STAT (R152). -/
def MESH_STAT_LIGHT_OK : Fld := ⟨0x40000, 0, 4, 0x200, 1, 0, 10, 1⟩
/-- CLK_OK of MESH_STAT (R152). -/
def MESH_STAT_CLK_OK : Fld := ⟨0x40000, 0, 4, 0x200, 1, 0, 11, 1⟩
/-- The whole word of MESH_STAT (R152). -/
def MESH_STAT : Fld := ⟨0x40000, 0, 4, 0x200, 1, 0, 0, 32⟩
/-- SEQ of MESH_EVT (R152). -/
def MESH_EVT_SEQ : Fld := ⟨0x40004, 0, 4, 0x200, 1, 0, 0, 8⟩
/-- REBUILD of MESH_EVT (R152). -/
def MESH_EVT_REBUILD : Fld := ⟨0x40004, 0, 4, 0x200, 1, 0, 8, 1⟩
/-- SWAP of MESH_EVT (R152). -/
def MESH_EVT_SWAP : Fld := ⟨0x40004, 0, 4, 0x200, 1, 0, 9, 1⟩
/-- SWAP_FORCED of MESH_EVT (R152). -/
def MESH_EVT_SWAP_FORCED : Fld := ⟨0x40004, 0, 4, 0x200, 1, 0, 10, 1⟩
/-- LIGHT_LOSS of MESH_EVT (R152). -/
def MESH_EVT_LIGHT_LOSS : Fld := ⟨0x40004, 0, 4, 0x200, 1, 0, 11, 1⟩
/-- CHAN_FAIL of MESH_EVT (R152). -/
def MESH_EVT_CHAN_FAIL : Fld := ⟨0x40004, 0, 4, 0x200, 1, 0, 12, 1⟩
/-- HEATER_FAIL of MESH_EVT (R152). -/
def MESH_EVT_HEATER_FAIL : Fld := ⟨0x40004, 0, 4, 0x200, 1, 0, 13, 1⟩
/-- PILOT_HIGH of MESH_EVT (R152). -/
def MESH_EVT_PILOT_HIGH : Fld := ⟨0x40004, 0, 4, 0x200, 1, 0, 14, 1⟩
/-- SETTLE_LATE of MESH_EVT (R152). -/
def MESH_EVT_SETTLE_LATE : Fld := ⟨0x40004, 0, 4, 0x200, 1, 0, 15, 1⟩
/-- BAD_OP of MESH_EVT (R152). -/
def MESH_EVT_BAD_OP : Fld := ⟨0x40004, 0, 4, 0x200, 1, 0, 16, 1⟩
/-- The whole word of MESH_EVT (R152). -/
def MESH_EVT : Fld := ⟨0x40004, 0, 4, 0x200, 1, 0, 0, 32⟩
/-- DT_TRIG of MESH_CAL_CFG (R153). -/
def MESH_CAL_CFG_DT_TRIG : Fld := ⟨0x40008, 0, 4, 0x200, 1, 0, 0, 5⟩
/-- RESID_TRIG of MESH_CAL_CFG (R153). -/
def MESH_CAL_CFG_RESID_TRIG : Fld := ⟨0x40008, 0, 4, 0x200, 1, 0, 8, 7⟩
/-- AGE_TRIG of MESH_CAL_CFG (R153). -/
def MESH_CAL_CFG_AGE_TRIG : Fld := ⟨0x40008, 0, 4, 0x200, 1, 0, 16, 16⟩
/-- The whole word of MESH_CAL_CFG (R153). -/
def MESH_CAL_CFG : Fld := ⟨0x40008, 0, 4, 0x200, 1, 0, 0, 32⟩
/-- TRIM_START of MESH_CAL_CMD (R153). -/
def MESH_CAL_CMD_TRIM_START : Fld := ⟨0x4000c, 0, 4, 0x200, 1, 0, 0, 1⟩
/-- XT_START of MESH_CAL_CMD (R153). -/
def MESH_CAL_CMD_XT_START : Fld := ⟨0x4000c, 0, 4, 0x200, 1, 0, 1, 1⟩
/-- The whole word of MESH_CAL_CMD (R153). -/
def MESH_CAL_CMD : Fld := ⟨0x4000c, 0, 4, 0x200, 1, 0, 0, 32⟩
/-- SWAP_WAIT of MESH_SWAP_CFG (R153). -/
def MESH_SWAP_CFG_SWAP_WAIT : Fld := ⟨0x40010, 0, 4, 0x200, 1, 0, 0, 8⟩
/-- PILOT_INT of MESH_SWAP_CFG (R153). -/
def MESH_SWAP_CFG_PILOT_INT : Fld := ⟨0x40010, 0, 4, 0x200, 1, 0, 8, 8⟩
/-- The whole word of MESH_SWAP_CFG (R153). -/
def MESH_SWAP_CFG : Fld := ⟨0x40010, 0, 4, 0x200, 1, 0, 0, 32⟩
/-- RESID of MESH_RESID (R153). -/
def MESH_RESID_RESID : Fld := ⟨0x40014, 0, 4, 0x200, 1, 0, 0, 16⟩
/-- The whole word of MESH_RESID (R153). -/
def MESH_RESID : Fld := ⟨0x40014, 0, 4, 0x200, 1, 0, 0, 32⟩
/-- MEAN of MESH_TEMP (R153). -/
def MESH_TEMP_MEAN : Fld := ⟨0x40018, 0, 4, 0x200, 1, 0, 0, 16⟩
/-- CAL_MEAN of MESH_TEMP (R153). -/
def MESH_TEMP_CAL_MEAN : Fld := ⟨0x40018, 0, 4, 0x200, 1, 0, 16, 16⟩
/-- The whole word of MESH_TEMP (R153). -/
def MESH_TEMP : Fld := ⟨0x40018, 0, 4, 0x200, 1, 0, 0, 32⟩
/-- COUNT of MESH_CAL_CNT (R153). -/
def MESH_CAL_CNT_COUNT : Fld := ⟨0x4001c, 0, 4, 0x200, 1, 0, 0, 32⟩
/-- The whole word of MESH_CAL_CNT (R153). -/
def MESH_CAL_CNT : Fld := ⟨0x4001c, 0, 4, 0x200, 1, 0, 0, 32⟩
/-- TIME_LO of MESH_CAL_TIME_LO (R153). -/
def MESH_CAL_TIME_LO_TIME_LO : Fld := ⟨0x40020, 0, 4, 0x200, 1, 0, 0, 32⟩
/-- The whole word of MESH_CAL_TIME_LO (R153). -/
def MESH_CAL_TIME_LO : Fld := ⟨0x40020, 0, 4, 0x200, 1, 0, 0, 32⟩
/-- TIME_HI of MESH_CAL_TIME_HI (R153). -/
def MESH_CAL_TIME_HI_TIME_HI : Fld := ⟨0x40024, 0, 4, 0x200, 1, 0, 0, 32⟩
/-- The whole word of MESH_CAL_TIME_HI (R153). -/
def MESH_CAL_TIME_HI : Fld := ⟨0x40024, 0, 4, 0x200, 1, 0, 0, 32⟩
/-- COUNT_LO of MESH_PASS_CNT_LO (R153). -/
def MESH_PASS_CNT_LO_COUNT_LO : Fld := ⟨0x40028, 0, 4, 0x200, 1, 0, 0, 32⟩
/-- The whole word of MESH_PASS_CNT_LO (R153). -/
def MESH_PASS_CNT_LO : Fld := ⟨0x40028, 0, 4, 0x200, 1, 0, 0, 32⟩
/-- COUNT_HI of MESH_PASS_CNT_HI (R153). -/
def MESH_PASS_CNT_HI_COUNT_HI : Fld := ⟨0x4002c, 0, 4, 0x200, 1, 0, 0, 32⟩
/-- The whole word of MESH_PASS_CNT_HI (R153). -/
def MESH_PASS_CNT_HI : Fld := ⟨0x4002c, 0, 4, 0x200, 1, 0, 0, 32⟩
/-- COUNT of MESH_PILOT_CNT (R153). -/
def MESH_PILOT_CNT_COUNT : Fld := ⟨0x40030, 0, 4, 0x200, 1, 0, 0, 32⟩
/-- The whole word of MESH_PILOT_CNT (R153). -/
def MESH_PILOT_CNT : Fld := ⟨0x40030, 0, 4, 0x200, 1, 0, 0, 32⟩
/-- PHASE of SAMP_PHASE (R153). -/
def SAMP_PHASE_PHASE : Fld := ⟨0x40034, 0, 4, 0x200, 1, 0, 0, 6⟩
/-- The whole word of SAMP_PHASE (R153) (DESIGN CHOICE, log 126). -/
def SAMP_PHASE : Fld := ⟨0x40034, 0, 4, 0x200, 1, 0, 0, 32⟩
/-- INDEX of MESH_TBL_ADDR (R154). -/
def MESH_TBL_ADDR_INDEX : Fld := ⟨0x40038, 0, 4, 0x200, 1, 0, 0, 13⟩
/-- AREA of MESH_TBL_ADDR (R154). -/
def MESH_TBL_ADDR_AREA : Fld := ⟨0x40038, 0, 4, 0x200, 1, 0, 13, 2⟩
/-- BANK of MESH_TBL_ADDR (R154). -/
def MESH_TBL_ADDR_BANK : Fld := ⟨0x40038, 0, 4, 0x200, 1, 0, 15, 1⟩
/-- AINC of MESH_TBL_ADDR (R154). -/
def MESH_TBL_ADDR_AINC : Fld := ⟨0x40038, 0, 4, 0x200, 1, 0, 16, 1⟩
/-- The whole word of MESH_TBL_ADDR (R154). -/
def MESH_TBL_ADDR : Fld := ⟨0x40038, 0, 4, 0x200, 1, 0, 0, 32⟩
/-- DATA of MESH_TBL_DATA (R154). -/
def MESH_TBL_DATA_DATA : Fld := ⟨0x4003c, 0, 4, 0x200, 1, 0, 0, 32⟩
/-- The whole word of MESH_TBL_DATA (R154). -/
def MESH_TBL_DATA : Fld := ⟨0x4003c, 0, 4, 0x200, 1, 0, 0, 32⟩
/-- OPER of MESH_OP_A_n (R155). -/
def MESH_OP_A_OPER : Fld := ⟨0x40040, 0, 4, 0x200, 8, 8, 0, 8⟩
/-- NEXT_OPER of MESH_OP_A_n (R155). -/
def MESH_OP_A_NEXT_OPER : Fld := ⟨0x40040, 0, 4, 0x200, 8, 8, 8, 8⟩
/-- TOK_PER_BATCH of MESH_OP_A_n (R155). -/
def MESH_OP_A_TOK_PER_BATCH : Fld := ⟨0x40040, 0, 4, 0x200, 8, 8, 16, 9⟩
/-- EN of MESH_OP_A_n (R155). -/
def MESH_OP_A_EN : Fld := ⟨0x40040, 0, 4, 0x200, 8, 8, 31, 1⟩
/-- The whole word of MESH_OP_A_n (R155). -/
def MESH_OP_A : Fld := ⟨0x40040, 0, 4, 0x200, 8, 8, 0, 32⟩
/-- DST_CLU of MESH_OP_B_n (R155). -/
def MESH_OP_B_DST_CLU : Fld := ⟨0x40044, 0, 4, 0x200, 8, 8, 0, 8⟩
/-- DST_UNIT of MESH_OP_B_n (R155). -/
def MESH_OP_B_DST_UNIT : Fld := ⟨0x40044, 0, 4, 0x200, 8, 8, 8, 5⟩
/-- The whole word of MESH_OP_B_n (R155). -/
def MESH_OP_B : Fld := ⟨0x40044, 0, 4, 0x200, 8, 8, 0, 32⟩
/-- PRIMARY of FEED_CFG (R156). -/
def FEED_CFG_PRIMARY : Fld := ⟨0x40800, 0, 1, 0x0, 1, 0, 0, 1⟩
/-- AUTO of FEED_CFG (R156). -/
def FEED_CFG_AUTO : Fld := ⟨0x40800, 0, 1, 0x0, 1, 0, 1, 1⟩
/-- The whole word of FEED_CFG (R156). -/
def FEED_CFG : Fld := ⟨0x40800, 0, 1, 0x0, 1, 0, 0, 32⟩
/-- IN_USE of FEED_STAT (R156). -/
def FEED_STAT_IN_USE : Fld := ⟨0x40804, 0, 1, 0x0, 1, 0, 0, 1⟩
/-- A_OK of FEED_STAT (R156). -/
def FEED_STAT_A_OK : Fld := ⟨0x40804, 0, 1, 0x0, 1, 0, 1, 1⟩
/-- B_OK of FEED_STAT (R156). -/
def FEED_STAT_B_OK : Fld := ⟨0x40804, 0, 1, 0x0, 1, 0, 2, 1⟩
/-- MOVING of FEED_STAT (R156). -/
def FEED_STAT_MOVING : Fld := ⟨0x40804, 0, 1, 0x0, 1, 0, 3, 1⟩
/-- The whole word of FEED_STAT (R156). -/
def FEED_STAT : Fld := ⟨0x40804, 0, 1, 0x0, 1, 0, 0, 32⟩
/-- COUNT of FEED_SW_CNT (R156). -/
def FEED_SW_CNT_COUNT : Fld := ⟨0x40808, 0, 1, 0x0, 1, 0, 0, 32⟩
/-- The whole word of FEED_SW_CNT (R156). -/
def FEED_SW_CNT : Fld := ⟨0x40808, 0, 1, 0x0, 1, 0, 0, 32⟩
/-- PHASE of RING_STAT (R193). -/
def RING_STAT_PHASE : Fld := ⟨0x41000, 0, 4, 0x100, 1, 0, 0, 2⟩
/-- FF_ACTIVE of RING_STAT (R193). -/
def RING_STAT_FF_ACTIVE : Fld := ⟨0x41000, 0, 4, 0x100, 1, 0, 2, 1⟩
/-- STEP_CHECK of RING_STAT (R193). -/
def RING_STAT_STEP_CHECK : Fld := ⟨0x41000, 0, 4, 0x100, 1, 0, 3, 1⟩
/-- NOT_LOCKED of RING_STAT (R193). -/
def RING_STAT_NOT_LOCKED : Fld := ⟨0x41000, 0, 4, 0x100, 1, 0, 4, 11⟩
/-- The whole word of RING_STAT (R193). -/
def RING_STAT : Fld := ⟨0x41000, 0, 4, 0x100, 1, 0, 0, 32⟩
/-- SEQ of RING_EVT (R193). -/
def RING_EVT_SEQ : Fld := ⟨0x41004, 0, 4, 0x100, 1, 0, 0, 8⟩
/-- SEARCH_DONE of RING_EVT (R193). -/
def RING_EVT_SEARCH_DONE : Fld := ⟨0x41004, 0, 4, 0x100, 1, 0, 8, 1⟩
/-- UNLOCK of RING_EVT (R193). -/
def RING_EVT_UNLOCK : Fld := ⟨0x41004, 0, 4, 0x100, 1, 0, 9, 1⟩
/-- WRONG_LAMBDA of RING_EVT (R193). -/
def RING_EVT_WRONG_LAMBDA : Fld := ⟨0x41004, 0, 4, 0x100, 1, 0, 10, 1⟩
/-- RESEARCH of RING_EVT (R193). -/
def RING_EVT_RESEARCH : Fld := ⟨0x41004, 0, 4, 0x100, 1, 0, 11, 1⟩
/-- SEARCH_FAIL of RING_EVT (R193). -/
def RING_EVT_SEARCH_FAIL : Fld := ⟨0x41004, 0, 4, 0x100, 1, 0, 12, 1⟩
/-- STEP of RING_EVT (R193). -/
def RING_EVT_STEP : Fld := ⟨0x41004, 0, 4, 0x100, 1, 0, 13, 1⟩
/-- LOSS of RING_EVT (R193). -/
def RING_EVT_LOSS : Fld := ⟨0x41004, 0, 4, 0x100, 1, 0, 14, 1⟩
/-- The whole word of RING_EVT (R193). -/
def RING_EVT : Fld := ⟨0x41004, 0, 4, 0x100, 1, 0, 0, 32⟩
/-- INDEX of RING_ADDR (R193). -/
def RING_ADDR_INDEX : Fld := ⟨0x41008, 0, 4, 0x100, 1, 0, 0, 11⟩
/-- AINC of RING_ADDR (R193). -/
def RING_ADDR_AINC : Fld := ⟨0x41008, 0, 4, 0x100, 1, 0, 11, 1⟩
/-- The whole word of RING_ADDR (R193). -/
def RING_ADDR : Fld := ⟨0x41008, 0, 4, 0x100, 1, 0, 0, 32⟩
/-- ASSIGN of RING_DATA (R193). -/
def RING_DATA_ASSIGN : Fld := ⟨0x4100c, 0, 4, 0x100, 1, 0, 0, 5⟩
/-- STATE of RING_DATA (R193). -/
def RING_DATA_STATE : Fld := ⟨0x4100c, 0, 4, 0x100, 1, 0, 5, 3⟩
/-- HEATER of RING_DATA (R193). -/
def RING_DATA_HEATER : Fld := ⟨0x4100c, 0, 4, 0x100, 1, 0, 8, 16⟩
/-- TONE of RING_DATA (R193). -/
def RING_DATA_TONE : Fld := ⟨0x4100c, 0, 4, 0x100, 1, 0, 24, 4⟩
/-- TONE_OK of RING_DATA (R193). -/
def RING_DATA_TONE_OK : Fld := ⟨0x4100c, 0, 4, 0x100, 1, 0, 28, 1⟩
/-- The whole word of RING_DATA (R193). -/
def RING_DATA : Fld := ⟨0x4100c, 0, 4, 0x100, 1, 0, 0, 32⟩
/-- LANE of CIRC_ADDR (R194). -/
def CIRC_ADDR_LANE : Fld := ⟨0x41010, 0, 4, 0x100, 1, 0, 0, 5⟩
/-- The whole word of CIRC_ADDR (R194). -/
def CIRC_ADDR : Fld := ⟨0x41010, 0, 4, 0x100, 1, 0, 0, 32⟩
/-- STATE of CIRC_DATA (R194). -/
def CIRC_DATA_STATE : Fld := ⟨0x41014, 0, 4, 0x100, 1, 0, 0, 3⟩
/-- COLUMN of CIRC_DATA (R194). -/
def CIRC_DATA_COLUMN : Fld := ⟨0x41014, 0, 4, 0x100, 1, 0, 3, 4⟩
/-- WAVE of CIRC_DATA (R194). -/
def CIRC_DATA_WAVE : Fld := ⟨0x41014, 0, 4, 0x100, 1, 0, 7, 4⟩
/-- BRIDGE of CIRC_DATA (R194). -/
def CIRC_DATA_BRIDGE : Fld := ⟨0x41014, 0, 4, 0x100, 1, 0, 11, 3⟩
/-- EXT of CIRC_DATA (R194). -/
def CIRC_DATA_EXT : Fld := ⟨0x41014, 0, 4, 0x100, 1, 0, 14, 1⟩
/-- The whole word of CIRC_DATA (R194). -/
def CIRC_DATA : Fld := ⟨0x41014, 0, 4, 0x100, 1, 0, 0, 32⟩
/-- SEQ of LINK_EVT (R194). -/
def LINK_EVT_SEQ : Fld := ⟨0x41018, 0, 4, 0x100, 1, 0, 0, 8⟩
/-- CIRC_UP of LINK_EVT (R194). -/
def LINK_EVT_CIRC_UP : Fld := ⟨0x41018, 0, 4, 0x100, 1, 0, 8, 1⟩
/-- CIRC_DOWN of LINK_EVT (R194). -/
def LINK_EVT_CIRC_DOWN : Fld := ⟨0x41018, 0, 4, 0x100, 1, 0, 9, 1⟩
/-- TRAIN_FAIL of LINK_EVT (R194). -/
def LINK_EVT_TRAIN_FAIL : Fld := ⟨0x41018, 0, 4, 0x100, 1, 0, 10, 1⟩
/-- CW_UE of LINK_EVT (R194). -/
def LINK_EVT_CW_UE : Fld := ⟨0x41018, 0, 4, 0x100, 1, 0, 11, 1⟩
/-- BRIDGE_LOST of LINK_EVT (R194). -/
def LINK_EVT_BRIDGE_LOST : Fld := ⟨0x41018, 0, 4, 0x100, 1, 0, 12, 1⟩
/-- EXT_LOST of LINK_EVT (R194). -/
def LINK_EVT_EXT_LOST : Fld := ⟨0x41018, 0, 4, 0x100, 1, 0, 13, 1⟩
/-- The whole word of LINK_EVT (R194). -/
def LINK_EVT : Fld := ⟨0x41018, 0, 4, 0x100, 1, 0, 0, 32⟩
/-- COUNT of CW_CE_CNT (R194). -/
def CW_CE_CNT_COUNT : Fld := ⟨0x4101c, 0, 4, 0x100, 1, 0, 0, 32⟩
/-- The whole word of CW_CE_CNT (R194). -/
def CW_CE_CNT : Fld := ⟨0x4101c, 0, 4, 0x100, 1, 0, 0, 32⟩
/-- COUNT of CW_UE_CNT (R194). -/
def CW_UE_CNT_COUNT : Fld := ⟨0x41020, 0, 4, 0x100, 1, 0, 0, 32⟩
/-- The whole word of CW_UE_CNT (R194). -/
def CW_UE_CNT : Fld := ⟨0x41020, 0, 4, 0x100, 1, 0, 0, 32⟩
/-- INDEX of MON_ADDR (R195). -/
def MON_ADDR_INDEX : Fld := ⟨0x41024, 0, 4, 0x100, 1, 0, 0, 7⟩
/-- The whole word of MON_ADDR (R195). -/
def MON_ADDR : Fld := ⟨0x41024, 0, 4, 0x100, 1, 0, 0, 32⟩
/-- POWER of MON_DATA (R195). -/
def MON_DATA_POWER : Fld := ⟨0x41028, 0, 4, 0x100, 1, 0, 0, 16⟩
/-- LOCK_POWER of MON_DATA (R195). -/
def MON_DATA_LOCK_POWER : Fld := ⟨0x41028, 0, 4, 0x100, 1, 0, 16, 16⟩
/-- The whole word of MON_DATA (R195). -/
def MON_DATA : Fld := ⟨0x41028, 0, 4, 0x100, 1, 0, 0, 32⟩
/-- FF_RISE of RING_CFG (R196). -/
def RING_CFG_FF_RISE : Fld := ⟨0x41400, 0, 1, 0x0, 1, 0, 0, 8⟩
/-- FF_EN of RING_CFG (R196). -/
def RING_CFG_FF_EN : Fld := ⟨0x41400, 0, 1, 0x0, 1, 0, 8, 1⟩
/-- LOSS_DB of RING_CFG (R196). -/
def RING_CFG_LOSS_DB : Fld := ⟨0x41400, 0, 1, 0x0, 1, 0, 16, 8⟩
/-- The whole word of RING_CFG (R196). -/
def RING_CFG : Fld := ⟨0x41400, 0, 1, 0x0, 1, 0, 0, 32⟩
/-- STAGE of LOSS_LOC (R196). -/
def LOSS_LOC_STAGE : Fld := ⟨0x41404, 0, 1, 0x0, 1, 0, 0, 4⟩
/-- CHIPLET of LOSS_LOC (R196). -/
def LOSS_LOC_CHIPLET : Fld := ⟨0x41404, 0, 1, 0x0, 1, 0, 4, 2⟩
/-- INDEX of LOSS_LOC (R196). -/
def LOSS_LOC_INDEX : Fld := ⟨0x41404, 0, 1, 0x0, 1, 0, 6, 7⟩
/-- EXT of LOSS_LOC (R196). -/
def LOSS_LOC_EXT : Fld := ⟨0x41404, 0, 1, 0x0, 1, 0, 13, 1⟩
/-- The whole word of LOSS_LOC (R196). -/
def LOSS_LOC : Fld := ⟨0x41404, 0, 1, 0x0, 1, 0, 0, 32⟩
/-- COUNT of LOSS_CNT (R196). -/
def LOSS_CNT_COUNT : Fld := ⟨0x41408, 0, 1, 0x0, 1, 0, 0, 32⟩
/-- The whole word of LOSS_CNT (R196). -/
def LOSS_CNT : Fld := ⟨0x41408, 0, 1, 0x0, 1, 0, 0, 32⟩
/-- CAPTAIN of HALF_CFG (R196). -/
def HALF_CFG_CAPTAIN : Fld := ⟨0x41410, 0, 1, 0x0, 1, 0, 0, 1⟩
/-- SPLIT_CONFIRM of HALF_CFG (R196). -/
def HALF_CFG_SPLIT_CONFIRM : Fld := ⟨0x41410, 0, 1, 0x0, 1, 0, 8, 8⟩
/-- RETURN_STABLE of HALF_CFG (R196). -/
def HALF_CFG_RETURN_STABLE : Fld := ⟨0x41410, 0, 1, 0x0, 1, 0, 16, 16⟩
/-- The whole word of HALF_CFG (R196). -/
def HALF_CFG : Fld := ⟨0x41410, 0, 1, 0x0, 1, 0, 0, 32⟩
/-- SPLIT of HALF_STAT (R196). -/
def HALF_STAT_SPLIT : Fld := ⟨0x41414, 0, 1, 0x0, 1, 0, 0, 1⟩
/-- SB_W_OK of HALF_STAT (R196). -/
def HALF_STAT_SB_W_OK : Fld := ⟨0x41414, 0, 1, 0x0, 1, 0, 1, 1⟩
/-- SB_E_OK of HALF_STAT (R196). -/
def HALF_STAT_SB_E_OK : Fld := ⟨0x41414, 0, 1, 0x0, 1, 0, 2, 1⟩
/-- SELF_RULE of HALF_STAT (R196). -/
def HALF_STAT_SELF_RULE : Fld := ⟨0x41414, 0, 1, 0x0, 1, 0, 3, 1⟩
/-- CAPTAIN_REJ of HALF_STAT (R196). -/
def HALF_STAT_CAPTAIN_REJ : Fld := ⟨0x41414, 0, 1, 0x0, 1, 0, 4, 1⟩
/-- BRIDGES_UP of HALF_STAT (R196). -/
def HALF_STAT_BRIDGES_UP : Fld := ⟨0x41414, 0, 1, 0x0, 1, 0, 8, 4⟩
/-- The whole word of HALF_STAT (R196). -/
def HALF_STAT : Fld := ⟨0x41414, 0, 1, 0x0, 1, 0, 0, 32⟩
/-- OUT of BRIDGE_STAT_b (R196). -/
def BRIDGE_STAT_OUT : Fld := ⟨0x41420, 0, 16, 0x4, 1, 0, 0, 4⟩
/-- IN of BRIDGE_STAT_b (R196). -/
def BRIDGE_STAT_IN : Fld := ⟨0x41420, 0, 16, 0x4, 1, 0, 4, 4⟩
/-- QUEUE of BRIDGE_STAT_b (R196). -/
def BRIDGE_STAT_QUEUE : Fld := ⟨0x41420, 0, 16, 0x4, 1, 0, 8, 7⟩
/-- ROUTED_EXT of BRIDGE_STAT_b (R196). -/
def BRIDGE_STAT_ROUTED_EXT : Fld := ⟨0x41420, 0, 16, 0x4, 1, 0, 16, 1⟩
/-- The whole word of BRIDGE_STAT_b (R196). -/
def BRIDGE_STAT : Fld := ⟨0x41420, 0, 16, 0x4, 1, 0, 0, 32⟩
/-- ROUTE of BRIDGE_CFG_b (R196). -/
def BRIDGE_CFG_ROUTE : Fld := ⟨0x41460, 0, 16, 0x4, 1, 0, 0, 1⟩
/-- EXT_SEL of BRIDGE_CFG_b (R196). -/
def BRIDGE_CFG_EXT_SEL : Fld := ⟨0x41460, 0, 16, 0x4, 1, 0, 1, 1⟩
/-- The whole word of BRIDGE_CFG_b (R196). -/
def BRIDGE_CFG : Fld := ⟨0x41460, 0, 16, 0x4, 1, 0, 0, 32⟩
/-- EN of EXT_CFG_e (R196). -/
def EXT_CFG_EN : Fld := ⟨0x414a0, 0, 8, 0x4, 1, 0, 0, 1⟩
/-- MIN of EXT_CFG_e (R196). -/
def EXT_CFG_MIN : Fld := ⟨0x414a0, 0, 8, 0x4, 1, 0, 1, 3⟩
/-- The whole word of EXT_CFG_e (R196). -/
def EXT_CFG : Fld := ⟨0x414a0, 0, 8, 0x4, 1, 0, 0, 32⟩
/-- DT_TRIG of CAL_CFG (R221). -/
def CAL_CFG_DT_TRIG : Fld := ⟨0x50000, 0, 1, 0x0, 1, 0, 0, 8⟩
/-- DRIFT_COMP of CAL_CFG (R221). -/
def CAL_CFG_DRIFT_COMP : Fld := ⟨0x50000, 0, 1, 0x0, 1, 0, 8, 1⟩
/-- AGE_TRIG of CAL_CFG (R221). -/
def CAL_CFG_AGE_TRIG : Fld := ⟨0x50000, 0, 1, 0x0, 1, 0, 16, 16⟩
/-- The whole word of CAL_CFG (R221). -/
def CAL_CFG : Fld := ⟨0x50000, 0, 1, 0x0, 1, 0, 0, 32⟩
/-- THRESH of CAL_THRESH (R221). -/
def CAL_THRESH_THRESH : Fld := ⟨0x50004, 0, 1, 0x0, 1, 0, 0, 8⟩
/-- The whole word of CAL_THRESH (R221). -/
def CAL_THRESH : Fld := ⟨0x50004, 0, 1, 0x0, 1, 0, 0, 32⟩
/-- FIRST of CAL_STAT (R221). -/
def CAL_STAT_FIRST : Fld := ⟨0x50008, 0, 1, 0x0, 1, 0, 0, 2⟩
/-- RESTORED of CAL_STAT (R221). -/
def CAL_STAT_RESTORED : Fld := ⟨0x50008, 0, 1, 0x0, 1, 0, 2, 1⟩
/-- Q_DONE of CAL_STAT (R221). -/
def CAL_STAT_Q_DONE : Fld := ⟨0x50008, 0, 1, 0x0, 1, 0, 8, 8⟩
/-- The whole word of CAL_STAT (R221). -/
def CAL_STAT : Fld := ⟨0x50008, 0, 1, 0x0, 1, 0, 0, 32⟩
/-- SEQ of CAL_EVT (R221). -/
def CAL_EVT_SEQ : Fld := ⟨0x5000c, 0, 1, 0x0, 1, 0, 0, 8⟩
/-- FIRST_DONE of CAL_EVT (R221). -/
def CAL_EVT_FIRST_DONE : Fld := ⟨0x5000c, 0, 1, 0x0, 1, 0, 8, 1⟩
/-- RUN_DONE of CAL_EVT (R221). -/
def CAL_EVT_RUN_DONE : Fld := ⟨0x5000c, 0, 1, 0x0, 1, 0, 9, 1⟩
/-- HW_START of CAL_EVT (R221). -/
def CAL_EVT_HW_START : Fld := ⟨0x5000c, 0, 1, 0x0, 1, 0, 10, 1⟩
/-- HW_DONE of CAL_EVT (R221). -/
def CAL_EVT_HW_DONE : Fld := ⟨0x5000c, 0, 1, 0x0, 1, 0, 11, 1⟩
/-- WITHDRAW of CAL_EVT (R221). -/
def CAL_EVT_WITHDRAW : Fld := ⟨0x5000c, 0, 1, 0x0, 1, 0, 12, 1⟩
/-- HW_STUCK of CAL_EVT (R221). -/
def CAL_EVT_HW_STUCK : Fld := ⟨0x5000c, 0, 1, 0x0, 1, 0, 13, 1⟩
/-- FORCED of CAL_EVT (R221). -/
def CAL_EVT_FORCED : Fld := ⟨0x5000c, 0, 1, 0x0, 1, 0, 14, 1⟩
/-- The whole word of CAL_EVT (R221). -/
def CAL_EVT : Fld := ⟨0x5000c, 0, 1, 0x0, 1, 0, 0, 32⟩
/-- HW_RESERVE of HW_CFG (R221). -/
def HW_CFG_HW_RESERVE : Fld := ⟨0x50010, 0, 1, 0x0, 1, 0, 0, 4⟩
/-- HW_MAX of HW_CFG (R221). -/
def HW_CFG_HW_MAX : Fld := ⟨0x50010, 0, 1, 0x0, 1, 0, 4, 4⟩
/-- The whole word of HW_CFG (R221). -/
def HW_CFG : Fld := ⟨0x50010, 0, 1, 0x0, 1, 0, 0, 32⟩
/-- IN_HW of HW_STAT (R221). -/
def HW_STAT_IN_HW : Fld := ⟨0x50014, 0, 1, 0x0, 1, 0, 0, 7⟩
/-- WITHDRAWN of HW_STAT (R221). -/
def HW_STAT_WITHDRAWN : Fld := ⟨0x50014, 0, 1, 0x0, 1, 0, 16, 13⟩
/-- The whole word of HW_STAT (R221). -/
def HW_STAT : Fld := ⟨0x50014, 0, 1, 0x0, 1, 0, 0, 32⟩
/-- SHARE of CAL_SHARE (R221). -/
def CAL_SHARE_SHARE : Fld := ⟨0x50018, 0, 1, 0x0, 1, 0, 0, 5⟩
/-- The whole word of CAL_SHARE (R221). -/
def CAL_SHARE : Fld := ⟨0x50018, 0, 1, 0x0, 1, 0, 0, 32⟩
/-- STATE of QCAL_STAT (R222). -/
def QCAL_STAT_STATE : Fld := ⟨0x4080000, 4, 8, 0x100, 1, 0, 0, 2⟩
/-- CAUSE of QCAL_STAT (R222). -/
def QCAL_STAT_CAUSE : Fld := ⟨0x4080000, 4, 8, 0x100, 1, 0, 2, 3⟩
/-- PENDING of QCAL_STAT (R222). -/
def QCAL_STAT_PENDING : Fld := ⟨0x4080000, 4, 8, 0x100, 1, 0, 5, 1⟩
/-- QSTALE of QCAL_STAT (R222). -/
def QCAL_STAT_QSTALE : Fld := ⟨0x4080000, 4, 8, 0x100, 1, 0, 6, 1⟩
/-- ROUND of QCAL_STAT (R222). -/
def QCAL_STAT_ROUND : Fld := ⟨0x4080000, 4, 8, 0x100, 1, 0, 7, 3⟩
/-- The whole word of QCAL_STAT (R222). -/
def QCAL_STAT : Fld := ⟨0x4080000, 4, 8, 0x100, 1, 0, 0, 32⟩
/-- MEAN of QCAL_TEMP (R222). -/
def QCAL_TEMP_MEAN : Fld := ⟨0x4080004, 4, 8, 0x100, 1, 0, 0, 16⟩
/-- LAST of QCAL_TEMP (R222). -/
def QCAL_TEMP_LAST : Fld := ⟨0x4080004, 4, 8, 0x100, 1, 0, 16, 16⟩
/-- The whole word of QCAL_TEMP (R222). -/
def QCAL_TEMP : Fld := ⟨0x4080004, 4, 8, 0x100, 1, 0, 0, 32⟩
/-- COUNT of QCAL_CNT (R222). -/
def QCAL_CNT_COUNT : Fld := ⟨0x4080008, 4, 8, 0x100, 1, 0, 0, 32⟩
/-- The whole word of QCAL_CNT (R222). -/
def QCAL_CNT : Fld := ⟨0x4080008, 4, 8, 0x100, 1, 0, 0, 32⟩
/-- TIME_LO of QCAL_TIME_LO (R222). -/
def QCAL_TIME_LO_TIME_LO : Fld := ⟨0x408000c, 4, 8, 0x100, 1, 0, 0, 32⟩
/-- The whole word of QCAL_TIME_LO (R222). -/
def QCAL_TIME_LO : Fld := ⟨0x408000c, 4, 8, 0x100, 1, 0, 0, 32⟩
/-- TIME_HI of QCAL_TIME_HI (R222). -/
def QCAL_TIME_HI_TIME_HI : Fld := ⟨0x4080010, 4, 8, 0x100, 1, 0, 0, 32⟩
/-- The whole word of QCAL_TIME_HI (R222). -/
def QCAL_TIME_HI : Fld := ⟨0x4080010, 4, 8, 0x100, 1, 0, 0, 32⟩
/-- EST of QCAL_MAXEST (R222). -/
def QCAL_MAXEST_EST : Fld := ⟨0x4080014, 4, 8, 0x100, 1, 0, 0, 16⟩
/-- TILE of QCAL_MAXEST (R222). -/
def QCAL_MAXEST_TILE : Fld := ⟨0x4080014, 4, 8, 0x100, 1, 0, 16, 9⟩
/-- The whole word of QCAL_MAXEST (R222). -/
def QCAL_MAXEST : Fld := ⟨0x4080014, 4, 8, 0x100, 1, 0, 0, 32⟩
/-- RUN_START of QCAL_CMD (R222). -/
def QCAL_CMD_RUN_START : Fld := ⟨0x4080018, 4, 8, 0x100, 1, 0, 0, 1⟩
/-- The whole word of QCAL_CMD (R222). -/
def QCAL_CMD : Fld := ⟨0x4080018, 4, 8, 0x100, 1, 0, 0, 32⟩
/-- BANK of TCAL_STAT (R223). -/
def TCAL_STAT_BANK : Fld := ⟨0x4100020, 2048, 4096, 0x200, 1, 0, 0, 1⟩
/-- TABLE of TCAL_STAT (R223). -/
def TCAL_STAT_TABLE : Fld := ⟨0x4100020, 2048, 4096, 0x200, 1, 0, 1, 2⟩
/-- STALE of TCAL_STAT (R223). -/
def TCAL_STAT_STALE : Fld := ⟨0x4100020, 2048, 4096, 0x200, 1, 0, 3, 1⟩
/-- FORCED of TCAL_STAT (R223). -/
def TCAL_STAT_FORCED : Fld := ⟨0x4100020, 2048, 4096, 0x200, 1, 0, 4, 1⟩
/-- SVC of TCAL_STAT (R223). -/
def TCAL_STAT_SVC : Fld := ⟨0x4100020, 2048, 4096, 0x200, 1, 0, 5, 3⟩
/-- PATH of TCAL_STAT (R223). -/
def TCAL_STAT_PATH : Fld := ⟨0x4100020, 2048, 4096, 0x200, 1, 0, 8, 2⟩
/-- WHY of TCAL_STAT (R223). -/
def TCAL_STAT_WHY : Fld := ⟨0x4100020, 2048, 4096, 0x200, 1, 0, 10, 4⟩
/-- The whole word of TCAL_STAT (R223). -/
def TCAL_STAT : Fld := ⟨0x4100020, 2048, 4096, 0x200, 1, 0, 0, 32⟩
/-- GAIN of LIVE_GAIN (R223). -/
def LIVE_GAIN_GAIN : Fld := ⟨0x4100024, 2048, 4096, 0x200, 1, 0, 0, 16⟩
/-- The whole word of LIVE_GAIN (R223). -/
def LIVE_GAIN : Fld := ⟨0x4100024, 2048, 4096, 0x200, 1, 0, 0, 32⟩
/-- EST of TCAL_EST (R223). -/
def TCAL_EST_EST : Fld := ⟨0x4100028, 2048, 4096, 0x200, 1, 0, 0, 16⟩
/-- NOISE of TCAL_EST (R223). -/
def TCAL_EST_NOISE : Fld := ⟨0x4100028, 2048, 4096, 0x200, 1, 0, 16, 16⟩
/-- The whole word of TCAL_EST (R223). -/
def TCAL_EST : Fld := ⟨0x4100028, 2048, 4096, 0x200, 1, 0, 0, 32⟩
/-- LN of DRIFT_LN (R223). -/
def DRIFT_LN_LN : Fld := ⟨0x410002c, 2048, 4096, 0x200, 1, 0, 0, 16⟩
/-- The whole word of DRIFT_LN (R223). -/
def DRIFT_LN : Fld := ⟨0x410002c, 2048, 4096, 0x200, 1, 0, 0, 32⟩
/-- INDEX of TCAL_ADDR (R223). -/
def TCAL_ADDR_INDEX : Fld := ⟨0x4100030, 2048, 4096, 0x200, 1, 0, 0, 9⟩
/-- BANK of TCAL_ADDR (R223). -/
def TCAL_ADDR_BANK : Fld := ⟨0x4100030, 2048, 4096, 0x200, 1, 0, 9, 1⟩
/-- AINC of TCAL_ADDR (R223). -/
def TCAL_ADDR_AINC : Fld := ⟨0x4100030, 2048, 4096, 0x200, 1, 0, 10, 1⟩
/-- The whole word of TCAL_ADDR (R223). -/
def TCAL_ADDR : Fld := ⟨0x4100030, 2048, 4096, 0x200, 1, 0, 0, 32⟩
/-- DAC_0 of ROWDRV_MAP (R223). -/
def ROWDRV_MAP_DAC_0 : Fld := ⟨0x4100038, 2048, 4096, 0x200, 1, 0, 0, 6⟩
/-- EN_0 of ROWDRV_MAP (R223). -/
def ROWDRV_MAP_EN_0 : Fld := ⟨0x4100038, 2048, 4096, 0x200, 1, 0, 7, 1⟩
/-- DAC_1 of ROWDRV_MAP (R223). -/
def ROWDRV_MAP_DAC_1 : Fld := ⟨0x4100038, 2048, 4096, 0x200, 1, 0, 8, 6⟩
/-- EN_1 of ROWDRV_MAP (R223). -/
def ROWDRV_MAP_EN_1 : Fld := ⟨0x4100038, 2048, 4096, 0x200, 1, 0, 15, 1⟩
/-- DAC_2 of ROWDRV_MAP (R223). -/
def ROWDRV_MAP_DAC_2 : Fld := ⟨0x4100038, 2048, 4096, 0x200, 1, 0, 16, 6⟩
/-- EN_2 of ROWDRV_MAP (R223). -/
def ROWDRV_MAP_EN_2 : Fld := ⟨0x4100038, 2048, 4096, 0x200, 1, 0, 23, 1⟩
/-- DAC_3 of ROWDRV_MAP (R223). -/
def ROWDRV_MAP_DAC_3 : Fld := ⟨0x4100038, 2048, 4096, 0x200, 1, 0, 24, 6⟩
/-- EN_3 of ROWDRV_MAP (R223). -/
def ROWDRV_MAP_EN_3 : Fld := ⟨0x4100038, 2048, 4096, 0x200, 1, 0, 31, 1⟩
/-- The whole word of ROWDRV_MAP (R223). -/
def ROWDRV_MAP : Fld := ⟨0x4100038, 2048, 4096, 0x200, 1, 0, 0, 32⟩
/-- DATA of TCAL_DATA (R224). -/
def TCAL_DATA_DATA : Fld := ⟨0x4100034, 2048, 4096, 0x200, 1, 0, 0, 32⟩
/-- The whole word of TCAL_DATA (R224). -/
def TCAL_DATA : Fld := ⟨0x4100034, 2048, 4096, 0x200, 1, 0, 0, 32⟩
/-- SWAP_WAIT of TCAL_SWAP (R223). -/
def TCAL_SWAP_SWAP_WAIT : Fld := ⟨0x410003c, 2048, 4096, 0x200, 1, 0, 0, 8⟩
/-- PROD_PER_BATCH of TCAL_SWAP (R223). -/
def TCAL_SWAP_PROD_PER_BATCH : Fld := ⟨0x410003c, 2048, 4096, 0x200, 1, 0, 16, 9⟩
/-- The whole word of TCAL_SWAP (R223). -/
def TCAL_SWAP : Fld := ⟨0x410003c, 2048, 4096, 0x200, 1, 0, 0, 32⟩
/-- LEG0_0 of LEG_MAP_k (R223). -/
def LEG_MAP_LEG0_0 : Fld := ⟨0x41000a0, 2048, 4096, 0x200, 18, 4, 0, 3⟩
/-- EN0_0 of LEG_MAP_k (R223). -/
def LEG_MAP_EN0_0 : Fld := ⟨0x41000a0, 2048, 4096, 0x200, 18, 4, 3, 1⟩
/-- LEG1_0 of LEG_MAP_k (R223). -/
def LEG_MAP_LEG1_0 : Fld := ⟨0x41000a0, 2048, 4096, 0x200, 18, 4, 4, 3⟩
/-- EN1_0 of LEG_MAP_k (R223). -/
def LEG_MAP_EN1_0 : Fld := ⟨0x41000a0, 2048, 4096, 0x200, 18, 4, 7, 1⟩
/-- LEG0_1 of LEG_MAP_k (R223). -/
def LEG_MAP_LEG0_1 : Fld := ⟨0x41000a0, 2048, 4096, 0x200, 18, 4, 8, 3⟩
/-- EN0_1 of LEG_MAP_k (R223). -/
def LEG_MAP_EN0_1 : Fld := ⟨0x41000a0, 2048, 4096, 0x200, 18, 4, 11, 1⟩
/-- LEG1_1 of LEG_MAP_k (R223). -/
def LEG_MAP_LEG1_1 : Fld := ⟨0x41000a0, 2048, 4096, 0x200, 18, 4, 12, 3⟩
/-- EN1_1 of LEG_MAP_k (R223). -/
def LEG_MAP_EN1_1 : Fld := ⟨0x41000a0, 2048, 4096, 0x200, 18, 4, 15, 1⟩
/-- LEG0_2 of LEG_MAP_k (R223). -/
def LEG_MAP_LEG0_2 : Fld := ⟨0x41000a0, 2048, 4096, 0x200, 18, 4, 16, 3⟩
/-- EN0_2 of LEG_MAP_k (R223). -/
def LEG_MAP_EN0_2 : Fld := ⟨0x41000a0, 2048, 4096, 0x200, 18, 4, 19, 1⟩
/-- LEG1_2 of LEG_MAP_k (R223). -/
def LEG_MAP_LEG1_2 : Fld := ⟨0x41000a0, 2048, 4096, 0x200, 18, 4, 20, 3⟩
/-- EN1_2 of LEG_MAP_k (R223). -/
def LEG_MAP_EN1_2 : Fld := ⟨0x41000a0, 2048, 4096, 0x200, 18, 4, 23, 1⟩
/-- LEG0_3 of LEG_MAP_k (R223). -/
def LEG_MAP_LEG0_3 : Fld := ⟨0x41000a0, 2048, 4096, 0x200, 18, 4, 24, 3⟩
/-- EN0_3 of LEG_MAP_k (R223). -/
def LEG_MAP_EN0_3 : Fld := ⟨0x41000a0, 2048, 4096, 0x200, 18, 4, 27, 1⟩
/-- LEG1_3 of LEG_MAP_k (R223). -/
def LEG_MAP_LEG1_3 : Fld := ⟨0x41000a0, 2048, 4096, 0x200, 18, 4, 28, 3⟩
/-- EN1_3 of LEG_MAP_k (R223). -/
def LEG_MAP_EN1_3 : Fld := ⟨0x41000a0, 2048, 4096, 0x200, 18, 4, 31, 1⟩
/-- The whole word of LEG_MAP_k (R223). -/
def LEG_MAP : Fld := ⟨0x41000a0, 2048, 4096, 0x200, 18, 4, 0, 32⟩
/-- PROG_REF of TCAL_PROG (R223). -/
def TCAL_PROG_PROG_REF : Fld := ⟨0x41000e8, 2048, 4096, 0x200, 1, 0, 0, 16⟩
/-- PROG_ERR of TCAL_PROG (R223). -/
def TCAL_PROG_PROG_ERR : Fld := ⟨0x41000e8, 2048, 4096, 0x200, 1, 0, 16, 16⟩
/-- The whole word of TCAL_PROG (R223). -/
def TCAL_PROG : Fld := ⟨0x41000e8, 2048, 4096, 0x200, 1, 0, 0, 32⟩
/-- RB_PERIOD of WSET_CFG (R253). -/
def WSET_CFG_RB_PERIOD : Fld := ⟨0x51000, 0, 1, 0x0, 1, 0, 0, 16⟩
/-- RB_EN of WSET_CFG (R253). -/
def WSET_CFG_RB_EN : Fld := ⟨0x51000, 0, 1, 0x0, 1, 0, 16, 1⟩
/-- The whole word of WSET_CFG (R253). -/
def WSET_CFG : Fld := ⟨0x51000, 0, 1, 0x0, 1, 0, 0, 32⟩
/-- SEQ of WSET_EVT (R253). -/
def WSET_EVT_SEQ : Fld := ⟨0x51004, 0, 1, 0x0, 1, 0, 0, 8⟩
/-- SHARD_REJ of WSET_EVT (R253). -/
def WSET_EVT_SHARD_REJ : Fld := ⟨0x51004, 0, 1, 0x0, 1, 0, 8, 1⟩
/-- SET_HELD of WSET_EVT (R253). -/
def WSET_EVT_SET_HELD : Fld := ⟨0x51004, 0, 1, 0x0, 1, 0, 9, 1⟩
/-- STORE_BAD of WSET_EVT (R253). -/
def WSET_EVT_STORE_BAD : Fld := ⟨0x51004, 0, 1, 0x0, 1, 0, 10, 1⟩
/-- READY of WSET_EVT (R253). -/
def WSET_EVT_READY : Fld := ⟨0x51004, 0, 1, 0x0, 1, 0, 11, 1⟩
/-- BELL of WSET_EVT (R253). -/
def WSET_EVT_BELL : Fld := ⟨0x51004, 0, 1, 0x0, 1, 0, 12, 1⟩
/-- RETIRED of WSET_EVT (R253). -/
def WSET_EVT_RETIRED : Fld := ⟨0x51004, 0, 1, 0x0, 1, 0, 13, 1⟩
/-- STAGE_FAIL of WSET_EVT (R253). -/
def WSET_EVT_STAGE_FAIL : Fld := ⟨0x51004, 0, 1, 0x0, 1, 0, 14, 1⟩
/-- RB_FAIL of WSET_EVT (R253). -/
def WSET_EVT_RB_FAIL : Fld := ⟨0x51004, 0, 1, 0x0, 1, 0, 15, 1⟩
/-- GEN_DROP of WSET_EVT (R253). -/
def WSET_EVT_GEN_DROP : Fld := ⟨0x51004, 0, 1, 0x0, 1, 0, 16, 1⟩
/-- The whole word of WSET_EVT (R253). -/
def WSET_EVT : Fld := ⟨0x51004, 0, 1, 0x0, 1, 0, 0, 32⟩
/-- STATE of WSET_SLOT_s (R254). -/
def WSET_SLOT_STATE : Fld := ⟨0x51010, 0, 8, 0x4, 1, 0, 0, 2⟩
/-- MOD_INDEX of WSET_SLOT_s (R254). -/
def WSET_SLOT_MOD_INDEX : Fld := ⟨0x51010, 0, 8, 0x4, 1, 0, 2, 4⟩
/-- JOBS of WSET_SLOT_s (R254). -/
def WSET_SLOT_JOBS : Fld := ⟨0x51010, 0, 8, 0x4, 1, 0, 16, 16⟩
/-- The whole word of WSET_SLOT_s (R254). -/
def WSET_SLOT : Fld := ⟨0x51010, 0, 8, 0x4, 1, 0, 0, 32⟩
/-- WSET_ID of WSET_SLOT_ID_s (R254). -/
def WSET_SLOT_ID_WSET_ID : Fld := ⟨0x51030, 0, 8, 0x4, 1, 0, 0, 32⟩
/-- The whole word of WSET_SLOT_ID_s (R254). -/
def WSET_SLOT_ID : Fld := ⟨0x51030, 0, 8, 0x4, 1, 0, 0, 32⟩
/-- SLOT of WSET_JOB_j (R254). -/
def WSET_JOB_SLOT : Fld := ⟨0x51060, 0, 16, 0x4, 1, 0, 0, 3⟩
/-- NEW_SLOT of WSET_JOB_j (R254). -/
def WSET_JOB_NEW_SLOT : Fld := ⟨0x51060, 0, 16, 0x4, 1, 0, 3, 3⟩
/-- STAGE of WSET_JOB_j (R254). -/
def WSET_JOB_STAGE : Fld := ⟨0x51060, 0, 16, 0x4, 1, 0, 6, 3⟩
/-- GEN of WSET_JOB_j (R254). -/
def WSET_JOB_GEN : Fld := ⟨0x51060, 0, 16, 0x4, 1, 0, 9, 4⟩
/-- COPIES of WSET_JOB_j (R254). -/
def WSET_JOB_COPIES : Fld := ⟨0x51060, 0, 16, 0x4, 1, 0, 13, 13⟩
/-- AUTO of WSET_JOB_j (R254). -/
def WSET_JOB_AUTO : Fld := ⟨0x51060, 0, 16, 0x4, 1, 0, 26, 1⟩
/-- The whole word of WSET_JOB_j (R254). -/
def WSET_JOB : Fld := ⟨0x51060, 0, 16, 0x4, 1, 0, 0, 32⟩
/-- COUNT of RB_CNT (R254). -/
def RB_CNT_COUNT : Fld := ⟨0x510a0, 0, 1, 0x0, 1, 0, 0, 32⟩
/-- The whole word of RB_CNT (R254). -/
def RB_CNT : Fld := ⟨0x510a0, 0, 1, 0x0, 1, 0, 0, 32⟩
/-- COUNT of RB_FAIL_CNT (R254). -/
def RB_FAIL_CNT_COUNT : Fld := ⟨0x510a4, 0, 1, 0x0, 1, 0, 0, 32⟩
/-- The whole word of RB_FAIL_CNT (R254). -/
def RB_FAIL_CNT : Fld := ⟨0x510a4, 0, 1, 0x0, 1, 0, 0, 32⟩
/-- TILE of RB_LAST (R254). -/
def RB_LAST_TILE : Fld := ⟨0x510a8, 0, 1, 0x0, 1, 0, 0, 12⟩
/-- CELLS of RB_LAST (R254). -/
def RB_LAST_CELLS : Fld := ⟨0x510a8, 0, 1, 0x0, 1, 0, 12, 16⟩
/-- The whole word of RB_LAST (R254). -/
def RB_LAST : Fld := ⟨0x510a8, 0, 1, 0x0, 1, 0, 0, 32⟩
/-- EN of RX_CFG_p (R286). -/
def RX_CFG_EN : Fld := ⟨0x60000, 0, 12, 0x4, 1, 0, 0, 1⟩
/-- LANES of RX_CFG_p (R286). -/
def RX_CFG_LANES : Fld := ⟨0x60000, 0, 12, 0x4, 1, 0, 1, 2⟩
/-- The whole word of RX_CFG_p (R286). -/
def RX_CFG : Fld := ⟨0x60000, 0, 12, 0x4, 1, 0, 0, 32⟩
/-- HS_ACTIVE of RX_STAT_p (R286). -/
def RX_STAT_HS_ACTIVE : Fld := ⟨0x60040, 0, 12, 0x4, 1, 0, 0, 1⟩
/-- DESKEWED of RX_STAT_p (R286). -/
def RX_STAT_DESKEWED : Fld := ⟨0x60040, 0, 12, 0x4, 1, 0, 1, 1⟩
/-- ULPS of RX_STAT_p (R286). -/
def RX_STAT_ULPS : Fld := ⟨0x60040, 0, 12, 0x4, 1, 0, 2, 1⟩
/-- ECC_CE of RX_STAT_p (R286). -/
def RX_STAT_ECC_CE : Fld := ⟨0x60040, 0, 12, 0x4, 1, 0, 8, 8⟩
/-- CRC_CNT of RX_STAT_p (R286). -/
def RX_STAT_CRC_CNT : Fld := ⟨0x60040, 0, 12, 0x4, 1, 0, 16, 8⟩
/-- The whole word of RX_STAT_p (R286). -/
def RX_STAT : Fld := ⟨0x60040, 0, 12, 0x4, 1, 0, 0, 32⟩
/-- SEQ of RX_EVT (R286). -/
def RX_EVT_SEQ : Fld := ⟨0x60080, 0, 1, 0x0, 1, 0, 0, 8⟩
/-- ECC_UE of RX_EVT (R286). -/
def RX_EVT_ECC_UE : Fld := ⟨0x60080, 0, 1, 0x0, 1, 0, 8, 1⟩
/-- CRC_ERR of RX_EVT (R286). -/
def RX_EVT_CRC_ERR : Fld := ⟨0x60080, 0, 1, 0x0, 1, 0, 9, 1⟩
/-- DTYPE_BAD of RX_EVT (R286). -/
def RX_EVT_DTYPE_BAD : Fld := ⟨0x60080, 0, 1, 0x0, 1, 0, 10, 1⟩
/-- VC_UNUSED of RX_EVT (R286). -/
def RX_EVT_VC_UNUSED : Fld := ⟨0x60080, 0, 1, 0x0, 1, 0, 11, 1⟩
/-- BULK_UNARMED of RX_EVT (R286). -/
def RX_EVT_BULK_UNARMED : Fld := ⟨0x60080, 0, 1, 0x0, 1, 0, 12, 1⟩
/-- CFG_REJ of RX_EVT (R286). -/
def RX_EVT_CFG_REJ : Fld := ⟨0x60080, 0, 1, 0x0, 1, 0, 13, 1⟩
/-- LNUM_ERR of RX_EVT (R286). -/
def RX_EVT_LNUM_ERR : Fld := ⟨0x60080, 0, 1, 0x0, 1, 0, 14, 1⟩
/-- PORT of RX_EVT (R286). -/
def RX_EVT_PORT : Fld := ⟨0x60080, 0, 1, 0x0, 1, 0, 24, 4⟩
/-- The whole word of RX_EVT (R286). -/
def RX_EVT : Fld := ⟨0x60080, 0, 1, 0x0, 1, 0, 0, 32⟩
/-- EN of STREAM_CFG_s (R286). -/
def STREAM_CFG_EN : Fld := ⟨0x60100, 0, 48, 0x4, 1, 0, 0, 1⟩
/-- WIDTH of STREAM_CFG_s (R286). -/
def STREAM_CFG_WIDTH : Fld := ⟨0x60100, 0, 48, 0x4, 1, 0, 1, 15⟩
/-- DTYPE of STREAM_CFG_s (R286). -/
def STREAM_CFG_DTYPE : Fld := ⟨0x60100, 0, 48, 0x4, 1, 0, 16, 6⟩
/-- LINE_NUM of STREAM_CFG_s (R286). -/
def STREAM_CFG_LINE_NUM : Fld := ⟨0x60100, 0, 48, 0x4, 1, 0, 22, 1⟩
/-- The whole word of STREAM_CFG_s (R286). -/
def STREAM_CFG : Fld := ⟨0x60100, 0, 48, 0x4, 1, 0, 0, 32⟩
/-- JOBS of STREAM_STAT_s (R286). -/
def STREAM_STAT_JOBS : Fld := ⟨0x60200, 0, 48, 0x4, 1, 0, 0, 16⟩
/-- ACTIVE of STREAM_STAT_s (R286). -/
def STREAM_STAT_ACTIVE : Fld := ⟨0x60200, 0, 48, 0x4, 1, 0, 16, 1⟩
/-- The whole word of STREAM_STAT_s (R286). -/
def STREAM_STAT : Fld := ⟨0x60200, 0, 48, 0x4, 1, 0, 0, 32⟩
/-- COUNT of STREAM_LINES_s (R286). -/
def STREAM_LINES_COUNT : Fld := ⟨0x60300, 0, 48, 0x4, 1, 0, 0, 32⟩
/-- The whole word of STREAM_LINES_s (R286). -/
def STREAM_LINES : Fld := ⟨0x60300, 0, 48, 0x4, 1, 0, 0, 32⟩
/-- COUNT of STREAM_DROP_s (R286). -/
def STREAM_DROP_COUNT : Fld := ⟨0x60400, 0, 48, 0x4, 1, 0, 0, 32⟩
/-- The whole word of STREAM_DROP_s (R286). -/
def STREAM_DROP : Fld := ⟨0x60400, 0, 48, 0x4, 1, 0, 0, 32⟩
/-- EN of TX_CFG_t (R286). -/
def TX_CFG_EN : Fld := ⟨0x60500, 0, 4, 0x4, 1, 0, 0, 1⟩
/-- LANES of TX_CFG_t (R286). -/
def TX_CFG_LANES : Fld := ⟨0x60500, 0, 4, 0x4, 1, 0, 1, 2⟩
/-- CONT_CLK of TX_CFG_t (R286). -/
def TX_CFG_CONT_CLK : Fld := ⟨0x60500, 0, 4, 0x4, 1, 0, 3, 1⟩
/-- ULPS_IDLE of TX_CFG_t (R286). -/
def TX_CFG_ULPS_IDLE : Fld := ⟨0x60500, 0, 4, 0x4, 1, 0, 4, 1⟩
/-- RATE of TX_CFG_t (R286). -/
def TX_CFG_RATE : Fld := ⟨0x60500, 0, 4, 0x4, 1, 0, 8, 8⟩
/-- DESKEW_MS of TX_CFG_t (R286). -/
def TX_CFG_DESKEW_MS : Fld := ⟨0x60500, 0, 4, 0x4, 1, 0, 16, 8⟩
/-- The whole word of TX_CFG_t (R286). -/
def TX_CFG : Fld := ⟨0x60500, 0, 4, 0x4, 1, 0, 0, 32⟩
/-- ACTIVE of TX_STAT_t (R286). -/
def TX_STAT_ACTIVE : Fld := ⟨0x60510, 0, 4, 0x4, 1, 0, 0, 1⟩
/-- ULPS of TX_STAT_t (R286). -/
def TX_STAT_ULPS : Fld := ⟨0x60510, 0, 4, 0x4, 1, 0, 1, 1⟩
/-- LOAD of TX_STAT_t (R286). -/
def TX_STAT_LOAD : Fld := ⟨0x60510, 0, 4, 0x4, 1, 0, 8, 8⟩
/-- The whole word of TX_STAT_t (R286). -/
def TX_STAT : Fld := ⟨0x60510, 0, 4, 0x4, 1, 0, 0, 32⟩
/-- EN of OUT_MAP_n (R286). -/
def OUT_MAP_EN : Fld := ⟨0x60600, 0, 128, 0x4, 1, 0, 0, 1⟩
/-- PORT of OUT_MAP_n (R286). -/
def OUT_MAP_PORT : Fld := ⟨0x60600, 0, 128, 0x4, 1, 0, 1, 2⟩
/-- VC of OUT_MAP_n (R286). -/
def OUT_MAP_VC : Fld := ⟨0x60600, 0, 128, 0x4, 1, 0, 3, 4⟩
/-- FRAME_RECS of OUT_MAP_n (R286). -/
def OUT_MAP_FRAME_RECS : Fld := ⟨0x60600, 0, 128, 0x4, 1, 0, 8, 8⟩
/-- FRAME_US of OUT_MAP_n (R286). -/
def OUT_MAP_FRAME_US : Fld := ⟨0x60600, 0, 128, 0x4, 1, 0, 16, 16⟩
/-- The whole word of OUT_MAP_n (R286). -/
def OUT_MAP : Fld := ⟨0x60600, 0, 128, 0x4, 1, 0, 0, 32⟩
/-- PORT of REC_CFG (R286). -/
def REC_CFG_PORT : Fld := ⟨0x60800, 0, 1, 0x0, 1, 0, 0, 2⟩
/-- VC of REC_CFG (R286). -/
def REC_CFG_VC : Fld := ⟨0x60800, 0, 1, 0x0, 1, 0, 2, 4⟩
/-- FRAME_RECS of REC_CFG (R286). -/
def REC_CFG_FRAME_RECS : Fld := ⟨0x60800, 0, 1, 0x0, 1, 0, 8, 8⟩
/-- FRAME_US of REC_CFG (R286). -/
def REC_CFG_FRAME_US : Fld := ⟨0x60800, 0, 1, 0x0, 1, 0, 16, 16⟩
/-- The whole word of REC_CFG (R286). -/
def REC_CFG : Fld := ⟨0x60800, 0, 1, 0x0, 1, 0, 0, 32⟩
/-- PERIOD_MS of REC_PERIOD (R286). -/
def REC_PERIOD_PERIOD_MS : Fld := ⟨0x60804, 0, 1, 0x0, 1, 0, 0, 16⟩
/-- The whole word of REC_PERIOD (R286). -/
def REC_PERIOD : Fld := ⟨0x60804, 0, 1, 0x0, 1, 0, 0, 32⟩
/-- ARMED of BULK_STAT_k (R286). -/
def BULK_STAT_ARMED : Fld := ⟨0x60840, 0, 4, 0x4, 1, 0, 0, 1⟩
/-- PORT of BULK_STAT_k (R286). -/
def BULK_STAT_PORT : Fld := ⟨0x60840, 0, 4, 0x4, 1, 0, 1, 4⟩
/-- PURPOSE of BULK_STAT_k (R286). -/
def BULK_STAT_PURPOSE : Fld := ⟨0x60840, 0, 4, 0x4, 1, 0, 5, 3⟩
/-- BYTES of BULK_STAT_k (R286). -/
def BULK_STAT_BYTES : Fld := ⟨0x60840, 0, 4, 0x4, 1, 0, 8, 24⟩
/-- The whole word of BULK_STAT_k (R286). -/
def BULK_STAT : Fld := ⟨0x60840, 0, 4, 0x4, 1, 0, 0, 32⟩
/-- TIME_LO of TB_LO (R286). -/
def TB_LO_TIME_LO : Fld := ⟨0x60900, 0, 1, 0x0, 1, 0, 0, 32⟩
/-- The whole word of TB_LO (R286). -/
def TB_LO : Fld := ⟨0x60900, 0, 1, 0x0, 1, 0, 0, 32⟩
/-- TIME_HI of TB_HI (R286). -/
def TB_HI_TIME_HI : Fld := ⟨0x60904, 0, 1, 0x0, 1, 0, 0, 32⟩
/-- The whole word of TB_HI (R286). -/
def TB_HI : Fld := ⟨0x60904, 0, 1, 0x0, 1, 0, 0, 32⟩
/-- SRC of TB_CFG (R286). -/
def TB_CFG_SRC : Fld := ⟨0x60908, 0, 1, 0x0, 1, 0, 0, 2⟩
/-- EDGE of TB_CFG (R286). -/
def TB_CFG_EDGE : Fld := ⟨0x60908, 0, 1, 0x0, 1, 0, 2, 1⟩
/-- The whole word of TB_CFG (R286). -/
def TB_CFG : Fld := ⟨0x60908, 0, 1, 0x0, 1, 0, 0, 32⟩
/-- PERIOD_US of TB_PERIOD (R286). -/
def TB_PERIOD_PERIOD_US : Fld := ⟨0x6090c, 0, 1, 0x0, 1, 0, 0, 32⟩
/-- The whole word of TB_PERIOD (R286). -/
def TB_PERIOD : Fld := ⟨0x6090c, 0, 1, 0x0, 1, 0, 0, 32⟩
/-- SYNC_LO of TB_SYNC_LO (R286). -/
def TB_SYNC_LO_SYNC_LO : Fld := ⟨0x60910, 0, 1, 0x0, 1, 0, 0, 32⟩
/-- The whole word of TB_SYNC_LO (R286). -/
def TB_SYNC_LO : Fld := ⟨0x60910, 0, 1, 0x0, 1, 0, 0, 32⟩
/-- SYNC_HI of TB_SYNC_HI (R286). -/
def TB_SYNC_HI_SYNC_HI : Fld := ⟨0x60914, 0, 1, 0x0, 1, 0, 0, 32⟩
/-- The whole word of TB_SYNC_HI (R286). -/
def TB_SYNC_HI : Fld := ⟨0x60914, 0, 1, 0x0, 1, 0, 0, 32⟩
/-- STATE of TB_STAT (R286). -/
def TB_STAT_STATE : Fld := ⟨0x60918, 0, 1, 0x0, 1, 0, 0, 2⟩
/-- FAR of TB_STAT (R286). -/
def TB_STAT_FAR : Fld := ⟨0x60918, 0, 1, 0x0, 1, 0, 2, 1⟩
/-- RATE of TB_STAT (R286). -/
def TB_STAT_RATE : Fld := ⟨0x60918, 0, 1, 0x0, 1, 0, 16, 16⟩
/-- The whole word of TB_STAT (R286). -/
def TB_STAT : Fld := ⟨0x60918, 0, 1, 0x0, 1, 0, 0, 32⟩
/-- ERR of TB_ERR (R286). -/
def TB_ERR_ERR : Fld := ⟨0x6091c, 0, 1, 0x0, 1, 0, 0, 32⟩
/-- The whole word of TB_ERR (R286). -/
def TB_ERR : Fld := ⟨0x6091c, 0, 1, 0x0, 1, 0, 0, 32⟩
/-- SEQ of TIME_EVT (R286). -/
def TIME_EVT_SEQ : Fld := ⟨0x60920, 0, 1, 0x0, 1, 0, 0, 8⟩
/-- LOCK of TIME_EVT (R286). -/
def TIME_EVT_LOCK : Fld := ⟨0x60920, 0, 1, 0x0, 1, 0, 8, 1⟩
/-- HOLDOVER of TIME_EVT (R286). -/
def TIME_EVT_HOLDOVER : Fld := ⟨0x60920, 0, 1, 0x0, 1, 0, 9, 1⟩
/-- FAR of TIME_EVT (R286). -/
def TIME_EVT_FAR : Fld := ⟨0x60920, 0, 1, 0x0, 1, 0, 10, 1⟩
/-- ENC_ERR of TIME_EVT (R286). -/
def TIME_EVT_ENC_ERR : Fld := ⟨0x60920, 0, 1, 0x0, 1, 0, 11, 1⟩
/-- MARK_LATE of TIME_EVT (R286). -/
def TIME_EVT_MARK_LATE : Fld := ⟨0x60920, 0, 1, 0x0, 1, 0, 12, 1⟩
/-- MARK_MISS of TIME_EVT (R286). -/
def TIME_EVT_MARK_MISS : Fld := ⟨0x60920, 0, 1, 0x0, 1, 0, 13, 1⟩
/-- MARK_OVF of TIME_EVT (R286). -/
def TIME_EVT_MARK_OVF : Fld := ⟨0x60920, 0, 1, 0x0, 1, 0, 14, 1⟩
/-- MARK_FLUSH of TIME_EVT (R286). -/
def TIME_EVT_MARK_FLUSH : Fld := ⟨0x60920, 0, 1, 0x0, 1, 0, 15, 1⟩
/-- STEP of TIME_EVT (R286). -/
def TIME_EVT_STEP : Fld := ⟨0x60920, 0, 1, 0x0, 1, 0, 16, 1⟩
/-- The whole word of TIME_EVT (R286). -/
def TIME_EVT : Fld := ⟨0x60920, 0, 1, 0x0, 1, 0, 0, 32⟩
/-- POS of ENC_POS (R286). -/
def ENC_POS_POS : Fld := ⟨0x60930, 0, 1, 0x0, 1, 0, 0, 32⟩
/-- The whole word of ENC_POS (R286). -/
def ENC_POS : Fld := ⟨0x60930, 0, 1, 0x0, 1, 0, 0, 32⟩
/-- EN of ENC_CFG (R286). -/
def ENC_CFG_EN : Fld := ⟨0x60934, 0, 1, 0x0, 1, 0, 0, 1⟩
/-- INVERT of ENC_CFG (R286). -/
def ENC_CFG_INVERT : Fld := ⟨0x60934, 0, 1, 0x0, 1, 0, 1, 1⟩
/-- FILTER of ENC_CFG (R286). -/
def ENC_CFG_FILTER : Fld := ⟨0x60934, 0, 1, 0x0, 1, 0, 2, 2⟩
/-- The whole word of ENC_CFG (R286). -/
def ENC_CFG : Fld := ⟨0x60934, 0, 1, 0x0, 1, 0, 0, 32⟩
/-- SPEED of ENC_SPEED (R286). -/
def ENC_SPEED_SPEED : Fld := ⟨0x60938, 0, 1, 0x0, 1, 0, 0, 32⟩
/-- The whole word of ENC_SPEED (R286). -/
def ENC_SPEED : Fld := ⟨0x60938, 0, 1, 0x0, 1, 0, 0, 32⟩
/-- COUNT of ENC_ERR_CNT (R286). -/
def ENC_ERR_CNT_COUNT : Fld := ⟨0x6093c, 0, 1, 0x0, 1, 0, 0, 32⟩
/-- The whole word of ENC_ERR_CNT (R286). -/
def ENC_ERR_CNT : Fld := ⟨0x6093c, 0, 1, 0x0, 1, 0, 0, 32⟩
/-- LATE_WIN of MARK_LATE_WIN (R286). -/
def MARK_LATE_WIN_LATE_WIN : Fld := ⟨0x60940, 0, 1, 0x0, 1, 0, 0, 16⟩
/-- The whole word of MARK_LATE_WIN (R286). -/
def MARK_LATE_WIN : Fld := ⟨0x60940, 0, 1, 0x0, 1, 0, 0, 32⟩
/-- WIDTH of MARK_CFG_k (R286). -/
def MARK_CFG_WIDTH : Fld := ⟨0x60a00, 0, 8, 0x8, 1, 0, 0, 16⟩
/-- POL of MARK_CFG_k (R286). -/
def MARK_CFG_POL : Fld := ⟨0x60a00, 0, 8, 0x8, 1, 0, 16, 1⟩
/-- EN of MARK_CFG_k (R286). -/
def MARK_CFG_EN : Fld := ⟨0x60a00, 0, 8, 0x8, 1, 0, 17, 1⟩
/-- The whole word of MARK_CFG_k (R286). -/
def MARK_CFG : Fld := ⟨0x60a00, 0, 8, 0x8, 1, 0, 0, 32⟩
/-- OFFSET of MARK_OFS_k (R286). -/
def MARK_OFS_OFFSET : Fld := ⟨0x60a04, 0, 8, 0x8, 1, 0, 0, 32⟩
/-- The whole word of MARK_OFS_k (R286). -/
def MARK_OFS : Fld := ⟨0x60a04, 0, 8, 0x8, 1, 0, 0, 32⟩
/-- PENDING of MARK_STAT_k (R286). -/
def MARK_STAT_PENDING : Fld := ⟨0x60a40, 0, 8, 0x4, 1, 0, 0, 7⟩
/-- ACTIVE of MARK_STAT_k (R286). -/
def MARK_STAT_ACTIVE : Fld := ⟨0x60a40, 0, 8, 0x4, 1, 0, 7, 1⟩
/-- FIRED of MARK_STAT_k (R286). -/
def MARK_STAT_FIRED : Fld := ⟨0x60a40, 0, 8, 0x4, 1, 0, 16, 16⟩
/-- The whole word of MARK_STAT_k (R286). -/
def MARK_STAT : Fld := ⟨0x60a40, 0, 8, 0x4, 1, 0, 0, 32⟩
/-- PART of SYS_ID (R304). -/
def SYS_ID_PART : Fld := ⟨0x0, 0, 1, 0x0, 1, 0, 0, 16⟩
/-- ISSUE of SYS_ID (R304). -/
def SYS_ID_ISSUE : Fld := ⟨0x0, 0, 1, 0x0, 1, 0, 16, 8⟩
/-- The whole word of SYS_ID (R304). -/
def SYS_ID : Fld := ⟨0x0, 0, 1, 0x0, 1, 0, 0, 32⟩
/-- SYS_STATE of SYS_STAT (R304). -/
def SYS_STAT_SYS_STATE : Fld := ⟨0x4, 0, 1, 0x0, 1, 0, 0, 2⟩
/-- BOOT_DONE of SYS_STAT (R304). -/
def SYS_STAT_BOOT_DONE : Fld := ⟨0x4, 0, 1, 0x0, 1, 0, 2, 1⟩
/-- KEY_OPEN of SYS_STAT (R304). -/
def SYS_STAT_KEY_OPEN : Fld := ⟨0x4, 0, 1, 0x0, 1, 0, 3, 1⟩
/-- INSTANCE of SYS_STAT (R304). -/
def SYS_STAT_INSTANCE : Fld := ⟨0x4, 0, 1, 0x0, 1, 0, 4, 4⟩
/-- The whole word of SYS_STAT (R304). -/
def SYS_STAT : Fld := ⟨0x4, 0, 1, 0x0, 1, 0, 0, 32⟩
/-- SEQ of SYS_EVT (R304). -/
def SYS_EVT_SEQ : Fld := ⟨0x8, 0, 1, 0x0, 1, 0, 0, 8⟩
/-- BOOT_DONE of SYS_EVT (R304). -/
def SYS_EVT_BOOT_DONE : Fld := ⟨0x8, 0, 1, 0x0, 1, 0, 8, 1⟩
/-- TAKEOVER of SYS_EVT (R304). -/
def SYS_EVT_TAKEOVER : Fld := ⟨0x8, 0, 1, 0x0, 1, 0, 9, 1⟩
/-- CLK_SWITCH of SYS_EVT (R304). -/
def SYS_EVT_CLK_SWITCH : Fld := ⟨0x8, 0, 1, 0x0, 1, 0, 10, 1⟩
/-- THERM_STOP of SYS_EVT (R304). -/
def SYS_EVT_THERM_STOP : Fld := ⟨0x8, 0, 1, 0x0, 1, 0, 11, 1⟩
/-- BAD_ADDR of SYS_EVT (R304). -/
def SYS_EVT_BAD_ADDR : Fld := ⟨0x8, 0, 1, 0x0, 1, 0, 12, 1⟩
/-- RSV_WR of SYS_EVT (R304). -/
def SYS_EVT_RSV_WR : Fld := ⟨0x8, 0, 1, 0x0, 1, 0, 13, 1⟩
/-- MBX_ERR of SYS_EVT (R304). -/
def SYS_EVT_MBX_ERR : Fld := ⟨0x8, 0, 1, 0x0, 1, 0, 14, 1⟩
/-- IND_ERR of SYS_EVT (R304). -/
def SYS_EVT_IND_ERR : Fld := ⟨0x8, 0, 1, 0x0, 1, 0, 15, 1⟩
/-- WK_IGNORED of SYS_EVT (R304). -/
def SYS_EVT_WK_IGNORED : Fld := ⟨0x8, 0, 1, 0x0, 1, 0, 16, 1⟩
/-- RSTACT of SYS_EVT (R304). -/
def SYS_EVT_RSTACT : Fld := ⟨0x8, 0, 1, 0x0, 1, 0, 17, 1⟩
/-- The whole word of SYS_EVT (R304). -/
def SYS_EVT : Fld := ⟨0x8, 0, 1, 0x0, 1, 0, 0, 32⟩
/-- IBI_HOLD of SYS_CTL (R304). -/
def SYS_CTL_IBI_HOLD : Fld := ⟨0xc, 0, 1, 0x0, 1, 0, 0, 8⟩
/-- The whole word of SYS_CTL (R304). -/
def SYS_CTL : Fld := ⟨0xc, 0, 1, 0x0, 1, 0, 0, 32⟩
/-- KEY of KEY_UNLOCK (R304). -/
def KEY_UNLOCK_KEY : Fld := ⟨0x10, 0, 1, 0x0, 1, 0, 0, 32⟩
/-- The whole word of KEY_UNLOCK (R304). -/
def KEY_UNLOCK : Fld := ⟨0x10, 0, 1, 0x0, 1, 0, 0, 32⟩
/-- SUM of EVT_SUM (R304). -/
def EVT_SUM_SUM : Fld := ⟨0x14, 0, 1, 0x0, 1, 0, 0, 25⟩
/-- The whole word of EVT_SUM (R304). -/
def EVT_SUM : Fld := ⟨0x14, 0, 1, 0x0, 1, 0, 0, 32⟩
/-- MASK of EVT_MASK (R304). -/
def EVT_MASK_MASK : Fld := ⟨0x18, 0, 1, 0x0, 1, 0, 0, 25⟩
/-- The whole word of EVT_MASK (R304). -/
def EVT_MASK : Fld := ⟨0x18, 0, 1, 0x0, 1, 0, 0, 32⟩
/-- OFFSET of IND_ADDR (R304). -/
def IND_ADDR_OFFSET : Fld := ⟨0x20, 0, 1, 0x0, 1, 0, 0, 26⟩
/-- DOMAIN of IND_ADDR (R304). -/
def IND_ADDR_DOMAIN : Fld := ⟨0x20, 0, 1, 0x0, 1, 0, 26, 4⟩
/-- AINC of IND_ADDR (R304). -/
def IND_ADDR_AINC : Fld := ⟨0x20, 0, 1, 0x0, 1, 0, 30, 1⟩
/-- The whole word of IND_ADDR (R304). -/
def IND_ADDR : Fld := ⟨0x20, 0, 1, 0x0, 1, 0, 0, 32⟩
/-- DATA of IND_DATA (R304). -/
def IND_DATA_DATA : Fld := ⟨0x24, 0, 1, 0x0, 1, 0, 0, 32⟩
/-- The whole word of IND_DATA (R304). -/
def IND_DATA : Fld := ⟨0x24, 0, 1, 0x0, 1, 0, 0, 32⟩
/-- BUSY of IND_STAT (R304). -/
def IND_STAT_BUSY : Fld := ⟨0x28, 0, 1, 0x0, 1, 0, 0, 1⟩
/-- ERR of IND_STAT (R304). -/
def IND_STAT_ERR : Fld := ⟨0x28, 0, 1, 0x0, 1, 0, 1, 1⟩
/-- The whole word of IND_STAT (R304). -/
def IND_STAT : Fld := ⟨0x28, 0, 1, 0x0, 1, 0, 0, 32⟩
/-- REQ of MBX_REQ_m_w (R305). -/
def MBX_REQ_REQ : Fld := ⟨0x10000, 0, 16, 0x80, 16, 4, 0, 32⟩
/-- The whole word of MBX_REQ_m_w (R305). -/
def MBX_REQ : Fld := ⟨0x10000, 0, 16, 0x80, 16, 4, 0, 32⟩
/-- RSP of MBX_RSP_m_w (R305). -/
def MBX_RSP_RSP : Fld := ⟨0x10040, 0, 16, 0x80, 16, 4, 0, 32⟩
/-- The whole word of MBX_RSP_m_w (R305). -/
def MBX_RSP : Fld := ⟨0x10040, 0, 16, 0x80, 16, 4, 0, 32⟩
/-- ACTION of MBX_DOOR_m (R305). -/
def MBX_DOOR_ACTION : Fld := ⟨0x10800, 0, 16, 0x4, 1, 0, 0, 2⟩
/-- The whole word of MBX_DOOR_m (R305). -/
def MBX_DOOR : Fld := ⟨0x10800, 0, 16, 0x4, 1, 0, 0, 32⟩
/-- STATE of MBX_STAT_m (R305). -/
def MBX_STAT_STATE : Fld := ⟨0x10840, 0, 16, 0x4, 1, 0, 0, 2⟩
/-- CMD of MBX_STAT_m (R305). -/
def MBX_STAT_CMD : Fld := ⟨0x10840, 0, 16, 0x4, 1, 0, 16, 16⟩
/-- The whole word of MBX_STAT_m (R305). -/
def MBX_STAT : Fld := ⟨0x10840, 0, 16, 0x4, 1, 0, 0, 32⟩
/-- BUSY of MBX_BUSY (R305). -/
def MBX_BUSY_BUSY : Fld := ⟨0x10880, 0, 1, 0x0, 1, 0, 0, 16⟩
/-- The whole word of MBX_BUSY (R305). -/
def MBX_BUSY : Fld := ⟨0x10880, 0, 1, 0x0, 1, 0, 0, 32⟩
/-- DONE of MBX_DONE (R305). -/
def MBX_DONE_DONE : Fld := ⟨0x10884, 0, 1, 0x0, 1, 0, 0, 16⟩
/-- The whole word of MBX_DONE (R305). -/
def MBX_DONE : Fld := ⟨0x10884, 0, 1, 0x0, 1, 0, 0, 32⟩
/-- ACTIVE of SUP_STAT (R341). -/
def SUP_STAT_ACTIVE : Fld := ⟨0x20000, 0, 1, 0x0, 1, 0, 0, 1⟩
/-- SUBST of SUP_STAT (R341). -/
def SUP_STAT_SUBST : Fld := ⟨0x20000, 0, 1, 0x0, 1, 0, 1, 2⟩
/-- FW_LOADING of SUP_STAT (R341). -/
def SUP_STAT_FW_LOADING : Fld := ⟨0x20000, 0, 1, 0x0, 1, 0, 3, 1⟩
/-- CKPT_FMT of SUP_STAT (R341). -/
def SUP_STAT_CKPT_FMT : Fld := ⟨0x20000, 0, 1, 0x0, 1, 0, 8, 8⟩
/-- The whole word of SUP_STAT (R341). -/
def SUP_STAT : Fld := ⟨0x20000, 0, 1, 0x0, 1, 0, 0, 32⟩
/-- SEQ of SUP_EVT (R341). -/
def SUP_EVT_SEQ : Fld := ⟨0x20004, 0, 1, 0x0, 1, 0, 0, 8⟩
/-- TAKEOVER of SUP_EVT (R341). -/
def SUP_EVT_TAKEOVER : Fld := ⟨0x20004, 0, 1, 0x0, 1, 0, 8, 1⟩
/-- SUBST_LOST of SUP_EVT (R341). -/
def SUP_EVT_SUBST_LOST : Fld := ⟨0x20004, 0, 1, 0x0, 1, 0, 9, 1⟩
/-- SUBST_READY of SUP_EVT (R341). -/
def SUP_EVT_SUBST_READY : Fld := ⟨0x20004, 0, 1, 0x0, 1, 0, 10, 1⟩
/-- FW_SWAP of SUP_EVT (R341). -/
def SUP_EVT_FW_SWAP : Fld := ⟨0x20004, 0, 1, 0x0, 1, 0, 11, 1⟩
/-- FAULT of SUP_EVT (R341). -/
def SUP_EVT_FAULT : Fld := ⟨0x20004, 0, 1, 0x0, 1, 0, 12, 1⟩
/-- FAULT_STOP of SUP_EVT (R341). -/
def SUP_EVT_FAULT_STOP : Fld := ⟨0x20004, 0, 1, 0x0, 1, 0, 13, 1⟩
/-- HALF_FAIL of SUP_EVT (R341). -/
def SUP_EVT_HALF_FAIL : Fld := ⟨0x20004, 0, 1, 0x0, 1, 0, 14, 1⟩
/-- PAGE_RETIRE of SUP_EVT (R341). -/
def SUP_EVT_PAGE_RETIRE : Fld := ⟨0x20004, 0, 1, 0x0, 1, 0, 15, 1⟩
/-- RESTART_LONG of SUP_EVT (R341). -/
def SUP_EVT_RESTART_LONG : Fld := ⟨0x20004, 0, 1, 0x0, 1, 0, 16, 1⟩
/-- SUP_LOST of SUP_EVT (R341). -/
def SUP_EVT_SUP_LOST : Fld := ⟨0x20004, 0, 1, 0x0, 1, 0, 17, 1⟩
/-- The whole word of SUP_EVT (R341). -/
def SUP_EVT : Fld := ⟨0x20004, 0, 1, 0x0, 1, 0, 0, 32⟩
/-- WATCH_MS of SUP_CFG (R341). -/
def SUP_CFG_WATCH_MS : Fld := ⟨0x20008, 0, 1, 0x0, 1, 0, 0, 16⟩
/-- HALF_FAIL of SUP_CFG (R341). -/
def SUP_CFG_HALF_FAIL : Fld := ⟨0x20008, 0, 1, 0x0, 1, 0, 16, 8⟩
/-- The whole word of SUP_CFG (R341). -/
def SUP_CFG : Fld := ⟨0x20008, 0, 1, 0x0, 1, 0, 0, 32⟩
/-- COUNT of TAKEOVER_CNT (R341). -/
def TAKEOVER_CNT_COUNT : Fld := ⟨0x2000c, 0, 1, 0x0, 1, 0, 0, 32⟩
/-- The whole word of TAKEOVER_CNT (R341). -/
def TAKEOVER_CNT : Fld := ⟨0x2000c, 0, 1, 0x0, 1, 0, 0, 32⟩
/-- VERSION of FW_VER_ACT (R341). -/
def FW_VER_ACT_VERSION : Fld := ⟨0x20010, 0, 1, 0x0, 1, 0, 0, 32⟩
/-- The whole word of FW_VER_ACT (R341). -/
def FW_VER_ACT : Fld := ⟨0x20010, 0, 1, 0x0, 1, 0, 0, 32⟩
/-- VERSION of FW_VER_SUB (R341). -/
def FW_VER_SUB_VERSION : Fld := ⟨0x20014, 0, 1, 0x0, 1, 0, 0, 32⟩
/-- The whole word of FW_VER_SUB (R341). -/
def FW_VER_SUB : Fld := ⟨0x20014, 0, 1, 0x0, 1, 0, 0, 32⟩
/-- SEQ of CKPT_SEQ (R341). -/
def CKPT_SEQ_SEQ : Fld := ⟨0x20018, 0, 1, 0x0, 1, 0, 0, 32⟩
/-- The whole word of CKPT_SEQ (R341). -/
def CKPT_SEQ : Fld := ⟨0x20018, 0, 1, 0x0, 1, 0, 0, 32⟩
/-- LAG of CKPT_LAG (R341). -/
def CKPT_LAG_LAG : Fld := ⟨0x2001c, 0, 1, 0x0, 1, 0, 0, 16⟩
/-- PEAK of CKPT_LAG (R341). -/
def CKPT_LAG_PEAK : Fld := ⟨0x2001c, 0, 1, 0x0, 1, 0, 16, 16⟩
/-- The whole word of CKPT_LAG (R341). -/
def CKPT_LAG : Fld := ⟨0x2001c, 0, 1, 0x0, 1, 0, 0, 32⟩
/-- COUNT of PAGE_RET (R341). -/
def PAGE_RET_COUNT : Fld := ⟨0x20020, 0, 1, 0x0, 1, 0, 0, 12⟩
/-- The whole word of PAGE_RET (R341). -/
def PAGE_RET : Fld := ⟨0x20020, 0, 1, 0x0, 1, 0, 0, 32⟩
/-- CLASS of JOB_FAULT_j (R342). -/
def JOB_FAULT_CLASS : Fld := ⟨0x20100, 0, 16, 0x20, 1, 0, 0, 7⟩
/-- INJECTED of JOB_FAULT_j (R342). -/
def JOB_FAULT_INJECTED : Fld := ⟨0x20100, 0, 16, 0x20, 1, 0, 7, 1⟩
/-- UNIT_KIND of JOB_FAULT_j (R342). -/
def JOB_FAULT_UNIT_KIND : Fld := ⟨0x20100, 0, 16, 0x20, 1, 0, 8, 4⟩
/-- UNIT of JOB_FAULT_j (R342). -/
def JOB_FAULT_UNIT : Fld := ⟨0x20100, 0, 16, 0x20, 1, 0, 12, 12⟩
/-- The whole word of JOB_FAULT_j (R342). -/
def JOB_FAULT : Fld := ⟨0x20100, 0, 16, 0x20, 1, 0, 0, 32⟩
/-- RESTARTS of JOB_RST_CNT_j (R342). -/
def JOB_RST_CNT_RESTARTS : Fld := ⟨0x20104, 0, 16, 0x20, 1, 0, 0, 16⟩
/-- FAULTS of JOB_RST_CNT_j (R342). -/
def JOB_RST_CNT_FAULTS : Fld := ⟨0x20104, 0, 16, 0x20, 1, 0, 16, 16⟩
/-- The whole word of JOB_RST_CNT_j (R342). -/
def JOB_RST_CNT : Fld := ⟨0x20104, 0, 16, 0x20, 1, 0, 0, 32⟩
/-- LAST of JOB_GAP_j (R342). -/
def JOB_GAP_LAST : Fld := ⟨0x20108, 0, 16, 0x20, 1, 0, 0, 16⟩
/-- MAX of JOB_GAP_j (R342). -/
def JOB_GAP_MAX : Fld := ⟨0x20108, 0, 16, 0x20, 1, 0, 16, 16⟩
/-- The whole word of JOB_GAP_j (R342). -/
def JOB_GAP : Fld := ⟨0x20108, 0, 16, 0x20, 1, 0, 0, 32⟩
/-- TIME_LO of JOB_FTIME_LO_j (R342). -/
def JOB_FTIME_LO_TIME_LO : Fld := ⟨0x2010c, 0, 16, 0x20, 1, 0, 0, 32⟩
/-- The whole word of JOB_FTIME_LO_j (R342). -/
def JOB_FTIME_LO : Fld := ⟨0x2010c, 0, 16, 0x20, 1, 0, 0, 32⟩
/-- TIME_HI of JOB_FTIME_HI_j (R342). -/
def JOB_FTIME_HI_TIME_HI : Fld := ⟨0x20110, 0, 16, 0x20, 1, 0, 0, 32⟩
/-- The whole word of JOB_FTIME_HI_j (R342). -/
def JOB_FTIME_HI : Fld := ⟨0x20110, 0, 16, 0x20, 1, 0, 0, 32⟩
/-- ADDR of JOB_XADDR_j (R342). -/
def JOB_XADDR_ADDR : Fld := ⟨0x20114, 0, 16, 0x20, 1, 0, 0, 32⟩
/-- The whole word of JOB_XADDR_j (R342). -/
def JOB_XADDR : Fld := ⟨0x20114, 0, 16, 0x20, 1, 0, 0, 32⟩
/-- SRAM of JOB_PAGES_j (R342). -/
def JOB_PAGES_SRAM : Fld := ⟨0x20118, 0, 16, 0x20, 1, 0, 0, 12⟩
/-- STAGE of JOB_PAGES_j (R342). -/
def JOB_PAGES_STAGE : Fld := ⟨0x20118, 0, 16, 0x20, 1, 0, 12, 10⟩
/-- The whole word of JOB_PAGES_j (R342). -/
def JOB_PAGES : Fld := ⟨0x20118, 0, 16, 0x20, 1, 0, 0, 32⟩
/-- COUNT of JOB_PREEMPT_CNT_j (R342). -/
def JOB_PREEMPT_CNT_COUNT : Fld := ⟨0x2011c, 0, 16, 0x20, 1, 0, 0, 32⟩
/-- The whole word of JOB_PREEMPT_CNT_j (R342). -/
def JOB_PREEMPT_CNT : Fld := ⟨0x2011c, 0, 16, 0x20, 1, 0, 0, 32⟩
/-- INDEX of PT_ADDR (R343). -/
def PT_ADDR_INDEX : Fld := ⟨0x20400, 0, 1, 0x0, 1, 0, 0, 12⟩
/-- JOB of PT_ADDR (R343). -/
def PT_ADDR_JOB : Fld := ⟨0x20400, 0, 1, 0x0, 1, 0, 12, 4⟩
/-- AINC of PT_ADDR (R343). -/
def PT_ADDR_AINC : Fld := ⟨0x20400, 0, 1, 0x0, 1, 0, 16, 1⟩
/-- The whole word of PT_ADDR (R343). -/
def PT_ADDR : Fld := ⟨0x20400, 0, 1, 0x0, 1, 0, 0, 32⟩
/-- PPN of PT_DATA (R343). -/
def PT_DATA_PPN : Fld := ⟨0x20404, 0, 1, 0x0, 1, 0, 0, 12⟩
/-- V of PT_DATA (R343). -/
def PT_DATA_V : Fld := ⟨0x20404, 0, 1, 0x0, 1, 0, 12, 1⟩
/-- R of PT_DATA (R343). -/
def PT_DATA_R : Fld := ⟨0x20404, 0, 1, 0x0, 1, 0, 13, 1⟩
/-- W of PT_DATA (R343). -/
def PT_DATA_W : Fld := ⟨0x20404, 0, 1, 0x0, 1, 0, 14, 1⟩
/-- CLR of PT_DATA (R343). -/
def PT_DATA_CLR : Fld := ⟨0x20404, 0, 1, 0x0, 1, 0, 15, 1⟩
/-- The whole word of PT_DATA (R343). -/
def PT_DATA : Fld := ⟨0x20404, 0, 1, 0x0, 1, 0, 0, 32⟩
/-- BANK_ACT of SEC_STAT (R358). -/
def SEC_STAT_BANK_ACT : Fld := ⟨0x74000, 0, 1, 0x0, 1, 0, 0, 2⟩
/-- BANK_SUB of SEC_STAT (R358). -/
def SEC_STAT_BANK_SUB : Fld := ⟨0x74000, 0, 1, 0x0, 1, 0, 2, 2⟩
/-- RECOVERY_IMG of SEC_STAT (R358). -/
def SEC_STAT_RECOVERY_IMG : Fld := ⟨0x74000, 0, 1, 0x0, 1, 0, 4, 1⟩
/-- SIGNER_OK of SEC_STAT (R358). -/
def SEC_STAT_SIGNER_OK : Fld := ⟨0x74000, 0, 1, 0x0, 1, 0, 5, 1⟩
/-- The whole word of SEC_STAT (R358). -/
def SEC_STAT : Fld := ⟨0x74000, 0, 1, 0x0, 1, 0, 0, 32⟩
/-- SEQ of SEC_EVT (R358). -/
def SEC_EVT_SEQ : Fld := ⟨0x74004, 0, 1, 0x0, 1, 0, 0, 8⟩
/-- FALLBACK of SEC_EVT (R358). -/
def SEC_EVT_FALLBACK : Fld := ⟨0x74004, 0, 1, 0x0, 1, 0, 8, 1⟩
/-- SVN_RAISED of SEC_EVT (R358). -/
def SEC_EVT_SVN_RAISED : Fld := ⟨0x74004, 0, 1, 0x0, 1, 0, 9, 1⟩
/-- FW_REFUSED of SEC_EVT (R358). -/
def SEC_EVT_FW_REFUSED : Fld := ⟨0x74004, 0, 1, 0x0, 1, 0, 10, 1⟩
/-- BANK_WRITE_FAIL of SEC_EVT (R358). -/
def SEC_EVT_BANK_WRITE_FAIL : Fld := ⟨0x74004, 0, 1, 0x0, 1, 0, 11, 1⟩
/-- DEBUG_ATTEMPT of SEC_EVT (R358). -/
def SEC_EVT_DEBUG_ATTEMPT : Fld := ⟨0x74004, 0, 1, 0x0, 1, 0, 12, 1⟩
/-- The whole word of SEC_EVT (R358). -/
def SEC_EVT : Fld := ⟨0x74004, 0, 1, 0x0, 1, 0, 0, 32⟩
/-- FENCE_LO of PROT_FENCE (R358). -/
def PROT_FENCE_FENCE_LO : Fld := ⟨0x74008, 0, 1, 0x0, 1, 0, 0, 9⟩
/-- FENCE_HI of PROT_FENCE (R358). -/
def PROT_FENCE_FENCE_HI : Fld := ⟨0x74008, 0, 1, 0x0, 1, 0, 16, 9⟩
/-- The whole word of PROT_FENCE (R358). -/
def PROT_FENCE : Fld := ⟨0x74008, 0, 1, 0x0, 1, 0, 0, 32⟩
/-- LOCKED of PROT_STAT (R358). -/
def PROT_STAT_LOCKED : Fld := ⟨0x7400c, 0, 1, 0x0, 1, 0, 0, 1⟩
/-- DBG_LOCKED of PROT_STAT (R358). -/
def PROT_STAT_DBG_LOCKED : Fld := ⟨0x7400c, 0, 1, 0x0, 1, 0, 1, 1⟩
/-- The whole word of PROT_STAT (R358). -/
def PROT_STAT : Fld := ⟨0x7400c, 0, 1, 0x0, 1, 0, 0, 32⟩
/-- SVN of SEC_FUSE (R358). -/
def SEC_FUSE_SVN : Fld := ⟨0x74010, 0, 1, 0x0, 1, 0, 0, 6⟩
/-- DBG_PERM of SEC_FUSE (R358). -/
def SEC_FUSE_DBG_PERM : Fld := ⟨0x74010, 0, 1, 0x0, 1, 0, 6, 1⟩
/-- KEY_SET of SEC_FUSE (R358). -/
def SEC_FUSE_KEY_SET : Fld := ⟨0x74010, 0, 1, 0x0, 1, 0, 7, 1⟩
/-- The whole word of SEC_FUSE (R358). -/
def SEC_FUSE : Fld := ⟨0x74010, 0, 1, 0x0, 1, 0, 0, 32⟩
/-- BOOT_SUP of BOOT_INFO (R358). -/
def BOOT_INFO_BOOT_SUP : Fld := ⟨0x74014, 0, 1, 0x0, 1, 0, 0, 1⟩
/-- BANK0_BAD of BOOT_INFO (R358). -/
def BOOT_INFO_BANK0_BAD : Fld := ⟨0x74014, 0, 1, 0x0, 1, 0, 1, 1⟩
/-- BANK1_BAD of BOOT_INFO (R358). -/
def BOOT_INFO_BANK1_BAD : Fld := ⟨0x74014, 0, 1, 0x0, 1, 0, 2, 1⟩
/-- PREFERRED of BOOT_INFO (R358). -/
def BOOT_INFO_PREFERRED : Fld := ⟨0x74014, 0, 1, 0x0, 1, 0, 3, 1⟩
/-- BOOT_MS of BOOT_INFO (R358). -/
def BOOT_INFO_BOOT_MS : Fld := ⟨0x74014, 0, 1, 0x0, 1, 0, 16, 16⟩
/-- The whole word of BOOT_INFO (R358). -/
def BOOT_INFO : Fld := ⟨0x74014, 0, 1, 0x0, 1, 0, 0, 32⟩
/-- COUNT of SEC_ATTEST_CNT (R358). -/
def SEC_ATTEST_CNT_COUNT : Fld := ⟨0x74018, 0, 1, 0x0, 1, 0, 0, 32⟩
/-- The whole word of SEC_ATTEST_CNT (R358). -/
def SEC_ATTEST_CNT : Fld := ⟨0x74018, 0, 1, 0x0, 1, 0, 0, 32⟩
/-- DIGEST of FW_DIGEST_i (R358). -/
def FW_DIGEST_DIGEST : Fld := ⟨0x74040, 0, 16, 0x4, 1, 0, 0, 32⟩
/-- The whole word of FW_DIGEST_i (R358). -/
def FW_DIGEST : Fld := ⟨0x74040, 0, 16, 0x4, 1, 0, 0, 32⟩
/-- REF of CLK_STAT (R373). -/
def CLK_STAT_REF : Fld := ⟨0x70000, 0, 1, 0x0, 1, 0, 0, 1⟩
/-- XTAL_ACTIVE of CLK_STAT (R373). -/
def CLK_STAT_XTAL_ACTIVE : Fld := ⟨0x70000, 0, 1, 0x0, 1, 0, 1, 1⟩
/-- XTAL_GOOD of CLK_STAT (R373). -/
def CLK_STAT_XTAL_GOOD : Fld := ⟨0x70000, 0, 1, 0x0, 1, 0, 2, 1⟩
/-- RC_READY of CLK_STAT (R373). -/
def CLK_STAT_RC_READY : Fld := ⟨0x70000, 0, 1, 0x0, 1, 0, 3, 1⟩
/-- COAST of CLK_STAT (R373). -/
def CLK_STAT_COAST : Fld := ⟨0x70000, 0, 1, 0x0, 1, 0, 4, 1⟩
/-- FAULT of CLK_STAT (R373). -/
def CLK_STAT_FAULT : Fld := ⟨0x70000, 0, 1, 0x0, 1, 0, 5, 1⟩
/-- SWITCHING of CLK_STAT (R373). -/
def CLK_STAT_SWITCHING : Fld := ⟨0x70000, 0, 1, 0x0, 1, 0, 6, 1⟩
/-- LOCKED of CLK_STAT (R373). -/
def CLK_STAT_LOCKED : Fld := ⟨0x70000, 0, 1, 0x0, 1, 0, 8, 8⟩
/-- The whole word of CLK_STAT (R373). -/
def CLK_STAT : Fld := ⟨0x70000, 0, 1, 0x0, 1, 0, 0, 32⟩
/-- SEQ of CLK_EVT (R373). -/
def CLK_EVT_SEQ : Fld := ⟨0x70004, 0, 1, 0x0, 1, 0, 0, 8⟩
/-- REF_TRIP of CLK_EVT (R373). -/
def CLK_EVT_REF_TRIP : Fld := ⟨0x70004, 0, 1, 0x0, 1, 0, 8, 1⟩
/-- FORCED of CLK_EVT (R373). -/
def CLK_EVT_FORCED : Fld := ⟨0x70004, 0, 1, 0x0, 1, 0, 9, 1⟩
/-- DEFERRED of CLK_EVT (R373). -/
def CLK_EVT_DEFERRED : Fld := ⟨0x70004, 0, 1, 0x0, 1, 0, 10, 1⟩
/-- FAULT_IN of CLK_EVT (R373). -/
def CLK_EVT_FAULT_IN : Fld := ⟨0x70004, 0, 1, 0x0, 1, 0, 11, 1⟩
/-- FAULT_OUT of CLK_EVT (R373). -/
def CLK_EVT_FAULT_OUT : Fld := ⟨0x70004, 0, 1, 0x0, 1, 0, 12, 1⟩
/-- LOCK_LOSS of CLK_EVT (R373). -/
def CLK_EVT_LOCK_LOSS : Fld := ⟨0x70004, 0, 1, 0x0, 1, 0, 13, 1⟩
/-- RATIO_ERR of CLK_EVT (R373). -/
def CLK_EVT_RATIO_ERR : Fld := ⟨0x70004, 0, 1, 0x0, 1, 0, 14, 1⟩
/-- RC_RESTART of CLK_EVT (R373). -/
def CLK_EVT_RC_RESTART : Fld := ⟨0x70004, 0, 1, 0x0, 1, 0, 15, 1⟩
/-- RETURNED of CLK_EVT (R373). -/
def CLK_EVT_RETURNED : Fld := ⟨0x70004, 0, 1, 0x0, 1, 0, 16, 1⟩
/-- RETURN_FAIL of CLK_EVT (R373). -/
def CLK_EVT_RETURN_FAIL : Fld := ⟨0x70004, 0, 1, 0x0, 1, 0, 17, 1⟩
/-- XTAL_FAIL of CLK_EVT (R373). -/
def CLK_EVT_XTAL_FAIL : Fld := ⟨0x70004, 0, 1, 0x0, 1, 0, 18, 1⟩
/-- GATE_REJ of CLK_EVT (R373). -/
def CLK_EVT_GATE_REJ : Fld := ⟨0x70004, 0, 1, 0x0, 1, 0, 19, 1⟩
/-- The whole word of CLK_EVT (R373). -/
def CLK_EVT : Fld := ⟨0x70004, 0, 1, 0x0, 1, 0, 0, 32⟩
/-- AUTO_RETURN of CLK_CFG (R373). -/
def CLK_CFG_AUTO_RETURN : Fld := ⟨0x70008, 0, 1, 0x0, 1, 0, 0, 1⟩
/-- RETURN of CLK_CFG (R373). -/
def CLK_CFG_RETURN : Fld := ⟨0x70008, 0, 1, 0x0, 1, 0, 1, 1⟩
/-- The whole word of CLK_CFG (R373). -/
def CLK_CFG : Fld := ⟨0x70008, 0, 1, 0x0, 1, 0, 0, 32⟩
/-- DEV of CLK_RATIO (R373). -/
def CLK_RATIO_DEV : Fld := ⟨0x7000c, 0, 1, 0x0, 1, 0, 0, 16⟩
/-- The whole word of CLK_RATIO (R373). -/
def CLK_RATIO : Fld := ⟨0x7000c, 0, 1, 0x0, 1, 0, 0, 32⟩
/-- SWITCHES of CLK_SW_CNT (R373). -/
def CLK_SW_CNT_SWITCHES : Fld := ⟨0x70010, 0, 1, 0x0, 1, 0, 0, 16⟩
/-- FORCED of CLK_SW_CNT (R373). -/
def CLK_SW_CNT_FORCED : Fld := ⟨0x70010, 0, 1, 0x0, 1, 0, 16, 16⟩
/-- The whole word of CLK_SW_CNT (R373). -/
def CLK_SW_CNT : Fld := ⟨0x70010, 0, 1, 0x0, 1, 0, 0, 32⟩
/-- RX of CLK_EN (R373). -/
def CLK_EN_RX : Fld := ⟨0x70014, 0, 1, 0x0, 1, 0, 0, 12⟩
/-- TX of CLK_EN (R373). -/
def CLK_EN_TX : Fld := ⟨0x70014, 0, 1, 0x0, 1, 0, 12, 4⟩
/-- AIN of CLK_EN (R373). -/
def CLK_EN_AIN : Fld := ⟨0x70014, 0, 1, 0x0, 1, 0, 16, 1⟩
/-- AOUT of CLK_EN (R373). -/
def CLK_EN_AOUT : Fld := ⟨0x70014, 0, 1, 0x0, 1, 0, 17, 1⟩
/-- ENC of CLK_EN (R373). -/
def CLK_EN_ENC : Fld := ⟨0x70014, 0, 1, 0x0, 1, 0, 18, 1⟩
/-- MARK of CLK_EN (R373). -/
def CLK_EN_MARK : Fld := ⟨0x70014, 0, 1, 0x0, 1, 0, 19, 1⟩
/-- OBS of CLK_EN (R373). -/
def CLK_EN_OBS : Fld := ⟨0x70014, 0, 1, 0x0, 1, 0, 20, 1⟩
/-- The whole word of CLK_EN (R373). -/
def CLK_EN : Fld := ⟨0x70014, 0, 1, 0x0, 1, 0, 0, 32⟩
/-- SRC of CLK_OBS_CFG (R373). -/
def CLK_OBS_CFG_SRC : Fld := ⟨0x70018, 0, 1, 0x0, 1, 0, 0, 4⟩
/-- DIV of CLK_OBS_CFG (R373). -/
def CLK_OBS_CFG_DIV : Fld := ⟨0x70018, 0, 1, 0x0, 1, 0, 4, 8⟩
/-- The whole word of CLK_OBS_CFG (R373). -/
def CLK_OBS_CFG : Fld := ⟨0x70018, 0, 1, 0x0, 1, 0, 0, 32⟩
/-- SRC of PWR_STAT (R395). -/
def PWR_STAT_SRC : Fld := ⟨0x71000, 0, 1, 0x0, 1, 0, 0, 1⟩
/-- MAIN_OK of PWR_STAT (R395). -/
def PWR_STAT_MAIN_OK : Fld := ⟨0x71000, 0, 1, 0x0, 1, 0, 1, 1⟩
/-- BACKUP_OK of PWR_STAT (R395). -/
def PWR_STAT_BACKUP_OK : Fld := ⟨0x71000, 0, 1, 0x0, 1, 0, 2, 1⟩
/-- HOLDUP_OK of PWR_STAT (R395). -/
def PWR_STAT_HOLDUP_OK : Fld := ⟨0x71000, 0, 1, 0x0, 1, 0, 3, 1⟩
/-- STATE of PWR_STAT (R395). -/
def PWR_STAT_STATE : Fld := ⟨0x71000, 0, 1, 0x0, 1, 0, 4, 3⟩
/-- PREV_FAIL of PWR_STAT (R395). -/
def PWR_STAT_PREV_FAIL : Fld := ⟨0x71000, 0, 1, 0x0, 1, 0, 7, 1⟩
/-- WEST_ON of PWR_STAT (R395). -/
def PWR_STAT_WEST_ON : Fld := ⟨0x71000, 0, 1, 0x0, 1, 0, 8, 1⟩
/-- EAST_ON of PWR_STAT (R395). -/
def PWR_STAT_EAST_ON : Fld := ⟨0x71000, 0, 1, 0x0, 1, 0, 9, 1⟩
/-- WEST_FAIL of PWR_STAT (R395). -/
def PWR_STAT_WEST_FAIL : Fld := ⟨0x71000, 0, 1, 0x0, 1, 0, 10, 1⟩
/-- EAST_FAIL of PWR_STAT (R395). -/
def PWR_STAT_EAST_FAIL : Fld := ⟨0x71000, 0, 1, 0x0, 1, 0, 11, 1⟩
/-- STOP_CAUSE of PWR_STAT (R395). -/
def PWR_STAT_STOP_CAUSE : Fld := ⟨0x71000, 0, 1, 0x0, 1, 0, 12, 3⟩
/-- The whole word of PWR_STAT (R395). -/
def PWR_STAT : Fld := ⟨0x71000, 0, 1, 0x0, 1, 0, 0, 32⟩
/-- SEQ of PWR_EVT (R395). -/
def PWR_EVT_SEQ : Fld := ⟨0x71004, 0, 1, 0x0, 1, 0, 0, 8⟩
/-- SWITCH of PWR_EVT (R395). -/
def PWR_EVT_SWITCH : Fld := ⟨0x71004, 0, 1, 0x0, 1, 0, 8, 1⟩
/-- RETURN_MAIN of PWR_EVT (R395). -/
def PWR_EVT_RETURN_MAIN : Fld := ⟨0x71004, 0, 1, 0x0, 1, 0, 9, 1⟩
/-- DIP of PWR_EVT (R395). -/
def PWR_EVT_DIP : Fld := ⟨0x71004, 0, 1, 0x0, 1, 0, 10, 1⟩
/-- HOLDUP_LOW of PWR_EVT (R395). -/
def PWR_EVT_HOLDUP_LOW : Fld := ⟨0x71004, 0, 1, 0x0, 1, 0, 11, 1⟩
/-- HALF_SUPPLY of PWR_EVT (R395). -/
def PWR_EVT_HALF_SUPPLY : Fld := ⟨0x71004, 0, 1, 0x0, 1, 0, 12, 1⟩
/-- THROTTLE of PWR_EVT (R395). -/
def PWR_EVT_THROTTLE : Fld := ⟨0x71004, 0, 1, 0x0, 1, 0, 13, 1⟩
/-- RISE_WARN of PWR_EVT (R395). -/
def PWR_EVT_RISE_WARN : Fld := ⟨0x71004, 0, 1, 0x0, 1, 0, 14, 1⟩
/-- RISE_ACT of PWR_EVT (R395). -/
def PWR_EVT_RISE_ACT : Fld := ⟨0x71004, 0, 1, 0x0, 1, 0, 15, 1⟩
/-- ORDERLY of PWR_EVT (R395). -/
def PWR_EVT_ORDERLY : Fld := ⟨0x71004, 0, 1, 0x0, 1, 0, 16, 1⟩
/-- IMMEDIATE of PWR_EVT (R395). -/
def PWR_EVT_IMMEDIATE : Fld := ⟨0x71004, 0, 1, 0x0, 1, 0, 17, 1⟩
/-- RESUMED of PWR_EVT (R395). -/
def PWR_EVT_RESUMED : Fld := ⟨0x71004, 0, 1, 0x0, 1, 0, 18, 1⟩
/-- SENSOR_BAD of PWR_EVT (R395). -/
def PWR_EVT_SENSOR_BAD : Fld := ⟨0x71004, 0, 1, 0x0, 1, 0, 19, 1⟩
/-- The whole word of PWR_EVT (R395). -/
def PWR_EVT : Fld := ⟨0x71004, 0, 1, 0x0, 1, 0, 0, 32⟩
/-- RET_MS of PWR_CFG (R395). -/
def PWR_CFG_RET_MS : Fld := ⟨0x71008, 0, 1, 0x0, 1, 0, 0, 16⟩
/-- RETURN of PWR_CFG (R395). -/
def PWR_CFG_RETURN : Fld := ⟨0x71008, 0, 1, 0x0, 1, 0, 16, 1⟩
/-- The whole word of PWR_CFG (R395). -/
def PWR_CFG : Fld := ⟨0x71008, 0, 1, 0x0, 1, 0, 0, 32⟩
/-- VOLT of PWR_MAIN (R395). -/
def PWR_MAIN_VOLT : Fld := ⟨0x7100c, 0, 1, 0x0, 1, 0, 0, 16⟩
/-- CURR of PWR_MAIN (R395). -/
def PWR_MAIN_CURR : Fld := ⟨0x7100c, 0, 1, 0x0, 1, 0, 16, 16⟩
/-- The whole word of PWR_MAIN (R395). -/
def PWR_MAIN : Fld := ⟨0x7100c, 0, 1, 0x0, 1, 0, 0, 32⟩
/-- VOLT of PWR_BACKUP (R395). -/
def PWR_BACKUP_VOLT : Fld := ⟨0x71010, 0, 1, 0x0, 1, 0, 0, 16⟩
/-- CURR of PWR_BACKUP (R395). -/
def PWR_BACKUP_CURR : Fld := ⟨0x71010, 0, 1, 0x0, 1, 0, 16, 16⟩
/-- The whole word of PWR_BACKUP (R395). -/
def PWR_BACKUP : Fld := ⟨0x71010, 0, 1, 0x0, 1, 0, 0, 32⟩
/-- POWER of PWR_MEAS (R395). -/
def PWR_MEAS_POWER : Fld := ⟨0x71014, 0, 1, 0x0, 1, 0, 0, 16⟩
/-- COMP_I of PWR_MEAS (R395). -/
def PWR_MEAS_COMP_I : Fld := ⟨0x71014, 0, 1, 0x0, 1, 0, 16, 16⟩
/-- The whole word of PWR_MEAS (R395). -/
def PWR_MEAS : Fld := ⟨0x71014, 0, 1, 0x0, 1, 0, 0, 32⟩
/-- ENERGY of HOLDUP (R395). -/
def HOLDUP_ENERGY : Fld := ⟨0x71018, 0, 1, 0x0, 1, 0, 0, 16⟩
/-- The whole word of HOLDUP (R395). -/
def HOLDUP : Fld := ⟨0x71018, 0, 1, 0x0, 1, 0, 0, 32⟩
/-- SWITCHES of PWR_SW_CNT (R395). -/
def PWR_SW_CNT_SWITCHES : Fld := ⟨0x7101c, 0, 1, 0x0, 1, 0, 0, 16⟩
/-- DIPS of PWR_SW_CNT (R395). -/
def PWR_SW_CNT_DIPS : Fld := ⟨0x7101c, 0, 1, 0x0, 1, 0, 16, 16⟩
/-- The whole word of PWR_SW_CNT (R395). -/
def PWR_SW_CNT : Fld := ⟨0x7101c, 0, 1, 0x0, 1, 0, 0, 32⟩
/-- PWR_LIMIT of THR_CFG (R395). -/
def THR_CFG_PWR_LIMIT : Fld := ⟨0x71020, 0, 1, 0x0, 1, 0, 0, 9⟩
/-- T_THROTTLE of THR_CFG (R395). -/
def THR_CFG_T_THROTTLE : Fld := ⟨0x71020, 0, 1, 0x0, 1, 0, 16, 8⟩
/-- The whole word of THR_CFG (R395). -/
def THR_CFG : Fld := ⟨0x71020, 0, 1, 0x0, 1, 0, 0, 32⟩
/-- LEVEL of THR_STAT (R395). -/
def THR_STAT_LEVEL : Fld := ⟨0x71024, 0, 1, 0x0, 1, 0, 0, 5⟩
/-- CAUSE of THR_STAT (R395). -/
def THR_STAT_CAUSE : Fld := ⟨0x71024, 0, 1, 0x0, 1, 0, 5, 3⟩
/-- MIN_LEVEL of THR_STAT (R395). -/
def THR_STAT_MIN_LEVEL : Fld := ⟨0x71024, 0, 1, 0x0, 1, 0, 8, 5⟩
/-- The whole word of THR_STAT (R395). -/
def THR_STAT : Fld := ⟨0x71024, 0, 1, 0x0, 1, 0, 0, 32⟩
/-- COUNT of THR_CNT (R395). -/
def THR_CNT_COUNT : Fld := ⟨0x71028, 0, 1, 0x0, 1, 0, 0, 32⟩
/-- The whole word of THR_CNT (R395). -/
def THR_CNT : Fld := ⟨0x71028, 0, 1, 0x0, 1, 0, 0, 32⟩
/-- MAX of TEMP_MAX (R395). -/
def TEMP_MAX_MAX : Fld := ⟨0x7102c, 0, 1, 0x0, 1, 0, 0, 16⟩
/-- SENSOR of TEMP_MAX (R395). -/
def TEMP_MAX_SENSOR : Fld := ⟨0x7102c, 0, 1, 0x0, 1, 0, 16, 8⟩
/-- RISE of TEMP_MAX (R395). -/
def TEMP_MAX_RISE : Fld := ⟨0x7102c, 0, 1, 0x0, 1, 0, 24, 8⟩
/-- The whole word of TEMP_MAX (R395). -/
def TEMP_MAX : Fld := ⟨0x7102c, 0, 1, 0x0, 1, 0, 0, 32⟩
/-- INDEX of TEMP_ADDR (R395). -/
def TEMP_ADDR_INDEX : Fld := ⟨0x71030, 0, 1, 0x0, 1, 0, 0, 8⟩
/-- AINC of TEMP_ADDR (R395). -/
def TEMP_ADDR_AINC : Fld := ⟨0x71030, 0, 1, 0x0, 1, 0, 8, 1⟩
/-- The whole word of TEMP_ADDR (R395). -/
def TEMP_ADDR : Fld := ⟨0x71030, 0, 1, 0x0, 1, 0, 0, 32⟩
/-- TEMP of TEMP_DATA (R395). -/
def TEMP_DATA_TEMP : Fld := ⟨0x71034, 0, 1, 0x0, 1, 0, 0, 16⟩
/-- RISE of TEMP_DATA (R395). -/
def TEMP_DATA_RISE : Fld := ⟨0x71034, 0, 1, 0x0, 1, 0, 16, 8⟩
/-- ADMITTED of TEMP_DATA (R395). -/
def TEMP_DATA_ADMITTED : Fld := ⟨0x71034, 0, 1, 0x0, 1, 0, 24, 1⟩
/-- The whole word of TEMP_DATA (R395). -/
def TEMP_DATA : Fld := ⟨0x71034, 0, 1, 0x0, 1, 0, 0, 32⟩
/-- T_RESUME of THERM_CFG (R395). -/
def THERM_CFG_T_RESUME : Fld := ⟨0x71038, 0, 1, 0x0, 1, 0, 0, 8⟩
/-- AUTO_RESUME of THERM_CFG (R395). -/
def THERM_CFG_AUTO_RESUME : Fld := ⟨0x71038, 0, 1, 0x0, 1, 0, 8, 1⟩
/-- RESUME of THERM_CFG (R395). -/
def THERM_CFG_RESUME : Fld := ⟨0x71038, 0, 1, 0x0, 1, 0, 9, 1⟩
/-- The whole word of THERM_CFG (R395). -/
def THERM_CFG : Fld := ⟨0x71038, 0, 1, 0x0, 1, 0, 0, 32⟩
/-- BUSY of NV_STAT (R410). -/
def NV_STAT_BUSY : Fld := ⟨0x72000, 0, 1, 0x0, 1, 0, 0, 1⟩
/-- BANK of NV_STAT (R410). -/
def NV_STAT_BANK : Fld := ⟨0x72000, 0, 1, 0x0, 1, 0, 1, 1⟩
/-- EMPTY of NV_STAT (R410). -/
def NV_STAT_EMPTY : Fld := ⟨0x72000, 0, 1, 0x0, 1, 0, 2, 1⟩
/-- BOOT_OUT of NV_STAT (R410). -/
def NV_STAT_BOOT_OUT : Fld := ⟨0x72000, 0, 1, 0x0, 1, 0, 3, 2⟩
/-- LEVEL of NV_STAT (R410). -/
def NV_STAT_LEVEL : Fld := ⟨0x72000, 0, 1, 0x0, 1, 0, 5, 2⟩
/-- PF_LAST of NV_STAT (R410). -/
def NV_STAT_PF_LAST : Fld := ⟨0x72000, 0, 1, 0x0, 1, 0, 7, 2⟩
/-- The whole word of NV_STAT (R410). -/
def NV_STAT : Fld := ⟨0x72000, 0, 1, 0x0, 1, 0, 0, 32⟩
/-- SEQ of NV_EVT (R410). -/
def NV_EVT_SEQ : Fld := ⟨0x72004, 0, 1, 0x0, 1, 0, 0, 8⟩
/-- STORED of NV_EVT (R410). -/
def NV_EVT_STORED : Fld := ⟨0x72004, 0, 1, 0x0, 1, 0, 8, 1⟩
/-- REFUSED of NV_EVT (R410). -/
def NV_EVT_REFUSED : Fld := ⟨0x72004, 0, 1, 0x0, 1, 0, 9, 1⟩
/-- PROT_WR of NV_EVT (R410). -/
def NV_EVT_PROT_WR : Fld := ⟨0x72004, 0, 1, 0x0, 1, 0, 10, 1⟩
/-- CELL_BAD of NV_EVT (R410). -/
def NV_EVT_CELL_BAD : Fld := ⟨0x72004, 0, 1, 0x0, 1, 0, 11, 1⟩
/-- The whole word of NV_EVT (R410). -/
def NV_EVT : Fld := ⟨0x72004, 0, 1, 0x0, 1, 0, 0, 32⟩
/-- PF_STORE of NV_CFG (R410). -/
def NV_CFG_PF_STORE : Fld := ⟨0x72008, 0, 1, 0x0, 1, 0, 0, 1⟩
/-- The whole word of NV_CFG (R410). -/
def NV_CFG : Fld := ⟨0x72008, 0, 1, 0x0, 1, 0, 0, 32⟩
/-- SEQ of NV_SEQ (R410). -/
def NV_SEQ_SEQ : Fld := ⟨0x7200c, 0, 1, 0x0, 1, 0, 0, 32⟩
/-- The whole word of NV_SEQ (R410). -/
def NV_SEQ : Fld := ⟨0x7200c, 0, 1, 0x0, 1, 0, 0, 32⟩
/-- COUNT of NV_STORE_CNT (R410). -/
def NV_STORE_CNT_COUNT : Fld := ⟨0x72010, 0, 1, 0x0, 1, 0, 0, 32⟩
/-- The whole word of NV_STORE_CNT (R410). -/
def NV_STORE_CNT : Fld := ⟨0x72010, 0, 1, 0x0, 1, 0, 0, 32⟩
/-- OFFSET of NV_RAW_ADDR (R410). -/
def NV_RAW_ADDR_OFFSET : Fld := ⟨0x72014, 0, 1, 0x0, 1, 0, 0, 13⟩
/-- INDEX of NV_RAW_ADDR (R410). -/
def NV_RAW_ADDR_INDEX : Fld := ⟨0x72014, 0, 1, 0x0, 1, 0, 13, 7⟩
/-- AREA of NV_RAW_ADDR (R410). -/
def NV_RAW_ADDR_AREA : Fld := ⟨0x72014, 0, 1, 0x0, 1, 0, 20, 2⟩
/-- AINC of NV_RAW_ADDR (R410). -/
def NV_RAW_ADDR_AINC : Fld := ⟨0x72014, 0, 1, 0x0, 1, 0, 22, 1⟩
/-- The whole word of NV_RAW_ADDR (R410). -/
def NV_RAW_ADDR : Fld := ⟨0x72014, 0, 1, 0x0, 1, 0, 0, 32⟩
/-- DATA of NV_RAW_DATA (R410). -/
def NV_RAW_DATA_DATA : Fld := ⟨0x72018, 0, 1, 0x0, 1, 0, 0, 32⟩
/-- The whole word of NV_RAW_DATA (R410). -/
def NV_RAW_DATA : Fld := ⟨0x72018, 0, 1, 0x0, 1, 0, 0, 32⟩
/-- VALUE of NV_CNT_k (R410). -/
def NV_CNT_VALUE : Fld := ⟨0x72100, 0, 32, 0x4, 1, 0, 0, 32⟩
/-- The whole word of NV_CNT_k (R410). -/
def NV_CNT : Fld := ⟨0x72100, 0, 32, 0x4, 1, 0, 0, 32⟩
/-- CLEARED of PLANT_STAT (R432). -/
def PLANT_STAT_CLEARED : Fld := ⟨0x73000, 0, 1, 0x0, 1, 0, 0, 1⟩
/-- PAD of PLANT_STAT (R432). -/
def PLANT_STAT_PAD : Fld := ⟨0x73000, 0, 1, 0x0, 1, 0, 1, 1⟩
/-- CAUSE of PLANT_STAT (R432). -/
def PLANT_STAT_CAUSE : Fld := ⟨0x73000, 0, 1, 0x0, 1, 0, 2, 3⟩
/-- RELEASABLE of PLANT_STAT (R432). -/
def PLANT_STAT_RELEASABLE : Fld := ⟨0x73000, 0, 1, 0x0, 1, 0, 5, 1⟩
/-- The whole word of PLANT_STAT (R432). -/
def PLANT_STAT : Fld := ⟨0x73000, 0, 1, 0x0, 1, 0, 0, 32⟩
/-- SEQ of PLANT_EVT (R432). -/
def PLANT_EVT_SEQ : Fld := ⟨0x73004, 0, 1, 0x0, 1, 0, 0, 8⟩
/-- CMP of PLANT_EVT (R432). -/
def PLANT_EVT_CMP : Fld := ⟨0x73004, 0, 1, 0x0, 1, 0, 8, 1⟩
/-- URGENT of PLANT_EVT (R432). -/
def PLANT_EVT_URGENT : Fld := ⟨0x73004, 0, 1, 0x0, 1, 0, 9, 1⟩
/-- WATERMARK of PLANT_EVT (R432). -/
def PLANT_EVT_WATERMARK : Fld := ⟨0x73004, 0, 1, 0x0, 1, 0, 10, 1⟩
/-- OVERRUN of PLANT_EVT (R432). -/
def PLANT_EVT_OVERRUN : Fld := ⟨0x73004, 0, 1, 0x0, 1, 0, 11, 1⟩
/-- OVER of PLANT_EVT (R432). -/
def PLANT_EVT_OVER : Fld := ⟨0x73004, 0, 1, 0x0, 1, 0, 12, 1⟩
/-- MOD_CLEAR of PLANT_EVT (R432). -/
def PLANT_EVT_MOD_CLEAR : Fld := ⟨0x73004, 0, 1, 0x0, 1, 0, 13, 1⟩
/-- PAD_CLEAR of PLANT_EVT (R432). -/
def PLANT_EVT_PAD_CLEAR : Fld := ⟨0x73004, 0, 1, 0x0, 1, 0, 14, 1⟩
/-- CH_FAULT of PLANT_EVT (R432). -/
def PLANT_EVT_CH_FAULT : Fld := ⟨0x73004, 0, 1, 0x0, 1, 0, 15, 1⟩
/-- OPEN of PLANT_EVT (R432). -/
def PLANT_EVT_OPEN : Fld := ⟨0x73004, 0, 1, 0x0, 1, 0, 16, 1⟩
/-- AOUT_REJ of PLANT_EVT (R432). -/
def PLANT_EVT_AOUT_REJ : Fld := ⟨0x73004, 0, 1, 0x0, 1, 0, 17, 1⟩
/-- AOUT_NAN of PLANT_EVT (R432). -/
def PLANT_EVT_AOUT_NAN : Fld := ⟨0x73004, 0, 1, 0x0, 1, 0, 18, 1⟩
/-- The whole word of PLANT_EVT (R432). -/
def PLANT_EVT : Fld := ⟨0x73004, 0, 1, 0x0, 1, 0, 0, 32⟩
/-- RELEASE of PLANT_CTL (R432). -/
def PLANT_CTL_RELEASE : Fld := ⟨0x73008, 0, 1, 0x0, 1, 0, 0, 1⟩
/-- LOAD of PLANT_CTL (R432). -/
def PLANT_CTL_LOAD : Fld := ⟨0x73008, 0, 1, 0x0, 1, 0, 1, 1⟩
/-- The whole word of PLANT_CTL (R432). -/
def PLANT_CTL : Fld := ⟨0x73008, 0, 1, 0x0, 1, 0, 0, 32⟩
/-- PAD_EN of AOUT_LOAD_CFG (R432). -/
def AOUT_LOAD_CFG_PAD_EN : Fld := ⟨0x7300c, 0, 1, 0x0, 1, 0, 0, 1⟩
/-- PERIOD_US of AOUT_LOAD_CFG (R432). -/
def AOUT_LOAD_CFG_PERIOD_US : Fld := ⟨0x7300c, 0, 1, 0x0, 1, 0, 16, 16⟩
/-- The whole word of AOUT_LOAD_CFG (R432). -/
def AOUT_LOAD_CFG : Fld := ⟨0x7300c, 0, 1, 0x0, 1, 0, 0, 32⟩
/-- EN of AIN_BUF_CFG (R432). -/
def AIN_BUF_CFG_EN : Fld := ⟨0x73010, 0, 1, 0x0, 1, 0, 0, 1⟩
/-- WATERMARK of AIN_BUF_CFG (R432). -/
def AIN_BUF_CFG_WATERMARK : Fld := ⟨0x73010, 0, 1, 0x0, 1, 0, 1, 14⟩
/-- The whole word of AIN_BUF_CFG (R432). -/
def AIN_BUF_CFG : Fld := ⟨0x73010, 0, 1, 0x0, 1, 0, 0, 32⟩
/-- WPTR of AIN_BUF_WPTR (R432). -/
def AIN_BUF_WPTR_WPTR : Fld := ⟨0x73014, 0, 1, 0x0, 1, 0, 0, 14⟩
/-- The whole word of AIN_BUF_WPTR (R432). -/
def AIN_BUF_WPTR : Fld := ⟨0x73014, 0, 1, 0x0, 1, 0, 0, 32⟩
/-- RPTR of AIN_BUF_RPTR (R432). -/
def AIN_BUF_RPTR_RPTR : Fld := ⟨0x73018, 0, 1, 0x0, 1, 0, 0, 14⟩
/-- The whole word of AIN_BUF_RPTR (R432). -/
def AIN_BUF_RPTR : Fld := ⟨0x73018, 0, 1, 0x0, 1, 0, 0, 32⟩
/-- COUNT of AIN_LOST_CNT (R432). -/
def AIN_LOST_CNT_COUNT : Fld := ⟨0x7301c, 0, 1, 0x0, 1, 0, 0, 32⟩
/-- The whole word of AIN_LOST_CNT (R432). -/
def AIN_LOST_CNT : Fld := ⟨0x7301c, 0, 1, 0x0, 1, 0, 0, 32⟩
/-- CODE of AIN_TEST (R432). -/
def AIN_TEST_CODE : Fld := ⟨0x73020, 0, 1, 0x0, 1, 0, 0, 12⟩
/-- INPUT of AIN_TEST (R432). -/
def AIN_TEST_INPUT : Fld := ⟨0x73020, 0, 1, 0x0, 1, 0, 12, 4⟩
/-- EN of AIN_TEST (R432). -/
def AIN_TEST_EN : Fld := ⟨0x73020, 0, 1, 0x0, 1, 0, 16, 1⟩
/-- The whole word of AIN_TEST (R432). -/
def AIN_TEST : Fld := ⟨0x73020, 0, 1, 0x0, 1, 0, 0, 32⟩
/-- INDEX of SINE_TBL_ADDR (R432). -/
def SINE_TBL_ADDR_INDEX : Fld := ⟨0x73024, 0, 1, 0x0, 1, 0, 0, 10⟩
/-- AINC of SINE_TBL_ADDR (R432). -/
def SINE_TBL_ADDR_AINC : Fld := ⟨0x73024, 0, 1, 0x0, 1, 0, 10, 1⟩
/-- The whole word of SINE_TBL_ADDR (R432). -/
def SINE_TBL_ADDR : Fld := ⟨0x73024, 0, 1, 0x0, 1, 0, 0, 32⟩
/-- ENTRY of SINE_TBL_DATA (R432). -/
def SINE_TBL_DATA_ENTRY : Fld := ⟨0x73028, 0, 1, 0x0, 1, 0, 0, 16⟩
/-- The whole word of SINE_TBL_DATA (R432). -/
def SINE_TBL_DATA : Fld := ⟨0x73028, 0, 1, 0x0, 1, 0, 0, 32⟩
/-- MODE of AIN_CFG_n (R433). -/
def AIN_CFG_MODE : Fld := ⟨0x73100, 0, 16, 0x10, 1, 0, 0, 2⟩
/-- ORDER of AIN_CFG_n (R433). -/
def AIN_CFG_ORDER : Fld := ⟨0x73100, 0, 16, 0x10, 1, 0, 2, 3⟩
/-- DEC of AIN_CFG_n (R433). -/
def AIN_CFG_DEC : Fld := ⟨0x73100, 0, 16, 0x10, 1, 0, 5, 19⟩
/-- The whole word of AIN_CFG_n (R433). -/
def AIN_CFG : Fld := ⟨0x73100, 0, 16, 0x10, 1, 0, 0, 32⟩
/-- THRESH of AIN_CMP_n (R433). -/
def AIN_CMP_THRESH : Fld := ⟨0x73104, 0, 16, 0x10, 1, 0, 0, 12⟩
/-- DIR of AIN_CMP_n (R433). -/
def AIN_CMP_DIR : Fld := ⟨0x73104, 0, 16, 0x10, 1, 0, 12, 2⟩
/-- HYST of AIN_CMP_n (R433). -/
def AIN_CMP_HYST : Fld := ⟨0x73104, 0, 16, 0x10, 1, 0, 14, 2⟩
/-- OUT of AIN_CMP_n (R433). -/
def AIN_CMP_OUT : Fld := ⟨0x73104, 0, 16, 0x10, 1, 0, 16, 1⟩
/-- The whole word of AIN_CMP_n (R433). -/
def AIN_CMP : Fld := ⟨0x73104, 0, 16, 0x10, 1, 0, 0, 32⟩
/-- VALUE of AIN_LAST_n (R433). -/
def AIN_LAST_VALUE : Fld := ⟨0x73108, 0, 16, 0x10, 1, 0, 0, 24⟩
/-- FLAGS of AIN_LAST_n (R433). -/
def AIN_LAST_FLAGS : Fld := ⟨0x73108, 0, 16, 0x10, 1, 0, 24, 8⟩
/-- The whole word of AIN_LAST_n (R433). -/
def AIN_LAST : Fld := ⟨0x73108, 0, 16, 0x10, 1, 0, 0, 32⟩
/-- COUNT of AIN_CMP_CNT_n (R433). -/
def AIN_CMP_CNT_COUNT : Fld := ⟨0x7310c, 0, 16, 0x10, 1, 0, 0, 32⟩
/-- The whole word of AIN_CMP_CNT_n (R433). -/
def AIN_CMP_CNT : Fld := ⟨0x7310c, 0, 16, 0x10, 1, 0, 0, 32⟩
/-- SPAN of AOUT_CFG_c (R434). -/
def AOUT_CFG_SPAN : Fld := ⟨0x73200, 0, 8, 0x20, 1, 0, 0, 3⟩
/-- EN of AOUT_CFG_c (R434). -/
def AOUT_CFG_EN : Fld := ⟨0x73200, 0, 8, 0x20, 1, 0, 3, 1⟩
/-- SINE_EN of AOUT_CFG_c (R434). -/
def AOUT_CFG_SINE_EN : Fld := ⟨0x73200, 0, 8, 0x20, 1, 0, 4, 1⟩
/-- OWN_EN of AOUT_CFG_c (R434). -/
def AOUT_CFG_OWN_EN : Fld := ⟨0x73200, 0, 8, 0x20, 1, 0, 5, 1⟩
/-- JOB of AOUT_CFG_c (R434). -/
def AOUT_CFG_JOB : Fld := ⟨0x73200, 0, 8, 0x20, 1, 0, 6, 4⟩
/-- ON_JOB of AOUT_CFG_c (R434). -/
def AOUT_CFG_ON_JOB : Fld := ⟨0x73200, 0, 8, 0x20, 1, 0, 10, 1⟩
/-- The whole word of AOUT_CFG_c (R434). -/
def AOUT_CFG : Fld := ⟨0x73200, 0, 8, 0x20, 1, 0, 0, 32⟩
/-- CODE of AOUT_CODE_c (R434). -/
def AOUT_CODE_CODE : Fld := ⟨0x73204, 0, 8, 0x20, 1, 0, 0, 16⟩
/-- PRESENT of AOUT_CODE_c (R434). -/
def AOUT_CODE_PRESENT : Fld := ⟨0x73204, 0, 8, 0x20, 1, 0, 16, 16⟩
/-- The whole word of AOUT_CODE_c (R434). -/
def AOUT_CODE : Fld := ⟨0x73204, 0, 8, 0x20, 1, 0, 0, 32⟩
/-- CLEAR of AOUT_CLEAR_c (R434). -/
def AOUT_CLEAR_CLEAR : Fld := ⟨0x73208, 0, 8, 0x20, 1, 0, 0, 16⟩
/-- The whole word of AOUT_CLEAR_c (R434). -/
def AOUT_CLEAR : Fld := ⟨0x73208, 0, 8, 0x20, 1, 0, 0, 32⟩
/-- GAIN of AOUT_GAIN_c (R434). -/
def AOUT_GAIN_GAIN : Fld := ⟨0x7320c, 0, 8, 0x20, 1, 0, 0, 32⟩
/-- The whole word of AOUT_GAIN_c (R434). -/
def AOUT_GAIN : Fld := ⟨0x7320c, 0, 8, 0x20, 1, 0, 0, 32⟩
/-- OFS of AOUT_OFS_c (R434). -/
def AOUT_OFS_OFS : Fld := ⟨0x73210, 0, 8, 0x20, 1, 0, 0, 32⟩
/-- The whole word of AOUT_OFS_c (R434). -/
def AOUT_OFS : Fld := ⟨0x73210, 0, 8, 0x20, 1, 0, 0, 32⟩
/-- FREQ of AOUT_FREQ_c (R434). -/
def AOUT_FREQ_FREQ : Fld := ⟨0x73214, 0, 8, 0x20, 1, 0, 0, 32⟩
/-- The whole word of AOUT_FREQ_c (R434). -/
def AOUT_FREQ : Fld := ⟨0x73214, 0, 8, 0x20, 1, 0, 0, 32⟩
/-- AMPL of AOUT_SHAPE_c (R434). -/
def AOUT_SHAPE_AMPL : Fld := ⟨0x73218, 0, 8, 0x20, 1, 0, 0, 16⟩
/-- PHASE of AOUT_SHAPE_c (R434). -/
def AOUT_SHAPE_PHASE : Fld := ⟨0x73218, 0, 8, 0x20, 1, 0, 16, 10⟩
/-- The whole word of AOUT_SHAPE_c (R434). -/
def AOUT_SHAPE : Fld := ⟨0x73218, 0, 8, 0x20, 1, 0, 0, 32⟩
/-- STATE of AOUT_STAT_c (R434). -/
def AOUT_STAT_STATE : Fld := ⟨0x7321c, 0, 8, 0x20, 1, 0, 0, 2⟩
/-- CH_FAULT of AOUT_STAT_c (R434). -/
def AOUT_STAT_CH_FAULT : Fld := ⟨0x7321c, 0, 8, 0x20, 1, 0, 2, 1⟩
/-- OPEN of AOUT_STAT_c (R434). -/
def AOUT_STAT_OPEN : Fld := ⟨0x7321c, 0, 8, 0x20, 1, 0, 3, 1⟩
/-- HOLD of AOUT_STAT_c (R434). -/
def AOUT_STAT_HOLD : Fld := ⟨0x7321c, 0, 8, 0x20, 1, 0, 4, 1⟩
/-- REJ_CNT of AOUT_STAT_c (R434). -/
def AOUT_STAT_REJ_CNT : Fld := ⟨0x7321c, 0, 8, 0x20, 1, 0, 16, 16⟩
/-- The whole word of AOUT_STAT_c (R434). -/
def AOUT_STAT : Fld := ⟨0x7321c, 0, 8, 0x20, 1, 0, 0, 32⟩

end R

end Sys2Proof.Machine
end

