-- ==== Sys2Proof/Machine/State.lean ====
section
/-! DEFINITION. Machine/State.lean: the state of the block as plain data, its reset value, and the reasons a step can stop.
Registers shown to the host live in `regs` (their buffered values in force in `inForce`); everything else the spec gives the
block has a record here. -/

namespace Sys2Proof.Machine

/-- The reasons a step stops with a fault: there is none. Every command of the table has an effect the spec gives. -/
inductive Fault where
  deriving DecidableEq, Repr

/-- The reasons a command is refused. `notModelled` marks a command without a meaning yet; raised only by an arm of
Machine/Dispatch.lean, and safe: nothing can be proved of what follows. -/
inductive Refusal where
  | notModelled (mnemonic : String)
  deriving DecidableEq, Repr

/-- What the most recent read of a status word reported (R11): its sequence number, the rs fields it reported, and the
fields an event has set again since. -/
structure WriteBack where
  seq : Nat
  reported : Word
  again : Word
  deriving DecidableEq, Repr

/-- An access of the indirect window that has not completed (R299): a fetch or a posted write, its domain and offset, the
word written, and whether the key was open for it (R297). -/
structure IndOp where
  write : Bool
  domain : Nat
  offset : Nat
  data : Word
  keyOpen : Bool
  deriving DecidableEq, Repr

/-- The I3C target and the indirect window (R287 to R293, R299). `fetched` is the word the last completed fetch holds for a
read of IND_DATA; `lastRead`, `lastCcc` and `lastIbi` are the bytes last put on the bus by a private read, a common command
code and an in-band interrupt; `acked` says whether the last transfer was acknowledged; `rung` holds the mailboxes whose doorbells the last
transfer rang (R307). The word fetched is 0 before any fetch, as IND_DATA is reset (R304). -/
structure Bus where
  ptr : Nat
  dynAddr : Option Nat
  enInt : Bool
  enHj : Bool
  mwl : Nat
  mrl : Nat
  hdr : Bool
  protoErr : Bool
  ibiMbx : Bool
  ibiEvt : Bool
  ibiRefused : Bool
  ibiAt : Option Nat
  hjDone : Bool
  indQueue : List IndOp
  fetched : Option Word
  lastRead : List Byte
  lastCcc : List Byte
  lastIbi : List Byte
  acked : Bool
  rung : List Nat
  deriving DecidableEq, Repr

/-- The target logic after power-on reset (R287): 1,027 bytes written, 1,024 read at most, no dynamic address. -/
def Bus.reset : Bus :=
  ⟨0, none, true, true, 1027, 1024, false, false, false, false, false, none, false, [], some 0, [], [], [], false, []⟩

/-- The state of a job (R40). -/
inductive JobState where
  | empty | loaded | warming | running | restarting
  deriving DecidableEq, Repr

/-- The fields of a job image's header that outlive its admission (R42). -/
structure ImageHdr where
  priority : Nat
  streams : Nat
  paths : Nat
  tagQuota : Nat
  nbBatches : Nat
  sramKib : Nat
  stageKib : Nat
  tiles : Nat
  pairs : Nat
  meshW : Nat
  meshE : Nat
  flags : Nat
  reqXbar : Nat
  reqMesh : Nat
  wsetId : Nat
  minDesc : Nat
  deriving DecidableEq, Repr

/-- No image. -/
def ImageHdr.none : ImageHdr := ⟨0, 0, 0, 0, 0, 0, 0, 0, 0, 0, 0, 0, 0, 0, 0, 0⟩

/-- An empty section area. -/
def Section.none : Section := ⟨true, [], [], [], [], [], [], [], [], [], [], 0, 0⟩

/-- The remedies of R332 still to be applied in a restart. -/
inductive Remedy where
  | none
  | page (ppn : Nat)
  | tile (t : Nat)
  | mesh (chiplet : Nat)
  | bridge
  | split
  | reduce (h cls : Nat)
  | half (h : Nat)
  | unit (clu : Nat)
  | reset (clu : Nat)
  | slices (t : Nat)
  | peer
  | full
  deriving DecidableEq, Repr

/-- A restart in progress (R334): class of its first fault, whether injected, its unit, the timebase and
the instant of detection, whether firmware has
taken the fault up, whether the epoch has advanced, the remedies still to apply, and whether the job is stopped instead
(R333). -/
structure Restart where
  cls : Nat
  injected : Bool
  kind : Nat
  unit : Nat
  time : DWord
  at_ : Nat
  taken : Bool
  advanced : Bool
  remedies : List Remedy
  stop : Bool
  deriving DecidableEq, Repr

/-- Where a shard of a job stands (R112, R211, R240, R246): the SHARD_NO, the tile that serves it (the even tile of a pair),
its operator, whether other jobs hold the tile too, the tile that still serves the old generation after a bell, the due tile
while a spare copy serves, whether the vector unit of the tile's cluster computes its products, the digest of the shard, and whether
the vector unit computes those of the old generation. -/
structure Placed where
  shard : Nat
  tile : Nat
  pair : Bool
  oper : Nat
  shared : Bool
  old : Option Nat
  home : Option Nat
  vec : Bool
  digest : List Byte
  oldVec : Bool
  deriving DecidableEq, Repr

/-- Why the dispatch of a job is held (R39, R248, R206, R389). -/
structure Holds where
  grade : Bool
  bell : Bool
  tile : Bool
  mesh : Bool
  deriving DecidableEq, Repr

/-- A job (R33, R40 to R44, R96, R334). `streams` holds the module stream of each image stream; `chips` the chiplets held
with the operator each serves; `epochAt` the instant of the last epoch advance; `restartsAt` the instants at which restarts
began; `restartDue` the streams whose next dispatched batch carries RESTART; `heldFor` the class that keeps the job in
RESTARTING (R184, R186); `stopping` a JOB_STOP that waits for results; `loading` a JOB_LOAD
whose weights are still being programmed; `bellDue` a bell rung and not yet struck (R245); `noMap` gives for each shard number
of the image the SHARD_NO in the set in service (R243); `written` counts the tiles its loading wrote (R311). -/
structure Job where
  st : JobState
  hdr : ImageHdr
  digest : List Byte
  sec : Section
  streams : List Nat
  placed : List Placed
  chips : List (Nat × Nat)
  substOn : List Nat
  grade : Nat
  epoch : Nat
  epochAt : Option Nat
  fenced : Bool
  restart : Option Restart
  restartsAt : List Nat
  restartDue : List Nat
  reduced : Option Nat
  heldFor : Nat
  holds : Holds
  waiting : Bool
  stopping : Bool
  loading : Bool
  bellDue : Bool
  noMap : List (Nat × Nat)
  written : Nat
  deriving DecidableEq, Repr

/-- An empty job number. -/
def Job.empty : Job :=
  ⟨.empty, ImageHdr.none, [], Section.none, [], [], [], [], 0, 0, none, false, none, [], [], none, 0,
    ⟨false, false, false, false⟩, false, false, false, false, [], 0⟩

/-- A line held for a job: its line number under R34, its place among the lines of its stream, its stamp, its pixels, and whether staging memory
holds 16 bits of each (R257). -/
structure Line where
  num : Nat
  abs : Nat
  stamp : Stamp
  pix : List Nat
  wide : Bool
  deriving DecidableEq, Repr

/-- The binding of a stream to a job (R34, R260): the number of the next line, the lines of the batch being collected, the
batch now lost to a dropped line, whether lines wait for a multiple of 64 after a restart (R334), the NO_BASELINE batches
still to be dispatched and still to be completed, and the number of the batch being collected with the stamp of the first of its lines seen
(R25). -/
structure Bind where
  bound : Bool
  next : Nat
  lines : List Line
  lostBatch : Option Nat
  resume : Bool
  nbDisp : Nat
  nbLeft : Nat
  first : Option (Nat × Stamp)
  deriving DecidableEq, Repr

/-- A stream that feeds no job. -/
def Bind.none : Bind := ⟨false, 0, [], Option.none, false, 0, 0, Option.none⟩

/-- A batch that is complete: waiting, being cut or dispatched (R34, R104). `todo` holds the INPUT tokens not yet cut; `tags` its
tags; `paths` the paths whose result has not left the path-order stage; `gen`, `flags`, `epoch` and the
MIX64 operators on their substitute (R149) are fixed when cutting begins (R39, R93, R246). -/
structure Batch where
  job : Nat
  stream : Nat
  k : Nat
  lines : List Line
  started : Bool
  todo : List InputSpec
  tags : List Nat
  paths : List Nat
  gen : Nat
  flags : Flags
  epoch : Nat
  subst : List Nat
  deriving DecidableEq, Repr

/-- A result in the path-order stage, the seating plan or a transmit queue (R110, R267). `lines` are the web positions of
the batch's lines, kept until its results have left (R258). -/
structure Result where
  job : Nat
  path : Nat
  stream : Nat
  gen : Nat
  k : Nat
  flags : Flags
  stamp : Stamp
  epoch : Nat
  head : Nat
  fmt : Nat
  payload : List Byte
  regions : List Region
  soft : List Nat
  linePos : List Word
  deriving DecidableEq, Repr

/-- A packet of a record (R263 to R270): its data type, whether it is the last part of its record, and its bytes. -/
structure Packet where
  dtype : Nat
  last : Bool
  bytes : List Byte
  deriving DecidableEq, Repr

/-- A packet handed to the record channel: its port, its virtual channel, and the packet (R264, R271). -/
structure RecPacket where
  port : Nat
  vc : Nat
  pkt : Packet
  deriving DecidableEq, Repr

/-- An output stream (R111, R115, R116): results held by the seating plan with the instant each joined, the time, web position and
stream of the last result emitted, the packets that wait for the transmit port, and the number of records. -/
structure OutStream where
  held : List (Result × Nat)
  last : Option (Nat × Nat × Nat)
  queue : List Packet
  recSeq : Nat
  deriving DecidableEq, Repr

/-- An output stream with nothing on it. -/
def OutStream.reset : OutStream := ⟨[], none, [], 0⟩

/-- A frame channel of a transmit port (R264): whether a frame is open, its records, when it opened, its number, and the
output stream (128 for the record channel) whose multi-part record it is in the midst of. -/
structure Chan where
  open_ : Bool
  recs : Nat
  at_ : Nat
  num : Nat
  mid : Option Nat
  deriving DecidableEq, Repr

/-- A channel on which no frame has opened. -/
def Chan.reset : Chan := ⟨false, 0, 0, 0, none⟩

/-- The short packets a transmit port sends: Frame Start and Frame End, with virtual channel and frame number. -/
inductive ShortSent where
  | frameStart (vc num : Nat)
  | frameEnd (vc num : Nat)
  deriving DecidableEq, Repr

/-- A transmit port (R255, R263 to R266): the round-robin place, the last long packet with its channel and data type, the
last short packet, the bits sent with their instants, the instant since which no frame has been open, the skew
calibration sequences sent with whether the last was the alternate one and its instant, whether the port has started, and the header ECC and
payload CRC of the last long packet. -/
structure TxPort where
  rr : Nat
  lastPacket : Option (Nat × Nat × List Byte)
  lastShort : Option ShortSent
  sent : List (Nat × Nat)
  idleAt : Nat
  skews : Nat
  skewAlt : Bool
  skewAt : Nat
  started : Bool
  ecc : BitVec 6
  crc : BitVec 16
  deriving DecidableEq, Repr

/-- A transmit port with nothing sent. -/
def TxPort.reset : TxPort := ⟨0, none, none, [], 0, 0, false, 0, false, 0, 0⟩

/-- A run of dropped lines not yet closed (R262). -/
structure DropRun where
  stream : Nat
  cause : Nat
  jobs : Nat
  lineFirst : Nat
  count : Nat
  first : Stamp
  last : Stamp
  at_ : Nat
  deriving DecidableEq, Repr

/-- The batches lost to a restart on one path and stream and not yet reported (R337): batch number, stamp of its first line
and stamp of its last line seen, in ascending order. -/
structure MissRun where
  job : Nat
  path : Nat
  stream : Nat
  cause : Nat
  lost : List (Nat × Stamp × Stamp)
  deriving DecidableEq, Repr

/-- The ingest of one stream (R256 to R259): whether a frame is open and its expected line number, the stamp and number of
a Line Start still without its long packet, lines counted, the last stamp, its drop runs, the lines already counted as
dropped, the instant of the last line, and the drops since the last periodic record. -/
structure Ingest where
  inFrame : Bool
  expected : Option Nat
  pendingLine : Option Stamp
  abs : Nat
  last : Stamp
  counted : List Nat
  lineAt : Option Nat
  drops : Nat
  deriving DecidableEq, Repr

/-- A stream on which nothing has arrived. -/
def Ingest.reset : Ingest := ⟨false, none, none, 0, ⟨0, 0⟩, [], none, 0⟩

/-- A bulk arm (R272, R273): whether set, port, purpose, staging address, limit, the slot a manifest or shard arm serves,
whether a frame is open, its outcome so far, and of the frame in progress the payload taken into staging and the first 10 bytes received. -/
structure Arm where
  set : Bool
  port : Nat
  purpose : Nat
  addr : Nat
  limit : Nat
  slot : Nat
  modIndex : Nat
  inFrame : Bool
  outcome : Nat
  data : List Byte
  heard : List Byte
  deriving DecidableEq, Repr

/-- An arm not set. -/
def Arm.none : Arm := ⟨false, 0, 0, 0, 0, 0, 0, false, 0, [], []⟩

/-- A range of the bulk region in use by a frame already accepted, a manifest or a shard (R273), with the bytes received. -/
structure BulkRange where
  addr : Nat
  len : Nat
  got : Nat
  purpose : Nat
  slot : Nat
  shard : Nat
  deriving DecidableEq, Repr

/-- A token standing somewhere in the fabric (R96, R99): whether it is marked stale, whether its header has already been
counted as waiting, the instant its header came to stand there (R332), the transfers that stand there with it, and the places behind
over which its body still stretches, nearest first, with the transfers at each. -/
structure Held where
  place : Place
  tok : Token
  stale : Bool
  counted : Bool
  at_ : Nat
  here : Nat
  trail : List (Place × Nat)
  deriving DecidableEq, Repr

/-- A reduction slot (R106, R107). -/
structure RedSlot where
  clu : Nat
  job : Nat
  tag : Nat
  oper : Nat
  seg : Nat
  sums : List Int
  count : Nat
  npart : Nat
  flags : Flags
  tok : Token
  deriving DecidableEq, Repr

/-- A page-table entry (R343). -/
structure Pte where
  ppn : Nat
  v : Bool
  r : Bool
  w : Bool
  clr : Bool
  deriving DecidableEq, Repr

/-- An invalid entry. -/
def Pte.none : Pte := ⟨0, false, false, false, false⟩

/-- An entry of the translation cache of a DMA engine (R328): its cluster, its tag of job and page index, and the page-table entry it holds. -/
structure XlateEntry where
  clu : Nat
  job : Nat
  ix : Nat
  pte : Pte
  deriving DecidableEq, Repr

/-- An entry of a marker's queue (R282): its target and whether its active level is low, by POL when it was scheduled (R286). -/
structure MarkEntry where
  target : Word
  low : Bool
  deriving DecidableEq, Repr

/-- The timebase, encoder and markers beside their registers (R275 to R284): whether the timebase has started, its count,
its fraction of a nanosecond in units of 10⁻⁸ of a nanosecond, events in a row within and beyond their limits, the value
expected at the next event, the encoder transitions of the last 1 ms and the filtered levels of ENC_A and ENC_B, the marker
queues (nearest first), the instant each active pulse ends with its width in µs, the instants of the last transitions of ENC_A and ENC_B, the level of
each marker output (true high), and the instant of the last periodic status record (R271). -/
structure TimeUnit where
  started : Bool
  count : DWord
  frac : Nat
  good : Nat
  far : Nat
  expect : DWord
  lastEvent : Option Nat
  syncHeld : Option Word
  trans : List (Nat × Int)
  encA : Bool
  encB : Bool
  marks : Sparse (List MarkEntry)
  pulse : Sparse (Nat × Nat)
  encAAt : Option Nat
  encBAt : Option Nat
  markHigh : Sparse Bool
  statusAt : Nat
  deriving DecidableEq, Repr

/-- Timekeeping after power-on reset (R275); the marker outputs stand at the inactive level of POL 0 (DEDUCED, log 176). -/
def TimeUnit.reset : TimeUnit := ⟨false, 0, 0, 0, 0, 0, none, none, [], false, false, [], [], none, none, [], 0⟩

/-- A batch begun at a tile and not complete there (R76, R197, R204): the batch, the products run, the settings and the live gain its
products run under. -/
structure TileBatch where
  key : Nat
  n : Nat
  words : List Word
  gain : Nat
  deriving DecidableEq, Repr

/-- A tile beside its registers (R76, R197 to R206): g_filt with the instant of its last update, the chalk sums of the present
batch measured (in units of 2⁻²² counts) and expected (in raw units), the batch of the last product, the batches begun, the settings that stood when the first token of a waiting batch arrived, the batches that straddle a forced
swap, the products since the last calibration slot, the calibration slots run, the instant HOLDING began, the chalk ratio
of the roll call, the settled estimate in
% squared, the CLIP_LVL the next swap brings, the read-back slots run, the spare columns found unusable, the spare legs found bad (ADC and which
of its two) and the spare drivers found bad. -/
structure TileRec where
  gFilt : Rat
  gAt : Nat
  chalkM : List Int
  chalkE : List Int
  cur : Option Nat
  begun : List TileBatch
  snaps : List (Nat × List Word)
  straddle : List Nat
  sinceCal : Nat
  calSlots : Nat
  holdAt : Nat
  gRc : Rat
  settled2 : Rat
  clipNew : Option Nat
  rbSlots : Nat
  badSpares : List Nat
  badLegs : List (Nat × Nat)
  badDrivers : List Nat
  deriving DecidableEq, Repr

/-- A tile after power-up. -/
def TileRec.reset : TileRec := ⟨1, 0, [], [], none, [], [], [], 0, 0, 0, 1, 0, none, 0, [], [], []⟩

/-- What is programmed into a tile's cells (R56, R227) and its bias table: the weight field of its shard and 256 biases; and the words of
SPARE_MAP by which its spare columns were programmed (R215). They keep their contents without power. -/
structure Cells where
  weights : List Byte
  biases : List Byte
  spares : List Word
  deriving DecidableEq, Repr

/-- A tile never written (DESIGN CHOICE, log 79). -/
def Cells.none : Cells := ⟨[], [], []⟩

/-- The occupancy record of a tile in the golden store (R230): digest of the shard last written, programming cycles, PROG_REF,
PROG_ERR, and whether it is due for homework (R250). -/
structure Occ where
  digest : List Byte
  pgm : Nat
  progRef : Nat
  progErr : Nat
  due : Bool
  deriving DecidableEq, Repr

/-- A tile never written: a ratio of 1 and no programming error. -/
def Occ.none : Occ := ⟨[], 0, 0x4000, 0, false⟩


/-- Why a chiplet is OUT_OF_SERVICE (R148, R150, R166, R380). -/
inductive OosCause where
  | none | bothFeeds | lightLoss | chanPilot | chanRing | heater | pilotHigh | settleLate | clock | supply
  deriving DecidableEq, Repr

/-- What firmware computes for a chiplet (R137, R142, R144): nothing, a matrix change, a trim, or a crosstalk rebuild. -/
inductive MeshWork where
  | none | matrix | trim | xtalk
  deriving DecidableEq, Repr

/-- Why a matrix change runs (R139, R140, R149, R243): it fixes the swap point. -/
inductive MeshWhy where
  | none | load | grade | bell | back
  deriving DecidableEq, Repr

/-- An input token in a chiplet (R134, R135): the token, its interface's cluster, the passes that have entered the drive buffer, the corrected
outputs of the passes launched so far, whether each was launched under STALE, and the output tokens emitted. -/
structure MeshTok where
  tok : Token
  clu : Nat
  loaded : Nat
  outs : List (List Int)
  stales : List Bool
  emitted : Nat
  deriving DecidableEq, Repr

/-- A photonic chiplet beside its registers (R128 to R150): the matrix in service with the image's shard number, the matrix to
come, the computation running and whether it has ended, why, whether its bell has struck, the batches and operators of the old
generation or grade still to pass, those of batches in flight that have passed, the tokens in it, the batches begun with tokens entered and passed (key, operator, entered, passed),
the batches that straddle a forced swap, whether outputs are STALE, the instants the wait for a swap point and the last swap
began, whether settling follows a full change, why it is out of service, whether it stays so until power-up, whether its
condition has cleared, pilots since the swap, the channel found bad with how often in a row, the mean temperature and the
place of the values of the last crosstalk rebuild, whether one has ended since power-up, the snapshot part restored to it, since when every reference monitor has read above half its level (R150), the
interfaces of the passes in the drive buffer in the order they entered (R135), the instant of the last pilot pass (R143), and whether
settling follows a swap (R148). -/
structure Chip where
  matrix : Option (Nat × List Byte)
  next : Option (Nat × List Byte)
  work : MeshWork
  ready : Bool
  why : MeshWhy
  belled : Bool
  drain : List (Nat × Nat)
  passed : List (Nat × Nat)
  toks : List MeshTok
  begun : List (Nat × Nat × Nat × Nat)
  straddle : List (Nat × Nat)
  stale : Bool
  holdAt : Nat
  swapAt : Nat
  full : Bool
  cause : OosCause
  failed : Bool
  cleared : Bool
  pilots : Nat
  badChan : Option (Nat × Nat)
  xtMean : Int
  xt : Option Nat
  xtDone : Bool
  restored : List Byte
  refAt : Option Nat
  order : List Nat
  pilotAt : Option Nat
  swapped : Bool
  deriving DecidableEq, Repr

/-- A chiplet after power-up. -/
def Chip.reset : Chip :=
  ⟨none, none, .none, false, .none, false, [], [], [], [], [], false, 0, 0, false, .none, false, false, 0, none, 0, none, false, [], none, [], none, false⟩


/-- A ring (R157, R159 to R162, R164, R165, R193): its RING_DATA fields, since when its loop has been frozen, the confirmations
failed in a row, the sweeps of its search made, whether its couplers are on toward the lane and toward the column (lane and switch rings), the code
its search has found, the level of its tone at lock, and whether it awaits confirmation. -/
structure Ring where
  assign : Nat
  st : Nat
  heater : Nat
  tone : Nat
  toneOk : Bool
  frozen : Option Nat
  fails : Nat
  sweeps : Nat
  laneSide : Bool
  colSide : Bool
  home : Nat
  lockLevel : Option Nat
  confirm : Bool
  deriving DecidableEq, Repr

/-- A ring before its search (R193), its couplers off (DESIGN CHOICE, log 172). -/
def Ring.reset : Ring := ⟨17, 0, 0, 0, false, none, 0, 0, false, false, 0, none, false⟩

/-- A codeword received and not yet merged (R173, R174): its symbol errors, and for an external port the tokens that end in it. -/
structure Codeword where
  errs : Nat
  inc : List Token
  deriving DecidableEq, Repr

/-- A lane (R171, R172, R174, R194): the fields of CIRC_DATA, the lane at the other end of its circuit (by 32 times the chiplet plus
the lane), uncorrectable codewords in a row, the instant its present stage counts from, and its deskew buffer, oldest first. -/
structure Lane where
  st : Nat
  column : Nat
  wave : Nat
  bridge : Nat
  ext : Bool
  mate : Option Nat
  ue : Nat
  at_ : Nat
  deskew : List Codeword
  deriving DecidableEq, Repr

/-- An idle lane. -/
def Lane.idle : Lane := ⟨0, 0, 0, 0, false, none, 0, 0, []⟩

/-- A bridge direction (R113, R114, R173, R174, R178, R179): transfers of the front token already sent, next codeword number, since when its queue
has been above 75 % and below 10 %, whether the receiver discards what is left of the front token, the framing symbol of the last
codeword, the striping map with the number from which it holds and the circuit whose codeword is next, and the additions that wait
(wavelength, transmit lane, receive lane). Directions 0 to 15 send from the bridges; 16 to 23 receive from the external ports. -/
structure BridgeDir where
  carried : Nat
  cwSeq : Nat
  highAt : Option Nat
  lowAt : Option Nat
  skip : Bool
  frame : Nat
  map : List Nat
  mapFrom : Nat
  turn : Nat
  waits : List (Nat × Nat × Nat)
  deriving DecidableEq, Repr

/-- A bridge direction at power-up. -/
def BridgeDir.reset : BridgeDir := ⟨0, 0, none, none, false, 0, [], 0, 0, []⟩

/-- A monitor (R180, R181): power now and, once its light has been locked, at lock; readings in loss in a row, whether its loss has been
located, and whether it reads 3 dB below its level at lock. -/
structure Mon where
  power : Int
  lock : Option Int
  runs : Nat
  located : Bool
  warn : Bool
  deriving DecidableEq, Repr

/-- A monitor that reads nothing. -/
def Mon.reset : Mon := ⟨0, none, 0, false, false⟩

/-- A half (R185, R332, R380): the instant of the last heartbeat of its sideband, of the loss of the sideband and of its hub
link, whether it has been declared failed, and whether it applies precedence itself. -/
structure Half where
  beatAt : Option Nat
  sbLostAt : Option Nat
  linkLostAt : Option Nat
  failed : Bool
  selfRule : Bool
  deriving DecidableEq, Repr

/-- A half at power-up. -/
def Half.reset : Half := ⟨none, none, none, false, false⟩

/-- An external port (R189 to R191): the instant of its last codeword that was not idle, the restarts asked of the peer, since when it has had no circuit
UP in either direction after having had one, since when it has had one in each direction, whether it is split from its peer, and the additions that
wait (outward or not, wavelength, lane). -/
structure ExtPort where
  busyAt : Nat
  ctrlOut : List Nat
  downAt : Option Nat
  upAt : Option Nat
  split : Bool
  waits : List (Bool × Nat × Nat)
  deriving DecidableEq, Repr

/-- An external port at power-up. -/
def ExtPort.reset : ExtPort := ⟨0, [], none, none, false, []⟩

/-- What firmware does on the rings of a chiplet (R160, R165, R168, R170): since when every slope has been below FF_RISE, the rings still to be
checked in the step check, the phase of the ring search, and the quarter of the rings the next tone window checks. -/
structure FeedFwd where
  quietAt : Option Nat
  toCheck : List Nat
  phase : Nat
  quarter : Nat
  deriving DecidableEq, Repr

/-- Nothing done on the rings. -/
def FeedFwd.reset : FeedFwd := ⟨none, [], 0, 0⟩

/-- A slot of the golden store (R229, R232): its state as WSET_SLOT_s codes it, module index, manifest, and the shards that stand in
it by SHARD_NO. It keeps its contents without power. -/
structure StoreSlot where
  st : Nat
  modIndex : Nat
  manifest : List Byte
  shards : List (Nat × List Byte)
  deriving DecidableEq, Repr

/-- An erased slot. -/
def StoreSlot.free : StoreSlot := ⟨0, 0, [], []⟩

/-- What a write–verify is for (R209, R211, R212, R234, R243). -/
inductive WriteUse where
  /-- the loading of a job -/
  | load (job : Nat)
  /-- a copy of the staging of a job, for a shard of its image -/
  | stage (job shard : Nat)
  /-- homework: the tile is rewritten in place -/
  | rewrite
  /-- homework: a spare copy of the tile named -/
  | copy (of_ : Nat)
  deriving DecidableEq, Repr

/-- A tile, or a pair of tiles, that is to be written, is being written, is read back or roll-called (R234 to R238): `st` is 0
waiting, 1 being written, 2 to be read back, 3 to be roll-called, 4 done. `first` marks the order of class 1 of R237; `tries`
is 1 once it is written again, and 2 for a tile used as it stands (R238); `hw` says that the tile has fallen due with cause column before it
enters service (R236). -/
structure WriteReq where
  tile : Nat
  pair : Bool
  slot : Nat
  no : Nat
  use : WriteUse
  st : Nat
  tries : Nat
  first : Bool
  hw : Bool
  deriving DecidableEq, Repr

/-- A copy of a staging (R243): the image's shard number, the SHARD_NO in the new set, the tile, whether a pair, whether ready. -/
structure Copy where
  shard : Nat
  no : Nat
  tile : Nat
  pair : Bool
  ready : Bool
  deriving DecidableEq, Repr

/-- The staging of a job (R242 to R250): its copies, the shard numbers of the new set for each of the image, the chiplets whose
matrix changes with the image's shard number and whether the matrix is ready, and whether the bell is to ring at READY. -/
structure WStage where
  copies : List Copy
  noMap : List (Nat × Nat)
  meshes : List (Nat × Nat × Bool)
  ring : Bool
  deriving DecidableEq, Repr

/-- No staging. -/
def WStage.none : WStage := ⟨[], [], [], false⟩

/-- The calibration sequencer of a quadrant (R200 to R207, R251): triggers held, the quadrant temperature at the start of the run,
the tiles of the round still to be measured and those measured and not yet swapped, the tiles the periodic read-back has still
to read in later rounds and those of its present round of 64 (R251). -/
structure QuadCal where
  held : List Nat
  startT : Int
  round : List Nat
  unswapped : List Nat
  readback : List Nat
  rbRound : List Nat
  endAt : Nat
  lastBuilt : Bool
  deriving DecidableEq, Repr

/-- A sequencer at rest. -/
def QuadCal.reset : QuadCal := ⟨[], 0, [], [], [], [], 0, false⟩

/-- Homework of a tile (R209 to R212): the tile, its cause, the path of R211, the tile of its spare copy, how far it has come, and
the order in which it fell due. `step` is 0 due, 1 copy being built, 2 job to move to the copy, 3 tile being rewritten, 4 job to
move back. `pages` are the SRAM pages of the vector-unit path; `lost` marks a tile withdrawn, whose copy becomes the job's tile; `cols` are the output columns to be given spares; `holdAt` is the instant new
batches are held from for a move (R204, R211). -/
structure Homework where
  tile : Nat
  pair : Bool
  why : Nat
  path : Nat
  copy : Option Nat
  step : Nat
  tries : Nat
  pages : List Nat
  lost : Bool
  cols : List Nat
  holdAt : Nat
  deriving DecidableEq, Repr



/-- A switch of the reference multiplexer in progress (R364, R365, R367): to RC/4 after a trip, or back to the crystal. -/
inductive RefSwitch where
  | none | toRc | toCrystal
  deriving DecidableEq, Repr

/-- The clocks beside their registers (R359 to R371): windows within tolerance and outside it in a row, the departures of the last 10
windows in ppm, since when the RC oscillator has not been ready, since when the loops have been without a reference, the switch in
progress, whether the loops have a reference to lock on, whether a switch of CLK_OBS is in progress, since when the optical sample
clock has been unlocked and locked, whether the crystal has been judged at start-up, and when the switch of the reference began. -/
structure Clk where
  good : Nat
  bad : Nat
  devs : List Int
  rcLostAt : Option Nat
  tripAt : Option Nat
  mux : RefSwitch
  fed : Bool
  obs : Bool
  optLostAt : Option Nat
  optOkAt : Option Nat
  judged : Bool
  muxAt : Nat
  deriving DecidableEq, Repr

/-- The clocks at the release of reset (R363): every loop coasts and no oscillator runs yet. -/
def Clk.reset : Clk := ⟨0, 0, [], some 0, none, .none, false, false, some 0, none, false, 0⟩

/-- Power beside its registers (R374 to R391): since when MAIN has been valid, the instant the last input left its range, whether power
fail is confirmed and the timebase then, the start of an orderly stop and whether its fault has been signalled, since when Tmax has
been at or below T_RESUME, the instant of the last change of throttle level, and whether the module is held in reset without power. -/
structure Pwr where
  mainAt : Option Nat
  failAt : Option Nat
  confirmed : Bool
  confTime : DWord
  stopAt : Option Nat
  stopFault : Bool
  coolAt : Option Nat
  levelAt : Nat
  off : Bool
  deriving DecidableEq, Repr

/-- Power at the release of reset. -/
def Pwr.reset : Pwr := ⟨none, none, false, 0, none, false, none, 0, false⟩

/-- A temperature sensor (R382, R383): its last 11 readings, newest first, in units of 1/16 °C; since when it has read outside its limits, and
within them; and whether it is excluded. -/
structure Sensor where
  past : List Int
  outAt : Option Nat
  okAt : Option Nat
  excluded : Bool
  deriving DecidableEq, Repr

/-- A sensor not read yet. -/
def Sensor.reset : Sensor := ⟨[], none, none, false⟩

/-- A store of the array that runs (R399, R400): its bank and sequence number, the mailbox of its NV_STORE (none: at power fail), its start, the
page being written, its record, and the lines of it that are written. -/
structure NvRun where
  bank : Nat
  seq : Nat
  mbx : Option Nat
  at_ : Nat
  page : Nat
  rcd : List Byte
  lines : Nat
  deriving DecidableEq, Repr

/-- Boot (R346, R347, R351): 0 no boot under way, 1 a bank is being checked, 2 firmware starts, 3 in service, 4 no bank passes. The bank being
checked, the banks that have failed at this boot, the image booted and the substitute's, and the instant of BOOT_DONE. -/
structure Boot where
  phase : Nat
  bank : Nat
  failed : List Nat
  act : FwImage
  sub : FwImage
  at_ : Option Nat
  deriving DecidableEq, Repr

/-- Before the first boot. -/
def Boot.reset : Boot := ⟨0, 0, [], FwImage.none, FwImage.none, none⟩

/-- What keeps its contents without power in the firmware store and the fuses (R344, R347): the images SEC_FW_LOAD has written, by bank; the bank
the boot record prefers with the number of its newest copy; and the fused security version. -/
structure FwStore where
  banks : List (Nat × List Byte)
  preferred : Nat
  recordSeq : Nat
  svn : Nat
  deriving DecidableEq, Repr

/-- The firmware store as shipped. -/
def FwStore.reset : FwStore := ⟨[], 0, 1, 0⟩

/-- The firmware state a supervisor holds a copy of (R319): the job table with its placements, route tables and restarts; the mailboxes in
progress; the writes, stagings, calibration and homework in progress; and the assignment of rings, lanes and bridge directions. -/
structure FwCopy where
  jobs : Sparse Job
  mailboxes : List Nat
  writes : List WriteReq
  stages : Sparse WStage
  quads : Sparse QuadCal
  homework : List Homework
  rings : Sparse Ring
  lanes : Sparse Lane
  dirs : Sparse BridgeDir
  deriving DecidableEq, Repr

/-- The copy of a substitute that has received nothing. -/
def FwCopy.none : FwCopy := ⟨[], [], [], [], [], [], [], [], []⟩

/-- A start of mesh work or of a calibration run that a paused firmware holds (R322): a trim or a crosstalk rebuild of a chiplet, or a run of a
quadrant with its cause. -/
inductive HeldStart where
  | trim (k : Nat)
  | xtalk (k : Nat)
  | run (q cause : Nat)
  deriving DecidableEq, Repr

/-- The supervisors beside their registers (R319 to R325): journal records sent and acknowledged, the instants of the last rally and of its last
answer, since when a takeover is under way, and the SEC_FW_LOAD in progress: its mailbox, image, bank and start; then the substitute's copy of
the firmware state, what the last rally carried (the last record sent and whether the self-checks passed), the record number the last answer
carried, and the starts that wait for firmware to resume. -/
structure Sup where
  sent : Nat
  acked : Nat
  rallyAt : Nat
  answerAt : Nat
  takingAt : Option Nat
  fw : Option (Nat × FwImage × Nat × Nat)
  copy : FwCopy
  rallyNo : Nat
  rallyOk : Bool
  answerNo : Nat
  waiting : List HeldStart
  deriving DecidableEq, Repr

/-- The supervisors before boot. -/
def Sup.reset : Sup := ⟨0, 0, 0, 0, none, none, FwCopy.none, 0, true, 0, []⟩

/-- A plant input (R413 to R418): conversions still unsettled, the urgent conversion pending (none; waiting for its first
boundary; conversions left), whether the comparator is armed in each direction, and the test DAC as connected. -/
structure AinRec where
  settle : Nat
  urgent : Option (Option Nat)
  armRise : Bool
  armFall : Bool
  testOn : Bool
  testCode : Nat
  deriving DecidableEq, Repr

/-- A plant input after reset. -/
def AinRec.reset : AinRec := ⟨0, none, true, true, false, 0⟩

/-- A plant output (R422 to R429): the pending code, the code the last strobe made present (the centre of a sine), the code a
deglitch hold steps to, the sine phase, a failed self-check, the clear of R425 (1: waiting for OUT_AOUT; 2: leaving at the
next strobe), a clear ended that the next strobe lifts, and the instant the deglitch hold began. -/
structure AoutRec where
  pend : Nat
  center : Nat
  holdTo : Option Nat
  phase : Nat
  chFault : Bool
  jobClear : Nat
  held : Bool
  holdAt : Nat
  deriving DecidableEq, Repr

/-- A plant output after reset. -/
def AoutRec.reset : AoutRec := ⟨0, 0, none, 0, false, 0, false, 0⟩

/-- The plant interfaces beside their registers (R419 to R427): inputs, outputs, the sine table entries written, records
written since the buffer was enabled, a strobe held while the PLANT loop coasts, outputs cleared by a confirmed power fail, and the
timebase value at the last periodic strobe (R422). -/
structure Plant where
  ains : Sparse AinRec
  aouts : Sparse AoutRec
  sine : Sparse Int
  seq : Nat
  strobeHeld : Bool
  powerFail : Bool
  strobeAt : Nat
  deriving DecidableEq, Repr

/-- The plant interfaces after reset. -/
def Plant.reset : Plant := ⟨[], [], [], 0, false, false, 0⟩

/-- The state of the block. -/
structure State where
  /-- Elapsed time since the release of reset, in units of 10/3 ns: 3 units are one cycle of the 100 MHz timebase clock. -/
  now : Nat
  /-- The model's own: how many free values have been drawn. -/
  freeIx : Nat
  /-- The commands that wait, first in first out. -/
  pending : List Instr
  /-- The register words, by key (RegMap.lean); an unlisted word reads as its reset value. -/
  regs : Sparse Word
  /-- The values in force of buffered registers (R300), by key; unlisted: the reset value. -/
  inForce : Sparse Word
  /-- What the last read of each status word reported (R11), by key. -/
  wb : Sparse (Option WriteBack)
  /-- The latched high words of direct 64-bit values (R298), by key of the high word. -/
  shadow : Sparse (Option Word)
  /-- The I3C target and the indirect window. -/
  bus : Bus
  /-- The mailboxes QUEUED or RUNNING, in the order their doorbells were rung (R307). -/
  mbxOrder : List Nat
  /-- Hub staging memory, by staging address (R299). -/
  staging : Sparse Byte
  /-- The jobs, by number (R33). -/
  jobs : Sparse Job
  /-- The bindings, by 48 times the job plus the stream (R260). -/
  binds : Sparse Bind
  /-- Complete batches, waiting, being cut or in flight, in the order they were completed (R104). -/
  batches : List Batch
  /-- The tags held, each with its job (R103). -/
  tagsHeld : List (Nat × Nat)
  /-- The instant each tag was last taken (STALL of R332). -/
  tagAt : Sparse (Option Nat)
  /-- The results held by the path-order stage (R110). -/
  arrived : List Result
  /-- The output streams, by number (R115). -/
  outs : Sparse OutStream
  /-- The packets handed to the record channel (R264). -/
  recQ : List RecPacket
  /-- Records of the record channel since power-up (R269). -/
  recSeq : Nat
  /-- The transmit ports, by number. -/
  tx : Sparse TxPort
  /-- The frame channels, by 16 times the transmit port plus the virtual channel (R264). -/
  chans : Sparse Chan
  /-- The ingest of each stream (R258). -/
  ingest : Sparse Ingest
  /-- The runs of dropped lines not yet closed (R262). -/
  drops : List DropRun
  /-- The runs of lost batches not yet closed (R337). -/
  misses : List MissRun
  /-- The bulk arms (R272). -/
  arms : Sparse Arm
  /-- The ranges of the bulk region in use beside the set arms (R273). -/
  bulk : List BulkRange
  /-- The instant of the last high-speed data of each receive port (RX_STAT). -/
  rxAt : Sparse (Option Nat)
  /-- The tokens in the fabric, oldest first at each place (R92 to R99). -/
  fabric : List Held
  /-- The round-robin place of every arbiter, by its number (R100, R330). -/
  grantRr : Sparse Nat
  /-- The open reduction slots (R106). -/
  slots : List RedSlot
  /-- The page tables, by 4,096 times the job plus the page index (R326). -/
  ptes : Sparse Pte
  /-- The translation caches of the DMA engines of all clusters, oldest entry first (R328). -/
  xlates : List XlateEntry
  /-- The timebase, encoder and markers. -/
  time : TimeUnit
  /-- Dispatch of every job is halted by a module fault (cause HALT of R261). -/
  halt : Bool
  /-- Activation SRAM, by 65,536 times the physical page number plus the offset (R90, R327). -/
  sram : Sparse Byte
  /-- The instant of the last uncorrectable error of each SRAM page (R332). -/
  pageUe : Sparse (Option Nat)
  /-- The instant of the last UNIT fault of each cluster (R332). -/
  unitUe : Sparse (Option Nat)
  /-- The pages retired until power-up, by PPN (R332). -/
  retired : List Nat
  /-- The clusters withdrawn until power-up (R332). -/
  cluOut : List Nat
  /-- The plant inputs and outputs beside their registers. -/
  plant : Plant
  /-- The tiles beside their registers, by number. -/
  tiles : Sparse TileRec
  /-- What is programmed into the tiles, by number (R56). -/
  cells : Sparse Cells
  /-- The occupancy records, by tile (R230). -/
  occ : Sparse Occ
  /-- The correction tables, by 1,024 times the tile plus 512 times the bank plus the entry (R224). -/
  tcal : Sparse Word
  /-- The recurrent states, by 48 times the job plus the stream (R109). -/
  recur : Sparse (List Int)
  /-- The batches in flight whose STATE update is complete: job, stream and batch (R109). -/
  stDone : List (Nat × Nat × Nat)
  /-- The photonic chiplets beside their registers, by number. -/
  chips : Sparse Chip
  /-- The tables of the chiplets: 131,072 times the chiplet plus 65,536 times the bank plus 16,384 times the area plus the index (R154). -/
  meshTbl : Sparse Word
  /-- The rings, by 2,048 times the chiplet plus the index (R159). -/
  rings : Sparse Ring
  /-- The lanes, by 32 times the chiplet plus the lane of CIRC_ADDR (R194). -/
  lanes : Sparse Lane
  /-- The bridge directions, by the sending bridge of R192 (R113, R174). -/
  dirs : Sparse BridgeDir
  /-- The power monitors, by 128 times the chiplet plus the index (R180). -/
  mons : Sparse Mon
  /-- The halves, by number: 0 west, 1 east. -/
  halves : Sparse Half
  /-- The external ports, by number. -/
  exts : Sparse ExtPort
  /-- Feed-forward, by chiplet (R168). -/
  feedFwd : Sparse FeedFwd
  /-- Since when no bridge has had a circuit UP in either direction while both halves are healthy (R183). -/
  splitAt : Option Nat
  /-- Since when some bridge has had a circuit UP in each direction (R187). -/
  returnAt : Option Nat
  /-- The slots of the golden store (R229). -/
  store : Sparse StoreSlot
  /-- The tiles being written, read back or roll-called, in the order their requests were processed (R237). -/
  writes : List WriteReq
  /-- The stagings, by job (R242). -/
  stages : Sparse WStage
  /-- The calibration sequencers, by module quadrant. -/
  quads : Sparse QuadCal
  /-- The homework due and under way, in the order it fell due (R209). -/
  homework : List Homework
  /-- The first sweep: 0 not begun, 1 COLD, 2 WARM, 3 measured and waiting for tiles to be rewritten, 4 ended (R214, R216). -/
  firstForm : Nat
  /-- The instant RB_PERIOD last expired (R251). -/
  readbackAt : Nat
  /-- The JOB_LOAD that waits for the first sweep or a chiplet (R45, R142): its mailbox and the reading of its section area. -/
  loadWait : Option (Nat × Section)
  /-- The move of the feed selector in progress: the feed and the instant it began (R127). -/
  feedMove : Option (Nat × Nat)
  /-- The OPT_EXT_SET or OPT_BRIDGE_ROUTE that waits for circuits: the instant it began, by mailbox (R314). -/
  bridgeBuild : Sparse (Option Nat)
  /-- The clocks beside their registers. -/
  clk : Clk
  /-- Power beside its registers. -/
  pwr : Pwr
  /-- The temperature sensors, by number (R382). -/
  sensors : Sparse Sensor
  /-- The array of the non-volatile store, by offset (R396). -/
  nvArr : Sparse Byte
  /-- The shadow array: 2,097,152 times the area of R410 plus 8,192 times the index plus the offset (R397). -/
  nvShadow : Sparse Byte
  /-- The store of the array that runs (R399). -/
  nvRun : Option NvRun
  /-- Boot (R346). -/
  boot : Boot
  /-- The firmware store and the fuses (R344, R347). -/
  fw : FwStore
  /-- The supervisors beside their registers. -/
  sup : Sup
  deriving DecidableEq, Repr

/-- The module at the release of power-on reset (R13, R294, R346): START_UP, every register at its Reset column, nothing
in flight (DESIGN CHOICE, log 149). -/
def State.reset : State where
  now := 0
  freeIx := 0
  pending := []
  regs := []
  inForce := []
  wb := []
  shadow := []
  bus := Bus.reset
  mbxOrder := []
  staging := []
  jobs := []
  binds := []
  batches := []
  tagsHeld := []
  tagAt := []
  arrived := []
  outs := []
  recQ := []
  recSeq := 0
  tx := []
  chans := []
  ingest := []
  drops := []
  misses := []
  arms := []
  bulk := []
  rxAt := []
  fabric := []
  grantRr := []
  slots := []
  ptes := []
  xlates := []
  time := TimeUnit.reset
  halt := false
  sram := []
  pageUe := []
  unitUe := []
  retired := []
  cluOut := []
  plant := Plant.reset
  tiles := []
  cells := []
  occ := []
  tcal := []
  recur := []
  stDone := []
  chips := []
  meshTbl := []
  rings := []
  lanes := []
  dirs := []
  mons := []
  halves := []
  exts := []
  feedFwd := []
  splitAt := none
  returnAt := none
  store := []
  writes := []
  stages := []
  quads := []
  homework := []
  firstForm := 0
  readbackAt := 0
  loadWait := none
  feedMove := none
  bridgeBuild := []
  clk := Clk.reset
  pwr := Pwr.reset
  sensors := []
  nvArr := []
  nvShadow := []
  nvRun := none
  boot := Boot.reset
  fw := FwStore.reset
  sup := Sup.reset

/-- Replaces `now`. -/
def State.setNow (s : State) (v : Nat) : State := { s with now := v }
/-- Replaces `freeIx`. -/
def State.setFreeIx (s : State) (v : Nat) : State := { s with freeIx := v }
/-- Replaces `pending`. -/
def State.setPending (s : State) (v : List Instr) : State := { s with pending := v }
/-- Replaces `regs`. -/
def State.setRegs (s : State) (v : Sparse Word) : State := { s with regs := v }
/-- Replaces `inForce`. -/
def State.setInForce (s : State) (v : Sparse Word) : State := { s with inForce := v }
/-- Replaces `wb`. -/
def State.setWb (s : State) (v : Sparse (Option WriteBack)) : State := { s with wb := v }
/-- Replaces `shadow`. -/
def State.setShadow (s : State) (v : Sparse (Option Word)) : State := { s with shadow := v }
/-- Replaces `bus`. -/
def State.setBus (s : State) (v : Bus) : State := { s with bus := v }
/-- Replaces `mbxOrder`. -/
def State.setMbxOrder (s : State) (v : List Nat) : State := { s with mbxOrder := v }
/-- Replaces `staging`. -/
def State.setStaging (s : State) (v : Sparse Byte) : State := { s with staging := v }
/-- Replaces `jobs`. -/
def State.setJobs (s : State) (v : Sparse Job) : State := { s with jobs := v }
/-- Replaces `binds`. -/
def State.setBinds (s : State) (v : Sparse Bind) : State := { s with binds := v }
/-- Replaces `batches`. -/
def State.setBatches (s : State) (v : List Batch) : State := { s with batches := v }
/-- Replaces `tagsHeld`. -/
def State.setTagsHeld (s : State) (v : List (Nat × Nat)) : State := { s with tagsHeld := v }
/-- Replaces `tagAt`. -/
def State.setTagAt (s : State) (v : Sparse (Option Nat)) : State := { s with tagAt := v }
/-- Replaces `arrived`. -/
def State.setArrived (s : State) (v : List Result) : State := { s with arrived := v }
/-- Replaces `outs`. -/
def State.setOuts (s : State) (v : Sparse OutStream) : State := { s with outs := v }
/-- Replaces `recQ`. -/
def State.setRecQ (s : State) (v : List RecPacket) : State := { s with recQ := v }
/-- Replaces `recSeq`. -/
def State.setRecSeq (s : State) (v : Nat) : State := { s with recSeq := v }
/-- Replaces `tx`. -/
def State.setTx (s : State) (v : Sparse TxPort) : State := { s with tx := v }
/-- Replaces `chans`. -/
def State.setChans (s : State) (v : Sparse Chan) : State := { s with chans := v }
/-- Replaces `ingest`. -/
def State.setIngest (s : State) (v : Sparse Ingest) : State := { s with ingest := v }
/-- Replaces `drops`. -/
def State.setDrops (s : State) (v : List DropRun) : State := { s with drops := v }
/-- Replaces `misses`. -/
def State.setMisses (s : State) (v : List MissRun) : State := { s with misses := v }
/-- Replaces `arms`. -/
def State.setArms (s : State) (v : Sparse Arm) : State := { s with arms := v }
/-- Replaces `bulk`. -/
def State.setBulk (s : State) (v : List BulkRange) : State := { s with bulk := v }
/-- Replaces `rxAt`. -/
def State.setRxAt (s : State) (v : Sparse (Option Nat)) : State := { s with rxAt := v }
/-- Replaces `fabric`. -/
def State.setFabric (s : State) (v : List Held) : State := { s with fabric := v }
/-- Replaces `grantRr`. -/
def State.setGrantRr (s : State) (v : Sparse Nat) : State := { s with grantRr := v }
/-- Replaces `slots`. -/
def State.setSlots (s : State) (v : List RedSlot) : State := { s with slots := v }
/-- Replaces `ptes`. -/
def State.setPtes (s : State) (v : Sparse Pte) : State := { s with ptes := v }
/-- Replaces `xlates`. -/
def State.setXlates (s : State) (v : List XlateEntry) : State := { s with xlates := v }
/-- Replaces `time`. -/
def State.setTime (s : State) (v : TimeUnit) : State := { s with time := v }
/-- Replaces `halt`. -/
def State.setHalt (s : State) (v : Bool) : State := { s with halt := v }
/-- Replaces `sram`. -/
def State.setSram (s : State) (v : Sparse Byte) : State := { s with sram := v }
/-- Replaces `pageUe`. -/
def State.setPageUe (s : State) (v : Sparse (Option Nat)) : State := { s with pageUe := v }
/-- Replaces `unitUe`. -/
def State.setUnitUe (s : State) (v : Sparse (Option Nat)) : State := { s with unitUe := v }
/-- Replaces `retired`. -/
def State.setRetired (s : State) (v : List Nat) : State := { s with retired := v }
/-- Replaces `cluOut`. -/
def State.setCluOut (s : State) (v : List Nat) : State := { s with cluOut := v }
/-- Replaces `plant`. -/
def State.setPlant (s : State) (v : Plant) : State := { s with plant := v }
/-- Replaces `tiles`. -/
def State.setTiles (s : State) (v : Sparse TileRec) : State := { s with tiles := v }
/-- Replaces `cells`. -/
def State.setCells (s : State) (v : Sparse Cells) : State := { s with cells := v }
/-- Replaces `occ`. -/
def State.setOcc (s : State) (v : Sparse Occ) : State := { s with occ := v }
/-- Replaces `tcal`. -/
def State.setTcal (s : State) (v : Sparse Word) : State := { s with tcal := v }
/-- Replaces `recur`. -/
def State.setRecur (s : State) (v : Sparse (List Int)) : State := { s with recur := v }
/-- Replaces `stDone`. -/
def State.setStDone (s : State) (v : List (Nat × Nat × Nat)) : State := { s with stDone := v }
/-- Replaces `chips`. -/
def State.setChips (s : State) (v : Sparse Chip) : State := { s with chips := v }
/-- Replaces `meshTbl`. -/
def State.setMeshTbl (s : State) (v : Sparse Word) : State := { s with meshTbl := v }
/-- Replaces `rings`. -/
def State.setRings (s : State) (v : Sparse Ring) : State := { s with rings := v }
/-- Replaces `lanes`. -/
def State.setLanes (s : State) (v : Sparse Lane) : State := { s with lanes := v }
/-- Replaces `dirs`. -/
def State.setDirs (s : State) (v : Sparse BridgeDir) : State := { s with dirs := v }
/-- Replaces `mons`. -/
def State.setMons (s : State) (v : Sparse Mon) : State := { s with mons := v }
/-- Replaces `halves`. -/
def State.setHalves (s : State) (v : Sparse Half) : State := { s with halves := v }
/-- Replaces `exts`. -/
def State.setExts (s : State) (v : Sparse ExtPort) : State := { s with exts := v }
/-- Replaces `feedFwd`. -/
def State.setFeedFwd (s : State) (v : Sparse FeedFwd) : State := { s with feedFwd := v }
/-- Replaces `splitAt`. -/
def State.setSplitAt (s : State) (v : Option Nat) : State := { s with splitAt := v }
/-- Replaces `returnAt`. -/
def State.setReturnAt (s : State) (v : Option Nat) : State := { s with returnAt := v }
/-- Replaces `store`. -/
def State.setStore (s : State) (v : Sparse StoreSlot) : State := { s with store := v }
/-- Replaces `writes`. -/
def State.setWrites (s : State) (v : List WriteReq) : State := { s with writes := v }
/-- Replaces `stages`. -/
def State.setStages (s : State) (v : Sparse WStage) : State := { s with stages := v }
/-- Replaces `quads`. -/
def State.setQuads (s : State) (v : Sparse QuadCal) : State := { s with quads := v }
/-- Replaces `homework`. -/
def State.setHomework (s : State) (v : List Homework) : State := { s with homework := v }
/-- Replaces `firstForm`. -/
def State.setFirstForm (s : State) (v : Nat) : State := { s with firstForm := v }
/-- Replaces `readbackAt`. -/
def State.setReadbackAt (s : State) (v : Nat) : State := { s with readbackAt := v }
/-- Replaces `loadWait`. -/
def State.setLoadWait (s : State) (v : Option (Nat × Section)) : State := { s with loadWait := v }
/-- Replaces `feedMove`. -/
def State.setFeedMove (s : State) (v : Option (Nat × Nat)) : State := { s with feedMove := v }
/-- Replaces `bridgeBuild`. -/
def State.setBridgeBuild (s : State) (v : Sparse (Option Nat)) : State := { s with bridgeBuild := v }
/-- Replaces `clk`. -/
def State.setClk (s : State) (v : Clk) : State := { s with clk := v }
/-- Replaces `pwr`. -/
def State.setPwr (s : State) (v : Pwr) : State := { s with pwr := v }
/-- Replaces `sensors`. -/
def State.setSensors (s : State) (v : Sparse Sensor) : State := { s with sensors := v }
/-- Replaces `nvArr`. -/
def State.setNvArr (s : State) (v : Sparse Byte) : State := { s with nvArr := v }
/-- Replaces `nvShadow`. -/
def State.setNvShadow (s : State) (v : Sparse Byte) : State := { s with nvShadow := v }
/-- Replaces `nvRun`. -/
def State.setNvRun (s : State) (v : Option NvRun) : State := { s with nvRun := v }
/-- Replaces `boot`. -/
def State.setBoot (s : State) (v : Boot) : State := { s with boot := v }
/-- Replaces `fw`. -/
def State.setFw (s : State) (v : FwStore) : State := { s with fw := v }
/-- Replaces `sup`. -/
def State.setSup (s : State) (v : Sup) : State := { s with sup := v }

end Sys2Proof.Machine
end

