-- ==== Sys2Proof/Machine/Ops.lean ====
section
/-! DEFINITION. Machine/Ops.lean: the named operations on register words and fields, status words and their events, time,
staging bytes, and the small list helpers that the families share. -/

namespace Sys2Proof.Machine

/-- The completed effect of a command. -/
abbrev Out := Host.Outcome State Fault Refusal

/-! ### Words and fields -/

/-- The value of a field inside a word. -/
def fieldOf (lo w : Nat) (x : Word) : Nat := (x.toNat / 2 ^ lo) % 2 ^ w

/-- A word with a field replaced. -/
def withField (lo w : Nat) (x : Word) (v : Nat) : Word :=
  (x &&& ~~~ fieldMask lo w) ||| BitVec.ofNat 32 ((v % 2 ^ w) * 2 ^ lo)

/-- The word of a register, by its key. -/
def State.word (s : State) (key : Nat) : Word := spGet regReset s.regs key

/-- Stores the word of a register, by its key. -/
def State.setWord (s : State) (key : Nat) (w : Word) : State := s.setRegs (spSet regReset s.regs key w)

/-- Reads field `f` at outer index `i` and inner index `j`. -/
def State.rd2 (s : State) (f : Fld) (i j : Nat) : Nat := fieldOf f.lo f.w (s.word (f.key i j))

/-- Reads field `f` at index `i`. -/
def State.rd (s : State) (f : Fld) (i : Nat) : Nat := s.rd2 f i 0

/-- Writes field `f` at outer index `i` and inner index `j`. -/
def State.wr2 (s : State) (f : Fld) (i j v : Nat) : State :=
  s.setWord (f.key i j) (withField f.lo f.w (s.word (f.key i j)) v)

/-- Writes field `f` at index `i`. -/
def State.wr (s : State) (f : Fld) (i v : Nat) : State := s.wr2 f i 0 v

/-- Writes a signed number into field `f`, in two's complement (R9). -/
def State.wrInt (s : State) (f : Fld) (i : Nat) (v : Int) : State := s.wr f i (v % 2 ^ f.w).toNat

/-- Writes a truth value into field `f`. -/
def State.wrB (s : State) (f : Fld) (i : Nat) (b : Bool) : State := s.wr f i b.toNat

/-- Advances the counter field `f` by `n`, wrapping to zero. -/
def State.bumpBy (s : State) (f : Fld) (i n : Nat) : State := s.wr f i (s.rd f i + n)

/-- Advances the counter field `f` by one, wrapping to zero. -/
def State.bump (s : State) (f : Fld) (i : Nat) : State := s.bumpBy f i 1

/-- Advances a 64-bit counter held in two words by one. -/
def State.bump64 (s : State) (lo hi : Fld) (i : Nat) : State :=
  let n := s.rd lo i + 2 ^ 32 * s.rd hi i + 1
  (s.wr lo i n).wr hi i (n / 2 ^ 32)

/-- Writes a field, held at its greatest value when the number is larger. -/
def State.wrSat (s : State) (f : Fld) (i v : Nat) : State := s.wr f i (min v (2 ^ f.w - 1))

/-- The field holds a value other than zero. -/
def State.on (s : State) (f : Fld) (i : Nat) : Bool := s.rd f i != 0

/-- A number of `w` bits as a signed number in two's complement (R9). -/
def toSigned (w v : Nat) : Int := if v % 2 ^ w < 2 ^ (w - 1) then ((v % 2 ^ w : Nat) : Int) else ((v % 2 ^ w : Nat) : Int) - 2 ^ w

/-- A field as a signed number in two's complement (R9). -/
def State.rdInt (s : State) (f : Fld) (i : Nat) : Int := toSigned f.w (s.rd f i)

/-- The word in force of a buffered register (R300). -/
def State.forceWord (s : State) (key : Nat) : Word := spGet regReset s.inForce key

/-- The value in force of a field of a buffered register (R300). -/
def State.frc2 (s : State) (f : Fld) (i j : Nat) : Nat := fieldOf f.lo f.w (s.forceWord (f.key i j))

/-- The value in force of a field of a buffered register (R300). -/
def State.frc (s : State) (f : Fld) (i : Nat) : Nat := s.frc2 f i 0

/-- Puts the value last written to a buffered register in force (R300). -/
def State.apply (s : State) (key : Nat) : State := s.setInForce (spSet regReset s.inForce key (s.word key))

/-- Bit `b` of a word. -/
def bitOf (x : Word) (b : Nat) : Bool := x.getLsbD b

/-- A number as its `n` bytes, least significant first (R8). -/
def leBytes : Nat → Nat → List Byte
  | 0, _ => []
  | n + 1, v => BitVec.ofNat 8 (v % 256) :: leBytes n (v / 256)

/-- The number that bytes spell, least significant first (R8). -/
def leNat : List Byte → Nat
  | [] => 0
  | b :: rest => b.toNat + 256 * leNat rest

/-- The bytes `n` places from `off` of a list, zero beyond its end. -/
def bytesAt (bs : List Byte) (off n : Nat) : List Byte :=
  let l := (bs.drop off).take n
  l ++ List.replicate (n - l.length) 0

/-- The number in the `n` bytes from `off`, least significant first. -/
def leAt (bs : List Byte) (off n : Nat) : Nat := leNat (bytesAt bs off n)

/-- Puts `x` into a sorted list, before the first member it does not exceed. -/
def insertBy {α : Type} (le : α → α → Bool) (x : α) : List α → List α
  | [] => [x]
  | y :: ys => if le x y then x :: y :: ys else y :: insertBy le x ys

/-- A list sorted, members that compare equal keeping their order. -/
def sortBy {α : Type} (le : α → α → Bool) (l : List α) : List α := l.foldr (insertBy le) []

/-- Removes repeats, keeping first places. -/
def dedupNat : List Nat → List Nat
  | [] => []
  | x :: xs => x :: (dedupNat xs).filter (· != x)

/-- The mask whose bits are the members of a list. -/
def maskOf (l : List Nat) : Nat := (dedupNat l).foldl (fun m j => m + 2 ^ j) 0

/-! ### Time -/

/-- One microsecond in units of `now`. -/
abbrev usec : Nat := 300

/-- One millisecond in units of `now`. -/
abbrev msec : Nat := 300000

/-- At least `d` units have passed since `t`. -/
def State.passed (s : State) (t d : Nat) : Bool := decide (t + d ≤ s.now)

/-- The timebase count (R275). -/
def State.tb (s : State) : DWord := s.time.count

/-- The stamp of this instant: timebase and web position (R25). -/
def State.stampNow (s : State) : Stamp := ⟨s.time.count, s.word (R.ENC_POS.key 0 0)⟩

/-- The value a phase of the timebase clock latches: instants a quarter of a cycle apart, 2.5 ns times (1 + RATE), on the accumulator and its
fraction, rounded down to the whole nanosecond (R275). The count stands still until the loop has first locked. -/
def State.latched (s : State) (phase : Nat) : DWord :=
  if s.time.started then
    s.time.count + BitVec.ofNat 64 ((s.time.frac + phase * (10 * (100000000 + s.rdInt R.TB_STAT_RATE 0)).toNat / 4) / 100000000)
  else s.time.count

/-- The stamp latched at a phase of the timebase clock (R25, R258, R275). -/
def State.stampAt (s : State) (phase : Nat) : Stamp := ⟨s.latched phase, s.word (R.ENC_POS.key 0 0)⟩

/-- Stores the timebase in a pair of words. -/
def State.wrTime (s : State) (lo hi : Fld) (i : Nat) : State :=
  (s.wr lo i s.tb.toNat).wr hi i (s.tb.toNat / 2 ^ 32)

/-- Draws the place of the next free value. -/
def State.draw (s : State) : Nat × State := (s.freeIx, s.setFreeIx (s.freeIx + 1))

/-- While the substitute is FOLLOWING, a record sent and not acknowledged withholds what firmware makes visible (R319) (DESIGN CHOICE, log
178). -/
def State.withheld (s : State) : Bool := decide (s.rd R.SUP_STAT_SUBST 0 = 2) && decide (s.sup.acked < s.sup.sent)

/-- Firmware's duties run: no takeover of the supervisors is under way (R322), and no journal record withholds them (R319). -/
def State.dutiesRun (s : State) : Bool := s.sup.takingAt.isNone && !s.withheld

/-- A start that finds firmware's duties paused waits for them to resume, once (R322). -/
def State.holdStart (s : State) (h : HeldStart) : State :=
  if s.sup.waiting.contains h then s else s.setSup { s.sup with waiting := s.sup.waiting ++ [h] }

/-- The firmware state as it is (R319). -/
def State.fwState (s : State) : FwCopy :=
  ⟨s.jobs, s.mbxOrder, s.writes, s.stages, s.quads, s.homework, s.rings, s.lanes, s.dirs⟩

/-! ### Records -/

/-- Job `j`. -/
def State.job (s : State) (j : Nat) : Job := spGet (fun _ => Job.empty) s.jobs j

/-- Replaces job `j`. -/
def State.putJob (s : State) (j : Nat) (v : Job) : State := s.setJobs (spSet (fun _ => Job.empty) s.jobs j v)

/-- The binding of stream `st` to job `j`. -/
def State.bind (s : State) (j st : Nat) : Bind := spGet (fun _ => Bind.none) s.binds (48 * j + st % 48)

/-- Replaces the binding of stream `st` to job `j`. -/
def State.putBind (s : State) (j st : Nat) (v : Bind) : State :=
  s.setBinds (spSet (fun _ => Bind.none) s.binds (48 * j + st % 48) v)

/-- Output stream `n`. -/
def State.out (s : State) (n : Nat) : OutStream := spGet (fun _ => OutStream.reset) s.outs n

/-- Replaces output stream `n`. -/
def State.putOut (s : State) (n : Nat) (v : OutStream) : State := s.setOuts (spSet (fun _ => OutStream.reset) s.outs n v)

/-- Transmit port `t`. -/
def State.txp (s : State) (t : Nat) : TxPort := spGet (fun _ => TxPort.reset) s.tx t

/-- Replaces transmit port `t`. -/
def State.putTx (s : State) (t : Nat) (v : TxPort) : State := s.setTx (spSet (fun _ => TxPort.reset) s.tx t v)

/-- The frame channel of virtual channel `vc` of transmit port `t`. -/
def State.chan (s : State) (t vc : Nat) : Chan := spGet (fun _ => Chan.reset) s.chans (16 * t + vc % 16)

/-- Replaces a frame channel. -/
def State.putChan (s : State) (t vc : Nat) (v : Chan) : State :=
  s.setChans (spSet (fun _ => Chan.reset) s.chans (16 * t + vc % 16) v)

/-- The ingest of stream `st`. -/
def State.ing (s : State) (st : Nat) : Ingest := spGet (fun _ => Ingest.reset) s.ingest st

/-- Replaces the ingest of stream `st`. -/
def State.putIng (s : State) (st : Nat) (v : Ingest) : State := s.setIngest (spSet (fun _ => Ingest.reset) s.ingest st v)

/-- Bulk arm `k`. -/
def State.arm (s : State) (k : Nat) : Arm := spGet (fun _ => Arm.none) s.arms k

/-- Replaces bulk arm `k`. -/
def State.putArm (s : State) (k : Nat) (v : Arm) : State := s.setArms (spSet (fun _ => Arm.none) s.arms k v)

/-- Page-table entry `i` of job `j`. -/
def State.pte (s : State) (j i : Nat) : Pte := spGet (fun _ => Pte.none) s.ptes (4096 * j + i % 4096)

/-- Replaces page-table entry `i` of job `j`. -/
def State.putPte (s : State) (j i : Nat) (v : Pte) : State := s.setPtes (spSet (fun _ => Pte.none) s.ptes (4096 * j + i % 4096) v)

/-- A byte of hub staging memory; memory that nothing has written reads zero (DESIGN CHOICE, log 6). -/
def State.stByte (s : State) (a : Nat) : Byte := spGet (fun _ => 0) s.staging a

/-- `n` bytes of staging memory from address `a`. -/
def State.stBytes (s : State) (a n : Nat) : List Byte := spGetList (fun _ => 0) s.staging a 1 n

/-- Writes bytes into staging memory from address `a`. -/
def State.putSt (s : State) (a : Nat) (bs : List Byte) : State := s.setStaging (spSetList (fun _ => 0) s.staging a 1 bs)

/-- Applies `f` for each member of a list in turn. -/
def State.each {α : Type} (s : State) (l : List α) (f : State → α → State) : State := l.foldl f s

/-- The jobs' numbers. -/
def jobNums : List Nat := List.range 16

/-- The streams' numbers. -/
def streamNums : List Nat := List.range 48

/-! ### Status words and events -/

/-- The rs fields of a status word, by its key. -/
def rsBits (key : Nat) : Word := ((findReg key).map fun r => r.accMask .rs).getD 0

/-- A register of a half's indirect space is a TILE_EVT or a CLU_EVT (bits 23 and 24 of EVT_SUM, R304). -/
def isHalfEvt (half key : Nat) : Bool :=
  let off := key % halfStep
  decide (key / halfStep = half + 1) && (decide (off < 0x20000 ∧ off % 0x400 = 0) || decide (0x100000 ≤ off ∧ off % 0x200 = 4))

/-- The bit of EVT_SUM that a status word feeds (R304). -/
def sumBitOf (key : Nat) : Nat :=
  if key = 0x8 then 0 else if key = 0x5000C then 1 else if key = 0x51004 then 2 else if key = 0x60080 then 3
  else if key = 0x60920 then 4
  else if 0x40000 ≤ key ∧ key < 0x40800 then 5 + (key - 0x40000) / 0x200
  else if 0x41000 ≤ key ∧ key < 0x41400 then
    (if key % 0x100 = 0x04 then 9 else 13) + (key - 0x41000) / 0x100
  else if key = 0x20004 then 17 else if key = 0x71004 then 18 else if key = 0x70004 then 19
  else if key = 0x72004 then 20 else if key = 0x73004 then 21 else if key = 0x74004 then 22
  else if key < 2 * halfStep then 23 else 24

/-- The status words that feed bit `b` of EVT_SUM for b up to 22 (R304). -/
def sumKeyOf (b : Nat) : Nat :=
  if b = 0 then 0x8 else if b = 1 then 0x5000C else if b = 2 then 0x51004 else if b = 3 then 0x60080
  else if b = 4 then 0x60920
  else if b < 9 then 0x40004 + 0x200 * (b - 5)
  else if b < 13 then 0x41004 + 0x100 * (b - 9)
  else if b < 17 then 0x41018 + 0x100 * (b - 13)
  else if b = 17 then 0x20004 else if b = 18 then 0x71004 else if b = 19 then 0x70004
  else if b = 20 then 0x72004 else if b = 21 then 0x73004 else 0x74004

/-- Bit `b` of EVT_SUM: any rs field of its source is set (R304). -/
def State.sumBit (s : State) (b : Nat) : Bool :=
  if b < 23 then s.word (sumKeyOf b) &&& rsBits (sumKeyOf b) != 0
  else if b < 25 then s.regs.any fun e => isHalfEvt (b - 23) e.1 && decide (e.2.toNat / 256 % 2 ^ 18 ≠ 0)
  else false

/-- EVT_SUM (R304). -/
def State.evtSum (s : State) : Word :=
  BitVec.ofNat 32 ((List.range 25).foldl (fun m b => m + (s.sumBit b).toNat * 2 ^ b) 0)

/-- The module state of R294. -/
def State.sysState (s : State) : Nat := s.rd R.SYS_STAT_SYS_STATE 0

/-- START_UP, SERVICE, TEST and RECOVERY of R294. -/
abbrev stStartUp : Nat := 0
/-- SERVICE of R294. -/
abbrev stService : Nat := 1
/-- TEST of R294. -/
abbrev stTest : Nat := 2
/-- RECOVERY of R294. -/
abbrev stRecovery : Nat := 3

/-- A recovery event is set in SYS_EVT: TAKEOVER, CLK_SWITCH or THERM_STOP (R294). -/
def State.recoveryEvent (s : State) : Bool :=
  s.on R.SYS_EVT_TAKEOVER 0 || s.on R.SYS_EVT_CLK_SWITCH 0 || s.on R.SYS_EVT_THERM_STOP 0

/-- An event sets field `f` of the status word at index `i`: the field is set, SEQ advances by one and wraps from 255 to 0
(R304), a later write-back of an older number no longer clears the field (R11), an EVT_SUM bit that becomes set with its
mask bit set asks for an IBI (R292), and a recovery event moves SERVICE to RECOVERY (R294). -/
def State.raise (s : State) (f : Fld) (i : Nat) : State :=
  let key := f.key i 0
  let before := s.sumBit (sumBitOf key)
  let w := s.word key ||| fieldMask f.lo f.w
  let s := s.setWord key (withField 0 8 w (fieldOf 0 8 w + 1))
  let s := match spGet (fun _ => none) s.wb key with
    | none => s
    | some r => s.setWb (spSet (fun _ => none) s.wb key (some { r with again := r.again ||| fieldMask f.lo f.w }))
  let s := if !before && bitOf (s.word (R.EVT_MASK.key 0 0)) (sumBitOf key) then s.setBus { s.bus with ibiEvt := true } else s
  if key = 0x8 && decide (9 ≤ f.lo ∧ f.lo ≤ 11) && decide (s.sysState = stService) then
    s.wr R.SYS_STAT_SYS_STATE 0 stRecovery
  else s

/-- A receive event: the field is set and PORT names the port of the newest event (R286). -/
def State.raiseRx (s : State) (f : Fld) (port : Nat) : State := (s.raise f 0).wr R.RX_EVT_PORT 0 port

/-! ### Faces of state shared by families -/

/-- The half of a cluster (R89). -/
def halfOfClu (c : Nat) : Nat := c / 128

/-- The half of a tile (R83). -/
def halfOfTile (t : Nat) : Nat := t / 2048

/-- The half of a chiplet (R22). -/
def halfOfChip (k : Nat) : Nat := k / 2

/-- The job runs: WARMING or RUNNING (R40). -/
def Job.live (j : Job) : Bool := match j.st with
  | .warming | .running => true
  | .empty | .loaded | .restarting => false

/-- The job is WARMING, RUNNING or RESTARTING. -/
def Job.started (j : Job) : Bool := match j.st with
  | .warming | .running | .restarting => true
  | .empty | .loaded => false

/-- The job is admitted: its number is not EMPTY (R33). -/
def Job.admitted (j : Job) : Bool := decide (j.st ≠ .empty)

/-- The coding of a job's state in status records and JOB_STATUS (R271). -/
def JobState.code : JobState → Nat
  | .empty => 0 | .loaded => 1 | .warming => 2 | .running => 3 | .restarting => 4

/-- Some job is WARMING, RUNNING or RESTARTING (R275, R279). -/
def State.anyStarted (s : State) : Bool := jobNums.any fun j => (s.job j).started

/-- Module-wide count of admitted jobs. -/
def State.admittedCount (s : State) : Nat := (jobNums.filter fun j => (s.job j).admitted).length

/-- The operator paths of a job that are active: those of its grade, in its reduced form when that runs (R39, R184). -/
def Job.activePaths (j : Job) : List PathSpec :=
  j.sec.paths.filter fun p => (p.grades.isEmpty || p.grades.contains j.grade) && (p.reduced == j.reduced.isSome)

/-- The output stream of path `p` of job `j` (R115). -/
def outOf (j p : Nat) : Nat := 8 * j + p

end Sys2Proof.Machine
end

