-- ==== Sys2Proof/Machine/Mailbox.lean ====
section
/-! DEFINITION. Machine/Mailbox.lean: mailboxes and the form every Peade command shares: doorbell order (R307), the request
and response headers, and the order of checks (R308). -/

namespace Sys2Proof.Machine

/-- The states of a mailbox (R305). -/
abbrev mbIdle : Nat := 0
/-- QUEUED of R305. -/
abbrev mbQueued : Nat := 1
/-- RUNNING of R305. -/
abbrev mbRunning : Nat := 2
/-- DONE of R305. -/
abbrev mbDone : Nat := 3

/-- Status codes of R310 and R44. -/
inductive Status where
  | ok | imageFormat | digest | capsMismatch | feature | noJobSlot | wsetMissing | tolerance | streamBusy | tagsShort
  | meshShort | sramShort | tilesShort | halfLost | jobState | wsetShape | wsetBusy | wsetInUse | wsetDup | storeFull
  | slotState | stageNone | calState | restoreId | bulkBusy | bulkRange | outUnmapped | meshRange | linkDown | inUse
  | nvEnergy | sigFail | substDown | mode | badCommand | badParam
  deriving DecidableEq, Repr

/-- The code of a status (R310). -/
def Status.code : Status → Nat
  | .ok => 0x00 | .imageFormat => 0x01 | .digest => 0x02 | .capsMismatch => 0x03 | .feature => 0x04 | .noJobSlot => 0x05
  | .wsetMissing => 0x06 | .tolerance => 0x07 | .streamBusy => 0x08 | .tagsShort => 0x09 | .meshShort => 0x0A
  | .sramShort => 0x0B | .tilesShort => 0x0C | .halfLost => 0x0D | .jobState => 0x0E | .wsetShape => 0x0F
  | .wsetBusy => 0x10 | .wsetInUse => 0x11 | .wsetDup => 0x12 | .storeFull => 0x13 | .slotState => 0x14
  | .stageNone => 0x15 | .calState => 0x16 | .restoreId => 0x17 | .bulkBusy => 0x18 | .bulkRange => 0x19
  | .outUnmapped => 0x1A | .meshRange => 0x1B | .linkDown => 0x1C | .inUse => 0x1D | .nvEnergy => 0x1E
  | .sigFail => 0x1F | .substDown => 0x20 | .mode => 0x21 | .badCommand => 0x22 | .badParam => 0x23

/-- A parameter of a command: offset, size in bytes, least and greatest value. -/
structure Param where
  off : Nat
  size : Nat
  lo : Nat
  hi : Nat
  deriving DecidableEq, Repr

/-- What a command's row of R311 to R316 fixes: its code, its parameter length (none: any length), its reserved parameter
bytes, and the range of each parameter. -/
structure Cmd where
  code : Nat
  plen : Option Nat
  rsvd : List Nat
  params : List Param
  deriving DecidableEq, Repr

/-- The commands of R311 to R316 (DEDUCED, log 124). -/
def peadeCmds : List Cmd := [
  ⟨0x0001, some 1, [], [⟨8, 1, 0, 127⟩]⟩,
  ⟨0x0101, some 56, [14, 15], []⟩,
  ⟨0x0102, some 1, [], [⟨8, 1, 0, 15⟩]⟩,
  ⟨0x0103, some 1, [], [⟨8, 1, 0, 15⟩]⟩,
  ⟨0x0104, some 1, [], [⟨8, 1, 0, 15⟩]⟩,
  ⟨0x0105, some 2, [], [⟨8, 1, 0, 15⟩]⟩,
  ⟨0x0106, some 1, [], [⟨8, 1, 0, 15⟩]⟩,
  ⟨0x0201, some 3, [], [⟨8, 1, 0, 7⟩, ⟨9, 1, 0, 15⟩, ⟨10, 1, 0, 11⟩]⟩,
  ⟨0x0202, some 1, [], [⟨8, 1, 0, 7⟩]⟩,
  ⟨0x0203, some 1, [], [⟨8, 1, 0, 7⟩]⟩,
  ⟨0x0204, some 1, [], [⟨8, 1, 0, 7⟩]⟩,
  ⟨0x0205, some 3, [], [⟨8, 1, 0, 15⟩, ⟨9, 1, 0, 7⟩, ⟨10, 1, 0, 1⟩]⟩,
  ⟨0x0206, some 1, [], [⟨8, 1, 0, 15⟩]⟩,
  ⟨0x0207, some 1, [], [⟨8, 1, 0, 15⟩]⟩,
  ⟨0x0208, some 1, [], [⟨8, 1, 0, 15⟩]⟩,
  ⟨0x0301, some 1, [], [⟨8, 1, 1, 255⟩]⟩,
  ⟨0x0302, some 2, [], []⟩,
  ⟨0x0303, some 1, [], [⟨8, 1, 0, 3⟩]⟩,
  ⟨0x0304, some 4, [], []⟩,
  ⟨0x0305, some 1, [], [⟨8, 1, 0, 6⟩]⟩,
  ⟨0x0401, some 1, [], [⟨8, 1, 0, 3⟩]⟩,
  ⟨0x0402, some 3, [], [⟨8, 1, 0, 7⟩, ⟨9, 1, 0, 1⟩, ⟨10, 1, 1, 4⟩]⟩,
  ⟨0x0403, some 3, [], [⟨8, 1, 0, 15⟩, ⟨9, 1, 0, 1⟩, ⟨10, 1, 0, 1⟩]⟩,
  ⟨0x0404, some 2, [], [⟨8, 1, 0, 1⟩, ⟨9, 1, 0, 1⟩]⟩,
  ⟨0x0405, some 1, [], [⟨8, 1, 0, 1⟩]⟩,
  ⟨0x0501, some 12, [10, 11], [⟨8, 1, 0, 11⟩, ⟨9, 1, 1, 3⟩]⟩,
  ⟨0x0502, some 1, [], [⟨8, 1, 0, 3⟩]⟩,
  ⟨0x0503, some 8, [9, 10, 11], [⟨8, 1, 0, 7⟩]⟩,
  ⟨0x0504, some 1, [], [⟨8, 1, 0, 7⟩]⟩,
  ⟨0x0601, some 8, [], []⟩,
  ⟨0x0602, some 4, [], []⟩,
  ⟨0x0701, some 0, [], []⟩,
  ⟨0x0702, some 2, [], [⟨8, 1, 0, 31⟩, ⟨9, 1, 0, 1⟩]⟩,
  ⟨0x0703, some 1, [], [⟨8, 1, 0, 3⟩]⟩,
  ⟨0x0801, some 32, [], []⟩,
  ⟨0x0802, some 0, [], []⟩,
  ⟨0x0803, some 8, [], []⟩,
  ⟨0x0901, none, [], []⟩,
  ⟨0x0902, some 1, [], [⟨8, 1, 1, 2⟩]⟩,
  ⟨0x0903, some 2, [], [⟨8, 1, 0, 15⟩, ⟨9, 1, 1, 12⟩]⟩]

/-- The row of a command code. -/
def findCmd (code : Nat) : Option Cmd := peadeCmds.find? fun c => c.code == code

/-- Request word `w` of mailbox `m`. -/
def State.mbReq (s : State) (m w : Nat) : Word := s.word (R.MBX_REQ.key m w)

/-- The 64 request bytes of mailbox `m` (R290, R305). -/
def State.mbBytes (s : State) (m : Nat) : List Byte :=
  (List.range 64).map fun i => BitVec.ofNat 8 ((s.mbReq m (i / 4)).toNat / 2 ^ (8 * (i % 4)))

/-- The number of `n` bytes at offset `off` of the request (R308). -/
def State.req (s : State) (m off n : Nat) : Nat := leAt (s.mbBytes m) off n

/-- The command code of the request last rung (CMD of MBX_STAT, R305). -/
def State.mbCmd (s : State) (m : Nat) : Nat := s.rd R.MBX_STAT_CMD m

/-- The state of mailbox `m`. -/
def State.mbState (s : State) (m : Nat) : Nat := s.rd R.MBX_STAT_STATE m

/-- Writes words into the response of mailbox `m`, from word `w` on. -/
def State.putRsp (s : State) (m w : Nat) : List Byte → Nat → State
  | _, 0 => s
  | bs, n + 1 => (s.setWord (R.MBX_RSP.key m w) (BitVec.ofNat 32 (leAt bs 0 4))).putRsp m (w + 1) (bs.drop 4) n

/-- Completes the command of mailbox `m`: the response is written (R308), the mailbox enters DONE (R306), leaves the
doorbell order, and asks for an in-band interrupt (R292). -/
def State.respond (s : State) (m : Nat) (st : Status) (detail : Nat) (data : List Byte) : State :=
  let hdr := leBytes 2 (s.mbCmd m) ++ leBytes 2 (s.req m 2 2) ++ leBytes 1 st.code ++ leBytes 1 data.length ++ leBytes 2 detail
  let s := s.putRsp m 0 (hdr ++ data) 16
  let s := s.wr R.MBX_STAT_STATE m mbDone
  let s := s.setMbxOrder (s.mbxOrder.filter (· != m))
  s.setBus { s.bus with ibiMbx := true }

/-- Mailbox `m` is QUEUED and nothing of its family was rung earlier and is still queued or running (R307). -/
def State.isFirst (s : State) (m : Nat) : Bool :=
  decide (s.mbState m = mbQueued) && !((s.mbxOrder.takeWhile (· != m)).any fun q => decide (s.mbCmd q / 256 = s.mbCmd m / 256))

/-- Mailbox `m` holds the next command of code `code` to begin (R307): it is the first of its family, and of the mailboxes rung in one transfer
none of a lower number can begin. -/
def State.isNext (s : State) (m code : Nat) : Bool :=
  s.isFirst m && decide (s.mbCmd m = code) && !(s.bus.rung.contains m && s.bus.rung.any fun q => decide (q < m) && s.isFirst q)

/-- Mailbox `m` runs a command of code `code`. -/
def State.isRunning (s : State) (m code : Nat) : Bool :=
  decide (s.mbState m = mbRunning) && decide (s.mbCmd m = code)

/-- The first byte of a list of offsets whose request byte is not zero. -/
def State.firstNonZero (s : State) (m : Nat) (offs : List Nat) : Option Nat := offs.find? fun o => s.req m o 1 != 0

/-- The first parameter outside its range, by its offset. -/
def State.badParam (s : State) (m : Nat) (c : Cmd) : Option Nat :=
  (c.params.find? fun p => decide (s.req m p.off p.size < p.lo) || decide (p.hi < s.req m p.off p.size)).map (·.off)

/-- Checks 2 to 5 of R308 for the command of mailbox `m`: length and reserved bytes, module state, parameter ranges, gated
blocks. `none` when all pass; otherwise the status and its DETAIL. -/
def State.precheck (s : State) (m : Nat) (c : Cmd) (modeOk extraOk gateOk : Bool) (extraOff : Nat) : Option (Status × Nat) :=
  let plen := s.req m 4 1
  if (match c.plen with | some n => decide (plen ≠ n) | none => decide (56 < plen)) then some (.badParam, 4)
  else match s.firstNonZero m ([5, 6, 7] ++ c.rsvd) with
    | some o => some (.badParam, o)
    | none =>
      if !modeOk then some (.mode, 0)
      else match s.badParam m c with
        | some o => some (.badParam, o)
        | none => if !extraOk then some (.badParam, extraOff) else if !gateOk then some (.mode, 0) else none

/-- The commands served in the clock-fault state (R366). -/
def servedInFault (code : Nat) : Bool :=
  [0x0001, 0x0305, 0x0204, 0x0208, 0x0106, 0x0401].contains code || code / 256 == 9

/-- The commands the recovery image serves (R348). -/
def servedInRecovery (code : Nat) : Bool := [0x0001, 0x0901, 0x0501, 0x0502].contains code || code / 256 == 8

/-- The clock-fault state and the recovery image let the command through (R348, R366). -/
def State.commandServed (s : State) (code : Nat) : Bool :=
  (!s.on R.CLK_STAT_FAULT 0 || servedInFault code) && (!s.on R.SEC_STAT_RECOVERY_IMG 0 || servedInRecovery code)

/-- A Peade command begins in mailbox `m` and, when the checks of R308 pass, does `body`; a mailbox that does not hold that
command next is left as it is, and so is every mailbox while no firmware is in service (R294) or a takeover runs (R322)
(DEDUCED, log 119). -/
def State.peade (s : State) (m code : Nat) (modeOk gateOk : Bool) (extraOk : Bool) (extraOff : Nat) (body : State → State) :
    State :=
  if s.isNext m code && s.on R.SYS_STAT_BOOT_DONE 0 && s.dutiesRun then
    match findCmd code with
    | none => s
    | some c =>
      match s.precheck m c (modeOk && s.commandServed code) extraOk gateOk extraOff with
      | some (st, d) => (s.wr R.MBX_STAT_STATE m mbRunning).respond m st d []
      | none => body (s.wr R.MBX_STAT_STATE m mbRunning)
  else s

/-- The mailbox that runs a command of code `code` whose first parameter byte is `p`. -/
def State.runningWith (s : State) (code p : Nat) : Option Nat :=
  s.mbxOrder.find? fun m => s.isRunning m code && decide (s.req m 8 1 = p)

/-- The mailbox that runs a command of code `code`. -/
def State.runningAny (s : State) (code : Nat) : Option Nat := s.mbxOrder.find? fun m => s.isRunning m code

/-- A request with an unknown code is refused with BAD_COMMAND when its turn in its family comes (R307, R308) (DESIGN CHOICE, log 12). -/
def refuseUnknown (s : State) (m : Nat) : State :=
  if s.isNext m (s.mbCmd m) && s.on R.SYS_STAT_BOOT_DONE 0 && s.dutiesRun && (findCmd (s.mbCmd m)).isNone then s.respond m .badCommand 0 []
  else s

/-- RING on mailbox `m` (R306, R307, R309): IDLE becomes QUEUED with CMD the code of its request; otherwise MBX_ERR. -/
def mbxRing (s : State) (m : Nat) : State :=
  if s.mbState m = mbIdle then
    let s := (s.wr R.MBX_STAT_STATE m mbQueued).wr R.MBX_STAT_CMD m (s.req m 0 2)
    let s := s.setMbxOrder (s.mbxOrder ++ [m])
    refuseUnknown (s.setBus { s.bus with rung := s.bus.rung ++ [m] }) m
  else s.raise R.SYS_EVT_MBX_ERR 0

/-- RELEASE on mailbox `m` (R306, R309): DONE becomes IDLE and its response reads zero; otherwise MBX_ERR. -/
def mbxRelease (s : State) (m : Nat) : State :=
  if s.mbState m = mbDone then (s.putRsp m 0 [] 16).wr R.MBX_STAT_STATE m mbIdle
  else s.raise R.SYS_EVT_MBX_ERR 0

/-- A write to request word `w` of mailbox `m` (R306, R309): stored while the mailbox is IDLE, ignored with MBX_ERR
otherwise. -/
def mbxReqWrite (s : State) (m w : Nat) (v : Word) : State :=
  if s.mbState m = mbIdle then s.setWord (R.MBX_REQ.key m w) v else s.raise R.SYS_EVT_MBX_ERR 0

/-- A write to MBX_DOOR_m (R305): 0b01 RING, 0b10 RELEASE, other values ignored. -/
def mbxDoor (s : State) (m : Nat) (v : Word) : State :=
  if v.toNat % 4 = 1 then mbxRing s m else if v.toNat % 4 = 2 then mbxRelease s m else s

/-- MBX_BUSY: bit m set while mailbox m is QUEUED or RUNNING (R305). -/
def State.mbxBusy (s : State) : Word :=
  BitVec.ofNat 32 (maskOf ((List.range 16).filter fun m => s.mbState m == mbQueued || s.mbState m == mbRunning))

/-- MBX_DONE: bit m set while mailbox m is DONE (R305). -/
def State.mbxDoneWord (s : State) : Word :=
  BitVec.ofNat 32 (maskOf ((List.range 16).filter fun m => s.mbState m == mbDone))

end Sys2Proof.Machine
end

