-- ==== Sys2Proof/Machine/Operands.lean ====
section
/-! DEFINITION. Machine/Operands.lean: the number formats of operands and results: saturated integers (R50), IEEE 754 binary16
(R9) and binary32 (R424), computed exactly on dyadic rationals and rounded once, to nearest with ties to even. -/

namespace Sys2Proof.Machine

/-- A dyadic rational m times 2^e. -/
structure Dyadic where
  m : Int
  e : Int
  deriving DecidableEq, Repr

/-- Division of a natural number by a positive one, rounded to nearest with ties to even. -/
def divRne (n d : Nat) : Nat :=
  let q := n / d
  let r := n % d
  if 2 * r < d then q else if d < 2 * r then q + 1 else q + q % 2

/-- Division of an integer by a positive number, rounded to nearest with ties to even. -/
def idivRne (n : Int) (d : Nat) : Int := if n < 0 then -(divRne n.natAbs d : Int) else (divRne n.natAbs d : Int)

/-- Division of an integer by a positive number, truncated toward zero. -/
def idivTrunc (n : Int) (d : Nat) : Int := if n < 0 then -((n.natAbs / d : Nat) : Int) else ((n.natAbs / d : Nat) : Int)

/-- The sum of two dyadic rationals. -/
def Dyadic.add (a b : Dyadic) : Dyadic :=
  if a.e ≤ b.e then ⟨a.m + b.m * 2 ^ (b.e - a.e).toNat, a.e⟩ else ⟨a.m * 2 ^ (a.e - b.e).toNat + b.m, b.e⟩

/-- The product of two dyadic rationals. -/
def Dyadic.mul (a b : Dyadic) : Dyadic := ⟨a.m * b.m, a.e + b.e⟩

/-- The negative of a dyadic rational. -/
def Dyadic.neg (a : Dyadic) : Dyadic := ⟨-a.m, a.e⟩

/-- An integer as a dyadic rational. -/
def Dyadic.ofInt (n : Int) : Dyadic := ⟨n, 0⟩

/-- A dyadic rational as a rational. -/
def Dyadic.toRat (a : Dyadic) : Rat := if 0 ≤ a.e then (a.m * 2 ^ a.e.toNat : Int) else (a.m : Rat) / (2 ^ (-a.e).toNat : Nat)

/-- A dyadic rational that rounds as a rational does in any format of fewer than 100 fraction bits below 2⁻¹⁶⁰: what lies below
is kept as one sticky bit. -/
def Dyadic.ofRat (x : Rat) : Dyadic :=
  let n := x.num.natAbs * 2 ^ 160
  let m : Int := 2 * (n / x.den : Nat) + (if n % x.den = 0 then 0 else 1)
  ⟨if x.num < 0 then -m else m, -161⟩

/-- The nearest integer, ties to even. -/
def Dyadic.round (a : Dyadic) : Int := if 0 ≤ a.e then a.m * 2 ^ a.e.toNat else idivRne a.m (2 ^ (-a.e).toNat)

/-- `a` is less than `b`. -/
def Dyadic.lt (a b : Dyadic) : Bool := decide ((a.add b.neg).m < 0)

/-- A value of a binary interchange format. -/
inductive FVal where
  | nan
  | inf (neg : Bool)
  | fin (neg : Bool) (v : Dyadic)
  deriving DecidableEq, Repr

/-- A binary interchange format: exponent bits, fraction bits. -/
structure FFmt where
  eb : Nat
  fb : Nat
  deriving DecidableEq, Repr

/-- binary16. -/
abbrev fmt16 : FFmt := ⟨5, 10⟩
/-- binary32. -/
abbrev fmt32 : FFmt := ⟨8, 23⟩

/-- The exponent bias. -/
def FFmt.bias (f : FFmt) : Int := 2 ^ (f.eb - 1) - 1

/-- The value that bits spell. -/
def FFmt.decode (f : FFmt) (bits : Nat) : FVal :=
  let frac := bits % 2 ^ f.fb
  let ex := bits / 2 ^ f.fb % 2 ^ f.eb
  let neg := bits / 2 ^ (f.fb + f.eb) % 2 == 1
  if ex = 2 ^ f.eb - 1 then (if frac = 0 then .inf neg else .nan)
  else
    let m : Nat := if ex = 0 then frac else frac + 2 ^ f.fb
    let e : Int := (if ex = 0 then 1 else (ex : Int)) - f.bias - f.fb
    .fin neg ⟨if neg then -(m : Int) else (m : Int), e⟩

/-- The bits of the value nearest to a dyadic rational, ties to even; `neg` is the sign of a zero. -/
def FFmt.encodeDyadic (f : FFmt) (neg : Bool) (v : Dyadic) : Nat :=
  let sign := (if v.m = 0 then neg else decide (v.m < 0)).toNat * 2 ^ (f.fb + f.eb)
  if v.m = 0 then sign else
  let n := v.m.natAbs
  let top : Int := v.e + (Nat.log2 n : Int)
  let qe : Int := max (top - f.fb) (1 - f.bias - f.fb)
  let m : Nat := if qe ≤ v.e then n * 2 ^ (v.e - qe).toNat else divRne n (2 ^ (qe - v.e).toNat)
  let m' : Nat := if m = 2 ^ (f.fb + 1) then 2 ^ f.fb else m
  let qe' : Int := if m = 2 ^ (f.fb + 1) then qe + 1 else qe
  if m' < 2 ^ f.fb then sign + m'
  else
    let ex := (qe' + f.fb + f.bias).toNat
    if 2 ^ f.eb - 1 ≤ ex then sign + (2 ^ f.eb - 1) * 2 ^ f.fb else sign + ex * 2 ^ f.fb + (m' - 2 ^ f.fb)

/-- The bits of a NaN: an exponent of ones and a fraction that is not zero. Which sign and which fraction is not given: a free
value (DESIGN CHOICE, log 158). -/
def FFmt.nanCode (f : FFmt) : Nat :=
  let free := Config.nanBits f.fb
  let frac := free % 2 ^ f.fb
  free / 2 ^ f.fb % 2 * 2 ^ (f.fb + f.eb) + (2 ^ f.eb - 1) * 2 ^ f.fb + (if frac = 0 then 2 ^ (f.fb - 1) else frac)

/-- The bits of a value, rounded to nearest with ties to even. -/
def FFmt.encode (f : FFmt) : FVal → Nat
  | .nan => f.nanCode
  | .inf neg => neg.toNat * 2 ^ (f.fb + f.eb) + (2 ^ f.eb - 1) * 2 ^ f.fb
  | .fin neg v => f.encodeDyadic neg v

/-- The exact sum of two values. -/
def FVal.add : FVal → FVal → FVal
  | .nan, _ => .nan
  | .inf _, .nan => .nan
  | .fin _ _, .nan => .nan
  | .inf a, .inf b => if a == b then .inf a else .nan
  | .inf a, .fin _ _ => .inf a
  | .fin _ _, .inf b => .inf b
  | .fin a x, .fin b y =>
    let z := x.add y
    .fin (if z.m = 0 then a && b else decide (z.m < 0)) z

/-- The negative of a value. -/
def FVal.neg : FVal → FVal
  | .nan => .nan
  | .inf a => .inf !a
  | .fin a x => .fin (!a) x.neg

/-- The exact product of two values. -/
def FVal.mul : FVal → FVal → FVal
  | .nan, _ => .nan
  | .inf _, .nan => .nan
  | .fin _ _, .nan => .nan
  | .inf a, .inf b => .inf (a != b)
  | .inf a, .fin b y => if y.m = 0 then .nan else .inf (a != b)
  | .fin a x, .inf b => if x.m = 0 then .nan else .inf (a != b)
  | .fin a x, .fin b y => .fin (a != b) (x.mul y)

/-- `a` is less than `b` as numbers; false with a NaN. -/
def FVal.lt : FVal → FVal → Bool
  | .nan, _ => false
  | .inf _, .nan => false
  | .fin _ _, .nan => false
  | .inf a, .inf b => a && !b
  | .inf a, .fin _ _ => a
  | .fin _ _, .inf b => !b
  | .fin _ x, .fin _ y => x.lt y

/-- The nearest integer held within limits; `none` for a NaN. -/
def FVal.toIntSat (lo hi : Int) : FVal → Option Int
  | .nan => none
  | .inf a => some (if a then lo else hi)
  | .fin _ x => some (max lo (min hi x.round))

/-- A finite binary16 value in units of 2⁻²⁴, which holds every one exactly; 0 for the others. -/
def fixed16 (bits : Nat) : Int :=
  match fmt16.decode bits with
  | .fin _ v => v.m * 2 ^ (v.e + 24).toNat
  | .nan => 0
  | .inf _ => 0

/-- Rounds an exact value to the format. -/
def FFmt.round (f : FFmt) (v : FVal) : FVal := f.decode (f.encode v)

/-- A binary16 value from its bits. -/
def f16 (b : Int) : FVal := fmt16.decode b.toNat

/-- The bits of a binary16 result, rounded once. -/
def toF16 (v : FVal) : Int := (fmt16.encode v : Int)

/-- An integer as an exact value. -/
def FVal.ofInt (n : Int) : FVal := .fin (decide (n < 0)) (Dyadic.ofInt n)

/-- int8 saturation, within −127 to +127 (R50). -/
def sat8 (v : Int) : Int := max (-127) (min 127 v)

/-- int16 saturation, within −32,767 to +32,767 (R50). -/
def sat16 (v : Int) : Int := max (-32767) (min 32767 v)

/-- An operand of an operator's element format as an exact value (R50). -/
def ElemFmt.value : ElemFmt → Int → FVal
  | .int8, x => FVal.ofInt x
  | .int16, x => FVal.ofInt x
  | .f16, x => Machine.f16 x

/-- An exact value as an int8: rounded to nearest even and saturated (R50). What a NaN becomes is a free value within the same
limits (DESIGN CHOICE, log 159). -/
def FVal.toInt8 (v : FVal) : Int := sat8 ((v.toIntSat (-127) 127).getD (Config.nanInt 8))

/-- An exact value as an int16: rounded to nearest even and saturated (R50). What a NaN becomes is a free value within the same
limits (DESIGN CHOICE, log 159). -/
def FVal.toInt16 (v : FVal) : Int := sat16 ((v.toIntSat (-32767) 32767).getD (Config.nanInt 16))

/-- An exact value brought to an element format: binary16 rounds to nearest even, integers round and saturate (R50). -/
def ElemFmt.deliver : ElemFmt → FVal → Int
  | .int8, v => v.toInt8
  | .int16, v => v.toInt16
  | .f16, v => toF16 v

/-- A value already in units of an element format, held within it: integers saturate symmetrically (R50), binary16 keeps its 16
bits. -/
def ElemFmt.hold : ElemFmt → Int → Int
  | .int8, x => sat8 x
  | .int16, x => sat16 x
  | .f16, x => x % 65536

/-- The code of an element format in FMT (R267). -/
def ElemFmt.code : ElemFmt → Nat
  | .int8 => 0 | .int16 => 1 | .f16 => 2

end Sys2Proof.Machine
end

