-- ==== Sys2Proof/Machine/RegAccess.lean ====
section
/-! DEFINITION. Machine/RegAccess.lean: the access types of R11 on one register word: clearing reads, the write-back of status
words, reserved bits (R296), the key (R297), wide values (R298) and gated blocks (R301). -/

namespace Sys2Proof.Machine

/-- The enable bit of CLK_EN of the block a register belongs to (R301, R370): receive and transmit ports, plant inputs and
outputs, encoder and markers; none for a register that is never gated. -/
def blockBit (key : Nat) : Option Nat :=
  if 0x60000 ≤ key ∧ key < 0x60030 then some ((key - 0x60000) / 4)
  else if 0x60040 ≤ key ∧ key < 0x60070 then some ((key - 0x60040) / 4)
  else if 0x60500 ≤ key ∧ key < 0x60510 then some (12 + (key - 0x60500) / 4)
  else if 0x60510 ≤ key ∧ key < 0x60520 then some (12 + (key - 0x60510) / 4)
  else if 0x60930 ≤ key ∧ key < 0x60940 then some 18
  else if 0x60940 ≤ key ∧ key < 0x60A60 then some 19
  else if 0x73010 ≤ key ∧ key < 0x73024 then some 16
  else if 0x73100 ≤ key ∧ key < 0x73200 then some 16
  else if key = 0x7300C ∨ 0x73024 ≤ key ∧ key < 0x7302C then some 17
  else if 0x73200 ≤ key ∧ key < 0x73300 then some 17
  else none

/-- The register's block is gated: reads return zero and writes are ignored (R301). -/
def State.gated (s : State) (key : Nat) : Bool :=
  ((blockBit key).map fun b => !bitOf (s.word (R.CLK_EN.key 0 0)) b).getD false

/-- The key is open (KEY_OPEN, R297). -/
def State.keyOpen (s : State) : Bool := s.on R.SYS_STAT_KEY_OPEN 0

/-- Opens or closes the key (R297). -/
def setKey (s : State) (b : Bool) : State := s.wrB R.SYS_STAT_KEY_OPEN 0 b

/-- What a read of a word clears (R11): rc fields always, rs fields in normal service only. -/
def State.clearMask (s : State) (r : RegSpec) : Word :=
  r.accMask .rc ||| (if s.sysState = stService then r.accMask .rs else 0)

/-- Clears bits of a word to their reset values. -/
def clearTo (r : RegSpec) (w m : Word) : Word := (w &&& ~~~m) ||| (r.resetWord &&& m)

/-- After RECOVERY's events are all clear the module is in SERVICE; in START_UP, clearing BOOT_DONE leads to SERVICE, or to
RECOVERY if a recovery event is set (R294). `hadBoot` says BOOT_DONE was set before. -/
def settleState (s : State) (hadBoot : Bool) : State :=
  if s.sysState = stStartUp && hadBoot && !s.on R.SYS_EVT_BOOT_DONE 0 then
    s.wr R.SYS_STAT_SYS_STATE 0 (if s.recoveryEvent then stRecovery else stService)
  else if s.sysState = stRecovery && !s.recoveryEvent && !s.on R.CLK_STAT_FAULT 0 then s.wr R.SYS_STAT_SYS_STATE 0 stService
  else s

/-- The effect of reading the word `key`, whose visible value is `shown` (R11, R295): rc and rs fields clear in the same step,
and for a status word the sequence number and the rs fields reported are kept for a write-back. -/
def readEffect (s : State) (r : RegSpec) (key : Nat) (shown : Word) : State :=
  let s := if r.accMask .rs = 0 then s else
    s.setWb (spSet (fun _ => none) s.wb key (some ⟨fieldOf 0 8 shown, shown &&& r.accMask .rs, 0⟩))
  if s.clearMask r = 0 then s else s.setWord key (clearTo r (s.word key) (s.clearMask r))

/-- A write-back of the sequence number the last read returned clears each field that read reported, but for those an event
has set again since; any other number clears nothing; in normal service it is ignored (R11). The number is compared with bits [7:0]
of the word written (DEDUCED, log 179). -/
def writeBack (s : State) (r : RegSpec) (key : Nat) (v : Word) : State :=
  if s.sysState = stService then s else
  match spGet (fun _ => none) s.wb key with
  | none => s
  | some b =>
    if fieldOf 0 8 v = b.seq then
      let had := s.on R.SYS_EVT_BOOT_DONE 0
      let s := s.setWord key (clearTo r (s.word key) (b.reported &&& ~~~b.again))
      if key = 0x8 then settleState s had else s
    else s

/-- The bits of a register that a write sets (R11, R296, R297): rw fields, wk fields while the key is open, reserved rw bits
in TEST. -/
def State.writeMask (s : State) (r : RegSpec) (keyWasOpen : Bool) : Word :=
  r.accMask .rw ||| (if keyWasOpen then r.accMask .wk else 0) ||| (if s.sysState = stTest then r.rsvMask else 0)

/-- A write of the bits `bits` of the register word `key` (R11, R296, R297): the writable bits take the value; a changed
reserved bit outside TEST sets RSV_WR, a changed wk field with the key closed sets WK_IGNORED. -/
def writeBits (s : State) (r : RegSpec) (key : Nat) (bits v : Word) (keyWasOpen : Bool) : State :=
  let old := s.word key
  let m := s.writeMask r keyWasOpen &&& bits
  let rsv := decide ((old ^^^ v) &&& r.rsvMask &&& bits ≠ 0) && decide (s.sysState ≠ stTest)
  let wk := !keyWasOpen && decide ((old ^^^ v) &&& r.accMask .wk &&& bits ≠ 0)
  let s := s.setWord key ((old &&& ~~~m) ||| (v &&& m))
  let s := if rsv then s.raise R.SYS_EVT_RSV_WR 0 else s
  if wk then s.raise R.SYS_EVT_WK_IGNORED 0 else s

/-- A whole write of a register word by its access types (R11); a status word takes it as a write-back. -/
def writeWhole (s : State) (r : RegSpec) (key : Nat) (v : Word) (keyWasOpen : Bool) : State :=
  let s := writeBits s r key 0xFFFF_FFFF v keyWasOpen
  if r.accMask .rs = 0 then s else writeBack s r key v

/-- The low words of the direct space's 64-bit values; the high word lies 4 bytes above (R298). -/
def isWideLo (key : Nat) : Bool :=
  key == 0x60900 || key == 0x60910 ||
    (decide (0x40000 ≤ key ∧ key < 0x40800) && (key % 0x200 == 0x20 || key % 0x200 == 0x28)) ||
    (decide (0x20100 ≤ key ∧ key < 0x20300) && key % 0x20 == 0x0C)

/-- The word has a shadow: it is the high word of a direct 64-bit value (R298). -/
def isWideHi (key : Nat) : Bool := decide (4 ≤ key) && isWideLo (key - 4)

end Sys2Proof.Machine
end

