-- ==== Sys2Proof/Machine/Plant.lean ====
section
/-! DEFINITION. Machine/Plant.lean: the plant inputs and outputs (R411 to R430): conversions, comparators, the result buffer,
load strobes, deglitching, sine generation, clears and OUT_AOUT. -/

namespace Sys2Proof.Machine

/-- A multiplying loop reads locked (LOCKED of CLK_STAT, R373): 0 HUB, 1 TB, 2 OPT, 3 PLANT, 4 to 7 TX_0 to TX_3. -/
def State.loopLocked (s : State) (i : Nat) : Bool := s.rd R.CLK_STAT_LOCKED 0 / 2 ^ i % 2 == 1

/-- Rally periods, watchdogs and command timeouts are timed in hub cycles and stretch while the HUB loop coasts (R368). -/
def State.hubTime (s : State) (d : Nat) : Nat := if s.loopLocked 0 then d else 2 * d

/-- Entries 0 to 63 of the first quarter of round(32,767 × sin(2πi ÷ 1,024)) (R426). -/
def sineQ0 : List Nat := [
  0, 201, 402, 603, 804, 1005, 1206, 1407, 1608, 1809, 2009, 2210, 2410, 2611, 2811, 3012,
  3212, 3412, 3612, 3811, 4011, 4210, 4410, 4609, 4808, 5007, 5205, 5404, 5602, 5800, 5998, 6195,
  6393, 6590, 6786, 6983, 7179, 7375, 7571, 7767, 7962, 8157, 8351, 8545, 8739, 8933, 9126, 9319,
  9512, 9704, 9896, 10087, 10278, 10469, 10659, 10849, 11039, 11228, 11417, 11605, 11793, 11980, 12167, 12353]

/-- Entries 64 to 127 of the first quarter of round(32,767 × sin(2πi ÷ 1,024)) (R426). -/
def sineQ1 : List Nat := [
  12539, 12725, 12910, 13094, 13279, 13462, 13645, 13828, 14010, 14191, 14372, 14553, 14732, 14912, 15090, 15269,
  15446, 15623, 15800, 15976, 16151, 16325, 16499, 16673, 16846, 17018, 17189, 17360, 17530, 17700, 17869, 18037,
  18204, 18371, 18537, 18703, 18868, 19032, 19195, 19357, 19519, 19680, 19841, 20000, 20159, 20317, 20475, 20631,
  20787, 20942, 21096, 21250, 21403, 21554, 21705, 21856, 22005, 22154, 22301, 22448, 22594, 22739, 22884, 23027]

/-- Entries 128 to 191 of the first quarter of round(32,767 × sin(2πi ÷ 1,024)) (R426). -/
def sineQ2 : List Nat := [
  23170, 23311, 23452, 23592, 23731, 23870, 24007, 24143, 24279, 24413, 24547, 24680, 24811, 24942, 25072, 25201,
  25329, 25456, 25582, 25708, 25832, 25955, 26077, 26198, 26319, 26438, 26556, 26674, 26790, 26905, 27019, 27133,
  27245, 27356, 27466, 27575, 27683, 27790, 27896, 28001, 28105, 28208, 28310, 28411, 28510, 28609, 28706, 28803,
  28898, 28992, 29085, 29177, 29268, 29358, 29447, 29534, 29621, 29706, 29791, 29874, 29956, 30037, 30117, 30195]

/-- Entries 192 to 255 of the first quarter of round(32,767 × sin(2πi ÷ 1,024)) (R426). -/
def sineQ3 : List Nat := [
  30273, 30349, 30424, 30498, 30571, 30643, 30714, 30783, 30852, 30919, 30985, 31050, 31113, 31176, 31237, 31297,
  31356, 31414, 31470, 31526, 31580, 31633, 31685, 31736, 31785, 31833, 31880, 31926, 31971, 32014, 32057, 32098,
  32137, 32176, 32213, 32250, 32285, 32318, 32351, 32382, 32412, 32441, 32469, 32495, 32521, 32545, 32567, 32589,
  32609, 32628, 32646, 32663, 32678, 32692, 32705, 32717, 32728, 32737, 32745, 32752, 32757, 32761, 32765, 32766]

/-- Entries 256 to 256 of the first quarter of round(32,767 × sin(2πi ÷ 1,024)) (R426). -/
def sineQ4 : List Nat := [
  32767]

/-- The first quarter of the sine table at reset (R426). -/
def sineQuarter : List Nat := sineQ0 ++ sineQ1 ++ sineQ2 ++ sineQ3 ++ sineQ4

/-- Entry `i` of the sine table at reset: round(32,767 × sin(2πi ÷ 1,024)) (R426). -/
def sineReset (i : Nat) : Int :=
  let i := i % 1024
  let q := i % 512
  let v : Nat := (sineQuarter[if q ≤ 256 then q else 512 - q]?).getD 0
  if i < 512 then (v : Int) else -(v : Int)
/-! ### Records of the state -/

/-- Plant input `n`. -/
def State.ain (s : State) (n : Nat) : AinRec := spGet (fun _ => AinRec.reset) s.plant.ains n

/-- Replaces plant input `n`. -/
def State.putAin (s : State) (n : Nat) (v : AinRec) : State :=
  s.setPlant { s.plant with ains := spSet (fun _ => AinRec.reset) s.plant.ains n v }

/-- Plant output `c`. -/
def State.aout (s : State) (c : Nat) : AoutRec := spGet (fun _ => AoutRec.reset) s.plant.aouts c

/-- Replaces plant output `c`. -/
def State.putAout (s : State) (c : Nat) (v : AoutRec) : State :=
  s.setPlant { s.plant with aouts := spSet (fun _ => AoutRec.reset) s.plant.aouts c v }

/-- Entry `i` of the sine table. -/
def State.sineAt (s : State) (i : Nat) : Int := spGet sineReset s.plant.sine (i % 1024)

/-! ### Inputs -/

/-- The mode of input `n` in force; 3 is taken as 0 (R433). -/
def State.ainMode (s : State) (n : Nat) : Nat := if s.frc R.AIN_CFG_MODE n = 3 then 0 else s.frc R.AIN_CFG_MODE n

/-- The filter order of input `n` in force, within 1 to 5 (R433). -/
def State.ainOrder (s : State) (n : Nat) : Nat := max 1 (min 5 (s.frc R.AIN_CFG_ORDER n))

/-- The decimation ratio of input `n` in force, within 64 to 409,600 (R433). -/
def State.ainDec (s : State) (n : Nat) : Nat := max 64 (min 409600 (s.frc R.AIN_CFG_DEC n))

/-- The AIN block is enabled (R370). -/
def State.ainOn (s : State) : Bool := s.on R.CLK_EN_AIN 0

/-- The filter of input `n` restarts (R414): results ending less than ORDER ÷ ODR later carry UNSETTLED. -/
def ainRestart (s : State) (n : Nat) : State := s.putAin n { s.ain n with settle := s.ainOrder n }

/-- At a conversion boundary of input `n` (R414, R418): buffered settings take effect, the test DAC is connected or
disconnected, and the filter restarts where either asks for it. -/
def ainBoundary (s : State) (n : Nat) : State :=
  let mode := s.ainMode n
  let order := s.ainOrder n
  let dec := s.ainDec n
  let s := s.apply (R.AIN_CFG.key n 0)
  let s := if s.ainMode n != 0 && (mode == 0 || order != s.ainOrder n || dec != s.ainDec n) then ainRestart s n else s
  let want := s.on R.AIN_TEST_EN 0 && s.rd R.AIN_TEST_INPUT 0 == n
  let code := s.rd R.AIN_TEST_CODE 0
  let r := s.ain n
  if want != r.testOn then ainRestart (s.putAin n { r with testOn := want, testCode := code }) n
  else if want && code != r.testCode then s.putAin n { r with testCode := code, settle := s.ainOrder n }
  else s

/-- A write of AIN_CFG_n reaches a stopped input at once, since it has no conversion boundary to wait for (log 30). -/
def ainCfgEffect (s : State) (n : Nat) : State := if s.ainMode n = 0 then ainBoundary s n else s

/-- The voltage a conversion sees, in nanovolts (R418): the pads', or that of the test DAC, which lies within 1.25 mV of CODE
× 2.5 V ÷ 2,048. -/
def State.ainVolt (s : State) (n : Nat) (nv : Int) : Int :=
  let r := s.ain n
  if r.testOn then
    let nominal := toSigned 12 r.testCode * 2500000000 / 2048
    max (nominal - 1250000) (min (nominal + 1250000) nv)
  else nv

/-- The number of records unread (R420). -/
def State.ainUnread (s : State) : Nat := (s.rd R.AIN_BUF_WPTR_WPTR 0 + 16384 - s.rd R.AIN_BUF_RPTR_RPTR 0) % 16384

/-- The hub writes a delivered result into the result buffer (R419, R420). -/
def ainRecord (s : State) (n value flags : Nat) : State :=
  if !s.on R.AIN_BUF_CFG_EN 0 then s else
  let s :=
    if s.ainUnread = 16383 then
      (((s.wr R.AIN_BUF_RPTR_RPTR 0 ((s.rd R.AIN_BUF_RPTR_RPTR 0 + 1) % 16384)).bump R.AIN_LOST_CNT_COUNT 0).raise
        R.PLANT_EVT_OVERRUN 0)
    else s
  let w := s.rd R.AIN_BUF_WPTR_WPTR 0
  let s := s.putSt (0x00B0_0000 + 16 * w)
    (leBytes 3 value ++ leBytes 1 n ++ leBytes 1 flags ++ leBytes 1 0 ++ leBytes 2 s.plant.seq ++ leBytes 8 s.tb.toNat)
  let s := (s.wr R.AIN_BUF_WPTR_WPTR 0 ((w + 1) % 16384)).setPlant { s.plant with seq := (s.plant.seq + 1) % 65536 }
  if s.ainUnread = max 1 (s.rd R.AIN_BUF_CFG_WATERMARK 0) then s.raise R.PLANT_EVT_WATERMARK 0 else s

/-- The conversion result of R412 and whether the input was beyond ±2.5 V. -/
def ainResult (nv : Int) : Int × Bool :=
  if 2500000000 < nv then (8388607, true) else if nv < -2500000000 then (-8388607, true)
  else (max (-8388607) (min 8388607 (idivRne (nv * 8388608) 2500000000)), false)

/-- A conversion of input `n` ends, the input standing at `nv` nanovolts (R412 to R420): the result and its flags go to
AIN_LAST_n, are delivered by MODE, and the boundary brings buffered settings into force. While the AIN block is gated or the
PLANT loop coasts no conversion ends (R368, R370). -/
def conversionEnd (s : State) (n : Nat) (nv : Int) : State :=
  if !s.ainOn || !s.loopLocked 3 then s
  else if s.ainMode n = 0 then ainBoundary s n
  else
    let r := s.ain n
    let settle := r.settle - 1
    let urgent := r.urgent == some (some 1)
    let res := ainResult (s.ainVolt n nv)
    let flags := decide (0 < settle) |>.toNat
    let flags := flags + 2 * urgent.toNat + 4 * res.2.toNat + 8 * r.testOn.toNat + 16 * s.rd R.AIN_CMP_OUT n
    let value := (res.1 % 16777216).toNat
    let s := s.putAin n { r with
      settle := settle,
      urgent := match r.urgent with
        | none => none
        | some none => some (some (s.ainOrder n))
        | some (some k) => if k ≤ 1 then none else some (some (k - 1)) }
    let s := (s.wr R.AIN_LAST_VALUE n value).wr R.AIN_LAST_FLAGS n flags
    let s := if res.2 then s.raise R.PLANT_EVT_OVER 0 else s
    let s := if s.ainMode n = 1 || urgent then ainRecord s n value flags else s
    let s := if urgent then s.raise R.PLANT_EVT_URGENT 0 else s
    ainBoundary s n

/-- A plant input conversion ends (R413). -/
def execConversionEnd (n : Fin 16) (nv : Int) (s : State) : Out := .next (conversionEnd s n.val nv)

/-- An input passes its threshold (R415, R416): the comparator fires if the direction is selected and it is armed, and starts
an urgent conversion unless one is pending. -/
def comparatorFire (s : State) (n : Nat) (rising : Bool) : State :=
  if s.ainMode n = 0 || !s.ainOn then s else
  let r := s.ain n
  let sel := bitOf (s.word (R.AIN_CMP.key n 0)) (if rising then 12 else 13)
  let s := s.wrB R.AIN_CMP_OUT n rising
  if sel && (if rising then r.armRise else r.armFall) then
    let s := s.putAin n { r with
      armRise := if rising then false else r.armRise, armFall := if rising then r.armFall else false,
      urgent := if r.urgent.isSome then r.urgent else some none }
    (s.bump R.AIN_CMP_CNT_COUNT n).raise R.PLANT_EVT_CMP 0
  else s

/-- An input crosses its threshold and fires the comparator (R415). -/
def execComparatorFire (n : Fin 16) (rising : Bool) (s : State) : Out := .next (comparatorFire s n.val rising)

/-- An input that fired its comparator in one direction has moved HYST past the threshold in the opposite one, and the
comparator re-arms (R415). -/
def execComparatorRearm (n : Fin 16) (rising : Bool) (s : State) : Out :=
  .next (
    if s.ainMode n.val = 0 || !s.ainOn then s else
    let r := s.ain n.val
    let s := s.wrB R.AIN_CMP_OUT n.val (!rising)
    s.putAin n.val (if rising then { r with armRise := true } else { r with armFall := true }))

/-- Setting EN of AIN_BUF_CFG from 0 sets WPTR, RPTR and SEQ to 0 (R420). -/
def ainBufEffect (s : State) (wasOn : Bool) : State :=
  if !wasOn && s.on R.AIN_BUF_CFG_EN 0 then
    ((s.wr R.AIN_BUF_WPTR_WPTR 0 0).wr R.AIN_BUF_RPTR_RPTR 0 0).setPlant { s.plant with seq := 0 }
  else s

/-- The AIN block is gated: urgent conversions pending are discarded (R430). -/
def ainGate (s : State) : State := s.each (List.range 16) fun s n => s.putAin n { s.ain n with urgent := none }

/-- Every filter restarts: the AIN block is enabled or the PLANT loop has relocked (R414). -/
def ainRestartAll (s : State) : State := s.each (List.range 16) fun s n => if s.ainMode n = 0 then s else ainRestart s n

/-! ### Outputs -/

/-- The AOUT block is enabled (R370). -/
def State.aoutOn (s : State) : Bool := s.on R.CLK_EN_AOUT 0

/-- A cause that clears every channel holds: the pad, gating, a module clear or a confirmed power fail (R427). -/
def State.allCleared (s : State) : Bool :=
  s.on R.PLANT_STAT_PAD 0 || !s.aoutOn || s.on R.PLANT_STAT_CLEARED 0 || s.plant.powerFail

/-- Channel `c` is cleared by its own cause (R425, R427, R429). -/
def State.chCleared (s : State) (c : Nat) : Bool := (s.aout c).chFault || (s.aout c).jobClear != 0

/-- STATE and HOLD of AOUT_STAT_c (R434). -/
def showAout (s : State) (c : Nat) : State :=
  let st := if s.frc R.AOUT_CFG_EN c = 0 then 0 else if s.allCleared then 3 else if s.chCleared c then 2 else 1
  ((s.wr R.AOUT_STAT_STATE c st).wrB R.AOUT_STAT_HOLD c (s.aout c).holdTo.isSome).wrB R.AOUT_STAT_CH_FAULT c (s.aout c).chFault

/-- A channel takes a new code (R423): a change in any of bits [15:12] holds the output for 200 ns and then steps; any other
change steps at once. -/
def setCode (s : State) (c code : Nat) : State :=
  let now := s.rd R.AOUT_CODE_PRESENT c
  if code / 4096 != now / 4096 then showAout (s.putAout c { s.aout c with holdTo := some code, holdAt := s.now }) c
  else showAout ((s.putAout c { s.aout c with holdTo := none }).wr R.AOUT_CODE_PRESENT c code) c

/-- A 200 ns deglitch hold ends and the output steps to the newest code (R423). -/
def execDeglitchEnd (c : Fin 8) (s : State) : Out :=
  .next (
    match (s.aout c.val).holdTo with
    | none => s
    | some code =>
      if !s.passed (s.aout c.val).holdAt (usec / 5) then s else
      showAout ((s.putAout c.val { s.aout c.val with holdTo := none }).wr R.AOUT_CODE_PRESENT c.val code) c.val)

/-- A channel is forced to its clear code (R427). -/
def clearChannel (s : State) (c : Nat) : State := setCode s c (s.rd R.AOUT_CLEAR_CLEAR c)

/-- Every channel is forced to its clear code (R427). -/
def clearAll (s : State) : State := s.each (List.range 8) clearChannel

/-- A module fault is signalled to the plant interfaces (R427): the clear latches with its cause (R432). -/
def plantModuleClear (s : State) (cause : Nat) : State :=
  clearAll (((s.wr R.PLANT_STAT_CLEARED 0 1).wr R.PLANT_STAT_CAUSE 0 cause).raise R.PLANT_EVT_MOD_CLEAR 0)

/-- The sine step of a channel, its frequency held within its limits (R426). -/
def State.sineFreq (s : State) (c : Nat) : Nat := max 42 (min 83886080 (s.frc R.AOUT_FREQ_FREQ c))

/-- A load strobe on channel `c` (R422, R425 to R427): unless it is cleared, the pending settings and code become present; a
strobe that brings SINE_EN into force sets the phase. -/
def strobeChannel (s : State) (c : Nat) : State :=
  let r := s.aout c
  if s.allCleared || r.chFault || r.jobClear == 1 then s else
  let was := s.frc R.AOUT_CFG_SINE_EN c
  let s := s.apply (R.AOUT_CFG.key c 0)
  let s := s.apply (R.AOUT_FREQ.key c 0)
  let s := s.apply (R.AOUT_SHAPE.key c 0)
  let s := s.apply (R.AOUT_CODE.key c 0)
  let phase := if was = 0 && s.frc R.AOUT_CFG_SINE_EN c != 0 then s.frc R.AOUT_SHAPE_PHASE c * 2 ^ 22 else r.phase
  let s := s.putAout c { r with center := r.pend, phase := phase, jobClear := 0 }
  setCode s c r.pend

/-- A load strobe makes every pending value present on all channels at once; while the PLANT loop coasts it is held, and
several count as one (R422). -/
def loadStrobe (s : State) : State :=
  if s.loopLocked 3 then s.each (List.range 8) strobeChannel
  else s.setPlant { s.plant with strobeHeld := true }

/-- The PLANT loop locks: a held strobe acts (R422), and the filters restart (R414). -/
def plantRelock (s : State) : State :=
  let s := ainRestartAll s
  if s.plant.strobeHeld then (s.setPlant { s.plant with strobeHeld := false }).each (List.range 8) strobeChannel else s

/-- A write of 1 to LOAD in PLANT_CTL issues a load strobe (R422). -/
def execPlantLoad (s : State) : Out := .next (loadStrobe s)

/-- A rising edge on DAC_LOAD issues a load strobe while PAD_EN is set (R422). -/
def execDacLoadEdge (s : State) : Out := .next (if s.on R.AOUT_LOAD_CFG_PAD_EN 0 then loadStrobe s else s)

/-- The timebase has come to another multiple of PERIOD_US, not zero, since the last periodic strobe (R422). -/
def State.strobeDue (s : State) : Bool :=
  let p := 1000 * s.rd R.AOUT_LOAD_CFG_PERIOD_US 0
  p != 0 && s.tb.toNat / p != s.plant.strobeAt / p

/-- A timebase multiple of PERIOD_US issues a load strobe while PERIOD_US is not zero (R422). -/
def execPeriodicStrobe (s : State) : Out :=
  .next (if s.strobeDue then loadStrobe (s.setPlant { s.plant with strobeAt := s.tb.toNat }) else s)

/-- A tick of 1.024 MHz on channel `c` (R426): while SINE_EN is in force the phase advances and the code follows the table;
the sine pauses while the PLANT loop coasts, and a cleared channel keeps its clear code. -/
def sineTick (s : State) (c : Nat) : State :=
  if s.frc R.AOUT_CFG_SINE_EN c = 0 || !s.loopLocked 3 || !s.aoutOn then s else
  let r := s.aout c
  let phase := (r.phase + s.sineFreq c) % 2 ^ 32
  let v := (r.center : Int) + idivTrunc ((s.frc R.AOUT_SHAPE_AMPL c : Int) * s.sineAt (phase / 2 ^ 22)) 32768
  let s := s.putAout c { r with phase := phase }
  if s.allCleared || s.chCleared c then s else setCode s c (max 0 (min 65535 v)).toNat

/-- Each 1.024 MHz tick advances the phase of a sine channel and updates its code (R426). -/
def execSineTick (c : Fin 8) (s : State) : Out := .next (sineTick s c.val)

/-- The DAC_CLEAR pad changes (R427): high forces every output to its clear code, low lets them take the next strobe. -/
def execDacClearEdge (high : Bool) (s : State) : Out :=
  .next (
    if high then clearAll ((s.wr R.PLANT_STAT_PAD 0 1).raise R.PLANT_EVT_PAD_CLEAR 0)
    else (s.wr R.PLANT_STAT_PAD 0 0).each (List.range 8) showAout)

/-- The cause of a module clear persists (R427, R391): the clock-fault state, STOPPED, or an orderly stop past its 2,000 µs step. -/
def State.clearPersists (s : State) : Bool :=
  s.on R.CLK_STAT_FAULT 0 || s.rd R.PWR_STAT_STATE 0 == 3 || s.rd R.PWR_STAT_STATE 0 == 2 && s.pwr.stopFault

/-- RELEASABLE: a module clear is latched and RELEASE will act (R432). -/
def State.releasable (s : State) : Bool := s.on R.PLANT_STAT_CLEARED 0 && !s.clearPersists

/-- A write of RELEASE (R427): ignored while the cause of a module clear persists; otherwise the latched module clear and
the clears of failed self-checks end, and the channels take their pending codes at the next strobe. -/
def plantRelease (s : State) : State :=
  if s.clearPersists then s else
  let s := s.wr R.PLANT_STAT_CLEARED 0 0
  s.each (List.range 8) fun s c => showAout (s.putAout c { s.aout c with chFault := false }) c

/-- Releases a latched module clear of the plant outputs once its cause has ended (R427). -/
def execPlantRelease (s : State) : Out := .next (plantRelease s)

/-- What a channel's read-back of its own output finds (R429). -/
def selfCheck (s : State) (c : Nat) (r : SelfCheck) : State :=
  if s.frc R.AOUT_CFG_EN c = 0 then s else
  match r with
  | .departed => clearChannel ((s.putAout c { s.aout c with chFault := true }).raise R.PLANT_EVT_CH_FAULT 0) c
  | .loopOpen => if s.frc R.AOUT_CFG_SPAN c = 4 then (s.wr R.AOUT_STAT_OPEN c 1).raise R.PLANT_EVT_OPEN 0 else s
  | .loopClosed => s.wr R.AOUT_STAT_OPEN c 0

/-- An output departing from its code for 1 ms sets CH_FAULT and clears, or OPEN for an open loop (R429). -/
def execChannelSelfCheck (c : Fin 8) (r : SelfCheck) (s : State) : Out := .next (selfCheck s c.val r)

/-- A code write to channel `c` is discarded (R424). -/
def aoutReject (s : State) (c : Nat) : State := (s.bump R.AOUT_STAT_REJ_CNT c).raise R.PLANT_EVT_AOUT_REJ 0

/-- A host write to AOUT_CODE_c: discarded on an owned channel, else the pending code (R424). `old` is the word before the
write. -/
def aoutCodeEffect (s : State) (c : Nat) (old : Word) : State :=
  if s.on R.AOUT_CFG_OWN_EN c then aoutReject (s.wr R.AOUT_CODE_CODE c (fieldOf 0 16 old)) c
  else s.putAout c { s.aout c with pend := s.rd R.AOUT_CODE_CODE c }

/-- A keyed write of CLEAR takes effect at once, even on a channel already cleared (R427). -/
def aoutClearEffect (s : State) (c : Nat) : State := if s.allCleared || s.chCleared c then clearChannel s c else s

/-- OUT_AOUT of job `j` on channel `c` with the estimate `v` (R424): v × GAIN + OFS in binary32, rounded to the nearest
integer and saturated, becomes the pending code; a NaN leaves it and sets AOUT_NAN. -/
def outAout (s : State) (j c : Nat) (v : Nat) : State :=
  if !s.on R.AOUT_CFG_OWN_EN c || s.rd R.AOUT_CFG_JOB c != j then aoutReject s c else
  let x := fmt32.round ((fmt16.decode v).mul (fmt32.decode (s.rd R.AOUT_GAIN_GAIN c)))
  let y := fmt32.round (x.add (fmt32.decode (s.rd R.AOUT_OFS_OFS c)))
  match y.toIntSat 0 65535 with
  | none => s.raise R.PLANT_EVT_AOUT_NAN 0
  | some n =>
    let r := s.aout c
    s.putAout c { r with pend := n.toNat, jobClear := if r.jobClear = 0 then 0 else 2 }

/-- The owning job enters RESTARTING or LOADED (R425): with ON_JOB 1 its channels are loaded with their clear codes
(DEDUCED, log 156). -/
def aoutJobLeaves (s : State) (j : Nat) : State :=
  s.each (List.range 8) fun s c =>
    if s.on R.AOUT_CFG_OWN_EN c && s.rd R.AOUT_CFG_JOB c == j && s.frc R.AOUT_CFG_ON_JOB c != 0 then
      clearChannel (s.putAout c { s.aout c with jobClear := 1 }) c
    else s

end Sys2Proof.Machine
end

