-- ==== Sys2Proof/Machine/TimeBase.lean ====
section
/-! DEFINITION. Machine/TimeBase.lean: the timebase and its discipline (R275 to R279), the encoder (R280, R281) and the
markers (R282 to R284). -/

namespace Sys2Proof.Machine

/-- Replaces the time unit. -/
def State.putTime (s : State) (v : TimeUnit) : State := s.setTime v

/-- The timebase starts at 0 when its loop first locks after power-up (R275). -/
def startTimebase (s : State) : State :=
  if s.time.started then s else s.setTime { s.time with started := true, count := 0, frac := 0 }

/-- One cycle of the timebase clock (R275): the count advances by 10 ns times (1 + RATE) through a fractional accumulator in
units of 10⁻⁸ ns. The count stands still until the loop has first locked. -/
def timebaseCycle (s : State) : State :=
  if s.time.started then
    let add : Int := 10 * (100000000 + s.rdInt R.TB_STAT_RATE 0)
    let total := s.time.frac + add.toNat
    s.setTime { s.time with count := s.time.count + BitVec.ofNat 64 (total / 100000000), frac := total % 100000000 }
  else s

/-- One cycle of the timebase clock passes: 10 ns, or 13 1/3 ns at the 75 MHz of the coasting loop, its LOCKED bit clear (R361,
R368), and the timebase counts it (R275); unknown requests whose turn has come are refused. -/
def idleCycle (s : State) : State :=
  (timebaseCycle (s.setNow (s.now + if Nat.testBit (s.rd R.CLK_STAT_LOCKED 0) 1 then 3 else 4))).each s.mbxOrder refuseUnknown

/-- The discipline states of R277. -/
abbrev tbFree : Nat := 0
/-- ACQUIRING of R277. -/
abbrev tbAcquiring : Nat := 1
/-- LOCKED of R277. -/
abbrev tbLocked : Nat := 2
/-- HOLDOVER of R277. -/
abbrev tbHoldover : Nat := 3

/-- The discipline source: 3 is taken as 0 (R286). -/
def State.tbSrc (s : State) : Nat := if s.rd R.TB_CFG_SRC 0 = 3 then 0 else s.rd R.TB_CFG_SRC 0

/-- The event period in µs, held within its limits (R286). -/
def State.tbPeriodUs (s : State) : Nat := max 1000 (min 4000000 (s.rd R.TB_PERIOD_PERIOD_US 0))

/-- Clamps a signed number between two limits. -/
def clampInt (lo hi v : Int) : Int := max lo (min hi v)

/-- The step of the timebase to the expected value, or FAR while a job runs (R277), and the adjustment of RATE by the
proportional and integral law, whose gains are not given: a free value held within ±100 ppm (R276, log 20). -/
def applyError (s : State) (err : Int) : State :=
  let big := decide (1000000 < err.natAbs)
  let s :=
    if big && !s.anyStarted then
      (s.setTime { s.time with count := s.time.count - BitVec.ofInt 64 err }).raise R.TIME_EVT_STEP 0
    else if big then (s.wr R.TB_STAT_FAR 0 1).raise R.TIME_EVT_FAR 0
    else s.wr R.TB_STAT_FAR 0 0
  let (ix, s) := s.draw
  s.wrInt R.TB_STAT_RATE 0 (clampInt (-10000) 10000 (Config.rateLaw ix err (s.rdInt R.TB_STAT_RATE 0)))

/-- A discipline event with the value latched at it (R276, R277): the error is recorded, the expected value advances by one
period, and the event is applied or ignored as the state of the discipline has it. -/
def disciplineEvent (s : State) (value : DWord) : State :=
  let st := s.rd R.TB_STAT_STATE 0
  if st = tbFree then s else
  let err := (value - s.time.expect).toInt
  let s := s.wrInt R.TB_ERR_ERR 0 (clampInt (-2147483648) 2147483647 err)
  let next := s.time.expect + BitVec.ofNat 64 (1000 * s.tbPeriodUs)
  let s := s.setTime { s.time with expect := next, lastEvent := some s.now }
  let s := if s.time.syncHeld.isSome then s else s.wr R.TB_SYNC_LO_SYNC_LO 0 next.toNat
  let s := s.wr R.TB_SYNC_HI_SYNC_HI 0 (next.toNat / 2 ^ 32)
  let near := decide (err.natAbs ≤ 100)
  if st = tbLocked then
    if 10000 < err.natAbs then
      if s.time.far + 1 = 4 then
        applyError ((s.setTime { s.time with far := 0, good := 0 }).wr R.TB_STAT_STATE 0 tbAcquiring) err
      else s.setTime { s.time with far := s.time.far + 1 }
    else applyError (s.setTime { s.time with far := 0 }) err
  else
    let s := s.wr R.TB_STAT_STATE 0 tbAcquiring
    let good := if near then s.time.good + 1 else 0
    let s := applyError s err
    if good = 8 then
      ((s.setTime { s.time with good := 0, far := 0 }).wr R.TB_STAT_STATE 0 tbLocked).raise R.TIME_EVT_LOCK 0
    else s.setTime { s.time with good := good }

/-- A SYNC_IN edge: a discipline event when SRC selects SYNC_IN and EDGE selects this edge (R276, R278). -/
def execSyncInEdge (falling : Bool) (phase : Fin 4) (s : State) : Out :=
  .next (if s.tbSrc = 1 && s.on R.TB_CFG_EDGE 0 == falling then disciplineEvent s (s.latched phase.val) else s)

/-- No event within 1.5 periods of the expected time: LOCKED becomes HOLDOVER with RATE held (R277). -/
def execHoldoverTimeout (s : State) : Out :=
  .next (
    if s.rd R.TB_STAT_STATE 0 = tbLocked && decide ((1500 * s.tbPeriodUs : Int) ≤ (s.time.count - s.time.expect).toInt) then
      (s.wr R.TB_STAT_STATE 0 tbHoldover).raise R.TIME_EVT_HOLDOVER 0
    else s)

/-- The effect of a write of TB_CFG on the discipline (R277): SRC 0 leads to FREE with RATE 0, a source leads FREE to
ACQUIRING. -/
def tbCfgEffect (s : State) : State :=
  if s.tbSrc = 0 then
    ((s.wr R.TB_STAT_STATE 0 tbFree).wr R.TB_STAT_RATE 0 0).setTime { s.time with good := 0, far := 0 }
  else if s.rd R.TB_STAT_STATE 0 = tbFree then
    (s.wr R.TB_STAT_STATE 0 tbAcquiring).setTime { s.time with good := 0, far := 0 }
  else s

/-- TB_SYNC_LO is held until TB_SYNC_HI is written; both then take effect together (R286). -/
def tbSyncHiEffect (s : State) : State :=
  let lo := s.time.syncHeld.getD (BitVec.ofNat 32 s.time.expect.toNat)
  s.setTime { s.time with
    expect := BitVec.ofNat 64 (lo.toNat + 2 ^ 32 * s.rd R.TB_SYNC_HI_SYNC_HI 0), syncHeld := none }

/-! ### Markers -/

/-- The queue of marker `k`: the nearest at the head. -/
def State.markQ (s : State) (k : Nat) : List MarkEntry := spGet (fun _ => []) s.time.marks k

/-- Replaces the queue of marker `k`; PENDING shows its length. -/
def State.putMarkQ (s : State) (k : Nat) (q : List MarkEntry) : State :=
  (s.setTime { s.time with marks := spSet (fun _ => []) s.time.marks k q }).wr R.MARK_STAT_PENDING k q.length

/-- The level at the output of marker `k`. -/
def State.markLevel (s : State) (k : Nat) : Bool := spGet (fun _ => false) s.time.markHigh k

/-- Drives the output of marker `k`. -/
def State.putMarkLevel (s : State) (k : Nat) (high : Bool) : State :=
  s.setTime { s.time with markHigh := spSet (fun _ => false) s.time.markHigh k high }

/-- The distance d of R282: the web position less the target, as a signed value. -/
def markD (pos target : Word) : Int := (pos - target).toInt

/-- The pulse width of marker `k` in µs; 0 is taken as 1 (R286). -/
def State.markWidth (s : State) (k : Nat) : Nat := max 1 (s.rd R.MARK_CFG_WIDTH k)

/-- An entry fires (R282): the marker drives its active level, `low` or high, until WIDTH µs later; while the output is active the pulse is
extended, with the width it began with (R286). -/
def markFire (s : State) (k : Nat) (low : Bool) : State :=
  let width := if s.on R.MARK_STAT_ACTIVE k then (spGet (fun _ => (0, 0)) s.time.pulse k).2 else s.markWidth k
  let s := ((s.wr R.MARK_STAT_ACTIVE k 1).bump R.MARK_STAT_FIRED k).putMarkLevel k (!low)
  s.setTime { s.time with pulse := spSet (fun _ => (0, 0)) s.time.pulse k (s.now + usec * width, width) }

/-- The output of a marker returns to its inactive level (R282, R284). -/
def markInactive (s : State) (k : Nat) : State :=
  if s.on R.MARK_STAT_ACTIVE k then (s.wr R.MARK_STAT_ACTIVE k 0).putMarkLevel k (!s.markLevel k) else s

/-- Fires every entry at the head of marker `k`'s queue whose target is reached (R282). -/
def markHeads (s : State) (k : Nat) : List MarkEntry → State
  | [] => s.putMarkQ k []
  | t :: rest =>
    if 0 ≤ markD (s.word (R.ENC_POS.key 0 0)) t.target then markHeads (markFire s k t.low) k rest else s.putMarkQ k (t :: rest)

/-- Every marker looks at the head of its queue (R282). -/
def markAll (s : State) : State := s.each (List.range 8) fun s k => if (s.markQ k).isEmpty then s else markHeads s k (s.markQ k)

/-- Places an entry so that the nearest stands at the head: descending order of d (R283). -/
def markInsert (pos : Word) (t : MarkEntry) : List MarkEntry → List MarkEntry
  | [] => [t]
  | u :: rest => if markD pos u.target < markD pos t.target then t :: u :: rest else u :: markInsert pos t rest

/-- Scheduling an entry (R283): the outcome is 0 queued, 1 fired late, 2 discarded, 3 refused on a full queue (R315). Its active level is that
of POL now (R286). -/
def markSchedule (s : State) (k : Nat) (target : Word) : Nat × State :=
  let pos := s.word (R.ENC_POS.key 0 0)
  let d := markD pos target
  let low := s.on R.MARK_CFG_POL k
  if !s.on R.MARK_CFG_EN k || !s.on R.CLK_EN_MARK 0 then (2, s.raise R.TIME_EVT_MARK_MISS 0)
  else if 64 ≤ (s.markQ k).length then (3, s.raise R.TIME_EVT_MARK_OVF 0)
  else if 0 ≤ d then
    if d ≤ s.rd R.MARK_LATE_WIN_LATE_WIN 0 then (1, (markFire s k low).raise R.TIME_EVT_MARK_LATE 0)
    else (2, s.raise R.TIME_EVT_MARK_MISS 0)
  else (0, s.putMarkQ k (markInsert pos ⟨target, low⟩ (s.markQ k)))

/-- A marker inactive and its queue empty (R284). -/
def markClear (s : State) (k : Nat) : State := markInactive (s.putMarkQ k []) k

/-- A module fault drives every marker inactive and empties every queue, counting MARK_FLUSH (R284). -/
def markFlushAll (s : State) : State := (s.each (List.range 8) markClear).raise R.TIME_EVT_MARK_FLUSH 0

/-- WIDTH µs after the last entry that fired, the marker returns inactive (R282). -/
def execMarkPulseEnd (k : Fin 8) (s : State) : Out :=
  .next (if (spGet (fun _ => (0, 0)) s.time.pulse k.val).1 ≤ s.now then markInactive s k.val else s)

/-! ### Encoder -/

/-- Transitions no older than 1 ms (R281). -/
def recentTrans (now : Nat) (l : List (Nat × Int)) : List (Nat × Int) := l.filter fun e => decide (now < e.1 + msec)

/-- ENC_SPEED: the signed count of transitions over the last 1 ms (R281). -/
def State.encSpeed (s : State) : Int := ((recentTrans s.now s.time.trans).map (·.2)).sum

/-- The level that ends at an input has lasted less than the minimum level time of FILTER, 7.5 ns doubling with each step (R280): the filter
rejects it. The instants are in units of 3 1/3 ns. -/
def State.tooShort (s : State) (last : Option Nat) : Bool :=
  match last with
  | some t => decide (4 * (s.now - t) < 9 * 2 ^ s.rd R.ENC_CFG_FILTER 0)
  | none => false

/-- A sample of the encoder inputs past their filters, a level too short rejected (R280): one input changed moves the web position by one count, upward
when ENC_A leads and INVERT is 0, and lets the markers look at their heads; both changed is an illegal transition. -/
def encoderSample (s : State) (a b : Bool) : State :=
  let a0 := s.time.encA
  let b0 := s.time.encB
  let a := if a != a0 && s.tooShort s.time.encAAt then a0 else a
  let b := if b != b0 && s.tooShort s.time.encBAt then b0 else b
  let s := s.setTime { s.time with
    encA := a, encB := b, encAAt := if a != a0 then some s.now else s.time.encAAt, encBAt := if b != b0 then some s.now else s.time.encBAt }
  if !s.on R.ENC_CFG_EN 0 || !s.on R.CLK_EN_ENC 0 then s
  else if a != a0 && b != b0 then (s.bump R.ENC_ERR_CNT_COUNT 0).raise R.TIME_EVT_ENC_ERR 0
  else if a == a0 && b == b0 then s
  else
    let up := (a != b0) != s.on R.ENC_CFG_INVERT 0
    let step : Int := if up then 1 else -1
    let s := s.setWord (R.ENC_POS.key 0 0) (s.word (R.ENC_POS.key 0 0) + BitVec.ofInt 32 step)
    markAll (s.setTime { s.time with trans := recentTrans s.now s.time.trans ++ [(s.now, step)] })

/-- A filtered encoder transition (R280). -/
def execEncoderTransition (a b : Bool) (s : State) : Out := .next (encoderSample s a b)

/-! ### Commands -/

/-- CLK_TB_SET writes the timebase; JOB_STATE while any job is WARMING, RUNNING or RESTARTING (R279, R315). -/
def execClkTbSet (m : Fin 16) (s : State) : Out :=
  .next (s.peade m.val 0x0601 true true true 0 fun s =>
    if s.anyStarted then s.respond m.val .jobState 0 []
    else ((s.setTime { s.time with count := BitVec.ofNat 64 (s.req m.val 8 8), frac := 0 }).raise
      R.TIME_EVT_STEP 0).respond m.val .ok 0 [])

/-- CLK_ENC_PRESET writes the web position and empties every marker queue, letting active pulses run out (R281, R315). -/
def execClkEncPreset (m : Fin 16) (s : State) : Out :=
  .next (s.peade m.val 0x0602 true (s.on R.CLK_EN_ENC 0) true 0 fun s =>
    if s.anyStarted then s.respond m.val .jobState 0 []
    else
      let s := s.setWord (R.ENC_POS.key 0 0) (BitVec.ofNat 32 (s.req m.val 8 4))
      let s := s.each (List.range 8) fun s k => s.putMarkQ k []
      (s.raise R.TIME_EVT_MARK_FLUSH 0).respond m.val .ok 0 [])

/-- STREAM_MARK schedules one entry with the target that host software gives (R283, R315). -/
def execStreamMark (m : Fin 16) (s : State) : Out :=
  .next (s.peade m.val 0x0503 true (s.on R.CLK_EN_MARK 0) true 0 fun s =>
    let r := markSchedule s (s.req m.val 8 1) (BitVec.ofNat 32 (s.req m.val 12 4))
    r.2.respond m.val .ok 0 [BitVec.ofNat 8 r.1])

/-- STREAM_MARK_CLEAR drives one marker inactive, empties its queue and counts MARK_FLUSH (R284, R315). -/
def execStreamMarkClear (m : Fin 16) (s : State) : Out :=
  .next (s.peade m.val 0x0504 true (s.on R.CLK_EN_MARK 0) true 0 fun s =>
    let k := s.req m.val 8 1
    let n := (s.markQ k).length
    ((markClear s k).raise R.TIME_EVT_MARK_FLUSH 0).respond m.val .ok 0 [BitVec.ofNat 8 n])

end Sys2Proof.Machine
end

