-- ==== Sys2Proof/Machine/Records.lean ====
section
/-! DEFINITION. Machine/Records.lean: the records that leave the module: result, drop, missing and status records and their
bytes (R262, R267 to R271, R337). -/

namespace Sys2Proof.Machine

/-- The bytes of a stamp: time, then web position. -/
def stampBytes (t : Stamp) : List Byte := leBytes 8 t.time.toNat ++ leBytes 4 t.pos.toNat

/-- The port and virtual channel of the record channel (REC_CFG, R286). -/
def State.recPort (s : State) : Nat × Nat := (s.rd R.REC_CFG_PORT 0, s.rd R.REC_CFG_VC 0)

/-- Frame numbers run from 1 to 65,535 and then return to 1 (R264). -/
def nextFrame (n : Nat) : Nat := if n = 65535 then 1 else n + 1

/-- A record is ready on a channel: a frame opens with a Frame Start unless one is open (R264). -/
def openFrame (s : State) (t vc : Nat) : State :=
  let c := s.chan t vc
  if c.open_ then s
  else (s.putChan t vc { c with open_ := true, recs := 0, at_ := s.now, num := nextFrame c.num }).putTx t
    { s.txp t with lastShort := some (.frameStart vc (nextFrame c.num)) }

/-- Hands the parts of one record to the record channel; REC_SEQ counts the record once (R269). -/
def handRecord (s : State) (port vc dtype : Nat) (parts : List (List Byte)) : State :=
  let n := parts.length
  let pkts := (parts.zip (List.range n)).map fun e => RecPacket.mk port vc ⟨dtype, decide (e.2 + 1 = n), e.1⟩
  openFrame ((s.setRecQ (s.recQ ++ pkts)).setRecSeq ((s.recSeq + 1) % 2 ^ 32)) port vc

/-- The 48 bytes of a drop record (R269). -/
def dropBytes (r : DropRun) (seq : Nat) : List Byte :=
  leBytes 2 48 ++ leBytes 1 2 ++ leBytes 1 r.cause ++ leBytes 2 r.jobs ++ leBytes 1 r.stream ++ leBytes 1 0 ++
  stampBytes r.first ++ leBytes 4 r.lineFirst ++ leBytes 4 r.count ++ leBytes 4 seq ++ stampBytes r.last ++ leBytes 4 0

/-- The 48 bytes of a missing record (R269). -/
def missBytes (job path stream cause kFirst count : Nat) (first last : Stamp) (seq : Nat) : List Byte :=
  leBytes 2 48 ++ leBytes 1 3 ++ leBytes 1 cause ++ leBytes 1 job ++ leBytes 1 path ++ leBytes 1 stream ++ leBytes 1 0 ++
  stampBytes first ++ leBytes 4 kFirst ++ leBytes 4 count ++ leBytes 4 seq ++ stampBytes last ++ leBytes 4 0

/-- Emits one drop record (R262, R263). -/
def emitDrop (s : State) (r : DropRun) : State :=
  handRecord s s.recPort.1 s.recPort.2 0x31 [dropBytes r s.recSeq]

/-- Emits one missing record (R337, R263). -/
def emitMiss (s : State) (r : MissRun) (kFirst count : Nat) (first last : Stamp) : State :=
  handRecord s s.recPort.1 s.recPort.2 0x32 [missBytes r.job r.path r.stream r.cause kFirst count first last s.recSeq]

/-! ### Drop runs -/

/-- Adds the lines of `g` to the runs of its stream (R262): a run with the same cause and jobs whose next line is the first
line of `g` is extended, else a run opens; a run that reaches 64 lines is closed and its record emitted. -/
def addDrops (s : State) (g : DropRun) : Nat → State
  | 0 => s
  | fuel + 1 =>
    if g.count = 0 then s else
    let same (r : DropRun) : Bool :=
      r.stream == g.stream && r.cause == g.cause && r.jobs == g.jobs && r.lineFirst + r.count == g.lineFirst
    match s.drops.find? same with
    | some r =>
      let n := min g.count (64 - r.count)
      let r' := { r with count := r.count + n, last := g.last }
      let rest := s.drops.filter fun x => !same x
      let s := if r'.count = 64 then emitDrop (s.setDrops rest) r' else s.setDrops (rest ++ [r'])
      addDrops s { g with lineFirst := g.lineFirst + n, count := g.count - n } fuel
    | none =>
      let n := min g.count 64
      let r := { g with count := n }
      let s := if n = 64 then emitDrop s r else s.setDrops (s.drops ++ [r])
      addDrops s { g with lineFirst := g.lineFirst + n, count := g.count - n } fuel

/-- Closes the runs of stream `st` that none of the groups extends (R262). -/
def closeDrops (s : State) (st : Nat) (gs : List DropRun) : State :=
  let extended (r : DropRun) : Bool :=
    gs.any fun g => r.cause == g.cause && r.jobs == g.jobs && r.lineFirst + r.count == g.lineFirst
  let closing := s.drops.filter fun r => r.stream == st && !extended r
  (s.setDrops (s.drops.filter fun r => !(r.stream == st && !extended r))).each closing emitDrop

/-- The next line of stream `st` and the groups of drops it brings (R262): runs it does not extend close, the groups join or
open runs. -/
def lineDrops (s : State) (st : Nat) (gs : List DropRun) : State :=
  (closeDrops s st gs).each gs fun s g => addDrops s g (g.count + 1)

/-- A drop run closes 1 ms after its first line was dropped and its record is emitted (R262). -/
def execDropRunTimeout (st : Fin 48) (s : State) : Out :=
  let due (r : DropRun) : Bool := r.stream == st.val && s.passed r.at_ msec
  .next ((s.setDrops (s.drops.filter fun r => !due r)).each (s.drops.filter due) emitDrop)

/-! ### Missing runs -/

/-- Splits lost batches into runs of consecutive numbers of at most 64 (R337). -/
def missRuns : List (Nat × Stamp × Stamp) → List (Nat × Nat × Stamp × Stamp)
  | [] => []
  | (k, a, b) :: rest =>
    match missRuns rest with
    | [] => [(k, 1, a, b)]
    | (k', n, a', b') :: more =>
      if k + 1 = k' ∧ n < 64 then (k, n + 1, a, b') :: more else (k, 1, a, b) :: (k', n, a', b') :: more

/-- Places a lost batch in ascending order; a batch already there takes the newer last stamp. -/
def missInsert (k : Nat) (first last : Stamp) : List (Nat × Stamp × Stamp) → List (Nat × Stamp × Stamp)
  | [] => [(k, first, last)]
  | (k', a, b) :: rest =>
    if k = k' then (k, a, last) :: rest
    else if k < k' then (k, first, last) :: (k', a, b) :: rest
    else (k', a, b) :: missInsert k first last rest

/-- Emits the missing records of a run (R337). -/
def closeMiss (s : State) (r : MissRun) : State :=
  s.each (missRuns r.lost) fun s e => emitMiss s r e.1 e.2.1 e.2.2.1 e.2.2.2

/-- Batch `k` of a path and stream of job `j` is lost to the restart (R337); a run that reaches 64 batches is closed and its
record emitted. -/
def addMiss (s : State) (j path st cause k : Nat) (first last : Stamp) : State :=
  let mine (r : MissRun) : Bool := r.job == j && r.path == path && r.stream == st
  let old := s.misses.find? mine
  let lost := missInsert k first last ((old.map MissRun.lost).getD [])
  let r := MissRun.mk j path st ((old.map MissRun.cause).getD cause) lost
  let rest := s.misses.filter fun x => !mine x
  if 64 ≤ lost.length then closeMiss (s.setMisses rest) r else s.setMisses (rest ++ [r])

/-- Acceptance resumes on a stream of job `j`: its missing runs are closed (R337). -/
def closeMisses (s : State) (j st : Nat) : State :=
  let mine (r : MissRun) : Bool := r.job == j && r.stream == st
  (s.setMisses (s.misses.filter fun r => !mine r)).each (s.misses.filter mine) closeMiss

/-! ### Result records -/

/-- The payload of one part of a result or status record: the most a part carries (R267, R270). -/
abbrev partMax : Nat := 65472

/-- Cuts a payload into parts of at most 65,472 bytes; an empty payload is one part. -/
def cutParts (bs : List Byte) : Nat → List (List Byte)
  | 0 => []
  | fuel + 1 => if bs.length ≤ partMax then [bs] else bs.take partMax :: cutParts (bs.drop partMax) fuel

/-- The parts of a payload. -/
def parts (bs : List Byte) : List (List Byte) := cutParts bs (bs.length / partMax + 1)

/-- The 40-byte header and payload of one part of a result record (R267). -/
def resultBytes (r : Result) (seq part npart : Nat) (pay : List Byte) : List Byte :=
  leBytes 2 (40 + pay.length) ++ leBytes 1 1 ++ leBytes 1 r.flags.toNat ++ leBytes 1 r.job ++ leBytes 1 r.path ++
  leBytes 1 r.stream ++ leBytes 1 r.gen ++ stampBytes r.stamp ++ leBytes 4 r.k ++ leBytes 4 seq ++ leBytes 1 r.head ++
  leBytes 1 r.fmt ++ leBytes 2 part ++ leBytes 2 npart ++ leBytes 2 0 ++ leBytes 4 pay.length ++ pay

/-- The packets of a result record (R263, R267). -/
def resultPackets (r : Result) (seq : Nat) : List Packet :=
  let ps := parts r.payload
  let n := ps.length
  (ps.zip (List.range n)).map fun e => ⟨0x30, decide (e.2 + 1 = n), resultBytes r seq e.2 (n - 1) e.1⟩

/-! ### Status records -/

/-- The 32-byte header and body of one part of a status record (R270). -/
def statusBytes (kind : Nat) (at_ : Stamp) (seq part npart : Nat) (body : List Byte) : List Byte :=
  leBytes 2 (32 + body.length) ++ leBytes 1 4 ++ leBytes 1 kind ++ leBytes 4 0 ++ stampBytes at_ ++ leBytes 4 seq ++
  leBytes 2 part ++ leBytes 2 npart ++ leBytes 4 body.length ++ body

/-- Emits a status record of a kind on a channel (R270, R271). -/
def emitStatus (s : State) (port vc kind : Nat) (body : List Byte) : State :=
  let ps := parts body
  let n := ps.length
  handRecord s port vc 0x33 ((ps.zip (List.range n)).map fun e => statusBytes kind s.stampNow s.recSeq e.2 (n - 1) e.1)

/-- Two's complement of a signed number in `n` bytes. -/
def leInt (n : Nat) (v : Int) : List Byte := leBytes n (v % 2 ^ (8 * n)).toNat

/-- The job states of a periodic record: 4 bits per job (R271). -/
def State.jobNibbles (s : State) : Nat := jobNums.foldl (fun m j => m + (s.job j).st.code * 16 ^ j) 0

/-- The 72-byte body of a periodic record (R271). -/
def State.periodicBody (s : State) : List Byte :=
  leBytes 1 (s.rd R.TB_STAT_STATE 0) ++ leBytes 1 0 ++ leInt 2 (s.rdInt R.TEMP_MAX_MAX 0) ++ leInt 4 s.encSpeed ++
  leBytes 2 (s.rd R.PWR_MEAS_POWER 0) ++ leBytes 6 0 ++ leBytes 8 s.jobNibbles ++
  streamNums.map fun st => BitVec.ofNat 8 (min 255 (s.ing st).drops)

/-- Every PERIOD_MS a periodic status record is emitted on the record channel, PERIOD_MS after the last at the earliest; PERIOD_MS 0 disables it
(R271, R286). -/
def execPeriodicStatus (s : State) : Out :=
  .next (
    if s.rd R.REC_PERIOD_PERIOD_MS 0 = 0 || !s.passed s.time.statusAt (msec * s.rd R.REC_PERIOD_PERIOD_MS 0) then s
    else
      let s := s.setTime { s.time with statusAt := s.now }
      (emitStatus s s.recPort.1 s.recPort.2 1 s.periodicBody).each streamNums fun s st =>
        s.putIng st { s.ing st with drops := 0 })

end Sys2Proof.Machine
end

