-- ==== Sys2Proof/Machine/HubTags.lean ====
section
/-! DEFINITION. Machine/HubTags.lean: tags, quotas and the waiting of dispatch (R103 to R105, R124). -/

namespace Sys2Proof.Machine

/-- The tags of job `j` now held. -/
def State.tagsOf (s : State) (j : Nat) : List (Nat × Nat) := s.tagsHeld.filter fun e => e.2 == j

/-- The tags of job `j` that are free: its quota less those held (R103). -/
def State.freeTags (s : State) (j : Nat) : Nat := (s.job j).hdr.tagQuota - (s.tagsOf j).length

/-- The tags in the quotas of the admitted jobs. -/
def State.reservedTags (s : State) : Nat := ((jobNums.filter fun j => (s.job j).admitted).map fun j => (s.job j).hdr.tagQuota).sum

/-- TAG_STAT_j and TAG_POOL show the quota of job j, none while it is EMPTY, the tags held, and the tags in no job's quota (R124). -/
def showTags (s : State) (j : Nat) : State :=
  let s := (s.wr R.TAG_STAT_IN_USE j (s.tagsOf j).length).wr R.TAG_POOL_IN_USE 0 s.tagsHeld.length
  (s.wr R.TAG_STAT_QUOTA j (if (s.job j).admitted then (s.job j).hdr.tagQuota else 0)).wr R.TAG_POOL_UNRESERVED 0 (4096 - s.reservedTags)

/-- The lowest tag number not held, below `n + fuel`. -/
def lowestFree (held : List (Nat × Nat)) (n : Nat) : Nat → Nat
  | 0 => n
  | fuel + 1 => if held.any (fun e => e.1 == n) then lowestFree held (n + 1) fuel else n

/-- Takes a tag for job `j` (R103): the lowest number not held (which number is a DESIGN CHOICE, log 24). -/
def takeTag (s : State) (j : Nat) : Nat × State :=
  let t := lowestFree s.tagsHeld 0 s.tagsHeld.length
  let s := s.setTagAt (spSet (fun _ => none) s.tagAt t (some s.now))
  (t, showTags (s.setTagsHeld (s.tagsHeld ++ [(t, j)])) j)

/-- A batch still has INPUT tokens to cut. -/
def Batch.unfinished (b : Batch) : Bool := !b.started || !b.todo.isEmpty

/-- Batches of one stream of job `j` in flight: dispatch has begun and a result is still due. -/
def State.inFlight (s : State) (j st : Nat) : Nat :=
  (s.batches.filter fun b => b.job == j && b.stream == st && b.started).length

/-- Dispatch of job `j` may proceed: it runs, is not behind a fence, is not held, and no module fault halts dispatch. -/
def State.dispatchOpen (s : State) (j : Nat) : Bool :=
  let job := s.job j
  job.live && !job.fenced && !s.halt && !job.holds.grade && !job.holds.bell && !job.holds.mesh

/-- The oldest batch of job `j` not wholly cut (R104): the next is begun once both links have sent their tokens of it (DEDUCED, log 182). -/
def State.nextBatch (s : State) (j : Nat) : Option Batch := s.batches.find? fun b => b.job == j && b.unfinished

/-- The batch to be dispatched would put 128 batches of its stream in flight (R104). -/
def State.overFlight (s : State) (j : Nat) (b : Batch) : Bool := !b.started && decide (128 ≤ s.inFlight j b.stream + 1)

/-- Dispatch of the job must wait (R104): it has no free tag, or the batch would put 128 batches of its stream in flight. -/
def State.blocked (s : State) (j : Nat) (b : Batch) : Bool := s.freeTags j == 0 || s.overFlight j b

/-- The waiting of job `j` under R104 is decided anew: whenever it has no free tag, with a batch to be dispatched or without (R26), or the
batch to be dispatched has too many in flight. Each wait that begins is counted (R124). -/
def refreshWait (s : State) (j : Nat) : State :=
  let w := s.dispatchOpen j && (s.freeTags j == 0 || ((s.nextBatch j).map (s.overFlight j)).getD false)
  let s := if w && !(s.job j).waiting then s.bump R.TAG_WAIT_CNT_COUNT j else s
  let s := s.wrB R.TAG_STAT_WAITING j w
  if (s.job j).waiting == w then s else s.putJob j { s.job j with waiting := w }

/-- Returns tags of job `j` to its quota (R103, R105); a wait ends as soon as a tag is free. -/
def returnTags (s : State) (j : Nat) (tags : List Nat) : State :=
  refreshWait (showTags (s.setTagsHeld (s.tagsHeld.filter fun e => !(e.2 == j && tags.contains e.1))) j) j

end Sys2Proof.Machine
end

