-- ==== Sys2Proof/Machine/Seating.lean ====
section
/-! DEFINITION. Machine/Seating.lean: the seating plan and the room of an output stream (R111, R115 to R118). -/

namespace Sys2Proof.Machine

/-- Results of an output stream that occupy its room: held by the seating plan or waiting to be sent (R111). -/
def OutStream.room (o : OutStream) : Nat := o.held.length + (o.queue.filter Packet.last).length

/-- The window in force: a value above 512 is taken as 512 (R124). -/
def State.window (s : State) (n : Nat) : Nat := min 512 (s.frc R.SEAT_CFG_WINDOW n)

/-- The sort key of a result on output stream `n` (R115): TIME, or WEBPOS when KEY is set. -/
def State.seatKey (s : State) (n : Nat) (r : Result) : Nat × Nat :=
  (if s.frc R.SEAT_CFG_KEY n = 0 then r.stamp.time.toNat else r.stamp.pos.toNat, r.stream)

/-- The sort order of R115: the key, then STREAM. Web positions compare by their signed difference (R281). -/
def keyLt (byPos : Bool) (a b : Nat × Nat) : Bool :=
  let lt := if byPos then decide ((BitVec.ofNat 32 a.1 - BitVec.ofNat 32 b.1).toInt < 0) else decide (a.1 < b.1)
  lt || (a.1 == b.1 && decide (a.2 < b.2))

/-- HELD shows the results held (R124). -/
def showSeat (s : State) (n : Nat) : State := s.wr R.SEAT_STAT_HELD n (s.out n).held.length

/-- Port `t` sends result packets: enabled, or carrying the record channel (R266). -/
def State.txResults (s : State) (t : Nat) : Bool := s.frc R.TX_CFG_EN t != 0 || s.recPort.1 == t

/-- Output stream `n` is mapped to port `t`. -/
def State.mappedTo (s : State) (n t : Nat) : Bool := s.frc R.OUT_MAP_EN n != 0 && s.frc R.OUT_MAP_PORT n == t

/-- A packet of output stream `n` is ready: a frame of its channel opens, if its port sends results (R264, R266). -/
def openOut (s : State) (n : Nat) : State :=
  let t := s.frc R.OUT_MAP_PORT n
  if s.mappedTo n t && s.txResults t then openFrame s t (s.frc R.OUT_MAP_VC n) else s

/-- A result leaves the seating plan for its transmit port: its packets are queued with the next REC_SEQ (R267). -/
def seatEmit (s : State) (n : Nat) (r : Result) : State :=
  let o := s.out n
  openOut (s.putOut n { o with
    queue := o.queue ++ resultPackets r o.recSeq, recSeq := (o.recSeq + 1) % 2 ^ 32,
    last := some (r.stamp.time.toNat, r.stamp.pos.toNat, r.stream) }) n

/-- The held result with the smallest key. -/
def State.seatLeast (s : State) (n : Nat) : List (Result × Nat) → Option (Result × Nat)
  | [] => none
  | e :: rest =>
    match s.seatLeast n rest with
    | none => some e
    | some m => if keyLt (s.frc R.SEAT_CFG_KEY n != 0) (s.seatKey n m.1) (s.seatKey n e.1) then some m else some e

/-- Emits held results in key order until at most `keep` are held (R116, R118). -/
def seatDrain (s : State) (n keep : Nat) : Nat → State
  | 0 => s
  | fuel + 1 =>
    let o := s.out n
    if o.held.length ≤ keep then s
    else match s.seatLeast n o.held with
      | none => s
      | some e => seatDrain (seatEmit (s.putOut n { o with held := o.held.erase e }) n e.1) n keep fuel

/-- The sort key, by the KEY in force, of the last result emitted on output stream `n` (R115, R116). -/
def State.lastKey (s : State) (n : Nat) : Option (Nat × Nat) :=
  (s.out n).last.map fun l => (if s.frc R.SEAT_CFG_KEY n = 0 then l.1 else l.2.1, l.2.2)

/-- A result arrives from the path-order stage (R116, R118): a buffered SEAT_CFG takes effect, a late result leaves at once,
any other joins the window, and the results beyond the window leave in key order. A WINDOW of 0 passes results through. By web
position a later batch of a stream may leave first (DEDUCED, log 166). -/
def seatArrive (s : State) (n : Nat) (r : Result) : State :=
  let s := s.apply (R.SEAT_CFG.key n 0)
  let s := seatDrain s n (s.window n) ((s.out n).held.length)
  let late := ((s.lastKey n).map fun l => keyLt (s.frc R.SEAT_CFG_KEY n != 0) (s.seatKey n r) l).getD false
  if s.window n = 0 then showSeat (seatEmit s n r) n
  else if late then showSeat ((seatEmit s n r).bump R.SEAT_STAT_LATE_CNT n) n
  else
    let o := s.out n
    let s := s.putOut n { o with held := o.held ++ [(r, s.now)] }
    showSeat (seatDrain s n (s.window n) ((s.out n).held.length)) n

/-- Emits every held result of output stream `n` whose key does not exceed `k`, in key order, counting each (R116). -/
def seatUpTo (s : State) (n : Nat) (k : Nat × Nat) : Nat → State
  | 0 => s
  | fuel + 1 =>
    let o := s.out n
    match s.seatLeast n o.held with
    | none => s
    | some e =>
      if keyLt (s.frc R.SEAT_CFG_KEY n != 0) k (s.seatKey n e.1) then s
      else seatUpTo ((seatEmit (s.putOut n { o with held := o.held.erase e }) n e.1).bump R.SEAT_STAT_HOLD_CNT n) n k fuel

/-- The result held longest has been held for HOLD times 10 µs (R116, step 3); HOLD 0 is taken as 1 (R124). -/
def execSeatHoldExpiry (n : Fin 128) (s : State) : Out :=
  .next (
    match (s.out n.val).held.head? with
    | none => s
    | some e =>
      if s.passed e.2 (10 * usec * max 1 (s.frc R.SEAT_CFG_HOLD n.val)) then
        showSeat (seatUpTo s n.val (s.seatKey n.val e.1) (s.out n.val).held.length) n.val
      else s)

/-- The seating plan of output stream `n` emits all its held results in key order (R117) (DEDUCED, log 93). -/
def seatFlush (s : State) (n : Nat) : State := showSeat (seatDrain s n 0 (s.out n).held.length) n

end Sys2Proof.Machine
end

