-- ==== Sys2Proof/Machine/Shake.lean ====
section
/-! DEFINITION. Machine/Shake.lean: SHAKE256, by which job images, shards, manifests, snapshots and firmware images are checked
(R42, R226, R228, R218), and the CRC-32 of the non-volatile store (R401). The spec names SHAKE256 without its course, which is that
of FIPS 202 (PRESUMED, log 35). -/

namespace Sys2Proof.Machine

/-- A sponge state: five sheets of five lanes; lane (x, y) stands in sheet x at place y. -/
abbrev Sheets := List (List DWord)

/-- Each sheet beside the one `n` further on, cyclically. -/
def Sheets.turned (a : Sheets) (n : Nat) : Sheets := a.drop n ++ a.take n

/-- Lane (x, y). -/
def Sheets.lane (a : Sheets) (x y : Nat) : DWord := (a.getD x []).getD y 0

/-- Replaces lane (x, y). -/
def Sheets.put (a : Sheets) (x y : Nat) (v : DWord) : Sheets := a.modify x fun sheet => sheet.set y v

/-- The mixing of column parities: each sheet takes in the parities of the sheet before it and, turned by one bit, of the sheet after it. -/
def Sheets.mixParities (a : Sheets) : Sheets :=
  let parity : Sheets := a.map fun sheet => [sheet.foldl (· ^^^ ·) 0]
  let near := (parity.turned 4).zipWith (fun before after => before.headD 0 ^^^ (after.headD 0).rotateLeft 1) (parity.turned 1)
  a.zipWith (fun sheet v => sheet.map (v ^^^ ·)) near

/-- The walk over the 24 lanes beside (0, 0): each lane moves to the next place of the walk, turned by a triangular number of bits. -/
def Sheets.walk (a : Sheets) : Nat → Nat → Nat → Nat → Sheets → Sheets
  | 0, _, _, _, b => b
  | n + 1, t, x, y, b =>
    let y' := (2 * x + 3 * y) % 5
    a.walk n (t + 1) y y' (b.put y y' ((a.lane x y).rotateLeft (t * (t + 1) / 2 % 64)))

/-- The one nonlinear step, along each row. -/
def Sheets.bend (a : Sheets) : Sheets :=
  let masks := (a.turned 1).zipWith (fun next far => next.zipWith (fun u v => (u ^^^ BitVec.allOnes 64) &&& v) far) (a.turned 2)
  a.zipWith (fun sheet mask => sheet.zipWith (fun u v => u ^^^ v) mask) masks

/-- The shift register that draws the round constants: seven draws give the bits at places 2 ^ j − 1. -/
def drawConstant : Nat → Nat → Nat → DWord → Nat × DWord
  | 0, _, reg, c => (reg, c)
  | n + 1, j, reg, c =>
    let c := if Nat.testBit reg 0 then c ^^^ BitVec.ofNat 64 (2 ^ (2 ^ j - 1)) else c
    drawConstant n (j + 1) (if 128 ≤ reg then Nat.xor (2 * reg) 0x171 else 2 * reg) c

/-- The rounds of the permutation, with the shift register going on from round to round. -/
def permute : Nat → Nat → Sheets → Sheets
  | 0, _, a => a
  | n + 1, reg, a =>
    let m := a.mixParities
    let b := (m.walk 24 1 1 0 m).bend
    let d := drawConstant 7 0 reg 0
    permute n d.1 (b.put 0 0 (b.lane 0 0 ^^^ d.2))

/-- The bytes a block absorbs at a time. -/
abbrev shakeRate : Nat := 136

/-- A block is taken in, its eight-byte words row after row, and the state permuted. -/
def takeIn (a : Sheets) (block : List Byte) : Sheets :=
  permute 24 1 ((List.range 5).map fun x => (List.range 5).map fun y => a.lane x y ^^^ BitVec.ofNat 64 (leAt block (8 * (5 * y + x)) 8))

/-- A message with the ending of SHAKE256: four ones, and a one in the last bit of its last block. -/
def shakePadded (msg : List Byte) : List Byte :=
  let gap := shakeRate - msg.length % shakeRate
  if gap = 1 then msg ++ [0x9F] else msg ++ [0x1F] ++ List.replicate (gap - 2) 0 ++ [0x80]

/-- The blocks of a padded message are taken in one after the other. -/
def takeInAll : Nat → List Byte → Sheets → Sheets
  | 0, _, a => a
  | n + 1, l, a => takeInAll n (l.drop shakeRate) (takeIn a (l.take shakeRate))

/-- The first 64 bytes of SHAKE256 of a message. -/
def shake256 (msg : List Byte) : List Byte :=
  let a := takeInAll (msg.length / shakeRate + 1) (shakePadded msg) (List.replicate 5 (List.replicate 5 0))
  (List.range 8).flatMap fun i => leBytes 8 (a.lane (i % 5) (i / 5)).toNat

end Sys2Proof.Machine
end

