-- ==== Sys2Proof/Machine/Store.lean ====
section
/-! DEFINITION. Machine/Store.lean: the golden store, and the fields of manifests and shards (R226 to R229). -/

namespace Sys2Proof.Machine

/-- The states of a slot (R229, R254). -/
abbrev slFree : Nat := 0
/-- RECEIVING. -/
abbrev slReceiving : Nat := 1
/-- HELD. -/
abbrev slHeld : Nat := 2
/-- ERASING. -/
abbrev slErasing : Nat := 3

/-- Slot `n` of the store. -/
def State.slot (s : State) (n : Nat) : StoreSlot := spGet (fun _ => StoreSlot.free) s.store n

/-- Replaces slot `n`; WSET_SLOT_n and WSET_SLOT_ID_n show its state, module index and identifier (R254). -/
def State.putSlot (s : State) (n : Nat) (v : StoreSlot) : State :=
  let s := s.setStore (spSet (fun _ => StoreSlot.free) s.store n v)
  let s := (s.wr R.WSET_SLOT_STATE n v.st).wr R.WSET_SLOT_MOD_INDEX n v.modIndex
  s.wr R.WSET_SLOT_ID_WSET_ID n (if v.st = slFree then 0 else leAt v.manifest 8 4)

/-! ### Manifests -/

/-- The number of entries of a manifest. -/
def mfEntries (m : List Byte) : Nat := leAt m 0x0C 2

/-- A field of entry `n` of a manifest: its offset in the entry and its size. -/
def mfField (m : List Byte) (n off size : Nat) : Nat := leAt m (0x40 + 80 * n + off) size

/-- KIND of entry `n`: 0 tile, 1 two-slice pair, 2 mesh. -/
def mfKind (m : List Byte) (n : Nat) : Nat := mfField m n 2 1
/-- ROLE of entry `n`. -/
def mfRole (m : List Byte) (n : Nat) : Nat := mfField m n 3 1
/-- OPER of entry `n`. -/
def mfOper (m : List Byte) (n : Nat) : Nat := mfField m n 4 1
/-- MODULE of entry `n`. -/
def mfModule (m : List Byte) (n : Nat) : Nat := mfField m n 5 1
/-- SIZE of entry `n`. -/
def mfSize (m : List Byte) (n : Nat) : Nat := mfField m n 8 4
/-- DIGEST of entry `n`. -/
def mfDigest (m : List Byte) (n : Nat) : List Byte := bytesAt m (0x40 + 80 * n + 0x10) 64
/-- STATE_SIG. -/
def mfStateSig (m : List Byte) : List Byte := bytesAt m 0x10 8

/-- The manifest's digest matches (R228). -/
def mfDigestOk (m : List Byte) : Bool :=
  let n := 0x40 + 80 * mfEntries m
  bytesAt m n 64 == shake256 (bytesAt m 0 n)

/-! ### Shards -/

/-- A shard standing in a slot. -/
def State.shardIn (s : State) (slot no : Nat) : Option (List Byte) := ((s.slot slot).shards.find? fun e => e.1 == no).map (·.2)

/-- The digest of a shard: the last 64 of its bytes. -/
def shDigest (b : List Byte) : List Byte := b.drop (b.length - 64)

/-- The shard's bytes give the digest recorded for it (R235). -/
def shDigestOk (b want : List Byte) : Bool := shake256 (b.take (b.length - 64)) == want

/-- BODY_LEN that R227 gives for a KIND. -/
def bodyLen (kind : Nat) : Nat := if kind = 0 then 82432 else if kind = 1 then 164352 else 8192

/-- A 5-bit weight of a weight field is 31, which is no weight (R227); five bytes hold eight weights. -/
def badWeights : List Byte → Bool
  | a :: b :: c :: d :: e :: rest =>
    (List.range 8).any (fun i => leNat [a, b, c, d, e] / 32 ^ i % 32 == 31) || badWeights rest
  | _ => false

/-- A binary16 that is a NaN or an infinity. -/
def halfOdd (v : Nat) : Bool := v / 1024 % 32 == 31

/-- The body holds a weight of 31, or for a mesh shard a NaN or an infinity (R232). -/
def badBody (kind : Nat) (body : List Byte) : Bool :=
  if kind = 2 then (List.range 4096).any fun i => halfOdd (leAt body (2 * i) 2)
  else if kind = 1 then badWeights (body.take 81920) || badWeights ((body.drop 81920).take 81920)
  else badWeights (body.take 81920)

/-- What a shard programs into its tile, or into the high slice of its pair: weight field and biases. -/
def shardCells (b : List Byte) : Cells :=
  let body := b.drop 64
  if leAt b 6 1 = 1 then ⟨body.take 81920, (body.drop 163840).take 512, []⟩ else ⟨body.take 81920, (body.drop 81920).take 512, []⟩

/-- What a pair's shard programs into the low slice. -/
def shardCellsLow (b : List Byte) : Cells := ⟨((b.drop 64).drop 81920).take 81920, [], []⟩

/-- The matrix of a mesh shard: its body. -/
def shardMatrix (b : List Byte) : List Byte := (b.drop 64).take 8192

/-- A shard with a digest, in a HELD slot: slot and SHARD_NO. -/
def State.findShard (s : State) (digest : List Byte) : Option (Nat × Nat) :=
  ((List.range 8).flatMap fun n =>
    if (s.slot n).st = slHeld then
      ((s.slot n).shards.filter fun e => mfDigest (s.slot n).manifest e.1 == digest).map fun e => (n, e.1)
    else []).head?

end Sys2Proof.Machine
end

