-- ==== Sys2Proof/Machine/Fabric.lean ====
section
/-! DEFINITION. Machine/Fabric.lean: the pitch: routing, buffers, grants, stale tokens (R89, R92, R96 to R100, R113, R122). A grant moves a
header; its body follows by transfers as far as buffers have room, holding the ports it passes (DEDUCED, log 25). -/

namespace Sys2Proof.Machine

/-- The column of a cluster (R89). -/
def cluX (c : Nat) : Nat := c % 8
/-- The row of a cluster in its half (R89). -/
def cluY (c : Nat) : Nat := c % 128 / 8
/-- The cluster at column x and row y of a half (R89). -/
def cluAt (h x y : Nat) : Nat := 128 * h + 8 * y + x

/-- The hub-link router of the quadrant of a cluster (R97, R98). -/
def hubRouter (c : Nat) : Nat := cluAt (halfOfClu c) 0 (4 * (cluY c / 4) + 2)

/-- The router of bridge `b` (0 to 7) in half `h` (R97). -/
def bridgeRouter (h b : Nat) : Nat := cluAt h 7 (2 * b + 1)

/-- The token is bound for the hub (R94, R98). -/
def Token.toHub (t : Token) : Bool := t.kind == 6 || t.dstUnit == 18

/-- The buffer class of a token at a router of half `h` (R99): 2 for RESULT tokens, 1 once it has crossed a bridge, else 0. -/
def Token.cls (t : Token) (h : Nat) : Nat :=
  if t.kind = 6 then 2 else if t.srcUnit ≠ 18 && halfOfClu t.srcClu != h then 1 else 0

/-- The router a token is routed to in half `h`, and the output port it leaves by there (R97, R98). -/
def Token.target (t : Token) (h : Nat) : Nat × Nat :=
  if t.toHub then (hubRouter t.srcClu, 0)
  else if halfOfClu t.dstClu = h then (t.dstClu, if t.dstUnit = 19 then 1 else 4)
  else (bridgeRouter h t.bridge, 1)

/-- The output port a token requests at router `c`: first along x, then along y, then out (R98). -/
def outPort (c : Nat) (t : Token) : Nat :=
  let tgt := t.target (halfOfClu c)
  if cluX tgt.1 < cluX c then 0 else if cluX c < cluX tgt.1 then 1
  else if cluY tgt.1 < cluY c then 2 else if cluY c < cluY tgt.1 then 3
  else tgt.2

/-- Where a token stands after leaving router `c` (R97 to R99). -/
def nextPlace (c : Nat) (t : Token) : Place :=
  let h := halfOfClu c
  let tgt := t.target h
  if tgt.1 = c then
    if t.toHub then .hub
    else if halfOfClu t.dstClu = h then .arrived t.dstClu t.dstUnit
    else .bridge (8 * h + t.bridge)
  else match outPort c t with
    | 0 => .router (c - 1) 1 (t.cls h)
    | 1 => .router (c + 1) 0 (t.cls h)
    | 2 => .router (c - 8) 3 (t.cls h)
    | _ => .router (c + 8) 2 (t.cls h)

/-- The transfers of a token, its header included (R23). -/
def Token.transfers (t : Token) : Nat := t.len + 1

/-- The transfers of a held token at a place: those with its header, or those its body has there. -/
def Held.partAt (h : Held) (p : Place) : Nat :=
  (if h.place = p then h.here else 0) + ((h.trail.filter fun e => e.1 == p).map (·.2)).sum

/-- The transfers standing at a place. -/
def State.transfersAt (s : State) (p : Place) : Nat := (s.fabric.map fun h => h.partAt p).sum

/-- How many transfers a place holds (R99, R113): 4 at a router buffer, 64 KiB at a bridge queue, no limit in the memory of a unit or the
hub. -/
def Place.cap : Place → Option Nat
  | .router _ _ _ => some 4
  | .bridge _ => some 2048
  | .hubLink _ | .entry _ _ | .arrived _ _ | .unit _ _ | .hub => none

/-- Transfers of a held token have still to enter a place: the place is on its way and not the last one its body stretches to. -/
def Held.comingTo (h : Held) (p : Place) : Bool := ((h.place :: h.trail.map (·.1)).dropLast).contains p

/-- The operator that is to consume a token (OPER of R93). -/
def State.operOf (s : State) (t : Token) : Option OperSpec := (s.job t.job).sec.opers.find? fun o => o.oper == t.oper

/-- Unit `u` of cluster `c` has space allotted to the token's operator (R92): the operator's queue there, counted by PART, is not full. A
partial has its open slot (R106), a token of another kind needs none (DEDUCED, log 164). -/
def State.spaceFor (s : State) (c u : Nat) (t : Token) : Bool :=
  !(t.kind == 0 || t.kind == 1 || t.kind == 4) ||
    match s.operOf t with
    | none => true
    | some o => decide ((s.fabric.filter fun h => (h.place == .arrived c u || h.place == .unit c u) && h.tok.job == t.job &&
        h.tok.oper == t.oper && h.tok.part == t.part).length < max 1 o.room)

/-- A place has room for the header of a token (R92, R99, R113): a router buffer that is not full and that no other token is still
entering, a bridge queue whose 64 KiB hold the whole token, a unit with space allotted, any other place. -/
def State.roomAt (s : State) (p : Place) (t : Token) : Bool :=
  match p with
  | .router _ _ _ => decide (s.transfersAt p < 4) && !s.fabric.any fun h => h.comingTo p
  | .bridge _ => decide (s.transfersAt p + t.transfers ≤ 2048)
  | .arrived c u => u == 19 || s.spaceFor c u t
  | .hubLink _ | .entry _ _ | .unit _ _ | .hub => true

/-- The place holds a table of epochs and marks tokens stale: routers, bridge queues and mesh interfaces (R96). -/
def Place.marks : Place → Bool
  | .router _ _ _ => true
  | .bridge _ => true
  | .arrived _ u => u == 19
  | .unit _ u => u == 19
  | .hubLink _ | .entry _ _ | .hub => false

/-- Puts a token at a place; its header arriving with an epoch other than its job's marks it stale (R96). -/
def pitchPut (s : State) (p : Place) (t : Token) : State :=
  s.setFabric (s.fabric ++ [⟨p, t, p.marks && decide (t.epoch ≠ (s.job t.job).epoch), false, s.now, t.transfers, []⟩])

/-- The token whose header stands at the front of a place: no body of an earlier token stands before it. -/
def State.front (s : State) (p : Place) : Option Held :=
  if s.fabric.any fun h => h.trail.any fun e => e.1 == p then none else s.fabric.find? fun h => h.place == p

/-- Removes the first entry equal to a held token. -/
def pitchTake (s : State) (h : Held) : State := s.setFabric (s.fabric.erase h)

/-- The router at which a token from the hub enters the pitch, through its hub-link port (R98). -/
def entryPlace (t : Token) : Place := .router (hubRouter t.dstClu) 0 (t.cls (halfOfClu t.dstClu))

/-- Room at a place for one token beside the transfers of the others. -/
def State.roomBeside (s : State) (h : Held) (p : Place) : Nat :=
  match p.cap with
  | none => h.tok.transfers
  | some n => n - (s.transfersAt p - h.partAt p)

/-- The transfers of a token drawn up behind its header, from the front, as far as each place has room (R99). -/
def spread (s : State) (h : Held) : List Place → Nat → List (Place × Nat)
  | [], _ => []
  | p :: ps, n => if n = 0 then [] else (p, min n (s.roomBeside h p)) :: spread s h ps (n - min n (s.roomBeside h p))

/-- The transfers of a token that have not left a place of its body. -/
def bodyFrom (p : Place) : List (Place × Nat) → Nat
  | [] => 0
  | e :: es => if e.1 = p then e.2 + (es.map (·.2)).sum else bodyFrom p es

/-- Counts the transfers of a token that leave a router (R122). -/
def countSent (s : State) (t : Token) (p : Place) (n : Nat) : State :=
  match p with
  | .router c _ _ => s.wr2 R.RTR_XFER_CNT_COUNT c (outPort c t) (s.rd2 R.RTR_XFER_CNT_COUNT c (outPort c t) + n)
  | .hubLink _ | .entry _ _ | .bridge _ | .arrived _ _ | .unit _ _ | .hub => s

/-- The body of a held token follows its header; the transfers that pass each router are counted. -/
def flowOne (s : State) (h : Held) : State :=
  match spread s h (h.place :: h.trail.map (·.1)) h.tok.transfers with
  | [] => s
  | e :: rest =>
    let s := s.each h.trail fun s x => countSent s h.tok x.1 (bodyFrom x.1 h.trail - bodyFrom x.1 rest)
    s.setFabric (s.fabric.map fun x => if x == h then { h with here := e.2, trail := rest } else x)

/-- Every body follows its header as far as there is room: what one frees another may take. -/
def settle (s : State) : State :=
  s.each (s.fabric.filter fun h => !h.trail.isEmpty) fun s _ => s.each (s.fabric.filter fun h => !h.trail.isEmpty) flowOne

/-- The header of a held token moves on to a place, its body behind it. -/
def pitchMove (s : State) (h : Held) (p : Place) : State :=
  let s := pitchTake s h
  settle (s.setFabric (s.fabric ++
    [⟨p, h.tok, p.marks && decide (h.tok.epoch ≠ (s.job h.tok.job).epoch), false, s.now, 0, (h.place, h.here) :: h.trail⟩]))

/-- Where a token that waits outside the pitch enters it (R97, R98): from the hub at its hub-link router, from a unit by its router's
cluster port unless it stays in the cluster, from a mesh interface or a bridge by the port they are attached to. -/
def Held.door (h : Held) : Place :=
  match h.place with
  | .entry c p =>
    if p = 4 ∧ h.tok.dstClu = c ∧ ¬ h.tok.toHub ∧ h.tok.dstUnit ≠ 19 then .arrived c h.tok.dstUnit
    else .router c p (h.tok.cls (halfOfClu c))
  | .hubLink _ | .router _ _ _ | .bridge _ | .arrived _ _ | .unit _ _ | .hub => entryPlace h.tok

/-- The token waits outside the pitch. -/
def Held.outside (h : Held) : Bool :=
  match h.place with
  | .hubLink _ => true
  | .entry _ _ => true
  | .router _ _ _ | .bridge _ | .arrived _ _ | .unit _ _ | .hub => false

/-- The next of `cands` after place `rr` in round-robin order modulo `n`. -/
def roundRobin (n rr : Nat) (cands : List Nat) : Option Nat :=
  ((List.range n).map fun d => (rr + 1 + d) % n).find? cands.contains

/-- The place an arbiter stands at before its first grant, so that it begins at 0: the routers' 15 buffers have the arbiters 16 to 1,999, the
16 jobs every other. -/
def grantFirst (arb : Nat) : Nat := if 16 ≤ arb ∧ arb < 2000 then 14 else 15

/-- The token waits on a hub link. -/
def Held.onHubLink (h : Held) : Bool := h.place == .hubLink 0 || h.place == .hubLink 1

/-- The tokens that wait for the pitch link a token enters through (R97, R98): on a hub link those for its quadrant. -/
def State.atLink (s : State) (h : Held) : List Held :=
  s.fabric.filter fun x => x.place == h.place && (!h.onHubLink || hubRouter x.tok.dstClu == hubRouter h.tok.dstClu)

/-- The arbiter of the pitch link by which the tokens for the quadrant of cluster `c` leave the hub. -/
def linkArb (c : Nat) : Nat := 2 + 4 * (c / 128) + cluY c / 4

/-- Token `h` enters the pitch next through its link: on a hub link the oldest of the job of highest priority, in round-robin order of job
number among equals, so that a batch being cut yields between two of its tokens (R330); else the oldest. -/
def State.entersNext (s : State) (h : Held) : Bool :=
  let l := s.atLink h
  let prio (x : Held) : Nat := (s.job x.tok.job).hdr.priority
  let top := l.foldl (fun m x => max m (prio x)) 0
  let job := roundRobin 16 (spGet grantFirst s.grantRr (linkArb h.tok.dstClu)) ((l.filter fun x => prio x == top).map fun x => x.tok.job)
  l.find? (fun x => !h.onHubLink || job == some x.tok.job) == some h &&
    !s.fabric.any fun x => (x.trail.any fun e => e.1 == h.place) && (!h.onHubLink || hubRouter x.tok.dstClu == hubRouter h.tok.dstClu)

/-- A token leaves a hub link ahead of the tokens of lower priority that wait there, which are counted (R331). -/
def noteEntry (s : State) (h : Held) : State :=
  if h.onHubLink then
    (s.setGrantRr (spSet grantFirst s.grantRr (linkArb h.tok.dstClu) h.tok.job)).each
      ((s.atLink h).filter fun x => decide ((s.job x.tok.job).hdr.priority < (s.job h.tok.job).hdr.priority)) fun s x =>
        s.bump R.JOB_PREEMPT_CNT_COUNT x.tok.job
  else s

/-- Tokens outside the pitch enter it where their place has room (R98, R99), in the order of their link. -/
def pitchEnter (s : State) : State :=
  (settle s).each (s.fabric.filter Held.outside) fun s h =>
    if s.entersNext h && s.roomAt h.door h.tok then pitchMove (noteEntry s h) h h.door else s

/-- The priority a router gives job `j` (RTR_PRIO, R122). -/
def State.rtrPrio (s : State) (c j : Nat) : Nat := (s.word (R.RTR_PRIO.key c 0)).toNat / 4 ^ j % 4

/-- The headers standing at the front of the input buffers of router `c` that request output port `o`, each with the number
of its buffer: three times the input port plus the class. -/
def State.requests (s : State) (c o : Nat) : List (Nat × Held) :=
  (List.range 15).filterMap fun i =>
    match s.front (.router c (i / 3) (i % 3)) with
    | none => none
    | some h => if !h.stale && outPort c h.tok == o then some (i, h) else none

/-- Marks a held token's header as counted in RTR_WAIT_CNT. -/
def markCounted (s : State) (h : Held) : State :=
  s.setFabric (s.fabric.map fun x => if x == h then { x with counted := true } else x)

/-- Output port `o` of router `c` is held by a token whose last transfer has not passed (R99). -/
def State.portHeld (s : State) (c o : Nat) : Bool :=
  s.fabric.any fun h => h.trail.any fun e => match e.1 with
    | .router x _ _ => x == c && outPort c h.tok == o
    | .hubLink _ | .entry _ _ | .bridge _ | .arrived _ _ | .unit _ _ | .hub => false

/-- Headers that wait for output port `o` of router `c` are counted once each (R122). -/
def countWaits (s : State) (c o : Nat) (l : List (Nat × Held)) : State :=
  let fresh := l.filter fun x => !x.2.counted
  let s := s.wr2 R.RTR_WAIT_CNT_COUNT c o (s.rd2 R.RTR_WAIT_CNT_COUNT c o + fresh.length)
  s.each fresh fun s x => markCounted s x.2

/-- Router `c` grants output port `o`, unless a token holds it (R99, R100): of the headers that have room ahead (DEDUCED, log 165), to the one
whose job has the highest priority, in round-robin order of input ports and classes among equals. Headers left waiting are counted once
each (R122), those of lower priority as passed over (R331). -/
def routerGrant (s : State) (c o : Nat) : State :=
  let reqs := s.requests c o
  let able := if s.portHeld c o then [] else reqs.filter fun e => s.roomAt (nextPlace c e.2.tok) e.2.tok
  let top := able.foldl (fun m e => max m (s.rtrPrio c e.2.tok.job)) 0
  let best := (able.filter fun e => s.rtrPrio c e.2.tok.job == top).map (·.1)
  let arb := 16 + 5 * c + o
  let rr := spGet grantFirst s.grantRr arb
  match ((List.range 15).map fun d => (rr + 1 + d) % 15).find? best.contains with
  | none => countWaits s c o reqs
  | some i =>
    match able.find? (fun e => e.1 == i) with
    | none => s
    | some e =>
      let h := e.2
      let losers := reqs.filter fun x => x.1 != i
      let s := s.setGrantRr (spSet grantFirst s.grantRr arb i)
      let s := countWaits s c o losers
      let s := s.each (losers.filter fun x => s.rtrPrio c x.2.tok.job < top) fun s x =>
        s.bump R.JOB_PREEMPT_CNT_COUNT x.2.tok.job
      pitchEnter (pitchMove s h (nextPlace c h.tok))

/-- A router grants an output port to a waiting header (R100). -/
def execRouterGrant (c : Fin 256) (o : Fin 5) (s : State) : Out := .next (routerGrant s c.val o.val)

/-- The cluster at which a buffer lies (R96): that of the router, of the bridge's router, or of the mesh interface. -/
def Place.cluster : Place → Option Nat
  | .router c _ _ => some c
  | .bridge b => some (bridgeRouter (b / 8) (b % 8))
  | .arrived c _ => some c
  | .unit c _ => some c
  | .entry c _ => some c
  | .hubLink _ | .hub => none

/-- A token is discarded for its epoch and counted in EPOCH_DROP_CNT of the cluster (R96). -/
def dropStale (s : State) (h : Held) : State :=
  let s := pitchTake s h
  match h.place.cluster with
  | some c => s.bump R.EPOCH_DROP_CNT_COUNT c
  | none => s

/-- A stale token whose header stands at the front of its buffer is discarded with all its transfers (R96). -/
def execStaleTokenDiscard (p : Place) (s : State) : Out :=
  .next (
    match s.front p with
    | some h => if h.stale then pitchEnter (dropStale s h) else s
    | none => s)

/-- At an advance of its job's epoch every token held in a buffer with an epoch table is marked stale (R96). -/
def markStale (s : State) (j : Nat) : State :=
  s.setFabric (s.fabric.map fun h => if h.tok.job == j && h.place.marks then { h with stale := true } else h)

/-- A unit of cluster `c` has a token complete in SRAM, to be put on the pitch through its router's cluster port or handed to a unit of
the cluster (R92, R98). -/
def inject (s : State) (c : Nat) (t : Token) : State := pitchPut s (.entry c 4) t

end Sys2Proof.Machine
end

