-- ==== Sys2Proof/Machine/Ingest.lean ====
section
/-! DEFINITION. Machine/Ingest.lean: lines arriving at the receive ports (R255 to R262, R34): short packets, line numbers,
stamps, acceptance for each bound job, drops, and the completion of batches. -/

namespace Sys2Proof.Machine

/-- Receive port `p` takes packets: enabled and not gated (R286, R301). -/
def State.rxOn (s : State) (p : Nat) : Bool := s.on R.RX_CFG_EN p && bitOf (s.word (R.CLK_EN.key 0 0)) p

/-- The stream of virtual channel `v` of port `p` (R256). -/
def streamOf (p v : Nat) : Nat := 4 * p + v

/-- The pixels per line of a stream, held within 1 to 16,384 (R286). -/
def State.width (s : State) (st : Nat) : Nat := max 1 (min 16384 (s.frc R.STREAM_CFG_WIDTH st))

/-- The data type a stream accepts; one outside the table of R257 is taken as RAW8. -/
def State.dtypeOf (s : State) (st : Nat) : Nat :=
  let d := s.frc R.STREAM_CFG_DTYPE st
  if 0x2A ≤ d ∧ d ≤ 0x2E ∨ 0x30 ≤ d ∧ d ≤ 0x36 then d else 0x2A

/-- Line numbers are checked on the stream (LINE_NUM in force). -/
def State.lineNum (s : State) (st : Nat) : Bool := s.frc R.STREAM_CFG_LINE_NUM st != 0

/-- The jobs bound to a stream. -/
def State.boundJobs (s : State) (st : Nat) : List Nat := jobNums.filter fun j => (s.bind j st).bound

/-- The line number after `n`: 1 after 65,535 (R259). -/
def nextLineNo (n : Nat) : Nat := if n = 65535 then 1 else n + 1

/-- A line is counted once as dropped, however many jobs and records it appears in (R286). -/
def countDrops (s : State) (st : Nat) (abss : List Nat) : State :=
  let g := s.ing st
  let fresh := (dedupNat abss).filter fun a => !g.counted.contains a
  let live := g.counted.filter fun a =>
    jobNums.any fun j => (s.bind j st).lines.any (·.abs == a) || s.batches.any fun b => b.stream == st && b.lines.any (·.abs == a)
  (s.bumpBy R.STREAM_DROP_COUNT st fresh.length).putIng st
    { g with counted := live ++ fresh, drops := g.drops + fresh.length }

/-- Groups lines dropped for several jobs: jobs that number the lines alike and share the cause form one group (R262). The
list holds job, cause and line number. -/
def groupDrops (st count : Nat) (first last : Stamp) (at_ : Nat) (l : List (Nat × Nat × Nat)) : List DropRun :=
  ((l.map (·.2)).eraseDups).map fun cn =>
    ⟨st, cn.1, maskOf ((l.filter fun e => e.2 == cn).map (·.1)), cn.2, count, first, last, at_⟩

/-- The lines already received of the batches being collected by `jobs` on stream `st` are reported with `cause`, in one
record for each group of jobs that number them alike (R34, R262), and the batches are emptied. -/
def reportCollected (s : State) (st cause : Nat) (jobs : List Nat) : State :=
  let act := jobs.filter fun j => !(s.bind j st).lines.isEmpty
  let l := act.map fun j =>
    let ls := (s.bind j st).lines
    (j, cause, ((ls.head?.map Line.num).getD 0) * 128 + ls.length)
  let s := countDrops s st ((act.map fun j => (s.bind j st).lines.map Line.abs).flatten)
  let runs := ((l.map (·.2.2)).eraseDups).map fun key =>
    let js := (l.filter fun e => e.2.2 == key).map (·.1)
    let ls := (s.bind (js.headD 0) st).lines
    let a := (ls.head?.map Line.stamp).getD s.stampNow
    let b := (ls.getLast?.map Line.stamp).getD s.stampNow
    DropRun.mk st cause (maskOf js) (key / 128) (key % 128) a b s.now
  let s := s.each act fun s j => s.putBind j st { s.bind j st with lines := [] }
  s.each runs emitDrop

/-- What becomes of one line for one job. -/
inductive LineFate where
  /-- the line joins the batch being collected -/
  | accept
  /-- the line is reported in a drop record with this cause -/
  | drop (cause : Nat)
  /-- the line belongs to a batch lost to a restart (R337) -/
  | miss
  deriving DecidableEq, Repr

/-- The fate of a line numbered `n` of stream `st` for job `j`, `pre` being a cause of R261 that arose before the line was
offered (0: none). The lower of two causes counts (R261); a job behind its fence, or waiting after a restart for a line
whose number is a multiple of 64, takes no line (R334); while a module fault halts dispatch its lines carry HALT like those of every other job
(R261). -/
def lineFate (s : State) (j st n pre : Nat) : LineFate :=
  let b := s.bind j st
  let job := s.job j
  if pre ≠ 0 then .drop pre
  else if (job.fenced || (b.resume && n % 64 != 0)) && !s.halt then .miss
  else if job.waiting then .drop 5
  else if job.holds.grade || (job.holds.bell && (s.nextBatch j).isSome) then .drop 6
  else if b.lostBatch == some (n / 64) then .drop 7
  else if s.halt then .drop 9
  else .accept

/-- The line belongs to a batch that a restart of the job loses (R337): the job is behind its fence, or still waits for a
batch boundary. -/
def lineMissed (s : State) (j st n : Nat) : Bool := (s.job j).fenced || ((s.bind j st).resume && n % 64 != 0)

/-- Enters batch `k` of stream `st` into the missing runs of every active path of job `j`. -/
def missOn (s : State) (j st k : Nat) (first last : Stamp) : State :=
  let job := s.job j
  let cause := (job.restart.map fun r => r.cls + 128 * r.injected.toNat).getD (s.rd R.JOB_FAULT_CLASS j + 128 * s.rd R.JOB_FAULT_INJECTED j)
  s.each (job.activePaths.map PathSpec.path) fun s p => addMiss s j p st cause k first last

/-- Acceptance resumes on a stream at a line whose number is a multiple of 64 (R334): the missing runs close (R337). -/
def resumeAt (s : State) (j st n : Nat) : State :=
  let b := s.bind j st
  if b.resume && n % 64 == 0 && !(s.job j).fenced then
    closeMisses (s.putBind j st { b with resume := false, lostBatch := none }) j st
  else s

/-- A line accepted for job `j` joins its batch; the 64th completes the batch (R34). -/
def acceptLine (s : State) (j st : Nat) (l : Line) : State :=
  let b := s.bind j st
  let ls := b.lines ++ [l]
  if ls.length = 64 then
    let s := s.putBind j st { b with lines := [], next := l.num + 1 }
    refreshWait (s.setBatches (s.batches ++ [⟨j, st, l.num / 64, ls, false, [], [], [], 0, Flags.none, 0, []⟩])) j
  else s.putBind j st { b with lines := ls, next := l.num + 1 }

/-- The first line seen of a batch of stream `st` for job `j`: its stamp is the batch's (R25). -/
def noteFirst (s : State) (j st n : Nat) (stamp : Stamp) : State :=
  let b := s.bind j st
  if b.first.map (·.1) == some (n / 64) then s else s.putBind j st { b with first := some (n / 64, stamp) }

/-- The form in which staging memory holds the pixels of a stream's lines (R257): 16 bits for RAW10 to RAW16 and the user-defined types 0x34 to 0x36,
else 8. -/
def State.wideForm (s : State) (st : Nat) : Bool :=
  let d := s.dtypeOf st
  decide (0x2B ≤ d ∧ d ≤ 0x2E ∨ 0x34 ≤ d)

/-- A line as staging memory holds it (R257): each pixel in one byte, or right-aligned in two, least significant first. -/
def Line.held (l : Line) : List Byte := l.pix.flatMap (leBytes (if l.wide then 2 else 1))

/-- One line reaches the jobs bound to stream `st` (R33, R34, R261): `pre` is a cause that arose before the line was offered
to any job (0: none). -/
def offerLine (s : State) (st : Nat) (stamp : Stamp) (pix : List Nat) (pre : Nat) : State :=
  let g := s.ing st
  let abs := g.abs
  let s := (s.bump R.STREAM_LINES_COUNT st).putIng st { g with abs := abs + 1, last := stamp, lineAt := some s.now }
  let jobs := s.boundJobs st
  let s := s.each jobs fun s j => noteFirst (resumeAt s j st (s.bind j st).next) j st (s.bind j st).next stamp
  let fates := jobs.map fun j => (j, (s.bind j st).next, lineFate s j st (s.bind j st).next pre)
  let dropped := fates.filterMap fun e => match e.2.2 with | .drop c => some (e.1, c, e.2.1) | .accept => none | .miss => none
  let s := reportCollected s st 7 (dropped.map (·.1))
  let s := if dropped.isEmpty then s else countDrops s st [abs]
  let s := lineDrops s st (groupDrops st 1 stamp stamp s.now dropped)
  s.each fates fun s e =>
    let j := e.1
    let n := e.2.1
    match e.2.2 with
    | .accept => acceptLine s j st ⟨n, abs, stamp, pix, s.wideForm st⟩
    | .miss => missOn (s.putBind j st { s.bind j st with next := n + 1 }) j st (n / 64) stamp stamp
    | .drop _ =>
      let s := s.putBind j st { s.bind j st with next := n + 1, lostBatch := some (n / 64) }
      if lineMissed s j st n then missOn s j st (n / 64) stamp stamp else s

/-- `k` lines of stream `st` are shown missing by the line numbers (R259): they take their places in the line count of the
stream and of every bound job, and are reported with cause LOST. -/
def lostLines (s : State) (st k : Nat) (first last : Stamp) : State :=
  let g := s.ing st
  let abss := (List.range k).map (g.abs + ·)
  let s := (s.bumpBy R.STREAM_LINES_COUNT st k).putIng st { g with abs := g.abs + k }
  let jobs := s.boundJobs st
  let s := reportCollected s st 7 jobs
  let s := if jobs.isEmpty then s else countDrops s st abss
  let s := lineDrops s st (groupDrops st k first last s.now (jobs.map fun j => (j, 3, (s.bind j st).next)))
  s.each jobs fun s j =>
    let b := s.bind j st
    let n := b.next + k
    let s := s.putBind j st { b with next := n, lostBatch := if n % 64 = 0 then none else some (n / 64) }
    let s := noteFirst s j st (n - 1) first
    if lineMissed s j st (n - 1) then
      s.each ((List.range ((n - 1) / 64 - b.next / 64 + 1)).map (b.next / 64 + ·)) fun s q => missOn s j st q first last
    else s

/-- A line whose Line Start found no long packet is lost (R259). -/
def losePending (s : State) (st : Nat) : State :=
  match (s.ing st).pendingLine with
  | none => s
  | some stamp =>
    let s := s.putIng st { s.ing st with pendingLine := none }
    let s := lostLines s st 1 stamp stamp
    s.putIng st { s.ing st with last := stamp }

/-- The header of a packet on a receive port (R255): a corrected one is counted, any other error discards the packet. -/
def headerCheck (s : State) (p : Nat) (h : HdrCheck) : State × Bool :=
  let s := s.setRxAt (spSet (fun _ => none) s.rxAt p (some s.now))
  match h with
  | .good => (s, true)
  | .corrected => (s.bump R.RX_STAT_ECC_CE p, true)
  | .bad => (s.raiseRx R.RX_EVT_ECC_UE p, false)

/-- What a packet's header leads to: a stream, or nothing. Channels 4 to 14 set VC_UNUSED (R256). -/
def streamOfPacket (s : State) (p vc : Nat) (h : HdrCheck) : State × Option Nat :=
  if !s.rxOn p then (s, none) else
  match headerCheck s p h with
  | (s, false) => (s, none)
  | (s, true) =>
    if vc < 4 then (s, some (streamOf p vc))
    else if vc < 15 then (s.raiseRx R.RX_EVT_VC_UNUSED p, none)
    else (s, none)

/-- The arm set for a port (R272). -/
def State.armFor (s : State) (p : Nat) : Option Nat := (List.range 4).find? fun k => (s.arm k).set && (s.arm k).port == p

/-- The bulk outcome record of a frame on arm `k` (R274): RESULT, staging address, bytes received and SHARD_NO. -/
def bulkOutcome (s : State) (k result addr got shard : Nat) : State :=
  let a := s.arm k
  let body := leBytes 1 k ++ leBytes 1 a.purpose ++ leBytes 1 result ++ leBytes 1 a.port ++ leBytes 4 addr ++ leBytes 4 got ++
    leBytes 2 shard ++ leBytes 2 0 ++ leBytes 8 s.tb.toNat
  emitStatus s s.recPort.1 s.recPort.2 2 body

/-- The comparison of a Line Start's number with the expected one (R259): skipped numbers are lost lines, a smaller number is
irregular. -/
def lineNumber (s : State) (p st n : Nat) (stamp : Stamp) : State :=
  match (s.ing st).expected with
  | none => s
  | some e =>
    if e < n then lostLines s st (n - e) (s.ing st).last stamp
    else if n < e then s.raiseRx R.RX_EVT_LNUM_ERR p
    else s

/-- A Line Start on a stream with LINE_NUM set (R258, R259): the stamp is latched at its phase of the timebase clock (R275) and the number
compared; on other streams it is ignored. -/
def execLineStart (p : Fin 12) (vc : Fin 16) (h : Header) (n : Fin 65536) (s : State) : Out :=
  .next (
    match streamOfPacket s p.val vc.val h.check with
    | (s, some st) =>
      if s.frc R.STREAM_CFG_EN st = 0 || !s.lineNum st then s else
      let s := losePending s st
      let s := lineNumber s p.val st n.val (s.stampAt h.phase.val)
      s.putIng st { s.ing st with expected := some (nextLineNo n.val), pendingLine := some (s.stampAt h.phase.val) }
    | (s, none) => s)

/-- The stamp of a line at its long packet (R258): the one latched at its Line Start, or that of the phase at which its own header is received; a
packet without a Line Start of its own counts as the line numbered e (R259). -/
def lineStamp (s : State) (st phase : Nat) : State × Stamp :=
  let g := s.ing st
  if s.lineNum st then
    match g.pendingLine with
    | some stamp => (s.putIng st { g with pendingLine := none }, stamp)
    | none => (s.putIng st { g with expected := g.expected.map nextLineNo }, s.stampAt phase)
  else (s, s.stampAt phase)

/-- A receive port takes an initial or periodic skew calibration sequence, and DESKEWED is set (R255, R286). -/
def execRxSkewCalibration (p : Fin 12) (s : State) : Out :=
  .next (if s.rxOn p.val && !s.on R.RX_STAT_ULPS p.val then s.wr R.RX_STAT_DESKEWED p.val 1 else s)

/-- A receive port enters or leaves the ultra-low-power state on the transmitter's request (R255); on entry the skew
calibration no longer counts as made since the stop state (log 22). -/
def execRxUlpsRequest (p : Fin 12) (enter : Bool) (s : State) : Out :=
  .next (
    if s.rxOn p.val then
      let s := s.wrB R.RX_STAT_ULPS p.val enter
      if enter then s.wr R.RX_STAT_DESKEWED p.val 0 else s
    else s)

end Sys2Proof.Machine
end

