-- ==== Sys2Proof/Machine/HubDispatch.lean ====
section
/-! DEFINITION. Machine/HubDispatch.lean: the hub cuts batches into INPUT tokens (R104, R39, R48, R330). -/

namespace Sys2Proof.Machine

/-- The INPUT tokens a batch of stream `st` is cut into: those of the job's active paths, in ascending order of SEG (R104, R38). -/
def Job.inputs (job : Job) (st : Nat) : List InputSpec :=
  let paths := job.activePaths.map PathSpec.path
  sortBy (fun a b => decide (a.seg ≤ b.seg)) (job.sec.inputs.filter fun i => paths.contains i.path && i.stream == st)

/-- Cutting of a batch begins (R39, R48, R93, R95): its paths, generation, epoch and flags are fixed. -/
def startBatch (s : State) (b : Batch) : State × Batch :=
  let job := s.job b.job
  let bind := s.bind b.job b.stream
  let flags : Flags := { Flags.none with noBaseline := decide (0 < bind.nbDisp), restart := job.restartDue.contains b.stream }
  let b' := { b with
    started := true, todo := job.inputs b.stream, paths := job.activePaths.map PathSpec.path,
    gen := s.rd R.WSET_JOB_GEN b.job, flags := flags, epoch := job.epoch, subst := job.substOn }
  let s := s.putBind b.job b.stream { bind with nbDisp := bind.nbDisp - 1 }
  (s.putJob b.job { job with restartDue := job.restartDue.filter (· != b.stream) }, b')

/-- The INPUT token of a batch for one segment (R38, R93, R98). -/
def inputToken (b : Batch) (tag : Nat) (i : InputSpec) : Token :=
  { stamp := (b.lines.head?.map Line.stamp).getD ⟨0, 0⟩, tag := tag, job := b.job, gen := b.gen, flags := b.flags,
    path := i.path, stream := b.stream, bseq := b.k % 256, kind := 0, dstClu := i.clu, dstUnit := 17, srcClu := 255,
    srcUnit := 18, part := 0, npart := 0, len := i.len, epoch := b.epoch, oper := i.oper, seg := i.seg, bridge := 0,
    payload := (b.lines.map fun l => ((l.pix.drop i.firstPix).take i.pixCount).map Int.ofNat).flatten }

/-- Replaces a batch in the list of batches. -/
def putBatch (s : State) (b : Batch) : State :=
  s.setBatches (s.batches.map fun x => if x.job == b.job && x.stream == b.stream && x.k == b.k then b else x)

/-- Cuts the tokens of a batch for the hub link of half `h`, in ascending order of SEG, while a tag is free (R104). -/
def cutTokens (s : State) (h : Nat) (b : Batch) : List InputSpec → State × Batch
  | [] => (s, b)
  | i :: rest =>
    if halfOfClu i.clu = h then
      if s.freeTags b.job = 0 then (s, b)
      else
        let r := takeTag s b.job
        let b := { b with tags := b.tags ++ [r.1], todo := b.todo.filter (· != i) }
        cutTokens (pitchEnter (pitchPut r.2 (.hubLink h) (inputToken b r.1 i))) h b rest
    else cutTokens s h b rest

/-- Job `j` has a token to cut for the hub link of half `h`. -/
def State.hasWork (s : State) (h j : Nat) : Bool :=
  s.dispatchOpen j && match s.nextBatch j with
    | none => false
    | some b =>
      !s.blocked j b && (b.started || !(s.job j).bellDue) &&
        (if b.started then b.todo else (s.job j).inputs b.stream).any fun i => halfOfClu i.clu == h

/-- The hub link of half `h` takes the next batch (R104, R330): of the jobs with a token for it, the one of highest priority,
in round-robin order of job number among equals; its oldest batch is cut as far as its tags reach, its tokens yielding on the link to those of
a job of higher priority (`State.entersNext`). The waiting tokens of lower
priority passed over are counted (R331). -/
def dispatch (s : State) (h : Nat) : State :=
  let cands := jobNums.filter (s.hasWork h)
  let top := cands.foldl (fun m j => max m (s.job j).hdr.priority) 0
  let best := cands.filter fun j => (s.job j).hdr.priority == top
  match roundRobin 16 (spGet grantFirst s.grantRr h) best with
  | none => s.each jobNums refreshWait
  | some j =>
    let s := s.setGrantRr (spSet grantFirst s.grantRr h j)
    let s := s.each (cands.filter fun q => (s.job q).hdr.priority < top) fun s q => s.bump R.JOB_PREEMPT_CNT_COUNT q
    match s.nextBatch j with
    | none => s
    | some b =>
      let (s, b) := if b.started then (s, b) else startBatch s b
      let r := cutTokens s h b b.todo
      (putBatch r.1 r.2).each jobNums refreshWait

/-- The hub cuts the next complete batch into INPUT tokens for the hub link of one half (R104). -/
def execDispatch (half : Fin 2) (s : State) : Out := .next (dispatch s half.val)

end Sys2Proof.Machine
end

