-- ==== Sys2Proof/Machine/Fault.lean ====
section
/-! DEFINITION. Machine/Fault.lean: the detection of a job fault and the fence of the hub (R332, R334, R337). -/

namespace Sys2Proof.Machine

/-- The fault classes of R332. -/
abbrev fcXlate : Nat := 0x01
/-- Class SRAM_UE of R332. -/
abbrev fcSramUe : Nat := 0x02
/-- Class LINK of R332. -/
abbrev fcLink : Nat := 0x03
/-- Class TOKEN of R332. -/
abbrev fcToken : Nat := 0x04
/-- Class TILE of R332. -/
abbrev fcTile : Nat := 0x05
/-- Class MESH of R332. -/
abbrev fcMesh : Nat := 0x06
/-- Class BRIDGE of R332. -/
abbrev fcBridge : Nat := 0x07
/-- Class SPLIT of R332. -/
abbrev fcSplit : Nat := 0x08
/-- Class HALF of R332. -/
abbrev fcHalf : Nat := 0x09
/-- Class STALL of R332. -/
abbrev fcStall : Nat := 0x0A
/-- Class PEER of R332. -/
abbrev fcPeer : Nat := 0x0B
/-- Class UNIT of R332. -/
abbrev fcUnit : Nat := 0x0C

/-- A fault as it is detected: its class, whether injected, the kind and index of the unit (R342), and its remedy (DEDUCED, log 94). -/
structure FaultInfo where
  cls : Nat
  injected : Bool
  kind : Nat
  unit : Nat
  remedy : Remedy
  deriving DecidableEq, Repr

/-- The tiles that hold a shard of a job: the tile that serves, that of the old generation, and the due tile of a spare copy;
both tiles of each pair. -/
def Placed.tiles (p : Placed) : List Nat :=
  ((p.tile :: (p.old.toList ++ p.home.toList)).map fun t => if p.pair then [t, t + 1] else [t]).flatten

/-- The tiles a job holds. -/
def Job.tiles (job : Job) : List Nat := (job.placed.map Placed.tiles).flatten

/-- The clusters a job uses: those of its tiles and of its operators. -/
def Job.clusters (job : Job) : List Nat := dedupNat (job.tiles.map (· / 16) ++ job.sec.opers.map OperSpec.clu)

/-- The job is placed in half `h`: a tile, an operator or a chiplet of it lies there. -/
def Job.inHalf (job : Job) (h : Nat) : Bool :=
  job.clusters.any (fun c => halfOfClu c == h) || job.chips.any fun e => halfOfChip e.1 == h

/-- The job spans both halves. -/
def Job.spans (job : Job) : Bool := job.inHalf 0 && job.inHalf 1

/-- The jobs placed in half `h`. -/
def State.jobsInHalf (s : State) (h : Nat) : List Nat := jobNums.filter fun j => (s.job j).admitted && (s.job j).inHalf h

/-- The jobs holding tile `t`. -/
def State.jobsOnTile (s : State) (t : Nat) : List Nat := jobNums.filter fun j => (s.job j).tiles.contains t

/-- The hub's fence on one stream of job `j` (R334): the batch being collected is discarded into the missing run, and the
stream waits for a line whose number is a multiple of 64. The batch carries the stamp of the first of its lines seen (R25). -/
def fenceStream (s : State) (j st : Nat) : State :=
  let b := s.bind j st
  let s :=
    if b.bound && b.next % 64 != 0 && !b.resume then
      let first := (b.first.filter fun f => f.1 == b.next / 64).map (·.2)
      missOn s j st (b.next / 64) (first.getD s.stampNow) (if first.isSome then (s.ing st).last else s.stampNow)
    else s
  if b.bound then s.putBind j st { b with lines := [], lostBatch := none, resume := true } else s

/-- The fence of job `j` (R334, R337): its dispatch halts, its lines are no longer accepted, the batches being collected and
the complete batches not yet dispatched are discarded into missing runs. -/
def fence (s : State) (j : Nat) : State :=
  let s := s.putJob j { s.job j with fenced := true }
  let s := s.each streamNums fun s st => fenceStream s j st
  let gone := s.batches.filter fun b => b.job == j && !b.started
  let s := s.each gone fun s b =>
    missOn s j b.stream b.k ((b.lines.head?.map Line.stamp).getD s.stampNow) ((b.lines.getLast?.map Line.stamp).getD s.stampNow)
  refreshWait (s.setBatches (s.batches.filter fun b => !(b.job == j && !b.started))) j

/-- JOB_FAULT_j and JOB_FTIME_j name a fault (R334, R342). -/
def recordFault (s : State) (j cls kind unit : Nat) (injected : Bool) (time : DWord) : State :=
  let s := ((s.wr R.JOB_FAULT_CLASS j cls).wrB R.JOB_FAULT_INJECTED j injected).wr R.JOB_FAULT_UNIT_KIND j kind
  let s := s.wr R.JOB_FAULT_UNIT j unit
  (s.wr R.JOB_FTIME_LO_TIME_LO j time.toNat).wr R.JOB_FTIME_HI_TIME_HI j (time.toNat / 2 ^ 32)

/-- A fault strikes job `j` (R332, R334, R338): a job WARMING or RUNNING is fenced at once and its restart awaits firmware; a
fault of a job already fenced or RESTARTING is absorbed, its remedy joining the restart in progress, and is the last fault that
JOB_FAULT_j names (R342). Every fault is counted (R342). A job that does not run is left as it is. -/
def detectFault (s : State) (j : Nat) (f : FaultInfo) : State :=
  let job := s.job j
  if !job.started then s else
  let s := s.wr R.JOB_RST_CNT_FAULTS j (s.rd R.JOB_RST_CNT_FAULTS j + 1)
  match job.restart with
  | some r =>
    let s := s.putJob j { job with restart := some { r with remedies := r.remedies ++ [f.remedy] } }
    recordFault s j f.cls f.kind f.unit f.injected s.tb
  | none =>
    if job.st = .restarting then s else
    let r : Restart := ⟨f.cls, f.injected, f.kind, f.unit, s.tb, s.now, false, false, [f.remedy], false⟩
    fence (s.putJob j { job with restart := some r }) j

/-- A fault strikes each of several jobs (R332). -/
def faultAll (s : State) (js : List Nat) (f : FaultInfo) : State := s.each js fun s j => detectFault s j f

end Sys2Proof.Machine
end

