-- ==== Sys2Proof/Machine/TileMath.lean ====
section
/-! DEFINITION. Machine/TileMath.lean: the digital arithmetic about a tile: correction tables (R224), drift age (R199), live
gain (R198), the residual estimates (R208), and the withdrawal of a tile (R212). -/

namespace Sys2Proof.Machine

/-- Tile `t` beside its registers. -/
def State.tile (s : State) (t : Nat) : TileRec := spGet (fun _ => TileRec.reset) s.tiles t

/-- Replaces tile `t`. -/
def State.putTile (s : State) (t : Nat) (v : TileRec) : State := s.setTiles (spSet (fun _ => TileRec.reset) s.tiles t v)

/-- What is programmed into tile `t`. -/
def State.cellsOf (s : State) (t : Nat) : Cells := spGet (fun _ => Cells.none) s.cells t

/-- Programs tile `t`. -/
def State.putCells (s : State) (t : Nat) (v : Cells) : State := s.setCells (spSet (fun _ => Cells.none) s.cells t v)

/-- The occupancy record of tile `t`. -/
def State.occOf (s : State) (t : Nat) : Occ := spGet (fun _ => Occ.none) s.occ t

/-- Replaces the occupancy record of tile `t`. -/
def State.putOcc (s : State) (t : Nat) (v : Occ) : State := s.setOcc (spSet (fun _ => Occ.none) s.occ t v)

/-- The module quadrant of a tile, 0 to 7 (R83). -/
def quadOf (t : Nat) : Nat := t / 512

/-! ### Correction tables -/

/-- Entry `i` of a correction table at power-up: unit gain and zero offset, RGAIN 0x4000 (R224). -/
def tcalReset (k : Nat) : Word :=
  let i := k % 512
  if i < 272 || i == 272 || i == 274 then 0x4000_0000 else 0

/-- The key of entry `i` of a bank of tile `t`. -/
def tcalKey (t bank i : Nat) : Nat := 1024 * t + 512 * bank + i

/-- Entry `i` of a bank of tile `t` (R224). -/
def State.tcalAt (s : State) (t bank i : Nat) : Word := spGet tcalReset s.tcal (tcalKey t bank i)

/-- Writes entry `i` of a bank of tile `t`. -/
def State.putTcal (s : State) (t bank i : Nat) (w : Word) : State := s.setTcal (spSet tcalReset s.tcal (tcalKey t bank i) w)

/-- The bank of tile `t` in service. -/
def State.bankOf (s : State) (t : Nat) : Nat := s.rd R.TCAL_STAT_BANK t

/-- OFF of logical column `c`, in units of 1/256 count (R224). -/
def State.tcalOff (s : State) (t c : Nat) : Int := toSigned 16 (fieldOf 0 16 (s.tcalAt t (s.bankOf t) c))

/-- GAIN of logical column `c`, in units of 2⁻¹⁴ (R224). -/
def State.tcalGain (s : State) (t c : Nat) : Nat := fieldOf 16 16 (s.tcalAt t (s.bankOf t) c)

/-- RGAIN of reference ADC `a` (R224). -/
def State.rGain (s : State) (t a : Nat) : Nat := fieldOf 16 16 (s.tcalAt t (s.bankOf t) (272 + 2 * a))

/-- ROFF of reference ADC `a` (R224). -/
def State.rOff (s : State) (t a : Nat) : Int := toSigned 16 (fieldOf 16 16 (s.tcalAt t (s.bankOf t) (273 + 2 * a)))

/-! ### Real functions on rationals -/

/-- The nearest integer to a rational, halves upward (DESIGN CHOICE, log 78). -/
def ratRound (x : Rat) : Int := (x + 1 / 2).floor

/-- The nearest integer to the square root of a rational that is not negative. -/
def ratSqrtRound (x : Rat) : Nat :=
  let n := Nat.sqrt x.floor.toNat
  if (n * n + n : Rat) < x then n + 1 else n

/-- Clamps a rational between two limits. -/
def ratClamp (lo hi x : Rat) : Rat := if x < lo then lo else if hi < x then hi else x

/-- The sum of z^(2i+1) ÷ (2i+1) for i below n. -/
def artanhSum (z : Rat) : Nat → Rat
  | 0 => 0
  | n + 1 => artanhSum z n + z ^ (2 * n + 1) / (2 * n + 1)

/-- Brings a positive rational between 1/2 and 3/2 by halving and doubling; the second part is the power of two taken out. -/
def ratReduce (x : Rat) (k : Int) : Nat → Rat × Int
  | 0 => (x, k)
  | fuel + 1 => if 3 / 2 < x then ratReduce (x / 2) (k + 1) fuel else if x < 3 / 4 then ratReduce (2 * x) (k - 1) fuel else (x, k)

/-- The natural logarithm of a positive rational to far within the units of any register that shows one. -/
def ratLn (x : Rat) : Rat :=
  let r := ratReduce x 0 64
  let z := (r.1 - 1) / (r.1 + 1)
  2 * artanhSum z 16 + r.2 * (69314718055994530941723212 / 100000000000000000000000000)

/-! ### Drift age, live gain and estimates -/

/-- The mean temperature Tq of the quadrant of tile `t` in °C (R222). -/
def State.quadTemp (s : State) (q : Nat) : Rat := (s.rdInt R.QCAL_TEMP_MEAN q : Rat) / 16

/-- PROG_REF of tile `t` (R223). -/
def State.progRef (s : State) (t : Nat) : Rat := (s.rd R.TCAL_PROG_PROG_REF t : Rat) / 16384

/-- g25 of R199: g_filt referred to 25 °C. -/
def State.g25 (s : State) (t : Nat) : Rat := (s.tile t).gFilt / (1 + 28 / 10000 * (s.quadTemp (quadOf t) - 25))

/-- The drift age of R199, not below zero; a ratio that is not positive has no logarithm and reads zero. -/
def State.driftLn (s : State) (t : Nat) : Rat :=
  let r := s.g25 t / s.progRef t
  if r ≤ 0 then 0 else
  let l := -(ratLn r) * 25
  if l < 0 then 0 else l

/-- LIVE_GAIN of R198 as a rational, before its clamp: 1 exactly without drift compensation. -/
def State.liveWanted (s : State) (t : Nat) : Rat :=
  if s.on R.CAL_CFG_DRIFT_COMP 0 then (if (s.tile t).gFilt = 0 then 0 else s.progRef t / (s.tile t).gFilt) else 1

/-- The update of g_filt by the chalk sums of the previous batch (R198): the ratios of chalk columns 0, 1, 3, 5 and 7 weighted,
filtered with a time constant of 10 s; sums below 4,096 counts leave it. -/
def chalkUpdate (s : State) (t : Nat) : State :=
  let r := s.tile t
  let e (c : Nat) : Rat := ((r.chalkE[c]?).getD 0 : Rat) / 960
  let m (c : Nat) : Rat := ((r.chalkM[c]?).getD 0 : Rat) / 4194304
  let total := (([0, 1, 3, 5, 7].map fun c => ((r.chalkE[c]?).getD 0).natAbs).sum : Rat) / 960
  let ratio (c : Nat) : Rat := if e c = 0 then 1 else m c / e c
  let r' :=
    if 4096 ≤ total then
      let g := (15 * ratio 0 + 15 * ratio 1 + ratio 3 + 8 * ratio 5 + 8 * ratio 7) / 47
      let dt := ((s.now - r.gAt : Nat) : Rat) / (10000 * msec)
      let a := if 1 < dt then 1 else dt
      { r with gFilt := r.gFilt + a * (g - r.gFilt), gAt := s.now }
    else r
  s.putTile t { r' with chalkM := [], chalkE := [] }

/-- THRESH in units of 0.01 % (R213). -/
def State.thresh (s : State) : Nat := s.rd R.CAL_THRESH_THRESH 0

/-- A square in the sums of R208. -/
def sq (x : Rat) : Rat := x * x

/-- The square of the settled estimate of R208, in % squared. -/
def State.settledSq (s : State) (t : Nat) : Rat :=
  let l := s.driftLn t
  let tc := s.quadTemp (quadOf t) - 25
  let prog := (s.rd R.TCAL_PROG_PROG_ERR t : Rat) / 100
  let noise := (s.rd R.TCAL_EST_NOISE t : Rat) / 256
  let base := sq (2 / 100) + sq (8 / 100) + sq prog + sq (2784 / 10000 * noise) + sq (10 / 100) +
    sq (428 / 100000 * tc) + sq (489 / 10000 * l) + sq (56 / 1000 * l)
  if s.on R.CAL_CFG_DRIFT_COMP 0 then base else base + sq (611 / 100 * (1 - s.g25 t / s.progRef t))

/-- BUILT_TEMP of the bank in service in °C (R224). -/
def State.builtTemp (s : State) (t : Nat) : Rat := (toSigned 16 (fieldOf 0 16 (s.tcalAt t (s.bankOf t) 280)) : Rat) / 16

/-- The square of EST of R208, in % squared. -/
def State.estSq (s : State) (t : Nat) : Rat :=
  let dt := s.quadTemp (quadOf t) - s.builtTemp t
  s.settledSq t + sq (171 / 10000 * dt) + sq (331 / 10000 * dt)

/-- The tiles of quadrant `q`. -/
def tilesOf (q : Nat) : List Nat := (List.range 512).map (512 * q + ·)

/-- QCAL_MAXEST of the quadrant (R208): the largest EST and the lowest-numbered tile that has it. -/
def showMaxEst (s : State) (q : Nat) : State :=
  let best := (tilesOf q).foldl (fun (m : Nat × Nat) t =>
    if m.1 < s.rd R.TCAL_EST_EST t then (s.rd R.TCAL_EST_EST t, t) else m) (0, 512 * q)
  (s.wr R.QCAL_MAXEST_EST q best.1).wr R.QCAL_MAXEST_TILE q (best.2 % 512)

/-- A tile in service or due is STALE once its settled estimate reaches THRESH (R203): it is then due at once (R209), and its job has
not moved to a copy. -/
def staleCheck (s : State) (t : Nat) : State :=
  let v := s.rd R.TCAL_STAT_SVC t
  if (v == 2 || v == 3 || v == 5) && decide (sq ((s.thresh : Rat) / 100) ≤ (s.tile t).settled2) then s.wr R.TCAL_STAT_STALE t 1 else s

/-- Firmware computes both estimates of tile `t` (R208), and DRIFT_LN (R199); the settled one may make it STALE (R203). -/
def estimate (s : State) (t : Nat) : State :=
  let s := s.wrSat R.DRIFT_LN_LN t (ratRound (256 * s.driftLn t)).toNat
  let s := s.putTile t { s.tile t with settled2 := s.settledSq t }
  staleCheck (showMaxEst (s.wrSat R.TCAL_EST_EST t (ratSqrtRound (10000 * s.estSq t))) (quadOf t)) t

/-! ### Withdrawal -/

/-- The service states of a tile (SVC of R223). -/
abbrev svcFree : Nat := 0
/-- Reserve. -/
abbrev svcReserve : Nat := 1
/-- In service. -/
abbrev svcService : Nat := 2
/-- Homework due. -/
abbrev svcDue : Nat := 3
/-- Under homework. -/
abbrev svcHomework : Nat := 4
/-- Serving as spare copy. -/
abbrev svcCopy : Nat := 5
/-- Withdrawn. -/
abbrev svcWithdrawn : Nat := 6

/-- The jobs whose products tile `t` serves: it is the tile of a placement that is not on the vector-unit path. A due tile whose job
has moved to a spare copy serves none. -/
def State.jobsServedBy (s : State) (t : Nat) : List Nat :=
  jobNums.filter fun j => (s.job j).placed.any fun p =>
    !p.vec && (p.tile :: p.old.toList).any fun u => u == t || (p.pair && u + 1 == t)

/-- Withdraws tile `t` (R212): it is counted and never used again; the jobs it serves are recovered as a TILE fault. -/
def withdraw (s : State) (t why : Nat) : State :=
  if s.rd R.TCAL_STAT_SVC t = svcWithdrawn then s else
  let s := ((s.wr R.TCAL_STAT_SVC t svcWithdrawn).wr R.TCAL_STAT_WHY t why).bump R.HW_STAT_WITHDRAWN 0
  faultAll (s.raise R.CAL_EVT_WITHDRAW 0) (s.jobsServedBy t) ⟨fcTile, false, 1, t, .tile t⟩

/-- LIVE_GAIN of R198 as a rational, within its clamp. -/
def State.liveClamped (s : State) (t : Nat) : Rat := ratClamp (1 / 2) (399 / 100) (s.liveWanted t)

/-- LIVE_GAIN of tile `t` is latched (R197, R198). -/
def latchGain (s : State) (t : Nat) : State := s.wr R.LIVE_GAIN_GAIN t (ratRound (16384 * s.liveClamped t)).toNat

/-- LIVE_GAIN at a batch boundary of tile `t` (R197, R198): updated and latched; the tile whose clamp bites leaves service. -/
def liveGainUpdate (s : State) (t : Nat) : State :=
  let s := chalkUpdate s t
  if s.liveClamped t = s.liveWanted t then latchGain s t else withdraw (latchGain s t) t 7

end Sys2Proof.Machine
end

