-- ==== Sys2Proof/Machine/Tokens.lean ====
section
/-! DEFINITION. Machine/Tokens.lean: what units share: taking the next waiting token by priority (R330), the generations a unit
has routes for (R246, R250), receiving a token (R94, R96, R101), and sending output tokens along an operator's routes. -/

namespace Sys2Proof.Machine


/-- The number of the round-robin arbiter of a unit of a cluster. -/
def unitArb (clu unit : Nat) : Nat := 2000 + 32 * clu + unit

/-- The token a unit starts next among those that satisfy a condition (R330): of the job with the highest priority, in round-robin order of job number among equals,
its oldest. The tokens of lower priority passed over are counted (R331). -/
def takeNext (s : State) (clu unit : Nat) (ok : Held → Bool) : State × Option Held :=
  let l := s.fabric.filter ok
  let prio (h : Held) : Nat := (s.job h.tok.job).hdr.priority
  let top := l.foldl (fun m h => max m (prio h)) 0
  let best := (l.filter fun h => prio h == top).map fun h => h.tok.job
  match roundRobin 16 (spGet grantFirst s.grantRr (unitArb clu unit)) best with
  | none => (s, none)
  | some j =>
    match l.find? fun h => h.tok.job == j with
    | none => (s, none)
    | some h =>
      let s := s.setGrantRr (spSet grantFirst s.grantRr (unitArb clu unit) j)
      let s := s.each (l.filter fun x => prio x < top) fun s x => s.bump R.JOB_PREEMPT_CNT_COUNT x.tok.job
      (pitchTake s h, some h)

/-- The generations of job `j` for which units hold route tables (R244, R246, R249): that in service, the staged one from READY
on, the old one while it drains. -/
def State.liveGens (s : State) (j : Nat) : List Nat :=
  let g := s.rd R.WSET_JOB_GEN j
  match s.rd R.WSET_JOB_STAGE j with
  | 2 => [g, (g + 1) % 16]
  | 3 => [g, (g + 15) % 16]
  | _ => [g]

/-- The batch of a token, as a tile tells batches apart (R204). -/
def Token.batchKey (t : Token) : Nat := (t.job * 48 + t.stream) * 256 + t.bseq

/-- The batch in flight a token belongs to: BSEQ is extended by the batches dispatched (R110). -/
def State.batchOf (s : State) (t : Token) : Option Batch :=
  s.batches.find? fun b => b.job == t.job && b.stream == t.stream && b.started && b.k % 256 == t.bseq

/-- The keys of a tile's settings of R76 and R66: TILE_CFG, SPARE_MAP_n, COL_USE_k. -/
def tileKeys (t : Nat) : List Nat :=
  R.TILE_CFG.key t 0 :: ((List.range 16).map (R.SPARE_MAP.key t) ++ (List.range 8).map (R.COL_USE.key t))

/-- The tile whose settings are in force forms a pair with its neighbour (R77): the even tile is the high slice, the odd the
low. -/
def State.pairFormed (s : State) (t : Nat) : Bool :=
  let e := t - t % 2
  s.frc R.TILE_CFG_SLICE e == 1 && s.frc R.TILE_CFG_SLICE (e + 1) == 2

/-- The slice settings of the even–odd pair of tile `t` are inconsistent (R78): one is set and they form no pair. -/
def State.pairBad (s : State) (t : Nat) : Bool :=
  let e := t - t % 2
  let set (x : Nat) : Bool := s.frc R.TILE_CFG_SLICE x == 1 || s.frc R.TILE_CFG_SLICE x == 2
  (set e || set (e + 1)) && !s.pairFormed t

/-- The first token of a batch not yet begun arrives at tile `t`: the settings written so far are those its first product
brings into force (R76). -/
def tileSnap (s : State) (t key : Nat) : State :=
  let r := s.tile t
  if r.snaps.any (fun e => e.1 == key) || r.begun.any (fun e => e.key == key) || r.cur == some key then s
  else s.putTile t { r with snaps := r.snaps ++ [(key, (tileKeys t).map s.word)] }

/-- The unit a token received at unit `u` of cluster `c` waits at: the even tile for either tile of a pair (R77). -/
def State.unitPlace (s : State) (c u : Nat) : Place :=
  .unit c (if u < 16 && s.pairFormed (16 * c + u) then u - u % 2 else u)

/-! ### Destinations -/

/-- The payload transfers of `n` elements of a format, at most 128 (R93). -/
def transfersOf (fmt : ElemFmt) (n : Nat) : Nat :=
  min 128 (match fmt with
    | .int8 => (n + 31) / 32
    | .int16 => (n + 15) / 16
    | .f16 => (n + 15) / 16)

/-- The MIX64 operator of a job that consumes tokens as `oper`. -/
def State.meshUse (s : State) (j oper : Nat) : Option MeshUse := (s.job j).sec.meshes.find? fun m => m.oper == oper

/-- The placement of shard `n` of job `j`. -/
def State.placedOf (s : State) (j n : Nat) : Option Placed := (s.job j).placed.find? fun p => p.shard == n

/-- The tile that serves a placement for tokens of generation `g`, and whether the vector unit of its cluster computes its products (R211,
R246): the staged generation, once READY, has its copies, and during a drain the old generation keeps what it had. -/
def State.placeFor (s : State) (j g : Nat) (p : Placed) : Nat × Bool :=
  let now := s.rd R.WSET_JOB_GEN j
  if g = now then (p.tile, p.vec)
  else if s.rd R.WSET_JOB_STAGE j = 2 && g == (now + 1) % 16 then
    match (spGet (fun _ => WStage.none) s.stages j).copies.find? fun c => c.shard == p.shard with
    | some c => (c.tile, false)
    | none => (p.tile, p.vec)
  else match p.old with
    | some t => (t, p.oldVec)
    | none => (p.tile, p.vec)

/-- The tile that serves a placement for tokens of generation `g` (R246). -/
def State.tileFor (s : State) (j g : Nat) (p : Placed) : Nat := (s.placeFor j g p).1

/-- The vector unit computes the products of a placement for tokens of generation `g` (R211, R246). -/
def State.vecFor (s : State) (j g : Nat) (p : Placed) : Bool := (s.placeFor j g p).2

/-- The cluster and unit that run the products of a placement for tokens of generation `g`. -/
def State.unitFor (s : State) (j g : Nat) (p : Placed) : Nat × Nat :=
  (s.tileFor j g p / 16, if s.vecFor j g p then 16 else s.tileFor j g p % 16)

/-- Where the products of a placement go (R112). -/
def State.shardRoute (s : State) (j : Nat) (p : Placed) : Option Route :=
  ((s.job j).sec.shards.find? fun u => u.shard == p.shard).map ShardUse.route

/-- The placement is the substitute of a MIX64 operator (R147). -/
def State.isSubst (s : State) (j : Nat) (p : Placed) : Bool := (s.job j).sec.meshes.any fun m => m.subst == p.shard

/-- Where an activation for a placed shard runs now (R246, R250): the placement its operator and PART name. -/
def State.tilePlace (s : State) (k : Token) : Option (Nat × Nat) :=
  ((s.job k.job).placed.find? fun p => p.oper == k.oper &&
    (s.isSubst k.job p || ((s.shardRoute k.job p).map fun r => r.part == k.part).getD false)).map (s.unitFor k.job k.gen)

/-- The destination of a route to a tile that the placement names (R250): the tile, spare copy or vector unit that serves the shard. -/
def State.tileRoute (s : State) (t : Token) (r : Route) : Route :=
  if 16 ≤ r.unit then r
  else match (s.job t.job).sec.shards.find? fun u => u.oper == r.oper && u.tile == some (16 * r.clu + r.unit) with
    | none => r
    | some u =>
      match s.placedOf t.job u.shard with
      | some p => { r with clu := (s.unitFor t.job t.gen p).1, unit := (s.unitFor t.job t.gen p).2 }
      | none => r

/-- Where a token bound for a MIX64 goes (R147, R149): to the substitute pair for a batch that runs on it, else to the mesh
interface. -/
def State.meshRoute (s : State) (t : Token) (r : Route) : Route :=
  let onSubst := ((s.batchOf t).map fun b => b.subst.contains r.oper).getD ((s.job t.job).substOn.contains r.oper)
  match s.meshUse t.job r.oper with
  | some m =>
    if r.unit = 19 && onSubst then
      match s.placedOf t.job m.subst with
      | some p => { r with clu := (s.unitFor t.job t.gen p).1, unit := (s.unitFor t.job t.gen p).2, kind := 1 }
      | none => r
    else r
  | none => r

/-! ### Receipt -/

/-- An activation that stands at cluster `c` goes on to the unit that serves its shard now (R211, R250; DEDUCED, log 171). -/
def forward (s : State) (c : Nat) (k : Token) : State :=
  match s.tilePlace k with
  | some x => inject s c { k with dstClu := x.1, dstUnit := x.2 }
  | none => s

/-- The activations that wait at unit `u` of cluster `c` for a shard another unit serves now go on to it. -/
def forwardWaiting (s : State) (c u : Nat) : State :=
  s.each (s.fabric.filter fun h => h.place == .unit c u && h.tok.kind == 1 &&
      ((s.tilePlace h.tok).map fun x => s.unitPlace x.1 x.2 != .unit c u).getD false) fun s h =>
    forward (pitchTake s h) c h.tok

/-- A token received by a unit (R94, R96, R250): a reserved KIND or DST_UNIT, a STREAM above 47 or a LEN above 128 discards it with
BAD_TOKEN; an epoch other than the job's discards it; an unknown generation discards it with GEN_DROP; an activation whose shard another unit serves meanwhile goes on to it; otherwise it waits at
the unit. -/
def receive (s : State) (c u : Nat) (h : Held) : State :=
  let t := h.tok
  if 8 ≤ t.kind || 20 ≤ t.dstUnit || 47 < t.stream || 128 < t.len then
    detectFault ((pitchTake s h).raise R.CLU_EVT_BAD_TOKEN c) t.job ⟨fcToken, false, 3, c, .none⟩
  else if h.stale || t.epoch != (s.job t.job).epoch then (pitchTake s h).bump R.EPOCH_DROP_CNT_COUNT c
  else if !(s.liveGens t.job).contains t.gen then
    detectFault ((pitchTake s h).raise R.WSET_EVT_GEN_DROP 0) t.job ⟨fcToken, false, 3, c, .none⟩
  else if (u < 16 || u == 16) && t.kind == 1 && ((s.tilePlace t).map fun x => s.unitPlace x.1 x.2 != s.unitPlace c u).getD false then
    forward (pitchTake s h) c t
  else
    let s := pitchPut (pitchTake s h) (s.unitPlace c u) t
    if u < 16 then
      let s := tileSnap s (16 * c + u) t.batchKey
      if s.pairFormed (16 * c + u) then tileSnap s (16 * c + u + 1 - 2 * (u % 2)) t.batchKey else s
    else s

/-- What the check bits of a link find about the token at the front of a place (R101): a corrected error is counted, an
uncorrectable one discards the token and recovers its job, a lost header recovers every job in the half. -/
def linkCheck (s : State) (c : Nat) (h : Held) (e : LinkErr) : State × Bool :=
  match e with
  | .none => (s, true)
  | .corrected => ((s.bump R.LINK_CE_CNT_COUNT c).raise R.CLU_EVT_LINK_CE c, true)
  | .payload =>
    (detectFault ((pitchTake s h).raise R.CLU_EVT_LINK_UE c) h.tok.job ⟨fcLink, false, 3, c, .none⟩, false)
  | .header =>
    (faultAll ((pitchTake s h).raise R.CLU_EVT_LINK_UE c) (s.jobsInHalf (halfOfClu c)) ⟨fcLink, false, 3, c, .none⟩, false)

/-- The token at the front of a place is received there (R94, R96, R101): by a router, which checks its link only, or by the
unit it is addressed to. -/
def tokenReceipt (s : State) (p : Place) (e : LinkErr) : State :=
  match s.front p with
  | none => s
  | some h =>
    match p with
    | .arrived c u =>
      let r := linkCheck s c h e
      if r.2 then pitchEnter (receive r.1 c u h) else r.1
    | .router c _ _ => (linkCheck s c h e).1
    | .hubLink _ | .entry _ _ | .bridge _ | .unit _ _ | .hub => s

/-- A unit receives the token at the front of its input (R94). -/
def execTokenReceipt (p : Place) (e : LinkErr) (s : State) : Out := .next (tokenReceipt s p e)

/-! ### Emission -/

/-- LEN of a token a unit emits (R93): the transfers of its payload; the 256 binary integers of 32 bits of a PART32 take 32 (R94). -/
def lenOf (fmt : ElemFmt) (kind n : Nat) : Nat := if kind = 3 then min 128 ((n + 7) / 8) else transfersOf fmt n

/-- The flags of a token emitted for a job: a unit that works in the job's reduced form adds DEGRADED (R95). -/
def State.formFlags (s : State) (t : Token) : Flags := { t.flags with degraded := t.flags.degraded || (s.job t.job).reduced.isSome }

/-- A unit emits a token to a destination (R92, R93, R95): the fields of the token it was computed from, the destination and the new
payload. -/
def emitTo (s : State) (c u : Nat) (t : Token) (fmt : ElemFmt) (pay : List Int) (r : Route) : State :=
  inject s c { t with
    flags := s.formFlags t,
    kind := r.kind, dstClu := r.clu, dstUnit := r.unit, srcClu := c, srcUnit := u, part := r.part, npart := r.npart,
    len := lenOf fmt r.kind pay.length, oper := r.oper, bridge := r.bridge, payload := pay }

/-- A unit emits a token along one route (R92, R93, R95, R147, R250). -/
def emitOne (s : State) (c u : Nat) (t : Token) (fmt : ElemFmt) (pay : List Int) (r : Route) : State :=
  emitTo s c u t fmt pay (s.meshRoute t (s.tileRoute t r))

/-- A unit emits its output along every route of an operator. -/
def emitAll (s : State) (c u : Nat) (t : Token) (fmt : ElemFmt) (pay : List Int) (routes : List Route) : State :=
  s.each routes fun s r => emitOne s c u t fmt pay r

end Sys2Proof.Machine
end

