-- ==== Sys2Proof/Machine/Tile.lean ====
section
/-! DEFINITION. Machine/Tile.lean: the product of a crossbar tile (R55 to R78, R197, R198): row groups, sizing, conversions,
clips and splits, accumulation, spare columns, chalk columns, two-slice pairs, and the batch boundary. -/

namespace Sys2Proof.Machine

/-- The weight in row `i` and output column `j` of a weight field (R227); 0 in a tile never written. -/
def Cells.weight (c : Cells) (i j : Nat) : Int :=
  if c.weights.isEmpty then 0 else
  let bit := 5 * (256 * i + j)
  ((leAt c.weights (bit / 8) 2 / 2 ^ (bit % 8) % 32 : Nat) : Int) - 15

/-- The bias of output column `j` (R67, R227). -/
def Cells.bias (c : Cells) (j : Nat) : Int := toSigned 16 (leAt c.biases (2 * j) 2)

/-- The weight of chalk column `c` in row `i` (R65). -/
def chalkWeight (c i : Nat) : Int :=
  match c with
  | 0 => 15
  | 1 => -15
  | 3 => 1
  | 4 => if i % 2 = 0 then 15 else -15
  | 5 => 8
  | 7 => -8
  | _ => 0

/-- The inputs of a product: 512 codes, zero beyond the payload, −128 driven as −127 (R58). -/
def tileInputs (pay : List Int) : List Int := (List.range 512).map fun i => max (-127) (min 127 ((pay[i]?).getD 0))

/-- The count weight of a RANGE setting in raw units (R60). -/
def countWeight (range : Nat) : Nat := 960 / 2 ^ range

/-- Division rounded to nearest with ties away from zero (R60). -/
def roundAway (n : Int) (d : Nat) : Int :=
  if n < 0 then -(((2 * n.natAbs + d) / (2 * d) : Nat) : Int) else (((2 * n.natAbs + d) / (2 * d) : Nat) : Int)

/-- What a product works under: its mode, count weight, clip level, sizing limits and columns (R84, R66, R88). -/
structure TileSet where
  sa : Bool
  cw : Nat
  clip : Nat
  wMax : Nat
  guard : Nat
  used : List Nat
  deriving DecidableEq, Repr

/-- The settings of tile `t` in force; `useOf` is the tile whose COL_USE counts (the high slice of a pair, R77). -/
def State.tileSet (s : State) (t useOf : Nat) : TileSet :=
  { sa := s.frc R.TILE_CFG_SA_CAL t != 0 || s.frc R.TILE_CFG_SA_JOB t != 0
    cw := countWeight (s.frc R.TILE_CFG_RANGE t)
    clip := max 64 (s.frc R.TILE_CFG_CLIP_LVL t)
    wMax := if s.frc R.TILE_CFG_W_MAX t = 0 then 15 else s.frc R.TILE_CFG_W_MAX t
    guard := s.frc R.TILE_CFG_GUARD t
    used := (List.range 256).filter fun c => bitOf (s.forceWord (R.COL_USE.key useOf (c / 32))) (c % 32) }

/-- The logical column that is converted for output column `c` (R66): its lowest-numbered enabled spare, or itself. -/
def State.columnFor (s : State) (t c : Nat) : Nat :=
  match (List.range 16).find? fun n => s.frc2 R.SPARE_MAP_EN t n == 1 && s.frc2 R.SPARE_MAP_TARGET t n == c with
  | some n => 256 + n
  | none => c

/-- The sum of magnitudes of `rows` inputs from `first`. -/
def magSum (x : List Int) (first rows : Nat) : Nat := (((x.drop first).take rows).map Int.natAbs).sum

/-- Sizing of R71 from a candidate set: the sub-groups to drive, and how many were skipped as all zero. -/
def sizeRows (cfg : TileSet) (x : List Int) (first rows : Nat) : Nat → List (Nat × Nat) × Nat
  | 0 => ([], 0)
  | fuel + 1 =>
    let m := magSum x first rows
    if m = 0 then ([], 1)
    else if rows ≤ 8 || cfg.wMax * m ≤ (cfg.clip - cfg.guard) * cfg.cw then ([(first, rows)], 0)
    else
      let a := sizeRows cfg x first (rows / 2) fuel
      let b := sizeRows cfg x (first + rows / 2) (rows / 2) fuel
      (a.1 ++ b.1, a.2 + b.2)

/-- The sub-groups a product drives before any trip, in order, and the groups skipped (R59, R63, R71). -/
def driveList (cfg : TileSet) (x : List Int) : List (Nat × Nat) × Nat :=
  (List.range 8).foldl (fun acc g =>
    let r :=
      if cfg.sa then sizeRows cfg x (64 * g) 64 4
      else if magSum x (64 * g) 64 = 0 then ([], 1) else ([(64 * g, 64)], 0)
    (acc.1 ++ r.1, acc.2 + r.2)) ([], 0)

/-- The ideal partial sum of some rows against a column of weights, in raw units (R60). -/
def rawSum (x : List Int) (w : Nat → Int) (first rows : Nat) : Int :=
  ((List.range rows).map fun i => (x[first + i]?).getD 0 * w (first + i)).sum

/-- One conversion (R60): the ideal sum with its error, which nothing constrains, divided by the count weight, rounded with ties
away from zero and held to `lim` counts. -/
def convert (ideal err : Int) (cw lim : Nat) : Int := max (-(lim : Int)) (min lim (roundAway (ideal + err) cw))

/-- The running result of a product: sums of the columns in use in units of 1/256 count, whether a conversion clipped, the 8-row
sub-groups clipped in sparsity-adaptive mode, the sums saturated, the chalk conversions clipped, splits, skips, and the chalk sums
measured and expected. -/
structure TileRun where
  sums : List Int
  sat : Bool
  clip8 : Nat
  sumSat : Nat
  chalkClip : Nat
  splits : Nat
  skips : Nat
  m : List Int
  e : List Int
  deriving DecidableEq, Repr

/-- The limit of the chalk converters: 12 % above 127 counts (R65) (DEDUCED, log 74). -/
abbrev chalkLimit : Nat := 142

/-- The chalk columns are converted along with a sub-group (R65, R198): each result corrected by its reference ADC's ROFF and
RGAIN; a clip is discarded; a group whose inputs sum to zero gives offset information only. -/
def chalkRun (s : State) (t ix first rows : Nat) (x : List Int) (r : TileRun) : TileRun :=
  let p (c : Nat) : Int := convert (rawSum x (chalkWeight c) first rows) (Config.tileErr ix (272 + c) first rows) 960 chalkLimit
  let clipped := (List.range 8).filter fun c => decide (chalkLimit ≤ (p c).natAbs)
  let total := ((x.drop first).take rows).sum
  let add (l : List Int) (f : Nat → Int) : List Int :=
    (List.range 8).map fun c => (l[c]?).getD 0 + (if total = 0 || clipped.contains c then 0 else f c)
  { r with
    chalkClip := r.chalkClip + clipped.length
    m := add r.m fun c => (p c * 256 - s.rOff t (c / 4)) * s.rGain t (c / 4)
    e := add r.e fun c => rawSum x (chalkWeight c) first rows }

/-- A sum held within ±32,767 counts, and whether it was beyond (R67); it keeps the fraction of the offset corrections, in 1/256 count
(DEDUCED, log 181). -/
def satSum (v : Int) : Int × Bool := (max (-8388352) (min 8388352 v), decide (8388352 < v.natAbs))

/-- Drives the sub-groups of a queue (R70, R72, R74): conversion of the columns in service, clips, splits after a trip in
sparsity-adaptive mode, offset correction and accumulation. A comparator trips exactly when the conversion would reach the
clip level. -/
def driveRun (s : State) (t ix : Nat) (cfg : TileSet) (cols : List (Nat × Nat)) (x : List Int) :
    Nat → List (Nat × Nat) → TileRun → TileRun
  | 0, _, r => r
  | _ + 1, [], r => r
  | fuel + 1, (first, rows) :: rest, r =>
    let w := s.cellsOf t
    let ps := cols.map fun c =>
      convert (rawSum x (fun i => w.weight i c.1) first rows) (Config.tileErr ix c.2 first rows) cfg.cw 127
    let trip := ps.any fun p => decide (cfg.clip ≤ p.natAbs)
    if cfg.sa && trip && decide (8 < rows) then
      let halves := [(first, rows / 2), (first + rows / 2, rows / 2)]
      let live := halves.filter fun h => magSum x h.1 h.2 != 0
      driveRun s t ix cfg cols x fuel (live ++ rest)
        { r with splits := r.splits + 1, skips := r.skips + (2 - live.length) }
    else
      let clipped := ps.map fun p => if cfg.clip ≤ p.natAbs then (if p < 0 then -(cfg.clip : Int) else cfg.clip) else p
      let sums := (cols.zip (clipped.zip r.sums)).map fun e => satSum (e.2.2 + e.2.1 * 256 - s.tcalOff t e.1.2)
      let r := { r with
        sums := sums.map (·.1), sumSat := r.sumSat + sums.countP (·.2), sat := r.sat || trip,
        clip8 := r.clip8 + (cfg.sa && trip).toNat }
      driveRun s t ix cfg cols x fuel rest (chalkRun s t ix first rows x r)

/-- The live gain the products of a batch run under at tile `t` (R197): that latched when the batch began. -/
def State.batchGain (s : State) (t key : Nat) : Nat :=
  (((s.tile t).begun.find? fun b => b.key == key).map TileBatch.gain).getD (s.rd R.LIVE_GAIN_GAIN t)

/-- One slice's product up to step 2 of R67: the run, and for each output column in use the sum multiplied by its gain
correction and the live gain of its batch, in units of 2⁻³⁶ counts. -/
def sliceRun (s : State) (t useOf key ix : Nat) (x : List Int) : TileRun × List (Nat × Int) :=
  let cfg := s.tileSet t useOf
  let cols := cfg.used.map fun c => (c, s.columnFor t c)
  let d := driveList cfg x
  let r := driveRun s t ix cfg cols x 512 d.1
    ⟨cols.map fun _ => 0, false, 0, 0, 0, 0, d.2, [], []⟩
  (r, (cols.zip r.sums).map fun e => (e.1.1, e.2 * s.tcalGain t e.1.2 * s.batchGain t key))

/-- Steps 3 and 4 of R67 for one column: the bias is added, the value rounded with ties to even and saturated; the second part
says whether it saturated. -/
def finishColumn (v bias : Int) : Int × Bool :=
  let n := idivRne (v + bias * 2 ^ 36) (2 ^ 36)
  (sat16 n, decide (32767 < n.natAbs))

/-- Something of a slice's own saturated: a conversion or a column sum (R67, R70). -/
def TileRun.ownSat (r : TileRun) : Bool := r.sat || decide (0 < r.sumSat)

/-! ### The accuracy bounds -/

/-- The departures `es` of the outputs of one product or pass keep the bounds of R51 and R52 for a full scale `fs` and a bound of `bp`
hundredths of a per cent: the RMS over all outputs, and all but one output in 10,000 within four times the bound. -/
def withinBound (fs bp : Nat) (es : List Int) : Bool :=
  decide (10 ^ 8 * (es.map fun e => e.natAbs * e.natAbs).sum ≤ es.length * (bp * fs) ^ 2) &&
    decide (10000 * (es.countP fun e => decide (4 * bp * fs < 10000 * e.natAbs)) ≤ es.length)

/-- The outputs of a product, by column with whether each saturated, as the module guarantees them (R51, R52): the analogue terms are
free, but never take a product without a clip beyond its bounds. Values the free terms would take beyond are the ideal ones of
R60, in units of 1/`den` of an output unit (DEDUCED, log 162). -/
def boundOutputs (fs bp den : Nat) (outs : List (Nat × Int × Bool)) (ideal : Nat → Int) : List (Nat × Int × Bool) :=
  if withinBound (fs * den) bp (outs.map fun e => e.2.1 * den - ideal e.1) then outs
  else outs.map fun e => (e.1, sat16 (idivRne (ideal e.1) den), e.2.2)

/-- The bound of R51 that a crossbar product is under, in hundredths of a per cent: the refresh threshold, or 3.00 % when STALE. -/
def State.tileBound (s : State) (stale : Bool) : Nat := if stale then 300 else s.thresh

/-- Raises an event of a tile `n` times: SEQ advances by one for each (R85). -/
def raiseTimes (s : State) (f : Fld) (t n : Nat) : State := s.each (List.range n) fun s _ => s.raise f t

/-- The events and counters of one slice after a product (R85, R86): `tokenSat` says that the product's token carried SAT, `outSat` how
many outputs saturated. -/
def tileEvents (s : State) (t : Nat) (r : TileRun) (tokenSat : Bool) (outSat : Nat) : State :=
  let s := if tokenSat then (s.raise R.TILE_EVT_SAT_SEEN t).bump R.SAT_CNT_COUNT t else s
  let s := raiseTimes s R.TILE_EVT_SPLIT_SEEN t r.splits
  let s := raiseTimes s R.TILE_EVT_CLIP8 t r.clip8
  let s := raiseTimes s R.TILE_EVT_SUM_SAT t (r.sumSat + outSat)
  let s := raiseTimes s R.TILE_EVT_CHALK_CLIP t r.chalkClip
  let s := (s.bumpBy R.SPLIT_CNT_COUNT t r.splits).bumpBy R.SKIP_CNT_COUNT t r.skips
  s.bump64 R.PROD_CNT_LO_COUNT_LO R.PROD_CNT_HI_COUNT_HI t

/-! ### Batch boundaries -/

/-- A job holds tile `t`. -/
def State.tileHeld (s : State) (t : Nat) : Bool := !(s.jobsOnTile t).isEmpty

/-- SA_ACT reports the mode in force (R75). -/
def showMode (s : State) (t : Nat) : State :=
  s.wrB R.TILE_CFG_SA_ACT t (s.frc R.TILE_CFG_SA_CAL t != 0 || s.frc R.TILE_CFG_SA_JOB t != 0)

/-- The settings the products of a batch run under at tile `t` (R66, R76): those it began under, those that stood when its first token
arrived, or those written last. -/
def State.settingsFor (s : State) (t key : Nat) : List Word :=
  match (s.tile t).begun.find? fun b => b.key == key with
  | some b => b.words
  | none => (((s.tile t).snaps.find? fun e => e.1 == key).map (·.2)).getD ((tileKeys t).map s.word)

/-- Settings of tile `t` come into force (R76, R66). -/
def applyTile (s : State) (t : Nat) (ws : List Word) : State :=
  let s := s.each ((tileKeys t).zip ws) fun s e => s.setInForce (spSet regReset s.inForce e.1 e.2)
  showMode s t

/-- Products of one batch at tile `t`: PROD_PER_BATCH; with 0 no batch is left unfinished between products (R223) (DEDUCED, log 75). -/
def State.perBatch (s : State) (t : Nat) : Nat := max 1 (s.rd R.TCAL_SWAP_PROD_PER_BATCH t)

/-- The batch boundary before the first product of a batch at tile `t` (R76, R197, R198, R208): buffered settings, live gain and
estimates. -/
def tileBoundary (s : State) (t key : Nat) : State :=
  let ws := s.settingsFor t key
  let s := s.putTile t { s.tile t with snaps := (s.tile t).snaps.filter fun e => e.1 != key }
  estimate (liveGainUpdate (applyTile s t ws) t) t

/-- The batch of the next product differs from that of the last and has not begun: a boundary. -/
def State.atBoundary (s : State) (t key : Nat) : Bool :=
  (s.tile t).cur != some key && !(s.tile t).begun.any fun e => e.key == key

/-- Tile `t` turns to a batch: at a batch boundary everything buffered takes effect; a batch begun before resumes under the settings it began
under (R76). -/
def enterBatch (s : State) (t key : Nat) : State :=
  if (s.tile t).cur = some key then s else
  let s := if s.atBoundary t key then tileBoundary s t key else applyTile s t (s.settingsFor t key)
  s.putTile t { s.tile t with cur := some key }

/-- The settings of tile `t`, in force or to come with a batch, make it a slice (R77). -/
def State.sliceNear (s : State) (t key : Nat) : Bool :=
  let set (w : Word) : Bool := fieldOf R.TILE_CFG_SLICE.lo 2 w == 1 || fieldOf R.TILE_CFG_SLICE.lo 2 w == 2
  set (s.forceWord (R.TILE_CFG.key t 0)) || ((s.settingsFor t key).head?.map set).getD false

/-- Tile `u` turns to a batch, and its neighbour with it when either is or becomes a slice (R76, R77) (DEDUCED, log 163). -/
def enterUnit (s : State) (u key : Nat) : State :=
  let e := u - u % 2
  if s.sliceNear e key || s.sliceNear (e + 1) key then enterBatch (enterBatch s e key) (e + 1) key else enterBatch s u key

/-- Notes one product of a batch at tile `t` (R204): a batch whose PROD_PER_BATCH products have run is complete. -/
def noteBatch (s : State) (t key : Nat) : State :=
  let q := s.tile t
  let b := (q.begun.find? fun e => e.key == key).getD ⟨key, 0, (tileKeys t).map s.forceWord, s.rd R.LIVE_GAIN_GAIN t⟩
  let rest := q.begun.filter fun e => e.key != key
  if s.perBatch t ≤ b.n + 1 then s.putTile t { q with begun := rest, straddle := q.straddle.filter (· != key) }
  else s.putTile t { q with begun := rest ++ [{ b with n := b.n + 1 }] }

/-- Notes one product of a batch at tile `t` with its chalk sums (R198, R204). -/
def noteProduct (s : State) (t key : Nat) (r : TileRun) : State :=
  let s := noteBatch s t key
  let q := s.tile t
  let add (a b : List Int) : List Int := (List.range 8).map fun c => (a[c]?).getD 0 + (b[c]?).getD 0
  s.putTile t { q with cur := some key, sinceCal := q.sinceCal + 1, chalkM := add q.chalkM r.m, chalkE := add q.chalkE r.e }

/-- The product carries STALE: the tile's STALE bit is set, or the batch straddles a forced swap (R203, R204). -/
def State.tileStale (s : State) (t key : Nat) : Bool := s.on R.TCAL_STAT_STALE t || (s.tile t).straddle.contains key

/-- Tile `t` may run products: it is in service, due, or serves as a spare copy (R214, R211). -/
def State.tileRuns (s : State) (t : Nat) : Bool :=
  let v := s.rd R.TCAL_STAT_SVC t
  v == svcService || v == svcDue || v == svcCopy

/-- The table of the tile is HOLDING (R204). -/
def State.tileHolding (s : State) (t : Nat) : Bool := s.rd R.TCAL_STAT_TABLE t == 2

/-- Tile `t` holds new batches at its input (R204, R211): for a table swap, or for the move of its job to a spare copy or the vector unit, or
back from it. -/
def State.tileHoldsNew (s : State) (t : Nat) : Bool :=
  s.tileHolding t || s.homework.any fun h =>
    let at_ (b : Nat) : Bool := b == t || (h.pair && b + 1 == t)
    (h.step == 2 && at_ h.tile) || (h.step == 4 && (h.copy.map at_).getD false)

/-- The placement a token's product at tile `t` belongs to. -/
def State.placedAt (s : State) (t : Nat) (k : Token) : Option Placed :=
  (s.job k.job).placed.find? fun p => p.oper == k.oper && (s.tileFor k.job k.gen p == t)

/-- The input vectors a token brings to tile `t`, one product each: its payload, or on the substitute of a MIX64 every 64 inputs of its
passes, which use row group 0 only (R147; DEDUCED, log 167). -/
def State.vectorsOf (s : State) (t : Nat) (k : Token) : List (List Int) :=
  if ((s.placedAt t k).map (s.isSubst k.job)).getD false then
    (List.range (k.payload.length / 64)).map fun i => (k.payload.drop (64 * i)).take 64
  else [k.payload]

/-- What one product delivers: whether its token carries SAT and STALE, and the value of each output column in use. -/
structure TileOut where
  sat : Bool
  stale : Bool
  vals : List (Nat × Int)
  deriving DecidableEq, Repr

/-- The value of output column `c`, 0 for a column not in use. -/
def TileOut.col (o : TileOut) (c : Nat) : Int := ((o.vals.find? fun e => e.1 == c).map (·.2)).getD 0

/-- Tile `t` is a spare copy that serves a job during homework (R211). -/
def State.servesAsCopy (s : State) (t : Nat) : Bool :=
  s.homework.any fun h => decide (3 ≤ h.step) && (h.copy.map fun c => c == t || (h.pair && c + 1 == t)).getD false

/-- Emits what the products of a token delivered for a placement, from unit `u` of cluster `c` (R67, R77, R95): one token (DEDUCED, log 157), or,
on the substitute of a MIX64, the output tokens of R135, up to 4 passes each, with DEGRADED (R147). -/
def emitProducts (s : State) (c u : Nat) (k : Token) (p : Placed) (degraded : Bool) (outs : List TileOut) : State :=
  let sub := s.isSubst k.job p
  let k := { k with flags := { k.flags with sat := k.flags.sat || outs.any TileOut.sat, stale := k.flags.stale || outs.any TileOut.stale,
                                            degraded := k.flags.degraded || degraded || sub } }
  match s.shardRoute k.job p with
  | none => s
  | some r =>
    if sub then
      let pay := outs.flatMap fun o => (List.range 64).map o.col
      let n := (pay.length + 2047) / 2048
      s.each (List.range n) fun s e => emitOne s c u k .int16 ((pay.drop (2048 * e)).take 2048) { r with part := e, npart := n - 1 }
    else emitOne s c u k .int16 (outs.flatMap fun o => (List.range 256).map o.col) r

/-- The outputs of a token's products leave tile `t`; those of a spare copy carry DEGRADED (R211, R212). -/
def tileOutput (s : State) (t : Nat) (k : Token) (outs : List TileOut) : State :=
  match s.placedAt t k with
  | some p => emitProducts s (t / 16) (t % 16) k p (s.servesAsCopy t) outs
  | none => s

/-- The ideal value of output column `c` of tile `t` with its bias, in units of one count ÷ `cw` (R60, R67). -/
def State.idealOut (s : State) (t cw : Nat) (x : List Int) (c : Nat) : Int :=
  rawSum x (fun i => (s.cellsOf t).weight i c) 0 512 + (s.cellsOf t).bias c * cw

/-- A product of a single tile on one vector of a token's inputs (R63 to R74), its batch entered. -/
def singleProduct (s : State) (t : Nat) (k : Token) (pay : List Int) : State × TileOut :=
  let key := k.batchKey
  let (ix, s) := s.draw
  let x := tileInputs pay
  let zero := x.all (· == 0)
  let r := sliceRun s t t key ix x
  let outs := r.2.map fun e => (e.1, if zero then ((s.cellsOf t).bias e.1, false) else finishColumn e.2 ((s.cellsOf t).bias e.1))
  let outSat := outs.countP (·.2.2)
  let sat := r.1.ownSat || decide (0 < outSat)
  let stale := !zero && s.tileStale t key
  let cw := (s.tileSet t t).cw
  let outs := if sat then outs else boundOutputs 1016 (s.tileBound stale) cw outs (s.idealOut t cw x)
  (noteProduct (tileEvents s t r.1 (sat || k.flags.sat) outSat) t key r.1, ⟨sat, stale, outs.map fun e => (e.1, e.2.1)⟩)

/-- The ideal value of output column `c` of a pair with its bias, in units of 1/16 count ÷ (`cwH` × `cwL`) (R77). -/
def State.idealPair (s : State) (t cwH cwL : Nat) (x : List Int) (c : Nat) : Int :=
  16 * rawSum x (fun i => (s.cellsOf t).weight i c) 0 512 * cwL + rawSum x (fun i => (s.cellsOf (t + 1)).weight i c) 0 512 * cwH +
    (s.cellsOf t).bias c * (cwH * cwL)

/-- A product of a two-slice pair of tiles `t` (high) and `t + 1` (low) on one vector of a token's inputs (R77), its batch entered at both: 16 times the high slice's sum
plus the low slice's, in units of 1/16 count. A product whose token carried SAT counts at both slices (DEDUCED, log 80). -/
def pairProduct (s : State) (t : Nat) (k : Token) (pay : List Int) : State × TileOut :=
  let key := k.batchKey
  let (ix, s) := s.draw
  let (iy, s) := s.draw
  let x := tileInputs pay
  let zero := x.all (· == 0)
  let h := sliceRun s t t key ix x
  let l := sliceRun s (t + 1) t key iy x
  let outs := (h.2.zip l.2).map fun e =>
    (e.1.1, if zero then ((s.cellsOf t).bias e.1.1, false) else finishColumn (16 * e.1.2 + e.2.2) ((s.cellsOf t).bias e.1.1))
  let outSat := outs.countP (·.2.2)
  let sat := h.1.ownSat || l.1.ownSat || decide (0 < outSat)
  let stale := !zero && (s.tileStale t key || s.tileStale (t + 1) key)
  let cwH := (s.tileSet t t).cw
  let cwL := (s.tileSet (t + 1) t).cw
  let outs := if sat then outs else boundOutputs 16256 (s.tileBound stale) (cwH * cwL) outs (s.idealPair t cwH cwL x)
  let s := noteProduct (tileEvents s t h.1 (sat || k.flags.sat) outSat) t key h.1
  (noteProduct (tileEvents s (t + 1) l.1 (sat || k.flags.sat) 0) (t + 1) key l.1, ⟨sat, stale, outs.map fun e => (e.1, e.2.1)⟩)

/-- The products of a tile or of a pair on the vectors of a token, in order. -/
def runProducts (s : State) (t : Nat) (k : Token) (pair : Bool) : List (List Int) → State × List TileOut
  | [] => (s, [])
  | v :: rest =>
    let r := if pair then pairProduct s t k v else singleProduct s t k v
    let q := runProducts r.1 t k pair rest
    (q.1, r.2 :: q.2)

/-- A token's product runs at tile `t`, or at the pair whose high slice it is, and its output leaves. -/
def tokenProduct (s : State) (t : Nat) (k : Token) (pair : Bool) : State :=
  let r := runProducts s t k pair (s.vectorsOf t k)
  tileOutput r.1 t k r.2

/-- Inconsistent slice settings at the pair of tile `t` (R78): neither tile runs a product, both set PAIR_ERR, at each product that is due
(DEDUCED, log 185), and the jobs holding them are recovered. -/
def pairFault (s : State) (t : Nat) : State :=
  let e := t - t % 2
  let s := (s.raise R.TILE_EVT_PAIR_ERR e).raise R.TILE_EVT_PAIR_ERR (e + 1)
  faultAll s (jobNums.filter fun j => (s.job j).tiles.contains e || (s.job j).tiles.contains (e + 1)) ⟨fcTile, false, 1, e, .slices e⟩

/-- The token tile `u` may run next (R69, R204): an activation that waits at it, while it holds new batches one of a batch begun there. -/
def State.tileTakes (s : State) (u : Nat) (pair : Bool) (h : Held) : Bool :=
  let holding := s.tileHoldsNew u || (pair && s.tileHoldsNew (u + 1))
  h.place == .unit (u / 16) (u % 16) && h.tok.kind == 1 && (!holding || (s.tile u).begun.any fun b => b.key == h.tok.batchKey)

/-- Tile `t`, or the pair it belongs to, runs one atomic product on the next activation that waits at it (R69, R74, R78). The settings in
force once the token's batch is entered decide (R76, R77): with inconsistent slices no product runs and the token stays; a pair
dissolved leaves it to the tile it is addressed to; a tile that its own boundary takes out of service computes nothing more
(R198, R212). -/
def tileProduct (s : State) (t : Nat) : State :=
  if s.pairBad t then pairFault s t
  else
    let was := s.pairFormed t
    let u := if was then t - t % 2 else t
    if !s.tileRuns t && !(was && s.tileRuns u) then s else
    let c := u / 16
    let r := takeNext s c (u % 16) (s.tileTakes u was)
    match r.2 with
    | none => s
    | some h =>
      if h.tok.epoch != (s.job h.tok.job).epoch then r.1.bump R.EPOCH_DROP_CNT_COUNT c
      else
        let v := enterUnit s u h.tok.batchKey
        let pair := v.pairFormed u
        let x := if pair then u - u % 2 else if was then 16 * c + h.tok.dstUnit % 16 else u
        if v.pairBad u then pairFault v u
        else if !v.tileRuns x || (pair && !v.tileRuns (x + 1)) then v
        else
          let v := (takeNext v c (u % 16) (s.tileTakes u was)).1
          pitchEnter (tokenProduct v x h.tok pair)

/-- A product not finished 2 µs after its first fetch, which was no earlier than its token's arrival, is a TILE fault of every job holding
the tile (R332); the product is discarded (R69). A pair's tokens wait at its even tile (R77). -/
def execTileTimeout (t : Fin 4096) (s : State) : Out :=
  .next (
    let u := if s.pairFormed t.val then t.val - t.val % 2 else t.val
    match s.front (.unit (u / 16) (u % 16)) with
    | none => s
    | some h =>
      if s.passed h.at_ (2 * usec) then faultAll (pitchTake s h) (s.jobsOnTile t.val) ⟨fcTile, false, 1, t.val, .tile t.val⟩ else s)

end Sys2Proof.Machine
end

