-- ==== Sys2Proof/Machine/Vector.lean ====
section
/-! DEFINITION. Machine/Vector.lean: the vector unit and DMA engine of a cluster (R37, R38, R50, R90 to R92, R106 to R109, R211,
R326 to R329, R332): operators, input conversion, reduction slots, recurrent state and address translation. -/

namespace Sys2Proof.Machine

/-! ### Operators -/

/-- The code of a pixel for a tile or mesh (R38): clamp(round((p − IN_ZERO) × IN_SCALE), −127, +127), ties to even. A product
that is not a number gives the free code of log 159. -/
def inputCode (origin : Nat) (scale : Half16) (p : Int) : Int := ((FVal.ofInt (p - origin)).mul (fmt16.decode scale.toNat)).toInt8

/-! ### Functions of ACT, NORM and POOL

R50 has the operators compute exactly and round to nearest even: each function below is computed far beyond the last place of any
output format and rounded once (DEDUCED, log 187). -/

/-- Fixed-point one of the exponential: 2¹⁶⁰. -/
abbrev expOne : Int := 2 ^ 160

/-- Terms `i` to `i + n - 1` of the series of e^y, `t` the term before scaling, in fixed point. -/
def expSeries (y : Int) (t : Int) (i : Nat) : Nat → Int
  | 0 => 0
  | n + 1 => t + expSeries y (t * y / (expOne * (i + 1))) (i + 1) n

/-- Squares a fixed-point number `n` times. -/
def fixSquare (x : Int) : Nat → Int
  | 0 => x
  | n + 1 => fixSquare (x * x / expOne) n

/-- e^x for a rational within ±32, to some 40 decimal places. -/
def ratExp (x : Rat) : Rat := (fixSquare (expSeries (x / 128 * expOne).floor expOne 0 48) 7 : Rat) / expOne

/-- The square root of a rational that is not negative, to 2⁻¹⁶⁰. -/
def ratSqrt (x : Rat) : Rat := (Nat.sqrt (x * 2 ^ 320).floor.toNat : Rat) / 2 ^ 160

/-- A rational as a value to be rounded; `neg` is the sign of a zero. -/
def FVal.ofRat (neg : Bool) (x : Rat) : FVal := .fin (if x = 0 then neg else decide (x < 0)) (Dyadic.ofRat x)

/-- 1 ÷ (1 + e⁻ˣ). Beyond ±32 the result rounds as its limit does. -/
def fSigmoid : FVal → FVal
  | .nan => .nan
  | .inf neg => FVal.ofInt (if neg then 0 else 1)
  | .fin _ v =>
    let x := v.toRat
    if 32 < x then FVal.ofInt 1 else if x < -32 then FVal.ofInt 0 else FVal.ofRat false (1 / (1 + ratExp (-x)))

/-- The hyperbolic tangent; an odd function, so a zero keeps its sign. -/
def fTanh : FVal → FVal
  | .nan => .nan
  | .inf neg => FVal.ofInt (if neg then -1 else 1)
  | .fin neg v =>
    let x := v.toRat
    if x = 0 then .fin neg v else if 16 < x then FVal.ofInt 1 else if x < -16 then FVal.ofInt (-1) else
    let e := ratExp (-2 * x)
    FVal.ofRat neg ((1 - e) / (1 + e))

/-- ln(1 + eˣ). Beyond ±32 the result rounds as its limit, x or 0, does. -/
def fSoftplus : FVal → FVal
  | .nan => .nan
  | .inf neg => if neg then FVal.ofInt 0 else .inf false
  | .fin neg v =>
    let x := v.toRat
    if 32 < x then .fin neg v else if x < -32 then FVal.ofInt 0 else FVal.ofRat false (ratLn (1 + ratExp x))

/-- The mean of a group (R37): the exact sum divided by the number of elements. -/
def fMean (l : List FVal) : FVal :=
  match l with
  | [] => FVal.ofInt 0
  | x :: xs =>
    match xs.foldl FVal.add x with
    | .nan => .nan
    | .inf neg => .inf neg
    | .fin neg v => FVal.ofRat neg (v.toRat / (l.length : Nat))

/-- The rational of a finite value. -/
def FVal.rat? : FVal → Option Rat
  | .nan => none
  | .inf _ => none
  | .fin _ v => some v.toRat

/-- Per-batch NORM (R37): each element less the mean of the batch, divided by the square root of its variance over the batch, times
the scale plus the bias. A batch with an element that is not finite gives NaN, one of zero variance the free values of log 63. -/
def normBatch (l : List FVal) (scale bias : FVal) (open_ : Nat → FVal) : List FVal :=
  let xs := l.filterMap FVal.rat?
  if xs.length < l.length then l.map fun _ => .nan else
  let n : Rat := (l.length : Nat)
  let mean := xs.sum / n
  let var := (xs.map fun x => sq (x - mean)).sum / n
  if var = 0 then (List.range l.length).map open_
  else xs.map fun x => ((FVal.ofRat false ((x - mean) / ratSqrt var)).mul scale).add bias

/-- The elements of one group of a POOL: a column over the lines, or a line over the positions. -/
def poolGroups (o : OperSpec) (pay : List Int) : List (List Int) :=
  let cols := max 1 o.cols
  let rows := (pay.length + cols - 1) / cols
  if o.overLines then
    (List.range cols).map fun c => (List.range rows).filterMap fun r => pay[r * cols + c]?
  else (List.range rows).map fun r => (pay.drop (r * cols)).take cols

/-- The greatest element of a list, by the operand format. With a NaN in it the maximum is a free value (DESIGN CHOICE,
log 160). -/
def maxElem (f : ElemFmt) (l : List Int) : FVal :=
  if l.any fun x => f.value x == .nan then f16 (Config.poolNan l) else
  match l with
  | [] => FVal.ofInt 0
  | x :: xs => xs.foldl (fun m y => if m.lt (f.value y) then f.value y else m) (f.value x)

/-- The payload of a defect head's RESULT token: regions labelled, then line, lines, pixel, pixels, class, score and area of each
region reported, at most 2,048 in order of first line and first pixel (R268). -/
def defectPayload (l : List Region) : List Int :=
  let le (a b : Region) : Bool := decide (a.firstLine < b.firstLine) || (a.firstLine == b.firstLine && decide (a.firstPix ≤ b.firstPix))
  (min 65535 l.length : Int) :: (((sortBy le l).take 2048).map fun r =>
    [(r.firstLine : Int), r.lines, r.firstPix, r.pix, r.cls, r.score.toNat, r.area]).flatten

/-- A vector-unit operator on one token, its operands `pay` and, for ELEMWISE, `other` (R37, R50). -/
def vectorOut (o : OperSpec) (pay other : List Int) : List Int :=
  let v (x : Int) : FVal := o.inFmt.value x
  let put (x : FVal) : Int := o.fmt.deliver x
  let scale := fmt16.decode o.scale.toNat
  let bias := fmt16.decode o.bias.toNat
  let nil := FVal.ofInt 0
  let two (f : FVal → FVal → FVal) : List Int := (pay.zip other).map fun e => put (f (v e.1) (v e.2))
  match o.kind with
  | .relu => pay.map fun x => put (if (v x).lt nil then nil else v x)
  | .leakyRelu => pay.map fun x => put (if (v x).lt nil then (v x).mul scale else v x)
  | .sigmoid => pay.map fun x => put (fSigmoid (v x))
  | .tanh => pay.map fun x => put (fTanh (v x))
  | .softplus => pay.map fun x => put (fSoftplus (v x))
  | .normFixed => pay.map fun x => put (((v x).mul scale).add bias)
  | .normBatch => (normBatch (pay.map v) scale bias fun i => f16 (Config.vectorFn o.kind o.scale pay i)).map put
  | .poolMax => (poolGroups o pay).map fun g => put (maxElem o.inFmt g)
  | .poolMean => (poolGroups o pay).map fun g => put (fMean (g.map v))
  | .elemSum => two FVal.add
  | .elemDiff => two fun a b => a.add b.neg
  | .elemProd => two FVal.mul
  | .headDefect => defectPayload (Config.labelRegions o.scale o.bias o.cols pay)
  | .headMap => ((pay.length / max 1 o.cols : Nat) : Int) :: (max 1 o.cols : Int) :: pay.map fun x => put (v x)
  | .headProfile => (pay.take 4096).map fun x => put (v x)
  | .headSoft => (pay.take 16).map fun x => put (v x)
  | .matvec | .convSeg | .adapt | .mix64 | .mixWide | .state => pay.map fun x => put (v x)

/-- The operator takes two activations (ELEMWISE of R37). -/
def OperKind.binary : OperKind → Bool
  | .elemSum | .elemDiff | .elemProd => true
  | .matvec | .convSeg | .adapt | .mix64 | .mixWide | .state | .relu | .leakyRelu | .sigmoid | .tanh | .softplus
  | .normFixed | .normBatch | .poolMax | .poolMean | .headDefect | .headProfile | .headSoft | .headMap => false

/-- The operator runs on crossbar tiles. -/
def OperKind.onTiles : OperKind → Bool
  | .matvec | .convSeg | .adapt | .mixWide => true
  | .mix64 | .state | .relu | .leakyRelu | .sigmoid | .tanh | .softplus | .normFixed | .normBatch | .poolMax | .poolMean
  | .elemSum | .elemDiff | .elemProd | .headDefect | .headProfile | .headSoft | .headMap => false

/-- The other operand of a token of an ELEMWISE operator, waiting at the same unit. -/
def State.partner (s : State) (h : Held) : Option Held :=
  s.fabric.find? fun x => x.place == h.place && x.tok.batchKey == h.tok.batchKey && x.tok.oper == h.tok.oper &&
    x.tok.seg == h.tok.seg && x.tok.part != h.tok.part

/-- The placement whose products the vector unit of cluster `c` computes for a token (R211). -/
def State.vecPlaced (s : State) (c : Nat) (k : Token) : Option Placed :=
  (s.job k.job).placed.find? fun p =>
    s.vecFor k.job k.gen p && p.oper == k.oper && s.tileFor k.job k.gen p / 16 == c &&
      (s.isSubst k.job p || ((s.shardRoute k.job p).map fun r => r.part == k.part).getD false)

/-- A product on the vector-unit path on one vector of a token's inputs (R211): exact int8 × int8 sums in int32, brought to counts by the count
weight, with the bias added, rounded with ties to even and saturated under R67 (log 31). -/
def State.vecRun (s : State) (t : Nat) (pair stale : Bool) (pay : List Int) : TileOut :=
  let x := tileInputs pay
  let hi := s.cellsOf t
  let lo := s.cellsOf (t + 1)
  let cfg := s.tileSet t t
  let outs := cfg.used.map fun j =>
    let raw := rawSum x (fun i => if pair then 16 * hi.weight i j + lo.weight i j else hi.weight i j) 0 512
    let n := idivRne (raw + hi.bias j * cfg.cw) cfg.cw
    (j, sat16 n, decide (32767 < n.natAbs))
  ⟨outs.any (·.2.2), stale, outs.map fun e => (e.1, e.2.1)⟩

/-- The vector-unit path of a placement holds new batches, for the move back to its tile (R204, R211). -/
def State.vecHolds (s : State) (p : Placed) (k : Token) : Bool :=
  (s.homework.any fun h => h.step == 4 && h.copy.isNone && p.home == some h.tile) &&
    !(s.tile (s.tileFor k.job k.gen p)).begun.any fun b => b.key == k.batchKey

/-- The products of a token on the vector-unit path (R211). DEGRADED is set; a batch that straddles a forced move carries STALE (R204). -/
def vecProduct (s : State) (c : Nat) (k : Token) (p : Placed) : State :=
  let t := s.tileFor k.job k.gen p
  let stale := (s.tile t).straddle.contains k.batchKey
  let vs := s.vectorsOf t k
  emitProducts (s.each vs fun s _ => noteBatch s t k.batchKey) c 16 k p true (vs.map (s.vecRun t p.pair stale))

/-- The INPUT settings of a token's path and stream (R38) (DEDUCED, log 145). -/
def State.inputOf (s : State) (k : Token) : Option InputSpec :=
  (s.job k.job).sec.inputs.find? fun i => i.path == k.path && i.stream == k.stream

/-- The pixels of an INPUT token are converted and handed to the first operator (R38). -/
def convertInput (s : State) (c : Nat) (k : Token) : State :=
  match s.inputOf k, s.operOf k with
  | some i, some o =>
    let codes := k.payload.map (inputCode i.inZero i.inScale)
    let k' := { k with kind := 1, srcClu := c, srcUnit := 16, dstClu := o.clu, dstUnit := o.unit, payload := codes }
    if o.clu = c && o.unit = 17 then pitchPut s (.unit c 17) k'
    else emitOne s c 16 k .int8 codes ⟨o.oper, o.clu, o.unit, if o.unit = 19 then 5 else 1, 0, 0, 0⟩
  | _, _ => s

/-- A token the vector unit of cluster `c` can start: an INPUT token held by the DMA engine, an activation for an operator placed
there (with its partner for ELEMWISE), or a product on the vector-unit path. Partials and STATE have commands of their own. -/
def State.vectorReady (s : State) (c : Nat) (h : Held) : Bool :=
  (h.place == .unit c 17 && h.tok.kind == 0) ||
  (h.place == .unit c 16 && h.tok.kind != 2 && h.tok.kind != 3 &&
    match s.operOf h.tok with
    | none => false
    | some o =>
      if o.kind.onTiles || o.kind == .mix64 then ((s.vecPlaced c h.tok).map fun p => !s.vecHolds p h.tok).getD false
      else o.kind != .state && (!o.kind.binary || (s.partner h).isSome))

/-- A partial waits for its slot at the vector unit of cluster `c` (R107). -/
def partialReady (c : Nat) (h : Held) : Bool := h.place == .unit c 16 && (h.tok.kind == 2 || h.tok.kind == 3)

/-- The recurrent state of a stream in a job (R109). -/
def State.recurOf (s : State) (j st : Nat) : List Int := spGet (fun _ => []) s.recur (48 * j + st % 48)

/-- Replaces the recurrent state of a stream in a job. -/
def State.putRecur (s : State) (j st : Nat) (v : List Int) : State := s.setRecur (spSet (fun _ => []) s.recur (48 * j + st % 48) v)

/-- A STATE token's turn has come (R109): every earlier batch of its stream that was dispatched on the operator's path has been
updated. -/
def State.stateTurn (s : State) (k : Token) (o : OperSpec) : Bool :=
  match s.batchOf k with
  | none => true
  | some b =>
    !s.batches.any fun e =>
      e.job == b.job && e.stream == b.stream && e.started && decide (e.k < b.k) && e.paths.contains o.path &&
        !s.stDone.contains (e.job, e.stream, e.k)

/-- A STATE token whose turn has come waits at the vector unit of cluster `c` (R109). -/
def State.stateReady (s : State) (c : Nat) (h : Held) : Bool :=
  h.place == .unit c 16 && h.tok.kind != 2 && h.tok.kind != 3 &&
    match s.operOf h.tok with
    | some o => o.kind == .state && s.stateTurn h.tok o
    | none => false

/-- The token a unit starts next, when it is of the kind asked for (R330): of all that are ready at the unit the one of highest priority;
one of another kind is left to its own command. -/
def takeKind (s : State) (c u : Nat) (ready mine : Held → Bool) : State × Option Held :=
  match takeNext s c u ready with
  | (s', some h) => if mine h then (s', some h) else (s, none)
  | (_, none) => (s, none)

/-- The tokens the vector unit of cluster `c` chooses among (R330). -/
def State.vecUnitReady (s : State) (c : Nat) (h : Held) : Bool := s.vectorReady c h || partialReady c h || s.stateReady c h

/-- The vector unit of cluster `c` executes an operator on the next token (R50, R330) (DEDUCED, log 82). -/
def vectorOp (s : State) (c : Nat) : State :=
  match takeKind s c 16 (s.vecUnitReady c) (s.vectorReady c) with
  | (s, none) => s
  | (s, some h) =>
    let k := h.tok
    if k.epoch != (s.job k.job).epoch then s.bump R.EPOCH_DROP_CNT_COUNT c
    else if k.kind = 0 then pitchEnter (convertInput s c k)
    else match s.operOf k with
      | none => s
      | some o =>
        if o.kind.onTiles || o.kind == .mix64 then
          match s.vecPlaced c k with
          | some p => pitchEnter (vecProduct s c k p)
          | none => s
        else if o.kind.binary then
          match s.partner h with
          | some x =>
            let s := pitchTake s x
            let a := if k.part < x.tok.part then k else x.tok
            let b := if k.part < x.tok.part then x.tok else k
            pitchEnter (emitAll s c 16 { k with flags := k.flags.or x.tok.flags } o.fmt (vectorOut o a.payload b.payload) o.routes)
          | none => s
        else pitchEnter (emitAll s c 16 k o.fmt (vectorOut o k.payload []) o.routes)

/-- A vector unit executes an operator on a token (R50). -/
def execVectorOp (c : Fin 256) (s : State) : Out := .next (vectorOp s c.val)

/-! ### Reduction -/

/-- The open slots of a group at its reduction point (R106). -/
def State.slotsOf (s : State) (c : Nat) (k : Token) : Nat :=
  (s.slots.filter fun x => x.clu == c && x.job == k.job && x.oper == k.oper).length

/-- RED_SLOTS of cluster `c` shows the slots open, and the most at once (R122). -/
def showSlots (s : State) (c : Nat) : State :=
  let n := (s.slots.filter fun x => x.clu == c).length
  (s.wrSat R.RED_SLOTS_OPEN c n).wrSat R.RED_SLOTS_PEAK c (max n (s.rd R.RED_SLOTS_PEAK c))

/-- The open slots of job `j` are given up (R334). -/
def dropSlots (s : State) (j : Nat) : State :=
  let cs := dedupNat ((s.slots.filter fun x => x.job == j).map RedSlot.clu)
  (s.setSlots (s.slots.filter fun x => x.job != j)).each cs showSlots

/-- An ACT token the DMA engine of cluster `c` can open a slot for: its operator has a group there with a slot free (R106). -/
def State.slotReady (s : State) (c : Nat) (h : Held) : Bool :=
  h.place == .unit c 17 && h.tok.kind == 1 &&
    match s.operOf h.tok with
    | none => false
    | some o => decide (s.slotsOf c h.tok < o.slots)

/-- Sends one tile of a reduction group its inputs (R106): the 512 of its row block; a tile on the vector-unit path gets them at
its cluster's vector unit (R211). -/
def feedTile (s : State) (c : Nat) (k : Token) (p : Placed) : State :=
  match s.shardRoute k.job p with
  | none => s
  | some r =>
    let t := s.unitFor k.job k.gen p
    let pay := (k.payload.drop (512 * r.part)).take 512
    emitTo s c 17 k .int8 pay ⟨k.oper, t.1, t.2, 1, 0, r.part, r.npart⟩

/-- The placements of the tiles that feed the group of a token at its reduction point. -/
def State.groupOf (s : State) (c : Nat) (k : Token) : List Placed :=
  (s.job k.job).placed.filter fun p =>
    p.oper == k.oper && ((s.shardRoute k.job p).map fun r => r.clu == c).getD false

/-- A token held by the DMA engine of cluster `c` that needs no slot (R92). -/
def State.dmaMovable (s : State) (c : Nat) (h : Held) : Bool :=
  h.place == .unit c 17 && (h.tok.kind == 1 || h.tok.kind == 4) &&
    match s.operOf h.tok with
    | some o => o.slots == 0
    | none => false

/-- The tokens the DMA engine of cluster `c` chooses among (R330). -/
def State.dmaReady (s : State) (c : Nat) (h : Held) : Bool := s.slotReady c h || s.dmaMovable c h

/-- The reduction point opens a free slot for an ACT token under its TAG, OPER and SEG, and sends the inputs to the group's tiles
(R106). -/
def slotOpen (s : State) (c : Nat) : State :=
  match takeKind s c 17 (s.dmaReady c) (s.slotReady c) with
  | (s, none) => s
  | (s, some h) =>
    let k := h.tok
    if k.epoch != (s.job k.job).epoch then s.bump R.EPOCH_DROP_CNT_COUNT c
    else
      let s := s.setSlots (s.slots ++ [⟨c, k.job, k.tag, k.oper, k.seg, List.replicate 256 0, 0, 0, k.flags, k⟩])
      pitchEnter ((showSlots s c).each (s.groupOf c k) fun s p => feedTile s c k p)

/-- A reduction point opens a slot (R106). -/
def execSlotOpen (c : Fin 256) (s : State) : Out := .next (slotOpen s c.val)

/-- The slot a partial belongs to (R106). -/
def RedSlot.takes (x : RedSlot) (c : Nat) (k : Token) : Bool :=
  x.clu == c && x.job == k.job && x.tag == k.tag && x.oper == k.oper && x.seg == k.seg

/-- The value a full slot delivers (R107): the sum times the operator's scale, rounded once and, for integers, saturated. -/
def slotValue (o : OperSpec) (sum : Int) : Int := o.fmt.deliver ((FVal.ofInt sum).mul (fmt16.decode o.scale.toNat))

/-- A complete slot is delivered and freed (R107): scaled along the operator's routes, or, to a second-level reduction point,
unscaled as a PART32 token. -/
def deliverSlot (s : State) (c : Nat) (x : RedSlot) (o : OperSpec) : State :=
  let k := { x.tok with flags := x.flags }
  let s := showSlots (s.setSlots (s.slots.erase x)) c
  s.each o.routes fun s r =>
    if r.kind = 3 then
      emitOne s c 16 { k with payload := x.sums } .int16 x.sums r
    else emitOne s c 16 k o.fmt (x.sums.map (slotValue o)) r

/-- One partial is added into its slot (R107); one too many, which finds its slot full or
already freed, sets RED_OVER and recovers the job. -/
def addPartial (s : State) (c : Nat) (k : Token) : State :=
  match s.slots.find? fun x => x.takes c k with
  | none => detectFault (s.raise R.CLU_EVT_RED_OVER c) k.job ⟨fcToken, false, 4, c, .none⟩
  | some x =>
    if k.npart + 1 < x.count + 1 then
      detectFault (s.raise R.CLU_EVT_RED_OVER c) k.job ⟨fcToken, false, 4, c, .none⟩
    else
      let x' := { x with
        sums := (List.range 256).map fun i => (x.sums[i]?).getD 0 + (k.payload[i]?).getD 0,
        count := x.count + 1, npart := k.npart, flags := x.flags.or k.flags }
      let s := s.setSlots (s.slots.map fun y => if y == x then x' else y)
      if x'.count = k.npart + 1 then
        match s.operOf k with
        | some o => deliverSlot s c x' o
        | none => s
      else s

/-- The vector unit of cluster `c` adds the next partial that has arrived (R107, R330) (DEDUCED, log 83). -/
def partialAccumulate (s : State) (c : Nat) : State :=
  match takeKind s c 16 (s.vecUnitReady c) (partialReady c) with
  | (s, none) => s
  | (s, some h) =>
    if h.tok.epoch != (s.job h.tok.job).epoch then s.bump R.EPOCH_DROP_CNT_COUNT c
    else pitchEnter (addPartial s c h.tok)

/-- A partial is added into its reduction slot (R107). -/
def execPartialAccumulate (c : Fin 256) (s : State) : Out := .next (partialAccumulate s c.val)

/-! ### Recurrent state -/

/-- The STATE operator of a stream updates its state with the next token whose turn it is (R109). -/
def stateUpdate (s : State) (c : Nat) : State :=
  match takeKind s c 16 (s.vecUnitReady c) (s.stateReady c) with
  | (s, none) => s
  | (s, some h) =>
    let k := h.tok
    if k.epoch != (s.job k.job).epoch then s.bump R.EPOCH_DROP_CNT_COUNT c
    else match s.operOf k with
      | none => s
      | some o =>
        let v := (Config.gatedUpdate o.scale o.bias (s.recurOf k.job k.stream) k.payload).map o.fmt.hold
        let s := s.putRecur k.job k.stream v
        let s := match s.batchOf k with
          | some b => s.setStDone (s.stDone ++ [(b.job, b.stream, b.k)])
          | none => s
        pitchEnter (emitAll s c 16 k o.fmt v o.routes)

/-- The STATE operator updates the recurrent state in batch order (R109). -/
def execStateUpdate (c : Fin 256) (s : State) : Out := .next (stateUpdate s c.val)

/-! ### Job addresses -/

/-- The PPN is that of a page of activation SRAM or of staging memory (R327). -/
def ppnValid (ppn : Nat) : Bool := decide (ppn < 3072) || decide (0xC00 ≤ ppn ∧ ppn ≤ 0xDFF)

/-- A staging page inside the firmware fence (R327, R328, R358). -/
def State.ppnFenced (s : State) (ppn : Nat) : Bool :=
  decide (0xC00 ≤ ppn) && decide (s.rd R.PROT_FENCE_FENCE_LO 0 ≤ ppn - 0xC00 ∧ ppn - 0xC00 ≤ s.rd R.PROT_FENCE_FENCE_HI 0)

/-- The entry by which the DMA engine of cluster `c` translates page `i` of job `j`: that of its cache, or on a miss the hub's table (R328). -/
def State.entryFor (s : State) (c j i : Nat) : Pte :=
  match s.xlates.find? fun e => e.clu == c && e.job == j && e.ix == i with
  | some e => e.pte
  | none => s.pte j i

/-- A miss of the cache is filled from the hub's table; of a cluster's 32 entries the oldest gives way (R328) (DESIGN CHOICE, log 81). -/
def fillXlate (s : State) (c j addr : Nat) : State :=
  let i := addr / 65536 % 4096
  if decide (2 ^ 28 ≤ addr) || s.xlates.any fun e => e.clu == c && e.job == j && e.ix == i then s
  else
    let full := decide (32 ≤ (s.xlates.filter fun e => e.clu == c).length)
    let l := if full then s.xlates.eraseP fun e => e.clu == c else s.xlates
    s.setXlates (l ++ [⟨c, j, i, s.pte j i⟩])

/-- The cache entries of the pages an access of `n` bytes touches are filled, in order (R328). -/
def fillXlates (s : State) (c j addr n : Nat) : State :=
  s.each (List.range ((addr % 65536 + n + 65535) / 65536)) fun s i => fillXlate s c j (addr / 65536 * 65536 + 65536 * i)

/-- The physical place of one byte under a job address for the DMA engine of cluster `c` (R328), none for a translation fault. -/
def State.translate (s : State) (c j addr : Nat) (write : Bool) : Option (Nat × Nat) :=
  let e := s.entryFor c j (addr / 65536 % 4096)
  if 2 ^ 28 ≤ addr || !e.v || (write && !e.w) || (!write && !e.r) || !ppnValid e.ppn || s.ppnFenced e.ppn ||
      (decide (e.ppn < 3072) && e.ppn / 12 != c) then none
  else some (e.ppn, addr % 65536)

/-- Stores a byte at a place of a physical page (R327). -/
def State.putPage (s : State) (ppn off : Nat) (b : Byte) : State :=
  if ppn < 3072 then s.setSram (spSet (fun _ => 0) s.sram (65536 * ppn + off) b)
  else s.putSt (65536 * (ppn - 0xC00) + off) [b]

/-- A translation fault (R328): the address is recorded and the job recovered. -/
def xlateFault (s : State) (c j addr : Nat) : State :=
  detectFault (s.wr R.JOB_XADDR_ADDR j addr) j ⟨fcXlate, false, 5, c, .none⟩

/-- Writes bytes under a job address until one cannot be translated (R328). The second part says whether all were written. -/
def dmaWrite (s : State) (c j addr : Nat) : List Byte → State × Bool
  | [] => (s, true)
  | b :: rest =>
    match s.translate c j addr true with
    | none => (xlateFault (fillXlate s c j addr) c j addr, false)
    | some (ppn, off) => dmaWrite ((fillXlate s c j addr).putPage ppn off b) c j (addr + 1) rest

/-- The first byte of a read that cannot be translated (R328). -/
def State.dmaBad (s : State) (c j addr : Nat) : Nat → Option Nat
  | 0 => none
  | n + 1 => if (s.translate c j addr false).isNone then some addr else s.dmaBad c j (addr + 1) n

/-- A page is scrubbed to zero (R90, R329). -/
def scrubPage (s : State) (ppn : Nat) : State :=
  if ppn < 3072 then s.setSram (s.sram.filter fun e => e.1 / 65536 != ppn)
  else s.setStaging (s.staging.filter fun e => e.1 / 65536 + 0xC00 != ppn)

/-- An SRAM word is read with an error (R90): a corrected one is counted; an uncorrectable one recovers the job holding the page,
or the page is scrubbed when no job holds it. -/
def sramError (s : State) (c ppn : Nat) (e : MemErr) : State × Bool :=
  match e with
  | .none => (s, true)
  | .corrected => ((s.bump R.SRAM_CE_CNT_COUNT c).raise R.CLU_EVT_SRAM_CE c, true)
  | .uncorrectable =>
    let s := s.raise R.CLU_EVT_SRAM_UE c
    let holders := jobNums.filter fun j => (s.job j).admitted && (List.range 4096).any fun i => (s.pte j i).v && (s.pte j i).ppn == ppn
    if holders.isEmpty then (scrubPage s ppn, false)
    else (faultAll s holders ⟨fcSramUe, false, 2, c, .page ppn⟩, false)

/-- The next token of the DMA engine of cluster `c`, when it is one of job `j` that needs no slot, moves on to the unit of its operator (R92,
R330). -/
def dmaMove (s : State) (c j : Nat) : State :=
  match takeKind s c 17 (s.dmaReady c) (fun h => s.dmaMovable c h && h.tok.job == j) with
  | (s, none) => s
  | (s, some h) =>
    if h.tok.epoch != (s.job h.tok.job).epoch then s.bump R.EPOCH_DROP_CNT_COUNT c
    else pitchEnter (pitchPut s (.unit c 16) h.tok)

/-- The DMA engine of cluster `c` makes one access under a job address and moves a token (R92, R328): a fault of translation stops
the transfer at the faulting word, and what was written stays. -/
def dmaTransfer (s : State) (c : Nat) (a : DmaAccess) : State :=
  if a.write then
    let r := dmaWrite s c a.job a.addr a.bytes
    if r.2 then dmaMove r.1 c a.job else r.1
  else
    match s.dmaBad c a.job a.addr a.len with
    | some bad => xlateFault (fillXlates s c a.job a.addr (bad + 1 - a.addr)) c a.job bad
    | none =>
      let s := fillXlates s c a.job a.addr a.len
      let r := match s.translate c a.job a.addr false with
        | some (ppn, _) => if ppn < 3072 then sramError s c ppn a.ecc else (s, true)
        | none => (s, true)
      if r.2 then dmaMove r.1 c a.job else r.1

/-- A cluster's DMA engine translates job addresses and moves a token (R328). -/
def execDmaTransfer (c : Fin 256) (a : DmaAccess) (s : State) : Out := .next (dmaTransfer s c.val a)

/-- A unit of cluster `c` failed (R332): a UNIT fault of every job using it. The second fault of the cluster within 1 s withdraws the
cluster: at the restart of a job that ran there, or at once. -/
def unitFault (s : State) (c : Nat) (dma : Bool) : State :=
  let again := ((spGet (fun _ => none) s.unitUe c).map fun t => !s.passed t (1000 * msec)).getD false
  let js := jobNums.filter fun j => (s.job j).started && (s.job j).clusters.contains c
  let s := s.setUnitUe (spSet (fun _ => none) s.unitUe c (some s.now))
  let s := faultAll s js ⟨fcUnit, false, if dma then 5 else 4, c, if again then .unit c else .reset c⟩
  if again && js.isEmpty && !s.cluOut.contains c then s.setCluOut (s.cluOut ++ [c]) else s

/-- A vector-unit or DMA handshake open for 10 µs, or a failed internal check, is a UNIT fault of every job using the unit
(R332). -/
def execUnitTimeout (c : Fin 256) (dma : Bool) (s : State) : Out := .next (unitFault s c.val dma)

end Sys2Proof.Machine
end

