-- ==== Sys2Proof/Machine/Mesh.lean ====
section
/-! DEFINITION. Machine/Mesh.lean: the photonic chiplets (R128 to R150): MESH tokens and passes, tables, the states of a chiplet,
matrix changes, trims, swaps and failures. -/

namespace Sys2Proof.Machine

/-- Chiplet `k`. -/
def State.chip (s : State) (k : Nat) : Chip := spGet (fun _ => Chip.reset) s.chips k

/-- Replaces chiplet `k`. -/
def State.putChip (s : State) (k : Nat) (v : Chip) : State := s.setChips (spSet (fun _ => Chip.reset) s.chips k v)

/-- The states of R139. -/
abbrev msUnused : Nat := 0
/-- CHANGING. -/
abbrev msChanging : Nat := 1
/-- SETTLING. -/
abbrev msSettling : Nat := 2
/-- IN_SERVICE. -/
abbrev msService : Nat := 3
/-- REBUILD. -/
abbrev msRebuild : Nat := 4
/-- OUT_OF_SERVICE. -/
abbrev msOut : Nat := 5

/-- The state of chiplet `k`. -/
def State.meshState (s : State) (k : Nat) : Nat := s.rd R.MESH_STAT_STATE k

/-- Puts chiplet `k` in a state. -/
def setMesh (s : State) (k st : Nat) : State := s.wr R.MESH_STAT_STATE k st

/-- The numbers of the chiplets. -/
def chipNums : List Nat := List.range 4

/-- The job that holds chiplet `k`. -/
def State.meshJob (s : State) (k : Nat) : Option Nat := if s.on R.MESH_STAT_HELD k then some (s.rd R.MESH_STAT_JOB k) else none

/-! ### Tables -/

/-- A table entry at reset (R154): heaters at zero power, unit gain, zero field. -/
def meshTblReset (key : Nat) : Word :=
  match key / 16384 % 4 with
  | 1 => 0x4000
  | 2 => 512
  | _ => 0

/-- The entries of an area (R154). -/
def areaSize (area : Nat) : Nat :=
  match area with
  | 0 => 8192
  | 1 => 512
  | 2 => 2048
  | _ => 0

/-- The key of an entry. -/
def meshKey (k bank area ix : Nat) : Nat := 131072 * k + 65536 * bank + 16384 * area + ix

/-- An entry of a chiplet's table (R154). -/
def State.meshTblAt (s : State) (k bank area ix : Nat) : Word := spGet meshTblReset s.meshTbl (meshKey k bank area ix)

/-- Writes an entry of a chiplet's table. -/
def State.putMeshTbl (s : State) (k bank area ix : Nat) (w : Word) : State :=
  s.setMeshTbl (spSet meshTblReset s.meshTbl (meshKey k bank area ix) w)

/-- The bank of chiplet `k` in service. -/
def State.meshBank (s : State) (k : Nat) : Nat := s.rd R.MESH_STAT_BANK k

/-- Writes the heater powers of a computation into a bank (R137, R142). -/
def writeHeaters (s : State) (k bank ix : Nat) : State :=
  s.each (List.range 8192) fun s i => s.putMeshTbl k bank 0 i (BitVec.ofNat 32 (Config.heaterPower ix i % 65536))

/-- Writes the receive table of a computation into a bank (R137). -/
def writeReceive (s : State) (k bank ix : Nat) : State :=
  s.each (List.range 512) fun s i => s.putMeshTbl k bank 1 i (Config.receiveEntry ix i &&& 0x00FF_FFFF)

/-- RESID_TRIG of chiplet `k`, within 60 to 105 (R153). -/
def State.residTrig (s : State) (k : Nat) : Nat := max 60 (min 105 (s.rd R.MESH_CAL_CFG_RESID_TRIG k))

/-- DT_TRIG of chiplet `k` in units of 1/16 °C, within 4 to 12 quarter degrees (R153). -/
def State.meshDtTrig (s : State) (k : Nat) : Nat := 4 * max 4 (min 12 (s.rd R.MESH_CAL_CFG_DT_TRIG k))

/-- SWAP_WAIT of chiplet `k` in µs; 0 is taken as 1 (R153). -/
def State.meshWait (s : State) (k : Nat) : Nat := max 1 (s.rd R.MESH_SWAP_CFG_SWAP_WAIT k)

/-! ### Changes of state -/

/-- A trim starts (R139, R144): from IN_SERVICE to REBUILD; a second trigger in REBUILD restarts the computation; in any other
state the trigger is discarded. -/
def startTrim (s : State) (k : Nat) : State :=
  if !s.dutiesRun then s.holdStart (.trim k) else
  let c := s.chip k
  if s.meshState k = msService then
    (setMesh (s.putChip k { c with work := .trim, ready := false, stale := true }) k msRebuild).raise R.MESH_EVT_REBUILD k
  else if s.meshState k = msRebuild then s.putChip k { c with work := if c.work = .xtalk then .xtalk else .trim, ready := false, stale := true }
  else s

/-- A crosstalk rebuild starts (R142, R150): on a chiplet IN_SERVICE it enters REBUILD; UNUSED and OUT_OF_SERVICE keep their
state. -/
def startXtalk (s : State) (k : Nat) : State :=
  let c := s.chip k
  let s' := (s.putChip k { c with work := .xtalk, ready := false }).raise R.MESH_EVT_REBUILD k
  if s.meshState k = msService then setMesh (s'.putChip k { s'.chip k with stale := true }) k msRebuild
  else if s.meshState k = msUnused || s.meshState k = msOut then s'
  else s

/-- A matrix change begins (R139): CHANGING, abandoning a trim; outputs that were STALE stay so until the swap. -/
def startChange (s : State) (k shard : Nat) (m : List Byte) (why : MeshWhy) (drain : List (Nat × Nat)) : State :=
  setMesh (s.putChip k { s.chip k with
    next := some (shard, m), work := .matrix, ready := false, why := why, belled := false, drain := drain }) k msChanging

/-- A matrix change is given up before its swap (R141, R250): back to the old matrix, or UNUSED without one. -/
def abandonChange (s : State) (k : Nat) : State :=
  let c := s.chip k
  let s := s.putChip k { c with next := none, work := .none, ready := false, why := .none, belled := false, drain := [] }
  if s.meshState k = msChanging then
    if c.matrix.isSome then
      if c.stale then startTrim (setMesh s k msService) k else setMesh s k msService
    else setMesh s k msUnused
  else s

/-- The MIX64 operators that chiplet `k` serves for its job. -/
def State.chipOpers (s : State) (k : Nat) : List Nat :=
  match s.meshJob k with
  | some j => ((s.job j).chips.filter fun e => e.1 == k).map (·.2)
  | none => []

/-- Every pass in the chiplet is discarded. -/
def dropPasses (s : State) (k : Nat) : State := s.putChip k { s.chip k with toks := [], order := [] }

/-- A failure takes chiplet `k` out of service (R148): passes in it are lost and the holding job is recovered, to restart on its
substitute. A cause that counts as cleared at entry starts its rebuild with OOS_CLEARED. -/
def meshFail (s : State) (k : Nat) (cause : OosCause) : State :=
  if s.meshState k = msOut then s else
  let j := s.meshJob k
  let s := s.putChip k { s.chip k with
    toks := [], order := [], begun := [], straddle := [], next := none, work := .none, why := .none, ready := false, cause := cause, stale := false,
    cleared := false, drain := [] }
  let s := setMesh s k msOut
  match j with
  | some j => detectFault s j ⟨fcMesh, false, 6, k, .mesh k⟩
  | none => s

/-- The writes to MESH_OP_A_n and MESH_OP_B_n of chiplet `k` take effect (R155). -/
def applyMeshOps (s : State) (k : Nat) : State :=
  s.each (List.range 8) fun s n => (s.apply (R.MESH_OP_A.key k n)).apply (R.MESH_OP_B.key k n)

/-- The swap of R145 and R140: the other bank is selected, buffered entries take effect, and the chiplet settles. A swap to the
matrix of a new generation holds the batches that complete before the chiplet is back in service (R248). -/
def meshSwap (s : State) (k : Nat) : State :=
  let c := s.chip k
  let full := decide (c.work = .matrix)
  let s := match s.meshJob k with
    | some j => if full && decide (c.why = MeshWhy.bell) then s.putJob j { s.job j with holds := { (s.job j).holds with bell := true } } else s
    | none => s
  let s := s.putChip k { c with
    matrix := if full then c.next else c.matrix, next := if full then none else c.next,
    work := .none, ready := false, belled := false, drain := [], stale := false, swapAt := s.now, full := full, swapped := true, pilots := 0,
    badChan := none }
  let s := s.wr R.MESH_STAT_BANK k (1 - s.meshBank k)
  let s := (s.wr R.MESH_TEMP_CAL_MEAN k (s.rd R.MESH_TEMP_MEAN k)).bump R.MESH_CAL_CNT_COUNT k
  let s := s.wrTime R.MESH_CAL_TIME_LO_TIME_LO R.MESH_CAL_TIME_HI_TIME_HI k
  setMesh ((applyMeshOps s k).raise R.MESH_EVT_SWAP k) k msSettling

/-- The swap point of chiplet `k` is reached (R139, R140, R145, R248). -/
def State.meshSwapPoint (s : State) (k : Nat) : Bool :=
  let c := s.chip k
  c.ready && match c.work with
    | .none => false
    | .trim | .xtalk => c.begun.isEmpty && c.toks.isEmpty
    | .matrix =>
      match c.why with
      | .load | .back | .none => c.toks.isEmpty
      | .grade => c.drain.isEmpty && c.toks.isEmpty
      | .bell => c.belled && c.drain.isEmpty && c.toks.isEmpty

/-- A chiplet swaps its banks when no batch straddles (R145). -/
def execMeshSwap (k : Fin 4) (s : State) : Out := .next (if s.meshSwapPoint k.val then meshSwap s k.val else s)

/-- The batches that straddle a swap of chiplet `k` now, with each operator of which tokens are still to pass (R145): a batch of which some MESH
tokens have passed and others have not, whatever operator they are for. -/
def State.meshStraddle (s : State) (k : Nat) : List (Nat × Nat) :=
  let c := s.chip k
  let part := c.begun.map (·.1)
  ((c.begun.map fun e => (e.1, e.2.1)) ++ (s.chipOpers k).flatMap fun o =>
    ((s.batches.filter fun b => b.started && part.contains ((b.job * 48 + b.stream) * 256 + b.k % 256) && !b.subst.contains o &&
      (s.job b.job).sec.meshes.any fun m => m.oper == o && b.paths.contains m.path).map fun b =>
        ((b.job * 48 + b.stream) * 256 + b.k % 256, o)).filter fun e => !c.passed.contains e)

/-- SWAP_WAIT expires while a trim or crosstalk rebuild waits for its swap point (R145): the chiplet swaps regardless, and what
remains of the batches that straddle the swap carries STALE. -/
def execMeshSwapForced (k : Fin 4) (s : State) : Out :=
  .next (
    let c := s.chip k.val
    if c.ready && (c.work == .trim || c.work == .xtalk) && s.passed c.holdAt (usec * s.meshWait k.val) then
      meshSwap ((s.putChip k.val { c with straddle := c.straddle ++ s.meshStraddle k.val }).raise R.MESH_EVT_SWAP_FORCED k.val) k.val
    else s)

/-- AGE_TRIG seconds after the last swap a trim starts (R144). -/
def execMeshAgeTrigger (k : Fin 4) (s : State) : Out :=
  .next (
    let age := s.rd R.MESH_CAL_CFG_AGE_TRIG k.val
    if s.dutiesRun && age != 0 && s.passed (s.chip k.val).swapAt (1000 * msec * age) then startTrim s k.val else s)

/-- Every 100 µs firmware recomputes the ambient phase term (R142): a change of at most 2 mrad on every heater is applied to the
bank in service, a larger one is left to a trim. -/
def execAmbientUpdate (k : Fin 4) (small : Bool) (s : State) : Out :=
  .next (
    if s.meshState k.val = msUnused || s.meshState k.val = msOut || !small then s
    else
      let (ix, s) := s.draw
      writeHeaters s k.val (s.meshBank k.val) ix)

/-- A write of 1 to TRIM_START (R144, R153): ignored unless IN_SERVICE. -/
def trimStart (s : State) (k : Nat) : State := if s.meshState k = msService then startTrim s k else s

/-- A write of 1 to XT_START (R142, R150, R153): ignored unless UNUSED, IN_SERVICE or OUT_OF_SERVICE. A chiplet kept out of
service until power-up stays so. -/
def xtStart (s : State) (k : Nat) : State :=
  if !s.dutiesRun then s.holdStart (.xtalk k)
  else if s.meshState k = msOut && (s.chip k).failed then s else startXtalk s k

/-- TRIM_START of MESH_CAL_CMD (R144). -/
def execTrimStart (k : Fin 4) (s : State) : Out := .next (trimStart s k.val)

/-- XT_START of MESH_CAL_CMD (R142). -/
def execXtStart (k : Fin 4) (s : State) : Out := .next (xtStart s k.val)

/-! ### Tokens and passes -/

/-- The chiplet of the mesh interface at cluster `c` (R97): none where there is no interface. -/
def chipOfClu (c : Nat) : Option Nat :=
  if c % 16 = 7 then some (2 * (c / 128) + c % 128 / 64) else none

/-- The MESH_OP entry in force that serves operator `oper` on chiplet `k` (R155). -/
def State.meshEntry (s : State) (k oper : Nat) : Option Nat :=
  (List.range 8).find? fun n => s.frc2 R.MESH_OP_A_EN k n == 1 && s.frc2 R.MESH_OP_A_OPER k n == oper

/-- The passes of a MESH token. -/
def MeshTok.passes (m : MeshTok) : Nat := m.tok.len / 16

/-- Passes of the tokens at the interfaces enter the drive buffer of 16 passes while it has room (R135): of the token that came first and
has passes left. -/
def fillDrive : Nat → Chip → Chip
  | 0, c => c
  | n + 1, c =>
    match c.toks.find? fun m => decide (m.loaded < m.passes) with
    | none => c
    | some m =>
      if 16 ≤ c.order.length then c
      else fillDrive n { c with
        toks := c.toks.map fun x => if x == m then { m with loaded := m.loaded + 1 } else x, order := c.order ++ [m.clu] }

/-- Interface `c` still has a token whose passes have not all entered the drive buffer. -/
def Chip.feeding (p : Chip) (c : Nat) : Bool := p.toks.any fun m => m.clu == c && decide (m.loaded < m.passes)

/-- Chiplet `k` holds back a token (R139, R145, R248): it settles or is out of service, or it waits for a swap point and no token
of the batch has passed, or the token belongs to the generation a bell's matrix is still to come for. -/
def State.meshHolds (s : State) (k : Nat) (t : Token) : Bool :=
  let c := s.chip k
  let st := s.meshState k
  st == msSettling || st == msOut || st == msUnused ||
    (c.ready && (c.work == .trim || c.work == .xtalk) && !c.begun.any fun e => e.1 == t.batchKey) ||
    (c.work == .matrix && c.why == .bell && (c.belled == (t.gen == s.rd R.WSET_JOB_GEN t.job)))

/-- The tokens of a batch are noted as entering (R145): key, operator, entered, passed. -/
def noteEntered (c : Chip) (key oper : Nat) : Chip :=
  match c.begun.find? fun e => e.1 == key && e.2.1 == oper with
  | none => { c with begun := c.begun ++ [(key, oper, 1, 0)] }
  | some _ => { c with begun := c.begun.map fun e => if e.1 == key && e.2.1 == oper then (e.1, e.2.1, e.2.2.1 + 1, e.2.2.2) else e }

/-- One token of a batch has passed (R145, R248): with TOK_PER_BATCH passed, the batch is complete at the chiplet. -/
def notePassed (c : Chip) (key oper tpb : Nat) : Chip :=
  let n := ((c.begun.find? fun e => e.1 == key && e.2.1 == oper).map fun e => e.2.2.2).getD 0 + 1
  let rest := c.begun.filter fun e => !(e.1 == key && e.2.1 == oper)
  if tpb ≤ n then
    { c with begun := rest, drain := c.drain.filter (· != (key, oper)), passed := c.passed ++ [(key, oper)],
             straddle := c.straddle.filter (· != (key, oper)) }
  else { c with begun := c.begun.map fun e => if e.1 == key && e.2.1 == oper then (e.1, e.2.1, e.2.2.1, n) else e }

/-- The interface at cluster `c` takes the next MESH token (R134): a bad one is discarded with BAD_OP and its job recovered; any other enters
the chiplet once the token before it has entered whole, pass by pass as the drive buffer has room (R135). -/
def meshToken (s : State) (c : Nat) : State :=
  match chipOfClu c with
  | none => s
  | some k =>
    match s.front (.unit c 19) with
    | none => s
    | some h =>
      let t := h.tok
      if h.stale || t.epoch != (s.job t.job).epoch then (pitchTake s h).bump R.EPOCH_DROP_CNT_COUNT c
      else if t.len % 16 != 0 || s.meshJob k != some t.job || (s.meshEntry k t.oper).isNone then
        detectFault ((pitchTake s h).raise R.MESH_EVT_BAD_OP k) t.job ⟨fcToken, false, 6, k, .none⟩
      else if s.meshHolds k t || (s.chip k).feeding c || decide (16 ≤ (s.chip k).order.length) then s
      else
        let c' := noteEntered (s.chip k) t.batchKey t.oper
        pitchEnter ((pitchTake s h).putChip k (fillDrive 16 { c' with toks := c'.toks ++ [⟨t, c, 0, [], [], 0⟩] }))

/-- A mesh interface checks a MESH token and places its passes in the drive buffer (R134). -/
def execMeshToken (c : Fin 256) (s : State) : Out := .next (meshToken s c.val)

/-- The input code of input `i` of wavelength `w` in pass `p` of a token (R128, R134): −128 is driven as −127. -/
def passInput (t : Token) (p w i : Nat) : Int := max (-127) (min 127 ((t.payload[512 * p + 64 * w + i]?).getD 0))

/-- The corrected output of R130, in units of 1/16 count: round(16 × G × (c − o)), ties to even, saturated. -/
def receiveCorrect (w : Word) (c : Int) : Int :=
  sat16 (idivRne ((fieldOf 0 16 w : Int) * (16 * c - toSigned 8 (fieldOf 16 8 w))) 16384)

/-- The drive codes of the 64 inputs of wavelength `w` in pass `p` of a token (R128): entry 256w + x + 128 of the predistortion table for
input code x. -/
def State.driveCodes (s : State) (k : Nat) (t : Token) (p w : Nat) : List Nat :=
  (List.range 64).map fun i => fieldOf 0 10 (s.meshTblAt k (s.meshBank k) 2 (256 * w + (passInput t p w i + 128).toNat))

/-- The scale s of the matrices of the operator a token is for, in units of 2⁻²⁴ (R137, R242). -/
def State.meshScale (s : State) (t : Token) : Nat :=
  max 1 (fixed16 (((s.meshUse t.job t.oper).map MeshUse.scale).getD 0).toNat).natAbs

/-- The ideal value of R131 of output `i` of a pass in units of 1/16 count, times 127 times the scale of the matrix in service. -/
def State.meshIdeal (s : State) (k : Nat) (t : Token) (p i : Nat) : Int :=
  let m := ((s.chip k).matrix.map (·.2)).getD []
  240 * ((List.range 64).map fun q => fixed16 (leAt m (2 * (64 * (i % 64) + q)) 2) * passInput t p (i / 64) q).sum

/-- The outputs of one pass (R130 to R132, R135): 512 values, output j of wavelength w at 64w + j; a wavelength whose inputs are
all zero gives exact zero. The codes of the converters are free, but never take the pass beyond the bounds of R51 and R52, 1.20 % or, with
STALE, 2.00 % (R146; DEDUCED, log 162). -/
def passOutputs (s : State) (k ix : Nat) (t : Token) (p : Nat) (stale : Bool) : List Int :=
  let den := 127 * s.meshScale t
  let outs := (List.range 512).map fun i =>
    if (List.range 64).all fun q => passInput t p (i / 64) q == 0 then 0
    else receiveCorrect (s.meshTblAt k (s.meshBank k) 1 i)
      (max (-127) (min 127 (Config.meshCode ix (i / 64) (i % 64) (s.driveCodes k t p (i / 64)))))
  let ideal := (List.range 512).map (s.meshIdeal k t p)
  if withinBound (1920 * den) (if stale then 200 else 120) ((outs.zip ideal).map fun e => e.1 * den - e.2) then outs
  else ideal.map fun v => sat16 (idivRne v den)

/-- Chiplet `k` launches the next pass of its drive buffer (R133, R135, R139, R148): not without the sample clock or a matrix, not while the
feed selector moves, and not in SETTLING, OUT_OF_SERVICE or UNUSED. A pass whose vectors are all zero is not launched and gives exact
zero (R132). -/
def passLaunch (s : State) (k : Nat) : State :=
  let st := s.meshState k
  let c := s.chip k
  if !s.on R.MESH_STAT_CLK_OK k || s.on R.FEED_STAT_MOVING 0 || c.matrix.isNone || st == msSettling || st == msOut || st == msUnused then s else
  match c.order with
  | [] => s
  | q :: order =>
    match c.toks.find? fun m => m.clu == q && decide (m.outs.length < m.loaded) with
    | none => s
    | some m =>
      let p := m.outs.length
      let dark := (List.range 512).all fun i => passInput m.tok p (i / 64) (i % 64) == 0
      let (ix, s) := s.draw
      let s := if dark then s else s.bump64 R.MESH_PASS_CNT_LO_COUNT_LO R.MESH_PASS_CNT_HI_COUNT_HI k
      let stale := c.stale || c.straddle.contains (m.tok.batchKey, m.tok.oper)
      let m' := { m with outs := m.outs ++ [passOutputs s k ix m.tok p stale], stales := m.stales ++ [stale] }
      s.putChip k (fillDrive 16 { c with order := order, toks := c.toks.map fun x => if x == m then m' else x })

/-- A chiplet launches a data pass (R135). -/
def execPassLaunch (k : Fin 4) (s : State) : Out := .next (passLaunch s k.val)

/-- The output tokens of a token of `p` passes (R135). -/
def outTokens (p : Nat) : Nat := (p + 3) / 4

/-- The next output token of an input token can be emitted: its passes, at most 4, are corrected. -/
def MeshTok.outReady (m : MeshTok) : Bool :=
  decide (m.emitted < outTokens m.passes) && decide (min m.passes (4 * m.emitted + 4) ≤ m.outs.length)

/-- An interface of chiplet `k` emits its next output token (R135): up to 4 passes, header fields by the matching entry. It enters the pitch
by the port toward x + 1 of its router (R97). -/
def meshOutput (s : State) (k : Nat) : State :=
  let c := s.chip k
  match c.toks.find? MeshTok.outReady with
  | none => s
  | some m =>
    match s.meshEntry k m.tok.oper with
    | none => s
    | some n =>
      let e := m.emitted
      let pay := ((m.outs.drop (4 * e)).take 4).flatten
      let stale := ((m.stales.drop (4 * e)).take 4).any id
      let tok := { m.tok with
        kind := 5, srcUnit := 19, srcClu := m.clu, dstClu := s.frc2 R.MESH_OP_B_DST_CLU k n, dstUnit := s.frc2 R.MESH_OP_B_DST_UNIT k n,
        oper := s.frc2 R.MESH_OP_A_NEXT_OPER k n, part := e, npart := outTokens m.passes - 1, len := 32 * (pay.length / 512),
        flags := { s.formFlags m.tok with stale := m.tok.flags.stale || stale }, payload := pay }
      let m' := { m with emitted := e + 1 }
      let fin := decide (outTokens m.passes ≤ e + 1)
      let toks := if fin then c.toks.erase m else c.toks.map fun x => if x == m then m' else x
      let c := { c with toks := toks }
      let c := if fin then notePassed c m.tok.batchKey m.tok.oper (max 1 (s.frc2 R.MESH_OP_A_TOK_PER_BATCH k n)) else c
      pitchEnter (pitchPut (s.putChip k c) (.entry m.clu 1) tok)

/-- A mesh interface emits an output token (R135). -/
def execMeshOutputToken (k : Fin 4) (s : State) : Out := .next (meshOutput s k.val)

/-- The batches of job `j` whose epoch has advanced are struck from every chiplet (R96, R248); its tokens there are discarded, each counted
in EPOCH_DROP_CNT of its interface's cluster. -/
def meshDropJob (s : State) (j : Nat) : State :=
  s.each chipNums fun s k =>
    let c := s.chip k
    if s.meshJob k == some j then
      let s := s.putChip k { c with
        toks := c.toks.filter fun m => m.tok.job != j, order := [], begun := [], drain := [], passed := [], straddle := [] }
      s.each (c.toks.filter fun m => m.tok.job == j) fun s m => s.bump R.EPOCH_DROP_CNT_COUNT m.clu
    else s

end Sys2Proof.Machine
end

