-- ==== Sys2Proof/Machine/Tables.lean ====
section
/-! DEFINITION. Machine/Tables.lean: calibration runs of a quadrant and the exchange of a tile's correction banks (R200 to R207). -/

namespace Sys2Proof.Machine

/-- The calibration sequencer of quadrant `q`. -/
def State.quad (s : State) (q : Nat) : QuadCal := spGet (fun _ => QuadCal.reset) s.quads q

/-- Replaces the calibration sequencer of quadrant `q`. -/
def State.putQuad (s : State) (q : Nat) (v : QuadCal) : State := s.setQuads (spSet (fun _ => QuadCal.reset) s.quads q v)

/-- The causes of a run (CAUSE of R222). -/
abbrev runTemp : Nat := 1
/-- Age. -/
abbrev runAge : Nat := 2
/-- Command. -/
abbrev runCmd : Nat := 3
/-- Residual. -/
abbrev runResid : Nat := 4
/-- First sweep. -/
abbrev runFirst : Nat := 5

/-- The states of a tile's table (R205). -/
abbrev tbServing : Nat := 0
/-- MEASURING. -/
abbrev tbMeasuring : Nat := 1
/-- HOLDING. -/
abbrev tbHolding : Nat := 2

/-- The service state of tile `t` (SVC of R223). -/
def State.svc (s : State) (t : Nat) : Nat := s.rd R.TCAL_STAT_SVC t

/-- Tile `t` serves: in service, due, or serving as a spare copy. -/
def State.serves (s : State) (t : Nat) : Bool := s.tileRuns t

/-- Tiles that a run measures: those neither under homework nor withdrawn (R202), nor being written; a tile written and read back that
awaits its roll call is measured in its round (R250). -/
def State.measurable (s : State) (t : Nat) : Bool :=
  s.svc t != svcHomework && s.svc t != svcWithdrawn &&
    !s.writes.any fun w => (w.tile == t || (w.pair && w.tile + 1 == t)) && (w.st != 3 || s.rd R.TCAL_STAT_TABLE t != tbServing)

/-- A run of the quadrant of tile `t` is on, and the round of `t` has not begun (R250). -/
def State.roundAhead (s : State) (t : Nat) : Bool :=
  let q := quadOf t
  s.rd R.QCAL_STAT_STATE q == 1 && !(s.quad q).lastBuilt && decide (s.rd R.QCAL_STAT_ROUND q < t % 512 / 64)

/-- DT_TRIG in units of 1/16 °C, within 4 to 40 quarter degrees (R221). -/
def State.dtTrig (s : State) : Nat := 4 * max 4 (min 40 (s.rd R.CAL_CFG_DT_TRIG 0))

/-- SHARE, within 1 to 16 (R221). -/
def State.share (s : State) : Nat := max 1 (min 16 (s.rd R.CAL_SHARE_SHARE 0))

/-- SWAP_WAIT of tile `t` in µs; 0 is taken as 1 (R223). -/
def State.swapWait (s : State) (t : Nat) : Nat := max 1 (s.rd R.TCAL_SWAP_SWAP_WAIT t)

/-! ### A round -/

/-- Step 1 of a roll call begins on tile `t` (R200, R203): MEASURING, with the temperature and drift age of this moment entered in
the standby bank; with `stale` its products carry STALE from now on. -/
def beginTile (s : State) (q t : Nat) (stale : Bool) : State :=
  let b := 1 - s.bankOf t
  let s := (s.wr R.TCAL_STAT_TABLE t tbMeasuring).putTile t { s.tile t with calSlots := 0 }
  let s := s.putTcal t b 280 (BitVec.ofNat 32 (s.rd R.QCAL_TEMP_MEAN q))
  let s := s.putTcal t b 281 (BitVec.ofNat 32 (s.rd R.DRIFT_LN_LN t))
  if stale then s.wr R.TCAL_STAT_STALE t 1 else s

/-- Round `r` of the run of quadrant `q` begins (R200): its tiles are 64r to 64r + 63 of the quadrant. A round without a tile to
measure is passed over; in an age or command run a tile is STALE from its step 1 on. -/
def beginRound (s : State) (q r : Nat) : Nat → State
  | 0 => s.putQuad q { s.quad q with lastBuilt := true }
  | fuel + 1 =>
    let ts := ((List.range 64).map fun i => 512 * q + 64 * r + i).filter s.measurable
    let s := s.wr R.QCAL_STAT_ROUND q r
    if ts.isEmpty then
      if r < 7 then beginRound s q (r + 1) fuel else s.putQuad q { s.quad q with lastBuilt := true }
    else
      let c := s.rd R.QCAL_STAT_CAUSE q
      (s.putQuad q { s.quad q with round := ts }).each ts fun s t => beginTile s q t (c = runAge || c = runCmd)

/-- A run of quadrant `q` starts (R202, R203). -/
def beginRun (s : State) (q cause : Nat) : State :=
  let wide := cause = runTemp || cause = runResid
  let s := ((s.wr R.QCAL_STAT_STATE q 1).wr R.QCAL_STAT_CAUSE q cause).wrB R.QCAL_STAT_QSTALE q wide
  let s := s.putQuad q { s.quad q with
    startT := s.rdInt R.QCAL_TEMP_MEAN q, round := [], unswapped := [], lastBuilt := false }
  let s := if wide then s.each ((tilesOf q).filter s.serves) fun s t => s.wr R.TCAL_STAT_STALE t 1 else s
  beginRound s q 0 8

/-- The temperature trigger's condition (R202). -/
def State.tempMet (s : State) (q : Nat) : Bool :=
  decide (s.dtTrig < (s.rdInt R.QCAL_TEMP_MEAN q - s.rdInt R.QCAL_TEMP_LAST q).natAbs)

/-- The residual trigger's condition (R202): some tile in service reads THRESH less 0.05 % or more. -/
def State.residMet (s : State) (q : Nat) : Bool :=
  (tilesOf q).any fun t => s.serves t && decide (s.thresh - 5 ≤ s.rd R.TCAL_EST_EST t)

/-- The first held trigger that is still met, in the order of R202. -/
def State.firstHeld (s : State) (q : Nat) : Option Nat :=
  let h := (s.quad q).held
  if h.contains runTemp && s.tempMet q then some runTemp
  else if h.contains runResid && s.residMet q then some runResid
  else if h.contains runCmd then some runCmd
  else none

/-- A trigger of quadrant `q` (R202): it starts a run, or is held during one. Before the first sweep has ended there is no run. -/
def triggerRun (s : State) (q cause : Nat) : State :=
  if !s.dutiesRun then s.holdStart (.run q cause) else
  if s.rd R.CAL_STAT_FIRST 0 ≠ 3 && s.rd R.QCAL_STAT_STATE q ≠ 2 then s
  else if s.rd R.QCAL_STAT_STATE q = 0 then beginRun s q cause
  else
    let c := s.quad q
    (s.putQuad q { c with held := if c.held.contains cause then c.held else c.held ++ [cause] }).wr R.QCAL_STAT_PENDING q 1

/-- A run of quadrant `q` ends (R207), and the triggers held meanwhile are evaluated (R202). -/
def endRun (s : State) (q : Nat) : State :=
  let s := (((s.wr R.QCAL_STAT_STATE q 0).wr R.QCAL_STAT_QSTALE q 0).bump R.QCAL_CNT_COUNT q).wrTime
    R.QCAL_TIME_LO_TIME_LO R.QCAL_TIME_HI_TIME_HI q
  let s := (s.wrInt R.QCAL_TEMP_LAST q (s.quad q).startT).raise R.CAL_EVT_RUN_DONE 0
  let next := s.firstHeld q
  let s := (s.putQuad q { s.quad q with held := [], endAt := s.now, lastBuilt := false }).wr R.QCAL_STAT_PENDING q 0
  match next with
  | some c => beginRun s q c
  | none => s

/-- The run of quadrant `q` ends when its last table is built and every tile it measured has swapped (R207). -/
def checkRunEnd (s : State) (q : Nat) : State :=
  let c := s.quad q
  if s.rd R.QCAL_STAT_STATE q = 1 && c.lastBuilt && c.round.isEmpty && c.unswapped.isEmpty then endRun s q else s

/-! ### The swap -/

/-- The weighted chalk ratio of a bank of tile `t` (R198): its RATIO entries of columns 0, 1, 3, 5 and 7 (DEDUCED, log 77). -/
def State.chalkRatio (s : State) (t bank : Nat) : Rat :=
  let r (c : Nat) : Rat := (fieldOf 0 16 (s.tcalAt t bank (272 + c)) : Rat) / 16384
  (15 * r 0 + 15 * r 1 + r 3 + 8 * r 5 + 8 * r 7) / 47

/-- LEG_MAP and ROWDRV_MAP of tile `t` take effect (R205). -/
def applyMaps (s : State) (t : Nat) : State :=
  (s.each (List.range 18) fun s k => s.apply (R.LEG_MAP.key t k)).apply (R.ROWDRV_MAP.key t 0)

/-- A word of TILE_CFG with CLIP_LVL and SA_CAL as a roll call found them (R201). -/
def clipWord (n : Nat) (w : Word) : Word := withField 0 1 (withField R.TILE_CFG_CLIP_LVL.lo 7 w n) (decide (n < 127)).toNat

/-- The settings of a batch, TILE_CFG first, with CLIP_LVL and SA_CAL as a roll call found them. -/
def clipWords (n : Nat) : List Word → List Word
  | [] => []
  | w :: ws => clipWord n w :: ws

/-- CLIP_LVL and SA_CAL as the roll call found them, at the boundary of the swap (R201): they change together with the table, so for
every batch that is waiting or begun too. -/
def applyClip (s : State) (t : Nat) : State :=
  match (s.tile t).clipNew with
  | none => s
  | some n =>
    let key := R.TILE_CFG.key t 0
    let s := s.setWord key (clipWord n (s.word key))
    let s := s.setInForce (spSet regReset s.inForce key (clipWord n (s.forceWord key)))
    let r := s.tile t
    showMode (s.putTile t { r with
      clipNew := none, snaps := r.snaps.map fun e => (e.1, clipWords n e.2)
      begun := r.begun.map fun b => { b with words := clipWords n b.words } }) t

/-- The live gain latched at a swap holds for the batches that straddle it (R197, R205). -/
def regain (s : State) (t : Nat) : State :=
  let r := s.tile t
  let g := s.rd R.LIVE_GAIN_GAIN t
  s.putTile t { r with begun := r.begun.map fun b => { b with gain := g } }

/-- Tile `t` exchanges its banks at a batch boundary (R205), where its live gain is latched and its estimates are made (R198, R208)
(DEDUCED, log 154). `forced` marks a swap of R204's third case: the batches begun carry STALE to their end. -/
def tableSwap (s : State) (t : Nat) (forced : Bool) : State :=
  let s := applyClip (applyMaps (s.wr R.TCAL_STAT_BANK t (1 - s.bankOf t)) t) t
  let r := s.tile t
  let s := s.putTile t { r with
    gFilt := r.gRc, gAt := s.now, straddle := if forced then r.straddle ++ r.begun.map TileBatch.key else r.straddle }
  let s := ((s.wr R.TCAL_STAT_TABLE t tbServing).wr R.TCAL_STAT_STALE t 0).wrB R.TCAL_STAT_FORCED t forced
  let s := if forced then s.raise R.CAL_EVT_FORCED 0 else s
  let s := estimate (regain (latchGain s t) t) t
  let q := quadOf t
  checkRunEnd (s.putQuad q { s.quad q with unswapped := (s.quad q).unswapped.filter (· != t) }) q

/-- The table of tile `t` is built (R204, R205): a tile that no job holds swaps at once, any other holds new batches back. -/
def tableBuilt (s : State) (t : Nat) : State :=
  if s.tileHeld t then (s.wr R.TCAL_STAT_TABLE t tbHolding).putTile t { s.tile t with holdAt := s.now }
  else tableSwap s t false

/-- No batch is left at tile `t` of which some products have run and others have not (R204). -/
def State.swapPoint (s : State) (t : Nat) : Bool := (s.tile t).begun.isEmpty

/-- A tile swaps correction banks at a batch boundary (R205). -/
def execTableSwap (t : Fin 4096) (s : State) : Out :=
  .next (if s.tileHolding t.val && s.swapPoint t.val then tableSwap s t.val false else s)

/-- SWAP_WAIT expires and the tile swaps regardless (R204). -/
def execTableSwapForced (t : Fin 4096) (s : State) : Out :=
  .next (
    if s.tileHolding t.val && s.passed (s.tile t.val).holdAt (usec * s.swapWait t.val) then
      tableSwap s t.val (!s.swapPoint t.val)
    else s)

/-- The measurement of a tile stops before its table is built (R206): its standby bank is discarded, and its run may end without it (R207).
A tile whose bank is complete keeps it. -/
def stopMeasuring (s : State) (t : Nat) : State :=
  let q := quadOf t
  let c := s.quad q
  if s.rd R.TCAL_STAT_TABLE t ≠ tbMeasuring then s
  else
    checkRunEnd ((s.wr R.TCAL_STAT_TABLE t tbServing).putQuad q
      { c with round := c.round.filter (· != t), unswapped := c.unswapped.filter (· != t) }) q

/-- Tile `t` leaves service: a measurement stops (R206), a complete bank swaps in, as no batch goes on at the tile (R205, R206). -/
def leaveTable (s : State) (t : Nat) : State :=
  if s.tileHolding t then tableSwap s t (!s.swapPoint t) else stopMeasuring s t

/-- An idle roll call of tile `t` is given up; a run measures the tile on (R206). -/
def abandonRoll (s : State) (t : Nat) : State := if (s.quad (quadOf t)).round.contains t then s else stopMeasuring s t

end Sys2Proof.Machine
end

