-- ==== Sys2Proof/Machine/Generation.lean ====
section
/-! DEFINITION. Machine/Generation.lean: tiles released, generations of a job rung in and retired (R245 to R250), and what ends
with a batch (R40, R103, R117). -/

namespace Sys2Proof.Machine

/-! ### Tiles no job holds -/

/-- The reserve tiles of quadrant `q`. -/
def State.reserveOf (s : State) (q : Nat) : List Nat := (tilesOf q).filter fun t => s.svc t == svcReserve

/-- The free tiles of quadrant `q`. -/
def State.freeOf (s : State) (q : Nat) : List Nat := (tilesOf q).filter fun t => s.svc t == svcFree

/-- HW_RESERVE tiles of quadrant `q` are withheld as far as free tiles go (R210, R221); a lower figure returns tiles. Which tiles
form the reserve is firmware's choice: the highest-numbered free ones (DESIGN CHOICE, log 33). -/
def fillReserve (s : State) (q : Nat) : State :=
  let want := s.rd R.HW_CFG_HW_RESERVE 0
  let have_ := s.reserveOf q
  let s := s.each ((s.freeOf q).reverse.take (want - have_.length)) fun s t => s.wr R.TCAL_STAT_SVC t svcReserve
  s.each (have_.take (have_.length - want)) fun s t => s.wr R.TCAL_STAT_SVC t svcFree

/-- What a placement set in TILE_CFG of tile `t` is cleared when the tile is no longer placed: SA_JOB and SLICE (R75, R78; DEDUCED, log 155). -/
def clearUse (s : State) (t : Nat) : State := (s.wr R.TILE_CFG_SA_JOB t 0).wr R.TILE_CFG_SLICE t 0

/-- Tiles that a job no longer holds return to the free pool (R240, R249) with SA_JOB and SLICE cleared (R75; DEDUCED, log 155); a due tile stays due,
to be rewritten in place (R211, R250), and a tile HOLDING for a swap swaps now (R204). -/
def releaseTiles (s : State) (ts : List Nat) : State :=
  let s := s.each ts fun s t =>
    if s.tileHeld t then s else
    let v := s.svc t
    let s := if v = svcService || v = svcCopy then s.wr R.TCAL_STAT_SVC t svcFree else s
    let s := clearUse (s.wr R.TCAL_STAT_PATH t 0) t
    if s.tileHolding t then tableSwap s t false else s
  s.each (dedupNat (ts.map quadOf)) fillReserve

/-! ### Slots of the store -/

/-- Job `j` runs on the set in slot `n` or stages to it (WSET_SLOT of R254). -/
def State.usesSlot (s : State) (j n : Nat) : Bool :=
  ((s.job j).admitted || (s.job j).loading) && (s.rd R.WSET_JOB_SLOT j == n ||
    ((s.rd R.WSET_JOB_STAGE j == 1 || s.rd R.WSET_JOB_STAGE j == 2 || s.rd R.WSET_JOB_STAGE j == 3) &&
      s.rd R.WSET_JOB_NEW_SLOT j == n))

/-- JOBS of every slot shows the jobs that use it. -/
def showStore (s : State) : State :=
  s.each (List.range 8) fun s n => s.wr R.WSET_SLOT_JOBS n (maskOf (jobNums.filter fun j => s.usesSlot j n))

/-! ### Bell and retirement -/

/-- Batches of job `j` in flight under generation `g`. -/
def State.batchesOfGen (s : State) (j g : Nat) : List Batch :=
  s.batches.filter fun b => b.job == j && b.started && b.gen == g

/-- The key of a batch as units tell batches apart. -/
def Batch.key (b : Batch) : Nat := (b.job * 48 + b.stream) * 256 + b.k % 256

/-- The batches and operators whose MESH tokens chiplet `k` has still to pass before its matrix may change (R140, R248): the
batches in flight of the job that run an operator the chiplet serves and have not passed it. -/
def State.meshDrain (s : State) (k : Nat) (bs : List Batch) : List (Nat × Nat) :=
  ((s.chipOpers k).map fun o => (bs.filter fun b =>
    !b.subst.contains o && !((s.chip k).passed.contains (b.key, o)) &&
      (s.job b.job).sec.meshes.any fun m => m.oper == o && b.paths.contains m.path).map fun b => (b.key, o)).flatten

/-- The hub is cutting a batch of job `j` into INPUT tokens (R245). -/
def State.cutting (s : State) (j : Nat) : Bool := s.batches.any fun b => b.job == j && b.started && !b.todo.isEmpty

/-- The old generation of job `j` retires when no tag of it is held (R249) (DEDUCED, log 85). -/
def retire (s : State) (j : Nat) : State :=
  let g := s.rd R.WSET_JOB_GEN j
  if s.rd R.WSET_JOB_STAGE j = 3 && (s.batchesOfGen j ((g + 15) % 16)).isEmpty then
    let job := s.job j
    let olds := job.placed.filter fun p => p.old.isSome
    let n := s.rd R.WSET_JOB_NEW_SLOT j
    let s := s.putJob j { job with
      placed := job.placed.map fun p => if p.old.isSome then { p with old := none, home := none, oldVec := false } else p,
      hdr := { job.hdr with wsetId := s.rd R.WSET_SLOT_ID_WSET_ID n } }
    let s := ((((s.wr R.WSET_JOB_SLOT j n).wr R.WSET_JOB_NEW_SLOT j 0).wr R.WSET_JOB_STAGE j 0).wr R.WSET_JOB_COPIES j 0).wr
      R.WSET_JOB_AUTO j 0
    let s := s.setStages (spSet (fun _ => WStage.none) s.stages j WStage.none)
    let s := s.each chipNums fun s k =>
      if s.meshJob k == some j && (s.chip k).next.isSome && decide ((s.chip k).why = MeshWhy.bell) then s.putChip k { s.chip k with drain := [] } else s
    let s := releaseTiles s (olds.map fun p =>
      (p.old.toList ++ p.home.toList).flatMap fun t => if p.pair then [t, t + 1] else [t]).flatten
    showStore (s.raise R.WSET_EVT_RETIRED 0)
  else s

/-- The staging of job `j`. -/
def State.stage (s : State) (j : Nat) : WStage := spGet (fun _ => WStage.none) s.stages j

/-- Replaces the staging of job `j`. -/
def State.putStage (s : State) (j : Nat) (v : WStage) : State := s.setStages (spSet (fun _ => WStage.none) s.stages j v)

/-- The bell of job `j` rings (R245, R246, R248): its generation advances, the copies take over for the tokens of the new
generation, and each chiplet with a changed matrix learns the batches still to pass. -/
def ringBell (s : State) (j : Nat) : State :=
  let g := s.rd R.WSET_JOB_GEN j
  let n := s.rd R.WSET_JOB_NEW_SLOT j
  let st := s.stage j
  let job := s.job j
  let inFlight := s.batchesOfGen j g
  let s := ((s.wr R.WSET_JOB_GEN j (g + 1)).wr R.WSET_JOB_STAGE j 3).raise R.WSET_EVT_BELL 0
  let s := s.putJob j { job with
    bellDue := false, noMap := st.noMap,
    placed := job.placed.map fun p =>
      match st.copies.find? fun c => c.shard == p.shard with
      | some c => { p with old := some p.tile, oldVec := p.vec, tile := c.tile, shared := false, vec := false, digest := mfDigest (s.slot n).manifest c.no }
      | none => p }
  let s := s.each chipNums fun s k =>
    let c := s.chip k
    if s.meshJob k == some j && c.next.isSome && decide (c.why = MeshWhy.bell) then
      s.putChip k { c with belled := true, drain := s.meshDrain k inFlight }
    else s
  let s := s.each st.copies fun s c => s.each (if c.pair then [c.tile, c.tile + 1] else [c.tile]) fun s t =>
    s.wr R.TCAL_STAT_SVC t svcService
  retire s j

/-- The bell of a READY staging is rung: outside the cutting of any batch of the job, else after the batch being cut (R245)
(DEDUCED, log 117). -/
def bell (s : State) (j : Nat) : State :=
  if s.cutting j then s.putJob j { s.job j with bellDue := true } else ringBell s j

/-- The bell of job `j` strikes once the batch that was being cut is wholly cut (R245). -/
def execBell (j : Fin 16) (s : State) : Out :=
  .next (if (s.job j.val).bellDue && !s.cutting j.val then ringBell s j.val else s)

/-! ### The end of a batch -/

/-- A job enters LOADED (R40): nothing of it is bound or held; with ON_JOB its plant outputs are cleared (R425), and its output
streams emit what they hold (R117) (DEDUCED, log 87). -/
def enterLoaded (s : State) (j : Nat) : State :=
  let s := s.putJob j { s.job j with
    st := .loaded, stopping := false, waiting := false, holds := { (s.job j).holds with grade := false, mesh := false } }
  let s := refreshWait (s.each streamNums fun s st => s.putBind j st Bind.none) j
  aoutJobLeaves (s.each (List.range 8) fun s p => seatFlush s (outOf j p)) j

/-- A stopped job whose last batch has delivered its results is LOADED, and JOB_STOP completes (R35, R40). -/
def checkStopped (s : State) (j : Nat) : State :=
  if (s.job j).stopping && !s.batches.any (fun b => b.job == j) then
    let s := enterLoaded s j
    match s.runningWith 0x0103 j with
    | some m => s.respond m .ok 0 []
    | none => s
  else s

/-- The NO_BASELINE batches of every bound stream of job `j` are complete: WARMING becomes RUNNING (R40). -/
def checkWarm (s : State) (j : Nat) : State :=
  let job := s.job j
  if job.st = .warming && !job.stopping && job.streams.all fun st => (s.bind j st).nbLeft == 0 then s.putJob j { job with st := .running } else s

/-- The last result of a batch has left the path-order stage (R103, R249): its tags return, and what waited for it goes on. -/
def finishBatch (s : State) (b : Batch) : State :=
  let s := s.setBatches (s.batches.filter fun x => !(x.job == b.job && x.stream == b.stream && x.k == b.k))
  let s := returnTags s b.job b.tags
  let s := s.setStDone (s.stDone.filter fun e => !(e.1 == b.job && e.2.1 == b.stream && e.2.2 == b.k))
  let s := s.each chipNums fun s k => s.putChip k { s.chip k with
    passed := (s.chip k).passed.filter fun e => e.1 != b.key, drain := (s.chip k).drain.filter fun e => e.1 != b.key,
    straddle := (s.chip k).straddle.filter fun e => e.1 != b.key }
  let bd := s.bind b.job b.stream
  let s := if bd.bound then s.putBind b.job b.stream { bd with nbLeft := bd.nbLeft - 1 } else s
  checkStopped (retire (checkWarm s b.job) b.job) b.job

/-- A batch whose paths have all delivered, and which is wholly cut, is finished. -/
def checkBatch (s : State) (b : Batch) : State :=
  if b.started && b.todo.isEmpty && b.paths.isEmpty then finishBatch s b else s

end Sys2Proof.Machine
end

