-- ==== Sys2Proof/Machine/Placement.lean ====
section
/-! DEFINITION. Machine/Placement.lean: which tiles and pages may be taken (R112, R210, R241, R243), and what firmware writes into a
tile it places (R84, R223, R226, R244). -/

namespace Sys2Proof.Machine

/-- Hops between two clusters of one half (R98). -/
def hops (a b : Nat) : Nat :=
  (max (cluX a) (cluX b) - min (cluX a) (cluX b)) + (max (cluY a) (cluY b) - min (cluY a) (cluY b))

/-- The tiles a placement on tile `t` takes. -/
def span (t : Nat) (pair : Bool) : List Nat := if pair then [t, t + 1] else [t]

/-- The tiles of a half, or the even ones for a pair (rule 8 of R112). -/
def tilesOfHalf (h : Nat) (pair : Bool) : List Nat :=
  if pair then (List.range 1024).map fun i => 2048 * h + 2 * i else (List.range 2048).map fun i => 2048 * h + i

/-- Rules 3 and 5 of R112 for a tile and its reduction point: one half, at most 8 hops. -/
def reaches (t rp : Nat) : Bool := halfOfTile t == halfOfClu rp && decide (hops (t / 16) rp ≤ 8)

/-- The output of a tile keeps within rules 3 and 5 of R112 on a route: a PART16 or PART32 stays in its half and within 8 hops. -/
def partialReach (r : Route) (t : Nat) : Bool := !(r.kind == 2 || r.kind == 3) || reaches t r.clu

/-- Every tile of a placement has a service state and lies in a cluster not withdrawn (R332). -/
def State.allSvc (s : State) (t : Nat) (pair : Bool) (v : Nat) : Bool :=
  (span t pair).all fun u => s.svc u == v && !s.cluOut.contains (u / 16)

/-- The tile fewest hops from a cluster, the lowest-numbered on a tie (R210, R243). -/
def nearest (rp : Nat) (ts : List Nat) : Option Nat :=
  ts.foldl (fun m t => match m with
    | none => some t
    | some x => if hops (t / 16) rp < hops (x / 16) rp then some t else some x) none

/-- The tile for a staging copy of a placement (R243): free, in the half of the tile it replaces; for a tile of a reduction group within reach
of its reduction point and nearest to it, for any other nearest to the tile it replaces. -/
def State.copyTile (s : State) (j : Nat) (p : Placed) : Option Nat :=
  let r := (s.shardRoute j p).filter fun r => r.kind == 2 || r.kind == 3
  let rp := (r.map Route.clu).getD (p.tile / 16)
  nearest rp ((tilesOfHalf (halfOfTile p.tile) p.pair).filter fun t =>
    s.allSvc t p.pair svcFree && (r.map fun r => partialReach r t).getD true)

/-- The clusters of the tiles of the group of a placement, with one tile replaced (DEDUCED, log 84). -/
def State.groupClus (s : State) (j : Nat) (p : Placed) (rp t : Nat) : List Nat :=
  ((s.job j).placed.filter fun q => q.oper == p.oper && ((s.shardRoute j q).map fun r => r.clu == rp).getD false).map fun q =>
    (if q.shard == p.shard then t else q.tile) / 16

/-- The reduction point of a list of tiles' clusters (rule 4 of R112): the cluster that holds most, the lowest-numbered on a tie. -/
def mostHeld (l : List Nat) : Option Nat :=
  let cs := sortBy (fun a b => decide (a ≤ b)) (dedupNat l)
  cs.foldl (fun m c => match m with
    | none => some c
    | some x => if l.count x < l.count c then some c else some x) none

/-- The placements that tile `t` serves, with their jobs. -/
def State.servedBy (s : State) (t : Nat) : List (Nat × Placed) :=
  jobNums.flatMap fun j => ((s.job j).placed.filter fun p => (span p.tile p.pair).contains t || (p.old.map fun o =>
    (span o p.pair).contains t).getD false).map fun p => (j, p)

/-- A tile satisfies rules 3 to 5 of R112 for every placement a spare copy of `t` would serve (R210). -/
def State.copyFits (s : State) (t c : Nat) : Bool :=
  (s.servedBy t).all fun e =>
    match s.shardRoute e.1 e.2 with
    | none => halfOfTile c == halfOfTile t
    | some r =>
      if r.kind == 2 || r.kind == 3 then reaches c r.clu && mostHeld (s.groupClus e.1 e.2 r.clu c) == some r.clu
      else halfOfTile c == halfOfTile t

/-- The reduction point of the first placement tile `t` serves, else its own cluster. -/
def State.pointOf (s : State) (t : Nat) : Nat :=
  (((s.servedBy t).head?.bind fun e => s.shardRoute e.1 e.2).map Route.clu).getD (t / 16)

/-- The tile for a spare copy of tile `t` (R210): a reserve tile before a free one, then the fewest hops. -/
def State.spareTile (s : State) (t : Nat) (pair : Bool) : Option Nat :=
  let rp := s.pointOf t
  let fit (v : Nat) := (tilesOfHalf (halfOfTile t) pair).filter fun c => s.allSvc c pair v && s.copyFits t c
  match nearest rp (fit svcReserve) with
  | some c => some c
  | none => nearest rp (fit svcFree)

/-! ### Pages -/

/-- A physical page is named by a valid entry of an admitted job, or holds the weights of a vector-unit path. -/
def State.pageHeld (s : State) (ppn : Nat) : Bool :=
  s.ptes.any (fun e => e.2.v && e.2.ppn == ppn) || s.homework.any fun h => h.pages.contains ppn

/-- The free activation SRAM pages of cluster `c`. -/
def State.freePages (s : State) (c : Nat) : List Nat :=
  ((List.range 12).map fun i => 12 * c + i).filter fun p => !s.pageHeld p && !s.retired.contains p && !s.cluOut.contains c

/-- The staging pages free for jobs: below the bulk region and outside the firmware fence (R273, R327). Those of 0x013F_0000, which
hold the reports of R317, are firmware's own. -/
def State.freeStagePages (s : State) : List Nat :=
  ((List.range 0x13F).map fun i => 0xC00 + i).filter fun p => !s.pageHeld p && !s.ppnFenced p

/-! ### A tile placed -/

/-- SLICE of a tile of a placement (R77). -/
def sliceCode (pair : Bool) (low : Bool) : Nat := if pair then (if low then 2 else 1) else 0

/-- Firmware writes TILE_CFG and COL_USE of a tile from its shard (R84, R88, R226); they take effect at its
next batch boundary. -/
def configTile (s : State) (t : Nat) (shard : List Byte) (pair low saJob : Bool) (perBatch : Nat) : State :=
  let set := leAt shard 0x0D 1
  let s := ((s.wr R.TILE_CFG_RANGE t (set % 4)).wr R.TILE_CFG_W_MAX t (set / 16)).wr R.TILE_CFG_SLICE t (sliceCode pair low)
  let s := (s.wrB R.TILE_CFG_SA_JOB t saJob).wr R.TCAL_SWAP_PROD_PER_BATCH t perBatch
  s.each (List.range 8) fun s k => s.setWord (R.COL_USE.key t k) (BitVec.ofNat 32 (leAt shard (0x14 + 4 * k) 4))

/-- Configures the tiles of a placement. -/
def configSpan (s : State) (t : Nat) (shard : List Byte) (pair saJob : Bool) (perBatch : Nat) : State :=
  let s := configTile s t shard pair false saJob perBatch
  if pair then configTile s (t + 1) shard pair true saJob perBatch else s

/-- A tile enters service for a job; one that a temperature or residual run has still to measure is STALE (R206). -/
def serveTile (s : State) (t : Nat) : State :=
  let s := s.wr R.TCAL_STAT_SVC t svcService
  let q := quadOf t
  let c := s.quad q
  let ahead := decide (s.rd R.QCAL_STAT_ROUND q < t % 512 / 64) || c.round.contains t || c.unswapped.contains t
  if s.on R.QCAL_STAT_QSTALE q && ahead then s.wr R.TCAL_STAT_STALE t 1 else s

end Sys2Proof.Machine
end

