-- ==== Sys2Proof/Machine/Writes.lean ====
section
/-! DEFINITION. Machine/Writes.lean: what waits for tiles to be written: the loading of a job, the staging of a set; how each goes
on, ends and is given up (R43, R44, R141, R163, R234, R241, R244, R250). -/

namespace Sys2Proof.Machine

/-- Replaces the staging of every request for tile `t` by `f`. -/
def mapWrite (s : State) (t : Nat) (f : WriteReq → WriteReq) : State :=
  s.setWrites (s.writes.map fun w => if w.tile == t then f w else w)

/-- The request whose tile, or whose pair, covers tile `t`. -/
def State.writeOf (s : State) (t : Nat) : Option WriteReq := s.writes.find? fun w => (span w.tile w.pair).contains t

/-- Removes the request for tile `t`. -/
def dropWrite (s : State) (t : Nat) : State := s.setWrites (s.writes.filter fun w => w.tile != t)

/-! ### A chiplet let go -/

/-- A chiplet is released by its job (R139): UNUSED with its heaters at zero power; one that is out of service stays so. -/
def releaseChip (s : State) (k : Nat) : State :=
  let s := (s.wr R.MESH_STAT_HELD k 0).wr R.MESH_STAT_SUBST k 0
  let s := s.putChip k { s.chip k with
    matrix := none, next := none, work := if (s.chip k).work = .xtalk then .xtalk else .none, ready := false, why := .none,
    belled := false, drain := [], passed := [], toks := [], order := [], begun := [], straddle := [], stale := false }
  let s := s.each [0, 1] fun s bank => s.each (List.range 8192) fun s i => s.putMeshTbl k bank 0 i 0
  let s := s.each (List.range 8) fun s n => s.setWord (R.MESH_OP_A.key k n) 0
  let s := applyMeshOps s k
  if s.meshState k = msOut then s else setMesh s k msUnused

/-! ### A chiplet given, and the return to a mesh -/

/-- The slot of the set in service of job `j`, and the SHARD_NO there of the image's shard `n` (R243, R249). -/
def State.shardRef (s : State) (j n : Nat) : Nat × Nat :=
  let slot := if s.rd R.WSET_JOB_STAGE j = 3 then s.rd R.WSET_JOB_NEW_SLOT j else s.rd R.WSET_JOB_SLOT j
  (slot, (((s.job j).noMap.find? fun e => e.1 == n).map (·.2)).getD n)

/-- The matrix of the image's shard `n` in the set in service of job `j` (R149). -/
def State.matrixOf (s : State) (j n : Nat) : List Byte :=
  let r := s.shardRef j n
  ((s.shardIn r.1 r.2).map shardMatrix).getD []

/-- The matrix a MIX64 operator uses in grade `g`, by its shard number (R39). -/
def MeshUse.matrixIn (m : MeshUse) (g : Nat) : Nat :=
  ((m.matrices.find? fun e => e.1 == g).map (·.2)).getD ((m.matrices.head?.map (·.2)).getD 0)

/-- The MESH_OP entries of chiplet `k` for the operators it serves (R155). -/
def writeMeshOps (s : State) (j k : Nat) : State :=
  let job := s.job j
  let ms := job.sec.meshes.filter fun m => job.chips.contains (k, m.oper)
  let s := s.each (List.range 8) fun s n =>
    match ms[n]? with
    | none => (s.setWord (R.MESH_OP_A.key k n) 0).setWord (R.MESH_OP_B.key k n) 0
    | some m =>
      let next := ((job.sec.opers.find? fun o => o.oper == m.oper).bind fun o => o.routes.head?.map Route.oper).getD 0
      let s := ((s.wr2 R.MESH_OP_A_OPER k n m.oper).wr2 R.MESH_OP_A_NEXT_OPER k n next).wr2 R.MESH_OP_A_TOK_PER_BATCH k n m.tokPerBatch
      ((s.wr2 R.MESH_OP_A_EN k n 1).wr2 R.MESH_OP_B_DST_CLU k n m.dstClu).wr2 R.MESH_OP_B_DST_UNIT k n m.dstUnit
  if s.meshState k = msUnused then applyMeshOps s k else s

/-- Chiplet `k` is given to job `j` for the operators already named in its `chips`: its matrix for the job's grade is set (R139,
R140, R149). -/
def placeMatrix (s : State) (j k : Nat) (why : MeshWhy) : State :=
  let job := s.job j
  match job.sec.meshes.find? fun m => job.chips.contains (k, m.oper) with
  | none => s
  | some m =>
    let s := (s.wr R.MESH_STAT_HELD k 1).wr R.MESH_STAT_JOB k j
    let n := m.matrixIn job.grade
    startChange (writeMeshOps s j k) k n (s.matrixOf j n) why []

/-- Job `j` no longer has a chiplet that is out of service hold it back: the operators that `k` served are moved to `k'` (R149). -/
def moveChip (s : State) (j k k' : Nat) : State :=
  let job := s.job j
  let s := (releaseChip s k).putJob j { job with chips := job.chips.map fun e => if e.1 == k then (k', e.2) else e }
  (placeMatrix s j k' .back).wr R.MESH_STAT_SUBST k' 1

/-- A job on a substitute goes back to a mesh (R149): to its own chiplet once that is UNUSED, or, while that is out of service, to an UNUSED
chiplet of the same half. -/
def seekReturn (s : State) (j : Nat) : State :=
  s.each ((dedupNat ((s.job j).chips.map (·.1))).filter fun k =>
      (s.job j).chips.any fun e => e.1 == k && (s.job j).substOn.contains e.2) fun s k =>
    if s.meshState k = msUnused then (if (s.chip k).xtDone then placeMatrix s j k .back else s)
    else if s.meshState k = msOut then
      match chipNums.find? fun q =>
          halfOfChip q == halfOfChip k && s.meshState q == msUnused && (s.meshJob q).isNone && (s.chip q).xtDone with
      | some q => moveChip s j k q
      | none => s
    else s

/-- Jobs on substitutes seek the chiplets that have become free (R149). -/
def seekReturns (s : State) : State := s.each (jobNums.filter fun j => (s.job j).admitted) seekReturn

/-! ### Tiles in homework -/

/-- The tiles in homework: begun and not ended, by quadrant and in the module (R209, R236). -/
def State.inHw (s : State) (q : Option Nat) : Nat :=
  let of_ (t : Nat) : Bool := (q.map fun q => quadOf t == q).getD true
  ((s.homework.filter fun h => h.step != 0 && of_ h.tile).map fun h => (span h.tile h.pair).length).sum +
    ((s.writes.filter fun w => w.hw && w.st != 0 && of_ w.tile).map fun w => (span w.tile w.pair).length).sum

/-- IN_HW shows the tiles in homework (R221). -/
def showHwNow (s : State) : State := s.wrSat R.HW_STAT_IN_HW 0 (s.inHw none)

/-! ### Unloading -/

/-- The copies of a staging are given up (R241, R250): their tiles return to the free pool with SA_JOB cleared
(R75; DEDUCED, log 155), and chiplets to their old matrix. STAGE_FAIL says that it ended without a bell (R253). -/
def dropStage (s : State) (j : Nat) (state_ : Nat) : State :=
  let st := s.stage j
  let s := s.putJob j { s.job j with bellDue := false }
  let s := s.setWrites (s.writes.filter fun w => match w.use with
    | .stage q _ => q != j
    | .load _ | .rewrite | .copy _ => true)
  let ts := st.copies.flatMap fun c => span c.tile c.pair
  let s := s.each ts fun s t =>
    clearUse (abandonRoll (if s.svc t = svcCopy || s.svc t = svcHomework || s.svc t = svcDue then s.wr R.TCAL_STAT_SVC t svcFree else s) t) t
  let s := s.each chipNums fun s k =>
    if s.meshJob k == some j && (s.chip k).next.isSome && decide ((s.chip k).why = MeshWhy.bell) then abandonChange s k else s
  let s := (((s.wr R.WSET_JOB_STAGE j state_).wr R.WSET_JOB_COPIES j 0).wr R.WSET_JOB_AUTO j 0).wr R.WSET_JOB_NEW_SLOT j 0
  let s := (s.putStage j WStage.none).each (dedupNat (ts.map quadOf)) fillReserve
  (showStore (showHwNow s)).raise R.WSET_EVT_STAGE_FAIL 0

/-- The staging of job `j` fails (R241, R250). -/
def failStage (s : State) (j : Nat) : State := dropStage s j 4

/-- The pages of job `j` return to the free pool (R329). -/
def dropPages (s : State) (j : Nat) : State :=
  (s.setPtes (s.ptes.filter fun e => e.1 / 4096 != j)).setXlates (s.xlates.filter fun e => e.job != j)

/-- Everything job `j` holds is released and its number is EMPTY (R40, R41, R329): its tiles, pages, tags and chiplets. -/
def emptyJob (s : State) (j : Nat) : State :=
  let job := s.job j
  let s := if s.rd R.WSET_JOB_STAGE j = 1 || s.rd R.WSET_JOB_STAGE j = 2 then dropStage s j 0 else s
  let ts := job.tiles
  let mine (w : WriteReq) : Bool := match w.use with
    | .load q => q == j
    | .stage _ _ | .rewrite | .copy _ => false
  let held := ts ++ (s.writes.filter mine).flatMap fun w => span w.tile w.pair
  let s := s.setWrites (s.writes.filter fun w => !mine w)
  let s := s.putJob j { Job.empty with epoch := job.epoch, epochAt := job.epochAt }
  let s := s.each held fun s t => if s.tileHeld t then s else abandonRoll s t
  let s := releaseTiles s held
  let s := dropPages s j
  let s := s.each (chipNums.filter fun k => s.meshJob k == some j) releaseChip
  let s := s.setBatches (s.batches.filter fun b => b.job != j)
  let s := s.each streamNums fun s st => s.putBind j st Bind.none
  let s := s.setTagsHeld (s.tagsHeld.filter fun e => e.2 != j)
  let s := (showTags s j).setWord (R.WSET_JOB.key j 0) 0
  let s := s.each (List.range 256) fun s c =>
    s.setWord (R.RTR_PRIO.key c 0) (withField (2 * j) 2 (s.word (R.RTR_PRIO.key c 0)) 0)
  let s := s.setRecur (s.recur.filter fun e => e.1 / 48 != j)
  seekReturns (showStore (showHwNow s))

/-! ### Loading -/

/-- The mailbox of the JOB_LOAD that loads job `j`. -/
def State.loadMbx (s : State) (j : Nat) : Option Nat := if (s.job j).loading then s.runningAny 0x0101 else none

/-- A JOB_LOAD is refused after it had reserved what it needs (R44): everything is released. -/
def failLoad (s : State) (j : Nat) (st : Status) : State :=
  let m := s.loadMbx j
  let s := emptyJob s j
  match m with
  | some m => s.respond m st 0 []
  | none => s

/-- The tiles job `j` shares with other jobs (R240). -/
def Job.sharedTiles (job : Job) : Nat := ((job.placed.filter Placed.shared).map fun p => if p.pair then 2 else 1).sum

/-- The tiles placed for a job. -/
def Job.tilesPlaced (job : Job) : Nat := (job.placed.map fun p => if p.pair then 2 else 1).sum

/-- The response data of a JOB_LOAD admitted (R311). -/
def Job.loadData (job : Job) (j : Nat) : List Byte :=
  leBytes 1 j ++ leBytes 1 0 ++ leBytes 2 job.tilesPlaced ++ leBytes 2 job.written ++ leBytes 2 job.sharedTiles

/-- A job is admitted once its weights are resident and verified and its chiplets are IN_SERVICE (R44, R140): its tiles enter
service and it is LOADED (DEDUCED, log 89). -/
def loadProgress (s : State) (j : Nat) : State :=
  let job := s.job j
  let busy := s.writes.any fun w => match w.use with
    | .load q => q == j && (w.hw || decide (w.st < 3))
    | .stage _ _ | .rewrite | .copy _ => false
  if !job.loading || busy || job.chips.any (fun e => s.meshState e.1 != msService) then s else
  let m := s.loadMbx j
  let s := s.putJob j { job with st := .loaded, loading := false }
  let s := s.each job.tiles fun s t => if s.svc t == svcService then serveTile s t else s
  match m with
  | some m => showStore ((showTags s j).respond m .ok 0 (job.loadData j))
  | none => showStore (showTags s j)

/-! ### Staging -/

/-- A staging is READY when every copy stands, roll-called, and every changed matrix is computed, or its chiplet is out of service
(R243, R244); a bell asked for rings. -/
def stageProgress (s : State) (j : Nat) : State :=
  let st := s.stage j
  if s.rd R.WSET_JOB_STAGE j = 1 && st.copies.all Copy.ready && st.meshes.all (fun m => m.2.2 || s.meshState m.1 == msOut) then
    let s := (s.wr R.WSET_JOB_STAGE j 2).raise R.WSET_EVT_READY 0
    if st.ring || s.on R.WSET_JOB_AUTO j then bell s j else s
  else s

/-- The copy of a shard stands. -/
def copyReady (s : State) (j shard : Nat) : State :=
  let st := s.stage j
  stageProgress (s.putStage j { st with copies := st.copies.map fun c => if c.shard == shard then { c with ready := true } else c }) j

/-- A changed matrix counts as ready: it has been computed, or its chiplet takes none (R243). -/
def meshReady (s : State) (j k : Nat) : State :=
  let st := s.stage j
  stageProgress (s.putStage j { st with meshes := st.meshes.map fun m => if m.1 == k then (m.1, m.2.1, true) else m }) j

/-! ### Stopping -/

/-- The streams of job `j` are unbound (R35, R260): the batches being collected are reported with cause UNBIND; complete batches
stay. -/
def unbindAll (s : State) (j : Nat) : State :=
  s.each streamNums fun s st =>
    if (s.bind j st).bound then (reportCollected s st 8 [j]).putBind j st { Bind.none with nbDisp := (s.bind j st).nbDisp } else s

/-- Job `j` is stopped (R35, R40): its streams are unbound, batches complete or dispatched deliver their results, and then it is
LOADED. -/
def stopJob (s : State) (j : Nat) : State :=
  let s := unbindAll s j
  checkStopped (s.putJob j { s.job j with stopping := true }) j

end Sys2Proof.Machine
end

