-- ==== Sys2Proof/Machine/Homework.lean ====
section
/-! DEFINITION. Machine/Homework.lean: tiles due for rewriting, spare copies and the vector-unit path (R209 to R212, R236, R250). -/

namespace Sys2Proof.Machine

/-- The causes of homework and withdrawal (WHY of R223). -/
abbrev whyEst : Nat := 1
/-- Digest. -/
abbrev whyDigest : Nat := 2
/-- Column. -/
abbrev whyColumn : Nat := 3
/-- Chalk. -/
abbrev whyChalk : Nat := 4
/-- Driver. -/
abbrev whyDriver : Nat := 5
/-- Clip level. -/
abbrev whyClip : Nat := 6
/-- Repeated failure. -/
abbrev whyRepeat : Nat := 8

/-- The level at which a settled estimate makes a tile due: THRESH less 0.10 %, in % squared (R209). -/
def State.dueLevel (s : State) : Rat := sq ((s.thresh : Rat) / 100 - 10 / 100)

/-- The settled estimate of a tile of a placement reaches `lim` %. -/
def State.settledAt (s : State) (b : Nat) (pair : Bool) (lim : Rat) : Bool := (span b pair).any fun u => decide (sq lim ≤ (s.tile u).settled2)

/-- The tile's settled estimate makes it due (R209). -/
def State.estDue (s : State) (t : Nat) : Bool := decide (s.dueLevel ≤ (s.tile t).settled2)

/-- Tile `t` belongs to a placed pair; for a tile that serves no job, what is written in it does (R77, R227). -/
def State.pairAt (s : State) (t : Nat) : Bool :=
  match (s.servedBy t).head? with
  | some e => e.2.pair
  | none => ((s.findShard (s.occOf t).digest).map fun x => mfKind (s.slot x.1).manifest x.2 == 1).getD (s.pairFormed t)

/-- The even tile of the pair tile `t` belongs to, or the tile itself. -/
def State.baseOf (s : State) (t : Nat) : Nat := if s.pairAt t then t - t % 2 else t

/-- The homework of the tile or pair at `b`. -/
def State.hw (s : State) (b : Nat) : Option Homework := s.homework.find? fun h => h.tile == b

/-- Replaces the homework of the tile or pair at `b`. -/
def putHw (s : State) (h : Homework) : State := s.setHomework (s.homework.map fun x => if x.tile == h.tile then h else x)

/-- Removes the homework of the tile or pair at `b`. -/
def dropHw (s : State) (b : Nat) : State := s.setHomework (s.homework.filter fun h => h.tile != b)

/-- HW_MAX, within 1 to 8 (R221). -/
def State.hwMax (s : State) : Nat := max 1 (min 8 (s.rd R.HW_CFG_HW_MAX 0))

/-- Sets the service state of every tile of a placement. -/
def setSvc (s : State) (t : Nat) (pair : Bool) (v : Nat) : State := s.each (span t pair) fun s u => s.wr R.TCAL_STAT_SVC u v

/-- Sets the homework path shown for every tile of a placement. -/
def setPath (s : State) (t : Nat) (pair : Bool) (v : Nat) : State := s.each (span t pair) fun s u => s.wr R.TCAL_STAT_PATH u v

/-- The spares of tile `t` that can still take a column. -/
def State.usableSpares (s : State) (t : Nat) : List Nat :=
  (List.range 16).filter fun n => s.rd2 R.SPARE_MAP_EN t n == 0 && !(s.tile t).badSpares.contains n

/-- A spare is given to each of several columns (R201, R236); `none` when they exceed the usable spares. A spare that failed is
given up. -/
def giveSpares (s : State) (t : Nat) : List Nat → Option State
  | [] => some s
  | c :: rest =>
    let s := s.each (List.range 16) fun s n =>
      if s.rd2 R.SPARE_MAP_EN t n = 1 ∧ s.rd2 R.SPARE_MAP_TARGET t n = c then
        (s.wr2 R.SPARE_MAP_EN t n 0).putTile t { s.tile t with badSpares := (s.tile t).badSpares ++ [n] }
      else s
    match s.usableSpares t with
    | [] => none
    | n :: _ => giveSpares ((s.wr2 R.SPARE_MAP_TARGET t n c).wr2 R.SPARE_MAP_EN t n 1) t rest

/-! ### Falling due -/

/-- The staging copy that stands on tile `t`, with its job (R243). -/
def State.stagedOn (s : State) (t : Nat) : Option (Nat × Copy) :=
  jobNums.findSome? fun j =>
    if s.rd R.WSET_JOB_STAGE j = 1 || s.rd R.WSET_JOB_STAGE j = 2 then
      ((s.stage j).copies.find? fun c => (span c.tile c.pair).contains t).map fun c => (j, c)
    else none

/-- A staging copy that stands is to be written again, at `t` (R244, R250): the staging is not READY, or no longer (DEDUCED, log 169). -/
def restage (s : State) (j : Nat) (c : Copy) (t : Nat) (first : Bool) : State :=
  let st := s.stage j
  let s := s.setWrites (s.writes ++ [⟨t, c.pair, s.rd R.WSET_JOB_NEW_SLOT j, c.no, .stage j c.shard, 0, 0, first, false⟩])
  (s.putStage j { st with copies := st.copies.map fun x => if x.shard == c.shard then { x with tile := t, ready := false } else x }).wr
    R.WSET_JOB_STAGE j 1

/-- Homework becomes due for tile `t` (R209, R206): its measurement stops. A tile that is just being written, and a staging copy that stands, is
written again in place (R244); a tile in homework keeps the columns for its next rewrite; a spare copy in use is rewritten once it is
released; any other is entered, with the columns that need spares. A digest mismatch takes the place of an earlier cause (R251). -/
def makeDue (s : State) (t why : Nat) (cols : List Nat) : State :=
  let v := s.svc t
  let b := s.baseOf t
  let pair := s.pairAt t
  if v = svcWithdrawn then s else
  let s := s.each (span b pair) stopMeasuring
  match s.writeOf t with
  | some w =>
    let s := s.wr R.TCAL_STAT_WHY t why
    mapWrite (match giveSpares s t cols with | some s => s | none => s) w.tile fun w => { w with st := 0 }
  | none =>
    match s.stagedOn t with
    | some (j, c) =>
      let s := s.wr R.TCAL_STAT_WHY t why
      restage (match giveSpares s t cols with | some s => s | none => s) j c c.tile (why = whyDigest)
    | none =>
      match s.hw b with
      | some h =>
        let s := if why = whyDigest then s.wr R.TCAL_STAT_WHY t why else s
        putHw s { h with why := if why = whyDigest then why else h.why, cols := dedupNat (h.cols ++ cols.map (256 * t + ·)) }
      | none =>
        let s := (s.wr R.TCAL_STAT_WHY t why).putOcc t { s.occOf t with due := true }
        if v = svcCopy || v = svcHomework then s
        else (setSvc s b pair svcDue).setHomework
          (s.homework ++ [⟨b, pair, why, 0, none, 0, 0, [], false, cols.map (256 * t + ·), 0⟩])

/-! ### Starting -/

/-- Every job that holds tile `t` holds it only for an old generation (R250). -/
def State.oldOnly (s : State) (t : Nat) : Bool :=
  let hs := s.servedBy t
  !hs.isEmpty && hs.all fun e => !(span e.2.tile e.2.pair).contains t

/-- The free pages the vector-unit path of a tile or pair needs, if its cluster has them (R211). -/
def State.vecPages (s : State) (b : Nat) (pair : Bool) : Option (List Nat) :=
  let n := if pair then 4 else 2
  let l := (s.freePages (b / 16)).take n
  if l.length = n then some l else none

/-- Homework begins on a tile (R211): HW_START, and it counts in IN_HW. -/
def beginHw (s : State) (h : Homework) : State := showHwNow ((putHw s h).raise R.CAL_EVT_HW_START 0)

/-- A request to write a tile in homework. -/
def hwWrite (s : State) (t : Nat) (pair : Bool) (src : Nat × Nat) (use : WriteUse) (first : Bool) : State :=
  s.setWrites (s.writes ++ [⟨t, pair, src.1, src.2, use, 0, 0, first, false⟩])

/-- A rewrite that was refused for want of its shard is asked for again once the golden store holds it (R211, R235). -/
def retryRewrite (s : State) (h : Homework) : State :=
  if h.step ≠ 3 || (s.writeOf h.tile).isSome then s
  else match s.findShard (s.occOf h.tile).digest with
    | some src => hwWrite s h.tile h.pair src .rewrite (h.why = whyDigest)
    | none => s

/-- A due tile takes the first path of R211 that is available, if its quadrant has room for it under HW_MAX (R209; DEDUCED, log 170). The shard
comes from the golden store; without it there the tile waits. -/
def startHw (s : State) (h : Homework) : State :=
  let b := h.tile
  if h.step ≠ 0 || decide (s.hwMax < s.inHw (some (quadOf b)) + (span b h.pair).length) || s.oldOnly b then s else
  match s.findShard (s.occOf b).digest with
  | none =>
    if s.tileHeld b then setPath (putHw s { h with path := 3 }) b h.pair 3
    else (fillReserve (dropHw (setSvc s b h.pair svcFree) b) (quadOf b))
  | some src =>
    let first := h.why = whyDigest || h.lost
    if !s.tileHeld b then
      hwWrite (beginHw (setSvc s b h.pair svcHomework) { h with step := 3 }) b h.pair src .rewrite first
    else match s.spareTile b h.pair with
      | some c =>
        let s := setPath (setSvc s c h.pair svcCopy) b h.pair 1
        hwWrite (beginHw s { h with step := 1, path := 1, copy := some c }) c h.pair src (.copy b) first
      | none =>
        if h.lost then (if h.pages.isEmpty then setPath s b h.pair 3 else s)
        else match s.vecPages b h.pair with
          | some ps => setPath (beginHw s { h with step := 2, path := 2, pages := ps, holdAt := s.now }) b h.pair 2
          | none => setPath (putHw s { h with path := 3 }) b h.pair 3

/-- Due tiles in the order they are served (R209, R237): digest mismatches and copies of withdrawn tiles in the order they fell
due, then descending settled estimates. -/
def State.hwOrder (s : State) : List Homework :=
  (s.homework.filter fun h => h.why == whyDigest || h.lost) ++
    sortBy (fun a c => decide ((s.tile c.tile).settled2 ≤ (s.tile a.tile).settled2))
      (s.homework.filter fun h => !(h.why == whyDigest || h.lost))

/-- A job whose due tile waits for a path and whose settled estimate reaches 2.85 % is stopped (R211). -/
def checkStuck (s : State) (b : Nat) : State :=
  match s.hw b with
  | none => s
  | some h =>
    if h.path = 3 && h.step = 0 && s.settledAt b h.pair (285 / 100) then
      (jobNums.filter fun j => (s.job j).tiles.contains b && (s.job j).live && !(s.job j).stopping && (s.job j).restart.isNone).foldl
        (fun s j => (stopJob s j).raise R.CAL_EVT_HW_STUCK 0) s
    else s

/-- A tile that waits in service is STALE once its settled estimate reaches THRESH (R203, R211). -/
def checkStale (s : State) (b : Nat) : State :=
  match s.hw b with
  | none => s
  | some h =>
    if decide (h.step ≤ 2) && s.svc b == svcDue && s.settledAt b h.pair ((s.thresh : Rat) / 100) then
      s.each (span b h.pair) fun s u => s.wr R.TCAL_STAT_STALE u 1
    else s

/-- Firmware goes through the tiles due; not during a takeover (R322). -/
def hwTick (s : State) : State :=
  if !s.dutiesRun then s else s.each s.hwOrder fun s h => match s.hw h.tile with
    | some h => checkStuck (checkStale (retryRewrite (startHw s h) h) h.tile) h.tile
    | none => s

/-! ### Moving -/

/-- Changes the placements that tile `b` serves. -/
def mapServed (s : State) (b : Nat) (f : Placed → Placed) : State :=
  s.each jobNums fun s j =>
    let job := s.job j
    let hit (p : Placed) : Bool := p.tile == b || p.old == some b || p.home == some b
    if job.placed.any hit then s.putJob j { job with placed := job.placed.map fun p => if hit p then f p else p } else s

/-- The jobs move to the vector unit (R211): what `b` serves is computed there, `b` remaining theirs. -/
def moveVec (b : Nat) (p : Placed) : Placed :=
  { p with vec := p.vec || p.tile == b, oldVec := p.oldVec || p.old == some b, home := some b }

/-- The jobs move to the spare copy (R211): every placement served by `b` is served by `c`, `b` remaining theirs. -/
def moveTo (b c : Nat) (keep : Bool) (p : Placed) : Placed :=
  { p with
    tile := if p.tile = b then c else p.tile
    old := p.old.map fun o => if o = b then c else o
    home := if keep then some b else none
    vec := if p.tile = b then false else p.vec
    oldVec := if p.old = some b then false else p.oldVec }

/-- The jobs move back to their tile (R211). -/
def moveBack (b c : Nat) (p : Placed) : Placed :=
  if p.home = some b then
    { p with tile := if p.tile = c then b else p.tile, old := p.old.map fun o => if o = c then b else o, home := none }
  else p

/-- Copies the batch settings of a tile to the tile that takes its place, for its next batch boundary. -/
def copySettings (s : State) (b c : Nat) (pair : Bool) : State :=
  s.each ((span b pair).zip (span c pair)) fun s e =>
    let cfg := s.word (R.TILE_CFG.key e.1 0)
    let clip := s.rd R.TILE_CFG_CLIP_LVL e.2
    let cal := s.rd R.TILE_CFG_SA_CAL e.2
    let s := (s.setWord (R.TILE_CFG.key e.2 0) cfg).wr R.TILE_CFG_CLIP_LVL e.2 clip
    let s := s.wr R.TILE_CFG_SA_CAL e.2 cal
    let s := s.each (List.range 8) fun s k => s.setWord (R.COL_USE.key e.2 k) (s.word (R.COL_USE.key e.1 k))
    s.wr R.TCAL_SWAP_PROD_PER_BATCH e.2 (s.rd R.TCAL_SWAP_PROD_PER_BATCH e.1)

/-- The due tile is left and rewritten (R211). -/
def leaveTile (s : State) (h : Homework) : State :=
  let s := setSvc (s.each (span h.tile h.pair) leaveTable) h.tile h.pair svcHomework
  let s := s.each (span h.tile h.pair) fun s u => s.wr R.TCAL_STAT_STALE u 0
  match s.findShard (s.occOf h.tile).digest with
  | some src => hwWrite (putHw s { h with step := 3 }) h.tile h.pair src .rewrite (h.why = whyDigest)
  | none => putHw s { h with step := 3 }

/-- Homework of a tile ends (R211): HW_DONE. -/
def endHw (s : State) (b : Nat) : State :=
  let pair := ((s.hw b).map Homework.pair).getD false
  let s := setPath (dropHw s b) b pair 0
  showHwNow (s.raise R.CAL_EVT_HW_DONE 0)

/-- A spare copy is released to the reserve with SA_JOB and SLICE cleared (R211; log 155); one that fell due while it served is rewritten now. -/
def releaseCopy (s : State) (c : Nat) (pair : Bool) : State :=
  let s := (setSvc (s.each (span c pair) leaveTable) c pair svcReserve).each (span c pair) clearUse
  match (span c pair).find? fun u => (s.occOf u).due with
  | some u => makeDue s u (s.rd R.TCAL_STAT_WHY u) []
  | none => fillReserve s (quadOf c)

/-- The batches begun at a tile go on at the tile that takes its place (R204, R211): those that straddle a forced move carry STALE. -/
def carryBatches (s : State) (a b : Nat) (pair forced : Bool) : State :=
  s.each ((span a pair).zip (span b pair)) fun s e =>
    let r := s.tile e.1
    let moved := r.begun.map fun x => { x with words := (tileKeys e.2).map s.word, gain := s.rd R.LIVE_GAIN_GAIN e.2 }
    let old := r.straddle ++ (if forced then r.begun.map TileBatch.key else [])
    let s := s.putTile e.1 { r with begun := [], straddle := [], snaps := [], cur := none }
    let s := s.putTile e.2 { s.tile e.2 with begun := moved, straddle := old }
    if forced then s.wr R.TCAL_STAT_FORCED e.1 1 else s

/-- Tokens that wait at a tile or at its cluster's vector unit for a shard another unit serves now go on to it. -/
def forwardAll (s : State) (t : Nat) (pair : Bool) : State :=
  s.each (span t pair) fun s u => forwardWaiting (forwardWaiting s (u / 16) (u % 16)) (u / 16) 16

/-- The tile at which the batches of a job are begun before a move: the due tile, or the spare copy; on the vector-unit path they are kept
with the due tile. -/
def Homework.serving (h : Homework) : Nat := if h.step = 4 then h.copy.getD h.tile else h.tile

/-- Homework of `b` moves the jobs at a batch boundary, or, when `forced`, between two products of a batch (R204, R211, R212): to the copy or the
vector unit, back to the tile, or, for a withdrawn tile, to the copy for good. Tokens held go on to where their shard is served. A forced move shows
in TCAL_STAT.FORCED of the tile (DEDUCED, log 184). -/
def copyMove (s : State) (h : Homework) (forced : Bool) : State :=
  let b := h.tile
  if h.step = 2 then
    match h.copy with
    | some c =>
      let s := carryBatches s b c h.pair forced
      if h.lost then
        let s := endHw (setSvc (mapServed s b (moveTo b c false)) c h.pair svcService) b
        let s := s.each (span b h.pair) fun s u => if s.svc u = svcWithdrawn then s else clearUse (s.wr R.TCAL_STAT_SVC u svcFree) u
        hwTick (fillReserve (forwardAll s b h.pair) (quadOf b))
      else forwardAll (leaveTile (mapServed s b (moveTo b c true)) h) b h.pair
    | none =>
      let s := carryBatches s b b h.pair forced
      forwardAll (leaveTile (mapServed s b (moveVec b)) h) b h.pair
  else if h.step = 4 then
    let s := setSvc s b h.pair svcService
    let s := s.each (span b h.pair) fun s u => s.putOcc u { s.occOf u with due := false }
    match h.copy with
    | some c =>
      let s := endHw (mapServed (carryBatches s c b h.pair forced) b (moveBack b c)) b
      hwTick (releaseCopy (forwardAll s c h.pair) c h.pair)
    | none =>
      let s := carryBatches s b b h.pair forced
      hwTick (forwardAll (endHw (mapServed s b fun p => { p with vec := false, oldVec := false, home := none }) b) b h.pair)
  else s

/-- No batch is part done where the job's products run (R204, R211). -/
def State.movePoint (s : State) (h : Homework) : Bool := (span h.serving h.pair).all s.swapPoint

/-- SWAP_WAIT has passed since new batches have been held for the move (R204, R211). -/
def State.moveLate (s : State) (h : Homework) : Bool := s.passed h.holdAt (usec * s.swapWait h.serving)

/-- A job moves to or back from a spare copy or the vector-unit path at a batch boundary, or after SWAP_WAIT regardless (R204, R211). -/
def execCopyMove (t : Fin 4096) (s : State) : Out :=
  .next (
    match s.homework.find? fun h => (span h.tile h.pair).contains t.val with
    | none => s
    | some h => if s.dutiesRun && (s.movePoint h || s.moveLate h) then copyMove s h (!s.movePoint h) else s)

/-! ### Withdrawal met by a request -/

/-- The request for tile `t` is made for tile `c` instead, in the place it had (R237). -/
def moveWrite (s : State) (t c : Nat) : State := mapWrite s t fun w => { w with tile := c, st := 0, tries := 0, hw := false }

/-- The tiles of a request that is given up return to the free pool, but for one withdrawn and the tile `c` that takes its place. -/
def freeOthers (s : State) (t : Nat) (pair : Bool) (c : Nat) : State :=
  s.each ((span t pair).filter fun u => u != c && s.svc u != svcWithdrawn) fun s u => clearUse (s.wr R.TCAL_STAT_SVC u svcFree) u

/-- A staging copy on a withdrawn tile takes another under R243, or the staging ends (R250): the copy's new tile. -/
def State.recopy (s : State) (j shard : Nat) : Option Nat := (s.placedOf j shard).bind (s.copyTile j)

/-- A request whose tile has been withdrawn (R212, R250): a load or staging takes another tile or ends with TILES_SHORT; a spare
copy is sought anew; a tile withdrawn while it is rewritten leaves its jobs where they are for good. -/
def rescueWrite (s : State) (w : WriteReq) : State :=
  match w.use with
  | .load j =>
    match nearest (w.tile / 16) ((tilesOfHalf (halfOfTile w.tile) w.pair).filter fun c =>
        s.allSvc c w.pair svcFree && quadOf c == quadOf w.tile && (s.servedBy w.tile).all fun e =>
          ((s.shardRoute e.1 e.2).map fun r => partialReach r c).getD true) with
    | some c =>
      let job := s.job j
      let u := job.sec.shards.find? fun u => u.shard == w.no
      let s := moveWrite (setSvc (freeOthers s w.tile w.pair c) c w.pair svcService) w.tile c
      let s := match s.shardIn w.slot w.no with
        | some b => configSpan s c b w.pair (job.hdr.flags / 4 % 2 = 1) ((u.map ShardUse.perBatch).getD 0)
        | none => s
      s.putJob j { job with placed := job.placed.map fun p => if p.tile == w.tile then { p with tile := c } else p }
    | none => failLoad (dropWrite s w.tile) j .tilesShort
  | .stage j shard =>
    match s.recopy j shard with
    | some c =>
      let st := s.stage j
      let s := moveWrite (setSvc (freeOthers s w.tile w.pair c) c w.pair svcCopy) w.tile c
      s.putStage j { st with copies := st.copies.map fun x => if x.shard == shard then { x with tile := c, ready := false } else x }
    | none => failStage (dropWrite s w.tile) j
  | .copy b =>
    let s := dropWrite s w.tile
    match s.hw b with
    | some h => hwTick (showHwNow (putHw (freeOthers s w.tile w.pair w.tile) { h with step := 0, copy := none }))
    | none => s
  | .rewrite =>
    let s := dropWrite s w.tile
    match s.hw w.tile with
    | none => s
    | some h =>
      match h.copy with
      | some c =>
        let s := setSvc (mapServed s h.tile (moveTo h.tile c false)) c h.pair svcService
        hwTick (endHw (freeOthers s w.tile w.pair w.tile) h.tile)
      | none =>
        if s.tileHeld h.tile then hwTick (showHwNow (putHw s { h with step := 0, lost := true }))
        else hwTick (endHw (freeOthers s w.tile w.pair w.tile) h.tile)

/-- Tile `t` has been withdrawn: what was to be written to it, or stood on it as a staging copy, is placed elsewhere, and the reserve is
restored (R210, R212, R250). -/
def afterWithdraw (s : State) (t : Nat) : State :=
  let s := match s.writeOf t with
    | some w => rescueWrite s w
    | none =>
      match s.stagedOn t with
      | some (j, c) =>
        match s.recopy j c.shard with
        | some n => restage (setSvc (freeOthers s c.tile c.pair n) n c.pair svcCopy) j c n false
        | none => failStage s j
      | none =>
        match s.homework.find? fun h => (span h.tile h.pair).contains t && h.step == 0 && !h.lost with
        | some h => dropHw s h.tile
        | none => s
  fillReserve s (quadOf t)

/-- Tile `t` is withdrawn (R212) (DEDUCED, log 86). -/
def withdrawTile (s : State) (t why : Nat) : State :=
  if s.svc t = svcWithdrawn then s else afterWithdraw (withdraw (leaveTable s t) t why) t

/-- A restart's remedy for tile `t` (R212, R332): a tile that is not withdrawn leaves service for homework; its products run on the vector-unit
path when that is available, and are held otherwise, until a spare copy becomes the job's tile. -/
def remedyTile (s : State) (t : Nat) : State :=
  if !s.tileHeld t then s else
  let placed := (s.servedBy t).map (·.2)
  let b := match placed with
    | p :: _ => if p.pair then t - t % 2 else t
    | [] => t
  let pair := placed.any Placed.pair
  let s := s.each (span b pair) fun s u =>
    if s.svc u = svcWithdrawn then s else (leaveTable s u).wr R.TCAL_STAT_SVC u svcHomework
  let s := match s.hw b with
    | some h => putHw s { h with lost := true }
    | none => s.setHomework (s.homework ++ [⟨b, pair, s.rd R.TCAL_STAT_WHY t, 0, none, 0, 0, [], true, [], 0⟩])
  let s := match s.vecPages b pair with
    | some ps =>
      let s := forwardAll (mapServed s b fun p => { p with vec := p.vec || p.tile == b, oldVec := p.oldVec || p.old == some b }) b pair
      match s.hw b with
      | some h => setPath (putHw s { h with pages := ps }) b pair 2
      | none => s
    | none => s
  hwTick s

/-- A restart's remedy for inconsistent slices at tiles `t` and `t + 1` (R78, R332): every placement on either. -/
def remedySlices (s : State) (t : Nat) : State :=
  let s := remedyTile s t
  if (s.servedBy (t + 1)).any fun e => !e.2.pair then remedyTile s (t + 1) else s

end Sys2Proof.Machine
end

