-- ==== Sys2Proof/Machine/Calibration.lean ====
section
/-! DEFINITION. Machine/Calibration.lean: roll call and its findings (R200 to R203), write–verify and read-back (R234 to R237, R247,
R251), and what follows a product (R208, R209). -/

namespace Sys2Proof.Machine

/-- The calibration slots of a roll call (R200). -/
abbrev rollSlots : Nat := 1534

/-- The calibration slots of a read-back (R247). -/
abbrev readSlots : Nat := 196608

/-! ### Calibration slots -/

/-- A product waits at tile `t`: the tile is busy (R200). -/
def State.busy (s : State) (t : Nat) : Bool :=
  s.fabric.any fun h => h.place == .unit (t / 16) (t % 16) ||
    (s.pairFormed t && h.place == .unit (t / 16) (t % 16 - t % 2))

/-- Tile `t` is being roll-called. -/
def State.rolling (s : State) (t : Nat) : Bool := s.rd R.TCAL_STAT_TABLE t == tbMeasuring && decide ((s.tile t).calSlots < rollSlots)

/-- A tile holds a shard that a read-back can compare (R251): one was written to it, and it is neither under homework nor withdrawn. -/
def State.holdsShard (s : State) (t : Nat) : Bool := !(s.occOf t).digest.isEmpty && s.svc t != svcHomework && s.svc t != svcWithdrawn

/-- The tiles of the present round of the periodic read-back of quadrant `q`: those of its 64 still to be read, or the next 64 (R251). -/
def State.rbNow (s : State) (q : Nat) : List Nat :=
  match (s.quad q).rbRound.filter s.holdsShard with
  | [] => ((s.quad q).readback.filter s.holdsShard).take 64
  | l => l

/-- Tile `t` is being read back: after a write, or in the periodic round of its quadrant while no run is on (R247, R251). -/
def State.reading (s : State) (t : Nat) : Bool :=
  decide ((s.tile t).rbSlots < readSlots) &&
    ((s.writeOf t).map (fun w => w.st == 2)).getD
      ((s.rbNow (quadOf t)).contains t && s.rd R.QCAL_STAT_STATE (quadOf t) == 0)

/-- A tile runs one calibration slot between products (R200): at once when idle, after SHARE products when busy. -/
def calibrationSlot (s : State) (t : Nat) : State :=
  let r := s.tile t
  if s.busy t && decide (r.sinceCal < s.share) then s
  else if s.rolling t then s.putTile t { r with calSlots := r.calSlots + 1, sinceCal := 0 }
  else if s.reading t then s.putTile t { r with rbSlots := r.rbSlots + 1, sinceCal := 0 }
  else s

/-- A tile runs one roll-call or read-back slot (R200, R247). -/
def execCalibrationSlot (t : Fin 4096) (s : State) : Out := .next (calibrationSlot s t.val)

/-! ### After a product -/

/-- The estimates of tile `t` are judged (R202, R209): due for homework, or the cause of a run. A tile whose clamp bit is dealt
with (R198, R212). -/
def judgeTile (s : State) (t : Nat) : State :=
  if s.svc t = svcWithdrawn then
    if (s.writeOf t).isSome || (s.homework.any fun h => (span h.tile h.pair).contains t && h.step == 0 && !h.lost) then afterWithdraw s t
    else s
  else if !s.serves t then s
  else
    let s := if s.estDue t && (s.hw (s.baseOf t)).isNone then hwTick (makeDue s t whyEst []) else checkStuck (checkStale s (s.baseOf t)) (s.baseOf t)
    if s.thresh - 5 ≤ s.rd R.TCAL_EST_EST t && s.rd R.CAL_STAT_FIRST 0 = 3 then
      if s.rd R.QCAL_STAT_STATE (quadOf t) = 0 || !(s.quad (quadOf t)).held.contains runResid then triggerRun s (quadOf t) runResid else s
    else s

/-- A tile, or the pair it belongs to, runs one matrix–vector product (R74), and its new estimates are judged. -/
def execTileProduct (t : Fin 4096) (s : State) : Out :=
  .next (
    let s := tileProduct s t.val
    if s.pairFormed t.val then judgeTile (judgeTile s (t.val - t.val % 2)) (t.val - t.val % 2 + 1) else judgeTile s t.val)

/-! ### Findings -/

/-- LEG_MAP_k of tile `t` gives a spare leg of ADC `a` to `leg` (R201); a spare that serves that leg already is itself bad and is given up. The
second part says whether a sound spare was left. -/
def spareLeg (s : State) (t a leg : Nat) : State × Bool :=
  let key := R.LEG_MAP.key t (a / 4)
  let lo (i : Nat) : Nat := 8 * (a % 4) + 4 * i
  let used := [0, 1].filter fun i => fieldOf (lo i) 4 (s.word key) == 8 + leg % 8
  let r := s.tile t
  let s := s.putTile t { r with badLegs := r.badLegs ++ used.map fun i => (a, i) }
  let s := s.each used fun s i => s.setWord key (withField (lo i) 4 (s.word key) 0)
  match [0, 1].find? fun i => !bitOf (s.word key) (lo i + 3) && !(s.tile t).badLegs.contains (a, i) with
  | some i => (s.setWord key (withField (lo i) 4 (s.word key) (8 + leg % 8)), true)
  | none => (s, false)

/-- ROWDRV_MAP of tile `t` gives a spare driver to row DAC `d` (R201); a spare that drives it already is itself bad and is given up. The second
part says whether a sound spare was left. -/
def spareDriver (s : State) (t d : Nat) : State × Bool :=
  let key := R.ROWDRV_MAP.key t 0
  let used := (List.range 4).filter fun i => fieldOf (8 * i) 8 (s.word key) == 128 + d % 64
  let r := s.tile t
  let s := s.putTile t { r with badDrivers := r.badDrivers ++ used }
  let s := s.each used fun s i => s.setWord key (withField (8 * i) 8 (s.word key) 0)
  match (List.range 4).find? fun i => !bitOf (s.word key) (8 * i + 7) && !(s.tile t).badDrivers.contains i with
  | some i => (s.setWord key (withField (8 * i) 8 (s.word key) (128 + d % 64)), true)
  | none => (s, false)

/-- Gives spare legs to the legs found bad; the second part lists the ADCs beyond their spare legs. -/
def fixLegs (s : State) (t : Nat) : List (Nat × Nat) → State × List Nat
  | [] => (s, [])
  | (a, leg) :: rest =>
    let r := spareLeg s t a leg
    let q := fixLegs r.1 t rest
    (q.1, if r.2 then q.2 else a :: q.2)

/-- Gives spare drivers to the row DACs found bad; the second part says whether one is beyond the spares. -/
def fixDrivers (s : State) (t : Nat) : List Nat → State × Bool
  | [] => (s, false)
  | d :: rest =>
    let r := spareDriver s t d
    let q := fixDrivers r.1 t rest
    (q.1, q.2 || !r.2)

/-- A column of a bank is beyond the limits of R201: offset above 8 counts, gain outside 0.8 to 1.25. -/
def columnBad (w : Word) : Bool :=
  decide (2048 < (toSigned 16 (fieldOf 0 16 w)).natAbs) || decide (5 * fieldOf 16 16 w < 4 * 16384) ||
    decide (5 * 16384 < 4 * fieldOf 16 16 w)

/-- Column `c` of tile `t` is in use and no spare replaces it. -/
def State.ownColumn (s : State) (t c : Nat) : Bool :=
  bitOf (s.word (R.COL_USE.key t (c / 32))) (c % 32) &&
    !(List.range 16).any fun n => s.rd2 R.SPARE_MAP_EN t n == 1 && s.rd2 R.SPARE_MAP_TARGET t n == c

/-- The output columns that are to be given a spare, for logical columns found bad: a column itself, or the target of a spare. -/
def State.failedOutputs (s : State) (t : Nat) (bad : List Nat) : List Nat :=
  dedupNat (bad.filterMap fun c =>
    if c < 256 then (if s.ownColumn t c then some c else none)
    else if s.rd2 R.SPARE_MAP_EN t (c - 256) = 1 then some (s.rd2 R.SPARE_MAP_TARGET t (c - 256)) else none)

/-- The bank a roll call builds (R200, R224): the measured values are free values. -/
def buildTable (s : State) (t ix : Nat) : State :=
  let b := 1 - s.bankOf t
  let s := s.each (List.range 280) fun s i =>
    s.putTcal t b i (if i < 276 then Config.rollCall ix t i else Config.rollCall ix t i &&& 0xFFFF)
  let s := s.wrSat R.TCAL_EST_NOISE t (Config.rollNoise ix t)
  s.putTile t { s.tile t with gRc := s.chalkRatio t b }

/-- Roll call acts on its findings on tile `t` (R201): spare legs and drivers, the clip level, homework or withdrawal; a tile that
stays has its table ready. -/
def actOnFindings (s : State) (t : Nat) (f : Option TileFinding) : State :=
  let f := f.getD ⟨t, [], [], 127, false⟩
  let r := fixLegs s t f.legs
  let d := fixDrivers r.1 t f.drivers
  let s := d.1
  let b := 1 - s.bankOf t
  let bad := dedupNat (((r.2.filter (· < 68)).flatMap fun a => [a, a + 68, a + 136, a + 204]) ++
    (List.range 272).filter fun c => columnBad (s.tcalAt t b c))
  let cols := s.failedOutputs t bad
  let s := s.putTile t { s.tile t with
    badSpares := dedupNat ((s.tile t).badSpares ++ (bad.filter (256 ≤ ·)).map (· - 256)), clipNew := some (max 64 (min 127 f.clip)) }
  if d.2 then withdrawTile s t whyDriver
  else if (s.usableSpares t).length < cols.length then withdrawTile s t whyColumn
  else if f.clip < 64 then withdrawTile s t whyClip
  else if !cols.isEmpty then makeDue s t whyColumn cols
  else if f.chalk then makeDue s t whyChalk []
  else tableBuilt s t

/-! ### Writing -/

/-- A loading or staging whose shard fails its digest in the store is refused with DIGEST (R235); a rewrite is asked for again when the store
holds the shard. -/
def refuseWrite (s : State) (w : WriteReq) : State :=
  let s := dropWrite (s.raise R.WSET_EVT_STORE_BAD 0) w.tile
  let c := s.slot w.slot
  let s := s.putSlot w.slot { c with shards := c.shards.filter fun e => e.1 != w.no }
  match w.use with
  | .load j => failLoad s j .digest
  | .stage j _ => failStage s j
  | .copy b => match s.hw b with
    | some h => showHwNow (releaseCopy (putHw s { h with step := 0, copy := none }) w.tile w.pair)
    | none => s
  | .rewrite => s

/-- The class of a request in the order of R237. -/
def WriteReq.cls (w : WriteReq) : Nat :=
  if w.first then 1 else match w.use with
    | .load _ => 2
    | .stage _ _ => 2
    | .rewrite => 3
    | .copy _ => 3

/-- The tiles of a quadrant being written. -/
def State.writing (s : State) (q : Nat) : Nat :=
  ((s.writes.filter fun w => w.st == 1 && quadOf w.tile == q).map fun w => (span w.tile w.pair).length).sum

/-- The columns a rewrite gives spares to before it begins (R201, R209). -/
def prepareColumns (s : State) (w : WriteReq) : State :=
  match s.hw w.tile with
  | none => s
  | some h =>
    let s := putHw s { h with cols := [] }
    s.each (span w.tile w.pair) fun s t =>
      match giveSpares s t ((h.cols.filter fun c => c / 256 == t).map (· % 256)) with
      | some s => s
      | none => withdrawTile s t whyColumn

/-- A tile that fell due with cause column before it entered service is in homework from now on (R211, R236): HW_START. -/
def beginColumn (s : State) (w : WriteReq) : State :=
  if w.hw && s.svc w.tile != svcHomework then (setSvc s w.tile w.pair svcHomework).raise R.CAL_EVT_HW_START 0 else s

/-- A request may begin: its quadrant has room under the 64 tiles of R237, and a tile due with cause column room under HW_MAX (R209, R236). -/
def State.writeRoom (s : State) (q : Nat) (w : WriteReq) : Bool :=
  let n := (span w.tile w.pair).length
  decide (s.writing q + n ≤ 64) && (!w.hw || s.svc w.tile == svcHomework || decide (s.inHw (some q) + n ≤ s.hwMax))

/-- The request a quadrant serves next, of those that have room (R237). -/
def State.nextWrite (s : State) (q : Nat) : Option WriteReq :=
  let ws := s.writes.filter fun w => w.st == 0 && quadOf w.tile == q && s.writeRoom q w
  ((ws.find? fun w => w.cls == 1).orElse fun _ => ws.find? fun w => w.cls == 2).orElse fun _ => ws.head?

/-- Write–verify of a tile begins when its quadrant has room (R237), after the shard's digest is recomputed (R235); not during an
orderly stop (R389). -/
def writeStart (s : State) (q : Nat) : State :=
  match if s.rd R.PWR_STAT_STATE 0 = 2 then none else s.nextWrite q with
  | none => s
  | some w =>
    match s.shardIn w.slot w.no with
    | none => refuseWrite s w
    | some b =>
      if !shDigestOk b (mfDigest (s.slot w.slot).manifest w.no) then refuseWrite s w
      else
        let s := if decide (w.use = WriteUse.rewrite) then prepareColumns s w else s
        showHwNow (mapWrite (beginColumn s w) w.tile fun x => { x with st := 1 })

/-- Write–verify of a tile begins (R237). -/
def execWriteVerifyStart (q : Fin 8) (s : State) : Out := .next (writeStart s q.val)

/-- What is recorded when tile `t` has been written (R211, R215, R230, R234): its cells, PGM_CNT, PROG_REF, PROG_ERR and its live gain's
starting point. -/
def recordWrite (s : State) (t : Nat) (c : Cells) (digest : List Byte) (m : WriteMeas) : State :=
  let s := (s.putCells t { c with spares := (List.range 16).map fun n => s.word (R.SPARE_MAP.key t n) }).bump R.PGM_CNT_COUNT t
  let s := (s.wr R.TCAL_PROG_PROG_REF t m.progRef).wr R.TCAL_PROG_PROG_ERR t m.progErr
  let s := s.putOcc t ⟨digest, s.rd R.PGM_CNT_COUNT t, m.progRef % 65536, m.progErr % 65536, false⟩
  let g := s.progRef t * (1 + 28 / 10000 * (s.quadTemp (quadOf t) - 25))
  estimate (s.putTile t { s.tile t with gFilt := g, gAt := s.now, rbSlots := 0 }) t

/-- A tile of a load or staging falls due with cause column before it is placed in service (R236); one in homework stays in it. -/
def dueColumn (s : State) (w : WriteReq) : State :=
  match w.use with
  | .rewrite => mapWrite s w.tile fun x => { x with st := 0 }
  | .copy _ => mapWrite s w.tile fun x => { x with st := 0 }
  | .load _ => mapWrite (if w.hw then s else setSvc s w.tile w.pair svcDue) w.tile fun x => { x with st := 0, hw := true }
  | .stage _ _ => mapWrite (if w.hw then s else setSvc s w.tile w.pair svcDue) w.tile fun x => { x with st := 0, hw := true }

/-- A written tile goes on to its read-back, or, with columns that failed, falls due with cause column and is written again with spares in
their place; more failed columns than usable spares withdraw it (R236). A spare that failed is not used again. -/
def afterWrite (s : State) (w : WriteReq) (fails : List (Nat × List Nat)) : State :=
  let s := s.each fails fun s f => s.putTile f.1 { s.tile f.1 with
    badSpares := dedupNat ((s.tile f.1).badSpares ++ (f.2.filter (256 ≤ ·)).map (· - 256)) }
  let todo := (fails.map fun f => (f.1, s.failedOutputs f.1 f.2)).filter fun f => !f.2.isEmpty
  if todo.isEmpty then mapWrite s w.tile fun x => { x with st := 2 }
  else if todo.any fun f => decide ((s.usableSpares f.1).length < f.2.length) then s.each (todo.map (·.1)) fun s t => withdrawTile s t whyColumn
  else dueColumn (s.each todo fun s f => match giveSpares (s.wr R.TCAL_STAT_WHY f.1 whyColumn) f.1 f.2 with
    | some s => s
    | none => s) w

/-- Write–verify of the tile or pair at `t` ends with what it measured, `m` for the tile or the high slice and `l` for the low. -/
def writeDone (s : State) (t : Nat) (m l : WriteMeas) : State :=
  match s.writes.find? fun w => w.tile == t && w.st == 1 with
  | none => s
  | some w =>
    match s.shardIn w.slot w.no with
    | none => refuseWrite s w
    | some b =>
      let s := recordWrite s t (shardCells b) (shDigest b) m
      let s := if w.pair then recordWrite s (t + 1) (shardCellsLow b) (shDigest b) l else s
      let s := match w.use with
        | .load j => s.putJob j { s.job j with written := (s.job j).written + (span t w.pair).length }
        | .stage _ _ | .rewrite | .copy _ => s
      afterWrite s w ((t, m.failed) :: if w.pair then [(t + 1, l.failed)] else [])

/-- Write–verify of a tile ends (R234). -/
def execWriteVerifyDone (t : Fin 4096) (m l : WriteMeas) (s : State) : Out := .next (writeDone s t.val m l)

/-- A tile written and read back is roll-called (R237, R244, R250): in its round, when a run of its quadrant has still to come to it and
the tile is not under homework (R202), else as an idle tile. -/
def beginIdleRoll (s : State) (w : WriteReq) : State :=
  let s := mapWrite s w.tile fun x => { x with st := 3 }
  if s.roundAhead w.tile && s.svc w.tile != svcHomework then s
  else s.each (span w.tile w.pair) fun s t => beginTile s (quadOf t) t false

/-- Homework with cause column ends before the tile enters service (R236): HW_DONE. -/
def endColumn (s : State) (w : WriteReq) : State :=
  if !w.hw then s else
  let v := match w.use with
    | .load _ => svcService
    | .stage _ _ | .rewrite | .copy _ => svcCopy
  let s := mapWrite (setSvc s w.tile w.pair v) w.tile fun x => { x with hw := false }
  showHwNow (s.raise R.CAL_EVT_HW_DONE 0)

/-- A request ends with its tile roll-called: a staging copy or spare copy stands, a rewritten tile returns (R211, R212, R244). -/
def writeEnds (s : State) (w : WriteReq) : State :=
  let s := endColumn s w
  match w.use with
  | .load j => if w.hw then loadProgress (dropWrite s w.tile) j else dropWrite s w.tile
  | .stage j shard =>
    let s := dropWrite s w.tile
    let set := s.shardIn w.slot w.no
    let p := s.placedOf j shard
    let s := match set, p with
      | some b, some p =>
        configSpan s w.tile b w.pair (s.on R.TILE_CFG_SA_JOB p.tile) (s.rd R.TCAL_SWAP_PROD_PER_BATCH p.tile)
      | _, _ => s
    copyReady s j shard
  | .copy b =>
    let s := copySettings (dropWrite s w.tile) b w.tile w.pair
    match s.hw b with
    | some h => putHw s { h with step := 2, holdAt := s.now }
    | none => s
  | .rewrite =>
    match s.hw w.tile with
    | none => dropWrite s w.tile
    | some h =>
      let s := s.each (span w.tile w.pair) estimate
      if (span w.tile w.pair).any s.estDue then
        if 3 ≤ h.tries + 1 then withdrawTile s w.tile whyRepeat
        else mapWrite (putHw s { h with tries := h.tries + 1 }) w.tile fun x => { x with st := 0, tries := 0 }
      else
        let s := dropWrite s w.tile
        if s.tileHeld w.tile then putHw s { h with step := 4, holdAt := s.now }
        else
          let s := s.each (span w.tile w.pair) fun s u => s.putOcc u { s.occOf u with due := false }
          hwTick (fillReserve (endHw (setSvc s w.tile w.pair svcFree) w.tile) (quadOf w.tile))

/-! ### Read-back -/

/-- The conductance target of a level in nS (R55). -/
def levelTarget (k : Nat) : Nat := 500 + 1300 * k

/-- A referred conductance of `g` nS lies within the window W of R247 around the target of level `k`, for a drift age of `ln` ÷ 256. -/
def inWindow (ln g k : Nat) : Bool :=
  decide (256000 * ((g : Int) - levelTarget k).natAbs ≤ 3200 * 256000 + 56 * ln * levelTarget k)

/-- The level nearest to a conductance (R247), the higher on a tie (DESIGN CHOICE, log 183). -/
def nearestLevel (g : Nat) : Nat := min 15 ((2 * g - 1000 + 1300) / 2600)

/-- The reading of a cell, referred to programming time by the live gain of tile `t` (R247). -/
def State.referred (s : State) (t : Nat) (r : CellRead) : Nat := r.g * s.rd R.LIVE_GAIN_GAIN t / 16384

/-- The level the plus or minus cell of row `i` and output column `c` counts as (R247), and whether it lies outside its window; a cell not
among the readings is at its target. -/
def State.cellLevel (s : State) (t : Nat) (rs : List CellRead) (i c : Nat) (minus : Bool) : Nat × Bool :=
  let w := (s.cellsOf t).weight i c
  let k := if minus then (-w).toNat else w.toNat
  match rs.find? fun r => r.row == i && r.col == s.columnFor t c && r.minus == minus with
  | none => (k, false)
  | some r => if inWindow (s.rd R.DRIFT_LN_LN t) (s.referred t r) k then (k, false) else (nearestLevel (s.referred t r), true)

/-- The weight a pair reads as (R247). -/
def State.readWeight (s : State) (t : Nat) (rs : List CellRead) (i c : Nat) : Int :=
  max (-15) (min 15 (((s.cellLevel t rs i c false).1 : Int) - (s.cellLevel t rs i c true).1))

/-- The cells of tile `t` outside their window. -/
def State.cellsOut (s : State) (t : Nat) (rs : List CellRead) : Nat :=
  rs.countP fun r => (List.range 256).any fun c => s.columnFor t c == r.col && (s.cellLevel t [r] r.row c r.minus).2

/-- A weight field of 512 × 256 weights (R227): eight weights to five bytes. -/
def weightField (w : Nat → Nat → Int) : List Byte :=
  (List.range 16384).flatMap fun n =>
    leBytes 5 (((List.range 8).map fun e => (w ((8 * n + e) / 256) ((8 * n + e) % 256) + 15).toNat * 32 ^ e).sum)

/-- The weights of tile `t` as read differ from those of its shard (R247): SHAKE256 over the shard with the weight field as read is not
the shard's digest. Without the shard in the store the fields themselves are compared. -/
def State.mismatch (s : State) (t : Nat) (rs : List CellRead) : Bool :=
  let f := weightField (s.readWeight t rs)
  match s.findShard (s.occOf t).digest with
  | none => f != (s.cellsOf t).weights
  | some src =>
    let b := (s.shardIn src.1 src.2).getD []
    let at_ := 64 + (if mfKind (s.slot src.1).manifest src.2 == 1 && t % 2 == 1 then 81920 else 0)
    shake256 (b.take at_ ++ f ++ (b.drop (at_ + 81920)).take (b.length - 64 - at_ - 81920)) != (s.occOf t).digest

/-- A read-back of tile `t` is counted; a mismatch is recorded with the cells outside their window (R252, R254). -/
def countReadback (s : State) (t : Nat) (mismatch : Bool) (cells : Nat) : State :=
  let s := (s.bump R.RB_CNT_COUNT 0).putTile t { s.tile t with rbSlots := 0 }
  if mismatch then
    let s := (s.bump R.RB_FAIL_CNT_COUNT 0).wr R.RB_LAST_TILE 0 t
    (s.wrSat R.RB_LAST_CELLS 0 cells).raise R.WSET_EVT_RB_FAIL 0
  else s

/-- The read-back of a tile or pair ends (R235, R247, R251): after a write, a mismatch writes it again once and then withdraws it;
in the periodic round a mismatch makes it due. A tile used as it stands (R238) needs no roll call. -/
def readbackDone (s : State) (t : Nat) (hi lo : List CellRead) : State :=
  match s.writes.find? fun w => w.tile == t && w.st == 2 with
  | some w =>
    if (span t w.pair).any fun u => decide ((s.tile u).rbSlots < readSlots) then s else
    let badHi := s.mismatch t hi
    let badLo := w.pair && s.mismatch (t + 1) lo
    let nHi := s.cellsOut t hi
    let nLo := s.cellsOut (t + 1) lo
    let s := countReadback s t badHi nHi
    let s := if w.pair then countReadback s (t + 1) badLo nLo else s
    if badHi || badLo then
      if w.tries = 1 then withdrawTile s t whyDigest else mapWrite s t fun x => { x with st := 0, tries := 1 }
    else
      let s := if w.tries = 2 then dropWrite s t else beginIdleRoll s w
      match w.use with
      | .load j => loadProgress s j
      | .stage _ _ | .rewrite | .copy _ => s
  | none =>
    let q := quadOf t
    let c := s.quad q
    let now := s.rbNow q
    if !now.contains t || decide ((s.tile t).rbSlots < readSlots) then s else
    let bad := s.mismatch t hi
    let n := s.cellsOut t hi
    let s := countReadback (s.putQuad q { c with rbRound := now.filter (· != t), readback := c.readback.filter fun u => !now.contains u }) t bad n
    if bad then hwTick (makeDue s t whyDigest []) else s

/-- A tile read-back ends (R247): the cells listed are those that do not read at their target. -/
def execReadbackDone (t : Fin 4096) (high low : List CellRead) (s : State) : Out := .next (readbackDone s t.val high low)

/-- RB_PERIOD expires (R251): the sequencer of each quadrant starts to read back every tile that holds a shard. -/
def execPeriodicReadback (s : State) : Out :=
  .next (
    let period := 60000 * msec * max 1 (s.rd R.WSET_CFG_RB_PERIOD 0)
    if s.dutiesRun && s.on R.WSET_CFG_RB_EN 0 && s.passed s.readbackAt period && s.rd R.CAL_STAT_FIRST 0 = 3 then
      (s.setReadbackAt s.now).each (List.range 8) fun s q =>
        let c := s.quad q
        if (s.rbNow q).isEmpty then s.putQuad q { c with rbRound := [], readback := (tilesOf q).filter s.holdsShard } else s
    else s)

/-! ### Rounds -/

/-- The requests whose tiles a run roll-calls in their round (R250) reach step `b` from step `a`. -/
def markRolled (s : State) (ts : List Nat) (a b : Nat) : State :=
  s.setWrites (s.writes.map fun w => if w.st == a && ts.contains w.tile then { w with st := b } else w)

/-- A round of 64 tiles has been measured and its tables are built (R200 to R204); a copy written and roll-called in it stands (R250). -/
def buildRound (s : State) (q : Nat) (fs : List TileFinding) : State :=
  let c := s.quad q
  if s.rd R.QCAL_STAT_STATE q ≠ 1 || (c.round.any fun t => decide ((s.tile t).calSlots < rollSlots)) then s
  else if c.round.isEmpty && c.lastBuilt then checkRunEnd s q
  else
    let ts := c.round
    let (ix, s) := s.draw
    let s := s.putQuad q { c with round := [], unswapped := c.unswapped ++ ts }
    let r := s.rd R.QCAL_STAT_ROUND q
    let s := s.each ts fun s t => buildTable s t ix
    let s := if r < 7 then beginRound s q (r + 1) 8 else s.putQuad q { s.quad q with lastBuilt := true }
    let s := (markRolled s ts 3 4).each ts fun s t => actOnFindings s t (fs.find? fun f => f.tile == t)
    let s := s.each (s.writes.filter fun w => w.st == 4 && ts.contains w.tile) writeEnds
    hwTick (checkRunEnd s q)

/-- A tile that was written has been roll-called idle, and its table is built (R237, R244). -/
def buildIdle (s : State) (t : Nat) (fs : List TileFinding) : State :=
  match s.writeOf t with
  | none => s
  | some w =>
    if w.st ≠ 3 || (span w.tile w.pair).any (fun u =>
        s.rd R.TCAL_STAT_TABLE u != tbMeasuring || (s.quad (quadOf u)).round.contains u || decide ((s.tile u).calSlots < rollSlots)) then s
    else
    let (ix, s) := s.draw
    let s := s.each (span w.tile w.pair) fun s u => buildTable s u ix
    let s := mapWrite s w.tile fun x => { x with st := 4 }
    let s := s.each (span w.tile w.pair) fun s u => actOnFindings s u (fs.find? fun f => f.tile == u)
    match s.writes.find? fun x => x.tile == w.tile && x.st == 4 with
    | some x => writeEnds s x
    | none => s

/-- A roll-call round of a quadrant, or the idle roll call of one tile, is measured and its standby tables are built (R200, R201). -/
def execRoundBuild (q : Fin 8) (only : Option (Fin 4096)) (fs : List TileFinding) (s : State) : Out :=
  .next (
    match only with
    | some t => buildIdle s t.val fs
    | none => buildRound s q.val fs)

/-- AGE_TRIG seconds after the last run ended a run starts (R202). -/
def execCalAgeTrigger (q : Fin 8) (s : State) : Out :=
  .next (
    let age := s.rd R.CAL_CFG_AGE_TRIG 0
    if s.dutiesRun && age ≠ 0 && s.passed (s.quad q.val).endAt (1000 * msec * age) then triggerRun s q.val runAge else s)

/-- RUN_START of QCAL_CMD triggers a run (R202). -/
def execRunStart (q : Fin 8) (s : State) : Out := .next (triggerRun s q.val runCmd)

end Sys2Proof.Machine
end

