-- ==== Sys2Proof/Machine/FirstSweep.lean ====
section
/-! DEFINITION. Machine/FirstSweep.lean: the first sweep after power-up (R214 to R216). -/

namespace Sys2Proof.Machine

/-- The numbers of the tiles. -/
def tileNums : List Nat := List.range 4096

/-- The first sweep starts on every quadrant (R214): form 1 COLD, 2 WARM. It is one of the quadrant-wide causes of STALE (R203). -/
def startFirst (s : State) (form : Nat) : State :=
  if s.firstForm ≠ 0 then s else
  let s := (s.setFirstForm form).wr R.CAL_STAT_FIRST 0 form
  s.each (List.range 8) fun s q =>
    (((s.wr R.QCAL_STAT_STATE q 2).wr R.QCAL_STAT_CAUSE q runFirst).wr R.QCAL_STAT_QSTALE q 1).putQuad q { s.quad q with startT := s.rdInt R.QCAL_TEMP_MEAN q }

/-- The spare columns found programmed in tile `t`, as words of SPARE_MAP (R215). -/
def State.sparesFound (s : State) (t : Nat) : List Word := (List.range 16).map fun n => ((s.cellsOf t).spares[n]?).getD 0

/-- Tile `t` is characterised in COLD form (R215): in a COLD sweep, or in a WARM one when its verify ramp departs from the restored values at an ADC
or a driver, or the restored SPARE_MAP differs from the spare columns found programmed. -/
def State.coldTile (s : State) (form t : Nat) (f : Option TileFinding) : Bool :=
  form == 1 || (f.map fun f => !f.legs.isEmpty || !f.drivers.isEmpty).getD false ||
    (List.range 16).map (fun n => s.word (R.SPARE_MAP.key t n)) != s.sparesFound t

/-- The maps of tile `t` are searched from scratch (R215): no leg or driver is replaced before the findings are acted on, and SPARE_MAP follows
the columns found programmed. -/
def clearMaps (s : State) (t : Nat) : State :=
  let s := s.each (List.range 18) fun s k => s.setWord (R.LEG_MAP.key t k) 0
  let s := s.setWord (R.ROWDRV_MAP.key t 0) 0
  let s := s.each ((List.range 16).zip (s.sparesFound t)) fun s e => s.setWord (R.SPARE_MAP.key t e.1) e.2
  s.putTile t { s.tile t with badLegs := [], badDrivers := [] }

/-- The first sweep measures one tile (R200, R201, R215): its table is built from a characterisation, its live gain and drift age are
established, its estimate is made, and its bank swaps in. -/
def firstTile (s : State) (form ix t : Nat) (f : Option TileFinding) : State :=
  let s := if s.coldTile form t f then clearMaps s t else s
  let s := buildTable s t ix
  let s := estimate (s.putTile t { s.tile t with gFilt := (s.tile t).gRc, gAt := s.now }) t
  actOnFindings (beginTile s (quadOf t) t false) t f

/-- The tile or pair that the shard in the store says tile `t` belongs to, when its estimate makes it due (R216). -/
def State.firstDue (s : State) (t : Nat) : Option (Bool × (Nat × Nat)) :=
  if s.svc t ≠ svcFree && !(s.svc t == svcDue && (s.hw t).any fun h => h.step == 0) then none else
  match s.findShard (s.occOf t).digest with
  | none => none
  | some src =>
    let pair := mfKind (s.slot src.1).manifest src.2 == 1
    let ts := if pair then [t - t % 2, t - t % 2 + 1] else [t]
    if pair && t % 2 == 1 || !(ts.any s.estDue) then none else some (pair, src)

/-- A tile found drifted, or due from its occupancy record and as far drifted, is rewritten in place before the first sweep ends (R216): its
homework begins (R221). -/
def firstRewrite (s : State) (t : Nat) : State :=
  match s.firstDue t with
  | none => s
  | some (pair, src) =>
    let s := s.each (span t pair) fun s u => s.wr R.TCAL_STAT_WHY u whyEst
    let s := setSvc s t pair svcHomework
    let h : Homework := (s.hw t).getD ⟨t, pair, whyEst, 0, none, 0, 0, [], false, [], 0⟩
    let s := (dropHw s t).setHomework ((dropHw s t).homework ++ [h])
    hwWrite (beginHw s { h with step := 3 }) t pair src .rewrite (h.why = whyDigest)

/-- The first sweep has ended (R207, R216): it counts as a run of every quadrant, and the reserves are formed (R210). -/
def endFirst (s : State) : State :=
  let s := ((s.setFirstForm 4).wr R.CAL_STAT_FIRST 0 3).wr R.CAL_STAT_Q_DONE 0 0xFF
  let s := s.each (List.range 8) endRun
  let s := s.raise R.CAL_EVT_FIRST_DONE 0
  hwTick (s.each (List.range 8) fillReserve)

/-- Some tile is still being rewritten (R216). -/
def State.rewriting (s : State) : Bool := s.writes.any fun w => decide (w.use = WriteUse.rewrite)

/-- The first sweep is measured on all quadrants; it ends when no tile is left to be rewritten (R215, R216). -/
def firstSweepDone (s : State) (fs : List TileFinding) : State :=
  let form := s.firstForm
  if form = 1 ∨ form = 2 then
    let (ix, s) := s.draw
    let s := s.each tileNums fun s t =>
      if s.svc t = svcWithdrawn then s else firstTile s form ix t (fs.find? fun f => f.tile == t)
    let s := (s.each tileNums firstRewrite).setFirstForm 3
    if s.rewriting then s else endFirst s
  else if form = 3 && !s.rewriting then endFirst s
  else s

end Sys2Proof.Machine
end

