-- ==== Sys2Proof/Machine/PlaceRules.lean ====
section
/-! DEFINITION. Machine/PlaceRules.lean: the placement rules of R112 and the restrictions of R37, as the reading of a job image's section area
shows them (DESIGN CHOICE, log 146). -/

namespace Sys2Proof.Machine

/-- The route carries partials to a reduction point. -/
def Route.partial_ (r : Route) : Bool := r.kind == 2 || r.kind == 3

/-- The shards whose products operator `o` reduces or delivers. -/
def Section.shardsOf (sec : Section) (o : Nat) : List ShardUse := sec.shards.filter fun u => u.oper == o

/-! ### Tiles and groups -/

/-- Rule 1 of R112: shards that the placement fixes to one tile are of one operator. -/
def Section.oneOper (sec : Section) : Bool :=
  sec.shards.all fun u => sec.shards.all fun v =>
    u.oper == v.oper || match u.tile, v.tile with
      | some a, some b => (span a u.pair).all fun x => !(span b v.pair).contains x
      | _, _ => true

/-- Rule 2 of R112: a MATVEC of m inputs and n outputs has ⌈m ÷ 512⌉ × ⌈n ÷ 256⌉ shards, ⌈m ÷ 512⌉ in each group. -/
def Section.matvecOk (sec : Section) (o : OperSpec) : Bool :=
  let us := sec.shardsOf o.oper
  let rows := (o.inputs + 511) / 512
  o.kind != .matvec || (us.length == rows * ((o.outputs + 255) / 256) &&
    us.all fun u => if u.route.partial_ then u.route.npart + 1 == rows else rows == 1)

/-- A route crosses the halves on an ACT, STATE or MESH token only; a RESULT goes to the hub (rule 9 of R112). -/
def Route.crossingOk (r : Route) (h : Nat) : Bool := r.kind == 1 || (4 ≤ r.kind && r.kind ≤ 6) || halfOfClu r.clu == h

/-- Rules 3, 5, 8 and 9 of R112 for one shard: its group lies in one half and has at most 64 parts, and a tile the placement fixes is
within reach and, for a pair, even. -/
def ShardUse.placementOk (u : ShardUse) : Bool :=
  u.route.crossingOk (u.quadrant / 4) && (!u.route.partial_ || decide (u.route.npart ≤ 63)) &&
    u.tile.all fun t => partialReach u.route t && (!u.pair || t % 2 == 0)

/-- Rule 4 of R112, for a group whose tiles the placement fixes: its reduction point holds most of them, the lowest-numbered cluster on
a tie. -/
def Section.pointOk (sec : Section) : Bool :=
  sec.shards.all fun u =>
    let g := sec.shards.filter fun v => v.oper == u.oper && v.route.partial_ && v.route.clu == u.route.clu
    !u.route.partial_ || g.any (fun v => v.tile.isNone) ||
      mostHeld (g.flatMap fun v => (span (v.tile.getD 0) v.pair).map (· / 16)) == some u.route.clu

/-- Rules 6 and 9 of R112 for one operator: an operator whose shards send partials has at least 4 slots and at most the job's quota. -/
def OperSpec.placementOk (o : OperSpec) (quota : Nat) (us : List ShardUse) : Bool :=
  (if us.any fun u => u.route.partial_ then decide (4 ≤ o.slots ∧ o.slots ≤ quota) else o.slots == 0 || decide (4 ≤ o.slots ∧ o.slots ≤ quota)) &&
    o.routes.all fun r => r.crossingOk (halfOfClu o.clu)

/-- Rule 7 of R112: the pages of a recurrent state lie in the cluster of its STATE operator. -/
def Section.stateOk (sec : Section) (o : OperSpec) : Bool :=
  o.kind != .state || o.statePages.all fun i => sec.sramPages.any fun e => e.1 == i && e.2.1 == o.clu

/-- A MIX64 has its substitute: a pair of the same half (R147). -/
def MeshUse.substOk (m : MeshUse) (us : List ShardUse) : Bool :=
  us.any fun u => u.shard == m.subst && u.pair && u.quadrant / 4 == m.half

/-! ### Links -/

/-- The routes on which tokens leave a place of some half, with the path they belong to. -/
def Section.crossings (sec : Section) : List (Nat × Route) :=
  let pathOf (o : Nat) : Nat := ((sec.opers.find? fun x => x.oper == o).map OperSpec.path).getD 0
  (sec.opers.flatMap fun o => (o.routes.filter fun r => r.kind != 6 && halfOfClu r.clu != halfOfClu o.clu).map fun r => (o.path, r)) ++
    (sec.shards.filter fun u => u.route.kind != 6 && halfOfClu u.route.clu != u.quadrant / 4).map fun u => (pathOf u.oper, u.route)

/-- Rule 10 of R112: tokens of one path that cross the halves for one operator use one bridge. -/
def Section.oneBridge (sec : Section) : Bool :=
  sec.crossings.all fun a => sec.crossings.all fun b => a.1 != b.1 || a.2.oper != b.2.oper || a.2.bridge == b.2.bridge

/-- The links between routers on the way from cluster `a` to cluster `b` of one half, by router and output port: first along x, then
along y (R98). -/
def linksBetween (a b : Nat) : List (Nat × Nat) :=
  let h := halfOfClu a
  let xs := if cluX a < cluX b then (List.range (cluX b - cluX a)).map fun i => (cluAt h (cluX a + i) (cluY a), 1)
    else (List.range (cluX a - cluX b)).map fun i => (cluAt h (cluX a - i) (cluY a), 0)
  let ys := if cluY a < cluY b then (List.range (cluY b - cluY a)).map fun i => (cluAt h (cluX b) (cluY a + i), 3)
    else (List.range (cluY a - cluY b)).map fun i => (cluAt h (cluX b) (cluY a - i), 2)
  xs ++ ys

/-- The links on the way of a token from cluster `a`: to the hub, to a cluster of its half, or over a bridge to the other. -/
def linksOn (a : Nat) (r : Route) : List (Nat × Nat) :=
  if r.kind = 6 then linksBetween a (hubRouter a)
  else if halfOfClu a = halfOfClu r.clu then linksBetween a r.clu
  else linksBetween a (bridgeRouter (halfOfClu a) r.bridge) ++ linksBetween (bridgeRouter (halfOfClu r.clu) r.bridge) r.clu

/-- A stream of tokens of a job: the links it loads and its transfers in one batch of one stream. -/
structure Traffic where
  links : List (Nat × Nat)
  transfers : Nat
  deriving DecidableEq, Repr

/-- The transfers of `n` output elements of a format with their header. -/
def outTransfers (fmt : ElemFmt) (kind n : Nat) : Nat := lenOf fmt kind n + 1

/-- The tokens of one shard in a batch: its inputs from the reduction point and its products. -/
def ShardUse.traffic (u : ShardUse) : List Traffic :=
  match u.tile with
  | .none => []
  | .some t => (if u.route.partial_ then [⟨linksBetween u.route.clu (t / 16), u.perBatch * 17⟩] else []) ++
      [⟨linksOn (t / 16) u.route, u.perBatch * outTransfers .int16 u.route.kind 256⟩]

/-- The outputs of operator `o` on one of its routes in a batch, and those of the mesh it goes to. -/
def Section.routeTraffic (sec : Section) (o : OperSpec) (r : Route) : List Traffic :=
  ⟨linksOn o.clu r, o.perBatch * outTransfers o.fmt r.kind o.outputs⟩ ::
    match sec.meshes.find? fun m => r.unit = 19 && m.oper == r.oper with
    | .some m => [⟨linksBetween r.clu m.dstClu, m.tokPerBatch * (32 * ((o.outputs + 511) / 512) + ((o.outputs + 2047) / 2048))⟩]
    | .none => []

/-- The job's own traffic in one batch (rule 11 of R112): INPUT tokens from the hub, inputs from reduction points to their tiles and products
back, the outputs of the operators, and the outputs of the meshes. -/
def Section.traffic (sec : Section) : List Traffic :=
  (sec.inputs.map fun i => ⟨linksBetween (hubRouter i.clu) i.clu, i.len + 1⟩) ++ sec.shards.flatMap ShardUse.traffic ++
  sec.opers.flatMap fun o => o.routes.flatMap (sec.routeTraffic o)

/-- Rule 11 of R112: at the declared line rate no link between routers carries more than 80 % of the slow-corner rate, 29.4 GB/s in transfers
of 32 bytes. A batch is 64 lines of each of `streams` streams. -/
def Section.rateOk (sec : Section) (streams : Nat) : Bool :=
  let fs := sec.traffic
  (fs.flatMap Traffic.links).all fun l =>
    decide (((fs.map fun f => f.links.count l * f.transfers).sum) * streams * sec.lineRate ≤ 64 * 918750000)

/-! ### Memory -/

/-- Rule 12 of R112: SRAM_KIB includes the reduction slots of 1,040 bytes (R106), the queues and the recurrent state; STAGE_KIB room for 512
results on every output stream. -/
def Section.memoryOk (sec : Section) (h : ImageHdr) : Bool :=
  decide ((1040 * (sec.opers.map OperSpec.slots).sum + 1023) / 1024 + sec.queueKib ≤ h.sramKib ∧
    (512 * (sec.paths.map PathSpec.resultBytes).sum + 1023) / 1024 ≤ h.stageKib)

/-! ### The library -/

/-- The restrictions R37 sets to one operator: a kernel of at most 64 lines, a rank of at most 256, a profile of at most 4,096 points, at
most 16 scalars. -/
def OperSpec.libraryOk (o : OperSpec) : Bool :=
  match o.kind with
  | .convSeg => decide (o.extent ≤ 64)
  | .adapt => decide (o.extent ≤ 256)
  | .headProfile => decide (o.outputs ≤ 4096)
  | .headSoft => decide (o.outputs ≤ 16)
  | .matvec | .mix64 | .mixWide | .state | .relu | .leakyRelu | .sigmoid | .tanh | .softplus | .normFixed | .normBatch | .poolMax
  | .poolMean | .elemSum | .elemDiff | .elemProd | .headDefect | .headMap => true

/-- The rules of R112, R37 and R147 on the reading of a section area. -/
def Section.placementOk (sec : Section) (h : ImageHdr) : Bool :=
  sec.oneOper && sec.shards.all ShardUse.placementOk && sec.pointOk && sec.oneBridge && sec.rateOk h.streams && sec.memoryOk h &&
    sec.opers.all (fun o => o.placementOk h.tagQuota (sec.shardsOf o.oper) && sec.matvecOk o && sec.stateOk o && o.libraryOk) &&
    sec.meshes.all fun m => m.substOk sec.shards

end Sys2Proof.Machine
end

