-- ==== Sys2Proof/Machine/PathOrder.lean ====
section
/-! DEFINITION. Machine/PathOrder.lean: results reach the hub and leave in batch order (R94, R96, R101, R110, R111), with the hub
operators OUT_MARK and OUT_AOUT (R37, R283, R424), and the payloads of results (R268). -/

namespace Sys2Proof.Machine

/-! ### Payloads -/

/-- The regions a defect head's RESULT token carries: total, then seven numbers for each region. -/
def regionsOf : List Int → Nat → List Region
  | _, 0 => []
  | l, fuel + 1 =>
    match l with
    | a :: b :: c :: d :: e :: f :: g :: rest =>
      ⟨a.toNat, b.toNat, c.toNat, d.toNat, e.toNat, BitVec.ofNat 16 f.toNat, g.toNat⟩ :: regionsOf rest fuel
    | _ => []

/-- The 16-byte entry of one region (R268). -/
def regionBytes (r : Region) : List Byte :=
  leBytes 1 r.firstLine ++ leBytes 1 r.lines ++ leBytes 2 r.firstPix ++ leBytes 2 r.pix ++ leBytes 1 r.cls ++ leBytes 1 0 ++
    leBytes 2 r.score.toNat ++ leBytes 2 0 ++ leBytes 4 r.area

/-- One element in the format FMT of R267: 0 int8, 1 int16, 2 binary16. -/
def elemBytes (fmt : Nat) (v : Int) : List Byte :=
  if fmt = 0 then leInt 1 v else if fmt = 1 then leInt 2 v else leBytes 2 v.toNat

/-- The regions a defect result reports of those labelled (R268): the first 2,048 in ascending order of FIRST_LINE, then FIRST_PIX. -/
def reported (pay : List Int) : List Region :=
  (sortBy (fun a b => decide (a.firstLine < b.firstLine) || a.firstLine == b.firstLine && decide (a.firstPix ≤ b.firstPix))
    (regionsOf (pay.drop 1) pay.length)).take 2048

/-- The payload of a result (R268): by head 0 map, 1 defect, 2 profile, 3 soft sensor. -/
def payloadBytes (head fmt : Nat) (pay : List Int) : List Byte :=
  if head = 1 then
    let rs := reported pay
    leBytes 2 rs.length ++ leBytes 2 (min 65535 (pay.headD 0).toNat) ++ rs.flatMap regionBytes
  else if head = 2 then leBytes 2 (min 4096 pay.length) ++ leBytes 2 0 ++ (pay.take 4096).flatMap (elemBytes fmt)
  else if head = 3 then leBytes 1 (min 16 pay.length) ++ leBytes 3 0 ++ (pay.take 16).flatMap (elemBytes 2)
  else leBytes 2 (pay.headD 0).toNat ++ leBytes 2 ((pay.drop 1).headD 0).toNat ++ (pay.drop 2).flatMap (elemBytes fmt)

/-- Joins the payloads of a result's parts in order: a defect head's totals add and its regions follow each other, a map's rows
add, other elements follow each other. -/
def joinParts (head : Nat) : List (List Int) → List Int
  | [] => []
  | p :: [] => p
  | p :: rest =>
    let q := joinParts head rest
    if head = 1 then (p.headD 0 + q.headD 0) :: (p.drop 1 ++ q.drop 1)
    else if head = 0 then (p.headD 0 + q.headD 0) :: (p.drop 1).headD 0 :: (p.drop 2 ++ q.drop 2)
    else p ++ q

/-! ### Arrival -/

/-- The place at which the hub keeps the RESULT tokens of a result whose parts have not all come. -/
abbrev hubPlace : Place := .unit 255 18

/-- The RESULT tokens of one result. -/
def State.partsOf (s : State) (t : Token) : List Held :=
  s.fabric.filter fun h => h.place == hubPlace && h.tok.job == t.job && h.tok.path == t.path && h.tok.stream == t.stream &&
    h.tok.bseq == t.bseq

/-- The path a RESULT token belongs to. -/
def State.pathOf (s : State) (t : Token) : Option PathSpec := (s.job t.job).sec.paths.find? fun p => p.path == t.path

/-- When all parts of a result have come they form one result, which enters the path-order stage (R95, R110). -/
def assemble (s : State) (t : Token) : State :=
  let hs := s.partsOf t
  if hs.length < t.npart + 1 then s else
  match s.batchOf t, s.pathOf t with
  | some b, some p =>
    let sorted := sortBy (fun a c => decide (a.tok.part ≤ c.tok.part)) hs
    let pay := joinParts p.head (sorted.map fun h => h.tok.payload)
    let flags := hs.foldl (fun f h => f.or h.tok.flags) Flags.none
    let flags := { flags with degraded := flags.degraded || p.reduced }
    let r : Result := {
      job := t.job, path := t.path, stream := t.stream, gen := t.gen, k := b.k, flags := flags, stamp := t.stamp, epoch := t.epoch,
      head := p.head, fmt := p.fmt, payload := payloadBytes p.head p.fmt pay,
      regions := if p.head = 1 then reported pay else [],
      soft := if p.head = 3 then pay.map Int.toNat else [],
      linePos := b.lines.map fun l => l.stamp.pos }
    (s.each hs pitchTake).setArrived (s.arrived ++ [r])
  | _, _ => s.each hs pitchTake

/-- A RESULT token reaches the hub (R94, R96, R101): a token lost to its link or of another epoch is discarded, a bad one
recovers its job, any other joins its result. The hub counts at the router its link comes from (DESIGN CHOICE, log 34). -/
def resultArrival (s : State) (e : LinkErr) : State :=
  match s.front .hub with
  | none => s
  | some h =>
    let t := h.tok
    let c := hubRouter t.srcClu
    let r := linkCheck s c h e
    if !r.2 then pitchEnter r.1 else
    let s := r.1
    if 8 ≤ t.kind || 20 ≤ t.dstUnit || 47 < t.stream || 128 < t.len then
      detectFault ((pitchTake s h).raise R.CLU_EVT_BAD_TOKEN c) t.job ⟨fcToken, false, 3, c, .none⟩
    else if h.stale || t.epoch != (s.job t.job).epoch then (pitchTake s h).bump R.EPOCH_DROP_CNT_COUNT c
    else if t.kind != 6 then pitchTake s h
    else assemble (pitchPut (pitchTake s h) hubPlace t) t

/-- A RESULT token reaches the hub's path-order stage (R110). -/
def execResultArrival (e : LinkErr) (s : State) : Out := .next (resultArrival s e)

/-! ### Emission -/

/-- The results OUT_MARK and OUT_AOUT act on: markers for every region (R283), a plant output for the first estimate (R424). -/
def hubOperators (s : State) (r : Result) : State :=
  match (s.job r.job).sec.paths.find? fun p => p.path == r.path with
  | none => s
  | some p =>
    let s := match p.mark with
      | none => s
      | some m => s.each r.regions fun s g =>
          (markSchedule s m ((r.linePos[g.firstLine]?).getD r.stamp.pos + s.word (R.MARK_OFS.key m 0))).2
    match p.aout, r.soft with
    | some c, v :: _ => outAout s r.job c v
    | some _, [] => s
    | none, _ => s

/-- A result leaves the path-order stage for its output stream (R111, R116); the batch forgets its path, and ends with its last. -/
def emitResult (s : State) (r : Result) : State :=
  let s := s.setArrived (s.arrived.erase r)
  let s := seatArrive (hubOperators s r) (outOf r.job r.path) r
  match s.batches.find? fun b => b.job == r.job && b.stream == r.stream && b.k == r.k with
  | none => s
  | some b =>
    let b' := { b with paths := b.paths.filter (· != r.path) }
    checkBatch (putBatch s b') b'

/-- The result of path `p` and stream `st` of job `j` whose turn it is (R110): of the lowest batch that has one, unless an earlier
batch dispatched on that path has not delivered. -/
def State.nextResult (s : State) (j p st : Nat) : Option Result :=
  let mine := s.arrived.filter fun r => r.job == j && r.path == p && r.stream == st
  let lowest := mine.foldl (fun (m : Option Result) r => match m with
    | none => some r
    | some x => if r.k < x.k then some r else some x) none
  lowest.filter fun r => !s.batches.any fun b =>
    b.job == j && b.stream == st && b.started && decide (b.k < r.k) && b.paths.contains p

/-- The path-order stage emits the next result of a path and stream in batch order, when its output stream has room (R110, R111). -/
def pathOrderEmit (s : State) (j p st : Nat) : State :=
  match s.nextResult j p st with
  | none => s
  | some r => if 512 ≤ (s.out (outOf j p)).room then s else emitResult s r

/-- The path-order stage emits a result (R110). -/
def execPathOrderEmit (j : Fin 16) (p : Fin 8) (st : Fin 48) (s : State) : Out := .next (pathOrderEmit s j.val p.val st.val)

end Sys2Proof.Machine
end

