-- ==== Sys2Proof/Machine/Circuits.lean ====
section
/-! DEFINITION. Machine/Circuits.lean: lanes, bridges and external ports, and what counts as a circuit in use (R171, R172, R183,
R189). -/

namespace Sys2Proof.Machine

/-- The lane states of CIRC_DATA (R194). -/
abbrev lnIdle : Nat := 0
/-- TUNING. -/
abbrev lnTuning : Nat := 1
/-- TRAIN. -/
abbrev lnTrain : Nat := 2
/-- UP. -/
abbrev lnUp : Nat := 3
/-- DRAIN. -/
abbrev lnDrain : Nat := 4
/-- PARKING. -/
abbrev lnParking : Nat := 5
/-- DOWN. -/
abbrev lnDown : Nat := 6
/-- FAILED. -/
abbrev lnFailed : Nat := 7

/-- Lane `l` of chiplet `k`: transmit lanes 0 to 15, receive lanes 16 to 31. -/
def State.lane (s : State) (k l : Nat) : Lane := spGet (fun _ => Lane.idle) s.lanes (32 * k + l % 32)

/-- Replaces lane `l` of chiplet `k`. -/
def State.putLane (s : State) (k l : Nat) (v : Lane) : State := s.setLanes (spSet (fun _ => Lane.idle) s.lanes (32 * k + l % 32) v)

/-- Half `h`. -/
def State.half (s : State) (h : Nat) : Half := spGet (fun _ => Half.reset) s.halves h

/-- Replaces half `h`. -/
def State.putHalf (s : State) (h : Nat) (v : Half) : State := s.setHalves (spSet (fun _ => Half.reset) s.halves h v)

/-- Bridge direction `b`: 0 to 7 sends from the west half, 8 to 15 from the east. -/
def State.dir (s : State) (b : Nat) : BridgeDir := spGet (fun _ => BridgeDir.reset) s.dirs b

/-- Replaces bridge direction `b`. -/
def State.putDir (s : State) (b : Nat) (v : BridgeDir) : State := s.setDirs (spSet (fun _ => BridgeDir.reset) s.dirs b v)

/-- External port `e`. -/
def State.ext (s : State) (e : Nat) : ExtPort := spGet (fun _ => ExtPort.reset) s.exts e

/-- Replaces external port `e`. -/
def State.putExt (s : State) (e : Nat) (v : ExtPort) : State := s.setExts (spSet (fun _ => ExtPort.reset) s.exts e v)

/-- The chiplet of bridge `b` (R171). -/
def chipOfBridge (b : Nat) : Nat := 2 * (b / 8) + b % 8 / 4

/-- The column bridge `b` uses: its waveguide's, or that of an external port (R171, R189). -/
def State.columnOf (s : State) (b : Nat) : Nat :=
  if s.on R.BRIDGE_CFG_ROUTE b then 4 + s.rd R.BRIDGE_CFG_EXT_SEL b else b % 4

/-- The lanes of chiplet `k` UP on column `c`: transmit lanes, or receive lanes. -/
def State.upLanes (s : State) (k c : Nat) (rx : Bool) : List Nat :=
  ((List.range 16).map fun n => if rx then 16 + n else n).filter fun l => (s.lane k l).st == lnUp && (s.lane k l).column == c

/-- Circuits UP of bridge `b`: sending, or receiving. -/
def State.circuits (s : State) (b : Nat) (rx : Bool) : Nat := (s.upLanes (chipOfBridge b) (s.columnOf b) rx).length

/-- Bridge `b` has a circuit UP in each direction. -/
def State.bridgeBoth (s : State) (b : Nat) : Bool := s.circuits b false != 0 && s.circuits b true != 0

/-- The bridge between the halves: `n` of each half, joined by its waveguide at both ends. -/
def State.bridgeJoins (s : State) (n : Nat) : Bool := !s.on R.BRIDGE_CFG_ROUTE n && !s.on R.BRIDGE_CFG_ROUTE (8 + n)

/-- Bridges that join the halves with a circuit UP in each direction (BRIDGES_UP of R196). -/
def State.bridgesUp (s : State) : Nat := ((List.range 8).filter fun n => s.bridgeJoins n && s.bridgeBoth n).length

/-- No bridge has a circuit UP in either direction (R183). -/
def State.noCircuit (s : State) : Bool :=
  (List.range 8).all fun n => !s.bridgeJoins n || (s.circuits n false == 0 && s.circuits n true == 0)

/-- The external port that bridge `b` uses when it is routed (R189). -/
def State.portOf (s : State) (b : Nat) : Nat := 2 * chipOfBridge b + s.rd R.BRIDGE_CFG_EXT_SEL b

/-- Every bridge named by a job's placement has a circuit in each direction (R187), but for one whose external port is split from its peer
(R191). -/
def State.bridgesReady (s : State) (j : Nat) : Bool :=
  (s.job j).sec.bridges.all fun b => s.bridgeBoth b || s.on R.BRIDGE_CFG_ROUTE b && (s.ext (s.portOf b)).split

/-- The halves are split (R183). -/
def State.split (s : State) : Bool := s.on R.HALF_STAT_SPLIT 0

/-- The half that is captain: CAPTAIN, or the surviving half when one has failed (R184, R186). -/
def State.captain (s : State) : Nat :=
  if (s.half 0).failed then 1 else if (s.half 1).failed then 0 else s.rd R.HALF_CFG_CAPTAIN 0

/-- The half of a job's reduced form, when its image declares one (R184). -/
def Job.reducedHalf (job : Job) : Option Nat := (job.sec.paths.find? PathSpec.reduced).map PathSpec.half

end Sys2Proof.Machine
end

