-- ==== Sys2Proof/Machine/MeshJobs.lean ====
section
/-! DEFINITION. Machine/MeshJobs.lean: what a chiplet's change of state means to the job that holds it (R39, R140, R141, R147 to R150,
R243): grade changes, waits of dispatch, and the return to a mesh. -/

namespace Sys2Proof.Machine

/-- The MIX64 operators of a job on the paths active in grade `g`. -/
def Job.meshesIn (job : Job) (g : Nat) : List MeshUse :=
  job.sec.meshes.filter fun m => job.sec.paths.any fun p =>
    p.path == m.path && (p.grades.isEmpty || p.grades.contains g) && (p.reduced == job.reduced.isSome)

/-- The chiplet that serves operator `o` of a job. -/
def Job.chipOf (job : Job) (o : Nat) : Option Nat := (job.chips.find? fun e => e.2 == o).map (·.1)

/-! ### Waits of dispatch -/

/-- A chiplet held by job `j` that is to change for a grade, or has changed for a grade or a bell and is not IN_SERVICE since (R39, R140,
R248). -/
def State.meshUnsettled (s : State) (j k : Nat) : Bool :=
  let why := (s.chip k).why
  s.meshJob k == some j &&
    (((s.meshState k == msSettling || s.meshState k == msRebuild) && decide (why = MeshWhy.grade ∨ why = MeshWhy.bell)) ||
      (s.meshState k == msChanging && decide (why = MeshWhy.grade)))

/-- Dispatch held for a grade change or for a bell's matrix goes on when every chiplet of the job is in service again (R39, R140, R248). -/
def releaseHolds (s : State) (j : Nat) : State :=
  let job := s.job j
  if (job.holds.grade || job.holds.bell) && !(chipNums.any (s.meshUnsettled j)) then
    refreshWait (s.putJob j { job with holds := { job.holds with grade := false, bell := false } }) j
  else s

/-! ### Grade changes -/

/-- The chiplets of job `j` whose matrix must change for grade `g`, with the shard (R39): those not out of service whose matrix in
service, or on its way by an earlier grade change, is another. -/
def State.gradeChips (s : State) (j g : Nat) : List (Nat × Nat) :=
  ((s.job j).meshesIn g).filterMap fun m =>
    match (s.job j).chipOf m.oper with
    | none => none
    | some k =>
      let c := s.chip k
      let n := m.matrixIn g
      let have_ := if c.next.isSome && decide (c.why = MeshWhy.grade) then c.next else c.matrix
      if s.meshState k == msOut || have_.map (·.2) == some (s.matrixOf j n) then none else some (k, n)

/-- The grade of job `j` is set, and its JOB_GRADE completes (R39, R311). -/
def setGrade (s : State) (j m g : Nat) : State :=
  releaseHolds ((s.putJob j { s.job j with grade := g }).respond m .ok 0 []) j

/-- JOB_GRADE is executed (R39, R140): without a matrix to change it completes at once; otherwise dispatch is held and the matrices
are computed. A chiplet whose matrix waits for a bell is not taken from it: the command then waits (DESIGN CHOICE, log 36). -/
def gradeStart (s : State) (j m g : Nat) : State :=
  let l := s.gradeChips j g
  if l.isEmpty then setGrade s j m g
  else if l.any fun e => (s.chip e.1).next.isSome && decide ((s.chip e.1).why = MeshWhy.bell) then s
  else
    let flying := s.batches.filter fun b => b.job == j && b.started
    let s := s.each l fun s e =>
      if ((s.chip e.1).matrix.map (·.2)) == some (s.matrixOf j e.2) then abandonChange s e.1
      else startChange s e.1 e.2 (s.matrixOf j e.2) .grade (s.meshDrain e.1 flying)
    s.putJob j { s.job j with holds := { (s.job j).holds with grade := true } }

/-- The JOB_GRADE of job `j` goes on: it completes when every matrix is computed, or starts when it had to wait (R140). -/
def gradeProgress (s : State) (j : Nat) : State :=
  match s.runningWith 0x0105 j with
  | none => s
  | some m =>
    let g := s.req m 9 1
    let mine := chipNums.filter fun k =>
      s.meshJob k == some j && s.meshState k == msChanging && decide ((s.chip k).why = MeshWhy.grade)
    if !(s.job j).holds.grade then gradeStart s j m g
    else if mine.all fun k => (s.chip k).ready then setGrade s j m g
    else s

/-! ### The return to a mesh -/

/-- A changed matrix of a staging that chiplet `k` has still to be given is computed once the chiplet can change (R243). -/
def stagedMatrix (s : State) (k : Nat) : State :=
  match s.meshJob k with
  | none => s
  | some j =>
    let st := s.stage j
    let building := s.rd R.WSET_JOB_STAGE j == 1 || s.rd R.WSET_JOB_STAGE j == 2
    let able := s.meshState k == msService || s.meshState k == msRebuild
    match st.meshes.find? fun m => m.1 == k && !m.2.2 with
    | some (_, n, _) =>
      if building && able then
        let no := ((st.noMap.find? fun e => e.1 == n).map (·.2)).getD n
        let b := ((s.shardIn (s.rd R.WSET_JOB_NEW_SLOT j) no).map shardMatrix).getD []
        startChange s k n b .bell []
      else s
    | none => s

/-- A matrix of the grade change of job `j` cannot be realised (R141): the grade is unchanged. -/
def gradeFails (s : State) (j : Nat) : State :=
  let s := s.each chipNums fun s k =>
    if s.meshJob k == some j && s.meshState k == msChanging && decide ((s.chip k).why = MeshWhy.grade) then abandonChange s k else s
  let s := (releaseHolds s j).each chipNums stagedMatrix
  match s.runningWith 0x0105 j with
  | some m => s.respond m .meshRange 0 []
  | none => s

/-- Chiplet `k` is in service for its job again (R39, R149, R248): MIX64 tokens of batches dispatched from now on go to it. -/
def meshServes (s : State) (k : Nat) : State :=
  match s.meshJob k with
  | none => s
  | some j =>
    let job := s.job j
    let os := (job.chips.filter fun e => e.1 == k).map (·.2)
    let s := s.putJob j { job with substOn := job.substOn.filter fun o => !os.contains o }
    stagedMatrix (gradeProgress (releaseHolds (loadProgress (s.wr R.MESH_STAT_SUBST k 0) j) j) j) k

/-! ### A chiplet lost -/

/-- What the loss of chiplet `k` means to a job whose batches it does not interrupt: a job being loaded is refused, a job LOADED runs on its
substitutes, a staging and a grade change go on without it (R140, R147, R243). -/
def afterLoss (s : State) (k : Nat) : State :=
  match s.meshJob k with
  | none => s
  | some j =>
    let job := s.job j
    if job.loading then failLoad s j .meshShort
    else
      let os := (job.chips.filter fun e => e.1 == k).map (·.2)
      let s := if job.started then s
        else (s.putJob j { job with substOn := dedupNat (job.substOn ++ os) }).wr R.MESH_STAT_SUBST k 1
      let st := s.stage j
      let s := s.putStage j { st with meshes := st.meshes.map fun m => if m.1 == k then (m.1, m.2.1, false) else m }
      gradeProgress (stageProgress (releaseHolds (if job.started then s else seekReturn s j) j) j) j

/-- Chiplet `k` fails (R148). -/
def meshLost (s : State) (k : Nat) (cause : OosCause) : State :=
  if s.meshState k = msOut then s else afterLoss (meshFail s k cause) k

/-- A reference carrier reads below half its power (R148). -/
def execReferenceLoss (k : Fin 4) (s : State) : Out :=
  .next (meshLost ((s.wr R.MESH_STAT_LIGHT_OK k.val 0).raise R.MESH_EVT_LIGHT_LOSS k.val) k.val .lightLoss)

/-- A heater is open or shorted (R148). -/
def execHeaterFault (k : Fin 4) (s : State) : Out :=
  .next (meshLost (s.raise R.MESH_EVT_HEATER_FAIL k.val) k.val .heater)

/-- Settling is not complete 60 µs after a swap (R148): a chiplet that settles after a move of the feed selector is not under that limit. -/
def execSettleLate (k : Fin 4) (s : State) : Out :=
  .next (
    if s.meshState k.val = msSettling && (s.chip k.val).swapped && s.passed (s.chip k.val).swapAt (60 * usec) then
      meshLost (s.raise R.MESH_EVT_SETTLE_LATE k.val) k.val .settleLate
    else s)

/-- The estimate of chiplet `k` is `resid` (R143, R144, R146): above 1.85 % the chiplet leaves service, above RESID_TRIG a trim
starts. -/
def residEstimate (s : State) (k resid : Nat) : State :=
  let s := s.wrSat R.MESH_RESID_RESID k resid
  if 185 < resid then meshLost (s.raise R.MESH_EVT_PILOT_HIGH k) k .pilotHigh
  else if s.residTrig k < resid then startTrim s k
  else s

/-- PILOT_INT of chiplet `k`; 0 is taken as 1 (R153). -/
def State.pilotInt (s : State) (k : Nat) : Nat := max 1 (s.rd R.MESH_SWAP_CFG_PILOT_INT k)

/-- A launch slot of chiplet `k` is idle and 64 × PILOT_INT slots of 0.40 ns have passed since its last pilot (R143): a slot is 12/100 of a
unit of `now`. -/
def State.pilotDue (s : State) (k : Nat) : Bool :=
  (s.chip k).order.isEmpty && !s.on R.FEED_STAT_MOVING 0 &&
    ((s.chip k).pilotAt.map fun t => decide (100 * t + 768 * s.pilotInt k ≤ 100 * s.now)).getD true

/-- A pilot pass in an idle slot, at most one in 64 × PILOT_INT slots (R143, R148): `resid` is the estimate from the last 64 pilots, `bad` the channel whose outputs lie
beyond four times the bound, which fails at the eighth pilot in a row. -/
def execPilotPass (k : Fin 4) (resid : Fin 65536) (bad : Option (Fin 512)) (s : State) : Out :=
  .next (
    if s.meshState k.val ≠ msService ∧ s.meshState k.val ≠ msRebuild ∨ !s.on R.MESH_STAT_CLK_OK k.val ∨ !s.pilotDue k.val then s
    else
      let s := s.bump R.MESH_PILOT_CNT_COUNT k.val
      let c := s.chip k.val
      let run := bad.map fun b => (b.val, match c.badChan with | some (x, n) => if x = b.val then n + 1 else 1 | none => 1)
      let s := s.putChip k.val { c with pilots := c.pilots + 1, badChan := run, pilotAt := some s.now }
      match run with
      | some (_, 8) => meshLost (s.raise R.MESH_EVT_CHAN_FAIL k.val) k.val .chanPilot
      | _ => if (s.chip k.val).pilots < 64 then s else residEstimate s k.val resid.val)

end Sys2Proof.Machine
end

