-- ==== Sys2Proof/Machine/Restart.lean ====
section
/-! DEFINITION. Machine/Restart.lean: the restart of a job (R332 to R338): taking up the fault, the epoch advance, the remedies,
and the end of a restart. -/

namespace Sys2Proof.Machine

/-- 100 µs have passed since the last epoch advance of job `j` (R334). -/
def State.epochReady (s : State) (j : Nat) : Bool := ((s.job j).epochAt.map fun t => s.passed t (100 * usec)).getD true

/-! ### The epoch advance -/

/-- The path-order flush (R110, R337): in batch order, the completed results held are emitted and every other result of a batch
dispatched before the restart is declared lost. -/
def flushPathOrder (s : State) (j : Nat) : State :=
  let cls := ((s.job j).restart.map fun r => r.cls + 128 * r.injected.toNat).getD 0
  let bs := s.batches.filter fun b => b.job == j && b.started
  let s := s.each bs fun s b =>
    let first := (b.lines.head?.map Line.stamp).getD s.stampNow
    let last := (b.lines.getLast?.map Line.stamp).getD s.stampNow
    s.each b.paths fun s p =>
      match s.arrived.find? fun r => r.job == j && r.path == p && r.stream == b.stream && r.k == b.k with
      | some r => seatArrive (hubOperators (s.setArrived (s.arrived.erase r)) r) (outOf j p) r
      | none => addMiss s j p b.stream cls b.k first last
  let s := s.setArrived (s.arrived.filter fun r => r.job != j)
  s.setBatches (s.batches.filter fun b => !(b.job == j && b.started))

/-- The batches of job `j` are struck from every tile it holds (R206): none is partly done there, and a tile HOLDING swaps at
once. -/
def strikeTiles (s : State) (j : Nat) : State :=
  s.each (dedupNat (s.job j).tiles) fun s t =>
    let r := s.tile t
    let own (key : Nat) : Bool := key / 256 / 48 == j
    let s := s.putTile t { r with
      begun := r.begun.filter fun e => !own e.key, snaps := r.snaps.filter fun e => !own e.1,
      straddle := r.straddle.filter fun k => !own k }
    if s.tileHolding t && s.swapPoint t then tableSwap s t false else s

/-- The epoch of job `j` advances (R96, R105, R334): tokens of the old epoch are stale, its tags return, and the path-order stage
and the seating plan are flushed. -/
def advanceEpoch (s : State) (j : Nat) : State :=
  let job := s.job j
  let s := s.putJob j { job with
    epoch := (job.epoch + 1) % 4, epochAt := some s.now, restart := job.restart.map fun r => { r with advanced := true } }
  let s := markStale s j
  let s := s.setFabric (s.fabric.filter fun h => !(h.place == hubPlace && h.tok.job == j))
  let s := showTags (s.setTagsHeld (s.tagsHeld.filter fun e => e.2 != j)) j
  let s := flushPathOrder s j
  let s := s.each (List.range 8) fun s p => seatFlush s (outOf j p)
  let s := strikeTiles (meshDropJob s j) j
  refreshWait (retire s j) j

/-! ### Clearing -/

/-- The recurrent state of job `j`: its queues and states (R41, R109, R334). -/
def clearRecur (s : State) (j : Nat) : State :=
  (s.setRecur (s.recur.filter fun e => e.1 / 48 != j)).setStDone (s.stDone.filter fun e => e.1 != j)

/-- Every page of job `j` with CLR set is zeroed (R334, R343). -/
def clearPages (s : State) (j : Nat) : State :=
  s.each ((s.ptes.filter fun e => e.1 / 4096 == j && e.2.v && e.2.clr).map fun e => e.2.ppn) scrubPage

/-- What a restart clears (R334): the pages with CLR set, the reduction slots and the recurrent queues. -/
def clearJob (s : State) (j : Nat) : State :=
  clearRecur (dropSlots (clearPages s j) j) j

/-! ### The end by a stop -/

/-- A job in its restart is LOADED instead (R333, R338): its state is empty and missing records cover the batches lost; a JOB_STOP
that waits is answered. -/
def endStruck (s : State) (j : Nat) : State :=
  let s := clearJob s j
  let s := s.each streamNums fun s st => closeMisses s j st
  let s := s.putJob j { s.job j with
    restart := none, fenced := false, heldFor := 0, reduced := none, restartDue := [], holds := ⟨false, false, false, false⟩ }
  let s := enterLoaded s j
  match s.runningWith 0x0103 j with
  | some m => s.respond m .ok 0 []
  | none => s

/-- The restart of job `j` is to end in LOADED (R333, R338), once its epoch has advanced (DEDUCED, log 92). -/
def stopStruck (s : State) (j : Nat) : State :=
  match (s.job j).restart with
  | none => s
  | some r =>
    let s := s.putJob j { s.job j with restart := some { r with taken := true, stop := true } }
    if r.advanced then endStruck s j
    else if s.epochReady j then endStruck (advanceEpoch s j) j
    else s

/-- Job `j` is stopped because of a fault: FAULT_STOP (R333). -/
def faultStop (s : State) (j : Nat) : State :=
  let s := s.raise R.SUP_EVT_FAULT_STOP 0
  if (s.job j).restart.isSome then stopStruck s j else stopJob s j

/-! ### Taking up a fault -/

/-- A restart's first fault is still the job's last (R342): no further one has been absorbed, and it is no return to the full form
(R187). -/
def Restart.firstIsLast (r : Restart) : Bool := decide (r.remedies.head? ≠ some Remedy.full) && decide (r.remedies.countP (· ≠ Remedy.full) ≤ 1)

/-- Firmware takes up the fault of job `j` (R333, R334, R190): it is recorded and the restart begins; the fourth within 10 s, or
one of a job being stopped, ends in LOADED (DEDUCED, log 91). -/
def takeUp (s : State) (j : Nat) : State :=
  let job := s.job j
  match job.restart with
  | none => s
  | some r =>
    if r.taken then s else
    let s := if r.firstIsLast then recordFault s j r.cls r.kind r.unit r.injected r.time else s
    let recent := job.restartsAt.filter fun t => !s.passed t (10000 * msec)
    if job.stopping then stopStruck s j
    else if 3 ≤ recent.length then faultStop s j
    else
      let s := s.putJob j { job with st := .restarting, restart := some { r with taken := true }, restartsAt := recent ++ [s.now] }
      let s := (s.bump R.JOB_RST_CNT_RESTARTS j).raise R.SUP_EVT_FAULT 0
      let s := s.each job.sec.extPorts fun s e => s.putExt e { s.ext e with ctrlOut := (s.ext e).ctrlOut ++ [j] }
      aoutJobLeaves s j

/-- Firmware takes up a job fault (R334); not during a takeover (R321, R338). -/
def execJobRestart (j : Fin 16) (s : State) : Out := .next (if s.dutiesRun then takeUp s j.val else s)

/-- The epoch of a job in its restart advances, 100 µs after the last advance at the earliest (R96, R334), and not during a takeover
(R338). -/
def execEpochAdvance (j : Fin 16) (s : State) : Out :=
  .next (
    match (s.job j.val).restart with
    | none => s
    | some r =>
      if !s.dutiesRun || !r.taken || r.advanced || !s.epochReady j.val then s
      else
        let s := advanceEpoch s j.val
        if r.stop then endStruck s j.val else s)

/-! ### Remedies -/

/-- An uncorrectable error struck a page (R332): it is scrubbed; the second within 1 h retires it, and its entries name another page of the
same cluster; without one the job is stopped. -/
def remedyPage (s : State) (j ppn : Nat) : State :=
  let again := ((spGet (fun _ => none) s.pageUe ppn).map fun t => !s.passed t (3600000 * msec)).getD false
  let s := (scrubPage s ppn).setPageUe (spSet (fun _ => none) s.pageUe ppn (some s.now))
  if !again || s.retired.contains ppn then s else
  let free := (s.freePages (ppn / 12)).head?
  let s := s.setRetired (s.retired ++ [ppn])
  let s := (s.bump R.PAGE_RET_COUNT 0).raise R.SUP_EVT_PAGE_RETIRE 0
  match free with
  | some q => (s.setXlates (s.xlates.filter fun e => e.pte.ppn != ppn)).each (s.ptes.filter fun e => e.2.v && e.2.ppn == ppn) fun s e => s.setPtes (spSet (fun _ => Pte.none) s.ptes e.1 { e.2 with ppn := q })
  | none => faultStop s j

/-- A chiplet is lost to its job (R147, R332): its operators run on their substitutes. -/
def remedyMesh (s : State) (j k : Nat) : State :=
  let os := ((s.job j).chips.filter fun e => e.1 == k).map (·.2)
  let s := s.putJob j { s.job j with substOn := dedupNat ((s.job j).substOn ++ os) }
  if s.meshJob k == some j then s.wr R.MESH_STAT_SUBST k 1 else s

/-- The vector unit and the DMA engine of cluster `c` are reset (R332; DEDUCED, log 168): they choose among jobs from the beginning, and
tokens of an epoch past that they hold are discarded. -/
def resetUnit (s : State) (c : Nat) : State :=
  let s := s.setGrantRr (s.grantRr.filter fun e => e.1 != unitArb c 16 && e.1 != unitArb c 17)
  s.each (s.fabric.filter fun h => (h.place == .unit c 16 || h.place == .unit c 17) && h.tok.epoch != (s.job h.tok.job).epoch) fun s h =>
    (pitchTake s h).bump R.EPOCH_DROP_CNT_COUNT c

/-- A unit of cluster `c` failed for the second time within 1 s (R332): the cluster is withdrawn and every job placed on it is stopped; a job that
starts on a cluster withdrawn before is stopped. -/
def remedyUnit (s : State) (j c : Nat) : State :=
  if s.cluOut.contains c then faultStop s j else
  let js := jobNums.filter fun j => (s.job j).started && (s.job j).clusters.contains c
  (s.setCluOut (s.cluOut ++ [c])).each js faultStop

/-- Job `j` runs on its reduced form in the half `h`, or is held in RESTARTING when it has none there (R184, R186). -/
def reduceOrHold (s : State) (j h cls : Nat) : State :=
  let job := s.job j
  if job.reducedHalf = some h then s.putJob j { job with reduced := some h, heldFor := 0 }
  else s.putJob j { job with heldFor := cls }

/-- A half has failed (R186, R332). -/
def remedyHalf (s : State) (j h : Nat) : State := reduceOrHold s j (1 - h) fcHalf

/-- The circuits between the halves are lost (R184): a split decides; circuits returned leave the full form. -/
def remedySplit (s : State) (j : Nat) : State := if s.split then reduceOrHold s j s.captain fcSplit else s

/-- An external port of job `j` is split from its peer (R191). -/
def State.peerSplit (s : State) (j : Nat) : Bool := (s.job j).sec.extPorts.any fun e => (s.ext e).split

/-- Every circuit to a peer module is lost (R191): split from it, the job runs on its reduced form, or is held; circuits returned leave the
full form. -/
def remedyPeer (s : State) (j : Nat) : State :=
  if !s.peerSplit j then s else
  match (s.job j).reducedHalf with
  | some h => s.putJob j { s.job j with reduced := some h, heldFor := 0 }
  | none => s.putJob j { s.job j with heldFor := fcSplit }

/-- Applies one remedy of the restart of job `j` (R332). -/
def applyRemedy (s : State) (j : Nat) (r : Remedy) : State :=
  match r with
  | .none => s
  | .page ppn => remedyPage s j ppn
  | .tile t => remedyTile s t
  | .mesh k => remedyMesh s j k
  | .bridge => remedySplit s j
  | .split => remedySplit s j
  | .reduce h cls => reduceOrHold s j h cls
  | .half h => remedyHalf s j h
  | .unit c => remedyUnit s j c
  | .reset c => resetUnit s c
  | .slices t => remedySlices s t
  | .peer => remedyPeer s j
  | .full => s.putJob j { s.job j with reduced := none, heldFor := 0 }

/-- The restart of job `j` must still wait (R184, R187, R191): a loss between the halves, or toward a peer, is neither declared a split nor
ended. -/
def State.splitOpen (s : State) (j : Nat) (r : Restart) : Bool :=
  r.remedies.any (fun m => decide (m = Remedy.bridge ∨ m = Remedy.split ∨ m = Remedy.full)) && !s.split && !s.bridgesReady j ||
    r.remedies.contains Remedy.peer && !s.peerSplit j && !s.bridgesReady j

/-! ### Restart complete -/

/-- The gap of a restart is recorded (R336, R342). -/
def recordGap (s : State) (j at_ : Nat) : State :=
  let us := (s.now - at_) / usec
  let s := (s.wrSat R.JOB_GAP_LAST j us).wrSat R.JOB_GAP_MAX j (max us (s.rd R.JOB_GAP_MAX j))
  if at_ + msec < s.now then s.raise R.SUP_EVT_RESTART_LONG 0 else s

/-- The restart of job `j` is complete (R334): WARMING with NO_BASELINE batches due on every stream; each stream waits for a line
whose number is a multiple of 64, and its first batch carries RESTART. -/
def restartDone (s : State) (j : Nat) (r : Restart) : State :=
  let nb := (s.job j).hdr.nbBatches
  let s := s.each streamNums fun s st =>
    let b := s.bind j st
    if b.bound then s.putBind j st { b with nbDisp := nb, nbLeft := nb, resume := true, lines := [], lostBatch := none } else s
  let s := s.putJob j { s.job j with
    st := .warming, fenced := false, restart := none, restartDue := (s.job j).streams, waiting := false }
  seekReturn (refreshWait (releaseHolds (checkWarm (recordGap s j r.at_) j) j) j) j

/-- Firmware clears the state of job `j`, applies the remedies and completes the restart, unless it is held (R332 to R335). -/
def restartComplete (s : State) (j : Nat) : State :=
  match (s.job j).restart with
  | none => s
  | some r =>
    if !r.taken || !r.advanced || s.splitOpen j r then s else
    let s := clearJob s j
    let s := s.putJob j { s.job j with restart := some { r with remedies := [] } }
    let s := s.each r.remedies fun s m => applyRemedy s j m
    if decide ((s.job j).st ≠ .restarting) || (s.job j).heldFor ≠ 0 then s else restartDone s j r

/-- Remedies are applied and state is cleared: the job is WARMING (R335); not during a takeover (R338). -/
def execRestartComplete (j : Fin 16) (s : State) : Out := .next (if s.dutiesRun then restartComplete s j.val else s)

/-! ### Detection -/

/-- The job's oldest tag has been held for WATCH_MS (R332, R341). -/
def State.stalled (s : State) (j : Nat) : Bool :=
  let ms := s.rd R.SUP_CFG_WATCH_MS 0
  ms != 0 && (s.tagsOf j).any fun e => ((spGet (fun _ => none) s.tagAt e.1).map fun t => s.passed t (s.hubTime (msec * ms))).getD false

/-- The stall watchdog (R332): class STALL. -/
def execStallWatchdog (j : Fin 16) (s : State) : Out :=
  .next (if s.stalled j.val then detectFault s j.val ⟨fcStall, false, 8, 0, .none⟩ else s)

/-- A restart CTRL token of a peer module (R190, R332): class PEER on the job of the same number. -/
def execPeerRestart (j : Fin 16) (s : State) : Out := .next (detectFault s j.val ⟨fcPeer, false, 9, 0, .none⟩)

/-- Half `h` is declared failed (R186, R332): HALF_FAIL, and every job placed in it is recovered. -/
def failHalf (s : State) (h : Nat) : State :=
  if (s.half h).failed then s else
  let s := (s.putHalf h { s.half h with failed := true }).raise R.SUP_EVT_HALF_FAIL 0
  faultAll s (s.jobsInHalf h) ⟨fcHalf, false, 8, h, .half h⟩

/-- The hub link of a half is lost (R332). -/
def execHubLinkLoss (h : Fin 2) (s : State) : Out :=
  .next (
    match (s.half h.val).linkLostAt with
    | some _ => s
    | none => s.putHalf h.val { s.half h.val with linkLostAt := some s.now })

/-- Hub link and sideband of half `h` have both been lost for HALF_FAIL (R332, R341: units of 10 µs, 0 taken as 1). -/
def State.halfGone (s : State) (h : Nat) : Bool :=
  match (s.half h).linkLostAt, (s.half h).sbLostAt with
  | some a, some b => s.passed (max a b) (10 * usec * max 1 (s.rd R.SUP_CFG_HALF_FAIL 0))
  | _, _ => false

/-- HALF_FAIL expires (R332). -/
def execHalfFailTimeout (h : Fin 2) (s : State) : Out := .next (if s.halfGone h.val then failHalf s h.val else s)

end Sys2Proof.Machine
end

