-- ==== Sys2Proof/Machine/Admission.lean ====
section
/-! DEFINITION. Machine/Admission.lean: the job image, its admission (R42 to R45, R112, R238 to R241, R311), and the JOB_ commands
(R39 to R41, R311). -/

namespace Sys2Proof.Machine

/-! ### The image header -/

/-- The header of a job image (R42). -/
def imageHdr (b : List Byte) : ImageHdr := {
  priority := leAt b 0x0D 1, streams := leAt b 0x0E 1, paths := leAt b 0x0F 1, tagQuota := leAt b 0x10 2, nbBatches := leAt b 0x12 2,
  sramKib := leAt b 0x14 4, stageKib := leAt b 0x18 4, tiles := leAt b 0x1C 2, pairs := leAt b 0x1E 2, meshW := leAt b 0x20 1,
  meshE := leAt b 0x21 1, flags := leAt b 0x22 1, reqXbar := leAt b 0x24 2, reqMesh := leAt b 0x26 2, wsetId := leAt b 0x28 4,
  minDesc := leAt b 0x2C 2 }

/-- IMG_LEN of a job image (R42). -/
def imageLen (b : List Byte) : Nat := leAt b 8 4

/-- The header is well formed (R42, R44): magic, format, length, reserved fields, and REQ_MESH; figures below those R33 and R42 allow
count as invalid (DESIGN CHOICE, log 37). -/
def imageFormatOk (b : List Byte) : Bool :=
  let h := imageHdr b
  bytesAt b 0 4 == [0x57, 0x59, 0x47, 0x4A] && (leAt b 4 2 == 1 || leAt b 4 2 == 2) && leAt b 6 2 == 64 &&
    decide (64 ≤ imageLen b) && leAt b 0x23 1 == 0 && leAt b 0x2E 18 == 0 && decide (h.flags < 8) &&
    decide (1 ≤ h.streams ∧ 1 ≤ h.paths ∧ h.paths ≤ 8 ∧ 16 ≤ h.tagQuota) &&
    ((h.reqMesh == 0) == (h.meshW == 0 && h.meshE == 0))

/-- The capability descriptor of R54 reports the sizes the image needs (R44). -/
def imageCapsOk (h : ImageHdr) : Bool :=
  decide (h.minDesc ≤ 1 ∧ h.streams ≤ 48 ∧ h.tagQuota ≤ 4096 ∧ h.priority ≤ 3 ∧ h.sramKib ≤ 196608 ∧ h.stageKib ≤ 32768 ∧
    h.tiles + 2 * h.pairs ≤ 4096 ∧ h.meshW ≤ 2 ∧ h.meshE ≤ 2)

/-- The bytes of the job image accepted at a staging address (R44). -/
def State.imageGot (s : State) (addr : Nat) : Nat :=
  ((s.bulk.find? fun r => r.purpose == 1 && r.addr == addr).map BulkRange.got).getD 0

/-- The digest of the image matches (R42). -/
def State.imageDigestOk (s : State) (addr : Nat) : Bool :=
  let n := imageLen (s.stBytes addr 64)
  s.stBytes (addr + n) 64 == shake256 (s.stBytes addr n)

/-! ### What a request would be given -/

/-- Tile a shard is given, and how: 0 shared with other jobs, 1 holding the shard already, 2 to be written. -/
structure Pick where
  use : ShardUse
  tile : Nat
  mode : Nat
  deriving DecidableEq, Repr

/-- What a request is given (R44): tiles, activation SRAM and staging pages, chiplets with the operators they serve. -/
structure Plan where
  picks : List Pick
  sram : List (Nat × Nat × Bool × Bool × Bool)
  stage : List (Nat × Nat × Bool × Bool × Bool)
  chips : List (Nat × Nat)
  deriving DecidableEq, Repr

/-- The HELD slot with an identifier (R44, R233). -/
def State.slotOf (s : State) (id : Nat) : Option Nat :=
  (List.range 8).find? fun n => (s.slot n).st == slHeld && leAt (s.slot n).manifest 8 4 == id

/-- A shard the image names stands in the set with the KIND it needs (R225) (DEDUCED, log 96). -/
def State.shardOk (s : State) (slot : Nat) (u : ShardUse) : Bool :=
  (s.shardIn slot u.shard).isSome && mfKind (s.slot slot).manifest u.shard == (if u.pair then 1 else 0)

/-- The half takes new placements: it has not failed. -/
def State.halfUsable (s : State) (h : Nat) : Bool := !(s.half h).failed

/-- The placement of an admitted job whose base tile a shard shares (R240). -/
def State.sharedWith (s : State) (slot : Nat) (u : ShardUse) (sa : Bool) : Option Placed :=
  let d := mfDigest (s.slot slot).manifest u.shard
  if mfRole (s.slot slot).manifest u.shard ≠ 0 then none else
  (jobNums.filter fun j => (s.job j).admitted).findSome? fun j =>
    (s.job j).placed.find? fun p => p.digest == d && p.pair == u.pair && quadOf p.tile == u.quadrant &&
      (u.tile.map (· == p.tile)).getD true && partialReach u.route p.tile &&
      ((s.job j).sec.shards.any fun v => v.shard == p.shard && v.perBatch == u.perBatch) && ((s.job j).hdr.flags / 4 % 2 == 1) == sa

/-- A free tile of the shard's quadrant within reach of its reduction point (R112) that satisfies a condition: the lowest-numbered
(DESIGN CHOICE, log 38). -/
def State.freeTile (s : State) (u : ShardUse) (used : List Nat) (ok : Nat → Bool) : Option Nat :=
  ((tilesOf u.quadrant).filter fun t => !u.pair || t % 2 == 0).find? fun t =>
    (u.tile.map (· == t)).getD true && partialReach u.route t && (span t u.pair).all (fun x => !used.contains x) &&
      s.allSvc t u.pair svcFree && ok t

/-- The tiles that need not be written: shared ones (R240), and those that hold the shard already (R238). -/
def State.pickHeld (s : State) (slot : Nat) (sa : Bool) : List ShardUse → List Nat → List (ShardUse × Option Pick)
  | [], _ => []
  | u :: rest, used =>
    match s.sharedWith slot u sa with
    | some p => (u, some ⟨u, p.tile, 0⟩) :: s.pickHeld slot sa rest used
    | none =>
      let d := mfDigest (s.slot slot).manifest u.shard
      match s.freeTile u used fun t => (span t u.pair).all fun x => (s.occOf x).digest == d with
      | some t => (u, some ⟨u, t, 1⟩) :: s.pickHeld slot sa rest (used ++ span t u.pair)
      | none => (u, none) :: s.pickHeld slot sa rest used

/-- Free tiles for the shards that have none yet; `none` when they cannot be placed (R241). -/
def State.pickFree (s : State) : List (ShardUse × Option Pick) → List Nat → Option (List Pick)
  | [], _ => some []
  | (_, some p) :: rest, used => (s.pickFree rest used).map (p :: ·)
  | (u, none) :: rest, used =>
    match s.freeTile u used fun _ => s.halfUsable (u.quadrant / 4) with
    | none => none
    | some t => (s.pickFree rest (used ++ span t u.pair)).map (⟨u, t, 2⟩ :: ·)

/-- The tiles of a request (R238, R240, R241). -/
def State.pickTiles (s : State) (slot : Nat) (sa : Bool) (us : List ShardUse) : Option (List Pick) :=
  let held := s.pickHeld slot sa us []
  s.pickFree held (held.flatMap fun e => match e.2 with
    | some p => span p.tile p.use.pair
    | none => [])

/-- The activation SRAM pages of a request: page index, PPN, R, W, CLR. -/
def State.pickSram (s : State) : List (Nat × Nat × Bool × Bool × Bool) → List Nat → Option (List (Nat × Nat × Bool × Bool × Bool))
  | [], _ => some []
  | (i, c, a) :: rest, used =>
    match (s.freePages c).find? fun p => !used.contains p && s.halfUsable (halfOfClu c) with
    | none => none
    | some p => (s.pickSram rest (used ++ [p])).map ((i, p, a) :: ·)

/-- The staging pages of a request. -/
def State.pickStage (s : State) (l : List (Nat × Bool × Bool × Bool)) : Option (List (Nat × Nat × Bool × Bool × Bool)) :=
  let free := s.freeStagePages
  if free.length < l.length then none else some ((l.zip free).map fun e => (e.1.1, e.2, e.1.2))

/-- The clusters a placement chooses. -/
def Section.clus (sec : Section) : List Nat :=
  dedupNat (sec.opers.map OperSpec.clu ++ sec.sramPages.map (fun e => e.2.1) ++
    sec.shards.flatMap fun u => (List.range 32).map fun i => 32 * u.quadrant + i)

/-- The memory a request needs can be placed (R44). -/
def State.memoryOk (s : State) (h : ImageHdr) (sec : Section) : Bool :=
  decide (h.sramKib ≤ 64 * (sec.clus.map fun c => (s.freePages c).length).sum) && decide (h.stageKib ≤ 64 * s.freeStagePages.length)

/-- The MIX64 operators that share a chiplet: of one half, with the same matrices. -/
def meshGroups : List MeshUse → Nat → List (List MeshUse)
  | [], _ => []
  | _, 0 => []
  | m :: rest, fuel + 1 =>
    let same (x : MeshUse) : Bool := x.half == m.half && x.matrices == m.matrices
    (m :: rest.filter same) :: meshGroups (rest.filter fun x => !same x) fuel

/-- The chiplets of a half that no job holds and that may be taken (R44, R149) (DEDUCED, log 88). -/
def State.freeChips (s : State) (h : Nat) : List Nat :=
  chipNums.filter fun k => halfOfChip k == h && s.meshState k == msUnused && (s.meshJob k).isNone

/-- The chiplets of a request: each group takes the next free one of its half. -/
def State.pickChips (s : State) : List (List MeshUse) → List Nat → Option (List (Nat × Nat))
  | [], _ => some []
  | g :: rest, used =>
    match (s.freeChips ((g.head?.map MeshUse.half).getD 0)).find? fun k => !used.contains k with
    | none => none
    | some k => (s.pickChips rest (used ++ [k])).map (g.map (fun m => (k, m.oper)) ++ ·)

/-- Tags not held by admitted jobs (R44). -/
def State.tagsLeft (s : State) : Nat :=
  4096 - ((jobNums.filter fun j => (s.job j).admitted).map fun j => (s.job j).hdr.tagQuota).sum

/-- A stream is not configured, or already feeds 4 jobs (R44). -/
def State.streamBusy (s : State) (st : Nat) : Bool :=
  !s.on R.STREAM_CFG_EN st || decide (4 ≤ (jobNums.filter fun j => (s.job j).admitted && (s.job j).streams.contains st).length)

/-! ### Admission -/

/-- The streams a JOB_LOAD names. -/
def State.loadStreams (s : State) (m : Nat) : List Nat := (List.range (s.req m 0x0D 1)).map fun i => s.req m (0x10 + i) 1

/-- The first parameter of a JOB_LOAD that breaks R311; NSTREAM must be the STREAMS of the image (R308: a parameter out of range comes before
the command's own refusals). -/
def State.loadBad (s : State) (m : Nat) : Option Nat :=
  let j := s.req m 0x0C 1
  let n := s.req m 0x0D 1
  if 15 < j && j != 0xFF then some 0x0C
  else if n = 0 || 48 < n || (imageHdr (s.stBytes (s.req m 8 4) 64)).streams ≠ n then some 0x0D
  else ((List.range 48).find? fun i =>
    let v := s.req m (0x10 + i) 1
    if n ≤ i then v != 0xFF else decide (47 < v) || ((List.range i).any fun q => s.req m (0x10 + q) 1 == v)).map (0x10 + ·)

/-- The job number a JOB_LOAD asks for: the lowest EMPTY one for 0xFF. -/
def State.loadJob (s : State) (m : Nat) : Option Nat :=
  if s.req m 0x0C 1 = 0xFF then jobNums.find? fun j => (s.job j).st == .empty && !(s.job j).loading else some (s.req m 0x0C 1)

/-- The checks of R44 on the image and the store, in order; `none` when all pass (DEDUCED, log 95) (DEDUCED, log 98). -/
def State.loadRefusal (s : State) (m : Nat) (sec : Section) : Option (Status × Nat) :=
  let addr := s.req m 8 4
  let b := s.stBytes addr 64
  let h := imageHdr b
  if s.req m 0x0C 1 ≠ 0xFF && (s.job (s.req m 0x0C 1)).st != .empty then some (.jobState, 0)
  else if !imageFormatOk b || decide (s.imageGot addr < imageLen b) then some (.imageFormat, 0)
  else if !s.imageDigestOk addr then some (.digest, 0)
  else if !imageCapsOk h then some (.capsMismatch, 0)
  else if leAt b 0x0C 1 ≠ 1 || !sec.supported || !sec.placementOk h then some (.feature, 0)
  else if (s.loadJob m).isNone then some (.noJobSlot, 0)
  else match s.slotOf h.wsetId with
    | none => some (.wsetMissing, 0)
    | some slot =>
      if !(sec.shards.all (s.shardOk slot)) then some (.feature, 0)
      else if h.reqXbar < s.thresh || (h.reqMesh != 0 && decide (h.reqMesh < 120)) then some (.tolerance, 0)
      else if (s.loadStreams m).any s.streamBusy then some (.streamBusy, 0)
      else if s.tagsLeft < h.tagQuota then some (.tagsShort, 0)
      else if (s.freeChips 0).length < h.meshW || (s.freeChips 1).length < h.meshE then some (.meshShort, 0)
      else none

/-- What the request is given, or the first resource that is short (R44). -/
def State.loadPlan (s : State) (h : ImageHdr) (sec : Section) (slot : Nat) : Sum Status Plan :=
  match s.pickChips (meshGroups sec.meshes sec.meshes.length) [] with
  | none => .inl .meshShort
  | some chips =>
    match s.pickSram sec.sramPages [], s.pickStage sec.stagePages with
    | some sram, some stage =>
      if !s.memoryOk h sec then .inl .sramShort
      else match s.pickTiles slot (bitOf (BitVec.ofNat 32 h.flags) 2) sec.shards with
        | none => .inl .tilesShort
        | some picks =>
          if h.flags % 2 = 1 && s.bridgesUp == 0 && h.flags / 2 % 2 == 0 then .inl .halfLost
          else .inr ⟨picks, sram, stage, chips⟩
    | _, _ => .inl .sramShort

/-- Page-table entries of a request, all scrubbed before (R327, R329). -/
def mapPages (s : State) (j : Nat) (l : List (Nat × Nat × Bool × Bool × Bool)) : State :=
  let s := s.setXlates (s.xlates.filter fun e => e.job != j)
  s.each l fun s e => (scrubPage s e.2.1).putPte j e.1 ⟨e.2.1, true, e.2.2.1, e.2.2.2.1, e.2.2.2.2⟩

/-- The registers of job `j` as firmware sets them at admission (R122, R124, R254, R342). -/
def jobRegs (s : State) (j slot : Nat) (h : ImageHdr) (p : Plan) : State :=
  let s := s.each (List.range 8) fun s i => s.setWord (R.JOB_FAULT.key j 0 + 4 * i) 0
  let s := (s.wr R.JOB_PAGES_SRAM j p.sram.length).wr R.JOB_PAGES_STAGE j p.stage.length
  let s := s.setWord (R.WSET_JOB.key j 0) 0
  let s := s.wr R.WSET_JOB_SLOT j slot
  s.each (List.range 256) fun s c =>
    s.setWord (R.RTR_PRIO.key c 0) (withField (2 * j) 2 (s.word (R.RTR_PRIO.key c 0)) h.priority)

/-- One tile given to job `j`: a shared one as it stands, one that holds the shard to be read back, any other to be written. -/
def takeTile (s : State) (j slot : Nat) (sa : Bool) (p : Pick) : State :=
  if p.mode = 0 then s else
  match s.shardIn slot p.use.shard with
  | none => s
  | some b =>
    let s := configSpan (setSvc s p.tile p.use.pair svcService) p.tile b p.use.pair sa p.use.perBatch
    s.setWrites (s.writes ++ [if p.mode = 1 then ⟨p.tile, p.use.pair, slot, p.use.shard, .load j, 2, 2, false, false⟩
      else ⟨p.tile, p.use.pair, slot, p.use.shard, .load j, 0, 0, false, false⟩])

/-- The placement of a picked tile; a shared tile's follows what its other job has. -/
def State.placedFor (s : State) (slot : Nat) (sa : Bool) (p : Pick) : Placed :=
  let d := mfDigest (s.slot slot).manifest p.use.shard
  match (if p.mode = 0 then s.sharedWith slot p.use sa else none) with
  | some q => { q with shard := p.use.shard, oper := p.use.oper, shared := true, old := none, oldVec := false }
  | none => ⟨p.use.shard, p.tile, p.use.pair, p.use.oper, false, none, none, false, d, false⟩

/-- Everything a request is given is reserved and its weights are to be written (R43, R44, R140, R234) (DEDUCED, log 99). -/
def reserve (s : State) (j slot : Nat) (h : ImageHdr) (sec : Section) (streams : List Nat) (digest : List Byte) (p : Plan) : State :=
  let sa := bitOf (BitVec.ofNat 32 h.flags) 2
  let old := s.job j
  let placed := p.picks.map (s.placedFor slot sa)
  let s := s.putJob j { Job.empty with
    hdr := h, digest := digest, sec := { sec with paths := sec.paths.map fun x => if x.reduced then { x with half := s.captain } else x },
    streams := streams, placed := placed, chips := p.chips, epoch := old.epoch,
    epochAt := old.epochAt, loading := true,
    noMap := (dedupNat (sec.shards.map ShardUse.shard ++ sec.meshes.flatMap fun m => m.matrices.map (·.2))).map fun n => (n, n) }
  let s := jobRegs s j slot h p
  let s := mapPages (mapPages s j p.sram) j p.stage
  let s := s.each p.picks fun s x => takeTile s j slot sa x
  let s := s.each (dedupNat (p.chips.map (·.1))) fun s k => placeMatrix s j k .load
  loadProgress (showStore s) j

/-- A JOB_LOAD that need not wait any more is processed (R43, R44). -/
def processLoad (s : State) (m : Nat) (sec : Section) : State :=
  match s.loadRefusal m sec with
  | some (st, d) => s.respond m st d []
  | none =>
    let addr := s.req m 8 4
    let h := imageHdr (s.stBytes addr 64)
    match s.loadJob m, s.slotOf h.wsetId with
    | some j, some slot =>
      match s.loadPlan h sec slot with
      | .inl st => s.respond m st 0 []
      | .inr p => reserve s j slot h sec (s.loadStreams m) (s.stBytes (addr + imageLen (s.stBytes addr 64)) 64) p
    | none, _ => s.respond m .noJobSlot 0 []
    | some _, none => s.respond m .wsetMissing 0 []

/-- The image of a JOB_LOAD asks for a mesh, spans the halves, or names a bridge (R142, R163). -/
def State.loadOptical (s : State) (m : Nat) (sec : Section) : Bool :=
  let h := imageHdr (s.stBytes (s.req m 8 4) 64)
  h.meshW != 0 || h.meshE != 0 || h.flags % 2 == 1 || !sec.bridges.isEmpty

/-- Ring search and the first crosstalk rebuild have ended on every chiplet that can be used (R142, R163). -/
def State.opticsReady (s : State) : Bool := chipNums.all fun k => (s.chip k).xtDone || s.meshState k == msOut

/-- The JOB_LOAD that waits goes on once the first sweep has ended and, if it needs a mesh or a bridge, the optics are ready (R45, R142,
R163). -/
def tryLoad (s : State) : State :=
  match s.loadWait with
  | none => s
  | some (m, sec) =>
    if s.firstForm ≠ 4 || (s.loadOptical m sec && !s.opticsReady) then s else processLoad (s.setLoadWait none) m sec

/-- The module is not STOPPED (R391) (DEDUCED, log 125). -/
def State.notStopped (s : State) : Bool := s.rd R.PWR_STAT_STATE 0 != 3

/-- JOB_LOAD (R43 to R45, R311): the first starts the first sweep in COLD form (R214). -/
def execJobLoad (m : Fin 16) (sec : Section) (s : State) : Out :=
  .next (s.peade m.val 0x0101 s.notStopped true (s.loadBad m.val).isNone ((s.loadBad m.val).getD 0) fun s =>
    tryLoad (startFirst (s.setLoadWait (some (m.val, sec))) 1))

/-! ### Start, stop and unload -/

/-- A job is struck at once when it starts in a half that has failed, across a split, or on a cluster withdrawn (R184, R186, R332; DEDUCED,
log 39). -/
def strikeStart (s : State) (j : Nat) : State :=
  let s := s.each [0, 1] fun s h =>
    if (s.half h).failed && (s.job j).inHalf h then detectFault s j ⟨fcHalf, false, 8, h, .half h⟩ else s
  let s := if s.split && (s.job j).spans then detectFault s j ⟨fcSplit, false, 8, 0, .split⟩ else s
  match s.cluOut.find? (s.job j).clusters.contains with
  | some c => detectFault s j ⟨fcUnit, false, 4, c, .unit c⟩
  | none => s

/-- A LOADED job starts (R40, R41, R260, R267, R343): its streams are bound, its recurrent state and baselines are empty, its pages with
CLR are zero. -/
def startJob (s : State) (j : Nat) : State :=
  let job := s.job j
  let nb := job.hdr.nbBatches
  let s := clearRecur (clearPages s j) j
  let s := s.each job.streams fun s st => s.putBind j st ⟨true, 0, [], none, false, nb, nb, none⟩
  let s := s.each (List.range 8) fun s p => s.putOut (outOf j p) { s.out (outOf j p) with recSeq := 0 }
  strikeStart (s.putJob j { s.job j with st := if nb = 0 then .running else .warming, restartDue := [], reduced := none }) j

/-- Some output stream of the job's paths is not mapped (R266). -/
def State.outUnmapped (s : State) (j : Nat) : Bool := (s.job j).sec.paths.any fun p => !s.on R.OUT_MAP_EN (outOf j p.path)

/-- JOB_START (R40, R266, R311). -/
def execJobStart (m : Fin 16) (s : State) : Out :=
  .next (s.peade m.val 0x0102 s.notStopped true true 0 fun s =>
    let j := s.req m.val 8 1
    if (s.job j).st != .loaded then s.respond m.val .jobState 0 []
    else if s.outUnmapped j then s.respond m.val .outUnmapped 0 []
    else (startJob s j).respond m.val .ok 0 [])

/-- JOB_STOP (R35, R40, R338): a job in its restart ends it; any other completes when its batches have delivered their results. -/
def execJobStop (m : Fin 16) (s : State) : Out :=
  .next (s.peade m.val 0x0103 true true true 0 fun s =>
    let j := s.req m.val 8 1
    let job := s.job j
    if !job.started then s.respond m.val .jobState 0 []
    else match job.restart with
      | none => stopJob s j
      | some r =>
        let s := s.putJob j { job with stopping := true }
        if r.taken then stopStruck s j else s)

/-- JOB_UNLOAD (R41, R329): refused unless LOADED; everything the job holds is released. -/
def execJobUnload (m : Fin 16) (s : State) : Out :=
  .next (s.peade m.val 0x0104 true true true 0 fun s =>
    let j := s.req m.val 8 1
    if (s.job j).st != .loaded then s.respond m.val .jobState 0 []
    else
      let s := (emptyJob s j).wr R.JOB_PAGES_SRAM j 0
      let s := s.wr R.JOB_PAGES_STAGE j 0
      s.respond m.val .ok 0 [])

/-- The grades an image declares; one that declares none has grade 0 (DEDUCED, log 40). -/
def Job.declares (job : Job) (g : Nat) : Bool := if job.sec.grades.isEmpty then g == 0 else job.sec.grades.contains g

/-- JOB_GRADE (R39, R140, R311). -/
def execJobGrade (m : Fin 16) (s : State) : Out :=
  .next (s.peade m.val 0x0105 s.notStopped true true 0 fun s =>
    let j := s.req m.val 8 1
    let g := s.req m.val 9 1
    if !(s.job j).admitted then s.respond m.val .jobState 0 []
    else if !(s.job j).declares g then s.respond m.val .badParam 9 []
    else gradeStart s j m.val g)

/-- The response data of JOB_STATUS (R311). -/
def State.statusData (s : State) (j : Nat) : List Byte :=
  let job := s.job j
  let nb := (streamNums.map fun st => (s.bind j st).nbLeft).foldl max 0
  leBytes 1 job.st.code ++ leBytes 1 job.hdr.priority ++ leBytes 1 (s.rd R.WSET_JOB_GEN j) ++ leBytes 1 job.epoch ++
    leBytes 2 job.hdr.tagQuota ++ leBytes 2 (s.tagsOf j).length ++ leBytes 4 (s.rd R.JOB_RST_CNT_RESTARTS j) ++
    leBytes 4 job.hdr.wsetId ++ leBytes 2 nb

/-- JOB_STATUS (R311). -/
def execJobStatus (m : Fin 16) (s : State) : Out :=
  .next (s.peade m.val 0x0106 true true true 0 fun s => s.respond m.val .ok 0 (s.statusData (s.req m.val 8 1)))

/-! ### The capability descriptor -/

/-- A text field: its characters, padded with zero (R54). -/
def textField (n : Nat) (t : List Nat) : List Byte := (t ++ List.replicate (n - t.length) 0).map (BitVec.ofNat 8)

/-- The capability descriptor (R54). Ordering code and serial number are the module's own. -/
def descriptor : List Byte :=
  leBytes 2 1 ++ leBytes 2 128 ++ textField 8 ([0x4B, 0x54, 0x36, 0x34, 0x30, 0x2D] ++ [if Config.orderE then 0x45 else 0x41]) ++
  textField 2 [0x42, 0x32] ++ leBytes 2 0 ++ (List.range 12).map Config.serial ++ leBytes 4 0 ++ leBytes 2 4096 ++ leBytes 1 2 ++
  leBytes 1 4 ++ leBytes 4 536870912 ++ leBytes 4 268435456 ++ leBytes 2 4096 ++ leBytes 1 16 ++ leBytes 1 4 ++ leBytes 1 48 ++
  leBytes 1 12 ++ leBytes 1 4 ++ leBytes 1 16 ++ leBytes 4 196608 ++ leBytes 4 32768 ++ leBytes 1 4 ++ leBytes 1 8 ++ leBytes 1 64 ++
  leBytes 1 8 ++ leBytes 4 4096 ++ leBytes 1 8 ++ leBytes 1 16 ++ leBytes 1 8 ++ leBytes 1 8 ++ leBytes 2 512 ++ leBytes 2 256 ++
  leBytes 1 32 ++ leBytes 1 64 ++ leBytes 2 16384 ++ leBytes 2 150 ++ leBytes 2 300 ++ leBytes 2 120 ++ leBytes 2 64 ++ leBytes 1 10 ++
  List.replicate 39 0

/-- CAPS_GET (R54, R311). -/
def execCapsGet (m : Fin 16) (s : State) : Out :=
  .next (s.peade m.val 0x0001 true true true 0 fun s =>
    s.respond m.val .ok 0 ((descriptor.drop (s.req m.val 8 1)).take 56))

end Sys2Proof.Machine
end

