-- ==== Sys2Proof/Machine/Transmit.lean ====
section
/-! DEFINITION. Machine/Transmit.lean: the transmit ports: frames, the order of packets, skew calibration and the
ultra-low-power state (R255, R263 to R266). -/

namespace Sys2Proof.Machine

/-- The block of transmit port `t` is not gated (R301, R370). -/
def State.txClock (s : State) (t : Nat) : Bool := bitOf (s.word (R.CLK_EN.key 0 0)) (12 + t)

/-- The records per frame and the longest frame in µs of a channel (R264): those of REC_CFG on the record channel, else those
of the lowest-numbered output stream mapped there; 0 is taken as 1. -/
def State.frameLimits (s : State) (t vc : Nat) : Nat × Nat :=
  if s.recPort = (t, vc) then (max 1 (s.rd R.REC_CFG_FRAME_RECS 0), max 1 (s.rd R.REC_CFG_FRAME_US 0))
  else match (List.range 128).find? fun n => s.mappedTo n t && s.frc R.OUT_MAP_VC n == vc with
    | some n => (max 1 (s.frc R.OUT_MAP_FRAME_RECS n), max 1 (s.frc R.OUT_MAP_FRAME_US n))
    | none => (64, 1000)

/-- Some frame is open on port `t`. -/
def State.txBusy (s : State) (t : Nat) : Bool := (List.range 16).any fun vc => (s.chan t vc).open_

/-- A skew calibration sequence is sent on port `t`; above 2.5 Gbit/s the alternate sequence is sent (R255). -/
def sendSkew (s : State) (t : Nat) : State :=
  let rate := max 4 (min 225 (s.frc R.TX_CFG_RATE t))
  let p := s.txp t
  s.putTx t { p with skews := p.skews + 1, skewAlt := decide (125 < rate), skewAt := s.now }

/-- A port that is to send and has not started sends its initial skew calibration (R255), the port of the record channel whatever its EN reads
(R266); one that sends no more is to start anew. -/
def startTx (s : State) (t : Nat) : State :=
  if !s.txResults t then s.putTx t { s.txp t with started := false }
  else if (s.txp t).started then s
  else sendSkew (s.putTx t { s.txp t with started := true }) t

/-- TX_CFG_t takes effect when port t has no frame open (R266). -/
def applyTx (s : State) (t : Nat) : State := if s.txBusy t then s else startTx (s.apply (R.TX_CFG.key t 0)) t

/-- OUT_MAP_n takes effect when its channel has no frame open (R300; log 26) and stands between two parts of none of the stream's results
(R264). -/
def applyOutMap (s : State) (n : Nat) : State :=
  let c := s.chan (s.frc R.OUT_MAP_PORT n) (s.frc R.OUT_MAP_VC n)
  if s.frc R.OUT_MAP_EN n != 0 && (c.open_ || c.mid == some n) then s else s.apply (R.OUT_MAP.key n 0)

/-- A record waits for channel `vc` of port `t`: of the record channel, or of an output stream the port sends. -/
def State.chanWaits (s : State) (t vc : Nat) : Bool :=
  s.recQ.any (fun r => r.port == t && r.vc == vc) ||
    s.txResults t && (List.range 128).any fun n => s.mappedTo n t && s.frc R.OUT_MAP_VC n == vc && !(s.out n).queue.isEmpty

/-- A frame closes with a Frame End (R264); buffered settings that waited for it take effect, and a record that waits opens the next. -/
def closeFrame (s : State) (t vc : Nat) : State :=
  let c := s.chan t vc
  let s := s.putChan t vc { c with open_ := false, recs := 0 }
  let s := s.putTx t { s.txp t with lastShort := some (.frameEnd vc c.num) }
  let s := s.each ((List.range 128).filter fun n => s.mappedTo n t && s.frc R.OUT_MAP_VC n == vc) applyOutMap
  let s := if s.txBusy t then s else applyTx (s.putTx t { s.txp t with idleAt := s.now }) t
  if s.chanWaits t vc then openFrame s t vc else s

/-- One packet leaves on a channel with its header's ECC and its payload's CRC (R255, R263, R264): in the frame open, which closes after FRAME_RECS
records. `src` is the output stream, or 128 for the record channel. -/
def sendPacket (s : State) (t vc src : Nat) (p : Packet) : State :=
  let s := openFrame (startTx s t) t vc
  let c := s.chan t vc
  let tx := s.txp t
  let s := s.putTx t { tx with
    lastPacket := some (vc, p.dtype, p.bytes), ecc := Config.headerEcc p.dtype vc p.bytes.length, crc := Config.payloadCrc p.bytes,
    sent := (tx.sent.filter fun e => decide (s.now < e.1 + msec)) ++ [(s.now, 8 * p.bytes.length)] }
  let s := s.wr R.TX_STAT_ULPS t 0
  let s := s.putChan t vc { c with recs := c.recs + 1, mid := if p.last then none else some src }
  if (s.frameLimits t vc).1 ≤ c.recs + 1 then closeFrame s t vc else s

/-- The packet of the record channel that may leave on port `t`: not between two parts of a result on its channel (R264). -/
def State.nextRecord (s : State) (t : Nat) : Option RecPacket :=
  match s.recQ.find? fun r => r.port == t with
  | none => none
  | some r => if (s.chan t r.vc).mid == none || (s.chan t r.vc).mid == some 128 then some r else none

/-- The output streams that have a packet for port `t` and may send it now (R264 to R266). -/
def State.readyOuts (s : State) (t : Nat) : List Nat :=
  if s.txResults t then
    (List.range 128).filter fun n =>
      !(s.out n).queue.isEmpty && s.mappedTo n t &&
        ((s.chan t (s.frc R.OUT_MAP_VC n)).mid == none || (s.chan t (s.frc R.OUT_MAP_VC n)).mid == some n)
  else []

/-- Transmit port `t` sends its next packet (R265): a ready packet of the record channel first, else the result packets in
round-robin order of output stream. A port whose clock is gated or whose loop coasts sends nothing (R301, R368). -/
def recordSend (s : State) (t : Nat) : State :=
  if !s.txClock t || s.rd R.CLK_STAT_LOCKED 0 / 2 ^ (4 + t) % 2 == 0 then s else
  match s.nextRecord t with
  | some r => sendPacket (s.setRecQ (s.recQ.erase r)) t r.vc 128 r.pkt
  | none =>
    let ready := s.readyOuts t
    match ((List.range 128).map fun d => ((s.txp t).rr + 1 + d) % 128).find? ready.contains with
    | none => s
    | some n =>
      let o := s.out n
      match o.queue with
      | [] => s
      | p :: rest =>
        let s := (s.putOut n { o with queue := rest }).putTx t { s.txp t with rr := n }
        sendPacket s t (s.frc R.OUT_MAP_VC n) n p

/-- A transmit port sends the next ready packet (R265). The last part of a calibration snapshot completes CAL_SAVE (R313). -/
def execRecordSend (t : Fin 4) (s : State) : Out :=
  .next (
    let snap := ((s.nextRecord t.val).map fun r => r.pkt.last && r.pkt.dtype == 0x33 && leAt r.pkt.bytes 3 1 == 3).getD false
    let s' := recordSend s t.val
    if snap && s'.recQ.length < s.recQ.length then
      match s'.runningAny 0x0303 with
      | some m => s'.respond m .ok 0 (leBytes 4 8560768)
      | none => s'
    else s')

/-- FRAME_US after a frame opened, it closes with a Frame End (R264). -/
def execFrameTimeout (t : Fin 4) (vc : Fin 16) (s : State) : Out :=
  .next (
    let c := s.chan t.val vc.val
    if c.open_ && s.passed c.at_ (usec * (s.frameLimits t.val vc.val).2) then closeFrame s t.val vc.val else s)

/-- Port `t` is due for a periodic skew calibration sequence: DESKEW_MS after its last; 0 disables it (R255, R286). -/
def State.skewDue (s : State) (t : Nat) : Bool :=
  let ms := s.frc R.TX_CFG_DESKEW_MS t
  ms != 0 && s.txClock t && s.txResults t && s.passed (s.txp t).skewAt (msec * ms)

/-- Every DESKEW_MS a transmit port sends a skew calibration sequence (R255). -/
def execDeskew (t : Fin 4) (s : State) : Out := .next (if s.skewDue t.val then sendSkew s t.val else s)

/-- A transmit port with ULPS_IDLE set and no frame open for 1 ms enters the ultra-low-power state (R255). -/
def execUlpsEntry (t : Fin 4) (s : State) : Out :=
  .next (
    if s.frc R.TX_CFG_ULPS_IDLE t.val != 0 && !s.txBusy t.val && s.passed (s.txp t.val).idleAt msec then
      s.wr R.TX_STAT_ULPS t.val 1
    else s)

/-- LOAD of TX_STAT_t: the share of the port's capacity used over the last 1 ms, in % (R286). -/
def State.txLoad (s : State) (t : Nat) : Nat :=
  let bits := (((s.txp t).sent.filter fun e => decide (s.now < e.1 + msec)).map (·.2)).sum
  let cap := (s.frc R.TX_CFG_LANES t + 1) * max 4 (min 225 (s.frc R.TX_CFG_RATE t)) * 20000
  min 255 (100 * bits / cap)

end Sys2Proof.Machine
end

