-- ==== Sys2Proof/Machine/Links.lean ====
section
/-! DEFINITION. Machine/Links.lean: circuits between the halves and to peer modules (R113, R114, R171 to R179, R183 to R191): their
making and loss, codewords, the split of the halves and its end. -/

namespace Sys2Proof.Machine

/-! ### Rings of a circuit -/

/-- The ring states of RING_DATA (R193): not yet locked. -/
abbrev rgSearching : Nat := 1
/-- Locked. -/
abbrev rgLocked : Nat := 2
/-- Parked. -/
abbrev rgParked : Nat := 3
/-- On the wrong wavelength. -/
abbrev rgWrong : Nat := 4
/-- Failed. -/
abbrev rgFailed : Nat := 5

/-- Ring `i` of chiplet `k`. -/
def State.ring (s : State) (k i : Nat) : Ring := spGet (fun _ => Ring.reset) s.rings (2048 * k + i % 2048)

/-- Replaces ring `i` of chiplet `k`. -/
def State.putRing (s : State) (k i : Nat) (v : Ring) : State := s.setRings (spSet (fun _ => Ring.reset) s.rings (2048 * k + i % 2048) v)

/-- NOT_LOCKED of chiplet `k` (R193): its rings neither locked nor parked. -/
def showRings (s : State) (k : Nat) : State :=
  let fine := s.rings.filter fun e => e.1 / 2048 == k && (e.2.st == rgLocked || e.2.st == rgParked)
  s.wr R.RING_STAT_NOT_LOCKED k (1584 - fine.length)

/-- Twice the slot of an assignment (R158): parked lies midway between slots 16 and 17. -/
def slot2 (a : Nat) : Int := if a = 16 then 33 else 2 * a

/-- A heater code moved from one slot to another at 2,731 codes per slot, within its range by whole free spectral ranges (R157). -/
def moveCode (code a b : Nat) : Nat :=
  let c : Int := code + 2731 * (slot2 b - slot2 a) / 2
  (if c < 0 then c + 49152 else if 65535 < c then c - 49152 else c).toNat

/-- A ring is brought to an assignment and state; its level at lock is taken anew (R165). -/
def tuneRing (s : State) (k i a st : Nat) : State :=
  let r := s.ring k i
  s.putRing k i { r with
    assign := a, st := st, heater := moveCode r.heater (if r.assign = 17 then 16 else r.assign) a, frozen := none, lockLevel := none }

/-- The couplers of a lane or switch ring toward the lane and toward the column are switched (R157). -/
def coupleRing (s : State) (k i : Nat) (lane col : Bool) : State :=
  if i < 1040 then s else s.putRing k i { s.ring k i with laneSide := lane, colSide := col }

/-- The rings of lane `l` of chiplet `k` on column `c`: the lane's and that of the switch crossing (R159, R175). -/
def laneRings (l c : Nat) : List Nat :=
  if l < 16 then [1040 + l, 1072 + 16 * l + c] else [1056 + (l - 16), 1328 + 16 * (l - 16) + c]

/-- A lane's rings are parked with their couplers off (R176). A failed ring stays as it is, and one that awaits its re-search is parked by
that (R166, R167). -/
def parkLane (s : State) (k l c : Nat) : State :=
  showRings (s.each (laneRings l c) fun s i =>
    let r := s.ring k i
    if r.st = rgFailed then s
    else if r.st = rgSearching ∨ r.st = rgWrong then s.putRing k i { r with assign := 16 }
    else coupleRing (tuneRing s k i 16 rgParked) k i false false) k

/-- A lane's rings are parked and are to be re-searched, their lane side on the search input (R167, R175). -/
def searchLane (s : State) (k l c : Nat) : State :=
  showRings (s.each (laneRings l c) fun s i =>
    if (s.ring k i).st = rgFailed then s
    else
      let s := coupleRing (tuneRing s k i 16 rgSearching) k i true false
      s.putRing k i { s.ring k i with sweeps := 0 }) k

/-! ### Watching the paths between the halves -/

/-- Half `h` is switched on. -/
def State.halfOn (s : State) (h : Nat) : Bool := if h = 0 then s.on R.PWR_STAT_WEST_ON 0 else s.on R.PWR_STAT_EAST_ON 0

/-- Both halves are healthy (R183). -/
def State.halvesHealthy (s : State) : Bool := [0, 1].all fun h => s.halfOn h && !(s.half h).failed

/-- Circuits UP on an external port: sending, or receiving. -/
def State.extCircuits (s : State) (e : Nat) (rx : Bool) : Nat := (s.upLanes (e / 2) (4 + e % 2) rx).length

/-- Circuits kept in each direction of external port `e` (R196). -/
def State.extMin (s : State) (e : Nat) : Nat := max 1 (min 4 (s.rd R.EXT_CFG_MIN e))

/-- Since when an instant of a condition has held: kept while it holds. -/
def since (cond : Bool) (now : Nat) (old : Option Nat) : Option Nat := if cond then some (old.getD now) else none

/-- The external port whose circuits carry bridge `b` of a half's own (R189); none is routed there otherwise. -/
def State.extBridge (s : State) (e : Nat) : Option Nat :=
  (List.range 16).find? fun b => s.on R.BRIDGE_CFG_ROUTE b && s.portOf b == e

/-- The direction that the circuit of a lane serves, by the number of its record: the sending bridge between the halves; for an external
port the bridge that sends over it, or its receiving direction 16 + e; 32 + e while no bridge is routed to the port. -/
def State.senderOf (s : State) (k l : Nat) : Nat :=
  let x := s.lane k l
  let h := halfOfChip k
  let e := 2 * k + (x.column - 4)
  if x.ext then (if l < 16 then (s.extBridge e).getD (32 + e) else 16 + e)
  else if l < 16 then 8 * h + x.bridge else 8 * (1 - h) + x.bridge

/-- The circuits UP of direction `b`, by their lanes at the sending end, and at the receiving end for an external port, in ascending order
(R174). -/
def State.dirLanes (s : State) (b : Nat) : List Nat :=
  let k := if b < 16 then chipOfBridge b else (b % 16) / 2
  ((s.upLanes k (if b < 16 then s.columnOf b else 4 + b % 2) (decide (16 ≤ b))).filter fun l => s.senderOf k l == b).map (32 * k + ·)

/-- The circuit after `x` in a striping map, in turn (R174). -/
def nextTurn (m : List Nat) (x : Nat) : Nat := ((m.find? fun y => x < y) <|> m.head?).getD 0

/-- The striping map of direction `b` follows its circuits (R174): a change holds from the number of the next codeword (DESIGN CHOICE, log
173). -/
def restripe (s : State) (b : Nat) : State :=
  let d := s.dir b
  let m := s.dirLanes b
  if m = d.map then s else s.putDir b { d with map := m, mapFrom := d.cwSeq, turn := if m.contains d.turn then d.turn else nextTurn m d.turn }

/-- The times of R183, R187 and R191 after a change of circuits: since when no circuit joins the halves, since when one joins them in both
directions, and the same toward each peer; and the striping maps. The wait of R183 runs from when both halves are healthy
without a circuit (DEDUCED, log 100). -/
def linkWatch (s : State) : State :=
  let s := s.each (List.range 24) restripe
  let s := if s.halvesHealthy then s.setSplitAt (since s.noCircuit s.now s.splitAt) else s.setSplitAt none
  let s := s.setReturnAt (since (decide (0 < s.bridgesUp)) s.now s.returnAt)
  s.each (List.range 8) fun s e =>
    let x := s.ext e
    let none_ := s.extCircuits e false == 0 && s.extCircuits e true == 0
    s.putExt e { x with downAt := since none_ s.now x.downAt, upAt := since (s.extCircuits e false != 0 && s.extCircuits e true != 0) s.now x.upAt }

/-! ### Adding and removing -/

/-- The lanes of chiplet `k` that hold wavelength λ`w` on column `c` (R172). -/
def State.waveUsers (s : State) (k c w : Nat) : List Nat :=
  (List.range 32).filter fun l => (s.lane k l).column == c && (s.lane k l).wave == w && (s.lane k l).st != lnIdle && (s.lane k l).st != lnFailed

/-- The wavelength is free on column `c` of chiplet `k` (R172). -/
def State.waveFree (s : State) (k c w : Nat) : Bool := (s.waveUsers k c w).isEmpty

/-- Lane `l` of chiplet `k` can take a circuit on column `c`: idle, its rings parked and none failed (R166). -/
def State.laneFree (s : State) (k l c : Nat) : Bool :=
  (s.lane k l).st == lnIdle && (laneRings l c).all fun i => (s.ring k i).st == rgParked

/-- The circuit of lane `l` of chiplet `k` is being parked (R176, R178). -/
def State.laneParking (s : State) (k l : Nat) : Bool := (s.lane k l).st == lnParking || (s.lane k l).st == lnDown

/-- Circuits can be made on chiplet `k`: its rings have been searched and light is present (R160, R163). -/
def State.linkReady (s : State) (k : Nat) : Bool :=
  s.rd R.RING_STAT_PHASE k == 2 && !s.on R.FEED_STAT_MOVING 0 && s.halfOn (halfOfChip k)

/-- A circuit of wavelength λ`w` may begin now on the lanes given, each a chiplet, a lane and its column. -/
def State.endsFree (s : State) (ends : List (Nat × Nat × Nat)) (w : Nat) : Bool :=
  ends.all fun e => s.linkReady e.1 && s.laneFree e.1 e.2.1 e.2.2 && s.waveFree e.1 e.2.2 w

/-- A circuit on the lanes given must wait only for lanes or a wavelength that are being parked (R179). -/
def State.endsParking (s : State) (ends : List (Nat × Nat × Nat)) (w : Nat) : Bool :=
  !s.endsFree ends w && ends.all fun e => s.linkReady e.1 && (s.laneFree e.1 e.2.1 e.2.2 || s.laneParking e.1 e.2.1) &&
    (s.waveUsers e.1 e.2.2 w).all (s.laneParking e.1)

/-- A circuit of wavelength λ`w` begins on the lanes given; `b` is the bridge of the half (R175). -/
def addCircuit (s : State) (ends : List (Nat × Nat × Nat)) (w b : Nat) (ext : Bool) : State :=
  s.each ends fun s e =>
    let mate := (ends.find? fun f => f != e).map fun f => 32 * f.1 + f.2.1
    s.putLane e.1 e.2.1 ⟨lnTuning, e.2.2, w, b, ext, mate, 0, s.now, []⟩

/-- The ends of a circuit that sends from bridge `b` of a half: its own chiplet's transmit lane and the partner's receive lane. -/
def State.bridgeEnds (s : State) (b tx rx : Nat) : List (Nat × Nat × Nat) :=
  let p := (b + 8) % 16
  [(chipOfBridge b, tx, s.columnOf b), (chipOfBridge p, 16 + rx, s.columnOf p)]

/-- The end of a circuit of external port `e`. -/
def extEnds (e : Nat) (out : Bool) (n : Nat) : List (Nat × Nat × Nat) := [(e / 2, if out then n else 16 + n, 4 + e % 2)]

/-- The bridge of its half that external port `e` extends (R189). -/
def State.bridgeOfExt (s : State) (e : Nat) : Nat := (s.extBridge e).getD 0 % 8

/-- A circuit of the sending bridge `b` begins, or waits for a parking to end (R175, R179). -/
def beginBridge (s : State) (b w tx rx : Nat) : State :=
  let ends := s.bridgeEnds b tx rx
  if !s.bridgeJoins (b % 8) then s
  else if s.endsFree ends w then addCircuit s ends w (b % 8) false
  else if s.endsParking ends w then s.putDir b { s.dir b with waits := (s.dir b).waits.filter (· != (w, tx, rx)) ++ [(w, tx, rx)] }
  else s

/-- A circuit of external port `e` begins, or waits for a parking to end (R175, R179). -/
def beginExt (s : State) (e : Nat) (out : Bool) (w n : Nat) : State :=
  let ends := extEnds e out n
  if !s.on R.EXT_CFG_EN e then s
  else if s.endsFree ends w then addCircuit s ends w (s.bridgeOfExt e) true
  else if s.endsParking ends w then s.putExt e { s.ext e with waits := (s.ext e).waits.filter (· != (out, w, n)) ++ [(out, w, n)] }
  else s

/-- The additions that wait are taken up once the parking they wait for has ended (R179). -/
def retryWaits (s : State) : State :=
  let s := s.each (List.range 16) fun s b =>
    let l := (s.dir b).waits
    if l.isEmpty then s else (s.putDir b { s.dir b with waits := [] }).each l fun s a => beginBridge s b a.1 a.2.1 a.2.2
  s.each (List.range 8) fun s e =>
    let l := (s.ext e).waits
    if l.isEmpty then s else (s.putExt e { s.ext e with waits := [] }).each l fun s a => beginExt s e a.1 a.2.1 a.2.2

/-- The lane at the other end of a circuit, as chiplet and lane. -/
def Lane.other (x : Lane) : List (Nat × Nat) := (x.mate.map fun m => (m / 32, m % 32)).toList

/-- The two ends of the circuit of lane `l` of chiplet `k`, the lane first. -/
def State.ends (s : State) (k l : Nat) : List (Nat × Nat) := (k, l) :: (s.lane k l).other

/-- Both ends of a circuit enter a lane state; a failed lane stays failed (R166). -/
def setEnds (s : State) (es : List (Nat × Nat)) (st : Nat) : State :=
  s.each es fun s e =>
    let x := s.lane e.1 e.2
    if x.st = lnFailed then s else s.putLane e.1 e.2 { x with st := st, ue := 0, at_ := s.now, deskew := [] }

/-- The monitor of a lane (R180): LINK_EG of a transmit lane, LINK_IN of a receive lane. -/
def laneMon (l : Nat) : Nat := if l < 16 then 73 + l else 89 + (l - 16)

/-- Monitor `i` of chiplet `k`. -/
def State.mon (s : State) (k i : Nat) : Mon := spGet (fun _ => Mon.reset) s.mons (128 * k + i % 128)

/-- Replaces monitor `i` of chiplet `k`. -/
def State.putMon (s : State) (k i : Nat) (v : Mon) : State := s.setMons (spSet (fun _ => Mon.reset) s.mons (128 * k + i % 128) v)

/-- A monitor's power now becomes its level at lock (R181) (DEDUCED, log 102). -/
def lockMon (s : State) (k i : Nat) : State := s.putMon k i { s.mon k i with lock := some (s.mon k i).power, runs := 0, located := false }

/-- LOSS_DB in units of 0.01 dB (R196). -/
def State.lossDb (s : State) : Int := 25 * max 12 (min 60 (s.rd R.RING_CFG_LOSS_DB 0))

/-- Monitor `i` of chiplet `k` reads more than LOSS_DB below its level at lock (R181). -/
def State.faint (s : State) (k i : Nat) : Bool :=
  match (s.mon k i).lock with
  | some p => decide ((s.mon k i).power < p - s.lossDb)
  | none => false

/-- The circuit of a lane fails in training (R175): its rings are parked and re-searched, and its lanes and wavelength are released. -/
def trainFail (s : State) (k l : Nat) : State :=
  s.each (s.ends k l) fun s e =>
    let s := searchLane s e.1 e.2 (s.lane e.1 e.2).column
    (if (s.lane e.1 e.2).st = lnFailed then s else s.putLane e.1 e.2 Lane.idle).raise R.LINK_EVT_TRAIN_FAIL e.1

/-- The rings of the lane of a circuit on its way, after the time since it began (R175): from 2 µs they move to its wavelength, from 10 µs their
couplers are on, and from 12 µs they are locked and the lane trains. -/
def tuneLane (s : State) (k l : Nat) : State :=
  let x := s.lane k l
  if x.st ≠ lnTuning || !s.passed x.at_ (2 * usec) then s else
  let on := s.passed x.at_ (10 * usec)
  let locked := s.passed x.at_ (12 * usec)
  let s := showRings (s.each (laneRings l x.column) fun s i =>
    coupleRing (tuneRing s k i x.wave (if locked then rgLocked else rgParked)) k i on on) k
  if locked then s.putLane k l { x with st := lnTrain } else s

/-- The circuit of a lane goes through the stages of R175 that the time has brought: when both ends are to train, the power at its
egress and ingress is checked, and a circuit without it fails (DEDUCED, log 174). -/
def tuneCircuit (s : State) (k l : Nat) : State :=
  if (s.lane k l).st ≠ lnTuning then s else
  let es := s.ends k l
  let s := s.each es fun s e => tuneLane s e.1 e.2
  if (s.lane k l).st = lnTrain && es.any (fun e => s.faint e.1 (laneMon e.2)) then trainFail s k l else s

/-- Every circuit on its way goes through the stages that the time has brought (R175). -/
def tuneAll (s : State) : State :=
  s.each ((s.lanes.filter fun e => e.2.st == lnTuning).map (·.1)) fun s n => tuneCircuit s (n / 32) (n % 32)

/-- The training of the circuit of a lane ends, 19 µs after it began (R175; DEDUCED, log 174): UP, with its power at lock taken; or failed. -/
def circuitUp (s : State) (k l : Nat) (ok : Bool) : State :=
  let s := tuneCircuit s k l
  let x := s.lane k l
  if x.st = lnTrain ∧ s.passed x.at_ (19 * usec) = true then
    if ok then
      let es := s.ends k l
      let s := setEnds s es lnUp
      linkWatch (s.each es fun s e => (lockMon (showRings s e.1) e.1 (laneMon e.2)).raise R.LINK_EVT_CIRC_UP e.1)
    else trainFail s k l
  else s

/-! ### Loss -/

/-- The jobs whose placement names bridge `b` of a half, or external port: by bridge of the half (R178). -/
def State.jobsOnBridge (s : State) (n : Nat) : List Nat :=
  jobNums.filter fun j => (s.job j).started && (s.job j).sec.bridges.any fun b => b % 8 == n

/-- Half `h` applies precedence itself and is not the captain: it sends no tokens of cross-half jobs and discards those that arrive
(R185). -/
def State.cutHalf (s : State) (h : Nat) : Bool := (s.half h).selfRule && h != s.captain

/-- A token of a cross-half job at a half that has cut itself off (R185). -/
def State.cutToken (s : State) (h : Nat) (t : Token) : Bool := s.cutHalf h && (s.job t.job).spans

/-- The tokens that have a transfer among the next `room` that leave a queue, of whose first token `carried` have left. -/
def codewordTokens : List Held → Nat → Nat → List Token
  | [], _, _ => []
  | h :: hs, carried, room =>
    if room = 0 then [] else h.tok :: codewordTokens hs 0 (room - (h.tok.transfers - carried))

/-- The tokens of the next codeword of the sending bridge `b`. -/
def State.nextTokens (s : State) (b : Nat) : List Token :=
  codewordTokens (s.fabric.filter fun h => h.place == .bridge b && !h.stale && !s.cutToken (b / 8) h.tok) (s.dir b).carried 10

/-- The position, 0 to 9, of the first token header among the transfers of the next codeword; 15 if none (R173). -/
def State.headerPos (s : State) (b : Nat) : Nat :=
  let d := s.dir b
  match s.nextTokens b with
  | [] => 15
  | t :: ts => if d.carried = 0 then 0 else if ts.isEmpty then 15 else t.transfers - d.carried

/-- A token reaches half `r` over bridge `b` of the halves (R113): a half cut off discards one of a cross-half job (R185). -/
def crossToken (s : State) (r b : Nat) (t : Token) : State :=
  if s.cutToken r t then s else pitchPut s (.entry (bridgeRouter r b) 1) t

/-- A codeword's 10 transfers leave the queue of the sending bridge `b`; a token whose last transfer has left is delivered to the partner router, or to
the peer module (R113, R173, R174). Of a codeword that is `lost` the receiver discards every token, what is still to come of the last
included (R178). -/
def moveTransfers (s : State) (b : Nat) (peer lost : Bool) : Nat → Nat → State
  | 0, _ => s
  | fuel + 1, room =>
    match s.front (.bridge b) with
    | none => s
    | some h =>
      let d := s.dir b
      if h.stale then moveTransfers ((dropStale s h).putDir b { d with carried := 0, skip := false }) b peer lost fuel room
      else if s.cutToken (b / 8) h.tok then
        moveTransfers ((pitchTake s h).putDir b { d with carried := 0, skip := false }) b peer lost fuel room
      else
        let left := h.tok.transfers - d.carried
        if room < left then s.putDir b { d with carried := d.carried + room, skip := d.skip || (lost && room != 0) }
        else
          let s := (pitchTake s h).putDir b { d with carried := 0, skip := false }
          let s := if lost || d.skip || peer then s else crossToken s (1 - b / 8) (b % 8) h.tok
          moveTransfers s b peer lost fuel (room - left)

/-- The transfers of one codeword of the sending bridge `b` leave its queue. -/
def sendCodeword (s : State) (b : Nat) (peer lost : Bool) : State :=
  pitchEnter (moveTransfers s b peer lost (10 + (s.fabric.filter fun h => h.place == .bridge b).length) 10)

/-- A codeword of the sending bridge `b` is lost (R178): every token with a transfer in it is discarded and its job recovered; when it held
a header, every job whose placement uses the bridge (DEDUCED, log 107). -/
def loseCodeword (s : State) (b : Nat) (peer : Bool) : State :=
  let ts := s.nextTokens b
  let header := s.headerPos b != 15
  let s := sendCodeword s b peer true
  faultAll s (dedupNat (ts.map Token.job ++ if header then s.jobsOnBridge (b % 8) else [])) ⟨fcBridge, false, 7, b, .bridge⟩

/-- The chiplet that receives on the circuit of a lane: a peer's is none of the module's, and its own stands for it. -/
def State.rxChip (s : State) (k l : Nat) : Nat := if l < 16 then (((s.lane k l).mate).map fun m => m / 32).getD k else k

/-- No circuit of the direction a lane serves is UP. -/
def State.lastGone (s : State) (k l : Nat) : Bool := (s.upLanes k (s.lane k l).column (decide (16 ≤ l))).isEmpty

/-- A codeword on the circuit of a lane is lost as it goes DOWN (R178), with those an external port's circuit has received and not merged. -/
def loseOnCircuit (s : State) (k l : Nat) (lost : Bool) : State :=
  let x := s.lane k l
  let b := s.senderOf k l
  let s := if lost then s.bump R.CW_UE_CNT_COUNT (s.rxChip k l) else s
  if x.ext && decide (16 ≤ l) then
    faultAll s (dedupNat (x.deskew.flatMap fun c => c.inc.map Token.job)) ⟨fcBridge, false, 7, b, .peer⟩
  else if lost then loseCodeword s b x.ext else s

/-- The circuit of a lane goes DOWN (R178): `lost` when a codeword on it was lost. A direction without a circuit sets BRIDGE_LOST or EXT_LOST; with no
circuit left between the halves, or toward a peer module, every job that spans them is recovered (R184, R191). -/
def circuitDown (s : State) (k l : Nat) (lost : Bool) : State :=
  let x := s.lane k l
  if x.st ≠ lnUp then s else
  let es := s.ends k l
  let e := 2 * k + (x.column - 4)
  let s := loseOnCircuit s k l lost
  let s := setEnds s es lnDown
  let s := s.each es fun s e => s.raise R.LINK_EVT_CIRC_DOWN e.1
  let s := if s.lastGone k l then
      s.each es fun s e => s.raise (if x.ext then R.LINK_EVT_EXT_LOST else R.LINK_EVT_BRIDGE_LOST) e.1
    else s
  let s := if !x.ext && s.noCircuit then
      faultAll s (jobNums.filter fun j => (s.job j).spans) ⟨fcBridge, false, 7, s.senderOf k l, .bridge⟩
    else s
  let s := if x.ext && s.extCircuits e false == 0 && s.extCircuits e true == 0 then
      faultAll s (jobNums.filter fun j => (s.job j).sec.extPorts.contains e) ⟨fcBridge, false, 9, e, .peer⟩
    else s
  linkWatch s

/-- A circuit goes DOWN on ingress loss, a ring fault or 16 uncorrectable codewords (R178). -/
def execCircuitDown (k : Fin 4) (l : Fin 32) (lost : Bool) (s : State) : Out := .next (circuitDown s k.val l.val lost)

/-- A circuit is dropped from the striping map, or given up on its way, and its rings are parked (R176). -/
def removeCircuit (s : State) (k l : Nat) : State :=
  let st := (s.lane k l).st
  if st = lnUp ∨ st = lnTuning ∨ st = lnTrain then linkWatch (setEnds s (s.ends k l) lnParking) else s

/-- The circuit of a lane must be kept: the last of a bridge direction (R114), or one of those an enabled external port keeps (R191). -/
def State.mustKeep (s : State) (k l : Nat) : Bool :=
  let x := s.lane k l
  let e := 2 * k + (x.column - 4)
  let n := (s.upLanes k x.column (decide (16 ≤ l))).length
  if x.ext then s.on R.EXT_CFG_EN e && decide (n ≤ s.extMin e) else decide (n ≤ 1)

/-- A circuit is removed (R176); the last circuit of a bridge direction is kept while its link is intact (R114), and those an enabled
external port keeps (R191). -/
def execCircuitRemove (k : Fin 4) (l : Fin 32) (s : State) : Out :=
  .next (if (s.lane k.val l.val).st ≠ lnUp || s.mustKeep k.val l.val then s else removeCircuit s k.val l.val)

/-- The rings of a removed or lost circuit are parked: its lanes and wavelength are free (R176) (DEDUCED, log 110), and what waits for them
goes on (R179). A failed lane stays failed (R166). -/
def parkingDone (s : State) (k l : Nat) : State :=
  if s.laneParking k l then
    let s := s.each (s.ends k l) fun s e =>
      let x := s.lane e.1 e.2
      if x.st = lnFailed then s else (parkLane s e.1 e.2 x.column).putLane e.1 e.2 Lane.idle
    retryWaits s
  else s

/-- Parking ends (R176). -/
def execParkingDone (k : Fin 4) (l : Fin 32) (s : State) : Out := .next (parkingDone s k.val l.val)

/-- A chiplet loses every circuit (R166, R179, R380): they go DOWN, and the token partly sent on each direction is lost. -/
def chipCircuitsDown (s : State) (k : Nat) : State :=
  s.each (List.range 32) fun s l => circuitDown s k l ((s.dir (s.senderOf k l)).carried != 0)

/-! ### Codewords -/

/-- A token of a peer module arrives at half `h` (R189, R190): its destination is taken as a cluster of that half, at the router of the bridge the port
extends. -/
def peerToken (s : State) (h b : Nat) (t : Token) : State :=
  pitchPut s (.entry (bridgeRouter h b) 1) { t with dstClu := 128 * h + t.dstClu % 128 }

/-- The codewords of a circuit wait for their turn at its receiving end (R174): the lane of a circuit named by its sending one. -/
def State.rxLane (s : State) (n : Nat) : Nat :=
  let x := s.lane (n / 32) (n % 32)
  if x.ext then n else x.mate.getD n

/-- A codeword of the circuit of lane `l` of chiplet `k` is merged (R173, R178): up to 7 symbol errors are corrected and counted, and its transfers
delivered; more are uncorrectable, and the sixteenth in a row takes the circuit DOWN. -/
def takeCodeword (s : State) (k l : Nat) (c : Codeword) : State :=
  let x := s.lane k l
  let b := s.senderOf k l
  let rx := s.rxChip k l
  let e := 2 * k + (x.column - 4)
  let d := s.dir b
  let s := s.putDir b { d with cwSeq := (d.cwSeq + 1) % 64, frame := d.cwSeq + 64 * s.headerPos b }
  if c.errs ≤ 7 then
    let s := if c.errs = 0 then s else s.bump R.CW_CE_CNT_COUNT rx
    let s := s.each (s.ends k l) fun s e => s.putLane e.1 e.2 { s.lane e.1 e.2 with ue := 0 }
    if x.ext && decide (16 ≤ l) then
      let s := if c.inc.isEmpty then s else s.putExt e { s.ext e with busyAt := s.now }
      pitchEnter (match s.extBridge e with
        | some n => s.each c.inc fun s t => peerToken s (halfOfChip k) (n % 8) t
        | none => s)
    else
      let s := if x.ext && (s.front (.bridge b)).isSome then s.putExt e { s.ext e with busyAt := s.now } else s
      sendCodeword s b x.ext false
  else
    let s := (s.bump R.CW_UE_CNT_COUNT rx).raise R.LINK_EVT_CW_UE rx
    let s := if x.ext && decide (16 ≤ l) then
        faultAll s (dedupNat (c.inc.map Token.job ++ if c.inc.isEmpty then [] else s.jobsOnBridge x.bridge)) ⟨fcBridge, false, 7, b, .bridge⟩
      else loseCodeword s b x.ext
    let n := x.ue + 1
    let s := s.each (s.ends k l) fun s e => s.putLane e.1 e.2 { s.lane e.1 e.2 with ue := n }
    if n < 16 then s else circuitDown s k l false

/-- The codeword next in turn in direction `b` is merged, if it has been received (R174). -/
def mergeOne (s : State) (b : Nat) : State :=
  let d := s.dir b
  let r := s.rxLane d.turn
  let y := s.lane (r / 32) (r % 32)
  if !d.map.contains d.turn then s else
  match y.deskew with
  | [] => s
  | c :: cs =>
    let s := s.putLane (r / 32) (r % 32) { y with deskew := cs }
    let s := s.putDir b { s.dir b with turn := nextTurn d.map d.turn }
    takeCodeword s (d.turn / 32) (d.turn % 32) c

/-- A codeword is received on the circuit of lane `l` of chiplet `k` (R174): it takes its place among the at most 4 of its deskew buffer, and the
codewords whose turn has come are merged. `inc` are the tokens a codeword of an external port brings to their end. -/
def codeword (s : State) (k l errs : Nat) (inc : List Token) : State :=
  let x := s.lane k l
  if x.st ≠ lnUp then s else
  let n := if l < 16 || x.ext then 32 * k + l else x.mate.getD (32 * k + l)
  let r := s.rxLane n
  let y := s.lane (r / 32) (r % 32)
  if 4 ≤ y.deskew.length then s else
  let s := s.putLane (r / 32) (r % 32) { y with deskew := y.deskew ++ [⟨errs, inc⟩] }
  s.each (List.range 33) fun s _ => mergeOne s (s.senderOf k l)

/-- A codeword is received (R173). -/
def execCodewordReceived (k : Fin 4) (l : Fin 32) (errs : Fin 273) (inc : List Token) (s : State) : Out :=
  .next (codeword s k.val l.val errs.val inc)

/-! ### Bridge bandwidth -/

/-- The wavelengths of a circuit. -/
def waves : List Nat := (List.range 8).map (· + 8)

/-- The lowest free lane of chiplet `k` for column `c`: of the transmit or the receive lanes. -/
def State.freeLane (s : State) (k c : Nat) (rx : Bool) : Option Nat :=
  (List.range 16).find? fun n => s.laneFree k (if rx then 16 + n else n) c

/-- The lowest wavelength free on the column of bridge `b` at both its ends. -/
def State.freeWave (s : State) (b : Nat) : Option Nat :=
  let p := (b + 8) % 16
  waves.find? fun w => s.waveFree (chipOfBridge b) (s.columnOf b) w && s.waveFree (chipOfBridge p) (s.columnOf p) w

/-- A circuit of the sending bridge `b` is begun on the lowest free wavelength and lanes (DESIGN CHOICE, log 41); `none` when there is none free. -/
def growBridge (s : State) (b : Nat) : Option State :=
  let p := (b + 8) % 16
  match s.freeLane (chipOfBridge b) (s.columnOf b) false, s.freeLane (chipOfBridge p) (s.columnOf p) true, s.freeWave b with
  | some tx, some rx, some w => some (beginBridge s b w tx rx)
  | _, _, _ => none

/-- A circuit of external port `e` is begun likewise. -/
def growExt (s : State) (e : Nat) (out : Bool) : State :=
  match s.freeLane (e / 2) (4 + e % 2) (!out), waves.find? fun w => s.waveFree (e / 2) (4 + e % 2) w with
  | some n, some w => beginExt s e out w n
  | _, _ => s

/-- The circuits that the east end began at this instant on a wavelength of bridge `b` of the west: the west end's choice stands (R179). -/
def State.rivals (s : State) (b w : Nat) : List (Nat × Nat) :=
  let k := chipOfBridge b
  if 8 ≤ b then [] else ((s.waveUsers k (s.columnOf b) w).filter fun l =>
    decide (16 ≤ l) && (s.lane k l).st == lnTuning && (s.lane k l).at_ == s.now && !(s.lane k l).ext).map fun l => (k, l)

/-- Firmware's choice of a circuit (R175): when both ends of a bridge have chosen the wavelength for opposite directions at once, the east end
chooses again (R179). -/
def startCircuit (s : State) (port : Option Nat) (b : Nat) (out : Bool) (w tx rx : Nat) : State :=
  match port with
  | some e => beginExt s e out w (if out then tx else rx)
  | none =>
    let rs := s.rivals b w
    if rs.isEmpty then beginBridge s b w tx rx
    else
      let s := s.each rs fun s e => s.each (s.ends e.1 e.2) fun s f => s.putLane f.1 f.2 Lane.idle
      let s := beginBridge s b w tx rx
      match growBridge s (b + 8) with
      | some s' => s'
      | none => s

/-- Firmware begins adding a circuit on a column (R175): of the bridge that sends, or of an external port. -/
def execCircuitAdd (port : Option (Fin 8)) (b : Fin 16) (out : Bool) (w : Fin 8) (tx rx : Fin 16) (s : State) : Out :=
  .next (startCircuit s (port.map Fin.val) b.val out (8 + w.val) tx.val rx.val)

/-- The external port has passed no codeword but idle ones for 1 ms (R191). -/
def State.extIdle (s : State) (e : Nat) : Bool := s.passed (s.ext e).busyAt msec

/-- A transmit lane of chiplet `k` that may be taken for bridge `b` (R114): of an idle external port that keeps its minimum, unless `pair` asks for a
receive lane of the partner with it; else of another bridge whose queue has been below 10 % for 1 ms and that keeps one. -/
def State.spareLane (s : State) (k b : Nat) (pair : Bool) : Option Nat :=
  let fromExt := (List.range 16).find? fun l =>
    let x := s.lane k l
    let e := 2 * k + (x.column - 4)
    x.st == lnUp && x.ext && s.extIdle e && (!s.on R.EXT_CFG_EN e || decide (s.extMin e < s.extCircuits e false))
  let fromBridge := (List.range 16).find? fun l =>
    let x := s.lane k l
    let q := 8 * halfOfChip k + x.bridge
    x.st == lnUp && !x.ext && q != b && decide (1 < s.circuits q false) && (((s.dir q).lowAt.map fun t => s.passed t msec).getD false)
  match fromExt with
  | some l => if pair then fromBridge else some l
  | none => fromBridge

/-- A circuit of chiplet `k` is taken for bridge `b` when the lack of a lane stands in its way (R114): not while a lane is being parked already, nor
when the column has no wavelength left. -/
def takeLane (s : State) (k b : Nat) : State :=
  let p := (b + 8) % 16
  let pair := (s.freeLane (chipOfBridge p) (s.columnOf p) true).isNone
  if (s.freeWave b).isNone || (List.range 16).any (fun l => s.laneParking k l) then s
  else match s.spareLane k b pair with
    | some l => removeCircuit s k l
    | none => s

/-- A circuit of the direction is on its way. -/
def State.growing (s : State) (k c : Nat) (rx : Bool) : Bool :=
  (List.range 16).any fun n =>
    let x := s.lane k (if rx then 16 + n else n)
    x.column == c && (x.st == lnTuning || x.st == lnTrain)

/-- One bridge queue is sampled (R114): above 75 % for 50 µs, or without a circuit, the bridge is given one further wavelength, taken from an idle external port
or a quiet bridge when none is free. -/
def sampleBridge (s : State) (b : Nat) : State :=
  let used := 32 * s.transfersAt (.bridge b)
  let d := s.dir b
  let s := s.putDir b { d with highAt := since (decide (3 * 65536 < 4 * used)) s.now d.highAt, lowAt := since (decide (10 * used < 65536)) s.now d.lowAt }
  let k := chipOfBridge b
  if !s.bridgeJoins (b % 8) || !s.linkReady k || s.growing k (s.columnOf b) false then s
  else if s.circuits b false == 0 || (((s.dir b).highAt.map fun t => s.passed t (50 * usec)).getD false) then
    match growBridge s b with
    | some s' => s'
    | none => takeLane s k b
  else s

/-- One external port is brought to the circuits it keeps (R191). -/
def sampleExt (s : State) (e : Nat) : State :=
  if !s.on R.EXT_CFG_EN e || !s.linkReady (e / 2) then s
  else
    let s := if s.extCircuits e false < s.extMin e && !s.growing (e / 2) (4 + e % 2) false then growExt s e true else s
    if s.extCircuits e true < s.extMin e && !s.growing (e / 2) (4 + e % 2) true then growExt s e false else s

/-! ### Commands -/

/-- The mailbox of an OPT_ command that waits for circuits is answered. -/
def endBuild (s : State) (m : Nat) (st : Status) (data : List Byte) : State :=
  (s.respond m st 0 data).setBridgeBuild (spSet (fun _ => none) s.bridgeBuild m none)

/-- An OPT_ command waits for circuits from now on. -/
def beginBuild (s : State) (m : Nat) : State := s.setBridgeBuild (spSet (fun _ => none) s.bridgeBuild m (some s.now))

/-- The OPT_EXT_SET commands that wait complete once their circuits are UP (R314). -/
def checkExt (s : State) : State :=
  s.each (s.mbxOrder.filter fun m => s.isRunning m 0x0402) fun s m =>
    let e := s.req m 8 1
    if s.extMin e ≤ s.extCircuits e false && s.extMin e ≤ s.extCircuits e true then
      endBuild s m .ok (leBytes 1 (s.extCircuits e false) ++ leBytes 1 (s.extCircuits e true))
    else s

/-- Bridge `b` has the circuits its column needs after a change of route. -/
def State.rebuilt (s : State) (b : Nat) : Bool :=
  if s.on R.BRIDGE_CFG_ROUTE b then s.circuits b false != 0 && s.circuits b true != 0
  else !s.bridgeJoins (b % 8) || s.bridgeBoth b

/-- The OPT_BRIDGE_ROUTE commands that wait complete once the circuits are rebuilt (R314). -/
def checkRoute (s : State) : State :=
  s.each (s.mbxOrder.filter fun m => s.isRunning m 0x0403) fun s m => if s.rebuilt (s.req m 8 1) then endBuild s m .ok [] else s

/-- Training ends (R175). What waits for circuits goes on. -/
def execCircuitUp (k : Fin 4) (l : Fin 32) (ok : Bool) (s : State) : Out := .next (checkRoute (checkExt (circuitUp s k.val l.val ok)))

/-- The OPT_ commands that have waited for their longest time end (R314): OPT_EXT_SET with LINK_DOWN after 10 ms, OPT_BRIDGE_ROUTE after 1 ms. -/
def endWaits (s : State) : State :=
  s.each s.mbxOrder fun s m =>
    let after (d : Nat) : Bool := ((spGet (fun _ => none) s.bridgeBuild m).map fun t => s.passed t d).getD false
    if s.isRunning m 0x0402 && after (10 * msec) then endBuild s m .linkDown []
    else if s.isRunning m 0x0403 && after msec then endBuild s m .ok []
    else s

/-- Every 10 µs firmware samples the bridge queues and reassigns wavelengths (R114). Firmware duties pause during a takeover (R322)
(DESIGN CHOICE, log 188). -/
def execBridgeSample (s : State) : Out :=
  .next (if !s.dutiesRun then s else endWaits (((tuneAll s).each (List.range 16) sampleBridge).each (List.range 8) sampleExt))

/-- OPT_EXT_SET (R191, R314): EXT_CFG_e is written, and with EN the command waits for MIN circuits in each direction. -/
def execOptExtSet (m : Fin 16) (s : State) : Out :=
  .next (s.peade m.val 0x0402 s.notStopped true true 0 fun s =>
      let e := s.req m.val 8 1
      let s := (s.wr R.EXT_CFG_EN e (s.req m.val 9 1)).wr R.EXT_CFG_MIN e (s.req m.val 10 1)
      if s.on R.EXT_CFG_EN e then checkExt (sampleExt (beginBuild s m.val) e)
      else s.respond m.val .ok 0 (leBytes 1 (s.extCircuits e false) ++ leBytes 1 (s.extCircuits e true)))

/-- An admitted job names bridge `b` of R192 (R189). -/
def State.bridgeNamed (s : State) (b : Nat) : Bool := jobNums.any fun j => (s.job j).admitted && (s.job j).sec.bridges.contains b

/-- The circuits of bridge `b` are rebuilt on its new column (R189): those of the old one are removed, UP or on their way, but for those of an
enabled external port, which keeps its own; those of the port now in use serve the bridge. -/
def rebuildBridge (s : State) (b : Nat) : State :=
  let k := chipOfBridge b
  let s := s.each (List.range 32) fun s l =>
    let x := s.lane k l
    let kept := x.ext && s.on R.EXT_CFG_EN (2 * k + (x.column - 4))
    if x.st ≠ lnIdle && x.bridge == b % 8 && x.column != s.columnOf b && !kept then removeCircuit s k l
    else if x.st ≠ lnIdle && x.ext && x.column == s.columnOf b then s.putLane k l { x with bridge := b % 8 }
    else s
  linkWatch s

/-- A route is written for bridge `b` (R189); ignored while an admitted job's placement names it. -/
def routeBridge (s : State) (b route sel : Nat) : State :=
  if s.bridgeNamed b then s
  else
    let changed := s.rd R.BRIDGE_CFG_ROUTE b != route || (route == 1 && s.rd R.BRIDGE_CFG_EXT_SEL b != sel)
    let s := (s.wr R.BRIDGE_CFG_ROUTE b route).wr R.BRIDGE_CFG_EXT_SEL b sel
    let s := s.wr R.BRIDGE_STAT_ROUTED_EXT b route
    if changed then rebuildBridge s b else s

/-- OPT_BRIDGE_ROUTE (R189, R314). -/
def execOptBridgeRoute (m : Fin 16) (s : State) : Out :=
  .next (s.peade m.val 0x0403 s.notStopped true true 0 fun s =>
    let b := s.req m.val 8 1
    if s.bridgeNamed b then s.respond m.val .inUse 0 []
    else checkRoute (beginBuild (routeBridge s b (s.req m.val 9 1) (s.req m.val 10 1)) m.val))

/-- Some admitted job declares a reduced form (R188). -/
def State.reducedDeclared (s : State) : Bool := jobNums.any fun j => (s.job j).admitted && (s.job j).reducedHalf.isSome

/-- OPT_CAPTAIN_SET (R188, R314) (DEDUCED, log 109). -/
def execOptCaptainSet (m : Fin 16) (s : State) : Out :=
  .next (s.peade m.val 0x0405 true true true 0 fun s =>
    if s.reducedDeclared then (s.wr R.HALF_STAT_CAPTAIN_REJ 0 1).respond m.val .inUse 0 []
    else (s.wr R.HALF_CFG_CAPTAIN 0 (s.req m.val 8 1)).respond m.val .ok 0 [])

/-! ### Sidebands -/

/-- The bit of HALF_STAT that shows the sideband of half `h`. -/
def sidebandFld (h : Nat) : Fld := if h = 0 then R.HALF_STAT_SB_W_OK else R.HALF_STAT_SB_E_OK

/-- Some half applies precedence itself (SELF_RULE of R196). -/
def showSelfRule (s : State) : State := s.wrB R.HALF_STAT_SELF_RULE 0 ((s.half 0).selfRule || (s.half 1).selfRule)

/-- A heartbeat arrives on the sideband of half `h` (R185): not of a half switched off. -/
def execSidebandHeartbeat (h : Fin 2) (s : State) : Out :=
  .next (
    if s.halfOn h.val then
      showSelfRule ((s.putHalf h.val { s.half h.val with beatAt := some s.now, sbLostAt := none, selfRule := false }).wr (sidebandFld h.val) 0 1)
    else s)

/-- The cross-half jobs' tokens waiting to be sent by half `h` are discarded (R185). -/
def dropCross (s : State) (h : Nat) : State :=
  s.setFabric (s.fabric.filter fun x => match x.place with
    | .bridge b => !(b / 8 == h && (s.job x.tok.job).spans)
    | .router _ _ _ | .hubLink _ | .entry _ _ | .arrived _ _ | .unit _ _ | .hub => true)

/-- A half cut off from its sideband, whose bridges have been down for SPLIT_CONFIRM, applies precedence itself (R185): the captain half restarts its
reduced forms; the other drops what it had to send of cross-half jobs. -/
def selfRule (s : State) (h : Nat) : State :=
  let s := showSelfRule (s.putHalf h { s.half h with selfRule := true })
  if h = s.captain then
    faultAll s (jobNums.filter fun j => (s.job j).spans && (s.job j).reducedHalf == some h) ⟨fcSplit, false, 8, 0, .split⟩
  else dropCross s h

/-- SPLIT_CONFIRM in units of `now` (R196). -/
def State.splitConfirm (s : State) : Nat := usec * max 50 (s.rd R.HALF_CFG_SPLIT_CONFIRM 0)

/-- No circuit has joined the halves for SPLIT_CONFIRM. -/
def State.cutOff (s : State) : Bool := (s.splitAt.map fun t => s.passed t s.splitConfirm).getD false

/-- The sideband of half `h` is lost (R185): after three missed beats, or with the half switched off. -/
def loseSideband (s : State) (h : Nat) : State :=
  let s := (s.putHalf h { s.half h with sbLostAt := some ((s.half h).sbLostAt.getD s.now) }).wr (sidebandFld h) 0 0
  if s.cutOff || s.split then (if s.halfOn h then selfRule s h else s) else s

/-- Three heartbeats are missed (R185). -/
def execSidebandLoss (h : Fin 2) (s : State) : Out :=
  .next (
    match (s.half h.val).beatAt with
    | some t => if s.passed t (30 * usec) then loseSideband s h.val else s
    | none => s)

/-! ### The split and its end -/

/-- The halves are declared split (R183, R184): every job that spans them is recovered; jobs already waiting take the precedence. -/
def declareSplit (s : State) : State :=
  let s := s.wr R.HALF_STAT_SPLIT 0 1
  let s := faultAll s (jobNums.filter fun j => (s.job j).spans) ⟨fcSplit, false, 8, 0, .split⟩
  s.each [0, 1] fun s h => if (s.half h).sbLostAt.isSome && s.halfOn h then selfRule s h else s

/-- Every circuit to the peer of external port `e` has been lost for SPLIT_CONFIRM (R191). -/
def declarePeerSplit (s : State) (e : Nat) : State :=
  let s := s.putExt e { s.ext e with split := true }
  faultAll s (jobNums.filter fun j => (s.job j).sec.extPorts.contains e) ⟨fcSplit, false, 9, e, .peer⟩

/-- SPLIT_CONFIRM has passed without a circuit (R183, R191): between the halves, or toward the peer of an external port. -/
def execHalfSplit (peer : Option (Fin 8)) (s : State) : Out :=
  .next (
    match peer with
    | none => if s.cutOff && s.halvesHealthy && !s.split then declareSplit s else s
    | some e =>
      let x := s.ext e.val
      if s.on R.EXT_CFG_EN e.val && !x.split && ((x.downAt.map fun t => s.passed t s.splitConfirm).getD false) then declarePeerSplit s e.val else s)

/-- Job `j`, on its reduced form or held, is restarted on its full form (R187). -/
def returnFull (s : State) (j : Nat) : State :=
  let job := s.job j
  match job.restart with
  | some r => s.putJob j { job with heldFor := 0, restart := some { r with remedies := r.remedies ++ [.full] } }
  | none =>
    if !job.started then s.putJob j { job with reduced := none, heldFor := 0 }
    else fence (s.putJob j { job with restart := some ⟨fcSplit, false, 8, 0, s.tb, s.now, false, false, [.full], false⟩ }) j

/-- A split has put the job on a reduced form or holds it. -/
def Job.setAside (job : Job) : Bool := job.reduced.isSome || job.heldFor == fcSplit

/-- Job `j` spans both halves and returns to its full form when a split ends: it is set aside, or restarts while the split lasts (R187). -/
def State.returnsFull (s : State) (j : Nat) : Bool :=
  (s.job j).spans && ((s.job j).setAside || s.split && (s.job j).restart.isSome)

/-- RETURN_STABLE in units of `now` (R196). -/
def State.returnStable (s : State) : Nat := msec * max 1 (s.rd R.HALF_CFG_RETURN_STABLE 0)

/-- A circuit has joined the halves in each direction for RETURN_STABLE (R187): the split ends, and jobs that span both halves return to their full form. Likewise
toward a peer (R191). -/
def execSplitEnd (peer : Option (Fin 8)) (s : State) : Out :=
  .next (
    match peer with
    | none =>
      if (s.split || jobNums.any s.returnsFull) && ((s.returnAt.map fun t => s.passed t s.returnStable).getD false) then
        let js := jobNums.filter s.returnsFull
        let s := s.wr R.HALF_STAT_SPLIT 0 0
        (showSelfRule (s.each [0, 1] fun s h => s.putHalf h { s.half h with selfRule := false })).each js returnFull
      else s
    | some e =>
      let x := s.ext e.val
      if x.split && ((x.upAt.map fun t => s.passed t s.returnStable).getD false) then
        (s.putExt e.val { x with split := false }).each
          (jobNums.filter fun j => (s.job j).sec.extPorts.contains e.val && ((s.job j).setAside || (s.job j).restart.isSome)) returnFull
      else s)

end Sys2Proof.Machine
end

