-- ==== Sys2Proof/Machine/MeshProgress.lean ====
section
/-! DEFINITION. Machine/MeshProgress.lean: the ends of what a chiplet does by itself (R137, R139, R141, R142, R148, R150), and the feed of
the chiplets (R127, R148, R156, R446). -/

namespace Sys2Proof.Machine

/-! ### Computations -/

/-- The receive table in service is carried into the standby bank: a trim computes heater settings only (R137, R144). -/
def carryReceive (s : State) (k : Nat) : State :=
  s.each (List.range 512) fun s i => s.putMeshTbl k (1 - s.meshBank k) 1 i (s.meshTblAt k (s.meshBank k) 1 i)

/-- A matrix of chiplet `k` is computed into the standby bank (R137, R139): the change awaits its swap point. -/
def matrixComputed (s : State) (k : Nat) : State :=
  let c := s.chip k
  let (ix, s) := s.draw
  let s := writeReceive (writeHeaters s k (1 - s.meshBank k) ix) k (1 - s.meshBank k) ix
  let s := s.putChip k { s.chip k with ready := true, holdAt := s.now }
  match s.meshJob k with
  | none => s
  | some j =>
    match c.why with
    | .grade => gradeProgress s j
    | .bell => meshReady s j k
    | .load | .back | .none => s

/-- A matrix of chiplet `k` cannot be realised (R141): the change does not take place. -/
def matrixRefused (s : State) (k : Nat) : State :=
  match s.meshJob k with
  | none => abandonChange s k
  | some j =>
    match (s.chip k).why with
    | .load => failLoad s j .meshRange
    | .grade => gradeFails s j
    | .bell => failStage s j
    | .back | .none => abandonChange s k

/-- Firmware finishes a computation (R137, R144): `ok` is false when a heater would lie outside its range (R141). A trim refused so is computed again. -/
def execMatrixComputeDone (k : Fin 4) (ok : Bool) (s : State) : Out :=
  .next (
    let c := s.chip k.val
    if c.ready then s
    else match c.work with
      | .matrix => if ok then matrixComputed s k.val else matrixRefused s k.val
      | .trim =>
        if ok && s.meshState k.val == msRebuild then
          let (ix, s) := s.draw
          let s := carryReceive (writeHeaters s k.val (1 - s.meshBank k.val) ix) k.val
          s.putChip k.val { s.chip k.val with ready := true, holdAt := s.now }
        else s
      | .xtalk | .none => s)

/-- Settling ends with the first pilot estimate `resid` (R139, R146): the chiplet is IN_SERVICE, or a trim begins at once, or it fails. -/
def settleDone (s : State) (k resid : Nat) : State :=
  if s.meshState k ≠ msSettling ∨ s.on R.FEED_STAT_MOVING 0 ∨ !s.on R.MESH_STAT_CLK_OK k then s
  else
    let s := (s.bumpBy R.MESH_PILOT_CNT_COUNT k 64).wrSat R.MESH_RESID_RESID k resid
    let s := s.putChip k { s.chip k with pilots := 64, work := .none, stale := false, pilotAt := some s.now }
    if 185 < resid then meshLost (s.raise R.MESH_EVT_PILOT_HIGH k) k .pilotHigh
    else if s.residTrig k < resid then startTrim (setMesh s k msService) k
    else meshServes (setMesh (s.putChip k { s.chip k with why := .none }) k msService) k

/-- Settling ends (R139). -/
def execMeshSettleDone (k : Fin 4) (resid : Fin 65536) (s : State) : Out := .next (settleDone s k.val resid.val)

/-- A chiplet stays OUT_OF_SERVICE until power-up (R150): its rebuild has failed. One that was UNUSED leaves service so (DEDUCED, log 42). -/
def chipFailed (s : State) (k : Nat) : State :=
  setMesh (s.putChip k { s.chip k with failed := true, work := .none, ready := false }) k msOut

/-- The job that holds chiplet `k` waits to return to it (R149). -/
def State.waitsReturn (s : State) (k : Nat) : Option Nat :=
  match s.meshJob k with
  | some j => if (s.job j).chips.any (fun e => e.1 == k && (s.job j).substOn.contains e.2) then some j else none
  | none => none

/-- A chiplet is available again (R149, R150): UNUSED, or CHANGING for a job that waits to return. -/
def chipAvailable (s : State) (k : Nat) : State :=
  let s := setMesh (s.putChip k { s.chip k with cause := .none, work := .none, matrix := none, stale := false }) k msUnused
  match s.waitsReturn k with
  | some j => placeMatrix s j k .back
  | none => seekReturns s

/-- A crosstalk rebuild ends (R142, R150): on a chiplet OUT_OF_SERVICE with its pilot check. JOB_LOADs that waited for it go on (R163). -/
def xtalkDone (s : State) (k : Nat) (ok : Bool) (resid : Nat) : State :=
  let c := s.chip k
  if c.work ≠ .xtalk ∨ c.ready then s else
  let (ix, s) := s.draw
  let st := s.meshState k
  let s := if ok then s.putChip k { s.chip k with xt := some ix, xtMean := s.rdInt R.MESH_TEMP_MEAN k, xtDone := true } else s
  let s :=
    if st = msOut then
      let s := (s.bumpBy R.MESH_PILOT_CNT_COUNT k 64).wrSat R.MESH_RESID_RESID k resid
      if ok && decide (resid ≤ s.residTrig k) then chipAvailable s k else chipFailed s k
    else if st = msUnused then
      if ok then s.putChip k { s.chip k with work := .none } else chipFailed s k
    else if ok then
      let s := carryReceive (writeHeaters s k (1 - s.meshBank k) ix) k
      s.putChip k { s.chip k with ready := true, holdAt := s.now }
    else s.putChip k { s.chip k with work := .trim }
  tryLoad s

/-- A crosstalk rebuild ends (R142, R150). -/
def execXtalkRebuildDone (k : Fin 4) (ok : Bool) (resid : Fin 65536) (s : State) : Out := .next (xtalkDone s k.val ok resid.val)

/-! ### Leaving OUT_OF_SERVICE -/

/-- No ring of chiplet `k` is frozen. -/
def State.noneFrozen (s : State) (k : Nat) : Bool := !s.rings.any fun e => e.1 / 2048 == k && e.2.frozen.isSome

/-- Every separation, combining and demultiplexer ring of chiplet `k` is locked and confirmed by its tone (R162, R167). -/
def State.meshRingsLocked (s : State) (k : Nat) : Bool :=
  (s.rings.filter fun e => e.1 / 2048 == k && decide (e.1 % 2048 < 1040) && e.2.st == rgLocked && e.2.toneOk && e.2.fails == 0).length == 1040

/-- The condition that put chiplet `k` out of service has cleared (R150). -/
def State.oosCleared (s : State) (k : Nat) : Bool :=
  s.halfOn (halfOfChip k) && match (s.chip k).cause with
    | .bothFeeds => (s.on R.FEED_STAT_A_OK 0 || s.on R.FEED_STAT_B_OK 0) && s.noneFrozen k
    | .lightLoss => ((s.chip k).refAt.map fun t => s.passed t msec).getD false
    | .chanRing => s.meshRingsLocked k
    | .clock => (s.clk.optOkAt.map fun t => s.passed t msec).getD false
    | .chanPilot | .heater | .pilotHigh | .settleLate | .supply | .none => true

/-- The cause of a chiplet's OUT_OF_SERVICE clears, and a crosstalk rebuild starts (R150). -/
def execOosCleared (k : Fin 4) (s : State) : Out :=
  .next (
    let c := s.chip k.val
    if s.meshState k.val = msOut ∧ !c.failed ∧ !c.cleared ∧ s.oosCleared k.val then
      startXtalk (s.putChip k.val { c with cleared := true }) k.val
    else s)

/-- The sample clock has been unlocked for 100 µs (R148). -/
def execOptClockTimeout (k : Fin 4) (s : State) : Out :=
  .next (
    if !s.on R.MESH_STAT_CLK_OK k.val && ((s.clk.optLostAt.map fun t => s.passed t (100 * usec)).getD false) then meshLost s k.val .clock
    else s)

/-! ### The feed -/

/-- Feed `f` is present. -/
def State.feedOk (s : State) (f : Nat) : Bool := if f = 0 then s.on R.FEED_STAT_A_OK 0 else s.on R.FEED_STAT_B_OK 0

/-- Feed `f` becomes present or is lost. -/
def putFeed (s : State) (f : Nat) (b : Bool) : State := if f = 0 then s.wrB R.FEED_STAT_A_OK 0 b else s.wrB R.FEED_STAT_B_OK 0 b

/-- The feed in use. -/
def State.feedInUse (s : State) : Nat := s.rd R.FEED_STAT_IN_USE 0

/-- A chiplet goes dark for a move of the selector (R148): its passes are discarded and it settles by a trim of its reference phases. -/
def darkChip (s : State) (k : Nat) : State :=
  let s := dropPasses s k
  let s := s.putChip k { s.chip k with begun := [], straddle := [] }
  if s.meshState k = msService ∨ s.meshState k = msRebuild then
    setMesh (s.putChip k { s.chip k with work := .trim, ready := false, swapped := false }) k msSettling
  else s

/-- Light is lost to every chiplet (R148, R179): every circuit goes DOWN, and every job holding a mesh is recovered. -/
def darken (s : State) : State :=
  let s := s.each chipNums chipCircuitsDown
  let js := jobNums.filter fun j => (s.job j).chips.any fun e => s.meshState e.1 != msOut
  s.each js fun s j => detectFault s j ⟨fcMesh, false, 6, (((s.job j).chips.head?).map Prod.fst).getD 0, .none⟩

/-- The selector begins to move to feed `f` (R127, R148) (DEDUCED, log 106). -/
def beginMove (s : State) (f : Nat) : State :=
  if s.on R.FEED_STAT_MOVING 0 then s
  else (((darken s).each chipNums darkChip).wr R.FEED_STAT_MOVING 0 1).setFeedMove (some (f, s.now))

/-- The feed in use is lost (R127, R148): with AUTO set and the other feed present the selector moves; with neither present every chiplet leaves service
(DEDUCED, log 108). -/
def feedGone (s : State) : State :=
  let f := s.feedInUse
  if s.feedOk f then s
  else if s.feedOk (1 - f) then (if s.on R.FEED_CFG_AUTO 0 then beginMove s (1 - f) else s.each chipNums chipCircuitsDown)
  else s.each chipNums fun s k => meshLost (chipCircuitsDown s k) k .bothFeeds

/-- A feed reads below the loss threshold for 2 µs (R127). -/
def execFeedLoss (f : Fin 2) (s : State) : Out :=
  .next (
    if !s.feedOk f.val then s
    else
      let s := putFeed s f.val false
      if s.on R.FEED_STAT_MOVING 0 then s else feedGone s)

/-- A feed is present (R446): it is taken when the feed in use is lost and AUTO is set (R127). -/
def execFeedPresent (f : Fin 2) (s : State) : Out :=
  .next (
    let s := putFeed s f.val true
    if f.val ≠ s.feedInUse ∧ !s.feedOk s.feedInUse ∧ s.on R.FEED_CFG_AUTO 0 then beginMove s f.val else s)

/-- The selector has moved (R127): 20 µs after its beginning. -/
def moveDone (s : State) : State :=
  match s.feedMove with
  | none => s
  | some (f, t) =>
    if !s.passed t (20 * usec) then s
    else
      let s := ((s.wr R.FEED_STAT_IN_USE 0 f).wr R.FEED_STAT_MOVING 0 0).bump R.FEED_SW_CNT_COUNT 0
      let s := s.setFeedMove none
      let s := match s.runningAny 0x0404 with
        | some m => s.respond m .ok 0 []
        | none => s
      feedGone s

/-- The selector completes a move (R127). -/
def execFeedMoveDone (s : State) : Out := .next (moveDone s)

/-- A write of FEED_CFG that takes effect (R127, R156): the selector moves to the primary feed if it is present and not in use; with AUTO set
and the feed in use lost it moves to the other feed if that is present. -/
def feedCfgEffect (s : State) : State :=
  let p := s.rd R.FEED_CFG_PRIMARY 0
  if p ≠ s.feedInUse ∧ s.feedOk p then beginMove s p
  else if s.on R.FEED_CFG_AUTO 0 ∧ !s.feedOk s.feedInUse ∧ s.feedOk (1 - s.feedInUse) then beginMove s (1 - s.feedInUse)
  else s

/-- OPT_FEED_SET (R127, R314): it completes when the selector has settled. -/
def execOptFeedSet (m : Fin 16) (s : State) : Out :=
  .next (s.peade m.val 0x0404 true true true 0 fun s =>
    let s := (s.wr R.FEED_CFG_PRIMARY 0 (s.req m.val 8 1)).wr R.FEED_CFG_AUTO 0 (s.req m.val 9 1)
    let s := feedCfgEffect s
    if s.on R.FEED_STAT_MOVING 0 then s else s.respond m.val .ok 0 [])

/-- OPT_STATUS (R314): nine words, none of them cleared. -/
def execOptStatus (m : Fin 16) (s : State) : Out :=
  .next (s.peade m.val 0x0401 true true true 0 fun s =>
    let k := s.req m.val 8 1
    let half := withField 8 4 (s.word (R.HALF_STAT.key 0 0)) s.bridgesUp
    let ws := [s.word (R.RING_STAT.key k 0), s.word (R.MESH_STAT.key k 0), s.word (R.MESH_RESID.key k 0), s.word (R.CW_CE_CNT.key k 0),
      s.word (R.CW_UE_CNT.key k 0), s.word (R.FEED_STAT.key 0 0), half, s.word (R.LOSS_LOC.key 0 0), s.word (R.LOSS_CNT.key 0 0)]
    s.respond m.val .ok 0 (ws.flatMap fun w => leBytes 4 w.toNat))

end Sys2Proof.Machine
end

