-- ==== Sys2Proof/Machine/Rings.lean ====
section
/-! DEFINITION. Machine/Rings.lean: ring search, lock, tones and re-searches (R157 to R170, R193), and the power monitors (R180 to R182). -/

namespace Sys2Proof.Machine

/-! ### Search -/

/-- The slots that carry light at a ring during its search (R159). -/
def ringPattern (i : Nat) : List Nat :=
  if i < 16 then List.range 16
  else if i < 528 then [(i - 16) % 8]
  else if i < 1040 then List.range 8
  else if i < 1056 then (List.range 8).map (· + 8)
  else if i < 1072 then [8 + (i - 1056) % 8]
  else (List.range 8).map (· + 8)

/-- The slot a ring searches to; 16 to park (R159, R160). -/
def ringTarget (i : Nat) : Nat :=
  if i < 16 then i
  else if i < 528 then (i - 16) % 8
  else if i < 1040 then (i - 528) % 8
  else if i < 1056 then 8 + (i - 1040) % 8
  else if i < 1072 then 8 + (i - 1056) % 8
  else 16

/-- The nearest integer, ties to even. -/
def ratRne (q : Rat) : Int := idivRne q.num q.den

/-- Slot offsets of the peaks at `sp` codes per slot (R161). -/
def slotOffsets (pk : List Nat) (sp : Rat) : List Int := pk.map fun p => ratRne ((((p : Int) - ((pk.headD 0 : Nat) : Int) : Int) : Rat) / sp)

/-- Least-squares codes per slot of the peaks, starting at 2,731 (R161): the slope of their codes over their slot offsets
(DEDUCED, log 105). -/
def codesPerSlot (pk : List Nat) : Rat :=
  let off := slotOffsets pk 2731
  let n : Int := pk.length
  let sx := off.sum
  let sy : Int := (pk.map fun p => (p : Int)).sum
  let sxx := (off.map fun o => o * o).sum
  let sxy := ((off.zip pk).map fun e => e.1 * (e.2 : Int)).sum
  if n * sxx - sx * sx = 0 then 2731 else ((n * sxy - sx * sy : Int) : Rat) / ((n * sxx - sx * sx : Int) : Rat)

/-- Slot `a` for the first peak explains every peak, and every slot of the pattern inside the span is a peak (R161). -/
def anchorFits (pk : List Nat) (off : List Int) (sp : Rat) (pat : List Nat) (lo hi a : Nat) : Bool :=
  off.all (fun o => pat.contains (((a : Int) + o) % 18).toNat) &&
    pat.all fun p => [(-2 : Int), -1, 0, 1, 2].all fun m =>
      let d : Int := ((p : Int) - a) % 18 + 18 * m
      let code : Rat := (pk.headD 0 : Nat) + d * sp
      off.contains d || decide (code < lo) || decide ((hi : Rat) < code)

/-- The search programme of R161 over the span `lo` to `hi`: the heater code, when exactly one slot fits the first peak. -/
def searchCode (pk : List Nat) (pat : List Nat) (target lo hi : Nat) : Option Nat :=
  match pk with
  | [] => none
  | p :: _ =>
    let sp := codesPerSlot pk
    let off := slotOffsets pk sp
    match (List.range 18).filter (anchorFits pk off sp pat lo hi) with
    | [a] =>
      let d : Rat := (((slot2 target - 2 * (a : Int)) % 36 : Int) : Rat) / 2
      let cand := [(-2 : Int), -1, 0, 1, 2].filterMap fun m =>
        let c := ratRne ((p : Rat) + (d + 18 * m) * sp)
        if 0 ≤ c ∧ c ≤ 65535 then some c.toNat else none
      cand.foldl (fun best c => match best with
        | none => some c
        | some b => if ((c : Int) - 32768).natAbs < ((b : Int) - 32768).natAbs then some c else some b) none
    | _ => none

/-- The lane whose ring is `i`, when it is a lane or switch ring: its number in CIRC_ADDR and, for a switch ring, the column. -/
def laneOfRing (i : Nat) : Option (Nat × Option Nat) :=
  if i < 1040 then none
  else if i < 1056 then some (i - 1040, none)
  else if i < 1072 then some (16 + (i - 1056), none)
  else if i < 1328 then some ((i - 1072) / 16, some (i % 16))
  else some (16 + (i - 1328) / 16, some (i % 16))

/-- The circuit that uses ring `i` of chiplet `k` goes DOWN (R166). -/
def ringCircuitDown (s : State) (k i : Nat) : State :=
  match laneOfRing i with
  | none => s
  | some (l, c) =>
    let x := s.lane k l
    if x.st = lnUp ∧ (c.getD x.column) = x.column then circuitDown s k l ((s.dir (s.senderOf k l)).carried != 0) else s

/-- A mesh ring at fault takes its chiplet out of service (R166, R148). -/
def ringTakesChip (s : State) (k i : Nat) : State :=
  let s := if i < 16 then chipCircuitsDown s k else s
  if i < 1040 then (if s.meshState k = msOut then s else meshLost (s.raise R.MESH_EVT_CHAN_FAIL k) k .chanRing) else ringCircuitDown s k i

/-- Ring `i` fails for good (R162, R166). -/
def failRing (s : State) (k i : Nat) : State :=
  let s := (s.putRing k i { s.ring k i with st := rgFailed, frozen := none, confirm := false }).raise R.RING_EVT_SEARCH_FAIL k
  let s := ringTakesChip s k i
  let s := if i < 1040 then s.putChip k { s.chip k with failed := true } else s
  let s := match laneOfRing i with
    | some (l, none) => s.putLane k l { s.lane k l with st := lnFailed }
    | _ => s
  showRings s k

/-! ### The phases of the search -/

/-- What firmware does on the rings of chiplet `k`. -/
def State.ringWork (s : State) (k : Nat) : FeedFwd := spGet (fun _ => FeedFwd.reset) s.feedFwd k

/-- Replaces what firmware does on the rings of chiplet `k`. -/
def putRingWork (s : State) (k : Nat) (v : FeedFwd) : State := s.setFeedFwd (spSet (fun _ => FeedFwd.reset) s.feedFwd k v)

/-- The phase of the search that searches ring `i` (R160). -/
def ringPhase (i : Nat) : Nat :=
  if i < 16 then 1 else if i < 528 then 2 else if i < 1040 then 4 else if i < 1056 then 2 else if i < 1072 then 3 else 2

/-- The rings searched in a phase (R160). -/
def phaseRings (p : Nat) : List Nat :=
  match p with
  | 1 => List.range 16
  | 2 => (List.range 512).map (· + 16) ++ (List.range 16).map (· + 1040) ++ (List.range 512).map (· + 1072)
  | 3 => (List.range 16).map (· + 1056)
  | 4 => (List.range 512).map (· + 528)
  | _ => []

/-- Ring `i` is the first of its bank, upstream of all others on its bus (R159). -/
def ringFirst (i : Nat) : Bool :=
  if i < 16 then i == 0 else if i < 1040 then (i - 16) % 8 == 0 else if i < 1072 then true else (i - 1072) % 16 == 0

/-- The search of a ring has ended: it is locked, parked or failed. -/
def Ring.found (r : Ring) : Bool := r.st == rgLocked || r.st == rgParked || r.st == rgFailed

/-- Ring `i` may be swept now (R160): not yet searched, and the ring upstream of it on its bus assigned. -/
def State.sweepReady (s : State) (k i : Nat) : Bool := (s.ring k i).st == 0 && (ringFirst i || (s.ring k (i - 1)).found)

/-- The sweeps of a chiplet begin in ascending order of ring index, at most 32 at one time (R160; DESIGN CHOICE, log 172). A lane or switch ring
is swept from its search input, its column side off. -/
def startSweeps (s : State) (k : Nat) : State :=
  let busy := (s.rings.filter fun e => e.1 / 2048 == k && e.2.st == rgSearching).length
  let s := s.each (((phaseRings (s.ringWork k).phase).filter (s.sweepReady k)).take (32 - busy)) fun s i =>
    coupleRing (s.putRing k i { s.ring k i with st := rgSearching, sweeps := 0 }) k i true false
  showRings s k

/-- The rings a phase has assigned are locked to their wavelengths, so that light reaches the rings of the phases to come (R160; DESIGN
CHOICE, log 172). -/
def lockPhase (s : State) (k : Nat) : State :=
  s.each (phaseRings (s.ringWork k).phase) fun s i =>
    let r := s.ring k i
    if r.st = rgParked ∧ r.assign < 16 then s.putRing k i { r with st := rgLocked, heater := r.home } else s

/-- The search of chiplet `k` goes on (R160): from a phase whose rings are all assigned to the next. -/
def searchOn (s : State) (k : Nat) : State :=
  let p := (s.ringWork k).phase
  let left := (phaseRings p).any fun i => !(s.ring k i).found
  if left || p == 0 || p == 5 then startSweeps s k
  else
    let s := lockPhase s k
    startSweeps (putRingWork s k { s.ringWork k with phase := p + 1 }) k

/-- Some feed in use is present and the sample clock is locked (R160). -/
def State.lightAndClock (s : State) : Bool := s.feedOk s.feedInUse && bitOf (s.word (R.CLK_STAT.key 0 0)) 10

/-- Ring search begins on all chiplets that are switched on (R160). -/
def execRingSearchStart (s : State) : Out :=
  .next (
    if s.lightAndClock then
      s.each chipNums fun s k =>
        if s.rd R.RING_STAT_PHASE k = 0 ∧ s.halfOn (halfOfChip k) then
          startSweeps (putRingWork (s.wr R.RING_STAT_PHASE k 1) k { s.ringWork k with phase := 1 }) k
        else s
    else s)

/-- A ring's sweep has found peaks at the codes given (R160, R161). In the search of a chiplet the ring is parked once assigned, with the code found kept;
later it is locked, or parked with its couplers off. After two sweeps without an answer it fails. -/
def sweepDone (s : State) (k i : Nat) (pk : List Nat) (lo hi : Nat) : State :=
  let r := s.ring k i
  let a := if r.assign = 17 then ringTarget i else r.assign
  match searchCode pk (ringPattern i) a lo hi with
  | some c =>
    let parks := a == 16 || s.rd R.RING_STAT_PHASE k == 1
    let s := coupleRing s k i (!parks) false
    showRings (s.putRing k i { s.ring k i with
      assign := a, st := if parks then rgParked else rgLocked, heater := if parks then moveCode c a 16 else c, home := c, frozen := none,
      sweeps := 0, fails := 0, toneOk := false, lockLevel := none, confirm := true }) k
  | none =>
    if r.sweeps = 0 then s.putRing k i { r with st := if r.st = rgLocked then rgLocked else rgSearching, sweeps := 1 } else failRing s k i

/-- A ring's heater sweep ends (R161). -/
def execRingSweepDone (k : Fin 4) (i : Fin 1584) (pk : List Nat) (s : State) : Out :=
  .next (
    if s.rd R.RING_STAT_PHASE k.val = 1 ∧ (s.ring k.val i.val).st = rgSearching then
      searchOn (sweepDone s k.val i.val pk 0 65535) k.val
    else s)

/-- The monitors that see light from the feed at lock: chiplet input, modulators, mesh outputs, reference carriers and, in block 0, the feeds (R180). -/
def lockMonitors (k : Nat) : List Nat := List.range 73 ++ (List.range 8).map (· + 107) ++ (if k = 0 then [105, 106] else [])

/-- Phase 5 ends with every ring confirmed or failed (R160, R162): lane and switch rings are left parked, and the crosstalk rebuild starts (R142). -/
def searchDone (s : State) (k : Nat) : State :=
  let done := s.rings.filter fun e => e.1 / 2048 == k && (e.2.st == rgFailed || e.2.found && e.2.toneOk)
  if s.rd R.RING_STAT_PHASE k ≠ 1 ∨ (s.ringWork k).phase ≠ 5 ∨ done.length ≠ 1584 then s
  else
    let s := s.each ((List.range 32).map (· + 1040)) fun s i =>
      if (s.ring k i).st = rgLocked then coupleRing (tuneRing s k i 16 rgParked) k i false false else s
    let bad := (List.range 16).any fun i => (s.ring k i).st == rgFailed
    let s := (s.wr R.RING_STAT_PHASE k (if bad then 3 else 2)).raise R.RING_EVT_SEARCH_DONE k
    let s := putRingWork s k { s.ringWork k with phase := 0 }
    let s := s.each (lockMonitors k) fun s i => lockMon s k i
    let s := (showRings s k).wr R.MESH_STAT_LIGHT_OK k 1
    if (s.chip k).failed then tryLoad s else tryLoad (startXtalk s k)

/-- Ring search of a chiplet ends (R160) (DEDUCED, log 103). -/
def execRingSearchDone (k : Fin 4) (s : State) : Out := .next (searchDone s k.val)

/-! ### Tones -/

/-- A ring is found wrong in service (R165, R166): it awaits its partial re-search, a separation ring with the rest of its bank. -/
def ringWrong (s : State) (k i : Nat) (ev : Fld) : State :=
  let s := if i < 16 then s.each (List.range 16) fun s n =>
      if (s.ring k n).st = rgFailed then s else s.putRing k n { s.ring k n with st := rgSearching, toneOk := false, sweeps := 0 }
    else s
  let s := (coupleRing s k i true false).raise ev k
  let s := s.putRing k i { s.ring k i with st := rgWrong, toneOk := false, sweeps := 0 }
  showRings (ringTakesChip s k i) k

/-- A confirmation of R162 fails: the ring moves by the slots its tone is off and is confirmed again, at most twice. -/
def confirmFails (s : State) (k i tone : Nat) : State :=
  let r := { s.ring k i with tone := tone, toneOk := false }
  if 2 ≤ r.fails then failRing (s.putRing k i r) k i
  else s.putRing k i { r with
    fails := r.fails + 1, heater := if r.st = rgLocked then moveCode r.heater tone r.assign else r.heater }

/-- One ring is judged in a tone window (R162, R165): a locked one by its strongest tone and the level of its own, a quarter of that at lock at
least; a parked one by darkness. The window that confirms a ring takes its level at lock (DEDUCED, log 104). -/
def judgeTone (s : State) (k : Nat) (t : ToneRead) : State :=
  let r := s.ring k t.ring
  let s := putRingWork s k { s.ringWork k with toCheck := (s.ringWork k).toCheck.filter (· != t.ring) }
  if r.st = rgLocked ∧ r.frozen.isNone then
    let low := (r.lockLevel.map fun l => decide (4 * t.level < l)).getD false
    if t.tone = r.assign ∧ low = false then
      s.putRing k t.ring { r with
        tone := t.tone, toneOk := true, fails := 0, confirm := false, lockLevel := some (r.lockLevel.getD t.level) }
    else if r.confirm then confirmFails s k t.ring t.tone
    else ringWrong (s.putRing k t.ring { r with tone := t.tone }) k t.ring (if t.tone = r.assign then R.RING_EVT_UNLOCK else R.RING_EVT_WRONG_LAMBDA)
  else if r.st = rgParked then
    if t.dark then s.putRing k t.ring { r with tone := t.tone, toneOk := true, fails := 0, confirm := false }
    else if r.confirm then confirmFails s k t.ring t.tone
    else ringWrong (s.putRing k t.ring { r with tone := t.tone }) k t.ring R.RING_EVT_UNLOCK
  else s

/-- A ring is named for the next tone window (R162, R165, R167, R170): it awaits its confirmation, in phase 5 of a search or after a re-search, or
the step check. -/
def State.toneNamed (s : State) (k i : Nat) : Bool :=
  let r := s.ring k i
  (s.ringWork k).toCheck.contains i ||
    r.confirm && (r.st == rgLocked || r.st == rgParked) && (s.rd R.RING_STAT_PHASE k != 1 || (s.ringWork k).phase == 5)

/-- Some ring of chiplet `k` is named for the next tone window. -/
def State.anyNamed (s : State) (k : Nat) : Bool :=
  !(s.ringWork k).toCheck.isEmpty || s.rings.any fun e => e.1 / 2048 == k && s.toneNamed k (e.1 % 2048)

/-- The tone window checks ring `i` (R165): the rings named take precedence; in steady service it checks one quarter of the rings (DESIGN CHOICE, log
175). -/
def State.toneChecks (s : State) (k i : Nat) : Bool :=
  if s.anyNamed k then s.toneNamed k i else i / 396 == (s.ringWork k).quarter

/-- STEP_CHECK of chiplet `k` clears once every ring has been checked (R170). -/
def showStepCheck (s : State) (k : Nat) : State :=
  if (spGet (fun _ => FeedFwd.reset) s.feedFwd k).toCheck.isEmpty then s.wr R.RING_STAT_STEP_CHECK k 0 else s

/-- A tone window of 1 ms ends on a chiplet, with what it found of the rings it checked (R165). -/
def toneWindow (s : State) (k : Nat) (ts : List ToneRead) : State :=
  let read := ts.filter fun t => decide (t.ring < 1584) && s.toneChecks k t.ring
  let s := if s.anyNamed k then s else putRingWork s k { s.ringWork k with quarter := ((s.ringWork k).quarter + 1) % 4 }
  showStepCheck (s.each read fun s t => judgeTone s k t) k

/-- A tone window ends (R165). -/
def execToneWindow (k : Fin 4) (ts : List ToneRead) (s : State) : Out := .next (toneWindow s k.val ts)

/-! ### Darkness and re-search -/

/-- A ring's monitor reads dark: its loop freezes the heater code (R164). -/
def execRingDark (k : Fin 4) (i : Fin 1584) (s : State) : Out :=
  .next (
    let r := s.ring k.val i.val
    if r.st = rgLocked ∧ r.frozen.isNone then s.putRing k.val i.val { r with frozen := some s.now } else s)

/-- The circuit of a lane ring whose light is back retrains by the last three stages of R175 (R179). -/
def retrain (s : State) (k i : Nat) : State :=
  match laneOfRing i with
  | some (l, none) =>
    let x := s.lane k l
    if x.st = lnDown ∧ (x.mate.isSome ∨ x.ext = true) then
      (setEnds s (s.ends k l) lnTrain).each (s.ends k l) fun s e => s.putLane e.1 e.2 { s.lane e.1 e.2 with at_ := s.now - 12 * usec }
    else s
  | _ => s

/-- Light returns within 10 ms: the loop resumes from the frozen code (R164). -/
def execRingLightReturn (k : Fin 4) (i : Fin 1584) (s : State) : Out :=
  .next (
    let r := s.ring k.val i.val
    match r.frozen with
    | some t => if !s.passed t (10 * msec) && r.st == rgLocked then retrain (s.putRing k.val i.val { r with frozen := none }) k.val i.val else s
    | none => s)

/-- After 10 ms dark every frozen ring of the chiplet is re-searched (R164). -/
def execRingDarkTimeout (k : Fin 4) (s : State) : Out :=
  .next (
    let frozen := s.rings.filter fun e => e.1 / 2048 == k.val && e.2.frozen.isSome
    if frozen.any fun e => (e.2.frozen.map fun t => s.passed t (10 * msec)).getD false then
      showRings (s.each frozen fun s e =>
        coupleRing (s.putRing k.val (e.1 % 2048) { e.2 with st := rgSearching, sweeps := 0 }) k.val (e.1 % 2048) true false) k.val
    else s)

/-- A locked ring's heater code lies within 1,024 codes of an end of its range (R167). -/
def Ring.nearEnd (r : Ring) : Bool := r.st == rgLocked && (decide (r.heater < 1024) || decide (64511 < r.heater))

/-- The code about which a partial re-search sweeps a ring (R167): its own; one free spectral range away for a locked ring near an end of the
range, which is re-homed. -/
def Ring.expected (r : Ring) : Nat :=
  if r.nearEnd then (if r.heater < 1024 then r.heater + 49152 else r.heater - 49152) else r.heater

/-- A partial re-search ends with peaks at the codes given (R167): R161 over three slots each way of the expected code, and the first
confirmation of R162, which the tone engine has read. -/
def researchDone (s : State) (k i : Nat) (pk : List Nat) (t : ToneRead) : State :=
  let r := s.ring k i
  if s.rd R.RING_STAT_PHASE k ≠ 1 ∧ (r.st = rgSearching ∨ r.st = rgWrong ∨ r.nearEnd = true) then
    let s := s.raise R.RING_EVT_RESEARCH k
    let s := sweepDone s k i pk (r.expected - 8193) (min 65535 (r.expected + 8193))
    if (s.ring k i).confirm then judgeTone s k { t with ring := i } else s
  else s

/-- A partial re-search ends and is confirmed (R167). -/
def execPartialResearchDone (k : Fin 4) (i : Fin 1584) (pk : List Nat) (t : ToneRead) (s : State) : Out :=
  .next (researchDone s k.val i.val pk t)

/-! ### Monitors -/

/-- Monitor `i` of chiplet `k` watches light that is to be there: that of a lane only while its circuit is UP (DEDUCED, log 102). -/
def State.watched (s : State) (k i : Nat) : Bool :=
  if i < 73 ∨ 105 ≤ i then true else (s.lane k (i - 73)).st == lnUp

/-- Monitor `i` of chiplet `k` reads more than LOSS_DB below its level at lock (R181). -/
def State.below (s : State) (k i : Nat) : Bool := s.watched k i && s.faint k i

/-- Monitor `i` of chiplet `k` reads 3 dB below its level at lock: it is in warning (R181). -/
def State.warned (s : State) (k i : Nat) : Bool :=
  s.watched k i && ((s.mon k i).lock.map fun p => decide ((s.mon k i).power ≤ p - 300)).getD false

/-- The monitor has been in loss for 2 µs (R181). -/
def State.inLoss (s : State) (k i : Nat) : Bool := decide (2 ≤ (s.mon k i).runs)

/-- A monitor is read (R181). -/
def readMonitor (s : State) (r : MonRead) : State :=
  let s := s.putMon r.chip r.ix { s.mon r.chip r.ix with power := r.power }
  let m := { s.mon r.chip r.ix with warn := s.warned r.chip r.ix }
  if s.below r.chip r.ix then s.putMon r.chip r.ix { m with runs := m.runs + 1 } else s.putMon r.chip r.ix { m with runs := 0, located := false }

/-- The stage code of a monitor (R180). -/
def monStage (i : Nat) : Nat :=
  if i = 0 then 2 else if i < 9 then 3 else if i < 73 then 5 else if i < 89 then 6 else if i < 105 then 8 else if i < 107 then 1
  else if i < 115 then 4 else 0

/-- The monitors upstream of a monitor of chiplet `k` (R180, R181): some of them in loss places the loss upstream (DEDUCED, log 101). -/
def State.upstream (s : State) (k i : Nat) : List (Nat × Nat) :=
  match monStage i with
  | 2 => [(0, 105 + s.feedInUse)]
  | 3 => [(k, 0)]
  | 4 => [(k, 0)]
  | 5 => (List.range 8).map fun w => (k, 1 + w)
  | 6 => [(k, 0)]
  | _ => []

/-- Where the loss of a monitor is located (R181): LOSS_LOC's stage, chiplet, index and EXT; none while it lies upstream. -/
def State.lossAt (s : State) (k i : Nat) : Option (Nat × Nat × Nat × Nat) :=
  let st := monStage i
  if (s.upstream k i).any fun e => s.inLoss e.1 e.2 then none
  else if st = 8 then
    let x := s.lane k (16 + (i - 89))
    if x.ext then some (7, k, 2 * k + (x.column - 4), 1)
    else match x.mate with
      | some m => if s.inLoss (m / 32) (laneMon (m % 32)) then none else some (7, k, x.bridge, 0)
      | none => some (8, k, i, 0)
  else if st = 0 then none
  else some (st, k, i, 0)

/-- A loss is located (R182). -/
def locateLoss (s : State) (l : Nat × Nat × Nat × Nat) (show_ : Bool) : State :=
  let s := (s.raise R.RING_EVT_LOSS l.2.1).bump R.LOSS_CNT_COUNT 0
  if show_ then
    (((s.wr R.LOSS_LOC_STAGE 0 l.1).wr R.LOSS_LOC_CHIPLET 0 l.2.1).wr R.LOSS_LOC_INDEX 0 l.2.2.1).wr R.LOSS_LOC_EXT 0 l.2.2.2
  else s

/-- The monitors newly in loss, with where each is located. -/
def State.newLosses (s : State) : List ((Nat × Nat) × (Nat × Nat × Nat × Nat)) :=
  s.mons.filterMap fun e =>
    let k := e.1 / 128
    let i := e.1 % 128
    if s.inLoss k i && !e.2.located then (s.lossAt k i).map fun l => ((k, i), l) else none

/-- LIGHT_OK of chiplet `k`: every reference carrier reads above half its level at lock (R148, R150). -/
def showLight (s : State) (k : Nat) : State :=
  let refs := (List.range 8).map fun w => s.mon k (107 + w)
  if refs.all fun m => m.lock.isSome then
    let ok := refs.all fun m => decide ((m.lock.getD 0) - 301 < m.power)
    (s.putChip k { s.chip k with refAt := since ok s.now (s.chip k).refAt }).wrB R.MESH_STAT_LIGHT_OK k ok
  else s

/-- Every 1 µs the optical monitors are read and losses located (R181, R182): with several, LOSS_LOC holds the most upstream. Circuits on their
way go through their stages, their power checked (R175). -/
def execMonitorSample (rs : List MonRead) (s : State) : Out :=
  .next (
    let s := s.each (rs.filter fun r => decide (r.chip < 4 ∧ r.ix < 115)) readMonitor
    let new := s.newLosses
    let top := new.foldl (fun m e => min m e.2.1) 15
    let first := new.find? fun e => e.2.1 == top
    let s := s.each new fun s e => locateLoss (s.putMon e.1.1 e.1.2 { s.mon e.1.1 e.1.2 with located := true }) e.2 (first == some e)
    tuneAll (s.each chipNums showLight))

end Sys2Proof.Machine
end

