-- ==== Sys2Proof/Machine/Wset.lean ====
section
/-! DEFINITION. Machine/Wset.lean: bulk arms and frames (R272 to R274), the receipt of weight sets (R229 to R233), staging and the
bell (R242 to R250), and the WSET_ and STREAM_BULK_ commands (R312, R315). -/

namespace Sys2Proof.Machine

/-! ### Arms and the bulk region -/

/-- The first address of the bulk region (R273). -/
abbrev bulkBase : Nat := 0x01400000
/-- The address after the bulk region. -/
abbrev bulkEnd : Nat := 0x02000000

/-- The ranges from `a` of `n` bytes and from `b` of `k` bytes overlap. -/
def overlaps (a n b k : Nat) : Bool := decide (a < b + k ∧ b < a + n)

/-- An arm of purpose 1 to 3 is set. -/
def Arm.ranged (a : Arm) : Bool := a.set && decide (a.purpose ≤ 3)

/-- Shows arm `k` (R286). -/
def showArm (s : State) (k : Nat) : State :=
  let a := s.arm k
  let s := s.wrB R.BULK_STAT_ARMED k a.set
  if a.set then (s.wr R.BULK_STAT_PORT k a.port).wr R.BULK_STAT_PURPOSE k a.purpose else s

/-- Every arm is set, or one is set for the port (R272). -/
def State.armsBusy (s : State) (port : Nat) : Bool := (List.range 4).all (fun k => (s.arm k).set) || (s.armFor port).isSome

/-- The arm to be set next: the lowest-numbered one not set. -/
def State.armFree (s : State) : Nat := ((List.range 4).find? fun k => !(s.arm k).set).getD 0

/-- Clears arm `k`. -/
def clearArm (s : State) (k : Nat) : State := showArm (s.putArm k { s.arm k with set := false, inFrame := false }) k

/-- Clears the arms that serve slot `n`. -/
def clearSlotArms (s : State) (n : Nat) : State :=
  s.each (List.range 4) fun s k => if (s.arm k).set && decide (4 ≤ (s.arm k).purpose) && (s.arm k).slot == n then clearArm s k else s

/-- The ranges of the bulk region that are occupied (R273): address and length. -/
def State.bulkUsed (s : State) : List (Nat × Nat) :=
  ((List.range 4).filter fun k => (s.arm k).ranged).map (fun k => ((s.arm k).addr, (s.arm k).limit)) ++
    s.bulk.map fun r => (r.addr, r.len)

/-- Free space of `n` bytes in the bulk region: the lowest address (DESIGN CHOICE, log 43). -/
def State.bulkPlace (s : State) (n : Nat) : Option Nat :=
  let used := s.bulkUsed
  let cands := sortBy (fun a b => decide (a ≤ b)) (bulkBase :: used.map fun u => u.1 + u.2)
  cands.find? fun a => decide (bulkBase ≤ a ∧ a + n ≤ bulkEnd) && used.all fun u => !overlaps a n u.1 u.2

/-- The block of receive port `p` is not gated (R301). -/
def State.rxClock (s : State) (p : Nat) : Bool := bitOf (s.word (R.CLK_EN.key 0 0)) p

/-- STREAM_BULK_ARM is refused because of its range (R273). -/
def State.rangeBusy (s : State) (addr limit : Nat) : Bool :=
  (List.range 4).any (fun k => (s.arm k).ranged && overlaps addr limit (s.arm k).addr (s.arm k).limit) ||
    s.bulk.any fun r => decide (4 ≤ r.purpose) && overlaps addr limit r.addr r.len

/-- STREAM_BULK_ARM (R272, R273, R315). -/
def execStreamBulkArm (m : Fin 16) (s : State) : Out :=
  .next (s.peade m.val 0x0501 true (s.rxClock (s.req m.val 8 1)) true 0 fun s =>
    let port := s.req m.val 8 1
    let addr := s.req m.val 0x0C 4
    let limit := s.req m.val 0x10 4
    if s.armsBusy port || s.rangeBusy addr limit then s.respond m.val .bulkBusy 0 []
    else if addr < bulkBase ∨ bulkEnd < addr + limit then s.respond m.val .bulkRange 0 []
    else
      let k := s.armFree
      let s := s.setBulk (s.bulk.filter fun r => !overlaps addr limit r.addr r.len)
      let s := s.putArm k ⟨true, port, s.req m.val 9 1, addr, limit, 0, 0, false, 0, [], []⟩
      (showArm s k).respond m.val .ok 0 (leBytes 1 k))

/-- STREAM_BULK_DISARM (R272, R315). -/
def execStreamBulkDisarm (m : Fin 16) (s : State) : Out :=
  .next (s.peade m.val 0x0502 true true true 0 fun s =>
    let k := s.req m.val 8 1
    let a := s.arm k
    if a.set && a.inFrame then s.respond m.val .bulkBusy 0 []
    else if !a.set || a.purpose == 5 then s.respond m.val .badParam 8 []
    else (clearArm s k).respond m.val .ok 0 [])

/-! ### The contents of a set -/

/-- Bytes a slot holds: its manifest and the shards that stand in it (DEDUCED, log 113). -/
def StoreSlot.bytes (v : StoreSlot) : Nat := v.manifest.length + (v.shards.map fun e => e.2.length).sum

/-- Why a manifest is refused (R231): its form and its index, its digest, its size, or a set already held. -/
def State.manifestBad (s : State) (n modIndex : Nat) (b : List Byte) : Bool :=
  let es := List.range (mfEntries b)
  bytesAt b 0 4 != [0x57, 0x59, 0x47, 0x4D] || leAt b 4 2 != 1 || leAt b 6 2 != 64 ||
    decide (mfEntries b < 1 ∨ 4352 < mfEntries b ∨ b.length ≠ 0x80 + 80 * mfEntries b) || !mfDigestOk b ||
    decide (leAt b 0x0E 1 ≤ modIndex) ||
    decide (536870912 < ((es.filter fun e => mfModule b e == modIndex).map (mfSize b)).sum) ||
    (List.range 8).any fun q => q != n && ((s.slot q).st == slReceiving || (s.slot q).st == slHeld) &&
      leAt (s.slot q).manifest 8 4 == leAt b 8 4

/-- A shard is rejected for slot `n` (R232). -/
def State.shardBad (s : State) (n : Nat) (b : List Byte) : Bool :=
  let v := s.slot n
  let no := leAt b 8 2
  let mf := v.manifest
  decide (mfEntries mf ≤ no) || mfModule mf no != v.modIndex || leAt b 6 1 != mfKind mf no || leAt b 7 1 != mfRole mf no ||
    leAt b 0x0A 1 != mfOper mf no || b.length != mfSize mf no || leAt b 0x10 4 != bodyLen (mfKind mf no) ||
    b.length != bodyLen (mfKind mf no) + 128 || badBody (mfKind mf no) (b.drop 64) || !shDigestOk b (mfDigest mf no) ||
    v.shards.any (fun e => e.1 == no) || s.bulk.any fun r => r.purpose == 5 && r.slot == n && r.shard == no

/-! ### Frames -/

/-- A complete manifest arrives on arm `k` (R231, R272): the slot enters RECEIVING and the arm turns to shards, or it is refused and
the arm is cleared. -/
def takeManifest (s : State) (k addr got : Nat) (b : List Byte) : State :=
  let a := s.arm k
  if s.manifestBad a.slot a.modIndex b then clearArm (bulkOutcome s k 5 addr got 0xFFFF) k
  else
    let s := bulkOutcome s k 0 addr got 0xFFFF
    let s := s.putSlot a.slot ⟨slReceiving, a.modIndex, b, []⟩
    showArm (s.putArm k { s.arm k with purpose := 5, limit := 164480 }) k

/-- A complete shard arrives on arm `k` (R232): it waits to be written to the store, or it is rejected. -/
def takeShard (s : State) (k addr got : Nat) (b : List Byte) : State :=
  let a := s.arm k
  let no := if 10 ≤ b.length then leAt b 8 2 else 0xFFFF
  if s.shardBad a.slot b then (bulkOutcome s k 5 addr got no).raise R.WSET_EVT_SHARD_REJ 0
  else
    let s := bulkOutcome s k 0 addr got no
    s.setBulk (s.bulk ++ [⟨addr, b.length, b.length, 5, a.slot, no⟩])

/-- The frame in progress on arm `k` ends (R272 to R274): `trunc` says a Frame Start ended it. -/
def endFrame (s : State) (k : Nat) (trunc : Bool) : State :=
  let a := s.arm k
  let got := s.rd R.BULK_STAT_BYTES k
  let s := s.putArm k { a with inFrame := false, data := [], heard := [] }
  let no := if a.purpose = 5 && a.heard.length == 10 then leAt a.heard 8 2 else 0xFFFF
  let result := if a.outcome != 0 then a.outcome else if trunc then 3 else 0
  if a.purpose ≤ 3 then
    let s := bulkOutcome (s.putSt a.addr a.data) k result a.addr got no
    if result ≠ 0 then s
    else clearArm (s.setBulk (s.bulk ++ [⟨a.addr, a.limit, got, a.purpose, 0, 0⟩])) k
  else if result ≠ 0 then bulkOutcome s k result a.addr got no
  else match s.bulkPlace a.data.length with
    | none =>
      let s := bulkOutcome s k 4 a.addr got no
      if a.purpose = 5 then s.raise R.WSET_EVT_SHARD_REJ 0 else s
    | some addr =>
      let s := s.putSt addr a.data
      if a.purpose = 4 then takeManifest s k addr got a.data else takeShard s k addr got a.data

/-- A Frame Start on virtual channel 15 of port `p` (R272, R274): a bulk frame is in progress on its arm, and one still in progress ends with
TRUNC; without an arm the frame is discarded. -/
def bulkStart (s : State) (p : Nat) : State :=
  match s.armFor p with
  | none => s.raiseRx R.RX_EVT_BULK_UNARMED p
  | some k =>
    let s := if (s.arm k).inFrame then endFrame s k true else s
    (s.putArm k { s.arm k with inFrame := true, outcome := 0, data := [], heard := [] }).wr R.BULK_STAT_BYTES k 0

/-- A packet of type 0x37 on virtual channel 15 of port `p` (R274): it is taken into staging until the first error, 1 for its CRC or 2 for the
limit passed. -/
def bulkPacket (s : State) (p : Nat) (b : List Byte) (ok : Bool) : State :=
  let s := if ok then s else (s.bump R.RX_STAT_CRC_CNT p).raiseRx R.RX_EVT_CRC_ERR p
  match s.armFor p with
  | none => s
  | some k =>
    let a := s.arm k
    if !a.inFrame then s else
    let got := s.rd R.BULK_STAT_BYTES k + b.length
    let err := if a.outcome != 0 then a.outcome else if !ok then 1 else if a.limit < got then 2 else 0
    (s.putArm k { a with
      outcome := err, data := if err = 0 then a.data ++ b else a.data, heard := (a.heard ++ b).take 10 }).wr R.BULK_STAT_BYTES k got

/-- A Frame End on virtual channel 15 of port `p` (R274). -/
def bulkEnd_ (s : State) (p : Nat) (trunc : Bool) : State :=
  match s.armFor p with
  | none => s
  | some k => if (s.arm k).inFrame then endFrame s k trunc else s

/-- A bulk frame on virtual channel 15 of a receive port, with its packets and whether each passes its payload CRC (R272 to R274): ended by its Frame
End, or by the next Frame Start. -/
def execBulkFrame (p : Fin 12) (pkts : List (List Byte × Bool)) (trunc : Bool) (s : State) : Out :=
  .next (
    if !s.rxOn p.val then s else
    let s := bulkStart (s.setRxAt (spSet (fun _ => none) s.rxAt p.val (some s.now))) p.val
    bulkEnd_ (s.each pkts fun s q => bulkPacket s p.val q.1 q.2) p.val trunc)

/-! ### Packets of the receive ports -/

/-- A Frame Start (R255, R259, R260): on a stream's channel the buffered stream settings take effect and the expected line
number is forgotten; on channel 15 a bulk frame begins (R274). -/
def execFrameStart (p : Fin 12) (vc : Fin 16) (h : HdrCheck) (s : State) : Out :=
  .next (
    match streamOfPacket s p.val vc.val h with
    | (s, some st) =>
      let s := losePending s st
      let s := s.apply (R.STREAM_CFG.key st 0)
      s.putIng st { s.ing st with inFrame := true, expected := none, pendingLine := none }
    | (s, none) => if vc.val = 15 && s.rxOn p.val && decide (h ≠ .bad) then bulkStart s p.val else s)

/-- A Frame End (R259): a Line Start that found no long packet marks a lost line; on channel 15 the bulk frame ends (R274). -/
def execFrameEnd (p : Fin 12) (vc : Fin 16) (h : HdrCheck) (s : State) : Out :=
  .next (
    match streamOfPacket s p.val vc.val h with
    | (s, some st) =>
      let s := if s.frc R.STREAM_CFG_EN st = 0 then s else losePending s st
      s.putIng st { s.ing st with inFrame := false, pendingLine := none }
    | (s, none) => if vc.val = 15 && s.rxOn p.val && decide (h ≠ .bad) then bulkEnd_ s p.val false else s)

/-- A long packet (R256 to R258, R261): of the stream's data type it carries one line, which is checked for its payload CRC,
its width and room in the ingest area, stamped and offered to the bound jobs. Null, blanking and embedded packets are
discarded (R255); any other type sets DTYPE_BAD. On channel 15 type 0x37 carries bytes of a bulk frame (R257, R274). -/
def execLongPacket (p : Fin 12) (vc : Fin 16) (h : Header) (dtype : Fin 64) (crcOk room : Bool) (pix : List Nat) (s : State) : Out :=
  .next (
    match streamOfPacket s p.val vc.val h.check with
    | (s, some st) =>
      if s.frc R.STREAM_CFG_EN st = 0 then s
      else if 0x10 ≤ dtype.val ∧ dtype.val ≤ 0x12 then s
      else if dtype.val ≠ s.dtypeOf st then s.raiseRx R.RX_EVT_DTYPE_BAD p.val
      else
        let s := if crcOk then s else (s.bump R.RX_STAT_CRC_CNT p.val).raiseRx R.RX_EVT_CRC_ERR p.val
        let r := lineStamp s st h.phase.val
        let pre := if !crcOk then 1 else if pix.length ≠ s.width st then 2 else if !room then 4 else 0
        offerLine r.1 st r.2 pix pre
    | (s, none) =>
      if vc.val = 15 && s.rxOn p.val && decide (h.check ≠ .bad) then
        if dtype.val = 0x37 then bulkPacket s p.val (pix.map (BitVec.ofNat 8)) crcOk else s.raiseRx R.RX_EVT_DTYPE_BAD p.val
      else s)

/-- A shard finishes writing to the golden store (R232): it stands in its slot, and its space is free. -/
def execShardWritten (n : Fin 8) (no : Fin 65536) (s : State) : Out :=
  .next (
    match s.bulk.find? fun r => r.purpose == 5 && r.slot == n.val && r.shard == no.val with
    | none => s
    | some r =>
      let v := s.slot n.val
      (s.setBulk (s.bulk.erase r)).putSlot n.val { v with shards := v.shards ++ [(no.val, s.stBytes r.addr r.len)] })

/-! ### Slots -/

/-- WSET_BEGIN (R231, R272, R312). -/
def execWsetBegin (m : Fin 16) (s : State) : Out :=
  .next (s.peade m.val 0x0201 true (s.rxClock (s.req m.val 0x0A 1)) true 0 fun s =>
    let n := s.req m.val 8 1
    let port := s.req m.val 0x0A 1
    let named := (List.range 4).any fun k => (s.arm k).set && (s.arm k).purpose == 4 && (s.arm k).slot == n
    if (s.slot n).st != slFree || named then s.respond m.val .slotState 0 []
    else if s.armsBusy port then s.respond m.val .bulkBusy 0 []
    else
      let k := s.armFree
      let s := s.putArm k ⟨true, port, 4, bulkBase, 348288, n, s.req m.val 9 1, false, 0, [], []⟩
      (showArm s k).respond m.val .ok 0 (leBytes 1 k))

/-- The first SHARD_NO of a slot's module that does not stand in it (R233). -/
def StoreSlot.absent (v : StoreSlot) : Option Nat :=
  (List.range (mfEntries v.manifest)).find? fun e => mfModule v.manifest e == v.modIndex && !v.shards.any fun x => x.1 == e

/-- WSET_COMMIT (R233, R312). -/
def execWsetCommit (m : Fin 16) (s : State) : Out :=
  .next (s.peade m.val 0x0202 true true true 0 fun s =>
    let n := s.req m.val 8 1
    let v := s.slot n
    if v.st != slReceiving then s.respond m.val .slotState 0 []
    else match v.absent with
      | some e => s.respond m.val .wsetMissing e []
      | none => (((clearSlotArms s n).putSlot n { v with st := slHeld }).raise R.WSET_EVT_SET_HELD 0).respond m.val .ok 0 [])

/-- WSET_DELETE (R229, R250, R272, R312): the slot is being erased until ERASE_DONE. -/
def execWsetDelete (m : Fin 16) (s : State) : Out :=
  .next (s.peade m.val 0x0203 true true true 0 fun s =>
    let n := s.req m.val 8 1
    let v := s.slot n
    if v.st == slFree || v.st == slErasing then s.respond m.val .slotState 0 []
    else if jobNums.any fun j => s.usesSlot j n then s.respond m.val .wsetInUse 0 []
    else
      let s := clearSlotArms s n
      (s.setBulk (s.bulk.filter fun r => !(r.purpose == 5 && r.slot == n))).putSlot n { v with st := slErasing })

/-- A slot finishes erasing (R229): FREE, and the WSET_DELETE that asked for it is done. -/
def execEraseDone (n : Fin 8) (s : State) : Out :=
  .next (
    if (s.slot n.val).st != slErasing then s else
    let s := s.putSlot n.val StoreSlot.free
    match s.runningWith 0x0203 n.val with
    | some m => s.respond m .ok 0 []
    | none => s)

/-- The entry of slot `n` in the response of WSET_LIST (R312). -/
def State.slotEntry (s : State) (n : Nat) : List Byte :=
  leBytes 1 (s.slot n).st ++ leBytes 1 (s.slot n).modIndex ++ leBytes 2 (s.rd R.WSET_SLOT_JOBS n) ++
    leBytes 4 (s.rd R.WSET_SLOT_ID_WSET_ID n) ++ leBytes 4 (s.slot n).bytes

/-- WSET_LIST (R312). -/
def execWsetList (m : Fin 16) (s : State) : Out :=
  .next (s.peade m.val 0x0204 true true true 0 fun s =>
    let first := s.req m.val 8 1
    s.respond m.val .ok 0 ((((List.range 8).drop first).take 4).flatMap s.slotEntry))

/-! ### Shape -/

/-- The entries of a manifest with the OPER, KIND and ROLE of entry `e` of another, in manifest order. -/
def mfAlike (mf mf' : List Byte) (e : Nat) : List Nat :=
  (List.range (mfEntries mf')).filter fun x =>
    mfOper mf' x == mfOper mf e && mfKind mf' x == mfKind mf e && mfRole mf' x == mfRole mf e

/-- The SHARD_NO of the set `mf'` whose counterpart in the set `mf` is `e` (R243): the same place among those alike. -/
def counterpart (mf mf' : List Byte) (e : Nat) : Option Nat := (mfAlike mf mf' e)[((mfAlike mf mf e).takeWhile (· != e)).length]?

/-- The value of a binary16 that is neither a NaN nor an infinity. -/
def halfRat (v : Nat) : Rat :=
  match fmt16.decode v with
  | .fin _ x => if 0 ≤ x.e then (x.m * 2 ^ x.e.toNat : Int) else (x.m : Rat) / (2 ^ (-x.e).toNat : Nat)
  | .nan | .inf _ => 0

/-- Row `r` less a multiple of the pivot row that makes its first entry zero, without that entry. -/
def eliminate (pivot : Rat) (row r : List Rat) : List Rat :=
  ((r.zip row).map fun e => e.1 - r.headD 0 / pivot * e.2).drop 1

/-- A symmetric matrix, by its rows, is positive definite; with `semi`, or only semidefinite: every pivot of its elimination is
above zero, or zero with the rest of its row zero. -/
def positive (semi : Bool) : Nat → List (List Rat) → Bool
  | 0, _ => true
  | _, [] => true
  | fuel + 1, row :: rest =>
    let p := row.headD 0
    if 0 < p then positive semi fuel (rest.map (eliminate p row))
    else if p = 0 && semi && row.all (· == 0) then positive semi fuel (rest.map (List.drop 1))
    else false

/-- b² I − Mᵀ M for the 64 × 64 matrix of a mesh shard (R227). -/
def gramGap (b : Rat) (body : List Byte) : List (List Rat) :=
  let ent (j k : Nat) : Rat := halfRat (leAt body (2 * (64 * j + k)) 2)
  (List.range 64).map fun r => (List.range 64).map fun c =>
    (if r = c then b * b else 0) - ((List.range 64).map fun j => ent j r * ent j c).sum

/-- The largest singular value of a matrix equals `v` to within 2⁻¹⁰ of `v` (R242) (DEDUCED, log 118). -/
def scaleOk (v : Rat) (body : List Byte) : Bool :=
  positive true 64 (gramGap (v * (1 + 1 / 1024)) body) && !positive false 64 (gramGap (v * (1 - 1 / 1024)) body)

/-- Two sets are of the same shape for a job (R242). -/
def State.sameShape (s : State) (j cur new : Nat) : Bool :=
  let a := (s.slot cur).manifest
  let b := (s.slot new).manifest
  let ok (x y : List Byte) : Bool := (List.range (mfEntries x)).all fun e => (mfAlike x x e).length == (mfAlike x y e).length
  ok a b && ok b a && mfStateSig a == mfStateSig b &&
    (s.slot new).shards.all fun e => mfKind b e.1 != 2 ||
      (((s.job j).sec.meshes.find? fun m => m.oper == mfOper b e.1).map fun m =>
        scaleOk (halfRat m.scale.toNat) (shardMatrix e.2)).getD true

/-! ### Staging -/

/-- The image's shards with their SHARD_NO in the new set (R243). -/
def State.newNos (s : State) (j cur new : Nat) : List (Nat × Nat) :=
  (s.job j).noMap.filterMap fun e =>
    (counterpart (s.slot cur).manifest (s.slot new).manifest e.2).map fun x => (e.1, x)

/-- The image's shard `n` is changed by the new set (R243). -/
def State.changed (s : State) (j cur new n : Nat) : Bool :=
  match (s.job j).noMap.find? fun e => e.1 == n, (s.newNos j cur new).find? fun e => e.1 == n with
  | some o, some x => mfDigest (s.slot cur).manifest o.2 != mfDigest (s.slot new).manifest x.2
  | _, _ => false

/-- Copies placed one after the other (R243); none when one cannot be placed. -/
def placeCopies (s : State) (j new : Nat) (nos : List (Nat × Nat)) : List Placed → Option State
  | [] => some s
  | p :: rest =>
    match s.copyTile j p, nos.find? fun e => e.1 == p.shard with
    | some t, some e =>
      let st := s.stage j
      let s := s.putStage j { st with copies := st.copies ++ [⟨p.shard, e.2, t, p.pair, false⟩] }
      let s := setSvc s t p.pair svcCopy
      let s := s.setWrites (s.writes ++ [⟨t, p.pair, new, e.2, .stage j p.shard, 0, 0, false, false⟩])
      placeCopies s j new nos rest
    | _, _ => none

/-- The chiplets of job `j` whose matrix in service the new set changes, with the image's shard (R243). -/
def State.changedChips (s : State) (j cur new : Nat) : List (Nat × Nat) :=
  let job := s.job j
  let l := (job.meshesIn job.grade).filterMap fun m =>
    if s.changed j cur new (m.matrixIn job.grade) then (job.chipOf m.oper).map fun k => (k, m.matrixIn job.grade) else none
  chipNums.filterMap fun k => l.find? fun e => e.1 == k

/-- The changed mesh shards the job names. -/
def State.changedMeshes (s : State) (j cur new : Nat) : Nat :=
  (dedupNat ((s.job j).sec.meshes.flatMap fun m => m.matrices.map (·.2))).countP fun n => s.changed j cur new n

/-- The tiles of the copies of a staging (DEDUCED, log 115). -/
def copyTiles (l : List Copy) : Nat := (l.map fun c => if c.pair then 2 else 1).sum

/-- A staging begins (R243, R244): copies of the changed shards are placed and are to be written, changed matrices are computed
(DEDUCED, log 114) (DEDUCED, log 116). -/
def beginStage (s : State) (j m new : Nat) (auto : Bool) : State :=
  let cur := s.rd R.WSET_JOB_SLOT j
  let nos := s.newNos j cur new
  let meshes := s.changedMeshes j cur new
  let chips := s.changedChips j cur new
  let base := s.putStage j { WStage.none with noMap := nos, meshes := chips.map fun e => (e.1, e.2, false) }
  match placeCopies base j new nos ((s.job j).placed.filter fun p => s.changed j cur new p.shard) with
  | none => s.respond m .tilesShort 0 []
  | some s =>
    let n := copyTiles (s.stage j).copies
    let s := ((s.wr R.WSET_JOB_STAGE j 1).wr R.WSET_JOB_NEW_SLOT j new).wr R.WSET_JOB_COPIES j n
    let s := s.wrB R.WSET_JOB_AUTO j auto
    let s := (s.each (chips.map (·.1)) stagedMatrix).respond m .ok 0 (leBytes 2 n ++ leBytes 1 meshes)
    stageProgress (showStore s) j

/-- A staging or drain of job `j` is in progress. -/
def State.stagingOn (s : State) (j : Nat) : Bool := decide (1 ≤ s.rd R.WSET_JOB_STAGE j ∧ s.rd R.WSET_JOB_STAGE j ≤ 3)

/-- WSET_STAGE (R242, R243, R312). -/
def execWsetStage (m : Fin 16) (s : State) : Out :=
  .next (s.peade m.val 0x0205 s.notStopped true true 0 fun s =>
    let j := s.req m.val 8 1
    let n := s.req m.val 9 1
    if !(s.job j).admitted then s.respond m.val .jobState 0 []
    else if (s.slot n).st != slHeld then s.respond m.val .wsetMissing 0 []
    else if !s.sameShape j (s.rd R.WSET_JOB_SLOT j) n then s.respond m.val .wsetShape 0 []
    else if s.stagingOn j then s.respond m.val .wsetBusy 0 []
    else beginStage s j m.val n (s.req m.val 0x0A 1 == 1))

/-- WSET_RING (R245, R312): rung now when READY, else at READY. -/
def execWsetRing (m : Fin 16) (s : State) : Out :=
  .next (s.peade m.val 0x0206 s.notStopped true true 0 fun s =>
    let j := s.req m.val 8 1
    let g := leBytes 1 ((s.rd R.WSET_JOB_GEN j + 1) % 16)
    if s.rd R.WSET_JOB_STAGE j = 2 then (bell s j).respond m.val .ok 0 (leBytes 1 1 ++ g)
    else if s.rd R.WSET_JOB_STAGE j = 1 then
      (s.putStage j { s.stage j with ring := true }).respond m.val .ok 0 (leBytes 1 0 ++ g)
    else s.respond m.val .stageNone 0 [])

/-- WSET_ABORT (R250, R312). -/
def execWsetAbort (m : Fin 16) (s : State) : Out :=
  .next (s.peade m.val 0x0207 true true true 0 fun s =>
    let j := s.req m.val 8 1
    if s.rd R.WSET_JOB_STAGE j = 3 then s.respond m.val .wsetBusy 0 []
    else if !s.stagingOn j then s.respond m.val .stageNone 0 []
    else gradeProgress ((dropStage s j 0).respond m.val .ok 0 []) j)

/-- Copy tiles of job `j` still being written (R312). -/
def State.copiesPending (s : State) (j : Nat) : Nat := copyTiles ((s.stage j).copies.filter fun c => !c.ready)

/-- WSET_STATUS (R312). -/
def execWsetStatus (m : Fin 16) (s : State) : Out :=
  .next (s.peade m.val 0x0208 true true true 0 fun s =>
    let j := s.req m.val 8 1
    s.respond m.val .ok 0 (leBytes 4 (s.word (R.WSET_JOB.key j 0)).toNat ++ leBytes 2 (s.copiesPending j)))

end Sys2Proof.Machine
end

