-- ==== Sys2Proof/Machine/CalCmds.lean ====
section
/-! DEFINITION. Machine/CalCmds.lean: the CAL_ commands (R213, R217 to R219, R313) and the start and end of the first sweep (R214 to R216). -/

namespace Sys2Proof.Machine

/-- CAL_RUN (R202, R214, R313): before the first sweep it starts it in COLD form, later it triggers a run on each quadrant named. -/
def execCalRun (m : Fin 16) (s : State) : Out :=
  .next (s.peade m.val 0x0301 s.notStopped true true 0 fun s =>
    let mask := s.req m.val 8 1
    let s := s.respond m.val .ok 0 []
    if s.firstForm = 0 then startFirst s 1
    else s.each ((List.range 8).filter fun q => mask / 2 ^ q % 2 == 1) fun s q => triggerRun s q runCmd)

/-- CAL_THRESH_SET (R46, R53, R213, R313): a new threshold acts at once on tiles and quadrants. A job whose load is not complete is not
admitted yet (DEDUCED, log 180). -/
def execCalThreshSet (m : Fin 16) (s : State) : Out :=
  .next (s.peade m.val 0x0302 true true true 0 fun s =>
    let v := s.req m.val 8 2
    let tooHigh := jobNums.any fun j => (s.job j).admitted && decide ((s.job j).hdr.reqXbar < v)
    if v < 80 ∨ 150 < v ∨ s.thresh < v ∧ tooHigh then s.respond m.val .tolerance 0 []
    else
      let lower := decide (v < s.thresh)
      let s := (s.wr R.CAL_THRESH_THRESH 0 v).respond m.val .ok 0 []
      if lower then s.each tileNums judgeTile else s)

/-! ### The snapshot -/

/-- The magic of a snapshot (R218). -/
def snapMagic : List Byte := [0x4B, 0x54, 0x43, 0x53]

/-- SNAP_LEN (R218). -/
abbrev snapLen : Nat := 8560704

/-- The 320 words of a tile's record in a snapshot (R218): the bank in service and the maps in force. -/
def State.tileRecord (s : State) (t : Nat) : List Word :=
  let b := s.bankOf t
  (List.range 282).map (s.tcalAt t b) ++ (List.range 18).map (fun k => s.forceWord (R.LEG_MAP.key t k)) ++
    [s.forceWord (R.ROWDRV_MAP.key t 0), s.forceWord (R.TILE_CFG.key t 0) &&& 0x007F0001, s.word (R.TCAL_PROG.key t 0)] ++
    (List.range 16).map (fun n => s.forceWord (R.SPARE_MAP.key t n)) ++ [0]

/-- The bytes of words, least significant first. -/
def wordBytes (ws : List Word) : List Byte := ws.flatMap fun w => leBytes 4 w.toNat

/-- The heater-crosstalk matrix of chiplet `k` as a snapshot holds it: that of the last rebuild, else the estimate restored, else none. -/
def State.xtBytes (s : State) (k : Nat) : List Byte :=
  match (s.chip k).xt with
  | some ix => wordBytes ((List.range 8192).flatMap fun r => (List.range 25).map fun e => Config.xtalkEntry ix r e)
  | none => bytesAt (s.chip k).restored 0 819200

/-- The record of a chiplet in a snapshot (R218): crosstalk matrix, receive table and predistortion table of the bank in service
(DEDUCED, log 112). -/
def State.chipRecord (s : State) (k : Nat) : List Byte :=
  let b := s.meshBank k
  s.xtBytes k ++ wordBytes ((List.range 512).map (s.meshTblAt k b 1)) ++ wordBytes ((List.range 2048).map (s.meshTblAt k b 2))

/-- A snapshot (R217, R218). -/
def State.snapshot (s : State) : List Byte :=
  let body := snapMagic ++ leBytes 2 1 ++ leBytes 2 64 ++ leBytes 4 snapLen ++ (List.range 12).map Config.serial ++
    leBytes 8 s.tb.toNat ++ leBytes 2 4096 ++ leBytes 1 4 ++ List.replicate 29 0 ++
    tileNums.flatMap (fun t => wordBytes (s.tileRecord t)) ++ chipNums.flatMap s.chipRecord
  body ++ shake256 body

/-- Where CAL_SAVE writes the snapshot (R217): a free place inside the firmware fence of R349, after the buffer of R419 and before the records of
R317 (DEDUCED, log 97). -/
def snapshotAddr : Nat := 0x00B40000 + Config.snapshotPlace % 548737

/-- The block of transmit port `t` is not gated, and the request's port names it (R301). -/
def State.calPortOk (s : State) (m : Nat) : Bool := s.txClock (s.req m 8 1)

/-- CAL_SAVE (R217, R271, R313): the snapshot is written into staging memory and goes to the named port; the command completes when its last part is handed over. -/
def execCalSave (m : Fin 16) (s : State) : Out :=
  .next (s.peade m.val 0x0303 s.notStopped (s.calPortOk m.val) true 0 fun s =>
    if s.firstForm ≠ 4 then s.respond m.val .calState 0 []
    else emitStatus (s.putSt snapshotAddr s.snapshot) (s.req m.val 8 1) s.recPort.2 3 s.snapshot)

/-- One tile's values of a snapshot go to its standby bank and its buffered maps (R219) (DEDUCED, log 111). -/
def restoreTile (s : State) (snap : List Byte) (t : Nat) : State :=
  let b := 1 - s.bankOf t
  let rec_ := bytesAt snap (0x40 + 1280 * t) 1280
  let w (i : Nat) : Word := BitVec.ofNat 32 (leAt rec_ (4 * i) 4)
  let s := s.each (List.range 282) fun s i => s.putTcal t b i (w i)
  let s := s.each (List.range 18) fun s k => s.setWord (R.LEG_MAP.key t k) (w (282 + k))
  let s := s.setWord (R.ROWDRV_MAP.key t 0) (w 300)
  let s := (s.wr R.TILE_CFG_CLIP_LVL t (fieldOf 16 7 (w 301))).wr R.TILE_CFG_SA_CAL t (fieldOf 0 1 (w 301))
  s.each (List.range 16) fun s n => s.setWord (R.SPARE_MAP.key t n) (w (303 + n))

/-- CAL_RESTORE is refused (R219). -/
def State.restoreRefusal (s : State) (addr : Nat) : Option Status :=
  let h := s.stBytes addr 64
  let n := leAt h 8 4
  if s.firstForm ≠ 0 then some .calState
  else if bytesAt h 0 4 != snapMagic || leAt h 4 2 != 1 || leAt h 6 2 != 64 then some .imageFormat
  else if bytesAt h 0x0C 12 != (List.range 12).map Config.serial then some .restoreId
  else if s.stBytes (addr + n) 64 != shake256 (s.stBytes addr n) then some .digest
  else none

/-- CAL_RESTORE (R219, R313): the values are written, and the first sweep starts in WARM form (R214). -/
def execCalRestore (m : Fin 16) (s : State) : Out :=
  .next (s.peade m.val 0x0304 s.notStopped true true 0 fun s =>
    let addr := s.req m.val 8 4
    match s.restoreRefusal addr with
    | some st => s.respond m.val st 0 []
    | none =>
      let snap := s.stBytes addr snapLen
      let s := s.each tileNums fun s t => restoreTile s snap t
      let s := s.each chipNums fun s k => s.putChip k { s.chip k with restored := bytesAt snap (0x500040 + 829440 * k) 829440 }
      let s := s.wr R.CAL_STAT_RESTORED 0 1
      (startFirst s 2).respond m.val .ok 0 [])

/-- The part of CAL_STATUS for quadrant `q` (R313). -/
def State.quadStatus (s : State) (q : Nat) : List Byte :=
  wordBytes [s.word (R.QCAL_STAT.key q 0), s.word (R.QCAL_CNT.key q 0), s.word (R.QCAL_TIME_LO.key q 0), s.word (R.QCAL_TIME_HI.key q 0),
    s.word (R.QCAL_MAXEST.key q 0)]

/-- CAL_STATUS (R313). -/
def execCalStatus (m : Fin 16) (s : State) : Out :=
  .next (s.peade m.val 0x0305 true true (s.req m.val 8 1 % 2 == 0) 8 fun s =>
    let q := s.req m.val 8 1
    s.respond m.val .ok 0 (leBytes 2 s.thresh ++ leBytes 2 0 ++ leBytes 4 (s.word (R.HW_STAT.key 0 0)).toNat ++ s.quadStatus q ++
      s.quadStatus (q + 1)))

/-- 1 s after firmware enters service the first sweep starts in COLD form (R214). -/
def execFirstSweepTimer (s : State) : Out :=
  .next (if s.notStopped && (s.boot.at_.map fun t => s.passed t (1000 * msec)).getD false then startFirst s 1 else s)

/-- The first sweep ends (R215, R216), and a JOB_LOAD that waits goes on (R45). -/
def execFirstSweepDone (fs : List TileFinding) (s : State) : Out := .next (tryLoad (firstSweepDone s fs))

end Sys2Proof.Machine
end

