-- ==== Sys2Proof/Machine/ModuleStops.lean ====
section
/-! DEFINITION. Machine/ModuleStops.lean: what a fault of the module does to its jobs (R324, R366, R378, R389 to R391), a half or a chiplet
switched off and on (R380, R381, R391), and what keeps its contents without power. -/

namespace Sys2Proof.Machine

/-! ### Dispatch halted -/

/-- Dispatch of every job halts, or may go on again (cause HALT of R261). -/
def haltAll (s : State) (b : Bool) : State := (s.setHalt b).each jobNums refreshWait

/-- A module fault (R284, R324, R366, R389): dispatch halts, the plant interfaces are cleared with their cause, the markers are flushed. -/
def moduleFault (s : State) (cause : Nat) : State := markFlushAll (plantModuleClear (haltAll s true) cause)

/-- Complete batches of `jobs` that will never be dispatched: their lines are reported with cause HALT, in one record for the jobs that number
them alike (R261, R262). -/
def dropUndispatched (s : State) (jobs : List Nat) : State :=
  let gone := s.batches.filter fun b => jobs.contains b.job && !b.started
  let s := s.setBatches (s.batches.filter fun b => !(jobs.contains b.job && !b.started))
  let same (a b : Batch) : Bool := a.stream == b.stream && a.k == b.k && a.lines.map Line.abs == b.lines.map Line.abs
  let heads := gone.filter fun b => (gone.find? (same b)) == some b
  s.each heads fun s b =>
    let a := (b.lines.head?.map Line.stamp).getD s.stampNow
    let z := (b.lines.getLast?.map Line.stamp).getD s.stampNow
    emitDrop (countDrops s b.stream (b.lines.map Line.abs))
      ⟨b.stream, 9, maskOf ((gone.filter (same b)).map Batch.job), 64 * b.k, b.lines.length, a, z, s.now⟩

/-- Every job's streams are unbound because of a fault of the module: what was being collected and what was complete is reported, in one record for the
jobs that number the lines alike (R262). -/
def dropLines (s : State) (jobs : List Nat) : State :=
  let s := s.each streamNums fun s st => reportCollected s st 8 (jobs.filter fun j => (s.bind j st).bound)
  dropUndispatched s jobs

/-- What job `j` has in flight is discarded without missing records (R366, R389, R390): tokens, sums, tags and batches; with `all`, the
results held by the seating plan too. Packets that already wait for a transmit port are sent (DESIGN CHOICE, log 45). -/
def discardJob (s : State) (j : Nat) (all : Bool) : State :=
  let s := dropUndispatched s [j]
  let s := s.setFabric (s.fabric.filter fun h => h.tok.job != j)
  let s := s.setBatches (s.batches.filter fun b => b.job != j)
  let s := showTags (s.setTagsHeld (s.tagsHeld.filter fun e => e.2 != j)) j
  let s := (s.setArrived (s.arrived.filter fun r => r.job != j)).setMisses (s.misses.filter fun r => r.job != j)
  let s := if all then s.each (List.range 8) fun s p => s.putOut (outOf j p) { s.out (outOf j p) with held := [] } else s
  let s := strikeTiles (meshDropJob (dropSlots s j) j) j
  retire (clearRecur s j) j

/-- A command of code `code` that runs for job `j` is answered. -/
def answerJob (s : State) (code j : Nat) (st : Status) : State :=
  match s.runningWith code j with
  | some m => s.respond m st 0 []
  | none => s

/-- Job `j` passes to LOADED with empty state, as at JOB_STOP, because of a fault of the module (R366). -/
def loadedByFault (s : State) (j : Nat) : State :=
  if !(s.job j).started then s else
  let s := clearJob (discardJob (unbindAll s j) j true) j
  let s := s.putJob j { s.job j with
    restart := none, fenced := false, heldFor := 0, reduced := none, restartDue := [], holds := ⟨false, false, false, false⟩ }
  answerJob (enterLoaded s j) 0x0103 j .ok

/-- Job `j` is EMPTY because of a fault of the module (R324, R391): its staging ends with STAGE_FAIL, a loading is refused with MODE, and no
missing record is issued (DEDUCED, log 133). -/
def emptyByFault (s : State) (j : Nat) (all : Bool) : State :=
  let job := s.job j
  if !job.admitted && !job.loading then s else
  let s := if s.rd R.WSET_JOB_STAGE j = 1 || s.rd R.WSET_JOB_STAGE j = 2 then failStage s j else s
  if job.loading then failLoad s j .mode else
  let s := discardJob (unbindAll s j) j all
  let s := s.each (List.range 8) fun s p => seatFlush s (outOf j p)
  let s := if job.started then aoutJobLeaves s j else s
  let s := (emptyJob s j).wr R.JOB_PAGES_SRAM j 0
  answerJob (answerJob (s.wr R.JOB_PAGES_STAGE j 0) 0x0103 j .ok) 0x0105 j .mode

/-! ### Write–verify abandoned -/

/-- The tiles being written are marked due in their occupancy records, and wait to be written again (R389, R391). -/
def abandonWrites (s : State) : State :=
  let ts := (s.writes.filter fun w => w.st == 1).flatMap fun w => span w.tile w.pair
  (s.each ts fun s t => s.putOcc t { s.occOf t with due := true }).setWrites
    (s.writes.map fun w => if w.st == 1 then { w with st := 0 } else w)

/-- Tile `t` is due by its occupancy record (R250, R391): it is entered for homework, to be rewritten in place (DEDUCED, log 49). -/
def restoreDue (s : State) (t : Nat) : State :=
  let pair := ((s.findShard (s.occOf t).digest).map fun src => mfKind (s.slot src.1).manifest src.2 == 1).getD false
  let b := if pair then t - t % 2 else t
  if s.svc b = svcFree then
    let s := s.each (span b pair) fun s u => s.wr R.TCAL_STAT_WHY u whyDigest
    (setSvc s b pair svcDue).setHomework (s.homework ++ [⟨b, pair, whyDigest, 0, none, 0, 0, [], false, [], 0⟩])
  else s

/-- The occupancy records of half `h` give its tiles the values marked "boot" (R86, R223, R230), and the tiles they mark due fall due. -/
def loadOcc (s : State) (h : Nat) : State :=
  let mine := s.occ.filter fun e => halfOfTile e.1 == h
  let s := s.each mine fun s e =>
    ((s.wr R.PGM_CNT_COUNT e.1 e.2.pgm).wr R.TCAL_PROG_PROG_REF e.1 e.2.progRef).wr R.TCAL_PROG_PROG_ERR e.1 e.2.progErr
  s.each (mine.filter fun e => e.2.due) fun s e => restoreDue s e.1

/-- Calibration, homework and write–verify are given up, and a JOB_LOAD that waits for the first sweep is refused with MODE (R391). -/
def clearWork (s : State) : State :=
  let s := abandonWrites s
  let ts := (s.homework.flatMap fun h => span h.tile h.pair ++ (h.copy.map fun c => span c h.pair).getD []) ++
    s.writes.flatMap fun w => span w.tile w.pair
  let s := s.each (ts.filter fun t => s.svc t != svcWithdrawn) fun s t => (stopMeasuring s t).wr R.TCAL_STAT_SVC t svcFree
  let s := showHwNow ((s.setWrites []).setHomework [])
  let s := s.each (List.range 8) fun s q =>
    let c := s.quad q
    let s := s.each (c.round ++ c.unswapped ++ c.readback) stopMeasuring
    (s.putQuad q QuadCal.reset).setWord (R.QCAL_STAT.key q 0) 0
  let s := (s.setFirstForm 0).setWord (R.CAL_STAT.key 0 0) 0
  match s.loadWait with
  | some (m, _) => (s.setLoadWait none).respond m .mode 0 []
  | none => s

/-- Every job is EMPTY because of a fault of the module, and firmware's work on tiles is given up (R324, R391). -/
def emptyAll (s : State) (all : Bool) : State :=
  let s := dropLines s (jobNums.filter fun j => (s.job j).admitted || (s.job j).loading)
  clearWork (s.each jobNums fun s j => emptyByFault s j all)

/-! ### Switching off and on -/

/-- The half a place of the fabric lies in; none at the hub. -/
def Place.halfOf : Place → Option Nat
  | .hubLink h => some h
  | .entry c _ => some (halfOfClu c)
  | .router c _ _ => some (halfOfClu c)
  | .bridge b => some (b / 8)
  | .arrived c _ => some (halfOfClu c)
  | .unit c _ => some (halfOfClu c)
  | .hub => none

/-- The bit of PWR_STAT that shows half `h` switched on. -/
def halfOnFld (h : Nat) : Fld := if h = 0 then R.PWR_STAT_WEST_ON else R.PWR_STAT_EAST_ON

/-- The bit of PWR_STAT that shows the supply of half `h` failed. -/
def halfFailFld (h : Nat) : Fld := if h = 0 then R.PWR_STAT_WEST_FAIL else R.PWR_STAT_EAST_FAIL

/-- The supply of half `h` has failed (R380). -/
def State.supplyFailed (s : State) (h : Nat) : Bool := s.on (halfFailFld h) 0

/-- The rings, lanes and monitors of chiplet `k` lose their settings with its power. -/
def ringsOff (s : State) (k : Nat) : State :=
  let s := (s.setRings (s.rings.filter fun e => e.1 / 2048 != k)).setLanes (s.lanes.filter fun e => e.1 / 32 != k)
  let s := (s.setMons (s.mons.filter fun e => e.1 / 128 != k)).setFeedFwd (s.feedFwd.filter fun e => e.1 != k)
  s.setWord (R.RING_STAT.key k 0) 0

/-- Chiplet `k` is switched off: its tables and rings are lost. A chiplet that has failed stays so (R150); `out` says that it is not to
come back. -/
def chipOff (s : State) (k : Nat) (out : Bool) : State :=
  let failed := (s.chip k).failed || out
  let s := ringsOff (s.putChip k { Chip.reset with failed := failed, cause := if out then .supply else .none }) k
  let s := s.setMeshTbl (s.meshTbl.filter fun e => e.1 / 131072 != k)
  ((setMesh s k (if failed then msOut else msUnused)).wr R.MESH_STAT_BANK k 0).wr R.MESH_STAT_LIGHT_OK k 0

/-- Half `h` is switched off with its chiplets (R380, R389, R390): its registers, tables, SRAM and tokens are lost; what is programmed into its
tiles and their withdrawal remain (R56, R212). -/
def switchOffHalf (s : State) (h : Nat) (out : Bool) : State :=
  if !s.halfOn h then s else
  let gone := (tilesOfHalf h false).filter fun t => s.svc t == svcWithdrawn
  let whys := gone.map fun t => (t, s.rd R.TCAL_STAT_WHY t)
  let own (key : Nat) : Bool := key / halfStep == h + 1
  let s := (s.setRegs (s.regs.filter fun e => !own e.1)).setInForce (s.inForce.filter fun e => !own e.1)
  let s := (s.setWb (s.wb.filter fun e => !own e.1)).setShadow (s.shadow.filter fun e => !own e.1)
  let s := s.each whys fun s e => (s.wr R.TCAL_STAT_SVC e.1 svcWithdrawn).wr R.TCAL_STAT_WHY e.1 e.2
  let s := s.setTiles (s.tiles.filter fun e => halfOfTile e.1 != h)
  let s := s.setTcal (s.tcal.filter fun e => halfOfTile (e.1 / 1024) != h)
  let s := s.setSram (s.sram.filter fun e => halfOfClu (e.1 / 65536 / 12) != h)
  let s := s.setFabric (s.fabric.filter fun x => x.place.halfOf != some h)
  let s := s.setSlots (s.slots.filter fun x => halfOfClu x.clu != h)
  let s := s.setDirs (s.dirs.filter fun e => if e.1 < 16 then e.1 / 8 != h else e.1 % 8 / 4 != h)
  let s := s.each [2 * h, 2 * h + 1] fun s k => chipOff s k out
  let s := s.putHalf h { Half.reset with failed := (s.half h).failed, sbLostAt := some s.now, linkLostAt := some s.now }
  linkWatch (showSelfRule ((s.wr (sidebandFld h) 0 0).wr (halfOnFld h) 0 0))

/-- Both halves are switched on, but for one whose supply has failed (R380, R381, R391). -/
def switchOn (s : State) : State :=
  s.each [0, 1] fun s h =>
    if s.supplyFailed h || s.halfOn h then s
    else linkWatch (loadOcc ((s.wr (halfOnFld h) 0 1).putHalf h { Half.reset with failed := (s.half h).failed }) h)

/-! ### What stands without power -/

/-- The module in reset with its power restored: what keeps its contents without power stands, everything else is at reset (R56, R229, R230, R344,
R347, R396, R397). The commands that wait, and the count of free values drawn, are the model's own. -/
def freshState (s : State) : State :=
  let z := (((State.reset.setPending s.pending).setFreeIx s.freeIx).setCells s.cells).setOcc s.occ
  ((z.setStore s.store).setFw s.fw).setNvShadow s.nvShadow

end Sys2Proof.Machine
end

