-- ==== Sys2Proof/Machine/NvStore.lean ====
section
/-! DEFINITION. Machine/NvStore.lean: the non-volatile store (R396 to R410): records and their CRC, stores on command and at power fail, the
programme of power-up, protection and counters. -/

namespace Sys2Proof.Machine

/-! ### The CRC -/

/-- One bit of the reflected CRC-32 of IEEE 802.3 (R398). -/
def crcBit (c : Nat) : Nat := if c % 2 = 1 then c / 2 ^^^ 0xEDB88320 else c / 2

/-- One byte of the CRC. -/
def crcByte (c : Nat) (b : Byte) : Nat := crcBit (crcBit (crcBit (crcBit (crcBit (crcBit (crcBit (crcBit (c ^^^ b.toNat))))))))

/-- The CRC-32 of a list of bytes (R398). -/
def crc32 (bs : List Byte) : Nat := bs.foldl crcByte 0xFFFFFFFF ^^^ 0xFFFFFFFF

/-! ### The shadow array -/

/-- The key of a byte of the shadow array: area and index of R410, offset in the record. -/
def nvKey (area ix off : Nat) : Nat := 2097152 * area + 8192 * ix + off

/-- The shadow array as shipped: LEVEL 0 and every cell valid with VALUE 0, all else zero (R405; DESIGN CHOICE, log 47). -/
def nvShipped (key : Nat) : Byte :=
  match key / 2097152 with
  | 2 => if 4 ≤ key % 32 ∧ key % 32 < 8 then 0xFF else 0
  | 3 => if key % 2097152 = 1 then 0xFF else 0
  | _ => 0

/-- `n` bytes of a record of the shadow array. -/
def State.nvBytes (s : State) (area ix off n : Nat) : List Byte := spGetList nvShipped s.nvShadow (nvKey area ix off) 1 n

/-- Writes bytes into a record of the shadow array. -/
def putNv (s : State) (area ix off : Nat) (bs : List Byte) : State :=
  s.setNvShadow (spSetList nvShipped s.nvShadow (nvKey area ix off) 1 bs)

/-- Bytes of a record of an area and index; an index beyond its area has none (R410). -/
def nvSize (area ix : Nat) : Nat :=
  match area with
  | 0 | 1 => if ix < 64 then 4128 else if ix = 64 then 32 else 0
  | 2 => if ix < 32 then 2048 else 0
  | _ => if ix < 2 then 32 else 0

/-- Something is written in a record of a bank: a record of zeros has no valid CRC. -/
def State.nvListed (s : State) (bank ix : Nat) : Bool :=
  s.nvShadow.any fun e => e.1 / 8192 == (nvKey bank ix 0) / 8192

/-- The sequence number of page record `p` of a bank, when it is valid (R398). -/
def State.pageSeq (s : State) (bank p : Nat) : Option Nat :=
  if !s.nvListed bank p then none else
  let b := s.nvBytes bank p 0 4128
  if leAt b 0x101C 4 = crc32 (b.take 0x101C) then some (leAt b 0x1000 4) else none

/-- The sequence number of the commit record of a bank, when it is valid (R398). -/
def State.commitSeq (s : State) (bank : Nat) : Option Nat :=
  if !s.nvListed bank 64 then none else
  let b := s.nvBytes bank 64 0 32
  if leAt b 0x1C 4 = crc32 (b.take 0x1C) then some (leAt b 4 4) else none

/-- All 64 page records of a bank are valid with one sequence number (R402). -/
def State.pagesSeq (s : State) (bank : Nat) : Option Nat :=
  match s.pageSeq bank 0 with
  | none => none
  | some n => if (List.range 64).all fun p => s.pageSeq bank p == some n then some n else none

/-- The sequence number of the complete image of a bank (R398). -/
def State.imageSeq (s : State) (bank : Nat) : Option Nat :=
  match s.commitSeq bank with
  | none => none
  | some n => if s.pagesSeq bank == some n then some n else none

/-- Sequence number `a` is newer than `b` (R398). -/
def newerSeq (a b : Nat) : Bool := decide (0 < toSigned 32 (a + 4294967296 - b % 4294967296))

/-- The bytes of a page record of page `p` as the array stands (R398). -/
def State.pageRecord (s : State) (p seq : Nat) : List Byte :=
  let b := spGetList (fun _ => 0) s.nvArr (4096 * p) 1 4096 ++ leBytes 4 seq ++ leBytes 2 p ++ List.replicate 22 0
  b ++ leBytes 4 (crc32 b)

/-- The bytes of a commit record (R398). -/
def commitRecord (seq : Nat) : List Byte :=
  let b := [0x4B, 0x54, 0x4E, 0x56] ++ leBytes 4 seq ++ leBytes 2 64 ++ List.replicate 18 0
  b ++ leBytes 4 (crc32 b)

/-! ### A store in progress -/

/-- Time runs half as fast for the store while the HUB loop coasts (R399). -/
def State.nvElapsed (s : State) (r : NvRun) : Nat := (s.now - r.at_) / (if s.loopLocked 0 then 1 else 2)

/-- The commit record of the store is complete: 64 pages of 1.3 µs and 129 lines of 1.0 µs, and its own line (R397, R399). -/
def State.nvWhole (s : State) (r : NvRun) : Bool := decide (39090 * 64 + 300 ≤ s.nvElapsed r)

/-- Lines of the page being written that are complete `t` after the start of the store: a copy of 1.3 µs, then 1.0 µs per line (R397, R399). -/
def linesBy (t p : Nat) : Nat := min 129 ((t - 39090 * p - 390) / 300)

/-- The store writes its lines up to `n` of the page in progress. -/
def writeLines (s : State) (r : NvRun) (n : Nat) : State :=
  if n ≤ r.lines then s
  else (putNv s r.bank r.page (32 * r.lines) ((r.rcd.drop (32 * r.lines)).take (32 * (n - r.lines)))).setNvRun (some { r with lines := n })

/-- The store runs on until `t` after its start (R399): pages in ascending order, each copied when it begins. -/
def nvPages (s : State) (t : Nat) : Nat → State
  | 0 => s
  | fuel + 1 =>
    match s.nvRun with
    | none => s
    | some r =>
      let s := writeLines s r (linesBy t r.page)
      match s.nvRun with
      | none => s
      | some r =>
        if r.lines = 129 ∧ r.page < 63 then
          nvPages (s.setNvRun (some { r with page := r.page + 1, rcd := s.pageRecord (r.page + 1) r.seq, lines := 0 })) t fuel
        else s

/-- The running store is brought to this instant. -/
def nvAdvance (s : State) : State :=
  match s.nvRun with
  | none => s
  | some r => nvPages s (s.nvElapsed r) 64

/-- The running store goes on at the rate of the HUB loop's new state from here (R408); `f` is the change of that state
(DEDUCED, log 131). -/
def nvRescale (s : State) (f : State → State) : State :=
  let s := nvAdvance s
  match s.nvRun with
  | none => f s
  | some r =>
    let e := s.nvElapsed r
    let s := f s
    s.setNvRun (some { r with at_ := s.now - e * (if s.loopLocked 0 then 1 else 2) })

/-- A store begins (R399): one sequence number on, into the bank without the newest complete image. -/
def startStore (s : State) (mbx : Option Nat) : State :=
  let empty := s.on R.NV_STAT_EMPTY 0
  let seq := if empty then 1 else (s.rd R.NV_SEQ_SEQ 0 + 1) % 4294967296
  let bank := if empty then 0 else 1 - s.rd R.NV_STAT_BANK 0
  (s.wr R.NV_STAT_BUSY 0 1).setNvRun (some ⟨bank, seq, mbx, s.now, 0, s.pageRecord 0 seq, 0⟩)

/-! ### Power fail -/

/-- The outcome of a power fail is written into the log line (R400, R410) (DEDUCED, log 129). -/
def writeLog (s : State) (outcome seq : Nat) : State :=
  let b := leBytes 1 outcome ++ List.replicate 3 0 ++ leBytes 4 seq ++ leBytes 8 s.pwr.confTime.toNat ++ List.replicate 12 0
  putNv s 3 1 0 (b ++ leBytes 4 (crc32 b))

/-- The store at power fail begins, or only its outcome is written (R400, R401). -/
def powerFailStore (s : State) : State :=
  if s.rd R.NV_CFG_PF_STORE 0 = 0 then writeLog s 3 0
  else if s.rd R.HOLDUP_ENERGY 0 < (if s.loopLocked 0 then 250 else 460) then writeLog s 2 0
  else startStore s none

/-- The hub's rails are switched off and the module holds itself in reset (R378) (DESIGN CHOICE, log 134). -/
def powerOff (s : State) : State := (freshState s).setPwr { Pwr.reset with off := true }

/-- The store that runs has written its commit record (R399, R400). -/
def storeDone (s : State) (r : NvRun) : State :=
  let s := putNv (nvPages s (39090 * 64) 64) r.bank 64 0 (commitRecord r.seq)
  let s := ((s.setNvRun none).wr R.NV_STAT_BUSY 0 0).wr R.NV_STAT_BANK 0 r.bank
  let s := ((s.wr R.NV_STAT_EMPTY 0 0).wr R.NV_SEQ_SEQ 0 r.seq).bump R.NV_STORE_CNT_COUNT 0
  let s := s.raise R.NV_EVT_STORED 0
  match r.mbx with
  | some m => s.respond m .ok 0 (leBytes 4 r.seq)
  | none => s

/-- A store ends (R399, R400): after a confirmed power fail the power-fail store follows a commanded one, and once nothing is left to store the
hub is switched off. -/
def execNvStoreEnd (s : State) : Out :=
  .next (
    match s.nvRun with
    | some r =>
      if !s.nvWhole r then s else
      let s := storeDone s r
      if !s.pwr.confirmed then s
      else if r.mbx.isSome then powerFailStore s
      else powerOff (writeLog s 1 r.seq)
    | none => if s.pwr.confirmed then powerOff s else s)

/-! ### Commands -/

/-- An operation is refused for want of energy (R401). -/
def nvRefuse (s : State) (m : Nat) : State := (s.raise R.NV_EVT_REFUSED 0).respond m .nvEnergy 0 []

/-- NV_STORE (R400, R401, R316). -/
def execNvStore (m : Fin 16) (s : State) : Out :=
  .next (s.peade m.val 0x0701 true true true 0 fun s =>
    if s.pwr.confirmed || decide (s.rd R.HOLDUP_ENERGY 0 < (if s.loopLocked 0 then 330 else 540)) then nvRefuse s m.val
    else startStore s (some m.val))

/-- The cells of counter `k` (R406). -/
def State.counterCells (s : State) (k : Nat) : List (List Byte) := (List.range 64).map fun c => s.nvBytes 2 k (32 * c) 32

/-- A cell's complement matches (R406). -/
def cellOk (b : List Byte) : Bool := leAt b 0 4 + leAt b 4 4 == 0xFFFFFFFF

/-- Reads counter `k` (R406): the largest value among its valid cells; an invalid cell sets CELL_BAD. -/
def readCounter (s : State) (k : Nat) : State × Nat :=
  let cs := s.counterCells k
  let v := ((cs.filter cellOk).map fun b => leAt b 0 4).foldl max 0
  let s := s.wr R.NV_CNT_VALUE k v
  (if cs.all cellOk then s else s.raise R.NV_EVT_CELL_BAD 0, v)

/-- Increments counter `k` from `v` in one line write (R406); the shadow array takes it between two lines of a running store. -/
def bumpCounter (s : State) (k v : Nat) : State × Nat :=
  if v = 0xFFFFFFFF then (s, v)
  else
    let s := nvAdvance s
    let n := v + 1
    let s := putNv s 2 k (32 * (n % 64)) (leBytes 4 n ++ leBytes 4 (0xFFFFFFFF - n) ++ List.replicate 24 0)
    let s := match s.nvRun with
      | some r => s.setNvRun (some { r with at_ := r.at_ + usec })
      | none => s
    (s.wr R.NV_CNT_VALUE k n, n)

/-- NV_COUNT (R406, R401, R316). -/
def execNvCount (m : Fin 16) (s : State) : Out :=
  .next (s.peade m.val 0x0702 true true true 0 fun s =>
    let k := s.req m.val 8 1
    if s.req m.val 9 1 = 1 then
      if s.pwr.confirmed || decide (s.rd R.HOLDUP_ENERGY 0 < 20) then nvRefuse s m.val
      else
        let r := readCounter s k
        let w := bumpCounter r.1 k r.2
        w.1.respond m.val .ok 0 (leBytes 4 w.2)
    else
      let r := readCounter s k
      r.1.respond m.val .ok 0 (leBytes 4 r.2))

/-- NV_PROTECT (R405, R316). -/
def execNvProtect (m : Fin 16) (s : State) : Out :=
  .next (s.peade m.val 0x0703 true true true 0 fun s =>
    let v := s.req m.val 8 1
    let s := putNv s 3 0 0 (leBytes 1 v ++ leBytes 1 (255 - v) ++ List.replicate 30 0)
    (s.wr R.NV_STAT_LEVEL 0 v).respond m.val .ok 0 [])

/-! ### Access -/

/-- The word at byte offset `off` of the array lies in the part protected (R405). -/
def State.nvProtected (s : State) (off : Nat) : Bool :=
  match s.rd R.NV_STAT_LEVEL 0 with
  | 0 => false
  | 1 => decide (0x30000 ≤ off)
  | 2 => decide (0x20000 ≤ off)
  | _ => true

/-- A word of the array (R396). -/
def State.nvWord (s : State) (off : Nat) : Word := BitVec.ofNat 32 (leNat (spGetList (fun _ => 0) s.nvArr off 1 4))

/-- A host write of an array word (R396, R405): at once, or ignored with PROT_WR. -/
def nvWrite (s : State) (off : Nat) (v : Word) : State :=
  if s.nvProtected off then s.raise R.NV_EVT_PROT_WR 0
  else
    let s := nvAdvance s
    s.setNvArr (spSetList (fun _ => 0) s.nvArr off 1 (leBytes 4 v.toNat))

/-- The word of the raw window (R410): zero beyond its record. -/
def State.nvRawWord (s : State) (area ix off : Nat) : Word :=
  if off + 4 ≤ nvSize area ix then BitVec.ofNat 32 (leNat (s.nvBytes area ix off 4)) else 0

/-! ### Power-up -/

/-- The programme of R402 for one bank: pages of one sequence newer than every image found complete it. -/
def nvComplete (c : State × List (Nat × Nat × Bool)) (bank : Nat) : State × List (Nat × Nat × Bool) :=
  match c.1.pagesSeq bank with
  | none => c
  | some n =>
    if c.1.commitSeq bank != some n && c.2.all fun e => newerSeq n e.2.1 then
      (putNv c.1 bank 64 0 (commitRecord n), c.2 ++ [(bank, n, true)])
    else c

/-- The array filled from a bank's page records (R402). -/
def State.bankImage (s : State) (bank : Nat) : Sparse Byte :=
  s.nvShadow.foldl (fun m e =>
    let ix := e.1 % 2097152 / 8192
    let off := e.1 % 8192
    if e.1 / 2097152 = bank ∧ ix < 64 ∧ off < 4096 then spSet (fun _ => 0) m (4096 * ix + off) e.2 else m) []

/-- Recovery of the store at power-up (R402). -/
def nvRecover (s : State) : State :=
  let cand := [0, 1].filterMap fun b => (s.imageSeq b).map fun n => (b, n, false)
  let (s, cand) := [0, 1].foldl nvComplete (s, cand)
  let newest := cand.foldl (fun m e => match m with
    | none => some e
    | some x => if newerSeq e.2.1 x.2.1 then some e else some x) none
  let s := match newest with
    | none => ((s.setNvArr []).wr R.NV_STAT_EMPTY 0 1).wr R.NV_STAT_BOOT_OUT 0 3
    | some (b, n, done) =>
      let torn := [0, 1].any fun x => (List.range 64).any fun p => ((s.pageSeq x p).map fun q => newerSeq q n).getD false
      let s := ((s.setNvArr (s.bankImage b)).wr R.NV_STAT_BANK 0 b).wr R.NV_SEQ_SEQ 0 n
      s.wr R.NV_STAT_BOOT_OUT 0 (if done then 1 else if torn then 2 else 0)
  let s := s.wr R.NV_STAT_LEVEL 0 (leNat (s.nvBytes 3 0 0 1))
  let log_ := s.nvBytes 3 1 0 32
  let s := if leAt log_ 0x1C 4 = crc32 (log_.take 0x1C) then s.wr R.NV_STAT_PF_LAST 0 (leAt log_ 0 1) else s
  s.each (List.range 32) fun s k => (readCounter s k).1

end Sys2Proof.Machine
end

