-- ==== Sys2Proof/Machine/Clocks.lean ====
section
/-! DEFINITION. Machine/Clocks.lean: oscillators, the referee, the clock multiplexers and the multiplying loops (R359 to R369, R371). -/

namespace Sys2Proof.Machine

/-- Replaces the clocks. -/
def State.putClk (s : State) (v : Clk) : State := s.setClk v

/-- RC_READY. -/
def State.rcReady (s : State) : Bool := s.on R.CLK_STAT_RC_READY 0

/-- XTAL_ACTIVE. -/
def State.xtalActive (s : State) : Bool := s.on R.CLK_STAT_XTAL_ACTIVE 0

/-- XTAL_GOOD. -/
def State.xtalGood (s : State) : Bool := s.on R.CLK_STAT_XTAL_GOOD 0

/-- RC/4 is the reference in use (REF). -/
def State.onRc (s : State) : Bool := s.on R.CLK_STAT_REF 0

/-! ### Loops -/

/-- CLK_OK of every chiplet follows the lock of the OPT loop (R362, R148). -/
def showOpt (s : State) (ok : Bool) : State :=
  let s := s.each chipNums fun s k => s.wrB R.MESH_STAT_CLK_OK k ok
  s.putClk (if ok then { s.clk with optOkAt := some s.now, optLostAt := none } else { s.clk with optLostAt := some s.now, optOkAt := none })

/-- Sets or clears LOCKED of loop `l`; COAST is set while any loop coasts (R361). -/
def setLock (s : State) (l : Nat) (b : Bool) : State :=
  let w := s.rd R.CLK_STAT_LOCKED 0
  let w := if s.loopLocked l == b then w else if b then w + 2 ^ l else w - 2 ^ l
  (s.wr R.CLK_STAT_LOCKED 0 w).wrB R.CLK_STAT_COAST 0 (w != 255)

/-- Loop `l` coasts (R361, R362, R368). -/
def loopCoasts (s : State) (l : Nat) : State :=
  if !s.loopLocked l then s
  else if l = 0 then nvRescale s fun s => setLock s 0 false
  else if l = 2 then showOpt (setLock s 2 false) false
  else setLock s l false

/-- Every loop coasts: its reference has stopped (R364; for RC/4, DEDUCED, log 48). -/
def allCoast (s : State) : State := (s.each (List.range 8) loopCoasts).putClk { s.clk with fed := false, tripAt := some s.now }

/-- Loop `l` locks (R361, R363, R368): the timebase starts at its first lock, the plant filters restart, a transmit port sends a skew
calibration sequence. -/
def loopLocks (s : State) (l : Nat) : State :=
  if s.loopLocked l || !s.clk.fed then s
  else if l = 0 then nvRescale s fun s => setLock s 0 true
  else
    let s := setLock s l true
    if l = 1 then startTimebase s
    else if l = 2 then showOpt s true
    else if l = 3 then plantRelock s
    else if s.txClock (l - 4) && s.txResults (l - 4) then sendSkew s (l - 4)
    else s

/-- A loop achieves lock (R361). -/
def execLoopLocked (l : Fin 8) (s : State) : Out := .next (loopLocks s l.val)

/-- A loop loses lock while its reference is sound (R362). -/
def execLockLoss (l : Fin 8) (s : State) : Out :=
  .next (if s.loopLocked l.val && s.clk.fed then (loopCoasts s l.val).raise R.CLK_EVT_LOCK_LOSS 0 else s)

/-! ### Switches of the reference -/

/-- The reference multiplexer begins to switch (R365). -/
def beginSwitch (s : State) (goal : RefSwitch) : State := (s.putClk { s.clk with mux := goal, muxAt := s.now }).wr R.CLK_STAT_SWITCHING 0 1

/-- The reference multiplexer is at rest. -/
def endSwitch (s : State) : State := (s.putClk { s.clk with mux := .none }).wr R.CLK_STAT_SWITCHING 0 0

/-- A switch of the reference has completed (R365): the loops have a reference again. -/
def switched (s : State) (rc forced : Bool) : State :=
  let s := ((endSwitch s).wrB R.CLK_STAT_REF 0 rc).bump R.CLK_SW_CNT_SWITCHES 0
  let s := if forced then (s.bump R.CLK_SW_CNT_FORCED 0).raise R.CLK_EVT_FORCED 0 else s
  s.putClk { s.clk with fed := true, tripAt := none }

/-- The reference multiplexer can end its switch (R365): at once between two running clocks, after 32 cycles of 40 ns when one of them has
stopped (DEDUCED, log 189). -/
def State.muxReady (s : State) : Bool := s.xtalActive && s.rcReady || s.passed s.clk.muxAt 384

/-- The reference multiplexer reaches the end of its switch (R365, R366, R369): complete, forced when the old clock has stopped, or abandoned when
the new one has. -/
def refSwitchDone (s : State) : State :=
  if !s.muxReady then s else
  match s.clk.mux with
  | .none => s
  | .toRc =>
    if s.rcReady then switched s true (!s.xtalActive)
    else (endSwitch s).raise R.CLK_EVT_DEFERRED 0
  | .toCrystal =>
    if s.xtalActive then (switched s false (!s.rcReady)).raise R.CLK_EVT_RETURNED 0
    else (endSwitch s).raise R.CLK_EVT_RETURN_FAIL 0

/-- A source of CLK_OBS runs (R371): none drives the pad for SRC 11 to 15 (DEDUCED, log 128). -/
def State.obsRuns (s : State) (src : Nat) : Bool :=
  match src with
  | 0 => s.xtalActive
  | 1 => s.rcReady
  | 10 => s.clk.fed
  | _ => true

/-- The prescaler of a source of CLK_OBS (R371). -/
def obsPrescaler (src : Nat) : Nat := if src = 2 then 8 else if src = 4 || decide (6 ≤ src) && decide (src ≤ 9) then 16 else 1

/-- What the CLK_OBS pad carries (R371): the source in force and by what its frequency is divided; none while the pad is low. -/
def State.obsPad (s : State) : Option (Nat × Nat) :=
  let src := s.frc R.CLK_OBS_CFG_SRC 0
  if s.on R.CLK_EN_OBS 0 && decide (src ≤ 10) && s.obsRuns src then
    some (src, obsPrescaler src * (s.frc R.CLK_OBS_CFG_DIV 0 + 1)) else none

/-- The CLK_OBS multiplexer reaches the end of its switch (R365, R371): CLK_OBS_CFG is in force, unless the new source has stopped. -/
def obsSwitchDone (s : State) : State :=
  if !s.clk.obs then s else
  let old := s.obsRuns (s.frc R.CLK_OBS_CFG_SRC 0)
  let s := s.putClk { s.clk with obs := false }
  if !s.obsRuns (s.rd R.CLK_OBS_CFG_SRC 0) then s
  else
    let s := s.apply (R.CLK_OBS_CFG.key 0 0)
    if old then s else (s.bump R.CLK_SW_CNT_FORCED 0).raise R.CLK_EVT_FORCED 0

/-- A clock multiplexer ends its switch (R365): of CLK_OBS, or of the reference. -/
def execMuxSwitchDone (obs : Bool) (s : State) : Out := .next (if obs then obsSwitchDone s else refSwitchDone s)

/-- The reference returns to the crystal (R367): ignored unless RC/4 is the reference and the crystal is judged good. -/
def startReturn (s : State) : State :=
  if s.xtalGood && s.onRc && decide (s.clk.mux = RefSwitch.none) then beginSwitch s .toCrystal else s

/-- A write of 1 to RETURN of CLK_CFG (R367). -/
def execClkCfgReturn (s : State) : Out := .next (startReturn s)

/-! ### The crystal -/

/-- The crystal stops (R360, R364, R369). As the reference in use it trips the referee: every loop coasts, and the reference is switched to RC/4 if that
is ready. -/
def crystalStop (s : State) : State :=
  if !s.xtalActive then s else
  let s := (s.wr R.CLK_STAT_XTAL_ACTIVE 0 0).wr R.CLK_STAT_XTAL_GOOD 0 0
  let s := s.putClk { s.clk with good := 0, bad := 0 }
  if s.onRc || !s.clk.fed then s
  else
    let s := ((allCoast s).raise R.CLK_EVT_REF_TRIP 0).raise R.SYS_EVT_CLK_SWITCH 0
    if s.rcReady then beginSwitch s .toRc else s.raise R.CLK_EVT_DEFERRED 0

/-- No crystal edge arrives within 16 RC cycles (R360). -/
def execCrystalStop (s : State) : Out := .next (crystalStop s)

/-- A ratio window ends with `count` RC cycles (R360, R363, R367): 10 windows in a row within ±500 ppm of 10,000 judge the crystal good; the second in a row
outside while the crystal is the reference sets RATIO_ERR. Judged good at start-up, the crystal feeds the loops; with AUTO_RETURN the
reference returns to it. -/
def ratioWindow (s : State) (count : Nat) : State :=
  if !s.rcReady then s else
  let d : Int := (count : Int) - 10000
  let ok := decide (d.natAbs ≤ 5)
  let c := s.clk
  let good := if ok then c.good + 1 else 0
  let bad := if ok then 0 else c.bad + 1
  let devs := (d :: c.devs).take 10
  let s := (s.wr R.CLK_STAT_XTAL_ACTIVE 0 1).putClk { c with good := good, bad := bad, devs := devs }
  let s := if devs.length = 10 then s.wrInt R.CLK_RATIO_DEV 0 (clampInt (-32768) 32767 (10 * devs.sum)) else s
  if !ok then
    let s := s.wr R.CLK_STAT_XTAL_GOOD 0 0
    if decide (2 ≤ bad) && !s.onRc && c.fed then s.raise R.CLK_EVT_RATIO_ERR 0 else s
  else if good < 10 then s
  else
    let s := s.wr R.CLK_STAT_XTAL_GOOD 0 1
    let s := if !c.judged then s.putClk { s.clk with judged := true, fed := true } else s
    if s.on R.CLK_CFG_AUTO_RETURN 0 then startReturn s else s

/-- A window of 2,500 crystal cycles ends (R360) (DEDUCED, log 127). -/
def execRatioWindow (count : Nat) (s : State) : Out := .next (ratioWindow s count)

/-- The loops are to lock on RC/4 because the crystal was not judged good at start-up (R363). -/
def startOnRc (s : State) : State :=
  ((beginSwitch s .toRc).raise R.CLK_EVT_XTAL_FAIL 0).raise R.SYS_EVT_CLK_SWITCH 0

/-- 1.5 ms after the release of reset without a good crystal (R363): RC/4 is taken if it is ready. -/
def execStartDeadline (s : State) : Out :=
  .next (
    if s.clk.judged || decide (s.now < 1500 * usec) then s
    else
      let s := s.putClk { s.clk with judged := true }
      if s.rcReady then startOnRc s else s)

/-! ### The RC oscillator -/

/-- The RC oscillator stops (R360, R366): it is restarted; as the reference in use it leaves every loop coasting. -/
def execRcStop (s : State) : Out :=
  .next (
    if !s.rcReady then s
    else
      let s := ((s.wr R.CLK_STAT_RC_READY 0 0).raise R.CLK_EVT_RC_RESTART 0).putClk { s.clk with rcLostAt := some s.now }
      if s.onRc && s.clk.fed then allCoast s else s)

/-- No cause of a halt of dispatch holds any more: the module is ACTIVE, its clocks have a reference, its supervisors run. -/
def releaseHalt (s : State) : State :=
  if s.rd R.PWR_STAT_STATE 0 = 1 && !s.pwr.confirmed && !s.on R.CLK_STAT_FAULT 0 && s.boot.phase == 3 then haltAll s false else s

/-- The clock-fault state is left (R366): jobs that ran are LOADED with empty state. -/
def leaveFault (s : State) : State :=
  let s := (s.wr R.CLK_STAT_FAULT 0 0).raise R.CLK_EVT_FAULT_OUT 0
  let s := dropLines s (jobNums.filter fun j => (s.job j).started)
  releaseHalt (settleState (s.each jobNums loadedByFault) false)

/-- The RC oscillator is ready (R359, R366): a deferred switch is made, loops that wait for RC/4 may lock, the clock-fault state is left. -/
def rcReadyNow (s : State) : State :=
  if s.rcReady then s else
  let s := (s.wr R.CLK_STAT_RC_READY 0 1).putClk { s.clk with rcLostAt := none }
  let s := if s.on R.CLK_STAT_FAULT 0 then leaveFault s else s
  if s.clk.fed || decide (s.clk.mux ≠ RefSwitch.none) then s
  else if s.onRc then s.putClk { s.clk with fed := true, tripAt := none }
  else if s.clk.tripAt.isSome then beginSwitch s .toRc
  else if s.clk.judged then startOnRc s
  else s

/-- The RC oscillator becomes ready. -/
def execRcReady (s : State) : Out := .next (rcReadyNow s)

/-- The clock-fault state is entered (R366): the loops have had no reference, and RC/4 has not been ready, for 2 ms. -/
def execClockFaultEntry (s : State) : Out :=
  .next (
    let c := s.clk
    let from_ := c.tripAt.getD (c.rcLostAt.getD s.now)
    if s.on R.CLK_STAT_FAULT 0 || c.fed || s.rcReady || !s.passed from_ (2 * msec) then s
    else
      let s := (s.wr R.CLK_STAT_FAULT 0 1).raise R.CLK_EVT_FAULT_IN 0
      moduleFault (s.wr R.SYS_STAT_SYS_STATE 0 (if s.boot.at_.isSome then stRecovery else stStartUp)) 2)

end Sys2Proof.Machine
end

