-- ==== Sys2Proof/Machine/Boot.lean ====
section
/-! DEFINITION. Machine/Boot.lean: firmware images and banks, the boot after a reset, the protection set-up, the debug port, and the SEC_ commands
(R229, R230, R293, R294, R344 to R356). -/

namespace Sys2Proof.Machine

/-! ### Images -/

/-- IMG_LEN of a firmware image (R344). -/
def fwLen (b : List Byte) : Nat := leAt b 8 4

/-- What an image says of itself (R344, R345). -/
def fwImage (b : List Byte) : FwImage :=
  ⟨leAt b 0xC 4, leAt b 0x10 1, leAt b 0x11 1, leAt b 0x12 1, leAt b 0x14 2, leAt b 0x16 2, shake256 (b.take (fwLen b))⟩

/-- Check 1 of R345 on what an image says of itself. -/
def FwImage.fieldsOk (i : FwImage) : Bool := decide (i.svn ≤ 63 ∧ i.floor ≤ i.svn ∧ i.fenceLo ≤ i.fenceHi ∧ i.fenceHi ≤ 511)

/-- Check 1 of R345. -/
def fwFormatOk (b : List Byte) : Bool :=
  bytesAt b 0 4 == [0x4B, 0x54, 0x46, 0x57] && leAt b 4 2 == 1 && leAt b 6 2 == 64 && decide (0x741 ≤ fwLen b ∧ fwLen b ≤ 0x800000) &&
    leAt b 0x13 1 == 0 && leAt b 0x18 40 == 0 && (fwImage b).fieldsOk

/-- The checks of R345, in order: the first that fails, as SEC_FW_LOAD reports it. -/
def fwRefusal (b : List Byte) (svn : Nat) : Option (Status × Nat) :=
  let pub := bytesAt b 0x40 1793
  if !fwFormatOk b then some (.imageFormat, 0)
  else if shake256 pub != Config.keyHash then some (.sigFail, 1)
  else if leAt b 0x10 1 < svn then some (.sigFail, 2)
  else if !Config.falconVerifies pub (shake256 (b.take (fwLen b))) (bytesAt b (fwLen b) 1280) then some (.sigFail, 3)
  else none

/-- Replaces the boot record of the state. -/
def State.putBoot (s : State) (v : Boot) : State := s.setBoot v

/-- FW_DIGEST_i show the firmware digest of the active image (R345, R358). -/
def showDigest (s : State) (d : List Byte) : State :=
  s.each (List.range 16) fun s i => s.wr R.FW_DIGEST_DIGEST i (leAt d (4 * i) 4)

/-- Firmware image `i` of bank `b` is the one in service (R344, R345). -/
def inService (s : State) (i : FwImage) (b : Nat) : State :=
  let s := (s.wr R.SEC_STAT_BANK_ACT 0 b).wrB R.SEC_STAT_RECOVERY_IMG 0 (b == 2)
  let s := (s.wr R.FW_VER_ACT_VERSION 0 i.version).wr R.SUP_STAT_CKPT_FMT 0 i.ckpt
  showDigest (s.putBoot { s.boot with act := i }) i.digest

/-! ### Reset -/

/-- The bank checked after bank `b` (R346): the preferred one, the other, the recovery bank, none. -/
def nextBank (preferred b : Nat) : Option Nat := if b = preferred then some (1 - preferred) else if b = 2 then none else some 2

/-- The boot ROM's self-test has ended: SUP_A boots, or SUP_B in its place (R318, R346). The preferred bank is checked next. -/
def bootRom (s : State) (ok : Bool) : State :=
  let s := (s.wrB R.BOOT_INFO_BOOT_SUP 0 (!ok)).wrB R.SUP_STAT_ACTIVE 0 (!ok)
  s.putBoot { s.boot with phase := 1, bank := s.fw.preferred, failed := [] }

/-- The module is released from reset (R346): steps 1 to 4. Its input supplies stand; what a loss of power clears is cleared (R294, R309). -/
def releaseReset (s : State) (prevFail selfTestOk : Bool) : State :=
  let main := s.rd R.PWR_STAT_MAIN_OK 0
  let backup := s.rd R.PWR_STAT_BACKUP_OK 0
  let mainAt := s.pwr.mainAt
  let z := freshState s
  let z := ((z.wr R.PWR_STAT_MAIN_OK 0 main).wr R.PWR_STAT_BACKUP_OK 0 backup).wrB R.PWR_STAT_PREV_FAIL 0 prevFail
  let z := (z.wrB R.PWR_STAT_SRC 0 (main == 0 && backup != 0)).setPwr { z.pwr with mainAt := mainAt.map fun _ => 0 }
  let z := nvRecover (z.wr R.SYS_STAT_INSTANCE 0 Config.i3cPads)
  let z := ((z.wr R.SEC_FUSE_SVN 0 z.fw.svn).wr R.SEC_FUSE_DBG_PERM 0 1).wr R.SEC_FUSE_KEY_SET 0 1
  let z := (z.wr R.PROT_STAT_DBG_LOCKED 0 1).wr R.BOOT_INFO_PREFERRED 0 z.fw.preferred
  bootRom (z.wrB R.SEC_STAT_SIGNER_OK 0 Config.signerOk) selfTestOk

/-- Power-on reset is released (R346). PREV_FAIL is set by a power-up that follows a confirmed power fail (R379)
(DESIGN CHOICE, log 148). -/
def execPowerOnReset (selfTestOk : Bool) (s : State) : Out :=
  .next (releaseReset s (s.pwr.off || (s.boot.phase == 0 && s.on R.PWR_STAT_PREV_FAIL 0)) selfTestOk)

/-! ### Banks -/

/-- The image bank `b` boots (R345): that of the bytes written to it, or, for a bank still as shipped, the one `found` there; none when a check fails. The
security version is not checked on the recovery bank. -/
def State.bankBoots (s : State) (b : Nat) (found : Option FwImage) : Option FwImage :=
  let svn := if b = 2 then 0 else s.fw.svn
  match s.fw.banks.find? fun e => e.1 == b with
  | some e => if (fwRefusal e.2 svn).isNone then some (fwImage e.2) else none
  | none => found.bind fun i => if i.fieldsOk && decide (svn ≤ i.svn) then some { i with digest := bytesAt i.digest 0 64 } else none

/-- Boot code writes the fence, raises the security version and locks the protection set-up (step 6 of R346, R347, R349); at a reboot it finds it
locked. -/
def protect (s : State) (i : FwImage) (b : Nat) : State :=
  if s.on R.PROT_STAT_LOCKED 0 then s else
  let s := (s.wr R.PROT_FENCE_FENCE_LO 0 i.fenceLo).wr R.PROT_FENCE_FENCE_HI 0 i.fenceHi
  let s :=
    if b != 2 && decide (s.fw.svn < i.floor) then
      ((s.setFw { s.fw with svn := i.floor }).wr R.SEC_FUSE_SVN 0 i.floor).raise R.SEC_EVT_SVN_RAISED 0
    else s
  s.wr R.PROT_STAT_LOCKED 0 1

/-- The check of a bank ends (step 5 of R346): its image is taken, or the next bank is checked. -/
def bankChecked (s : State) (found : Option FwImage) : State :=
  if s.boot.phase ≠ 1 then s else
  let b := s.boot.bank
  match s.bankBoots b found with
  | some i =>
    let failed := s.boot.failed
    let s := (s.wrB R.BOOT_INFO_BANK0_BAD 0 (failed.contains 0)).wrB R.BOOT_INFO_BANK1_BAD 0 (failed.contains 1)
    let s := if b = s.fw.preferred then s else s.raise R.SEC_EVT_FALLBACK 0
    let s := protect (inService s i b) i b
    s.putBoot { s.boot with phase := 2 }
  | none =>
    match nextBank s.fw.preferred b with
    | some n => s.putBoot { s.boot with bank := n, failed := s.boot.failed ++ [b] }
    | none => s.putBoot { s.boot with phase := 4, failed := s.boot.failed ++ [b] }

/-- The check of a firmware bank ends (R345, R346). -/
def execBankCheckDone (found : Option FwImage) (s : State) : Out := .next (bankChecked s found)

/-! ### Firmware enters service -/

/-- The scan of one slot of the golden store (R229, R230): a slot found RECEIVING, or HELD with a bad manifest digest, is erased. -/
def scanSlot (s : State) (n : Nat) : State :=
  let v := s.slot n
  let bad := v.st == slHeld && !mfDigestOk v.manifest
  let s := if v.st == slReceiving || bad then
      let s := clearSlotArms s n
      (s.setBulk (s.bulk.filter fun r => !(r.purpose == 5 && r.slot == n))).putSlot n { v with st := slErasing }
    else s.putSlot n v
  if bad then s.raise R.WSET_EVT_STORE_BAD 0 else s

/-- What a chiplet was computing is lost with the firmware (R324); a reboot finds rings and tables as they were. -/
def dropWork (s : State) (k : Nat) : State :=
  s.putChip k { s.chip k with work := .none, next := none, ready := false, why := .none, belled := false, drain := [] }

/-- Firmware after a loss of supervision (R324): every job is EMPTY, what it was doing is given up, and dispatch goes on. -/
def afterLost (s : State) : State := (emptyAll s true).each chipNums dropWork

/-- Firmware enters service (step 7 of R346): the golden store is scanned, the occupancy records are loaded, BOOT_DONE is set. The other supervisor is
booted from the same bank (step 8) (DEDUCED, log 46) (DEDUCED, log 130). -/
def bootDone (s : State) : State :=
  if s.boot.phase ≠ 2 then s else
  let again := s.boot.at_.isSome
  let s := if again then afterLost s else s
  let s := s.each (List.range 8) scanSlot
  let s := s.each [0, 1] fun s h => if s.halfOn h then loadOcc s h else s
  let s := if again then s else s.wrSat R.BOOT_INFO_BOOT_MS 0 (s.now / msec)
  let s := s.putBoot { s.boot with phase := 3, sub := s.boot.act, at_ := some s.now }
  let s := (s.wr R.SEC_STAT_BANK_SUB 0 (s.rd R.SEC_STAT_BANK_ACT 0)).wr R.SUP_STAT_SUBST 0 0
  let s := s.setSup { Sup.reset with rallyAt := s.now, answerAt := s.now }
  releaseHalt ((s.wr R.SYS_STAT_BOOT_DONE 0 1).raise R.SYS_EVT_BOOT_DONE 0)

/-- Firmware enters service (R346). -/
def execBootDone (s : State) : Out := .next (bootDone s)

/-! ### The debug port -/

/-- An access on the debug port (R350): a locked port refuses all but boundary scan. -/
def execDebugAccess (boundaryScan : Bool) (s : State) : Out :=
  .next (if s.on R.PROT_STAT_DBG_LOCKED 0 && !boundaryScan then s.raise R.SEC_EVT_DEBUG_ATTEMPT 0 else s)

/-! ### Identity and attestation -/

/-- Where SEC_ATTEST writes its report (R317). -/
abbrev attestAddr : Nat := 0x013F0000

/-- Where SEC_ID_GET writes its record (R317). -/
abbrev identityAddr : Nat := 0x013F8000

/-- The identity record (R353). -/
def identityRecord : List Byte :=
  [0x4B, 0x54, 0x49, 0x44] ++ leBytes 2 1 ++ leBytes 2 0 ++ (List.range 12).map Config.serial ++ (List.range 4).map Config.dateCode ++
    List.replicate 8 0 ++ (List.range 1793).map Config.identityKey ++ (List.range 1280).map Config.identityCert

/-- SEC_ID_GET (R353, R316, R317). -/
def execSecIdGet (m : Fin 16) (s : State) : Out :=
  .next (s.peade m.val 0x0802 true true true 0 fun s =>
    (s.putSt identityAddr identityRecord).respond m.val .ok 0 (leBytes 4 identityAddr ++ leBytes 4 3105))

/-- The addresses of the registers of CONFIG_DIGEST, in ascending order (R355). -/
def configKeys : List Nat :=
  sortBy (fun a b => decide (a ≤ b)) ([R.CAL_CFG.key 0 0, R.CAL_THRESH.key 0 0, R.HW_CFG.key 0 0, R.CAL_SHARE.key 0 0, R.WSET_CFG.key 0 0, R.RING_CFG.key 0 0, R.HALF_CFG.key 0 0,
    R.FEED_CFG.key 0 0, R.TB_CFG.key 0 0, R.SUP_CFG.key 0 0, R.PROT_FENCE.key 0 0] ++ (List.range 16).map (R.BRIDGE_CFG.key · 0) ++
    (List.range 8).map (R.EXT_CFG.key · 0) ++ (List.range 48).map (R.STREAM_CFG.key · 0) ++ (List.range 128).map (R.OUT_MAP.key · 0))

/-- The word a register contributes: that in force for a buffered one (R355). -/
def State.configWord (s : State) (key : Nat) : Word :=
  if ((findReg key).map fun r => decide (r.bnd ≠ Boundary.none)).getD false then s.forceWord key else s.word key

/-- CONFIG_DIGEST (R355). -/
def State.configDigest (s : State) : List Byte := shake256 (configKeys.flatMap fun k => leBytes 4 (s.configWord k).toNat)

/-- The digest of a manifest (R228). -/
def mfOwnDigest (m : List Byte) : List Byte := bytesAt m (0x40 + 80 * mfEntries m) 64

/-- The slot entry of a report (R354). -/
def State.attestSlot (s : State) (n : Nat) : List Byte :=
  let v := s.slot n
  leBytes 1 v.st ++ leBytes 1 v.modIndex ++ leBytes 2 0 ++ leBytes 4 (s.rd R.WSET_SLOT_ID_WSET_ID n) ++
    (if v.st = slHeld then mfOwnDigest v.manifest else List.replicate 64 0)

/-- The job entry of a report (R354). -/
def State.attestJob (s : State) (j : Nat) : List Byte :=
  let job := s.job j
  let staged := if s.stagingOn j then s.rd R.WSET_SLOT_ID_WSET_ID (s.rd R.WSET_JOB_NEW_SLOT j) else 0
  leBytes 1 job.st.code ++ leBytes 1 (s.rd R.WSET_JOB_GEN j) ++ leBytes 1 (s.rd R.WSET_JOB_STAGE j) ++ leBytes 1 0 ++
    leBytes 4 job.hdr.wsetId ++ leBytes 4 staged ++ leBytes 4 0 ++ (if job.admitted then bytesAt job.digest 0 64 else List.replicate 64 0)

/-- The part of a report that is signed: bytes 0x000 to 0x85F (R354). -/
def State.attestBody (s : State) (nonce : List Byte) : List Byte :=
  let down := s.rd R.SUP_STAT_SUBST 0 == 0
  let locks := s.rd R.PROT_STAT_LOCKED 0 + 2 * s.rd R.PROT_STAT_DBG_LOCKED 0 + 4 * s.rd R.SEC_FUSE_DBG_PERM 0
  [0x4B, 0x54, 0x41, 0x54] ++ leBytes 2 1 ++ leBytes 2 0 ++ leBytes 4 2144 ++ (List.range 12).map Config.serial ++ leBytes 8 s.tb.toNat ++ nonce ++
    leBytes 4 (s.rd R.FW_VER_ACT_VERSION 0) ++ leBytes 4 (s.rd R.FW_VER_SUB_VERSION 0) ++ leBytes 1 (s.rd R.SEC_FUSE_SVN 0) ++
    leBytes 1 (s.rd R.SEC_STAT_BANK_ACT 0 + 4 * s.rd R.SEC_STAT_BANK_SUB 0) ++ leBytes 1 (s.rd R.SUP_STAT_ACTIVE 0) ++ leBytes 1 locks ++
    leBytes 4 (s.word (R.PROT_FENCE.key 0 0)).toNat ++ List.replicate 16 0 ++ bytesAt s.boot.act.digest 0 64 ++
    (if down then List.replicate 64 0 else bytesAt s.boot.sub.digest 0 64) ++ s.configDigest ++
    (List.range 8).flatMap s.attestSlot ++ (List.range 16).flatMap s.attestJob

/-- SEC_ATTEST (R354, R316, R317): the signature is the key engine's. -/
def execSecAttest (m : Fin 16) (s : State) : Out :=
  .next (s.peade m.val 0x0801 true true true 0 fun s =>
    let body := s.attestBody ((List.range 32).map fun i => BitVec.ofNat 8 (s.req m.val (8 + i) 1))
    let (ix, s) := s.draw
    let sig := (List.range 1280).map (Config.identitySign ix (shake256 body))
    ((s.putSt attestAddr (body ++ sig)).bump R.SEC_ATTEST_CNT_COUNT 0).respond m.val .ok 0 (leBytes 4 attestAddr ++ leBytes 4 3424))

/-! ### Replacing firmware -/

/-- SEC_FW_LOAD is refused (R351). -/
def refuseFw (s : State) (m : Nat) (st : Status) (detail : Nat) : State :=
  let s := (s.setSup { s.sup with fw := none }).wr R.SUP_STAT_FW_LOADING 0 0
  (s.raise R.SEC_EVT_FW_REFUSED 0).respond m st detail []

/-- The bank SEC_FW_LOAD writes (R348, R351): the one not in service; under the recovery image bank 0 if it failed at boot, else bank 1. -/
def State.loadBank (s : State) : Nat :=
  if s.on R.SEC_STAT_RECOVERY_IMG 0 then (if s.on R.BOOT_INFO_BANK0_BAD 0 then 0 else 1) else 1 - s.rd R.SEC_STAT_BANK_ACT 0

/-- The substitute is reset, to be booted on image `i` of bank `b` (R323, R325). -/
def resetSubst (s : State) (i : FwImage) (b : Nat) : State :=
  let s := (s.wr R.SUP_STAT_SUBST 0 0).wr R.FW_VER_SUB_VERSION 0 0
  (s.wr R.SEC_STAT_BANK_SUB 0 b).putBoot { s.boot with sub := i }

/-- The image of a SEC_FW_LOAD was received under purpose 3 (R272, R316). -/
def State.fwGot (s : State) (addr len : Nat) : Bool :=
  s.bulk.any fun r => r.purpose == 3 && decide (r.addr ≤ addr ∧ addr + len ≤ r.addr + r.got)

/-- Steps 1 to 4 of R325 (R351): the image is checked, written into the bank not in service (`writeOk` says whether the write and its read-back
succeed), and the substitute is booted on it. -/
def loadFw (s : State) (m : Nat) (writeOk : Bool) : State :=
  let addr := s.req m 8 4
  let len := s.req m 0xC 4
  let n := leAt (s.stBytes addr 64) 8 4
  if s.rd R.SUP_STAT_SUBST 0 ≠ 2 then refuseFw s m .substDown 1
  else if len ≠ n + 1280 || !s.fwGot addr len then refuseFw s m .imageFormat 0
  else
    let b := s.stBytes addr len
    match fwRefusal b s.fw.svn with
    | some e => refuseFw s m e.1 e.2
    | none =>
      let i := fwImage b
      if i.ckpt ≠ s.rd R.SUP_STAT_CKPT_FMT 0 || i.fenceLo ≠ s.rd R.PROT_FENCE_FENCE_LO 0 || i.fenceHi ≠ s.rd R.PROT_FENCE_FENCE_HI 0 then
        refuseFw s m .imageFormat 0
      else
        let bank := s.loadBank
        let rest := s.fw.banks.filter fun e => e.1 != bank
        if !writeOk then
          refuseFw ((s.setFw { s.fw with banks := rest ++ [(bank, [])] }).raise R.SEC_EVT_BANK_WRITE_FAIL 0) m .substDown 2
        else
          let s := s.setFw { s.fw with banks := rest ++ [(bank, b)] }
          (resetSubst (s.setSup { s.sup with fw := some (m, i, bank, s.now) }) i bank).wr R.SUP_STAT_FW_LOADING 0 1

/-- SEC_FW_LOAD begins (R325, R351): it completes at the planned takeover (DEDUCED, log 132). -/
def execSecFwLoad (m : Fin 16) (writeOk : Bool) (s : State) : Out :=
  .next (s.peade m.val 0x0803 true true true 0 fun s => loadFw s m.val writeOk)

end Sys2Proof.Machine
end

