-- ==== Sys2Proof/Machine/Supervision.lean ====
section
/-! DEFINITION. Machine/Supervision.lean: the two supervisors (R318 to R325): journal, rally, takeover, the loss of the substitute and of supervision,
the replacement of firmware, and the DIAG_ commands. -/

namespace Sys2Proof.Machine

/-- Firmware is in service and no takeover runs. -/
def State.supRuns (s : State) : Bool := s.boot.phase == 3 && s.sup.takingAt.isNone

/-- A held start runs (R322). -/
def resumeStart (s : State) : HeldStart → State
  | .trim k => startTrim s k
  | .xtalk k => xtStart s k
  | .run q cause => triggerRun s q cause

/-- Firmware's duties resume: the starts that waited run, in order (R322). -/
def resumeDuties (s : State) : State :=
  if !s.dutiesRun then s else (s.setSup { s.sup with waiting := [] }).each s.sup.waiting resumeStart

/-- CKPT_SEQ and CKPT_LAG show the journal (R341). -/
def showJournal (s : State) : State :=
  let lag := s.sup.sent - s.sup.acked
  let s := (s.wr R.CKPT_SEQ_SEQ 0 s.sup.acked).wrSat R.CKPT_LAG_LAG 0 lag
  s.wrSat R.CKPT_LAG_PEAK 0 (max lag (s.rd R.CKPT_LAG_PEAK 0))

/-- A journal record is sent, and when `acked` the substitute, unless DOWN, has applied it and all before it to its copy (R319). -/
def journal (s : State) (acked : Bool) : State :=
  let n := s.sup.sent + 1
  let s := showJournal (s.setSup { s.sup with sent := n })
  if acked && s.rd R.SUP_STAT_SUBST 0 != 0 then
    resumeDuties (showJournal (s.setSup { s.sup with acked := n, copy := s.fwState }))
  else s

/-- The active supervisor sends a journal record (R319). -/
def execJournalRecord (acked : Bool) (s : State) : Out := .next (if s.supRuns then journal s acked else s)

/-- The substitute, booted, catches up from a full copy of the firmware state (R321, R323): FW_VER_SUB shows its image. -/
def substUp (s : State) : State :=
  if s.rd R.SUP_STAT_SUBST 0 = 0 then
    let s := (s.wr R.SUP_STAT_SUBST 0 1).wr R.FW_VER_SUB_VERSION 0 s.boot.sub.version
    s.setSup { s.sup with copy := s.fwState }
  else s

/-- The active supervisor issues a rally that carries the number of the last record sent and passed self-checks, and the substitute answers it
with the number of the last record it has applied, or not (R320). -/
def execRally (answered : Bool) (s : State) : Out :=
  .next (
    if !s.supRuns || !s.passed s.sup.rallyAt (s.hubTime (20 * usec)) then s else
    let s := s.setSup { s.sup with rallyAt := s.now, rallyNo := s.sup.sent, rallyOk := true }
    if answered then substUp (s.setSup { s.sup with answerAt := s.now, answerNo := s.sup.acked }) else s)

/-- ACTIVE moves to the substitute; the former active supervisor is held in reset (R321, R325). -/
def swapActive (s : State) : State := s.wr R.SUP_STAT_ACTIVE 0 (1 - s.rd R.SUP_STAT_ACTIVE 0)

/-- No rally has arrived for 100 µs, or a rally reports a `fault` (R320, R321): the substitute, if FOLLOWING, takes over. -/
def execRallyMissed (fault : Bool) (s : State) : Out :=
  .next (
    let s := if fault && s.supRuns then s.setSup { s.sup with rallyAt := s.now, rallyNo := s.sup.sent, rallyOk := false } else s
    if s.supRuns && decide (s.rd R.SUP_STAT_SUBST 0 = 2) && (!s.sup.rallyOk || s.passed s.sup.rallyAt (s.hubTime (100 * usec))) then
      (swapActive s).wr R.SUP_STAT_SUBST 0 3 |> fun s => s.setSup { s.sup with takingAt := some s.now }
    else s)

/-- The image the substitute runs is in service, and the former active supervisor, booted on it as the substitute, is CATCHING_UP (R321, R325). -/
def substInService (s : State) : State :=
  let i := s.boot.sub
  let b := s.rd R.SEC_STAT_BANK_SUB 0
  let s := substUp (resetSubst (inService s i b) i b)
  s.setSup { s.sup with rallyAt := s.now, answerAt := s.now, rallyOk := true }

/-- SEC_FW_LOAD completes (R325, R348, R351): a new copy of the boot record names the new bank, and VERSION is returned. -/
def fwLoaded (s : State) (m : Nat) (i : FwImage) (bank : Nat) : State :=
  let s := (s.setSup { s.sup with fw := none }).wr R.SUP_STAT_FW_LOADING 0 0
  let s := (s.setFw { s.fw with preferred := bank, recordSeq := s.fw.recordSeq + 1 }).wr R.BOOT_INFO_PREFERRED 0 bank
  s.respond m .ok 0 (leBytes 4 i.version)

/-- A takeover ends (steps 3 and 4 of R321): duties resume. A SEC_FW_LOAD whose image took over completes with it (R316)
(DEDUCED, log 138). -/
def takenOver (s : State) : State :=
  let s := showJournal (s.setSup { s.sup with takingAt := none, sent := s.sup.acked })
  let s := (s.raise R.SYS_EVT_TAKEOVER 0).raise R.SUP_EVT_TAKEOVER 0
  let s := resumeDuties (substInService (s.bump R.TAKEOVER_CNT_COUNT 0))
  match s.sup.fw with
  | some f => fwLoaded s f.1 f.2.1 f.2.2.1
  | none => s

/-- The new active supervisor has applied the journal (R321). -/
def execTakeoverDone (s : State) : Out := .next (if s.sup.takingAt.isSome then takenOver s else s)

/-- The substitute, its copy that of the firmware state and no record left to apply, is FOLLOWING (R321, R323). -/
def execSubstFollowing (s : State) : Out :=
  .next (
    if s.supRuns && decide (s.rd R.SUP_STAT_SUBST 0 = 1 ∧ s.sup.acked = s.sup.sent ∧ s.sup.copy = s.fwState) then (s.wr R.SUP_STAT_SUBST 0 2).raise R.SUP_EVT_SUBST_READY 0 else s)

/-- The substitute is booted on the image in service again (R323, R325). -/
def rebootSubst (s : State) : State := resetSubst s s.boot.act (s.rd R.SEC_STAT_BANK_ACT 0)

/-- SEC_FW_LOAD is refused because its image did not follow (R325, R351). -/
def fwNotFollowing (s : State) : State :=
  match s.sup.fw with
  | some f => refuseFw (rebootSubst s) f.1 .substDown 3
  | none => s

/-- The substitute is reset and booted again (R323); SEC_FW_LOAD whose image it ran is refused (R325) (DEDUCED, log 142). -/
def substLost (s : State) : State :=
  let s := (rebootSubst s).raise R.SUP_EVT_SUBST_LOST 0
  fwNotFollowing (s.setSup { s.sup with answerAt := s.now })

/-- The substitute has missed its answers for 100 µs, or reports its own `fault` (R323). -/
def execSubstLost (fault : Bool) (s : State) : Out :=
  let n := s.rd R.SUP_STAT_SUBST 0
  .next (
    if s.supRuns && decide (n = 1 ∨ n = 2) && (fault || s.passed s.sup.answerAt (s.hubTime (100 * usec))) then substLost s else s)

/-- Mailboxes of commands that were queued or running when supervision was lost are IDLE (DESIGN CHOICE, log 44). -/
def mailboxesLost (s : State) : State :=
  (s.each s.mbxOrder fun s m => s.wr R.MBX_STAT_STATE m mbIdle).setMbxOrder []

/-- Supervision is lost (R324): dispatch halts, the plant interfaces are cleared, both supervisors boot. -/
def supervisionLost (s : State) (selfTestOk : Bool) : State :=
  let s := (moduleFault s 1).raise R.SUP_EVT_SUP_LOST 0
  let s := (s.wr R.SYS_STAT_BOOT_DONE 0 0).wr R.SYS_STAT_SYS_STATE 0 stStartUp
  let s := ((mailboxesLost s).wr R.SUP_STAT_FW_LOADING 0 0).wr R.SUP_STAT_SUBST 0 0
  bootRom ((s.wr R.FW_VER_SUB_VERSION 0 0).setSup Sup.reset) selfTestOk

/-- No supervisor has issued a rally for 2 ms while the substitute was not FOLLOWING (R324). -/
def execSupervisionLost (selfTestOk : Bool) (s : State) : Out :=
  .next (
    if decide (s.boot.phase = 3 ∧ s.rd R.SUP_STAT_SUBST 0 ≠ 2) && s.passed s.sup.rallyAt (s.hubTime (2 * msec)) then
      supervisionLost s selfTestOk
    else s)

/-- The substitute on the new image takes over at a rally (step 6 of R325). -/
def plannedTakeover (s : State) (m : Nat) (i : FwImage) (bank : Nat) : State :=
  let s := substInService (swapActive s)
  fwLoaded ((s.raise R.SUP_EVT_FW_SWAP 0).bump R.TAKEOVER_CNT_COUNT 0) m i bank

/-- The planned takeover of SEC_FW_LOAD (R325). -/
def execPlannedTakeover (s : State) : Out :=
  .next (
    match s.sup.fw with
    | some f => if s.supRuns && decide (s.rd R.SUP_STAT_SUBST 0 = 2) then plannedTakeover s f.1 f.2.1 f.2.2.1 else s
    | none => s)

/-- The new image has not followed within 4 s (step 5 of R325). -/
def execFwCatchupTimeout (s : State) : Out :=
  .next (
    match s.sup.fw with
    | some f =>
      if s.supRuns && decide (s.rd R.SUP_STAT_SUBST 0 ≠ 2) && s.passed f.2.2.2 (s.hubTime (4000 * msec)) then fwNotFollowing s else s
    | none => s)

/-! ### The DIAG_ commands -/

/-- DIAG_PING returns the request bytes (R316). -/
def execDiagPing (m : Fin 16) (s : State) : Out :=
  .next (s.peade m.val 0x0901 true true true 0 fun s =>
    s.respond m.val .ok 0 (((s.mbBytes m.val).drop 8).take (s.req m.val 4 1)))

/-- DIAG_MODE (R294, R316): 2 to TEST from any state but START_UP, 1 to SERVICE, or to RECOVERY if a recovery event is set. -/
def execDiagMode (m : Fin 16) (s : State) : Out :=
  .next (s.peade m.val 0x0902 (decide (s.sysState ≠ stStartUp)) true true 0 fun s =>
    let s :=
      if s.req m.val 8 1 = 2 then s.wr R.SYS_STAT_SYS_STATE 0 stTest
      else s.wr R.SYS_STAT_SYS_STATE 0 (if s.recoveryEvent || s.on R.CLK_STAT_FAULT 0 then stRecovery else stService)
    s.respond m.val .ok 0 [])

/-- The fault DIAG_FAULT injects into job `j` (R316, R332): it strikes the first unit of its class that the job holds, and leaves that unit's
remedy (DESIGN CHOICE, log 51). -/
def State.injectedFault (s : State) (j cls : Nat) : FaultInfo :=
  let job := s.job j
  let clu := job.clusters.headD 0
  let half := (job.reducedHalf.map (1 - ·)).getD (halfOfClu clu)
  let kur : Nat × Nat × Remedy :=
    match cls with
    | 0x01 => (5, clu, .none)
    | 0x02 =>
      match s.ptes.find? fun e => e.1 / 4096 == j && e.2.v && decide (e.2.ppn < 3072) with
      | some e => (2, e.2.ppn / 12, .page e.2.ppn)
      | none => (2, clu, .none)
    | 0x03 | 0x04 => (3, clu, .none)
    | 0x05 =>
      match job.tiles.head? with
      | some t => (1, t, .tile t)
      | none => (0, 0, .none)
    | 0x06 =>
      match job.chips.head? with
      | some e => (6, e.1, .mesh e.1)
      | none => (0, 0, .none)
    | 0x07 => (7, 0, .bridge)
    | 0x08 => (8, 0, if job.spans then .reduce s.captain fcSplit else .none)
    | 0x09 => (8, half, .half half)
    | 0x0B => (9, 0, .none)
    | 0x0C => (4, clu, .reset clu)
    | _ => (8, 0, .none)
  ⟨cls, true, kur.1, kur.2.1, kur.2.2⟩

/-- DIAG_FAULT injects a fault of a class into a job, in TEST (R316, R332): the job recovers as from the real fault. -/
def execDiagFault (m : Fin 16) (s : State) : Out :=
  .next (s.peade m.val 0x0903 (decide (s.sysState = stTest)) true true 0 fun s =>
    let j := s.req m.val 8 1
    if (s.job j).live then
      (detectFault s j (s.injectedFault j (s.req m.val 9 1))).respond m.val .ok 0 []
    else s.respond m.val .jobState 0 [])

end Sys2Proof.Machine
end

