-- ==== Sys2Proof/Machine/Power.lean ====
section
/-! DEFINITION. Machine/Power.lean: power inputs, hold-up, loss of power, power states, temperature sensors, throttling and thermal stops
(R374 to R393), and the ring feed-forward (R168 to R170). -/

namespace Sys2Proof.Machine

/-- Replaces the record of power. -/
def State.putPwr (s : State) (v : Pwr) : State := s.setPwr v

/-- The power state (R381). -/
def State.power (s : State) : Nat := s.rd R.PWR_STAT_STATE 0

/-- START of R381. -/
abbrev psStart : Nat := 0
/-- ACTIVE of R381. -/
abbrev psActive : Nat := 1
/-- STOPPING of R381. -/
abbrev psStopping : Nat := 2
/-- STOPPED of R381. -/
abbrev psStopped : Nat := 3
/-- POWER_FAIL of R381. -/
abbrev psFail : Nat := 4

/-- Enters a power state. -/
def setPower (s : State) (st : Nat) : State := s.wr R.PWR_STAT_STATE 0 st

/-! ### The inputs -/

/-- An input is valid (R374): MAIN, or BACKUP. -/
def State.inputOk (s : State) (backup : Bool) : Bool := if backup then s.on R.PWR_STAT_BACKUP_OK 0 else s.on R.PWR_STAT_MAIN_OK 0

/-- Sets or clears MAIN_OK or BACKUP_OK. -/
def setInput (s : State) (backup ok : Bool) : State := s.wrB (if backup then R.PWR_STAT_BACKUP_OK else R.PWR_STAT_MAIN_OK) 0 ok

/-- The module draws from MAIN again (R376). -/
def returnMain (s : State) : State := (s.wr R.PWR_STAT_SRC 0 0).raise R.PWR_EVT_RETURN_MAIN 0

/-- The module switches over to BACKUP (R375). -/
def switchBackup (s : State) : State := ((s.wr R.PWR_STAT_SRC 0 1).raise R.PWR_EVT_SWITCH 0).bump R.PWR_SW_CNT_SWITCHES 0

/-- An input has been in range for 10 ms (R374): it is valid, and in use when the other is not (R375, R376). After a power fail has run its course the
module is about to be released from reset (R379) (DESIGN CHOICE, log 121). -/
def inputValid (s : State) (backup : Bool) : State :=
  let s := if s.pwr.off then (freshState s).wr R.PWR_STAT_PREV_FAIL 0 1 else s
  let s := if s.inputOk backup then s
    else
      let s := setInput s backup true
      if backup then s else s.putPwr { s.pwr with mainAt := some s.now }
  if s.pwr.confirmed then s
  else
    let s := s.putPwr { s.pwr with failAt := none }
    if s.boot.phase = 0 || s.inputOk (s.on R.PWR_STAT_SRC 0) then s else if backup then switchBackup s else returnMain s

/-- A 48 V input becomes valid (R374, R379). -/
def execInputValid (backup : Bool) (s : State) : Out := .next (inputValid s backup)

/-- Both inputs are lost (R378): DIP. The last input left its range 10 µs ago. -/
def bothLost (s : State) : State :=
  let s := (s.raise R.PWR_EVT_DIP 0).bump R.PWR_SW_CNT_DIPS 0
  s.putPwr { s.pwr with failAt := some (s.now - 10 * usec) }

/-- An input has been out of its range for 10 µs (R374, R375, R378): the module switches to the other if that is valid, and otherwise runs on from the
hold-up. A loss of BACKUP in use while MAIN is valid returns to MAIN at once (DEDUCED, log 52). -/
def inputLost (s : State) (backup : Bool) : State :=
  if s.pwr.off || s.pwr.confirmed then setInput s backup false else
  let inUse := s.on R.PWR_STAT_SRC 0 == backup
  let s := setInput s backup false
  let s := if backup then s else s.putPwr { s.pwr with mainAt := none }
  if s.inputOk (!backup) then
    if !inUse then s
    else if backup then returnMain s
    else switchBackup s
  else bothLost s

/-- A 48 V input is lost (R374, R375, R378). -/
def execInputLost (backup : Bool) (s : State) : Out := .next (inputLost s backup)

/-- MAIN has been valid for RET_MS while the module draws from BACKUP (R376). -/
def execMainReturn (s : State) : Out :=
  .next (
    let ms := s.rd R.PWR_CFG_RET_MS 0
    if s.on R.PWR_STAT_SRC 0 && s.inputOk false && ms != 0 && (s.pwr.mainAt.map fun t => s.passed t (msec * ms)).getD false then returnMain s
    else s)

/-- Host software returns the module to MAIN (R376). -/
def commandReturn (s : State) : State := if s.on R.PWR_STAT_SRC 0 && s.inputOk false then returnMain s else s

/-- A write of 1 to RETURN of PWR_CFG (R376). -/
def execPwrCfgReturn (s : State) : Out := .next (commandReturn s)

/-- Power fail is confirmed (R378, R400): dispatch halts, the plant interfaces are cleared, the markers are flushed, and the store at power fail begins, after
a commanded one that runs. -/
def confirmFail (s : State) : State :=
  let s := haltAll s true
  let s := markFlushAll (clearAll (s.setPlant { s.plant with powerFail := true }))
  let s := (setPower s psFail).putPwr { s.pwr with confirmed := true, confTime := s.tb, stopAt := none }
  if s.nvRun.isSome then s else powerFailStore s

/-- Neither input has re-entered its range 200 µs after the last one left it (R378, R379). -/
def execPowerFailConfirm (s : State) : Out :=
  .next (
    let late := (s.pwr.failAt.map fun t => s.passed t (200 * usec)).getD false
    if late && !s.pwr.confirmed && !s.inputOk false && !s.inputOk true then confirmFail s else s)

/-- Both halves are switched off with their chiplets. -/
def switchOffAll (s : State) : State := switchOffHalf (switchOffHalf s 0 false) 1 false

/-- At 210 µs of a loss of both inputs the halves and chiplets are switched off (R378). -/
def execPowerFailSwitchOff (s : State) : Out :=
  .next (
    let late := (s.pwr.failAt.map fun t => s.passed t (210 * usec)).getD false
    if late && s.pwr.confirmed then switchOffAll (emptyAll s true) else s)

/-- The inputs and the hold-up are measured (R377, R395). -/
def holdupSample (s : State) (energy mainV mainI backV backI : Nat) : State :=
  let s := (s.wrSat R.PWR_MAIN_VOLT 0 mainV).wrSat R.PWR_MAIN_CURR 0 mainI
  let s := (s.wrSat R.PWR_BACKUP_VOLT 0 backV).wrSat R.PWR_BACKUP_CURR 0 backI
  let ok := decide (760 ≤ energy)
  let was := s.on R.PWR_STAT_HOLDUP_OK 0
  let s := (s.wrSat R.HOLDUP_ENERGY 0 energy).wrB R.PWR_STAT_HOLDUP_OK 0 ok
  if was && !ok then s.raise R.PWR_EVT_HOLDUP_LOW 0 else s

/-- Every 10 µs the hold-up energy in mJ is measured, with the inputs in units of 10 mV and 1 mA (R377, R395). -/
def execHoldupSample (energy mainV mainI backV backI : Nat) (s : State) : Out := .next (holdupSample s energy mainV mainI backV backI)

/-! ### Rails -/

/-- Loading jobs placed in half `h` are refused, and stagings with copies there end (DEDUCED, log 53). -/
def dropPlans (s : State) (h : Nat) : State :=
  let s := s.each jobNums fun s j =>
    if (s.job j).loading && (s.writes.any fun w => decide (w.use = WriteUse.load j) && decide (halfOfTile w.tile = h)) then failLoad s j .tilesShort else s
  s.each jobNums fun s j =>
    if s.writes.any (fun w => (match w.use with
      | .stage q _ => decide (q = j)
      | .load _ | .rewrite | .copy _ => false) && decide (halfOfTile w.tile = h)) then failStage s j else s

/-- The supply of half `h` fails (R380): it is switched off until power-on reset, with its chiplets, and its jobs are recovered. -/
def halfSupplyFails (s : State) (h : Nat) : State :=
  let s := (s.wr (halfFailFld h) 0 1).raise R.PWR_EVT_HALF_SUPPLY 0
  let s := (dropPlans (failHalf s h) h).each [2 * h, 2 * h + 1] chipCircuitsDown
  switchOffHalf s h true

/-- A quadrant rail of half `h` has been out of regulation for 20 µs (R380). -/
def execHalfSupplyFail (h : Fin 2) (s : State) : Out :=
  .next (if s.halfOn h.val && !s.supplyFailed h.val then halfSupplyFails s h.val else s)

/-- The rail of chiplet `k` has been out of regulation for 20 µs (R380): it is switched off, with the outcome of the HEATER_FAIL row of R148
(DEDUCED, log 50). -/
def execChipletRailFail (k : Fin 4) (s : State) : Out :=
  .next (
    if !s.halfOn (halfOfChip k.val) then s
    else ringsOff (meshLost (chipCircuitsDown (s.raise R.MESH_EVT_HEATER_FAIL k.val) k.val) k.val .heater) k.val)

/-! ### Stops -/

/-- What every stop of this chapter records (R388). -/
def noteStop (s : State) (cause : Nat) : State := (s.wr R.PWR_STAT_STOP_CAUSE 0 cause).raise R.SYS_EVT_THERM_STOP 0

/-- An orderly stop begins (R389). -/
def orderlyStop (s : State) (cause : Nat) : State :=
  let s := (noteStop (s.raise R.PWR_EVT_ORDERLY 0) cause).putPwr { s.pwr with stopAt := some s.now, stopFault := false }
  abandonWrites (haltAll (setPower s psStopping) true)

/-- The halves and chiplets are off and every job is EMPTY: STOPPED (R389 to R391). -/
def stopped (s : State) (all : Bool) : State :=
  let s := setPower (switchOffAll (emptyAll s all)) psStopped
  s.putPwr { s.pwr with stopAt := none, coolAt := none }

/-- An immediate stop (R390). -/
def immediateStop (s : State) : State := stopped (moduleFault (noteStop (s.raise R.PWR_EVT_IMMEDIATE 0) 2) 4) true

/-- At 2,000 µs of an orderly stop the module fault is signalled, the markers are flushed, and results not complete are discarded (R389). -/
def execOrderlyStopFault (s : State) : Out :=
  .next (
    let late := (s.pwr.stopAt.map fun t => s.passed t (2000 * usec)).getD false
    if s.power = psStopping && late && !s.pwr.stopFault then
      let s := moduleFault (s.putPwr { s.pwr with stopFault := true }) 3
      s.each jobNums fun s j => if (s.job j).started then discardJob s j false else s
    else s)

/-- At 2,200 µs of an orderly stop the halves and chiplets are switched off (R389). -/
def execOrderlyStopOff (s : State) : Out :=
  .next (
    let late := (s.pwr.stopAt.map fun t => s.passed t (2200 * usec)).getD false
    if s.power = psStopping && late && s.pwr.stopFault then stopped s false else s)

/-- T_RESUME in units of 1/16 °C, within 60 to 100 °C (R395). -/
def State.tResume (s : State) : Int := 16 * (max 60 (min 100 (s.rd R.THERM_CFG_T_RESUME 0)) : Nat)

/-- Tmax in units of 1/16 °C (R384). -/
def State.tmax (s : State) : Int := s.rdInt R.TEMP_MAX_MAX 0

/-- The highest admitted rise in units of 0.1 °C per ms (R384). -/
def State.rise (s : State) : Nat := s.rd R.TEMP_MAX_RISE 0

/-- The module leaves STOPPED (R391): the halves and chiplets are switched on and the first sweep starts in COLD form. -/
def resume (s : State) : State :=
  let s := switchOn (setPower s psActive)
  let s := (s.putPwr { s.pwr with coolAt := none }).raise R.PWR_EVT_RESUMED 0
  releaseHalt (if s.boot.phase = 3 then startFirst s 1 else s)

/-- Tmax has stayed at or below T_RESUME for 100 ms, and AUTO_RESUME is set (R391). -/
def execAutoResume (s : State) : Out :=
  .next (
    let cool := (s.pwr.coolAt.map fun t => s.passed t (100 * msec)).getD false
    if s.power = psStopped && s.on R.THERM_CFG_AUTO_RESUME 0 && cool then resume s else s)

/-- Host software leaves STOPPED (R391). -/
def commandResume (s : State) : State := if s.power = psStopped && decide (s.tmax ≤ s.tResume) then resume s else s

/-- A write of 1 to RESUME of THERM_CFG (R391). -/
def execResume (s : State) : Out := .next (commandResume s)

/-- The power state START ends (R381, R393). -/
def endOfStart (s : State) : State :=
  if 110 * 16 ≤ s.tmax then setPower (noteStop (s.raise R.PWR_EVT_ORDERLY 0) 4) psStopped
  else releaseHalt (switchOn (setPower s psActive))

/-- The power state START ends (R381). -/
def execEndOfStart (s : State) : Out := .next (if s.power = psStart then endOfStart s else s)

/-! ### Throttling -/

/-- Why the throttle is lowered (R386): the cause in THR_STAT, none to keep the level. -/
def State.lowerCause (s : State) : Option Nat :=
  let limit := max 100 (min 380 (s.rd R.THR_CFG_PWR_LIMIT 0))
  let hot : Int := 16 * (max 80 (min 105 (s.rd R.THR_CFG_T_THROTTLE 0)) : Nat)
  if 10 * limit < s.rd R.PWR_MEAS_POWER 0 then some 1 else if hot < s.tmax then some 2 else if 50 ≤ s.rise then some 3 else none

/-- The conditions to raise the level (R386). -/
def State.mayRaise (s : State) : Bool :=
  let limit := max 100 (min 380 (s.rd R.THR_CFG_PWR_LIMIT 0))
  let hot : Int := 16 * (max 80 (min 105 (s.rd R.THR_CFG_T_THROTTLE 0)) : Nat)
  decide (s.rd R.PWR_MEAS_POWER 0 ≤ 10 * (limit - 20) ∧ s.tmax ≤ hot - 48 ∧ s.rise < 20) && s.passed s.pwr.levelAt msec

/-- The throttle controller evaluates its conditions (R386). -/
def throttleEval (s : State) : State :=
  let level := s.rd R.THR_STAT_LEVEL 0
  match s.lowerCause with
  | some c =>
    if level ≤ 1 then s else
    let s := ((s.wr R.THR_STAT_LEVEL 0 (level - 1)).wr R.THR_STAT_CAUSE 0 c).bump R.THR_CNT_COUNT 0
    let s := s.wr R.THR_STAT_MIN_LEVEL 0 (min (level - 1) (s.rd R.THR_STAT_MIN_LEVEL 0))
    let s := s.putPwr { s.pwr with levelAt := s.now }
    if level = 16 then s.raise R.PWR_EVT_THROTTLE 0 else s
  | none =>
    if level < 16 && s.mayRaise then (s.wr R.THR_STAT_LEVEL 0 (level + 1)).putPwr { s.pwr with levelAt := s.now } else s

/-- Every 100 µs the throttle is evaluated on the input power, in units of 0.1 W, averaged over them; the compute-die current is in units of 0.1 A
(R386, R395) (DESIGN CHOICE, log 188). -/
def execThrottleEval (power compI : Nat) (s : State) : Out :=
  .next (throttleEval ((s.wrSat R.PWR_MEAS_POWER 0 power).wrSat R.PWR_MEAS_COMP_I 0 compI))

/-! ### Sensors -/

/-- Sensor `n`. -/
def State.sensor (s : State) (n : Nat) : Sensor := spGet (fun _ => Sensor.reset) s.sensors n

/-- Replaces sensor `n`. -/
def State.putSensor (s : State) (n : Nat) (v : Sensor) : State := s.setSensors (spSet (fun _ => Sensor.reset) s.sensors n v)

/-- The reading of a sensor. -/
def Sensor.now (x : Sensor) : Int := x.past.headD 0

/-- The rise of a sensor over 100 µs in units of 1/16 °C (R382): zero while no reading is that old (DESIGN CHOICE, log 54). -/
def Sensor.riseRaw (x : Sensor) : Int := (x.past[10]?.map fun t => x.now - t).getD 0

/-- The rise as the registers show it, in units of 0.1 °C per ms (R395), rounded to nearest. -/
def Sensor.riseTenths (x : Sensor) : Nat := (max 0 (min 255 (idivRne (25 * x.riseRaw) 4))).toNat

/-- The sensors of group `g` (R383): the quadrants' 0 to 7, the chiplets' 8 to 11, the hub's 12. -/
def sensorGroup (g : Nat) : List Nat := (List.range (if g < 12 then 16 else 8)).map (16 * g + ·)

/-- The group of a sensor (R382). -/
def groupOf (n : Nat) : Nat := n / 16

/-- Twice the median of a list of readings (DEDUCED, log 123). -/
def medianTwice (l : List Int) : Int :=
  let l := sortBy (fun a b => decide (a ≤ b)) l
  l[(l.length - 1) / 2]?.getD 0 + l[l.length / 2]?.getD 0

/-- A sensor reads outside its limits (R383), twice the median of its group being `med2`. -/
def Sensor.outside (x : Sensor) (med2 : Int) : Bool := decide (x.now < -640 ∨ 2400 < x.now ∨ 2 * 320 < (2 * x.now - med2).natAbs)

/-- Exclusion and readmission of sensor `n` (R383). -/
def judgeSensor (s : State) (med2 : Int) (n : Nat) : State :=
  let x := s.sensor n
  if x.outside med2 then
    let from_ := x.outAt.getD s.now
    let x := { x with outAt := some from_, okAt := none }
    if !x.excluded && s.passed from_ msec then (s.putSensor n { x with excluded := true }).raise R.PWR_EVT_SENSOR_BAD 0
    else s.putSensor n x
  else
    let from_ := x.okAt.getD s.now
    let x := { x with okAt := some from_, outAt := none }
    s.putSensor n (if x.excluded && s.passed from_ (1000 * msec) then { x with excluded := false } else x)

/-- The sensors of group `g` are judged (R383). -/
def judgeGroup (s : State) (g : Nat) : State :=
  let med2 := medianTwice ((sensorGroup g).map fun n => (s.sensor n).now)
  s.each (sensorGroup g) fun s n => judgeSensor s med2 n

/-- Too few sensors of some group remain admitted (R383). -/
def State.sensorsShort (s : State) : Bool :=
  (List.range 13).any fun g =>
    decide (((sensorGroup g).filter fun n => !(s.sensor n).excluded).length < (if g < 12 then 8 else 4))

/-- TEMP_MAX shows the highest admitted reading and rise (R384), and RISE_WARN and RISE_ACT are set as the rise crosses their limits (R387)
(DEDUCED, log 122). -/
def showTmax (s : State) : State :=
  let ns := (List.range 200).filter fun n => !(s.sensor n).excluded
  match ns with
  | [] => s
  | n0 :: rest =>
    let hot := rest.foldl (fun b n => if (s.sensor b).now < (s.sensor n).now then n else b) n0
    let was := s.rise
    let r := ns.foldl (fun m n => max m (s.sensor n).riseTenths) 0
    let s := ((s.wrInt R.TEMP_MAX_MAX 0 (s.sensor hot).now).wr R.TEMP_MAX_SENSOR 0 hot).wr R.TEMP_MAX_RISE 0 r
    let s := if was < 20 ∧ 20 ≤ r then s.raise R.PWR_EVT_RISE_WARN 0 else s
    if was < 50 ∧ 50 ≤ r then s.raise R.PWR_EVT_RISE_ACT 0 else s

/-- The thermal limits decide (R383, R388). -/
def thermalStops (s : State) : State :=
  let t := s.tmax
  let p := s.power
  if (p = psActive ∨ p = psStopping) ∧ 115 * 16 ≤ t then immediateStop s
  else if p = psActive ∧ 110 * 16 ≤ t then (if s.rise < 20 then orderlyStop s 1 else immediateStop s)
  else if p = psActive ∧ s.sensorsShort then orderlyStop s 3
  else s

/-- The time since which Tmax has been at or below T_RESUME (R391). -/
def watchCool (s : State) : State :=
  if s.power = psStopped ∧ s.tmax ≤ s.tResume then s.putPwr { s.pwr with coolAt := some (s.pwr.coolAt.getD s.now) }
  else s.putPwr { s.pwr with coolAt := none }

/-- The mean reading of a group, rounded to nearest (R144, R199). -/
def State.groupMean (s : State) (g : Nat) : Int := idivRne ((sensorGroup g).map fun n => (s.sensor n).now).sum 16

/-! ### Feed-forward -/

/-- The change of a sensor since its last reading, in units of 1/16 °C. -/
def Sensor.delta (x : Sensor) : Int := (x.past[1]?.map fun t => x.now - t).getD 0

/-- The slope of a sensor over the last 50 µs exceeds FF_RISE (R168, R196): a change of d sixteenths of a degree is 12.5 d tenths of a degree per ms. A fall
counts as a rise does (DEDUCED, log 55). -/
def Sensor.steep (x : Sensor) (ffRise : Nat) : Bool :=
  decide (2 * max 1 ffRise < 25 * (x.past[5]?.map fun t => (x.now - t).natAbs).getD 0)

/-- The feed-forward step of one ring (R168): −179 codes per °C of its estimated change. -/
def State.ffStep (s : State) (k i : Nat) : Int :=
  let est : Rat := ((List.range 16).map fun n => Config.ringWeight k i n * (((s.sensor (128 + 16 * k + n)).delta : Int) : Rat)).sum
  ratRne (-179 * est / 16)

/-- Every ring of chiplet `k` is moved by feed-forward (R168) (DEDUCED, log 143). -/
def moveRings (s : State) (k : Nat) : State :=
  s.each ((s.rings.filter fun e => e.1 / 2048 == k).map fun e => e.1 % 2048) fun s i =>
    let r := s.ring k i
    let moved (c : Nat) : Nat := (max 0 (min 65535 ((c : Int) + s.ffStep k i))).toNat
    s.putRing k i { r with heater := moved r.heater, home := moved r.home }

/-- Feed-forward ends after 200 µs without a steep slope, and the step check begins (R168, R170). -/
def feedForwardQuiet (s : State) (k : Nat) : State :=
  let f := s.ringWork k
  let from_ := f.quietAt.getD s.now
  if s.passed from_ (200 * usec) then
    let todo := (s.rings.filter fun e => e.1 / 2048 == k && (e.2.st == rgLocked || e.2.st == rgParked)).map fun e => e.1 % 2048
    let s := (s.wr R.RING_STAT_FF_ACTIVE k 0).wr R.RING_STAT_STEP_CHECK k 1
    showStepCheck (putRingWork s k { f with quietAt := none, toCheck := todo }) k
  else putRingWork s k { f with quietAt := some from_ }

/-- Feed-forward of chiplet `k` at one reading of its sensors (R168): it begins, moves the rings, and ends. With FF_EN clear it does not
run. -/
def feedForward (s : State) (k : Nat) : State :=
  let steep := (sensorGroup (8 + k)).any fun n => (s.sensor n).steep (s.rd R.RING_CFG_FF_RISE 0)
  if !s.on R.RING_CFG_FF_EN 0 then putRingWork (s.wr R.RING_STAT_FF_ACTIVE k 0) k { s.ringWork k with quietAt := none }
  else
    let s := if steep && !s.on R.RING_STAT_FF_ACTIVE k then (s.wr R.RING_STAT_FF_ACTIVE k 1).raise R.RING_EVT_STEP k else s
    if !s.on R.RING_STAT_FF_ACTIVE k then s else
    let s := moveRings s k
    if steep then putRingWork s k { s.ringWork k with quietAt := none } else feedForwardQuiet s k

/-! ### Triggers by temperature -/

/-- How many whole multiples of `d` a difference exceeds. -/
def exceeds (d : Nat) (diff : Int) : Nat := (diff.natAbs - 1) / max 1 d

/-- The mean of chiplet `k` is read (R142, R144): a move beyond DT_TRIG since the last swap starts a trim, each further multiple restarts it in REBUILD
(DEDUCED, log 56); more than 10 °C since the last crosstalk rebuild starts another. -/
def chipTemp (s : State) (k : Nat) (mean : Int) : State :=
  let cal := s.rdInt R.MESH_TEMP_CAL_MEAN k
  let was := exceeds (s.meshDtTrig k) (s.rdInt R.MESH_TEMP_MEAN k - cal)
  let is := exceeds (s.meshDtTrig k) (mean - cal)
  let s := s.wrInt R.MESH_TEMP_MEAN k mean
  if !s.dutiesRun then s else
  let c := s.chip k
  let drifted := c.xtDone && decide (160 < (mean - c.xtMean).natAbs ∧ c.work ≠ MeshWork.xtalk)
  if drifted && (s.meshState k == msService || s.meshState k == msUnused) then startXtalk s k
  else if s.meshState k = msService && decide (0 < is) || s.meshState k = msRebuild && decide (was < is) then startTrim s k
  else s

/-- The mean of quadrant `q` is read (R199, R202). -/
def quadTempRead (s : State) (q : Nat) (mean : Int) : State :=
  let s := s.wrInt R.QCAL_TEMP_MEAN q mean
  if s.dutiesRun && s.tempMet q then triggerRun s q runTemp else s

/-- Firmware acts on the sensors (R142, R144, R202, R209). -/
def actOnSensors (s : State) : State :=
  let s := s.each (List.range 8) fun s q => if s.halfOn (q / 4) then quadTempRead s q (s.groupMean q) else s
  let s := s.each chipNums fun s k =>
    if s.halfOn (halfOfChip k) then chipTemp s k (s.groupMean (8 + k)) else s
  if s.rd R.CAL_STAT_FIRST 0 = 3 then hwTick s else s

/-- Feed-forward runs on every chiplet that is switched on, whatever the power state (R168); firmware duties pause during a takeover
(R322). -/
def feedForwardAll (s : State) : State :=
  if !s.dutiesRun then s else s.each chipNums fun s k => if s.halfOn (halfOfChip k) then feedForward s k else s

/-- All sensors are read (R382): their readings, in units of 1/16 °C, by number. -/
def sensorRead (s : State) (temps : List Int) : State :=
  let s := s.each (List.range 200) fun s n =>
    let x := s.sensor n
    s.putSensor n { x with past := (temps.getD n 0 :: x.past).take 11 }
  let s := feedForwardAll (watchCool (thermalStops (showTmax (s.each (List.range 13) judgeGroup))))
  if s.power = psActive then actOnSensors s else s

/-- Every 10 µs all sensors are read, in every power state but POWER_FAIL (R382) (DESIGN CHOICE, log 188). -/
def execSensorRead (temps : List Int) (s : State) : Out :=
  .next (if s.power = psFail || s.pwr.off then s else sensorRead s temps)

end Sys2Proof.Machine
end

