-- ==== Sys2Proof/Machine/Bus.lean ====
section
/-! DEFINITION. Machine/Bus.lean: what a host access to a register word does: the visible value of every register (R298, R301), the effects of
reading and writing it (R11, R296, R297, R300), the data windows, the alias region (R302), and the indirect window (R299). -/

namespace Sys2Proof.Machine

/-! ### Computed values -/

/-- The word RING_DATA shows of ring `i` of chiplet `k` (R193). -/
def State.ringWord (s : State) (k i : Nat) : Word :=
  if 1583 < i then 0 else
  let r := s.ring k i
  BitVec.ofNat 32 (r.assign + 2 ^ 5 * r.st + 2 ^ 8 * r.heater + 2 ^ 24 * (r.tone % 16) + 2 ^ 28 * r.toneOk.toNat)

/-- The state CIRC_DATA shows of a lane (R172, R194): tuning takes 13 µs before training, and a lane drains for 100 ns before it parks. -/
def State.laneState (s : State) (x : Lane) : Nat :=
  if x.st = lnTuning ∧ s.passed x.at_ (13 * usec) then lnTrain
  else if x.st = lnParking ∧ ¬ s.passed x.at_ 30 then lnDrain
  else x.st

/-- The word CIRC_DATA shows of lane `l` of chiplet `k` (R194). -/
def State.laneWord (s : State) (k l : Nat) : Word :=
  let x := s.lane k l
  let wave := if x.st = lnIdle then 0 else x.wave
  BitVec.ofNat 32 (s.laneState x + 2 ^ 3 * x.column + 2 ^ 7 * wave + 2 ^ 11 * x.bridge + 2 ^ 14 * x.ext.toNat)

/-- The word MON_DATA shows of monitor `i` of chiplet block `k` (R180, R195). -/
def State.monWord (s : State) (k i : Nat) : Word :=
  if 114 < i ∨ (k ≠ 0 ∧ (i = 105 ∨ i = 106)) then 0 else
  let m := s.mon k i
  BitVec.ofNat 32 ((m.power % 65536).toNat + 65536 * ((m.lock.getD 0) % 65536).toNat)

/-- The word TEMP_DATA shows of sensor `n` (R395): zero before its first reading. -/
def State.tempWord (s : State) (n : Nat) : Word :=
  let x := s.sensor n
  if 199 < n ∨ x.past.isEmpty then 0
  else BitVec.ofNat 32 ((x.now % 65536).toNat + 2 ^ 16 * x.riseTenths + 2 ^ 24 * (!x.excluded).toNat)

/-- The word PT_DATA shows of a page-table entry (R343). -/
def State.ptWord (s : State) (j i : Nat) : Word :=
  let p := s.pte j i
  BitVec.ofNat 32 (p.ppn % 4096 + 2 ^ 12 * p.v.toNat + 2 ^ 13 * p.r.toNat + 2 ^ 14 * p.w.toNat + 2 ^ 15 * p.clr.toNat)

/-- The word of BRIDGE_STAT_b (R196). -/
def State.bridgeWord (s : State) (b : Nat) (w : Word) : Word :=
  let w := withField 0 4 (withField 4 4 w (s.circuits b true)) (s.circuits b false)
  withField 8 7 w (min 100 (32 * s.transfersAt (.bridge b) * 100 / 65536))

/-- An instant lies within the last `d`. -/
def State.within (s : State) (t : Option Nat) (d : Nat) : Bool := (t.map fun t => !s.passed t d).getD false

/-- The word of RX_STAT_p (R286). -/
def State.rxWord (s : State) (p : Nat) (w : Word) : Word := withField 0 1 w (s.within (spGet (fun _ => none) s.rxAt p) msec).toNat

/-- The word of STREAM_STAT_s (R286). -/
def State.streamWord (s : State) (st : Nat) : Word :=
  BitVec.ofNat 32 (maskOf (s.boundJobs st) + 65536 * (s.within (s.ing st).lineAt (10 * msec)).toNat)

/-- The word of TX_STAT_t (R286). -/
def State.txWord (s : State) (t : Nat) (w : Word) : Word := withField 8 8 (withField 0 1 w (s.txBusy t).toNat) (s.txLoad t)

/-- The value a register word shows now: stored, or computed from the rest of the state; the entry a data window reaches. -/
def State.view (s : State) (r : RegSpec) (key : Nat) : Word :=
  let w := s.word key
  let i := r.outer key
  match r.base with
  | 0x14 => s.evtSum
  | 0x24 => s.bus.fetched.getD 0
  | 0x28 => withField 0 1 w (!s.bus.indQueue.isEmpty).toNat
  | 0x10880 => s.mbxBusy
  | 0x10884 => s.mbxDoneWord
  | 0x20404 => s.ptWord (s.rd R.PT_ADDR_JOB 0) (s.rd R.PT_ADDR_INDEX 0)
  | 0x4003C =>
    let ix := s.rd R.MESH_TBL_ADDR_INDEX i
    let area := s.rd R.MESH_TBL_ADDR_AREA i
    if ix < areaSize area then s.meshTblAt i (s.rd R.MESH_TBL_ADDR_BANK i) area ix else 0
  | 0x4100C => s.ringWord i (s.rd R.RING_ADDR_INDEX i)
  | 0x41014 => s.laneWord i (s.rd R.CIRC_ADDR_LANE i)
  | 0x41028 => s.monWord i (s.rd R.MON_ADDR_INDEX i)
  | 0x41414 => withField 8 4 w s.bridgesUp
  | 0x41420 => s.bridgeWord i w
  | 0x60040 => s.rxWord i w
  | 0x60200 => s.streamWord i
  | 0x60510 => s.txWord i w
  | 0x60900 => BitVec.ofNat 32 s.tb.toNat
  | 0x60904 => BitVec.ofNat 32 (s.tb.toNat / 2 ^ 32)
  | 0x60938 => BitVec.ofInt 32 s.encSpeed
  | 0x71034 => s.tempWord (s.rd R.TEMP_ADDR_INDEX 0)
  | 0x72018 => s.nvRawWord (s.rd R.NV_RAW_ADDR_AREA 0) (s.rd R.NV_RAW_ADDR_INDEX 0) (s.rd R.NV_RAW_ADDR_OFFSET 0 / 4 * 4)
  | 0x73000 => withField 5 1 w s.releasable.toNat
  | 0x73028 => withField 0 16 w (s.sineAt (s.rd R.SINE_TBL_ADDR_INDEX 0) % 65536).toNat
  | 0x4100034 =>
    let ix := s.rd R.TCAL_ADDR_INDEX i
    if ix < 282 then s.tcalAt i (s.rd R.TCAL_ADDR_BANK i) ix else 0
  | _ => w

/-! ### The data windows -/

/-- The index of a window advances by `n` when its AINC is set. -/
def stepIndex (s : State) (ix ainc : Fld) (i n : Nat) : State := if s.on ainc i then s.wr ix i (s.rd ix i + n) else s

/-- An access of a data window advances its index (R154, R193, R220, R395, R426); PT_DATA and NV_RAW_DATA do so on a read (R343, R410). -/
def windowStep (s : State) (r : RegSpec) (key : Nat) (read : Bool) : State :=
  let i := r.outer key
  match r.base with
  | 0x4003C => stepIndex s R.MESH_TBL_ADDR_INDEX R.MESH_TBL_ADDR_AINC i 1
  | 0x4100C => stepIndex s R.RING_ADDR_INDEX R.RING_ADDR_AINC i 1
  | 0x71034 => stepIndex s R.TEMP_ADDR_INDEX R.TEMP_ADDR_AINC 0 1
  | 0x73028 => stepIndex s R.SINE_TBL_ADDR_INDEX R.SINE_TBL_ADDR_AINC 0 1
  | 0x4100034 => stepIndex s R.TCAL_ADDR_INDEX R.TCAL_ADDR_AINC i 1
  | 0x20404 => if read then stepIndex s R.PT_ADDR_INDEX R.PT_ADDR_AINC 0 1 else s
  | 0x72018 => if read then stepIndex s R.NV_RAW_ADDR_OFFSET R.NV_RAW_ADDR_AINC 0 4 else s
  | _ => s

/-- A write of a word of which only the bits `mask` are not reserved (R296): the word stored, and whether RSV_WR is set. -/
def State.reservedWrite (s : State) (mask old v : Word) : Word × Bool :=
  if s.sysState = stTest then (v, false)
  else ((old &&& ~~~mask) ||| (v &&& mask), decide ((old ^^^ v) &&& ~~~mask ≠ 0))

/-- The bits of an entry of a chiplet's table that are not reserved (R154). -/
def meshEntryMask (area : Nat) : Word :=
  match area with
  | 0 => 0xFFFF
  | 1 => 0xFF_FFFF
  | _ => 0x3FF

/-- A write of MESH_TBL_DATA of chiplet `k` (R154): ignored for the bank in service and beyond the area. -/
def meshTblWrite (s : State) (k : Nat) (v : Word) : State :=
  let ix := s.rd R.MESH_TBL_ADDR_INDEX k
  let area := s.rd R.MESH_TBL_ADDR_AREA k
  let bank := s.rd R.MESH_TBL_ADDR_BANK k
  if ix < areaSize area ∧ bank ≠ s.meshBank k then
    let w := s.reservedWrite (meshEntryMask area) (s.meshTblAt k bank area ix) v
    let s := s.putMeshTbl k bank area ix w.1
    if w.2 then s.raise R.SYS_EVT_RSV_WR 0 else s
  else s

/-- The bits of a correction-table entry (R224). -/
def tcalMask (ix : Nat) : Word := if ix < 276 then 0xFFFF_FFFF else 0xFFFF

/-- A write of TCAL_DATA of tile `t` (R224): ignored for the bank in service, while the tile is MEASURING or HOLDING, and beyond the table. -/
def tcalWrite (s : State) (t : Nat) (v : Word) : State :=
  let ix := s.rd R.TCAL_ADDR_INDEX t
  let bank := s.rd R.TCAL_ADDR_BANK t
  if ix < 282 ∧ bank ≠ s.bankOf t ∧ s.rd R.TCAL_STAT_TABLE t = tbServing then s.putTcal t bank ix (v &&& tcalMask ix) else s

/-- A write of SINE_TBL_DATA (R426). -/
def sineWrite (s : State) (r : RegSpec) (key : Nat) (v : Word) : State :=
  let i := s.rd R.SINE_TBL_ADDR_INDEX 0 % 1024
  let s := writeBits s r key r.rsvMask v false
  s.setPlant { s.plant with sine := spSet sineReset s.plant.sine i (toSigned 16 (fieldOf 0 16 v)) }

/-! ### Reading -/

/-- A read of a register word (R11, R295, R301): what it shows, and its effects. -/
def readPlain (s : State) (r : RegSpec) (key : Nat) : Word × State :=
  if s.gated key then (0, s) else
  let s := if r.base = 0x72018 then nvAdvance s else s
  let v := s.view r key
  (v, windowStep (readEffect s r key v) r key true)

/-- A read of a direct register word: the high word of a 64-bit value comes from its shadow when the low word was read before (R298). -/
def readDirect (s : State) (r : RegSpec) (key : Nat) : Word × State :=
  if s.gated key then (0, s)
  else if isWideLo key then
    let hi := ((findReg (key + 4)).map fun r => s.view r (key + 4)).getD 0
    let x := readPlain s r key
    (x.1, x.2.setShadow (spSet (fun _ => none) x.2.shadow (key + 4) (some hi)))
  else if isWideHi key then
    match spGet (fun _ => none) s.shadow key with
    | some hi => (hi, s.setShadow (spSet (fun _ => none) s.shadow key none))
    | none => readPlain s r key
  else readPlain s r key

/-- The registers of the alias region, by alias index (R302). -/
def aliasKeys : List Nat :=
  [0x8, 0xC, 0x14, 0x18, 0x10884, 0x10880, 0x5000C, 0x51004, 0x60080, 0x60920] ++ (List.range 4).map (R.MESH_EVT.key · 0) ++
    (List.range 4).map (R.RING_EVT.key · 0) ++ (List.range 4).map (R.LINK_EVT.key · 0) ++ [0x40800, 0x41410, 0x50000, 0x41400, 0x51000, 0x41414]

/-- The register selected by an alias index. -/
def aliasReg (k : Nat) : Option (Nat × RegSpec) := aliasKeys[k]?.bind fun key => (findReg key).map fun r => (key, r)

/-- A read of the alias of bit `b` of the register with alias index `k` (R302): an rc or rs bit clears alone, under the rules of R11. -/
def aliasRead (s : State) (k b : Nat) : Word × State :=
  match aliasReg k with
  | none => (0, s)
  | some (key, r) =>
    if s.gated key then (0, s) else
    let v := s.view r key
    let m := s.clearMask r &&& fieldMask b 1
    (if bitOf v b then 1 else 0, if m = 0 then s else s.setWord key (clearTo r (s.word key) m))

/-! ### The indirect window -/

/-- A fetch of the word IND_ADDR names begins (R299): it takes the place of one still in progress. -/
def startFetch (s : State) : State :=
  let op : IndOp := ⟨false, s.rd R.IND_ADDR_DOMAIN 0, s.rd R.IND_ADDR_OFFSET 0 / 4 * 4, 0, false⟩
  s.setBus { s.bus with fetched := none, indQueue := s.bus.indQueue.filter IndOp.write ++ [op] }

/-- A read of IND_DATA (R299): the fetched word, none while the fetch is not complete; with AINC the next fetch begins. -/
def indRead (s : State) : Option Word × State :=
  match s.bus.fetched with
  | none => (none, s)
  | some v =>
    (some v, if s.on R.IND_ADDR_AINC 0 then startFetch (s.wr R.IND_ADDR_OFFSET 0 (s.rd R.IND_ADDR_OFFSET 0 + 4)) else s)

/-- A write of IND_DATA is posted (R299); with AINC the offset advances. -/
def indPost (s : State) (v : Word) (keyWasOpen : Bool) : State :=
  let op : IndOp := ⟨true, s.rd R.IND_ADDR_DOMAIN 0, s.rd R.IND_ADDR_OFFSET 0 / 4 * 4, v, keyWasOpen⟩
  let s := s.setBus { s.bus with indQueue := s.bus.indQueue ++ [op] }
  stepIndex s R.IND_ADDR_OFFSET R.IND_ADDR_AINC 0 4

/-- A direct address reaches a register or memory of the map (R303). -/
def State.readWord (s : State) (a : Nat) : Option Word × State :=
  if a = 0x24 then indRead s
  else if 0x100000 ≤ a ∧ a < 0x140000 then (some (s.nvWord (a - 0x100000)), s)
  else if 0x800000 ≤ a ∧ a < 0x804000 then
    let x := aliasRead s ((a - 0x800000) / 0x80) ((a - 0x800000) % 0x80 / 4)
    (some x.1, x.2)
  else
    match findReg a with
    | some r => if halfStep ≤ a then (some 0, s) else
        let x := readDirect s r a
        (some x.1, x.2)
    | none => (some 0, s)

/-- The registers that can be reached before firmware is in service (R293): SYS_ID, SYS_STAT and SYS_EVT. -/
def State.reachable (s : State) (a : Nat) : Bool := s.on R.SYS_STAT_BOOT_DONE 0 || a == 0 || a == 4 || a == 8

/-- A host read of the direct address `a`: none where a fetch is not complete (R299). -/
def hostRead (s : State) (a : Nat) : Option Word × State := if s.reachable a then s.readWord a else (some 0, s)

/-! ### Writing -/

/-- The jobs bound to a stream of receive port `p`, or an arm that names it, put the port in use (R370). -/
def State.rxInUse (s : State) (p : Nat) : Bool :=
  ((List.range 4).any fun v => !(s.boundJobs (4 * p + v)).isEmpty) || (s.armFor p).isSome

/-- Transmit port `t` is in use (R370): the record channel uses it, or an output stream of a job not EMPTY is mapped to it. -/
def State.txInUse (s : State) (t : Nat) : Bool :=
  s.recPort.1 == t || (List.range 128).any fun n => s.mappedTo n t && (s.job (n / 8)).admitted

/-- A block in use would be gated by the word `v` (R370). -/
def State.gatesInUse (s : State) (v : Word) : Bool :=
  let old := s.word (R.CLK_EN.key 0 0)
  let gates (b : Nat) : Bool := bitOf old b && !bitOf v b
  ((List.range 12).any fun p => gates p && s.rxInUse p) || ((List.range 4).any fun t => gates (12 + t) && s.txInUse t) ||
    (gates 18 && s.anyStarted)

/-- A receive port hears nothing of the frames in progress: it waits for a Frame Start (R370). -/
def rxForget (s : State) (p : Nat) : State :=
  s.each (List.range 4) fun s v => s.putIng (4 * p + v) { s.ing (4 * p + v) with inFrame := false, expected := none, pendingLine := none }

/-- What gating or enabling block `b` of CLK_EN does (R370). -/
def blockEffect (s : State) (b : Nat) (on_ : Bool) : State :=
  if b < 12 then (if on_ then s else rxForget s b)
  else if b < 16 then (if on_ then sendSkew s (b - 12) else s)
  else if b = 16 then (if on_ then ainRestartAll s else ainGate s)
  else if b = 17 then (if on_ then s.each (List.range 8) showAout else clearAll s)
  else if b = 19 then (if on_ then s else markFlushAll s)
  else s

/-- A write of CLK_EN (R370): ignored with GATE_REJ when it would gate a block in use. -/
def clkEnWrite (s : State) (r : RegSpec) (key : Nat) (v : Word) : State :=
  if s.gatesInUse v then s.raise R.CLK_EVT_GATE_REJ 0
  else
    let old := s.word key
    let s := writeWhole s r key v false
    let new := s.word key
    s.each (List.range 21) fun s b => if bitOf old b == bitOf new b then s else blockEffect s b (bitOf new b)

/-- A write of HALF_CFG (R188, R196): with the key open a CAPTAIN is ignored while an admitted job declares a reduced form
(DEDUCED, log 76). -/
def halfCfgWrite (s : State) (r : RegSpec) (key : Nat) (v : Word) (keyWasOpen : Bool) : State :=
  if keyWasOpen && s.reducedDeclared then (writeBits s r key 0xFFFF_FFFE v true).wr R.HALF_STAT_CAPTAIN_REJ 0 1
  else writeWhole s r key v keyWasOpen

/-- A write of BRIDGE_CFG_b (R189, R196): ignored while an admitted job's placement names the bridge. -/
def bridgeCfgWrite (s : State) (r : RegSpec) (key : Nat) (b : Nat) (v : Word) (keyWasOpen : Bool) : State :=
  if s.bridgeNamed b then s
  else if keyWasOpen then
    routeBridge (writeBits s r key 0xFFFF_FFFC v true) b (fieldOf 0 1 v) (fieldOf 1 1 v)
  else writeWhole s r key v false

/-- A write of STREAM_CFG_s (R260): ignored with CFG_REJ while a job is bound, else buffered to the next Frame Start. -/
def streamCfgWrite (s : State) (r : RegSpec) (key : Nat) (st : Nat) (v : Word) : State :=
  if (s.boundJobs st).isEmpty then writeWhole s r key v false else s.raiseRx R.RX_EVT_CFG_REJ (st / 4)

/-- A write of OUT_MAP_n (R266): ignored with CFG_REJ while its job runs. -/
def outMapWrite (s : State) (r : RegSpec) (key : Nat) (n : Nat) (v : Word) : State :=
  if (s.job (n / 8)).started then s.raise R.RX_EVT_CFG_REJ 0 else applyOutMap (writeWhole s r key v false) n

/-- A write of FEED_CFG (R127, R156): one that takes effect moves the selector. -/
def feedCfgWrite (s : State) (r : RegSpec) (key : Nat) (v : Word) (keyWasOpen : Bool) : State :=
  let s := writeWhole s r key v keyWasOpen
  if keyWasOpen then feedCfgEffect s else s

/-- A write of TB_SYNC_LO is held until TB_SYNC_HI is written (R286). -/
def tbSyncLoWrite (s : State) (r : RegSpec) (key : Nat) (v : Word) : State :=
  let s := writeWhole s r key v false
  s.setTime { s.time with syncHeld := some v }

/-- The jobs that have a pair placed on tile `t` (R78). -/
def State.pairJobs (s : State) (t : Nat) : List Nat :=
  jobNums.filter fun j => (s.job j).placed.any fun p => p.pair && (p.tile :: p.old.toList).any fun u => (span u true).contains t

/-- Firmware reads back the buffered slice settings of a pair it placed (R78): a difference from the placement recovers the jobs on it as a
TILE fault, without PAIR_ERR, and SLICE is written as placed before any product runs (DEDUCED, log 161). -/
def sliceCheck (s : State) (t : Nat) : State :=
  let js := s.pairJobs t
  let e := t - t % 2
  if js.isEmpty || (s.rd R.TILE_CFG_SLICE e = 1 && s.rd R.TILE_CFG_SLICE (e + 1) = 2) then s
  else faultAll ((s.wr R.TILE_CFG_SLICE e 1).wr R.TILE_CFG_SLICE (e + 1) 2) js ⟨fcTile, false, 1, e, .tile e⟩

/-- The registers of tile `t` are written (R66, R76, R88): buffered to its next batch boundary. -/
def tileWrite (s : State) (r : RegSpec) (key : Nat) (t : Nat) (v : Word) : State := sliceCheck (writeWhole s r key v false) t

/-- A write of a MESH operator entry of chiplet `k` (R155): at once in UNUSED. -/
def meshOpWrite (s : State) (r : RegSpec) (key : Nat) (k : Nat) (v : Word) : State :=
  let s := writeWhole s r key v false
  if s.meshState k = msUnused then applyMeshOps s k else s

/-- A write of RX_CFG_p: a port disabled hears nothing of the frames in progress (log 58). -/
def rxCfgWrite (s : State) (r : RegSpec) (key : Nat) (p : Nat) (v : Word) : State :=
  let s := writeWhole s r key v false
  if s.on R.RX_CFG_EN p then s else rxForget s p

/-- A write of a register word that the map assigns, with all its effects. `keyWasOpen` says that the key was open for it (R297). -/
def writeReg (s : State) (r : RegSpec) (key : Nat) (v : Word) (keyWasOpen : Bool) : State :=
  if s.gated key then s else
  let i := r.outer key
  let whole := writeWhole s r key v keyWasOpen
  match r.base with
  | 0x20 => startFetch whole
  | 0x24 => indPost s v keyWasOpen
  | 0x10000 => mbxReqWrite s i (r.inner key) v
  | 0x10800 => mbxDoor s i v
  | 0x4000C =>
    let s := if bitOf v 0 then trimStart s i else s
    if bitOf v 1 then xtStart s i else s
  | 0x4003C => windowStep (meshTblWrite s i v) r key false
  | 0x40040 => meshOpWrite s r key i v
  | 0x40044 => meshOpWrite s r key i v
  | 0x40800 => feedCfgWrite s r key v keyWasOpen
  | 0x4100C => windowStep s r key false
  | 0x41410 => halfCfgWrite s r key v keyWasOpen
  | 0x41460 => bridgeCfgWrite s r key i v keyWasOpen
  | 0x50010 => whole.each (List.range 8) fillReserve
  | 0x60000 => rxCfgWrite s r key i v
  | 0x60100 => streamCfgWrite s r key i v
  | 0x60500 => applyTx whole i
  | 0x60600 => outMapWrite s r key i v
  | 0x60908 => tbCfgEffect whole
  | 0x60910 => tbSyncLoWrite s r key v
  | 0x60914 => tbSyncHiEffect whole
  | 0x70008 => if bitOf v 1 then startReturn whole else whole
  | 0x70014 => clkEnWrite s r key v
  | 0x70018 => whole.putClk { whole.clk with obs := true }
  | 0x71008 => if bitOf v 16 then commandReturn whole else whole
  | 0x71034 => windowStep s r key false
  | 0x71038 => if bitOf v 9 then commandResume whole else whole
  | 0x73008 =>
    let s := if bitOf v 0 then plantRelease s else s
    if bitOf v 1 then loadStrobe s else s
  | 0x73010 => ainBufEffect whole (s.on R.AIN_BUF_CFG_EN 0)
  | 0x73028 => windowStep (sineWrite s r key v) r key false
  | 0x73100 => ainCfgEffect whole i
  | 0x73204 => aoutCodeEffect whole i (s.word key)
  | 0x73208 => if keyWasOpen then aoutClearEffect whole i else whole
  | 0x4080018 => if bitOf v 0 then triggerRun s i runCmd else s
  | 0x4100000 => tileWrite s r key i v
  | 0x4100040 => tileWrite s r key i v
  | 0x4100080 => tileWrite s r key i v
  | 0x4100034 => windowStep (tcalWrite s i v) r key false
  | _ => whole

/-- The access type of bit `b` of a register. -/
def RegSpec.accAt (r : RegSpec) (b : Nat) : Option Acc := (r.fields.find? fun f => decide (f.lo ≤ b ∧ b < f.lo + f.w)).map (·.acc)

/-- A write of bit 0 of the alias of bit `b` (R302): it sets an rw bit, counts as a keyed write of a wk bit, and is ignored for ro, rc and rs bits. -/
def aliasWrite (s : State) (k b : Nat) (v : Word) (keyWasOpen : Bool) : State :=
  match aliasReg k with
  | none => s
  | some (key, r) =>
    let w := withField b 1 (s.word key) (fieldOf 0 1 v)
    match r.accAt b with
    | some .rw => writeReg s r key w false
    | some .wk => writeReg s r key w keyWasOpen
    | some .wo => if bitOf v 0 then writeReg s r key w keyWasOpen else s
    | _ => s

/-- A write that no register takes: BAD_ADDR (R301; DEDUCED, log 153). -/
def badAddr (s : State) : State := s.raise R.SYS_EVT_BAD_ADDR 0

/-- A write of the direct address `a`. -/
def State.writeWord (s : State) (a : Nat) (v : Word) (keyWasOpen : Bool) : State :=
  if 0x100000 ≤ a ∧ a < 0x140000 then nvWrite s (a - 0x100000) v
  else if 0x800000 ≤ a ∧ a < 0x804000 then aliasWrite s ((a - 0x800000) / 0x80) ((a - 0x800000) % 0x80 / 4) v keyWasOpen
  else
    match findReg a with
    | some r => if halfStep ≤ a then badAddr s else writeReg s r a v keyWasOpen
    | none => badAddr s

/-- The key of R297. -/
abbrev keyValue : Word := 0x4B54_0640

/-- A host write of the direct address `a` (R293, R297): KEY_UNLOCK opens or closes the key, any other write closes it. -/
def hostWrite (s : State) (a : Nat) (v : Word) : State :=
  if !s.reachable a then s
  else if a = 0x10 then setKey s (v == keyValue)
  else (setKey s false).writeWord a v s.keyOpen

/-! ### Behind the indirect window -/

/-- The half of domain `d` can be reached (R299): it is switched on and its sideband is present. -/
def State.halfReached (s : State) (d : Nat) : Bool := s.halfOn d && s.on (sidebandFld d) 0

/-- An access of the indirect window fails (R299). -/
def indFails (s : State) : State := (s.wr R.IND_STAT_ERR 0 1).raise R.SYS_EVT_IND_ERR 0

/-- The key of a half's register by domain and offset. -/
def indKey (d off : Nat) : Nat := halfStep * (d + 1) + off

/-- A read through the indirect window (R299): domains 0 and 1 are the halves, domain 2 hub staging memory. No latch exists there (R298). -/
def indFetch (s : State) (d off : Nat) : Word × State :=
  if d < 2 then
    if s.halfReached d then
      match findReg (indKey d off) with
      | some r => readPlain s r (indKey d off)
      | none => (0, s)
    else (0, indFails s)
  else if d = 2 ∧ off < 0x2000000 then (BitVec.ofNat 32 (leNat (s.stBytes off 4)), s)
  else (0, indFails s)

/-- A write through the indirect window (R299): domain 2 is read only. -/
def indWrite (s : State) (d off : Nat) (v : Word) (keyWasOpen : Bool) : State :=
  if d < 2 && s.halfReached d then
    match findReg (indKey d off) with
    | some r => writeReg s r (indKey d off) v keyWasOpen
    | none => badAddr s
  else indFails s

/-- The oldest access of the indirect window completes (R299) (DEDUCED, log 137). -/
def indDone (s : State) : State :=
  match s.bus.indQueue with
  | [] => s
  | op :: rest =>
    let s := s.setBus { s.bus with indQueue := rest }
    if op.write then indWrite s op.domain op.offset op.data op.keyOpen
    else
      let x := indFetch s op.domain op.offset
      x.2.setBus { x.2.bus with fetched := some x.1 }

/-- What the host was given by its last read. -/
def gave (s : State) (v : Word) : State := s.setBus { s.bus with lastRead := leBytes 4 v.toNat }

/-- A host read of a register word by its key: of the direct space, or of a half through the indirect window. -/
def keyRead (s : State) (key : Nat) : State :=
  if key < halfStep then
    match hostRead s key with
    | (some v, s) => gave s v
    | (none, s) => s
  else if s.on R.SYS_STAT_BOOT_DONE 0 then
    let x := indFetch s (key / halfStep - 1) (key % halfStep)
    gave x.2 x.1
  else s

/-- A host write of a register word by its key. -/
def keyWrite (s : State) (key : Nat) (v : Word) : State :=
  if key < halfStep then hostWrite s key v
  else if s.on R.SYS_STAT_BOOT_DONE 0 then indWrite (setKey s false) (key / halfStep - 1) (key % halfStep) v s.keyOpen
  else s

/-- An access of a data window: a write of a word, or a read. -/
def windowAccess (s : State) (key : Nat) (w : Option Word) : State :=
  match w with
  | some v => keyWrite s key v
  | none => keyRead s key

end Sys2Proof.Machine
end

