-- ==== Sys2Proof/Machine/I3c.lean ====
section
/-! DEFINITION. Machine/I3c.lean: the I3C target (R287 to R293): common command codes, private transfers, HDR-DDR, in-band interrupts and hot-join. -/

namespace Sys2Proof.Machine

/-- Replaces the record of the bus. -/
def State.putBus (s : State) (v : Bus) : State := s.setBus v

/-- The target logic runs: from 2 ms after power-on reset ends, on powered hardware. -/
def State.targetUp (s : State) : Bool := !s.pwr.off && decide (2 * msec ≤ s.now)

/-- The module instance, from the pads (R287, R440). -/
def instanceNo : Nat := Config.i3cPads % 16

/-- An SDR command reaches the running target: HDR mode has been left. Every such command ends it (PRESUMED, log 59). -/
def sdr (s : State) (acked : Bool) : State := s.putBus { s.bus with hdr := false, acked := acked }

/-- A broadcast command code reaches the target. -/
def broadcast (s : State) (f : State → State) : State := if s.targetUp then f (sdr s true) else s

/-- A directed command code reaches the target: it is acknowledged when the target has a dynamic address. -/
def directed (s : State) (f : State → State) : State :=
  if !s.targetUp then s else if s.bus.dynAddr.isSome then f (sdr s true) else sdr s false

/-- A command code is answered. -/
def answer (s : State) (bs : List Byte) : State := s.putBus { s.bus with lastCcc := bs }

/-- The `n` bytes of a number, most significant first. -/
def beBytes (n v : Nat) : List Byte := (leBytes n v).reverse

/-! ### In-band interrupts -/

/-- An IBI is pending (R292): a completion or an event has asked for one. -/
def State.ibiPending (s : State) : Bool := s.bus.ibiMbx || s.bus.ibiEvt

/-- The payload of an IBI (R292). -/
def State.ibiPayload (s : State) : List Byte :=
  leBytes 1 (s.bus.ibiMbx.toNat + 2 * s.bus.ibiEvt.toNat) ++ leBytes 2 s.mbxDoneWord.toNat ++ leBytes 4 s.evtSum.toNat

/-- The module may raise an IBI (R292): ENINT is enabled, something is pending, and IBI_HOLD has passed since the last one was accepted. -/
def State.ibiReady (s : State) : Bool :=
  s.targetUp && s.bus.dynAddr.isSome && s.bus.enInt && s.ibiPending &&
    (s.bus.ibiAt.map fun t => s.passed t (usec * max 1 (s.rd R.SYS_CTL_IBI_HOLD 0))).getD true

/-- An IBI is requested: accepted with its payload, or refused, to be requested again (R292). -/
def requestIbi (s : State) (accepted : Bool) : State :=
  if !s.ibiReady then s
  else if accepted then
    s.putBus { s.bus with lastIbi := s.ibiPayload, ibiMbx := false, ibiEvt := false, ibiRefused := false, ibiAt := some s.now }
  else s.putBus { s.bus with ibiRefused := true }

/-- The module raises an in-band interrupt (R292). -/
def execInBandInterrupt (accepted : Bool) (s : State) : Out := .next (if s.bus.ibiRefused then s else requestIbi s accepted)

/-- A refused IBI is requested again at the next bus idle (R292). -/
def execIbiRetry (accepted : Bool) (s : State) : Out := .next (if s.bus.ibiRefused then requestIbi s accepted else s)

/-- ENEC (R288, R292): the events named are enabled; an IBI is raised at once if anything is pending (DEDUCED, log 144). -/
def execEnec (int hj accepted : Bool) (s : State) : Out :=
  .next (broadcast s fun s =>
    let s := s.putBus { s.bus with enInt := s.bus.enInt || int, enHj := s.bus.enHj || hj }
    if int then requestIbi s accepted else s)

/-- DISEC (R288): the events named are disabled. -/
def execDisec (int hj : Bool) (s : State) : Out :=
  .next (broadcast s fun s => s.putBus { s.bus with enInt := s.bus.enInt && !int, enHj := s.bus.enHj && !hj })

/-! ### Addresses -/

/-- RSTDAA (R288): the dynamic address is lost. -/
def execRstdaa (s : State) : Out := .next (broadcast s fun s => s.putBus { s.bus with dynAddr := none })

/-- ENTDAA (R288, R293): a module without a dynamic address takes the one it is given (DEDUCED, log 139). -/
def execEntdaa (addr : Fin 128) (s : State) : Out :=
  .next (broadcast s fun s => if s.bus.dynAddr.isSome then s else s.putBus { s.bus with dynAddr := some addr.val })

/-- SETDASA (R287, R288): a dynamic address is assigned to static address 0x20 + instance. -/
def execSetdasa (static_ addr : Fin 128) (s : State) : Out :=
  .next (
    if s.targetUp && decide (static_.val = 0x20 + instanceNo) && s.bus.dynAddr.isNone then
      (sdr s true).putBus { (sdr s true).bus with dynAddr := some addr.val }
    else s)

/-- SETNEWDA (R288): the dynamic address is changed. -/
def execSetnewda (addr : Fin 128) (s : State) : Out := .next (directed s fun s => s.putBus { s.bus with dynAddr := some addr.val })

/-- The target logic requests hot-join (R293). -/
def execHotJoin (accepted : Bool) (s : State) : Out :=
  .next (
    if s.targetUp && s.bus.enHj && s.bus.dynAddr.isNone && !s.bus.hjDone then s.putBus { s.bus with hjDone := accepted } else s)

/-! ### Limits, identity and status -/

/-- SETMWL (R287): from 7 to 1,027 bytes; another value changes nothing (DESIGN CHOICE, log 60). -/
def execSetmwl (n : Fin 65536) (s : State) : Out :=
  .next (broadcast s fun s => if 7 ≤ n.val ∧ n.val ≤ 1027 then s.putBus { s.bus with mwl := n.val } else s)

/-- GETMWL (R287, R288). -/
def execGetmwl (s : State) : Out := .next (directed s fun s => answer s (beBytes 2 s.bus.mwl))

/-- SETMRL (R287): from 4 to 1,024 bytes; another value changes nothing (DESIGN CHOICE, log 60). -/
def execSetmrl (n : Fin 65536) (s : State) : Out :=
  .next (broadcast s fun s => if 4 ≤ n.val ∧ n.val ≤ 1024 then s.putBus { s.bus with mrl := n.val } else s)

/-- GETMRL (R287, R288): with the 7 bytes of the IBI payload. -/
def execGetmrl (s : State) : Out := .next (directed s fun s => answer s (beBytes 2 s.bus.mrl ++ [7]))

/-- The provisional ID (R287). -/
def provisionalId : Nat := 0x2D5 * 2 ^ 33 + 0x0640 * 2 ^ 16 + instanceNo * 2 ^ 12 + 0x0B2

/-- GETPID (R287). -/
def execGetpid (s : State) : Out := .next (directed s fun s => answer s (beBytes 6 provisionalId))

/-- GETBCR (R287). -/
def execGetbcr (s : State) : Out := .next (directed s fun s => answer s [0x26])

/-- GETDCR (R287). -/
def execGetdcr (s : State) : Out := .next (directed s fun s => answer s [0])

/-- The word GETSTATUS returns (R288). -/
def State.i3cStatus (s : State) : Nat := s.ibiPending.toNat + 2 ^ 5 * s.bus.protoErr.toNat + 2 ^ 8 * s.sysState

/-- GETSTATUS (R288); the protocol error is cleared once reported, as the I3C standard has it (PRESUMED, log 59)
(DESIGN CHOICE, log 120). -/
def execGetstatus (s : State) : Out :=
  .next (directed s fun s =>
    let bs := beBytes 2 s.i3cStatus
    s.putBus { s.bus with lastCcc := bs, protoErr := false })

/-- The bytes of an answer of which only the first is given here; the rest is the I3C standard's. -/
def openAnswer (code first n : Nat) : List Byte := BitVec.ofNat 8 first :: (List.range n).map fun i => Config.cccByte code (i + 1)

/-- GETCAPS (R288): HDR-DDR is the only HDR mode. -/
def execGetcaps (s : State) : Out := .next (directed s fun s => answer s (openAnswer 0x95 1 3))

/-- ENTAS0 is accepted without effect (R288). -/
def execEntas0 (s : State) : Out := .next (broadcast s id)

/-- ENTAS1 is accepted without effect (R288). -/
def execEntas1 (s : State) : Out := .next (broadcast s id)

/-- ENTAS2 is accepted without effect (R288). -/
def execEntas2 (s : State) : Out := .next (broadcast s id)

/-- ENTAS3 is accepted without effect (R288). -/
def execEntas3 (s : State) : Out := .next (broadcast s id)

/-- SETXTIME (R278): each Sync Tick is a discipline event while SRC selects it; the asynchronous modes are ignored. -/
def execSetxtime (sub : XTimeSub) (phase : Fin 4) (s : State) : Out :=
  .next (broadcast s fun s =>
    match sub with
    | .syncTick => if s.tbSrc = 2 then disciplineEvent s (s.latched phase.val) else s
    | .sync | .async => s)

/-- GETXTIME reports synchronous mode only (R278). -/
def execGetxtime (s : State) : Out := .next (directed s fun s => answer s (openAnswer 0x99 1 3))

/-! ### Resets -/

/-- The I3C target logic and the dynamic address are reset (R288); the key closes (R297). A pending IBI stays pending until an address is
assigned (R309), and IBI_HOLD counts on (R292). The indirect window is no part of the target logic (DEDUCED, log 140). -/
def resetTarget (s : State) : State :=
  let b := s.bus
  setKey (s.putBus { Bus.reset with
    ibiMbx := b.ibiMbx, ibiEvt := b.ibiEvt, ibiAt := b.ibiAt, indQueue := b.indQueue, fetched := b.fetched, rung := b.rung }) false

/-- RSTACT (R288, R294): action 0x02 in TEST also resets the module. -/
def execRstact (action : Fin 256) (selfTestOk : Bool) (s : State) : Out :=
  .next (
    if !s.targetUp then s else
    let s := resetTarget s
    let s := if action.val = 2 ∧ s.sysState = stTest then releaseReset s (s.on R.PWR_STAT_PREV_FAIL 0) selfTestOk else s
    s.raise R.SYS_EVT_RSTACT 0)

/-! ### Transfers -/

/-- The words of a private write from its data bytes (R290): trailing bytes that complete no word are ignored. -/
def wordsOf : List Byte → List Word
  | a :: b :: c :: d :: rest => BitVec.ofNat 32 (leNat [a, b, c, d]) :: wordsOf rest
  | _ => []

/-- The pointer after an access (R290): it does not advance past IND_DATA. -/
def nextPtr (p : Nat) : Nat := if p = 0x24 then p else (p + 4) % 0x1000000

/-- One word of a private write (R290). -/
def writeOne (s : State) (v : Word) : State :=
  let p := s.bus.ptr
  let s := hostWrite s p v
  s.putBus { s.bus with ptr := nextPtr p }

/-- A private write in the form of R290: three address bytes, then words; bytes beyond the maximum write length are ignored. -/
def transferIn (s : State) (bs : List Byte) : State :=
  let bs := bs.take s.bus.mwl
  match bs with
  | a :: b :: c :: rest =>
    let p := a.toNat * 65536 + b.toNat * 256 + c.toNat
    (s.putBus { s.bus with ptr := p / 4 * 4, rung := [] }).each (wordsOf rest) writeOne
  | _ => s

/-- The words of a private read (R290): it ends after the last complete word when a fetch is not complete (R299). -/
def readWords (s : State) (acc : List Byte) : Nat → List Byte × State
  | 0 => (acc, s)
  | n + 1 =>
    let p := s.bus.ptr
    match hostRead s p with
    | (some v, s) => readWords (s.putBus { s.bus with ptr := nextPtr p }) (acc ++ leBytes 4 v.toNat) n
    | (none, s) => (acc, s)

/-- A private read of `n` bytes, at most the maximum read length (R290). -/
def transferOut (s : State) (n : Nat) : State :=
  let n := min n s.bus.mrl
  let x := readWords s [] ((n + 3) / 4)
  x.2.putBus { x.2.bus with lastRead := x.1.take n }

/-- A private transfer reaches the module at its dynamic address (R289, R290). -/
def privateTransfer (s : State) (f : State → State) : State := directed s f

/-- A private write (R290) (DEDUCED, log 141). -/
def execPrivateWrite (bytes : List Byte) (s : State) : Out := .next (privateTransfer s fun s => transferIn s bytes)

/-- A private read (R290). -/
def execPrivateRead (n : Nat) (s : State) : Out := .next (privateTransfer s fun s => transferOut s n)

/-- ENTHDR0 enters HDR-DDR (R288, R291). -/
def execEnthdr0 (s : State) : Out := .next (broadcast s fun s => s.putBus { s.bus with hdr := true })

/-- An HDR-DDR command reaches the module at its dynamic address; a command code other than the two of R291 is not acknowledged. -/
def hdrTransfer (s : State) (ok : Bool) (f : State → State) : State :=
  if !s.targetUp || !s.bus.hdr then s
  else if ok && s.bus.dynAddr.isSome then f (s.putBus { s.bus with acked := true })
  else s.putBus { s.bus with acked := false }

/-- An HDR-DDR write (R291): command code 0x20. -/
def execHdrDdrWrite (code : Fin 256) (bytes : List Byte) (s : State) : Out :=
  .next (hdrTransfer s (code.val == 0x20) fun s => transferIn s bytes)

/-- An HDR-DDR read (R291): command code 0xA0. -/
def execHdrDdrRead (code : Fin 256) (n : Nat) (s : State) : Out :=
  .next (hdrTransfer s (code.val == 0xA0) fun s => transferOut s n)

/-- Legacy I2C traffic is ignored (R289). -/
def execLegacyI2cTraffic (s : State) : Out := .next s

end Sys2Proof.Machine
end

