-- ==== Sys2Proof/Machine/HostRegs.lean ====
section
/-! DEFINITION. Machine/HostRegs.lean: the host's register commands one by one (R11, R127, R154, R188, R189, R193, R224, R260, R266, R277, R286, R295 to R302, R306,
R343, R370, R395, R405, R410, R426). A register is named by its key (RegMap.lean). -/

namespace Sys2Proof.Machine

/-- A write of a register word (R11, R296, R300). -/
def execRegisterWrite (key : Nat) (v : Word) (s : State) : Out := .next (keyWrite s key v)

/-- A read of a status word (R11, R295). -/
def execStatusWordRead (key : Nat) (s : State) : Out := .next (keyRead s key)

/-- A write-back of a sequence number to a status word (R11). -/
def execStatusWriteBack (key : Nat) (n : Fin 256) (s : State) : Out := .next (keyWrite s key (BitVec.ofNat 32 n.val))

/-- A read of one word of a direct 64-bit value (R298). -/
def execWideValueRead (key : Nat) (s : State) : Out := .next (keyRead s key)

/-- A write of KEY_UNLOCK (R297). -/
def execKeyUnlock (v : Word) (s : State) : Out := .next (hostWrite s 0x10 v)

/-- A write of IND_ADDR (R299) (DESIGN CHOICE, log 57). -/
def execIndAddrWrite (v : Word) (s : State) : Out := .next (hostWrite s 0x20 v)

/-- A read of IND_DATA (R299). -/
def execIndDataRead (s : State) : Out := .next (keyRead s 0x24)

/-- A write of IND_DATA (R299). -/
def execIndDataWrite (v : Word) (s : State) : Out := .next (hostWrite s 0x24 v)

/-- A fetch or a posted write of the indirect window completes (R299). -/
def execIndAccessDone (s : State) : Out := .next (indDone s)

/-- A read of an alias word (R302). -/
def execAliasRead (k : Fin 128) (b : Fin 32) (s : State) : Out := .next (keyRead s (0x800000 + 0x80 * k.val + 4 * b.val))

/-- A write of an alias word (R302). -/
def execAliasWrite (k : Fin 128) (b : Fin 32) (v : Word) (s : State) : Out := .next (hostWrite s (0x800000 + 0x80 * k.val + 4 * b.val) v)

/-- A write of a request word (R306, R309). -/
def execMbxReqWrite (m w : Fin 16) (v : Word) (s : State) : Out := .next (hostWrite s (R.MBX_REQ.key m.val w.val) v)

/-- RING (R306, R309). -/
def execMbxRing (m : Fin 16) (s : State) : Out :=
  .next (hostWrite (s.setBus { s.bus with rung := [] }) (R.MBX_DOOR.key m.val 0) 1)

/-- RELEASE (R306, R309). -/
def execMbxRelease (m : Fin 16) (s : State) : Out := .next (hostWrite s (R.MBX_DOOR.key m.val 0) 2)

/-- A write of FEED_CFG (R127, R156). -/
def execFeedCfgWrite (v : Word) (s : State) : Out := .next (hostWrite s (R.FEED_CFG.key 0 0) v)

/-- A write of HALF_CFG (R188). -/
def execHalfCfgWrite (v : Word) (s : State) : Out := .next (hostWrite s (R.HALF_CFG.key 0 0) v)

/-- A write of BRIDGE_CFG_b (R189). -/
def execBridgeCfgWrite (b : Fin 16) (v : Word) (s : State) : Out := .next (hostWrite s (R.BRIDGE_CFG.key b.val 0) v)

/-- A write of STREAM_CFG_s (R260). -/
def execStreamCfgWrite (st : Fin 48) (v : Word) (s : State) : Out := .next (hostWrite s (R.STREAM_CFG.key st.val 0) v)

/-- A write of OUT_MAP_n (R266) (DEDUCED, log 136). -/
def execOutMapWrite (n : Fin 128) (v : Word) (s : State) : Out := .next (hostWrite s (R.OUT_MAP.key n.val 0) v)

/-- A write of CLK_EN (R370) (DEDUCED, log 135). -/
def execClkEnWrite (v : Word) (s : State) : Out := .next (hostWrite s (R.CLK_EN.key 0 0) v)

/-- A write of TB_CFG (R277). -/
def execTbCfgWrite (v : Word) (s : State) : Out := .next (hostWrite s (R.TB_CFG.key 0 0) v)

/-- A write of TB_SYNC_HI (R286). -/
def execTbSyncHiWrite (v : Word) (s : State) : Out := .next (hostWrite s (R.TB_SYNC_HI.key 0 0) v)

/-- An access of MESH_TBL_DATA (R154). -/
def execMeshTblDataAccess (k : Fin 4) (w : Option Word) (s : State) : Out := .next (windowAccess s (R.MESH_TBL_DATA.key k.val 0) w)

/-- An access of TCAL_DATA (R224). -/
def execTcalDataAccess (t : Fin 4096) (w : Option Word) (s : State) : Out := .next (windowAccess s (R.TCAL_DATA.key t.val 0) w)

/-- An access of RING_DATA (R193). -/
def execRingDataAccess (k : Fin 4) (w : Option Word) (s : State) : Out := .next (windowAccess s (R.RING_DATA.key k.val 0) w)

/-- An access of TEMP_DATA (R395). -/
def execTempDataAccess (w : Option Word) (s : State) : Out := .next (windowAccess s (R.TEMP_DATA.key 0 0) w)

/-- A read of PT_DATA (R343). -/
def execPtDataRead (s : State) : Out := .next (keyRead s (R.PT_DATA.key 0 0))

/-- A read of NV_RAW_DATA (R410). -/
def execNvRawDataRead (s : State) : Out := .next (keyRead s (R.NV_RAW_DATA.key 0 0))

/-- An access of SINE_TBL_DATA (R426). -/
def execSineTblDataAccess (w : Option Word) (s : State) : Out := .next (windowAccess s (R.SINE_TBL_DATA.key 0 0) w)

/-- A host write of the word `w` of the non-volatile store's array (R405). -/
def execNvArrayWrite (w : Fin 65536) (v : Word) (s : State) : Out := .next (hostWrite s (0x100000 + 4 * w.val) v)

end Sys2Proof.Machine
end

