-- ==== Sys2Proof/Machine/Dispatch.lean ====
section
/-! DEFINITION. Machine/Dispatch.lean: the meaning of every command, one arm per constructor. -/

namespace Sys2Proof.Machine

/-- What a command does to everything but the queue of waiting commands. -/
def exec (i : Instr) (s : State) : Host.Outcome State Fault Refusal :=
  match i with
  | .syncInEdge falling phase => Sys2Proof.Machine.execSyncInEdge falling phase s
  | .holdoverTimeout => Sys2Proof.Machine.execHoldoverTimeout s
  | .markPulseEnd k => Sys2Proof.Machine.execMarkPulseEnd k s
  | .encoderTransition a b => Sys2Proof.Machine.execEncoderTransition a b s
  | .clkTbSet m => Sys2Proof.Machine.execClkTbSet m s
  | .clkEncPreset m => Sys2Proof.Machine.execClkEncPreset m s
  | .streamMark m => Sys2Proof.Machine.execStreamMark m s
  | .streamMarkClear m => Sys2Proof.Machine.execStreamMarkClear m s
  | .dropRunTimeout st => Sys2Proof.Machine.execDropRunTimeout st s
  | .periodicStatus => Sys2Proof.Machine.execPeriodicStatus s
  | .frameStart p vc h => Sys2Proof.Machine.execFrameStart p vc h s
  | .frameEnd p vc h => Sys2Proof.Machine.execFrameEnd p vc h s
  | .lineStart p vc h n => Sys2Proof.Machine.execLineStart p vc h n s
  | .longPacket p vc h dtype crcOk room pix => Sys2Proof.Machine.execLongPacket p vc h dtype crcOk room pix s
  | .rxSkewCalibration p => Sys2Proof.Machine.execRxSkewCalibration p s
  | .rxUlpsRequest p enter => Sys2Proof.Machine.execRxUlpsRequest p enter s
  | .dispatch half => Sys2Proof.Machine.execDispatch half s
  | .seatHoldExpiry n => Sys2Proof.Machine.execSeatHoldExpiry n s
  | .routerGrant c o => Sys2Proof.Machine.execRouterGrant c o s
  | .staleTokenDiscard p => Sys2Proof.Machine.execStaleTokenDiscard p s
  | .frameTimeout t vc => Sys2Proof.Machine.execFrameTimeout t vc s
  | .deskew t => Sys2Proof.Machine.execDeskew t s
  | .ulpsEntry t => Sys2Proof.Machine.execUlpsEntry t s
  | .recordSend t => Sys2Proof.Machine.execRecordSend t s
  | .conversionEnd n nv => Sys2Proof.Machine.execConversionEnd n nv s
  | .comparatorFire n rising => Sys2Proof.Machine.execComparatorFire n rising s
  | .comparatorRearm n rising => Sys2Proof.Machine.execComparatorRearm n rising s
  | .deglitchEnd c => Sys2Proof.Machine.execDeglitchEnd c s
  | .plantLoad => Sys2Proof.Machine.execPlantLoad s
  | .dacLoadEdge => Sys2Proof.Machine.execDacLoadEdge s
  | .periodicStrobe => Sys2Proof.Machine.execPeriodicStrobe s
  | .sineTick c => Sys2Proof.Machine.execSineTick c s
  | .dacClearEdge high => Sys2Proof.Machine.execDacClearEdge high s
  | .plantRelease => Sys2Proof.Machine.execPlantRelease s
  | .channelSelfCheck c r => Sys2Proof.Machine.execChannelSelfCheck c r s
  | .tokenReceipt p e => Sys2Proof.Machine.execTokenReceipt p e s
  | .tileProduct t => Sys2Proof.Machine.execTileProduct t s
  | .tileTimeout t => Sys2Proof.Machine.execTileTimeout t s
  | .vectorOp c => Sys2Proof.Machine.execVectorOp c s
  | .slotOpen c => Sys2Proof.Machine.execSlotOpen c s
  | .partialAccumulate c => Sys2Proof.Machine.execPartialAccumulate c s
  | .stateUpdate c => Sys2Proof.Machine.execStateUpdate c s
  | .dmaTransfer c a => Sys2Proof.Machine.execDmaTransfer c a s
  | .unitTimeout c dma => Sys2Proof.Machine.execUnitTimeout c dma s
  | .meshSwap k => Sys2Proof.Machine.execMeshSwap k s
  | .meshSwapForced k => Sys2Proof.Machine.execMeshSwapForced k s
  | .meshAgeTrigger k => Sys2Proof.Machine.execMeshAgeTrigger k s
  | .ambientUpdate k small => Sys2Proof.Machine.execAmbientUpdate k small s
  | .trimStart k => Sys2Proof.Machine.execTrimStart k s
  | .xtStart k => Sys2Proof.Machine.execXtStart k s
  | .referenceLoss k => Sys2Proof.Machine.execReferenceLoss k s
  | .heaterFault k => Sys2Proof.Machine.execHeaterFault k s
  | .settleLate k => Sys2Proof.Machine.execSettleLate k s
  | .pilotPass k resid bad => Sys2Proof.Machine.execPilotPass k resid bad s
  | .meshToken c => Sys2Proof.Machine.execMeshToken c s
  | .passLaunch k => Sys2Proof.Machine.execPassLaunch k s
  | .meshOutputToken k => Sys2Proof.Machine.execMeshOutputToken k s
  | .tableSwap t => Sys2Proof.Machine.execTableSwap t s
  | .tableSwapForced t => Sys2Proof.Machine.execTableSwapForced t s
  | .bell j => Sys2Proof.Machine.execBell j s
  | .resultArrival e => Sys2Proof.Machine.execResultArrival e s
  | .pathOrderEmit j p st => Sys2Proof.Machine.execPathOrderEmit j p st s
  | .calibrationSlot t => Sys2Proof.Machine.execCalibrationSlot t s
  | .writeVerifyStart q => Sys2Proof.Machine.execWriteVerifyStart q s
  | .writeVerifyDone t m l => Sys2Proof.Machine.execWriteVerifyDone t m l s
  | .readbackDone t high low => Sys2Proof.Machine.execReadbackDone t high low s
  | .periodicReadback => Sys2Proof.Machine.execPeriodicReadback s
  | .roundBuild q only fs => Sys2Proof.Machine.execRoundBuild q only fs s
  | .calAgeTrigger q => Sys2Proof.Machine.execCalAgeTrigger q s
  | .runStart q => Sys2Proof.Machine.execRunStart q s
  | .copyMove t => Sys2Proof.Machine.execCopyMove t s
  | .jobRestart j => Sys2Proof.Machine.execJobRestart j s
  | .epochAdvance j => Sys2Proof.Machine.execEpochAdvance j s
  | .restartComplete j => Sys2Proof.Machine.execRestartComplete j s
  | .stallWatchdog j => Sys2Proof.Machine.execStallWatchdog j s
  | .peerRestart j => Sys2Proof.Machine.execPeerRestart j s
  | .hubLinkLoss h => Sys2Proof.Machine.execHubLinkLoss h s
  | .halfFailTimeout h => Sys2Proof.Machine.execHalfFailTimeout h s
  | .jobLoad m sec => Sys2Proof.Machine.execJobLoad m sec s
  | .jobStart m => Sys2Proof.Machine.execJobStart m s
  | .jobStop m => Sys2Proof.Machine.execJobStop m s
  | .jobUnload m => Sys2Proof.Machine.execJobUnload m s
  | .jobGrade m => Sys2Proof.Machine.execJobGrade m s
  | .jobStatus m => Sys2Proof.Machine.execJobStatus m s
  | .capsGet m => Sys2Proof.Machine.execCapsGet m s
  | .circuitAdd port b out w tx rx => Sys2Proof.Machine.execCircuitAdd port b out w tx rx s
  | .circuitUp k l ok => Sys2Proof.Machine.execCircuitUp k l ok s
  | .circuitRemove k l => Sys2Proof.Machine.execCircuitRemove k l s
  | .parkingDone k l => Sys2Proof.Machine.execParkingDone k l s
  | .circuitDown k l lost => Sys2Proof.Machine.execCircuitDown k l lost s
  | .codewordReceived k l errs inc => Sys2Proof.Machine.execCodewordReceived k l errs inc s
  | .bridgeSample => Sys2Proof.Machine.execBridgeSample s
  | .optExtSet m => Sys2Proof.Machine.execOptExtSet m s
  | .optBridgeRoute m => Sys2Proof.Machine.execOptBridgeRoute m s
  | .optCaptainSet m => Sys2Proof.Machine.execOptCaptainSet m s
  | .optFeedSet m => Sys2Proof.Machine.execOptFeedSet m s
  | .optStatus m => Sys2Proof.Machine.execOptStatus m s
  | .sidebandHeartbeat h => Sys2Proof.Machine.execSidebandHeartbeat h s
  | .sidebandLoss h => Sys2Proof.Machine.execSidebandLoss h s
  | .halfSplit peer => Sys2Proof.Machine.execHalfSplit peer s
  | .splitEnd peer => Sys2Proof.Machine.execSplitEnd peer s
  | .matrixComputeDone k ok => Sys2Proof.Machine.execMatrixComputeDone k ok s
  | .meshSettleDone k resid => Sys2Proof.Machine.execMeshSettleDone k resid s
  | .xtalkRebuildDone k ok resid => Sys2Proof.Machine.execXtalkRebuildDone k ok resid s
  | .oosCleared k => Sys2Proof.Machine.execOosCleared k s
  | .optClockTimeout k => Sys2Proof.Machine.execOptClockTimeout k s
  | .feedLoss f => Sys2Proof.Machine.execFeedLoss f s
  | .feedPresent f => Sys2Proof.Machine.execFeedPresent f s
  | .feedMoveDone => Sys2Proof.Machine.execFeedMoveDone s
  | .ringSearchStart => Sys2Proof.Machine.execRingSearchStart s
  | .ringSweepDone k ring pk => Sys2Proof.Machine.execRingSweepDone k ring pk s
  | .ringSearchDone k => Sys2Proof.Machine.execRingSearchDone k s
  | .toneWindow k ts => Sys2Proof.Machine.execToneWindow k ts s
  | .ringDark k ring => Sys2Proof.Machine.execRingDark k ring s
  | .ringLightReturn k ring => Sys2Proof.Machine.execRingLightReturn k ring s
  | .ringDarkTimeout k => Sys2Proof.Machine.execRingDarkTimeout k s
  | .partialResearchDone k ring pk tone => Sys2Proof.Machine.execPartialResearchDone k ring pk tone s
  | .monitorSample rs => Sys2Proof.Machine.execMonitorSample rs s
  | .streamBulkArm m => Sys2Proof.Machine.execStreamBulkArm m s
  | .streamBulkDisarm m => Sys2Proof.Machine.execStreamBulkDisarm m s
  | .bulkFrame p pkts trunc => Sys2Proof.Machine.execBulkFrame p pkts trunc s
  | .shardWritten n no => Sys2Proof.Machine.execShardWritten n no s
  | .wsetBegin m => Sys2Proof.Machine.execWsetBegin m s
  | .wsetCommit m => Sys2Proof.Machine.execWsetCommit m s
  | .wsetDelete m => Sys2Proof.Machine.execWsetDelete m s
  | .eraseDone n => Sys2Proof.Machine.execEraseDone n s
  | .wsetList m => Sys2Proof.Machine.execWsetList m s
  | .wsetStage m => Sys2Proof.Machine.execWsetStage m s
  | .wsetRing m => Sys2Proof.Machine.execWsetRing m s
  | .wsetAbort m => Sys2Proof.Machine.execWsetAbort m s
  | .wsetStatus m => Sys2Proof.Machine.execWsetStatus m s
  | .calRun m => Sys2Proof.Machine.execCalRun m s
  | .calThreshSet m => Sys2Proof.Machine.execCalThreshSet m s
  | .calSave m => Sys2Proof.Machine.execCalSave m s
  | .calRestore m => Sys2Proof.Machine.execCalRestore m s
  | .calStatus m => Sys2Proof.Machine.execCalStatus m s
  | .firstSweepTimer => Sys2Proof.Machine.execFirstSweepTimer s
  | .firstSweepDone fs => Sys2Proof.Machine.execFirstSweepDone fs s
  | .nvStore m => Sys2Proof.Machine.execNvStore m s
  | .nvCount m => Sys2Proof.Machine.execNvCount m s
  | .nvProtect m => Sys2Proof.Machine.execNvProtect m s
  | .nvStoreEnd => Sys2Proof.Machine.execNvStoreEnd s
  | .crystalStop => Sys2Proof.Machine.execCrystalStop s
  | .rcStop => Sys2Proof.Machine.execRcStop s
  | .rcReady => Sys2Proof.Machine.execRcReady s
  | .ratioWindow count => Sys2Proof.Machine.execRatioWindow count s
  | .startDeadline => Sys2Proof.Machine.execStartDeadline s
  | .muxSwitchDone obs => Sys2Proof.Machine.execMuxSwitchDone obs s
  | .loopLocked l => Sys2Proof.Machine.execLoopLocked l s
  | .lockLoss l => Sys2Proof.Machine.execLockLoss l s
  | .clockFaultEntry => Sys2Proof.Machine.execClockFaultEntry s
  | .clkCfgReturn => Sys2Proof.Machine.execClkCfgReturn s
  | .powerOnReset selfTestOk => Sys2Proof.Machine.execPowerOnReset selfTestOk s
  | .bankCheckDone found => Sys2Proof.Machine.execBankCheckDone found s
  | .bootDone => Sys2Proof.Machine.execBootDone s
  | .debugAccess boundaryScan => Sys2Proof.Machine.execDebugAccess boundaryScan s
  | .secIdGet m => Sys2Proof.Machine.execSecIdGet m s
  | .secAttest m => Sys2Proof.Machine.execSecAttest m s
  | .secFwLoad m writeOk => Sys2Proof.Machine.execSecFwLoad m writeOk s
  | .journalRecord acked => Sys2Proof.Machine.execJournalRecord acked s
  | .rally answered => Sys2Proof.Machine.execRally answered s
  | .rallyMissed fault => Sys2Proof.Machine.execRallyMissed fault s
  | .takeoverDone => Sys2Proof.Machine.execTakeoverDone s
  | .substFollowing => Sys2Proof.Machine.execSubstFollowing s
  | .substLost fault => Sys2Proof.Machine.execSubstLost fault s
  | .supervisionLost selfTestOk => Sys2Proof.Machine.execSupervisionLost selfTestOk s
  | .plannedTakeover => Sys2Proof.Machine.execPlannedTakeover s
  | .fwCatchupTimeout => Sys2Proof.Machine.execFwCatchupTimeout s
  | .diagPing m => Sys2Proof.Machine.execDiagPing m s
  | .diagMode m => Sys2Proof.Machine.execDiagMode m s
  | .diagFault m => Sys2Proof.Machine.execDiagFault m s
  | .inputValid backup => Sys2Proof.Machine.execInputValid backup s
  | .inputLost backup => Sys2Proof.Machine.execInputLost backup s
  | .mainReturn => Sys2Proof.Machine.execMainReturn s
  | .pwrCfgReturn => Sys2Proof.Machine.execPwrCfgReturn s
  | .powerFailConfirm => Sys2Proof.Machine.execPowerFailConfirm s
  | .powerFailSwitchOff => Sys2Proof.Machine.execPowerFailSwitchOff s
  | .holdupSample energy mainV mainI backV backI => Sys2Proof.Machine.execHoldupSample energy mainV mainI backV backI s
  | .halfSupplyFail h => Sys2Proof.Machine.execHalfSupplyFail h s
  | .chipletRailFail k => Sys2Proof.Machine.execChipletRailFail k s
  | .orderlyStopFault => Sys2Proof.Machine.execOrderlyStopFault s
  | .orderlyStopOff => Sys2Proof.Machine.execOrderlyStopOff s
  | .autoResume => Sys2Proof.Machine.execAutoResume s
  | .resume => Sys2Proof.Machine.execResume s
  | .endOfStart => Sys2Proof.Machine.execEndOfStart s
  | .throttleEval power compI => Sys2Proof.Machine.execThrottleEval power compI s
  | .sensorRead temps => Sys2Proof.Machine.execSensorRead temps s
  | .enec int hj accepted => Sys2Proof.Machine.execEnec int hj accepted s
  | .disec int hj => Sys2Proof.Machine.execDisec int hj s
  | .rstdaa => Sys2Proof.Machine.execRstdaa s
  | .entdaa addr => Sys2Proof.Machine.execEntdaa addr s
  | .setdasa static_ addr => Sys2Proof.Machine.execSetdasa static_ addr s
  | .setnewda addr => Sys2Proof.Machine.execSetnewda addr s
  | .setmwl n => Sys2Proof.Machine.execSetmwl n s
  | .getmwl => Sys2Proof.Machine.execGetmwl s
  | .setmrl n => Sys2Proof.Machine.execSetmrl n s
  | .getmrl => Sys2Proof.Machine.execGetmrl s
  | .getpid => Sys2Proof.Machine.execGetpid s
  | .getbcr => Sys2Proof.Machine.execGetbcr s
  | .getdcr => Sys2Proof.Machine.execGetdcr s
  | .getstatus => Sys2Proof.Machine.execGetstatus s
  | .getcaps => Sys2Proof.Machine.execGetcaps s
  | .enthdr0 => Sys2Proof.Machine.execEnthdr0 s
  | .entas0 => Sys2Proof.Machine.execEntas0 s
  | .entas1 => Sys2Proof.Machine.execEntas1 s
  | .entas2 => Sys2Proof.Machine.execEntas2 s
  | .entas3 => Sys2Proof.Machine.execEntas3 s
  | .setxtime sub phase => Sys2Proof.Machine.execSetxtime sub phase s
  | .getxtime => Sys2Proof.Machine.execGetxtime s
  | .rstact action selfTestOk => Sys2Proof.Machine.execRstact action selfTestOk s
  | .privateWrite bytes => Sys2Proof.Machine.execPrivateWrite bytes s
  | .privateRead n => Sys2Proof.Machine.execPrivateRead n s
  | .hdrDdrWrite code bytes => Sys2Proof.Machine.execHdrDdrWrite code bytes s
  | .hdrDdrRead code n => Sys2Proof.Machine.execHdrDdrRead code n s
  | .legacyI2cTraffic => Sys2Proof.Machine.execLegacyI2cTraffic s
  | .inBandInterrupt accepted => Sys2Proof.Machine.execInBandInterrupt accepted s
  | .ibiRetry accepted => Sys2Proof.Machine.execIbiRetry accepted s
  | .hotJoin accepted => Sys2Proof.Machine.execHotJoin accepted s
  | .registerWrite key v => Sys2Proof.Machine.execRegisterWrite key v s
  | .statusWordRead key => Sys2Proof.Machine.execStatusWordRead key s
  | .statusWriteBack key n => Sys2Proof.Machine.execStatusWriteBack key n s
  | .wideValueRead key => Sys2Proof.Machine.execWideValueRead key s
  | .keyUnlock v => Sys2Proof.Machine.execKeyUnlock v s
  | .indAddrWrite v => Sys2Proof.Machine.execIndAddrWrite v s
  | .indDataRead => Sys2Proof.Machine.execIndDataRead s
  | .indDataWrite v => Sys2Proof.Machine.execIndDataWrite v s
  | .indAccessDone => Sys2Proof.Machine.execIndAccessDone s
  | .aliasRead k b => Sys2Proof.Machine.execAliasRead k b s
  | .aliasWrite k b v => Sys2Proof.Machine.execAliasWrite k b v s
  | .mbxReqWrite m w v => Sys2Proof.Machine.execMbxReqWrite m w v s
  | .mbxRing m => Sys2Proof.Machine.execMbxRing m s
  | .mbxRelease m => Sys2Proof.Machine.execMbxRelease m s
  | .feedCfgWrite v => Sys2Proof.Machine.execFeedCfgWrite v s
  | .halfCfgWrite v => Sys2Proof.Machine.execHalfCfgWrite v s
  | .bridgeCfgWrite b v => Sys2Proof.Machine.execBridgeCfgWrite b v s
  | .streamCfgWrite st v => Sys2Proof.Machine.execStreamCfgWrite st v s
  | .outMapWrite n v => Sys2Proof.Machine.execOutMapWrite n v s
  | .clkEnWrite v => Sys2Proof.Machine.execClkEnWrite v s
  | .tbCfgWrite v => Sys2Proof.Machine.execTbCfgWrite v s
  | .tbSyncHiWrite v => Sys2Proof.Machine.execTbSyncHiWrite v s
  | .meshTblDataAccess k w => Sys2Proof.Machine.execMeshTblDataAccess k w s
  | .tcalDataAccess t w => Sys2Proof.Machine.execTcalDataAccess t w s
  | .ringDataAccess k w => Sys2Proof.Machine.execRingDataAccess k w s
  | .tempDataAccess w => Sys2Proof.Machine.execTempDataAccess w s
  | .ptDataRead => Sys2Proof.Machine.execPtDataRead s
  | .nvRawDataRead => Sys2Proof.Machine.execNvRawDataRead s
  | .sineTblDataAccess w => Sys2Proof.Machine.execSineTblDataAccess w s
  | .nvArrayWrite w v => Sys2Proof.Machine.execNvArrayWrite w v s

end Sys2Proof.Machine
end

