-- ==== Sys2Proof/Machine/Step.lean ====
section
/-! DEFINITION. Machine/Step.lean: one step of the block: the command at the front of the queue, or one cycle of the timebase
clock when none waits. -/

namespace Sys2Proof.Machine

/-- A step takes the command at the front of the queue and gives it its meaning over the queue's rest. With none waiting, one
cycle of the timebase clock passes (DESIGN CHOICE, log 1) (DESIGN CHOICE, log 147). -/
def step (s : State) : Host.Outcome State Fault Refusal :=
  match s.pending with
  | [] => .next (idleCycle s)
  | c :: rest => exec c (s.setPending rest)

/-- The command that a word spells, put at the front of the queue; the table gives no row bits, so no word spells one. -/
def State.withFetchWord (s : State) (nbits w : Nat) : State :=
  match decodeTableWord nbits w with
  | some c => s.setPending (c :: s.pending)
  | none => s

end Sys2Proof.Machine
end

