-- ==== Sys2Proof/Safety.lean ====
section
/-! DEFINITION. Safety.lean: what statements about runs are made of: the canonical form of the state's sparse maps, and what it
is for a command to complete, and for a Peade command to begin and to be answered. -/

namespace Sys2Proof.Machine

/-- A command completes on a state: its meaning answers a next state, of which `P` holds. -/
def Does (i : Instr) (s : State) (P : State → Prop) : Prop := ∃ t, exec i s = .next t ∧ P t

/-- Mailbox `m` holds the command of code `code` next, firmware is in service and no takeover runs, and the checks of R308 pass, given
what the command itself asks of the module state, of its block's clock and of its parameters. -/
def State.begins (s : State) (m code : Nat) (modeOk gateOk paramOk : Bool) : Bool :=
  s.isNext m code && s.on R.SYS_STAT_BOOT_DONE 0 && s.dutiesRun &&
    (findCmd code).any fun c => (s.precheck m c (modeOk && s.commandServed code) paramOk gateOk 0).isNone

/-- Mailbox `m` is DONE and its response holds a status, the length of its data and the data, zeros after them (R306, R308). -/
def State.Answers (t : State) (m : Nat) (st : Status) (data : List Byte) : Prop :=
  t.mbState m = mbDone ∧ fieldOf 0 8 (t.word (R.MBX_RSP.key m 1)) = st.code ∧
    fieldOf 8 8 (t.word (R.MBX_RSP.key m 1)) = data.length % 256 ∧
    ∀ w < 14, t.word (R.MBX_RSP.key m (w + 2)) = BitVec.ofNat 32 (leAt (data.drop (4 * w)) 0 4)

/-- A register whose host write does nothing beyond its fields: none of the registers whose write starts, clears or moves something
else, and none of those whose fields are limited or judged when written. -/
def RegSpec.actsPlainly (r : RegSpec) : Bool :=
  ! [0x20, 0x24, 0x10000, 0x10800, 0x4000C, 0x4003C, 0x40040, 0x40044, 0x40800, 0x4100C, 0x41410, 0x41460, 0x50010, 0x60000, 0x60100,
     0x60500, 0x60600, 0x60908, 0x60910, 0x60914, 0x70008, 0x70014, 0x70018, 0x71008, 0x71034, 0x71038, 0x73008, 0x73010, 0x73028,
     0x73100, 0x73204, 0x73208, 0x4080018, 0x4100000, 0x4100040, 0x4100080, 0x4100034].contains r.base

/-- A counter has advanced by one, modulo its range. -/
def Counted (s t : State) (f : Fld) (i : Nat) : Prop := t.rd f i = (s.rd f i + 1) % 2 ^ f.w

/-- Job `j` is fenced and in a restart whose first fault is of class `cls`. -/
def State.Struck (t : State) (j cls : Nat) : Prop :=
  (t.job j).fenced = true ∧ (t.job j).restart.map Restart.cls = some cls

/-- The canonical form of an addressed memory whose unlisted bytes read zero: hub staging memory, activation SRAM and the NV array. -/
abbrev Memory.wf (m : Sparse Byte) : Bool := spWf (fun _ => 0) m

/-- Every sparse map of the state is in canonical form: keys strictly rising, no entry equal to what an unlisted key reads as. -/
structure State.Canonical (s : State) : Prop where
  regs : spWf regReset s.regs = true
  inForce : spWf regReset s.inForce = true
  wb : spWf (fun _ => none) s.wb = true
  shadow : spWf (fun _ => none) s.shadow = true
  staging : Memory.wf s.staging = true
  jobs : spWf (fun _ => Job.empty) s.jobs = true
  binds : spWf (fun _ => Bind.none) s.binds = true
  tagAt : spWf (fun _ => none) s.tagAt = true
  outs : spWf (fun _ => OutStream.reset) s.outs = true
  tx : spWf (fun _ => TxPort.reset) s.tx = true
  chans : spWf (fun _ => Chan.reset) s.chans = true
  ingest : spWf (fun _ => Ingest.reset) s.ingest = true
  arms : spWf (fun _ => Arm.none) s.arms = true
  rxAt : spWf (fun _ => none) s.rxAt = true
  grantRr : spWf grantFirst s.grantRr = true
  ptes : spWf (fun _ => Pte.none) s.ptes = true
  sram : Memory.wf s.sram = true
  pageUe : spWf (fun _ => none) s.pageUe = true
  unitUe : spWf (fun _ => none) s.unitUe = true
  tiles : spWf (fun _ => TileRec.reset) s.tiles = true
  cells : spWf (fun _ => Cells.none) s.cells = true
  occ : spWf (fun _ => Occ.none) s.occ = true
  tcal : spWf tcalReset s.tcal = true
  recur : spWf (fun _ => []) s.recur = true
  chips : spWf (fun _ => Chip.reset) s.chips = true
  meshTbl : spWf meshTblReset s.meshTbl = true
  rings : spWf (fun _ => Ring.reset) s.rings = true
  lanes : spWf (fun _ => Lane.idle) s.lanes = true
  dirs : spWf (fun _ => BridgeDir.reset) s.dirs = true
  mons : spWf (fun _ => Mon.reset) s.mons = true
  halves : spWf (fun _ => Half.reset) s.halves = true
  exts : spWf (fun _ => ExtPort.reset) s.exts = true
  feedFwd : spWf (fun _ => FeedFwd.reset) s.feedFwd = true
  store : spWf (fun _ => StoreSlot.free) s.store = true
  stages : spWf (fun _ => WStage.none) s.stages = true
  quads : spWf (fun _ => QuadCal.reset) s.quads = true
  bridgeBuild : spWf (fun _ => none) s.bridgeBuild = true
  sensors : spWf (fun _ => Sensor.reset) s.sensors = true
  nvArr : Memory.wf s.nvArr = true
  nvShadow : spWf nvShipped s.nvShadow = true

end Sys2Proof.Machine
end

