-- ==== Sys2Proof/Certificates/Slice0/Obligations.lean ====
section
/-! DEFINITION. Certificates/Slice0/Obligations.lean: the statements about the block, each of every state and of every value of the
values the spec leaves open. -/

open Sys2Proof Sys2Proof.Machine

/-- A step runs the command at the front of the queue. A step of a state whose queue begins with a command is exec of that command on the
state with the rest of the queue. (Scope, R306) -/
def Obligations.StepRunsTheFrontCommand : Prop :=
  ∀ (s : State) (c : Instr) (rest : List Instr), s.pending = c :: rest → step s = exec c (s.setPending rest)

/-- With no command waiting a step is one cycle of the timebase clock. With an empty queue a step answers the state one cycle of the
timebase clock later: 10 ns on while the timebase loop (bit 1 of LOCKED) is locked, 13 1/3 ns while it coasts; and while no request of an
unknown code waits in a mailbox no register word is written. That the idle step is a tick is the model's choice, log 1; that it refuses
unknown requests whose turn has come, log 12. (R275, R361, R368) -/
def Obligations.IdleStepIsOneTimebaseCycle : Prop :=
  ∀ s : State, s.pending = [] → ∃ t, step s = .next t ∧
    t.now = s.now + (if Nat.testBit (s.rd R.CLK_STAT_LOCKED 0) 1 then 3 else 4) ∧ t.pending = [] ∧
    ((∀ m ∈ s.mbxOrder, (findCmd (s.mbCmd m)).isSome = true) → t.regs = s.regs) ∧
    (s.time.started = true → t.time.count = s.time.count + BitVec.ofNat 64
      ((s.time.frac + (10 * (100000000 + s.rdInt R.TB_STAT_RATE 0)).toNat) / 100000000)) ∧
    (s.time.started = false → t.time.count = s.time.count)

/-- The state after reset is in canonical form. Every sparse map of the state after reset is in canonical form, and no command waits. (R13,
R294) -/
def Obligations.ResetIsCanonical : Prop :=
  State.reset.Canonical ∧ State.reset.pending = []

/-- Every step keeps the canonical form of every register file, memory and table. From every state whose 40 sparse maps (register words,
words in force, staging memory, activation SRAM, NV array, page tables, tables and records) are in canonical form, whatever command is
in front, a step that answers a next state answers one whose maps are in canonical form. (R10, R11, R90, R299, R300, R343) -/
def Obligations.StepKeepsCanonicalForm : Prop :=
  ∀ s t : State, s.Canonical → step s = .next t → t.Canonical

/-- Every command completes, on every state, and leaves the queue to the step. Whatever the command, its operands and the state, its meaning
answers a next state whose queue is the one it found and in which the free values drawn have only advanced: no command of the table ends
in a fault or a refusal. (Scope, R294, R301) -/
def Obligations.EveryCommandCompletes : Prop :=
  ∀ (c : Instr) (s : State), Does c s fun t => t.pending = s.pending ∧ s.freeIx ≤ t.freeIx

/-- What the common command codes set and answer. While the target logic runs: ENEC and DISEC set and clear the enables they name; RSTDAA
takes the dynamic address; ENTDAA gives one to a module without; SETMWL and SETMRL set a limit within its range; ENTAS0 to ENTAS3 are
acknowledged without effect; ENTHDR0 enters HDR mode. Each is acknowledged. That a command code ends HDR mode is the model's, log 59.
While the target logic runs and the module has a dynamic address: GETMWL and GETMRL answer the limits, most significant byte first, the
latter with the 7 bytes of an IBI payload; GETPID answers the provisional ID; GETBCR 0x26; GETDCR 0x00; GETSTATUS bit 0 for a pending
interrupt, bit 5 for a protocol error and the module state from bit 8; SETNEWDA changes the address. GETCAPS and GETXTIME answer 0x01 in
their first byte. Without an address none is acknowledged and nothing but HDR mode ends. Byte order and the formats of GETCAPS and
GETXTIME are PRESUMED of the I3C standard, log 59. SETDASA with the static address 0x20 + instance assigns the dynamic address it brings
to a module that has none; with another static address it changes nothing. (R287, R288, R293, R278) -/
def Obligations.CommonCommandCodes : Prop :=
  (∀ s : State, s.targetUp = true →
    (∀ int hj acc, Does (.enec int hj acc) s fun t =>
      t.bus.enInt = (s.bus.enInt || int) ∧ t.bus.enHj = (s.bus.enHj || hj) ∧ t.bus.acked = true) ∧
    (∀ int hj, Does (.disec int hj) s fun t =>
      t.bus.enInt = (s.bus.enInt && !int) ∧ t.bus.enHj = (s.bus.enHj && !hj) ∧ t.bus.acked = true) ∧
    Does .rstdaa s (fun t => t.bus.dynAddr = none ∧ t.bus.acked = true) ∧
    (∀ a, s.bus.dynAddr = none → Does (.entdaa a) s fun t => t.bus.dynAddr = some a.val ∧ t.bus.acked = true) ∧
    (∀ n, 7 ≤ n.val → n.val ≤ 1027 → Does (.setmwl n) s fun t => t.bus.mwl = n.val ∧ t.bus.mrl = s.bus.mrl ∧ t.bus.acked = true) ∧
    (∀ n, 4 ≤ n.val → n.val ≤ 1024 → Does (.setmrl n) s fun t => t.bus.mrl = n.val ∧ t.bus.mwl = s.bus.mwl ∧ t.bus.acked = true) ∧
    (∀ c ∈ [Instr.entas0, .entas1, .entas2, .entas3], Does c s fun t => t = s.setBus { s.bus with hdr := false, acked := true }) ∧
    Does .enthdr0 s (fun t => t = s.setBus { s.bus with hdr := true, acked := true })) ∧
  (∀ s : State, s.targetUp = true →
    (s.bus.dynAddr.isSome = true →
      Does .getmwl s (fun t => t.bus.lastCcc = [BitVec.ofNat 8 (s.bus.mwl / 256 % 256), BitVec.ofNat 8 (s.bus.mwl % 256)]) ∧
      Does .getmrl s (fun t => t.bus.lastCcc = [BitVec.ofNat 8 (s.bus.mrl / 256 % 256), BitVec.ofNat 8 (s.bus.mrl % 256), 7]) ∧
      Does .getpid s (fun t => t.bus.lastCcc.length = 6 ∧
        leNat t.bus.lastCcc.reverse = 0x2D5 * 2 ^ 33 + 0x640 * 2 ^ 16 + instanceNo * 2 ^ 12 + 0xB2) ∧
      Does .getbcr s (fun t => t.bus.lastCcc = [0x26]) ∧
      Does .getdcr s (fun t => t.bus.lastCcc = [0x00]) ∧
      Does .getstatus s (fun t => t.bus.lastCcc = [BitVec.ofNat 8 s.sysState,
        BitVec.ofNat 8 ((s.bus.ibiMbx || s.bus.ibiEvt).toNat + 32 * s.bus.protoErr.toNat)] ∧ t.bus.protoErr = false) ∧
      Does .getcaps s (fun t => t.bus.lastCcc.head? = some 1 ∧ t.bus.lastCcc.length = 4) ∧
      Does .getxtime s (fun t => t.bus.lastCcc.head? = some 1 ∧ t.bus.lastCcc.length = 4) ∧
      (∀ a, Does (.setnewda a) s fun t => t.bus.dynAddr = some a.val) ∧
      (∀ c ∈ [Instr.getmwl, .getmrl, .getpid, .getbcr, .getdcr, .getstatus, .getcaps, .getxtime, .setnewda 9],
        Does c s fun t => t.bus.acked = true ∧ t.bus.hdr = false)) ∧
    (s.bus.dynAddr = none →
      ∀ c ∈ [Instr.getmwl, .getmrl, .getpid, .getbcr, .getdcr, .getstatus, .getcaps, .getxtime, .setnewda 9],
        Does c s fun t => t = s.setBus { s.bus with hdr := false, acked := false })) ∧
  (∀ (s : State) (st a : Fin 128), s.targetUp = true → s.bus.dynAddr = none →
    (st.val = 0x20 + instanceNo → Does (.setdasa st a) s fun t => t.bus.dynAddr = some a.val ∧ t.bus.acked = true) ∧
    (st.val ≠ 0x20 + instanceNo → Does (.setdasa st a) s fun t => t = s))

/-- In-band interrupts, hot-join, and what the command codes leave unchanged. An in-band interrupt that is due (ENINT enabled, something
pending, IBI_HOLD passed since the last one was accepted) and accepted carries the mandatory byte, MBX_DONE and EVT_SUM, and leaves
nothing pending; refused, it is marked for a retry, and the retry does the same. A hot-join request is made while the module has no
address. While ENINT is disabled none is requested. Each of the command codes named, in-band interrupts and hot-join requests leave
every register word, memory, table and queue as it was: only the record of the I3C target may change. Legacy I2C traffic changes
nothing. (R292, R293, R288, R289) -/
def Obligations.InterruptsAndFrameOfTheBus : Prop :=
  ((∀ s : State, s.ibiReady = true → s.bus.ibiRefused = false →
    Does (.inBandInterrupt true) s (fun t => t.bus.ibiMbx = false ∧ t.bus.ibiEvt = false ∧ t.bus.ibiAt = some s.now ∧
      t.bus.lastIbi = leBytes 1 (s.bus.ibiMbx.toNat + 2 * s.bus.ibiEvt.toNat) ++ leBytes 2 s.mbxDoneWord.toNat ++
        leBytes 4 s.evtSum.toNat) ∧
    Does (.inBandInterrupt false) s (fun t => t = s.setBus { s.bus with ibiRefused := true })) ∧
  (∀ s : State, s.ibiReady = true → s.bus.ibiRefused = true →
    Does (.ibiRetry true) s fun t => t.bus.ibiRefused = false ∧ t.bus.ibiMbx = false ∧ t.bus.ibiEvt = false) ∧
  (∀ (s : State) (acc : Bool), s.bus.enInt = false →
    Does (.inBandInterrupt acc) s (fun t => t = s) ∧ Does (.ibiRetry acc) s (fun t => t = s)) ∧
  (∀ (s : State) (acc : Bool), s.targetUp = true → s.bus.enHj = true → s.bus.dynAddr = none → s.bus.hjDone = false →
    Does (.hotJoin acc) s fun t => t = s.setBus { s.bus with hjDone := acc })) ∧
  ((∀ (s : State) (i j k : Bool) (a b : Fin 128) (n : Fin 65536),
    ∀ c ∈ [Instr.enec i j k, .disec i j, .rstdaa, .entdaa a, .setdasa a b, .setnewda a, .setmwl n, .getmwl, .setmrl n, .getmrl, .getpid,
      .getbcr, .getdcr, .getstatus, .getcaps, .enthdr0, .entas0, .entas1, .entas2, .entas3, .getxtime, .inBandInterrupt i, .ibiRetry i,
      .hotJoin i],
    Does c s fun t => t = s.setBus t.bus) ∧
  (∀ s : State, Does .legacyI2cTraffic s fun t => t = s))

/-- What private transfers and HDR-DDR transfers do. While the target logic runs and the module has an address: a private write of exactly
three bytes sets the register pointer, its bits 1 and 0 ignored, and writes nothing; one of seven bytes writes one word, least
significant byte first, as a host write of the pointed address does, and the pointer advances by 4 except after IND_DATA; a private read
of four bytes returns the word a host read gives and advances likewise. In HDR mode command code 0x20 does as a private write of three
bytes or of seven, 0xA0 reads as a private read, and another code is not acknowledged; outside HDR mode neither does anything.
(R290, R291) -/
def Obligations.PrivateTransfers : Prop :=
  ∀ s : State, s.targetUp = true → s.bus.dynAddr.isSome = true → 7 ≤ s.bus.mwl → 4 ≤ s.bus.mrl →
    (∀ a b c : Byte, let p := (a.toNat * 65536 + b.toNat * 256 + c.toNat) / 4 * 4
      Does (.privateWrite [a, b, c]) s (fun t => t = s.setBus { s.bus with hdr := false, acked := true, ptr := p, rung := [] }) ∧
      (s.bus.hdr = true → Does (.hdrDdrWrite 0x20 [a, b, c]) s fun t =>
        t = s.setBus { s.bus with acked := true, ptr := p, rung := [] }) ∧
      (∀ w : Word, let u := hostWrite (s.setBus { s.bus with hdr := false, acked := true, ptr := p, rung := [] }) p w
        Does (.privateWrite ([a, b, c] ++ leBytes 4 w.toNat)) s fun t =>
          t = u.setBus { u.bus with ptr := if p = 0x24 then p else (p + 4) % 0x1000000 }) ∧
      (∀ w : Word, s.bus.hdr = true → let u := hostWrite (s.setBus { s.bus with acked := true, ptr := p, rung := [] }) p w
        Does (.hdrDdrWrite 0x20 ([a, b, c] ++ leBytes 4 w.toNat)) s fun t =>
          t = u.setBus { u.bus with ptr := if p = 0x24 then p else (p + 4) % 0x1000000 })) ∧
    (∀ v u, hostRead (s.setBus { s.bus with hdr := false, acked := true }) s.bus.ptr = (some v, u) →
      Does (.privateRead 4) s fun t => t.bus.lastRead = leBytes 4 v.toNat ∧ t.regs = u.regs ∧
        t.bus.ptr = if s.bus.ptr = 0x24 then s.bus.ptr else (s.bus.ptr + 4) % 0x1000000) ∧
    (∀ v u, s.bus.hdr = true → hostRead (s.setBus { s.bus with acked := true }) s.bus.ptr = (some v, u) →
      Does (.hdrDdrRead 0xA0 4) s fun t => t.bus.lastRead = leBytes 4 v.toNat ∧ t.regs = u.regs) ∧
    (∀ (code : Fin 256) bs n,
      (s.bus.hdr = true → code.val ≠ 0x20 → code.val ≠ 0xA0 →
        Does (.hdrDdrWrite code bs) s (fun t => t = s.setBus { s.bus with acked := false }) ∧
        Does (.hdrDdrRead code n) s (fun t => t = s.setBus { s.bus with acked := false })) ∧
      (s.bus.hdr = false → Does (.hdrDdrWrite code bs) s (fun t => t = s) ∧ Does (.hdrDdrRead code n) s (fun t => t = s)))

/-- RSTACT resets the target logic, and in TEST with action 2 the module. RSTACT takes the dynamic address, closes the key and sets RSTACT
in SYS_EVT. Without action 0x02 in TEST nothing but the bus, the key, SYS_EVT and the state of SYS_STAT changes: staging memory, jobs
and the tables stand, and a pending IBI stays pending. With it the module is reset: no job is admitted and nothing is in flight. (R288, R294, R297, R309) -/
def Obligations.TargetReset : Prop :=
  ∀ (s : State) (a : Fin 256) (ok : Bool), s.targetUp = true →
    Does (.rstact a ok) s fun t => t.bus.dynAddr = none ∧ t.on R.SYS_EVT_RSTACT 0 = true ∧ t.on R.SYS_STAT_KEY_OPEN 0 = false ∧
      (¬ (a.val = 2 ∧ s.sysState = stTest) → t.jobs = s.jobs ∧ t.staging = s.staging ∧ t.time = s.time ∧
        t.bus.ibiMbx = s.bus.ibiMbx ∧ (s.bus.ibiEvt = true → t.bus.ibiEvt = true) ∧
        ∀ k, k ≠ 0x4 → k ≠ 0x8 → t.word k = s.word k) ∧
      (a.val = 2 → s.sysState = stTest → t.jobs = [] ∧ t.batches = [] ∧ t.fabric = [] ∧ t.staging = [])

/-- How status words are set, read and written back. An event of any status word but SYS_STAT sets its field, advances SEQ by one modulo
256, leaves the other bits of the word, and leaves every other register word but SYS_STAT as it was; a recovery event of SYS_EVT moves
SERVICE to RECOVERY. Stated of the shared operation every command uses. For each of the 23 status words that feed bits 0 to 22 of
EVT_SUM: a host read returns the stored word; in SERVICE its rs fields clear in the same step; in START_UP, TEST and RECOVERY they stay,
and the sequence number and the fields reported are kept for a write-back. Outside SERVICE a write of the sequence number the most
recent read of a status word returned clears each rs field that read reported, but for those an event has set again; a write of any
other number clears nothing; in SERVICE a write clears nothing. Stated for the status words of bits 1 to 22 of EVT_SUM; SYS_EVT also has
the transitions of R294. (R294, R304, R295, R11) -/
def Obligations.StatusWords : Prop :=
  ((∀ (s : State) (f : Fld) (i : Nat), f.key i 0 ≠ 0x4 → 8 ≤ f.lo → f.lo + f.w ≤ 32 →
    (s.raise f i).rd f i = 2 ^ f.w - 1 ∧
    fieldOf 0 8 ((s.raise f i).word (f.key i 0)) = (fieldOf 0 8 (s.word (f.key i 0)) + 1) % 256 ∧
    (∀ k, k ≠ f.key i 0 → k ≠ 0x4 → (s.raise f i).word k = s.word k) ∧
    (∀ j, 8 ≤ j → j < 32 → (j < f.lo ∨ f.lo + f.w ≤ j) →
      ((s.raise f i).word (f.key i 0)).getLsbD j = (s.word (f.key i 0)).getLsbD j)) ∧
  (∀ s : State, s.sysState = stService →
    (s.raise R.SYS_EVT_TAKEOVER 0).sysState = stRecovery ∧ (s.raise R.SYS_EVT_CLK_SWITCH 0).sysState = stRecovery ∧
    (s.raise R.SYS_EVT_THERM_STOP 0).sysState = stRecovery ∧ (s.raise R.SYS_EVT_MBX_ERR 0).sysState = stService)) ∧
  (∀ (s : State) (b : Nat) (r : RegSpec), b < 23 → findReg (sumKeyOf b) = some r → s.on R.SYS_STAT_BOOT_DONE 0 = true →
    s.gated (sumKeyOf b) = false →
    (s.sysState = stService → Does (.statusWordRead (sumKeyOf b)) s fun t =>
      t.bus.lastRead = leBytes 4 (s.word (sumKeyOf b)).toNat ∧ t.word (sumKeyOf b) &&& r.accMask .rs = 0 ∧
      t.word (sumKeyOf b) &&& ~~~(r.accMask .rs ||| r.accMask .rc) = s.word (sumKeyOf b) &&& ~~~(r.accMask .rs ||| r.accMask .rc)) ∧
    (s.sysState ≠ stService → Does (.statusWordRead (sumKeyOf b)) s fun t =>
      t.bus.lastRead = leBytes 4 (s.word (sumKeyOf b)).toNat ∧
      t.word (sumKeyOf b) &&& r.accMask .rs = s.word (sumKeyOf b) &&& r.accMask .rs ∧
      spGet (fun _ => none) t.wb (sumKeyOf b) =
        some ⟨fieldOf 0 8 (s.word (sumKeyOf b)), s.word (sumKeyOf b) &&& r.accMask .rs, 0⟩)) ∧
  (∀ (s : State) (b : Nat) (n : Fin 256) (r : RegSpec) (w : WriteBack), 0 < b → b < 23 → findReg (sumKeyOf b) = some r →
    s.on R.SYS_STAT_BOOT_DONE 0 = true → s.gated (sumKeyOf b) = false → spGet (fun _ => none) s.wb (sumKeyOf b) = some w →
    (s.sysState ≠ stService → n.val = w.seq → Does (.statusWriteBack (sumKeyOf b) n) s fun t =>
      t.word (sumKeyOf b) &&& r.accMask .rs = s.word (sumKeyOf b) &&& r.accMask .rs &&& ~~~(w.reported &&& ~~~w.again)) ∧
    (s.sysState = stService ∨ n.val ≠ w.seq → Does (.statusWriteBack (sumKeyOf b) n) s fun t =>
      t.word (sumKeyOf b) &&& r.accMask .rs = s.word (sumKeyOf b) &&& r.accMask .rs))

/-- A read of the low word of the timebase latches the high word for the next read of it. A host read of the low word of the timebase
returns its low 32 bits and latches its high 32 bits; the next read of the high word returns what was latched and uses it up; with
nothing latched it returns the live high word. (R275, R298) -/
def Obligations.WideValuesLatch : Prop :=
  ∀ s : State, s.on R.SYS_STAT_BOOT_DONE 0 = true →
    (Does (.wideValueRead 0x60900) s fun t => t.bus.lastRead = leBytes 4 (s.time.count.toNat % 2 ^ 32) ∧
      spGet (fun _ => none) t.shadow 0x60904 = some (BitVec.ofNat 32 (s.time.count.toNat / 2 ^ 32))) ∧
    (∀ hi, spGet (fun _ => none) s.shadow 0x60904 = some hi → Does (.wideValueRead 0x60904) s fun t =>
      t.bus.lastRead = leBytes 4 hi.toNat ∧ spGet (fun _ => none) t.shadow 0x60904 = none) ∧
    (spGet (fun _ => none) s.shadow 0x60904 = none → Does (.wideValueRead 0x60904) s fun t =>
      t.bus.lastRead = leBytes 4 (s.time.count.toNat / 2 ^ 32))

/-- What a write of a register without an action of its own leaves in it. A host write of a register of the direct space whose write has no
action beyond its fields: rw fields take the value; wk fields take it only if the key was open; reserved rw bits take it only in TEST;
every other bit stays; the key is closed by the write. RSV_WR is set outside TEST if a reserved bit would change, WK_IGNORED with the
key closed if a keyed field would. (R11, R296, R297) -/
def Obligations.PlainRegisterWrites : Prop :=
  ∀ (s : State) (key : Nat) (v : Word) (r : RegSpec), key < halfStep → key ≠ 0x4 → key ≠ 0x8 → key ≠ 0x10 → findReg key = some r →
    r.actsPlainly = true → r.accMask .rs = 0 → s.on R.SYS_STAT_BOOT_DONE 0 = true → s.gated key = false →
    Does (.registerWrite key v) s fun t =>
      t.word key = (s.word key &&& ~~~(s.writeMask r s.keyOpen)) ||| (v &&& s.writeMask r s.keyOpen) ∧
      t.on R.SYS_STAT_KEY_OPEN 0 = false ∧
      (((s.word key ^^^ v) &&& r.rsvMask ≠ 0) → s.sysState ≠ stTest → t.on R.SYS_EVT_RSV_WR 0 = true) ∧
      (((s.word key ^^^ v) &&& r.accMask .wk ≠ 0) → s.keyOpen = false → t.on R.SYS_EVT_WK_IGNORED 0 = true)

/-- The key, and the registers and addresses that read zero. A host write of 0x4B54_0640 to KEY_UNLOCK opens the key; any other value closes
it; nothing else changes. A read of a register of a gated block returns zero and changes nothing but what the host was given; a write of
it changes nothing but the key. A read of an address the map does not assign returns zero; a write of one sets BAD_ADDR. (R297, R301,
R303) -/
def Obligations.KeyAndUnreadableAddresses : Prop :=
  (∀ (s : State) (v : Word), s.on R.SYS_STAT_BOOT_DONE 0 = true →
    Does (.keyUnlock v) s fun t => t.on R.SYS_STAT_KEY_OPEN 0 = decide (v = 0x4B540640) ∧
      (∀ k, k ≠ 0x4 → t.word k = s.word k) ∧ t = s.setRegs t.regs) ∧
  (∀ (s : State) (key : Nat) (v : Word), key < halfStep → key ≠ 0x10 → key ≠ 0x24 → key < 0x100000 → s.on R.SYS_STAT_BOOT_DONE 0 = true →
    (∀ r, findReg key = some r → s.gated key = true →
      Does (.statusWordRead key) s (fun t => t = s.setBus { s.bus with lastRead := [0, 0, 0, 0] }) ∧
      Does (.registerWrite key v) s (fun t => t = s.wrB R.SYS_STAT_KEY_OPEN 0 false)) ∧
    (findReg key = none →
      Does (.statusWordRead key) s (fun t => t = s.setBus { s.bus with lastRead := [0, 0, 0, 0] }) ∧
      Does (.registerWrite key v) s (fun t => t.on R.SYS_EVT_BAD_ADDR 0 = true)))

/-- How accesses of the indirect window begin and complete. A write of IND_ADDR begins a fetch of the word it names, in place of one in
progress; a read of IND_DATA returns a fetched word and, without AINC, changes nothing else, and while the fetch is not complete it
gives nothing and changes nothing; a write of IND_DATA is posted behind the accesses in progress. The oldest access completes first: a
fetch from staging memory brings its four bytes, least significant first; a write to staging memory and an access of a half whose
sideband is lost set IND_ERR. That a new address drops a fetch in progress is the model's DESIGN CHOICE, log 57. (R299) -/
def Obligations.IndirectWindow : Prop :=
  ∀ s : State, s.on R.SYS_STAT_BOOT_DONE 0 = true →
    (∀ v, Does (.indAddrWrite v) s fun t => t.bus.fetched = none ∧ t.bus.indQueue = s.bus.indQueue.filter IndOp.write ++
      [⟨false, t.rd R.IND_ADDR_DOMAIN 0, t.rd R.IND_ADDR_OFFSET 0 / 4 * 4, 0, false⟩]) ∧
    (∀ w, s.bus.fetched = some w → s.on R.IND_ADDR_AINC 0 = false →
      Does .indDataRead s fun t => t = s.setBus { s.bus with lastRead := leBytes 4 w.toNat }) ∧
    (s.bus.fetched = none → Does .indDataRead s fun t => t = s) ∧
    (∀ v, Does (.indDataWrite v) s fun t => t.bus.indQueue = s.bus.indQueue ++
      [⟨true, s.rd R.IND_ADDR_DOMAIN 0, s.rd R.IND_ADDR_OFFSET 0 / 4 * 4, v, s.keyOpen⟩]) ∧
    (∀ op rest, s.bus.indQueue = op :: rest → op.domain = 2 →
      (op.write = false → op.offset < 0x2000000 → Does .indAccessDone s fun t =>
        t.bus.indQueue = rest ∧ t.bus.fetched = some (BitVec.ofNat 32 (leNat (s.stBytes op.offset 4))) ∧ t.regs = s.regs) ∧
      (op.write = true → Does .indAccessDone s fun t =>
        t.bus.indQueue = rest ∧ t.on R.SYS_EVT_IND_ERR 0 = true ∧ t.on R.IND_STAT_ERR 0 = true ∧ t.staging = s.staging)) ∧
    (∀ op rest, s.bus.indQueue = op :: rest → op.domain < 2 → s.halfReached op.domain = false →
      Does .indAccessDone s fun t => t.on R.SYS_EVT_IND_ERR 0 = true ∧ t.on R.IND_STAT_ERR 0 = true)

/-- The alias region reads and clears one event bit and sets one rw bit. The alias of bit b of SYS_EVT reads as that bit; in SERVICE an
event bit read through it clears alone, in other states nothing clears. Writing bit 0 of the alias of bit b of EVT_MASK sets that rw bit
to the value written and leaves the others; an alias write of an event bit of SYS_EVT leaves that word. (R302) -/
def Obligations.AliasRegion : Prop :=
  ∀ (s : State) (b : Fin 32) (v : Word), s.on R.SYS_STAT_BOOT_DONE 0 = true →
    (Does (.aliasRead 0 b) s fun t => t.bus.lastRead = leBytes 4 (bitOf (s.word 0x8) b.val).toNat ∧
      (s.sysState ≠ stService → t.regs = s.regs) ∧
      (s.sysState = stService → 8 ≤ b.val → (b.val < 18 → (t.word 0x8).getLsbD b.val = false) ∧
        ∀ j, j < 32 → j ≠ b.val → (t.word 0x8).getLsbD j = (s.word 0x8).getLsbD j)) ∧
    (b.val < 25 → Does (.aliasWrite 3 b v) s fun t => (t.word 0x18).getLsbD b.val = v.getLsbD 0 ∧
      ∀ j, j < 32 → j ≠ b.val → (t.word 0x18).getLsbD j = (s.word 0x18).getLsbD j) ∧
    (8 ≤ b.val → Does (.aliasWrite 0 b v) s fun t => t.word 0x8 = s.word 0x8)

/-- How a mailbox is filled, rung and released. While a mailbox is IDLE a request word is stored, and RING makes it QUEUED behind the
doorbells rung before, with CMD the code in its request; a code that R311 to R316 do not name is answered BAD_COMMAND when nothing of its
family was rung before, and otherwise waits its turn. While it is DONE, RELEASE makes it IDLE and its response reads zero. A word or RING
on a mailbox that is not IDLE, or RELEASE on one that is not DONE, changes nothing of it and sets MBX_ERR. That BAD_COMMAND is given at
the doorbell is the model's, log 12. (R305, R306, R307, R308, R309) -/
def Obligations.MailboxHandshake : Prop :=
  ∀ (s : State) (m : Fin 16), s.on R.SYS_STAT_BOOT_DONE 0 = true →
    (s.mbState m = mbIdle →
      (∀ w v, Does (.mbxReqWrite m w v) s fun t => t.mbReq m w = v ∧ t.mbState m = mbIdle) ∧
      ((findCmd (s.req m 0 2)).isSome = true → Does (.mbxRing m) s fun t =>
        t.mbState m = mbQueued ∧ t.mbCmd m = s.req m 0 2 ∧ t.mbxOrder = s.mbxOrder ++ [m.val]) ∧
      (findCmd (s.req m 0 2) = none → s.dutiesRun = true → (∀ q ∈ s.mbxOrder, s.mbCmd q / 256 ≠ s.req m 0 2 / 256) →
        Does (.mbxRing m) s fun t => t.Answers m .badCommand []) ∧
      (findCmd (s.req m 0 2) = none → (∃ q ∈ s.mbxOrder, s.mbCmd q / 256 = s.req m 0 2 / 256) → m.val ∉ s.mbxOrder →
        Does (.mbxRing m) s fun t => t.mbState m = mbQueued ∧ t.mbxOrder = s.mbxOrder ++ [m.val])) ∧
    (s.mbState m ≠ mbIdle →
      (∀ w v, Does (.mbxReqWrite m w v) s fun t => t.mbReq m w = s.mbReq m w ∧ t.on R.SYS_EVT_MBX_ERR 0 = true) ∧
      Does (.mbxRing m) s fun t => t.mbState m = s.mbState m ∧ t.on R.SYS_EVT_MBX_ERR 0 = true ∧ t.mbxOrder = s.mbxOrder) ∧
    (s.mbState m = mbDone → Does (.mbxRelease m) s fun t => t.mbState m = mbIdle ∧ ∀ w < 16, t.word (R.MBX_RSP.key m w) = 0) ∧
    (s.mbState m ≠ mbDone → Does (.mbxRelease m) s fun t => t.mbState m = s.mbState m ∧ t.on R.SYS_EVT_MBX_ERR 0 = true)

/-- How the timebase is set, disciplined and judged. CLK_TB_SET that begins while no job is WARMING, RUNNING or RESTARTING writes the eight
bytes of its parameter into the timebase, sets STEP and answers OK; with one it answers JOB_STATE and leaves the timebase. A write of
TB_SYNC_HI takes effect together with the value of TB_SYNC_LO held for it. With firmware in service a write of TB_CFG with SRC 0, or 3,
which is taken as 0, leads to FREE with RATE 0, and one with SRC 1 or 2 leads FREE to ACQUIRING. A discipline event is a SYNC_IN edge of
the kind EDGE selects with SRC 1, or with SRC 2 a Sync Tick of SETXTIME while the target logic runs; an edge or tick that SRC or EDGE
does not select, or one in FREE, leaves the timebase, and so does a SETXTIME of another mode. Outside FREE an event records its error,
held within 32 bits, in TB_ERR, advances the expected value by one period and notes its instant. The eighth in a row within 100 ns brings
ACQUIRING to LOCKED and sets LOCK; one further off starts the count again; any event brings HOLDOVER to ACQUIRING unless it locks. In
LOCKED an event beyond 10 us leaves the count and RATE, but the fourth in a row returns to ACQUIRING; one within 10 us leaves LOCKED. An
error beyond 1 ms of any other event steps the timebase to the expected value and sets STEP when no job runs, and sets FAR and leaves
the count when one does. Each event that is applied leaves RATE within 100 ppm, which else is a free value, log 20. Without an
event for one and a half periods LOCKED becomes HOLDOVER with RATE held and sets HOLDOVER. (R279, R286, R315, R277, R276, R278) -/
def Obligations.TimebaseDiscipline : Prop :=
  (∀ (s : State) (m : Fin 16), s.begins m 0x0601 true true true = true →
    (s.anyStarted = false → Does (.clkTbSet m) s fun t => t.time.count = BitVec.ofNat 64 (s.req m 8 8) ∧ t.time.frac = 0 ∧
      t.on R.TIME_EVT_STEP 0 = true ∧ t.Answers m .ok []) ∧
    (s.anyStarted = true → Does (.clkTbSet m) s fun t => t.time = s.time ∧ t.Answers m .jobState [])) ∧
  (∀ (s : State) (v lo : Word), s.on R.SYS_STAT_BOOT_DONE 0 = true → s.time.syncHeld = some lo → Does (.tbSyncHiWrite v) s fun t =>
    t.time = { s.time with expect := BitVec.ofNat 64 (lo.toNat + 2 ^ 32 * v.toNat), syncHeld := none }) ∧
  (∀ (s : State) (v : Word), s.on R.SYS_STAT_BOOT_DONE 0 = true →
    let src := fieldOf R.TB_CFG_SRC.lo R.TB_CFG_SRC.w v
    (src = 0 ∨ src = 3 → Does (.tbCfgWrite v) s fun t => t.rd R.TB_STAT_STATE 0 = tbFree ∧ t.rd R.TB_STAT_RATE 0 = 0) ∧
    (src = 1 ∨ src = 2 → s.rd R.TB_STAT_STATE 0 = tbFree → Does (.tbCfgWrite v) s fun t =>
      t.rd R.TB_STAT_STATE 0 = tbAcquiring ∧ t.rd R.TB_CFG_SRC 0 = src ∧ t.time.good = 0 ∧ t.time.count = s.time.count)) ∧
  (∀ (s : State) (falling : Bool) (phase : Fin 4),
    (s.tbSrc ≠ 1 ∨ s.on R.TB_CFG_EDGE 0 ≠ falling ∨ s.rd R.TB_STAT_STATE 0 = tbFree →
      Does (.syncInEdge falling phase) s fun t => t = s) ∧
    (s.targetUp = true → s.tbSrc ≠ 2 ∨ s.rd R.TB_STAT_STATE 0 = tbFree →
      Does (.setxtime .syncTick phase) s fun t => t = s.setBus { s.bus with hdr := false, acked := true }) ∧
    (s.targetUp = true → ∀ sub : XTimeSub, sub ≠ .syncTick →
      Does (.setxtime sub phase) s fun t => t = s.setBus { s.bus with hdr := false, acked := true })) ∧
  (∀ (s : State) (falling : Bool) (phase : Fin 4) (e : Instr),
    (e = .syncInEdge falling phase ∧ s.tbSrc = 1 ∧ s.on R.TB_CFG_EDGE 0 = falling) ∨
      (e = .setxtime .syncTick phase ∧ s.tbSrc = 2 ∧ s.targetUp = true) →
    let st := s.rd R.TB_STAT_STATE 0
    let err := (s.latched phase.val - s.time.expect).toInt
    st ≠ tbFree → Does e s fun t =>
      t.rdInt R.TB_ERR_ERR 0 = clampInt (-2147483648) 2147483647 err ∧
      t.time.expect = s.time.expect + BitVec.ofNat 64 (1000 * s.tbPeriodUs) ∧ t.time.lastEvent = some s.now ∧
      (st ≠ tbLocked → t.rd R.TB_STAT_STATE 0 = (if err.natAbs ≤ 100 ∧ s.time.good = 7 then tbLocked else tbAcquiring) ∧
        t.time.good = (if err.natAbs ≤ 100 ∧ s.time.good ≠ 7 then s.time.good + 1 else 0)) ∧
      (st ≠ tbLocked → err.natAbs ≤ 100 → s.time.good = 7 → t.on R.TIME_EVT_LOCK 0 = true) ∧
      (st = tbLocked → 10000 < err.natAbs → s.time.far < 3 → t.rd R.TB_STAT_STATE 0 = tbLocked ∧ t.time.far = s.time.far + 1 ∧
        t.time.count = s.time.count ∧ t.rd R.TB_STAT_RATE 0 = s.rd R.TB_STAT_RATE 0) ∧
      (st = tbLocked → 10000 < err.natAbs → s.time.far = 3 → t.rd R.TB_STAT_STATE 0 = tbAcquiring ∧ t.time.far = 0) ∧
      (st = tbLocked → err.natAbs ≤ 10000 → t.rd R.TB_STAT_STATE 0 = tbLocked ∧ t.time.far = 0 ∧ t.time.count = s.time.count) ∧
      (st ≠ tbLocked ∨ s.time.far = 3 → 1000000 < err.natAbs →
        (s.anyStarted = false → t.time.count = s.time.count - BitVec.ofInt 64 err ∧ t.on R.TIME_EVT_STEP 0 = true) ∧
        (s.anyStarted = true → t.time.count = s.time.count ∧ t.rd R.TB_STAT_FAR 0 = 1 ∧ t.on R.TIME_EVT_FAR 0 = true)) ∧
      (st ≠ tbLocked ∨ err.natAbs ≤ 10000 ∨ s.time.far = 3 →
        -10000 ≤ t.rdInt R.TB_STAT_RATE 0 ∧ t.rdInt R.TB_STAT_RATE 0 ≤ 10000)) ∧
  (∀ s : State, s.rd R.TB_STAT_STATE 0 = tbLocked → (1500 * s.tbPeriodUs : Int) ≤ (s.time.count - s.time.expect).toInt →
    Does .holdoverTimeout s fun t => t.rd R.TB_STAT_STATE 0 = tbHoldover ∧ t.on R.TIME_EVT_HOLDOVER 0 = true ∧
      t.rd R.TB_STAT_RATE 0 = s.rd R.TB_STAT_RATE 0 ∧ t.time = s.time)

/-- How the web position follows the encoder. While the encoder is enabled and its block runs, a transition of one input moves the web
position by one count, upward when ENC_A leads unless INVERT is set, modulo 2 to the 32nd; a transition of both is counted as an error,
sets ENC_ERR and leaves the position; a sample without a change, or one of an encoder disabled or gated, leaves the position. So it is of
inputs whose levels have lasted the minimum of FILTER; a level that ends sooner is rejected, and the sample counts nothing. Stated with
no entry waiting on a marker. (R280, R281) -/
def Obligations.EncoderCounts : Prop :=
  ∀ (s : State) (a b : Bool), (∀ k < 8, s.markQ k = []) →
    (a ≠ s.time.encA → b = s.time.encB → s.tooShort s.time.encAAt = true → Does (.encoderTransition a b) s fun t =>
      t.word (R.ENC_POS.key 0 0) = s.word (R.ENC_POS.key 0 0) ∧ t.time.encA = s.time.encA) ∧
    (s.on R.ENC_CFG_EN 0 = true → s.on R.CLK_EN_ENC 0 = true → s.tooShort s.time.encAAt = false → s.tooShort s.time.encBAt = false →
      (a ≠ s.time.encA → b = s.time.encB → Does (.encoderTransition a b) s fun t =>
        t.word (R.ENC_POS.key 0 0) = (if (a != s.time.encB) != s.on R.ENC_CFG_INVERT 0 then s.word (R.ENC_POS.key 0 0) + 1
          else s.word (R.ENC_POS.key 0 0) - 1) ∧ t.time.encA = a) ∧
      (a = s.time.encA → b ≠ s.time.encB → Does (.encoderTransition a b) s fun t =>
        t.word (R.ENC_POS.key 0 0) = (if (a != s.time.encB) != s.on R.ENC_CFG_INVERT 0 then s.word (R.ENC_POS.key 0 0) + 1
          else s.word (R.ENC_POS.key 0 0) - 1) ∧ t.time.encB = b) ∧
      (a ≠ s.time.encA → b ≠ s.time.encB → Does (.encoderTransition a b) s fun t =>
        t.word (R.ENC_POS.key 0 0) = s.word (R.ENC_POS.key 0 0) ∧ t.on R.TIME_EVT_ENC_ERR 0 = true ∧
        t.rd R.ENC_ERR_CNT_COUNT 0 = (s.rd R.ENC_ERR_CNT_COUNT 0 + 1) % 2 ^ R.ENC_ERR_CNT_COUNT.w)) ∧
    (s.on R.ENC_CFG_EN 0 = false ∨ s.on R.CLK_EN_ENC 0 = false → s.tooShort s.time.encAAt = false → s.tooShort s.time.encBAt = false →
      Does (.encoderTransition a b) s fun t => t.regs = s.regs ∧ t.time.encA = a ∧ t.time.encB = b) ∧
    (a = s.time.encA → b = s.time.encB → Does (.encoderTransition a b) s fun t => t = s)

/-- How a marker takes, fires, discards and clears its entries. STREAM_MARK on an enabled marker whose queue has room queues a target not
yet reached and answers 0; a target passed by no more than LATE_WIN fires at once and answers 1 with MARK_LATE; one further gone is
discarded, answers 2 and sets MARK_MISS; a marker disabled answers 2; a queue of 64 answers 3 and sets MARK_OVF. An entry that fires
drives the output to its active level, low with POL: so does the entry at the head of a queue when a count brings the position to its
target, and the queue then holds the rest. STREAM_MARK_CLEAR empties the queue, drives the marker inactive, sets MARK_FLUSH and answers
the number of entries discarded. CLK_ENC_PRESET with no job WARMING, RUNNING or RESTARTING writes the position, empties every queue, sets
MARK_FLUSH and leaves the pulses that run; with one it answers JOB_STATE. A pulse ends WIDTH after the last entry that fired, not before,
and the output then returns to the other level. (R281, R282, R283, R284, R286, R315) -/
def Obligations.MarkerEntries : Prop :=
  (∀ (s : State) (m : Fin 16), s.begins m 0x0503 true (s.on R.CLK_EN_MARK 0) true = true →
    let k := s.req m 8 1
    let target := BitVec.ofNat 32 (s.req m 12 4)
    let d := markD (s.word (R.ENC_POS.key 0 0)) target
    (s.on R.MARK_CFG_EN k = false → Does (.streamMark m) s fun t => t.time = s.time ∧ t.on R.TIME_EVT_MARK_MISS 0 = true ∧
      t.Answers m .ok [2]) ∧
    (s.on R.MARK_CFG_EN k = true → (s.markQ k).length = 64 → Does (.streamMark m) s fun t => t.time = s.time ∧
      t.on R.TIME_EVT_MARK_OVF 0 = true ∧ t.Answers m .ok [3]) ∧
    (s.on R.MARK_CFG_EN k = true → (s.markQ k).length < 64 →
      (d < 0 → Does (.streamMark m) s fun t => t.markQ k =
          markInsert (s.word (R.ENC_POS.key 0 0)) ⟨target, s.on R.MARK_CFG_POL k⟩ (s.markQ k) ∧
        t.rd R.MARK_STAT_PENDING k = (s.markQ k).length + 1 ∧ t.Answers m .ok [0]) ∧
      (0 ≤ d → d ≤ s.rd R.MARK_LATE_WIN_LATE_WIN 0 → Does (.streamMark m) s fun t => t.markQ k = s.markQ k ∧
        t.on R.MARK_STAT_ACTIVE k = true ∧ t.markLevel k = !s.on R.MARK_CFG_POL k ∧ t.on R.TIME_EVT_MARK_LATE 0 = true ∧ t.Answers m .ok [1]) ∧
      (0 ≤ d → (s.rd R.MARK_LATE_WIN_LATE_WIN 0 : Int) < d → Does (.streamMark m) s fun t => t.time = s.time ∧
        t.on R.TIME_EVT_MARK_MISS 0 = true ∧ t.Answers m .ok [2]))) ∧
  (∀ (s : State) (m : Fin 16), s.begins m 0x0504 true (s.on R.CLK_EN_MARK 0) true = true → Does (.streamMarkClear m) s fun t =>
    t.markQ (s.req m 8 1) = [] ∧ t.on R.MARK_STAT_ACTIVE (s.req m 8 1) = false ∧ t.on R.TIME_EVT_MARK_FLUSH 0 = true ∧
    t.Answers m .ok [BitVec.ofNat 8 (s.markQ (s.req m 8 1)).length]) ∧
  (∀ (s : State) (m : Fin 16), s.begins m 0x0602 true (s.on R.CLK_EN_ENC 0) true = true →
    (s.anyStarted = false → Does (.clkEncPreset m) s fun t => t.word (R.ENC_POS.key 0 0) = BitVec.ofNat 32 (s.req m 8 4) ∧
      (∀ k < 8, t.markQ k = []) ∧ t.time.pulse = s.time.pulse ∧ t.on R.TIME_EVT_MARK_FLUSH 0 = true ∧ t.Answers m .ok []) ∧
    (s.anyStarted = true → Does (.clkEncPreset m) s fun t => t.time = s.time ∧ t.Answers m .jobState [])) ∧
  (∀ (s : State) (a : Bool) (k : Fin 8) (e : MarkEntry) (rest : List MarkEntry),
    s.on R.ENC_CFG_EN 0 = true → s.on R.CLK_EN_ENC 0 = true → s.tooShort s.time.encAAt = false → a ≠ s.time.encA →
    s.markQ k = e :: rest →
    let pos := if (a != s.time.encB) != s.on R.ENC_CFG_INVERT 0 then s.word (R.ENC_POS.key 0 0) + 1 else s.word (R.ENC_POS.key 0 0) - 1
    0 ≤ markD pos e.target → (∀ u ∈ rest, markD pos u.target < 0) →
    Does (.encoderTransition a s.time.encB) s fun t => t.markQ k = rest ∧ t.on R.MARK_STAT_ACTIVE k = true ∧ t.markLevel k = !e.low ∧
      t.rd R.MARK_STAT_FIRED k = (s.rd R.MARK_STAT_FIRED k + 1) % 2 ^ R.MARK_STAT_FIRED.w) ∧
  (∀ (s : State) (k : Fin 8),
    ((spGet (fun _ => (0, 0)) s.time.pulse k.val).1 ≤ s.now → s.on R.MARK_STAT_ACTIVE k = true → Does (.markPulseEnd k) s fun t =>
      t.on R.MARK_STAT_ACTIVE k = false ∧ t.markLevel k = !s.markLevel k ∧ t.regs = (s.wr R.MARK_STAT_ACTIVE k 0).regs) ∧
    (s.on R.MARK_STAT_ACTIVE k = false → Does (.markPulseEnd k) s fun t => t = s) ∧
    (s.now < (spGet (fun _ => (0, 0)) s.time.pulse k.val).1 → Does (.markPulseEnd k) s fun t => t = s))

/-- When the configuration registers take a write, and when they ignore it. With firmware in service: a write of FEED_CFG with the key
closed leaves PRIMARY and AUTO, one with the key open sets both and begins a move of the selector if the feed it names is present and
not in use, or if AUTO is set while the feed in use is lost and the other present; a write of CAPTAIN with the key open is ignored, with CAPTAIN_REJ, while an admitted job declares a reduced form, and takes
effect otherwise; BRIDGE_CFG of a bridge that an admitted job names is ignored, and with the key open takes its route otherwise;
STREAM_CFG is ignored with CFG_REJ while a job is bound and else takes the value without bringing it into force; OUT_MAP is ignored with
CFG_REJ while its job runs and else takes the value; CLK_EN is ignored with GATE_REJ when it would gate a block in use. What HALF_CFG
does with a CAPTAIN equal to the present one is the model's reading, log 76. (R127, R156, R188, R189, R196, R260, R266, R370) -/
def Obligations.ConfigurationWrites : Prop :=
  ∀ (s : State) (v : Word), s.on R.SYS_STAT_BOOT_DONE 0 = true →
    (s.keyOpen = false → Does (.feedCfgWrite v) s fun t => t.rd R.FEED_CFG_PRIMARY 0 = s.rd R.FEED_CFG_PRIMARY 0 ∧
      t.rd R.FEED_CFG_AUTO 0 = s.rd R.FEED_CFG_AUTO 0 ∧ t.feedMove = s.feedMove) ∧
    (s.keyOpen = true → s.feedInUse = fieldOf 0 1 v →
      fieldOf 1 1 v = 1 → s.feedOk s.feedInUse = false → s.feedOk (1 - s.feedInUse) = true → s.on R.FEED_STAT_MOVING 0 = false →
      Does (.feedCfgWrite v) s fun t => t.on R.FEED_STAT_MOVING 0 = true ∧ t.feedMove = some (1 - s.feedInUse, s.now)) ∧
    (s.keyOpen = true → s.feedInUse = fieldOf 0 1 v →
      fieldOf 1 1 v = 0 ∨ s.feedOk s.feedInUse = true ∨ s.feedOk (1 - s.feedInUse) = false → Does (.feedCfgWrite v) s fun t => t.rd R.FEED_CFG_PRIMARY 0 = fieldOf 0 1 v ∧
      t.rd R.FEED_CFG_AUTO 0 = fieldOf 1 1 v ∧ t.feedMove = s.feedMove) ∧
    (s.keyOpen = true → s.feedInUse ≠ fieldOf 0 1 v → s.feedOk (fieldOf 0 1 v) = true → s.on R.FEED_STAT_MOVING 0 = false →
      Does (.feedCfgWrite v) s fun t => t.on R.FEED_STAT_MOVING 0 = true ∧ t.feedMove = some (fieldOf 0 1 v, s.now)) ∧
    (s.keyOpen = true → s.reducedDeclared = true → Does (.halfCfgWrite v) s fun t =>
      t.rd R.HALF_CFG_CAPTAIN 0 = s.rd R.HALF_CFG_CAPTAIN 0 ∧ t.on R.HALF_STAT_CAPTAIN_REJ 0 = true) ∧
    (s.keyOpen = true → s.reducedDeclared = false → Does (.halfCfgWrite v) s fun t => t.rd R.HALF_CFG_CAPTAIN 0 = fieldOf 0 1 v) ∧
    (∀ b : Fin 16,
      (s.bridgeNamed b = true → Does (.bridgeCfgWrite b v) s fun t => t = s.wrB R.SYS_STAT_KEY_OPEN 0 false) ∧
      (s.bridgeNamed b = false → s.keyOpen = false → Does (.bridgeCfgWrite b v) s fun t =>
        t.rd R.BRIDGE_CFG_ROUTE b = s.rd R.BRIDGE_CFG_ROUTE b ∧ t.rd R.BRIDGE_CFG_EXT_SEL b = s.rd R.BRIDGE_CFG_EXT_SEL b) ∧
      (s.bridgeNamed b = false → s.keyOpen = true → Does (.bridgeCfgWrite b v) s fun t =>
        t.rd R.BRIDGE_CFG_ROUTE b = fieldOf 0 1 v ∧ t.rd R.BRIDGE_CFG_EXT_SEL b = fieldOf 1 1 v)) ∧
    (∀ st : Fin 48,
      (s.boundJobs st ≠ [] → Does (.streamCfgWrite st v) s fun t => t.word (R.STREAM_CFG.key st 0) = s.word (R.STREAM_CFG.key st 0) ∧
        t.on R.RX_EVT_CFG_REJ 0 = true ∧ t.rd R.RX_EVT_PORT 0 = st.val / 4) ∧
      (s.boundJobs st = [] → Does (.streamCfgWrite st v) s fun t => t.word (R.STREAM_CFG.key st 0) &&& 0x7FFFFF = v &&& 0x7FFFFF ∧
        t.inForce = s.inForce)) ∧
    (∀ n : Fin 128,
      ((s.job (n.val / 8)).started = true → Does (.outMapWrite n v) s fun t =>
        t.word (R.OUT_MAP.key n 0) = s.word (R.OUT_MAP.key n 0) ∧ t.on R.RX_EVT_CFG_REJ 0 = true ∧ t.inForce = s.inForce) ∧
      ((s.job (n.val / 8)).started = false → s.frc R.OUT_MAP_EN n = 0 → Does (.outMapWrite n v) s fun t =>
        t.word (R.OUT_MAP.key n 0) &&& 0xFFFFFF7F = v &&& 0xFFFFFF7F ∧
        t.forceWord (R.OUT_MAP.key n 0) = t.word (R.OUT_MAP.key n 0))) ∧
    (s.gatesInUse v = true → Does (.clkEnWrite v) s fun t => t.word (R.CLK_EN.key 0 0) = s.word (R.CLK_EN.key 0 0) ∧
      t.on R.CLK_EVT_GATE_REJ 0 = true) ∧
    (s.gatesInUse v = false → Does (.clkEnWrite v) s fun t => t.word (R.CLK_EN.key 0 0) &&& 0x1FFFFF = v &&& 0x1FFFFF)

/-- What a read of a data window gives, and how its index advances. With firmware in service a read of MESH_TBL_DATA gives the entry its
address names and zero beyond the area, of TCAL_DATA of a half that can be reached the table entry and zero beyond the table, of
RING_DATA, TEMP_DATA, PT_DATA and SINE_TBL_DATA the entry at the index, of NV_RAW_DATA the word of the raw area while no store runs.
With AINC clear nothing else changes; with AINC set the index advances by one within its width, the offset of NV_RAW_DATA by four.
(R154, R193, R224, R343, R395, R410, R426) -/
def Obligations.DataWindowReads : Prop :=
  ∀ s : State, s.on R.SYS_STAT_BOOT_DONE 0 = true →
    let reads (s : State) (c : Instr) (ainc ix : Fld) (i n : Nat) (v : Word) : Prop :=
      (s.on ainc i = false → Does c s fun t => t = s.setBus { s.bus with lastRead := leBytes 4 v.toNat }) ∧
      (s.on ainc i = true → Does c s fun t => t = (s.wr ix i (s.rd ix i + n)).setBus { s.bus with lastRead := leBytes 4 v.toNat })
    (∀ k : Fin 4, let ix := s.rd R.MESH_TBL_ADDR_INDEX k
      let area := s.rd R.MESH_TBL_ADDR_AREA k
      reads s (.meshTblDataAccess k none) R.MESH_TBL_ADDR_AINC R.MESH_TBL_ADDR_INDEX k 1
        (if ix < areaSize area then s.meshTblAt k (s.rd R.MESH_TBL_ADDR_BANK k) area ix else 0)) ∧
    (∀ t : Fin 4096, let ix := s.rd R.TCAL_ADDR_INDEX t
      s.halfReached (halfOfTile t) = true → reads s (.tcalDataAccess t none) R.TCAL_ADDR_AINC R.TCAL_ADDR_INDEX t 1
        (if ix < 282 then s.tcalAt t (s.rd R.TCAL_ADDR_BANK t) ix else 0)) ∧
    (∀ k : Fin 4, reads s (.ringDataAccess k none) R.RING_ADDR_AINC R.RING_ADDR_INDEX k 1
      (s.ringWord k (s.rd R.RING_ADDR_INDEX k))) ∧
    reads s (.tempDataAccess none) R.TEMP_ADDR_AINC R.TEMP_ADDR_INDEX 0 1 (s.tempWord (s.rd R.TEMP_ADDR_INDEX 0)) ∧
    reads s .ptDataRead R.PT_ADDR_AINC R.PT_ADDR_INDEX 0 1 (s.ptWord (s.rd R.PT_ADDR_JOB 0) (s.rd R.PT_ADDR_INDEX 0)) ∧
    (s.nvRun = none → reads s .nvRawDataRead R.NV_RAW_ADDR_AINC R.NV_RAW_ADDR_OFFSET 0 4
      (s.nvRawWord (s.rd R.NV_RAW_ADDR_AREA 0) (s.rd R.NV_RAW_ADDR_INDEX 0) (s.rd R.NV_RAW_ADDR_OFFSET 0 / 4 * 4))) ∧
    (s.on R.CLK_EN_AOUT 0 = true → reads s (.sineTblDataAccess none) R.SINE_TBL_ADDR_AINC R.SINE_TBL_ADDR_INDEX 0 1
      (withField 0 16 (s.word (R.SINE_TBL_DATA.key 0 0)) (s.sineAt (s.rd R.SINE_TBL_ADDR_INDEX 0) % 65536).toNat))

/-- Writes of the non-volatile array and of the data windows. With firmware in service and no store running, a write of an array word
outside the protected range stores its four bytes, least significant first, and no other byte of the array; a write inside it stores
nothing and sets PROT_WR. With firmware in service: MESH_TBL_DATA stores into the bank not in service, within the area, the bits that
are not reserved, and is ignored for the bank in service; TCAL_DATA stores into the bank not in service of a tile whose table serves;
SINE_TBL_DATA stores its low 16 bits as a signed entry; RING_DATA and TEMP_DATA take no write. No other entry of any of these tables
changes. (R396, R405, R154, R193, R224, R296, R395, R426) -/
def Obligations.ArraysAndDataWindowsAreWritten : Prop :=
  (∀ (s : State) (w : Fin 65536) (v : Word), s.on R.SYS_STAT_BOOT_DONE 0 = true →
    (s.nvProtected (4 * w.val) = true → Does (.nvArrayWrite w v) s fun t => t.nvArr = s.nvArr ∧ t.on R.NV_EVT_PROT_WR 0 = true) ∧
    (s.nvProtected (4 * w.val) = false → s.nvRun = none → Does (.nvArrayWrite w v) s fun t => t.nvWord (4 * w.val) = v ∧
      ∀ a, (a < 4 * w.val ∨ 4 * w.val + 4 ≤ a) → spGet (fun _ => 0) t.nvArr a = spGet (fun _ => 0) s.nvArr a)) ∧
  (∀ (s : State) (v : Word), s.on R.SYS_STAT_BOOT_DONE 0 = true →
    (∀ k : Fin 4, let ix := s.rd R.MESH_TBL_ADDR_INDEX k
      let area := s.rd R.MESH_TBL_ADDR_AREA k
      let bank := s.rd R.MESH_TBL_ADDR_BANK k
      (bank ≠ s.meshBank k → ix < areaSize area → v &&& ~~~(meshEntryMask area) = 0 → s.meshTblAt k bank area ix &&& ~~~(meshEntryMask area) = 0 →
        Does (.meshTblDataAccess k (some v)) s fun t => t.meshTblAt k bank area ix = v ∧
          ∀ n, n ≠ meshKey k bank area ix → spGet meshTblReset t.meshTbl n = spGet meshTblReset s.meshTbl n) ∧
      (bank = s.meshBank k ∨ areaSize area ≤ ix → Does (.meshTblDataAccess k (some v)) s fun t => t.meshTbl = s.meshTbl)) ∧
    (∀ t : Fin 4096, let ix := s.rd R.TCAL_ADDR_INDEX t
      let bank := s.rd R.TCAL_ADDR_BANK t
      s.halfReached (halfOfTile t) = true →
      (bank ≠ s.bankOf t → ix < 276 → s.rd R.TCAL_STAT_TABLE t = tbServing →
        Does (.tcalDataAccess t (some v)) s fun u => u.tcalAt t bank ix = v ∧
          ∀ n, n ≠ tcalKey t bank ix → spGet tcalReset u.tcal n = spGet tcalReset s.tcal n) ∧
      (bank = s.bankOf t ∨ 282 ≤ ix ∨ s.rd R.TCAL_STAT_TABLE t ≠ tbServing →
        Does (.tcalDataAccess t (some v)) s fun u => u.tcal = s.tcal)) ∧
    (∀ k : Fin 4, s.on R.RING_ADDR_AINC k = false → Does (.ringDataAccess k (some v)) s fun t => t = s.wrB R.SYS_STAT_KEY_OPEN 0 false) ∧
    (s.on R.TEMP_ADDR_AINC 0 = false → Does (.tempDataAccess (some v)) s fun t => t = s.wrB R.SYS_STAT_KEY_OPEN 0 false) ∧
    (s.on R.CLK_EN_AOUT 0 = true → Does (.sineTblDataAccess (some v)) s fun t =>
      t.sineAt (s.rd R.SINE_TBL_ADDR_INDEX 0) = toSigned 16 (fieldOf 0 16 v) ∧
      ∀ n < 1024, n ≠ s.rd R.SINE_TBL_ADDR_INDEX 0 → t.sineAt n = s.sineAt n))

/-- What a receive port does while it is off, and the states of its lanes. Whatever arrives at a receive port that is disabled or whose
block is gated changes nothing. A receive port that takes packets sets DESKEWED at a skew calibration sequence outside the ultra-low-
power state, and enters and leaves that state as its transmitter asks; nothing else changes. That entering the state clears DESKEWED is
the model's, log 22. (R255, R286, R301) -/
def Obligations.ReceivePortsRest : Prop :=
  (∀ (s : State) (p : Fin 12), s.rxOn p = false → ∀ (vc : Fin 16) (h : HdrCheck) (n : Fin 65536) (d : Fin 64) (a b : Bool) (pix : List Nat)
      (ph : Fin 4),
    ∀ c ∈ [Instr.frameStart p vc h, .frameEnd p vc h, .lineStart p vc ⟨h, ph⟩ n, .longPacket p vc ⟨h, ph⟩ d a b pix, .rxSkewCalibration p,
      .rxUlpsRequest p a], Does c s fun t => t = s) ∧
  (∀ (s : State) (p : Fin 12), s.rxOn p = true →
    (s.on R.RX_STAT_ULPS p = false → Does (.rxSkewCalibration p) s fun t => t = s.wr R.RX_STAT_DESKEWED p 1) ∧
    (s.on R.RX_STAT_ULPS p = true → Does (.rxSkewCalibration p) s fun t => t = s) ∧
    Does (.rxUlpsRequest p true) s (fun t => t.on R.RX_STAT_ULPS p = true ∧ t = s.setRegs t.regs) ∧
    Does (.rxUlpsRequest p false) s (fun t => t.on R.RX_STAT_ULPS p = false ∧ t = s.setRegs t.regs))

/-- What Frame Start, Frame End and Line Start do on a stream. On a port that takes packets, a short packet with a good or corrected header
on virtual channels 0 to 3: a Frame Start brings the buffered stream settings into force and forgets the expected line number; a Frame
End closes the frame; a Line Start on a stream with LINE_NUM latches the stamp of its phase of this clock cycle and expects the next number, 1 after
65,535, sets LNUM_ERR for a number smaller than expected, and is ignored without LINE_NUM. A bad header discards the packet with ECC_UE;
a corrected one is counted; channels 4 to 14 set VC_UNUSED. Stated where no Line Start still waits for its long packet, and for line
numbers not beyond the one expected. (R255, R256, R258, R259, R260, R275) -/
def Obligations.ReceivedShortPackets : Prop :=
  ∀ (s : State) (p : Fin 12) (ph : Fin 4), s.rxOn p = true →
    (∀ (vc : Fin 16) (h : HdrCheck), vc.val < 4 → h ≠ .bad → let st := 4 * p.val + vc.val
      (s.ing st).pendingLine = none →
      Does (.frameStart p vc h) s (fun t => t.forceWord (R.STREAM_CFG.key st 0) = s.word (R.STREAM_CFG.key st 0) ∧
        (t.ing st).inFrame = true ∧ (t.ing st).expected = none ∧ (h = .corrected →
          t.rd R.RX_STAT_ECC_CE p = (s.rd R.RX_STAT_ECC_CE p + 1) % 2 ^ R.RX_STAT_ECC_CE.w)) ∧
      Does (.frameEnd p vc h) s (fun t => (t.ing st).inFrame = false ∧ (t.ing st).pendingLine = none ∧ (h = .corrected →
        t.rd R.RX_STAT_ECC_CE p = (s.rd R.RX_STAT_ECC_CE p + 1) % 2 ^ R.RX_STAT_ECC_CE.w)) ∧
      (s.frc R.STREAM_CFG_EN st ≠ 0 → s.lineNum st = true → ∀ n : Fin 65536,
        (∀ e, (s.ing st).expected = some e → n.val ≤ e) → Does (.lineStart p vc ⟨h, ph⟩ n) s fun t =>
          (t.ing st).pendingLine = some (s.stampAt ph) ∧ (t.ing st).expected = some (if n.val = 65535 then 1 else n.val + 1) ∧
          (∀ e, (s.ing st).expected = some e → n.val < e → t.on R.RX_EVT_LNUM_ERR 0 = true ∧ t.rd R.RX_EVT_PORT 0 = p.val)) ∧
      (s.lineNum st = false → h = .good → ∀ n : Fin 65536, Does (.lineStart p vc ⟨h, ph⟩ n) s fun t =>
        t = s.setRxAt (spSet (fun _ => none) s.rxAt p (some s.now)))) ∧
    (∀ vc : Fin 16, ∀ c ∈ [Instr.frameStart p vc .bad, .frameEnd p vc .bad, .lineStart p vc ⟨.bad, ph⟩ 1], Does c s fun t =>
      t.on R.RX_EVT_ECC_UE 0 = true ∧ t.rd R.RX_EVT_PORT 0 = p.val ∧ t.ingest = s.ingest) ∧
    (∀ vc : Fin 16, 4 ≤ vc.val → vc.val < 15 → ∀ c ∈ [Instr.frameStart p vc .good, .frameEnd p vc .good, .lineStart p vc ⟨.good, ph⟩ 1],
      Does c s fun t => t.on R.RX_EVT_VC_UNUSED 0 = true ∧ t.ingest = s.ingest)

/-- What becomes of the line a long packet brings. On a stream of a port that takes packets, one job bound to it, not fenced, held or
waiting, with no batch lost: a long packet of the data type of the stream, its CRC right, its width that of the stream and room for it,
adds a line with the next number, the stamp of its phase of this clock cycle and its pixels, in 8 or 16 bits each, to the batch being collected, and the 64th line completes the
batch; one whose CRC is wrong is counted, sets CRC_ERR, empties the batch being collected and takes its number; with no job bound the
line is counted and nothing else is stored. Another data type sets DTYPE_BAD; null, blanking and embedded packets are discarded. Stated
without line numbers (LINE_NUM clear). (R34, R255, R256, R257, R258, R261, R275) -/
def Obligations.LinesFormBatches : Prop :=
  ∀ (s : State) (p : Fin 12) (vc : Fin 16) (pix : List Nat) (d : Fin 64) (ph : Fin 4), let st := 4 * p.val + vc.val
    s.rxOn p = true → vc.val < 4 → s.frc R.STREAM_CFG_EN st ≠ 0 → s.lineNum st = false → ¬ (0x10 ≤ d.val ∧ d.val ≤ 0x12) →
    (d.val = s.dtypeOf st →
      (∀ j, s.boundJobs st = [j] → (s.bind j st).resume = false → (s.bind j st).lostBatch = none → (s.job j).fenced = false →
        (s.job j).waiting = false → (s.job j).holds = ⟨false, false, false, false⟩ → s.halt = false → pix.length = s.width st →
        let b := s.bind j st
        let l : Line := ⟨b.next, (s.ing st).abs, s.stampAt ph, pix, s.wideForm st⟩
        (b.lines.length < 63 → Does (.longPacket p vc ⟨.good, ph⟩ d true true pix) s fun t => (t.bind j st).lines = b.lines ++ [l] ∧
          (t.bind j st).next = b.next + 1 ∧ t.batches = s.batches) ∧
        (b.lines.length = 63 → Does (.longPacket p vc ⟨.good, ph⟩ d true true pix) s fun t => (t.bind j st).lines = [] ∧
          t.batches = s.batches ++ [⟨j, st, b.next / 64, b.lines ++ [l], false, [], [], [], 0, Flags.none, 0, []⟩]) ∧
        Does (.longPacket p vc ⟨.good, ph⟩ d false true pix) s (fun t => (t.bind j st).lines = [] ∧ (t.bind j st).next = b.next + 1 ∧
          (t.bind j st).lostBatch = some (b.next / 64) ∧ t.on R.RX_EVT_CRC_ERR 0 = true ∧ Counted s t R.RX_STAT_CRC_CNT p)) ∧
      (s.boundJobs st = [] → Does (.longPacket p vc ⟨.good, ph⟩ d true true pix) s fun t =>
        t.rd R.STREAM_LINES_COUNT st = (s.rd R.STREAM_LINES_COUNT st + 1) % 2 ^ R.STREAM_LINES_COUNT.w ∧ t.binds = s.binds ∧
        t.batches = s.batches ∧ (t.ing st).lineAt = some s.now)) ∧
    (d.val ≠ s.dtypeOf st → ∀ a b, Does (.longPacket p vc ⟨.good, ph⟩ d a b pix) s fun t => t.on R.RX_EVT_DTYPE_BAD 0 = true ∧
      t.binds = s.binds ∧ t.batches = s.batches) ∧
    (∀ (e : Fin 64) (a b : Bool), 0x10 ≤ e.val → e.val ≤ 0x12 → Does (.longPacket p vc ⟨.good, ph⟩ e a b pix) s fun t =>
      t = s.setRxAt (spSet (fun _ => none) s.rxAt p (some s.now)))

/-- Drop and periodic records, and the timers of a transmit port. A drop run of a stream whose first line was dropped 1 ms ago or more
closes, one record for each, and younger runs stay. PERIOD_MS after the last one status record is handed to the record channel and the drops
of every stream are counted anew; before that, or with PERIOD_MS 0, nothing happens. A frame open for FRAME_US closes and, with no packet
waiting, its channel shows no open frame and the last short packet is its Frame End; a younger frame or none stays. DESKEW_MS after the
last a port that sends results gives one skew calibration sequence; before that, or with DESKEW_MS 0, none. A port with ULPS_IDLE set, idle for 1 ms, enters the ultra-low-power state, and nothing but
that bit changes; before, it does not. (R262, R269, R271, R255, R264, R286) -/
def Obligations.RecordsAndTransmitTimers : Prop :=
  ((∀ (s : State) (st : Fin 48), let due (r : DropRun) : Bool := r.stream == st.val && s.passed r.at_ msec
    Does (.dropRunTimeout st) s fun t => t.drops = s.drops.filter (fun r => !due r) ∧
      t.recQ.length = s.recQ.length + (s.drops.filter due).length ∧ t.regs = s.regs) ∧
  (∀ s : State, let ms := s.rd R.REC_PERIOD_PERIOD_MS 0
    (ms ≠ 0 → s.passed s.time.statusAt (msec * ms) = true → Does .periodicStatus s fun t => t.recQ.length = s.recQ.length + 1 ∧
      (∀ st < 48, (t.ing st).drops = 0) ∧ t.regs = s.regs ∧ t.time.statusAt = s.now) ∧
    (ms = 0 ∨ s.passed s.time.statusAt (msec * ms) = false → Does .periodicStatus s fun t => t = s))) ∧
  (∀ (s : State) (t : Fin 4),
    (∀ vc : Fin 16, (s.chan t vc).open_ = true →
      (s.passed (s.chan t vc).at_ (usec * (s.frameLimits t vc).2) = true → (∀ r ∈ s.recQ, r.port = t.val → r.vc ≠ vc.val) →
        (∀ n < 128, (s.out n).queue = []) → Does (.frameTimeout t vc) s fun u =>
        (u.chan t vc).open_ = false ∧ (u.txp t).lastShort = some (.frameEnd vc (s.chan t vc).num) ∧ u.recQ = s.recQ) ∧
      (s.passed (s.chan t vc).at_ (usec * (s.frameLimits t vc).2) = false → Does (.frameTimeout t vc) s fun u => u = s)) ∧
    (s.frc R.TX_CFG_DESKEW_MS t ≠ 0 → s.txClock t = true → s.txResults t = true →
      s.passed (s.txp t).skewAt (msec * s.frc R.TX_CFG_DESKEW_MS t) = true → Does (.deskew t) s fun u =>
      (u.txp t).skews = (s.txp t).skews + 1 ∧ (u.txp t).skewAt = s.now ∧ u = s.setTx u.tx) ∧
    (s.frc R.TX_CFG_DESKEW_MS t = 0 ∨ s.passed (s.txp t).skewAt (msec * s.frc R.TX_CFG_DESKEW_MS t) = false →
      Does (.deskew t) s fun u => u = s) ∧
    (s.frc R.TX_CFG_ULPS_IDLE t ≠ 0 → s.txBusy t = false →
      (s.passed (s.txp t).idleAt msec = true → Does (.ulpsEntry t) s fun u => u = s.wr R.TX_STAT_ULPS t 1) ∧
      (s.passed (s.txp t).idleAt msec = false → Does (.ulpsEntry t) s fun u => u = s)))

/-- What a transmit port sends next. A transmit port whose clock runs and whose loop is locked sends the first waiting packet of the record
channel if its channel is not in the midst of a result; otherwise the next packet of the one output stream that is ready, which becomes
its round-robin place; with nothing ready, or gated, or with its loop coasting, nothing changes. What is sent is the packet at the head
of its queue, with its data type and bytes. (R264, R265, R301, R368) -/
def Obligations.TransmitPortSends : Prop :=
  ∀ (s : State) (t : Fin 4),
    (s.txClock t = true → s.rd R.CLK_STAT_LOCKED 0 / 2 ^ (4 + t.val) % 2 = 1 →
      (∀ r, s.nextRecord t = some r → Does (.recordSend t) s fun u => u.recQ = s.recQ.erase r ∧
        (u.txp t).lastPacket = some (r.vc, r.pkt.dtype, r.pkt.bytes) ∧ u.outs = s.outs) ∧
      (∀ n p rest, s.nextRecord t = none → s.readyOuts t = [n] → (s.out n).queue = p :: rest → Does (.recordSend t) s fun u =>
        (u.out n).queue = rest ∧ (u.txp t).rr = n ∧ u.recQ = s.recQ ∧
        (u.txp t).lastPacket = some (s.frc R.OUT_MAP_VC n, p.dtype, p.bytes)) ∧
      (s.nextRecord t = none → s.readyOuts t = [] → Does (.recordSend t) s fun u => u = s)) ∧
    (s.txClock t = false ∨ s.rd R.CLK_STAT_LOCKED 0 / 2 ^ (4 + t.val) % 2 = 0 → Does (.recordSend t) s fun u => u = s)

/-- Which waiting token a unit starts next. Of the tokens that wait at a unit and can start, the unit takes one that no other exceeds in the
priority of its job, the oldest of its job, and removes it from the pitch; its arbiter stands at that job from then on. It takes none
only if none can start. Stated of the shared operation of tiles, vector units and reduction points. (R330) -/
def Obligations.UnitsTakeByPriority : Prop :=
  ∀ (s : State) (clu unit : Nat) (ok : Held → Bool), let prio (h : Held) : Nat := (s.job h.tok.job).hdr.priority
    (∀ u h, takeNext s clu unit ok = (u, some h) → h ∈ s.fabric ∧ ok h = true ∧
      (∀ x ∈ s.fabric, ok x = true → prio x ≤ prio h) ∧
      (s.fabric.filter ok).find? (fun x => x.tok.job == h.tok.job) = some h ∧
      u.fabric = s.fabric.erase h ∧ spGet grantFirst u.grantRr (unitArb clu unit) = h.tok.job) ∧
    ((∀ x ∈ s.fabric, ok x = true → x.tok.job < 16) → (∃ x ∈ s.fabric, ok x = true) → (takeNext s clu unit ok).2.isSome = true) ∧
    ((takeNext s clu unit ok).2 = none → (takeNext s clu unit ok).1 = s)

/-- How a token is granted, discarded and received on the pitch. A router grants an output port to the one header that requests it, if all
its token stands there, its next place has room for it and no body of another token holds the port: the token moves to its next place,
the port's arbiter stands at its buffer and its transfers are counted. Where the next place has no room, the header waits, counted
once in RTR_WAIT_CNT. A port nothing requests changes no register and no token. A stale token at the front of its buffer is discarded
and counted in EPOCH_DROP_CNT of its cluster; one not stale stays. A token received by a unit of its cluster that is no tile, good, of
its job's epoch and of a generation with routes there, waits at the unit; one of another epoch is discarded and counted; a place
without a token does nothing. Stated with no token waiting outside the pitch and every body drawn up behind its header. (R94, R96, R98,
R99, R100, R101, R122) -/
def Obligations.TokensMoveOnThePitch : Prop :=
  ∀ s : State, (∀ x ∈ s.fabric, x.outside = false ∧ x.trail = []) →
    (∀ (c : Fin 256) (o : Fin 5) i h, s.requests c o = [(i, h)] →
      (s.roomAt (nextPlace c h.tok) h.tok = true → h.here = h.tok.transfers → h.tok.transfers ≤ s.roomBeside h (nextPlace c h.tok) →
        Does (.routerGrant c o) s fun t => t.fabric = s.fabric.erase h ++
          [⟨nextPlace c h.tok, h.tok, (nextPlace c h.tok).marks && decide (h.tok.epoch ≠ (s.job h.tok.job).epoch), false, s.now,
            h.tok.transfers, []⟩] ∧ spGet grantFirst t.grantRr (16 + 5 * c.val + o.val) = i ∧
          t.rd2 R.RTR_XFER_CNT_COUNT c o = (s.rd2 R.RTR_XFER_CNT_COUNT c o + (h.tok.len + 1)) % 2 ^ R.RTR_XFER_CNT_COUNT.w) ∧
      (s.roomAt (nextPlace c h.tok) h.tok = false → Does (.routerGrant c o) s fun t => t.grantRr = s.grantRr ∧
        t.fabric = (if h.counted then s.fabric else s.fabric.map fun x => if x == h then { x with counted := true } else x) ∧
        t.rd2 R.RTR_WAIT_CNT_COUNT c o = (s.rd2 R.RTR_WAIT_CNT_COUNT c o + (!h.counted).toNat) % 2 ^ R.RTR_WAIT_CNT_COUNT.w)) ∧
    (∀ (c : Fin 256) (o : Fin 5), s.requests c o = [] → Does (.routerGrant c o) s fun t => t = s.setRegs t.regs ∧
      ∀ k, t.word k = s.word k) ∧
    (∀ p h c, s.front p = some h → h.stale = true → p.cluster = some c → c < 256 → Does (.staleTokenDiscard p) s fun t =>
      t.fabric = s.fabric.erase h ∧ t.rd R.EPOCH_DROP_CNT_COUNT c = (s.rd R.EPOCH_DROP_CNT_COUNT c + 1) % 2 ^ R.EPOCH_DROP_CNT_COUNT.w) ∧
    (∀ p h, s.front p = some h → h.stale = false → Does (.staleTokenDiscard p) s fun t => t = s) ∧
    (∀ c u h, s.front (.arrived c u) = some h → 16 ≤ u → c < 256 → h.tok.kind < 8 → h.tok.dstUnit < 20 → h.tok.stream < 48 → h.tok.len ≤ 128 →
      (h.stale = false → h.tok.epoch = (s.job h.tok.job).epoch → h.tok.gen ∈ s.liveGens h.tok.job → (u = 16 → h.tok.kind ≠ 1) →
        Does (.tokenReceipt (.arrived c u) .none) s fun t => t.fabric = s.fabric.erase h ++
          [⟨.unit c u, h.tok, false, false, s.now, h.tok.transfers, []⟩]) ∧
      (h.stale = true ∨ h.tok.epoch ≠ (s.job h.tok.job).epoch → Does (.tokenReceipt (.arrived c u) .none) s fun t =>
        t.fabric = s.fabric.erase h ∧
        t.rd R.EPOCH_DROP_CNT_COUNT c = (s.rd R.EPOCH_DROP_CNT_COUNT c + 1) % 2 ^ R.EPOCH_DROP_CNT_COUNT.w)) ∧
    (∀ p e, s.front p = none → Does (.tokenReceipt p e) s fun t => t = s)

/-- What dispatch cuts, and when it cuts nothing. A hub link for which no job has a token to cut is left as it is but for the waiting of the
jobs decided anew. When exactly one job has one, its oldest batch not wholly cut is begun under the job's epoch, generation and active
paths: dispatch holds afterwards a batch of the same number in place of it, begun, and the link's arbiter stands at the job. Stated for
a batch not yet begun. (R39, R104, R330) -/
def Obligations.HubDispatchesBatches : Prop :=
  ∀ (s : State) (half : Fin 2),
    (jobNums.filter (s.hasWork half) = [] → Does (.dispatch half) s fun t => t.batches = s.batches ∧ t.fabric = s.fabric ∧
      t.tagsHeld = s.tagsHeld) ∧
    (∀ j b, jobNums.filter (s.hasWork half) = [j] → s.nextBatch j = some b → b.started = false → Does (.dispatch half) s fun t =>
      spGet grantFirst t.grantRr half = j ∧
      ∃ x ∈ t.batches, x.job = j ∧ x.stream = b.stream ∧ x.k = b.k ∧ x.started = true ∧ x.epoch = (s.job j).epoch ∧
        x.gen = s.rd R.WSET_JOB_GEN j ∧ x.paths = (s.job j).activePaths.map PathSpec.path ∧ x.lines = b.lines)

/-- What a product of a tile counts, and when a tile runs none. A tile that is neither due nor withdrawn, forms no pair and may run products
takes the token its unit takes next: of its job's epoch, within the batch whose settings are in force, for a section not in the place
of a chiplet, the product is counted in PROD_CNT, in the tile's batch and since its last calibration slot, and draws one free value for
its conversions (log 61); of another epoch it is counted in EPOCH_DROP_CNT. A tile that may not run products, or has no token, changes
nothing. Slices set without a pair run no product, set PAIR_ERR on both tiles and strike the jobs that hold them with class TILE. (R67,
R74, R76, R78, R96, R209, R214) -/
def Obligations.TileProducts : Prop :=
  ∀ (s : State) (t : Fin 4096), s.estDue t = false → s.hw (s.baseOf t) = none → s.rd R.TCAL_EST_EST t + 5 < s.thresh →
    s.svc t ≠ svcWithdrawn →
    (s.pairBad t = false → s.pairFormed t = false →
      (s.tileRuns t = true → ∀ u h, takeNext s (t.val / 16) (t.val % 16) (s.tileTakes t false) = (u, some h) →
        (h.tok.epoch = (s.job h.tok.job).epoch → (s.tile t).cur = some h.tok.batchKey →
          s.sliceNear (t.val - t.val % 2) h.tok.batchKey = false → s.sliceNear (t.val - t.val % 2 + 1) h.tok.batchKey = false →
          (∀ p, s.placedAt t h.tok = some p → s.isSubst h.tok.job p = false) → Does (.tileProduct t) s fun v =>
            v.rd R.PROD_CNT_LO_COUNT_LO t = (s.rd R.PROD_CNT_LO_COUNT_LO t + 1) % 2 ^ 32 ∧ (v.tile t).cur = some h.tok.batchKey ∧
            (v.tile t).sinceCal = (s.tile t).sinceCal + 1 ∧ v.freeIx = s.freeIx + 1) ∧
        (h.tok.epoch ≠ (s.job h.tok.job).epoch → Does (.tileProduct t) s fun v =>
          v = u.bump R.EPOCH_DROP_CNT_COUNT (t.val / 16))) ∧
      (s.tileRuns t = false → Does (.tileProduct t) s fun v => v = s) ∧
      ((∀ x ∈ s.fabric, x.place ≠ .unit (t.val / 16) (t.val % 16)) → Does (.tileProduct t) s fun v => v = s)) ∧
    (s.pairBad t = true → let e := t.val - t.val % 2
      Does (.tileProduct t) s fun v => v.on R.TILE_EVT_PAIR_ERR e = true ∧ v.on R.TILE_EVT_PAIR_ERR (e + 1) = true ∧
        v.fabric = s.fabric ∧ ∀ j < 16, e ∈ (s.job j).tiles ∨ e + 1 ∈ (s.job j).tiles → (s.job j).live = true →
          (s.job j).restart = none → v.Struck j fcTile)

/-- How a column of a product is finished and a converter held. Steps 3 and 4 of a product: a column value with its bias is the nearest
integer, ties to even, saturated at 32,767 counts either way, and counts as saturated exactly when it was beyond; within the range it
lies no further than half a count from the exact value. The outputs of a product that did not saturate stay within its bound whatever
the free values are, and where they would not the exact values, in reach of the output, are delivered (log 162). A conversion never exceeds its limit. The least and greatest column sums are
32,767 counts. (R50, R51, R52, R60, R67) -/
def Obligations.ColumnArithmetic : Prop :=
  (∀ v bias : Int, -32767 ≤ (finishColumn v bias).1 ∧ (finishColumn v bias).1 ≤ 32767 ∧
    ((finishColumn v bias).2 = true ↔ (idivRne (v + bias * 2 ^ 36) (2 ^ 36)).natAbs > 32767) ∧
    ((finishColumn v bias).2 = false → 2 * ((finishColumn v bias).1 * 2 ^ 36 - (v + bias * 2 ^ 36)).natAbs ≤ 2 ^ 36)) ∧
  (∀ (ideal err : Int) (cw lim : Nat), (convert ideal err cw lim).natAbs ≤ lim) ∧
  (∀ v : Int, (satSum v).1.natAbs ≤ 8388352 ∧ ((satSum v).2 = false → (satSum v).1 = v)) ∧
  (∀ (fs bp den : Nat) (outs : List (Nat × Int × Bool)) (ideal : Nat → Int),
    (boundOutputs fs bp den outs ideal).map (·.1) = outs.map (·.1) ∧
    (withinBound (fs * den) bp (outs.map fun e => e.2.1 * den - ideal e.1) = true → boundOutputs fs bp den outs ideal = outs) ∧
    (withinBound (fs * den) bp (outs.map fun e => e.2.1 * den - ideal e.1) = false → ∀ e ∈ boundOutputs fs bp den outs ideal,
      e.2.1 = sat16 (idivRne (ideal e.1) den)))

/-- How reduction slots are opened, filled and delivered. Partials, slots and moves take their turn by the priority of their jobs with the
other commands of their unit. A reduction point opens a slot for the ACT token it takes, of its job's epoch,
with 256 sums of zero. A partial for an open slot that is not its last adds its 256 values into the slot and raises its count; the last
one frees the slot and its sums leave along its route, scaled and in the operator's output format, or as they are in a PARTIAL token; one
for no slot, or beyond the count, sets RED_OVER and changes no slot. A token of an old epoch is counted and does no more. A point that
can take no token changes nothing. The delivery is stated for one route, not to a tile or a mesh interface. (R106, R107, R96, R330) -/
def Obligations.ReductionSlots : Prop :=
  ∀ (s : State) (c : Fin 256),
    (∀ u h, takeKind s c 17 (s.dmaReady c) (s.slotReady c) = (u, some h) → h.tok.epoch = (s.job h.tok.job).epoch → Does (.slotOpen c) s fun t =>
      t.slots = s.slots ++ [⟨c, h.tok.job, h.tok.tag, h.tok.oper, h.tok.seg, List.replicate 256 0, 0, 0, h.tok.flags, h.tok⟩]) ∧
    (∀ u h, takeKind s c 17 (s.dmaReady c) (s.slotReady c) = (u, some h) → h.tok.epoch ≠ (s.job h.tok.job).epoch →
      Does (.slotOpen c) s fun t => t.slots = s.slots ∧ Counted s t R.EPOCH_DROP_CNT_COUNT c) ∧
    ((takeKind s c 17 (s.dmaReady c) (s.slotReady c)).2 = none → Does (.slotOpen c) s fun t => t = s) ∧
    ((∀ u h x, takeKind s c 16 (s.vecUnitReady c) (partialReady c) = (u, some h) → h.tok.epoch = (s.job h.tok.job).epoch →
        s.slots.find? (fun y => y.takes c h.tok) = some x → x.count + 1 < h.tok.npart + 1 → Does (.partialAccumulate c) s fun t =>
          t.slots = s.slots.map fun y => if y == x then { x with
            sums := (List.range 256).map (fun i => (x.sums[i]?).getD 0 + (h.tok.payload[i]?).getD 0),
            count := x.count + 1, npart := h.tok.npart, flags := x.flags.or h.tok.flags } else y) ∧
      (∀ u h x o r, takeKind s c 16 (s.vecUnitReady c) (partialReady c) = (u, some h) → h.tok.epoch = (s.job h.tok.job).epoch →
        s.slots.find? (fun y => y.takes c h.tok) = some x → x.count = h.tok.npart → s.operOf h.tok = some o → o.routes = [r] →
        16 ≤ r.unit → r.unit ≠ 19 →
        let sums := (List.range 256).map (fun i => (x.sums[i]?).getD 0 + (h.tok.payload[i]?).getD 0)
        Does (.partialAccumulate c) s fun t => t.slots.length + 1 = s.slots.length ∧
          ∃ y ∈ t.fabric, y.tok.kind = r.kind ∧ y.tok.oper = r.oper ∧ y.tok.dstClu = r.clu ∧ y.tok.dstUnit = r.unit ∧
            y.tok.payload = if r.kind = 3 then sums else sums.map (slotValue o)) ∧
      (∀ u h, takeKind s c 16 (s.vecUnitReady c) (partialReady c) = (u, some h) → h.tok.epoch = (s.job h.tok.job).epoch →
        (s.slots.find? (fun y => y.takes c h.tok) = none ∨
          ∃ x, s.slots.find? (fun y => y.takes c h.tok) = some x ∧ h.tok.npart < x.count) → Does (.partialAccumulate c) s fun t =>
          t.slots = s.slots ∧ t.on R.CLU_EVT_RED_OVER c = true) ∧
      (∀ u h, takeKind s c 16 (s.vecUnitReady c) (partialReady c) = (u, some h) → h.tok.epoch ≠ (s.job h.tok.job).epoch →
        Does (.partialAccumulate c) s fun t => t.slots = s.slots ∧ Counted s t R.EPOCH_DROP_CNT_COUNT c) ∧
      ((takeKind s c 16 (s.vecUnitReady c) (partialReady c)).2 = none → Does (.partialAccumulate c) s fun t => t = s))

/-- What vector units and recurrent operators do with the tokens they take. A vector unit with no token it can start changes nothing, and
one that takes a token of an old epoch counts it and does no more. One that takes an activation for an operator of its own with one input
consumes the token and sends what the operator gives along its route, or nothing where it has none. RELU gives zero for a negative integer and the integer otherwise; a sum of two
integers saturates in the output format. A STATE operator that takes a token whose batch is in flight replaces the recurrent state of
its stream by the gated update of it (a free function, log 62) held in its output format, records the batch as updated and consumes the
token. Each is taken only when it is the next of all its unit can start. The clause of no route is stated with no token waiting outside
the pitch and every body drawn up behind its header, that of one for a route not to a tile or a mesh interface. (R37, R50, R109, R330) -/
def Obligations.VectorUnits : Prop :=
  (∀ (s : State) (c : Fin 256), (takeKind s c 16 (s.vecUnitReady c) (s.vectorReady c)).2 = none → Does (.vectorOp c) s fun t => t = s) ∧
  (∀ (s : State) (c : Fin 256) u h, takeKind s c 16 (s.vecUnitReady c) (s.vectorReady c) = (u, some h) →
    (h.tok.epoch ≠ (s.job h.tok.job).epoch → Does (.vectorOp c) s fun t => t = u.bump R.EPOCH_DROP_CNT_COUNT c) ∧
    ((∀ x ∈ s.fabric, x.outside = false ∧ x.trail = []) → h.tok.epoch = (s.job h.tok.job).epoch → h.tok.kind ≠ 0 →
      ∀ o, s.operOf h.tok = some o → o.kind.onTiles = false → o.kind ≠ .mix64 → o.kind.binary = false → o.routes = [] →
      Does (.vectorOp c) s fun t => t.fabric = s.fabric.erase h ∧ t.slots = s.slots ∧ t.recur = s.recur) ∧
    (h.tok.epoch = (s.job h.tok.job).epoch → h.tok.kind ≠ 0 → ∀ o r, s.operOf h.tok = some o → o.kind.onTiles = false →
      o.kind ≠ .mix64 → o.kind.binary = false → o.routes = [r] → 16 ≤ r.unit → r.unit ≠ 19 → Does (.vectorOp c) s fun t =>
      t.slots = s.slots ∧ t.recur = s.recur ∧ ∃ y ∈ t.fabric, y.tok.kind = r.kind ∧ y.tok.oper = r.oper ∧ y.tok.dstClu = r.clu ∧
        y.tok.dstUnit = r.unit ∧ y.tok.srcClu = c ∧ y.tok.payload = vectorOut o h.tok.payload [])) ∧
  (∀ (o : OperSpec) (l : List Int), o.kind = .relu → o.inFmt = .int16 → o.fmt = .int16 → (∀ x ∈ l, -32767 ≤ x ∧ x ≤ 32767) →
    vectorOut o l [] = l.map fun x => max 0 x) ∧
  (∀ (o : OperSpec) (a b : Int), o.kind = .elemSum → o.inFmt = .int16 → o.fmt = .int16 →
    vectorOut o [a] [b] = [max (-32767) (min 32767 (a + b))]) ∧
  (∀ (s : State) (c : Fin 256),
    ((takeKind s c 16 (s.vecUnitReady c) (s.stateReady c)).2 = none → Does (.stateUpdate c) s fun t => t = s) ∧
    (∀ u h o b, takeKind s c 16 (s.vecUnitReady c) (s.stateReady c) = (u, some h) →
      h.tok.epoch = (s.job h.tok.job).epoch → s.operOf h.tok = some o → s.batchOf h.tok = some b → Does (.stateUpdate c) s fun t =>
        t.recurOf h.tok.job h.tok.stream =
          (Config.gatedUpdate o.scale o.bias (s.recurOf h.tok.job h.tok.stream) h.tok.payload).map o.fmt.hold ∧
        t.stDone = s.stDone ++ [(b.job, b.stream, b.k)]))

/-- What a DMA engine may reach under a job address, and what it stores. The entry an engine goes by is the one its translation cache holds
for the job and page, and the page table's where it holds none. A byte under a job address of 28 bits is reached exactly when that
entry is valid, allows the access, names a page outside the firmware fence and, if a page of activation SRAM, one of the
engine's own cluster. A write of one byte that is reached stores it at that place of the page and nowhere else; one that is not stores
nothing, records the address and, for a job that runs, fences it with class XLATE; a read that is not reached does the same. (R326,
R327, R328, R343) -/
def Obligations.JobAddressesAreTranslated : Prop :=
  (∀ (s : State) (c j addr : Nat) (w : Bool), (s.translate c j addr w).isSome = true ↔
    (let e := s.entryFor c j (addr / 65536 % 4096);
      addr < 2 ^ 28 ∧ e.v = true ∧ (if w then e.w else e.r) = true ∧ ppnValid e.ppn = true ∧ s.ppnFenced e.ppn = false ∧
      (e.ppn < 3072 → e.ppn / 12 = c))) ∧
  (∀ (s : State) (c j i : Nat), (∀ e ∈ s.xlates, e.clu = c → e.job = j → e.ix ≠ i) → s.entryFor c j i = s.pte j i) ∧
  (∀ (s : State) (c : Fin 256) (j addr : Nat) (b : Byte) (e : MemErr), j < 16 →
    (∀ ppn off, s.translate c j addr true = some (ppn, off) → ppn < 3072 → Does (.dmaTransfer c ⟨j, addr, true, [b], 0, e⟩) s fun t =>
      spGet (fun _ => 0) t.sram (65536 * ppn + off) = b ∧ t.staging = s.staging ∧
      ∀ a, a ≠ 65536 * ppn + off → spGet (fun _ => 0) t.sram a = spGet (fun _ => 0) s.sram a) ∧
    (∀ ppn off, s.translate c j addr true = some (ppn, off) → 3072 ≤ ppn → Does (.dmaTransfer c ⟨j, addr, true, [b], 0, e⟩) s fun t =>
      t.stByte (65536 * (ppn - 0xC00) + off) = b ∧ t.sram = s.sram ∧
      ∀ a, a ≠ 65536 * (ppn - 0xC00) + off → t.stByte a = s.stByte a) ∧
    (s.translate c j addr true = none → Does (.dmaTransfer c ⟨j, addr, true, [b], 0, e⟩) s fun t =>
      t.sram = s.sram ∧ t.staging = s.staging ∧ t.rd R.JOB_XADDR_ADDR j = addr % 2 ^ R.JOB_XADDR_ADDR.w ∧
      s.entryFor c j (addr / 65536 % 4096) = t.entryFor c j (addr / 65536 % 4096) ∧
      ((s.job j).live = true → (s.job j).restart = none → (t.job j).fenced = true ∧
        (t.job j).restart.map Restart.cls = some fcXlate)) ∧
    (s.translate c j addr false = none → Does (.dmaTransfer c ⟨j, addr, false, [], 1, e⟩) s fun t =>
      t.sram = s.sram ∧ t.staging = s.staging ∧ t.rd R.JOB_XADDR_ADDR j = addr % 2 ^ R.JOB_XADDR_ADDR.w))

/-- What the end of a conversion leaves, and when a comparator fires. With the AIN block enabled and the PLANT loop locked, a conversion of
an input whose mode is not off leaves the result of its voltage in VALUE of AIN_LAST and its marks in FLAGS; a continuous conversion
with the result buffer enabled and not full stores its value at the write pointer, which advances with the sequence number. Gated, or
with the loop coasting, no conversion ends; on an input that is off the boundary brings AIN_CFG into force. A crossing in a selected and
armed direction shows in OUT, is counted, sets CMP, disarms that direction and leaves an urgent conversion pending; in one not selected
or not armed only OUT changes; with the input off or the block gated nothing does. The opposite crossing arms the direction again and
shows in OUT. (R412, R413, R415, R416, R419, R420, R368, R370) -/
def Obligations.PlantInputs : Prop :=
  ∀ (s : State) (n : Fin 16),
    (∀ nv : Int, s.ainOn = true → s.loopLocked 3 = true →
      (s.ainMode n ≠ 0 → let res := ainResult (s.ainVolt n nv)
        let r := s.ain n
        let urgent := r.urgent == some (some 1)
        let value := (res.1 % 16777216).toNat
        Does (.conversionEnd n nv) s fun t => t.rd R.AIN_LAST_VALUE n = value ∧
          t.rd R.AIN_LAST_FLAGS n = (decide (0 < r.settle - 1)).toNat + 2 * urgent.toNat + 4 * res.2.toNat + 8 * r.testOn.toNat +
            16 * s.rd R.AIN_CMP_OUT n ∧
          (s.ainMode n = 1 → s.on R.AIN_BUF_CFG_EN 0 = true → s.ainUnread < 16383 →
            t.rd R.AIN_BUF_WPTR_WPTR 0 = (s.rd R.AIN_BUF_WPTR_WPTR 0 + 1) % 16384 ∧ t.plant.seq = (s.plant.seq + 1) % 65536 ∧
            t.stBytes (0x00B00000 + 16 * s.rd R.AIN_BUF_WPTR_WPTR 0) 3 = leBytes 3 value)) ∧
      (s.ainMode n = 0 → Does (.conversionEnd n nv) s fun t => t.forceWord (R.AIN_CFG.key n 0) = s.word (R.AIN_CFG.key n 0))) ∧
    (∀ nv : Int, s.ainOn = false ∨ s.loopLocked 3 = false → Does (.conversionEnd n nv) s fun t => t = s) ∧
    (∀ rising : Bool, s.ainMode n ≠ 0 → s.ainOn = true →
      (bitOf (s.word (R.AIN_CMP.key n 0)) (if rising then 12 else 13) = true →
        (if rising then (s.ain n).armRise else (s.ain n).armFall) = true → Does (.comparatorFire n rising) s fun t =>
          t.on R.AIN_CMP_OUT n = rising ∧ Counted s t R.AIN_CMP_CNT_COUNT n ∧ t.on R.PLANT_EVT_CMP 0 = true ∧
          (if rising then (t.ain n).armRise else (t.ain n).armFall) = false ∧ (t.ain n).urgent.isSome = true) ∧
      (bitOf (s.word (R.AIN_CMP.key n 0)) (if rising then 12 else 13) = false ∨
        (if rising then (s.ain n).armRise else (s.ain n).armFall) = false → Does (.comparatorFire n rising) s fun t =>
          t = s.wrB R.AIN_CMP_OUT n rising) ∧
      Does (.comparatorRearm n rising) s (fun t => t.on R.AIN_CMP_OUT n = !rising ∧
        (if rising then (t.ain n).armRise else (t.ain n).armFall) = true)) ∧
    (∀ rising : Bool, s.ainMode n = 0 ∨ s.ainOn = false → Does (.comparatorFire n rising) s (fun t => t = s) ∧
      Does (.comparatorRearm n rising) s (fun t => t = s))

/-- What load strobes, deglitching, sine ticks, clears and self-checks do to the plant outputs. With the PLANT loop locked a load strobe
makes the pending code of a channel that is not cleared present at once, or after the 200 ns hold when a bit of [15:12] changes, and
brings its AOUT_CFG into force; a cleared channel keeps its code; with the loop coasting the strobe is held. DAC_LOAD issues that strobe
when enabled and the periodic strobe when the timebase has reached another multiple of its period since the last; otherwise they do
nothing. The end of a hold, 200 ns after its beginning and not before, makes the newest code present. A sine tick advances
the phase by the frequency and sets the code from the table, and does nothing when the sine is off. A high DAC_CLEAR pad takes every
channel to its clear code and a low one ends it. RELEASE ends a latched module clear and the channel faults unless the cause persists. A
channel found departed from its code is cleared with CH_FAULT, an open loop is shown on the current span, and a channel off is not
checked. (R422, R423, R426, R427, R429, R432, R368) -/
def Obligations.PlantOutputs : Prop :=
  ∀ s : State,
    let steps (t : State) (c code : Nat) : Prop :=
      if code / 4096 = s.rd R.AOUT_CODE_PRESENT c / 4096 then t.rd R.AOUT_CODE_PRESENT c = code % 65536 ∧ (t.aout c).holdTo = none
      else (t.aout c).holdTo = some code ∧ t.rd R.AOUT_CODE_PRESENT c = s.rd R.AOUT_CODE_PRESENT c
    (s.loopLocked 3 = true → Does .plantLoad s fun t => ∀ c < 8,
      (s.allCleared = false → (s.aout c).chFault = false → (s.aout c).jobClear ≠ 1 →
        steps t c (s.aout c).pend ∧ t.forceWord (R.AOUT_CFG.key c 0) = s.word (R.AOUT_CFG.key c 0)) ∧
      (s.allCleared = true ∨ (s.aout c).chFault = true ∨ (s.aout c).jobClear = 1 →
        t.aout c = s.aout c ∧ t.rd R.AOUT_CODE_PRESENT c = s.rd R.AOUT_CODE_PRESENT c)) ∧
    (s.loopLocked 3 = false → Does .plantLoad s fun t => t = s.setPlant { s.plant with strobeHeld := true }) ∧
    (s.on R.AOUT_LOAD_CFG_PAD_EN 0 = true → Does .dacLoadEdge s fun t => exec .plantLoad s = .next t) ∧
    (s.on R.AOUT_LOAD_CFG_PAD_EN 0 = false → Does .dacLoadEdge s fun t => t = s) ∧
    (let p := 1000 * s.rd R.AOUT_LOAD_CFG_PERIOD_US 0;
      (p ≠ 0 → s.tb.toNat / p ≠ s.plant.strobeAt / p → Does .periodicStrobe s fun t =>
        exec .plantLoad (s.setPlant { s.plant with strobeAt := s.tb.toNat }) = .next t) ∧
      (p = 0 ∨ s.tb.toNat / p = s.plant.strobeAt / p → Does .periodicStrobe s fun t => t = s)) ∧
    (∀ c : Fin 8,
      (∀ code, (s.aout c).holdTo = some code → s.passed (s.aout c).holdAt (usec / 5) = true → Does (.deglitchEnd c) s fun t => t.rd R.AOUT_CODE_PRESENT c = code % 65536 ∧
        (t.aout c).holdTo = none) ∧
      ((s.aout c).holdTo = none ∨ s.passed (s.aout c).holdAt (usec / 5) = false → Does (.deglitchEnd c) s fun t => t = s) ∧
      (s.frc R.AOUT_CFG_SINE_EN c ≠ 0 → s.loopLocked 3 = true → s.aoutOn = true → Does (.sineTick c) s fun t =>
        let ph := ((s.aout c).phase + s.sineFreq c) % 2 ^ 32
        (t.aout c).phase = ph ∧ (s.allCleared = false → s.chCleared c = false → steps t c (max 0 (min 65535
          (((s.aout c).center : Int) + idivTrunc ((s.frc R.AOUT_SHAPE_AMPL c : Int) * s.sineAt (ph / 2 ^ 22)) 32768))).toNat)) ∧
      (s.frc R.AOUT_CFG_SINE_EN c = 0 ∨ s.loopLocked 3 = false ∨ s.aoutOn = false → Does (.sineTick c) s fun t => t = s) ∧
      (s.frc R.AOUT_CFG_EN c ≠ 0 → Does (.channelSelfCheck c .departed) s (fun t => (t.aout c).chFault = true ∧
          t.on R.PLANT_EVT_CH_FAULT 0 = true ∧ steps t c (s.rd R.AOUT_CLEAR_CLEAR c)) ∧
        (s.frc R.AOUT_CFG_SPAN c = 4 → Does (.channelSelfCheck c .loopOpen) s fun t => t.on R.AOUT_STAT_OPEN c = true ∧
          t.on R.PLANT_EVT_OPEN 0 = true) ∧
        Does (.channelSelfCheck c .loopClosed) s (fun t => t.on R.AOUT_STAT_OPEN c = false)) ∧
      (s.frc R.AOUT_CFG_EN c = 0 → ∀ r, Does (.channelSelfCheck c r) s fun t => t = s)) ∧
    Does (.dacClearEdge true) s (fun t => t.on R.PLANT_STAT_PAD 0 = true ∧ t.on R.PLANT_EVT_PAD_CLEAR 0 = true ∧
      ∀ c < 8, steps t c (s.rd R.AOUT_CLEAR_CLEAR c)) ∧
    Does (.dacClearEdge false) s (fun t => t.on R.PLANT_STAT_PAD 0 = false ∧ t.plant = s.plant) ∧
    (s.clearPersists = false → Does .plantRelease s fun t => t.on R.PLANT_STAT_CLEARED 0 = false ∧
      ∀ c < 8, (t.aout c).chFault = false) ∧
    (s.clearPersists = true → Does .plantRelease s fun t => t = s)

/-- How results reach the hub, leave the path-order stage and pass the seating plan. A RESULT token of its job's epoch that is not the last
of its result waits at the hub; one of another epoch is discarded and counted; with none at the hub nothing changes. The path-order
stage emits the result whose turn it is when its output stream has room for one more: it leaves the stage, and without a seating window
its packets join the stream's queue at once; with no turn, or no room, nothing changes. The result held longest leaves the seating plan
when its HOLD has passed, counted, and the plan keeps it before. Stated for a result without a mark and a plant output, whose batch
still owes another path, and for a plan that holds one result. (R94, R96, R110, R111, R116) -/
def Obligations.ResultsLeaveInOrder : Prop :=
  ∀ s : State,
    (∀ h, s.front .hub = some h → h.tok.kind = 6 → h.tok.dstUnit < 20 → h.tok.stream < 48 → h.tok.len ≤ 128 →
      (h.stale = false → h.tok.epoch = (s.job h.tok.job).epoch → s.partsOf h.tok = [] → 1 ≤ h.tok.npart →
        Does (.resultArrival .none) s fun t => t.fabric = s.fabric.erase h ++ [⟨hubPlace, h.tok, false, false, s.now, h.tok.transfers, []⟩] ∧
          t.arrived = s.arrived) ∧
      (h.stale = true ∨ h.tok.epoch ≠ (s.job h.tok.job).epoch → Does (.resultArrival .none) s fun t =>
        t.fabric = s.fabric.erase h ∧ Counted s t R.EPOCH_DROP_CNT_COUNT (hubRouter h.tok.srcClu) ∧ t.arrived = s.arrived)) ∧
    (∀ e, s.front .hub = none → Does (.resultArrival e) s fun t => t = s) ∧
    (∀ (j : Fin 16) (p : Fin 8) (st : Fin 48),
      (∀ r, s.nextResult j p st = some r → (s.out (outOf j p)).room < 512 →
        (∀ q ∈ (s.job r.job).sec.paths, q.path = r.path → q.mark = none ∧ q.aout = none) →
        fieldOf R.SEAT_CFG_WINDOW.lo R.SEAT_CFG_WINDOW.w (s.word (R.SEAT_CFG.key (outOf j p) 0)) = 0 →
        (s.out (outOf j p)).held = [] →
        (∀ b ∈ s.batches, b.job = r.job → b.stream = r.stream → b.k = r.k → ∃ q ∈ b.paths, q ≠ r.path) →
        Does (.pathOrderEmit j p st) s fun t => t.arrived = s.arrived.erase r ∧
          (t.out (outOf j p)).queue = (s.out (outOf j p)).queue ++ resultPackets r (s.out (outOf j p)).recSeq ∧
          (t.out (outOf j p)).recSeq = ((s.out (outOf j p)).recSeq + 1) % 2 ^ 32) ∧
      (s.nextResult j p st = none ∨ 512 ≤ (s.out (outOf j p)).room → Does (.pathOrderEmit j p st) s fun t => t = s)) ∧
    (∀ (n : Fin 128) r at_, (s.out n).held = [(r, at_)] →
      (s.passed at_ (10 * usec * max 1 (s.frc R.SEAT_CFG_HOLD n)) = true → Does (.seatHoldExpiry n) s fun t => (t.out n).held = [] ∧
        (t.out n).queue = (s.out n).queue ++ resultPackets r (s.out n).recSeq ∧ Counted s t R.SEAT_STAT_HOLD_CNT n) ∧
      (s.passed at_ (10 * usec * max 1 (s.frc R.SEAT_CFG_HOLD n)) = false → Does (.seatHoldExpiry n) s fun t => t = s)) ∧
    (∀ n : Fin 128, (s.out n).held = [] → Does (.seatHoldExpiry n) s fun t => t = s)

/-- Which jobs a fault strikes, and that it fences them at once. A job that runs and is not in a restart is fenced with the class of the
fault that strikes it, the fault is counted, and none of its complete batches awaits dispatch: PEER by the restart token of its peer,
STALL by its oldest tag held for WATCH_MS, UNIT by a unit of a cluster it uses, TILE by a product of a tile it holds that is unfinished 2
µs after its token came (a formed pair's token waits at its even tile), HALF by the failure of a half it is placed in. A job that does not run is left as it is; without its condition none of them changes anything.
A lost hub link is noted with its instant, once. (R69, R332, R334, R341, R342) -/
def Obligations.FaultsFenceTheirJobs : Prop :=
  ∀ s : State,
    let struck (t : State) (j cls : Nat) : Prop := (s.job j).live = true → (s.job j).restart = none → t.Struck j cls ∧
      Counted s t R.JOB_RST_CNT_FAULTS j ∧ ∀ b ∈ t.batches, b.job = j → b.started = true
    (∀ j : Fin 16, Does (.peerRestart j) s (fun t => struck t j fcPeer) ∧
      ((s.job j).started = false → Does (.peerRestart j) s fun t => t = s) ∧
      (s.stalled j = true → Does (.stallWatchdog j) s fun t => struck t j fcStall) ∧
      (s.stalled j = false → Does (.stallWatchdog j) s fun t => t = s)) ∧
    (∀ (c : Fin 256) (dma : Bool), Does (.unitTimeout c dma) s (fun t => ∀ j < 16, c.val ∈ (s.job j).clusters → struck t j fcUnit)) ∧
    (∀ t : Fin 4096, let u := if s.pairFormed t then t.val - t.val % 2 else t.val
      (∀ h, s.front (.unit (u / 16) (u % 16)) = some h →
        (s.passed h.at_ (2 * usec) = true → Does (.tileTimeout t) s fun v =>
          v.fabric = s.fabric.erase h ∧ ∀ j < 16, t.val ∈ (s.job j).tiles → struck v j fcTile) ∧
        (s.passed h.at_ (2 * usec) = false → Does (.tileTimeout t) s fun v => v = s)) ∧
      (s.front (.unit (u / 16) (u % 16)) = none → Does (.tileTimeout t) s fun v => v = s)) ∧
    (∀ h : Fin 2,
      ((s.half h).linkLostAt = none → Does (.hubLinkLoss h) s fun t => (t.half h).linkLostAt = some s.now ∧ t = s.setHalves t.halves) ∧
      (∀ x, (s.half h).linkLostAt = some x → Does (.hubLinkLoss h) s fun t => t = s) ∧
      (s.halfGone h = true → (s.half h).failed = false → Does (.halfFailTimeout h) s fun t => (t.half h).failed = true ∧
        t.on R.SUP_EVT_HALF_FAIL 0 = true ∧ ∀ j < 16, (s.job j).inHalf h = true → struck t j fcHalf) ∧
      (s.halfGone h = false ∨ (s.half h).failed = true → Does (.halfFailTimeout h) s fun t => t = s))

/-- How a restart is taken up, its epoch advanced and its state cleared. Outside a takeover, firmware takes up the fault of a job that is
not being stopped and has had fewer than three restarts within 10 s: it is RESTARTING, the restart counted and FAULT set, and JOB_FAULT
names the fault when no further one has struck since. Its epoch then advances by one modulo 4, once 100 µs have passed since the last
advance, and no tag of it is held. With its epoch advanced and nothing to remedy it is WARMING or RUNNING, no longer fenced, and its
first batches are to carry RESTART. Without a fault to take up, before its time, or during a takeover, none of these changes anything.
The advance is stated for a job without batches in flight or results in the
path-order stage, whose old generation does not drain and no tile of which holds for a swap; the end for one without chiplets or substitutes. (R96,
R105, R333, R334, R335, R338, R342) -/
def Obligations.RestartsProceed : Prop :=
  ∀ (s : State) (j : Fin 16),
    (∀ r, (s.job j).restart = some r →
      (s.dutiesRun = true → r.taken = false → (s.job j).stopping = false →
        ((s.job j).restartsAt.filter fun t => !s.passed t (10000 * msec)).length < 3 → Does (.jobRestart j) s fun t =>
          (t.job j).st = .restarting ∧ (t.job j).restart.map Restart.taken = some true ∧
          (r.firstIsLast = true → t.rd R.JOB_FAULT_CLASS j = r.cls % 2 ^ R.JOB_FAULT_CLASS.w) ∧ t.on R.SUP_EVT_FAULT 0 = true ∧
          (t.job j).restartsAt.length ≤ 3) ∧
      (s.dutiesRun = false ∨ r.taken = true → Does (.jobRestart j) s fun t => t = s) ∧
      (s.dutiesRun = true → r.taken = true → r.advanced = false → r.stop = false → s.epochReady j = true → s.rd R.WSET_JOB_STAGE j ≠ 3 →
        (∀ x ∈ s.arrived, x.job ≠ j.val) → (∀ b ∈ s.batches, b.job ≠ j.val) → (∀ t ∈ (s.job j).tiles, s.tileHolding t = false) →
        Does (.epochAdvance j) s fun t => (t.job j).epoch = ((s.job j).epoch + 1) % 4 ∧ (t.job j).epochAt = some s.now ∧
          (t.job j).restart.map Restart.advanced = some true ∧ ∀ e ∈ t.tagsHeld, e.2 ≠ j.val) ∧
      (s.dutiesRun = false ∨ r.taken = false ∨ r.advanced = true ∨ s.epochReady j = false → Does (.epochAdvance j) s fun t => t = s) ∧
      (s.dutiesRun = true → r.taken = true → r.advanced = true → r.remedies = [.none] → (s.job j).substOn = [] → (s.job j).st = .restarting →
        (s.job j).heldFor = 0 → (s.job j).chips = [] → Does (.restartComplete j) s fun t =>
          ((t.job j).st = .warming ∨ (t.job j).st = .running) ∧ (t.job j).fenced = false ∧ (t.job j).restart = none ∧
          (t.job j).restartDue = (s.job j).streams) ∧
      (s.dutiesRun = false ∨ r.taken = false ∨ r.advanced = false → Does (.restartComplete j) s fun t => t = s)) ∧
    ((s.job j).restart = none → Does (.jobRestart j) s (fun t => t = s) ∧ Does (.epochAdvance j) s (fun t => t = s) ∧
      Does (.restartComplete j) s (fun t => t = s))

/-- When a chiplet leaves service, and what that does to its job. On a loss of its reference light, a heater fault, settling not complete 60
µs after the swap, a sample clock unlocked for 100 µs, and an estimate above 1.85 % after 64 pilots, a chiplet not yet out of service goes
to OUT_OF_SERVICE with that cause, its passes are lost, and a running job that holds it is fenced with class MESH. Settling in time, a
locked clock and a pilot below the limits do not take it out. A pilot pass is made with the drive buffer empty and 64 x PILOT_INT slots
after the last: it is counted, and above RESID_TRIG it starts a trim; none is made before, or while the selector moves. Stated for
a chiplet held by no job, or by one that runs, is not in a restart, being loaded, staging or changing its grade. (R143, R144, R146,
R148, R332) -/
def Obligations.MeshFailures : Prop :=
  ∀ (s : State) (k : Fin 4), s.meshState k ≠ msOut →
    (∀ j, s.meshJob k = some j → (s.job j).live = true ∧ (s.job j).restart = none ∧ (s.job j).loading = false ∧
      s.runningWith 0x0105 j = none ∧ s.rd R.WSET_JOB_STAGE j ≠ 1) →
    let out (t : State) (cause : OosCause) : Prop := t.meshState k = msOut ∧ (t.chip k).cause = cause ∧ (t.chip k).toks = [] ∧
      ∀ j, s.meshJob k = some j → t.Struck j fcMesh
    Does (.referenceLoss k) s (fun t => out t .lightLoss ∧ t.on R.MESH_STAT_LIGHT_OK k = false ∧ t.on R.MESH_EVT_LIGHT_LOSS k = true) ∧
    Does (.heaterFault k) s (fun t => out t .heater ∧ t.on R.MESH_EVT_HEATER_FAIL k = true) ∧
    (s.meshState k = msSettling → (s.chip k).swapped = true → s.passed (s.chip k).swapAt (60 * usec) = true → Does (.settleLate k) s fun t =>
      out t .settleLate ∧ t.on R.MESH_EVT_SETTLE_LATE k = true) ∧
    (s.meshState k ≠ msSettling ∨ (s.chip k).swapped = false ∨ s.passed (s.chip k).swapAt (60 * usec) = false → Does (.settleLate k) s fun t => t = s) ∧
    (∀ a, s.on R.MESH_STAT_CLK_OK k = false → s.clk.optLostAt = some a → s.passed a (100 * usec) = true →
      Does (.optClockTimeout k) s fun t => out t .clock) ∧
    (s.on R.MESH_STAT_CLK_OK k = true → Does (.optClockTimeout k) s fun t => t = s) ∧
    (s.meshState k = msService → s.on R.MESH_STAT_CLK_OK k = true → (s.chip k).order = [] → s.on R.FEED_STAT_MOVING 0 = false →
      (∀ a, (s.chip k).pilotAt = some a → 100 * a + 768 * max 1 (s.rd R.MESH_SWAP_CFG_PILOT_INT k) ≤ 100 * s.now) → ∀ resid : Fin 65536,
      Does (.pilotPass k resid none) s (fun t => Counted s t R.MESH_PILOT_CNT_COUNT k) ∧
      (64 ≤ (s.chip k).pilots + 1 → 185 < resid.val → Does (.pilotPass k resid none) s fun t => out t .pilotHigh ∧
        t.on R.MESH_EVT_PILOT_HIGH k = true) ∧
      (64 ≤ (s.chip k).pilots + 1 → s.dutiesRun = true → s.residTrig k < resid.val → resid.val ≤ 185 → Does (.pilotPass k resid none) s fun t =>
        t.meshState k = msRebuild ∧ (t.chip k).work = .trim ∧ t.rd R.MESH_RESID_RESID k = resid) ∧
      ((s.chip k).pilots + 1 < 64 ∨ resid.val ≤ s.residTrig k → resid.val ≤ 185 → Does (.pilotPass k resid none) s fun t =>
        t.meshState k = msService)) ∧
    ((s.meshState k ≠ msService ∧ s.meshState k ≠ msRebuild) ∨ s.on R.MESH_STAT_CLK_OK k = false ∨ (s.chip k).order ≠ [] ∨
      s.on R.FEED_STAT_MOVING 0 = true ∨ (∃ a, (s.chip k).pilotAt = some a ∧
        100 * s.now < 100 * a + 768 * max 1 (s.rd R.MESH_SWAP_CFG_PILOT_INT k)) → ∀ resid bad, Does (.pilotPass k resid bad) s fun t => t = s)

/-- What starts a trim or a crosstalk rebuild, and what a swap of a chiplet does. TRIM_START on a chiplet IN_SERVICE takes it to REBUILD
with its outputs STALE and is ignored in any other state; so does its age trigger when due, and not with AGE_TRIG 0. During a takeover
the starts are held. XT_START on a
chiplet IN_SERVICE takes it to REBUILD and on one UNUSED leaves its state; on one CHANGING, SETTLING or kept out until power-up it is
ignored. A small ambient change writes new heater powers, free values, to the bank in service; a large one, or a chiplet UNUSED or
OUT_OF_SERVICE, changes nothing. At its swap point a chiplet selects the other bank, settles, is no longer STALE, and serves the next
matrix if it was computed; a trim that has waited for SWAP_WAIT swaps regardless and marks the batches begun as straddling, for each
operator of which tokens are still to come. Before that neither swap happens. (R139, R142, R144, R145, R150, R153, R322) -/
def Obligations.MeshTrimsAndSwaps : Prop :=
  ∀ (s : State) (k : Fin 4),
    (s.meshState k = msService → s.dutiesRun = true → Does (.trimStart k) s (fun t => t.meshState k = msRebuild ∧ (t.chip k).work = .trim ∧
        (t.chip k).ready = false ∧ (t.chip k).stale = true ∧ t.on R.MESH_EVT_REBUILD k = true) ∧
      (s.rd R.MESH_CAL_CFG_AGE_TRIG k ≠ 0 →
        s.passed (s.chip k).swapAt (1000 * msec * s.rd R.MESH_CAL_CFG_AGE_TRIG k) = true →
        Does (.meshAgeTrigger k) s fun t => exec (.trimStart k) s = .next t) ∧
      Does (.xtStart k) s (fun t => t.meshState k = msRebuild ∧ (t.chip k).work = .xtalk ∧ t.on R.MESH_EVT_REBUILD k = true)) ∧
    (s.meshState k ≠ msService → Does (.trimStart k) s fun t => t = s) ∧
    (s.dutiesRun = false → (s.meshState k = msService → Does (.trimStart k) s fun t => t = s.setSup t.sup ∧ .trim k.val ∈ t.sup.waiting) ∧
      Does (.xtStart k) s (fun t => t = s.setSup t.sup ∧ .xtalk k.val ∈ t.sup.waiting)) ∧
    (s.rd R.MESH_CAL_CFG_AGE_TRIG k = 0 → Does (.meshAgeTrigger k) s fun t => t = s) ∧
    (s.meshState k = msUnused → s.dutiesRun = true → Does (.xtStart k) s fun t => t.meshState k = msUnused ∧ (t.chip k).work = .xtalk) ∧
    (s.dutiesRun = true → s.meshState k = msChanging ∨ s.meshState k = msSettling ∨ (s.meshState k = msOut ∧ (s.chip k).failed = true) →
      Does (.xtStart k) s fun t => t = s) ∧
    (s.meshState k ≠ msUnused → s.meshState k ≠ msOut → Does (.ambientUpdate k true) s fun t => t.freeIx = s.freeIx + 1 ∧
      ∀ i < 8192, t.meshTblAt k (s.meshBank k) 0 i = BitVec.ofNat 32 (Config.heaterPower s.freeIx i % 65536)) ∧
    Does (.ambientUpdate k false) s (fun t => t = s) ∧
    (s.meshState k = msUnused ∨ s.meshState k = msOut → Does (.ambientUpdate k true) s fun t => t = s) ∧
    (let swapped (t : State) : Prop := t.meshBank k = 1 - s.meshBank k ∧ t.meshState k = msSettling ∧ (t.chip k).stale = false ∧
        (t.chip k).work = .none ∧ (t.chip k).matrix = (if (s.chip k).work = .matrix then (s.chip k).next else (s.chip k).matrix) ∧
        t.rd R.MESH_TEMP_CAL_MEAN k = s.rd R.MESH_TEMP_MEAN k ∧ Counted s t R.MESH_CAL_CNT_COUNT k ∧ t.on R.MESH_EVT_SWAP k = true;
      (s.meshSwapPoint k = true → Does (.meshSwap k) s fun t => swapped t) ∧
      (s.meshSwapPoint k = false → Does (.meshSwap k) s fun t => t = s) ∧
      ((s.chip k).ready = true → (s.chip k).work = .trim ∨ (s.chip k).work = .xtalk →
        (s.passed (s.chip k).holdAt (usec * s.meshWait k) = true → Does (.meshSwapForced k) s fun t => swapped t ∧
          t.on R.MESH_EVT_SWAP_FORCED k = true ∧ (t.chip k).straddle = (s.chip k).straddle ++ s.meshStraddle k) ∧
        (s.passed (s.chip k).holdAt (usec * s.meshWait k) = false → Does (.meshSwapForced k) s fun t => t = s)) ∧
      ((s.chip k).ready = false → Does (.meshSwapForced k) s fun t => t = s))

/-- How matrices, trims, settling and crosstalk rebuilds end. A matrix that is realisable is written with its receive table into the standby
bank, free values both, and waits for its swap; the tables in service stay; a trim writes heaters and carries the receive table in
service over; a trim not realisable, or with nothing to compute, changes nothing. Settling ends in service with 64 pilots counted, for a
job that then no longer runs on a substitute; above RESID_TRIG a trim begins at once; nothing ends while the selector moves. A crosstalk
rebuild that succeeds frees the chiplet UNUSED for use, makes one OUT_OF_SERVICE available again when its pilot check passes, and else
keeps it out until power-up; with none running nothing changes. A cleared cause starts a rebuild once. (R137, R139, R142, R144, R146,
R149, R150) -/
def Obligations.MeshComputations : Prop :=
  ∀ (s : State) (k : Fin 4),
    let heat (t : State) : Prop := t.freeIx = s.freeIx + 1 ∧ (t.chip k).ready = true ∧ (t.chip k).holdAt = s.now ∧ ∀ i,
      (i < 8192 → t.meshTblAt k (1 - s.meshBank k) 0 i = BitVec.ofNat 32 (Config.heaterPower s.freeIx i % 65536)) ∧
      (i < 512 → t.meshTblAt k (s.meshBank k) 1 i = s.meshTblAt k (s.meshBank k) 1 i)
    ((s.chip k).ready = false → (s.chip k).work = .matrix → (s.chip k).why = .load ∨ s.meshJob k = none →
      Does (.matrixComputeDone k true) s fun t => heat t ∧
        ∀ i < 512, t.meshTblAt k (1 - s.meshBank k) 1 i = Config.receiveEntry s.freeIx i &&& 0x00FF_FFFF) ∧
    ((s.chip k).ready = false → (s.chip k).work = .trim → s.meshState k = msRebuild →
      Does (.matrixComputeDone k true) s (fun t => heat t ∧
        ∀ i < 512, t.meshTblAt k (1 - s.meshBank k) 1 i = s.meshTblAt k (s.meshBank k) 1 i) ∧
      Does (.matrixComputeDone k false) s (fun t => t = s)) ∧
    ((s.chip k).ready = true ∨ (s.chip k).work = .none ∨ (s.chip k).work = .xtalk → ∀ ok, Does (.matrixComputeDone k ok) s fun t => t = s) ∧
    (∀ resid : Fin 65536, s.meshState k = msSettling → s.on R.FEED_STAT_MOVING 0 = false → s.on R.MESH_STAT_CLK_OK k = true →
      (resid.val ≤ s.residTrig k → ∀ j, s.meshJob k = some j → (s.job j).loading = false → (s.job j).holds.grade = false →
        (s.job j).holds.bell = false → s.runningWith 0x0105 j = none → (s.stage j).meshes = [] → Does (.meshSettleDone k resid) s fun t =>
          t.meshState k = msService ∧ t.rd R.MESH_RESID_RESID k = resid ∧ t.on R.MESH_STAT_SUBST k = false ∧
          t.rd R.MESH_PILOT_CNT_COUNT k = (s.rd R.MESH_PILOT_CNT_COUNT k + 64) % 2 ^ R.MESH_PILOT_CNT_COUNT.w ∧
          ∀ o, (k.val, o) ∈ (s.job j).chips → o ∉ (t.job j).substOn) ∧
      (s.residTrig k < resid.val → resid.val ≤ 185 → s.dutiesRun = true → Does (.meshSettleDone k resid) s fun t => t.meshState k = msRebuild ∧
        (t.chip k).work = .trim)) ∧
    (s.meshState k ≠ msSettling ∨ s.on R.FEED_STAT_MOVING 0 = true → ∀ resid, Does (.meshSettleDone k resid) s fun t => t = s) ∧
    (∀ (ok : Bool) (resid : Fin 65536), s.loadWait = none → (s.chip k).work = .xtalk → (s.chip k).ready = false →
      (s.meshState k = msUnused → Does (.xtalkRebuildDone k true resid) s fun t => t.meshState k = msUnused ∧ (t.chip k).xtDone = true ∧
        (t.chip k).work = .none) ∧
      (s.meshState k = msOut → ok = false ∨ s.residTrig k < resid.val → Does (.xtalkRebuildDone k ok resid) s fun t =>
        t.meshState k = msOut ∧ (t.chip k).failed = true) ∧
      (s.meshState k = msOut → resid.val ≤ s.residTrig k → s.meshJob k = none → (∀ j < 16, (s.job j).st = .empty) →
        Does (.xtalkRebuildDone k true resid) s fun t => t.meshState k = msUnused ∧ (t.chip k).cause = .none ∧ (t.chip k).matrix = none)) ∧
    ((s.chip k).work ≠ .xtalk ∨ (s.chip k).ready = true → ∀ ok resid, Does (.xtalkRebuildDone k ok resid) s fun t => t = s) ∧
    (s.meshState k = msOut → (s.chip k).failed = false → (s.chip k).cleared = false → s.oosCleared k = true →
      Does (.oosCleared k) s fun t => (t.chip k).cleared = true ∧ (t.chip k).work = .xtalk ∧ t.meshState k = msOut ∧
        t.on R.MESH_EVT_REBUILD k = true) ∧
    (s.meshState k ≠ msOut ∨ (s.chip k).failed = true ∨ (s.chip k).cleared = true ∨ s.oosCleared k = false →
      Does (.oosCleared k) s fun t => t = s)

/-- How MESH tokens enter a chiplet, pass it and leave it. The interface of a chiplet takes the MESH token at its front when its job holds
the chiplet, an entry in force serves its operator, its length is whole passes and the chiplet neither holds it back nor lacks room for
a pass: the token joins the chiplet's, and of the first its passes stand in the drive buffer, 16 at most. A token of a length that is no whole number of passes is discarded with BAD_OP;
one of another epoch is discarded and counted; one held back stays. A pass gives 512 outputs and draws one free value; a pass whose
inputs are all zero gives exact zero and is not counted. Without the sample clock, while the selector moves, or SETTLING, OUT_OF_SERVICE
or UNUSED, none is launched. An output token carries the next passes of its token, at most 4, to the destination of its entry. Stated for one token in the
chiplet, no token waiting outside the pitch and every body drawn up behind its header. (R132, R133, R134, R135, R139, R155) -/
def Obligations.MeshTokensAndPasses : Prop :=
  ∀ s : State, (∀ x ∈ s.fabric, x.outside = false ∧ x.trail = []) →
    (∀ (c : Fin 256) k h, chipOfClu c = some k → s.front (.unit c 19) = some h →
      (h.stale = false → h.tok.epoch = (s.job h.tok.job).epoch → s.meshJob k = some h.tok.job →
        (h.tok.len % 16 = 0 → (s.meshEntry k h.tok.oper).isSome = true →
          (s.meshHolds k h.tok = false → (s.chip k).feeding c = false → (s.chip k).order.length < 16 → Does (.meshToken c) s fun t =>
            t.fabric = s.fabric.erase h ∧ (t.chip k).toks.map MeshTok.tok = (s.chip k).toks.map MeshTok.tok ++ [h.tok] ∧
            ((s.chip k).toks = [] → (s.chip k).order = [] → 16 ≤ h.tok.len → let n := min 16 (h.tok.len / 16)
              (t.chip k).toks = [⟨h.tok, c, n, [], [], 0⟩] ∧ (t.chip k).order = List.replicate n c.val)) ∧
          (s.meshHolds k h.tok = true ∨ (s.chip k).feeding c = true ∨ 16 ≤ (s.chip k).order.length → Does (.meshToken c) s fun t => t = s)) ∧
        (h.tok.len % 16 ≠ 0 → Does (.meshToken c) s fun t => t.fabric = s.fabric.erase h ∧ t.on R.MESH_EVT_BAD_OP k = true)) ∧
      (h.stale = true ∨ h.tok.epoch ≠ (s.job h.tok.job).epoch → Does (.meshToken c) s fun t => t.fabric = s.fabric.erase h ∧
        Counted s t R.EPOCH_DROP_CNT_COUNT c)) ∧
    (∀ c : Fin 256, chipOfClu c = none ∨ s.front (.unit c 19) = none → Does (.meshToken c) s fun t => t = s) ∧
    (∀ (k : Fin 4) m, (s.chip k).toks = [m] →
      (∀ rest, (s.chip k).order = m.clu :: rest → m.outs.length < m.loaded → s.on R.MESH_STAT_CLK_OK k = true →
        s.on R.FEED_STAT_MOVING 0 = false → (s.chip k).matrix ≠ none → s.meshState k ≠ msSettling → s.meshState k ≠ msOut →
        s.meshState k ≠ msUnused → Does (.passLaunch k) s fun t => t.freeIx = s.freeIx + 1 ∧ ∃ (out : List Int) (n : Nat), out.length = 512 ∧
          (t.chip k).toks = [{ m with
            loaded := n, outs := m.outs ++ [out],
            stales := m.stales ++ [(s.chip k).stale || (s.chip k).straddle.contains (m.tok.batchKey, m.tok.oper)] }] ∧
          ((∀ i < 512, passInput m.tok m.outs.length (i / 64) (i % 64) = 0) → out = List.replicate 512 0 ∧
            t.rd R.MESH_PASS_CNT_LO_COUNT_LO k = s.rd R.MESH_PASS_CNT_LO_COUNT_LO k)) ∧
      (m.outReady = true → ∀ n, s.meshEntry k m.tok.oper = some n → Does (.meshOutputToken k) s fun t => ∃ x : Held,
        t.fabric = s.fabric ++ [x] ∧ x.tok.kind = 5 ∧ x.tok.job = m.tok.job ∧ x.tok.tag = m.tok.tag ∧ x.tok.part = m.emitted ∧
        x.tok.dstClu = s.frc2 R.MESH_OP_B_DST_CLU k n ∧ x.tok.dstUnit = s.frc2 R.MESH_OP_B_DST_UNIT k n ∧
        x.tok.oper = s.frc2 R.MESH_OP_A_NEXT_OPER k n ∧ x.tok.payload = ((m.outs.drop (4 * m.emitted)).take 4).flatten)) ∧
    (∀ k : Fin 4,
      (s.on R.MESH_STAT_CLK_OK k = false ∨ s.on R.FEED_STAT_MOVING 0 = true ∨ s.meshState k = msSettling ∨ s.meshState k = msOut ∨
        s.meshState k = msUnused ∨ (s.chip k).toks = [] → Does (.passLaunch k) s fun t => t = s) ∧
      ((∀ m ∈ (s.chip k).toks, m.outReady = false) → Does (.meshOutputToken k) s fun t => t = s))

/-- When the selector of the feeds moves, and what the OPT_ commands of the feed answer. With no circuit up and no job holding a mesh: the
loss of the feed in use while the other is present and AUTO is set starts a move to it, and every chiplet IN_SERVICE settles; so does
the return of a feed while the one in use is lost. The loss of the feed not in use only shows, as does a feed present while the one in
use is; a lost feed cannot be lost again. A move ends 20 µs after its beginning, not before, with the new feed in use, and counted.
OPT_FEED_SET stores both settings, answers at once when no move is called for, and moves when AUTO is set while the feed in use is lost
and the other present; OPT_STATUS answers its nine words and clears nothing.
(R127, R148, R156, R314, R446) -/
def Obligations.FeedSelector : Prop :=
  ∀ s : State,
    ((∀ k l, (s.lane k l).st ≠ lnUp) → (∀ j < 16, (s.job j).chips = []) → ∀ f : Fin 2, s.on R.FEED_STAT_MOVING 0 = false →
      s.on R.FEED_CFG_AUTO 0 = true →
      let moving (t : State) (to_ : Nat) : Prop := t.on R.FEED_STAT_MOVING 0 = true ∧ t.feedMove = some (to_, s.now) ∧
        ∀ k < 4, s.meshState k = msService → t.meshState k = msSettling
      (s.feedInUse = f.val → s.feedOk f = true → s.feedOk (1 - f.val) = true → Does (.feedLoss f) s fun t => moving t (1 - f.val) ∧
        t.feedOk f = false) ∧
      (s.feedInUse ≠ f.val → s.feedOk s.feedInUse = false → Does (.feedPresent f) s fun t => moving t f ∧ t.feedOk f = true)) ∧
    (∀ f : Fin 2,
      (s.feedInUse ≠ f.val → s.feedOk s.feedInUse = true → s.feedOk f = true → Does (.feedLoss f) s fun t => t = putFeed s f false) ∧
      (s.feedOk f = false → Does (.feedLoss f) s fun t => t = s) ∧
      (s.feedInUse = f.val ∨ s.feedOk s.feedInUse = true ∨ s.on R.FEED_CFG_AUTO 0 = false → Does (.feedPresent f) s fun t =>
        t = putFeed s f true)) ∧
    (∀ f a, s.feedMove = some (f, a) →
      (s.passed a (20 * usec) = true → f < 2 → s.feedOk f = true → s.runningAny 0x0404 = none → Does .feedMoveDone s fun t =>
        t.feedInUse = f ∧ t.on R.FEED_STAT_MOVING 0 = false ∧ t.feedMove = none ∧ Counted s t R.FEED_SW_CNT_COUNT 0) ∧
      (s.passed a (20 * usec) = false → Does .feedMoveDone s fun t => t = s)) ∧
    (s.feedMove = none → Does .feedMoveDone s fun t => t = s) ∧
    (∀ m : Fin 16,
      (s.begins m 0x0404 true true true = true → s.on R.FEED_STAT_MOVING 0 = false →
        s.req m 8 1 = s.feedInUse ∨ s.feedOk (s.req m 8 1) = false →
        (s.req m 9 1 = 0 ∨ s.feedOk s.feedInUse = true ∨ s.feedOk (1 - s.feedInUse) = false → Does (.optFeedSet m) s fun t =>
          t.rd R.FEED_CFG_PRIMARY 0 = s.req m 8 1 ∧ t.rd R.FEED_CFG_AUTO 0 = s.req m 9 1 ∧ t.Answers m .ok []) ∧
        (s.req m 9 1 = 1 → s.feedOk s.feedInUse = false → s.feedOk (1 - s.feedInUse) = true → (∀ k l, (s.lane k l).st ≠ lnUp) →
          (∀ j < 16, (s.job j).chips = []) → Does (.optFeedSet m) s fun t => t.on R.FEED_STAT_MOVING 0 = true ∧
            t.feedMove = some (1 - s.feedInUse, s.now) ∧ t.rd R.FEED_CFG_AUTO 0 = 1)) ∧
      (s.begins m 0x0401 true true true = true → let k := s.req m 8 1
        Does (.optStatus m) s fun t => t.Answers m .ok (([s.word (R.RING_STAT.key k 0), s.word (R.MESH_STAT.key k 0),
          s.word (R.MESH_RESID.key k 0), s.word (R.CW_CE_CNT.key k 0), s.word (R.CW_UE_CNT.key k 0), s.word (R.FEED_STAT.key 0 0),
          withField 8 4 (s.word (R.HALF_STAT.key 0 0)) s.bridgesUp, s.word (R.LOSS_LOC.key 0 0),
          s.word (R.LOSS_CNT.key 0 0)] : List Word).flatMap fun w => leBytes 4 w.toNat)))

/-- How rings are searched, judged, frozen and re-searched, and monitors read. Ring search starts on the chiplets switched on whose PHASE is
0 once there is light and the clock is locked, and on none otherwise. In a search, a sweep whose peaks name one heater code keeps that
code for the ring and parks it until its phase ends; one that does not leaves it searching for a second sweep, after which a lane or
switch ring fails; a ring not being swept is left as it is. The search ends in its fifth phase with all 1,584 rings confirmed or failed,
in PHASE 2, or 3 when a separation ring failed. Of the rings the window reads, a locked one whose own tone is the strongest is confirmed;
one being confirmed moves by the slots its tone was off and is read again; one found wrong in service awaits its re-search with
WRONG_LAMBDA or UNLOCK. A dark locked ring is frozen, freed when light returns within 10 ms, and after 10 ms every frozen ring of the
chiplet is searched again. A re-search sweeps an eighth of the range beside the ring's code, of a ring near an end of its range a free
spectral range away, and its confirmation judges it; any other ring stays. A monitor read holds its power, counts its readings below
the loss level and warns 3 dB below its level at lock. (R160, R161, R162, R164, R165, R166, R167, R181, R193) -/
def Obligations.RingsAreSearched : Prop :=
  (∀ s : State,
    (s.lightAndClock = true → Does .ringSearchStart s fun t => ∀ k < 4, t.rd R.RING_STAT_PHASE k =
      (if s.rd R.RING_STAT_PHASE k = 0 ∧ s.halfOn (halfOfChip k) = true then 1 else s.rd R.RING_STAT_PHASE k)) ∧
    (s.lightAndClock = false → Does .ringSearchStart s fun t => t = s) ∧
    (∀ (k : Fin 4) (i : Fin 1584) (pk : List Nat),
      let r := s.ring k i
      let a := if r.assign = 17 then ringTarget i else r.assign
      (s.rd R.RING_STAT_PHASE k = 1 → r.st = rgSearching →
        (∃ n ∈ phaseRings (s.ringWork k).phase, n ≠ i.val ∧ (s.ring k n).found = false) →
        (∀ c, searchCode pk (ringPattern i) a 0 65535 = some c → Does (.ringSweepDone k i pk) s fun t =>
          (t.ring k i).home = c ∧ (t.ring k i).heater = moveCode c a 16 ∧ (t.ring k i).assign = a ∧ (t.ring k i).st = rgParked) ∧
        (searchCode pk (ringPattern i) a 0 65535 = none →
          (r.sweeps = 0 → Does (.ringSweepDone k i pk) s fun t => (t.ring k i).st = rgSearching ∧ (t.ring k i).sweeps = 1) ∧
          (r.sweeps ≠ 0 → 1040 ≤ i.val → (∀ l c, laneOfRing i = some (l, c) → (s.lane k l).st ≠ lnUp) →
            Does (.ringSweepDone k i pk) s fun t => (t.ring k i).st = rgFailed ∧ t.on R.RING_EVT_SEARCH_FAIL k = true))) ∧
      (s.rd R.RING_STAT_PHASE k ≠ 1 ∨ r.st ≠ rgSearching → Does (.ringSweepDone k i pk) s fun t => t = s) ∧
      (r.st = rgLocked → r.frozen = none → Does (.ringDark k i) s fun t => (t.ring k i).frozen = some s.now ∧ t = s.setRings t.rings) ∧
      (r.st ≠ rgLocked ∨ r.frozen ≠ none → Does (.ringDark k i) s fun t => t = s) ∧
      (∀ x, r.frozen = some x → r.st = rgLocked → s.passed x (10 * msec) = false → Does (.ringLightReturn k i) s fun t =>
        (t.ring k i).frozen = none ∧ (t.ring k i).heater = r.heater) ∧
      (r.frozen = none → Does (.ringLightReturn k i) s fun t => t = s) ∧
      (∀ (c : Nat) (tone : ToneRead), s.rd R.RING_STAT_PHASE k ≠ 1 → r.st = rgSearching ∨ r.st = rgWrong ∨ r.nearEnd = true →
        searchCode pk (ringPattern i) a (r.expected - 8193) (min 65535 (r.expected + 8193)) = some c →
        (a ≠ 16 → tone.tone = a → Does (.partialResearchDone k i pk tone) s fun t => (t.ring k i).heater = c ∧
          (t.ring k i).toneOk = true ∧ (t.ring k i).st = rgLocked ∧ t.on R.RING_EVT_RESEARCH k = true) ∧
        (a ≠ 16 → tone.tone ≠ a → Does (.partialResearchDone k i pk tone) s fun t => (t.ring k i).heater = moveCode c tone.tone a ∧
          (t.ring k i).toneOk = false ∧ (t.ring k i).fails = 1 ∧ (t.ring k i).st = rgLocked) ∧
        (a = 16 → tone.dark = true → Does (.partialResearchDone k i pk tone) s fun t => (t.ring k i).heater = moveCode c 16 16 ∧
          (t.ring k i).toneOk = true ∧ (t.ring k i).st = rgParked ∧ t.on R.RING_EVT_RESEARCH k = true)) ∧
      (∀ tone, s.rd R.RING_STAT_PHASE k = 1 ∨ (r.st ≠ rgSearching ∧ r.st ≠ rgWrong ∧ r.nearEnd = false) →
        Does (.partialResearchDone k i pk tone) s fun t => t = s) ∧
      (r.st = rgLocked → r.frozen = none → s.toneChecks k i = true → ∀ tone : ToneRead, tone.ring = i.val →
        let low := (r.lockLevel.map fun l => decide (4 * tone.level < l)).getD false
        (tone.tone = r.assign → low = false → Does (.toneWindow k [tone]) s fun t => (t.ring k i).toneOk = true ∧
          (t.ring k i).st = rgLocked ∧ (t.ring k i).tone = tone.tone ∧ (t.ring k i).lockLevel = some (r.lockLevel.getD tone.level)) ∧
        (tone.tone ≠ r.assign ∨ low = true → r.confirm = true → r.fails < 2 → Does (.toneWindow k [tone]) s fun t =>
          (t.ring k i).st = rgLocked ∧ (t.ring k i).fails = r.fails + 1 ∧ (t.ring k i).heater = moveCode r.heater tone.tone r.assign) ∧
        (tone.tone ≠ r.assign ∨ low = true → r.confirm = false → 1040 ≤ i.val →
          (∀ l c, laneOfRing i = some (l, c) → (s.lane k l).st ≠ lnUp) → Does (.toneWindow k [tone]) s fun t =>
            (t.ring k i).st = rgWrong ∧ (t.ring k i).toneOk = false ∧
            t.on (if tone.tone = r.assign then R.RING_EVT_UNLOCK else R.RING_EVT_WRONG_LAMBDA) k = true))) ∧
    (∀ k : Fin 4, s.loadWait = none →
      let n := (s.rings.filter fun e => e.1 / 2048 == k.val && (e.2.st == rgFailed || e.2.found && e.2.toneOk)).length
      (s.rd R.RING_STAT_PHASE k = 1 → (s.ringWork k).phase = 5 → n = 1584 → Does (.ringSearchDone k) s fun t =>
        t.rd R.RING_STAT_PHASE k = (if (List.range 16).any (fun i => (s.ring k i).st == rgFailed) then 3 else 2) ∧
        t.on R.RING_EVT_SEARCH_DONE k = true ∧ t.on R.MESH_STAT_LIGHT_OK k = true) ∧
      (s.rd R.RING_STAT_PHASE k ≠ 1 ∨ (s.ringWork k).phase ≠ 5 ∨ n ≠ 1584 → Does (.ringSearchDone k) s fun t => t = s)) ∧
    (∀ r : MonRead, r.chip < 4 → r.ix < 115 → (∀ e ∈ s.lanes, e.2.st ≠ lnTuning) → Does (.monitorSample [r]) s fun t => (t.mon r.chip r.ix).power = r.power ∧
      (t.mon r.chip r.ix).lock = (s.mon r.chip r.ix).lock ∧
      (t.mon r.chip r.ix).runs = (match (s.mon r.chip r.ix).lock with
        | some p => if s.watched r.chip r.ix = true ∧ r.power < p - s.lossDb then (s.mon r.chip r.ix).runs + 1 else 0
        | none => 0) ∧
      (t.mon r.chip r.ix).warn = (s.watched r.chip r.ix && match (s.mon r.chip r.ix).lock with
        | some p => decide (r.power ≤ p - 300)
        | none => false))) ∧
  (∀ (s : State) (k : Fin 4), s.Canonical →
    ((∃ i < 1584, ∃ x, (s.ring k i).frozen = some x ∧ s.passed x (10 * msec) = true) → Does (.ringDarkTimeout k) s fun t =>
      ∀ i < 1584, (s.ring k i).frozen ≠ none → (t.ring k i).st = rgSearching) ∧
    ((∀ e ∈ s.rings, e.1 / 2048 = k.val → e.2.frozen = none) → Does (.ringDarkTimeout k) s fun t => t = s))

/-- How circuits are made and lost, and what a codeword does. A circuit between two free lanes of linked chiplets begins to tune on its
column with its wavelength, both ends naming each other; of an enabled external port likewise; one that waits only for lanes or a
wavelength being parked is kept for later; on a chiplet not ready nothing begins. Training that ends well, 19 µs after it began and not
before, takes the lane UP with CIRC_UP, and one that fails frees it with TRAIN_FAIL. A removed circuit parks, but not the last of a
bridge direction nor one an enabled port must keep; parking and a loss end in an idle lane; a circuit lost goes DOWN with CIRC_DOWN. A
codeword whose turn it is, with at most 7 symbol errors, counts as corrected if it had any, more count as uncorrectable, the sixteenth
in a row takes the circuit DOWN. Every 10 µs each bridge queue is judged against its two levels; during a takeover none is. OPT_EXT_SET
and OPT_BRIDGE_ROUTE write their registers, and the route of a bridge that an admitted job names is refused with IN_USE. The codewords
are stated for a direction of one circuit whose queue is empty, the sample for chiplets that are not ready for circuits, the parking
for no addition that waits. (R114, R172, R173, R174, R175, R176, R178, R179, R189, R191, R314, R322) -/
def Obligations.CircuitsAndCodewords : Prop :=
  ∀ s : State,
    (∀ (b : Fin 16) (out : Bool) (w : Fin 8) (tx rx : Fin 16),
      let k := chipOfBridge b
      let p := (b.val + 8) % 16
      let k' := chipOfBridge p
      (s.bridgeJoins (b.val % 8) = true → s.linkReady k = true → s.linkReady k' = true → s.laneFree k tx (s.columnOf b) = true →
        s.laneFree k' (16 + rx.val) (s.columnOf p) = true → s.waveFree k (s.columnOf b) (8 + w.val) = true →
        s.waveFree k' (s.columnOf p) (8 + w.val) = true → Does (.circuitAdd none b out w tx rx) s fun t =>
          t.lane k tx = ⟨lnTuning, s.columnOf b, 8 + w.val, b.val % 8, false, some (32 * k' + (16 + rx.val)), 0, s.now, []⟩ ∧
          t.lane k' (16 + rx.val) = ⟨lnTuning, s.columnOf p, 8 + w.val, b.val % 8, false, some (32 * k + tx.val), 0, s.now, []⟩) ∧
      (s.rivals b (8 + w.val) = [] → s.bridgeJoins (b.val % 8) = true → s.endsParking (s.bridgeEnds b tx rx) (8 + w.val) = true →
        Does (.circuitAdd none b out w tx rx) s fun t => t = s.setDirs t.dirs ∧ (8 + w.val, tx.val, rx.val) ∈ (t.dir b).waits) ∧
      (s.rivals b (8 + w.val) = [] → s.bridgeJoins (b.val % 8) = false ∨ s.linkReady k = false →
        Does (.circuitAdd none b out w tx rx) s fun t => t = s) ∧
      (∀ e : Fin 8, let l := if out then tx.val else 16 + rx.val
        (s.on R.EXT_CFG_EN e = true → s.linkReady (e.val / 2) = true → s.laneFree (e.val / 2) l (4 + e.val % 2) = true →
          s.waveFree (e.val / 2) (4 + e.val % 2) (8 + w.val) = true → Does (.circuitAdd (some e) b out w tx rx) s fun t =>
            t.lane (e.val / 2) l = ⟨lnTuning, 4 + e.val % 2, 8 + w.val, s.bridgeOfExt e, true, none, 0, s.now, []⟩) ∧
        (s.on R.EXT_CFG_EN e = false → Does (.circuitAdd (some e) b out w tx rx) s fun t => t = s))) ∧
    (∀ (k : Fin 4) (l : Fin 32), let x := s.lane k l
      (s.mbxOrder = [] → x.st = lnTrain → s.passed x.at_ (19 * usec) = true →
        Does (.circuitUp k l true) s (fun t => (t.lane k l).st = lnUp ∧ t.on R.LINK_EVT_CIRC_UP k = true) ∧
        Does (.circuitUp k l false) s (fun t => t.lane k l = Lane.idle ∧ t.on R.LINK_EVT_TRAIN_FAIL k = true)) ∧
      (s.mbxOrder = [] → x.st ≠ lnTuning → x.st ≠ lnTrain ∨ s.passed x.at_ (19 * usec) = false → ∀ ok,
        Does (.circuitUp k l ok) s fun t => t = s) ∧
      (x.st = lnUp → s.mustKeep k l = false → Does (.circuitRemove k l) s fun t => (t.lane k l).st = lnParking) ∧
      (x.st ≠ lnUp ∨ (x.ext = false ∧ (s.upLanes k x.column (decide (16 ≤ l.val))).length ≤ 1) ∨
        (x.ext = true ∧ s.mustKeep k l = true) → Does (.circuitRemove k l) s fun t => t = s) ∧
      (x.st = lnParking ∨ x.st = lnDown → (∀ b < 16, (s.dir b).waits = []) → (∀ e < 8, (s.ext e).waits = []) →
        Does (.parkingDone k l) s fun t => t.lane k l = Lane.idle) ∧
      (x.st ≠ lnParking → x.st ≠ lnDown → Does (.parkingDone k l) s fun t => t = s) ∧
      (x.st = lnUp → Does (.circuitDown k l false) s fun t => (t.lane k l).st = lnDown ∧ t.on R.LINK_EVT_CIRC_DOWN k = true) ∧
      (x.st ≠ lnUp → (∀ lost, Does (.circuitDown k l lost) s fun t => t = s) ∧
        ∀ errs inc, Does (.codewordReceived k l errs inc) s fun t => t = s) ∧
      (∀ m, 16 ≤ l.val → x.st = lnUp → x.ext = false → x.mate = some m → x.deskew = [] → m % 32 < 16 →
        (s.lane (m / 32) (m % 32)).st = lnUp → (s.lane (m / 32) (m % 32)).ext = false →
        (s.lane (m / 32) (m % 32)).mate = some (32 * k.val + l.val) → s.senderOf (m / 32) (m % 32) = s.senderOf k l →
        (s.dir (s.senderOf k l)).map = [m] → (s.dir (s.senderOf k l)).turn = m → s.front (.bridge (s.senderOf k l)) = none →
        ∀ errs : Fin 273, let ue := (s.lane (m / 32) (m % 32)).ue
        (errs.val ≤ 7 → Does (.codewordReceived k l errs []) s fun t => (t.lane k l).ue = 0 ∧ (t.lane k l).st = lnUp ∧
          (t.dir (s.senderOf k l)).cwSeq = ((s.dir (s.senderOf k l)).cwSeq + 1) % 64 ∧
          (errs.val = 0 → t.rd R.CW_CE_CNT_COUNT k = s.rd R.CW_CE_CNT_COUNT k) ∧ (errs.val ≠ 0 → Counted s t R.CW_CE_CNT_COUNT k)) ∧
        (7 < errs.val → Does (.codewordReceived k l errs []) s fun t => Counted s t R.CW_UE_CNT_COUNT k ∧
          t.on R.LINK_EVT_CW_UE k = true ∧ (ue + 1 < 16 → (t.lane k l).ue = ue + 1 ∧ (t.lane k l).st = lnUp) ∧
          (16 ≤ ue + 1 → (t.lane k l).st = lnDown)))) ∧
    (s.dutiesRun = true → s.mbxOrder = [] → (∀ k, s.linkReady k = false) → (∀ e ∈ s.lanes, e.2.st ≠ lnTuning) →
      Does .bridgeSample s fun t => ∀ b < 16,
        (t.dir b).highAt = since (decide (3 * 65536 < 4 * (32 * s.transfersAt (.bridge b)))) s.now (s.dir b).highAt ∧
        (t.dir b).lowAt = since (decide (10 * (32 * s.transfersAt (.bridge b)) < 65536)) s.now (s.dir b).lowAt) ∧
    (s.dutiesRun = false → Does .bridgeSample s fun t => t = s) ∧
    (∀ m : Fin 16,
      (s.begins m 0x0402 s.notStopped true true = true → let e := s.req m 8 1
        (s.req m 9 1 = 0 → Does (.optExtSet m) s fun t => t.on R.EXT_CFG_EN e = false ∧ t.rd R.EXT_CFG_MIN e = s.req m 10 1 ∧
          t.Answers m .ok (leBytes 1 (s.extCircuits e false) ++ leBytes 1 (s.extCircuits e true))) ∧
        (s.req m 9 1 = 1 → Does (.optExtSet m) s fun t => t.on R.EXT_CFG_EN e = true ∧ t.rd R.EXT_CFG_MIN e = s.req m 10 1)) ∧
      (s.begins m 0x0403 s.notStopped true true = true → let b := s.req m 8 1
        (s.bridgeNamed b = true → Does (.optBridgeRoute m) s fun t => t.Answers m .inUse [] ∧
          t.word (R.BRIDGE_CFG.key b 0) = s.word (R.BRIDGE_CFG.key b 0)) ∧
        (s.bridgeNamed b = false → Does (.optBridgeRoute m) s fun t => t.rd R.BRIDGE_CFG_ROUTE b = s.req m 9 1 ∧
          t.rd R.BRIDGE_CFG_EXT_SEL b = s.req m 10 1 ∧ t.rd R.BRIDGE_STAT_ROUTED_EXT b = s.req m 9 1)))

/-- What heartbeats, their loss, a split and its end do. A heartbeat of a half switched on shows its sideband and ends its own precedence;
of a half switched off it does nothing. Its loss, 30 µs after the last beat and not before, shows, and a half cut off from both its
sideband and its bridges that is not captain drops the tokens of cross-half jobs it had to send. With no circuit for SPLIT_CONFIRM and
both halves healthy the split is declared and every running job that spans the halves is fenced with class SPLIT; of a peer likewise.
With circuits in each direction for RETURN_STABLE the split ends, and a running job set aside, on its reduced form or held, that spans
both halves is fenced to return to its full form; with no split in force it ends likewise for the jobs set aside. Without their conditions none of them changes anything. OPT_CAPTAIN_SET sets CAPTAIN, and while an admitted
job declares a reduced form is refused with IN_USE and CAPTAIN_REJ. (R183, R184, R185, R187, R188, R191, R314, R332) -/
def Obligations.SplitsOfTheHalves : Prop :=
  ∀ s : State,
    let struck (t : State) (j : Nat) : Prop := (s.job j).live = true → (s.job j).restart = none → t.Struck j fcSplit
    (∀ h : Fin 2,
      (s.halfOn h = true → Does (.sidebandHeartbeat h) s fun t => t.on (sidebandFld h) 0 = true ∧ (t.half h).beatAt = some s.now ∧
        (t.half h).sbLostAt = none ∧ (t.half h).selfRule = false) ∧
      (s.halfOn h = false → Does (.sidebandHeartbeat h) s fun t => t = s) ∧
      (∀ a, (s.half h).beatAt = some a →
        (s.passed a (30 * usec) = true →
          (s.cutOff = false → s.split = false → Does (.sidebandLoss h) s fun t => t.on (sidebandFld h) 0 = false ∧
            (t.half h).sbLostAt = some ((s.half h).sbLostAt.getD s.now) ∧ t.fabric = s.fabric) ∧
          (s.cutOff = true → s.halfOn h = true → h.val ≠ s.captain → Does (.sidebandLoss h) s fun t =>
            t.on (sidebandFld h) 0 = false ∧ (t.half h).selfRule = true ∧ t.on R.HALF_STAT_SELF_RULE 0 = true ∧
            ∀ x ∈ t.fabric, ∀ b, x.place = .bridge b → b / 8 = h.val → (s.job x.tok.job).spans = false)) ∧
        (s.passed a (30 * usec) = false → Does (.sidebandLoss h) s fun t => t = s)) ∧
      ((s.half h).beatAt = none → Does (.sidebandLoss h) s fun t => t = s)) ∧
    (s.cutOff = true → s.halvesHealthy = true → s.split = false → (s.half 0).sbLostAt = none → (s.half 1).sbLostAt = none →
      Does (.halfSplit none) s fun t => t.split = true ∧ ∀ j < 16, (s.job j).spans = true → struck t j) ∧
    (s.cutOff = false ∨ s.halvesHealthy = false ∨ s.split = true → Does (.halfSplit none) s fun t => t = s) ∧
    (∀ a, s.split = true ∨ (∃ j < 16, s.returnsFull j = true) → s.returnAt = some a → s.passed a s.returnStable = true →
      Does (.splitEnd none) s fun t => t.split = false ∧
      t.on R.HALF_STAT_SELF_RULE 0 = false ∧ ∀ j < 16, (s.job j).spans = true → (s.job j).setAside = true →
        (s.job j).live = true → (s.job j).restart = none → (t.job j).fenced = true ∧
          (t.job j).restart.map Restart.remedies = some [.full]) ∧
    ((s.split = false ∧ ∀ j < 16, s.returnsFull j = false) ∨ s.returnAt = none → Does (.splitEnd none) s fun t => t = s) ∧
    (∀ e : Fin 8,
      (∀ a, s.on R.EXT_CFG_EN e = true → (s.ext e).split = false → (s.ext e).downAt = some a → s.passed a s.splitConfirm = true →
        Does (.halfSplit (some e)) s fun t => (t.ext e).split = true ∧
          ∀ j < 16, e.val ∈ (s.job j).sec.extPorts → struck t j) ∧
      (s.on R.EXT_CFG_EN e = false ∨ (s.ext e).split = true ∨ (s.ext e).downAt = none → Does (.halfSplit (some e)) s fun t => t = s) ∧
      (∀ a, (s.ext e).split = true → (s.ext e).upAt = some a → s.passed a s.returnStable = true → Does (.splitEnd (some e)) s fun t =>
        (t.ext e).split = false) ∧
      ((s.ext e).split = false ∨ (s.ext e).upAt = none → Does (.splitEnd (some e)) s fun t => t = s)) ∧
    (∀ m : Fin 16, s.begins m 0x0405 true true true = true →
      (s.reducedDeclared = true → Does (.optCaptainSet m) s fun t => t.on R.HALF_STAT_CAPTAIN_REJ 0 = true ∧ t.Answers m .inUse [] ∧
        t.rd R.HALF_CFG_CAPTAIN 0 = s.rd R.HALF_CFG_CAPTAIN 0) ∧
      (s.reducedDeclared = false → Does (.optCaptainSet m) s fun t => t.rd R.HALF_CFG_CAPTAIN 0 = s.req m 8 1 ∧ t.Answers m .ok []))

/-- What starts, advances and ends a calibration run and the first sweep, and what the CAL_ commands answer. RUN_START starts a run of its
quadrant once the first sweep has ended, is held while one is on, and does nothing before; the age trigger does the same when due; during
a takeover a start is kept for its end. A tile that is idle or has run SHARE products runs one slot of a roll call, or of a read-back, and none when neither is on. A round
measured has its tables built, of free values; a tile linear only below the least clip level is withdrawn, and the last round ends the
run, counted, with RUN_DONE. A tile that holds its new table exchanges banks at its swap point, and regardless with FORCED once
SWAP_WAIT has passed. The first sweep starts 1 s after firmware enters service, once, and ends with FIRST_DONE on every quadrant.
CAL_RUN starts the sweep or the runs, CAL_THRESH_SET a threshold between 80 and 150, CAL_SAVE sends the snapshot and CAL_RESTORE takes
one or refuses it; CAL_STATUS answers its registers. The round is stated for one tile that no job holds, with nothing to write or due;
the threshold for one that is not lowered. (R200, R202, R204, R205, R207, R213, R214, R216, R217, R219, R313) -/
def Obligations.CalibrationRuns : Prop :=
  ∀ s : State,
    let started (t : State) (q cause : Nat) : Prop := t.rd R.QCAL_STAT_STATE q = 1 ∧ t.rd R.QCAL_STAT_CAUSE q = cause
    (∀ q : Fin 8,
      (s.dutiesRun = true → s.rd R.CAL_STAT_FIRST 0 = 3 → s.rd R.QCAL_STAT_STATE q = 0 → Does (.runStart q) s (fun t => started t q 3) ∧
        (s.rd R.CAL_CFG_AGE_TRIG 0 ≠ 0 →
          s.passed (s.quad q).endAt (1000 * msec * s.rd R.CAL_CFG_AGE_TRIG 0) = true → Does (.calAgeTrigger q) s fun t => started t q 2)) ∧
      (s.dutiesRun = true → s.rd R.CAL_STAT_FIRST 0 = 3 → s.rd R.QCAL_STAT_STATE q ≠ 0 → Does (.runStart q) s fun t => 3 ∈ (t.quad q).held ∧
        t.on R.QCAL_STAT_PENDING q = true) ∧
      (s.dutiesRun = true → s.rd R.CAL_STAT_FIRST 0 ≠ 3 → s.rd R.QCAL_STAT_STATE q ≠ 2 → Does (.runStart q) s fun t => t = s) ∧
      (s.dutiesRun = false → Does (.runStart q) s fun t => t = s.setSup t.sup ∧ .run q.val 3 ∈ t.sup.waiting) ∧
      (s.rd R.CAL_CFG_AGE_TRIG 0 = 0 → Does (.calAgeTrigger q) s fun t => t = s) ∧
      (∀ tl : Fin 4096, quadOf tl = q.val → s.rd R.QCAL_STAT_STATE q = 1 → s.rd R.QCAL_STAT_ROUND q = 7 → (s.quad q).round = [tl.val] →
        (s.quad q).unswapped = [] → (s.quad q).held = [] → s.rd R.TCAL_STAT_TABLE tl = 1 → rollSlots ≤ (s.tile tl).calSlots →
        s.tileHeld tl = false → s.svc tl ≠ svcWithdrawn → s.writes = [] → s.homework = [] →
        Does (.roundBuild q none [⟨tl, [], [], 0, false⟩]) s fun t => t.freeIx = s.freeIx + 1 ∧ t.svc tl = svcWithdrawn ∧
          (∀ i < 276, t.tcalAt tl (1 - s.bankOf tl) i = Config.rollCall s.freeIx tl i) ∧ t.rd R.QCAL_STAT_STATE q = 0 ∧
          Counted s t R.QCAL_CNT_COUNT q ∧ t.on R.CAL_EVT_RUN_DONE 0 = true) ∧
      (∀ fs, s.rd R.QCAL_STAT_STATE q ≠ 1 → Does (.roundBuild q none fs) s fun t => t = s) ∧
      (∀ (tl : Fin 4096) fs, s.writeOf tl = none → Does (.roundBuild q (some tl) fs) s fun t => t = s)) ∧
    (∀ tl : Fin 4096,
      (s.busy tl = false ∨ s.share ≤ (s.tile tl).sinceCal →
        (s.rolling tl = true → Does (.calibrationSlot tl) s fun t => t.tile tl =
          { s.tile tl with calSlots := (s.tile tl).calSlots + 1, sinceCal := 0 }) ∧
        (s.rolling tl = false → s.reading tl = true → Does (.calibrationSlot tl) s fun t => t.tile tl =
          { s.tile tl with rbSlots := (s.tile tl).rbSlots + 1, sinceCal := 0 })) ∧
      (s.busy tl = true → (s.tile tl).sinceCal < s.share → Does (.calibrationSlot tl) s fun t => t = s) ∧
      (s.rolling tl = false → s.reading tl = false → Does (.calibrationSlot tl) s fun t => t = s) ∧
      (s.tileHolding tl = true → s.rd R.QCAL_STAT_STATE (quadOf tl) ≠ 1 →
        (s.swapPoint tl = true → Does (.tableSwap tl) s fun t => t.bankOf tl = 1 - s.bankOf tl ∧ t.rd R.TCAL_STAT_TABLE tl = 0 ∧
          (s.svc tl ≠ svcDue → s.svc tl ≠ svcHomework → s.svc tl ≠ svcCopy → t.on R.TCAL_STAT_STALE tl = false) ∧
          t.on R.TCAL_STAT_FORCED tl = false) ∧
        (s.swapPoint tl = false → s.passed (s.tile tl).holdAt (usec * s.swapWait tl) = true → Does (.tableSwapForced tl) s fun t =>
          t.bankOf tl = 1 - s.bankOf tl ∧ t.on R.TCAL_STAT_FORCED tl = true ∧ t.on R.CAL_EVT_FORCED 0 = true)) ∧
      (s.tileHolding tl = false ∨ s.swapPoint tl = false → Does (.tableSwap tl) s fun t => t = s) ∧
      (s.tileHolding tl = false ∨ s.passed (s.tile tl).holdAt (usec * s.swapWait tl) = false →
        Does (.tableSwapForced tl) s fun t => t = s)) ∧
    (∀ a, s.notStopped = true → s.boot.at_ = some a → s.passed a (1000 * msec) = true →
      (s.firstForm = 0 → Does .firstSweepTimer s fun t => t.firstForm = 1 ∧ t.rd R.CAL_STAT_FIRST 0 = 1 ∧
        ∀ q < 8, t.rd R.QCAL_STAT_STATE q = 2 ∧ t.rd R.QCAL_STAT_CAUSE q = 5) ∧
      (s.firstForm ≠ 0 → Does .firstSweepTimer s fun t => t = s)) ∧
    (s.boot.at_ = none ∨ s.notStopped = false → Does .firstSweepTimer s fun t => t = s) ∧
    (s.loadWait = none → ∀ fs,
      (s.firstForm = 3 → s.rewriting = false → Does (.firstSweepDone fs) s fun t => t.rd R.CAL_STAT_FIRST 0 = 3 ∧
        t.rd R.CAL_STAT_Q_DONE 0 = 255 ∧ t.on R.CAL_EVT_FIRST_DONE 0 = true) ∧
      (s.firstForm = 0 ∨ s.firstForm = 4 → Does (.firstSweepDone fs) s fun t => t = s)) ∧
    (∀ m : Fin 16,
      (s.begins m 0x0301 s.notStopped true true = true →
        (s.firstForm = 0 → Does (.calRun m) s fun t => t.Answers m .ok [] ∧ t.firstForm = 1) ∧
        (s.firstForm ≠ 0 → Does (.calRun m) s fun t => t.Answers m .ok [] ∧ (s.rd R.CAL_STAT_FIRST 0 = 3 → ∀ q < 8,
          s.req m 8 1 / 2 ^ q % 2 = 1 → s.rd R.QCAL_STAT_STATE q = 0 → started t q 3))) ∧
      (s.begins m 0x0302 true true true = true → let v := s.req m 8 2
        (v < 80 ∨ 150 < v → Does (.calThreshSet m) s fun t => t.Answers m .tolerance [] ∧ t.thresh = s.thresh) ∧
        (80 ≤ v → v ≤ 150 → s.thresh ≤ v → (∀ j < 16, (s.job j).admitted = true → v ≤ (s.job j).hdr.reqXbar) →
          Does (.calThreshSet m) s fun t => t.Answers m .ok [] ∧ t.thresh = v)) ∧
      (s.begins m 0x0303 s.notStopped (s.calPortOk m) true = true →
        (s.firstForm = 4 → Does (.calSave m) s fun t => t.mbState m = mbRunning ∧ ∃ ps, ps ≠ [] ∧ t.recQ = s.recQ ++ ps) ∧
        (s.firstForm ≠ 4 → Does (.calSave m) s fun t => t.Answers m .calState [] ∧ t.recQ = s.recQ)) ∧
      (s.begins m 0x0304 s.notStopped true true = true → Does (.calRestore m) s fun t => match s.restoreRefusal (s.req m 8 4) with
        | some st => t.Answers m st [] ∧ t.tcal = s.tcal
        | none => t.Answers m .ok [] ∧ t.firstForm = 2 ∧ t.on R.CAL_STAT_RESTORED 0 = true) ∧
      (s.begins m 0x0305 true true (s.req m 8 1 % 2 == 0) = true → Does (.calStatus m) s fun t => t.Answers m .ok
        (leBytes 2 s.thresh ++ leBytes 2 0 ++ leBytes 4 (s.word (R.HW_STAT.key 0 0)).toNat ++ s.quadStatus (s.req m 8 1) ++
          s.quadStatus (s.req m 8 1 + 1))))

/-- How a tile is written, read back and moved to its copy. Write–verify of the request its quadrant serves next begins when its shard's
digest holds in the store, else the shard is given up with STORE_BAD; with none waiting, or in an orderly stop, nothing begins. At its
end the cells, the programme count, the reference and the error of the tile are recorded and the tile goes on to its read-back. A read-
back that has run its slots is counted, and what it read is encoded and compared with the shard's digest; without mismatch the tile awaits its roll call, which begins at once outside a run of its
quadrant, with one it is written again once. RB_PERIOD starts a read-back of every tile that holds a shard, in the quadrants that have
none on. The jobs of a due tile whose copy stands move to it between batches, or once SWAP_WAIT has passed, and the tile is rewritten. Without a request, a read-back
or homework none of them changes anything. The end of a write and of a read-back are stated for a single tile whose request is not of a
loading. (R211, R234, R235, R236, R237, R247, R251, R252,
R389) -/
def Obligations.TilesAreWritten : Prop :=
  ∀ s : State,
    (∀ q : Fin 8,
      (∀ w b, s.rd R.PWR_STAT_STATE 0 ≠ 2 → s.nextWrite q = some w → s.writing q + (span w.tile w.pair).length ≤ 64 →
        s.shardIn w.slot w.no = some b → (w.use = .rewrite → s.hw w.tile = none) → Does (.writeVerifyStart q) s fun t =>
          (shDigestOk b (mfDigest (s.slot w.slot).manifest w.no) = true →
            t.writes = s.writes.map fun x => if x.tile == w.tile then { x with st := 1 } else x) ∧
          (shDigestOk b (mfDigest (s.slot w.slot).manifest w.no) = false →
            w.use = .rewrite ∨ (∃ c, w.use = .copy c ∧ s.hw c = none) →
            t.writes = (s.writes.filter fun x => x.tile != w.tile) ∧ t.on R.WSET_EVT_STORE_BAD 0 = true)) ∧
      (s.nextWrite q = none ∨ s.rd R.PWR_STAT_STATE 0 = 2 → Does (.writeVerifyStart q) s fun t => t = s)) ∧
    (∀ (tl : Fin 4096) (m l : WriteMeas),
      (∀ w b, s.writes.find? (fun w => w.tile == tl.val && w.st == 1) = some w → w.pair = false → s.shardIn w.slot w.no = some b →
        m.failed = [] → (∀ j, w.use ≠ .load j) → Does (.writeVerifyDone tl m l) s fun t =>
          t.cellsOf tl = { shardCells b with spares := (List.range 16).map fun n => s.word (R.SPARE_MAP.key tl n) } ∧
          Counted s t R.PGM_CNT_COUNT tl ∧ t.rd R.TCAL_PROG_PROG_REF tl = m.progRef % 65536 ∧ (t.occOf tl).digest = shDigest b ∧
          t.writes = s.writes.map fun x => if x.tile == w.tile then { x with st := 2 } else x) ∧
      (s.writes.find? (fun w => w.tile == tl.val && w.st == 1) = none → Does (.writeVerifyDone tl m l) s fun t => t = s)) ∧
    (∀ (tl : Fin 4096) (cells low : List CellRead),
      (∀ w, s.writes.find? (fun w => w.tile == tl.val && w.st == 2) = some w → w.pair = false → readSlots ≤ (s.tile tl).rbSlots →
        w.tries = 0 → (∀ j, w.use ≠ .load j) →
        (s.mismatch tl cells = false → Does (.readbackDone tl cells low) s fun t => Counted s t R.RB_CNT_COUNT 0 ∧
          (s.rd R.QCAL_STAT_STATE (quadOf tl) ≠ 1 → t.rd R.TCAL_STAT_TABLE tl = 1) ∧
          t.writes = s.writes.map fun x => if x.tile == w.tile then { x with st := 3 } else x) ∧
        (s.mismatch tl cells = true → Does (.readbackDone tl cells low) s fun t => Counted s t R.RB_CNT_COUNT 0 ∧ Counted s t R.RB_FAIL_CNT_COUNT 0 ∧
          t.rd R.RB_LAST_TILE 0 = tl ∧ t.on R.WSET_EVT_RB_FAIL 0 = true ∧
          t.writes = s.writes.map fun x => if x.tile == tl.val then { x with st := 0, tries := 1 } else x)) ∧
      (s.writes.find? (fun w => w.tile == tl.val && w.st == 2) = none → tl.val ∉ s.rbNow (quadOf tl) →
        Does (.readbackDone tl cells low) s fun t => t = s)) ∧
    (s.dutiesRun = true → s.on R.WSET_CFG_RB_EN 0 = true →
      s.passed s.readbackAt (60000 * msec * max 1 (s.rd R.WSET_CFG_RB_PERIOD 0)) = true → s.rd R.CAL_STAT_FIRST 0 = 3 →
      Does .periodicReadback s fun t => t.readbackAt = s.now ∧ ∀ q < 8, (t.quad q).readback =
        if s.rbNow q = [] then (tilesOf q).filter s.holdsShard else (s.quad q).readback) ∧
    (s.on R.WSET_CFG_RB_EN 0 = false → Does .periodicReadback s fun t => t = s) ∧
    (∀ (tl : Fin 4096) h c, s.homework = [h] → h.tile = tl.val → h.pair = false → h.step = 2 → h.copy = some c → c ≠ tl.val →
      h.lost = false → s.dutiesRun = true → s.movePoint h = true ∨ s.moveLate h = true → Does (.copyMove tl) s fun t => t.svc tl = svcHomework ∧
        t.homework = [{ h with step := 3 }] ∧ ∀ j < 16, ∀ p ∈ (t.job j).placed, p.tile ≠ tl.val) ∧
    (∀ (tl : Fin 4096) h, s.homework = [h] → s.dutiesRun = false ∨ (s.movePoint h = false ∧ s.moveLate h = false) →
      Does (.copyMove tl) s fun t => t = s) ∧
    (∀ tl : Fin 4096, (∀ h ∈ s.homework, tl.val ∉ span h.tile h.pair) → Does (.copyMove tl) s fun t => t = s)

/-- How bulk arms, frames and slots of the golden store behave. STREAM_BULK_ARM sets the lowest free arm on a range of the bulk region, is
refused with BULK_BUSY while no arm or the port or range is not free, and with BULK_RANGE outside the region; DISARM clears an arm that
receives no frame, and is refused during one. A frame of one good packet within its limit is stored at the arm's address, becomes a
range held, and ends the arm; a bad packet is counted and nothing is stored; a port without an arm sets BULK_UNARMED, and one that takes
no packets does nothing. Packet by packet on virtual channel 15 the same holds: a Frame Start opens the arm's frame, each good packet of
data type 0x37 joins its bytes, and its Frame End stores them. WSET_BEGIN arms a free slot, WSET_COMMIT holds a complete set with SET_HELD and names no set with a shard
absent, WSET_DELETE erases a slot no job uses, and each refuses a slot in another state; an erased slot is free and answers its command;
a shard written stands in its slot. WSET_LIST answers four entries. (R229, R230, R231, R232, R233, R272, R273, R274, R312, R315) -/
def Obligations.WeightSetsAreReceived : Prop :=
  ∀ s : State,
    (∀ m : Fin 16,
      (s.begins m 0x0501 true (s.rxClock (s.req m 8 1)) true = true →
        let port := s.req m 8 1
        let addr := s.req m 0x0C 4
        let limit := s.req m 0x10 4
        (s.armsBusy port = true ∨ s.rangeBusy addr limit = true → Does (.streamBulkArm m) s fun t => t.Answers m .bulkBusy [] ∧
          t.arms = s.arms) ∧
        (s.armsBusy port = false → s.rangeBusy addr limit = false →
          (addr < 0x01400000 ∨ 0x02000000 < addr + limit → Does (.streamBulkArm m) s fun t => t.Answers m .bulkRange [] ∧ t.arms = s.arms) ∧
          (0x01400000 ≤ addr → addr + limit ≤ 0x02000000 → Does (.streamBulkArm m) s fun t => t.Answers m .ok (leBytes 1 s.armFree) ∧
            t.arm s.armFree = ⟨true, port, s.req m 9 1, addr, limit, 0, 0, false, 0, [], []⟩))) ∧
      (s.begins m 0x0502 true true true = true → let a := s.arm (s.req m 8 1)
        (a.set = true → a.inFrame = true → Does (.streamBulkDisarm m) s fun t => t.Answers m .bulkBusy [] ∧ t.arms = s.arms) ∧
        (a.set = true → a.inFrame = false → a.purpose ≠ 5 → Does (.streamBulkDisarm m) s fun t => t.Answers m .ok [] ∧
          (t.arm (s.req m 8 1)).set = false)) ∧
      (s.begins m 0x0201 true (s.rxClock (s.req m 0x0A 1)) true = true → let n := s.req m 8 1
        ((s.slot n).st ≠ 0 → Does (.wsetBegin m) s fun t => t.Answers m .slotState [] ∧ t.arms = s.arms) ∧
        ((s.slot n).st = 0 → s.armsBusy (s.req m 0x0A 1) = false →
          (∀ k < 4, (s.arm k).set = true → (s.arm k).purpose = 4 → (s.arm k).slot ≠ n) → Does (.wsetBegin m) s fun t =>
            t.Answers m .ok (leBytes 1 s.armFree) ∧ (t.arm s.armFree).set = true ∧ (t.arm s.armFree).purpose = 4 ∧
            (t.arm s.armFree).slot = n ∧ (t.arm s.armFree).port = s.req m 0x0A 1)) ∧
      (s.begins m 0x0202 true true true = true → let n := s.req m 8 1
        ((s.slot n).st ≠ 1 → Does (.wsetCommit m) s fun t => t.Answers m .slotState [] ∧ t.store = s.store) ∧
        ((s.slot n).st = 1 → (s.slot n).absent = none → Does (.wsetCommit m) s fun t => t.Answers m .ok [] ∧
          t.slot n = { s.slot n with st := 2 } ∧ t.on R.WSET_EVT_SET_HELD 0 = true) ∧
        (∀ e, (s.slot n).st = 1 → (s.slot n).absent = some e → Does (.wsetCommit m) s fun t => t.Answers m .wsetMissing [] ∧
          t.store = s.store)) ∧
      (s.begins m 0x0203 true true true = true → let n := s.req m 8 1
        ((s.slot n).st = 0 ∨ (s.slot n).st = 3 → Does (.wsetDelete m) s fun t => t.Answers m .slotState [] ∧ t.store = s.store) ∧
        ((s.slot n).st = 1 ∨ (s.slot n).st = 2 →
          ((∃ j < 16, s.usesSlot j n = true) → Does (.wsetDelete m) s fun t => t.Answers m .wsetInUse [] ∧ t.store = s.store) ∧
          ((∀ j < 16, s.usesSlot j n = false) → Does (.wsetDelete m) s fun t => (t.slot n).st = 3 ∧ t.mbState m = mbRunning))) ∧
      (s.begins m 0x0204 true true true = true → Does (.wsetList m) s fun t => t.Answers m .ok
        ((((List.range 8).drop (s.req m 8 1)).take 4).flatMap s.slotEntry) ∧ t.store = s.store)) ∧
    (∀ (p : Fin 12) (trunc : Bool),
      (s.rxOn p = false → ∀ pkts, Does (.bulkFrame p pkts trunc) s fun t => t = s) ∧
      (s.rxOn p = true → s.armFor p = none → ∀ pkts, Does (.bulkFrame p pkts trunc) s fun t => t.on R.RX_EVT_BULK_UNARMED 0 = true ∧
        t.rd R.RX_EVT_PORT 0 = p ∧ t.staging = s.staging) ∧
      (∀ k, s.rxOn p = true → s.armFor p = some k → (s.arm k).inFrame = false → Does (.frameStart p 15 .good) s fun t =>
        (t.arm k).inFrame = true ∧ (t.arm k).data = [] ∧ t.rd R.BULK_STAT_BYTES k = 0 ∧ t.staging = s.staging) ∧
      (∀ k, s.rxOn p = true → s.armFor p = some k → (s.arm k).purpose ≤ 3 → (s.arm k).limit < 2 ^ 24 → (s.arm k).inFrame = true →
        (s.arm k).outcome = 0 → let got := s.rd R.BULK_STAT_BYTES k
        (∀ (pix : List Nat) (ph : Fin 4), got + pix.length ≤ (s.arm k).limit → Does (.longPacket p 15 ⟨.good, ph⟩ 0x37 true true pix) s
          fun t => (t.arm k).data = (s.arm k).data ++ pix.map (BitVec.ofNat 8) ∧ t.rd R.BULK_STAT_BYTES k = got + pix.length ∧
            (t.arm k).inFrame = true ∧ t.staging = s.staging) ∧
        Does (.frameEnd p 15 .good) s (fun t => t.stBytes (s.arm k).addr (s.arm k).data.length = (s.arm k).data ∧
          t.bulk = s.bulk ++ [⟨(s.arm k).addr, (s.arm k).limit, got, (s.arm k).purpose, 0, 0⟩] ∧ (t.arm k).set = false)) ∧
      (∀ k b, s.rxOn p = true → s.armFor p = some k → (s.arm k).purpose ≤ 3 → (s.arm k).inFrame = false → (s.arm k).limit < 2 ^ 24 →
        (b.length ≤ (s.arm k).limit → Does (.bulkFrame p [(b, true)] false) s fun t => t.stBytes (s.arm k).addr b.length = b ∧
          t.bulk = s.bulk ++ [⟨(s.arm k).addr, (s.arm k).limit, b.length, (s.arm k).purpose, 0, 0⟩] ∧ (t.arm k).set = false ∧
          ∀ a, a < (s.arm k).addr ∨ (s.arm k).addr + b.length ≤ a → t.stByte a = s.stByte a) ∧
        Does (.bulkFrame p [(b, false)] false) s (fun t => t.staging = s.staging ∧ t.bulk = s.bulk ∧ (t.arm k).set = (s.arm k).set ∧
          t.on R.RX_EVT_CRC_ERR 0 = true))) ∧
    (∀ (n : Fin 8) (no : Fin 65536),
      (∀ r, s.bulk.find? (fun r => r.purpose == 5 && r.slot == n.val && r.shard == no.val) = some r → Does (.shardWritten n no) s fun t =>
        t.bulk = s.bulk.erase r ∧ (t.slot n).shards = (s.slot n).shards ++ [(no.val, s.stBytes r.addr r.len)]) ∧
      (s.bulk.find? (fun r => r.purpose == 5 && r.slot == n.val && r.shard == no.val) = none → Does (.shardWritten n no) s fun t => t = s)) ∧
    (∀ n : Fin 8,
      ((s.slot n).st = 3 → Does (.eraseDone n) s fun t => t.slot n = StoreSlot.free ∧
        ∀ m, s.runningWith 0x0203 n = some m → m < 16 → t.Answers m .ok []) ∧
      ((s.slot n).st ≠ 3 → Does (.eraseDone n) s fun t => t = s))

/-- How a set is staged, its bell rung and a staging given up. WSET_STAGE is refused for a job not admitted, a slot that holds no set, a set
of another shape and a staging or drain on; a set that changes nothing the job uses is READY at once. WSET_RING on a READY staging rings
the bell outside the cutting of a batch, else when the batch is cut; on one being built it asks for the bell at READY; without one it is
refused. The bell advances the generation by one modulo 16 and the old one drains; it strikes once the cut has ended, and not before.
WSET_ABORT ends a staging not yet rung. WSET_STATUS answers the register of the job and the copies pending. (R242, R243, R245, R246,
R249, R250, R312) -/
def Obligations.WeightSetsAreStaged : Prop :=
  ∀ s : State,
    (∀ j : Fin 16,
      ((s.job j).bellDue = true → s.cutting j = false → s.batchesOfGen j (s.rd R.WSET_JOB_GEN j) ≠ [] → Does (.bell j) s fun t =>
        t.rd R.WSET_JOB_GEN j = (s.rd R.WSET_JOB_GEN j + 1) % 16 ∧ t.rd R.WSET_JOB_STAGE j = 3 ∧ t.on R.WSET_EVT_BELL 0 = true ∧
        (t.job j).bellDue = false) ∧
      ((s.job j).bellDue = false ∨ s.cutting j = true → Does (.bell j) s fun t => t = s)) ∧
    (∀ m : Fin 16, let j := s.req m 8 1
      let stage := s.rd R.WSET_JOB_STAGE j
      let g := leBytes 1 ((s.rd R.WSET_JOB_GEN j + 1) % 16)
      (s.begins m 0x0205 s.notStopped true true = true → let n := s.req m 9 1
        let cur := s.rd R.WSET_JOB_SLOT j
        ((s.job j).admitted = false → Does (.wsetStage m) s fun t => t.Answers m .jobState [] ∧ t.rd R.WSET_JOB_STAGE j = stage) ∧
        ((s.job j).admitted = true →
          ((s.slot n).st ≠ 2 → Does (.wsetStage m) s fun t => t.Answers m .wsetMissing [] ∧ t.rd R.WSET_JOB_STAGE j = stage) ∧
          ((s.slot n).st = 2 →
            (s.sameShape j cur n = false → Does (.wsetStage m) s fun t => t.Answers m .wsetShape [] ∧ t.rd R.WSET_JOB_STAGE j = stage) ∧
            (s.sameShape j cur n = true → s.stagingOn j = true → Does (.wsetStage m) s fun t => t.Answers m .wsetBusy [] ∧
              t.rd R.WSET_JOB_STAGE j = stage) ∧
            (s.sameShape j cur n = true → s.stagingOn j = false → (∀ x, s.changed j cur n x = false) → s.req m 0x0A 1 = 0 →
              Does (.wsetStage m) s fun t => t.Answers m .ok [0, 0, 0] ∧ t.rd R.WSET_JOB_STAGE j = 2 ∧
                t.rd R.WSET_JOB_NEW_SLOT j = n ∧ t.on R.WSET_EVT_READY 0 = true)))) ∧
      (s.begins m 0x0206 s.notStopped true true = true →
        (stage = 2 → s.cutting j = false → Does (.wsetRing m) s fun t => t.Answers m .ok (leBytes 1 1 ++ g) ∧
          t.rd R.WSET_JOB_GEN j = (s.rd R.WSET_JOB_GEN j + 1) % 16 ∧ t.on R.WSET_EVT_BELL 0 = true) ∧
        (stage = 2 → s.cutting j = true → Does (.wsetRing m) s fun t => t.Answers m .ok (leBytes 1 1 ++ g) ∧ (t.job j).bellDue = true ∧
          t.rd R.WSET_JOB_GEN j = s.rd R.WSET_JOB_GEN j) ∧
        (stage = 1 → Does (.wsetRing m) s fun t => t.Answers m .ok (leBytes 1 0 ++ g) ∧ (t.stage j).ring = true) ∧
        (stage ≠ 1 → stage ≠ 2 → Does (.wsetRing m) s fun t => t.Answers m .stageNone [] ∧ t.jobs = s.jobs)) ∧
      (s.begins m 0x0207 true true true = true →
        (stage = 3 → Does (.wsetAbort m) s fun t => t.Answers m .wsetBusy [] ∧ t.rd R.WSET_JOB_STAGE j = 3) ∧
        (stage = 1 ∨ stage = 2 → s.runningWith 0x0105 j = none → Does (.wsetAbort m) s fun t => t.Answers m .ok [] ∧
          t.rd R.WSET_JOB_STAGE j = 0 ∧ t.stage j = WStage.none) ∧
        (stage = 0 ∨ stage = 4 → Does (.wsetAbort m) s fun t => t.Answers m .stageNone [] ∧ t.stages = s.stages)) ∧
      (s.begins m 0x0208 true true true = true → Does (.wsetStatus m) s fun t => t.Answers m .ok
        (leBytes 4 (s.word (R.WSET_JOB.key j 0)).toNat ++ leBytes 2 (s.copiesPending j)) ∧ t.stages = s.stages))

/-- What the JOB_ commands and CAPS_GET do and answer. JOB_LOAD waits for the first sweep, and starts it when none has run; once it has
ended, a request without a mesh in one half that fails a check is answered with the status of the first that fails, and one with every
resource is given its number, its header and its streams and is loading, or LOADED when nothing is left to write. JOB_START binds the
streams of a LOADED job and makes it RUNNING, or WARMING with NB_BATCHES; JOB_STOP of a running job with batches in flight lets them
end, and without any makes it LOADED; JOB_UNLOAD makes a LOADED job EMPTY; JOB_GRADE sets a grade the image declares when no matrix
changes; each refuses a job in another state. JOB_STATUS and CAPS_GET answer their data. The start is stated for healthy halves and clusters, the
stop for the only command under way. (R33, R35, R39, R40, R41, R44, R45, R54, R266, R311) -/
def Obligations.JobsAreLoadedAndRun : Prop :=
  ∀ (s : State) (m : Fin 16), let j := s.req m 8 1
    (∀ sec : Section, s.begins m 0x0101 s.notStopped true (s.loadBad m).isNone = true →
      (s.firstForm ≠ 4 → Does (.jobLoad m sec) s fun t => t.loadWait = some (m.val, sec) ∧ t.mbState m = mbRunning ∧
        t.firstForm = if s.firstForm = 0 then 1 else s.firstForm) ∧
      (s.firstForm = 4 → s.loadOptical m sec = false → let h := imageHdr (s.stBytes (s.req m 8 4) 64)
        Does (.jobLoad m sec) s fun t => (∀ st d, s.loadRefusal m sec = some (st, d) → t.Answers m st [] ∧ t.jobs = s.jobs) ∧
          ∀ n slot p, s.loadRefusal m sec = none → s.loadJob m = some n → s.slotOf h.wsetId = some slot →
            s.loadPlan h sec slot = .inr p → (t.job n).hdr = h ∧ (t.job n).streams = s.loadStreams m ∧
              ((t.job n).loading = true ∨ (t.job n).st = .loaded))) ∧
    (s.begins m 0x0102 s.notStopped true true = true →
      ((s.job j).st ≠ .loaded → Does (.jobStart m) s fun t => t.Answers m .jobState [] ∧ t.jobs = s.jobs) ∧
      ((s.job j).st = .loaded → s.outUnmapped j = true → Does (.jobStart m) s fun t => t.Answers m .outUnmapped [] ∧ t.jobs = s.jobs) ∧
      ((s.job j).st = .loaded → s.outUnmapped j = false → (s.half 0).failed = false → (s.half 1).failed = false → s.split = false →
        (∀ c ∈ s.cluOut, c ∉ (s.job j).clusters) →
        Does (.jobStart m) s fun t => t.Answers m .ok [] ∧
          (t.job j).st = (if (s.job j).hdr.nbBatches = 0 then .running else .warming) ∧
          ∀ st ∈ (s.job j).streams, (t.bind j st).bound = true ∧ (t.bind j st).next = 0 ∧
            (t.bind j st).nbLeft = (s.job j).hdr.nbBatches)) ∧
    (s.begins m 0x0103 true true true = true →
      ((s.job j).started = false → Does (.jobStop m) s fun t => t.Answers m .jobState [] ∧ t.jobs = s.jobs) ∧
      ((s.job j).started = true → (s.job j).restart = none →
        ((∃ b ∈ s.batches, b.job = j) → Does (.jobStop m) s fun t => (t.job j).stopping = true ∧ t.mbState m = mbRunning ∧
          ∀ st < 48, (t.bind j st).bound = false) ∧
        (s.mbxOrder = [m.val] → (∀ b ∈ s.batches, b.job ≠ j) → Does (.jobStop m) s fun t => (t.job j).st = .loaded ∧
          t.Answers m .ok []))) ∧
    (s.begins m 0x0104 true true true = true →
      ((s.job j).st ≠ .loaded → Does (.jobUnload m) s fun t => t.Answers m .jobState [] ∧ t.jobs = s.jobs) ∧
      ((s.job j).st = .loaded → Does (.jobUnload m) s fun t => t.Answers m .ok [] ∧ (t.job j).st = .empty)) ∧
    (s.begins m 0x0105 s.notStopped true true = true → let g := s.req m 9 1
      ((s.job j).admitted = false → Does (.jobGrade m) s fun t => t.Answers m .jobState [] ∧ t.jobs = s.jobs) ∧
      ((s.job j).admitted = true → (s.job j).declares g = false → Does (.jobGrade m) s fun t => t.Answers m .badParam [] ∧
        t.jobs = s.jobs) ∧
      ((s.job j).admitted = true → (s.job j).declares g = true → s.gradeChips j g = [] → Does (.jobGrade m) s fun t =>
        t.Answers m .ok [] ∧ (t.job j).grade = g)) ∧
    (s.begins m 0x0106 true true true = true → Does (.jobStatus m) s fun t => t.Answers m .ok (s.statusData j) ∧ t.jobs = s.jobs) ∧
    (s.begins m 0x0001 true true true = true → Does (.capsGet m) s fun t => t.Answers m .ok ((descriptor.drop (s.req m 8 1)).take 56) ∧
      t.jobs = s.jobs)

/-- How oscillators, loops and the switches of the reference behave. A crystal that stops without being the reference disturbs no loop; one
that is, while RC/4 is not ready, leaves a deferred switch. An RC oscillator that stops is restarted and, as the reference, leaves every
loop coasting; ready again it shows, and ends the clock-fault state. A ratio window within 5 cycles of 10,000 counts toward ten in a row
that judge the crystal good; the second outside in a row sets RATIO_ERR while the crystal is the reference. 1.5 ms without a good
crystal takes RC/4. A switch to RC/4 completes, counted, while that is ready and is deferred otherwise, a return completes while the
crystal runs; neither ends, with a clock stopped, within 32 cycles. A loop with a reference locks and only it; one that loses lock while it is sound sets LOCK_LOSS. 2 ms without a reference
and without RC/4 is the clock-fault state, which halts dispatch and clears the plant outputs. RETURN begins the return to a good
crystal. Without their conditions none of them changes anything. The recovery from the fault state is stated with no job started. (R359,
R360, R361, R362, R363, R365, R366, R367, R369, R371) -/
def Obligations.ClocksAreJudged : Prop :=
  ∀ s : State,
    (s.xtalActive = false → Does .crystalStop s fun t => t = s) ∧
    (s.xtalActive = true →
      Does .crystalStop s (fun t => t.xtalActive = false ∧ t.xtalGood = false) ∧
      (s.onRc = true ∨ s.clk.fed = false → Does .crystalStop s fun t => ∀ l < 8, t.loopLocked l = s.loopLocked l) ∧
      (s.onRc = false → s.clk.fed = true → s.rcReady = false → Does .crystalStop s fun t => t.on R.CLK_EVT_DEFERRED 0 = true)) ∧
    (s.rcReady = false → Does .rcStop s fun t => t = s) ∧
    (s.rcReady = true → Does .rcStop s (fun t => t.rcReady = false ∧ t.on R.CLK_EVT_RC_RESTART 0 = true ∧
        t.clk.rcLostAt = some s.now ∧ (s.onRc = true → s.clk.fed = true → ∀ l < 8, t.loopLocked l = false)) ∧
      Does .rcReady s (fun t => t = s)) ∧
    (s.rcReady = false → (∀ j < 16, (s.job j).started = false) → Does .rcReady s fun t => t.rcReady = true ∧
      (s.on R.CLK_STAT_FAULT 0 = true → t.on R.CLK_STAT_FAULT 0 = false ∧ t.on R.CLK_EVT_FAULT_OUT 0 = true) ∧
      (s.clk.fed = false → s.clk.mux = .none → s.onRc = false → s.clk.tripAt.isSome = true → t.clk.mux = .toRc)) ∧
    (∀ n : Nat,
      (s.rcReady = false → Does (.ratioWindow n) s fun t => t = s) ∧
      (s.rcReady = true → 9995 ≤ n → n ≤ 10005 → Does (.ratioWindow n) s fun t => t.xtalActive = true ∧
        (s.clk.good + 1 < 10 → t.clk.good = s.clk.good + 1 ∧ t.clk.bad = 0) ∧ (10 ≤ s.clk.good + 1 → t.xtalGood = true)) ∧
      (s.rcReady = true → n < 9995 ∨ 10005 < n → Does (.ratioWindow n) s fun t => t.xtalGood = false ∧ t.clk.good = 0 ∧
        t.clk.bad = s.clk.bad + 1 ∧ (s.clk.bad = 1 → s.onRc = false → s.clk.fed = true → t.on R.CLK_EVT_RATIO_ERR 0 = true))) ∧
    (s.clk.judged = true ∨ s.now < 1500 * usec → Does .startDeadline s fun t => t = s) ∧
    (s.clk.judged = false → 1500 * usec ≤ s.now → Does .startDeadline s fun t => t.clk.judged = true ∧
      (s.rcReady = true → t.clk.mux = .toRc ∧ t.on R.CLK_EVT_XTAL_FAIL 0 = true ∧ t.on R.SYS_EVT_CLK_SWITCH 0 = true)) ∧
    (s.clk.mux = .none → Does (.muxSwitchDone false) s fun t => t = s) ∧
    (s.muxReady = false → Does (.muxSwitchDone false) s fun t => t = s) ∧
    (s.clk.mux = .toRc → s.muxReady = true →
      (s.rcReady = true → Does (.muxSwitchDone false) s fun t => t.clk.mux = .none ∧ t.clk.fed = true ∧
        Counted s t R.CLK_SW_CNT_SWITCHES 0) ∧
      (s.rcReady = false → Does (.muxSwitchDone false) s fun t => t.on R.CLK_EVT_DEFERRED 0 = true ∧ t.clk.mux = .none ∧
        t.onRc = s.onRc ∧ t.clk.fed = s.clk.fed)) ∧
    (s.clk.mux = .toCrystal → s.muxReady = true →
      (s.xtalActive = true → Does (.muxSwitchDone false) s fun t => t.onRc = false ∧ t.clk.mux = .none ∧
        t.on R.CLK_EVT_RETURNED 0 = true) ∧
      (s.xtalActive = false → Does (.muxSwitchDone false) s fun t => t.on R.CLK_EVT_RETURN_FAIL 0 = true ∧ t.clk.mux = .none ∧
        t.onRc = s.onRc)) ∧
    (s.clk.obs = false → Does (.muxSwitchDone true) s fun t => t = s) ∧
    (s.clk.obs = true → s.obsRuns (s.rd R.CLK_OBS_CFG_SRC 0) = true → Does (.muxSwitchDone true) s fun t => t.clk.obs = false ∧
      t.forceWord (R.CLK_OBS_CFG.key 0 0) = s.word (R.CLK_OBS_CFG.key 0 0) ∧ (s.rd R.CLK_OBS_CFG_SRC 0 ≤ 10 → s.on R.CLK_EN_OBS 0 = true →
        t.obsPad = some (s.rd R.CLK_OBS_CFG_SRC 0, obsPrescaler (s.rd R.CLK_OBS_CFG_SRC 0) * (s.rd R.CLK_OBS_CFG_DIV 0 + 1)))) ∧
    (∀ l : Fin 8,
      (s.loopLocked l = false → s.clk.fed = true → Does (.loopLocked l) s fun t => ∀ i : Fin 8,
        t.loopLocked i = (s.loopLocked i || i == l)) ∧
      (s.loopLocked l = true ∨ s.clk.fed = false → Does (.loopLocked l) s fun t => t = s) ∧
      (s.loopLocked l = true → s.clk.fed = true → Does (.lockLoss l) s fun t => t.on R.CLK_EVT_LOCK_LOSS 0 = true ∧ ∀ i : Fin 8,
        t.loopLocked i = (s.loopLocked i && i != l)) ∧
      (s.loopLocked l = false ∨ s.clk.fed = false → Does (.lockLoss l) s fun t => t = s)) ∧
    (let from_ := s.clk.tripAt.getD (s.clk.rcLostAt.getD s.now);
      (s.on R.CLK_STAT_FAULT 0 = false → s.clk.fed = false → s.rcReady = false → s.passed from_ (2 * msec) = true →
        Does .clockFaultEntry s fun t => t.on R.CLK_STAT_FAULT 0 = true ∧ t.on R.CLK_EVT_FAULT_IN 0 = true ∧ t.halt = true ∧
          t.on R.PLANT_STAT_CLEARED 0 = true ∧ t.rd R.PLANT_STAT_CAUSE 0 = 2) ∧
      (s.on R.CLK_STAT_FAULT 0 = true ∨ s.clk.fed = true ∨ s.rcReady = true ∨ s.passed from_ (2 * msec) = false →
        Does .clockFaultEntry s fun t => t = s)) ∧
    (s.xtalGood = true → s.onRc = true → s.clk.mux = .none → Does .clkCfgReturn s fun t => t.clk.mux = .toCrystal ∧
      t.on R.CLK_STAT_SWITCHING 0 = true) ∧
    (s.xtalGood = false ∨ s.onRc = false ∨ s.clk.mux ≠ .none → Does .clkCfgReturn s fun t => t = s)

/-- How the module leaves reset and boots, and what the SEC_ commands and the debug port do. The release of power-on reset keeps the golden
store, the firmware store, the cells of the tiles and their occupancy records, empties every job, and checks the preferred bank first. A
bank whose image stands enters service with its version and the protection locked, with FALLBACK when it is not the preferred one; a
bank that fails gives way to the next, and after the recovery bank to none. Firmware enters service with BOOT_DONE and a substitute
still down. A locked debug port refuses all but boundary scan with DEBUG_ATTEMPT. SEC_ID_GET and SEC_ATTEST write their record and
answer where it stands, the latter counted; SEC_FW_LOAD is refused with a substitute that does not follow, and otherwise refused by the
first check that fails or written to the bank not in service. Before their time these boot commands change nothing. (R309, R317, R325,
R344, R345, R346, R348, R349, R350, R351, R353, R354) -/
def Obligations.BootAndIdentity : Prop :=
  ∀ s : State,
    (∀ ok : Bool, Does (.powerOnReset ok) s fun t => t.boot.phase = 1 ∧ t.boot.bank = s.fw.preferred ∧ t.store = s.store ∧ t.fw = s.fw ∧
      t.cells = s.cells ∧ t.occ = s.occ ∧ t.jobs = [] ∧ t.staging = [] ∧ t.on R.BOOT_INFO_BOOT_SUP 0 = !ok) ∧
    (∀ found,
      (s.boot.phase ≠ 1 → Does (.bankCheckDone found) s fun t => t = s) ∧
      (s.boot.phase = 1 →
        (∀ i, s.bankBoots s.boot.bank found = some i → Does (.bankCheckDone found) s fun t => t.boot.phase = 2 ∧ t.boot.act = i ∧
          t.rd R.SEC_STAT_BANK_ACT 0 = s.boot.bank % 4 ∧ t.rd R.FW_VER_ACT_VERSION 0 = i.version % 2 ^ 32 ∧
          t.on R.PROT_STAT_LOCKED 0 = true ∧ (s.boot.bank ≠ s.fw.preferred → t.on R.SEC_EVT_FALLBACK 0 = true)) ∧
        (s.bankBoots s.boot.bank found = none →
          (∀ n, nextBank s.fw.preferred s.boot.bank = some n → Does (.bankCheckDone found) s fun t => t.boot.bank = n ∧
            t.boot.phase = 1 ∧ t.boot.failed = s.boot.failed ++ [s.boot.bank]) ∧
          (nextBank s.fw.preferred s.boot.bank = none → Does (.bankCheckDone found) s fun t => t.boot.phase = 4)))) ∧
    (s.boot.phase ≠ 2 → Does .bootDone s fun t => t = s) ∧
    (s.boot.phase = 2 → s.boot.at_ = none → Does .bootDone s fun t => t.boot.phase = 3 ∧ t.boot.at_ = some s.now ∧
      t.on R.SYS_STAT_BOOT_DONE 0 = true ∧ t.on R.SYS_EVT_BOOT_DONE 0 = true ∧ t.rd R.SUP_STAT_SUBST 0 = 0) ∧
    (∀ bs : Bool,
      (s.on R.PROT_STAT_DBG_LOCKED 0 = true → bs = false → Does (.debugAccess bs) s fun t => t.on R.SEC_EVT_DEBUG_ATTEMPT 0 = true) ∧
      (s.on R.PROT_STAT_DBG_LOCKED 0 = false ∨ bs = true → Does (.debugAccess bs) s fun t => t = s)) ∧
    (∀ m : Fin 16,
      (s.begins m 0x0802 true true true = true → Does (.secIdGet m) s fun t =>
        t.Answers m .ok (leBytes 4 identityAddr ++ leBytes 4 3105) ∧ t.stBytes identityAddr identityRecord.length = identityRecord) ∧
      (s.begins m 0x0801 true true true = true → Does (.secAttest m) s fun t =>
        t.Answers m .ok (leBytes 4 attestAddr ++ leBytes 4 3424) ∧ Counted s t R.SEC_ATTEST_CNT_COUNT 0 ∧ t.freeIx = s.freeIx + 1) ∧
      (s.begins m 0x0803 true true true = true →
        (∀ w, s.rd R.SUP_STAT_SUBST 0 ≠ 2 → Does (.secFwLoad m w) s fun t => t.Answers m .substDown [] ∧ t.fw = s.fw ∧
          t.on R.SEC_EVT_FW_REFUSED 0 = true) ∧
        (let addr := s.req m 8 4;
          let len := s.req m 0xC 4
          let b := s.stBytes addr len
          s.rd R.SUP_STAT_SUBST 0 = 2 → len = leAt (s.stBytes addr 64) 8 4 + 1280 → s.fwGot addr len = true →
            (fwImage b).ckpt = s.rd R.SUP_STAT_CKPT_FMT 0 → (fwImage b).fenceLo = s.rd R.PROT_FENCE_FENCE_LO 0 →
            (fwImage b).fenceHi = s.rd R.PROT_FENCE_FENCE_HI 0 → Does (.secFwLoad m true) s fun t => match fwRefusal b s.fw.svn with
              | some e => t.Answers m e.1 [] ∧ t.fw = s.fw ∧ t.on R.SEC_EVT_FW_REFUSED 0 = true
              | none => (s.loadBank, b) ∈ t.fw.banks ∧ t.on R.SUP_STAT_FW_LOADING 0 = true ∧ t.rd R.SUP_STAT_SUBST 0 = 0 ∧
                t.mbState m = mbRunning)))

/-- How the two supervisors follow and replace each other, and what the DIAG_ commands do. While firmware runs a journal record
advances the journal, and acknowledged leaves the substitute with the state of the firmware (that change, record and acknowledgement are
one instant is the model's, log 178). A rally, 20 µs after the last and not before, carries the number of the last record and renews its
times; answered, it brings the last record applied and brings up a substitute that was down. 100 µs without a rally, or a fault, and a
FOLLOWING substitute takes over; with its takeover done duties resume, counted, on its image, the other catching up. A substitute that
has applied every record and holds the firmware's state follows; one lost is down until booted again. 2 ms without a rally and without a FOLLOWING substitute
loses supervision: dispatch halts, the plant outputs are cleared, and both boot. A planned takeover ends SEC_FW_LOAD with the new
version and bank; 4 s without the new image following refuse it. Without their conditions none of them changes anything. DIAG_PING
returns its bytes, DIAG_MODE sets the module state, DIAG_FAULT fences a running job with an injected fault of the class, to be remedied as the fault itself would be (the unit it names is
the model's choice, log 51). The takeover
and the loss of the substitute are stated with no SEC_FW_LOAD under way. (R294, R316, R318, R319, R320, R321, R323, R324, R325, R332,
R351) -/
def Obligations.SupervisorsTakeOver : Prop :=
  ∀ s : State,
    (s.supRuns = true →
      Does (.journalRecord false) s (fun t => t.sup.sent = s.sup.sent + 1 ∧ t.sup.acked = s.sup.acked) ∧
      (s.rd R.SUP_STAT_SUBST 0 ≠ 0 → Does (.journalRecord true) s fun t => t.sup.acked = s.sup.sent + 1 ∧ t.sup.copy = s.fwState) ∧
      (s.passed s.sup.rallyAt (s.hubTime (20 * usec)) = true →
        Does (.rally false) s (fun t => t.sup.rallyAt = s.now ∧ t.sup.rallyNo = s.sup.sent ∧ t.sup.answerAt = s.sup.answerAt) ∧
        Does (.rally true) s (fun t => t.sup.rallyAt = s.now ∧ t.sup.answerAt = s.now ∧ t.sup.answerNo = s.sup.acked ∧
          (s.rd R.SUP_STAT_SUBST 0 = 0 → t.rd R.SUP_STAT_SUBST 0 = 1))) ∧
      (s.passed s.sup.rallyAt (s.hubTime (20 * usec)) = false → ∀ b : Bool, Does (.rally b) s fun t => t = s) ∧
      (∀ fault : Bool,
        (s.rd R.SUP_STAT_SUBST 0 = 2 → fault = true ∨ s.sup.rallyOk = false ∨ s.passed s.sup.rallyAt (s.hubTime (100 * usec)) = true →
          Does (.rallyMissed fault) s fun t => t.rd R.SUP_STAT_SUBST 0 = 3 ∧ t.rd R.SUP_STAT_ACTIVE 0 = 1 - s.rd R.SUP_STAT_ACTIVE 0 ∧
            t.sup.takingAt = some s.now) ∧
        (s.rd R.SUP_STAT_SUBST 0 = 1 ∨ s.rd R.SUP_STAT_SUBST 0 = 2 →
          fault = true ∨ s.passed s.sup.answerAt (s.hubTime (100 * usec)) = true → s.sup.fw = none → Does (.substLost fault) s fun t =>
            t.rd R.SUP_STAT_SUBST 0 = 0 ∧ t.on R.SUP_EVT_SUBST_LOST 0 = true ∧ t.sup.answerAt = s.now)) ∧
      (s.rd R.SUP_STAT_SUBST 0 = 1 → s.sup.acked = s.sup.sent → s.sup.copy = s.fwState → Does .substFollowing s fun t =>
        t.rd R.SUP_STAT_SUBST 0 = 2 ∧ t.on R.SUP_EVT_SUBST_READY 0 = true) ∧
      (s.rd R.SUP_STAT_SUBST 0 ≠ 1 ∨ s.sup.acked ≠ s.sup.sent ∨ s.sup.copy ≠ s.fwState → Does .substFollowing s fun t => t = s) ∧
      (∀ m i bank a, s.sup.fw = some (m, i, bank, a) → m < 16 →
        (s.rd R.SUP_STAT_SUBST 0 = 2 → Does .plannedTakeover s fun t => t.Answers m .ok (leBytes 4 i.version) ∧ t.fw.preferred = bank ∧
          t.sup.fw = none ∧ t.rd R.SUP_STAT_ACTIVE 0 = 1 - s.rd R.SUP_STAT_ACTIVE 0 ∧ t.on R.SUP_EVT_FW_SWAP 0 = true ∧
          t.rd R.SEC_STAT_BANK_ACT 0 = s.rd R.SEC_STAT_BANK_SUB 0) ∧
        (s.rd R.SUP_STAT_SUBST 0 ≠ 2 → s.passed a (s.hubTime (4000 * msec)) = true → Does .fwCatchupTimeout s fun t =>
          t.Answers m .substDown [] ∧ t.sup.fw = none ∧ t.on R.SEC_EVT_FW_REFUSED 0 = true))) ∧
    (∀ b : Bool, s.supRuns = false → Does (.journalRecord b) s (fun t => t = s) ∧ Does (.rally b) s (fun t => t = s) ∧
      Does (.rallyMissed b) s (fun t => t = s) ∧ Does (.substLost b) s (fun t => t = s) ∧ Does .substFollowing s (fun t => t = s)) ∧
    (s.sup.takingAt.isSome = true → s.sup.fw = none → Does .takeoverDone s fun t => t.sup.takingAt = none ∧
      Counted s t R.TAKEOVER_CNT_COUNT 0 ∧ t.on R.SYS_EVT_TAKEOVER 0 = true ∧ t.on R.SUP_EVT_TAKEOVER 0 = true ∧
      t.boot.act = s.boot.sub ∧ t.rd R.SUP_STAT_SUBST 0 = 1) ∧
    (s.sup.takingAt = none → Does .takeoverDone s fun t => t = s) ∧
    (s.sup.fw = none → Does .plannedTakeover s (fun t => t = s) ∧ Does .fwCatchupTimeout s (fun t => t = s)) ∧
    (∀ ok : Bool,
      (s.boot.phase = 3 → s.rd R.SUP_STAT_SUBST 0 ≠ 2 → s.passed s.sup.rallyAt (s.hubTime (2 * msec)) = true →
        Does (.supervisionLost ok) s fun t => t.on R.SYS_STAT_BOOT_DONE 0 = false ∧ t.on R.SUP_EVT_SUP_LOST 0 = true ∧ t.boot.phase = 1 ∧
          t.halt = true ∧ t.on R.PLANT_STAT_CLEARED 0 = true ∧ t.rd R.PLANT_STAT_CAUSE 0 = 1 ∧ t.sysState = stStartUp ∧ t.mbxOrder = []) ∧
      (s.boot.phase ≠ 3 ∨ s.rd R.SUP_STAT_SUBST 0 = 2 ∨ s.passed s.sup.rallyAt (s.hubTime (2 * msec)) = false →
        Does (.supervisionLost ok) s fun t => t = s)) ∧
    (∀ m : Fin 16,
      (s.begins m 0x0901 true true true = true → Does (.diagPing m) s fun t =>
        t.Answers m .ok (((s.mbBytes m).drop 8).take (s.req m 4 1)) ∧ t.jobs = s.jobs) ∧
      (s.begins m 0x0902 (decide (s.sysState ≠ stStartUp)) true true = true →
        (s.req m 8 1 = 2 → Does (.diagMode m) s fun t => t.sysState = stTest ∧ t.Answers m .ok []) ∧
        (s.req m 8 1 = 1 → Does (.diagMode m) s fun t => t.Answers m .ok [] ∧
          t.sysState = if s.recoveryEvent = true ∨ s.on R.CLK_STAT_FAULT 0 = true then stRecovery else stService)) ∧
      (s.begins m 0x0903 (decide (s.sysState = stTest)) true true = true → let j := s.req m 8 1
        ((s.job j).live = true → (s.job j).restart = none → Does (.diagFault m) s fun t => t.Answers m .ok [] ∧
          t.Struck j (s.req m 9 1) ∧ (t.job j).restart.map Restart.injected = some true ∧
          (t.job j).restart.map Restart.remedies = some [(s.injectedFault j (s.req m 9 1)).remedy]) ∧
        ((s.job j).live = false → Does (.diagFault m) s fun t => t.Answers m .jobState [] ∧ t.jobs = s.jobs)))

/-- How the power inputs, stops, the throttle and the sensors behave. An input that becomes valid shows, and BACKUP is taken when MAIN is
not valid; the loss of MAIN in use with BACKUP valid switches over, counted; the loss of both is a DIP, and 200 µs later power fail is
confirmed with dispatch halted, and at 210 µs the halves are off. The module returns to MAIN after RET_MS of it, or by command. The
hold-up energy shows with HOLDUP_LOW below 760 mJ. A half whose supply fails is switched off for good, and a chiplet whose rail fails
leaves service. An orderly stop signals its fault at 2,000 µs and is STOPPED at 2,200 µs; it is resumed when cool, by itself or by
command, with its halves on. START ends in ACTIVE, or in STOPPED at 110 °C. The throttle is lowered by one level above its power limit
and raised by one when every condition allows. Sensors keep their readings, newest first. Without their conditions none of them changes
anything. The rail is stated for a chiplet held by no job. (R374, R375, R376, R377, R378, R380, R381, R382, R386, R389, R391, R148) -/
def Obligations.PowerIsLostAndRestored : Prop :=
  ∀ s : State,
    (s.pwr.off = false → s.pwr.confirmed = false →
      (∀ b : Bool, Does (.inputValid b) s fun t => t.inputOk b = true ∧ t.pwr.failAt = none) ∧
      (s.boot.phase ≠ 0 → s.on R.PWR_STAT_SRC 0 = false → s.inputOk false = false → Does (.inputValid true) s fun t =>
        t.on R.PWR_STAT_SRC 0 = true ∧ t.on R.PWR_EVT_SWITCH 0 = true) ∧
      (s.on R.PWR_STAT_SRC 0 = false → s.inputOk true = true → Does (.inputLost false) s fun t => t.inputOk false = false ∧
        t.on R.PWR_STAT_SRC 0 = true ∧ t.on R.PWR_EVT_SWITCH 0 = true ∧ Counted s t R.PWR_SW_CNT_SWITCHES 0) ∧
      (∀ b : Bool, s.inputOk (!b) = false → Does (.inputLost b) s fun t => t.inputOk b = false ∧ t.on R.PWR_EVT_DIP 0 = true ∧
        Counted s t R.PWR_SW_CNT_DIPS 0 ∧ t.pwr.failAt = some (s.now - 10 * usec))) ∧
    (s.on R.PWR_STAT_SRC 0 = true → s.inputOk false = true → Does .pwrCfgReturn s (fun t => t.on R.PWR_STAT_SRC 0 = false ∧
        t.on R.PWR_EVT_RETURN_MAIN 0 = true) ∧
      (∀ a, s.pwr.mainAt = some a → s.rd R.PWR_CFG_RET_MS 0 ≠ 0 → s.passed a (msec * s.rd R.PWR_CFG_RET_MS 0) = true →
        Does .mainReturn s fun t => t.on R.PWR_STAT_SRC 0 = false ∧ t.on R.PWR_EVT_RETURN_MAIN 0 = true)) ∧
    (s.on R.PWR_STAT_SRC 0 = false ∨ s.inputOk false = false → Does .pwrCfgReturn s (fun t => t = s) ∧ Does .mainReturn s (fun t => t = s)) ∧
    (∀ a, s.pwr.failAt = some a →
      (s.passed a (200 * usec) = true → s.pwr.confirmed = false → s.inputOk false = false → s.inputOk true = false →
        Does .powerFailConfirm s fun t => t.pwr.confirmed = true ∧ t.power = psFail ∧ t.halt = true ∧ t.pwr.confTime = s.tb) ∧
      (s.passed a (210 * usec) = true → s.pwr.confirmed = true → Does .powerFailSwitchOff s fun t => t.halfOn 0 = false ∧
        t.halfOn 1 = false)) ∧
    (s.pwr.failAt = none → Does .powerFailConfirm s (fun t => t = s) ∧ Does .powerFailSwitchOff s (fun t => t = s)) ∧
    (∀ e a b c d : Nat, Does (.holdupSample e a b c d) s fun t => t.rd R.HOLDUP_ENERGY 0 = min e 65535 ∧
      t.on R.PWR_STAT_HOLDUP_OK 0 = decide (760 ≤ e) ∧
      (s.on R.PWR_STAT_HOLDUP_OK 0 = true → e < 760 → t.on R.PWR_EVT_HOLDUP_LOW 0 = true)) ∧
    (∀ h : Fin 2,
      (s.halfOn h = true → s.supplyFailed h = false → Does (.halfSupplyFail h) s fun t => t.halfOn h = false ∧ t.supplyFailed h = true ∧
        t.on R.PWR_EVT_HALF_SUPPLY 0 = true) ∧
      (s.halfOn h = false ∨ s.supplyFailed h = true → Does (.halfSupplyFail h) s fun t => t = s)) ∧
    (∀ k : Fin 4,
      (s.halfOn (halfOfChip k) = true → s.meshJob k = none → Does (.chipletRailFail k) s fun t => t.meshState k = msOut ∧
        t.rd R.RING_STAT_PHASE k = 0 ∧ t.on R.MESH_EVT_HEATER_FAIL k = true) ∧
      (s.halfOn (halfOfChip k) = false → Does (.chipletRailFail k) s fun t => t = s)) ∧
    (∀ a, s.power = psStopping → s.pwr.stopAt = some a →
      (s.passed a (2000 * usec) = true → s.pwr.stopFault = false → Does .orderlyStopFault s fun t => t.pwr.stopFault = true ∧
        t.halt = true ∧ t.on R.PLANT_STAT_CLEARED 0 = true ∧ t.rd R.PLANT_STAT_CAUSE 0 = 3) ∧
      (s.passed a (2200 * usec) = true → s.pwr.stopFault = true → Does .orderlyStopOff s fun t => t.power = psStopped ∧
        t.halfOn 0 = false ∧ t.halfOn 1 = false ∧ t.pwr.stopAt = none)) ∧
    (s.power ≠ psStopping → Does .orderlyStopFault s (fun t => t = s) ∧ Does .orderlyStopOff s (fun t => t = s)) ∧
    (s.power = psStopped →
      (∀ a, s.on R.THERM_CFG_AUTO_RESUME 0 = true → s.pwr.coolAt = some a → s.passed a (100 * msec) = true → Does .autoResume s fun t =>
        t.power = psActive ∧ t.on R.PWR_EVT_RESUMED 0 = true ∧ ∀ h < 2, s.supplyFailed h = false → t.halfOn h = true) ∧
      (s.tmax ≤ s.tResume → Does .resume s fun t => t.power = psActive ∧ t.on R.PWR_EVT_RESUMED 0 = true ∧
        ∀ h < 2, s.supplyFailed h = false → t.halfOn h = true)) ∧
    (s.power ≠ psStopped → Does .autoResume s (fun t => t = s) ∧ Does .resume s (fun t => t = s)) ∧
    (s.power = psStart → (s.tmax < 1760 → Does .endOfStart s fun t => t.power = psActive ∧
        ∀ h < 2, s.supplyFailed h = false → t.halfOn h = true) ∧
      (1760 ≤ s.tmax → Does .endOfStart s fun t => t.power = psStopped ∧ t.rd R.PWR_STAT_STOP_CAUSE 0 = 4 ∧
        t.on R.SYS_EVT_THERM_STOP 0 = true)) ∧
    (s.power ≠ psStart → Does .endOfStart s fun t => t = s) ∧
    (∀ p i : Nat, let limit := max 100 (min 380 (s.rd R.THR_CFG_PWR_LIMIT 0))
      let hot : Int := 16 * (max 80 (min 105 (s.rd R.THR_CFG_T_THROTTLE 0)) : Nat)
      let level := s.rd R.THR_STAT_LEVEL 0
      p < 65536 →
      (10 * limit < p → 1 < level → Does (.throttleEval p i) s fun t => t.rd R.THR_STAT_LEVEL 0 = level - 1 ∧
        t.rd R.THR_STAT_CAUSE 0 = 1 ∧ t.rd R.PWR_MEAS_POWER 0 = p) ∧
      (10 * limit < p → level ≤ 1 → Does (.throttleEval p i) s fun t => t.rd R.THR_STAT_LEVEL 0 = level) ∧
      (p ≤ 10 * (limit - 20) → s.tmax ≤ hot - 48 → s.rise < 20 → level < 16 →
        (s.passed s.pwr.levelAt msec = true → Does (.throttleEval p i) s fun t => t.rd R.THR_STAT_LEVEL 0 = level + 1) ∧
        (s.passed s.pwr.levelAt msec = false → Does (.throttleEval p i) s fun t => t.rd R.THR_STAT_LEVEL 0 = level))) ∧
    (∀ ts : List Int,
      (s.power = psFail ∨ s.pwr.off = true → Does (.sensorRead ts) s fun t => t = s) ∧
      (s.power = psStart → s.pwr.off = false → Does (.sensorRead ts) s fun t => ∀ n < 200,
        (t.sensor n).past = (ts.getD n 0 :: (s.sensor n).past).take 11))

/-- What the NV_ commands do, and how a store ends. With its energy there, NV_STORE begins a store, which its end completes with the store's
sequence number, bank and count, the mailbox then answered, not before its commit record is whole; without the energy it is refused with NV_ENERGY. NV_COUNT answers the value
of the counter, or, incremented, one more; NV_PROTECT sets the level of protection. With no store under way and no power fail its end
changes nothing, and after a confirmed power fail the hub is off. (R399, R400, R401, R405, R406, R316) -/
def Obligations.StoresAreMade : Prop :=
  ∀ (s : State) (m : Fin 16), let need := if s.loopLocked 0 then 330 else 540
    (s.begins m 0x0701 true true true = true →
      (s.pwr.confirmed = false → need ≤ s.rd R.HOLDUP_ENERGY 0 → Does (.nvStore m) s fun t => t.on R.NV_STAT_BUSY 0 = true ∧
        t.mbState m = mbRunning ∧ t.nvRun.map NvRun.mbx = some (some m.val) ∧ t.nvRun.map NvRun.bank =
          some (if s.on R.NV_STAT_EMPTY 0 then 0 else 1 - s.rd R.NV_STAT_BANK 0)) ∧
      (s.pwr.confirmed = true ∨ s.rd R.HOLDUP_ENERGY 0 < need → Does (.nvStore m) s fun t => t.Answers m .nvEnergy [] ∧
        t.on R.NV_EVT_REFUSED 0 = true ∧ t.nvRun = s.nvRun)) ∧
    (s.begins m 0x0702 true true true = true → let v := (readCounter s (s.req m 8 1)).2
      (s.req m 9 1 = 0 → Does (.nvCount m) s fun t => t.Answers m .ok (leBytes 4 v) ∧ t.nvShadow = s.nvShadow) ∧
      (s.req m 9 1 = 1 → s.pwr.confirmed = false → 20 ≤ s.rd R.HOLDUP_ENERGY 0 → v < 0xFFFFFFFF → Does (.nvCount m) s fun t =>
        t.Answers m .ok (leBytes 4 (v + 1)) ∧ t.rd R.NV_CNT_VALUE (s.req m 8 1) = v + 1)) ∧
    (s.begins m 0x0703 true true true = true → Does (.nvProtect m) s fun t => t.Answers m .ok [] ∧
      t.rd R.NV_STAT_LEVEL 0 = s.req m 8 1) ∧
    (∀ r, s.nvRun = some r → s.nvWhole r = false → Does .nvStoreEnd s fun t => t = s) ∧
    (∀ r, s.nvRun = some r → s.nvWhole r = true → s.pwr.confirmed = false → Does .nvStoreEnd s fun t => t.nvRun = none ∧ t.on R.NV_STAT_BUSY 0 = false ∧
      t.rd R.NV_STAT_BANK 0 = r.bank % 2 ∧ t.rd R.NV_SEQ_SEQ 0 = r.seq % 2 ^ 32 ∧ Counted s t R.NV_STORE_CNT_COUNT 0 ∧
      t.on R.NV_EVT_STORED 0 = true ∧ (r.mbx = some m.val → t.Answers m .ok (leBytes 4 r.seq))) ∧
    (s.nvRun = none → (s.pwr.confirmed = false → Does .nvStoreEnd s fun t => t = s) ∧
      (s.pwr.confirmed = true → Does .nvStoreEnd s fun t => t.pwr.off = true))

/-- What happens when the crystal stops while it is the reference. When the crystal is the reference, feeding the loops, and it stops, every
loop coasts at once, REF_TRIP of CLK_EVT and CLK_SWITCH of SYS_EVT are set and, with RC_READY set, the reference multiplexer begins its
switch to RC/4. When that switch completes with RC/4 still ready, REF reads 1 and each loop that then reaches lock is locked. (R364) -/
def Obligations.ReferenceTrips : Prop :=
  ∀ s : State,
    (s.xtalActive = true → s.onRc = false → s.clk.fed = true → Does .crystalStop s fun t =>
      (∀ l < 8, t.loopLocked l = false) ∧ t.on R.CLK_EVT_REF_TRIP 0 = true ∧ t.on R.SYS_EVT_CLK_SWITCH 0 = true ∧
      (s.rcReady = true → t.on R.CLK_STAT_SWITCHING 0 = true ∧ t.clk.mux = .toRc)) ∧
    (s.clk.mux = .toRc → s.muxReady = true → s.rcReady = true → Does (.muxSwitchDone false) s fun t => t.rd R.CLK_STAT_REF 0 = 1 ∧
      t.on R.CLK_STAT_SWITCHING 0 = false ∧ ∀ l : Fin 8, Does (.loopLocked l) t fun u => u.loopLocked l = true)

/-- A threshold above the tolerance of an admitted job is refused and changes nothing. A CAL_THRESH_SET that would raise the refresh
threshold above the REQ_XBAR of any admitted job is answered with TOLERANCE and changes nothing else: no register word but the status
and the response of its own mailbox, and nothing of the state but the order of doorbells and the pending interrupt that every answer
touches. (R46) -/
def Obligations.ThresholdWithinTolerance : Prop :=
  ∀ (s : State) (m j : Fin 16), s.begins m 0x0302 true true true = true → (s.job j).admitted = true →
    s.thresh < s.req m 8 2 → (s.job j).hdr.reqXbar < s.req m 8 2 →
    Does (.calThreshSet m) s fun t => t.Answers m .tolerance [] ∧
      t = ((s.setRegs t.regs).setMbxOrder t.mbxOrder).setBus t.bus ∧
      ∀ k, k ≠ R.MBX_STAT.key m 0 → (∀ w < 16, k ≠ R.MBX_RSP.key m w) → t.word k = s.word k
end

