-- ==== Sys2Proof/Laws/Sparse.lean ====
section
/-! SUPPORT. Laws/Sparse.lean: reading after writing in a sparse map, and that every operation keeps its canonical form. -/

namespace Sys2Proof.Machine

theorem spGet_spErase_same {α : Type} (d : Nat → α) (m : Sparse α) (k : Nat) : spGet d (spErase m k) k = d k := by
  induction m with
  | nil => rfl
  | cons e m ih =>
    obtain ⟨k', v⟩ := e
    by_cases h : k = k' <;> simp [spErase, spGet, h] <;> simpa [h] using ih

theorem spGet_spErase_ne {α : Type} (d : Nat → α) (m : Sparse α) {k k' : Nat} (h : k' ≠ k) :
    spGet d (spErase m k) k' = spGet d m k' := by
  induction m with
  | nil => rfl
  | cons e m ih =>
    obtain ⟨q, v⟩ := e
    by_cases h1 : k = q
    · subst h1; simp [spErase, spGet, h, ih]
    · simp [spErase, spGet, h1, ih]

theorem spGet_spInsert_same {α : Type} (d : Nat → α) (m : Sparse α) (k : Nat) (v : α) : spGet d (spInsert m k v) k = v := by
  induction m with
  | nil => simp [spInsert, spGet]
  | cons e m ih =>
    obtain ⟨q, w⟩ := e
    by_cases h1 : k = q
    · simp [spInsert, spGet, h1]
    · by_cases h2 : k < q <;> simp [spInsert, spGet, h1, h2, ih]

theorem spGet_spInsert_ne {α : Type} (d : Nat → α) (m : Sparse α) {k k' : Nat} (v : α) (h : k' ≠ k) :
    spGet d (spInsert m k v) k' = spGet d m k' := by
  induction m with
  | nil => simp [spInsert, spGet, h]
  | cons e m ih =>
    obtain ⟨q, w⟩ := e
    by_cases h1 : k = q
    · subst h1; simp [spInsert, spGet, h]
    · by_cases h2 : k < q <;> simp [spInsert, spGet, h1, h2, h, ih]

/-- A key reads as what was written to it last. -/
@[simp] theorem spGet_spSet_same {α : Type} [DecidableEq α] (d : Nat → α) (m : Sparse α) (k : Nat) (v : α) :
    spGet d (spSet d m k v) k = v := by
  unfold spSet
  split
  · rename_i h; rw [spGet_spErase_same, h]
  · exact spGet_spInsert_same d m k v

/-- Every other key reads as before. -/
theorem spGet_spSet_ne {α : Type} [DecidableEq α] (d : Nat → α) (m : Sparse α) {k k' : Nat} (v : α) (h : k' ≠ k) :
    spGet d (spSet d m k v) k' = spGet d m k' := by
  unfold spSet
  split
  · exact spGet_spErase_ne d m h
  · exact spGet_spInsert_ne d m v h

theorem spGet_spSet {α : Type} [DecidableEq α] (d : Nat → α) (m : Sparse α) (k k' : Nat) (v : α) :
    spGet d (spSet d m k v) k' = if k' = k then v else spGet d m k' := by
  split
  · rename_i h; subst h; exact spGet_spSet_same d m k' v
  · rename_i h; exact spGet_spSet_ne d m v h

/-! ### The canonical form -/

theorem spWfFrom_mono {α : Type} [DecidableEq α] (d : Nat → α) (m : Sparse α) {a b : Option Nat}
    (h : ∀ k, (b.all fun l => decide (l < k)) = true → (a.all fun l => decide (l < k)) = true)
    (hm : spWfFrom d b m = true) : spWfFrom d a m = true := by
  cases m with
  | nil => rfl
  | cons e m =>
    obtain ⟨k, v⟩ := e
    simp only [spWfFrom, Bool.and_eq_true] at hm ⊢
    exact ⟨⟨h k hm.1.1, hm.1.2⟩, hm.2⟩

theorem spWfFrom_filter {α : Type} [DecidableEq α] (d : Nat → α) (p : Nat × α → Bool) (m : Sparse α) (a : Option Nat)
    (hm : spWfFrom d a m = true) : spWfFrom d a (m.filter p) = true := by
  induction m generalizing a with
  | nil => rfl
  | cons e m ih =>
    obtain ⟨k, v⟩ := e
    simp only [spWfFrom, Bool.and_eq_true] at hm
    simp only [List.filter_cons]
    split
    · simp only [spWfFrom, Bool.and_eq_true]; exact ⟨hm.1, ih _ hm.2⟩
    · refine spWfFrom_mono d _ (fun q hq => ?_) (ih _ hm.2)
      have := hm.1.1
      cases a with
      | none => rfl
      | some l => simp at this hq ⊢; omega

theorem spErase_eq_filter {α : Type} (m : Sparse α) (k : Nat) : spErase m k = m.filter fun e => decide (k ≠ e.1) := by
  induction m with
  | nil => rfl
  | cons e m ih =>
    obtain ⟨q, v⟩ := e
    by_cases h : k = q <;> simp [spErase, List.filter_cons, h, ih] <;> simp [← h, ih]

theorem spWfFrom_spInsert {α : Type} [DecidableEq α] (d : Nat → α) (m : Sparse α) (k : Nat) (v : α) (hv : v ≠ d k)
    (a : Option Nat) (ha : (a.all fun l => decide (l < k)) = true) (hm : spWfFrom d a m = true) :
    spWfFrom d a (spInsert m k v) = true := by
  induction m generalizing a with
  | nil => simp [spInsert, spWfFrom, ha, hv]
  | cons e m ih =>
    obtain ⟨q, w⟩ := e
    simp only [spWfFrom, Bool.and_eq_true] at hm
    simp only [spInsert]
    split
    · rename_i h; subst h; simp [spWfFrom, ha, hv, hm.2]
    · split
      · rename_i h1 h2
        simp only [spWfFrom, Bool.and_eq_true, Option.all_some, decide_eq_true_eq]
        exact ⟨⟨ha, by simp [hv]⟩, ⟨h2, hm.1.2⟩, hm.2⟩
      · rename_i h1 h2
        simp only [spWfFrom, Bool.and_eq_true]
        exact ⟨hm.1, ih _ (by simp; omega) hm.2⟩

/-- A write keeps the canonical form. -/
@[simp] theorem spWf_spSet {α : Type} [DecidableEq α] (d : Nat → α) (m : Sparse α) (k : Nat) (v : α) (hm : spWf d m = true) :
    spWf d (spSet d m k v) = true := by
  unfold spSet
  split
  · rw [spErase_eq_filter]; exact spWfFrom_filter d _ m none hm
  · rename_i h; exact spWfFrom_spInsert d m k v h none rfl hm

/-- A filtered map keeps the canonical form. -/
@[simp] theorem spWf_filter {α : Type} [DecidableEq α] (d : Nat → α) (p : Nat × α → Bool) (m : Sparse α) (hm : spWf d m = true) :
    spWf d (m.filter p) = true := spWfFrom_filter d p m none hm

/-- Writing a run of values keeps the canonical form. -/
@[simp] theorem spWf_spSetList {α : Type} [DecidableEq α] (d : Nat → α) (m : Sparse α) (k step : Nat) (vs : List α)
    (hm : spWf d m = true) : spWf d (spSetList d m k step vs) = true := by
  induction vs generalizing m k with
  | nil => exact hm
  | cons v vs ih => exact ih _ _ (spWf_spSet d m k v hm)

@[simp] theorem spWf_nil {α : Type} [DecidableEq α] (d : Nat → α) : spWf d ([] : Sparse α) = true := rfl

end Sys2Proof.Machine
end

