-- ==== Sys2Proof/Laws/State.lean ====
section
/-! SUPPORT. Laws/State.lean: what each update of a field of the state changes, and that it leaves every other field. -/

namespace Sys2Proof.Machine

/-- Replacing `now` replaces it and leaves every other field. -/
@[simp] theorem State.setNow_frame (s : State) (v : Nat) :
    (s.setNow v).now = v ∧
    (s.setNow v).freeIx = s.freeIx ∧
    (s.setNow v).pending = s.pending ∧
    (s.setNow v).regs = s.regs ∧
    (s.setNow v).inForce = s.inForce ∧
    (s.setNow v).wb = s.wb ∧
    (s.setNow v).shadow = s.shadow ∧
    (s.setNow v).bus = s.bus ∧
    (s.setNow v).mbxOrder = s.mbxOrder ∧
    (s.setNow v).staging = s.staging ∧
    (s.setNow v).jobs = s.jobs ∧
    (s.setNow v).binds = s.binds ∧
    (s.setNow v).batches = s.batches ∧
    (s.setNow v).tagsHeld = s.tagsHeld ∧
    (s.setNow v).tagAt = s.tagAt ∧
    (s.setNow v).arrived = s.arrived ∧
    (s.setNow v).outs = s.outs ∧
    (s.setNow v).recQ = s.recQ ∧
    (s.setNow v).recSeq = s.recSeq ∧
    (s.setNow v).tx = s.tx ∧
    (s.setNow v).chans = s.chans ∧
    (s.setNow v).ingest = s.ingest ∧
    (s.setNow v).drops = s.drops ∧
    (s.setNow v).misses = s.misses ∧
    (s.setNow v).arms = s.arms ∧
    (s.setNow v).bulk = s.bulk ∧
    (s.setNow v).rxAt = s.rxAt ∧
    (s.setNow v).fabric = s.fabric ∧
    (s.setNow v).grantRr = s.grantRr ∧
    (s.setNow v).slots = s.slots ∧
    (s.setNow v).ptes = s.ptes ∧
    (s.setNow v).xlates = s.xlates ∧
    (s.setNow v).time = s.time ∧
    (s.setNow v).halt = s.halt ∧
    (s.setNow v).sram = s.sram ∧
    (s.setNow v).pageUe = s.pageUe ∧
    (s.setNow v).unitUe = s.unitUe ∧
    (s.setNow v).retired = s.retired ∧
    (s.setNow v).cluOut = s.cluOut ∧
    (s.setNow v).plant = s.plant ∧
    (s.setNow v).tiles = s.tiles ∧
    (s.setNow v).cells = s.cells ∧
    (s.setNow v).occ = s.occ ∧
    (s.setNow v).tcal = s.tcal ∧
    (s.setNow v).recur = s.recur ∧
    (s.setNow v).stDone = s.stDone ∧
    (s.setNow v).chips = s.chips ∧
    (s.setNow v).meshTbl = s.meshTbl ∧
    (s.setNow v).rings = s.rings ∧
    (s.setNow v).lanes = s.lanes ∧
    (s.setNow v).dirs = s.dirs ∧
    (s.setNow v).mons = s.mons ∧
    (s.setNow v).halves = s.halves ∧
    (s.setNow v).exts = s.exts ∧
    (s.setNow v).feedFwd = s.feedFwd ∧
    (s.setNow v).splitAt = s.splitAt ∧
    (s.setNow v).returnAt = s.returnAt ∧
    (s.setNow v).store = s.store ∧
    (s.setNow v).writes = s.writes ∧
    (s.setNow v).stages = s.stages ∧
    (s.setNow v).quads = s.quads ∧
    (s.setNow v).homework = s.homework ∧
    (s.setNow v).firstForm = s.firstForm ∧
    (s.setNow v).readbackAt = s.readbackAt ∧
    (s.setNow v).loadWait = s.loadWait ∧
    (s.setNow v).feedMove = s.feedMove ∧
    (s.setNow v).bridgeBuild = s.bridgeBuild ∧
    (s.setNow v).clk = s.clk ∧
    (s.setNow v).pwr = s.pwr ∧
    (s.setNow v).sensors = s.sensors ∧
    (s.setNow v).nvArr = s.nvArr ∧
    (s.setNow v).nvShadow = s.nvShadow ∧
    (s.setNow v).nvRun = s.nvRun ∧
    (s.setNow v).boot = s.boot ∧
    (s.setNow v).fw = s.fw ∧
    (s.setNow v).sup = s.sup :=
  ⟨rfl, rfl, rfl, rfl, rfl, rfl, rfl, rfl, rfl, rfl, rfl, rfl, rfl, rfl, rfl, rfl, rfl, rfl, rfl, rfl, rfl, rfl, rfl, rfl, rfl, rfl, rfl, rfl, rfl, rfl, rfl, rfl, rfl, rfl, rfl, rfl, rfl, rfl, rfl, rfl, rfl, rfl, rfl, rfl, rfl, rfl, rfl, rfl, rfl, rfl, rfl, rfl, rfl, rfl, rfl, rfl, rfl, rfl, rfl, rfl, rfl, rfl, rfl, rfl, rfl, rfl, rfl, rfl, rfl, rfl, rfl, rfl, rfl, rfl, rfl, rfl⟩

/-- Replacing `freeIx` replaces it and leaves every other field. -/
@[simp] theorem State.setFreeIx_frame (s : State) (v : Nat) :
    (s.setFreeIx v).freeIx = v ∧
    (s.setFreeIx v).now = s.now ∧
    (s.setFreeIx v).pending = s.pending ∧
    (s.setFreeIx v).regs = s.regs ∧
    (s.setFreeIx v).inForce = s.inForce ∧
    (s.setFreeIx v).wb = s.wb ∧
    (s.setFreeIx v).shadow = s.shadow ∧
    (s.setFreeIx v).bus = s.bus ∧
    (s.setFreeIx v).mbxOrder = s.mbxOrder ∧
    (s.setFreeIx v).staging = s.staging ∧
    (s.setFreeIx v).jobs = s.jobs ∧
    (s.setFreeIx v).binds = s.binds ∧
    (s.setFreeIx v).batches = s.batches ∧
    (s.setFreeIx v).tagsHeld = s.tagsHeld ∧
    (s.setFreeIx v).tagAt = s.tagAt ∧
    (s.setFreeIx v).arrived = s.arrived ∧
    (s.setFreeIx v).outs = s.outs ∧
    (s.setFreeIx v).recQ = s.recQ ∧
    (s.setFreeIx v).recSeq = s.recSeq ∧
    (s.setFreeIx v).tx = s.tx ∧
    (s.setFreeIx v).chans = s.chans ∧
    (s.setFreeIx v).ingest = s.ingest ∧
    (s.setFreeIx v).drops = s.drops ∧
    (s.setFreeIx v).misses = s.misses ∧
    (s.setFreeIx v).arms = s.arms ∧
    (s.setFreeIx v).bulk = s.bulk ∧
    (s.setFreeIx v).rxAt = s.rxAt ∧
    (s.setFreeIx v).fabric = s.fabric ∧
    (s.setFreeIx v).grantRr = s.grantRr ∧
    (s.setFreeIx v).slots = s.slots ∧
    (s.setFreeIx v).ptes = s.ptes ∧
    (s.setFreeIx v).xlates = s.xlates ∧
    (s.setFreeIx v).time = s.time ∧
    (s.setFreeIx v).halt = s.halt ∧
    (s.setFreeIx v).sram = s.sram ∧
    (s.setFreeIx v).pageUe = s.pageUe ∧
    (s.setFreeIx v).unitUe = s.unitUe ∧
    (s.setFreeIx v).retired = s.retired ∧
    (s.setFreeIx v).cluOut = s.cluOut ∧
    (s.setFreeIx v).plant = s.plant ∧
    (s.setFreeIx v).tiles = s.tiles ∧
    (s.setFreeIx v).cells = s.cells ∧
    (s.setFreeIx v).occ = s.occ ∧
    (s.setFreeIx v).tcal = s.tcal ∧
    (s.setFreeIx v).recur = s.recur ∧
    (s.setFreeIx v).stDone = s.stDone ∧
    (s.setFreeIx v).chips = s.chips ∧
    (s.setFreeIx v).meshTbl = s.meshTbl ∧
    (s.setFreeIx v).rings = s.rings ∧
    (s.setFreeIx v).lanes = s.lanes ∧
    (s.setFreeIx v).dirs = s.dirs ∧
    (s.setFreeIx v).mons = s.mons ∧
    (s.setFreeIx v).halves = s.halves ∧
    (s.setFreeIx v).exts = s.exts ∧
    (s.setFreeIx v).feedFwd = s.feedFwd ∧
    (s.setFreeIx v).splitAt = s.splitAt ∧
    (s.setFreeIx v).returnAt = s.returnAt ∧
    (s.setFreeIx v).store = s.store ∧
    (s.setFreeIx v).writes = s.writes ∧
    (s.setFreeIx v).stages = s.stages ∧
    (s.setFreeIx v).quads = s.quads ∧
    (s.setFreeIx v).homework = s.homework ∧
    (s.setFreeIx v).firstForm = s.firstForm ∧
    (s.setFreeIx v).readbackAt = s.readbackAt ∧
    (s.setFreeIx v).loadWait = s.loadWait ∧
    (s.setFreeIx v).feedMove = s.feedMove ∧
    (s.setFreeIx v).bridgeBuild = s.bridgeBuild ∧
    (s.setFreeIx v).clk = s.clk ∧
    (s.setFreeIx v).pwr = s.pwr ∧
    (s.setFreeIx v).sensors = s.sensors ∧
    (s.setFreeIx v).nvArr = s.nvArr ∧
    (s.setFreeIx v).nvShadow = s.nvShadow ∧
    (s.setFreeIx v).nvRun = s.nvRun ∧
    (s.setFreeIx v).boot = s.boot ∧
    (s.setFreeIx v).fw = s.fw ∧
    (s.setFreeIx v).sup = s.sup :=
  ⟨rfl, rfl, rfl, rfl, rfl, rfl, rfl, rfl, rfl, rfl, rfl, rfl, rfl, rfl, rfl, rfl, rfl, rfl, rfl, rfl, rfl, rfl, rfl, rfl, rfl, rfl, rfl, rfl, rfl, rfl, rfl, rfl, rfl, rfl, rfl, rfl, rfl, rfl, rfl, rfl, rfl, rfl, rfl, rfl, rfl, rfl, rfl, rfl, rfl, rfl, rfl, rfl, rfl, rfl, rfl, rfl, rfl, rfl, rfl, rfl, rfl, rfl, rfl, rfl, rfl, rfl, rfl, rfl, rfl, rfl, rfl, rfl, rfl, rfl, rfl, rfl⟩

/-- Replacing `pending` replaces it and leaves every other field. -/
@[simp] theorem State.setPending_frame (s : State) (v : List Instr) :
    (s.setPending v).pending = v ∧
    (s.setPending v).now = s.now ∧
    (s.setPending v).freeIx = s.freeIx ∧
    (s.setPending v).regs = s.regs ∧
    (s.setPending v).inForce = s.inForce ∧
    (s.setPending v).wb = s.wb ∧
    (s.setPending v).shadow = s.shadow ∧
    (s.setPending v).bus = s.bus ∧
    (s.setPending v).mbxOrder = s.mbxOrder ∧
    (s.setPending v).staging = s.staging ∧
    (s.setPending v).jobs = s.jobs ∧
    (s.setPending v).binds = s.binds ∧
    (s.setPending v).batches = s.batches ∧
    (s.setPending v).tagsHeld = s.tagsHeld ∧
    (s.setPending v).tagAt = s.tagAt ∧
    (s.setPending v).arrived = s.arrived ∧
    (s.setPending v).outs = s.outs ∧
    (s.setPending v).recQ = s.recQ ∧
    (s.setPending v).recSeq = s.recSeq ∧
    (s.setPending v).tx = s.tx ∧
    (s.setPending v).chans = s.chans ∧
    (s.setPending v).ingest = s.ingest ∧
    (s.setPending v).drops = s.drops ∧
    (s.setPending v).misses = s.misses ∧
    (s.setPending v).arms = s.arms ∧
    (s.setPending v).bulk = s.bulk ∧
    (s.setPending v).rxAt = s.rxAt ∧
    (s.setPending v).fabric = s.fabric ∧
    (s.setPending v).grantRr = s.grantRr ∧
    (s.setPending v).slots = s.slots ∧
    (s.setPending v).ptes = s.ptes ∧
    (s.setPending v).xlates = s.xlates ∧
    (s.setPending v).time = s.time ∧
    (s.setPending v).halt = s.halt ∧
    (s.setPending v).sram = s.sram ∧
    (s.setPending v).pageUe = s.pageUe ∧
    (s.setPending v).unitUe = s.unitUe ∧
    (s.setPending v).retired = s.retired ∧
    (s.setPending v).cluOut = s.cluOut ∧
    (s.setPending v).plant = s.plant ∧
    (s.setPending v).tiles = s.tiles ∧
    (s.setPending v).cells = s.cells ∧
    (s.setPending v).occ = s.occ ∧
    (s.setPending v).tcal = s.tcal ∧
    (s.setPending v).recur = s.recur ∧
    (s.setPending v).stDone = s.stDone ∧
    (s.setPending v).chips = s.chips ∧
    (s.setPending v).meshTbl = s.meshTbl ∧
    (s.setPending v).rings = s.rings ∧
    (s.setPending v).lanes = s.lanes ∧
    (s.setPending v).dirs = s.dirs ∧
    (s.setPending v).mons = s.mons ∧
    (s.setPending v).halves = s.halves ∧
    (s.setPending v).exts = s.exts ∧
    (s.setPending v).feedFwd = s.feedFwd ∧
    (s.setPending v).splitAt = s.splitAt ∧
    (s.setPending v).returnAt = s.returnAt ∧
    (s.setPending v).store = s.store ∧
    (s.setPending v).writes = s.writes ∧
    (s.setPending v).stages = s.stages ∧
    (s.setPending v).quads = s.quads ∧
    (s.setPending v).homework = s.homework ∧
    (s.setPending v).firstForm = s.firstForm ∧
    (s.setPending v).readbackAt = s.readbackAt ∧
    (s.setPending v).loadWait = s.loadWait ∧
    (s.setPending v).feedMove = s.feedMove ∧
    (s.setPending v).bridgeBuild = s.bridgeBuild ∧
    (s.setPending v).clk = s.clk ∧
    (s.setPending v).pwr = s.pwr ∧
    (s.setPending v).sensors = s.sensors ∧
    (s.setPending v).nvArr = s.nvArr ∧
    (s.setPending v).nvShadow = s.nvShadow ∧
    (s.setPending v).nvRun = s.nvRun ∧
    (s.setPending v).boot = s.boot ∧
    (s.setPending v).fw = s.fw ∧
    (s.setPending v).sup = s.sup :=
  ⟨rfl, rfl, rfl, rfl, rfl, rfl, rfl, rfl, rfl, rfl, rfl, rfl, rfl, rfl, rfl, rfl, rfl, rfl, rfl, rfl, rfl, rfl, rfl, rfl, rfl, rfl, rfl, rfl, rfl, rfl, rfl, rfl, rfl, rfl, rfl, rfl, rfl, rfl, rfl, rfl, rfl, rfl, rfl, rfl, rfl, rfl, rfl, rfl, rfl, rfl, rfl, rfl, rfl, rfl, rfl, rfl, rfl, rfl, rfl, rfl, rfl, rfl, rfl, rfl, rfl, rfl, rfl, rfl, rfl, rfl, rfl, rfl, rfl, rfl, rfl, rfl⟩

/-- Replacing `regs` replaces it and leaves every other field. -/
@[simp] theorem State.setRegs_frame (s : State) (v : Sparse Word) :
    (s.setRegs v).regs = v ∧
    (s.setRegs v).now = s.now ∧
    (s.setRegs v).freeIx = s.freeIx ∧
    (s.setRegs v).pending = s.pending ∧
    (s.setRegs v).inForce = s.inForce ∧
    (s.setRegs v).wb = s.wb ∧
    (s.setRegs v).shadow = s.shadow ∧
    (s.setRegs v).bus = s.bus ∧
    (s.setRegs v).mbxOrder = s.mbxOrder ∧
    (s.setRegs v).staging = s.staging ∧
    (s.setRegs v).jobs = s.jobs ∧
    (s.setRegs v).binds = s.binds ∧
    (s.setRegs v).batches = s.batches ∧
    (s.setRegs v).tagsHeld = s.tagsHeld ∧
    (s.setRegs v).tagAt = s.tagAt ∧
    (s.setRegs v).arrived = s.arrived ∧
    (s.setRegs v).outs = s.outs ∧
    (s.setRegs v).recQ = s.recQ ∧
    (s.setRegs v).recSeq = s.recSeq ∧
    (s.setRegs v).tx = s.tx ∧
    (s.setRegs v).chans = s.chans ∧
    (s.setRegs v).ingest = s.ingest ∧
    (s.setRegs v).drops = s.drops ∧
    (s.setRegs v).misses = s.misses ∧
    (s.setRegs v).arms = s.arms ∧
    (s.setRegs v).bulk = s.bulk ∧
    (s.setRegs v).rxAt = s.rxAt ∧
    (s.setRegs v).fabric = s.fabric ∧
    (s.setRegs v).grantRr = s.grantRr ∧
    (s.setRegs v).slots = s.slots ∧
    (s.setRegs v).ptes = s.ptes ∧
    (s.setRegs v).xlates = s.xlates ∧
    (s.setRegs v).time = s.time ∧
    (s.setRegs v).halt = s.halt ∧
    (s.setRegs v).sram = s.sram ∧
    (s.setRegs v).pageUe = s.pageUe ∧
    (s.setRegs v).unitUe = s.unitUe ∧
    (s.setRegs v).retired = s.retired ∧
    (s.setRegs v).cluOut = s.cluOut ∧
    (s.setRegs v).plant = s.plant ∧
    (s.setRegs v).tiles = s.tiles ∧
    (s.setRegs v).cells = s.cells ∧
    (s.setRegs v).occ = s.occ ∧
    (s.setRegs v).tcal = s.tcal ∧
    (s.setRegs v).recur = s.recur ∧
    (s.setRegs v).stDone = s.stDone ∧
    (s.setRegs v).chips = s.chips ∧
    (s.setRegs v).meshTbl = s.meshTbl ∧
    (s.setRegs v).rings = s.rings ∧
    (s.setRegs v).lanes = s.lanes ∧
    (s.setRegs v).dirs = s.dirs ∧
    (s.setRegs v).mons = s.mons ∧
    (s.setRegs v).halves = s.halves ∧
    (s.setRegs v).exts = s.exts ∧
    (s.setRegs v).feedFwd = s.feedFwd ∧
    (s.setRegs v).splitAt = s.splitAt ∧
    (s.setRegs v).returnAt = s.returnAt ∧
    (s.setRegs v).store = s.store ∧
    (s.setRegs v).writes = s.writes ∧
    (s.setRegs v).stages = s.stages ∧
    (s.setRegs v).quads = s.quads ∧
    (s.setRegs v).homework = s.homework ∧
    (s.setRegs v).firstForm = s.firstForm ∧
    (s.setRegs v).readbackAt = s.readbackAt ∧
    (s.setRegs v).loadWait = s.loadWait ∧
    (s.setRegs v).feedMove = s.feedMove ∧
    (s.setRegs v).bridgeBuild = s.bridgeBuild ∧
    (s.setRegs v).clk = s.clk ∧
    (s.setRegs v).pwr = s.pwr ∧
    (s.setRegs v).sensors = s.sensors ∧
    (s.setRegs v).nvArr = s.nvArr ∧
    (s.setRegs v).nvShadow = s.nvShadow ∧
    (s.setRegs v).nvRun = s.nvRun ∧
    (s.setRegs v).boot = s.boot ∧
    (s.setRegs v).fw = s.fw ∧
    (s.setRegs v).sup = s.sup :=
  ⟨rfl, rfl, rfl, rfl, rfl, rfl, rfl, rfl, rfl, rfl, rfl, rfl, rfl, rfl, rfl, rfl, rfl, rfl, rfl, rfl, rfl, rfl, rfl, rfl, rfl, rfl, rfl, rfl, rfl, rfl, rfl, rfl, rfl, rfl, rfl, rfl, rfl, rfl, rfl, rfl, rfl, rfl, rfl, rfl, rfl, rfl, rfl, rfl, rfl, rfl, rfl, rfl, rfl, rfl, rfl, rfl, rfl, rfl, rfl, rfl, rfl, rfl, rfl, rfl, rfl, rfl, rfl, rfl, rfl, rfl, rfl, rfl, rfl, rfl, rfl, rfl⟩

/-- Replacing `inForce` replaces it and leaves every other field. -/
@[simp] theorem State.setInForce_frame (s : State) (v : Sparse Word) :
    (s.setInForce v).inForce = v ∧
    (s.setInForce v).now = s.now ∧
    (s.setInForce v).freeIx = s.freeIx ∧
    (s.setInForce v).pending = s.pending ∧
    (s.setInForce v).regs = s.regs ∧
    (s.setInForce v).wb = s.wb ∧
    (s.setInForce v).shadow = s.shadow ∧
    (s.setInForce v).bus = s.bus ∧
    (s.setInForce v).mbxOrder = s.mbxOrder ∧
    (s.setInForce v).staging = s.staging ∧
    (s.setInForce v).jobs = s.jobs ∧
    (s.setInForce v).binds = s.binds ∧
    (s.setInForce v).batches = s.batches ∧
    (s.setInForce v).tagsHeld = s.tagsHeld ∧
    (s.setInForce v).tagAt = s.tagAt ∧
    (s.setInForce v).arrived = s.arrived ∧
    (s.setInForce v).outs = s.outs ∧
    (s.setInForce v).recQ = s.recQ ∧
    (s.setInForce v).recSeq = s.recSeq ∧
    (s.setInForce v).tx = s.tx ∧
    (s.setInForce v).chans = s.chans ∧
    (s.setInForce v).ingest = s.ingest ∧
    (s.setInForce v).drops = s.drops ∧
    (s.setInForce v).misses = s.misses ∧
    (s.setInForce v).arms = s.arms ∧
    (s.setInForce v).bulk = s.bulk ∧
    (s.setInForce v).rxAt = s.rxAt ∧
    (s.setInForce v).fabric = s.fabric ∧
    (s.setInForce v).grantRr = s.grantRr ∧
    (s.setInForce v).slots = s.slots ∧
    (s.setInForce v).ptes = s.ptes ∧
    (s.setInForce v).xlates = s.xlates ∧
    (s.setInForce v).time = s.time ∧
    (s.setInForce v).halt = s.halt ∧
    (s.setInForce v).sram = s.sram ∧
    (s.setInForce v).pageUe = s.pageUe ∧
    (s.setInForce v).unitUe = s.unitUe ∧
    (s.setInForce v).retired = s.retired ∧
    (s.setInForce v).cluOut = s.cluOut ∧
    (s.setInForce v).plant = s.plant ∧
    (s.setInForce v).tiles = s.tiles ∧
    (s.setInForce v).cells = s.cells ∧
    (s.setInForce v).occ = s.occ ∧
    (s.setInForce v).tcal = s.tcal ∧
    (s.setInForce v).recur = s.recur ∧
    (s.setInForce v).stDone = s.stDone ∧
    (s.setInForce v).chips = s.chips ∧
    (s.setInForce v).meshTbl = s.meshTbl ∧
    (s.setInForce v).rings = s.rings ∧
    (s.setInForce v).lanes = s.lanes ∧
    (s.setInForce v).dirs = s.dirs ∧
    (s.setInForce v).mons = s.mons ∧
    (s.setInForce v).halves = s.halves ∧
    (s.setInForce v).exts = s.exts ∧
    (s.setInForce v).feedFwd = s.feedFwd ∧
    (s.setInForce v).splitAt = s.splitAt ∧
    (s.setInForce v).returnAt = s.returnAt ∧
    (s.setInForce v).store = s.store ∧
    (s.setInForce v).writes = s.writes ∧
    (s.setInForce v).stages = s.stages ∧
    (s.setInForce v).quads = s.quads ∧
    (s.setInForce v).homework = s.homework ∧
    (s.setInForce v).firstForm = s.firstForm ∧
    (s.setInForce v).readbackAt = s.readbackAt ∧
    (s.setInForce v).loadWait = s.loadWait ∧
    (s.setInForce v).feedMove = s.feedMove ∧
    (s.setInForce v).bridgeBuild = s.bridgeBuild ∧
    (s.setInForce v).clk = s.clk ∧
    (s.setInForce v).pwr = s.pwr ∧
    (s.setInForce v).sensors = s.sensors ∧
    (s.setInForce v).nvArr = s.nvArr ∧
    (s.setInForce v).nvShadow = s.nvShadow ∧
    (s.setInForce v).nvRun = s.nvRun ∧
    (s.setInForce v).boot = s.boot ∧
    (s.setInForce v).fw = s.fw ∧
    (s.setInForce v).sup = s.sup :=
  ⟨rfl, rfl, rfl, rfl, rfl, rfl, rfl, rfl, rfl, rfl, rfl, rfl, rfl, rfl, rfl, rfl, rfl, rfl, rfl, rfl, rfl, rfl, rfl, rfl, rfl, rfl, rfl, rfl, rfl, rfl, rfl, rfl, rfl, rfl, rfl, rfl, rfl, rfl, rfl, rfl, rfl, rfl, rfl, rfl, rfl, rfl, rfl, rfl, rfl, rfl, rfl, rfl, rfl, rfl, rfl, rfl, rfl, rfl, rfl, rfl, rfl, rfl, rfl, rfl, rfl, rfl, rfl, rfl, rfl, rfl, rfl, rfl, rfl, rfl, rfl, rfl⟩

/-- Replacing `wb` replaces it and leaves every other field. -/
@[simp] theorem State.setWb_frame (s : State) (v : Sparse (Option WriteBack)) :
    (s.setWb v).wb = v ∧
    (s.setWb v).now = s.now ∧
    (s.setWb v).freeIx = s.freeIx ∧
    (s.setWb v).pending = s.pending ∧
    (s.setWb v).regs = s.regs ∧
    (s.setWb v).inForce = s.inForce ∧
    (s.setWb v).shadow = s.shadow ∧
    (s.setWb v).bus = s.bus ∧
    (s.setWb v).mbxOrder = s.mbxOrder ∧
    (s.setWb v).staging = s.staging ∧
    (s.setWb v).jobs = s.jobs ∧
    (s.setWb v).binds = s.binds ∧
    (s.setWb v).batches = s.batches ∧
    (s.setWb v).tagsHeld = s.tagsHeld ∧
    (s.setWb v).tagAt = s.tagAt ∧
    (s.setWb v).arrived = s.arrived ∧
    (s.setWb v).outs = s.outs ∧
    (s.setWb v).recQ = s.recQ ∧
    (s.setWb v).recSeq = s.recSeq ∧
    (s.setWb v).tx = s.tx ∧
    (s.setWb v).chans = s.chans ∧
    (s.setWb v).ingest = s.ingest ∧
    (s.setWb v).drops = s.drops ∧
    (s.setWb v).misses = s.misses ∧
    (s.setWb v).arms = s.arms ∧
    (s.setWb v).bulk = s.bulk ∧
    (s.setWb v).rxAt = s.rxAt ∧
    (s.setWb v).fabric = s.fabric ∧
    (s.setWb v).grantRr = s.grantRr ∧
    (s.setWb v).slots = s.slots ∧
    (s.setWb v).ptes = s.ptes ∧
    (s.setWb v).xlates = s.xlates ∧
    (s.setWb v).time = s.time ∧
    (s.setWb v).halt = s.halt ∧
    (s.setWb v).sram = s.sram ∧
    (s.setWb v).pageUe = s.pageUe ∧
    (s.setWb v).unitUe = s.unitUe ∧
    (s.setWb v).retired = s.retired ∧
    (s.setWb v).cluOut = s.cluOut ∧
    (s.setWb v).plant = s.plant ∧
    (s.setWb v).tiles = s.tiles ∧
    (s.setWb v).cells = s.cells ∧
    (s.setWb v).occ = s.occ ∧
    (s.setWb v).tcal = s.tcal ∧
    (s.setWb v).recur = s.recur ∧
    (s.setWb v).stDone = s.stDone ∧
    (s.setWb v).chips = s.chips ∧
    (s.setWb v).meshTbl = s.meshTbl ∧
    (s.setWb v).rings = s.rings ∧
    (s.setWb v).lanes = s.lanes ∧
    (s.setWb v).dirs = s.dirs ∧
    (s.setWb v).mons = s.mons ∧
    (s.setWb v).halves = s.halves ∧
    (s.setWb v).exts = s.exts ∧
    (s.setWb v).feedFwd = s.feedFwd ∧
    (s.setWb v).splitAt = s.splitAt ∧
    (s.setWb v).returnAt = s.returnAt ∧
    (s.setWb v).store = s.store ∧
    (s.setWb v).writes = s.writes ∧
    (s.setWb v).stages = s.stages ∧
    (s.setWb v).quads = s.quads ∧
    (s.setWb v).homework = s.homework ∧
    (s.setWb v).firstForm = s.firstForm ∧
    (s.setWb v).readbackAt = s.readbackAt ∧
    (s.setWb v).loadWait = s.loadWait ∧
    (s.setWb v).feedMove = s.feedMove ∧
    (s.setWb v).bridgeBuild = s.bridgeBuild ∧
    (s.setWb v).clk = s.clk ∧
    (s.setWb v).pwr = s.pwr ∧
    (s.setWb v).sensors = s.sensors ∧
    (s.setWb v).nvArr = s.nvArr ∧
    (s.setWb v).nvShadow = s.nvShadow ∧
    (s.setWb v).nvRun = s.nvRun ∧
    (s.setWb v).boot = s.boot ∧
    (s.setWb v).fw = s.fw ∧
    (s.setWb v).sup = s.sup :=
  ⟨rfl, rfl, rfl, rfl, rfl, rfl, rfl, rfl, rfl, rfl, rfl, rfl, rfl, rfl, rfl, rfl, rfl, rfl, rfl, rfl, rfl, rfl, rfl, rfl, rfl, rfl, rfl, rfl, rfl, rfl, rfl, rfl, rfl, rfl, rfl, rfl, rfl, rfl, rfl, rfl, rfl, rfl, rfl, rfl, rfl, rfl, rfl, rfl, rfl, rfl, rfl, rfl, rfl, rfl, rfl, rfl, rfl, rfl, rfl, rfl, rfl, rfl, rfl, rfl, rfl, rfl, rfl, rfl, rfl, rfl, rfl, rfl, rfl, rfl, rfl, rfl⟩

/-- Replacing `shadow` replaces it and leaves every other field. -/
@[simp] theorem State.setShadow_frame (s : State) (v : Sparse (Option Word)) :
    (s.setShadow v).shadow = v ∧
    (s.setShadow v).now = s.now ∧
    (s.setShadow v).freeIx = s.freeIx ∧
    (s.setShadow v).pending = s.pending ∧
    (s.setShadow v).regs = s.regs ∧
    (s.setShadow v).inForce = s.inForce ∧
    (s.setShadow v).wb = s.wb ∧
    (s.setShadow v).bus = s.bus ∧
    (s.setShadow v).mbxOrder = s.mbxOrder ∧
    (s.setShadow v).staging = s.staging ∧
    (s.setShadow v).jobs = s.jobs ∧
    (s.setShadow v).binds = s.binds ∧
    (s.setShadow v).batches = s.batches ∧
    (s.setShadow v).tagsHeld = s.tagsHeld ∧
    (s.setShadow v).tagAt = s.tagAt ∧
    (s.setShadow v).arrived = s.arrived ∧
    (s.setShadow v).outs = s.outs ∧
    (s.setShadow v).recQ = s.recQ ∧
    (s.setShadow v).recSeq = s.recSeq ∧
    (s.setShadow v).tx = s.tx ∧
    (s.setShadow v).chans = s.chans ∧
    (s.setShadow v).ingest = s.ingest ∧
    (s.setShadow v).drops = s.drops ∧
    (s.setShadow v).misses = s.misses ∧
    (s.setShadow v).arms = s.arms ∧
    (s.setShadow v).bulk = s.bulk ∧
    (s.setShadow v).rxAt = s.rxAt ∧
    (s.setShadow v).fabric = s.fabric ∧
    (s.setShadow v).grantRr = s.grantRr ∧
    (s.setShadow v).slots = s.slots ∧
    (s.setShadow v).ptes = s.ptes ∧
    (s.setShadow v).xlates = s.xlates ∧
    (s.setShadow v).time = s.time ∧
    (s.setShadow v).halt = s.halt ∧
    (s.setShadow v).sram = s.sram ∧
    (s.setShadow v).pageUe = s.pageUe ∧
    (s.setShadow v).unitUe = s.unitUe ∧
    (s.setShadow v).retired = s.retired ∧
    (s.setShadow v).cluOut = s.cluOut ∧
    (s.setShadow v).plant = s.plant ∧
    (s.setShadow v).tiles = s.tiles ∧
    (s.setShadow v).cells = s.cells ∧
    (s.setShadow v).occ = s.occ ∧
    (s.setShadow v).tcal = s.tcal ∧
    (s.setShadow v).recur = s.recur ∧
    (s.setShadow v).stDone = s.stDone ∧
    (s.setShadow v).chips = s.chips ∧
    (s.setShadow v).meshTbl = s.meshTbl ∧
    (s.setShadow v).rings = s.rings ∧
    (s.setShadow v).lanes = s.lanes ∧
    (s.setShadow v).dirs = s.dirs ∧
    (s.setShadow v).mons = s.mons ∧
    (s.setShadow v).halves = s.halves ∧
    (s.setShadow v).exts = s.exts ∧
    (s.setShadow v).feedFwd = s.feedFwd ∧
    (s.setShadow v).splitAt = s.splitAt ∧
    (s.setShadow v).returnAt = s.returnAt ∧
    (s.setShadow v).store = s.store ∧
    (s.setShadow v).writes = s.writes ∧
    (s.setShadow v).stages = s.stages ∧
    (s.setShadow v).quads = s.quads ∧
    (s.setShadow v).homework = s.homework ∧
    (s.setShadow v).firstForm = s.firstForm ∧
    (s.setShadow v).readbackAt = s.readbackAt ∧
    (s.setShadow v).loadWait = s.loadWait ∧
    (s.setShadow v).feedMove = s.feedMove ∧
    (s.setShadow v).bridgeBuild = s.bridgeBuild ∧
    (s.setShadow v).clk = s.clk ∧
    (s.setShadow v).pwr = s.pwr ∧
    (s.setShadow v).sensors = s.sensors ∧
    (s.setShadow v).nvArr = s.nvArr ∧
    (s.setShadow v).nvShadow = s.nvShadow ∧
    (s.setShadow v).nvRun = s.nvRun ∧
    (s.setShadow v).boot = s.boot ∧
    (s.setShadow v).fw = s.fw ∧
    (s.setShadow v).sup = s.sup :=
  ⟨rfl, rfl, rfl, rfl, rfl, rfl, rfl, rfl, rfl, rfl, rfl, rfl, rfl, rfl, rfl, rfl, rfl, rfl, rfl, rfl, rfl, rfl, rfl, rfl, rfl, rfl, rfl, rfl, rfl, rfl, rfl, rfl, rfl, rfl, rfl, rfl, rfl, rfl, rfl, rfl, rfl, rfl, rfl, rfl, rfl, rfl, rfl, rfl, rfl, rfl, rfl, rfl, rfl, rfl, rfl, rfl, rfl, rfl, rfl, rfl, rfl, rfl, rfl, rfl, rfl, rfl, rfl, rfl, rfl, rfl, rfl, rfl, rfl, rfl, rfl, rfl⟩

/-- Replacing `bus` replaces it and leaves every other field. -/
@[simp] theorem State.setBus_frame (s : State) (v : Bus) :
    (s.setBus v).bus = v ∧
    (s.setBus v).now = s.now ∧
    (s.setBus v).freeIx = s.freeIx ∧
    (s.setBus v).pending = s.pending ∧
    (s.setBus v).regs = s.regs ∧
    (s.setBus v).inForce = s.inForce ∧
    (s.setBus v).wb = s.wb ∧
    (s.setBus v).shadow = s.shadow ∧
    (s.setBus v).mbxOrder = s.mbxOrder ∧
    (s.setBus v).staging = s.staging ∧
    (s.setBus v).jobs = s.jobs ∧
    (s.setBus v).binds = s.binds ∧
    (s.setBus v).batches = s.batches ∧
    (s.setBus v).tagsHeld = s.tagsHeld ∧
    (s.setBus v).tagAt = s.tagAt ∧
    (s.setBus v).arrived = s.arrived ∧
    (s.setBus v).outs = s.outs ∧
    (s.setBus v).recQ = s.recQ ∧
    (s.setBus v).recSeq = s.recSeq ∧
    (s.setBus v).tx = s.tx ∧
    (s.setBus v).chans = s.chans ∧
    (s.setBus v).ingest = s.ingest ∧
    (s.setBus v).drops = s.drops ∧
    (s.setBus v).misses = s.misses ∧
    (s.setBus v).arms = s.arms ∧
    (s.setBus v).bulk = s.bulk ∧
    (s.setBus v).rxAt = s.rxAt ∧
    (s.setBus v).fabric = s.fabric ∧
    (s.setBus v).grantRr = s.grantRr ∧
    (s.setBus v).slots = s.slots ∧
    (s.setBus v).ptes = s.ptes ∧
    (s.setBus v).xlates = s.xlates ∧
    (s.setBus v).time = s.time ∧
    (s.setBus v).halt = s.halt ∧
    (s.setBus v).sram = s.sram ∧
    (s.setBus v).pageUe = s.pageUe ∧
    (s.setBus v).unitUe = s.unitUe ∧
    (s.setBus v).retired = s.retired ∧
    (s.setBus v).cluOut = s.cluOut ∧
    (s.setBus v).plant = s.plant ∧
    (s.setBus v).tiles = s.tiles ∧
    (s.setBus v).cells = s.cells ∧
    (s.setBus v).occ = s.occ ∧
    (s.setBus v).tcal = s.tcal ∧
    (s.setBus v).recur = s.recur ∧
    (s.setBus v).stDone = s.stDone ∧
    (s.setBus v).chips = s.chips ∧
    (s.setBus v).meshTbl = s.meshTbl ∧
    (s.setBus v).rings = s.rings ∧
    (s.setBus v).lanes = s.lanes ∧
    (s.setBus v).dirs = s.dirs ∧
    (s.setBus v).mons = s.mons ∧
    (s.setBus v).halves = s.halves ∧
    (s.setBus v).exts = s.exts ∧
    (s.setBus v).feedFwd = s.feedFwd ∧
    (s.setBus v).splitAt = s.splitAt ∧
    (s.setBus v).returnAt = s.returnAt ∧
    (s.setBus v).store = s.store ∧
    (s.setBus v).writes = s.writes ∧
    (s.setBus v).stages = s.stages ∧
    (s.setBus v).quads = s.quads ∧
    (s.setBus v).homework = s.homework ∧
    (s.setBus v).firstForm = s.firstForm ∧
    (s.setBus v).readbackAt = s.readbackAt ∧
    (s.setBus v).loadWait = s.loadWait ∧
    (s.setBus v).feedMove = s.feedMove ∧
    (s.setBus v).bridgeBuild = s.bridgeBuild ∧
    (s.setBus v).clk = s.clk ∧
    (s.setBus v).pwr = s.pwr ∧
    (s.setBus v).sensors = s.sensors ∧
    (s.setBus v).nvArr = s.nvArr ∧
    (s.setBus v).nvShadow = s.nvShadow ∧
    (s.setBus v).nvRun = s.nvRun ∧
    (s.setBus v).boot = s.boot ∧
    (s.setBus v).fw = s.fw ∧
    (s.setBus v).sup = s.sup :=
  ⟨rfl, rfl, rfl, rfl, rfl, rfl, rfl, rfl, rfl, rfl, rfl, rfl, rfl, rfl, rfl, rfl, rfl, rfl, rfl, rfl, rfl, rfl, rfl, rfl, rfl, rfl, rfl, rfl, rfl, rfl, rfl, rfl, rfl, rfl, rfl, rfl, rfl, rfl, rfl, rfl, rfl, rfl, rfl, rfl, rfl, rfl, rfl, rfl, rfl, rfl, rfl, rfl, rfl, rfl, rfl, rfl, rfl, rfl, rfl, rfl, rfl, rfl, rfl, rfl, rfl, rfl, rfl, rfl, rfl, rfl, rfl, rfl, rfl, rfl, rfl, rfl⟩

/-- Replacing `mbxOrder` replaces it and leaves every other field. -/
@[simp] theorem State.setMbxOrder_frame (s : State) (v : List Nat) :
    (s.setMbxOrder v).mbxOrder = v ∧
    (s.setMbxOrder v).now = s.now ∧
    (s.setMbxOrder v).freeIx = s.freeIx ∧
    (s.setMbxOrder v).pending = s.pending ∧
    (s.setMbxOrder v).regs = s.regs ∧
    (s.setMbxOrder v).inForce = s.inForce ∧
    (s.setMbxOrder v).wb = s.wb ∧
    (s.setMbxOrder v).shadow = s.shadow ∧
    (s.setMbxOrder v).bus = s.bus ∧
    (s.setMbxOrder v).staging = s.staging ∧
    (s.setMbxOrder v).jobs = s.jobs ∧
    (s.setMbxOrder v).binds = s.binds ∧
    (s.setMbxOrder v).batches = s.batches ∧
    (s.setMbxOrder v).tagsHeld = s.tagsHeld ∧
    (s.setMbxOrder v).tagAt = s.tagAt ∧
    (s.setMbxOrder v).arrived = s.arrived ∧
    (s.setMbxOrder v).outs = s.outs ∧
    (s.setMbxOrder v).recQ = s.recQ ∧
    (s.setMbxOrder v).recSeq = s.recSeq ∧
    (s.setMbxOrder v).tx = s.tx ∧
    (s.setMbxOrder v).chans = s.chans ∧
    (s.setMbxOrder v).ingest = s.ingest ∧
    (s.setMbxOrder v).drops = s.drops ∧
    (s.setMbxOrder v).misses = s.misses ∧
    (s.setMbxOrder v).arms = s.arms ∧
    (s.setMbxOrder v).bulk = s.bulk ∧
    (s.setMbxOrder v).rxAt = s.rxAt ∧
    (s.setMbxOrder v).fabric = s.fabric ∧
    (s.setMbxOrder v).grantRr = s.grantRr ∧
    (s.setMbxOrder v).slots = s.slots ∧
    (s.setMbxOrder v).ptes = s.ptes ∧
    (s.setMbxOrder v).xlates = s.xlates ∧
    (s.setMbxOrder v).time = s.time ∧
    (s.setMbxOrder v).halt = s.halt ∧
    (s.setMbxOrder v).sram = s.sram ∧
    (s.setMbxOrder v).pageUe = s.pageUe ∧
    (s.setMbxOrder v).unitUe = s.unitUe ∧
    (s.setMbxOrder v).retired = s.retired ∧
    (s.setMbxOrder v).cluOut = s.cluOut ∧
    (s.setMbxOrder v).plant = s.plant ∧
    (s.setMbxOrder v).tiles = s.tiles ∧
    (s.setMbxOrder v).cells = s.cells ∧
    (s.setMbxOrder v).occ = s.occ ∧
    (s.setMbxOrder v).tcal = s.tcal ∧
    (s.setMbxOrder v).recur = s.recur ∧
    (s.setMbxOrder v).stDone = s.stDone ∧
    (s.setMbxOrder v).chips = s.chips ∧
    (s.setMbxOrder v).meshTbl = s.meshTbl ∧
    (s.setMbxOrder v).rings = s.rings ∧
    (s.setMbxOrder v).lanes = s.lanes ∧
    (s.setMbxOrder v).dirs = s.dirs ∧
    (s.setMbxOrder v).mons = s.mons ∧
    (s.setMbxOrder v).halves = s.halves ∧
    (s.setMbxOrder v).exts = s.exts ∧
    (s.setMbxOrder v).feedFwd = s.feedFwd ∧
    (s.setMbxOrder v).splitAt = s.splitAt ∧
    (s.setMbxOrder v).returnAt = s.returnAt ∧
    (s.setMbxOrder v).store = s.store ∧
    (s.setMbxOrder v).writes = s.writes ∧
    (s.setMbxOrder v).stages = s.stages ∧
    (s.setMbxOrder v).quads = s.quads ∧
    (s.setMbxOrder v).homework = s.homework ∧
    (s.setMbxOrder v).firstForm = s.firstForm ∧
    (s.setMbxOrder v).readbackAt = s.readbackAt ∧
    (s.setMbxOrder v).loadWait = s.loadWait ∧
    (s.setMbxOrder v).feedMove = s.feedMove ∧
    (s.setMbxOrder v).bridgeBuild = s.bridgeBuild ∧
    (s.setMbxOrder v).clk = s.clk ∧
    (s.setMbxOrder v).pwr = s.pwr ∧
    (s.setMbxOrder v).sensors = s.sensors ∧
    (s.setMbxOrder v).nvArr = s.nvArr ∧
    (s.setMbxOrder v).nvShadow = s.nvShadow ∧
    (s.setMbxOrder v).nvRun = s.nvRun ∧
    (s.setMbxOrder v).boot = s.boot ∧
    (s.setMbxOrder v).fw = s.fw ∧
    (s.setMbxOrder v).sup = s.sup :=
  ⟨rfl, rfl, rfl, rfl, rfl, rfl, rfl, rfl, rfl, rfl, rfl, rfl, rfl, rfl, rfl, rfl, rfl, rfl, rfl, rfl, rfl, rfl, rfl, rfl, rfl, rfl, rfl, rfl, rfl, rfl, rfl, rfl, rfl, rfl, rfl, rfl, rfl, rfl, rfl, rfl, rfl, rfl, rfl, rfl, rfl, rfl, rfl, rfl, rfl, rfl, rfl, rfl, rfl, rfl, rfl, rfl, rfl, rfl, rfl, rfl, rfl, rfl, rfl, rfl, rfl, rfl, rfl, rfl, rfl, rfl, rfl, rfl, rfl, rfl, rfl, rfl⟩

/-- Replacing `staging` replaces it and leaves every other field. -/
@[simp] theorem State.setStaging_frame (s : State) (v : Sparse Byte) :
    (s.setStaging v).staging = v ∧
    (s.setStaging v).now = s.now ∧
    (s.setStaging v).freeIx = s.freeIx ∧
    (s.setStaging v).pending = s.pending ∧
    (s.setStaging v).regs = s.regs ∧
    (s.setStaging v).inForce = s.inForce ∧
    (s.setStaging v).wb = s.wb ∧
    (s.setStaging v).shadow = s.shadow ∧
    (s.setStaging v).bus = s.bus ∧
    (s.setStaging v).mbxOrder = s.mbxOrder ∧
    (s.setStaging v).jobs = s.jobs ∧
    (s.setStaging v).binds = s.binds ∧
    (s.setStaging v).batches = s.batches ∧
    (s.setStaging v).tagsHeld = s.tagsHeld ∧
    (s.setStaging v).tagAt = s.tagAt ∧
    (s.setStaging v).arrived = s.arrived ∧
    (s.setStaging v).outs = s.outs ∧
    (s.setStaging v).recQ = s.recQ ∧
    (s.setStaging v).recSeq = s.recSeq ∧
    (s.setStaging v).tx = s.tx ∧
    (s.setStaging v).chans = s.chans ∧
    (s.setStaging v).ingest = s.ingest ∧
    (s.setStaging v).drops = s.drops ∧
    (s.setStaging v).misses = s.misses ∧
    (s.setStaging v).arms = s.arms ∧
    (s.setStaging v).bulk = s.bulk ∧
    (s.setStaging v).rxAt = s.rxAt ∧
    (s.setStaging v).fabric = s.fabric ∧
    (s.setStaging v).grantRr = s.grantRr ∧
    (s.setStaging v).slots = s.slots ∧
    (s.setStaging v).ptes = s.ptes ∧
    (s.setStaging v).xlates = s.xlates ∧
    (s.setStaging v).time = s.time ∧
    (s.setStaging v).halt = s.halt ∧
    (s.setStaging v).sram = s.sram ∧
    (s.setStaging v).pageUe = s.pageUe ∧
    (s.setStaging v).unitUe = s.unitUe ∧
    (s.setStaging v).retired = s.retired ∧
    (s.setStaging v).cluOut = s.cluOut ∧
    (s.setStaging v).plant = s.plant ∧
    (s.setStaging v).tiles = s.tiles ∧
    (s.setStaging v).cells = s.cells ∧
    (s.setStaging v).occ = s.occ ∧
    (s.setStaging v).tcal = s.tcal ∧
    (s.setStaging v).recur = s.recur ∧
    (s.setStaging v).stDone = s.stDone ∧
    (s.setStaging v).chips = s.chips ∧
    (s.setStaging v).meshTbl = s.meshTbl ∧
    (s.setStaging v).rings = s.rings ∧
    (s.setStaging v).lanes = s.lanes ∧
    (s.setStaging v).dirs = s.dirs ∧
    (s.setStaging v).mons = s.mons ∧
    (s.setStaging v).halves = s.halves ∧
    (s.setStaging v).exts = s.exts ∧
    (s.setStaging v).feedFwd = s.feedFwd ∧
    (s.setStaging v).splitAt = s.splitAt ∧
    (s.setStaging v).returnAt = s.returnAt ∧
    (s.setStaging v).store = s.store ∧
    (s.setStaging v).writes = s.writes ∧
    (s.setStaging v).stages = s.stages ∧
    (s.setStaging v).quads = s.quads ∧
    (s.setStaging v).homework = s.homework ∧
    (s.setStaging v).firstForm = s.firstForm ∧
    (s.setStaging v).readbackAt = s.readbackAt ∧
    (s.setStaging v).loadWait = s.loadWait ∧
    (s.setStaging v).feedMove = s.feedMove ∧
    (s.setStaging v).bridgeBuild = s.bridgeBuild ∧
    (s.setStaging v).clk = s.clk ∧
    (s.setStaging v).pwr = s.pwr ∧
    (s.setStaging v).sensors = s.sensors ∧
    (s.setStaging v).nvArr = s.nvArr ∧
    (s.setStaging v).nvShadow = s.nvShadow ∧
    (s.setStaging v).nvRun = s.nvRun ∧
    (s.setStaging v).boot = s.boot ∧
    (s.setStaging v).fw = s.fw ∧
    (s.setStaging v).sup = s.sup :=
  ⟨rfl, rfl, rfl, rfl, rfl, rfl, rfl, rfl, rfl, rfl, rfl, rfl, rfl, rfl, rfl, rfl, rfl, rfl, rfl, rfl, rfl, rfl, rfl, rfl, rfl, rfl, rfl, rfl, rfl, rfl, rfl, rfl, rfl, rfl, rfl, rfl, rfl, rfl, rfl, rfl, rfl, rfl, rfl, rfl, rfl, rfl, rfl, rfl, rfl, rfl, rfl, rfl, rfl, rfl, rfl, rfl, rfl, rfl, rfl, rfl, rfl, rfl, rfl, rfl, rfl, rfl, rfl, rfl, rfl, rfl, rfl, rfl, rfl, rfl, rfl, rfl⟩

/-- Replacing `jobs` replaces it and leaves every other field. -/
@[simp] theorem State.setJobs_frame (s : State) (v : Sparse Job) :
    (s.setJobs v).jobs = v ∧
    (s.setJobs v).now = s.now ∧
    (s.setJobs v).freeIx = s.freeIx ∧
    (s.setJobs v).pending = s.pending ∧
    (s.setJobs v).regs = s.regs ∧
    (s.setJobs v).inForce = s.inForce ∧
    (s.setJobs v).wb = s.wb ∧
    (s.setJobs v).shadow = s.shadow ∧
    (s.setJobs v).bus = s.bus ∧
    (s.setJobs v).mbxOrder = s.mbxOrder ∧
    (s.setJobs v).staging = s.staging ∧
    (s.setJobs v).binds = s.binds ∧
    (s.setJobs v).batches = s.batches ∧
    (s.setJobs v).tagsHeld = s.tagsHeld ∧
    (s.setJobs v).tagAt = s.tagAt ∧
    (s.setJobs v).arrived = s.arrived ∧
    (s.setJobs v).outs = s.outs ∧
    (s.setJobs v).recQ = s.recQ ∧
    (s.setJobs v).recSeq = s.recSeq ∧
    (s.setJobs v).tx = s.tx ∧
    (s.setJobs v).chans = s.chans ∧
    (s.setJobs v).ingest = s.ingest ∧
    (s.setJobs v).drops = s.drops ∧
    (s.setJobs v).misses = s.misses ∧
    (s.setJobs v).arms = s.arms ∧
    (s.setJobs v).bulk = s.bulk ∧
    (s.setJobs v).rxAt = s.rxAt ∧
    (s.setJobs v).fabric = s.fabric ∧
    (s.setJobs v).grantRr = s.grantRr ∧
    (s.setJobs v).slots = s.slots ∧
    (s.setJobs v).ptes = s.ptes ∧
    (s.setJobs v).xlates = s.xlates ∧
    (s.setJobs v).time = s.time ∧
    (s.setJobs v).halt = s.halt ∧
    (s.setJobs v).sram = s.sram ∧
    (s.setJobs v).pageUe = s.pageUe ∧
    (s.setJobs v).unitUe = s.unitUe ∧
    (s.setJobs v).retired = s.retired ∧
    (s.setJobs v).cluOut = s.cluOut ∧
    (s.setJobs v).plant = s.plant ∧
    (s.setJobs v).tiles = s.tiles ∧
    (s.setJobs v).cells = s.cells ∧
    (s.setJobs v).occ = s.occ ∧
    (s.setJobs v).tcal = s.tcal ∧
    (s.setJobs v).recur = s.recur ∧
    (s.setJobs v).stDone = s.stDone ∧
    (s.setJobs v).chips = s.chips ∧
    (s.setJobs v).meshTbl = s.meshTbl ∧
    (s.setJobs v).rings = s.rings ∧
    (s.setJobs v).lanes = s.lanes ∧
    (s.setJobs v).dirs = s.dirs ∧
    (s.setJobs v).mons = s.mons ∧
    (s.setJobs v).halves = s.halves ∧
    (s.setJobs v).exts = s.exts ∧
    (s.setJobs v).feedFwd = s.feedFwd ∧
    (s.setJobs v).splitAt = s.splitAt ∧
    (s.setJobs v).returnAt = s.returnAt ∧
    (s.setJobs v).store = s.store ∧
    (s.setJobs v).writes = s.writes ∧
    (s.setJobs v).stages = s.stages ∧
    (s.setJobs v).quads = s.quads ∧
    (s.setJobs v).homework = s.homework ∧
    (s.setJobs v).firstForm = s.firstForm ∧
    (s.setJobs v).readbackAt = s.readbackAt ∧
    (s.setJobs v).loadWait = s.loadWait ∧
    (s.setJobs v).feedMove = s.feedMove ∧
    (s.setJobs v).bridgeBuild = s.bridgeBuild ∧
    (s.setJobs v).clk = s.clk ∧
    (s.setJobs v).pwr = s.pwr ∧
    (s.setJobs v).sensors = s.sensors ∧
    (s.setJobs v).nvArr = s.nvArr ∧
    (s.setJobs v).nvShadow = s.nvShadow ∧
    (s.setJobs v).nvRun = s.nvRun ∧
    (s.setJobs v).boot = s.boot ∧
    (s.setJobs v).fw = s.fw ∧
    (s.setJobs v).sup = s.sup :=
  ⟨rfl, rfl, rfl, rfl, rfl, rfl, rfl, rfl, rfl, rfl, rfl, rfl, rfl, rfl, rfl, rfl, rfl, rfl, rfl, rfl, rfl, rfl, rfl, rfl, rfl, rfl, rfl, rfl, rfl, rfl, rfl, rfl, rfl, rfl, rfl, rfl, rfl, rfl, rfl, rfl, rfl, rfl, rfl, rfl, rfl, rfl, rfl, rfl, rfl, rfl, rfl, rfl, rfl, rfl, rfl, rfl, rfl, rfl, rfl, rfl, rfl, rfl, rfl, rfl, rfl, rfl, rfl, rfl, rfl, rfl, rfl, rfl, rfl, rfl, rfl, rfl⟩

/-- Replacing `binds` replaces it and leaves every other field. -/
@[simp] theorem State.setBinds_frame (s : State) (v : Sparse Bind) :
    (s.setBinds v).binds = v ∧
    (s.setBinds v).now = s.now ∧
    (s.setBinds v).freeIx = s.freeIx ∧
    (s.setBinds v).pending = s.pending ∧
    (s.setBinds v).regs = s.regs ∧
    (s.setBinds v).inForce = s.inForce ∧
    (s.setBinds v).wb = s.wb ∧
    (s.setBinds v).shadow = s.shadow ∧
    (s.setBinds v).bus = s.bus ∧
    (s.setBinds v).mbxOrder = s.mbxOrder ∧
    (s.setBinds v).staging = s.staging ∧
    (s.setBinds v).jobs = s.jobs ∧
    (s.setBinds v).batches = s.batches ∧
    (s.setBinds v).tagsHeld = s.tagsHeld ∧
    (s.setBinds v).tagAt = s.tagAt ∧
    (s.setBinds v).arrived = s.arrived ∧
    (s.setBinds v).outs = s.outs ∧
    (s.setBinds v).recQ = s.recQ ∧
    (s.setBinds v).recSeq = s.recSeq ∧
    (s.setBinds v).tx = s.tx ∧
    (s.setBinds v).chans = s.chans ∧
    (s.setBinds v).ingest = s.ingest ∧
    (s.setBinds v).drops = s.drops ∧
    (s.setBinds v).misses = s.misses ∧
    (s.setBinds v).arms = s.arms ∧
    (s.setBinds v).bulk = s.bulk ∧
    (s.setBinds v).rxAt = s.rxAt ∧
    (s.setBinds v).fabric = s.fabric ∧
    (s.setBinds v).grantRr = s.grantRr ∧
    (s.setBinds v).slots = s.slots ∧
    (s.setBinds v).ptes = s.ptes ∧
    (s.setBinds v).xlates = s.xlates ∧
    (s.setBinds v).time = s.time ∧
    (s.setBinds v).halt = s.halt ∧
    (s.setBinds v).sram = s.sram ∧
    (s.setBinds v).pageUe = s.pageUe ∧
    (s.setBinds v).unitUe = s.unitUe ∧
    (s.setBinds v).retired = s.retired ∧
    (s.setBinds v).cluOut = s.cluOut ∧
    (s.setBinds v).plant = s.plant ∧
    (s.setBinds v).tiles = s.tiles ∧
    (s.setBinds v).cells = s.cells ∧
    (s.setBinds v).occ = s.occ ∧
    (s.setBinds v).tcal = s.tcal ∧
    (s.setBinds v).recur = s.recur ∧
    (s.setBinds v).stDone = s.stDone ∧
    (s.setBinds v).chips = s.chips ∧
    (s.setBinds v).meshTbl = s.meshTbl ∧
    (s.setBinds v).rings = s.rings ∧
    (s.setBinds v).lanes = s.lanes ∧
    (s.setBinds v).dirs = s.dirs ∧
    (s.setBinds v).mons = s.mons ∧
    (s.setBinds v).halves = s.halves ∧
    (s.setBinds v).exts = s.exts ∧
    (s.setBinds v).feedFwd = s.feedFwd ∧
    (s.setBinds v).splitAt = s.splitAt ∧
    (s.setBinds v).returnAt = s.returnAt ∧
    (s.setBinds v).store = s.store ∧
    (s.setBinds v).writes = s.writes ∧
    (s.setBinds v).stages = s.stages ∧
    (s.setBinds v).quads = s.quads ∧
    (s.setBinds v).homework = s.homework ∧
    (s.setBinds v).firstForm = s.firstForm ∧
    (s.setBinds v).readbackAt = s.readbackAt ∧
    (s.setBinds v).loadWait = s.loadWait ∧
    (s.setBinds v).feedMove = s.feedMove ∧
    (s.setBinds v).bridgeBuild = s.bridgeBuild ∧
    (s.setBinds v).clk = s.clk ∧
    (s.setBinds v).pwr = s.pwr ∧
    (s.setBinds v).sensors = s.sensors ∧
    (s.setBinds v).nvArr = s.nvArr ∧
    (s.setBinds v).nvShadow = s.nvShadow ∧
    (s.setBinds v).nvRun = s.nvRun ∧
    (s.setBinds v).boot = s.boot ∧
    (s.setBinds v).fw = s.fw ∧
    (s.setBinds v).sup = s.sup :=
  ⟨rfl, rfl, rfl, rfl, rfl, rfl, rfl, rfl, rfl, rfl, rfl, rfl, rfl, rfl, rfl, rfl, rfl, rfl, rfl, rfl, rfl, rfl, rfl, rfl, rfl, rfl, rfl, rfl, rfl, rfl, rfl, rfl, rfl, rfl, rfl, rfl, rfl, rfl, rfl, rfl, rfl, rfl, rfl, rfl, rfl, rfl, rfl, rfl, rfl, rfl, rfl, rfl, rfl, rfl, rfl, rfl, rfl, rfl, rfl, rfl, rfl, rfl, rfl, rfl, rfl, rfl, rfl, rfl, rfl, rfl, rfl, rfl, rfl, rfl, rfl, rfl⟩

/-- Replacing `batches` replaces it and leaves every other field. -/
@[simp] theorem State.setBatches_frame (s : State) (v : List Batch) :
    (s.setBatches v).batches = v ∧
    (s.setBatches v).now = s.now ∧
    (s.setBatches v).freeIx = s.freeIx ∧
    (s.setBatches v).pending = s.pending ∧
    (s.setBatches v).regs = s.regs ∧
    (s.setBatches v).inForce = s.inForce ∧
    (s.setBatches v).wb = s.wb ∧
    (s.setBatches v).shadow = s.shadow ∧
    (s.setBatches v).bus = s.bus ∧
    (s.setBatches v).mbxOrder = s.mbxOrder ∧
    (s.setBatches v).staging = s.staging ∧
    (s.setBatches v).jobs = s.jobs ∧
    (s.setBatches v).binds = s.binds ∧
    (s.setBatches v).tagsHeld = s.tagsHeld ∧
    (s.setBatches v).tagAt = s.tagAt ∧
    (s.setBatches v).arrived = s.arrived ∧
    (s.setBatches v).outs = s.outs ∧
    (s.setBatches v).recQ = s.recQ ∧
    (s.setBatches v).recSeq = s.recSeq ∧
    (s.setBatches v).tx = s.tx ∧
    (s.setBatches v).chans = s.chans ∧
    (s.setBatches v).ingest = s.ingest ∧
    (s.setBatches v).drops = s.drops ∧
    (s.setBatches v).misses = s.misses ∧
    (s.setBatches v).arms = s.arms ∧
    (s.setBatches v).bulk = s.bulk ∧
    (s.setBatches v).rxAt = s.rxAt ∧
    (s.setBatches v).fabric = s.fabric ∧
    (s.setBatches v).grantRr = s.grantRr ∧
    (s.setBatches v).slots = s.slots ∧
    (s.setBatches v).ptes = s.ptes ∧
    (s.setBatches v).xlates = s.xlates ∧
    (s.setBatches v).time = s.time ∧
    (s.setBatches v).halt = s.halt ∧
    (s.setBatches v).sram = s.sram ∧
    (s.setBatches v).pageUe = s.pageUe ∧
    (s.setBatches v).unitUe = s.unitUe ∧
    (s.setBatches v).retired = s.retired ∧
    (s.setBatches v).cluOut = s.cluOut ∧
    (s.setBatches v).plant = s.plant ∧
    (s.setBatches v).tiles = s.tiles ∧
    (s.setBatches v).cells = s.cells ∧
    (s.setBatches v).occ = s.occ ∧
    (s.setBatches v).tcal = s.tcal ∧
    (s.setBatches v).recur = s.recur ∧
    (s.setBatches v).stDone = s.stDone ∧
    (s.setBatches v).chips = s.chips ∧
    (s.setBatches v).meshTbl = s.meshTbl ∧
    (s.setBatches v).rings = s.rings ∧
    (s.setBatches v).lanes = s.lanes ∧
    (s.setBatches v).dirs = s.dirs ∧
    (s.setBatches v).mons = s.mons ∧
    (s.setBatches v).halves = s.halves ∧
    (s.setBatches v).exts = s.exts ∧
    (s.setBatches v).feedFwd = s.feedFwd ∧
    (s.setBatches v).splitAt = s.splitAt ∧
    (s.setBatches v).returnAt = s.returnAt ∧
    (s.setBatches v).store = s.store ∧
    (s.setBatches v).writes = s.writes ∧
    (s.setBatches v).stages = s.stages ∧
    (s.setBatches v).quads = s.quads ∧
    (s.setBatches v).homework = s.homework ∧
    (s.setBatches v).firstForm = s.firstForm ∧
    (s.setBatches v).readbackAt = s.readbackAt ∧
    (s.setBatches v).loadWait = s.loadWait ∧
    (s.setBatches v).feedMove = s.feedMove ∧
    (s.setBatches v).bridgeBuild = s.bridgeBuild ∧
    (s.setBatches v).clk = s.clk ∧
    (s.setBatches v).pwr = s.pwr ∧
    (s.setBatches v).sensors = s.sensors ∧
    (s.setBatches v).nvArr = s.nvArr ∧
    (s.setBatches v).nvShadow = s.nvShadow ∧
    (s.setBatches v).nvRun = s.nvRun ∧
    (s.setBatches v).boot = s.boot ∧
    (s.setBatches v).fw = s.fw ∧
    (s.setBatches v).sup = s.sup :=
  ⟨rfl, rfl, rfl, rfl, rfl, rfl, rfl, rfl, rfl, rfl, rfl, rfl, rfl, rfl, rfl, rfl, rfl, rfl, rfl, rfl, rfl, rfl, rfl, rfl, rfl, rfl, rfl, rfl, rfl, rfl, rfl, rfl, rfl, rfl, rfl, rfl, rfl, rfl, rfl, rfl, rfl, rfl, rfl, rfl, rfl, rfl, rfl, rfl, rfl, rfl, rfl, rfl, rfl, rfl, rfl, rfl, rfl, rfl, rfl, rfl, rfl, rfl, rfl, rfl, rfl, rfl, rfl, rfl, rfl, rfl, rfl, rfl, rfl, rfl, rfl, rfl⟩

/-- Replacing `tagsHeld` replaces it and leaves every other field. -/
@[simp] theorem State.setTagsHeld_frame (s : State) (v : List (Nat × Nat)) :
    (s.setTagsHeld v).tagsHeld = v ∧
    (s.setTagsHeld v).now = s.now ∧
    (s.setTagsHeld v).freeIx = s.freeIx ∧
    (s.setTagsHeld v).pending = s.pending ∧
    (s.setTagsHeld v).regs = s.regs ∧
    (s.setTagsHeld v).inForce = s.inForce ∧
    (s.setTagsHeld v).wb = s.wb ∧
    (s.setTagsHeld v).shadow = s.shadow ∧
    (s.setTagsHeld v).bus = s.bus ∧
    (s.setTagsHeld v).mbxOrder = s.mbxOrder ∧
    (s.setTagsHeld v).staging = s.staging ∧
    (s.setTagsHeld v).jobs = s.jobs ∧
    (s.setTagsHeld v).binds = s.binds ∧
    (s.setTagsHeld v).batches = s.batches ∧
    (s.setTagsHeld v).tagAt = s.tagAt ∧
    (s.setTagsHeld v).arrived = s.arrived ∧
    (s.setTagsHeld v).outs = s.outs ∧
    (s.setTagsHeld v).recQ = s.recQ ∧
    (s.setTagsHeld v).recSeq = s.recSeq ∧
    (s.setTagsHeld v).tx = s.tx ∧
    (s.setTagsHeld v).chans = s.chans ∧
    (s.setTagsHeld v).ingest = s.ingest ∧
    (s.setTagsHeld v).drops = s.drops ∧
    (s.setTagsHeld v).misses = s.misses ∧
    (s.setTagsHeld v).arms = s.arms ∧
    (s.setTagsHeld v).bulk = s.bulk ∧
    (s.setTagsHeld v).rxAt = s.rxAt ∧
    (s.setTagsHeld v).fabric = s.fabric ∧
    (s.setTagsHeld v).grantRr = s.grantRr ∧
    (s.setTagsHeld v).slots = s.slots ∧
    (s.setTagsHeld v).ptes = s.ptes ∧
    (s.setTagsHeld v).xlates = s.xlates ∧
    (s.setTagsHeld v).time = s.time ∧
    (s.setTagsHeld v).halt = s.halt ∧
    (s.setTagsHeld v).sram = s.sram ∧
    (s.setTagsHeld v).pageUe = s.pageUe ∧
    (s.setTagsHeld v).unitUe = s.unitUe ∧
    (s.setTagsHeld v).retired = s.retired ∧
    (s.setTagsHeld v).cluOut = s.cluOut ∧
    (s.setTagsHeld v).plant = s.plant ∧
    (s.setTagsHeld v).tiles = s.tiles ∧
    (s.setTagsHeld v).cells = s.cells ∧
    (s.setTagsHeld v).occ = s.occ ∧
    (s.setTagsHeld v).tcal = s.tcal ∧
    (s.setTagsHeld v).recur = s.recur ∧
    (s.setTagsHeld v).stDone = s.stDone ∧
    (s.setTagsHeld v).chips = s.chips ∧
    (s.setTagsHeld v).meshTbl = s.meshTbl ∧
    (s.setTagsHeld v).rings = s.rings ∧
    (s.setTagsHeld v).lanes = s.lanes ∧
    (s.setTagsHeld v).dirs = s.dirs ∧
    (s.setTagsHeld v).mons = s.mons ∧
    (s.setTagsHeld v).halves = s.halves ∧
    (s.setTagsHeld v).exts = s.exts ∧
    (s.setTagsHeld v).feedFwd = s.feedFwd ∧
    (s.setTagsHeld v).splitAt = s.splitAt ∧
    (s.setTagsHeld v).returnAt = s.returnAt ∧
    (s.setTagsHeld v).store = s.store ∧
    (s.setTagsHeld v).writes = s.writes ∧
    (s.setTagsHeld v).stages = s.stages ∧
    (s.setTagsHeld v).quads = s.quads ∧
    (s.setTagsHeld v).homework = s.homework ∧
    (s.setTagsHeld v).firstForm = s.firstForm ∧
    (s.setTagsHeld v).readbackAt = s.readbackAt ∧
    (s.setTagsHeld v).loadWait = s.loadWait ∧
    (s.setTagsHeld v).feedMove = s.feedMove ∧
    (s.setTagsHeld v).bridgeBuild = s.bridgeBuild ∧
    (s.setTagsHeld v).clk = s.clk ∧
    (s.setTagsHeld v).pwr = s.pwr ∧
    (s.setTagsHeld v).sensors = s.sensors ∧
    (s.setTagsHeld v).nvArr = s.nvArr ∧
    (s.setTagsHeld v).nvShadow = s.nvShadow ∧
    (s.setTagsHeld v).nvRun = s.nvRun ∧
    (s.setTagsHeld v).boot = s.boot ∧
    (s.setTagsHeld v).fw = s.fw ∧
    (s.setTagsHeld v).sup = s.sup :=
  ⟨rfl, rfl, rfl, rfl, rfl, rfl, rfl, rfl, rfl, rfl, rfl, rfl, rfl, rfl, rfl, rfl, rfl, rfl, rfl, rfl, rfl, rfl, rfl, rfl, rfl, rfl, rfl, rfl, rfl, rfl, rfl, rfl, rfl, rfl, rfl, rfl, rfl, rfl, rfl, rfl, rfl, rfl, rfl, rfl, rfl, rfl, rfl, rfl, rfl, rfl, rfl, rfl, rfl, rfl, rfl, rfl, rfl, rfl, rfl, rfl, rfl, rfl, rfl, rfl, rfl, rfl, rfl, rfl, rfl, rfl, rfl, rfl, rfl, rfl, rfl, rfl⟩

/-- Replacing `tagAt` replaces it and leaves every other field. -/
@[simp] theorem State.setTagAt_frame (s : State) (v : Sparse (Option Nat)) :
    (s.setTagAt v).tagAt = v ∧
    (s.setTagAt v).now = s.now ∧
    (s.setTagAt v).freeIx = s.freeIx ∧
    (s.setTagAt v).pending = s.pending ∧
    (s.setTagAt v).regs = s.regs ∧
    (s.setTagAt v).inForce = s.inForce ∧
    (s.setTagAt v).wb = s.wb ∧
    (s.setTagAt v).shadow = s.shadow ∧
    (s.setTagAt v).bus = s.bus ∧
    (s.setTagAt v).mbxOrder = s.mbxOrder ∧
    (s.setTagAt v).staging = s.staging ∧
    (s.setTagAt v).jobs = s.jobs ∧
    (s.setTagAt v).binds = s.binds ∧
    (s.setTagAt v).batches = s.batches ∧
    (s.setTagAt v).tagsHeld = s.tagsHeld ∧
    (s.setTagAt v).arrived = s.arrived ∧
    (s.setTagAt v).outs = s.outs ∧
    (s.setTagAt v).recQ = s.recQ ∧
    (s.setTagAt v).recSeq = s.recSeq ∧
    (s.setTagAt v).tx = s.tx ∧
    (s.setTagAt v).chans = s.chans ∧
    (s.setTagAt v).ingest = s.ingest ∧
    (s.setTagAt v).drops = s.drops ∧
    (s.setTagAt v).misses = s.misses ∧
    (s.setTagAt v).arms = s.arms ∧
    (s.setTagAt v).bulk = s.bulk ∧
    (s.setTagAt v).rxAt = s.rxAt ∧
    (s.setTagAt v).fabric = s.fabric ∧
    (s.setTagAt v).grantRr = s.grantRr ∧
    (s.setTagAt v).slots = s.slots ∧
    (s.setTagAt v).ptes = s.ptes ∧
    (s.setTagAt v).xlates = s.xlates ∧
    (s.setTagAt v).time = s.time ∧
    (s.setTagAt v).halt = s.halt ∧
    (s.setTagAt v).sram = s.sram ∧
    (s.setTagAt v).pageUe = s.pageUe ∧
    (s.setTagAt v).unitUe = s.unitUe ∧
    (s.setTagAt v).retired = s.retired ∧
    (s.setTagAt v).cluOut = s.cluOut ∧
    (s.setTagAt v).plant = s.plant ∧
    (s.setTagAt v).tiles = s.tiles ∧
    (s.setTagAt v).cells = s.cells ∧
    (s.setTagAt v).occ = s.occ ∧
    (s.setTagAt v).tcal = s.tcal ∧
    (s.setTagAt v).recur = s.recur ∧
    (s.setTagAt v).stDone = s.stDone ∧
    (s.setTagAt v).chips = s.chips ∧
    (s.setTagAt v).meshTbl = s.meshTbl ∧
    (s.setTagAt v).rings = s.rings ∧
    (s.setTagAt v).lanes = s.lanes ∧
    (s.setTagAt v).dirs = s.dirs ∧
    (s.setTagAt v).mons = s.mons ∧
    (s.setTagAt v).halves = s.halves ∧
    (s.setTagAt v).exts = s.exts ∧
    (s.setTagAt v).feedFwd = s.feedFwd ∧
    (s.setTagAt v).splitAt = s.splitAt ∧
    (s.setTagAt v).returnAt = s.returnAt ∧
    (s.setTagAt v).store = s.store ∧
    (s.setTagAt v).writes = s.writes ∧
    (s.setTagAt v).stages = s.stages ∧
    (s.setTagAt v).quads = s.quads ∧
    (s.setTagAt v).homework = s.homework ∧
    (s.setTagAt v).firstForm = s.firstForm ∧
    (s.setTagAt v).readbackAt = s.readbackAt ∧
    (s.setTagAt v).loadWait = s.loadWait ∧
    (s.setTagAt v).feedMove = s.feedMove ∧
    (s.setTagAt v).bridgeBuild = s.bridgeBuild ∧
    (s.setTagAt v).clk = s.clk ∧
    (s.setTagAt v).pwr = s.pwr ∧
    (s.setTagAt v).sensors = s.sensors ∧
    (s.setTagAt v).nvArr = s.nvArr ∧
    (s.setTagAt v).nvShadow = s.nvShadow ∧
    (s.setTagAt v).nvRun = s.nvRun ∧
    (s.setTagAt v).boot = s.boot ∧
    (s.setTagAt v).fw = s.fw ∧
    (s.setTagAt v).sup = s.sup :=
  ⟨rfl, rfl, rfl, rfl, rfl, rfl, rfl, rfl, rfl, rfl, rfl, rfl, rfl, rfl, rfl, rfl, rfl, rfl, rfl, rfl, rfl, rfl, rfl, rfl, rfl, rfl, rfl, rfl, rfl, rfl, rfl, rfl, rfl, rfl, rfl, rfl, rfl, rfl, rfl, rfl, rfl, rfl, rfl, rfl, rfl, rfl, rfl, rfl, rfl, rfl, rfl, rfl, rfl, rfl, rfl, rfl, rfl, rfl, rfl, rfl, rfl, rfl, rfl, rfl, rfl, rfl, rfl, rfl, rfl, rfl, rfl, rfl, rfl, rfl, rfl, rfl⟩

/-- Replacing `arrived` replaces it and leaves every other field. -/
@[simp] theorem State.setArrived_frame (s : State) (v : List Result) :
    (s.setArrived v).arrived = v ∧
    (s.setArrived v).now = s.now ∧
    (s.setArrived v).freeIx = s.freeIx ∧
    (s.setArrived v).pending = s.pending ∧
    (s.setArrived v).regs = s.regs ∧
    (s.setArrived v).inForce = s.inForce ∧
    (s.setArrived v).wb = s.wb ∧
    (s.setArrived v).shadow = s.shadow ∧
    (s.setArrived v).bus = s.bus ∧
    (s.setArrived v).mbxOrder = s.mbxOrder ∧
    (s.setArrived v).staging = s.staging ∧
    (s.setArrived v).jobs = s.jobs ∧
    (s.setArrived v).binds = s.binds ∧
    (s.setArrived v).batches = s.batches ∧
    (s.setArrived v).tagsHeld = s.tagsHeld ∧
    (s.setArrived v).tagAt = s.tagAt ∧
    (s.setArrived v).outs = s.outs ∧
    (s.setArrived v).recQ = s.recQ ∧
    (s.setArrived v).recSeq = s.recSeq ∧
    (s.setArrived v).tx = s.tx ∧
    (s.setArrived v).chans = s.chans ∧
    (s.setArrived v).ingest = s.ingest ∧
    (s.setArrived v).drops = s.drops ∧
    (s.setArrived v).misses = s.misses ∧
    (s.setArrived v).arms = s.arms ∧
    (s.setArrived v).bulk = s.bulk ∧
    (s.setArrived v).rxAt = s.rxAt ∧
    (s.setArrived v).fabric = s.fabric ∧
    (s.setArrived v).grantRr = s.grantRr ∧
    (s.setArrived v).slots = s.slots ∧
    (s.setArrived v).ptes = s.ptes ∧
    (s.setArrived v).xlates = s.xlates ∧
    (s.setArrived v).time = s.time ∧
    (s.setArrived v).halt = s.halt ∧
    (s.setArrived v).sram = s.sram ∧
    (s.setArrived v).pageUe = s.pageUe ∧
    (s.setArrived v).unitUe = s.unitUe ∧
    (s.setArrived v).retired = s.retired ∧
    (s.setArrived v).cluOut = s.cluOut ∧
    (s.setArrived v).plant = s.plant ∧
    (s.setArrived v).tiles = s.tiles ∧
    (s.setArrived v).cells = s.cells ∧
    (s.setArrived v).occ = s.occ ∧
    (s.setArrived v).tcal = s.tcal ∧
    (s.setArrived v).recur = s.recur ∧
    (s.setArrived v).stDone = s.stDone ∧
    (s.setArrived v).chips = s.chips ∧
    (s.setArrived v).meshTbl = s.meshTbl ∧
    (s.setArrived v).rings = s.rings ∧
    (s.setArrived v).lanes = s.lanes ∧
    (s.setArrived v).dirs = s.dirs ∧
    (s.setArrived v).mons = s.mons ∧
    (s.setArrived v).halves = s.halves ∧
    (s.setArrived v).exts = s.exts ∧
    (s.setArrived v).feedFwd = s.feedFwd ∧
    (s.setArrived v).splitAt = s.splitAt ∧
    (s.setArrived v).returnAt = s.returnAt ∧
    (s.setArrived v).store = s.store ∧
    (s.setArrived v).writes = s.writes ∧
    (s.setArrived v).stages = s.stages ∧
    (s.setArrived v).quads = s.quads ∧
    (s.setArrived v).homework = s.homework ∧
    (s.setArrived v).firstForm = s.firstForm ∧
    (s.setArrived v).readbackAt = s.readbackAt ∧
    (s.setArrived v).loadWait = s.loadWait ∧
    (s.setArrived v).feedMove = s.feedMove ∧
    (s.setArrived v).bridgeBuild = s.bridgeBuild ∧
    (s.setArrived v).clk = s.clk ∧
    (s.setArrived v).pwr = s.pwr ∧
    (s.setArrived v).sensors = s.sensors ∧
    (s.setArrived v).nvArr = s.nvArr ∧
    (s.setArrived v).nvShadow = s.nvShadow ∧
    (s.setArrived v).nvRun = s.nvRun ∧
    (s.setArrived v).boot = s.boot ∧
    (s.setArrived v).fw = s.fw ∧
    (s.setArrived v).sup = s.sup :=
  ⟨rfl, rfl, rfl, rfl, rfl, rfl, rfl, rfl, rfl, rfl, rfl, rfl, rfl, rfl, rfl, rfl, rfl, rfl, rfl, rfl, rfl, rfl, rfl, rfl, rfl, rfl, rfl, rfl, rfl, rfl, rfl, rfl, rfl, rfl, rfl, rfl, rfl, rfl, rfl, rfl, rfl, rfl, rfl, rfl, rfl, rfl, rfl, rfl, rfl, rfl, rfl, rfl, rfl, rfl, rfl, rfl, rfl, rfl, rfl, rfl, rfl, rfl, rfl, rfl, rfl, rfl, rfl, rfl, rfl, rfl, rfl, rfl, rfl, rfl, rfl, rfl⟩

/-- Replacing `outs` replaces it and leaves every other field. -/
@[simp] theorem State.setOuts_frame (s : State) (v : Sparse OutStream) :
    (s.setOuts v).outs = v ∧
    (s.setOuts v).now = s.now ∧
    (s.setOuts v).freeIx = s.freeIx ∧
    (s.setOuts v).pending = s.pending ∧
    (s.setOuts v).regs = s.regs ∧
    (s.setOuts v).inForce = s.inForce ∧
    (s.setOuts v).wb = s.wb ∧
    (s.setOuts v).shadow = s.shadow ∧
    (s.setOuts v).bus = s.bus ∧
    (s.setOuts v).mbxOrder = s.mbxOrder ∧
    (s.setOuts v).staging = s.staging ∧
    (s.setOuts v).jobs = s.jobs ∧
    (s.setOuts v).binds = s.binds ∧
    (s.setOuts v).batches = s.batches ∧
    (s.setOuts v).tagsHeld = s.tagsHeld ∧
    (s.setOuts v).tagAt = s.tagAt ∧
    (s.setOuts v).arrived = s.arrived ∧
    (s.setOuts v).recQ = s.recQ ∧
    (s.setOuts v).recSeq = s.recSeq ∧
    (s.setOuts v).tx = s.tx ∧
    (s.setOuts v).chans = s.chans ∧
    (s.setOuts v).ingest = s.ingest ∧
    (s.setOuts v).drops = s.drops ∧
    (s.setOuts v).misses = s.misses ∧
    (s.setOuts v).arms = s.arms ∧
    (s.setOuts v).bulk = s.bulk ∧
    (s.setOuts v).rxAt = s.rxAt ∧
    (s.setOuts v).fabric = s.fabric ∧
    (s.setOuts v).grantRr = s.grantRr ∧
    (s.setOuts v).slots = s.slots ∧
    (s.setOuts v).ptes = s.ptes ∧
    (s.setOuts v).xlates = s.xlates ∧
    (s.setOuts v).time = s.time ∧
    (s.setOuts v).halt = s.halt ∧
    (s.setOuts v).sram = s.sram ∧
    (s.setOuts v).pageUe = s.pageUe ∧
    (s.setOuts v).unitUe = s.unitUe ∧
    (s.setOuts v).retired = s.retired ∧
    (s.setOuts v).cluOut = s.cluOut ∧
    (s.setOuts v).plant = s.plant ∧
    (s.setOuts v).tiles = s.tiles ∧
    (s.setOuts v).cells = s.cells ∧
    (s.setOuts v).occ = s.occ ∧
    (s.setOuts v).tcal = s.tcal ∧
    (s.setOuts v).recur = s.recur ∧
    (s.setOuts v).stDone = s.stDone ∧
    (s.setOuts v).chips = s.chips ∧
    (s.setOuts v).meshTbl = s.meshTbl ∧
    (s.setOuts v).rings = s.rings ∧
    (s.setOuts v).lanes = s.lanes ∧
    (s.setOuts v).dirs = s.dirs ∧
    (s.setOuts v).mons = s.mons ∧
    (s.setOuts v).halves = s.halves ∧
    (s.setOuts v).exts = s.exts ∧
    (s.setOuts v).feedFwd = s.feedFwd ∧
    (s.setOuts v).splitAt = s.splitAt ∧
    (s.setOuts v).returnAt = s.returnAt ∧
    (s.setOuts v).store = s.store ∧
    (s.setOuts v).writes = s.writes ∧
    (s.setOuts v).stages = s.stages ∧
    (s.setOuts v).quads = s.quads ∧
    (s.setOuts v).homework = s.homework ∧
    (s.setOuts v).firstForm = s.firstForm ∧
    (s.setOuts v).readbackAt = s.readbackAt ∧
    (s.setOuts v).loadWait = s.loadWait ∧
    (s.setOuts v).feedMove = s.feedMove ∧
    (s.setOuts v).bridgeBuild = s.bridgeBuild ∧
    (s.setOuts v).clk = s.clk ∧
    (s.setOuts v).pwr = s.pwr ∧
    (s.setOuts v).sensors = s.sensors ∧
    (s.setOuts v).nvArr = s.nvArr ∧
    (s.setOuts v).nvShadow = s.nvShadow ∧
    (s.setOuts v).nvRun = s.nvRun ∧
    (s.setOuts v).boot = s.boot ∧
    (s.setOuts v).fw = s.fw ∧
    (s.setOuts v).sup = s.sup :=
  ⟨rfl, rfl, rfl, rfl, rfl, rfl, rfl, rfl, rfl, rfl, rfl, rfl, rfl, rfl, rfl, rfl, rfl, rfl, rfl, rfl, rfl, rfl, rfl, rfl, rfl, rfl, rfl, rfl, rfl, rfl, rfl, rfl, rfl, rfl, rfl, rfl, rfl, rfl, rfl, rfl, rfl, rfl, rfl, rfl, rfl, rfl, rfl, rfl, rfl, rfl, rfl, rfl, rfl, rfl, rfl, rfl, rfl, rfl, rfl, rfl, rfl, rfl, rfl, rfl, rfl, rfl, rfl, rfl, rfl, rfl, rfl, rfl, rfl, rfl, rfl, rfl⟩

/-- Replacing `recQ` replaces it and leaves every other field. -/
@[simp] theorem State.setRecQ_frame (s : State) (v : List RecPacket) :
    (s.setRecQ v).recQ = v ∧
    (s.setRecQ v).now = s.now ∧
    (s.setRecQ v).freeIx = s.freeIx ∧
    (s.setRecQ v).pending = s.pending ∧
    (s.setRecQ v).regs = s.regs ∧
    (s.setRecQ v).inForce = s.inForce ∧
    (s.setRecQ v).wb = s.wb ∧
    (s.setRecQ v).shadow = s.shadow ∧
    (s.setRecQ v).bus = s.bus ∧
    (s.setRecQ v).mbxOrder = s.mbxOrder ∧
    (s.setRecQ v).staging = s.staging ∧
    (s.setRecQ v).jobs = s.jobs ∧
    (s.setRecQ v).binds = s.binds ∧
    (s.setRecQ v).batches = s.batches ∧
    (s.setRecQ v).tagsHeld = s.tagsHeld ∧
    (s.setRecQ v).tagAt = s.tagAt ∧
    (s.setRecQ v).arrived = s.arrived ∧
    (s.setRecQ v).outs = s.outs ∧
    (s.setRecQ v).recSeq = s.recSeq ∧
    (s.setRecQ v).tx = s.tx ∧
    (s.setRecQ v).chans = s.chans ∧
    (s.setRecQ v).ingest = s.ingest ∧
    (s.setRecQ v).drops = s.drops ∧
    (s.setRecQ v).misses = s.misses ∧
    (s.setRecQ v).arms = s.arms ∧
    (s.setRecQ v).bulk = s.bulk ∧
    (s.setRecQ v).rxAt = s.rxAt ∧
    (s.setRecQ v).fabric = s.fabric ∧
    (s.setRecQ v).grantRr = s.grantRr ∧
    (s.setRecQ v).slots = s.slots ∧
    (s.setRecQ v).ptes = s.ptes ∧
    (s.setRecQ v).xlates = s.xlates ∧
    (s.setRecQ v).time = s.time ∧
    (s.setRecQ v).halt = s.halt ∧
    (s.setRecQ v).sram = s.sram ∧
    (s.setRecQ v).pageUe = s.pageUe ∧
    (s.setRecQ v).unitUe = s.unitUe ∧
    (s.setRecQ v).retired = s.retired ∧
    (s.setRecQ v).cluOut = s.cluOut ∧
    (s.setRecQ v).plant = s.plant ∧
    (s.setRecQ v).tiles = s.tiles ∧
    (s.setRecQ v).cells = s.cells ∧
    (s.setRecQ v).occ = s.occ ∧
    (s.setRecQ v).tcal = s.tcal ∧
    (s.setRecQ v).recur = s.recur ∧
    (s.setRecQ v).stDone = s.stDone ∧
    (s.setRecQ v).chips = s.chips ∧
    (s.setRecQ v).meshTbl = s.meshTbl ∧
    (s.setRecQ v).rings = s.rings ∧
    (s.setRecQ v).lanes = s.lanes ∧
    (s.setRecQ v).dirs = s.dirs ∧
    (s.setRecQ v).mons = s.mons ∧
    (s.setRecQ v).halves = s.halves ∧
    (s.setRecQ v).exts = s.exts ∧
    (s.setRecQ v).feedFwd = s.feedFwd ∧
    (s.setRecQ v).splitAt = s.splitAt ∧
    (s.setRecQ v).returnAt = s.returnAt ∧
    (s.setRecQ v).store = s.store ∧
    (s.setRecQ v).writes = s.writes ∧
    (s.setRecQ v).stages = s.stages ∧
    (s.setRecQ v).quads = s.quads ∧
    (s.setRecQ v).homework = s.homework ∧
    (s.setRecQ v).firstForm = s.firstForm ∧
    (s.setRecQ v).readbackAt = s.readbackAt ∧
    (s.setRecQ v).loadWait = s.loadWait ∧
    (s.setRecQ v).feedMove = s.feedMove ∧
    (s.setRecQ v).bridgeBuild = s.bridgeBuild ∧
    (s.setRecQ v).clk = s.clk ∧
    (s.setRecQ v).pwr = s.pwr ∧
    (s.setRecQ v).sensors = s.sensors ∧
    (s.setRecQ v).nvArr = s.nvArr ∧
    (s.setRecQ v).nvShadow = s.nvShadow ∧
    (s.setRecQ v).nvRun = s.nvRun ∧
    (s.setRecQ v).boot = s.boot ∧
    (s.setRecQ v).fw = s.fw ∧
    (s.setRecQ v).sup = s.sup :=
  ⟨rfl, rfl, rfl, rfl, rfl, rfl, rfl, rfl, rfl, rfl, rfl, rfl, rfl, rfl, rfl, rfl, rfl, rfl, rfl, rfl, rfl, rfl, rfl, rfl, rfl, rfl, rfl, rfl, rfl, rfl, rfl, rfl, rfl, rfl, rfl, rfl, rfl, rfl, rfl, rfl, rfl, rfl, rfl, rfl, rfl, rfl, rfl, rfl, rfl, rfl, rfl, rfl, rfl, rfl, rfl, rfl, rfl, rfl, rfl, rfl, rfl, rfl, rfl, rfl, rfl, rfl, rfl, rfl, rfl, rfl, rfl, rfl, rfl, rfl, rfl, rfl⟩

/-- Replacing `recSeq` replaces it and leaves every other field. -/
@[simp] theorem State.setRecSeq_frame (s : State) (v : Nat) :
    (s.setRecSeq v).recSeq = v ∧
    (s.setRecSeq v).now = s.now ∧
    (s.setRecSeq v).freeIx = s.freeIx ∧
    (s.setRecSeq v).pending = s.pending ∧
    (s.setRecSeq v).regs = s.regs ∧
    (s.setRecSeq v).inForce = s.inForce ∧
    (s.setRecSeq v).wb = s.wb ∧
    (s.setRecSeq v).shadow = s.shadow ∧
    (s.setRecSeq v).bus = s.bus ∧
    (s.setRecSeq v).mbxOrder = s.mbxOrder ∧
    (s.setRecSeq v).staging = s.staging ∧
    (s.setRecSeq v).jobs = s.jobs ∧
    (s.setRecSeq v).binds = s.binds ∧
    (s.setRecSeq v).batches = s.batches ∧
    (s.setRecSeq v).tagsHeld = s.tagsHeld ∧
    (s.setRecSeq v).tagAt = s.tagAt ∧
    (s.setRecSeq v).arrived = s.arrived ∧
    (s.setRecSeq v).outs = s.outs ∧
    (s.setRecSeq v).recQ = s.recQ ∧
    (s.setRecSeq v).tx = s.tx ∧
    (s.setRecSeq v).chans = s.chans ∧
    (s.setRecSeq v).ingest = s.ingest ∧
    (s.setRecSeq v).drops = s.drops ∧
    (s.setRecSeq v).misses = s.misses ∧
    (s.setRecSeq v).arms = s.arms ∧
    (s.setRecSeq v).bulk = s.bulk ∧
    (s.setRecSeq v).rxAt = s.rxAt ∧
    (s.setRecSeq v).fabric = s.fabric ∧
    (s.setRecSeq v).grantRr = s.grantRr ∧
    (s.setRecSeq v).slots = s.slots ∧
    (s.setRecSeq v).ptes = s.ptes ∧
    (s.setRecSeq v).xlates = s.xlates ∧
    (s.setRecSeq v).time = s.time ∧
    (s.setRecSeq v).halt = s.halt ∧
    (s.setRecSeq v).sram = s.sram ∧
    (s.setRecSeq v).pageUe = s.pageUe ∧
    (s.setRecSeq v).unitUe = s.unitUe ∧
    (s.setRecSeq v).retired = s.retired ∧
    (s.setRecSeq v).cluOut = s.cluOut ∧
    (s.setRecSeq v).plant = s.plant ∧
    (s.setRecSeq v).tiles = s.tiles ∧
    (s.setRecSeq v).cells = s.cells ∧
    (s.setRecSeq v).occ = s.occ ∧
    (s.setRecSeq v).tcal = s.tcal ∧
    (s.setRecSeq v).recur = s.recur ∧
    (s.setRecSeq v).stDone = s.stDone ∧
    (s.setRecSeq v).chips = s.chips ∧
    (s.setRecSeq v).meshTbl = s.meshTbl ∧
    (s.setRecSeq v).rings = s.rings ∧
    (s.setRecSeq v).lanes = s.lanes ∧
    (s.setRecSeq v).dirs = s.dirs ∧
    (s.setRecSeq v).mons = s.mons ∧
    (s.setRecSeq v).halves = s.halves ∧
    (s.setRecSeq v).exts = s.exts ∧
    (s.setRecSeq v).feedFwd = s.feedFwd ∧
    (s.setRecSeq v).splitAt = s.splitAt ∧
    (s.setRecSeq v).returnAt = s.returnAt ∧
    (s.setRecSeq v).store = s.store ∧
    (s.setRecSeq v).writes = s.writes ∧
    (s.setRecSeq v).stages = s.stages ∧
    (s.setRecSeq v).quads = s.quads ∧
    (s.setRecSeq v).homework = s.homework ∧
    (s.setRecSeq v).firstForm = s.firstForm ∧
    (s.setRecSeq v).readbackAt = s.readbackAt ∧
    (s.setRecSeq v).loadWait = s.loadWait ∧
    (s.setRecSeq v).feedMove = s.feedMove ∧
    (s.setRecSeq v).bridgeBuild = s.bridgeBuild ∧
    (s.setRecSeq v).clk = s.clk ∧
    (s.setRecSeq v).pwr = s.pwr ∧
    (s.setRecSeq v).sensors = s.sensors ∧
    (s.setRecSeq v).nvArr = s.nvArr ∧
    (s.setRecSeq v).nvShadow = s.nvShadow ∧
    (s.setRecSeq v).nvRun = s.nvRun ∧
    (s.setRecSeq v).boot = s.boot ∧
    (s.setRecSeq v).fw = s.fw ∧
    (s.setRecSeq v).sup = s.sup :=
  ⟨rfl, rfl, rfl, rfl, rfl, rfl, rfl, rfl, rfl, rfl, rfl, rfl, rfl, rfl, rfl, rfl, rfl, rfl, rfl, rfl, rfl, rfl, rfl, rfl, rfl, rfl, rfl, rfl, rfl, rfl, rfl, rfl, rfl, rfl, rfl, rfl, rfl, rfl, rfl, rfl, rfl, rfl, rfl, rfl, rfl, rfl, rfl, rfl, rfl, rfl, rfl, rfl, rfl, rfl, rfl, rfl, rfl, rfl, rfl, rfl, rfl, rfl, rfl, rfl, rfl, rfl, rfl, rfl, rfl, rfl, rfl, rfl, rfl, rfl, rfl, rfl⟩

/-- Replacing `tx` replaces it and leaves every other field. -/
@[simp] theorem State.setTx_frame (s : State) (v : Sparse TxPort) :
    (s.setTx v).tx = v ∧
    (s.setTx v).now = s.now ∧
    (s.setTx v).freeIx = s.freeIx ∧
    (s.setTx v).pending = s.pending ∧
    (s.setTx v).regs = s.regs ∧
    (s.setTx v).inForce = s.inForce ∧
    (s.setTx v).wb = s.wb ∧
    (s.setTx v).shadow = s.shadow ∧
    (s.setTx v).bus = s.bus ∧
    (s.setTx v).mbxOrder = s.mbxOrder ∧
    (s.setTx v).staging = s.staging ∧
    (s.setTx v).jobs = s.jobs ∧
    (s.setTx v).binds = s.binds ∧
    (s.setTx v).batches = s.batches ∧
    (s.setTx v).tagsHeld = s.tagsHeld ∧
    (s.setTx v).tagAt = s.tagAt ∧
    (s.setTx v).arrived = s.arrived ∧
    (s.setTx v).outs = s.outs ∧
    (s.setTx v).recQ = s.recQ ∧
    (s.setTx v).recSeq = s.recSeq ∧
    (s.setTx v).chans = s.chans ∧
    (s.setTx v).ingest = s.ingest ∧
    (s.setTx v).drops = s.drops ∧
    (s.setTx v).misses = s.misses ∧
    (s.setTx v).arms = s.arms ∧
    (s.setTx v).bulk = s.bulk ∧
    (s.setTx v).rxAt = s.rxAt ∧
    (s.setTx v).fabric = s.fabric ∧
    (s.setTx v).grantRr = s.grantRr ∧
    (s.setTx v).slots = s.slots ∧
    (s.setTx v).ptes = s.ptes ∧
    (s.setTx v).xlates = s.xlates ∧
    (s.setTx v).time = s.time ∧
    (s.setTx v).halt = s.halt ∧
    (s.setTx v).sram = s.sram ∧
    (s.setTx v).pageUe = s.pageUe ∧
    (s.setTx v).unitUe = s.unitUe ∧
    (s.setTx v).retired = s.retired ∧
    (s.setTx v).cluOut = s.cluOut ∧
    (s.setTx v).plant = s.plant ∧
    (s.setTx v).tiles = s.tiles ∧
    (s.setTx v).cells = s.cells ∧
    (s.setTx v).occ = s.occ ∧
    (s.setTx v).tcal = s.tcal ∧
    (s.setTx v).recur = s.recur ∧
    (s.setTx v).stDone = s.stDone ∧
    (s.setTx v).chips = s.chips ∧
    (s.setTx v).meshTbl = s.meshTbl ∧
    (s.setTx v).rings = s.rings ∧
    (s.setTx v).lanes = s.lanes ∧
    (s.setTx v).dirs = s.dirs ∧
    (s.setTx v).mons = s.mons ∧
    (s.setTx v).halves = s.halves ∧
    (s.setTx v).exts = s.exts ∧
    (s.setTx v).feedFwd = s.feedFwd ∧
    (s.setTx v).splitAt = s.splitAt ∧
    (s.setTx v).returnAt = s.returnAt ∧
    (s.setTx v).store = s.store ∧
    (s.setTx v).writes = s.writes ∧
    (s.setTx v).stages = s.stages ∧
    (s.setTx v).quads = s.quads ∧
    (s.setTx v).homework = s.homework ∧
    (s.setTx v).firstForm = s.firstForm ∧
    (s.setTx v).readbackAt = s.readbackAt ∧
    (s.setTx v).loadWait = s.loadWait ∧
    (s.setTx v).feedMove = s.feedMove ∧
    (s.setTx v).bridgeBuild = s.bridgeBuild ∧
    (s.setTx v).clk = s.clk ∧
    (s.setTx v).pwr = s.pwr ∧
    (s.setTx v).sensors = s.sensors ∧
    (s.setTx v).nvArr = s.nvArr ∧
    (s.setTx v).nvShadow = s.nvShadow ∧
    (s.setTx v).nvRun = s.nvRun ∧
    (s.setTx v).boot = s.boot ∧
    (s.setTx v).fw = s.fw ∧
    (s.setTx v).sup = s.sup :=
  ⟨rfl, rfl, rfl, rfl, rfl, rfl, rfl, rfl, rfl, rfl, rfl, rfl, rfl, rfl, rfl, rfl, rfl, rfl, rfl, rfl, rfl, rfl, rfl, rfl, rfl, rfl, rfl, rfl, rfl, rfl, rfl, rfl, rfl, rfl, rfl, rfl, rfl, rfl, rfl, rfl, rfl, rfl, rfl, rfl, rfl, rfl, rfl, rfl, rfl, rfl, rfl, rfl, rfl, rfl, rfl, rfl, rfl, rfl, rfl, rfl, rfl, rfl, rfl, rfl, rfl, rfl, rfl, rfl, rfl, rfl, rfl, rfl, rfl, rfl, rfl, rfl⟩

/-- Replacing `chans` replaces it and leaves every other field. -/
@[simp] theorem State.setChans_frame (s : State) (v : Sparse Chan) :
    (s.setChans v).chans = v ∧
    (s.setChans v).now = s.now ∧
    (s.setChans v).freeIx = s.freeIx ∧
    (s.setChans v).pending = s.pending ∧
    (s.setChans v).regs = s.regs ∧
    (s.setChans v).inForce = s.inForce ∧
    (s.setChans v).wb = s.wb ∧
    (s.setChans v).shadow = s.shadow ∧
    (s.setChans v).bus = s.bus ∧
    (s.setChans v).mbxOrder = s.mbxOrder ∧
    (s.setChans v).staging = s.staging ∧
    (s.setChans v).jobs = s.jobs ∧
    (s.setChans v).binds = s.binds ∧
    (s.setChans v).batches = s.batches ∧
    (s.setChans v).tagsHeld = s.tagsHeld ∧
    (s.setChans v).tagAt = s.tagAt ∧
    (s.setChans v).arrived = s.arrived ∧
    (s.setChans v).outs = s.outs ∧
    (s.setChans v).recQ = s.recQ ∧
    (s.setChans v).recSeq = s.recSeq ∧
    (s.setChans v).tx = s.tx ∧
    (s.setChans v).ingest = s.ingest ∧
    (s.setChans v).drops = s.drops ∧
    (s.setChans v).misses = s.misses ∧
    (s.setChans v).arms = s.arms ∧
    (s.setChans v).bulk = s.bulk ∧
    (s.setChans v).rxAt = s.rxAt ∧
    (s.setChans v).fabric = s.fabric ∧
    (s.setChans v).grantRr = s.grantRr ∧
    (s.setChans v).slots = s.slots ∧
    (s.setChans v).ptes = s.ptes ∧
    (s.setChans v).xlates = s.xlates ∧
    (s.setChans v).time = s.time ∧
    (s.setChans v).halt = s.halt ∧
    (s.setChans v).sram = s.sram ∧
    (s.setChans v).pageUe = s.pageUe ∧
    (s.setChans v).unitUe = s.unitUe ∧
    (s.setChans v).retired = s.retired ∧
    (s.setChans v).cluOut = s.cluOut ∧
    (s.setChans v).plant = s.plant ∧
    (s.setChans v).tiles = s.tiles ∧
    (s.setChans v).cells = s.cells ∧
    (s.setChans v).occ = s.occ ∧
    (s.setChans v).tcal = s.tcal ∧
    (s.setChans v).recur = s.recur ∧
    (s.setChans v).stDone = s.stDone ∧
    (s.setChans v).chips = s.chips ∧
    (s.setChans v).meshTbl = s.meshTbl ∧
    (s.setChans v).rings = s.rings ∧
    (s.setChans v).lanes = s.lanes ∧
    (s.setChans v).dirs = s.dirs ∧
    (s.setChans v).mons = s.mons ∧
    (s.setChans v).halves = s.halves ∧
    (s.setChans v).exts = s.exts ∧
    (s.setChans v).feedFwd = s.feedFwd ∧
    (s.setChans v).splitAt = s.splitAt ∧
    (s.setChans v).returnAt = s.returnAt ∧
    (s.setChans v).store = s.store ∧
    (s.setChans v).writes = s.writes ∧
    (s.setChans v).stages = s.stages ∧
    (s.setChans v).quads = s.quads ∧
    (s.setChans v).homework = s.homework ∧
    (s.setChans v).firstForm = s.firstForm ∧
    (s.setChans v).readbackAt = s.readbackAt ∧
    (s.setChans v).loadWait = s.loadWait ∧
    (s.setChans v).feedMove = s.feedMove ∧
    (s.setChans v).bridgeBuild = s.bridgeBuild ∧
    (s.setChans v).clk = s.clk ∧
    (s.setChans v).pwr = s.pwr ∧
    (s.setChans v).sensors = s.sensors ∧
    (s.setChans v).nvArr = s.nvArr ∧
    (s.setChans v).nvShadow = s.nvShadow ∧
    (s.setChans v).nvRun = s.nvRun ∧
    (s.setChans v).boot = s.boot ∧
    (s.setChans v).fw = s.fw ∧
    (s.setChans v).sup = s.sup :=
  ⟨rfl, rfl, rfl, rfl, rfl, rfl, rfl, rfl, rfl, rfl, rfl, rfl, rfl, rfl, rfl, rfl, rfl, rfl, rfl, rfl, rfl, rfl, rfl, rfl, rfl, rfl, rfl, rfl, rfl, rfl, rfl, rfl, rfl, rfl, rfl, rfl, rfl, rfl, rfl, rfl, rfl, rfl, rfl, rfl, rfl, rfl, rfl, rfl, rfl, rfl, rfl, rfl, rfl, rfl, rfl, rfl, rfl, rfl, rfl, rfl, rfl, rfl, rfl, rfl, rfl, rfl, rfl, rfl, rfl, rfl, rfl, rfl, rfl, rfl, rfl, rfl⟩

/-- Replacing `ingest` replaces it and leaves every other field. -/
@[simp] theorem State.setIngest_frame (s : State) (v : Sparse Ingest) :
    (s.setIngest v).ingest = v ∧
    (s.setIngest v).now = s.now ∧
    (s.setIngest v).freeIx = s.freeIx ∧
    (s.setIngest v).pending = s.pending ∧
    (s.setIngest v).regs = s.regs ∧
    (s.setIngest v).inForce = s.inForce ∧
    (s.setIngest v).wb = s.wb ∧
    (s.setIngest v).shadow = s.shadow ∧
    (s.setIngest v).bus = s.bus ∧
    (s.setIngest v).mbxOrder = s.mbxOrder ∧
    (s.setIngest v).staging = s.staging ∧
    (s.setIngest v).jobs = s.jobs ∧
    (s.setIngest v).binds = s.binds ∧
    (s.setIngest v).batches = s.batches ∧
    (s.setIngest v).tagsHeld = s.tagsHeld ∧
    (s.setIngest v).tagAt = s.tagAt ∧
    (s.setIngest v).arrived = s.arrived ∧
    (s.setIngest v).outs = s.outs ∧
    (s.setIngest v).recQ = s.recQ ∧
    (s.setIngest v).recSeq = s.recSeq ∧
    (s.setIngest v).tx = s.tx ∧
    (s.setIngest v).chans = s.chans ∧
    (s.setIngest v).drops = s.drops ∧
    (s.setIngest v).misses = s.misses ∧
    (s.setIngest v).arms = s.arms ∧
    (s.setIngest v).bulk = s.bulk ∧
    (s.setIngest v).rxAt = s.rxAt ∧
    (s.setIngest v).fabric = s.fabric ∧
    (s.setIngest v).grantRr = s.grantRr ∧
    (s.setIngest v).slots = s.slots ∧
    (s.setIngest v).ptes = s.ptes ∧
    (s.setIngest v).xlates = s.xlates ∧
    (s.setIngest v).time = s.time ∧
    (s.setIngest v).halt = s.halt ∧
    (s.setIngest v).sram = s.sram ∧
    (s.setIngest v).pageUe = s.pageUe ∧
    (s.setIngest v).unitUe = s.unitUe ∧
    (s.setIngest v).retired = s.retired ∧
    (s.setIngest v).cluOut = s.cluOut ∧
    (s.setIngest v).plant = s.plant ∧
    (s.setIngest v).tiles = s.tiles ∧
    (s.setIngest v).cells = s.cells ∧
    (s.setIngest v).occ = s.occ ∧
    (s.setIngest v).tcal = s.tcal ∧
    (s.setIngest v).recur = s.recur ∧
    (s.setIngest v).stDone = s.stDone ∧
    (s.setIngest v).chips = s.chips ∧
    (s.setIngest v).meshTbl = s.meshTbl ∧
    (s.setIngest v).rings = s.rings ∧
    (s.setIngest v).lanes = s.lanes ∧
    (s.setIngest v).dirs = s.dirs ∧
    (s.setIngest v).mons = s.mons ∧
    (s.setIngest v).halves = s.halves ∧
    (s.setIngest v).exts = s.exts ∧
    (s.setIngest v).feedFwd = s.feedFwd ∧
    (s.setIngest v).splitAt = s.splitAt ∧
    (s.setIngest v).returnAt = s.returnAt ∧
    (s.setIngest v).store = s.store ∧
    (s.setIngest v).writes = s.writes ∧
    (s.setIngest v).stages = s.stages ∧
    (s.setIngest v).quads = s.quads ∧
    (s.setIngest v).homework = s.homework ∧
    (s.setIngest v).firstForm = s.firstForm ∧
    (s.setIngest v).readbackAt = s.readbackAt ∧
    (s.setIngest v).loadWait = s.loadWait ∧
    (s.setIngest v).feedMove = s.feedMove ∧
    (s.setIngest v).bridgeBuild = s.bridgeBuild ∧
    (s.setIngest v).clk = s.clk ∧
    (s.setIngest v).pwr = s.pwr ∧
    (s.setIngest v).sensors = s.sensors ∧
    (s.setIngest v).nvArr = s.nvArr ∧
    (s.setIngest v).nvShadow = s.nvShadow ∧
    (s.setIngest v).nvRun = s.nvRun ∧
    (s.setIngest v).boot = s.boot ∧
    (s.setIngest v).fw = s.fw ∧
    (s.setIngest v).sup = s.sup :=
  ⟨rfl, rfl, rfl, rfl, rfl, rfl, rfl, rfl, rfl, rfl, rfl, rfl, rfl, rfl, rfl, rfl, rfl, rfl, rfl, rfl, rfl, rfl, rfl, rfl, rfl, rfl, rfl, rfl, rfl, rfl, rfl, rfl, rfl, rfl, rfl, rfl, rfl, rfl, rfl, rfl, rfl, rfl, rfl, rfl, rfl, rfl, rfl, rfl, rfl, rfl, rfl, rfl, rfl, rfl, rfl, rfl, rfl, rfl, rfl, rfl, rfl, rfl, rfl, rfl, rfl, rfl, rfl, rfl, rfl, rfl, rfl, rfl, rfl, rfl, rfl, rfl⟩

/-- Replacing `drops` replaces it and leaves every other field. -/
@[simp] theorem State.setDrops_frame (s : State) (v : List DropRun) :
    (s.setDrops v).drops = v ∧
    (s.setDrops v).now = s.now ∧
    (s.setDrops v).freeIx = s.freeIx ∧
    (s.setDrops v).pending = s.pending ∧
    (s.setDrops v).regs = s.regs ∧
    (s.setDrops v).inForce = s.inForce ∧
    (s.setDrops v).wb = s.wb ∧
    (s.setDrops v).shadow = s.shadow ∧
    (s.setDrops v).bus = s.bus ∧
    (s.setDrops v).mbxOrder = s.mbxOrder ∧
    (s.setDrops v).staging = s.staging ∧
    (s.setDrops v).jobs = s.jobs ∧
    (s.setDrops v).binds = s.binds ∧
    (s.setDrops v).batches = s.batches ∧
    (s.setDrops v).tagsHeld = s.tagsHeld ∧
    (s.setDrops v).tagAt = s.tagAt ∧
    (s.setDrops v).arrived = s.arrived ∧
    (s.setDrops v).outs = s.outs ∧
    (s.setDrops v).recQ = s.recQ ∧
    (s.setDrops v).recSeq = s.recSeq ∧
    (s.setDrops v).tx = s.tx ∧
    (s.setDrops v).chans = s.chans ∧
    (s.setDrops v).ingest = s.ingest ∧
    (s.setDrops v).misses = s.misses ∧
    (s.setDrops v).arms = s.arms ∧
    (s.setDrops v).bulk = s.bulk ∧
    (s.setDrops v).rxAt = s.rxAt ∧
    (s.setDrops v).fabric = s.fabric ∧
    (s.setDrops v).grantRr = s.grantRr ∧
    (s.setDrops v).slots = s.slots ∧
    (s.setDrops v).ptes = s.ptes ∧
    (s.setDrops v).xlates = s.xlates ∧
    (s.setDrops v).time = s.time ∧
    (s.setDrops v).halt = s.halt ∧
    (s.setDrops v).sram = s.sram ∧
    (s.setDrops v).pageUe = s.pageUe ∧
    (s.setDrops v).unitUe = s.unitUe ∧
    (s.setDrops v).retired = s.retired ∧
    (s.setDrops v).cluOut = s.cluOut ∧
    (s.setDrops v).plant = s.plant ∧
    (s.setDrops v).tiles = s.tiles ∧
    (s.setDrops v).cells = s.cells ∧
    (s.setDrops v).occ = s.occ ∧
    (s.setDrops v).tcal = s.tcal ∧
    (s.setDrops v).recur = s.recur ∧
    (s.setDrops v).stDone = s.stDone ∧
    (s.setDrops v).chips = s.chips ∧
    (s.setDrops v).meshTbl = s.meshTbl ∧
    (s.setDrops v).rings = s.rings ∧
    (s.setDrops v).lanes = s.lanes ∧
    (s.setDrops v).dirs = s.dirs ∧
    (s.setDrops v).mons = s.mons ∧
    (s.setDrops v).halves = s.halves ∧
    (s.setDrops v).exts = s.exts ∧
    (s.setDrops v).feedFwd = s.feedFwd ∧
    (s.setDrops v).splitAt = s.splitAt ∧
    (s.setDrops v).returnAt = s.returnAt ∧
    (s.setDrops v).store = s.store ∧
    (s.setDrops v).writes = s.writes ∧
    (s.setDrops v).stages = s.stages ∧
    (s.setDrops v).quads = s.quads ∧
    (s.setDrops v).homework = s.homework ∧
    (s.setDrops v).firstForm = s.firstForm ∧
    (s.setDrops v).readbackAt = s.readbackAt ∧
    (s.setDrops v).loadWait = s.loadWait ∧
    (s.setDrops v).feedMove = s.feedMove ∧
    (s.setDrops v).bridgeBuild = s.bridgeBuild ∧
    (s.setDrops v).clk = s.clk ∧
    (s.setDrops v).pwr = s.pwr ∧
    (s.setDrops v).sensors = s.sensors ∧
    (s.setDrops v).nvArr = s.nvArr ∧
    (s.setDrops v).nvShadow = s.nvShadow ∧
    (s.setDrops v).nvRun = s.nvRun ∧
    (s.setDrops v).boot = s.boot ∧
    (s.setDrops v).fw = s.fw ∧
    (s.setDrops v).sup = s.sup :=
  ⟨rfl, rfl, rfl, rfl, rfl, rfl, rfl, rfl, rfl, rfl, rfl, rfl, rfl, rfl, rfl, rfl, rfl, rfl, rfl, rfl, rfl, rfl, rfl, rfl, rfl, rfl, rfl, rfl, rfl, rfl, rfl, rfl, rfl, rfl, rfl, rfl, rfl, rfl, rfl, rfl, rfl, rfl, rfl, rfl, rfl, rfl, rfl, rfl, rfl, rfl, rfl, rfl, rfl, rfl, rfl, rfl, rfl, rfl, rfl, rfl, rfl, rfl, rfl, rfl, rfl, rfl, rfl, rfl, rfl, rfl, rfl, rfl, rfl, rfl, rfl, rfl⟩

/-- Replacing `misses` replaces it and leaves every other field. -/
@[simp] theorem State.setMisses_frame (s : State) (v : List MissRun) :
    (s.setMisses v).misses = v ∧
    (s.setMisses v).now = s.now ∧
    (s.setMisses v).freeIx = s.freeIx ∧
    (s.setMisses v).pending = s.pending ∧
    (s.setMisses v).regs = s.regs ∧
    (s.setMisses v).inForce = s.inForce ∧
    (s.setMisses v).wb = s.wb ∧
    (s.setMisses v).shadow = s.shadow ∧
    (s.setMisses v).bus = s.bus ∧
    (s.setMisses v).mbxOrder = s.mbxOrder ∧
    (s.setMisses v).staging = s.staging ∧
    (s.setMisses v).jobs = s.jobs ∧
    (s.setMisses v).binds = s.binds ∧
    (s.setMisses v).batches = s.batches ∧
    (s.setMisses v).tagsHeld = s.tagsHeld ∧
    (s.setMisses v).tagAt = s.tagAt ∧
    (s.setMisses v).arrived = s.arrived ∧
    (s.setMisses v).outs = s.outs ∧
    (s.setMisses v).recQ = s.recQ ∧
    (s.setMisses v).recSeq = s.recSeq ∧
    (s.setMisses v).tx = s.tx ∧
    (s.setMisses v).chans = s.chans ∧
    (s.setMisses v).ingest = s.ingest ∧
    (s.setMisses v).drops = s.drops ∧
    (s.setMisses v).arms = s.arms ∧
    (s.setMisses v).bulk = s.bulk ∧
    (s.setMisses v).rxAt = s.rxAt ∧
    (s.setMisses v).fabric = s.fabric ∧
    (s.setMisses v).grantRr = s.grantRr ∧
    (s.setMisses v).slots = s.slots ∧
    (s.setMisses v).ptes = s.ptes ∧
    (s.setMisses v).xlates = s.xlates ∧
    (s.setMisses v).time = s.time ∧
    (s.setMisses v).halt = s.halt ∧
    (s.setMisses v).sram = s.sram ∧
    (s.setMisses v).pageUe = s.pageUe ∧
    (s.setMisses v).unitUe = s.unitUe ∧
    (s.setMisses v).retired = s.retired ∧
    (s.setMisses v).cluOut = s.cluOut ∧
    (s.setMisses v).plant = s.plant ∧
    (s.setMisses v).tiles = s.tiles ∧
    (s.setMisses v).cells = s.cells ∧
    (s.setMisses v).occ = s.occ ∧
    (s.setMisses v).tcal = s.tcal ∧
    (s.setMisses v).recur = s.recur ∧
    (s.setMisses v).stDone = s.stDone ∧
    (s.setMisses v).chips = s.chips ∧
    (s.setMisses v).meshTbl = s.meshTbl ∧
    (s.setMisses v).rings = s.rings ∧
    (s.setMisses v).lanes = s.lanes ∧
    (s.setMisses v).dirs = s.dirs ∧
    (s.setMisses v).mons = s.mons ∧
    (s.setMisses v).halves = s.halves ∧
    (s.setMisses v).exts = s.exts ∧
    (s.setMisses v).feedFwd = s.feedFwd ∧
    (s.setMisses v).splitAt = s.splitAt ∧
    (s.setMisses v).returnAt = s.returnAt ∧
    (s.setMisses v).store = s.store ∧
    (s.setMisses v).writes = s.writes ∧
    (s.setMisses v).stages = s.stages ∧
    (s.setMisses v).quads = s.quads ∧
    (s.setMisses v).homework = s.homework ∧
    (s.setMisses v).firstForm = s.firstForm ∧
    (s.setMisses v).readbackAt = s.readbackAt ∧
    (s.setMisses v).loadWait = s.loadWait ∧
    (s.setMisses v).feedMove = s.feedMove ∧
    (s.setMisses v).bridgeBuild = s.bridgeBuild ∧
    (s.setMisses v).clk = s.clk ∧
    (s.setMisses v).pwr = s.pwr ∧
    (s.setMisses v).sensors = s.sensors ∧
    (s.setMisses v).nvArr = s.nvArr ∧
    (s.setMisses v).nvShadow = s.nvShadow ∧
    (s.setMisses v).nvRun = s.nvRun ∧
    (s.setMisses v).boot = s.boot ∧
    (s.setMisses v).fw = s.fw ∧
    (s.setMisses v).sup = s.sup :=
  ⟨rfl, rfl, rfl, rfl, rfl, rfl, rfl, rfl, rfl, rfl, rfl, rfl, rfl, rfl, rfl, rfl, rfl, rfl, rfl, rfl, rfl, rfl, rfl, rfl, rfl, rfl, rfl, rfl, rfl, rfl, rfl, rfl, rfl, rfl, rfl, rfl, rfl, rfl, rfl, rfl, rfl, rfl, rfl, rfl, rfl, rfl, rfl, rfl, rfl, rfl, rfl, rfl, rfl, rfl, rfl, rfl, rfl, rfl, rfl, rfl, rfl, rfl, rfl, rfl, rfl, rfl, rfl, rfl, rfl, rfl, rfl, rfl, rfl, rfl, rfl, rfl⟩

/-- Replacing `arms` replaces it and leaves every other field. -/
@[simp] theorem State.setArms_frame (s : State) (v : Sparse Arm) :
    (s.setArms v).arms = v ∧
    (s.setArms v).now = s.now ∧
    (s.setArms v).freeIx = s.freeIx ∧
    (s.setArms v).pending = s.pending ∧
    (s.setArms v).regs = s.regs ∧
    (s.setArms v).inForce = s.inForce ∧
    (s.setArms v).wb = s.wb ∧
    (s.setArms v).shadow = s.shadow ∧
    (s.setArms v).bus = s.bus ∧
    (s.setArms v).mbxOrder = s.mbxOrder ∧
    (s.setArms v).staging = s.staging ∧
    (s.setArms v).jobs = s.jobs ∧
    (s.setArms v).binds = s.binds ∧
    (s.setArms v).batches = s.batches ∧
    (s.setArms v).tagsHeld = s.tagsHeld ∧
    (s.setArms v).tagAt = s.tagAt ∧
    (s.setArms v).arrived = s.arrived ∧
    (s.setArms v).outs = s.outs ∧
    (s.setArms v).recQ = s.recQ ∧
    (s.setArms v).recSeq = s.recSeq ∧
    (s.setArms v).tx = s.tx ∧
    (s.setArms v).chans = s.chans ∧
    (s.setArms v).ingest = s.ingest ∧
    (s.setArms v).drops = s.drops ∧
    (s.setArms v).misses = s.misses ∧
    (s.setArms v).bulk = s.bulk ∧
    (s.setArms v).rxAt = s.rxAt ∧
    (s.setArms v).fabric = s.fabric ∧
    (s.setArms v).grantRr = s.grantRr ∧
    (s.setArms v).slots = s.slots ∧
    (s.setArms v).ptes = s.ptes ∧
    (s.setArms v).xlates = s.xlates ∧
    (s.setArms v).time = s.time ∧
    (s.setArms v).halt = s.halt ∧
    (s.setArms v).sram = s.sram ∧
    (s.setArms v).pageUe = s.pageUe ∧
    (s.setArms v).unitUe = s.unitUe ∧
    (s.setArms v).retired = s.retired ∧
    (s.setArms v).cluOut = s.cluOut ∧
    (s.setArms v).plant = s.plant ∧
    (s.setArms v).tiles = s.tiles ∧
    (s.setArms v).cells = s.cells ∧
    (s.setArms v).occ = s.occ ∧
    (s.setArms v).tcal = s.tcal ∧
    (s.setArms v).recur = s.recur ∧
    (s.setArms v).stDone = s.stDone ∧
    (s.setArms v).chips = s.chips ∧
    (s.setArms v).meshTbl = s.meshTbl ∧
    (s.setArms v).rings = s.rings ∧
    (s.setArms v).lanes = s.lanes ∧
    (s.setArms v).dirs = s.dirs ∧
    (s.setArms v).mons = s.mons ∧
    (s.setArms v).halves = s.halves ∧
    (s.setArms v).exts = s.exts ∧
    (s.setArms v).feedFwd = s.feedFwd ∧
    (s.setArms v).splitAt = s.splitAt ∧
    (s.setArms v).returnAt = s.returnAt ∧
    (s.setArms v).store = s.store ∧
    (s.setArms v).writes = s.writes ∧
    (s.setArms v).stages = s.stages ∧
    (s.setArms v).quads = s.quads ∧
    (s.setArms v).homework = s.homework ∧
    (s.setArms v).firstForm = s.firstForm ∧
    (s.setArms v).readbackAt = s.readbackAt ∧
    (s.setArms v).loadWait = s.loadWait ∧
    (s.setArms v).feedMove = s.feedMove ∧
    (s.setArms v).bridgeBuild = s.bridgeBuild ∧
    (s.setArms v).clk = s.clk ∧
    (s.setArms v).pwr = s.pwr ∧
    (s.setArms v).sensors = s.sensors ∧
    (s.setArms v).nvArr = s.nvArr ∧
    (s.setArms v).nvShadow = s.nvShadow ∧
    (s.setArms v).nvRun = s.nvRun ∧
    (s.setArms v).boot = s.boot ∧
    (s.setArms v).fw = s.fw ∧
    (s.setArms v).sup = s.sup :=
  ⟨rfl, rfl, rfl, rfl, rfl, rfl, rfl, rfl, rfl, rfl, rfl, rfl, rfl, rfl, rfl, rfl, rfl, rfl, rfl, rfl, rfl, rfl, rfl, rfl, rfl, rfl, rfl, rfl, rfl, rfl, rfl, rfl, rfl, rfl, rfl, rfl, rfl, rfl, rfl, rfl, rfl, rfl, rfl, rfl, rfl, rfl, rfl, rfl, rfl, rfl, rfl, rfl, rfl, rfl, rfl, rfl, rfl, rfl, rfl, rfl, rfl, rfl, rfl, rfl, rfl, rfl, rfl, rfl, rfl, rfl, rfl, rfl, rfl, rfl, rfl, rfl⟩

/-- Replacing `bulk` replaces it and leaves every other field. -/
@[simp] theorem State.setBulk_frame (s : State) (v : List BulkRange) :
    (s.setBulk v).bulk = v ∧
    (s.setBulk v).now = s.now ∧
    (s.setBulk v).freeIx = s.freeIx ∧
    (s.setBulk v).pending = s.pending ∧
    (s.setBulk v).regs = s.regs ∧
    (s.setBulk v).inForce = s.inForce ∧
    (s.setBulk v).wb = s.wb ∧
    (s.setBulk v).shadow = s.shadow ∧
    (s.setBulk v).bus = s.bus ∧
    (s.setBulk v).mbxOrder = s.mbxOrder ∧
    (s.setBulk v).staging = s.staging ∧
    (s.setBulk v).jobs = s.jobs ∧
    (s.setBulk v).binds = s.binds ∧
    (s.setBulk v).batches = s.batches ∧
    (s.setBulk v).tagsHeld = s.tagsHeld ∧
    (s.setBulk v).tagAt = s.tagAt ∧
    (s.setBulk v).arrived = s.arrived ∧
    (s.setBulk v).outs = s.outs ∧
    (s.setBulk v).recQ = s.recQ ∧
    (s.setBulk v).recSeq = s.recSeq ∧
    (s.setBulk v).tx = s.tx ∧
    (s.setBulk v).chans = s.chans ∧
    (s.setBulk v).ingest = s.ingest ∧
    (s.setBulk v).drops = s.drops ∧
    (s.setBulk v).misses = s.misses ∧
    (s.setBulk v).arms = s.arms ∧
    (s.setBulk v).rxAt = s.rxAt ∧
    (s.setBulk v).fabric = s.fabric ∧
    (s.setBulk v).grantRr = s.grantRr ∧
    (s.setBulk v).slots = s.slots ∧
    (s.setBulk v).ptes = s.ptes ∧
    (s.setBulk v).xlates = s.xlates ∧
    (s.setBulk v).time = s.time ∧
    (s.setBulk v).halt = s.halt ∧
    (s.setBulk v).sram = s.sram ∧
    (s.setBulk v).pageUe = s.pageUe ∧
    (s.setBulk v).unitUe = s.unitUe ∧
    (s.setBulk v).retired = s.retired ∧
    (s.setBulk v).cluOut = s.cluOut ∧
    (s.setBulk v).plant = s.plant ∧
    (s.setBulk v).tiles = s.tiles ∧
    (s.setBulk v).cells = s.cells ∧
    (s.setBulk v).occ = s.occ ∧
    (s.setBulk v).tcal = s.tcal ∧
    (s.setBulk v).recur = s.recur ∧
    (s.setBulk v).stDone = s.stDone ∧
    (s.setBulk v).chips = s.chips ∧
    (s.setBulk v).meshTbl = s.meshTbl ∧
    (s.setBulk v).rings = s.rings ∧
    (s.setBulk v).lanes = s.lanes ∧
    (s.setBulk v).dirs = s.dirs ∧
    (s.setBulk v).mons = s.mons ∧
    (s.setBulk v).halves = s.halves ∧
    (s.setBulk v).exts = s.exts ∧
    (s.setBulk v).feedFwd = s.feedFwd ∧
    (s.setBulk v).splitAt = s.splitAt ∧
    (s.setBulk v).returnAt = s.returnAt ∧
    (s.setBulk v).store = s.store ∧
    (s.setBulk v).writes = s.writes ∧
    (s.setBulk v).stages = s.stages ∧
    (s.setBulk v).quads = s.quads ∧
    (s.setBulk v).homework = s.homework ∧
    (s.setBulk v).firstForm = s.firstForm ∧
    (s.setBulk v).readbackAt = s.readbackAt ∧
    (s.setBulk v).loadWait = s.loadWait ∧
    (s.setBulk v).feedMove = s.feedMove ∧
    (s.setBulk v).bridgeBuild = s.bridgeBuild ∧
    (s.setBulk v).clk = s.clk ∧
    (s.setBulk v).pwr = s.pwr ∧
    (s.setBulk v).sensors = s.sensors ∧
    (s.setBulk v).nvArr = s.nvArr ∧
    (s.setBulk v).nvShadow = s.nvShadow ∧
    (s.setBulk v).nvRun = s.nvRun ∧
    (s.setBulk v).boot = s.boot ∧
    (s.setBulk v).fw = s.fw ∧
    (s.setBulk v).sup = s.sup :=
  ⟨rfl, rfl, rfl, rfl, rfl, rfl, rfl, rfl, rfl, rfl, rfl, rfl, rfl, rfl, rfl, rfl, rfl, rfl, rfl, rfl, rfl, rfl, rfl, rfl, rfl, rfl, rfl, rfl, rfl, rfl, rfl, rfl, rfl, rfl, rfl, rfl, rfl, rfl, rfl, rfl, rfl, rfl, rfl, rfl, rfl, rfl, rfl, rfl, rfl, rfl, rfl, rfl, rfl, rfl, rfl, rfl, rfl, rfl, rfl, rfl, rfl, rfl, rfl, rfl, rfl, rfl, rfl, rfl, rfl, rfl, rfl, rfl, rfl, rfl, rfl, rfl⟩

/-- Replacing `rxAt` replaces it and leaves every other field. -/
@[simp] theorem State.setRxAt_frame (s : State) (v : Sparse (Option Nat)) :
    (s.setRxAt v).rxAt = v ∧
    (s.setRxAt v).now = s.now ∧
    (s.setRxAt v).freeIx = s.freeIx ∧
    (s.setRxAt v).pending = s.pending ∧
    (s.setRxAt v).regs = s.regs ∧
    (s.setRxAt v).inForce = s.inForce ∧
    (s.setRxAt v).wb = s.wb ∧
    (s.setRxAt v).shadow = s.shadow ∧
    (s.setRxAt v).bus = s.bus ∧
    (s.setRxAt v).mbxOrder = s.mbxOrder ∧
    (s.setRxAt v).staging = s.staging ∧
    (s.setRxAt v).jobs = s.jobs ∧
    (s.setRxAt v).binds = s.binds ∧
    (s.setRxAt v).batches = s.batches ∧
    (s.setRxAt v).tagsHeld = s.tagsHeld ∧
    (s.setRxAt v).tagAt = s.tagAt ∧
    (s.setRxAt v).arrived = s.arrived ∧
    (s.setRxAt v).outs = s.outs ∧
    (s.setRxAt v).recQ = s.recQ ∧
    (s.setRxAt v).recSeq = s.recSeq ∧
    (s.setRxAt v).tx = s.tx ∧
    (s.setRxAt v).chans = s.chans ∧
    (s.setRxAt v).ingest = s.ingest ∧
    (s.setRxAt v).drops = s.drops ∧
    (s.setRxAt v).misses = s.misses ∧
    (s.setRxAt v).arms = s.arms ∧
    (s.setRxAt v).bulk = s.bulk ∧
    (s.setRxAt v).fabric = s.fabric ∧
    (s.setRxAt v).grantRr = s.grantRr ∧
    (s.setRxAt v).slots = s.slots ∧
    (s.setRxAt v).ptes = s.ptes ∧
    (s.setRxAt v).xlates = s.xlates ∧
    (s.setRxAt v).time = s.time ∧
    (s.setRxAt v).halt = s.halt ∧
    (s.setRxAt v).sram = s.sram ∧
    (s.setRxAt v).pageUe = s.pageUe ∧
    (s.setRxAt v).unitUe = s.unitUe ∧
    (s.setRxAt v).retired = s.retired ∧
    (s.setRxAt v).cluOut = s.cluOut ∧
    (s.setRxAt v).plant = s.plant ∧
    (s.setRxAt v).tiles = s.tiles ∧
    (s.setRxAt v).cells = s.cells ∧
    (s.setRxAt v).occ = s.occ ∧
    (s.setRxAt v).tcal = s.tcal ∧
    (s.setRxAt v).recur = s.recur ∧
    (s.setRxAt v).stDone = s.stDone ∧
    (s.setRxAt v).chips = s.chips ∧
    (s.setRxAt v).meshTbl = s.meshTbl ∧
    (s.setRxAt v).rings = s.rings ∧
    (s.setRxAt v).lanes = s.lanes ∧
    (s.setRxAt v).dirs = s.dirs ∧
    (s.setRxAt v).mons = s.mons ∧
    (s.setRxAt v).halves = s.halves ∧
    (s.setRxAt v).exts = s.exts ∧
    (s.setRxAt v).feedFwd = s.feedFwd ∧
    (s.setRxAt v).splitAt = s.splitAt ∧
    (s.setRxAt v).returnAt = s.returnAt ∧
    (s.setRxAt v).store = s.store ∧
    (s.setRxAt v).writes = s.writes ∧
    (s.setRxAt v).stages = s.stages ∧
    (s.setRxAt v).quads = s.quads ∧
    (s.setRxAt v).homework = s.homework ∧
    (s.setRxAt v).firstForm = s.firstForm ∧
    (s.setRxAt v).readbackAt = s.readbackAt ∧
    (s.setRxAt v).loadWait = s.loadWait ∧
    (s.setRxAt v).feedMove = s.feedMove ∧
    (s.setRxAt v).bridgeBuild = s.bridgeBuild ∧
    (s.setRxAt v).clk = s.clk ∧
    (s.setRxAt v).pwr = s.pwr ∧
    (s.setRxAt v).sensors = s.sensors ∧
    (s.setRxAt v).nvArr = s.nvArr ∧
    (s.setRxAt v).nvShadow = s.nvShadow ∧
    (s.setRxAt v).nvRun = s.nvRun ∧
    (s.setRxAt v).boot = s.boot ∧
    (s.setRxAt v).fw = s.fw ∧
    (s.setRxAt v).sup = s.sup :=
  ⟨rfl, rfl, rfl, rfl, rfl, rfl, rfl, rfl, rfl, rfl, rfl, rfl, rfl, rfl, rfl, rfl, rfl, rfl, rfl, rfl, rfl, rfl, rfl, rfl, rfl, rfl, rfl, rfl, rfl, rfl, rfl, rfl, rfl, rfl, rfl, rfl, rfl, rfl, rfl, rfl, rfl, rfl, rfl, rfl, rfl, rfl, rfl, rfl, rfl, rfl, rfl, rfl, rfl, rfl, rfl, rfl, rfl, rfl, rfl, rfl, rfl, rfl, rfl, rfl, rfl, rfl, rfl, rfl, rfl, rfl, rfl, rfl, rfl, rfl, rfl, rfl⟩

/-- Replacing `fabric` replaces it and leaves every other field. -/
@[simp] theorem State.setFabric_frame (s : State) (v : List Held) :
    (s.setFabric v).fabric = v ∧
    (s.setFabric v).now = s.now ∧
    (s.setFabric v).freeIx = s.freeIx ∧
    (s.setFabric v).pending = s.pending ∧
    (s.setFabric v).regs = s.regs ∧
    (s.setFabric v).inForce = s.inForce ∧
    (s.setFabric v).wb = s.wb ∧
    (s.setFabric v).shadow = s.shadow ∧
    (s.setFabric v).bus = s.bus ∧
    (s.setFabric v).mbxOrder = s.mbxOrder ∧
    (s.setFabric v).staging = s.staging ∧
    (s.setFabric v).jobs = s.jobs ∧
    (s.setFabric v).binds = s.binds ∧
    (s.setFabric v).batches = s.batches ∧
    (s.setFabric v).tagsHeld = s.tagsHeld ∧
    (s.setFabric v).tagAt = s.tagAt ∧
    (s.setFabric v).arrived = s.arrived ∧
    (s.setFabric v).outs = s.outs ∧
    (s.setFabric v).recQ = s.recQ ∧
    (s.setFabric v).recSeq = s.recSeq ∧
    (s.setFabric v).tx = s.tx ∧
    (s.setFabric v).chans = s.chans ∧
    (s.setFabric v).ingest = s.ingest ∧
    (s.setFabric v).drops = s.drops ∧
    (s.setFabric v).misses = s.misses ∧
    (s.setFabric v).arms = s.arms ∧
    (s.setFabric v).bulk = s.bulk ∧
    (s.setFabric v).rxAt = s.rxAt ∧
    (s.setFabric v).grantRr = s.grantRr ∧
    (s.setFabric v).slots = s.slots ∧
    (s.setFabric v).ptes = s.ptes ∧
    (s.setFabric v).xlates = s.xlates ∧
    (s.setFabric v).time = s.time ∧
    (s.setFabric v).halt = s.halt ∧
    (s.setFabric v).sram = s.sram ∧
    (s.setFabric v).pageUe = s.pageUe ∧
    (s.setFabric v).unitUe = s.unitUe ∧
    (s.setFabric v).retired = s.retired ∧
    (s.setFabric v).cluOut = s.cluOut ∧
    (s.setFabric v).plant = s.plant ∧
    (s.setFabric v).tiles = s.tiles ∧
    (s.setFabric v).cells = s.cells ∧
    (s.setFabric v).occ = s.occ ∧
    (s.setFabric v).tcal = s.tcal ∧
    (s.setFabric v).recur = s.recur ∧
    (s.setFabric v).stDone = s.stDone ∧
    (s.setFabric v).chips = s.chips ∧
    (s.setFabric v).meshTbl = s.meshTbl ∧
    (s.setFabric v).rings = s.rings ∧
    (s.setFabric v).lanes = s.lanes ∧
    (s.setFabric v).dirs = s.dirs ∧
    (s.setFabric v).mons = s.mons ∧
    (s.setFabric v).halves = s.halves ∧
    (s.setFabric v).exts = s.exts ∧
    (s.setFabric v).feedFwd = s.feedFwd ∧
    (s.setFabric v).splitAt = s.splitAt ∧
    (s.setFabric v).returnAt = s.returnAt ∧
    (s.setFabric v).store = s.store ∧
    (s.setFabric v).writes = s.writes ∧
    (s.setFabric v).stages = s.stages ∧
    (s.setFabric v).quads = s.quads ∧
    (s.setFabric v).homework = s.homework ∧
    (s.setFabric v).firstForm = s.firstForm ∧
    (s.setFabric v).readbackAt = s.readbackAt ∧
    (s.setFabric v).loadWait = s.loadWait ∧
    (s.setFabric v).feedMove = s.feedMove ∧
    (s.setFabric v).bridgeBuild = s.bridgeBuild ∧
    (s.setFabric v).clk = s.clk ∧
    (s.setFabric v).pwr = s.pwr ∧
    (s.setFabric v).sensors = s.sensors ∧
    (s.setFabric v).nvArr = s.nvArr ∧
    (s.setFabric v).nvShadow = s.nvShadow ∧
    (s.setFabric v).nvRun = s.nvRun ∧
    (s.setFabric v).boot = s.boot ∧
    (s.setFabric v).fw = s.fw ∧
    (s.setFabric v).sup = s.sup :=
  ⟨rfl, rfl, rfl, rfl, rfl, rfl, rfl, rfl, rfl, rfl, rfl, rfl, rfl, rfl, rfl, rfl, rfl, rfl, rfl, rfl, rfl, rfl, rfl, rfl, rfl, rfl, rfl, rfl, rfl, rfl, rfl, rfl, rfl, rfl, rfl, rfl, rfl, rfl, rfl, rfl, rfl, rfl, rfl, rfl, rfl, rfl, rfl, rfl, rfl, rfl, rfl, rfl, rfl, rfl, rfl, rfl, rfl, rfl, rfl, rfl, rfl, rfl, rfl, rfl, rfl, rfl, rfl, rfl, rfl, rfl, rfl, rfl, rfl, rfl, rfl, rfl⟩

/-- Replacing `grantRr` replaces it and leaves every other field. -/
@[simp] theorem State.setGrantRr_frame (s : State) (v : Sparse Nat) :
    (s.setGrantRr v).grantRr = v ∧
    (s.setGrantRr v).now = s.now ∧
    (s.setGrantRr v).freeIx = s.freeIx ∧
    (s.setGrantRr v).pending = s.pending ∧
    (s.setGrantRr v).regs = s.regs ∧
    (s.setGrantRr v).inForce = s.inForce ∧
    (s.setGrantRr v).wb = s.wb ∧
    (s.setGrantRr v).shadow = s.shadow ∧
    (s.setGrantRr v).bus = s.bus ∧
    (s.setGrantRr v).mbxOrder = s.mbxOrder ∧
    (s.setGrantRr v).staging = s.staging ∧
    (s.setGrantRr v).jobs = s.jobs ∧
    (s.setGrantRr v).binds = s.binds ∧
    (s.setGrantRr v).batches = s.batches ∧
    (s.setGrantRr v).tagsHeld = s.tagsHeld ∧
    (s.setGrantRr v).tagAt = s.tagAt ∧
    (s.setGrantRr v).arrived = s.arrived ∧
    (s.setGrantRr v).outs = s.outs ∧
    (s.setGrantRr v).recQ = s.recQ ∧
    (s.setGrantRr v).recSeq = s.recSeq ∧
    (s.setGrantRr v).tx = s.tx ∧
    (s.setGrantRr v).chans = s.chans ∧
    (s.setGrantRr v).ingest = s.ingest ∧
    (s.setGrantRr v).drops = s.drops ∧
    (s.setGrantRr v).misses = s.misses ∧
    (s.setGrantRr v).arms = s.arms ∧
    (s.setGrantRr v).bulk = s.bulk ∧
    (s.setGrantRr v).rxAt = s.rxAt ∧
    (s.setGrantRr v).fabric = s.fabric ∧
    (s.setGrantRr v).slots = s.slots ∧
    (s.setGrantRr v).ptes = s.ptes ∧
    (s.setGrantRr v).xlates = s.xlates ∧
    (s.setGrantRr v).time = s.time ∧
    (s.setGrantRr v).halt = s.halt ∧
    (s.setGrantRr v).sram = s.sram ∧
    (s.setGrantRr v).pageUe = s.pageUe ∧
    (s.setGrantRr v).unitUe = s.unitUe ∧
    (s.setGrantRr v).retired = s.retired ∧
    (s.setGrantRr v).cluOut = s.cluOut ∧
    (s.setGrantRr v).plant = s.plant ∧
    (s.setGrantRr v).tiles = s.tiles ∧
    (s.setGrantRr v).cells = s.cells ∧
    (s.setGrantRr v).occ = s.occ ∧
    (s.setGrantRr v).tcal = s.tcal ∧
    (s.setGrantRr v).recur = s.recur ∧
    (s.setGrantRr v).stDone = s.stDone ∧
    (s.setGrantRr v).chips = s.chips ∧
    (s.setGrantRr v).meshTbl = s.meshTbl ∧
    (s.setGrantRr v).rings = s.rings ∧
    (s.setGrantRr v).lanes = s.lanes ∧
    (s.setGrantRr v).dirs = s.dirs ∧
    (s.setGrantRr v).mons = s.mons ∧
    (s.setGrantRr v).halves = s.halves ∧
    (s.setGrantRr v).exts = s.exts ∧
    (s.setGrantRr v).feedFwd = s.feedFwd ∧
    (s.setGrantRr v).splitAt = s.splitAt ∧
    (s.setGrantRr v).returnAt = s.returnAt ∧
    (s.setGrantRr v).store = s.store ∧
    (s.setGrantRr v).writes = s.writes ∧
    (s.setGrantRr v).stages = s.stages ∧
    (s.setGrantRr v).quads = s.quads ∧
    (s.setGrantRr v).homework = s.homework ∧
    (s.setGrantRr v).firstForm = s.firstForm ∧
    (s.setGrantRr v).readbackAt = s.readbackAt ∧
    (s.setGrantRr v).loadWait = s.loadWait ∧
    (s.setGrantRr v).feedMove = s.feedMove ∧
    (s.setGrantRr v).bridgeBuild = s.bridgeBuild ∧
    (s.setGrantRr v).clk = s.clk ∧
    (s.setGrantRr v).pwr = s.pwr ∧
    (s.setGrantRr v).sensors = s.sensors ∧
    (s.setGrantRr v).nvArr = s.nvArr ∧
    (s.setGrantRr v).nvShadow = s.nvShadow ∧
    (s.setGrantRr v).nvRun = s.nvRun ∧
    (s.setGrantRr v).boot = s.boot ∧
    (s.setGrantRr v).fw = s.fw ∧
    (s.setGrantRr v).sup = s.sup :=
  ⟨rfl, rfl, rfl, rfl, rfl, rfl, rfl, rfl, rfl, rfl, rfl, rfl, rfl, rfl, rfl, rfl, rfl, rfl, rfl, rfl, rfl, rfl, rfl, rfl, rfl, rfl, rfl, rfl, rfl, rfl, rfl, rfl, rfl, rfl, rfl, rfl, rfl, rfl, rfl, rfl, rfl, rfl, rfl, rfl, rfl, rfl, rfl, rfl, rfl, rfl, rfl, rfl, rfl, rfl, rfl, rfl, rfl, rfl, rfl, rfl, rfl, rfl, rfl, rfl, rfl, rfl, rfl, rfl, rfl, rfl, rfl, rfl, rfl, rfl, rfl, rfl⟩

/-- Replacing `slots` replaces it and leaves every other field. -/
@[simp] theorem State.setSlots_frame (s : State) (v : List RedSlot) :
    (s.setSlots v).slots = v ∧
    (s.setSlots v).now = s.now ∧
    (s.setSlots v).freeIx = s.freeIx ∧
    (s.setSlots v).pending = s.pending ∧
    (s.setSlots v).regs = s.regs ∧
    (s.setSlots v).inForce = s.inForce ∧
    (s.setSlots v).wb = s.wb ∧
    (s.setSlots v).shadow = s.shadow ∧
    (s.setSlots v).bus = s.bus ∧
    (s.setSlots v).mbxOrder = s.mbxOrder ∧
    (s.setSlots v).staging = s.staging ∧
    (s.setSlots v).jobs = s.jobs ∧
    (s.setSlots v).binds = s.binds ∧
    (s.setSlots v).batches = s.batches ∧
    (s.setSlots v).tagsHeld = s.tagsHeld ∧
    (s.setSlots v).tagAt = s.tagAt ∧
    (s.setSlots v).arrived = s.arrived ∧
    (s.setSlots v).outs = s.outs ∧
    (s.setSlots v).recQ = s.recQ ∧
    (s.setSlots v).recSeq = s.recSeq ∧
    (s.setSlots v).tx = s.tx ∧
    (s.setSlots v).chans = s.chans ∧
    (s.setSlots v).ingest = s.ingest ∧
    (s.setSlots v).drops = s.drops ∧
    (s.setSlots v).misses = s.misses ∧
    (s.setSlots v).arms = s.arms ∧
    (s.setSlots v).bulk = s.bulk ∧
    (s.setSlots v).rxAt = s.rxAt ∧
    (s.setSlots v).fabric = s.fabric ∧
    (s.setSlots v).grantRr = s.grantRr ∧
    (s.setSlots v).ptes = s.ptes ∧
    (s.setSlots v).xlates = s.xlates ∧
    (s.setSlots v).time = s.time ∧
    (s.setSlots v).halt = s.halt ∧
    (s.setSlots v).sram = s.sram ∧
    (s.setSlots v).pageUe = s.pageUe ∧
    (s.setSlots v).unitUe = s.unitUe ∧
    (s.setSlots v).retired = s.retired ∧
    (s.setSlots v).cluOut = s.cluOut ∧
    (s.setSlots v).plant = s.plant ∧
    (s.setSlots v).tiles = s.tiles ∧
    (s.setSlots v).cells = s.cells ∧
    (s.setSlots v).occ = s.occ ∧
    (s.setSlots v).tcal = s.tcal ∧
    (s.setSlots v).recur = s.recur ∧
    (s.setSlots v).stDone = s.stDone ∧
    (s.setSlots v).chips = s.chips ∧
    (s.setSlots v).meshTbl = s.meshTbl ∧
    (s.setSlots v).rings = s.rings ∧
    (s.setSlots v).lanes = s.lanes ∧
    (s.setSlots v).dirs = s.dirs ∧
    (s.setSlots v).mons = s.mons ∧
    (s.setSlots v).halves = s.halves ∧
    (s.setSlots v).exts = s.exts ∧
    (s.setSlots v).feedFwd = s.feedFwd ∧
    (s.setSlots v).splitAt = s.splitAt ∧
    (s.setSlots v).returnAt = s.returnAt ∧
    (s.setSlots v).store = s.store ∧
    (s.setSlots v).writes = s.writes ∧
    (s.setSlots v).stages = s.stages ∧
    (s.setSlots v).quads = s.quads ∧
    (s.setSlots v).homework = s.homework ∧
    (s.setSlots v).firstForm = s.firstForm ∧
    (s.setSlots v).readbackAt = s.readbackAt ∧
    (s.setSlots v).loadWait = s.loadWait ∧
    (s.setSlots v).feedMove = s.feedMove ∧
    (s.setSlots v).bridgeBuild = s.bridgeBuild ∧
    (s.setSlots v).clk = s.clk ∧
    (s.setSlots v).pwr = s.pwr ∧
    (s.setSlots v).sensors = s.sensors ∧
    (s.setSlots v).nvArr = s.nvArr ∧
    (s.setSlots v).nvShadow = s.nvShadow ∧
    (s.setSlots v).nvRun = s.nvRun ∧
    (s.setSlots v).boot = s.boot ∧
    (s.setSlots v).fw = s.fw ∧
    (s.setSlots v).sup = s.sup :=
  ⟨rfl, rfl, rfl, rfl, rfl, rfl, rfl, rfl, rfl, rfl, rfl, rfl, rfl, rfl, rfl, rfl, rfl, rfl, rfl, rfl, rfl, rfl, rfl, rfl, rfl, rfl, rfl, rfl, rfl, rfl, rfl, rfl, rfl, rfl, rfl, rfl, rfl, rfl, rfl, rfl, rfl, rfl, rfl, rfl, rfl, rfl, rfl, rfl, rfl, rfl, rfl, rfl, rfl, rfl, rfl, rfl, rfl, rfl, rfl, rfl, rfl, rfl, rfl, rfl, rfl, rfl, rfl, rfl, rfl, rfl, rfl, rfl, rfl, rfl, rfl, rfl⟩

/-- Replacing `ptes` replaces it and leaves every other field. -/
@[simp] theorem State.setPtes_frame (s : State) (v : Sparse Pte) :
    (s.setPtes v).ptes = v ∧
    (s.setPtes v).now = s.now ∧
    (s.setPtes v).freeIx = s.freeIx ∧
    (s.setPtes v).pending = s.pending ∧
    (s.setPtes v).regs = s.regs ∧
    (s.setPtes v).inForce = s.inForce ∧
    (s.setPtes v).wb = s.wb ∧
    (s.setPtes v).shadow = s.shadow ∧
    (s.setPtes v).bus = s.bus ∧
    (s.setPtes v).mbxOrder = s.mbxOrder ∧
    (s.setPtes v).staging = s.staging ∧
    (s.setPtes v).jobs = s.jobs ∧
    (s.setPtes v).binds = s.binds ∧
    (s.setPtes v).batches = s.batches ∧
    (s.setPtes v).tagsHeld = s.tagsHeld ∧
    (s.setPtes v).tagAt = s.tagAt ∧
    (s.setPtes v).arrived = s.arrived ∧
    (s.setPtes v).outs = s.outs ∧
    (s.setPtes v).recQ = s.recQ ∧
    (s.setPtes v).recSeq = s.recSeq ∧
    (s.setPtes v).tx = s.tx ∧
    (s.setPtes v).chans = s.chans ∧
    (s.setPtes v).ingest = s.ingest ∧
    (s.setPtes v).drops = s.drops ∧
    (s.setPtes v).misses = s.misses ∧
    (s.setPtes v).arms = s.arms ∧
    (s.setPtes v).bulk = s.bulk ∧
    (s.setPtes v).rxAt = s.rxAt ∧
    (s.setPtes v).fabric = s.fabric ∧
    (s.setPtes v).grantRr = s.grantRr ∧
    (s.setPtes v).slots = s.slots ∧
    (s.setPtes v).xlates = s.xlates ∧
    (s.setPtes v).time = s.time ∧
    (s.setPtes v).halt = s.halt ∧
    (s.setPtes v).sram = s.sram ∧
    (s.setPtes v).pageUe = s.pageUe ∧
    (s.setPtes v).unitUe = s.unitUe ∧
    (s.setPtes v).retired = s.retired ∧
    (s.setPtes v).cluOut = s.cluOut ∧
    (s.setPtes v).plant = s.plant ∧
    (s.setPtes v).tiles = s.tiles ∧
    (s.setPtes v).cells = s.cells ∧
    (s.setPtes v).occ = s.occ ∧
    (s.setPtes v).tcal = s.tcal ∧
    (s.setPtes v).recur = s.recur ∧
    (s.setPtes v).stDone = s.stDone ∧
    (s.setPtes v).chips = s.chips ∧
    (s.setPtes v).meshTbl = s.meshTbl ∧
    (s.setPtes v).rings = s.rings ∧
    (s.setPtes v).lanes = s.lanes ∧
    (s.setPtes v).dirs = s.dirs ∧
    (s.setPtes v).mons = s.mons ∧
    (s.setPtes v).halves = s.halves ∧
    (s.setPtes v).exts = s.exts ∧
    (s.setPtes v).feedFwd = s.feedFwd ∧
    (s.setPtes v).splitAt = s.splitAt ∧
    (s.setPtes v).returnAt = s.returnAt ∧
    (s.setPtes v).store = s.store ∧
    (s.setPtes v).writes = s.writes ∧
    (s.setPtes v).stages = s.stages ∧
    (s.setPtes v).quads = s.quads ∧
    (s.setPtes v).homework = s.homework ∧
    (s.setPtes v).firstForm = s.firstForm ∧
    (s.setPtes v).readbackAt = s.readbackAt ∧
    (s.setPtes v).loadWait = s.loadWait ∧
    (s.setPtes v).feedMove = s.feedMove ∧
    (s.setPtes v).bridgeBuild = s.bridgeBuild ∧
    (s.setPtes v).clk = s.clk ∧
    (s.setPtes v).pwr = s.pwr ∧
    (s.setPtes v).sensors = s.sensors ∧
    (s.setPtes v).nvArr = s.nvArr ∧
    (s.setPtes v).nvShadow = s.nvShadow ∧
    (s.setPtes v).nvRun = s.nvRun ∧
    (s.setPtes v).boot = s.boot ∧
    (s.setPtes v).fw = s.fw ∧
    (s.setPtes v).sup = s.sup :=
  ⟨rfl, rfl, rfl, rfl, rfl, rfl, rfl, rfl, rfl, rfl, rfl, rfl, rfl, rfl, rfl, rfl, rfl, rfl, rfl, rfl, rfl, rfl, rfl, rfl, rfl, rfl, rfl, rfl, rfl, rfl, rfl, rfl, rfl, rfl, rfl, rfl, rfl, rfl, rfl, rfl, rfl, rfl, rfl, rfl, rfl, rfl, rfl, rfl, rfl, rfl, rfl, rfl, rfl, rfl, rfl, rfl, rfl, rfl, rfl, rfl, rfl, rfl, rfl, rfl, rfl, rfl, rfl, rfl, rfl, rfl, rfl, rfl, rfl, rfl, rfl, rfl⟩

/-- Replacing `xlates` replaces it and leaves every other field. -/
@[simp] theorem State.setXlates_frame (s : State) (v : List XlateEntry) :
    (s.setXlates v).xlates = v ∧
    (s.setXlates v).now = s.now ∧
    (s.setXlates v).freeIx = s.freeIx ∧
    (s.setXlates v).pending = s.pending ∧
    (s.setXlates v).regs = s.regs ∧
    (s.setXlates v).inForce = s.inForce ∧
    (s.setXlates v).wb = s.wb ∧
    (s.setXlates v).shadow = s.shadow ∧
    (s.setXlates v).bus = s.bus ∧
    (s.setXlates v).mbxOrder = s.mbxOrder ∧
    (s.setXlates v).staging = s.staging ∧
    (s.setXlates v).jobs = s.jobs ∧
    (s.setXlates v).binds = s.binds ∧
    (s.setXlates v).batches = s.batches ∧
    (s.setXlates v).tagsHeld = s.tagsHeld ∧
    (s.setXlates v).tagAt = s.tagAt ∧
    (s.setXlates v).arrived = s.arrived ∧
    (s.setXlates v).outs = s.outs ∧
    (s.setXlates v).recQ = s.recQ ∧
    (s.setXlates v).recSeq = s.recSeq ∧
    (s.setXlates v).tx = s.tx ∧
    (s.setXlates v).chans = s.chans ∧
    (s.setXlates v).ingest = s.ingest ∧
    (s.setXlates v).drops = s.drops ∧
    (s.setXlates v).misses = s.misses ∧
    (s.setXlates v).arms = s.arms ∧
    (s.setXlates v).bulk = s.bulk ∧
    (s.setXlates v).rxAt = s.rxAt ∧
    (s.setXlates v).fabric = s.fabric ∧
    (s.setXlates v).grantRr = s.grantRr ∧
    (s.setXlates v).slots = s.slots ∧
    (s.setXlates v).ptes = s.ptes ∧
    (s.setXlates v).time = s.time ∧
    (s.setXlates v).halt = s.halt ∧
    (s.setXlates v).sram = s.sram ∧
    (s.setXlates v).pageUe = s.pageUe ∧
    (s.setXlates v).unitUe = s.unitUe ∧
    (s.setXlates v).retired = s.retired ∧
    (s.setXlates v).cluOut = s.cluOut ∧
    (s.setXlates v).plant = s.plant ∧
    (s.setXlates v).tiles = s.tiles ∧
    (s.setXlates v).cells = s.cells ∧
    (s.setXlates v).occ = s.occ ∧
    (s.setXlates v).tcal = s.tcal ∧
    (s.setXlates v).recur = s.recur ∧
    (s.setXlates v).stDone = s.stDone ∧
    (s.setXlates v).chips = s.chips ∧
    (s.setXlates v).meshTbl = s.meshTbl ∧
    (s.setXlates v).rings = s.rings ∧
    (s.setXlates v).lanes = s.lanes ∧
    (s.setXlates v).dirs = s.dirs ∧
    (s.setXlates v).mons = s.mons ∧
    (s.setXlates v).halves = s.halves ∧
    (s.setXlates v).exts = s.exts ∧
    (s.setXlates v).feedFwd = s.feedFwd ∧
    (s.setXlates v).splitAt = s.splitAt ∧
    (s.setXlates v).returnAt = s.returnAt ∧
    (s.setXlates v).store = s.store ∧
    (s.setXlates v).writes = s.writes ∧
    (s.setXlates v).stages = s.stages ∧
    (s.setXlates v).quads = s.quads ∧
    (s.setXlates v).homework = s.homework ∧
    (s.setXlates v).firstForm = s.firstForm ∧
    (s.setXlates v).readbackAt = s.readbackAt ∧
    (s.setXlates v).loadWait = s.loadWait ∧
    (s.setXlates v).feedMove = s.feedMove ∧
    (s.setXlates v).bridgeBuild = s.bridgeBuild ∧
    (s.setXlates v).clk = s.clk ∧
    (s.setXlates v).pwr = s.pwr ∧
    (s.setXlates v).sensors = s.sensors ∧
    (s.setXlates v).nvArr = s.nvArr ∧
    (s.setXlates v).nvShadow = s.nvShadow ∧
    (s.setXlates v).nvRun = s.nvRun ∧
    (s.setXlates v).boot = s.boot ∧
    (s.setXlates v).fw = s.fw ∧
    (s.setXlates v).sup = s.sup :=
  ⟨rfl, rfl, rfl, rfl, rfl, rfl, rfl, rfl, rfl, rfl, rfl, rfl, rfl, rfl, rfl, rfl, rfl, rfl, rfl, rfl, rfl, rfl, rfl, rfl, rfl, rfl, rfl, rfl, rfl, rfl, rfl, rfl, rfl, rfl, rfl, rfl, rfl, rfl, rfl, rfl, rfl, rfl, rfl, rfl, rfl, rfl, rfl, rfl, rfl, rfl, rfl, rfl, rfl, rfl, rfl, rfl, rfl, rfl, rfl, rfl, rfl, rfl, rfl, rfl, rfl, rfl, rfl, rfl, rfl, rfl, rfl, rfl, rfl, rfl, rfl, rfl⟩

/-- Replacing `time` replaces it and leaves every other field. -/
@[simp] theorem State.setTime_frame (s : State) (v : TimeUnit) :
    (s.setTime v).time = v ∧
    (s.setTime v).now = s.now ∧
    (s.setTime v).freeIx = s.freeIx ∧
    (s.setTime v).pending = s.pending ∧
    (s.setTime v).regs = s.regs ∧
    (s.setTime v).inForce = s.inForce ∧
    (s.setTime v).wb = s.wb ∧
    (s.setTime v).shadow = s.shadow ∧
    (s.setTime v).bus = s.bus ∧
    (s.setTime v).mbxOrder = s.mbxOrder ∧
    (s.setTime v).staging = s.staging ∧
    (s.setTime v).jobs = s.jobs ∧
    (s.setTime v).binds = s.binds ∧
    (s.setTime v).batches = s.batches ∧
    (s.setTime v).tagsHeld = s.tagsHeld ∧
    (s.setTime v).tagAt = s.tagAt ∧
    (s.setTime v).arrived = s.arrived ∧
    (s.setTime v).outs = s.outs ∧
    (s.setTime v).recQ = s.recQ ∧
    (s.setTime v).recSeq = s.recSeq ∧
    (s.setTime v).tx = s.tx ∧
    (s.setTime v).chans = s.chans ∧
    (s.setTime v).ingest = s.ingest ∧
    (s.setTime v).drops = s.drops ∧
    (s.setTime v).misses = s.misses ∧
    (s.setTime v).arms = s.arms ∧
    (s.setTime v).bulk = s.bulk ∧
    (s.setTime v).rxAt = s.rxAt ∧
    (s.setTime v).fabric = s.fabric ∧
    (s.setTime v).grantRr = s.grantRr ∧
    (s.setTime v).slots = s.slots ∧
    (s.setTime v).ptes = s.ptes ∧
    (s.setTime v).xlates = s.xlates ∧
    (s.setTime v).halt = s.halt ∧
    (s.setTime v).sram = s.sram ∧
    (s.setTime v).pageUe = s.pageUe ∧
    (s.setTime v).unitUe = s.unitUe ∧
    (s.setTime v).retired = s.retired ∧
    (s.setTime v).cluOut = s.cluOut ∧
    (s.setTime v).plant = s.plant ∧
    (s.setTime v).tiles = s.tiles ∧
    (s.setTime v).cells = s.cells ∧
    (s.setTime v).occ = s.occ ∧
    (s.setTime v).tcal = s.tcal ∧
    (s.setTime v).recur = s.recur ∧
    (s.setTime v).stDone = s.stDone ∧
    (s.setTime v).chips = s.chips ∧
    (s.setTime v).meshTbl = s.meshTbl ∧
    (s.setTime v).rings = s.rings ∧
    (s.setTime v).lanes = s.lanes ∧
    (s.setTime v).dirs = s.dirs ∧
    (s.setTime v).mons = s.mons ∧
    (s.setTime v).halves = s.halves ∧
    (s.setTime v).exts = s.exts ∧
    (s.setTime v).feedFwd = s.feedFwd ∧
    (s.setTime v).splitAt = s.splitAt ∧
    (s.setTime v).returnAt = s.returnAt ∧
    (s.setTime v).store = s.store ∧
    (s.setTime v).writes = s.writes ∧
    (s.setTime v).stages = s.stages ∧
    (s.setTime v).quads = s.quads ∧
    (s.setTime v).homework = s.homework ∧
    (s.setTime v).firstForm = s.firstForm ∧
    (s.setTime v).readbackAt = s.readbackAt ∧
    (s.setTime v).loadWait = s.loadWait ∧
    (s.setTime v).feedMove = s.feedMove ∧
    (s.setTime v).bridgeBuild = s.bridgeBuild ∧
    (s.setTime v).clk = s.clk ∧
    (s.setTime v).pwr = s.pwr ∧
    (s.setTime v).sensors = s.sensors ∧
    (s.setTime v).nvArr = s.nvArr ∧
    (s.setTime v).nvShadow = s.nvShadow ∧
    (s.setTime v).nvRun = s.nvRun ∧
    (s.setTime v).boot = s.boot ∧
    (s.setTime v).fw = s.fw ∧
    (s.setTime v).sup = s.sup :=
  ⟨rfl, rfl, rfl, rfl, rfl, rfl, rfl, rfl, rfl, rfl, rfl, rfl, rfl, rfl, rfl, rfl, rfl, rfl, rfl, rfl, rfl, rfl, rfl, rfl, rfl, rfl, rfl, rfl, rfl, rfl, rfl, rfl, rfl, rfl, rfl, rfl, rfl, rfl, rfl, rfl, rfl, rfl, rfl, rfl, rfl, rfl, rfl, rfl, rfl, rfl, rfl, rfl, rfl, rfl, rfl, rfl, rfl, rfl, rfl, rfl, rfl, rfl, rfl, rfl, rfl, rfl, rfl, rfl, rfl, rfl, rfl, rfl, rfl, rfl, rfl, rfl⟩

/-- Replacing `halt` replaces it and leaves every other field. -/
@[simp] theorem State.setHalt_frame (s : State) (v : Bool) :
    (s.setHalt v).halt = v ∧
    (s.setHalt v).now = s.now ∧
    (s.setHalt v).freeIx = s.freeIx ∧
    (s.setHalt v).pending = s.pending ∧
    (s.setHalt v).regs = s.regs ∧
    (s.setHalt v).inForce = s.inForce ∧
    (s.setHalt v).wb = s.wb ∧
    (s.setHalt v).shadow = s.shadow ∧
    (s.setHalt v).bus = s.bus ∧
    (s.setHalt v).mbxOrder = s.mbxOrder ∧
    (s.setHalt v).staging = s.staging ∧
    (s.setHalt v).jobs = s.jobs ∧
    (s.setHalt v).binds = s.binds ∧
    (s.setHalt v).batches = s.batches ∧
    (s.setHalt v).tagsHeld = s.tagsHeld ∧
    (s.setHalt v).tagAt = s.tagAt ∧
    (s.setHalt v).arrived = s.arrived ∧
    (s.setHalt v).outs = s.outs ∧
    (s.setHalt v).recQ = s.recQ ∧
    (s.setHalt v).recSeq = s.recSeq ∧
    (s.setHalt v).tx = s.tx ∧
    (s.setHalt v).chans = s.chans ∧
    (s.setHalt v).ingest = s.ingest ∧
    (s.setHalt v).drops = s.drops ∧
    (s.setHalt v).misses = s.misses ∧
    (s.setHalt v).arms = s.arms ∧
    (s.setHalt v).bulk = s.bulk ∧
    (s.setHalt v).rxAt = s.rxAt ∧
    (s.setHalt v).fabric = s.fabric ∧
    (s.setHalt v).grantRr = s.grantRr ∧
    (s.setHalt v).slots = s.slots ∧
    (s.setHalt v).ptes = s.ptes ∧
    (s.setHalt v).xlates = s.xlates ∧
    (s.setHalt v).time = s.time ∧
    (s.setHalt v).sram = s.sram ∧
    (s.setHalt v).pageUe = s.pageUe ∧
    (s.setHalt v).unitUe = s.unitUe ∧
    (s.setHalt v).retired = s.retired ∧
    (s.setHalt v).cluOut = s.cluOut ∧
    (s.setHalt v).plant = s.plant ∧
    (s.setHalt v).tiles = s.tiles ∧
    (s.setHalt v).cells = s.cells ∧
    (s.setHalt v).occ = s.occ ∧
    (s.setHalt v).tcal = s.tcal ∧
    (s.setHalt v).recur = s.recur ∧
    (s.setHalt v).stDone = s.stDone ∧
    (s.setHalt v).chips = s.chips ∧
    (s.setHalt v).meshTbl = s.meshTbl ∧
    (s.setHalt v).rings = s.rings ∧
    (s.setHalt v).lanes = s.lanes ∧
    (s.setHalt v).dirs = s.dirs ∧
    (s.setHalt v).mons = s.mons ∧
    (s.setHalt v).halves = s.halves ∧
    (s.setHalt v).exts = s.exts ∧
    (s.setHalt v).feedFwd = s.feedFwd ∧
    (s.setHalt v).splitAt = s.splitAt ∧
    (s.setHalt v).returnAt = s.returnAt ∧
    (s.setHalt v).store = s.store ∧
    (s.setHalt v).writes = s.writes ∧
    (s.setHalt v).stages = s.stages ∧
    (s.setHalt v).quads = s.quads ∧
    (s.setHalt v).homework = s.homework ∧
    (s.setHalt v).firstForm = s.firstForm ∧
    (s.setHalt v).readbackAt = s.readbackAt ∧
    (s.setHalt v).loadWait = s.loadWait ∧
    (s.setHalt v).feedMove = s.feedMove ∧
    (s.setHalt v).bridgeBuild = s.bridgeBuild ∧
    (s.setHalt v).clk = s.clk ∧
    (s.setHalt v).pwr = s.pwr ∧
    (s.setHalt v).sensors = s.sensors ∧
    (s.setHalt v).nvArr = s.nvArr ∧
    (s.setHalt v).nvShadow = s.nvShadow ∧
    (s.setHalt v).nvRun = s.nvRun ∧
    (s.setHalt v).boot = s.boot ∧
    (s.setHalt v).fw = s.fw ∧
    (s.setHalt v).sup = s.sup :=
  ⟨rfl, rfl, rfl, rfl, rfl, rfl, rfl, rfl, rfl, rfl, rfl, rfl, rfl, rfl, rfl, rfl, rfl, rfl, rfl, rfl, rfl, rfl, rfl, rfl, rfl, rfl, rfl, rfl, rfl, rfl, rfl, rfl, rfl, rfl, rfl, rfl, rfl, rfl, rfl, rfl, rfl, rfl, rfl, rfl, rfl, rfl, rfl, rfl, rfl, rfl, rfl, rfl, rfl, rfl, rfl, rfl, rfl, rfl, rfl, rfl, rfl, rfl, rfl, rfl, rfl, rfl, rfl, rfl, rfl, rfl, rfl, rfl, rfl, rfl, rfl, rfl⟩

/-- Replacing `sram` replaces it and leaves every other field. -/
@[simp] theorem State.setSram_frame (s : State) (v : Sparse Byte) :
    (s.setSram v).sram = v ∧
    (s.setSram v).now = s.now ∧
    (s.setSram v).freeIx = s.freeIx ∧
    (s.setSram v).pending = s.pending ∧
    (s.setSram v).regs = s.regs ∧
    (s.setSram v).inForce = s.inForce ∧
    (s.setSram v).wb = s.wb ∧
    (s.setSram v).shadow = s.shadow ∧
    (s.setSram v).bus = s.bus ∧
    (s.setSram v).mbxOrder = s.mbxOrder ∧
    (s.setSram v).staging = s.staging ∧
    (s.setSram v).jobs = s.jobs ∧
    (s.setSram v).binds = s.binds ∧
    (s.setSram v).batches = s.batches ∧
    (s.setSram v).tagsHeld = s.tagsHeld ∧
    (s.setSram v).tagAt = s.tagAt ∧
    (s.setSram v).arrived = s.arrived ∧
    (s.setSram v).outs = s.outs ∧
    (s.setSram v).recQ = s.recQ ∧
    (s.setSram v).recSeq = s.recSeq ∧
    (s.setSram v).tx = s.tx ∧
    (s.setSram v).chans = s.chans ∧
    (s.setSram v).ingest = s.ingest ∧
    (s.setSram v).drops = s.drops ∧
    (s.setSram v).misses = s.misses ∧
    (s.setSram v).arms = s.arms ∧
    (s.setSram v).bulk = s.bulk ∧
    (s.setSram v).rxAt = s.rxAt ∧
    (s.setSram v).fabric = s.fabric ∧
    (s.setSram v).grantRr = s.grantRr ∧
    (s.setSram v).slots = s.slots ∧
    (s.setSram v).ptes = s.ptes ∧
    (s.setSram v).xlates = s.xlates ∧
    (s.setSram v).time = s.time ∧
    (s.setSram v).halt = s.halt ∧
    (s.setSram v).pageUe = s.pageUe ∧
    (s.setSram v).unitUe = s.unitUe ∧
    (s.setSram v).retired = s.retired ∧
    (s.setSram v).cluOut = s.cluOut ∧
    (s.setSram v).plant = s.plant ∧
    (s.setSram v).tiles = s.tiles ∧
    (s.setSram v).cells = s.cells ∧
    (s.setSram v).occ = s.occ ∧
    (s.setSram v).tcal = s.tcal ∧
    (s.setSram v).recur = s.recur ∧
    (s.setSram v).stDone = s.stDone ∧
    (s.setSram v).chips = s.chips ∧
    (s.setSram v).meshTbl = s.meshTbl ∧
    (s.setSram v).rings = s.rings ∧
    (s.setSram v).lanes = s.lanes ∧
    (s.setSram v).dirs = s.dirs ∧
    (s.setSram v).mons = s.mons ∧
    (s.setSram v).halves = s.halves ∧
    (s.setSram v).exts = s.exts ∧
    (s.setSram v).feedFwd = s.feedFwd ∧
    (s.setSram v).splitAt = s.splitAt ∧
    (s.setSram v).returnAt = s.returnAt ∧
    (s.setSram v).store = s.store ∧
    (s.setSram v).writes = s.writes ∧
    (s.setSram v).stages = s.stages ∧
    (s.setSram v).quads = s.quads ∧
    (s.setSram v).homework = s.homework ∧
    (s.setSram v).firstForm = s.firstForm ∧
    (s.setSram v).readbackAt = s.readbackAt ∧
    (s.setSram v).loadWait = s.loadWait ∧
    (s.setSram v).feedMove = s.feedMove ∧
    (s.setSram v).bridgeBuild = s.bridgeBuild ∧
    (s.setSram v).clk = s.clk ∧
    (s.setSram v).pwr = s.pwr ∧
    (s.setSram v).sensors = s.sensors ∧
    (s.setSram v).nvArr = s.nvArr ∧
    (s.setSram v).nvShadow = s.nvShadow ∧
    (s.setSram v).nvRun = s.nvRun ∧
    (s.setSram v).boot = s.boot ∧
    (s.setSram v).fw = s.fw ∧
    (s.setSram v).sup = s.sup :=
  ⟨rfl, rfl, rfl, rfl, rfl, rfl, rfl, rfl, rfl, rfl, rfl, rfl, rfl, rfl, rfl, rfl, rfl, rfl, rfl, rfl, rfl, rfl, rfl, rfl, rfl, rfl, rfl, rfl, rfl, rfl, rfl, rfl, rfl, rfl, rfl, rfl, rfl, rfl, rfl, rfl, rfl, rfl, rfl, rfl, rfl, rfl, rfl, rfl, rfl, rfl, rfl, rfl, rfl, rfl, rfl, rfl, rfl, rfl, rfl, rfl, rfl, rfl, rfl, rfl, rfl, rfl, rfl, rfl, rfl, rfl, rfl, rfl, rfl, rfl, rfl, rfl⟩

/-- Replacing `pageUe` replaces it and leaves every other field. -/
@[simp] theorem State.setPageUe_frame (s : State) (v : Sparse (Option Nat)) :
    (s.setPageUe v).pageUe = v ∧
    (s.setPageUe v).now = s.now ∧
    (s.setPageUe v).freeIx = s.freeIx ∧
    (s.setPageUe v).pending = s.pending ∧
    (s.setPageUe v).regs = s.regs ∧
    (s.setPageUe v).inForce = s.inForce ∧
    (s.setPageUe v).wb = s.wb ∧
    (s.setPageUe v).shadow = s.shadow ∧
    (s.setPageUe v).bus = s.bus ∧
    (s.setPageUe v).mbxOrder = s.mbxOrder ∧
    (s.setPageUe v).staging = s.staging ∧
    (s.setPageUe v).jobs = s.jobs ∧
    (s.setPageUe v).binds = s.binds ∧
    (s.setPageUe v).batches = s.batches ∧
    (s.setPageUe v).tagsHeld = s.tagsHeld ∧
    (s.setPageUe v).tagAt = s.tagAt ∧
    (s.setPageUe v).arrived = s.arrived ∧
    (s.setPageUe v).outs = s.outs ∧
    (s.setPageUe v).recQ = s.recQ ∧
    (s.setPageUe v).recSeq = s.recSeq ∧
    (s.setPageUe v).tx = s.tx ∧
    (s.setPageUe v).chans = s.chans ∧
    (s.setPageUe v).ingest = s.ingest ∧
    (s.setPageUe v).drops = s.drops ∧
    (s.setPageUe v).misses = s.misses ∧
    (s.setPageUe v).arms = s.arms ∧
    (s.setPageUe v).bulk = s.bulk ∧
    (s.setPageUe v).rxAt = s.rxAt ∧
    (s.setPageUe v).fabric = s.fabric ∧
    (s.setPageUe v).grantRr = s.grantRr ∧
    (s.setPageUe v).slots = s.slots ∧
    (s.setPageUe v).ptes = s.ptes ∧
    (s.setPageUe v).xlates = s.xlates ∧
    (s.setPageUe v).time = s.time ∧
    (s.setPageUe v).halt = s.halt ∧
    (s.setPageUe v).sram = s.sram ∧
    (s.setPageUe v).unitUe = s.unitUe ∧
    (s.setPageUe v).retired = s.retired ∧
    (s.setPageUe v).cluOut = s.cluOut ∧
    (s.setPageUe v).plant = s.plant ∧
    (s.setPageUe v).tiles = s.tiles ∧
    (s.setPageUe v).cells = s.cells ∧
    (s.setPageUe v).occ = s.occ ∧
    (s.setPageUe v).tcal = s.tcal ∧
    (s.setPageUe v).recur = s.recur ∧
    (s.setPageUe v).stDone = s.stDone ∧
    (s.setPageUe v).chips = s.chips ∧
    (s.setPageUe v).meshTbl = s.meshTbl ∧
    (s.setPageUe v).rings = s.rings ∧
    (s.setPageUe v).lanes = s.lanes ∧
    (s.setPageUe v).dirs = s.dirs ∧
    (s.setPageUe v).mons = s.mons ∧
    (s.setPageUe v).halves = s.halves ∧
    (s.setPageUe v).exts = s.exts ∧
    (s.setPageUe v).feedFwd = s.feedFwd ∧
    (s.setPageUe v).splitAt = s.splitAt ∧
    (s.setPageUe v).returnAt = s.returnAt ∧
    (s.setPageUe v).store = s.store ∧
    (s.setPageUe v).writes = s.writes ∧
    (s.setPageUe v).stages = s.stages ∧
    (s.setPageUe v).quads = s.quads ∧
    (s.setPageUe v).homework = s.homework ∧
    (s.setPageUe v).firstForm = s.firstForm ∧
    (s.setPageUe v).readbackAt = s.readbackAt ∧
    (s.setPageUe v).loadWait = s.loadWait ∧
    (s.setPageUe v).feedMove = s.feedMove ∧
    (s.setPageUe v).bridgeBuild = s.bridgeBuild ∧
    (s.setPageUe v).clk = s.clk ∧
    (s.setPageUe v).pwr = s.pwr ∧
    (s.setPageUe v).sensors = s.sensors ∧
    (s.setPageUe v).nvArr = s.nvArr ∧
    (s.setPageUe v).nvShadow = s.nvShadow ∧
    (s.setPageUe v).nvRun = s.nvRun ∧
    (s.setPageUe v).boot = s.boot ∧
    (s.setPageUe v).fw = s.fw ∧
    (s.setPageUe v).sup = s.sup :=
  ⟨rfl, rfl, rfl, rfl, rfl, rfl, rfl, rfl, rfl, rfl, rfl, rfl, rfl, rfl, rfl, rfl, rfl, rfl, rfl, rfl, rfl, rfl, rfl, rfl, rfl, rfl, rfl, rfl, rfl, rfl, rfl, rfl, rfl, rfl, rfl, rfl, rfl, rfl, rfl, rfl, rfl, rfl, rfl, rfl, rfl, rfl, rfl, rfl, rfl, rfl, rfl, rfl, rfl, rfl, rfl, rfl, rfl, rfl, rfl, rfl, rfl, rfl, rfl, rfl, rfl, rfl, rfl, rfl, rfl, rfl, rfl, rfl, rfl, rfl, rfl, rfl⟩

/-- Replacing `unitUe` replaces it and leaves every other field. -/
@[simp] theorem State.setUnitUe_frame (s : State) (v : Sparse (Option Nat)) :
    (s.setUnitUe v).unitUe = v ∧
    (s.setUnitUe v).now = s.now ∧
    (s.setUnitUe v).freeIx = s.freeIx ∧
    (s.setUnitUe v).pending = s.pending ∧
    (s.setUnitUe v).regs = s.regs ∧
    (s.setUnitUe v).inForce = s.inForce ∧
    (s.setUnitUe v).wb = s.wb ∧
    (s.setUnitUe v).shadow = s.shadow ∧
    (s.setUnitUe v).bus = s.bus ∧
    (s.setUnitUe v).mbxOrder = s.mbxOrder ∧
    (s.setUnitUe v).staging = s.staging ∧
    (s.setUnitUe v).jobs = s.jobs ∧
    (s.setUnitUe v).binds = s.binds ∧
    (s.setUnitUe v).batches = s.batches ∧
    (s.setUnitUe v).tagsHeld = s.tagsHeld ∧
    (s.setUnitUe v).tagAt = s.tagAt ∧
    (s.setUnitUe v).arrived = s.arrived ∧
    (s.setUnitUe v).outs = s.outs ∧
    (s.setUnitUe v).recQ = s.recQ ∧
    (s.setUnitUe v).recSeq = s.recSeq ∧
    (s.setUnitUe v).tx = s.tx ∧
    (s.setUnitUe v).chans = s.chans ∧
    (s.setUnitUe v).ingest = s.ingest ∧
    (s.setUnitUe v).drops = s.drops ∧
    (s.setUnitUe v).misses = s.misses ∧
    (s.setUnitUe v).arms = s.arms ∧
    (s.setUnitUe v).bulk = s.bulk ∧
    (s.setUnitUe v).rxAt = s.rxAt ∧
    (s.setUnitUe v).fabric = s.fabric ∧
    (s.setUnitUe v).grantRr = s.grantRr ∧
    (s.setUnitUe v).slots = s.slots ∧
    (s.setUnitUe v).ptes = s.ptes ∧
    (s.setUnitUe v).xlates = s.xlates ∧
    (s.setUnitUe v).time = s.time ∧
    (s.setUnitUe v).halt = s.halt ∧
    (s.setUnitUe v).sram = s.sram ∧
    (s.setUnitUe v).pageUe = s.pageUe ∧
    (s.setUnitUe v).retired = s.retired ∧
    (s.setUnitUe v).cluOut = s.cluOut ∧
    (s.setUnitUe v).plant = s.plant ∧
    (s.setUnitUe v).tiles = s.tiles ∧
    (s.setUnitUe v).cells = s.cells ∧
    (s.setUnitUe v).occ = s.occ ∧
    (s.setUnitUe v).tcal = s.tcal ∧
    (s.setUnitUe v).recur = s.recur ∧
    (s.setUnitUe v).stDone = s.stDone ∧
    (s.setUnitUe v).chips = s.chips ∧
    (s.setUnitUe v).meshTbl = s.meshTbl ∧
    (s.setUnitUe v).rings = s.rings ∧
    (s.setUnitUe v).lanes = s.lanes ∧
    (s.setUnitUe v).dirs = s.dirs ∧
    (s.setUnitUe v).mons = s.mons ∧
    (s.setUnitUe v).halves = s.halves ∧
    (s.setUnitUe v).exts = s.exts ∧
    (s.setUnitUe v).feedFwd = s.feedFwd ∧
    (s.setUnitUe v).splitAt = s.splitAt ∧
    (s.setUnitUe v).returnAt = s.returnAt ∧
    (s.setUnitUe v).store = s.store ∧
    (s.setUnitUe v).writes = s.writes ∧
    (s.setUnitUe v).stages = s.stages ∧
    (s.setUnitUe v).quads = s.quads ∧
    (s.setUnitUe v).homework = s.homework ∧
    (s.setUnitUe v).firstForm = s.firstForm ∧
    (s.setUnitUe v).readbackAt = s.readbackAt ∧
    (s.setUnitUe v).loadWait = s.loadWait ∧
    (s.setUnitUe v).feedMove = s.feedMove ∧
    (s.setUnitUe v).bridgeBuild = s.bridgeBuild ∧
    (s.setUnitUe v).clk = s.clk ∧
    (s.setUnitUe v).pwr = s.pwr ∧
    (s.setUnitUe v).sensors = s.sensors ∧
    (s.setUnitUe v).nvArr = s.nvArr ∧
    (s.setUnitUe v).nvShadow = s.nvShadow ∧
    (s.setUnitUe v).nvRun = s.nvRun ∧
    (s.setUnitUe v).boot = s.boot ∧
    (s.setUnitUe v).fw = s.fw ∧
    (s.setUnitUe v).sup = s.sup :=
  ⟨rfl, rfl, rfl, rfl, rfl, rfl, rfl, rfl, rfl, rfl, rfl, rfl, rfl, rfl, rfl, rfl, rfl, rfl, rfl, rfl, rfl, rfl, rfl, rfl, rfl, rfl, rfl, rfl, rfl, rfl, rfl, rfl, rfl, rfl, rfl, rfl, rfl, rfl, rfl, rfl, rfl, rfl, rfl, rfl, rfl, rfl, rfl, rfl, rfl, rfl, rfl, rfl, rfl, rfl, rfl, rfl, rfl, rfl, rfl, rfl, rfl, rfl, rfl, rfl, rfl, rfl, rfl, rfl, rfl, rfl, rfl, rfl, rfl, rfl, rfl, rfl⟩

/-- Replacing `retired` replaces it and leaves every other field. -/
@[simp] theorem State.setRetired_frame (s : State) (v : List Nat) :
    (s.setRetired v).retired = v ∧
    (s.setRetired v).now = s.now ∧
    (s.setRetired v).freeIx = s.freeIx ∧
    (s.setRetired v).pending = s.pending ∧
    (s.setRetired v).regs = s.regs ∧
    (s.setRetired v).inForce = s.inForce ∧
    (s.setRetired v).wb = s.wb ∧
    (s.setRetired v).shadow = s.shadow ∧
    (s.setRetired v).bus = s.bus ∧
    (s.setRetired v).mbxOrder = s.mbxOrder ∧
    (s.setRetired v).staging = s.staging ∧
    (s.setRetired v).jobs = s.jobs ∧
    (s.setRetired v).binds = s.binds ∧
    (s.setRetired v).batches = s.batches ∧
    (s.setRetired v).tagsHeld = s.tagsHeld ∧
    (s.setRetired v).tagAt = s.tagAt ∧
    (s.setRetired v).arrived = s.arrived ∧
    (s.setRetired v).outs = s.outs ∧
    (s.setRetired v).recQ = s.recQ ∧
    (s.setRetired v).recSeq = s.recSeq ∧
    (s.setRetired v).tx = s.tx ∧
    (s.setRetired v).chans = s.chans ∧
    (s.setRetired v).ingest = s.ingest ∧
    (s.setRetired v).drops = s.drops ∧
    (s.setRetired v).misses = s.misses ∧
    (s.setRetired v).arms = s.arms ∧
    (s.setRetired v).bulk = s.bulk ∧
    (s.setRetired v).rxAt = s.rxAt ∧
    (s.setRetired v).fabric = s.fabric ∧
    (s.setRetired v).grantRr = s.grantRr ∧
    (s.setRetired v).slots = s.slots ∧
    (s.setRetired v).ptes = s.ptes ∧
    (s.setRetired v).xlates = s.xlates ∧
    (s.setRetired v).time = s.time ∧
    (s.setRetired v).halt = s.halt ∧
    (s.setRetired v).sram = s.sram ∧
    (s.setRetired v).pageUe = s.pageUe ∧
    (s.setRetired v).unitUe = s.unitUe ∧
    (s.setRetired v).cluOut = s.cluOut ∧
    (s.setRetired v).plant = s.plant ∧
    (s.setRetired v).tiles = s.tiles ∧
    (s.setRetired v).cells = s.cells ∧
    (s.setRetired v).occ = s.occ ∧
    (s.setRetired v).tcal = s.tcal ∧
    (s.setRetired v).recur = s.recur ∧
    (s.setRetired v).stDone = s.stDone ∧
    (s.setRetired v).chips = s.chips ∧
    (s.setRetired v).meshTbl = s.meshTbl ∧
    (s.setRetired v).rings = s.rings ∧
    (s.setRetired v).lanes = s.lanes ∧
    (s.setRetired v).dirs = s.dirs ∧
    (s.setRetired v).mons = s.mons ∧
    (s.setRetired v).halves = s.halves ∧
    (s.setRetired v).exts = s.exts ∧
    (s.setRetired v).feedFwd = s.feedFwd ∧
    (s.setRetired v).splitAt = s.splitAt ∧
    (s.setRetired v).returnAt = s.returnAt ∧
    (s.setRetired v).store = s.store ∧
    (s.setRetired v).writes = s.writes ∧
    (s.setRetired v).stages = s.stages ∧
    (s.setRetired v).quads = s.quads ∧
    (s.setRetired v).homework = s.homework ∧
    (s.setRetired v).firstForm = s.firstForm ∧
    (s.setRetired v).readbackAt = s.readbackAt ∧
    (s.setRetired v).loadWait = s.loadWait ∧
    (s.setRetired v).feedMove = s.feedMove ∧
    (s.setRetired v).bridgeBuild = s.bridgeBuild ∧
    (s.setRetired v).clk = s.clk ∧
    (s.setRetired v).pwr = s.pwr ∧
    (s.setRetired v).sensors = s.sensors ∧
    (s.setRetired v).nvArr = s.nvArr ∧
    (s.setRetired v).nvShadow = s.nvShadow ∧
    (s.setRetired v).nvRun = s.nvRun ∧
    (s.setRetired v).boot = s.boot ∧
    (s.setRetired v).fw = s.fw ∧
    (s.setRetired v).sup = s.sup :=
  ⟨rfl, rfl, rfl, rfl, rfl, rfl, rfl, rfl, rfl, rfl, rfl, rfl, rfl, rfl, rfl, rfl, rfl, rfl, rfl, rfl, rfl, rfl, rfl, rfl, rfl, rfl, rfl, rfl, rfl, rfl, rfl, rfl, rfl, rfl, rfl, rfl, rfl, rfl, rfl, rfl, rfl, rfl, rfl, rfl, rfl, rfl, rfl, rfl, rfl, rfl, rfl, rfl, rfl, rfl, rfl, rfl, rfl, rfl, rfl, rfl, rfl, rfl, rfl, rfl, rfl, rfl, rfl, rfl, rfl, rfl, rfl, rfl, rfl, rfl, rfl, rfl⟩

/-- Replacing `cluOut` replaces it and leaves every other field. -/
@[simp] theorem State.setCluOut_frame (s : State) (v : List Nat) :
    (s.setCluOut v).cluOut = v ∧
    (s.setCluOut v).now = s.now ∧
    (s.setCluOut v).freeIx = s.freeIx ∧
    (s.setCluOut v).pending = s.pending ∧
    (s.setCluOut v).regs = s.regs ∧
    (s.setCluOut v).inForce = s.inForce ∧
    (s.setCluOut v).wb = s.wb ∧
    (s.setCluOut v).shadow = s.shadow ∧
    (s.setCluOut v).bus = s.bus ∧
    (s.setCluOut v).mbxOrder = s.mbxOrder ∧
    (s.setCluOut v).staging = s.staging ∧
    (s.setCluOut v).jobs = s.jobs ∧
    (s.setCluOut v).binds = s.binds ∧
    (s.setCluOut v).batches = s.batches ∧
    (s.setCluOut v).tagsHeld = s.tagsHeld ∧
    (s.setCluOut v).tagAt = s.tagAt ∧
    (s.setCluOut v).arrived = s.arrived ∧
    (s.setCluOut v).outs = s.outs ∧
    (s.setCluOut v).recQ = s.recQ ∧
    (s.setCluOut v).recSeq = s.recSeq ∧
    (s.setCluOut v).tx = s.tx ∧
    (s.setCluOut v).chans = s.chans ∧
    (s.setCluOut v).ingest = s.ingest ∧
    (s.setCluOut v).drops = s.drops ∧
    (s.setCluOut v).misses = s.misses ∧
    (s.setCluOut v).arms = s.arms ∧
    (s.setCluOut v).bulk = s.bulk ∧
    (s.setCluOut v).rxAt = s.rxAt ∧
    (s.setCluOut v).fabric = s.fabric ∧
    (s.setCluOut v).grantRr = s.grantRr ∧
    (s.setCluOut v).slots = s.slots ∧
    (s.setCluOut v).ptes = s.ptes ∧
    (s.setCluOut v).xlates = s.xlates ∧
    (s.setCluOut v).time = s.time ∧
    (s.setCluOut v).halt = s.halt ∧
    (s.setCluOut v).sram = s.sram ∧
    (s.setCluOut v).pageUe = s.pageUe ∧
    (s.setCluOut v).unitUe = s.unitUe ∧
    (s.setCluOut v).retired = s.retired ∧
    (s.setCluOut v).plant = s.plant ∧
    (s.setCluOut v).tiles = s.tiles ∧
    (s.setCluOut v).cells = s.cells ∧
    (s.setCluOut v).occ = s.occ ∧
    (s.setCluOut v).tcal = s.tcal ∧
    (s.setCluOut v).recur = s.recur ∧
    (s.setCluOut v).stDone = s.stDone ∧
    (s.setCluOut v).chips = s.chips ∧
    (s.setCluOut v).meshTbl = s.meshTbl ∧
    (s.setCluOut v).rings = s.rings ∧
    (s.setCluOut v).lanes = s.lanes ∧
    (s.setCluOut v).dirs = s.dirs ∧
    (s.setCluOut v).mons = s.mons ∧
    (s.setCluOut v).halves = s.halves ∧
    (s.setCluOut v).exts = s.exts ∧
    (s.setCluOut v).feedFwd = s.feedFwd ∧
    (s.setCluOut v).splitAt = s.splitAt ∧
    (s.setCluOut v).returnAt = s.returnAt ∧
    (s.setCluOut v).store = s.store ∧
    (s.setCluOut v).writes = s.writes ∧
    (s.setCluOut v).stages = s.stages ∧
    (s.setCluOut v).quads = s.quads ∧
    (s.setCluOut v).homework = s.homework ∧
    (s.setCluOut v).firstForm = s.firstForm ∧
    (s.setCluOut v).readbackAt = s.readbackAt ∧
    (s.setCluOut v).loadWait = s.loadWait ∧
    (s.setCluOut v).feedMove = s.feedMove ∧
    (s.setCluOut v).bridgeBuild = s.bridgeBuild ∧
    (s.setCluOut v).clk = s.clk ∧
    (s.setCluOut v).pwr = s.pwr ∧
    (s.setCluOut v).sensors = s.sensors ∧
    (s.setCluOut v).nvArr = s.nvArr ∧
    (s.setCluOut v).nvShadow = s.nvShadow ∧
    (s.setCluOut v).nvRun = s.nvRun ∧
    (s.setCluOut v).boot = s.boot ∧
    (s.setCluOut v).fw = s.fw ∧
    (s.setCluOut v).sup = s.sup :=
  ⟨rfl, rfl, rfl, rfl, rfl, rfl, rfl, rfl, rfl, rfl, rfl, rfl, rfl, rfl, rfl, rfl, rfl, rfl, rfl, rfl, rfl, rfl, rfl, rfl, rfl, rfl, rfl, rfl, rfl, rfl, rfl, rfl, rfl, rfl, rfl, rfl, rfl, rfl, rfl, rfl, rfl, rfl, rfl, rfl, rfl, rfl, rfl, rfl, rfl, rfl, rfl, rfl, rfl, rfl, rfl, rfl, rfl, rfl, rfl, rfl, rfl, rfl, rfl, rfl, rfl, rfl, rfl, rfl, rfl, rfl, rfl, rfl, rfl, rfl, rfl, rfl⟩

/-- Replacing `plant` replaces it and leaves every other field. -/
@[simp] theorem State.setPlant_frame (s : State) (v : Plant) :
    (s.setPlant v).plant = v ∧
    (s.setPlant v).now = s.now ∧
    (s.setPlant v).freeIx = s.freeIx ∧
    (s.setPlant v).pending = s.pending ∧
    (s.setPlant v).regs = s.regs ∧
    (s.setPlant v).inForce = s.inForce ∧
    (s.setPlant v).wb = s.wb ∧
    (s.setPlant v).shadow = s.shadow ∧
    (s.setPlant v).bus = s.bus ∧
    (s.setPlant v).mbxOrder = s.mbxOrder ∧
    (s.setPlant v).staging = s.staging ∧
    (s.setPlant v).jobs = s.jobs ∧
    (s.setPlant v).binds = s.binds ∧
    (s.setPlant v).batches = s.batches ∧
    (s.setPlant v).tagsHeld = s.tagsHeld ∧
    (s.setPlant v).tagAt = s.tagAt ∧
    (s.setPlant v).arrived = s.arrived ∧
    (s.setPlant v).outs = s.outs ∧
    (s.setPlant v).recQ = s.recQ ∧
    (s.setPlant v).recSeq = s.recSeq ∧
    (s.setPlant v).tx = s.tx ∧
    (s.setPlant v).chans = s.chans ∧
    (s.setPlant v).ingest = s.ingest ∧
    (s.setPlant v).drops = s.drops ∧
    (s.setPlant v).misses = s.misses ∧
    (s.setPlant v).arms = s.arms ∧
    (s.setPlant v).bulk = s.bulk ∧
    (s.setPlant v).rxAt = s.rxAt ∧
    (s.setPlant v).fabric = s.fabric ∧
    (s.setPlant v).grantRr = s.grantRr ∧
    (s.setPlant v).slots = s.slots ∧
    (s.setPlant v).ptes = s.ptes ∧
    (s.setPlant v).xlates = s.xlates ∧
    (s.setPlant v).time = s.time ∧
    (s.setPlant v).halt = s.halt ∧
    (s.setPlant v).sram = s.sram ∧
    (s.setPlant v).pageUe = s.pageUe ∧
    (s.setPlant v).unitUe = s.unitUe ∧
    (s.setPlant v).retired = s.retired ∧
    (s.setPlant v).cluOut = s.cluOut ∧
    (s.setPlant v).tiles = s.tiles ∧
    (s.setPlant v).cells = s.cells ∧
    (s.setPlant v).occ = s.occ ∧
    (s.setPlant v).tcal = s.tcal ∧
    (s.setPlant v).recur = s.recur ∧
    (s.setPlant v).stDone = s.stDone ∧
    (s.setPlant v).chips = s.chips ∧
    (s.setPlant v).meshTbl = s.meshTbl ∧
    (s.setPlant v).rings = s.rings ∧
    (s.setPlant v).lanes = s.lanes ∧
    (s.setPlant v).dirs = s.dirs ∧
    (s.setPlant v).mons = s.mons ∧
    (s.setPlant v).halves = s.halves ∧
    (s.setPlant v).exts = s.exts ∧
    (s.setPlant v).feedFwd = s.feedFwd ∧
    (s.setPlant v).splitAt = s.splitAt ∧
    (s.setPlant v).returnAt = s.returnAt ∧
    (s.setPlant v).store = s.store ∧
    (s.setPlant v).writes = s.writes ∧
    (s.setPlant v).stages = s.stages ∧
    (s.setPlant v).quads = s.quads ∧
    (s.setPlant v).homework = s.homework ∧
    (s.setPlant v).firstForm = s.firstForm ∧
    (s.setPlant v).readbackAt = s.readbackAt ∧
    (s.setPlant v).loadWait = s.loadWait ∧
    (s.setPlant v).feedMove = s.feedMove ∧
    (s.setPlant v).bridgeBuild = s.bridgeBuild ∧
    (s.setPlant v).clk = s.clk ∧
    (s.setPlant v).pwr = s.pwr ∧
    (s.setPlant v).sensors = s.sensors ∧
    (s.setPlant v).nvArr = s.nvArr ∧
    (s.setPlant v).nvShadow = s.nvShadow ∧
    (s.setPlant v).nvRun = s.nvRun ∧
    (s.setPlant v).boot = s.boot ∧
    (s.setPlant v).fw = s.fw ∧
    (s.setPlant v).sup = s.sup :=
  ⟨rfl, rfl, rfl, rfl, rfl, rfl, rfl, rfl, rfl, rfl, rfl, rfl, rfl, rfl, rfl, rfl, rfl, rfl, rfl, rfl, rfl, rfl, rfl, rfl, rfl, rfl, rfl, rfl, rfl, rfl, rfl, rfl, rfl, rfl, rfl, rfl, rfl, rfl, rfl, rfl, rfl, rfl, rfl, rfl, rfl, rfl, rfl, rfl, rfl, rfl, rfl, rfl, rfl, rfl, rfl, rfl, rfl, rfl, rfl, rfl, rfl, rfl, rfl, rfl, rfl, rfl, rfl, rfl, rfl, rfl, rfl, rfl, rfl, rfl, rfl, rfl⟩

/-- Replacing `tiles` replaces it and leaves every other field. -/
@[simp] theorem State.setTiles_frame (s : State) (v : Sparse TileRec) :
    (s.setTiles v).tiles = v ∧
    (s.setTiles v).now = s.now ∧
    (s.setTiles v).freeIx = s.freeIx ∧
    (s.setTiles v).pending = s.pending ∧
    (s.setTiles v).regs = s.regs ∧
    (s.setTiles v).inForce = s.inForce ∧
    (s.setTiles v).wb = s.wb ∧
    (s.setTiles v).shadow = s.shadow ∧
    (s.setTiles v).bus = s.bus ∧
    (s.setTiles v).mbxOrder = s.mbxOrder ∧
    (s.setTiles v).staging = s.staging ∧
    (s.setTiles v).jobs = s.jobs ∧
    (s.setTiles v).binds = s.binds ∧
    (s.setTiles v).batches = s.batches ∧
    (s.setTiles v).tagsHeld = s.tagsHeld ∧
    (s.setTiles v).tagAt = s.tagAt ∧
    (s.setTiles v).arrived = s.arrived ∧
    (s.setTiles v).outs = s.outs ∧
    (s.setTiles v).recQ = s.recQ ∧
    (s.setTiles v).recSeq = s.recSeq ∧
    (s.setTiles v).tx = s.tx ∧
    (s.setTiles v).chans = s.chans ∧
    (s.setTiles v).ingest = s.ingest ∧
    (s.setTiles v).drops = s.drops ∧
    (s.setTiles v).misses = s.misses ∧
    (s.setTiles v).arms = s.arms ∧
    (s.setTiles v).bulk = s.bulk ∧
    (s.setTiles v).rxAt = s.rxAt ∧
    (s.setTiles v).fabric = s.fabric ∧
    (s.setTiles v).grantRr = s.grantRr ∧
    (s.setTiles v).slots = s.slots ∧
    (s.setTiles v).ptes = s.ptes ∧
    (s.setTiles v).xlates = s.xlates ∧
    (s.setTiles v).time = s.time ∧
    (s.setTiles v).halt = s.halt ∧
    (s.setTiles v).sram = s.sram ∧
    (s.setTiles v).pageUe = s.pageUe ∧
    (s.setTiles v).unitUe = s.unitUe ∧
    (s.setTiles v).retired = s.retired ∧
    (s.setTiles v).cluOut = s.cluOut ∧
    (s.setTiles v).plant = s.plant ∧
    (s.setTiles v).cells = s.cells ∧
    (s.setTiles v).occ = s.occ ∧
    (s.setTiles v).tcal = s.tcal ∧
    (s.setTiles v).recur = s.recur ∧
    (s.setTiles v).stDone = s.stDone ∧
    (s.setTiles v).chips = s.chips ∧
    (s.setTiles v).meshTbl = s.meshTbl ∧
    (s.setTiles v).rings = s.rings ∧
    (s.setTiles v).lanes = s.lanes ∧
    (s.setTiles v).dirs = s.dirs ∧
    (s.setTiles v).mons = s.mons ∧
    (s.setTiles v).halves = s.halves ∧
    (s.setTiles v).exts = s.exts ∧
    (s.setTiles v).feedFwd = s.feedFwd ∧
    (s.setTiles v).splitAt = s.splitAt ∧
    (s.setTiles v).returnAt = s.returnAt ∧
    (s.setTiles v).store = s.store ∧
    (s.setTiles v).writes = s.writes ∧
    (s.setTiles v).stages = s.stages ∧
    (s.setTiles v).quads = s.quads ∧
    (s.setTiles v).homework = s.homework ∧
    (s.setTiles v).firstForm = s.firstForm ∧
    (s.setTiles v).readbackAt = s.readbackAt ∧
    (s.setTiles v).loadWait = s.loadWait ∧
    (s.setTiles v).feedMove = s.feedMove ∧
    (s.setTiles v).bridgeBuild = s.bridgeBuild ∧
    (s.setTiles v).clk = s.clk ∧
    (s.setTiles v).pwr = s.pwr ∧
    (s.setTiles v).sensors = s.sensors ∧
    (s.setTiles v).nvArr = s.nvArr ∧
    (s.setTiles v).nvShadow = s.nvShadow ∧
    (s.setTiles v).nvRun = s.nvRun ∧
    (s.setTiles v).boot = s.boot ∧
    (s.setTiles v).fw = s.fw ∧
    (s.setTiles v).sup = s.sup :=
  ⟨rfl, rfl, rfl, rfl, rfl, rfl, rfl, rfl, rfl, rfl, rfl, rfl, rfl, rfl, rfl, rfl, rfl, rfl, rfl, rfl, rfl, rfl, rfl, rfl, rfl, rfl, rfl, rfl, rfl, rfl, rfl, rfl, rfl, rfl, rfl, rfl, rfl, rfl, rfl, rfl, rfl, rfl, rfl, rfl, rfl, rfl, rfl, rfl, rfl, rfl, rfl, rfl, rfl, rfl, rfl, rfl, rfl, rfl, rfl, rfl, rfl, rfl, rfl, rfl, rfl, rfl, rfl, rfl, rfl, rfl, rfl, rfl, rfl, rfl, rfl, rfl⟩

/-- Replacing `cells` replaces it and leaves every other field. -/
@[simp] theorem State.setCells_frame (s : State) (v : Sparse Cells) :
    (s.setCells v).cells = v ∧
    (s.setCells v).now = s.now ∧
    (s.setCells v).freeIx = s.freeIx ∧
    (s.setCells v).pending = s.pending ∧
    (s.setCells v).regs = s.regs ∧
    (s.setCells v).inForce = s.inForce ∧
    (s.setCells v).wb = s.wb ∧
    (s.setCells v).shadow = s.shadow ∧
    (s.setCells v).bus = s.bus ∧
    (s.setCells v).mbxOrder = s.mbxOrder ∧
    (s.setCells v).staging = s.staging ∧
    (s.setCells v).jobs = s.jobs ∧
    (s.setCells v).binds = s.binds ∧
    (s.setCells v).batches = s.batches ∧
    (s.setCells v).tagsHeld = s.tagsHeld ∧
    (s.setCells v).tagAt = s.tagAt ∧
    (s.setCells v).arrived = s.arrived ∧
    (s.setCells v).outs = s.outs ∧
    (s.setCells v).recQ = s.recQ ∧
    (s.setCells v).recSeq = s.recSeq ∧
    (s.setCells v).tx = s.tx ∧
    (s.setCells v).chans = s.chans ∧
    (s.setCells v).ingest = s.ingest ∧
    (s.setCells v).drops = s.drops ∧
    (s.setCells v).misses = s.misses ∧
    (s.setCells v).arms = s.arms ∧
    (s.setCells v).bulk = s.bulk ∧
    (s.setCells v).rxAt = s.rxAt ∧
    (s.setCells v).fabric = s.fabric ∧
    (s.setCells v).grantRr = s.grantRr ∧
    (s.setCells v).slots = s.slots ∧
    (s.setCells v).ptes = s.ptes ∧
    (s.setCells v).xlates = s.xlates ∧
    (s.setCells v).time = s.time ∧
    (s.setCells v).halt = s.halt ∧
    (s.setCells v).sram = s.sram ∧
    (s.setCells v).pageUe = s.pageUe ∧
    (s.setCells v).unitUe = s.unitUe ∧
    (s.setCells v).retired = s.retired ∧
    (s.setCells v).cluOut = s.cluOut ∧
    (s.setCells v).plant = s.plant ∧
    (s.setCells v).tiles = s.tiles ∧
    (s.setCells v).occ = s.occ ∧
    (s.setCells v).tcal = s.tcal ∧
    (s.setCells v).recur = s.recur ∧
    (s.setCells v).stDone = s.stDone ∧
    (s.setCells v).chips = s.chips ∧
    (s.setCells v).meshTbl = s.meshTbl ∧
    (s.setCells v).rings = s.rings ∧
    (s.setCells v).lanes = s.lanes ∧
    (s.setCells v).dirs = s.dirs ∧
    (s.setCells v).mons = s.mons ∧
    (s.setCells v).halves = s.halves ∧
    (s.setCells v).exts = s.exts ∧
    (s.setCells v).feedFwd = s.feedFwd ∧
    (s.setCells v).splitAt = s.splitAt ∧
    (s.setCells v).returnAt = s.returnAt ∧
    (s.setCells v).store = s.store ∧
    (s.setCells v).writes = s.writes ∧
    (s.setCells v).stages = s.stages ∧
    (s.setCells v).quads = s.quads ∧
    (s.setCells v).homework = s.homework ∧
    (s.setCells v).firstForm = s.firstForm ∧
    (s.setCells v).readbackAt = s.readbackAt ∧
    (s.setCells v).loadWait = s.loadWait ∧
    (s.setCells v).feedMove = s.feedMove ∧
    (s.setCells v).bridgeBuild = s.bridgeBuild ∧
    (s.setCells v).clk = s.clk ∧
    (s.setCells v).pwr = s.pwr ∧
    (s.setCells v).sensors = s.sensors ∧
    (s.setCells v).nvArr = s.nvArr ∧
    (s.setCells v).nvShadow = s.nvShadow ∧
    (s.setCells v).nvRun = s.nvRun ∧
    (s.setCells v).boot = s.boot ∧
    (s.setCells v).fw = s.fw ∧
    (s.setCells v).sup = s.sup :=
  ⟨rfl, rfl, rfl, rfl, rfl, rfl, rfl, rfl, rfl, rfl, rfl, rfl, rfl, rfl, rfl, rfl, rfl, rfl, rfl, rfl, rfl, rfl, rfl, rfl, rfl, rfl, rfl, rfl, rfl, rfl, rfl, rfl, rfl, rfl, rfl, rfl, rfl, rfl, rfl, rfl, rfl, rfl, rfl, rfl, rfl, rfl, rfl, rfl, rfl, rfl, rfl, rfl, rfl, rfl, rfl, rfl, rfl, rfl, rfl, rfl, rfl, rfl, rfl, rfl, rfl, rfl, rfl, rfl, rfl, rfl, rfl, rfl, rfl, rfl, rfl, rfl⟩

/-- Replacing `occ` replaces it and leaves every other field. -/
@[simp] theorem State.setOcc_frame (s : State) (v : Sparse Occ) :
    (s.setOcc v).occ = v ∧
    (s.setOcc v).now = s.now ∧
    (s.setOcc v).freeIx = s.freeIx ∧
    (s.setOcc v).pending = s.pending ∧
    (s.setOcc v).regs = s.regs ∧
    (s.setOcc v).inForce = s.inForce ∧
    (s.setOcc v).wb = s.wb ∧
    (s.setOcc v).shadow = s.shadow ∧
    (s.setOcc v).bus = s.bus ∧
    (s.setOcc v).mbxOrder = s.mbxOrder ∧
    (s.setOcc v).staging = s.staging ∧
    (s.setOcc v).jobs = s.jobs ∧
    (s.setOcc v).binds = s.binds ∧
    (s.setOcc v).batches = s.batches ∧
    (s.setOcc v).tagsHeld = s.tagsHeld ∧
    (s.setOcc v).tagAt = s.tagAt ∧
    (s.setOcc v).arrived = s.arrived ∧
    (s.setOcc v).outs = s.outs ∧
    (s.setOcc v).recQ = s.recQ ∧
    (s.setOcc v).recSeq = s.recSeq ∧
    (s.setOcc v).tx = s.tx ∧
    (s.setOcc v).chans = s.chans ∧
    (s.setOcc v).ingest = s.ingest ∧
    (s.setOcc v).drops = s.drops ∧
    (s.setOcc v).misses = s.misses ∧
    (s.setOcc v).arms = s.arms ∧
    (s.setOcc v).bulk = s.bulk ∧
    (s.setOcc v).rxAt = s.rxAt ∧
    (s.setOcc v).fabric = s.fabric ∧
    (s.setOcc v).grantRr = s.grantRr ∧
    (s.setOcc v).slots = s.slots ∧
    (s.setOcc v).ptes = s.ptes ∧
    (s.setOcc v).xlates = s.xlates ∧
    (s.setOcc v).time = s.time ∧
    (s.setOcc v).halt = s.halt ∧
    (s.setOcc v).sram = s.sram ∧
    (s.setOcc v).pageUe = s.pageUe ∧
    (s.setOcc v).unitUe = s.unitUe ∧
    (s.setOcc v).retired = s.retired ∧
    (s.setOcc v).cluOut = s.cluOut ∧
    (s.setOcc v).plant = s.plant ∧
    (s.setOcc v).tiles = s.tiles ∧
    (s.setOcc v).cells = s.cells ∧
    (s.setOcc v).tcal = s.tcal ∧
    (s.setOcc v).recur = s.recur ∧
    (s.setOcc v).stDone = s.stDone ∧
    (s.setOcc v).chips = s.chips ∧
    (s.setOcc v).meshTbl = s.meshTbl ∧
    (s.setOcc v).rings = s.rings ∧
    (s.setOcc v).lanes = s.lanes ∧
    (s.setOcc v).dirs = s.dirs ∧
    (s.setOcc v).mons = s.mons ∧
    (s.setOcc v).halves = s.halves ∧
    (s.setOcc v).exts = s.exts ∧
    (s.setOcc v).feedFwd = s.feedFwd ∧
    (s.setOcc v).splitAt = s.splitAt ∧
    (s.setOcc v).returnAt = s.returnAt ∧
    (s.setOcc v).store = s.store ∧
    (s.setOcc v).writes = s.writes ∧
    (s.setOcc v).stages = s.stages ∧
    (s.setOcc v).quads = s.quads ∧
    (s.setOcc v).homework = s.homework ∧
    (s.setOcc v).firstForm = s.firstForm ∧
    (s.setOcc v).readbackAt = s.readbackAt ∧
    (s.setOcc v).loadWait = s.loadWait ∧
    (s.setOcc v).feedMove = s.feedMove ∧
    (s.setOcc v).bridgeBuild = s.bridgeBuild ∧
    (s.setOcc v).clk = s.clk ∧
    (s.setOcc v).pwr = s.pwr ∧
    (s.setOcc v).sensors = s.sensors ∧
    (s.setOcc v).nvArr = s.nvArr ∧
    (s.setOcc v).nvShadow = s.nvShadow ∧
    (s.setOcc v).nvRun = s.nvRun ∧
    (s.setOcc v).boot = s.boot ∧
    (s.setOcc v).fw = s.fw ∧
    (s.setOcc v).sup = s.sup :=
  ⟨rfl, rfl, rfl, rfl, rfl, rfl, rfl, rfl, rfl, rfl, rfl, rfl, rfl, rfl, rfl, rfl, rfl, rfl, rfl, rfl, rfl, rfl, rfl, rfl, rfl, rfl, rfl, rfl, rfl, rfl, rfl, rfl, rfl, rfl, rfl, rfl, rfl, rfl, rfl, rfl, rfl, rfl, rfl, rfl, rfl, rfl, rfl, rfl, rfl, rfl, rfl, rfl, rfl, rfl, rfl, rfl, rfl, rfl, rfl, rfl, rfl, rfl, rfl, rfl, rfl, rfl, rfl, rfl, rfl, rfl, rfl, rfl, rfl, rfl, rfl, rfl⟩

/-- Replacing `tcal` replaces it and leaves every other field. -/
@[simp] theorem State.setTcal_frame (s : State) (v : Sparse Word) :
    (s.setTcal v).tcal = v ∧
    (s.setTcal v).now = s.now ∧
    (s.setTcal v).freeIx = s.freeIx ∧
    (s.setTcal v).pending = s.pending ∧
    (s.setTcal v).regs = s.regs ∧
    (s.setTcal v).inForce = s.inForce ∧
    (s.setTcal v).wb = s.wb ∧
    (s.setTcal v).shadow = s.shadow ∧
    (s.setTcal v).bus = s.bus ∧
    (s.setTcal v).mbxOrder = s.mbxOrder ∧
    (s.setTcal v).staging = s.staging ∧
    (s.setTcal v).jobs = s.jobs ∧
    (s.setTcal v).binds = s.binds ∧
    (s.setTcal v).batches = s.batches ∧
    (s.setTcal v).tagsHeld = s.tagsHeld ∧
    (s.setTcal v).tagAt = s.tagAt ∧
    (s.setTcal v).arrived = s.arrived ∧
    (s.setTcal v).outs = s.outs ∧
    (s.setTcal v).recQ = s.recQ ∧
    (s.setTcal v).recSeq = s.recSeq ∧
    (s.setTcal v).tx = s.tx ∧
    (s.setTcal v).chans = s.chans ∧
    (s.setTcal v).ingest = s.ingest ∧
    (s.setTcal v).drops = s.drops ∧
    (s.setTcal v).misses = s.misses ∧
    (s.setTcal v).arms = s.arms ∧
    (s.setTcal v).bulk = s.bulk ∧
    (s.setTcal v).rxAt = s.rxAt ∧
    (s.setTcal v).fabric = s.fabric ∧
    (s.setTcal v).grantRr = s.grantRr ∧
    (s.setTcal v).slots = s.slots ∧
    (s.setTcal v).ptes = s.ptes ∧
    (s.setTcal v).xlates = s.xlates ∧
    (s.setTcal v).time = s.time ∧
    (s.setTcal v).halt = s.halt ∧
    (s.setTcal v).sram = s.sram ∧
    (s.setTcal v).pageUe = s.pageUe ∧
    (s.setTcal v).unitUe = s.unitUe ∧
    (s.setTcal v).retired = s.retired ∧
    (s.setTcal v).cluOut = s.cluOut ∧
    (s.setTcal v).plant = s.plant ∧
    (s.setTcal v).tiles = s.tiles ∧
    (s.setTcal v).cells = s.cells ∧
    (s.setTcal v).occ = s.occ ∧
    (s.setTcal v).recur = s.recur ∧
    (s.setTcal v).stDone = s.stDone ∧
    (s.setTcal v).chips = s.chips ∧
    (s.setTcal v).meshTbl = s.meshTbl ∧
    (s.setTcal v).rings = s.rings ∧
    (s.setTcal v).lanes = s.lanes ∧
    (s.setTcal v).dirs = s.dirs ∧
    (s.setTcal v).mons = s.mons ∧
    (s.setTcal v).halves = s.halves ∧
    (s.setTcal v).exts = s.exts ∧
    (s.setTcal v).feedFwd = s.feedFwd ∧
    (s.setTcal v).splitAt = s.splitAt ∧
    (s.setTcal v).returnAt = s.returnAt ∧
    (s.setTcal v).store = s.store ∧
    (s.setTcal v).writes = s.writes ∧
    (s.setTcal v).stages = s.stages ∧
    (s.setTcal v).quads = s.quads ∧
    (s.setTcal v).homework = s.homework ∧
    (s.setTcal v).firstForm = s.firstForm ∧
    (s.setTcal v).readbackAt = s.readbackAt ∧
    (s.setTcal v).loadWait = s.loadWait ∧
    (s.setTcal v).feedMove = s.feedMove ∧
    (s.setTcal v).bridgeBuild = s.bridgeBuild ∧
    (s.setTcal v).clk = s.clk ∧
    (s.setTcal v).pwr = s.pwr ∧
    (s.setTcal v).sensors = s.sensors ∧
    (s.setTcal v).nvArr = s.nvArr ∧
    (s.setTcal v).nvShadow = s.nvShadow ∧
    (s.setTcal v).nvRun = s.nvRun ∧
    (s.setTcal v).boot = s.boot ∧
    (s.setTcal v).fw = s.fw ∧
    (s.setTcal v).sup = s.sup :=
  ⟨rfl, rfl, rfl, rfl, rfl, rfl, rfl, rfl, rfl, rfl, rfl, rfl, rfl, rfl, rfl, rfl, rfl, rfl, rfl, rfl, rfl, rfl, rfl, rfl, rfl, rfl, rfl, rfl, rfl, rfl, rfl, rfl, rfl, rfl, rfl, rfl, rfl, rfl, rfl, rfl, rfl, rfl, rfl, rfl, rfl, rfl, rfl, rfl, rfl, rfl, rfl, rfl, rfl, rfl, rfl, rfl, rfl, rfl, rfl, rfl, rfl, rfl, rfl, rfl, rfl, rfl, rfl, rfl, rfl, rfl, rfl, rfl, rfl, rfl, rfl, rfl⟩

/-- Replacing `recur` replaces it and leaves every other field. -/
@[simp] theorem State.setRecur_frame (s : State) (v : Sparse (List Int)) :
    (s.setRecur v).recur = v ∧
    (s.setRecur v).now = s.now ∧
    (s.setRecur v).freeIx = s.freeIx ∧
    (s.setRecur v).pending = s.pending ∧
    (s.setRecur v).regs = s.regs ∧
    (s.setRecur v).inForce = s.inForce ∧
    (s.setRecur v).wb = s.wb ∧
    (s.setRecur v).shadow = s.shadow ∧
    (s.setRecur v).bus = s.bus ∧
    (s.setRecur v).mbxOrder = s.mbxOrder ∧
    (s.setRecur v).staging = s.staging ∧
    (s.setRecur v).jobs = s.jobs ∧
    (s.setRecur v).binds = s.binds ∧
    (s.setRecur v).batches = s.batches ∧
    (s.setRecur v).tagsHeld = s.tagsHeld ∧
    (s.setRecur v).tagAt = s.tagAt ∧
    (s.setRecur v).arrived = s.arrived ∧
    (s.setRecur v).outs = s.outs ∧
    (s.setRecur v).recQ = s.recQ ∧
    (s.setRecur v).recSeq = s.recSeq ∧
    (s.setRecur v).tx = s.tx ∧
    (s.setRecur v).chans = s.chans ∧
    (s.setRecur v).ingest = s.ingest ∧
    (s.setRecur v).drops = s.drops ∧
    (s.setRecur v).misses = s.misses ∧
    (s.setRecur v).arms = s.arms ∧
    (s.setRecur v).bulk = s.bulk ∧
    (s.setRecur v).rxAt = s.rxAt ∧
    (s.setRecur v).fabric = s.fabric ∧
    (s.setRecur v).grantRr = s.grantRr ∧
    (s.setRecur v).slots = s.slots ∧
    (s.setRecur v).ptes = s.ptes ∧
    (s.setRecur v).xlates = s.xlates ∧
    (s.setRecur v).time = s.time ∧
    (s.setRecur v).halt = s.halt ∧
    (s.setRecur v).sram = s.sram ∧
    (s.setRecur v).pageUe = s.pageUe ∧
    (s.setRecur v).unitUe = s.unitUe ∧
    (s.setRecur v).retired = s.retired ∧
    (s.setRecur v).cluOut = s.cluOut ∧
    (s.setRecur v).plant = s.plant ∧
    (s.setRecur v).tiles = s.tiles ∧
    (s.setRecur v).cells = s.cells ∧
    (s.setRecur v).occ = s.occ ∧
    (s.setRecur v).tcal = s.tcal ∧
    (s.setRecur v).stDone = s.stDone ∧
    (s.setRecur v).chips = s.chips ∧
    (s.setRecur v).meshTbl = s.meshTbl ∧
    (s.setRecur v).rings = s.rings ∧
    (s.setRecur v).lanes = s.lanes ∧
    (s.setRecur v).dirs = s.dirs ∧
    (s.setRecur v).mons = s.mons ∧
    (s.setRecur v).halves = s.halves ∧
    (s.setRecur v).exts = s.exts ∧
    (s.setRecur v).feedFwd = s.feedFwd ∧
    (s.setRecur v).splitAt = s.splitAt ∧
    (s.setRecur v).returnAt = s.returnAt ∧
    (s.setRecur v).store = s.store ∧
    (s.setRecur v).writes = s.writes ∧
    (s.setRecur v).stages = s.stages ∧
    (s.setRecur v).quads = s.quads ∧
    (s.setRecur v).homework = s.homework ∧
    (s.setRecur v).firstForm = s.firstForm ∧
    (s.setRecur v).readbackAt = s.readbackAt ∧
    (s.setRecur v).loadWait = s.loadWait ∧
    (s.setRecur v).feedMove = s.feedMove ∧
    (s.setRecur v).bridgeBuild = s.bridgeBuild ∧
    (s.setRecur v).clk = s.clk ∧
    (s.setRecur v).pwr = s.pwr ∧
    (s.setRecur v).sensors = s.sensors ∧
    (s.setRecur v).nvArr = s.nvArr ∧
    (s.setRecur v).nvShadow = s.nvShadow ∧
    (s.setRecur v).nvRun = s.nvRun ∧
    (s.setRecur v).boot = s.boot ∧
    (s.setRecur v).fw = s.fw ∧
    (s.setRecur v).sup = s.sup :=
  ⟨rfl, rfl, rfl, rfl, rfl, rfl, rfl, rfl, rfl, rfl, rfl, rfl, rfl, rfl, rfl, rfl, rfl, rfl, rfl, rfl, rfl, rfl, rfl, rfl, rfl, rfl, rfl, rfl, rfl, rfl, rfl, rfl, rfl, rfl, rfl, rfl, rfl, rfl, rfl, rfl, rfl, rfl, rfl, rfl, rfl, rfl, rfl, rfl, rfl, rfl, rfl, rfl, rfl, rfl, rfl, rfl, rfl, rfl, rfl, rfl, rfl, rfl, rfl, rfl, rfl, rfl, rfl, rfl, rfl, rfl, rfl, rfl, rfl, rfl, rfl, rfl⟩

/-- Replacing `stDone` replaces it and leaves every other field. -/
@[simp] theorem State.setStDone_frame (s : State) (v : List (Nat × Nat × Nat)) :
    (s.setStDone v).stDone = v ∧
    (s.setStDone v).now = s.now ∧
    (s.setStDone v).freeIx = s.freeIx ∧
    (s.setStDone v).pending = s.pending ∧
    (s.setStDone v).regs = s.regs ∧
    (s.setStDone v).inForce = s.inForce ∧
    (s.setStDone v).wb = s.wb ∧
    (s.setStDone v).shadow = s.shadow ∧
    (s.setStDone v).bus = s.bus ∧
    (s.setStDone v).mbxOrder = s.mbxOrder ∧
    (s.setStDone v).staging = s.staging ∧
    (s.setStDone v).jobs = s.jobs ∧
    (s.setStDone v).binds = s.binds ∧
    (s.setStDone v).batches = s.batches ∧
    (s.setStDone v).tagsHeld = s.tagsHeld ∧
    (s.setStDone v).tagAt = s.tagAt ∧
    (s.setStDone v).arrived = s.arrived ∧
    (s.setStDone v).outs = s.outs ∧
    (s.setStDone v).recQ = s.recQ ∧
    (s.setStDone v).recSeq = s.recSeq ∧
    (s.setStDone v).tx = s.tx ∧
    (s.setStDone v).chans = s.chans ∧
    (s.setStDone v).ingest = s.ingest ∧
    (s.setStDone v).drops = s.drops ∧
    (s.setStDone v).misses = s.misses ∧
    (s.setStDone v).arms = s.arms ∧
    (s.setStDone v).bulk = s.bulk ∧
    (s.setStDone v).rxAt = s.rxAt ∧
    (s.setStDone v).fabric = s.fabric ∧
    (s.setStDone v).grantRr = s.grantRr ∧
    (s.setStDone v).slots = s.slots ∧
    (s.setStDone v).ptes = s.ptes ∧
    (s.setStDone v).xlates = s.xlates ∧
    (s.setStDone v).time = s.time ∧
    (s.setStDone v).halt = s.halt ∧
    (s.setStDone v).sram = s.sram ∧
    (s.setStDone v).pageUe = s.pageUe ∧
    (s.setStDone v).unitUe = s.unitUe ∧
    (s.setStDone v).retired = s.retired ∧
    (s.setStDone v).cluOut = s.cluOut ∧
    (s.setStDone v).plant = s.plant ∧
    (s.setStDone v).tiles = s.tiles ∧
    (s.setStDone v).cells = s.cells ∧
    (s.setStDone v).occ = s.occ ∧
    (s.setStDone v).tcal = s.tcal ∧
    (s.setStDone v).recur = s.recur ∧
    (s.setStDone v).chips = s.chips ∧
    (s.setStDone v).meshTbl = s.meshTbl ∧
    (s.setStDone v).rings = s.rings ∧
    (s.setStDone v).lanes = s.lanes ∧
    (s.setStDone v).dirs = s.dirs ∧
    (s.setStDone v).mons = s.mons ∧
    (s.setStDone v).halves = s.halves ∧
    (s.setStDone v).exts = s.exts ∧
    (s.setStDone v).feedFwd = s.feedFwd ∧
    (s.setStDone v).splitAt = s.splitAt ∧
    (s.setStDone v).returnAt = s.returnAt ∧
    (s.setStDone v).store = s.store ∧
    (s.setStDone v).writes = s.writes ∧
    (s.setStDone v).stages = s.stages ∧
    (s.setStDone v).quads = s.quads ∧
    (s.setStDone v).homework = s.homework ∧
    (s.setStDone v).firstForm = s.firstForm ∧
    (s.setStDone v).readbackAt = s.readbackAt ∧
    (s.setStDone v).loadWait = s.loadWait ∧
    (s.setStDone v).feedMove = s.feedMove ∧
    (s.setStDone v).bridgeBuild = s.bridgeBuild ∧
    (s.setStDone v).clk = s.clk ∧
    (s.setStDone v).pwr = s.pwr ∧
    (s.setStDone v).sensors = s.sensors ∧
    (s.setStDone v).nvArr = s.nvArr ∧
    (s.setStDone v).nvShadow = s.nvShadow ∧
    (s.setStDone v).nvRun = s.nvRun ∧
    (s.setStDone v).boot = s.boot ∧
    (s.setStDone v).fw = s.fw ∧
    (s.setStDone v).sup = s.sup :=
  ⟨rfl, rfl, rfl, rfl, rfl, rfl, rfl, rfl, rfl, rfl, rfl, rfl, rfl, rfl, rfl, rfl, rfl, rfl, rfl, rfl, rfl, rfl, rfl, rfl, rfl, rfl, rfl, rfl, rfl, rfl, rfl, rfl, rfl, rfl, rfl, rfl, rfl, rfl, rfl, rfl, rfl, rfl, rfl, rfl, rfl, rfl, rfl, rfl, rfl, rfl, rfl, rfl, rfl, rfl, rfl, rfl, rfl, rfl, rfl, rfl, rfl, rfl, rfl, rfl, rfl, rfl, rfl, rfl, rfl, rfl, rfl, rfl, rfl, rfl, rfl, rfl⟩

/-- Replacing `chips` replaces it and leaves every other field. -/
@[simp] theorem State.setChips_frame (s : State) (v : Sparse Chip) :
    (s.setChips v).chips = v ∧
    (s.setChips v).now = s.now ∧
    (s.setChips v).freeIx = s.freeIx ∧
    (s.setChips v).pending = s.pending ∧
    (s.setChips v).regs = s.regs ∧
    (s.setChips v).inForce = s.inForce ∧
    (s.setChips v).wb = s.wb ∧
    (s.setChips v).shadow = s.shadow ∧
    (s.setChips v).bus = s.bus ∧
    (s.setChips v).mbxOrder = s.mbxOrder ∧
    (s.setChips v).staging = s.staging ∧
    (s.setChips v).jobs = s.jobs ∧
    (s.setChips v).binds = s.binds ∧
    (s.setChips v).batches = s.batches ∧
    (s.setChips v).tagsHeld = s.tagsHeld ∧
    (s.setChips v).tagAt = s.tagAt ∧
    (s.setChips v).arrived = s.arrived ∧
    (s.setChips v).outs = s.outs ∧
    (s.setChips v).recQ = s.recQ ∧
    (s.setChips v).recSeq = s.recSeq ∧
    (s.setChips v).tx = s.tx ∧
    (s.setChips v).chans = s.chans ∧
    (s.setChips v).ingest = s.ingest ∧
    (s.setChips v).drops = s.drops ∧
    (s.setChips v).misses = s.misses ∧
    (s.setChips v).arms = s.arms ∧
    (s.setChips v).bulk = s.bulk ∧
    (s.setChips v).rxAt = s.rxAt ∧
    (s.setChips v).fabric = s.fabric ∧
    (s.setChips v).grantRr = s.grantRr ∧
    (s.setChips v).slots = s.slots ∧
    (s.setChips v).ptes = s.ptes ∧
    (s.setChips v).xlates = s.xlates ∧
    (s.setChips v).time = s.time ∧
    (s.setChips v).halt = s.halt ∧
    (s.setChips v).sram = s.sram ∧
    (s.setChips v).pageUe = s.pageUe ∧
    (s.setChips v).unitUe = s.unitUe ∧
    (s.setChips v).retired = s.retired ∧
    (s.setChips v).cluOut = s.cluOut ∧
    (s.setChips v).plant = s.plant ∧
    (s.setChips v).tiles = s.tiles ∧
    (s.setChips v).cells = s.cells ∧
    (s.setChips v).occ = s.occ ∧
    (s.setChips v).tcal = s.tcal ∧
    (s.setChips v).recur = s.recur ∧
    (s.setChips v).stDone = s.stDone ∧
    (s.setChips v).meshTbl = s.meshTbl ∧
    (s.setChips v).rings = s.rings ∧
    (s.setChips v).lanes = s.lanes ∧
    (s.setChips v).dirs = s.dirs ∧
    (s.setChips v).mons = s.mons ∧
    (s.setChips v).halves = s.halves ∧
    (s.setChips v).exts = s.exts ∧
    (s.setChips v).feedFwd = s.feedFwd ∧
    (s.setChips v).splitAt = s.splitAt ∧
    (s.setChips v).returnAt = s.returnAt ∧
    (s.setChips v).store = s.store ∧
    (s.setChips v).writes = s.writes ∧
    (s.setChips v).stages = s.stages ∧
    (s.setChips v).quads = s.quads ∧
    (s.setChips v).homework = s.homework ∧
    (s.setChips v).firstForm = s.firstForm ∧
    (s.setChips v).readbackAt = s.readbackAt ∧
    (s.setChips v).loadWait = s.loadWait ∧
    (s.setChips v).feedMove = s.feedMove ∧
    (s.setChips v).bridgeBuild = s.bridgeBuild ∧
    (s.setChips v).clk = s.clk ∧
    (s.setChips v).pwr = s.pwr ∧
    (s.setChips v).sensors = s.sensors ∧
    (s.setChips v).nvArr = s.nvArr ∧
    (s.setChips v).nvShadow = s.nvShadow ∧
    (s.setChips v).nvRun = s.nvRun ∧
    (s.setChips v).boot = s.boot ∧
    (s.setChips v).fw = s.fw ∧
    (s.setChips v).sup = s.sup :=
  ⟨rfl, rfl, rfl, rfl, rfl, rfl, rfl, rfl, rfl, rfl, rfl, rfl, rfl, rfl, rfl, rfl, rfl, rfl, rfl, rfl, rfl, rfl, rfl, rfl, rfl, rfl, rfl, rfl, rfl, rfl, rfl, rfl, rfl, rfl, rfl, rfl, rfl, rfl, rfl, rfl, rfl, rfl, rfl, rfl, rfl, rfl, rfl, rfl, rfl, rfl, rfl, rfl, rfl, rfl, rfl, rfl, rfl, rfl, rfl, rfl, rfl, rfl, rfl, rfl, rfl, rfl, rfl, rfl, rfl, rfl, rfl, rfl, rfl, rfl, rfl, rfl⟩

/-- Replacing `meshTbl` replaces it and leaves every other field. -/
@[simp] theorem State.setMeshTbl_frame (s : State) (v : Sparse Word) :
    (s.setMeshTbl v).meshTbl = v ∧
    (s.setMeshTbl v).now = s.now ∧
    (s.setMeshTbl v).freeIx = s.freeIx ∧
    (s.setMeshTbl v).pending = s.pending ∧
    (s.setMeshTbl v).regs = s.regs ∧
    (s.setMeshTbl v).inForce = s.inForce ∧
    (s.setMeshTbl v).wb = s.wb ∧
    (s.setMeshTbl v).shadow = s.shadow ∧
    (s.setMeshTbl v).bus = s.bus ∧
    (s.setMeshTbl v).mbxOrder = s.mbxOrder ∧
    (s.setMeshTbl v).staging = s.staging ∧
    (s.setMeshTbl v).jobs = s.jobs ∧
    (s.setMeshTbl v).binds = s.binds ∧
    (s.setMeshTbl v).batches = s.batches ∧
    (s.setMeshTbl v).tagsHeld = s.tagsHeld ∧
    (s.setMeshTbl v).tagAt = s.tagAt ∧
    (s.setMeshTbl v).arrived = s.arrived ∧
    (s.setMeshTbl v).outs = s.outs ∧
    (s.setMeshTbl v).recQ = s.recQ ∧
    (s.setMeshTbl v).recSeq = s.recSeq ∧
    (s.setMeshTbl v).tx = s.tx ∧
    (s.setMeshTbl v).chans = s.chans ∧
    (s.setMeshTbl v).ingest = s.ingest ∧
    (s.setMeshTbl v).drops = s.drops ∧
    (s.setMeshTbl v).misses = s.misses ∧
    (s.setMeshTbl v).arms = s.arms ∧
    (s.setMeshTbl v).bulk = s.bulk ∧
    (s.setMeshTbl v).rxAt = s.rxAt ∧
    (s.setMeshTbl v).fabric = s.fabric ∧
    (s.setMeshTbl v).grantRr = s.grantRr ∧
    (s.setMeshTbl v).slots = s.slots ∧
    (s.setMeshTbl v).ptes = s.ptes ∧
    (s.setMeshTbl v).xlates = s.xlates ∧
    (s.setMeshTbl v).time = s.time ∧
    (s.setMeshTbl v).halt = s.halt ∧
    (s.setMeshTbl v).sram = s.sram ∧
    (s.setMeshTbl v).pageUe = s.pageUe ∧
    (s.setMeshTbl v).unitUe = s.unitUe ∧
    (s.setMeshTbl v).retired = s.retired ∧
    (s.setMeshTbl v).cluOut = s.cluOut ∧
    (s.setMeshTbl v).plant = s.plant ∧
    (s.setMeshTbl v).tiles = s.tiles ∧
    (s.setMeshTbl v).cells = s.cells ∧
    (s.setMeshTbl v).occ = s.occ ∧
    (s.setMeshTbl v).tcal = s.tcal ∧
    (s.setMeshTbl v).recur = s.recur ∧
    (s.setMeshTbl v).stDone = s.stDone ∧
    (s.setMeshTbl v).chips = s.chips ∧
    (s.setMeshTbl v).rings = s.rings ∧
    (s.setMeshTbl v).lanes = s.lanes ∧
    (s.setMeshTbl v).dirs = s.dirs ∧
    (s.setMeshTbl v).mons = s.mons ∧
    (s.setMeshTbl v).halves = s.halves ∧
    (s.setMeshTbl v).exts = s.exts ∧
    (s.setMeshTbl v).feedFwd = s.feedFwd ∧
    (s.setMeshTbl v).splitAt = s.splitAt ∧
    (s.setMeshTbl v).returnAt = s.returnAt ∧
    (s.setMeshTbl v).store = s.store ∧
    (s.setMeshTbl v).writes = s.writes ∧
    (s.setMeshTbl v).stages = s.stages ∧
    (s.setMeshTbl v).quads = s.quads ∧
    (s.setMeshTbl v).homework = s.homework ∧
    (s.setMeshTbl v).firstForm = s.firstForm ∧
    (s.setMeshTbl v).readbackAt = s.readbackAt ∧
    (s.setMeshTbl v).loadWait = s.loadWait ∧
    (s.setMeshTbl v).feedMove = s.feedMove ∧
    (s.setMeshTbl v).bridgeBuild = s.bridgeBuild ∧
    (s.setMeshTbl v).clk = s.clk ∧
    (s.setMeshTbl v).pwr = s.pwr ∧
    (s.setMeshTbl v).sensors = s.sensors ∧
    (s.setMeshTbl v).nvArr = s.nvArr ∧
    (s.setMeshTbl v).nvShadow = s.nvShadow ∧
    (s.setMeshTbl v).nvRun = s.nvRun ∧
    (s.setMeshTbl v).boot = s.boot ∧
    (s.setMeshTbl v).fw = s.fw ∧
    (s.setMeshTbl v).sup = s.sup :=
  ⟨rfl, rfl, rfl, rfl, rfl, rfl, rfl, rfl, rfl, rfl, rfl, rfl, rfl, rfl, rfl, rfl, rfl, rfl, rfl, rfl, rfl, rfl, rfl, rfl, rfl, rfl, rfl, rfl, rfl, rfl, rfl, rfl, rfl, rfl, rfl, rfl, rfl, rfl, rfl, rfl, rfl, rfl, rfl, rfl, rfl, rfl, rfl, rfl, rfl, rfl, rfl, rfl, rfl, rfl, rfl, rfl, rfl, rfl, rfl, rfl, rfl, rfl, rfl, rfl, rfl, rfl, rfl, rfl, rfl, rfl, rfl, rfl, rfl, rfl, rfl, rfl⟩

/-- Replacing `rings` replaces it and leaves every other field. -/
@[simp] theorem State.setRings_frame (s : State) (v : Sparse Ring) :
    (s.setRings v).rings = v ∧
    (s.setRings v).now = s.now ∧
    (s.setRings v).freeIx = s.freeIx ∧
    (s.setRings v).pending = s.pending ∧
    (s.setRings v).regs = s.regs ∧
    (s.setRings v).inForce = s.inForce ∧
    (s.setRings v).wb = s.wb ∧
    (s.setRings v).shadow = s.shadow ∧
    (s.setRings v).bus = s.bus ∧
    (s.setRings v).mbxOrder = s.mbxOrder ∧
    (s.setRings v).staging = s.staging ∧
    (s.setRings v).jobs = s.jobs ∧
    (s.setRings v).binds = s.binds ∧
    (s.setRings v).batches = s.batches ∧
    (s.setRings v).tagsHeld = s.tagsHeld ∧
    (s.setRings v).tagAt = s.tagAt ∧
    (s.setRings v).arrived = s.arrived ∧
    (s.setRings v).outs = s.outs ∧
    (s.setRings v).recQ = s.recQ ∧
    (s.setRings v).recSeq = s.recSeq ∧
    (s.setRings v).tx = s.tx ∧
    (s.setRings v).chans = s.chans ∧
    (s.setRings v).ingest = s.ingest ∧
    (s.setRings v).drops = s.drops ∧
    (s.setRings v).misses = s.misses ∧
    (s.setRings v).arms = s.arms ∧
    (s.setRings v).bulk = s.bulk ∧
    (s.setRings v).rxAt = s.rxAt ∧
    (s.setRings v).fabric = s.fabric ∧
    (s.setRings v).grantRr = s.grantRr ∧
    (s.setRings v).slots = s.slots ∧
    (s.setRings v).ptes = s.ptes ∧
    (s.setRings v).xlates = s.xlates ∧
    (s.setRings v).time = s.time ∧
    (s.setRings v).halt = s.halt ∧
    (s.setRings v).sram = s.sram ∧
    (s.setRings v).pageUe = s.pageUe ∧
    (s.setRings v).unitUe = s.unitUe ∧
    (s.setRings v).retired = s.retired ∧
    (s.setRings v).cluOut = s.cluOut ∧
    (s.setRings v).plant = s.plant ∧
    (s.setRings v).tiles = s.tiles ∧
    (s.setRings v).cells = s.cells ∧
    (s.setRings v).occ = s.occ ∧
    (s.setRings v).tcal = s.tcal ∧
    (s.setRings v).recur = s.recur ∧
    (s.setRings v).stDone = s.stDone ∧
    (s.setRings v).chips = s.chips ∧
    (s.setRings v).meshTbl = s.meshTbl ∧
    (s.setRings v).lanes = s.lanes ∧
    (s.setRings v).dirs = s.dirs ∧
    (s.setRings v).mons = s.mons ∧
    (s.setRings v).halves = s.halves ∧
    (s.setRings v).exts = s.exts ∧
    (s.setRings v).feedFwd = s.feedFwd ∧
    (s.setRings v).splitAt = s.splitAt ∧
    (s.setRings v).returnAt = s.returnAt ∧
    (s.setRings v).store = s.store ∧
    (s.setRings v).writes = s.writes ∧
    (s.setRings v).stages = s.stages ∧
    (s.setRings v).quads = s.quads ∧
    (s.setRings v).homework = s.homework ∧
    (s.setRings v).firstForm = s.firstForm ∧
    (s.setRings v).readbackAt = s.readbackAt ∧
    (s.setRings v).loadWait = s.loadWait ∧
    (s.setRings v).feedMove = s.feedMove ∧
    (s.setRings v).bridgeBuild = s.bridgeBuild ∧
    (s.setRings v).clk = s.clk ∧
    (s.setRings v).pwr = s.pwr ∧
    (s.setRings v).sensors = s.sensors ∧
    (s.setRings v).nvArr = s.nvArr ∧
    (s.setRings v).nvShadow = s.nvShadow ∧
    (s.setRings v).nvRun = s.nvRun ∧
    (s.setRings v).boot = s.boot ∧
    (s.setRings v).fw = s.fw ∧
    (s.setRings v).sup = s.sup :=
  ⟨rfl, rfl, rfl, rfl, rfl, rfl, rfl, rfl, rfl, rfl, rfl, rfl, rfl, rfl, rfl, rfl, rfl, rfl, rfl, rfl, rfl, rfl, rfl, rfl, rfl, rfl, rfl, rfl, rfl, rfl, rfl, rfl, rfl, rfl, rfl, rfl, rfl, rfl, rfl, rfl, rfl, rfl, rfl, rfl, rfl, rfl, rfl, rfl, rfl, rfl, rfl, rfl, rfl, rfl, rfl, rfl, rfl, rfl, rfl, rfl, rfl, rfl, rfl, rfl, rfl, rfl, rfl, rfl, rfl, rfl, rfl, rfl, rfl, rfl, rfl, rfl⟩

/-- Replacing `lanes` replaces it and leaves every other field. -/
@[simp] theorem State.setLanes_frame (s : State) (v : Sparse Lane) :
    (s.setLanes v).lanes = v ∧
    (s.setLanes v).now = s.now ∧
    (s.setLanes v).freeIx = s.freeIx ∧
    (s.setLanes v).pending = s.pending ∧
    (s.setLanes v).regs = s.regs ∧
    (s.setLanes v).inForce = s.inForce ∧
    (s.setLanes v).wb = s.wb ∧
    (s.setLanes v).shadow = s.shadow ∧
    (s.setLanes v).bus = s.bus ∧
    (s.setLanes v).mbxOrder = s.mbxOrder ∧
    (s.setLanes v).staging = s.staging ∧
    (s.setLanes v).jobs = s.jobs ∧
    (s.setLanes v).binds = s.binds ∧
    (s.setLanes v).batches = s.batches ∧
    (s.setLanes v).tagsHeld = s.tagsHeld ∧
    (s.setLanes v).tagAt = s.tagAt ∧
    (s.setLanes v).arrived = s.arrived ∧
    (s.setLanes v).outs = s.outs ∧
    (s.setLanes v).recQ = s.recQ ∧
    (s.setLanes v).recSeq = s.recSeq ∧
    (s.setLanes v).tx = s.tx ∧
    (s.setLanes v).chans = s.chans ∧
    (s.setLanes v).ingest = s.ingest ∧
    (s.setLanes v).drops = s.drops ∧
    (s.setLanes v).misses = s.misses ∧
    (s.setLanes v).arms = s.arms ∧
    (s.setLanes v).bulk = s.bulk ∧
    (s.setLanes v).rxAt = s.rxAt ∧
    (s.setLanes v).fabric = s.fabric ∧
    (s.setLanes v).grantRr = s.grantRr ∧
    (s.setLanes v).slots = s.slots ∧
    (s.setLanes v).ptes = s.ptes ∧
    (s.setLanes v).xlates = s.xlates ∧
    (s.setLanes v).time = s.time ∧
    (s.setLanes v).halt = s.halt ∧
    (s.setLanes v).sram = s.sram ∧
    (s.setLanes v).pageUe = s.pageUe ∧
    (s.setLanes v).unitUe = s.unitUe ∧
    (s.setLanes v).retired = s.retired ∧
    (s.setLanes v).cluOut = s.cluOut ∧
    (s.setLanes v).plant = s.plant ∧
    (s.setLanes v).tiles = s.tiles ∧
    (s.setLanes v).cells = s.cells ∧
    (s.setLanes v).occ = s.occ ∧
    (s.setLanes v).tcal = s.tcal ∧
    (s.setLanes v).recur = s.recur ∧
    (s.setLanes v).stDone = s.stDone ∧
    (s.setLanes v).chips = s.chips ∧
    (s.setLanes v).meshTbl = s.meshTbl ∧
    (s.setLanes v).rings = s.rings ∧
    (s.setLanes v).dirs = s.dirs ∧
    (s.setLanes v).mons = s.mons ∧
    (s.setLanes v).halves = s.halves ∧
    (s.setLanes v).exts = s.exts ∧
    (s.setLanes v).feedFwd = s.feedFwd ∧
    (s.setLanes v).splitAt = s.splitAt ∧
    (s.setLanes v).returnAt = s.returnAt ∧
    (s.setLanes v).store = s.store ∧
    (s.setLanes v).writes = s.writes ∧
    (s.setLanes v).stages = s.stages ∧
    (s.setLanes v).quads = s.quads ∧
    (s.setLanes v).homework = s.homework ∧
    (s.setLanes v).firstForm = s.firstForm ∧
    (s.setLanes v).readbackAt = s.readbackAt ∧
    (s.setLanes v).loadWait = s.loadWait ∧
    (s.setLanes v).feedMove = s.feedMove ∧
    (s.setLanes v).bridgeBuild = s.bridgeBuild ∧
    (s.setLanes v).clk = s.clk ∧
    (s.setLanes v).pwr = s.pwr ∧
    (s.setLanes v).sensors = s.sensors ∧
    (s.setLanes v).nvArr = s.nvArr ∧
    (s.setLanes v).nvShadow = s.nvShadow ∧
    (s.setLanes v).nvRun = s.nvRun ∧
    (s.setLanes v).boot = s.boot ∧
    (s.setLanes v).fw = s.fw ∧
    (s.setLanes v).sup = s.sup :=
  ⟨rfl, rfl, rfl, rfl, rfl, rfl, rfl, rfl, rfl, rfl, rfl, rfl, rfl, rfl, rfl, rfl, rfl, rfl, rfl, rfl, rfl, rfl, rfl, rfl, rfl, rfl, rfl, rfl, rfl, rfl, rfl, rfl, rfl, rfl, rfl, rfl, rfl, rfl, rfl, rfl, rfl, rfl, rfl, rfl, rfl, rfl, rfl, rfl, rfl, rfl, rfl, rfl, rfl, rfl, rfl, rfl, rfl, rfl, rfl, rfl, rfl, rfl, rfl, rfl, rfl, rfl, rfl, rfl, rfl, rfl, rfl, rfl, rfl, rfl, rfl, rfl⟩

/-- Replacing `dirs` replaces it and leaves every other field. -/
@[simp] theorem State.setDirs_frame (s : State) (v : Sparse BridgeDir) :
    (s.setDirs v).dirs = v ∧
    (s.setDirs v).now = s.now ∧
    (s.setDirs v).freeIx = s.freeIx ∧
    (s.setDirs v).pending = s.pending ∧
    (s.setDirs v).regs = s.regs ∧
    (s.setDirs v).inForce = s.inForce ∧
    (s.setDirs v).wb = s.wb ∧
    (s.setDirs v).shadow = s.shadow ∧
    (s.setDirs v).bus = s.bus ∧
    (s.setDirs v).mbxOrder = s.mbxOrder ∧
    (s.setDirs v).staging = s.staging ∧
    (s.setDirs v).jobs = s.jobs ∧
    (s.setDirs v).binds = s.binds ∧
    (s.setDirs v).batches = s.batches ∧
    (s.setDirs v).tagsHeld = s.tagsHeld ∧
    (s.setDirs v).tagAt = s.tagAt ∧
    (s.setDirs v).arrived = s.arrived ∧
    (s.setDirs v).outs = s.outs ∧
    (s.setDirs v).recQ = s.recQ ∧
    (s.setDirs v).recSeq = s.recSeq ∧
    (s.setDirs v).tx = s.tx ∧
    (s.setDirs v).chans = s.chans ∧
    (s.setDirs v).ingest = s.ingest ∧
    (s.setDirs v).drops = s.drops ∧
    (s.setDirs v).misses = s.misses ∧
    (s.setDirs v).arms = s.arms ∧
    (s.setDirs v).bulk = s.bulk ∧
    (s.setDirs v).rxAt = s.rxAt ∧
    (s.setDirs v).fabric = s.fabric ∧
    (s.setDirs v).grantRr = s.grantRr ∧
    (s.setDirs v).slots = s.slots ∧
    (s.setDirs v).ptes = s.ptes ∧
    (s.setDirs v).xlates = s.xlates ∧
    (s.setDirs v).time = s.time ∧
    (s.setDirs v).halt = s.halt ∧
    (s.setDirs v).sram = s.sram ∧
    (s.setDirs v).pageUe = s.pageUe ∧
    (s.setDirs v).unitUe = s.unitUe ∧
    (s.setDirs v).retired = s.retired ∧
    (s.setDirs v).cluOut = s.cluOut ∧
    (s.setDirs v).plant = s.plant ∧
    (s.setDirs v).tiles = s.tiles ∧
    (s.setDirs v).cells = s.cells ∧
    (s.setDirs v).occ = s.occ ∧
    (s.setDirs v).tcal = s.tcal ∧
    (s.setDirs v).recur = s.recur ∧
    (s.setDirs v).stDone = s.stDone ∧
    (s.setDirs v).chips = s.chips ∧
    (s.setDirs v).meshTbl = s.meshTbl ∧
    (s.setDirs v).rings = s.rings ∧
    (s.setDirs v).lanes = s.lanes ∧
    (s.setDirs v).mons = s.mons ∧
    (s.setDirs v).halves = s.halves ∧
    (s.setDirs v).exts = s.exts ∧
    (s.setDirs v).feedFwd = s.feedFwd ∧
    (s.setDirs v).splitAt = s.splitAt ∧
    (s.setDirs v).returnAt = s.returnAt ∧
    (s.setDirs v).store = s.store ∧
    (s.setDirs v).writes = s.writes ∧
    (s.setDirs v).stages = s.stages ∧
    (s.setDirs v).quads = s.quads ∧
    (s.setDirs v).homework = s.homework ∧
    (s.setDirs v).firstForm = s.firstForm ∧
    (s.setDirs v).readbackAt = s.readbackAt ∧
    (s.setDirs v).loadWait = s.loadWait ∧
    (s.setDirs v).feedMove = s.feedMove ∧
    (s.setDirs v).bridgeBuild = s.bridgeBuild ∧
    (s.setDirs v).clk = s.clk ∧
    (s.setDirs v).pwr = s.pwr ∧
    (s.setDirs v).sensors = s.sensors ∧
    (s.setDirs v).nvArr = s.nvArr ∧
    (s.setDirs v).nvShadow = s.nvShadow ∧
    (s.setDirs v).nvRun = s.nvRun ∧
    (s.setDirs v).boot = s.boot ∧
    (s.setDirs v).fw = s.fw ∧
    (s.setDirs v).sup = s.sup :=
  ⟨rfl, rfl, rfl, rfl, rfl, rfl, rfl, rfl, rfl, rfl, rfl, rfl, rfl, rfl, rfl, rfl, rfl, rfl, rfl, rfl, rfl, rfl, rfl, rfl, rfl, rfl, rfl, rfl, rfl, rfl, rfl, rfl, rfl, rfl, rfl, rfl, rfl, rfl, rfl, rfl, rfl, rfl, rfl, rfl, rfl, rfl, rfl, rfl, rfl, rfl, rfl, rfl, rfl, rfl, rfl, rfl, rfl, rfl, rfl, rfl, rfl, rfl, rfl, rfl, rfl, rfl, rfl, rfl, rfl, rfl, rfl, rfl, rfl, rfl, rfl, rfl⟩

/-- Replacing `mons` replaces it and leaves every other field. -/
@[simp] theorem State.setMons_frame (s : State) (v : Sparse Mon) :
    (s.setMons v).mons = v ∧
    (s.setMons v).now = s.now ∧
    (s.setMons v).freeIx = s.freeIx ∧
    (s.setMons v).pending = s.pending ∧
    (s.setMons v).regs = s.regs ∧
    (s.setMons v).inForce = s.inForce ∧
    (s.setMons v).wb = s.wb ∧
    (s.setMons v).shadow = s.shadow ∧
    (s.setMons v).bus = s.bus ∧
    (s.setMons v).mbxOrder = s.mbxOrder ∧
    (s.setMons v).staging = s.staging ∧
    (s.setMons v).jobs = s.jobs ∧
    (s.setMons v).binds = s.binds ∧
    (s.setMons v).batches = s.batches ∧
    (s.setMons v).tagsHeld = s.tagsHeld ∧
    (s.setMons v).tagAt = s.tagAt ∧
    (s.setMons v).arrived = s.arrived ∧
    (s.setMons v).outs = s.outs ∧
    (s.setMons v).recQ = s.recQ ∧
    (s.setMons v).recSeq = s.recSeq ∧
    (s.setMons v).tx = s.tx ∧
    (s.setMons v).chans = s.chans ∧
    (s.setMons v).ingest = s.ingest ∧
    (s.setMons v).drops = s.drops ∧
    (s.setMons v).misses = s.misses ∧
    (s.setMons v).arms = s.arms ∧
    (s.setMons v).bulk = s.bulk ∧
    (s.setMons v).rxAt = s.rxAt ∧
    (s.setMons v).fabric = s.fabric ∧
    (s.setMons v).grantRr = s.grantRr ∧
    (s.setMons v).slots = s.slots ∧
    (s.setMons v).ptes = s.ptes ∧
    (s.setMons v).xlates = s.xlates ∧
    (s.setMons v).time = s.time ∧
    (s.setMons v).halt = s.halt ∧
    (s.setMons v).sram = s.sram ∧
    (s.setMons v).pageUe = s.pageUe ∧
    (s.setMons v).unitUe = s.unitUe ∧
    (s.setMons v).retired = s.retired ∧
    (s.setMons v).cluOut = s.cluOut ∧
    (s.setMons v).plant = s.plant ∧
    (s.setMons v).tiles = s.tiles ∧
    (s.setMons v).cells = s.cells ∧
    (s.setMons v).occ = s.occ ∧
    (s.setMons v).tcal = s.tcal ∧
    (s.setMons v).recur = s.recur ∧
    (s.setMons v).stDone = s.stDone ∧
    (s.setMons v).chips = s.chips ∧
    (s.setMons v).meshTbl = s.meshTbl ∧
    (s.setMons v).rings = s.rings ∧
    (s.setMons v).lanes = s.lanes ∧
    (s.setMons v).dirs = s.dirs ∧
    (s.setMons v).halves = s.halves ∧
    (s.setMons v).exts = s.exts ∧
    (s.setMons v).feedFwd = s.feedFwd ∧
    (s.setMons v).splitAt = s.splitAt ∧
    (s.setMons v).returnAt = s.returnAt ∧
    (s.setMons v).store = s.store ∧
    (s.setMons v).writes = s.writes ∧
    (s.setMons v).stages = s.stages ∧
    (s.setMons v).quads = s.quads ∧
    (s.setMons v).homework = s.homework ∧
    (s.setMons v).firstForm = s.firstForm ∧
    (s.setMons v).readbackAt = s.readbackAt ∧
    (s.setMons v).loadWait = s.loadWait ∧
    (s.setMons v).feedMove = s.feedMove ∧
    (s.setMons v).bridgeBuild = s.bridgeBuild ∧
    (s.setMons v).clk = s.clk ∧
    (s.setMons v).pwr = s.pwr ∧
    (s.setMons v).sensors = s.sensors ∧
    (s.setMons v).nvArr = s.nvArr ∧
    (s.setMons v).nvShadow = s.nvShadow ∧
    (s.setMons v).nvRun = s.nvRun ∧
    (s.setMons v).boot = s.boot ∧
    (s.setMons v).fw = s.fw ∧
    (s.setMons v).sup = s.sup :=
  ⟨rfl, rfl, rfl, rfl, rfl, rfl, rfl, rfl, rfl, rfl, rfl, rfl, rfl, rfl, rfl, rfl, rfl, rfl, rfl, rfl, rfl, rfl, rfl, rfl, rfl, rfl, rfl, rfl, rfl, rfl, rfl, rfl, rfl, rfl, rfl, rfl, rfl, rfl, rfl, rfl, rfl, rfl, rfl, rfl, rfl, rfl, rfl, rfl, rfl, rfl, rfl, rfl, rfl, rfl, rfl, rfl, rfl, rfl, rfl, rfl, rfl, rfl, rfl, rfl, rfl, rfl, rfl, rfl, rfl, rfl, rfl, rfl, rfl, rfl, rfl, rfl⟩

/-- Replacing `halves` replaces it and leaves every other field. -/
@[simp] theorem State.setHalves_frame (s : State) (v : Sparse Half) :
    (s.setHalves v).halves = v ∧
    (s.setHalves v).now = s.now ∧
    (s.setHalves v).freeIx = s.freeIx ∧
    (s.setHalves v).pending = s.pending ∧
    (s.setHalves v).regs = s.regs ∧
    (s.setHalves v).inForce = s.inForce ∧
    (s.setHalves v).wb = s.wb ∧
    (s.setHalves v).shadow = s.shadow ∧
    (s.setHalves v).bus = s.bus ∧
    (s.setHalves v).mbxOrder = s.mbxOrder ∧
    (s.setHalves v).staging = s.staging ∧
    (s.setHalves v).jobs = s.jobs ∧
    (s.setHalves v).binds = s.binds ∧
    (s.setHalves v).batches = s.batches ∧
    (s.setHalves v).tagsHeld = s.tagsHeld ∧
    (s.setHalves v).tagAt = s.tagAt ∧
    (s.setHalves v).arrived = s.arrived ∧
    (s.setHalves v).outs = s.outs ∧
    (s.setHalves v).recQ = s.recQ ∧
    (s.setHalves v).recSeq = s.recSeq ∧
    (s.setHalves v).tx = s.tx ∧
    (s.setHalves v).chans = s.chans ∧
    (s.setHalves v).ingest = s.ingest ∧
    (s.setHalves v).drops = s.drops ∧
    (s.setHalves v).misses = s.misses ∧
    (s.setHalves v).arms = s.arms ∧
    (s.setHalves v).bulk = s.bulk ∧
    (s.setHalves v).rxAt = s.rxAt ∧
    (s.setHalves v).fabric = s.fabric ∧
    (s.setHalves v).grantRr = s.grantRr ∧
    (s.setHalves v).slots = s.slots ∧
    (s.setHalves v).ptes = s.ptes ∧
    (s.setHalves v).xlates = s.xlates ∧
    (s.setHalves v).time = s.time ∧
    (s.setHalves v).halt = s.halt ∧
    (s.setHalves v).sram = s.sram ∧
    (s.setHalves v).pageUe = s.pageUe ∧
    (s.setHalves v).unitUe = s.unitUe ∧
    (s.setHalves v).retired = s.retired ∧
    (s.setHalves v).cluOut = s.cluOut ∧
    (s.setHalves v).plant = s.plant ∧
    (s.setHalves v).tiles = s.tiles ∧
    (s.setHalves v).cells = s.cells ∧
    (s.setHalves v).occ = s.occ ∧
    (s.setHalves v).tcal = s.tcal ∧
    (s.setHalves v).recur = s.recur ∧
    (s.setHalves v).stDone = s.stDone ∧
    (s.setHalves v).chips = s.chips ∧
    (s.setHalves v).meshTbl = s.meshTbl ∧
    (s.setHalves v).rings = s.rings ∧
    (s.setHalves v).lanes = s.lanes ∧
    (s.setHalves v).dirs = s.dirs ∧
    (s.setHalves v).mons = s.mons ∧
    (s.setHalves v).exts = s.exts ∧
    (s.setHalves v).feedFwd = s.feedFwd ∧
    (s.setHalves v).splitAt = s.splitAt ∧
    (s.setHalves v).returnAt = s.returnAt ∧
    (s.setHalves v).store = s.store ∧
    (s.setHalves v).writes = s.writes ∧
    (s.setHalves v).stages = s.stages ∧
    (s.setHalves v).quads = s.quads ∧
    (s.setHalves v).homework = s.homework ∧
    (s.setHalves v).firstForm = s.firstForm ∧
    (s.setHalves v).readbackAt = s.readbackAt ∧
    (s.setHalves v).loadWait = s.loadWait ∧
    (s.setHalves v).feedMove = s.feedMove ∧
    (s.setHalves v).bridgeBuild = s.bridgeBuild ∧
    (s.setHalves v).clk = s.clk ∧
    (s.setHalves v).pwr = s.pwr ∧
    (s.setHalves v).sensors = s.sensors ∧
    (s.setHalves v).nvArr = s.nvArr ∧
    (s.setHalves v).nvShadow = s.nvShadow ∧
    (s.setHalves v).nvRun = s.nvRun ∧
    (s.setHalves v).boot = s.boot ∧
    (s.setHalves v).fw = s.fw ∧
    (s.setHalves v).sup = s.sup :=
  ⟨rfl, rfl, rfl, rfl, rfl, rfl, rfl, rfl, rfl, rfl, rfl, rfl, rfl, rfl, rfl, rfl, rfl, rfl, rfl, rfl, rfl, rfl, rfl, rfl, rfl, rfl, rfl, rfl, rfl, rfl, rfl, rfl, rfl, rfl, rfl, rfl, rfl, rfl, rfl, rfl, rfl, rfl, rfl, rfl, rfl, rfl, rfl, rfl, rfl, rfl, rfl, rfl, rfl, rfl, rfl, rfl, rfl, rfl, rfl, rfl, rfl, rfl, rfl, rfl, rfl, rfl, rfl, rfl, rfl, rfl, rfl, rfl, rfl, rfl, rfl, rfl⟩

/-- Replacing `exts` replaces it and leaves every other field. -/
@[simp] theorem State.setExts_frame (s : State) (v : Sparse ExtPort) :
    (s.setExts v).exts = v ∧
    (s.setExts v).now = s.now ∧
    (s.setExts v).freeIx = s.freeIx ∧
    (s.setExts v).pending = s.pending ∧
    (s.setExts v).regs = s.regs ∧
    (s.setExts v).inForce = s.inForce ∧
    (s.setExts v).wb = s.wb ∧
    (s.setExts v).shadow = s.shadow ∧
    (s.setExts v).bus = s.bus ∧
    (s.setExts v).mbxOrder = s.mbxOrder ∧
    (s.setExts v).staging = s.staging ∧
    (s.setExts v).jobs = s.jobs ∧
    (s.setExts v).binds = s.binds ∧
    (s.setExts v).batches = s.batches ∧
    (s.setExts v).tagsHeld = s.tagsHeld ∧
    (s.setExts v).tagAt = s.tagAt ∧
    (s.setExts v).arrived = s.arrived ∧
    (s.setExts v).outs = s.outs ∧
    (s.setExts v).recQ = s.recQ ∧
    (s.setExts v).recSeq = s.recSeq ∧
    (s.setExts v).tx = s.tx ∧
    (s.setExts v).chans = s.chans ∧
    (s.setExts v).ingest = s.ingest ∧
    (s.setExts v).drops = s.drops ∧
    (s.setExts v).misses = s.misses ∧
    (s.setExts v).arms = s.arms ∧
    (s.setExts v).bulk = s.bulk ∧
    (s.setExts v).rxAt = s.rxAt ∧
    (s.setExts v).fabric = s.fabric ∧
    (s.setExts v).grantRr = s.grantRr ∧
    (s.setExts v).slots = s.slots ∧
    (s.setExts v).ptes = s.ptes ∧
    (s.setExts v).xlates = s.xlates ∧
    (s.setExts v).time = s.time ∧
    (s.setExts v).halt = s.halt ∧
    (s.setExts v).sram = s.sram ∧
    (s.setExts v).pageUe = s.pageUe ∧
    (s.setExts v).unitUe = s.unitUe ∧
    (s.setExts v).retired = s.retired ∧
    (s.setExts v).cluOut = s.cluOut ∧
    (s.setExts v).plant = s.plant ∧
    (s.setExts v).tiles = s.tiles ∧
    (s.setExts v).cells = s.cells ∧
    (s.setExts v).occ = s.occ ∧
    (s.setExts v).tcal = s.tcal ∧
    (s.setExts v).recur = s.recur ∧
    (s.setExts v).stDone = s.stDone ∧
    (s.setExts v).chips = s.chips ∧
    (s.setExts v).meshTbl = s.meshTbl ∧
    (s.setExts v).rings = s.rings ∧
    (s.setExts v).lanes = s.lanes ∧
    (s.setExts v).dirs = s.dirs ∧
    (s.setExts v).mons = s.mons ∧
    (s.setExts v).halves = s.halves ∧
    (s.setExts v).feedFwd = s.feedFwd ∧
    (s.setExts v).splitAt = s.splitAt ∧
    (s.setExts v).returnAt = s.returnAt ∧
    (s.setExts v).store = s.store ∧
    (s.setExts v).writes = s.writes ∧
    (s.setExts v).stages = s.stages ∧
    (s.setExts v).quads = s.quads ∧
    (s.setExts v).homework = s.homework ∧
    (s.setExts v).firstForm = s.firstForm ∧
    (s.setExts v).readbackAt = s.readbackAt ∧
    (s.setExts v).loadWait = s.loadWait ∧
    (s.setExts v).feedMove = s.feedMove ∧
    (s.setExts v).bridgeBuild = s.bridgeBuild ∧
    (s.setExts v).clk = s.clk ∧
    (s.setExts v).pwr = s.pwr ∧
    (s.setExts v).sensors = s.sensors ∧
    (s.setExts v).nvArr = s.nvArr ∧
    (s.setExts v).nvShadow = s.nvShadow ∧
    (s.setExts v).nvRun = s.nvRun ∧
    (s.setExts v).boot = s.boot ∧
    (s.setExts v).fw = s.fw ∧
    (s.setExts v).sup = s.sup :=
  ⟨rfl, rfl, rfl, rfl, rfl, rfl, rfl, rfl, rfl, rfl, rfl, rfl, rfl, rfl, rfl, rfl, rfl, rfl, rfl, rfl, rfl, rfl, rfl, rfl, rfl, rfl, rfl, rfl, rfl, rfl, rfl, rfl, rfl, rfl, rfl, rfl, rfl, rfl, rfl, rfl, rfl, rfl, rfl, rfl, rfl, rfl, rfl, rfl, rfl, rfl, rfl, rfl, rfl, rfl, rfl, rfl, rfl, rfl, rfl, rfl, rfl, rfl, rfl, rfl, rfl, rfl, rfl, rfl, rfl, rfl, rfl, rfl, rfl, rfl, rfl, rfl⟩

/-- Replacing `feedFwd` replaces it and leaves every other field. -/
@[simp] theorem State.setFeedFwd_frame (s : State) (v : Sparse FeedFwd) :
    (s.setFeedFwd v).feedFwd = v ∧
    (s.setFeedFwd v).now = s.now ∧
    (s.setFeedFwd v).freeIx = s.freeIx ∧
    (s.setFeedFwd v).pending = s.pending ∧
    (s.setFeedFwd v).regs = s.regs ∧
    (s.setFeedFwd v).inForce = s.inForce ∧
    (s.setFeedFwd v).wb = s.wb ∧
    (s.setFeedFwd v).shadow = s.shadow ∧
    (s.setFeedFwd v).bus = s.bus ∧
    (s.setFeedFwd v).mbxOrder = s.mbxOrder ∧
    (s.setFeedFwd v).staging = s.staging ∧
    (s.setFeedFwd v).jobs = s.jobs ∧
    (s.setFeedFwd v).binds = s.binds ∧
    (s.setFeedFwd v).batches = s.batches ∧
    (s.setFeedFwd v).tagsHeld = s.tagsHeld ∧
    (s.setFeedFwd v).tagAt = s.tagAt ∧
    (s.setFeedFwd v).arrived = s.arrived ∧
    (s.setFeedFwd v).outs = s.outs ∧
    (s.setFeedFwd v).recQ = s.recQ ∧
    (s.setFeedFwd v).recSeq = s.recSeq ∧
    (s.setFeedFwd v).tx = s.tx ∧
    (s.setFeedFwd v).chans = s.chans ∧
    (s.setFeedFwd v).ingest = s.ingest ∧
    (s.setFeedFwd v).drops = s.drops ∧
    (s.setFeedFwd v).misses = s.misses ∧
    (s.setFeedFwd v).arms = s.arms ∧
    (s.setFeedFwd v).bulk = s.bulk ∧
    (s.setFeedFwd v).rxAt = s.rxAt ∧
    (s.setFeedFwd v).fabric = s.fabric ∧
    (s.setFeedFwd v).grantRr = s.grantRr ∧
    (s.setFeedFwd v).slots = s.slots ∧
    (s.setFeedFwd v).ptes = s.ptes ∧
    (s.setFeedFwd v).xlates = s.xlates ∧
    (s.setFeedFwd v).time = s.time ∧
    (s.setFeedFwd v).halt = s.halt ∧
    (s.setFeedFwd v).sram = s.sram ∧
    (s.setFeedFwd v).pageUe = s.pageUe ∧
    (s.setFeedFwd v).unitUe = s.unitUe ∧
    (s.setFeedFwd v).retired = s.retired ∧
    (s.setFeedFwd v).cluOut = s.cluOut ∧
    (s.setFeedFwd v).plant = s.plant ∧
    (s.setFeedFwd v).tiles = s.tiles ∧
    (s.setFeedFwd v).cells = s.cells ∧
    (s.setFeedFwd v).occ = s.occ ∧
    (s.setFeedFwd v).tcal = s.tcal ∧
    (s.setFeedFwd v).recur = s.recur ∧
    (s.setFeedFwd v).stDone = s.stDone ∧
    (s.setFeedFwd v).chips = s.chips ∧
    (s.setFeedFwd v).meshTbl = s.meshTbl ∧
    (s.setFeedFwd v).rings = s.rings ∧
    (s.setFeedFwd v).lanes = s.lanes ∧
    (s.setFeedFwd v).dirs = s.dirs ∧
    (s.setFeedFwd v).mons = s.mons ∧
    (s.setFeedFwd v).halves = s.halves ∧
    (s.setFeedFwd v).exts = s.exts ∧
    (s.setFeedFwd v).splitAt = s.splitAt ∧
    (s.setFeedFwd v).returnAt = s.returnAt ∧
    (s.setFeedFwd v).store = s.store ∧
    (s.setFeedFwd v).writes = s.writes ∧
    (s.setFeedFwd v).stages = s.stages ∧
    (s.setFeedFwd v).quads = s.quads ∧
    (s.setFeedFwd v).homework = s.homework ∧
    (s.setFeedFwd v).firstForm = s.firstForm ∧
    (s.setFeedFwd v).readbackAt = s.readbackAt ∧
    (s.setFeedFwd v).loadWait = s.loadWait ∧
    (s.setFeedFwd v).feedMove = s.feedMove ∧
    (s.setFeedFwd v).bridgeBuild = s.bridgeBuild ∧
    (s.setFeedFwd v).clk = s.clk ∧
    (s.setFeedFwd v).pwr = s.pwr ∧
    (s.setFeedFwd v).sensors = s.sensors ∧
    (s.setFeedFwd v).nvArr = s.nvArr ∧
    (s.setFeedFwd v).nvShadow = s.nvShadow ∧
    (s.setFeedFwd v).nvRun = s.nvRun ∧
    (s.setFeedFwd v).boot = s.boot ∧
    (s.setFeedFwd v).fw = s.fw ∧
    (s.setFeedFwd v).sup = s.sup :=
  ⟨rfl, rfl, rfl, rfl, rfl, rfl, rfl, rfl, rfl, rfl, rfl, rfl, rfl, rfl, rfl, rfl, rfl, rfl, rfl, rfl, rfl, rfl, rfl, rfl, rfl, rfl, rfl, rfl, rfl, rfl, rfl, rfl, rfl, rfl, rfl, rfl, rfl, rfl, rfl, rfl, rfl, rfl, rfl, rfl, rfl, rfl, rfl, rfl, rfl, rfl, rfl, rfl, rfl, rfl, rfl, rfl, rfl, rfl, rfl, rfl, rfl, rfl, rfl, rfl, rfl, rfl, rfl, rfl, rfl, rfl, rfl, rfl, rfl, rfl, rfl, rfl⟩

/-- Replacing `splitAt` replaces it and leaves every other field. -/
@[simp] theorem State.setSplitAt_frame (s : State) (v : Option Nat) :
    (s.setSplitAt v).splitAt = v ∧
    (s.setSplitAt v).now = s.now ∧
    (s.setSplitAt v).freeIx = s.freeIx ∧
    (s.setSplitAt v).pending = s.pending ∧
    (s.setSplitAt v).regs = s.regs ∧
    (s.setSplitAt v).inForce = s.inForce ∧
    (s.setSplitAt v).wb = s.wb ∧
    (s.setSplitAt v).shadow = s.shadow ∧
    (s.setSplitAt v).bus = s.bus ∧
    (s.setSplitAt v).mbxOrder = s.mbxOrder ∧
    (s.setSplitAt v).staging = s.staging ∧
    (s.setSplitAt v).jobs = s.jobs ∧
    (s.setSplitAt v).binds = s.binds ∧
    (s.setSplitAt v).batches = s.batches ∧
    (s.setSplitAt v).tagsHeld = s.tagsHeld ∧
    (s.setSplitAt v).tagAt = s.tagAt ∧
    (s.setSplitAt v).arrived = s.arrived ∧
    (s.setSplitAt v).outs = s.outs ∧
    (s.setSplitAt v).recQ = s.recQ ∧
    (s.setSplitAt v).recSeq = s.recSeq ∧
    (s.setSplitAt v).tx = s.tx ∧
    (s.setSplitAt v).chans = s.chans ∧
    (s.setSplitAt v).ingest = s.ingest ∧
    (s.setSplitAt v).drops = s.drops ∧
    (s.setSplitAt v).misses = s.misses ∧
    (s.setSplitAt v).arms = s.arms ∧
    (s.setSplitAt v).bulk = s.bulk ∧
    (s.setSplitAt v).rxAt = s.rxAt ∧
    (s.setSplitAt v).fabric = s.fabric ∧
    (s.setSplitAt v).grantRr = s.grantRr ∧
    (s.setSplitAt v).slots = s.slots ∧
    (s.setSplitAt v).ptes = s.ptes ∧
    (s.setSplitAt v).xlates = s.xlates ∧
    (s.setSplitAt v).time = s.time ∧
    (s.setSplitAt v).halt = s.halt ∧
    (s.setSplitAt v).sram = s.sram ∧
    (s.setSplitAt v).pageUe = s.pageUe ∧
    (s.setSplitAt v).unitUe = s.unitUe ∧
    (s.setSplitAt v).retired = s.retired ∧
    (s.setSplitAt v).cluOut = s.cluOut ∧
    (s.setSplitAt v).plant = s.plant ∧
    (s.setSplitAt v).tiles = s.tiles ∧
    (s.setSplitAt v).cells = s.cells ∧
    (s.setSplitAt v).occ = s.occ ∧
    (s.setSplitAt v).tcal = s.tcal ∧
    (s.setSplitAt v).recur = s.recur ∧
    (s.setSplitAt v).stDone = s.stDone ∧
    (s.setSplitAt v).chips = s.chips ∧
    (s.setSplitAt v).meshTbl = s.meshTbl ∧
    (s.setSplitAt v).rings = s.rings ∧
    (s.setSplitAt v).lanes = s.lanes ∧
    (s.setSplitAt v).dirs = s.dirs ∧
    (s.setSplitAt v).mons = s.mons ∧
    (s.setSplitAt v).halves = s.halves ∧
    (s.setSplitAt v).exts = s.exts ∧
    (s.setSplitAt v).feedFwd = s.feedFwd ∧
    (s.setSplitAt v).returnAt = s.returnAt ∧
    (s.setSplitAt v).store = s.store ∧
    (s.setSplitAt v).writes = s.writes ∧
    (s.setSplitAt v).stages = s.stages ∧
    (s.setSplitAt v).quads = s.quads ∧
    (s.setSplitAt v).homework = s.homework ∧
    (s.setSplitAt v).firstForm = s.firstForm ∧
    (s.setSplitAt v).readbackAt = s.readbackAt ∧
    (s.setSplitAt v).loadWait = s.loadWait ∧
    (s.setSplitAt v).feedMove = s.feedMove ∧
    (s.setSplitAt v).bridgeBuild = s.bridgeBuild ∧
    (s.setSplitAt v).clk = s.clk ∧
    (s.setSplitAt v).pwr = s.pwr ∧
    (s.setSplitAt v).sensors = s.sensors ∧
    (s.setSplitAt v).nvArr = s.nvArr ∧
    (s.setSplitAt v).nvShadow = s.nvShadow ∧
    (s.setSplitAt v).nvRun = s.nvRun ∧
    (s.setSplitAt v).boot = s.boot ∧
    (s.setSplitAt v).fw = s.fw ∧
    (s.setSplitAt v).sup = s.sup :=
  ⟨rfl, rfl, rfl, rfl, rfl, rfl, rfl, rfl, rfl, rfl, rfl, rfl, rfl, rfl, rfl, rfl, rfl, rfl, rfl, rfl, rfl, rfl, rfl, rfl, rfl, rfl, rfl, rfl, rfl, rfl, rfl, rfl, rfl, rfl, rfl, rfl, rfl, rfl, rfl, rfl, rfl, rfl, rfl, rfl, rfl, rfl, rfl, rfl, rfl, rfl, rfl, rfl, rfl, rfl, rfl, rfl, rfl, rfl, rfl, rfl, rfl, rfl, rfl, rfl, rfl, rfl, rfl, rfl, rfl, rfl, rfl, rfl, rfl, rfl, rfl, rfl⟩

/-- Replacing `returnAt` replaces it and leaves every other field. -/
@[simp] theorem State.setReturnAt_frame (s : State) (v : Option Nat) :
    (s.setReturnAt v).returnAt = v ∧
    (s.setReturnAt v).now = s.now ∧
    (s.setReturnAt v).freeIx = s.freeIx ∧
    (s.setReturnAt v).pending = s.pending ∧
    (s.setReturnAt v).regs = s.regs ∧
    (s.setReturnAt v).inForce = s.inForce ∧
    (s.setReturnAt v).wb = s.wb ∧
    (s.setReturnAt v).shadow = s.shadow ∧
    (s.setReturnAt v).bus = s.bus ∧
    (s.setReturnAt v).mbxOrder = s.mbxOrder ∧
    (s.setReturnAt v).staging = s.staging ∧
    (s.setReturnAt v).jobs = s.jobs ∧
    (s.setReturnAt v).binds = s.binds ∧
    (s.setReturnAt v).batches = s.batches ∧
    (s.setReturnAt v).tagsHeld = s.tagsHeld ∧
    (s.setReturnAt v).tagAt = s.tagAt ∧
    (s.setReturnAt v).arrived = s.arrived ∧
    (s.setReturnAt v).outs = s.outs ∧
    (s.setReturnAt v).recQ = s.recQ ∧
    (s.setReturnAt v).recSeq = s.recSeq ∧
    (s.setReturnAt v).tx = s.tx ∧
    (s.setReturnAt v).chans = s.chans ∧
    (s.setReturnAt v).ingest = s.ingest ∧
    (s.setReturnAt v).drops = s.drops ∧
    (s.setReturnAt v).misses = s.misses ∧
    (s.setReturnAt v).arms = s.arms ∧
    (s.setReturnAt v).bulk = s.bulk ∧
    (s.setReturnAt v).rxAt = s.rxAt ∧
    (s.setReturnAt v).fabric = s.fabric ∧
    (s.setReturnAt v).grantRr = s.grantRr ∧
    (s.setReturnAt v).slots = s.slots ∧
    (s.setReturnAt v).ptes = s.ptes ∧
    (s.setReturnAt v).xlates = s.xlates ∧
    (s.setReturnAt v).time = s.time ∧
    (s.setReturnAt v).halt = s.halt ∧
    (s.setReturnAt v).sram = s.sram ∧
    (s.setReturnAt v).pageUe = s.pageUe ∧
    (s.setReturnAt v).unitUe = s.unitUe ∧
    (s.setReturnAt v).retired = s.retired ∧
    (s.setReturnAt v).cluOut = s.cluOut ∧
    (s.setReturnAt v).plant = s.plant ∧
    (s.setReturnAt v).tiles = s.tiles ∧
    (s.setReturnAt v).cells = s.cells ∧
    (s.setReturnAt v).occ = s.occ ∧
    (s.setReturnAt v).tcal = s.tcal ∧
    (s.setReturnAt v).recur = s.recur ∧
    (s.setReturnAt v).stDone = s.stDone ∧
    (s.setReturnAt v).chips = s.chips ∧
    (s.setReturnAt v).meshTbl = s.meshTbl ∧
    (s.setReturnAt v).rings = s.rings ∧
    (s.setReturnAt v).lanes = s.lanes ∧
    (s.setReturnAt v).dirs = s.dirs ∧
    (s.setReturnAt v).mons = s.mons ∧
    (s.setReturnAt v).halves = s.halves ∧
    (s.setReturnAt v).exts = s.exts ∧
    (s.setReturnAt v).feedFwd = s.feedFwd ∧
    (s.setReturnAt v).splitAt = s.splitAt ∧
    (s.setReturnAt v).store = s.store ∧
    (s.setReturnAt v).writes = s.writes ∧
    (s.setReturnAt v).stages = s.stages ∧
    (s.setReturnAt v).quads = s.quads ∧
    (s.setReturnAt v).homework = s.homework ∧
    (s.setReturnAt v).firstForm = s.firstForm ∧
    (s.setReturnAt v).readbackAt = s.readbackAt ∧
    (s.setReturnAt v).loadWait = s.loadWait ∧
    (s.setReturnAt v).feedMove = s.feedMove ∧
    (s.setReturnAt v).bridgeBuild = s.bridgeBuild ∧
    (s.setReturnAt v).clk = s.clk ∧
    (s.setReturnAt v).pwr = s.pwr ∧
    (s.setReturnAt v).sensors = s.sensors ∧
    (s.setReturnAt v).nvArr = s.nvArr ∧
    (s.setReturnAt v).nvShadow = s.nvShadow ∧
    (s.setReturnAt v).nvRun = s.nvRun ∧
    (s.setReturnAt v).boot = s.boot ∧
    (s.setReturnAt v).fw = s.fw ∧
    (s.setReturnAt v).sup = s.sup :=
  ⟨rfl, rfl, rfl, rfl, rfl, rfl, rfl, rfl, rfl, rfl, rfl, rfl, rfl, rfl, rfl, rfl, rfl, rfl, rfl, rfl, rfl, rfl, rfl, rfl, rfl, rfl, rfl, rfl, rfl, rfl, rfl, rfl, rfl, rfl, rfl, rfl, rfl, rfl, rfl, rfl, rfl, rfl, rfl, rfl, rfl, rfl, rfl, rfl, rfl, rfl, rfl, rfl, rfl, rfl, rfl, rfl, rfl, rfl, rfl, rfl, rfl, rfl, rfl, rfl, rfl, rfl, rfl, rfl, rfl, rfl, rfl, rfl, rfl, rfl, rfl, rfl⟩

/-- Replacing `store` replaces it and leaves every other field. -/
@[simp] theorem State.setStore_frame (s : State) (v : Sparse StoreSlot) :
    (s.setStore v).store = v ∧
    (s.setStore v).now = s.now ∧
    (s.setStore v).freeIx = s.freeIx ∧
    (s.setStore v).pending = s.pending ∧
    (s.setStore v).regs = s.regs ∧
    (s.setStore v).inForce = s.inForce ∧
    (s.setStore v).wb = s.wb ∧
    (s.setStore v).shadow = s.shadow ∧
    (s.setStore v).bus = s.bus ∧
    (s.setStore v).mbxOrder = s.mbxOrder ∧
    (s.setStore v).staging = s.staging ∧
    (s.setStore v).jobs = s.jobs ∧
    (s.setStore v).binds = s.binds ∧
    (s.setStore v).batches = s.batches ∧
    (s.setStore v).tagsHeld = s.tagsHeld ∧
    (s.setStore v).tagAt = s.tagAt ∧
    (s.setStore v).arrived = s.arrived ∧
    (s.setStore v).outs = s.outs ∧
    (s.setStore v).recQ = s.recQ ∧
    (s.setStore v).recSeq = s.recSeq ∧
    (s.setStore v).tx = s.tx ∧
    (s.setStore v).chans = s.chans ∧
    (s.setStore v).ingest = s.ingest ∧
    (s.setStore v).drops = s.drops ∧
    (s.setStore v).misses = s.misses ∧
    (s.setStore v).arms = s.arms ∧
    (s.setStore v).bulk = s.bulk ∧
    (s.setStore v).rxAt = s.rxAt ∧
    (s.setStore v).fabric = s.fabric ∧
    (s.setStore v).grantRr = s.grantRr ∧
    (s.setStore v).slots = s.slots ∧
    (s.setStore v).ptes = s.ptes ∧
    (s.setStore v).xlates = s.xlates ∧
    (s.setStore v).time = s.time ∧
    (s.setStore v).halt = s.halt ∧
    (s.setStore v).sram = s.sram ∧
    (s.setStore v).pageUe = s.pageUe ∧
    (s.setStore v).unitUe = s.unitUe ∧
    (s.setStore v).retired = s.retired ∧
    (s.setStore v).cluOut = s.cluOut ∧
    (s.setStore v).plant = s.plant ∧
    (s.setStore v).tiles = s.tiles ∧
    (s.setStore v).cells = s.cells ∧
    (s.setStore v).occ = s.occ ∧
    (s.setStore v).tcal = s.tcal ∧
    (s.setStore v).recur = s.recur ∧
    (s.setStore v).stDone = s.stDone ∧
    (s.setStore v).chips = s.chips ∧
    (s.setStore v).meshTbl = s.meshTbl ∧
    (s.setStore v).rings = s.rings ∧
    (s.setStore v).lanes = s.lanes ∧
    (s.setStore v).dirs = s.dirs ∧
    (s.setStore v).mons = s.mons ∧
    (s.setStore v).halves = s.halves ∧
    (s.setStore v).exts = s.exts ∧
    (s.setStore v).feedFwd = s.feedFwd ∧
    (s.setStore v).splitAt = s.splitAt ∧
    (s.setStore v).returnAt = s.returnAt ∧
    (s.setStore v).writes = s.writes ∧
    (s.setStore v).stages = s.stages ∧
    (s.setStore v).quads = s.quads ∧
    (s.setStore v).homework = s.homework ∧
    (s.setStore v).firstForm = s.firstForm ∧
    (s.setStore v).readbackAt = s.readbackAt ∧
    (s.setStore v).loadWait = s.loadWait ∧
    (s.setStore v).feedMove = s.feedMove ∧
    (s.setStore v).bridgeBuild = s.bridgeBuild ∧
    (s.setStore v).clk = s.clk ∧
    (s.setStore v).pwr = s.pwr ∧
    (s.setStore v).sensors = s.sensors ∧
    (s.setStore v).nvArr = s.nvArr ∧
    (s.setStore v).nvShadow = s.nvShadow ∧
    (s.setStore v).nvRun = s.nvRun ∧
    (s.setStore v).boot = s.boot ∧
    (s.setStore v).fw = s.fw ∧
    (s.setStore v).sup = s.sup :=
  ⟨rfl, rfl, rfl, rfl, rfl, rfl, rfl, rfl, rfl, rfl, rfl, rfl, rfl, rfl, rfl, rfl, rfl, rfl, rfl, rfl, rfl, rfl, rfl, rfl, rfl, rfl, rfl, rfl, rfl, rfl, rfl, rfl, rfl, rfl, rfl, rfl, rfl, rfl, rfl, rfl, rfl, rfl, rfl, rfl, rfl, rfl, rfl, rfl, rfl, rfl, rfl, rfl, rfl, rfl, rfl, rfl, rfl, rfl, rfl, rfl, rfl, rfl, rfl, rfl, rfl, rfl, rfl, rfl, rfl, rfl, rfl, rfl, rfl, rfl, rfl, rfl⟩

/-- Replacing `writes` replaces it and leaves every other field. -/
@[simp] theorem State.setWrites_frame (s : State) (v : List WriteReq) :
    (s.setWrites v).writes = v ∧
    (s.setWrites v).now = s.now ∧
    (s.setWrites v).freeIx = s.freeIx ∧
    (s.setWrites v).pending = s.pending ∧
    (s.setWrites v).regs = s.regs ∧
    (s.setWrites v).inForce = s.inForce ∧
    (s.setWrites v).wb = s.wb ∧
    (s.setWrites v).shadow = s.shadow ∧
    (s.setWrites v).bus = s.bus ∧
    (s.setWrites v).mbxOrder = s.mbxOrder ∧
    (s.setWrites v).staging = s.staging ∧
    (s.setWrites v).jobs = s.jobs ∧
    (s.setWrites v).binds = s.binds ∧
    (s.setWrites v).batches = s.batches ∧
    (s.setWrites v).tagsHeld = s.tagsHeld ∧
    (s.setWrites v).tagAt = s.tagAt ∧
    (s.setWrites v).arrived = s.arrived ∧
    (s.setWrites v).outs = s.outs ∧
    (s.setWrites v).recQ = s.recQ ∧
    (s.setWrites v).recSeq = s.recSeq ∧
    (s.setWrites v).tx = s.tx ∧
    (s.setWrites v).chans = s.chans ∧
    (s.setWrites v).ingest = s.ingest ∧
    (s.setWrites v).drops = s.drops ∧
    (s.setWrites v).misses = s.misses ∧
    (s.setWrites v).arms = s.arms ∧
    (s.setWrites v).bulk = s.bulk ∧
    (s.setWrites v).rxAt = s.rxAt ∧
    (s.setWrites v).fabric = s.fabric ∧
    (s.setWrites v).grantRr = s.grantRr ∧
    (s.setWrites v).slots = s.slots ∧
    (s.setWrites v).ptes = s.ptes ∧
    (s.setWrites v).xlates = s.xlates ∧
    (s.setWrites v).time = s.time ∧
    (s.setWrites v).halt = s.halt ∧
    (s.setWrites v).sram = s.sram ∧
    (s.setWrites v).pageUe = s.pageUe ∧
    (s.setWrites v).unitUe = s.unitUe ∧
    (s.setWrites v).retired = s.retired ∧
    (s.setWrites v).cluOut = s.cluOut ∧
    (s.setWrites v).plant = s.plant ∧
    (s.setWrites v).tiles = s.tiles ∧
    (s.setWrites v).cells = s.cells ∧
    (s.setWrites v).occ = s.occ ∧
    (s.setWrites v).tcal = s.tcal ∧
    (s.setWrites v).recur = s.recur ∧
    (s.setWrites v).stDone = s.stDone ∧
    (s.setWrites v).chips = s.chips ∧
    (s.setWrites v).meshTbl = s.meshTbl ∧
    (s.setWrites v).rings = s.rings ∧
    (s.setWrites v).lanes = s.lanes ∧
    (s.setWrites v).dirs = s.dirs ∧
    (s.setWrites v).mons = s.mons ∧
    (s.setWrites v).halves = s.halves ∧
    (s.setWrites v).exts = s.exts ∧
    (s.setWrites v).feedFwd = s.feedFwd ∧
    (s.setWrites v).splitAt = s.splitAt ∧
    (s.setWrites v).returnAt = s.returnAt ∧
    (s.setWrites v).store = s.store ∧
    (s.setWrites v).stages = s.stages ∧
    (s.setWrites v).quads = s.quads ∧
    (s.setWrites v).homework = s.homework ∧
    (s.setWrites v).firstForm = s.firstForm ∧
    (s.setWrites v).readbackAt = s.readbackAt ∧
    (s.setWrites v).loadWait = s.loadWait ∧
    (s.setWrites v).feedMove = s.feedMove ∧
    (s.setWrites v).bridgeBuild = s.bridgeBuild ∧
    (s.setWrites v).clk = s.clk ∧
    (s.setWrites v).pwr = s.pwr ∧
    (s.setWrites v).sensors = s.sensors ∧
    (s.setWrites v).nvArr = s.nvArr ∧
    (s.setWrites v).nvShadow = s.nvShadow ∧
    (s.setWrites v).nvRun = s.nvRun ∧
    (s.setWrites v).boot = s.boot ∧
    (s.setWrites v).fw = s.fw ∧
    (s.setWrites v).sup = s.sup :=
  ⟨rfl, rfl, rfl, rfl, rfl, rfl, rfl, rfl, rfl, rfl, rfl, rfl, rfl, rfl, rfl, rfl, rfl, rfl, rfl, rfl, rfl, rfl, rfl, rfl, rfl, rfl, rfl, rfl, rfl, rfl, rfl, rfl, rfl, rfl, rfl, rfl, rfl, rfl, rfl, rfl, rfl, rfl, rfl, rfl, rfl, rfl, rfl, rfl, rfl, rfl, rfl, rfl, rfl, rfl, rfl, rfl, rfl, rfl, rfl, rfl, rfl, rfl, rfl, rfl, rfl, rfl, rfl, rfl, rfl, rfl, rfl, rfl, rfl, rfl, rfl, rfl⟩

/-- Replacing `stages` replaces it and leaves every other field. -/
@[simp] theorem State.setStages_frame (s : State) (v : Sparse WStage) :
    (s.setStages v).stages = v ∧
    (s.setStages v).now = s.now ∧
    (s.setStages v).freeIx = s.freeIx ∧
    (s.setStages v).pending = s.pending ∧
    (s.setStages v).regs = s.regs ∧
    (s.setStages v).inForce = s.inForce ∧
    (s.setStages v).wb = s.wb ∧
    (s.setStages v).shadow = s.shadow ∧
    (s.setStages v).bus = s.bus ∧
    (s.setStages v).mbxOrder = s.mbxOrder ∧
    (s.setStages v).staging = s.staging ∧
    (s.setStages v).jobs = s.jobs ∧
    (s.setStages v).binds = s.binds ∧
    (s.setStages v).batches = s.batches ∧
    (s.setStages v).tagsHeld = s.tagsHeld ∧
    (s.setStages v).tagAt = s.tagAt ∧
    (s.setStages v).arrived = s.arrived ∧
    (s.setStages v).outs = s.outs ∧
    (s.setStages v).recQ = s.recQ ∧
    (s.setStages v).recSeq = s.recSeq ∧
    (s.setStages v).tx = s.tx ∧
    (s.setStages v).chans = s.chans ∧
    (s.setStages v).ingest = s.ingest ∧
    (s.setStages v).drops = s.drops ∧
    (s.setStages v).misses = s.misses ∧
    (s.setStages v).arms = s.arms ∧
    (s.setStages v).bulk = s.bulk ∧
    (s.setStages v).rxAt = s.rxAt ∧
    (s.setStages v).fabric = s.fabric ∧
    (s.setStages v).grantRr = s.grantRr ∧
    (s.setStages v).slots = s.slots ∧
    (s.setStages v).ptes = s.ptes ∧
    (s.setStages v).xlates = s.xlates ∧
    (s.setStages v).time = s.time ∧
    (s.setStages v).halt = s.halt ∧
    (s.setStages v).sram = s.sram ∧
    (s.setStages v).pageUe = s.pageUe ∧
    (s.setStages v).unitUe = s.unitUe ∧
    (s.setStages v).retired = s.retired ∧
    (s.setStages v).cluOut = s.cluOut ∧
    (s.setStages v).plant = s.plant ∧
    (s.setStages v).tiles = s.tiles ∧
    (s.setStages v).cells = s.cells ∧
    (s.setStages v).occ = s.occ ∧
    (s.setStages v).tcal = s.tcal ∧
    (s.setStages v).recur = s.recur ∧
    (s.setStages v).stDone = s.stDone ∧
    (s.setStages v).chips = s.chips ∧
    (s.setStages v).meshTbl = s.meshTbl ∧
    (s.setStages v).rings = s.rings ∧
    (s.setStages v).lanes = s.lanes ∧
    (s.setStages v).dirs = s.dirs ∧
    (s.setStages v).mons = s.mons ∧
    (s.setStages v).halves = s.halves ∧
    (s.setStages v).exts = s.exts ∧
    (s.setStages v).feedFwd = s.feedFwd ∧
    (s.setStages v).splitAt = s.splitAt ∧
    (s.setStages v).returnAt = s.returnAt ∧
    (s.setStages v).store = s.store ∧
    (s.setStages v).writes = s.writes ∧
    (s.setStages v).quads = s.quads ∧
    (s.setStages v).homework = s.homework ∧
    (s.setStages v).firstForm = s.firstForm ∧
    (s.setStages v).readbackAt = s.readbackAt ∧
    (s.setStages v).loadWait = s.loadWait ∧
    (s.setStages v).feedMove = s.feedMove ∧
    (s.setStages v).bridgeBuild = s.bridgeBuild ∧
    (s.setStages v).clk = s.clk ∧
    (s.setStages v).pwr = s.pwr ∧
    (s.setStages v).sensors = s.sensors ∧
    (s.setStages v).nvArr = s.nvArr ∧
    (s.setStages v).nvShadow = s.nvShadow ∧
    (s.setStages v).nvRun = s.nvRun ∧
    (s.setStages v).boot = s.boot ∧
    (s.setStages v).fw = s.fw ∧
    (s.setStages v).sup = s.sup :=
  ⟨rfl, rfl, rfl, rfl, rfl, rfl, rfl, rfl, rfl, rfl, rfl, rfl, rfl, rfl, rfl, rfl, rfl, rfl, rfl, rfl, rfl, rfl, rfl, rfl, rfl, rfl, rfl, rfl, rfl, rfl, rfl, rfl, rfl, rfl, rfl, rfl, rfl, rfl, rfl, rfl, rfl, rfl, rfl, rfl, rfl, rfl, rfl, rfl, rfl, rfl, rfl, rfl, rfl, rfl, rfl, rfl, rfl, rfl, rfl, rfl, rfl, rfl, rfl, rfl, rfl, rfl, rfl, rfl, rfl, rfl, rfl, rfl, rfl, rfl, rfl, rfl⟩

/-- Replacing `quads` replaces it and leaves every other field. -/
@[simp] theorem State.setQuads_frame (s : State) (v : Sparse QuadCal) :
    (s.setQuads v).quads = v ∧
    (s.setQuads v).now = s.now ∧
    (s.setQuads v).freeIx = s.freeIx ∧
    (s.setQuads v).pending = s.pending ∧
    (s.setQuads v).regs = s.regs ∧
    (s.setQuads v).inForce = s.inForce ∧
    (s.setQuads v).wb = s.wb ∧
    (s.setQuads v).shadow = s.shadow ∧
    (s.setQuads v).bus = s.bus ∧
    (s.setQuads v).mbxOrder = s.mbxOrder ∧
    (s.setQuads v).staging = s.staging ∧
    (s.setQuads v).jobs = s.jobs ∧
    (s.setQuads v).binds = s.binds ∧
    (s.setQuads v).batches = s.batches ∧
    (s.setQuads v).tagsHeld = s.tagsHeld ∧
    (s.setQuads v).tagAt = s.tagAt ∧
    (s.setQuads v).arrived = s.arrived ∧
    (s.setQuads v).outs = s.outs ∧
    (s.setQuads v).recQ = s.recQ ∧
    (s.setQuads v).recSeq = s.recSeq ∧
    (s.setQuads v).tx = s.tx ∧
    (s.setQuads v).chans = s.chans ∧
    (s.setQuads v).ingest = s.ingest ∧
    (s.setQuads v).drops = s.drops ∧
    (s.setQuads v).misses = s.misses ∧
    (s.setQuads v).arms = s.arms ∧
    (s.setQuads v).bulk = s.bulk ∧
    (s.setQuads v).rxAt = s.rxAt ∧
    (s.setQuads v).fabric = s.fabric ∧
    (s.setQuads v).grantRr = s.grantRr ∧
    (s.setQuads v).slots = s.slots ∧
    (s.setQuads v).ptes = s.ptes ∧
    (s.setQuads v).xlates = s.xlates ∧
    (s.setQuads v).time = s.time ∧
    (s.setQuads v).halt = s.halt ∧
    (s.setQuads v).sram = s.sram ∧
    (s.setQuads v).pageUe = s.pageUe ∧
    (s.setQuads v).unitUe = s.unitUe ∧
    (s.setQuads v).retired = s.retired ∧
    (s.setQuads v).cluOut = s.cluOut ∧
    (s.setQuads v).plant = s.plant ∧
    (s.setQuads v).tiles = s.tiles ∧
    (s.setQuads v).cells = s.cells ∧
    (s.setQuads v).occ = s.occ ∧
    (s.setQuads v).tcal = s.tcal ∧
    (s.setQuads v).recur = s.recur ∧
    (s.setQuads v).stDone = s.stDone ∧
    (s.setQuads v).chips = s.chips ∧
    (s.setQuads v).meshTbl = s.meshTbl ∧
    (s.setQuads v).rings = s.rings ∧
    (s.setQuads v).lanes = s.lanes ∧
    (s.setQuads v).dirs = s.dirs ∧
    (s.setQuads v).mons = s.mons ∧
    (s.setQuads v).halves = s.halves ∧
    (s.setQuads v).exts = s.exts ∧
    (s.setQuads v).feedFwd = s.feedFwd ∧
    (s.setQuads v).splitAt = s.splitAt ∧
    (s.setQuads v).returnAt = s.returnAt ∧
    (s.setQuads v).store = s.store ∧
    (s.setQuads v).writes = s.writes ∧
    (s.setQuads v).stages = s.stages ∧
    (s.setQuads v).homework = s.homework ∧
    (s.setQuads v).firstForm = s.firstForm ∧
    (s.setQuads v).readbackAt = s.readbackAt ∧
    (s.setQuads v).loadWait = s.loadWait ∧
    (s.setQuads v).feedMove = s.feedMove ∧
    (s.setQuads v).bridgeBuild = s.bridgeBuild ∧
    (s.setQuads v).clk = s.clk ∧
    (s.setQuads v).pwr = s.pwr ∧
    (s.setQuads v).sensors = s.sensors ∧
    (s.setQuads v).nvArr = s.nvArr ∧
    (s.setQuads v).nvShadow = s.nvShadow ∧
    (s.setQuads v).nvRun = s.nvRun ∧
    (s.setQuads v).boot = s.boot ∧
    (s.setQuads v).fw = s.fw ∧
    (s.setQuads v).sup = s.sup :=
  ⟨rfl, rfl, rfl, rfl, rfl, rfl, rfl, rfl, rfl, rfl, rfl, rfl, rfl, rfl, rfl, rfl, rfl, rfl, rfl, rfl, rfl, rfl, rfl, rfl, rfl, rfl, rfl, rfl, rfl, rfl, rfl, rfl, rfl, rfl, rfl, rfl, rfl, rfl, rfl, rfl, rfl, rfl, rfl, rfl, rfl, rfl, rfl, rfl, rfl, rfl, rfl, rfl, rfl, rfl, rfl, rfl, rfl, rfl, rfl, rfl, rfl, rfl, rfl, rfl, rfl, rfl, rfl, rfl, rfl, rfl, rfl, rfl, rfl, rfl, rfl, rfl⟩

/-- Replacing `homework` replaces it and leaves every other field. -/
@[simp] theorem State.setHomework_frame (s : State) (v : List Homework) :
    (s.setHomework v).homework = v ∧
    (s.setHomework v).now = s.now ∧
    (s.setHomework v).freeIx = s.freeIx ∧
    (s.setHomework v).pending = s.pending ∧
    (s.setHomework v).regs = s.regs ∧
    (s.setHomework v).inForce = s.inForce ∧
    (s.setHomework v).wb = s.wb ∧
    (s.setHomework v).shadow = s.shadow ∧
    (s.setHomework v).bus = s.bus ∧
    (s.setHomework v).mbxOrder = s.mbxOrder ∧
    (s.setHomework v).staging = s.staging ∧
    (s.setHomework v).jobs = s.jobs ∧
    (s.setHomework v).binds = s.binds ∧
    (s.setHomework v).batches = s.batches ∧
    (s.setHomework v).tagsHeld = s.tagsHeld ∧
    (s.setHomework v).tagAt = s.tagAt ∧
    (s.setHomework v).arrived = s.arrived ∧
    (s.setHomework v).outs = s.outs ∧
    (s.setHomework v).recQ = s.recQ ∧
    (s.setHomework v).recSeq = s.recSeq ∧
    (s.setHomework v).tx = s.tx ∧
    (s.setHomework v).chans = s.chans ∧
    (s.setHomework v).ingest = s.ingest ∧
    (s.setHomework v).drops = s.drops ∧
    (s.setHomework v).misses = s.misses ∧
    (s.setHomework v).arms = s.arms ∧
    (s.setHomework v).bulk = s.bulk ∧
    (s.setHomework v).rxAt = s.rxAt ∧
    (s.setHomework v).fabric = s.fabric ∧
    (s.setHomework v).grantRr = s.grantRr ∧
    (s.setHomework v).slots = s.slots ∧
    (s.setHomework v).ptes = s.ptes ∧
    (s.setHomework v).xlates = s.xlates ∧
    (s.setHomework v).time = s.time ∧
    (s.setHomework v).halt = s.halt ∧
    (s.setHomework v).sram = s.sram ∧
    (s.setHomework v).pageUe = s.pageUe ∧
    (s.setHomework v).unitUe = s.unitUe ∧
    (s.setHomework v).retired = s.retired ∧
    (s.setHomework v).cluOut = s.cluOut ∧
    (s.setHomework v).plant = s.plant ∧
    (s.setHomework v).tiles = s.tiles ∧
    (s.setHomework v).cells = s.cells ∧
    (s.setHomework v).occ = s.occ ∧
    (s.setHomework v).tcal = s.tcal ∧
    (s.setHomework v).recur = s.recur ∧
    (s.setHomework v).stDone = s.stDone ∧
    (s.setHomework v).chips = s.chips ∧
    (s.setHomework v).meshTbl = s.meshTbl ∧
    (s.setHomework v).rings = s.rings ∧
    (s.setHomework v).lanes = s.lanes ∧
    (s.setHomework v).dirs = s.dirs ∧
    (s.setHomework v).mons = s.mons ∧
    (s.setHomework v).halves = s.halves ∧
    (s.setHomework v).exts = s.exts ∧
    (s.setHomework v).feedFwd = s.feedFwd ∧
    (s.setHomework v).splitAt = s.splitAt ∧
    (s.setHomework v).returnAt = s.returnAt ∧
    (s.setHomework v).store = s.store ∧
    (s.setHomework v).writes = s.writes ∧
    (s.setHomework v).stages = s.stages ∧
    (s.setHomework v).quads = s.quads ∧
    (s.setHomework v).firstForm = s.firstForm ∧
    (s.setHomework v).readbackAt = s.readbackAt ∧
    (s.setHomework v).loadWait = s.loadWait ∧
    (s.setHomework v).feedMove = s.feedMove ∧
    (s.setHomework v).bridgeBuild = s.bridgeBuild ∧
    (s.setHomework v).clk = s.clk ∧
    (s.setHomework v).pwr = s.pwr ∧
    (s.setHomework v).sensors = s.sensors ∧
    (s.setHomework v).nvArr = s.nvArr ∧
    (s.setHomework v).nvShadow = s.nvShadow ∧
    (s.setHomework v).nvRun = s.nvRun ∧
    (s.setHomework v).boot = s.boot ∧
    (s.setHomework v).fw = s.fw ∧
    (s.setHomework v).sup = s.sup :=
  ⟨rfl, rfl, rfl, rfl, rfl, rfl, rfl, rfl, rfl, rfl, rfl, rfl, rfl, rfl, rfl, rfl, rfl, rfl, rfl, rfl, rfl, rfl, rfl, rfl, rfl, rfl, rfl, rfl, rfl, rfl, rfl, rfl, rfl, rfl, rfl, rfl, rfl, rfl, rfl, rfl, rfl, rfl, rfl, rfl, rfl, rfl, rfl, rfl, rfl, rfl, rfl, rfl, rfl, rfl, rfl, rfl, rfl, rfl, rfl, rfl, rfl, rfl, rfl, rfl, rfl, rfl, rfl, rfl, rfl, rfl, rfl, rfl, rfl, rfl, rfl, rfl⟩

/-- Replacing `firstForm` replaces it and leaves every other field. -/
@[simp] theorem State.setFirstForm_frame (s : State) (v : Nat) :
    (s.setFirstForm v).firstForm = v ∧
    (s.setFirstForm v).now = s.now ∧
    (s.setFirstForm v).freeIx = s.freeIx ∧
    (s.setFirstForm v).pending = s.pending ∧
    (s.setFirstForm v).regs = s.regs ∧
    (s.setFirstForm v).inForce = s.inForce ∧
    (s.setFirstForm v).wb = s.wb ∧
    (s.setFirstForm v).shadow = s.shadow ∧
    (s.setFirstForm v).bus = s.bus ∧
    (s.setFirstForm v).mbxOrder = s.mbxOrder ∧
    (s.setFirstForm v).staging = s.staging ∧
    (s.setFirstForm v).jobs = s.jobs ∧
    (s.setFirstForm v).binds = s.binds ∧
    (s.setFirstForm v).batches = s.batches ∧
    (s.setFirstForm v).tagsHeld = s.tagsHeld ∧
    (s.setFirstForm v).tagAt = s.tagAt ∧
    (s.setFirstForm v).arrived = s.arrived ∧
    (s.setFirstForm v).outs = s.outs ∧
    (s.setFirstForm v).recQ = s.recQ ∧
    (s.setFirstForm v).recSeq = s.recSeq ∧
    (s.setFirstForm v).tx = s.tx ∧
    (s.setFirstForm v).chans = s.chans ∧
    (s.setFirstForm v).ingest = s.ingest ∧
    (s.setFirstForm v).drops = s.drops ∧
    (s.setFirstForm v).misses = s.misses ∧
    (s.setFirstForm v).arms = s.arms ∧
    (s.setFirstForm v).bulk = s.bulk ∧
    (s.setFirstForm v).rxAt = s.rxAt ∧
    (s.setFirstForm v).fabric = s.fabric ∧
    (s.setFirstForm v).grantRr = s.grantRr ∧
    (s.setFirstForm v).slots = s.slots ∧
    (s.setFirstForm v).ptes = s.ptes ∧
    (s.setFirstForm v).xlates = s.xlates ∧
    (s.setFirstForm v).time = s.time ∧
    (s.setFirstForm v).halt = s.halt ∧
    (s.setFirstForm v).sram = s.sram ∧
    (s.setFirstForm v).pageUe = s.pageUe ∧
    (s.setFirstForm v).unitUe = s.unitUe ∧
    (s.setFirstForm v).retired = s.retired ∧
    (s.setFirstForm v).cluOut = s.cluOut ∧
    (s.setFirstForm v).plant = s.plant ∧
    (s.setFirstForm v).tiles = s.tiles ∧
    (s.setFirstForm v).cells = s.cells ∧
    (s.setFirstForm v).occ = s.occ ∧
    (s.setFirstForm v).tcal = s.tcal ∧
    (s.setFirstForm v).recur = s.recur ∧
    (s.setFirstForm v).stDone = s.stDone ∧
    (s.setFirstForm v).chips = s.chips ∧
    (s.setFirstForm v).meshTbl = s.meshTbl ∧
    (s.setFirstForm v).rings = s.rings ∧
    (s.setFirstForm v).lanes = s.lanes ∧
    (s.setFirstForm v).dirs = s.dirs ∧
    (s.setFirstForm v).mons = s.mons ∧
    (s.setFirstForm v).halves = s.halves ∧
    (s.setFirstForm v).exts = s.exts ∧
    (s.setFirstForm v).feedFwd = s.feedFwd ∧
    (s.setFirstForm v).splitAt = s.splitAt ∧
    (s.setFirstForm v).returnAt = s.returnAt ∧
    (s.setFirstForm v).store = s.store ∧
    (s.setFirstForm v).writes = s.writes ∧
    (s.setFirstForm v).stages = s.stages ∧
    (s.setFirstForm v).quads = s.quads ∧
    (s.setFirstForm v).homework = s.homework ∧
    (s.setFirstForm v).readbackAt = s.readbackAt ∧
    (s.setFirstForm v).loadWait = s.loadWait ∧
    (s.setFirstForm v).feedMove = s.feedMove ∧
    (s.setFirstForm v).bridgeBuild = s.bridgeBuild ∧
    (s.setFirstForm v).clk = s.clk ∧
    (s.setFirstForm v).pwr = s.pwr ∧
    (s.setFirstForm v).sensors = s.sensors ∧
    (s.setFirstForm v).nvArr = s.nvArr ∧
    (s.setFirstForm v).nvShadow = s.nvShadow ∧
    (s.setFirstForm v).nvRun = s.nvRun ∧
    (s.setFirstForm v).boot = s.boot ∧
    (s.setFirstForm v).fw = s.fw ∧
    (s.setFirstForm v).sup = s.sup :=
  ⟨rfl, rfl, rfl, rfl, rfl, rfl, rfl, rfl, rfl, rfl, rfl, rfl, rfl, rfl, rfl, rfl, rfl, rfl, rfl, rfl, rfl, rfl, rfl, rfl, rfl, rfl, rfl, rfl, rfl, rfl, rfl, rfl, rfl, rfl, rfl, rfl, rfl, rfl, rfl, rfl, rfl, rfl, rfl, rfl, rfl, rfl, rfl, rfl, rfl, rfl, rfl, rfl, rfl, rfl, rfl, rfl, rfl, rfl, rfl, rfl, rfl, rfl, rfl, rfl, rfl, rfl, rfl, rfl, rfl, rfl, rfl, rfl, rfl, rfl, rfl, rfl⟩

/-- Replacing `readbackAt` replaces it and leaves every other field. -/
@[simp] theorem State.setReadbackAt_frame (s : State) (v : Nat) :
    (s.setReadbackAt v).readbackAt = v ∧
    (s.setReadbackAt v).now = s.now ∧
    (s.setReadbackAt v).freeIx = s.freeIx ∧
    (s.setReadbackAt v).pending = s.pending ∧
    (s.setReadbackAt v).regs = s.regs ∧
    (s.setReadbackAt v).inForce = s.inForce ∧
    (s.setReadbackAt v).wb = s.wb ∧
    (s.setReadbackAt v).shadow = s.shadow ∧
    (s.setReadbackAt v).bus = s.bus ∧
    (s.setReadbackAt v).mbxOrder = s.mbxOrder ∧
    (s.setReadbackAt v).staging = s.staging ∧
    (s.setReadbackAt v).jobs = s.jobs ∧
    (s.setReadbackAt v).binds = s.binds ∧
    (s.setReadbackAt v).batches = s.batches ∧
    (s.setReadbackAt v).tagsHeld = s.tagsHeld ∧
    (s.setReadbackAt v).tagAt = s.tagAt ∧
    (s.setReadbackAt v).arrived = s.arrived ∧
    (s.setReadbackAt v).outs = s.outs ∧
    (s.setReadbackAt v).recQ = s.recQ ∧
    (s.setReadbackAt v).recSeq = s.recSeq ∧
    (s.setReadbackAt v).tx = s.tx ∧
    (s.setReadbackAt v).chans = s.chans ∧
    (s.setReadbackAt v).ingest = s.ingest ∧
    (s.setReadbackAt v).drops = s.drops ∧
    (s.setReadbackAt v).misses = s.misses ∧
    (s.setReadbackAt v).arms = s.arms ∧
    (s.setReadbackAt v).bulk = s.bulk ∧
    (s.setReadbackAt v).rxAt = s.rxAt ∧
    (s.setReadbackAt v).fabric = s.fabric ∧
    (s.setReadbackAt v).grantRr = s.grantRr ∧
    (s.setReadbackAt v).slots = s.slots ∧
    (s.setReadbackAt v).ptes = s.ptes ∧
    (s.setReadbackAt v).xlates = s.xlates ∧
    (s.setReadbackAt v).time = s.time ∧
    (s.setReadbackAt v).halt = s.halt ∧
    (s.setReadbackAt v).sram = s.sram ∧
    (s.setReadbackAt v).pageUe = s.pageUe ∧
    (s.setReadbackAt v).unitUe = s.unitUe ∧
    (s.setReadbackAt v).retired = s.retired ∧
    (s.setReadbackAt v).cluOut = s.cluOut ∧
    (s.setReadbackAt v).plant = s.plant ∧
    (s.setReadbackAt v).tiles = s.tiles ∧
    (s.setReadbackAt v).cells = s.cells ∧
    (s.setReadbackAt v).occ = s.occ ∧
    (s.setReadbackAt v).tcal = s.tcal ∧
    (s.setReadbackAt v).recur = s.recur ∧
    (s.setReadbackAt v).stDone = s.stDone ∧
    (s.setReadbackAt v).chips = s.chips ∧
    (s.setReadbackAt v).meshTbl = s.meshTbl ∧
    (s.setReadbackAt v).rings = s.rings ∧
    (s.setReadbackAt v).lanes = s.lanes ∧
    (s.setReadbackAt v).dirs = s.dirs ∧
    (s.setReadbackAt v).mons = s.mons ∧
    (s.setReadbackAt v).halves = s.halves ∧
    (s.setReadbackAt v).exts = s.exts ∧
    (s.setReadbackAt v).feedFwd = s.feedFwd ∧
    (s.setReadbackAt v).splitAt = s.splitAt ∧
    (s.setReadbackAt v).returnAt = s.returnAt ∧
    (s.setReadbackAt v).store = s.store ∧
    (s.setReadbackAt v).writes = s.writes ∧
    (s.setReadbackAt v).stages = s.stages ∧
    (s.setReadbackAt v).quads = s.quads ∧
    (s.setReadbackAt v).homework = s.homework ∧
    (s.setReadbackAt v).firstForm = s.firstForm ∧
    (s.setReadbackAt v).loadWait = s.loadWait ∧
    (s.setReadbackAt v).feedMove = s.feedMove ∧
    (s.setReadbackAt v).bridgeBuild = s.bridgeBuild ∧
    (s.setReadbackAt v).clk = s.clk ∧
    (s.setReadbackAt v).pwr = s.pwr ∧
    (s.setReadbackAt v).sensors = s.sensors ∧
    (s.setReadbackAt v).nvArr = s.nvArr ∧
    (s.setReadbackAt v).nvShadow = s.nvShadow ∧
    (s.setReadbackAt v).nvRun = s.nvRun ∧
    (s.setReadbackAt v).boot = s.boot ∧
    (s.setReadbackAt v).fw = s.fw ∧
    (s.setReadbackAt v).sup = s.sup :=
  ⟨rfl, rfl, rfl, rfl, rfl, rfl, rfl, rfl, rfl, rfl, rfl, rfl, rfl, rfl, rfl, rfl, rfl, rfl, rfl, rfl, rfl, rfl, rfl, rfl, rfl, rfl, rfl, rfl, rfl, rfl, rfl, rfl, rfl, rfl, rfl, rfl, rfl, rfl, rfl, rfl, rfl, rfl, rfl, rfl, rfl, rfl, rfl, rfl, rfl, rfl, rfl, rfl, rfl, rfl, rfl, rfl, rfl, rfl, rfl, rfl, rfl, rfl, rfl, rfl, rfl, rfl, rfl, rfl, rfl, rfl, rfl, rfl, rfl, rfl, rfl, rfl⟩

/-- Replacing `loadWait` replaces it and leaves every other field. -/
@[simp] theorem State.setLoadWait_frame (s : State) (v : Option (Nat × Section)) :
    (s.setLoadWait v).loadWait = v ∧
    (s.setLoadWait v).now = s.now ∧
    (s.setLoadWait v).freeIx = s.freeIx ∧
    (s.setLoadWait v).pending = s.pending ∧
    (s.setLoadWait v).regs = s.regs ∧
    (s.setLoadWait v).inForce = s.inForce ∧
    (s.setLoadWait v).wb = s.wb ∧
    (s.setLoadWait v).shadow = s.shadow ∧
    (s.setLoadWait v).bus = s.bus ∧
    (s.setLoadWait v).mbxOrder = s.mbxOrder ∧
    (s.setLoadWait v).staging = s.staging ∧
    (s.setLoadWait v).jobs = s.jobs ∧
    (s.setLoadWait v).binds = s.binds ∧
    (s.setLoadWait v).batches = s.batches ∧
    (s.setLoadWait v).tagsHeld = s.tagsHeld ∧
    (s.setLoadWait v).tagAt = s.tagAt ∧
    (s.setLoadWait v).arrived = s.arrived ∧
    (s.setLoadWait v).outs = s.outs ∧
    (s.setLoadWait v).recQ = s.recQ ∧
    (s.setLoadWait v).recSeq = s.recSeq ∧
    (s.setLoadWait v).tx = s.tx ∧
    (s.setLoadWait v).chans = s.chans ∧
    (s.setLoadWait v).ingest = s.ingest ∧
    (s.setLoadWait v).drops = s.drops ∧
    (s.setLoadWait v).misses = s.misses ∧
    (s.setLoadWait v).arms = s.arms ∧
    (s.setLoadWait v).bulk = s.bulk ∧
    (s.setLoadWait v).rxAt = s.rxAt ∧
    (s.setLoadWait v).fabric = s.fabric ∧
    (s.setLoadWait v).grantRr = s.grantRr ∧
    (s.setLoadWait v).slots = s.slots ∧
    (s.setLoadWait v).ptes = s.ptes ∧
    (s.setLoadWait v).xlates = s.xlates ∧
    (s.setLoadWait v).time = s.time ∧
    (s.setLoadWait v).halt = s.halt ∧
    (s.setLoadWait v).sram = s.sram ∧
    (s.setLoadWait v).pageUe = s.pageUe ∧
    (s.setLoadWait v).unitUe = s.unitUe ∧
    (s.setLoadWait v).retired = s.retired ∧
    (s.setLoadWait v).cluOut = s.cluOut ∧
    (s.setLoadWait v).plant = s.plant ∧
    (s.setLoadWait v).tiles = s.tiles ∧
    (s.setLoadWait v).cells = s.cells ∧
    (s.setLoadWait v).occ = s.occ ∧
    (s.setLoadWait v).tcal = s.tcal ∧
    (s.setLoadWait v).recur = s.recur ∧
    (s.setLoadWait v).stDone = s.stDone ∧
    (s.setLoadWait v).chips = s.chips ∧
    (s.setLoadWait v).meshTbl = s.meshTbl ∧
    (s.setLoadWait v).rings = s.rings ∧
    (s.setLoadWait v).lanes = s.lanes ∧
    (s.setLoadWait v).dirs = s.dirs ∧
    (s.setLoadWait v).mons = s.mons ∧
    (s.setLoadWait v).halves = s.halves ∧
    (s.setLoadWait v).exts = s.exts ∧
    (s.setLoadWait v).feedFwd = s.feedFwd ∧
    (s.setLoadWait v).splitAt = s.splitAt ∧
    (s.setLoadWait v).returnAt = s.returnAt ∧
    (s.setLoadWait v).store = s.store ∧
    (s.setLoadWait v).writes = s.writes ∧
    (s.setLoadWait v).stages = s.stages ∧
    (s.setLoadWait v).quads = s.quads ∧
    (s.setLoadWait v).homework = s.homework ∧
    (s.setLoadWait v).firstForm = s.firstForm ∧
    (s.setLoadWait v).readbackAt = s.readbackAt ∧
    (s.setLoadWait v).feedMove = s.feedMove ∧
    (s.setLoadWait v).bridgeBuild = s.bridgeBuild ∧
    (s.setLoadWait v).clk = s.clk ∧
    (s.setLoadWait v).pwr = s.pwr ∧
    (s.setLoadWait v).sensors = s.sensors ∧
    (s.setLoadWait v).nvArr = s.nvArr ∧
    (s.setLoadWait v).nvShadow = s.nvShadow ∧
    (s.setLoadWait v).nvRun = s.nvRun ∧
    (s.setLoadWait v).boot = s.boot ∧
    (s.setLoadWait v).fw = s.fw ∧
    (s.setLoadWait v).sup = s.sup :=
  ⟨rfl, rfl, rfl, rfl, rfl, rfl, rfl, rfl, rfl, rfl, rfl, rfl, rfl, rfl, rfl, rfl, rfl, rfl, rfl, rfl, rfl, rfl, rfl, rfl, rfl, rfl, rfl, rfl, rfl, rfl, rfl, rfl, rfl, rfl, rfl, rfl, rfl, rfl, rfl, rfl, rfl, rfl, rfl, rfl, rfl, rfl, rfl, rfl, rfl, rfl, rfl, rfl, rfl, rfl, rfl, rfl, rfl, rfl, rfl, rfl, rfl, rfl, rfl, rfl, rfl, rfl, rfl, rfl, rfl, rfl, rfl, rfl, rfl, rfl, rfl, rfl⟩

/-- Replacing `feedMove` replaces it and leaves every other field. -/
@[simp] theorem State.setFeedMove_frame (s : State) (v : Option (Nat × Nat)) :
    (s.setFeedMove v).feedMove = v ∧
    (s.setFeedMove v).now = s.now ∧
    (s.setFeedMove v).freeIx = s.freeIx ∧
    (s.setFeedMove v).pending = s.pending ∧
    (s.setFeedMove v).regs = s.regs ∧
    (s.setFeedMove v).inForce = s.inForce ∧
    (s.setFeedMove v).wb = s.wb ∧
    (s.setFeedMove v).shadow = s.shadow ∧
    (s.setFeedMove v).bus = s.bus ∧
    (s.setFeedMove v).mbxOrder = s.mbxOrder ∧
    (s.setFeedMove v).staging = s.staging ∧
    (s.setFeedMove v).jobs = s.jobs ∧
    (s.setFeedMove v).binds = s.binds ∧
    (s.setFeedMove v).batches = s.batches ∧
    (s.setFeedMove v).tagsHeld = s.tagsHeld ∧
    (s.setFeedMove v).tagAt = s.tagAt ∧
    (s.setFeedMove v).arrived = s.arrived ∧
    (s.setFeedMove v).outs = s.outs ∧
    (s.setFeedMove v).recQ = s.recQ ∧
    (s.setFeedMove v).recSeq = s.recSeq ∧
    (s.setFeedMove v).tx = s.tx ∧
    (s.setFeedMove v).chans = s.chans ∧
    (s.setFeedMove v).ingest = s.ingest ∧
    (s.setFeedMove v).drops = s.drops ∧
    (s.setFeedMove v).misses = s.misses ∧
    (s.setFeedMove v).arms = s.arms ∧
    (s.setFeedMove v).bulk = s.bulk ∧
    (s.setFeedMove v).rxAt = s.rxAt ∧
    (s.setFeedMove v).fabric = s.fabric ∧
    (s.setFeedMove v).grantRr = s.grantRr ∧
    (s.setFeedMove v).slots = s.slots ∧
    (s.setFeedMove v).ptes = s.ptes ∧
    (s.setFeedMove v).xlates = s.xlates ∧
    (s.setFeedMove v).time = s.time ∧
    (s.setFeedMove v).halt = s.halt ∧
    (s.setFeedMove v).sram = s.sram ∧
    (s.setFeedMove v).pageUe = s.pageUe ∧
    (s.setFeedMove v).unitUe = s.unitUe ∧
    (s.setFeedMove v).retired = s.retired ∧
    (s.setFeedMove v).cluOut = s.cluOut ∧
    (s.setFeedMove v).plant = s.plant ∧
    (s.setFeedMove v).tiles = s.tiles ∧
    (s.setFeedMove v).cells = s.cells ∧
    (s.setFeedMove v).occ = s.occ ∧
    (s.setFeedMove v).tcal = s.tcal ∧
    (s.setFeedMove v).recur = s.recur ∧
    (s.setFeedMove v).stDone = s.stDone ∧
    (s.setFeedMove v).chips = s.chips ∧
    (s.setFeedMove v).meshTbl = s.meshTbl ∧
    (s.setFeedMove v).rings = s.rings ∧
    (s.setFeedMove v).lanes = s.lanes ∧
    (s.setFeedMove v).dirs = s.dirs ∧
    (s.setFeedMove v).mons = s.mons ∧
    (s.setFeedMove v).halves = s.halves ∧
    (s.setFeedMove v).exts = s.exts ∧
    (s.setFeedMove v).feedFwd = s.feedFwd ∧
    (s.setFeedMove v).splitAt = s.splitAt ∧
    (s.setFeedMove v).returnAt = s.returnAt ∧
    (s.setFeedMove v).store = s.store ∧
    (s.setFeedMove v).writes = s.writes ∧
    (s.setFeedMove v).stages = s.stages ∧
    (s.setFeedMove v).quads = s.quads ∧
    (s.setFeedMove v).homework = s.homework ∧
    (s.setFeedMove v).firstForm = s.firstForm ∧
    (s.setFeedMove v).readbackAt = s.readbackAt ∧
    (s.setFeedMove v).loadWait = s.loadWait ∧
    (s.setFeedMove v).bridgeBuild = s.bridgeBuild ∧
    (s.setFeedMove v).clk = s.clk ∧
    (s.setFeedMove v).pwr = s.pwr ∧
    (s.setFeedMove v).sensors = s.sensors ∧
    (s.setFeedMove v).nvArr = s.nvArr ∧
    (s.setFeedMove v).nvShadow = s.nvShadow ∧
    (s.setFeedMove v).nvRun = s.nvRun ∧
    (s.setFeedMove v).boot = s.boot ∧
    (s.setFeedMove v).fw = s.fw ∧
    (s.setFeedMove v).sup = s.sup :=
  ⟨rfl, rfl, rfl, rfl, rfl, rfl, rfl, rfl, rfl, rfl, rfl, rfl, rfl, rfl, rfl, rfl, rfl, rfl, rfl, rfl, rfl, rfl, rfl, rfl, rfl, rfl, rfl, rfl, rfl, rfl, rfl, rfl, rfl, rfl, rfl, rfl, rfl, rfl, rfl, rfl, rfl, rfl, rfl, rfl, rfl, rfl, rfl, rfl, rfl, rfl, rfl, rfl, rfl, rfl, rfl, rfl, rfl, rfl, rfl, rfl, rfl, rfl, rfl, rfl, rfl, rfl, rfl, rfl, rfl, rfl, rfl, rfl, rfl, rfl, rfl, rfl⟩

/-- Replacing `bridgeBuild` replaces it and leaves every other field. -/
@[simp] theorem State.setBridgeBuild_frame (s : State) (v : Sparse (Option Nat)) :
    (s.setBridgeBuild v).bridgeBuild = v ∧
    (s.setBridgeBuild v).now = s.now ∧
    (s.setBridgeBuild v).freeIx = s.freeIx ∧
    (s.setBridgeBuild v).pending = s.pending ∧
    (s.setBridgeBuild v).regs = s.regs ∧
    (s.setBridgeBuild v).inForce = s.inForce ∧
    (s.setBridgeBuild v).wb = s.wb ∧
    (s.setBridgeBuild v).shadow = s.shadow ∧
    (s.setBridgeBuild v).bus = s.bus ∧
    (s.setBridgeBuild v).mbxOrder = s.mbxOrder ∧
    (s.setBridgeBuild v).staging = s.staging ∧
    (s.setBridgeBuild v).jobs = s.jobs ∧
    (s.setBridgeBuild v).binds = s.binds ∧
    (s.setBridgeBuild v).batches = s.batches ∧
    (s.setBridgeBuild v).tagsHeld = s.tagsHeld ∧
    (s.setBridgeBuild v).tagAt = s.tagAt ∧
    (s.setBridgeBuild v).arrived = s.arrived ∧
    (s.setBridgeBuild v).outs = s.outs ∧
    (s.setBridgeBuild v).recQ = s.recQ ∧
    (s.setBridgeBuild v).recSeq = s.recSeq ∧
    (s.setBridgeBuild v).tx = s.tx ∧
    (s.setBridgeBuild v).chans = s.chans ∧
    (s.setBridgeBuild v).ingest = s.ingest ∧
    (s.setBridgeBuild v).drops = s.drops ∧
    (s.setBridgeBuild v).misses = s.misses ∧
    (s.setBridgeBuild v).arms = s.arms ∧
    (s.setBridgeBuild v).bulk = s.bulk ∧
    (s.setBridgeBuild v).rxAt = s.rxAt ∧
    (s.setBridgeBuild v).fabric = s.fabric ∧
    (s.setBridgeBuild v).grantRr = s.grantRr ∧
    (s.setBridgeBuild v).slots = s.slots ∧
    (s.setBridgeBuild v).ptes = s.ptes ∧
    (s.setBridgeBuild v).xlates = s.xlates ∧
    (s.setBridgeBuild v).time = s.time ∧
    (s.setBridgeBuild v).halt = s.halt ∧
    (s.setBridgeBuild v).sram = s.sram ∧
    (s.setBridgeBuild v).pageUe = s.pageUe ∧
    (s.setBridgeBuild v).unitUe = s.unitUe ∧
    (s.setBridgeBuild v).retired = s.retired ∧
    (s.setBridgeBuild v).cluOut = s.cluOut ∧
    (s.setBridgeBuild v).plant = s.plant ∧
    (s.setBridgeBuild v).tiles = s.tiles ∧
    (s.setBridgeBuild v).cells = s.cells ∧
    (s.setBridgeBuild v).occ = s.occ ∧
    (s.setBridgeBuild v).tcal = s.tcal ∧
    (s.setBridgeBuild v).recur = s.recur ∧
    (s.setBridgeBuild v).stDone = s.stDone ∧
    (s.setBridgeBuild v).chips = s.chips ∧
    (s.setBridgeBuild v).meshTbl = s.meshTbl ∧
    (s.setBridgeBuild v).rings = s.rings ∧
    (s.setBridgeBuild v).lanes = s.lanes ∧
    (s.setBridgeBuild v).dirs = s.dirs ∧
    (s.setBridgeBuild v).mons = s.mons ∧
    (s.setBridgeBuild v).halves = s.halves ∧
    (s.setBridgeBuild v).exts = s.exts ∧
    (s.setBridgeBuild v).feedFwd = s.feedFwd ∧
    (s.setBridgeBuild v).splitAt = s.splitAt ∧
    (s.setBridgeBuild v).returnAt = s.returnAt ∧
    (s.setBridgeBuild v).store = s.store ∧
    (s.setBridgeBuild v).writes = s.writes ∧
    (s.setBridgeBuild v).stages = s.stages ∧
    (s.setBridgeBuild v).quads = s.quads ∧
    (s.setBridgeBuild v).homework = s.homework ∧
    (s.setBridgeBuild v).firstForm = s.firstForm ∧
    (s.setBridgeBuild v).readbackAt = s.readbackAt ∧
    (s.setBridgeBuild v).loadWait = s.loadWait ∧
    (s.setBridgeBuild v).feedMove = s.feedMove ∧
    (s.setBridgeBuild v).clk = s.clk ∧
    (s.setBridgeBuild v).pwr = s.pwr ∧
    (s.setBridgeBuild v).sensors = s.sensors ∧
    (s.setBridgeBuild v).nvArr = s.nvArr ∧
    (s.setBridgeBuild v).nvShadow = s.nvShadow ∧
    (s.setBridgeBuild v).nvRun = s.nvRun ∧
    (s.setBridgeBuild v).boot = s.boot ∧
    (s.setBridgeBuild v).fw = s.fw ∧
    (s.setBridgeBuild v).sup = s.sup :=
  ⟨rfl, rfl, rfl, rfl, rfl, rfl, rfl, rfl, rfl, rfl, rfl, rfl, rfl, rfl, rfl, rfl, rfl, rfl, rfl, rfl, rfl, rfl, rfl, rfl, rfl, rfl, rfl, rfl, rfl, rfl, rfl, rfl, rfl, rfl, rfl, rfl, rfl, rfl, rfl, rfl, rfl, rfl, rfl, rfl, rfl, rfl, rfl, rfl, rfl, rfl, rfl, rfl, rfl, rfl, rfl, rfl, rfl, rfl, rfl, rfl, rfl, rfl, rfl, rfl, rfl, rfl, rfl, rfl, rfl, rfl, rfl, rfl, rfl, rfl, rfl, rfl⟩

/-- Replacing `clk` replaces it and leaves every other field. -/
@[simp] theorem State.setClk_frame (s : State) (v : Clk) :
    (s.setClk v).clk = v ∧
    (s.setClk v).now = s.now ∧
    (s.setClk v).freeIx = s.freeIx ∧
    (s.setClk v).pending = s.pending ∧
    (s.setClk v).regs = s.regs ∧
    (s.setClk v).inForce = s.inForce ∧
    (s.setClk v).wb = s.wb ∧
    (s.setClk v).shadow = s.shadow ∧
    (s.setClk v).bus = s.bus ∧
    (s.setClk v).mbxOrder = s.mbxOrder ∧
    (s.setClk v).staging = s.staging ∧
    (s.setClk v).jobs = s.jobs ∧
    (s.setClk v).binds = s.binds ∧
    (s.setClk v).batches = s.batches ∧
    (s.setClk v).tagsHeld = s.tagsHeld ∧
    (s.setClk v).tagAt = s.tagAt ∧
    (s.setClk v).arrived = s.arrived ∧
    (s.setClk v).outs = s.outs ∧
    (s.setClk v).recQ = s.recQ ∧
    (s.setClk v).recSeq = s.recSeq ∧
    (s.setClk v).tx = s.tx ∧
    (s.setClk v).chans = s.chans ∧
    (s.setClk v).ingest = s.ingest ∧
    (s.setClk v).drops = s.drops ∧
    (s.setClk v).misses = s.misses ∧
    (s.setClk v).arms = s.arms ∧
    (s.setClk v).bulk = s.bulk ∧
    (s.setClk v).rxAt = s.rxAt ∧
    (s.setClk v).fabric = s.fabric ∧
    (s.setClk v).grantRr = s.grantRr ∧
    (s.setClk v).slots = s.slots ∧
    (s.setClk v).ptes = s.ptes ∧
    (s.setClk v).xlates = s.xlates ∧
    (s.setClk v).time = s.time ∧
    (s.setClk v).halt = s.halt ∧
    (s.setClk v).sram = s.sram ∧
    (s.setClk v).pageUe = s.pageUe ∧
    (s.setClk v).unitUe = s.unitUe ∧
    (s.setClk v).retired = s.retired ∧
    (s.setClk v).cluOut = s.cluOut ∧
    (s.setClk v).plant = s.plant ∧
    (s.setClk v).tiles = s.tiles ∧
    (s.setClk v).cells = s.cells ∧
    (s.setClk v).occ = s.occ ∧
    (s.setClk v).tcal = s.tcal ∧
    (s.setClk v).recur = s.recur ∧
    (s.setClk v).stDone = s.stDone ∧
    (s.setClk v).chips = s.chips ∧
    (s.setClk v).meshTbl = s.meshTbl ∧
    (s.setClk v).rings = s.rings ∧
    (s.setClk v).lanes = s.lanes ∧
    (s.setClk v).dirs = s.dirs ∧
    (s.setClk v).mons = s.mons ∧
    (s.setClk v).halves = s.halves ∧
    (s.setClk v).exts = s.exts ∧
    (s.setClk v).feedFwd = s.feedFwd ∧
    (s.setClk v).splitAt = s.splitAt ∧
    (s.setClk v).returnAt = s.returnAt ∧
    (s.setClk v).store = s.store ∧
    (s.setClk v).writes = s.writes ∧
    (s.setClk v).stages = s.stages ∧
    (s.setClk v).quads = s.quads ∧
    (s.setClk v).homework = s.homework ∧
    (s.setClk v).firstForm = s.firstForm ∧
    (s.setClk v).readbackAt = s.readbackAt ∧
    (s.setClk v).loadWait = s.loadWait ∧
    (s.setClk v).feedMove = s.feedMove ∧
    (s.setClk v).bridgeBuild = s.bridgeBuild ∧
    (s.setClk v).pwr = s.pwr ∧
    (s.setClk v).sensors = s.sensors ∧
    (s.setClk v).nvArr = s.nvArr ∧
    (s.setClk v).nvShadow = s.nvShadow ∧
    (s.setClk v).nvRun = s.nvRun ∧
    (s.setClk v).boot = s.boot ∧
    (s.setClk v).fw = s.fw ∧
    (s.setClk v).sup = s.sup :=
  ⟨rfl, rfl, rfl, rfl, rfl, rfl, rfl, rfl, rfl, rfl, rfl, rfl, rfl, rfl, rfl, rfl, rfl, rfl, rfl, rfl, rfl, rfl, rfl, rfl, rfl, rfl, rfl, rfl, rfl, rfl, rfl, rfl, rfl, rfl, rfl, rfl, rfl, rfl, rfl, rfl, rfl, rfl, rfl, rfl, rfl, rfl, rfl, rfl, rfl, rfl, rfl, rfl, rfl, rfl, rfl, rfl, rfl, rfl, rfl, rfl, rfl, rfl, rfl, rfl, rfl, rfl, rfl, rfl, rfl, rfl, rfl, rfl, rfl, rfl, rfl, rfl⟩

/-- Replacing `pwr` replaces it and leaves every other field. -/
@[simp] theorem State.setPwr_frame (s : State) (v : Pwr) :
    (s.setPwr v).pwr = v ∧
    (s.setPwr v).now = s.now ∧
    (s.setPwr v).freeIx = s.freeIx ∧
    (s.setPwr v).pending = s.pending ∧
    (s.setPwr v).regs = s.regs ∧
    (s.setPwr v).inForce = s.inForce ∧
    (s.setPwr v).wb = s.wb ∧
    (s.setPwr v).shadow = s.shadow ∧
    (s.setPwr v).bus = s.bus ∧
    (s.setPwr v).mbxOrder = s.mbxOrder ∧
    (s.setPwr v).staging = s.staging ∧
    (s.setPwr v).jobs = s.jobs ∧
    (s.setPwr v).binds = s.binds ∧
    (s.setPwr v).batches = s.batches ∧
    (s.setPwr v).tagsHeld = s.tagsHeld ∧
    (s.setPwr v).tagAt = s.tagAt ∧
    (s.setPwr v).arrived = s.arrived ∧
    (s.setPwr v).outs = s.outs ∧
    (s.setPwr v).recQ = s.recQ ∧
    (s.setPwr v).recSeq = s.recSeq ∧
    (s.setPwr v).tx = s.tx ∧
    (s.setPwr v).chans = s.chans ∧
    (s.setPwr v).ingest = s.ingest ∧
    (s.setPwr v).drops = s.drops ∧
    (s.setPwr v).misses = s.misses ∧
    (s.setPwr v).arms = s.arms ∧
    (s.setPwr v).bulk = s.bulk ∧
    (s.setPwr v).rxAt = s.rxAt ∧
    (s.setPwr v).fabric = s.fabric ∧
    (s.setPwr v).grantRr = s.grantRr ∧
    (s.setPwr v).slots = s.slots ∧
    (s.setPwr v).ptes = s.ptes ∧
    (s.setPwr v).xlates = s.xlates ∧
    (s.setPwr v).time = s.time ∧
    (s.setPwr v).halt = s.halt ∧
    (s.setPwr v).sram = s.sram ∧
    (s.setPwr v).pageUe = s.pageUe ∧
    (s.setPwr v).unitUe = s.unitUe ∧
    (s.setPwr v).retired = s.retired ∧
    (s.setPwr v).cluOut = s.cluOut ∧
    (s.setPwr v).plant = s.plant ∧
    (s.setPwr v).tiles = s.tiles ∧
    (s.setPwr v).cells = s.cells ∧
    (s.setPwr v).occ = s.occ ∧
    (s.setPwr v).tcal = s.tcal ∧
    (s.setPwr v).recur = s.recur ∧
    (s.setPwr v).stDone = s.stDone ∧
    (s.setPwr v).chips = s.chips ∧
    (s.setPwr v).meshTbl = s.meshTbl ∧
    (s.setPwr v).rings = s.rings ∧
    (s.setPwr v).lanes = s.lanes ∧
    (s.setPwr v).dirs = s.dirs ∧
    (s.setPwr v).mons = s.mons ∧
    (s.setPwr v).halves = s.halves ∧
    (s.setPwr v).exts = s.exts ∧
    (s.setPwr v).feedFwd = s.feedFwd ∧
    (s.setPwr v).splitAt = s.splitAt ∧
    (s.setPwr v).returnAt = s.returnAt ∧
    (s.setPwr v).store = s.store ∧
    (s.setPwr v).writes = s.writes ∧
    (s.setPwr v).stages = s.stages ∧
    (s.setPwr v).quads = s.quads ∧
    (s.setPwr v).homework = s.homework ∧
    (s.setPwr v).firstForm = s.firstForm ∧
    (s.setPwr v).readbackAt = s.readbackAt ∧
    (s.setPwr v).loadWait = s.loadWait ∧
    (s.setPwr v).feedMove = s.feedMove ∧
    (s.setPwr v).bridgeBuild = s.bridgeBuild ∧
    (s.setPwr v).clk = s.clk ∧
    (s.setPwr v).sensors = s.sensors ∧
    (s.setPwr v).nvArr = s.nvArr ∧
    (s.setPwr v).nvShadow = s.nvShadow ∧
    (s.setPwr v).nvRun = s.nvRun ∧
    (s.setPwr v).boot = s.boot ∧
    (s.setPwr v).fw = s.fw ∧
    (s.setPwr v).sup = s.sup :=
  ⟨rfl, rfl, rfl, rfl, rfl, rfl, rfl, rfl, rfl, rfl, rfl, rfl, rfl, rfl, rfl, rfl, rfl, rfl, rfl, rfl, rfl, rfl, rfl, rfl, rfl, rfl, rfl, rfl, rfl, rfl, rfl, rfl, rfl, rfl, rfl, rfl, rfl, rfl, rfl, rfl, rfl, rfl, rfl, rfl, rfl, rfl, rfl, rfl, rfl, rfl, rfl, rfl, rfl, rfl, rfl, rfl, rfl, rfl, rfl, rfl, rfl, rfl, rfl, rfl, rfl, rfl, rfl, rfl, rfl, rfl, rfl, rfl, rfl, rfl, rfl, rfl⟩

/-- Replacing `sensors` replaces it and leaves every other field. -/
@[simp] theorem State.setSensors_frame (s : State) (v : Sparse Sensor) :
    (s.setSensors v).sensors = v ∧
    (s.setSensors v).now = s.now ∧
    (s.setSensors v).freeIx = s.freeIx ∧
    (s.setSensors v).pending = s.pending ∧
    (s.setSensors v).regs = s.regs ∧
    (s.setSensors v).inForce = s.inForce ∧
    (s.setSensors v).wb = s.wb ∧
    (s.setSensors v).shadow = s.shadow ∧
    (s.setSensors v).bus = s.bus ∧
    (s.setSensors v).mbxOrder = s.mbxOrder ∧
    (s.setSensors v).staging = s.staging ∧
    (s.setSensors v).jobs = s.jobs ∧
    (s.setSensors v).binds = s.binds ∧
    (s.setSensors v).batches = s.batches ∧
    (s.setSensors v).tagsHeld = s.tagsHeld ∧
    (s.setSensors v).tagAt = s.tagAt ∧
    (s.setSensors v).arrived = s.arrived ∧
    (s.setSensors v).outs = s.outs ∧
    (s.setSensors v).recQ = s.recQ ∧
    (s.setSensors v).recSeq = s.recSeq ∧
    (s.setSensors v).tx = s.tx ∧
    (s.setSensors v).chans = s.chans ∧
    (s.setSensors v).ingest = s.ingest ∧
    (s.setSensors v).drops = s.drops ∧
    (s.setSensors v).misses = s.misses ∧
    (s.setSensors v).arms = s.arms ∧
    (s.setSensors v).bulk = s.bulk ∧
    (s.setSensors v).rxAt = s.rxAt ∧
    (s.setSensors v).fabric = s.fabric ∧
    (s.setSensors v).grantRr = s.grantRr ∧
    (s.setSensors v).slots = s.slots ∧
    (s.setSensors v).ptes = s.ptes ∧
    (s.setSensors v).xlates = s.xlates ∧
    (s.setSensors v).time = s.time ∧
    (s.setSensors v).halt = s.halt ∧
    (s.setSensors v).sram = s.sram ∧
    (s.setSensors v).pageUe = s.pageUe ∧
    (s.setSensors v).unitUe = s.unitUe ∧
    (s.setSensors v).retired = s.retired ∧
    (s.setSensors v).cluOut = s.cluOut ∧
    (s.setSensors v).plant = s.plant ∧
    (s.setSensors v).tiles = s.tiles ∧
    (s.setSensors v).cells = s.cells ∧
    (s.setSensors v).occ = s.occ ∧
    (s.setSensors v).tcal = s.tcal ∧
    (s.setSensors v).recur = s.recur ∧
    (s.setSensors v).stDone = s.stDone ∧
    (s.setSensors v).chips = s.chips ∧
    (s.setSensors v).meshTbl = s.meshTbl ∧
    (s.setSensors v).rings = s.rings ∧
    (s.setSensors v).lanes = s.lanes ∧
    (s.setSensors v).dirs = s.dirs ∧
    (s.setSensors v).mons = s.mons ∧
    (s.setSensors v).halves = s.halves ∧
    (s.setSensors v).exts = s.exts ∧
    (s.setSensors v).feedFwd = s.feedFwd ∧
    (s.setSensors v).splitAt = s.splitAt ∧
    (s.setSensors v).returnAt = s.returnAt ∧
    (s.setSensors v).store = s.store ∧
    (s.setSensors v).writes = s.writes ∧
    (s.setSensors v).stages = s.stages ∧
    (s.setSensors v).quads = s.quads ∧
    (s.setSensors v).homework = s.homework ∧
    (s.setSensors v).firstForm = s.firstForm ∧
    (s.setSensors v).readbackAt = s.readbackAt ∧
    (s.setSensors v).loadWait = s.loadWait ∧
    (s.setSensors v).feedMove = s.feedMove ∧
    (s.setSensors v).bridgeBuild = s.bridgeBuild ∧
    (s.setSensors v).clk = s.clk ∧
    (s.setSensors v).pwr = s.pwr ∧
    (s.setSensors v).nvArr = s.nvArr ∧
    (s.setSensors v).nvShadow = s.nvShadow ∧
    (s.setSensors v).nvRun = s.nvRun ∧
    (s.setSensors v).boot = s.boot ∧
    (s.setSensors v).fw = s.fw ∧
    (s.setSensors v).sup = s.sup :=
  ⟨rfl, rfl, rfl, rfl, rfl, rfl, rfl, rfl, rfl, rfl, rfl, rfl, rfl, rfl, rfl, rfl, rfl, rfl, rfl, rfl, rfl, rfl, rfl, rfl, rfl, rfl, rfl, rfl, rfl, rfl, rfl, rfl, rfl, rfl, rfl, rfl, rfl, rfl, rfl, rfl, rfl, rfl, rfl, rfl, rfl, rfl, rfl, rfl, rfl, rfl, rfl, rfl, rfl, rfl, rfl, rfl, rfl, rfl, rfl, rfl, rfl, rfl, rfl, rfl, rfl, rfl, rfl, rfl, rfl, rfl, rfl, rfl, rfl, rfl, rfl, rfl⟩

/-- Replacing `nvArr` replaces it and leaves every other field. -/
@[simp] theorem State.setNvArr_frame (s : State) (v : Sparse Byte) :
    (s.setNvArr v).nvArr = v ∧
    (s.setNvArr v).now = s.now ∧
    (s.setNvArr v).freeIx = s.freeIx ∧
    (s.setNvArr v).pending = s.pending ∧
    (s.setNvArr v).regs = s.regs ∧
    (s.setNvArr v).inForce = s.inForce ∧
    (s.setNvArr v).wb = s.wb ∧
    (s.setNvArr v).shadow = s.shadow ∧
    (s.setNvArr v).bus = s.bus ∧
    (s.setNvArr v).mbxOrder = s.mbxOrder ∧
    (s.setNvArr v).staging = s.staging ∧
    (s.setNvArr v).jobs = s.jobs ∧
    (s.setNvArr v).binds = s.binds ∧
    (s.setNvArr v).batches = s.batches ∧
    (s.setNvArr v).tagsHeld = s.tagsHeld ∧
    (s.setNvArr v).tagAt = s.tagAt ∧
    (s.setNvArr v).arrived = s.arrived ∧
    (s.setNvArr v).outs = s.outs ∧
    (s.setNvArr v).recQ = s.recQ ∧
    (s.setNvArr v).recSeq = s.recSeq ∧
    (s.setNvArr v).tx = s.tx ∧
    (s.setNvArr v).chans = s.chans ∧
    (s.setNvArr v).ingest = s.ingest ∧
    (s.setNvArr v).drops = s.drops ∧
    (s.setNvArr v).misses = s.misses ∧
    (s.setNvArr v).arms = s.arms ∧
    (s.setNvArr v).bulk = s.bulk ∧
    (s.setNvArr v).rxAt = s.rxAt ∧
    (s.setNvArr v).fabric = s.fabric ∧
    (s.setNvArr v).grantRr = s.grantRr ∧
    (s.setNvArr v).slots = s.slots ∧
    (s.setNvArr v).ptes = s.ptes ∧
    (s.setNvArr v).xlates = s.xlates ∧
    (s.setNvArr v).time = s.time ∧
    (s.setNvArr v).halt = s.halt ∧
    (s.setNvArr v).sram = s.sram ∧
    (s.setNvArr v).pageUe = s.pageUe ∧
    (s.setNvArr v).unitUe = s.unitUe ∧
    (s.setNvArr v).retired = s.retired ∧
    (s.setNvArr v).cluOut = s.cluOut ∧
    (s.setNvArr v).plant = s.plant ∧
    (s.setNvArr v).tiles = s.tiles ∧
    (s.setNvArr v).cells = s.cells ∧
    (s.setNvArr v).occ = s.occ ∧
    (s.setNvArr v).tcal = s.tcal ∧
    (s.setNvArr v).recur = s.recur ∧
    (s.setNvArr v).stDone = s.stDone ∧
    (s.setNvArr v).chips = s.chips ∧
    (s.setNvArr v).meshTbl = s.meshTbl ∧
    (s.setNvArr v).rings = s.rings ∧
    (s.setNvArr v).lanes = s.lanes ∧
    (s.setNvArr v).dirs = s.dirs ∧
    (s.setNvArr v).mons = s.mons ∧
    (s.setNvArr v).halves = s.halves ∧
    (s.setNvArr v).exts = s.exts ∧
    (s.setNvArr v).feedFwd = s.feedFwd ∧
    (s.setNvArr v).splitAt = s.splitAt ∧
    (s.setNvArr v).returnAt = s.returnAt ∧
    (s.setNvArr v).store = s.store ∧
    (s.setNvArr v).writes = s.writes ∧
    (s.setNvArr v).stages = s.stages ∧
    (s.setNvArr v).quads = s.quads ∧
    (s.setNvArr v).homework = s.homework ∧
    (s.setNvArr v).firstForm = s.firstForm ∧
    (s.setNvArr v).readbackAt = s.readbackAt ∧
    (s.setNvArr v).loadWait = s.loadWait ∧
    (s.setNvArr v).feedMove = s.feedMove ∧
    (s.setNvArr v).bridgeBuild = s.bridgeBuild ∧
    (s.setNvArr v).clk = s.clk ∧
    (s.setNvArr v).pwr = s.pwr ∧
    (s.setNvArr v).sensors = s.sensors ∧
    (s.setNvArr v).nvShadow = s.nvShadow ∧
    (s.setNvArr v).nvRun = s.nvRun ∧
    (s.setNvArr v).boot = s.boot ∧
    (s.setNvArr v).fw = s.fw ∧
    (s.setNvArr v).sup = s.sup :=
  ⟨rfl, rfl, rfl, rfl, rfl, rfl, rfl, rfl, rfl, rfl, rfl, rfl, rfl, rfl, rfl, rfl, rfl, rfl, rfl, rfl, rfl, rfl, rfl, rfl, rfl, rfl, rfl, rfl, rfl, rfl, rfl, rfl, rfl, rfl, rfl, rfl, rfl, rfl, rfl, rfl, rfl, rfl, rfl, rfl, rfl, rfl, rfl, rfl, rfl, rfl, rfl, rfl, rfl, rfl, rfl, rfl, rfl, rfl, rfl, rfl, rfl, rfl, rfl, rfl, rfl, rfl, rfl, rfl, rfl, rfl, rfl, rfl, rfl, rfl, rfl, rfl⟩

/-- Replacing `nvShadow` replaces it and leaves every other field. -/
@[simp] theorem State.setNvShadow_frame (s : State) (v : Sparse Byte) :
    (s.setNvShadow v).nvShadow = v ∧
    (s.setNvShadow v).now = s.now ∧
    (s.setNvShadow v).freeIx = s.freeIx ∧
    (s.setNvShadow v).pending = s.pending ∧
    (s.setNvShadow v).regs = s.regs ∧
    (s.setNvShadow v).inForce = s.inForce ∧
    (s.setNvShadow v).wb = s.wb ∧
    (s.setNvShadow v).shadow = s.shadow ∧
    (s.setNvShadow v).bus = s.bus ∧
    (s.setNvShadow v).mbxOrder = s.mbxOrder ∧
    (s.setNvShadow v).staging = s.staging ∧
    (s.setNvShadow v).jobs = s.jobs ∧
    (s.setNvShadow v).binds = s.binds ∧
    (s.setNvShadow v).batches = s.batches ∧
    (s.setNvShadow v).tagsHeld = s.tagsHeld ∧
    (s.setNvShadow v).tagAt = s.tagAt ∧
    (s.setNvShadow v).arrived = s.arrived ∧
    (s.setNvShadow v).outs = s.outs ∧
    (s.setNvShadow v).recQ = s.recQ ∧
    (s.setNvShadow v).recSeq = s.recSeq ∧
    (s.setNvShadow v).tx = s.tx ∧
    (s.setNvShadow v).chans = s.chans ∧
    (s.setNvShadow v).ingest = s.ingest ∧
    (s.setNvShadow v).drops = s.drops ∧
    (s.setNvShadow v).misses = s.misses ∧
    (s.setNvShadow v).arms = s.arms ∧
    (s.setNvShadow v).bulk = s.bulk ∧
    (s.setNvShadow v).rxAt = s.rxAt ∧
    (s.setNvShadow v).fabric = s.fabric ∧
    (s.setNvShadow v).grantRr = s.grantRr ∧
    (s.setNvShadow v).slots = s.slots ∧
    (s.setNvShadow v).ptes = s.ptes ∧
    (s.setNvShadow v).xlates = s.xlates ∧
    (s.setNvShadow v).time = s.time ∧
    (s.setNvShadow v).halt = s.halt ∧
    (s.setNvShadow v).sram = s.sram ∧
    (s.setNvShadow v).pageUe = s.pageUe ∧
    (s.setNvShadow v).unitUe = s.unitUe ∧
    (s.setNvShadow v).retired = s.retired ∧
    (s.setNvShadow v).cluOut = s.cluOut ∧
    (s.setNvShadow v).plant = s.plant ∧
    (s.setNvShadow v).tiles = s.tiles ∧
    (s.setNvShadow v).cells = s.cells ∧
    (s.setNvShadow v).occ = s.occ ∧
    (s.setNvShadow v).tcal = s.tcal ∧
    (s.setNvShadow v).recur = s.recur ∧
    (s.setNvShadow v).stDone = s.stDone ∧
    (s.setNvShadow v).chips = s.chips ∧
    (s.setNvShadow v).meshTbl = s.meshTbl ∧
    (s.setNvShadow v).rings = s.rings ∧
    (s.setNvShadow v).lanes = s.lanes ∧
    (s.setNvShadow v).dirs = s.dirs ∧
    (s.setNvShadow v).mons = s.mons ∧
    (s.setNvShadow v).halves = s.halves ∧
    (s.setNvShadow v).exts = s.exts ∧
    (s.setNvShadow v).feedFwd = s.feedFwd ∧
    (s.setNvShadow v).splitAt = s.splitAt ∧
    (s.setNvShadow v).returnAt = s.returnAt ∧
    (s.setNvShadow v).store = s.store ∧
    (s.setNvShadow v).writes = s.writes ∧
    (s.setNvShadow v).stages = s.stages ∧
    (s.setNvShadow v).quads = s.quads ∧
    (s.setNvShadow v).homework = s.homework ∧
    (s.setNvShadow v).firstForm = s.firstForm ∧
    (s.setNvShadow v).readbackAt = s.readbackAt ∧
    (s.setNvShadow v).loadWait = s.loadWait ∧
    (s.setNvShadow v).feedMove = s.feedMove ∧
    (s.setNvShadow v).bridgeBuild = s.bridgeBuild ∧
    (s.setNvShadow v).clk = s.clk ∧
    (s.setNvShadow v).pwr = s.pwr ∧
    (s.setNvShadow v).sensors = s.sensors ∧
    (s.setNvShadow v).nvArr = s.nvArr ∧
    (s.setNvShadow v).nvRun = s.nvRun ∧
    (s.setNvShadow v).boot = s.boot ∧
    (s.setNvShadow v).fw = s.fw ∧
    (s.setNvShadow v).sup = s.sup :=
  ⟨rfl, rfl, rfl, rfl, rfl, rfl, rfl, rfl, rfl, rfl, rfl, rfl, rfl, rfl, rfl, rfl, rfl, rfl, rfl, rfl, rfl, rfl, rfl, rfl, rfl, rfl, rfl, rfl, rfl, rfl, rfl, rfl, rfl, rfl, rfl, rfl, rfl, rfl, rfl, rfl, rfl, rfl, rfl, rfl, rfl, rfl, rfl, rfl, rfl, rfl, rfl, rfl, rfl, rfl, rfl, rfl, rfl, rfl, rfl, rfl, rfl, rfl, rfl, rfl, rfl, rfl, rfl, rfl, rfl, rfl, rfl, rfl, rfl, rfl, rfl, rfl⟩

/-- Replacing `nvRun` replaces it and leaves every other field. -/
@[simp] theorem State.setNvRun_frame (s : State) (v : Option NvRun) :
    (s.setNvRun v).nvRun = v ∧
    (s.setNvRun v).now = s.now ∧
    (s.setNvRun v).freeIx = s.freeIx ∧
    (s.setNvRun v).pending = s.pending ∧
    (s.setNvRun v).regs = s.regs ∧
    (s.setNvRun v).inForce = s.inForce ∧
    (s.setNvRun v).wb = s.wb ∧
    (s.setNvRun v).shadow = s.shadow ∧
    (s.setNvRun v).bus = s.bus ∧
    (s.setNvRun v).mbxOrder = s.mbxOrder ∧
    (s.setNvRun v).staging = s.staging ∧
    (s.setNvRun v).jobs = s.jobs ∧
    (s.setNvRun v).binds = s.binds ∧
    (s.setNvRun v).batches = s.batches ∧
    (s.setNvRun v).tagsHeld = s.tagsHeld ∧
    (s.setNvRun v).tagAt = s.tagAt ∧
    (s.setNvRun v).arrived = s.arrived ∧
    (s.setNvRun v).outs = s.outs ∧
    (s.setNvRun v).recQ = s.recQ ∧
    (s.setNvRun v).recSeq = s.recSeq ∧
    (s.setNvRun v).tx = s.tx ∧
    (s.setNvRun v).chans = s.chans ∧
    (s.setNvRun v).ingest = s.ingest ∧
    (s.setNvRun v).drops = s.drops ∧
    (s.setNvRun v).misses = s.misses ∧
    (s.setNvRun v).arms = s.arms ∧
    (s.setNvRun v).bulk = s.bulk ∧
    (s.setNvRun v).rxAt = s.rxAt ∧
    (s.setNvRun v).fabric = s.fabric ∧
    (s.setNvRun v).grantRr = s.grantRr ∧
    (s.setNvRun v).slots = s.slots ∧
    (s.setNvRun v).ptes = s.ptes ∧
    (s.setNvRun v).xlates = s.xlates ∧
    (s.setNvRun v).time = s.time ∧
    (s.setNvRun v).halt = s.halt ∧
    (s.setNvRun v).sram = s.sram ∧
    (s.setNvRun v).pageUe = s.pageUe ∧
    (s.setNvRun v).unitUe = s.unitUe ∧
    (s.setNvRun v).retired = s.retired ∧
    (s.setNvRun v).cluOut = s.cluOut ∧
    (s.setNvRun v).plant = s.plant ∧
    (s.setNvRun v).tiles = s.tiles ∧
    (s.setNvRun v).cells = s.cells ∧
    (s.setNvRun v).occ = s.occ ∧
    (s.setNvRun v).tcal = s.tcal ∧
    (s.setNvRun v).recur = s.recur ∧
    (s.setNvRun v).stDone = s.stDone ∧
    (s.setNvRun v).chips = s.chips ∧
    (s.setNvRun v).meshTbl = s.meshTbl ∧
    (s.setNvRun v).rings = s.rings ∧
    (s.setNvRun v).lanes = s.lanes ∧
    (s.setNvRun v).dirs = s.dirs ∧
    (s.setNvRun v).mons = s.mons ∧
    (s.setNvRun v).halves = s.halves ∧
    (s.setNvRun v).exts = s.exts ∧
    (s.setNvRun v).feedFwd = s.feedFwd ∧
    (s.setNvRun v).splitAt = s.splitAt ∧
    (s.setNvRun v).returnAt = s.returnAt ∧
    (s.setNvRun v).store = s.store ∧
    (s.setNvRun v).writes = s.writes ∧
    (s.setNvRun v).stages = s.stages ∧
    (s.setNvRun v).quads = s.quads ∧
    (s.setNvRun v).homework = s.homework ∧
    (s.setNvRun v).firstForm = s.firstForm ∧
    (s.setNvRun v).readbackAt = s.readbackAt ∧
    (s.setNvRun v).loadWait = s.loadWait ∧
    (s.setNvRun v).feedMove = s.feedMove ∧
    (s.setNvRun v).bridgeBuild = s.bridgeBuild ∧
    (s.setNvRun v).clk = s.clk ∧
    (s.setNvRun v).pwr = s.pwr ∧
    (s.setNvRun v).sensors = s.sensors ∧
    (s.setNvRun v).nvArr = s.nvArr ∧
    (s.setNvRun v).nvShadow = s.nvShadow ∧
    (s.setNvRun v).boot = s.boot ∧
    (s.setNvRun v).fw = s.fw ∧
    (s.setNvRun v).sup = s.sup :=
  ⟨rfl, rfl, rfl, rfl, rfl, rfl, rfl, rfl, rfl, rfl, rfl, rfl, rfl, rfl, rfl, rfl, rfl, rfl, rfl, rfl, rfl, rfl, rfl, rfl, rfl, rfl, rfl, rfl, rfl, rfl, rfl, rfl, rfl, rfl, rfl, rfl, rfl, rfl, rfl, rfl, rfl, rfl, rfl, rfl, rfl, rfl, rfl, rfl, rfl, rfl, rfl, rfl, rfl, rfl, rfl, rfl, rfl, rfl, rfl, rfl, rfl, rfl, rfl, rfl, rfl, rfl, rfl, rfl, rfl, rfl, rfl, rfl, rfl, rfl, rfl, rfl⟩

/-- Replacing `boot` replaces it and leaves every other field. -/
@[simp] theorem State.setBoot_frame (s : State) (v : Boot) :
    (s.setBoot v).boot = v ∧
    (s.setBoot v).now = s.now ∧
    (s.setBoot v).freeIx = s.freeIx ∧
    (s.setBoot v).pending = s.pending ∧
    (s.setBoot v).regs = s.regs ∧
    (s.setBoot v).inForce = s.inForce ∧
    (s.setBoot v).wb = s.wb ∧
    (s.setBoot v).shadow = s.shadow ∧
    (s.setBoot v).bus = s.bus ∧
    (s.setBoot v).mbxOrder = s.mbxOrder ∧
    (s.setBoot v).staging = s.staging ∧
    (s.setBoot v).jobs = s.jobs ∧
    (s.setBoot v).binds = s.binds ∧
    (s.setBoot v).batches = s.batches ∧
    (s.setBoot v).tagsHeld = s.tagsHeld ∧
    (s.setBoot v).tagAt = s.tagAt ∧
    (s.setBoot v).arrived = s.arrived ∧
    (s.setBoot v).outs = s.outs ∧
    (s.setBoot v).recQ = s.recQ ∧
    (s.setBoot v).recSeq = s.recSeq ∧
    (s.setBoot v).tx = s.tx ∧
    (s.setBoot v).chans = s.chans ∧
    (s.setBoot v).ingest = s.ingest ∧
    (s.setBoot v).drops = s.drops ∧
    (s.setBoot v).misses = s.misses ∧
    (s.setBoot v).arms = s.arms ∧
    (s.setBoot v).bulk = s.bulk ∧
    (s.setBoot v).rxAt = s.rxAt ∧
    (s.setBoot v).fabric = s.fabric ∧
    (s.setBoot v).grantRr = s.grantRr ∧
    (s.setBoot v).slots = s.slots ∧
    (s.setBoot v).ptes = s.ptes ∧
    (s.setBoot v).xlates = s.xlates ∧
    (s.setBoot v).time = s.time ∧
    (s.setBoot v).halt = s.halt ∧
    (s.setBoot v).sram = s.sram ∧
    (s.setBoot v).pageUe = s.pageUe ∧
    (s.setBoot v).unitUe = s.unitUe ∧
    (s.setBoot v).retired = s.retired ∧
    (s.setBoot v).cluOut = s.cluOut ∧
    (s.setBoot v).plant = s.plant ∧
    (s.setBoot v).tiles = s.tiles ∧
    (s.setBoot v).cells = s.cells ∧
    (s.setBoot v).occ = s.occ ∧
    (s.setBoot v).tcal = s.tcal ∧
    (s.setBoot v).recur = s.recur ∧
    (s.setBoot v).stDone = s.stDone ∧
    (s.setBoot v).chips = s.chips ∧
    (s.setBoot v).meshTbl = s.meshTbl ∧
    (s.setBoot v).rings = s.rings ∧
    (s.setBoot v).lanes = s.lanes ∧
    (s.setBoot v).dirs = s.dirs ∧
    (s.setBoot v).mons = s.mons ∧
    (s.setBoot v).halves = s.halves ∧
    (s.setBoot v).exts = s.exts ∧
    (s.setBoot v).feedFwd = s.feedFwd ∧
    (s.setBoot v).splitAt = s.splitAt ∧
    (s.setBoot v).returnAt = s.returnAt ∧
    (s.setBoot v).store = s.store ∧
    (s.setBoot v).writes = s.writes ∧
    (s.setBoot v).stages = s.stages ∧
    (s.setBoot v).quads = s.quads ∧
    (s.setBoot v).homework = s.homework ∧
    (s.setBoot v).firstForm = s.firstForm ∧
    (s.setBoot v).readbackAt = s.readbackAt ∧
    (s.setBoot v).loadWait = s.loadWait ∧
    (s.setBoot v).feedMove = s.feedMove ∧
    (s.setBoot v).bridgeBuild = s.bridgeBuild ∧
    (s.setBoot v).clk = s.clk ∧
    (s.setBoot v).pwr = s.pwr ∧
    (s.setBoot v).sensors = s.sensors ∧
    (s.setBoot v).nvArr = s.nvArr ∧
    (s.setBoot v).nvShadow = s.nvShadow ∧
    (s.setBoot v).nvRun = s.nvRun ∧
    (s.setBoot v).fw = s.fw ∧
    (s.setBoot v).sup = s.sup :=
  ⟨rfl, rfl, rfl, rfl, rfl, rfl, rfl, rfl, rfl, rfl, rfl, rfl, rfl, rfl, rfl, rfl, rfl, rfl, rfl, rfl, rfl, rfl, rfl, rfl, rfl, rfl, rfl, rfl, rfl, rfl, rfl, rfl, rfl, rfl, rfl, rfl, rfl, rfl, rfl, rfl, rfl, rfl, rfl, rfl, rfl, rfl, rfl, rfl, rfl, rfl, rfl, rfl, rfl, rfl, rfl, rfl, rfl, rfl, rfl, rfl, rfl, rfl, rfl, rfl, rfl, rfl, rfl, rfl, rfl, rfl, rfl, rfl, rfl, rfl, rfl, rfl⟩

/-- Replacing `fw` replaces it and leaves every other field. -/
@[simp] theorem State.setFw_frame (s : State) (v : FwStore) :
    (s.setFw v).fw = v ∧
    (s.setFw v).now = s.now ∧
    (s.setFw v).freeIx = s.freeIx ∧
    (s.setFw v).pending = s.pending ∧
    (s.setFw v).regs = s.regs ∧
    (s.setFw v).inForce = s.inForce ∧
    (s.setFw v).wb = s.wb ∧
    (s.setFw v).shadow = s.shadow ∧
    (s.setFw v).bus = s.bus ∧
    (s.setFw v).mbxOrder = s.mbxOrder ∧
    (s.setFw v).staging = s.staging ∧
    (s.setFw v).jobs = s.jobs ∧
    (s.setFw v).binds = s.binds ∧
    (s.setFw v).batches = s.batches ∧
    (s.setFw v).tagsHeld = s.tagsHeld ∧
    (s.setFw v).tagAt = s.tagAt ∧
    (s.setFw v).arrived = s.arrived ∧
    (s.setFw v).outs = s.outs ∧
    (s.setFw v).recQ = s.recQ ∧
    (s.setFw v).recSeq = s.recSeq ∧
    (s.setFw v).tx = s.tx ∧
    (s.setFw v).chans = s.chans ∧
    (s.setFw v).ingest = s.ingest ∧
    (s.setFw v).drops = s.drops ∧
    (s.setFw v).misses = s.misses ∧
    (s.setFw v).arms = s.arms ∧
    (s.setFw v).bulk = s.bulk ∧
    (s.setFw v).rxAt = s.rxAt ∧
    (s.setFw v).fabric = s.fabric ∧
    (s.setFw v).grantRr = s.grantRr ∧
    (s.setFw v).slots = s.slots ∧
    (s.setFw v).ptes = s.ptes ∧
    (s.setFw v).xlates = s.xlates ∧
    (s.setFw v).time = s.time ∧
    (s.setFw v).halt = s.halt ∧
    (s.setFw v).sram = s.sram ∧
    (s.setFw v).pageUe = s.pageUe ∧
    (s.setFw v).unitUe = s.unitUe ∧
    (s.setFw v).retired = s.retired ∧
    (s.setFw v).cluOut = s.cluOut ∧
    (s.setFw v).plant = s.plant ∧
    (s.setFw v).tiles = s.tiles ∧
    (s.setFw v).cells = s.cells ∧
    (s.setFw v).occ = s.occ ∧
    (s.setFw v).tcal = s.tcal ∧
    (s.setFw v).recur = s.recur ∧
    (s.setFw v).stDone = s.stDone ∧
    (s.setFw v).chips = s.chips ∧
    (s.setFw v).meshTbl = s.meshTbl ∧
    (s.setFw v).rings = s.rings ∧
    (s.setFw v).lanes = s.lanes ∧
    (s.setFw v).dirs = s.dirs ∧
    (s.setFw v).mons = s.mons ∧
    (s.setFw v).halves = s.halves ∧
    (s.setFw v).exts = s.exts ∧
    (s.setFw v).feedFwd = s.feedFwd ∧
    (s.setFw v).splitAt = s.splitAt ∧
    (s.setFw v).returnAt = s.returnAt ∧
    (s.setFw v).store = s.store ∧
    (s.setFw v).writes = s.writes ∧
    (s.setFw v).stages = s.stages ∧
    (s.setFw v).quads = s.quads ∧
    (s.setFw v).homework = s.homework ∧
    (s.setFw v).firstForm = s.firstForm ∧
    (s.setFw v).readbackAt = s.readbackAt ∧
    (s.setFw v).loadWait = s.loadWait ∧
    (s.setFw v).feedMove = s.feedMove ∧
    (s.setFw v).bridgeBuild = s.bridgeBuild ∧
    (s.setFw v).clk = s.clk ∧
    (s.setFw v).pwr = s.pwr ∧
    (s.setFw v).sensors = s.sensors ∧
    (s.setFw v).nvArr = s.nvArr ∧
    (s.setFw v).nvShadow = s.nvShadow ∧
    (s.setFw v).nvRun = s.nvRun ∧
    (s.setFw v).boot = s.boot ∧
    (s.setFw v).sup = s.sup :=
  ⟨rfl, rfl, rfl, rfl, rfl, rfl, rfl, rfl, rfl, rfl, rfl, rfl, rfl, rfl, rfl, rfl, rfl, rfl, rfl, rfl, rfl, rfl, rfl, rfl, rfl, rfl, rfl, rfl, rfl, rfl, rfl, rfl, rfl, rfl, rfl, rfl, rfl, rfl, rfl, rfl, rfl, rfl, rfl, rfl, rfl, rfl, rfl, rfl, rfl, rfl, rfl, rfl, rfl, rfl, rfl, rfl, rfl, rfl, rfl, rfl, rfl, rfl, rfl, rfl, rfl, rfl, rfl, rfl, rfl, rfl, rfl, rfl, rfl, rfl, rfl, rfl⟩

/-- Replacing `sup` replaces it and leaves every other field. -/
@[simp] theorem State.setSup_frame (s : State) (v : Sup) :
    (s.setSup v).sup = v ∧
    (s.setSup v).now = s.now ∧
    (s.setSup v).freeIx = s.freeIx ∧
    (s.setSup v).pending = s.pending ∧
    (s.setSup v).regs = s.regs ∧
    (s.setSup v).inForce = s.inForce ∧
    (s.setSup v).wb = s.wb ∧
    (s.setSup v).shadow = s.shadow ∧
    (s.setSup v).bus = s.bus ∧
    (s.setSup v).mbxOrder = s.mbxOrder ∧
    (s.setSup v).staging = s.staging ∧
    (s.setSup v).jobs = s.jobs ∧
    (s.setSup v).binds = s.binds ∧
    (s.setSup v).batches = s.batches ∧
    (s.setSup v).tagsHeld = s.tagsHeld ∧
    (s.setSup v).tagAt = s.tagAt ∧
    (s.setSup v).arrived = s.arrived ∧
    (s.setSup v).outs = s.outs ∧
    (s.setSup v).recQ = s.recQ ∧
    (s.setSup v).recSeq = s.recSeq ∧
    (s.setSup v).tx = s.tx ∧
    (s.setSup v).chans = s.chans ∧
    (s.setSup v).ingest = s.ingest ∧
    (s.setSup v).drops = s.drops ∧
    (s.setSup v).misses = s.misses ∧
    (s.setSup v).arms = s.arms ∧
    (s.setSup v).bulk = s.bulk ∧
    (s.setSup v).rxAt = s.rxAt ∧
    (s.setSup v).fabric = s.fabric ∧
    (s.setSup v).grantRr = s.grantRr ∧
    (s.setSup v).slots = s.slots ∧
    (s.setSup v).ptes = s.ptes ∧
    (s.setSup v).xlates = s.xlates ∧
    (s.setSup v).time = s.time ∧
    (s.setSup v).halt = s.halt ∧
    (s.setSup v).sram = s.sram ∧
    (s.setSup v).pageUe = s.pageUe ∧
    (s.setSup v).unitUe = s.unitUe ∧
    (s.setSup v).retired = s.retired ∧
    (s.setSup v).cluOut = s.cluOut ∧
    (s.setSup v).plant = s.plant ∧
    (s.setSup v).tiles = s.tiles ∧
    (s.setSup v).cells = s.cells ∧
    (s.setSup v).occ = s.occ ∧
    (s.setSup v).tcal = s.tcal ∧
    (s.setSup v).recur = s.recur ∧
    (s.setSup v).stDone = s.stDone ∧
    (s.setSup v).chips = s.chips ∧
    (s.setSup v).meshTbl = s.meshTbl ∧
    (s.setSup v).rings = s.rings ∧
    (s.setSup v).lanes = s.lanes ∧
    (s.setSup v).dirs = s.dirs ∧
    (s.setSup v).mons = s.mons ∧
    (s.setSup v).halves = s.halves ∧
    (s.setSup v).exts = s.exts ∧
    (s.setSup v).feedFwd = s.feedFwd ∧
    (s.setSup v).splitAt = s.splitAt ∧
    (s.setSup v).returnAt = s.returnAt ∧
    (s.setSup v).store = s.store ∧
    (s.setSup v).writes = s.writes ∧
    (s.setSup v).stages = s.stages ∧
    (s.setSup v).quads = s.quads ∧
    (s.setSup v).homework = s.homework ∧
    (s.setSup v).firstForm = s.firstForm ∧
    (s.setSup v).readbackAt = s.readbackAt ∧
    (s.setSup v).loadWait = s.loadWait ∧
    (s.setSup v).feedMove = s.feedMove ∧
    (s.setSup v).bridgeBuild = s.bridgeBuild ∧
    (s.setSup v).clk = s.clk ∧
    (s.setSup v).pwr = s.pwr ∧
    (s.setSup v).sensors = s.sensors ∧
    (s.setSup v).nvArr = s.nvArr ∧
    (s.setSup v).nvShadow = s.nvShadow ∧
    (s.setSup v).nvRun = s.nvRun ∧
    (s.setSup v).boot = s.boot ∧
    (s.setSup v).fw = s.fw :=
  ⟨rfl, rfl, rfl, rfl, rfl, rfl, rfl, rfl, rfl, rfl, rfl, rfl, rfl, rfl, rfl, rfl, rfl, rfl, rfl, rfl, rfl, rfl, rfl, rfl, rfl, rfl, rfl, rfl, rfl, rfl, rfl, rfl, rfl, rfl, rfl, rfl, rfl, rfl, rfl, rfl, rfl, rfl, rfl, rfl, rfl, rfl, rfl, rfl, rfl, rfl, rfl, rfl, rfl, rfl, rfl, rfl, rfl, rfl, rfl, rfl, rfl, rfl, rfl, rfl, rfl, rfl, rfl, rfl, rfl, rfl, rfl, rfl, rfl, rfl, rfl, rfl⟩

end Sys2Proof.Machine
end

