-- ==== Sys2Proof/Laws/Ops.lean ====
section
/-! SUPPORT. Laws/Ops.lean: what the named operations of Machine/Ops.lean and the mailboxes do and what they leave alone: a field read after
a write, an event, a response, and a list of updates. -/

namespace Sys2Proof.Machine

/-! ### Fields of words -/

theorem fieldOf_testBit (lo w : Nat) (x : Word) (i : Nat) :
    (fieldOf lo w x).testBit i = (decide (i < w) && x.getLsbD (lo + i)) := by
  simp [fieldOf, Nat.testBit_mod_two_pow, Nat.testBit_div_two_pow, BitVec.getLsbD, Nat.add_comm]

theorem fieldMask_getLsbD (lo w j : Nat) :
    (fieldMask lo w).getLsbD j = (decide (j < 32) && decide (lo ≤ j) && decide (j < lo + w)) := by
  simp only [fieldMask, BitVec.getLsbD_ofNat, Nat.testBit_mul_two_pow, Nat.testBit_two_pow_sub_one]
  by_cases h1 : lo ≤ j <;> by_cases h2 : j < lo + w <;> by_cases h3 : j < 32 <;> simp [h1, h2, h3] <;> omega

theorem withField_getLsbD (lo w : Nat) (x : Word) (v j : Nat) (hj : j < 32) :
    (withField lo w x v).getLsbD j = if lo ≤ j ∧ j < lo + w then v.testBit (j - lo) else x.getLsbD j := by
  simp only [withField, BitVec.getLsbD_or, BitVec.getLsbD_and, BitVec.getLsbD_not, fieldMask_getLsbD, BitVec.getLsbD_ofNat,
    Nat.testBit_mul_two_pow, Nat.testBit_mod_two_pow]
  by_cases h1 : lo ≤ j <;> by_cases h2 : j < lo + w <;> simp [h1, h2, hj] <;> omega

/-- A field reads as what was written to it, in its width. -/
theorem fieldOf_withField_same (lo w : Nat) (x : Word) (v : Nat) (h : lo + w ≤ 32) :
    fieldOf lo w (withField lo w x v) = v % 2 ^ w := by
  apply Nat.eq_of_testBit_eq
  intro i
  rw [fieldOf_testBit, Nat.testBit_mod_two_pow]
  by_cases hi : i < w
  · rw [withField_getLsbD _ _ _ _ _ (by omega)]; simp [hi]
  · simp [hi]

/-- A field apart from the one written reads as before. -/
theorem fieldOf_withField_ne (lo w lo' w' : Nat) (x : Word) (v : Nat) (h : lo' + w' ≤ lo ∨ lo + w ≤ lo') :
    fieldOf lo' w' (withField lo w x v) = fieldOf lo' w' x := by
  apply Nat.eq_of_testBit_eq
  intro i
  rw [fieldOf_testBit, fieldOf_testBit]
  by_cases hi : i < w'
  · by_cases hj : lo' + i < 32
    · rw [withField_getLsbD _ _ _ _ _ hj, if_neg (by omega)]
    · simp [BitVec.getLsbD_of_ge _ _ (Nat.le_of_not_lt hj)]
  · simp [hi]

/-! ### Register words -/

@[simp] theorem word_setWord_same (s : State) (k : Nat) (w : Word) : (s.setWord k w).word k = w := by
  simp [State.word, State.setWord]

theorem word_setWord_ne (s : State) {k k' : Nat} (w : Word) (h : k' ≠ k) : (s.setWord k w).word k' = s.word k' := by
  simp [State.word, State.setWord, spGet_spSet_ne _ _ _ h]

/-- A register field reads as what was written to it. -/
theorem rd2_wr2_same (s : State) (f : Fld) (i j v : Nat) (h : f.lo + f.w ≤ 32) : (s.wr2 f i j v).rd2 f i j = v % 2 ^ f.w := by
  simp [State.rd2, State.wr2, fieldOf_withField_same _ _ _ _ h]

theorem rd_wr_same (s : State) (f : Fld) (i v : Nat) (h : f.lo + f.w ≤ 32) : (s.wr f i v).rd f i = v % 2 ^ f.w :=
  rd2_wr2_same s f i 0 v h

/-- Another register field, in another word or apart from the one written, reads as before. -/
theorem rd2_wr2_ne (s : State) (f g : Fld) (i j i' j' v : Nat)
    (h : g.key i' j' ≠ f.key i j ∨ g.lo + g.w ≤ f.lo ∨ f.lo + f.w ≤ g.lo) : (s.wr2 f i j v).rd2 g i' j' = s.rd2 g i' j' := by
  by_cases hk : g.key i' j' = f.key i j
  · simp only [State.rd2, State.wr2, hk, word_setWord_same]
    exact fieldOf_withField_ne _ _ _ _ _ _ (by tauto)
  · simp [State.rd2, State.wr2, word_setWord_ne _ _ hk]

theorem rd_wr_ne (s : State) (f g : Fld) (i i' v : Nat)
    (h : g.key i' 0 ≠ f.key i 0 ∨ g.lo + g.w ≤ f.lo ∨ f.lo + f.w ≤ g.lo) : (s.wr f i v).rd g i' = s.rd g i' :=
  rd2_wr2_ne s f g i 0 i' 0 v h

theorem word_wr_ne (s : State) (f : Fld) (i v : Nat) {k : Nat} (h : k ≠ f.key i 0) : (s.wr f i v).word k = s.word k := by
  simp [State.wr, State.wr2, word_setWord_ne _ _ h]

/-- A write of a field changes the register words only. -/
theorem wr_eq (s : State) (f : Fld) (i v : Nat) : s.wr f i v = s.setRegs (s.wr f i v).regs := by
  cases s; rfl

/-! ### Lists of updates -/

/-- What every update of a list leaves alone, the whole list leaves alone. -/
theorem each_keeps {α β : Type} (g : State → β) (l : List α) (f : State → α → State) (s : State)
    (h : ∀ s a, g (f s a) = g s) : g (s.each l f) = g s := by
  induction l generalizing s with
  | nil => rfl
  | cons a l ih => exact (ih (f s a)).trans (h s a)

/-- A property that every update of a list keeps, the whole list keeps. -/
theorem each_inv {α : Type} (P : State → Prop) (l : List α) (f : State → α → State) (s : State)
    (h : ∀ s a, P s → P (f s a)) (hs : P s) : P (s.each l f) := by
  induction l generalizing s with
  | nil => exact hs
  | cons a l ih => exact ih (f s a) (h s a hs)

@[simp] theorem each_nil {α : Type} (s : State) (f : State → α → State) : s.each [] f = s := rfl

@[simp] theorem each_cons {α : Type} (s : State) (a : α) (l : List α) (f : State → α → State) :
    s.each (a :: l) f = (f s a).each l f := rfl

/-! ### Events -/

/-- An event changes register words, the write-back memory of its status word and the interrupt request of the bus, nothing else. -/
theorem raise_eq (s : State) (f : Fld) (i : Nat) :
    s.raise f i = ((s.setRegs (s.raise f i).regs).setWb (s.raise f i).wb).setBus (s.raise f i).bus := by
  unfold State.raise
  cases s
  dsimp only
  repeat' split
  all_goals rfl


@[simp] theorem raise_now (s : State) (f : Fld) (i : Nat) : (s.raise f i).now = s.now := by rw [raise_eq]; simp

@[simp] theorem raise_freeIx (s : State) (f : Fld) (i : Nat) : (s.raise f i).freeIx = s.freeIx := by rw [raise_eq]; simp

@[simp] theorem raise_pending (s : State) (f : Fld) (i : Nat) : (s.raise f i).pending = s.pending := by rw [raise_eq]; simp

@[simp] theorem raise_inForce (s : State) (f : Fld) (i : Nat) : (s.raise f i).inForce = s.inForce := by rw [raise_eq]; simp

@[simp] theorem raise_shadow (s : State) (f : Fld) (i : Nat) : (s.raise f i).shadow = s.shadow := by rw [raise_eq]; simp

@[simp] theorem raise_mbxOrder (s : State) (f : Fld) (i : Nat) : (s.raise f i).mbxOrder = s.mbxOrder := by rw [raise_eq]; simp

@[simp] theorem raise_staging (s : State) (f : Fld) (i : Nat) : (s.raise f i).staging = s.staging := by rw [raise_eq]; simp

@[simp] theorem raise_jobs (s : State) (f : Fld) (i : Nat) : (s.raise f i).jobs = s.jobs := by rw [raise_eq]; simp

@[simp] theorem raise_binds (s : State) (f : Fld) (i : Nat) : (s.raise f i).binds = s.binds := by rw [raise_eq]; simp

@[simp] theorem raise_batches (s : State) (f : Fld) (i : Nat) : (s.raise f i).batches = s.batches := by rw [raise_eq]; simp

@[simp] theorem raise_tagsHeld (s : State) (f : Fld) (i : Nat) : (s.raise f i).tagsHeld = s.tagsHeld := by rw [raise_eq]; simp

@[simp] theorem raise_tagAt (s : State) (f : Fld) (i : Nat) : (s.raise f i).tagAt = s.tagAt := by rw [raise_eq]; simp

@[simp] theorem raise_arrived (s : State) (f : Fld) (i : Nat) : (s.raise f i).arrived = s.arrived := by rw [raise_eq]; simp

@[simp] theorem raise_outs (s : State) (f : Fld) (i : Nat) : (s.raise f i).outs = s.outs := by rw [raise_eq]; simp

@[simp] theorem raise_recQ (s : State) (f : Fld) (i : Nat) : (s.raise f i).recQ = s.recQ := by rw [raise_eq]; simp

@[simp] theorem raise_recSeq (s : State) (f : Fld) (i : Nat) : (s.raise f i).recSeq = s.recSeq := by rw [raise_eq]; simp

@[simp] theorem raise_tx (s : State) (f : Fld) (i : Nat) : (s.raise f i).tx = s.tx := by rw [raise_eq]; simp

@[simp] theorem raise_chans (s : State) (f : Fld) (i : Nat) : (s.raise f i).chans = s.chans := by rw [raise_eq]; simp

@[simp] theorem raise_ingest (s : State) (f : Fld) (i : Nat) : (s.raise f i).ingest = s.ingest := by rw [raise_eq]; simp

@[simp] theorem raise_drops (s : State) (f : Fld) (i : Nat) : (s.raise f i).drops = s.drops := by rw [raise_eq]; simp

@[simp] theorem raise_misses (s : State) (f : Fld) (i : Nat) : (s.raise f i).misses = s.misses := by rw [raise_eq]; simp

@[simp] theorem raise_arms (s : State) (f : Fld) (i : Nat) : (s.raise f i).arms = s.arms := by rw [raise_eq]; simp

@[simp] theorem raise_bulk (s : State) (f : Fld) (i : Nat) : (s.raise f i).bulk = s.bulk := by rw [raise_eq]; simp

@[simp] theorem raise_rxAt (s : State) (f : Fld) (i : Nat) : (s.raise f i).rxAt = s.rxAt := by rw [raise_eq]; simp

@[simp] theorem raise_fabric (s : State) (f : Fld) (i : Nat) : (s.raise f i).fabric = s.fabric := by rw [raise_eq]; simp

@[simp] theorem raise_grantRr (s : State) (f : Fld) (i : Nat) : (s.raise f i).grantRr = s.grantRr := by rw [raise_eq]; simp

@[simp] theorem raise_slots (s : State) (f : Fld) (i : Nat) : (s.raise f i).slots = s.slots := by rw [raise_eq]; simp

@[simp] theorem raise_ptes (s : State) (f : Fld) (i : Nat) : (s.raise f i).ptes = s.ptes := by rw [raise_eq]; simp

@[simp] theorem raise_time (s : State) (f : Fld) (i : Nat) : (s.raise f i).time = s.time := by rw [raise_eq]; simp

@[simp] theorem raise_halt (s : State) (f : Fld) (i : Nat) : (s.raise f i).halt = s.halt := by rw [raise_eq]; simp

@[simp] theorem raise_sram (s : State) (f : Fld) (i : Nat) : (s.raise f i).sram = s.sram := by rw [raise_eq]; simp

@[simp] theorem raise_pageUe (s : State) (f : Fld) (i : Nat) : (s.raise f i).pageUe = s.pageUe := by rw [raise_eq]; simp

@[simp] theorem raise_unitUe (s : State) (f : Fld) (i : Nat) : (s.raise f i).unitUe = s.unitUe := by rw [raise_eq]; simp

@[simp] theorem raise_retired (s : State) (f : Fld) (i : Nat) : (s.raise f i).retired = s.retired := by rw [raise_eq]; simp

@[simp] theorem raise_cluOut (s : State) (f : Fld) (i : Nat) : (s.raise f i).cluOut = s.cluOut := by rw [raise_eq]; simp

@[simp] theorem raise_plant (s : State) (f : Fld) (i : Nat) : (s.raise f i).plant = s.plant := by rw [raise_eq]; simp

@[simp] theorem raise_tiles (s : State) (f : Fld) (i : Nat) : (s.raise f i).tiles = s.tiles := by rw [raise_eq]; simp

@[simp] theorem raise_cells (s : State) (f : Fld) (i : Nat) : (s.raise f i).cells = s.cells := by rw [raise_eq]; simp

@[simp] theorem raise_occ (s : State) (f : Fld) (i : Nat) : (s.raise f i).occ = s.occ := by rw [raise_eq]; simp

@[simp] theorem raise_tcal (s : State) (f : Fld) (i : Nat) : (s.raise f i).tcal = s.tcal := by rw [raise_eq]; simp

@[simp] theorem raise_recur (s : State) (f : Fld) (i : Nat) : (s.raise f i).recur = s.recur := by rw [raise_eq]; simp

@[simp] theorem raise_stDone (s : State) (f : Fld) (i : Nat) : (s.raise f i).stDone = s.stDone := by rw [raise_eq]; simp

@[simp] theorem raise_chips (s : State) (f : Fld) (i : Nat) : (s.raise f i).chips = s.chips := by rw [raise_eq]; simp

@[simp] theorem raise_meshTbl (s : State) (f : Fld) (i : Nat) : (s.raise f i).meshTbl = s.meshTbl := by rw [raise_eq]; simp

@[simp] theorem raise_rings (s : State) (f : Fld) (i : Nat) : (s.raise f i).rings = s.rings := by rw [raise_eq]; simp

@[simp] theorem raise_lanes (s : State) (f : Fld) (i : Nat) : (s.raise f i).lanes = s.lanes := by rw [raise_eq]; simp

@[simp] theorem raise_dirs (s : State) (f : Fld) (i : Nat) : (s.raise f i).dirs = s.dirs := by rw [raise_eq]; simp

@[simp] theorem raise_mons (s : State) (f : Fld) (i : Nat) : (s.raise f i).mons = s.mons := by rw [raise_eq]; simp

@[simp] theorem raise_halves (s : State) (f : Fld) (i : Nat) : (s.raise f i).halves = s.halves := by rw [raise_eq]; simp

@[simp] theorem raise_exts (s : State) (f : Fld) (i : Nat) : (s.raise f i).exts = s.exts := by rw [raise_eq]; simp

@[simp] theorem raise_feedFwd (s : State) (f : Fld) (i : Nat) : (s.raise f i).feedFwd = s.feedFwd := by rw [raise_eq]; simp

@[simp] theorem raise_splitAt (s : State) (f : Fld) (i : Nat) : (s.raise f i).splitAt = s.splitAt := by rw [raise_eq]; simp

@[simp] theorem raise_returnAt (s : State) (f : Fld) (i : Nat) : (s.raise f i).returnAt = s.returnAt := by rw [raise_eq]; simp

@[simp] theorem raise_store (s : State) (f : Fld) (i : Nat) : (s.raise f i).store = s.store := by rw [raise_eq]; simp

@[simp] theorem raise_writes (s : State) (f : Fld) (i : Nat) : (s.raise f i).writes = s.writes := by rw [raise_eq]; simp

@[simp] theorem raise_stages (s : State) (f : Fld) (i : Nat) : (s.raise f i).stages = s.stages := by rw [raise_eq]; simp

@[simp] theorem raise_quads (s : State) (f : Fld) (i : Nat) : (s.raise f i).quads = s.quads := by rw [raise_eq]; simp

@[simp] theorem raise_homework (s : State) (f : Fld) (i : Nat) : (s.raise f i).homework = s.homework := by rw [raise_eq]; simp

@[simp] theorem raise_firstForm (s : State) (f : Fld) (i : Nat) : (s.raise f i).firstForm = s.firstForm := by rw [raise_eq]; simp

@[simp] theorem raise_readbackAt (s : State) (f : Fld) (i : Nat) : (s.raise f i).readbackAt = s.readbackAt := by rw [raise_eq]; simp

@[simp] theorem raise_loadWait (s : State) (f : Fld) (i : Nat) : (s.raise f i).loadWait = s.loadWait := by rw [raise_eq]; simp

@[simp] theorem raise_feedMove (s : State) (f : Fld) (i : Nat) : (s.raise f i).feedMove = s.feedMove := by rw [raise_eq]; simp

@[simp] theorem raise_bridgeBuild (s : State) (f : Fld) (i : Nat) : (s.raise f i).bridgeBuild = s.bridgeBuild := by rw [raise_eq]; simp

@[simp] theorem raise_clk (s : State) (f : Fld) (i : Nat) : (s.raise f i).clk = s.clk := by rw [raise_eq]; simp

@[simp] theorem raise_pwr (s : State) (f : Fld) (i : Nat) : (s.raise f i).pwr = s.pwr := by rw [raise_eq]; simp

@[simp] theorem raise_sensors (s : State) (f : Fld) (i : Nat) : (s.raise f i).sensors = s.sensors := by rw [raise_eq]; simp

@[simp] theorem raise_nvArr (s : State) (f : Fld) (i : Nat) : (s.raise f i).nvArr = s.nvArr := by rw [raise_eq]; simp

@[simp] theorem raise_nvShadow (s : State) (f : Fld) (i : Nat) : (s.raise f i).nvShadow = s.nvShadow := by rw [raise_eq]; simp

@[simp] theorem raise_nvRun (s : State) (f : Fld) (i : Nat) : (s.raise f i).nvRun = s.nvRun := by rw [raise_eq]; simp

@[simp] theorem raise_boot (s : State) (f : Fld) (i : Nat) : (s.raise f i).boot = s.boot := by rw [raise_eq]; simp

@[simp] theorem raise_fw (s : State) (f : Fld) (i : Nat) : (s.raise f i).fw = s.fw := by rw [raise_eq]; simp

@[simp] theorem raise_sup (s : State) (f : Fld) (i : Nat) : (s.raise f i).sup = s.sup := by rw [raise_eq]; simp


/-- An event leaves every register word but its status word and SYS_STAT. -/
theorem raise_word_ne (s : State) (f : Fld) (i : Nat) {k : Nat} (h : k ≠ f.key i 0) (h' : k ≠ 0x4) :
    (s.raise f i).word k = s.word k := by
  have hk : k ≠ R.SYS_STAT_SYS_STATE.key 0 0 := h'
  unfold State.raise
  dsimp only
  repeat' split
  all_goals
    (try rw [word_wr_ne _ _ _ _ hk]); simp only [State.word, State.setWord, State.setRegs_frame, State.setWb_frame, State.setBus_frame,
      spGet_spSet_ne _ _ _ h]

/-- An event leaves every field of other words, but for the state of SYS_STAT. -/
theorem raise_rd_ne (s : State) (f g : Fld) (i i' : Nat) (h : g.key i' 0 ≠ f.key i 0) (h' : g.key i' 0 ≠ 0x4) :
    (s.raise f i).rd g i' = s.rd g i' := by
  simp [State.rd, State.rd2, raise_word_ne s f i h h']

/-- The status word of an event: the field is set and SEQ advances, wrapping from 255 to 0. -/
theorem raise_word_same (s : State) (f : Fld) (i : Nat) (h : f.key i 0 ≠ 0x4) :
    (s.raise f i).word (f.key i 0) =
      withField 0 8 (s.word (f.key i 0) ||| fieldMask f.lo f.w) (fieldOf 0 8 (s.word (f.key i 0) ||| fieldMask f.lo f.w) + 1) := by
  have hk : f.key i 0 ≠ R.SYS_STAT_SYS_STATE.key 0 0 := h
  unfold State.raise
  dsimp only
  repeat' split
  all_goals
    (try rw [word_wr_ne _ _ _ _ hk]); simp only [State.word, State.setWord, State.setRegs_frame, State.setWb_frame, State.setBus_frame,
      spGet_spSet_same]

/-! ### Responses -/

theorem putRsp_eq (s : State) (m w : Nat) (bs : List Byte) (n : Nat) : s.putRsp m w bs n = s.setRegs (s.putRsp m w bs n).regs := by
  induction n generalizing s w bs with
  | zero => cases s; rfl
  | succ n ih =>
    simp only [State.putRsp]
    rw [ih]
    simp only [State.setWord]
    cases s; rfl

theorem respond_tail (s a : State) (f : Fld) (i v m : Nat) (h : a = s.setRegs a.regs) :
    ((a.wr f i v).setMbxOrder ((a.wr f i v).mbxOrder.filter (· != m))).setBus
        { ((a.wr f i v).setMbxOrder ((a.wr f i v).mbxOrder.filter (· != m))).bus with ibiMbx := true } =
      ((s.setRegs (a.wr f i v).regs).setMbxOrder (s.mbxOrder.filter (· != m))).setBus { s.bus with ibiMbx := true } := by
  rw [wr_eq a f i v]
  generalize (a.wr f i v).regs = r
  generalize a.regs = q at h
  subst h
  cases s
  rfl

/-- A response changes register words, the order of doorbells and the interrupt request of the bus, nothing else. -/
theorem respond_eq (s : State) (m : Nat) (st : Status) (d : Nat) (data : List Byte) :
    s.respond m st d data =
      ((s.setRegs (s.respond m st d data).regs).setMbxOrder (s.mbxOrder.filter (· != m))).setBus { s.bus with ibiMbx := true } := by
  have h : ∃ r, s.respond m st d data =
      ((s.setRegs r).setMbxOrder (s.mbxOrder.filter (· != m))).setBus { s.bus with ibiMbx := true } :=
    ⟨_, respond_tail s _ _ _ _ m (putRsp_eq s m 0 _ 16)⟩
  obtain ⟨r, h⟩ := h
  rw [h]
  simp


@[simp] theorem respond_now (s : State) (m : Nat) (st : Status) (d : Nat) (data : List Byte) : (s.respond m st d data).now = s.now := by
  rw [respond_eq]; simp

@[simp] theorem respond_freeIx (s : State) (m : Nat) (st : Status) (d : Nat) (data : List Byte) : (s.respond m st d data).freeIx = s.freeIx := by
  rw [respond_eq]; simp

@[simp] theorem respond_pending (s : State) (m : Nat) (st : Status) (d : Nat) (data : List Byte) : (s.respond m st d data).pending = s.pending := by
  rw [respond_eq]; simp

@[simp] theorem respond_inForce (s : State) (m : Nat) (st : Status) (d : Nat) (data : List Byte) : (s.respond m st d data).inForce = s.inForce := by
  rw [respond_eq]; simp

@[simp] theorem respond_wb (s : State) (m : Nat) (st : Status) (d : Nat) (data : List Byte) : (s.respond m st d data).wb = s.wb := by
  rw [respond_eq]; simp

@[simp] theorem respond_shadow (s : State) (m : Nat) (st : Status) (d : Nat) (data : List Byte) : (s.respond m st d data).shadow = s.shadow := by
  rw [respond_eq]; simp

@[simp] theorem respond_staging (s : State) (m : Nat) (st : Status) (d : Nat) (data : List Byte) : (s.respond m st d data).staging = s.staging := by
  rw [respond_eq]; simp

@[simp] theorem respond_jobs (s : State) (m : Nat) (st : Status) (d : Nat) (data : List Byte) : (s.respond m st d data).jobs = s.jobs := by
  rw [respond_eq]; simp

@[simp] theorem respond_binds (s : State) (m : Nat) (st : Status) (d : Nat) (data : List Byte) : (s.respond m st d data).binds = s.binds := by
  rw [respond_eq]; simp

@[simp] theorem respond_batches (s : State) (m : Nat) (st : Status) (d : Nat) (data : List Byte) : (s.respond m st d data).batches = s.batches := by
  rw [respond_eq]; simp

@[simp] theorem respond_tagsHeld (s : State) (m : Nat) (st : Status) (d : Nat) (data : List Byte) : (s.respond m st d data).tagsHeld = s.tagsHeld := by
  rw [respond_eq]; simp

@[simp] theorem respond_tagAt (s : State) (m : Nat) (st : Status) (d : Nat) (data : List Byte) : (s.respond m st d data).tagAt = s.tagAt := by
  rw [respond_eq]; simp

@[simp] theorem respond_arrived (s : State) (m : Nat) (st : Status) (d : Nat) (data : List Byte) : (s.respond m st d data).arrived = s.arrived := by
  rw [respond_eq]; simp

@[simp] theorem respond_outs (s : State) (m : Nat) (st : Status) (d : Nat) (data : List Byte) : (s.respond m st d data).outs = s.outs := by
  rw [respond_eq]; simp

@[simp] theorem respond_recQ (s : State) (m : Nat) (st : Status) (d : Nat) (data : List Byte) : (s.respond m st d data).recQ = s.recQ := by
  rw [respond_eq]; simp

@[simp] theorem respond_recSeq (s : State) (m : Nat) (st : Status) (d : Nat) (data : List Byte) : (s.respond m st d data).recSeq = s.recSeq := by
  rw [respond_eq]; simp

@[simp] theorem respond_tx (s : State) (m : Nat) (st : Status) (d : Nat) (data : List Byte) : (s.respond m st d data).tx = s.tx := by
  rw [respond_eq]; simp

@[simp] theorem respond_chans (s : State) (m : Nat) (st : Status) (d : Nat) (data : List Byte) : (s.respond m st d data).chans = s.chans := by
  rw [respond_eq]; simp

@[simp] theorem respond_ingest (s : State) (m : Nat) (st : Status) (d : Nat) (data : List Byte) : (s.respond m st d data).ingest = s.ingest := by
  rw [respond_eq]; simp

@[simp] theorem respond_drops (s : State) (m : Nat) (st : Status) (d : Nat) (data : List Byte) : (s.respond m st d data).drops = s.drops := by
  rw [respond_eq]; simp

@[simp] theorem respond_misses (s : State) (m : Nat) (st : Status) (d : Nat) (data : List Byte) : (s.respond m st d data).misses = s.misses := by
  rw [respond_eq]; simp

@[simp] theorem respond_arms (s : State) (m : Nat) (st : Status) (d : Nat) (data : List Byte) : (s.respond m st d data).arms = s.arms := by
  rw [respond_eq]; simp

@[simp] theorem respond_bulk (s : State) (m : Nat) (st : Status) (d : Nat) (data : List Byte) : (s.respond m st d data).bulk = s.bulk := by
  rw [respond_eq]; simp

@[simp] theorem respond_rxAt (s : State) (m : Nat) (st : Status) (d : Nat) (data : List Byte) : (s.respond m st d data).rxAt = s.rxAt := by
  rw [respond_eq]; simp

@[simp] theorem respond_fabric (s : State) (m : Nat) (st : Status) (d : Nat) (data : List Byte) : (s.respond m st d data).fabric = s.fabric := by
  rw [respond_eq]; simp

@[simp] theorem respond_grantRr (s : State) (m : Nat) (st : Status) (d : Nat) (data : List Byte) : (s.respond m st d data).grantRr = s.grantRr := by
  rw [respond_eq]; simp

@[simp] theorem respond_slots (s : State) (m : Nat) (st : Status) (d : Nat) (data : List Byte) : (s.respond m st d data).slots = s.slots := by
  rw [respond_eq]; simp

@[simp] theorem respond_ptes (s : State) (m : Nat) (st : Status) (d : Nat) (data : List Byte) : (s.respond m st d data).ptes = s.ptes := by
  rw [respond_eq]; simp

@[simp] theorem respond_time (s : State) (m : Nat) (st : Status) (d : Nat) (data : List Byte) : (s.respond m st d data).time = s.time := by
  rw [respond_eq]; simp

@[simp] theorem respond_halt (s : State) (m : Nat) (st : Status) (d : Nat) (data : List Byte) : (s.respond m st d data).halt = s.halt := by
  rw [respond_eq]; simp

@[simp] theorem respond_sram (s : State) (m : Nat) (st : Status) (d : Nat) (data : List Byte) : (s.respond m st d data).sram = s.sram := by
  rw [respond_eq]; simp

@[simp] theorem respond_pageUe (s : State) (m : Nat) (st : Status) (d : Nat) (data : List Byte) : (s.respond m st d data).pageUe = s.pageUe := by
  rw [respond_eq]; simp

@[simp] theorem respond_unitUe (s : State) (m : Nat) (st : Status) (d : Nat) (data : List Byte) : (s.respond m st d data).unitUe = s.unitUe := by
  rw [respond_eq]; simp

@[simp] theorem respond_retired (s : State) (m : Nat) (st : Status) (d : Nat) (data : List Byte) : (s.respond m st d data).retired = s.retired := by
  rw [respond_eq]; simp

@[simp] theorem respond_cluOut (s : State) (m : Nat) (st : Status) (d : Nat) (data : List Byte) : (s.respond m st d data).cluOut = s.cluOut := by
  rw [respond_eq]; simp

@[simp] theorem respond_plant (s : State) (m : Nat) (st : Status) (d : Nat) (data : List Byte) : (s.respond m st d data).plant = s.plant := by
  rw [respond_eq]; simp

@[simp] theorem respond_tiles (s : State) (m : Nat) (st : Status) (d : Nat) (data : List Byte) : (s.respond m st d data).tiles = s.tiles := by
  rw [respond_eq]; simp

@[simp] theorem respond_cells (s : State) (m : Nat) (st : Status) (d : Nat) (data : List Byte) : (s.respond m st d data).cells = s.cells := by
  rw [respond_eq]; simp

@[simp] theorem respond_occ (s : State) (m : Nat) (st : Status) (d : Nat) (data : List Byte) : (s.respond m st d data).occ = s.occ := by
  rw [respond_eq]; simp

@[simp] theorem respond_tcal (s : State) (m : Nat) (st : Status) (d : Nat) (data : List Byte) : (s.respond m st d data).tcal = s.tcal := by
  rw [respond_eq]; simp

@[simp] theorem respond_recur (s : State) (m : Nat) (st : Status) (d : Nat) (data : List Byte) : (s.respond m st d data).recur = s.recur := by
  rw [respond_eq]; simp

@[simp] theorem respond_stDone (s : State) (m : Nat) (st : Status) (d : Nat) (data : List Byte) : (s.respond m st d data).stDone = s.stDone := by
  rw [respond_eq]; simp

@[simp] theorem respond_chips (s : State) (m : Nat) (st : Status) (d : Nat) (data : List Byte) : (s.respond m st d data).chips = s.chips := by
  rw [respond_eq]; simp

@[simp] theorem respond_meshTbl (s : State) (m : Nat) (st : Status) (d : Nat) (data : List Byte) : (s.respond m st d data).meshTbl = s.meshTbl := by
  rw [respond_eq]; simp

@[simp] theorem respond_rings (s : State) (m : Nat) (st : Status) (d : Nat) (data : List Byte) : (s.respond m st d data).rings = s.rings := by
  rw [respond_eq]; simp

@[simp] theorem respond_lanes (s : State) (m : Nat) (st : Status) (d : Nat) (data : List Byte) : (s.respond m st d data).lanes = s.lanes := by
  rw [respond_eq]; simp

@[simp] theorem respond_dirs (s : State) (m : Nat) (st : Status) (d : Nat) (data : List Byte) : (s.respond m st d data).dirs = s.dirs := by
  rw [respond_eq]; simp

@[simp] theorem respond_mons (s : State) (m : Nat) (st : Status) (d : Nat) (data : List Byte) : (s.respond m st d data).mons = s.mons := by
  rw [respond_eq]; simp

@[simp] theorem respond_halves (s : State) (m : Nat) (st : Status) (d : Nat) (data : List Byte) : (s.respond m st d data).halves = s.halves := by
  rw [respond_eq]; simp

@[simp] theorem respond_exts (s : State) (m : Nat) (st : Status) (d : Nat) (data : List Byte) : (s.respond m st d data).exts = s.exts := by
  rw [respond_eq]; simp

@[simp] theorem respond_feedFwd (s : State) (m : Nat) (st : Status) (d : Nat) (data : List Byte) : (s.respond m st d data).feedFwd = s.feedFwd := by
  rw [respond_eq]; simp

@[simp] theorem respond_splitAt (s : State) (m : Nat) (st : Status) (d : Nat) (data : List Byte) : (s.respond m st d data).splitAt = s.splitAt := by
  rw [respond_eq]; simp

@[simp] theorem respond_returnAt (s : State) (m : Nat) (st : Status) (d : Nat) (data : List Byte) : (s.respond m st d data).returnAt = s.returnAt := by
  rw [respond_eq]; simp

@[simp] theorem respond_store (s : State) (m : Nat) (st : Status) (d : Nat) (data : List Byte) : (s.respond m st d data).store = s.store := by
  rw [respond_eq]; simp

@[simp] theorem respond_writes (s : State) (m : Nat) (st : Status) (d : Nat) (data : List Byte) : (s.respond m st d data).writes = s.writes := by
  rw [respond_eq]; simp

@[simp] theorem respond_stages (s : State) (m : Nat) (st : Status) (d : Nat) (data : List Byte) : (s.respond m st d data).stages = s.stages := by
  rw [respond_eq]; simp

@[simp] theorem respond_quads (s : State) (m : Nat) (st : Status) (d : Nat) (data : List Byte) : (s.respond m st d data).quads = s.quads := by
  rw [respond_eq]; simp

@[simp] theorem respond_homework (s : State) (m : Nat) (st : Status) (d : Nat) (data : List Byte) : (s.respond m st d data).homework = s.homework := by
  rw [respond_eq]; simp

@[simp] theorem respond_firstForm (s : State) (m : Nat) (st : Status) (d : Nat) (data : List Byte) : (s.respond m st d data).firstForm = s.firstForm := by
  rw [respond_eq]; simp

@[simp] theorem respond_readbackAt (s : State) (m : Nat) (st : Status) (d : Nat) (data : List Byte) : (s.respond m st d data).readbackAt = s.readbackAt := by
  rw [respond_eq]; simp

@[simp] theorem respond_loadWait (s : State) (m : Nat) (st : Status) (d : Nat) (data : List Byte) : (s.respond m st d data).loadWait = s.loadWait := by
  rw [respond_eq]; simp

@[simp] theorem respond_feedMove (s : State) (m : Nat) (st : Status) (d : Nat) (data : List Byte) : (s.respond m st d data).feedMove = s.feedMove := by
  rw [respond_eq]; simp

@[simp] theorem respond_bridgeBuild (s : State) (m : Nat) (st : Status) (d : Nat) (data : List Byte) : (s.respond m st d data).bridgeBuild = s.bridgeBuild := by
  rw [respond_eq]; simp

@[simp] theorem respond_clk (s : State) (m : Nat) (st : Status) (d : Nat) (data : List Byte) : (s.respond m st d data).clk = s.clk := by
  rw [respond_eq]; simp

@[simp] theorem respond_pwr (s : State) (m : Nat) (st : Status) (d : Nat) (data : List Byte) : (s.respond m st d data).pwr = s.pwr := by
  rw [respond_eq]; simp

@[simp] theorem respond_sensors (s : State) (m : Nat) (st : Status) (d : Nat) (data : List Byte) : (s.respond m st d data).sensors = s.sensors := by
  rw [respond_eq]; simp

@[simp] theorem respond_nvArr (s : State) (m : Nat) (st : Status) (d : Nat) (data : List Byte) : (s.respond m st d data).nvArr = s.nvArr := by
  rw [respond_eq]; simp

@[simp] theorem respond_nvShadow (s : State) (m : Nat) (st : Status) (d : Nat) (data : List Byte) : (s.respond m st d data).nvShadow = s.nvShadow := by
  rw [respond_eq]; simp

@[simp] theorem respond_nvRun (s : State) (m : Nat) (st : Status) (d : Nat) (data : List Byte) : (s.respond m st d data).nvRun = s.nvRun := by
  rw [respond_eq]; simp

@[simp] theorem respond_boot (s : State) (m : Nat) (st : Status) (d : Nat) (data : List Byte) : (s.respond m st d data).boot = s.boot := by
  rw [respond_eq]; simp

@[simp] theorem respond_fw (s : State) (m : Nat) (st : Status) (d : Nat) (data : List Byte) : (s.respond m st d data).fw = s.fw := by
  rw [respond_eq]; simp

@[simp] theorem respond_sup (s : State) (m : Nat) (st : Status) (d : Nat) (data : List Byte) : (s.respond m st d data).sup = s.sup := by
  rw [respond_eq]; simp


end Sys2Proof.Machine
end

