-- ==== Sys2Proof/Laws/Mailbox.lean ====
section
/-! SUPPORT. Laws/Mailbox.lean: what a Peade command that begins does, and what its response leaves in the mailbox. -/

namespace Sys2Proof.Machine

/-- The mailbox that begins a command runs. -/
abbrev State.running (s : State) (m : Nat) : State := s.wr R.MBX_STAT_STATE m mbRunning

theorem precheck_off {s : State} {m : Nat} {c : Cmd} {a b g : Bool} (off off' : Nat) (h : s.precheck m c a b g off = none) :
    s.precheck m c a b g off' = none := by
  unfold State.precheck at h ⊢
  dsimp only at h ⊢
  repeat' split at h
  all_goals simp_all

/-- A command that begins does its body with its mailbox RUNNING. -/
theorem peade_begins {s : State} {m code : Nat} {a g e : Bool} (off : Nat) (body : State → State)
    (h : s.begins m code a g e = true) : s.peade m code a g e off body = body (s.running m) := by
  unfold State.begins at h
  simp only [Bool.and_eq_true, Option.any_eq_true] at h
  obtain ⟨⟨⟨h1, h2⟩, h3⟩, c, hc, hp⟩ := h
  rw [Option.isNone_iff_eq_none] at hp
  unfold State.peade
  simp only [h1, h2, h3, Bool.and_self, if_true, hc, precheck_off 0 off hp]

theorem MBX_REQ_key (m w : Nat) : R.MBX_REQ.key m w = 0x10000 + 0x80 * (m % 16) + 4 * (w % 16) := by simp [R.MBX_REQ, Fld.key]
theorem MBX_RSP_key (m w : Nat) : R.MBX_RSP.key m w = 0x10040 + 0x80 * (m % 16) + 4 * (w % 16) := by simp [R.MBX_RSP, Fld.key]
theorem MBX_STAT_key (m : Nat) : R.MBX_STAT_STATE.key m 0 = 0x10840 + 4 * (m % 16) := by simp [R.MBX_STAT_STATE, Fld.key]

/-- The request of a mailbox does not change when its state does. -/
theorem req_running (s : State) (m m' off n : Nat) : (s.running m).req m' off n = s.req m' off n := by
  unfold State.req State.mbBytes State.mbReq
  congr 1
  refine List.map_congr_left fun i hi => ?_
  rw [List.mem_range] at hi
  rw [word_wr_ne]
  rw [MBX_REQ_key, MBX_STAT_key]; omega

theorem putRsp_word_ne (s : State) (m w : Nat) (bs : List Byte) (n : Nat) {k : Nat}
    (h : ∀ j < n, k ≠ R.MBX_RSP.key m (w + j)) : (s.putRsp m w bs n).word k = s.word k := by
  induction n generalizing s w bs with
  | zero => rfl
  | succ n ih =>
    simp only [State.putRsp]
    rw [ih, word_setWord_ne]
    · exact h 0 (by omega)
    intro j hj
    have := h (j + 1) (by omega)
    rwa [show w + 1 + j = w + (j + 1) by omega]

theorem putRsp_word (s : State) (m w : Nat) (bs : List Byte) (n j : Nat) (h : j < n) (hn : w + n ≤ 16) :
    (s.putRsp m w bs n).word (R.MBX_RSP.key m (w + j)) = BitVec.ofNat 32 (leAt (bs.drop (4 * j)) 0 4) := by
  induction n generalizing s w bs j with
  | zero => omega
  | succ n ih =>
    simp only [State.putRsp]
    cases j with
    | zero =>
      rw [putRsp_word_ne]
      · simp
      · intro i _; rw [MBX_RSP_key, MBX_RSP_key]; omega
    | succ j =>
      have := ih (s.setWord (R.MBX_RSP.key m w) (BitVec.ofNat 32 (leAt bs 0 4))) (w + 1) (bs.drop 4) j (by omega) (by omega)
      rw [show w + (j + 1) = w + 1 + j by omega, this, List.drop_drop]
      rw [show 4 + 4 * j = 4 * (j + 1) by omega]

theorem respond_word (s : State) (m : Nat) (st : Status) (d : Nat) (data : List Byte) (k : Nat) :
    (s.respond m st d data).word k = ((s.putRsp m 0
      (leBytes 2 (s.mbCmd m) ++ leBytes 2 (s.req m 2 2) ++ leBytes 1 st.code ++ leBytes 1 data.length ++ leBytes 2 d ++ data) 16).wr
        R.MBX_STAT_STATE m mbDone).word k := by
  simp only [State.respond, State.word, State.setBus_frame, State.setMbxOrder_frame]

/-- A word that is no part of the response of mailbox `m` nor its status is as before a response. -/
theorem respond_word_ne (s : State) (m : Nat) (st : Status) (d : Nat) (data : List Byte) {k : Nat}
    (h : k ≠ 0x10840 + 4 * (m % 16)) (h' : ∀ j < 16, k ≠ 0x10040 + 0x80 * (m % 16) + 4 * j) : (s.respond m st d data).word k = s.word k := by
  rw [respond_word, word_wr_ne _ _ _ _ (by rw [MBX_STAT_key]; exact h), putRsp_word_ne]
  intro j hj
  rw [MBX_RSP_key]; have := h' j hj; omega

theorem respond_rd_ne (s : State) (m : Nat) (st : Status) (d : Nat) (data : List Byte) (f : Fld) (i : Nat)
    (h : f.key i 0 ≠ 0x10840 + 4 * (m % 16)) (h' : ∀ j < 16, f.key i 0 ≠ 0x10040 + 0x80 * (m % 16) + 4 * j) :
    (s.respond m st d data).rd f i = s.rd f i := by
  simp only [State.rd, State.rd2, respond_word_ne s m st d data h h']

theorem leBytes_length (n v : Nat) : (leBytes n v).length = n := by
  induction n generalizing v with
  | zero => rfl
  | succ n ih => simp [leBytes, ih]

/-- A response is what Answers says. -/
theorem respond_answers (s : State) (m : Nat) (st : Status) (d : Nat) (data : List Byte) :
    (s.respond m st d data).Answers m st data := by
  have hw : ∀ j < 16, (s.respond m st d data).word (R.MBX_RSP.key m j) = BitVec.ofNat 32 (leAt
      ((leBytes 2 (s.mbCmd m) ++ leBytes 2 (s.req m 2 2) ++ leBytes 1 st.code ++ leBytes 1 data.length ++ leBytes 2 d ++ data).drop
        (4 * j)) 0 4) := by
    intro j hj
    rw [respond_word, word_wr_ne _ _ _ _ (by rw [MBX_STAT_key, MBX_RSP_key]; omega)]
    have := putRsp_word s m 0 (leBytes 2 (s.mbCmd m) ++ leBytes 2 (s.req m 2 2) ++ leBytes 1 st.code ++ leBytes 1 data.length ++
      leBytes 2 d ++ data) 16 j hj (by omega)
    rw [Nat.zero_add] at this
    exact this
  have h1 : (leBytes 2 (s.mbCmd m) ++ leBytes 2 (s.req m 2 2) ++ leBytes 1 st.code ++ leBytes 1 data.length ++ leBytes 2 d ++ data).drop
      (4 * 1) = leBytes 1 st.code ++ leBytes 1 data.length ++ leBytes 2 d ++ data := by
    simp [leBytes]
  have hs : st.code < 256 := by cases st <;> decide
  refine ⟨?_, ?_, ?_, ?_⟩
  · unfold State.mbState State.rd State.rd2
    rw [respond_word]
    exact (rd_wr_same _ R.MBX_STAT_STATE m mbDone (by decide)).trans (by decide)
  · rw [hw 1 (by omega), h1]
    simp only [fieldOf, leBytes, leAt, bytesAt, leNat, List.cons_append, List.nil_append, List.drop_zero, List.take_succ_cons, List.take_zero,
      List.length_cons, List.length_nil, List.append_nil, BitVec.toNat_ofNat, Nat.pow_zero, Nat.div_one, Nat.zero_add, List.replicate,
      Nat.sub_self, Nat.reduceAdd, Nat.reducePow]
    omega
  · rw [hw 1 (by omega), h1]
    simp only [fieldOf, leBytes, leAt, bytesAt, leNat, List.cons_append, List.nil_append, List.drop_zero, List.take_succ_cons, List.take_zero,
      List.length_cons, List.length_nil, List.append_nil, BitVec.toNat_ofNat, Nat.zero_add, List.replicate,
      Nat.sub_self, Nat.reduceAdd, Nat.reducePow]
    omega
  · intro w hw'
    rw [hw (w + 2) (by omega)]
    congr 2

end Sys2Proof.Machine
end

