-- ==== Sys2Proof/Laws/Keeps.lean ====
section
/-! SUPPORT. Laws/Keeps.lean: what every operation of the machine keeps: the canonical form of the sparse maps, the queue of waiting
commands, and that free values are drawn in order. The files Laws/Keeps*.lean say it of each operation, module by module. -/

namespace Sys2Proof.Machine

/-- What holds of every state reached from `s0` by operations of the machine. -/
structure Good (s0 s : State) : Prop where
  canonical : s0.Canonical → s.Canonical
  queue : s.pending = s0.pending
  draws : s0.freeIx ≤ s.freeIx

theorem Good.refl (s : State) : Good s s := ⟨id, rfl, Nat.le_refl _⟩

theorem good_ite {s0 : State} {c : Prop} [Decidable c] {a b : State} (ha : Good s0 a) (hb : Good s0 b) : Good s0 (if c then a else b) := by
  split <;> assumption

theorem good_ite1 {α : Type} {s0 : State} {c : Prop} [Decidable c] {a b : State × α} (ha : Good s0 a.1) (hb : Good s0 b.1) :
    Good s0 (if c then a else b).1 := by
  split <;> assumption

theorem good_ite2 {α : Type} {s0 : State} {c : Prop} [Decidable c] {a b : α × State} (ha : Good s0 a.2) (hb : Good s0 b.2) :
    Good s0 (if c then a else b).2 := by
  split <;> assumption

theorem good_mk1 {α : Type} {s0 s : State} {a : α} (h : Good s0 s) : Good s0 (s, a).1 := h

theorem good_mk2 {α : Type} {s0 s : State} {a : α} (h : Good s0 s) : Good s0 (a, s).2 := h

theorem good_foldl {α : Type} {s0 : State} {f : State → α → State} {l : List α} {s : State} (h : Good s0 s)
    (hf : ∀ s a, Good s0 s → Good s0 (f s a)) : Good s0 (l.foldl f s) := by
  induction l generalizing s with
  | nil => exact h
  | cons a l ih => exact ih (hf s a h)

theorem good_foldl1 {α β : Type} {s0 : State} {f : State × β → α → State × β} {l : List α} {p : State × β} (h : Good s0 p.1)
    (hf : ∀ p a, Good s0 p.1 → Good s0 (f p a).1) : Good s0 (l.foldl f p).1 := by
  induction l generalizing p with
  | nil => exact h
  | cons a l ih => exact ih (hf p a h)

theorem good_State_setNow {s0 s : State} {v} (h : Good s0 s) : Good s0 (s.setNow v) := by
  obtain ⟨h1, h2, h3⟩ := h
  refine ⟨fun c => ?_, h2, h3⟩
  obtain ⟨k0, k1, k2, k3, k4, k5, k6, k7, k8, k9, k10, k11, k12, k13, k14, k15, k16, k17, k18, k19, k20, k21, k22, k23, k24, k25, k26, k27, k28, k29, k30, k31, k32, k33, k34, k35, k36, k37, k38, k39⟩ := h1 c
  constructor <;> assumption

theorem good_State_setFreeIx {s0 s : State} {v : Nat} (h : Good s0 s) (hv : s.freeIx ≤ v) : Good s0 (s.setFreeIx v) := by
  obtain ⟨h1, h2, h3⟩ := h
  refine ⟨fun c => ?_, h2, Nat.le_trans h3 hv⟩
  obtain ⟨k0, k1, k2, k3, k4, k5, k6, k7, k8, k9, k10, k11, k12, k13, k14, k15, k16, k17, k18, k19, k20, k21, k22, k23, k24, k25, k26, k27, k28, k29, k30, k31, k32, k33, k34, k35, k36, k37, k38, k39⟩ := h1 c
  constructor <;> assumption

theorem good_State_setRegs {s0 s : State} {v} (h : Good s0 s) (hv : s0.Canonical → spWf regReset v = true) : Good s0 (s.setRegs v) := by
  obtain ⟨h1, h2, h3⟩ := h
  refine ⟨fun c => ?_, h2, h3⟩
  have := hv c
  obtain ⟨k0, k1, k2, k3, k4, k5, k6, k7, k8, k9, k10, k11, k12, k13, k14, k15, k16, k17, k18, k19, k20, k21, k22, k23, k24, k25, k26, k27, k28, k29, k30, k31, k32, k33, k34, k35, k36, k37, k38, k39⟩ := h1 c
  constructor <;> assumption

theorem good_State_setInForce {s0 s : State} {v} (h : Good s0 s) (hv : s0.Canonical → spWf regReset v = true) : Good s0 (s.setInForce v) := by
  obtain ⟨h1, h2, h3⟩ := h
  refine ⟨fun c => ?_, h2, h3⟩
  have := hv c
  obtain ⟨k0, k1, k2, k3, k4, k5, k6, k7, k8, k9, k10, k11, k12, k13, k14, k15, k16, k17, k18, k19, k20, k21, k22, k23, k24, k25, k26, k27, k28, k29, k30, k31, k32, k33, k34, k35, k36, k37, k38, k39⟩ := h1 c
  constructor <;> assumption

theorem good_State_setWb {s0 s : State} {v} (h : Good s0 s) (hv : s0.Canonical → spWf (fun _ => none) v = true) : Good s0 (s.setWb v) := by
  obtain ⟨h1, h2, h3⟩ := h
  refine ⟨fun c => ?_, h2, h3⟩
  have := hv c
  obtain ⟨k0, k1, k2, k3, k4, k5, k6, k7, k8, k9, k10, k11, k12, k13, k14, k15, k16, k17, k18, k19, k20, k21, k22, k23, k24, k25, k26, k27, k28, k29, k30, k31, k32, k33, k34, k35, k36, k37, k38, k39⟩ := h1 c
  constructor <;> assumption

theorem good_State_setShadow {s0 s : State} {v} (h : Good s0 s) (hv : s0.Canonical → spWf (fun _ => none) v = true) : Good s0 (s.setShadow v) := by
  obtain ⟨h1, h2, h3⟩ := h
  refine ⟨fun c => ?_, h2, h3⟩
  have := hv c
  obtain ⟨k0, k1, k2, k3, k4, k5, k6, k7, k8, k9, k10, k11, k12, k13, k14, k15, k16, k17, k18, k19, k20, k21, k22, k23, k24, k25, k26, k27, k28, k29, k30, k31, k32, k33, k34, k35, k36, k37, k38, k39⟩ := h1 c
  constructor <;> assumption

theorem good_State_setBus {s0 s : State} {v} (h : Good s0 s) : Good s0 (s.setBus v) := by
  obtain ⟨h1, h2, h3⟩ := h
  refine ⟨fun c => ?_, h2, h3⟩
  obtain ⟨k0, k1, k2, k3, k4, k5, k6, k7, k8, k9, k10, k11, k12, k13, k14, k15, k16, k17, k18, k19, k20, k21, k22, k23, k24, k25, k26, k27, k28, k29, k30, k31, k32, k33, k34, k35, k36, k37, k38, k39⟩ := h1 c
  constructor <;> assumption

theorem good_State_setMbxOrder {s0 s : State} {v} (h : Good s0 s) : Good s0 (s.setMbxOrder v) := by
  obtain ⟨h1, h2, h3⟩ := h
  refine ⟨fun c => ?_, h2, h3⟩
  obtain ⟨k0, k1, k2, k3, k4, k5, k6, k7, k8, k9, k10, k11, k12, k13, k14, k15, k16, k17, k18, k19, k20, k21, k22, k23, k24, k25, k26, k27, k28, k29, k30, k31, k32, k33, k34, k35, k36, k37, k38, k39⟩ := h1 c
  constructor <;> assumption

theorem good_State_setStaging {s0 s : State} {v} (h : Good s0 s) (hv : s0.Canonical → Memory.wf v = true) : Good s0 (s.setStaging v) := by
  obtain ⟨h1, h2, h3⟩ := h
  refine ⟨fun c => ?_, h2, h3⟩
  have := hv c
  obtain ⟨k0, k1, k2, k3, k4, k5, k6, k7, k8, k9, k10, k11, k12, k13, k14, k15, k16, k17, k18, k19, k20, k21, k22, k23, k24, k25, k26, k27, k28, k29, k30, k31, k32, k33, k34, k35, k36, k37, k38, k39⟩ := h1 c
  constructor <;> assumption

theorem good_State_setJobs {s0 s : State} {v} (h : Good s0 s) (hv : s0.Canonical → spWf (fun _ => Job.empty) v = true) : Good s0 (s.setJobs v) := by
  obtain ⟨h1, h2, h3⟩ := h
  refine ⟨fun c => ?_, h2, h3⟩
  have := hv c
  obtain ⟨k0, k1, k2, k3, k4, k5, k6, k7, k8, k9, k10, k11, k12, k13, k14, k15, k16, k17, k18, k19, k20, k21, k22, k23, k24, k25, k26, k27, k28, k29, k30, k31, k32, k33, k34, k35, k36, k37, k38, k39⟩ := h1 c
  constructor <;> assumption

theorem good_State_setBinds {s0 s : State} {v} (h : Good s0 s) (hv : s0.Canonical → spWf (fun _ => Bind.none) v = true) : Good s0 (s.setBinds v) := by
  obtain ⟨h1, h2, h3⟩ := h
  refine ⟨fun c => ?_, h2, h3⟩
  have := hv c
  obtain ⟨k0, k1, k2, k3, k4, k5, k6, k7, k8, k9, k10, k11, k12, k13, k14, k15, k16, k17, k18, k19, k20, k21, k22, k23, k24, k25, k26, k27, k28, k29, k30, k31, k32, k33, k34, k35, k36, k37, k38, k39⟩ := h1 c
  constructor <;> assumption

theorem good_State_setBatches {s0 s : State} {v} (h : Good s0 s) : Good s0 (s.setBatches v) := by
  obtain ⟨h1, h2, h3⟩ := h
  refine ⟨fun c => ?_, h2, h3⟩
  obtain ⟨k0, k1, k2, k3, k4, k5, k6, k7, k8, k9, k10, k11, k12, k13, k14, k15, k16, k17, k18, k19, k20, k21, k22, k23, k24, k25, k26, k27, k28, k29, k30, k31, k32, k33, k34, k35, k36, k37, k38, k39⟩ := h1 c
  constructor <;> assumption

theorem good_State_setTagsHeld {s0 s : State} {v} (h : Good s0 s) : Good s0 (s.setTagsHeld v) := by
  obtain ⟨h1, h2, h3⟩ := h
  refine ⟨fun c => ?_, h2, h3⟩
  obtain ⟨k0, k1, k2, k3, k4, k5, k6, k7, k8, k9, k10, k11, k12, k13, k14, k15, k16, k17, k18, k19, k20, k21, k22, k23, k24, k25, k26, k27, k28, k29, k30, k31, k32, k33, k34, k35, k36, k37, k38, k39⟩ := h1 c
  constructor <;> assumption

theorem good_State_setTagAt {s0 s : State} {v} (h : Good s0 s) (hv : s0.Canonical → spWf (fun _ => none) v = true) : Good s0 (s.setTagAt v) := by
  obtain ⟨h1, h2, h3⟩ := h
  refine ⟨fun c => ?_, h2, h3⟩
  have := hv c
  obtain ⟨k0, k1, k2, k3, k4, k5, k6, k7, k8, k9, k10, k11, k12, k13, k14, k15, k16, k17, k18, k19, k20, k21, k22, k23, k24, k25, k26, k27, k28, k29, k30, k31, k32, k33, k34, k35, k36, k37, k38, k39⟩ := h1 c
  constructor <;> assumption

theorem good_State_setArrived {s0 s : State} {v} (h : Good s0 s) : Good s0 (s.setArrived v) := by
  obtain ⟨h1, h2, h3⟩ := h
  refine ⟨fun c => ?_, h2, h3⟩
  obtain ⟨k0, k1, k2, k3, k4, k5, k6, k7, k8, k9, k10, k11, k12, k13, k14, k15, k16, k17, k18, k19, k20, k21, k22, k23, k24, k25, k26, k27, k28, k29, k30, k31, k32, k33, k34, k35, k36, k37, k38, k39⟩ := h1 c
  constructor <;> assumption

theorem good_State_setOuts {s0 s : State} {v} (h : Good s0 s) (hv : s0.Canonical → spWf (fun _ => OutStream.reset) v = true) : Good s0 (s.setOuts v) := by
  obtain ⟨h1, h2, h3⟩ := h
  refine ⟨fun c => ?_, h2, h3⟩
  have := hv c
  obtain ⟨k0, k1, k2, k3, k4, k5, k6, k7, k8, k9, k10, k11, k12, k13, k14, k15, k16, k17, k18, k19, k20, k21, k22, k23, k24, k25, k26, k27, k28, k29, k30, k31, k32, k33, k34, k35, k36, k37, k38, k39⟩ := h1 c
  constructor <;> assumption

theorem good_State_setRecQ {s0 s : State} {v} (h : Good s0 s) : Good s0 (s.setRecQ v) := by
  obtain ⟨h1, h2, h3⟩ := h
  refine ⟨fun c => ?_, h2, h3⟩
  obtain ⟨k0, k1, k2, k3, k4, k5, k6, k7, k8, k9, k10, k11, k12, k13, k14, k15, k16, k17, k18, k19, k20, k21, k22, k23, k24, k25, k26, k27, k28, k29, k30, k31, k32, k33, k34, k35, k36, k37, k38, k39⟩ := h1 c
  constructor <;> assumption

theorem good_State_setRecSeq {s0 s : State} {v} (h : Good s0 s) : Good s0 (s.setRecSeq v) := by
  obtain ⟨h1, h2, h3⟩ := h
  refine ⟨fun c => ?_, h2, h3⟩
  obtain ⟨k0, k1, k2, k3, k4, k5, k6, k7, k8, k9, k10, k11, k12, k13, k14, k15, k16, k17, k18, k19, k20, k21, k22, k23, k24, k25, k26, k27, k28, k29, k30, k31, k32, k33, k34, k35, k36, k37, k38, k39⟩ := h1 c
  constructor <;> assumption

theorem good_State_setTx {s0 s : State} {v} (h : Good s0 s) (hv : s0.Canonical → spWf (fun _ => TxPort.reset) v = true) : Good s0 (s.setTx v) := by
  obtain ⟨h1, h2, h3⟩ := h
  refine ⟨fun c => ?_, h2, h3⟩
  have := hv c
  obtain ⟨k0, k1, k2, k3, k4, k5, k6, k7, k8, k9, k10, k11, k12, k13, k14, k15, k16, k17, k18, k19, k20, k21, k22, k23, k24, k25, k26, k27, k28, k29, k30, k31, k32, k33, k34, k35, k36, k37, k38, k39⟩ := h1 c
  constructor <;> assumption

theorem good_State_setChans {s0 s : State} {v} (h : Good s0 s) (hv : s0.Canonical → spWf (fun _ => Chan.reset) v = true) : Good s0 (s.setChans v) := by
  obtain ⟨h1, h2, h3⟩ := h
  refine ⟨fun c => ?_, h2, h3⟩
  have := hv c
  obtain ⟨k0, k1, k2, k3, k4, k5, k6, k7, k8, k9, k10, k11, k12, k13, k14, k15, k16, k17, k18, k19, k20, k21, k22, k23, k24, k25, k26, k27, k28, k29, k30, k31, k32, k33, k34, k35, k36, k37, k38, k39⟩ := h1 c
  constructor <;> assumption

theorem good_State_setIngest {s0 s : State} {v} (h : Good s0 s) (hv : s0.Canonical → spWf (fun _ => Ingest.reset) v = true) : Good s0 (s.setIngest v) := by
  obtain ⟨h1, h2, h3⟩ := h
  refine ⟨fun c => ?_, h2, h3⟩
  have := hv c
  obtain ⟨k0, k1, k2, k3, k4, k5, k6, k7, k8, k9, k10, k11, k12, k13, k14, k15, k16, k17, k18, k19, k20, k21, k22, k23, k24, k25, k26, k27, k28, k29, k30, k31, k32, k33, k34, k35, k36, k37, k38, k39⟩ := h1 c
  constructor <;> assumption

theorem good_State_setDrops {s0 s : State} {v} (h : Good s0 s) : Good s0 (s.setDrops v) := by
  obtain ⟨h1, h2, h3⟩ := h
  refine ⟨fun c => ?_, h2, h3⟩
  obtain ⟨k0, k1, k2, k3, k4, k5, k6, k7, k8, k9, k10, k11, k12, k13, k14, k15, k16, k17, k18, k19, k20, k21, k22, k23, k24, k25, k26, k27, k28, k29, k30, k31, k32, k33, k34, k35, k36, k37, k38, k39⟩ := h1 c
  constructor <;> assumption

theorem good_State_setMisses {s0 s : State} {v} (h : Good s0 s) : Good s0 (s.setMisses v) := by
  obtain ⟨h1, h2, h3⟩ := h
  refine ⟨fun c => ?_, h2, h3⟩
  obtain ⟨k0, k1, k2, k3, k4, k5, k6, k7, k8, k9, k10, k11, k12, k13, k14, k15, k16, k17, k18, k19, k20, k21, k22, k23, k24, k25, k26, k27, k28, k29, k30, k31, k32, k33, k34, k35, k36, k37, k38, k39⟩ := h1 c
  constructor <;> assumption

theorem good_State_setArms {s0 s : State} {v} (h : Good s0 s) (hv : s0.Canonical → spWf (fun _ => Arm.none) v = true) : Good s0 (s.setArms v) := by
  obtain ⟨h1, h2, h3⟩ := h
  refine ⟨fun c => ?_, h2, h3⟩
  have := hv c
  obtain ⟨k0, k1, k2, k3, k4, k5, k6, k7, k8, k9, k10, k11, k12, k13, k14, k15, k16, k17, k18, k19, k20, k21, k22, k23, k24, k25, k26, k27, k28, k29, k30, k31, k32, k33, k34, k35, k36, k37, k38, k39⟩ := h1 c
  constructor <;> assumption

theorem good_State_setBulk {s0 s : State} {v} (h : Good s0 s) : Good s0 (s.setBulk v) := by
  obtain ⟨h1, h2, h3⟩ := h
  refine ⟨fun c => ?_, h2, h3⟩
  obtain ⟨k0, k1, k2, k3, k4, k5, k6, k7, k8, k9, k10, k11, k12, k13, k14, k15, k16, k17, k18, k19, k20, k21, k22, k23, k24, k25, k26, k27, k28, k29, k30, k31, k32, k33, k34, k35, k36, k37, k38, k39⟩ := h1 c
  constructor <;> assumption

theorem good_State_setRxAt {s0 s : State} {v} (h : Good s0 s) (hv : s0.Canonical → spWf (fun _ => none) v = true) : Good s0 (s.setRxAt v) := by
  obtain ⟨h1, h2, h3⟩ := h
  refine ⟨fun c => ?_, h2, h3⟩
  have := hv c
  obtain ⟨k0, k1, k2, k3, k4, k5, k6, k7, k8, k9, k10, k11, k12, k13, k14, k15, k16, k17, k18, k19, k20, k21, k22, k23, k24, k25, k26, k27, k28, k29, k30, k31, k32, k33, k34, k35, k36, k37, k38, k39⟩ := h1 c
  constructor <;> assumption

theorem good_State_setFabric {s0 s : State} {v} (h : Good s0 s) : Good s0 (s.setFabric v) := by
  obtain ⟨h1, h2, h3⟩ := h
  refine ⟨fun c => ?_, h2, h3⟩
  obtain ⟨k0, k1, k2, k3, k4, k5, k6, k7, k8, k9, k10, k11, k12, k13, k14, k15, k16, k17, k18, k19, k20, k21, k22, k23, k24, k25, k26, k27, k28, k29, k30, k31, k32, k33, k34, k35, k36, k37, k38, k39⟩ := h1 c
  constructor <;> assumption

theorem good_State_setGrantRr {s0 s : State} {v} (h : Good s0 s) (hv : s0.Canonical → spWf grantFirst v = true) : Good s0 (s.setGrantRr v) := by
  obtain ⟨h1, h2, h3⟩ := h
  refine ⟨fun c => ?_, h2, h3⟩
  have := hv c
  obtain ⟨k0, k1, k2, k3, k4, k5, k6, k7, k8, k9, k10, k11, k12, k13, k14, k15, k16, k17, k18, k19, k20, k21, k22, k23, k24, k25, k26, k27, k28, k29, k30, k31, k32, k33, k34, k35, k36, k37, k38, k39⟩ := h1 c
  constructor <;> assumption

theorem good_State_setSlots {s0 s : State} {v} (h : Good s0 s) : Good s0 (s.setSlots v) := by
  obtain ⟨h1, h2, h3⟩ := h
  refine ⟨fun c => ?_, h2, h3⟩
  obtain ⟨k0, k1, k2, k3, k4, k5, k6, k7, k8, k9, k10, k11, k12, k13, k14, k15, k16, k17, k18, k19, k20, k21, k22, k23, k24, k25, k26, k27, k28, k29, k30, k31, k32, k33, k34, k35, k36, k37, k38, k39⟩ := h1 c
  constructor <;> assumption

theorem good_State_setPtes {s0 s : State} {v} (h : Good s0 s) (hv : s0.Canonical → spWf (fun _ => Pte.none) v = true) : Good s0 (s.setPtes v) := by
  obtain ⟨h1, h2, h3⟩ := h
  refine ⟨fun c => ?_, h2, h3⟩
  have := hv c
  obtain ⟨k0, k1, k2, k3, k4, k5, k6, k7, k8, k9, k10, k11, k12, k13, k14, k15, k16, k17, k18, k19, k20, k21, k22, k23, k24, k25, k26, k27, k28, k29, k30, k31, k32, k33, k34, k35, k36, k37, k38, k39⟩ := h1 c
  constructor <;> assumption

theorem good_State_setXlates {s0 s : State} {v} (h : Good s0 s) : Good s0 (s.setXlates v) := by
  obtain ⟨h1, h2, h3⟩ := h
  refine ⟨fun c => ?_, h2, h3⟩
  obtain ⟨k0, k1, k2, k3, k4, k5, k6, k7, k8, k9, k10, k11, k12, k13, k14, k15, k16, k17, k18, k19, k20, k21, k22, k23, k24, k25, k26, k27, k28, k29, k30, k31, k32, k33, k34, k35, k36, k37, k38, k39⟩ := h1 c
  constructor <;> assumption

theorem good_State_setTime {s0 s : State} {v} (h : Good s0 s) : Good s0 (s.setTime v) := by
  obtain ⟨h1, h2, h3⟩ := h
  refine ⟨fun c => ?_, h2, h3⟩
  obtain ⟨k0, k1, k2, k3, k4, k5, k6, k7, k8, k9, k10, k11, k12, k13, k14, k15, k16, k17, k18, k19, k20, k21, k22, k23, k24, k25, k26, k27, k28, k29, k30, k31, k32, k33, k34, k35, k36, k37, k38, k39⟩ := h1 c
  constructor <;> assumption

theorem good_State_setHalt {s0 s : State} {v} (h : Good s0 s) : Good s0 (s.setHalt v) := by
  obtain ⟨h1, h2, h3⟩ := h
  refine ⟨fun c => ?_, h2, h3⟩
  obtain ⟨k0, k1, k2, k3, k4, k5, k6, k7, k8, k9, k10, k11, k12, k13, k14, k15, k16, k17, k18, k19, k20, k21, k22, k23, k24, k25, k26, k27, k28, k29, k30, k31, k32, k33, k34, k35, k36, k37, k38, k39⟩ := h1 c
  constructor <;> assumption

theorem good_State_setSram {s0 s : State} {v} (h : Good s0 s) (hv : s0.Canonical → Memory.wf v = true) : Good s0 (s.setSram v) := by
  obtain ⟨h1, h2, h3⟩ := h
  refine ⟨fun c => ?_, h2, h3⟩
  have := hv c
  obtain ⟨k0, k1, k2, k3, k4, k5, k6, k7, k8, k9, k10, k11, k12, k13, k14, k15, k16, k17, k18, k19, k20, k21, k22, k23, k24, k25, k26, k27, k28, k29, k30, k31, k32, k33, k34, k35, k36, k37, k38, k39⟩ := h1 c
  constructor <;> assumption

theorem good_State_setPageUe {s0 s : State} {v} (h : Good s0 s) (hv : s0.Canonical → spWf (fun _ => none) v = true) : Good s0 (s.setPageUe v) := by
  obtain ⟨h1, h2, h3⟩ := h
  refine ⟨fun c => ?_, h2, h3⟩
  have := hv c
  obtain ⟨k0, k1, k2, k3, k4, k5, k6, k7, k8, k9, k10, k11, k12, k13, k14, k15, k16, k17, k18, k19, k20, k21, k22, k23, k24, k25, k26, k27, k28, k29, k30, k31, k32, k33, k34, k35, k36, k37, k38, k39⟩ := h1 c
  constructor <;> assumption

theorem good_State_setUnitUe {s0 s : State} {v} (h : Good s0 s) (hv : s0.Canonical → spWf (fun _ => none) v = true) : Good s0 (s.setUnitUe v) := by
  obtain ⟨h1, h2, h3⟩ := h
  refine ⟨fun c => ?_, h2, h3⟩
  have := hv c
  obtain ⟨k0, k1, k2, k3, k4, k5, k6, k7, k8, k9, k10, k11, k12, k13, k14, k15, k16, k17, k18, k19, k20, k21, k22, k23, k24, k25, k26, k27, k28, k29, k30, k31, k32, k33, k34, k35, k36, k37, k38, k39⟩ := h1 c
  constructor <;> assumption

theorem good_State_setRetired {s0 s : State} {v} (h : Good s0 s) : Good s0 (s.setRetired v) := by
  obtain ⟨h1, h2, h3⟩ := h
  refine ⟨fun c => ?_, h2, h3⟩
  obtain ⟨k0, k1, k2, k3, k4, k5, k6, k7, k8, k9, k10, k11, k12, k13, k14, k15, k16, k17, k18, k19, k20, k21, k22, k23, k24, k25, k26, k27, k28, k29, k30, k31, k32, k33, k34, k35, k36, k37, k38, k39⟩ := h1 c
  constructor <;> assumption

theorem good_State_setCluOut {s0 s : State} {v} (h : Good s0 s) : Good s0 (s.setCluOut v) := by
  obtain ⟨h1, h2, h3⟩ := h
  refine ⟨fun c => ?_, h2, h3⟩
  obtain ⟨k0, k1, k2, k3, k4, k5, k6, k7, k8, k9, k10, k11, k12, k13, k14, k15, k16, k17, k18, k19, k20, k21, k22, k23, k24, k25, k26, k27, k28, k29, k30, k31, k32, k33, k34, k35, k36, k37, k38, k39⟩ := h1 c
  constructor <;> assumption

theorem good_State_setPlant {s0 s : State} {v} (h : Good s0 s) : Good s0 (s.setPlant v) := by
  obtain ⟨h1, h2, h3⟩ := h
  refine ⟨fun c => ?_, h2, h3⟩
  obtain ⟨k0, k1, k2, k3, k4, k5, k6, k7, k8, k9, k10, k11, k12, k13, k14, k15, k16, k17, k18, k19, k20, k21, k22, k23, k24, k25, k26, k27, k28, k29, k30, k31, k32, k33, k34, k35, k36, k37, k38, k39⟩ := h1 c
  constructor <;> assumption

theorem good_State_setTiles {s0 s : State} {v} (h : Good s0 s) (hv : s0.Canonical → spWf (fun _ => TileRec.reset) v = true) : Good s0 (s.setTiles v) := by
  obtain ⟨h1, h2, h3⟩ := h
  refine ⟨fun c => ?_, h2, h3⟩
  have := hv c
  obtain ⟨k0, k1, k2, k3, k4, k5, k6, k7, k8, k9, k10, k11, k12, k13, k14, k15, k16, k17, k18, k19, k20, k21, k22, k23, k24, k25, k26, k27, k28, k29, k30, k31, k32, k33, k34, k35, k36, k37, k38, k39⟩ := h1 c
  constructor <;> assumption

theorem good_State_setCells {s0 s : State} {v} (h : Good s0 s) (hv : s0.Canonical → spWf (fun _ => Cells.none) v = true) : Good s0 (s.setCells v) := by
  obtain ⟨h1, h2, h3⟩ := h
  refine ⟨fun c => ?_, h2, h3⟩
  have := hv c
  obtain ⟨k0, k1, k2, k3, k4, k5, k6, k7, k8, k9, k10, k11, k12, k13, k14, k15, k16, k17, k18, k19, k20, k21, k22, k23, k24, k25, k26, k27, k28, k29, k30, k31, k32, k33, k34, k35, k36, k37, k38, k39⟩ := h1 c
  constructor <;> assumption

theorem good_State_setOcc {s0 s : State} {v} (h : Good s0 s) (hv : s0.Canonical → spWf (fun _ => Occ.none) v = true) : Good s0 (s.setOcc v) := by
  obtain ⟨h1, h2, h3⟩ := h
  refine ⟨fun c => ?_, h2, h3⟩
  have := hv c
  obtain ⟨k0, k1, k2, k3, k4, k5, k6, k7, k8, k9, k10, k11, k12, k13, k14, k15, k16, k17, k18, k19, k20, k21, k22, k23, k24, k25, k26, k27, k28, k29, k30, k31, k32, k33, k34, k35, k36, k37, k38, k39⟩ := h1 c
  constructor <;> assumption

theorem good_State_setTcal {s0 s : State} {v} (h : Good s0 s) (hv : s0.Canonical → spWf tcalReset v = true) : Good s0 (s.setTcal v) := by
  obtain ⟨h1, h2, h3⟩ := h
  refine ⟨fun c => ?_, h2, h3⟩
  have := hv c
  obtain ⟨k0, k1, k2, k3, k4, k5, k6, k7, k8, k9, k10, k11, k12, k13, k14, k15, k16, k17, k18, k19, k20, k21, k22, k23, k24, k25, k26, k27, k28, k29, k30, k31, k32, k33, k34, k35, k36, k37, k38, k39⟩ := h1 c
  constructor <;> assumption

theorem good_State_setRecur {s0 s : State} {v} (h : Good s0 s) (hv : s0.Canonical → spWf (fun _ => []) v = true) : Good s0 (s.setRecur v) := by
  obtain ⟨h1, h2, h3⟩ := h
  refine ⟨fun c => ?_, h2, h3⟩
  have := hv c
  obtain ⟨k0, k1, k2, k3, k4, k5, k6, k7, k8, k9, k10, k11, k12, k13, k14, k15, k16, k17, k18, k19, k20, k21, k22, k23, k24, k25, k26, k27, k28, k29, k30, k31, k32, k33, k34, k35, k36, k37, k38, k39⟩ := h1 c
  constructor <;> assumption

theorem good_State_setStDone {s0 s : State} {v} (h : Good s0 s) : Good s0 (s.setStDone v) := by
  obtain ⟨h1, h2, h3⟩ := h
  refine ⟨fun c => ?_, h2, h3⟩
  obtain ⟨k0, k1, k2, k3, k4, k5, k6, k7, k8, k9, k10, k11, k12, k13, k14, k15, k16, k17, k18, k19, k20, k21, k22, k23, k24, k25, k26, k27, k28, k29, k30, k31, k32, k33, k34, k35, k36, k37, k38, k39⟩ := h1 c
  constructor <;> assumption

theorem good_State_setChips {s0 s : State} {v} (h : Good s0 s) (hv : s0.Canonical → spWf (fun _ => Chip.reset) v = true) : Good s0 (s.setChips v) := by
  obtain ⟨h1, h2, h3⟩ := h
  refine ⟨fun c => ?_, h2, h3⟩
  have := hv c
  obtain ⟨k0, k1, k2, k3, k4, k5, k6, k7, k8, k9, k10, k11, k12, k13, k14, k15, k16, k17, k18, k19, k20, k21, k22, k23, k24, k25, k26, k27, k28, k29, k30, k31, k32, k33, k34, k35, k36, k37, k38, k39⟩ := h1 c
  constructor <;> assumption

theorem good_State_setMeshTbl {s0 s : State} {v} (h : Good s0 s) (hv : s0.Canonical → spWf meshTblReset v = true) : Good s0 (s.setMeshTbl v) := by
  obtain ⟨h1, h2, h3⟩ := h
  refine ⟨fun c => ?_, h2, h3⟩
  have := hv c
  obtain ⟨k0, k1, k2, k3, k4, k5, k6, k7, k8, k9, k10, k11, k12, k13, k14, k15, k16, k17, k18, k19, k20, k21, k22, k23, k24, k25, k26, k27, k28, k29, k30, k31, k32, k33, k34, k35, k36, k37, k38, k39⟩ := h1 c
  constructor <;> assumption

theorem good_State_setRings {s0 s : State} {v} (h : Good s0 s) (hv : s0.Canonical → spWf (fun _ => Ring.reset) v = true) : Good s0 (s.setRings v) := by
  obtain ⟨h1, h2, h3⟩ := h
  refine ⟨fun c => ?_, h2, h3⟩
  have := hv c
  obtain ⟨k0, k1, k2, k3, k4, k5, k6, k7, k8, k9, k10, k11, k12, k13, k14, k15, k16, k17, k18, k19, k20, k21, k22, k23, k24, k25, k26, k27, k28, k29, k30, k31, k32, k33, k34, k35, k36, k37, k38, k39⟩ := h1 c
  constructor <;> assumption

theorem good_State_setLanes {s0 s : State} {v} (h : Good s0 s) (hv : s0.Canonical → spWf (fun _ => Lane.idle) v = true) : Good s0 (s.setLanes v) := by
  obtain ⟨h1, h2, h3⟩ := h
  refine ⟨fun c => ?_, h2, h3⟩
  have := hv c
  obtain ⟨k0, k1, k2, k3, k4, k5, k6, k7, k8, k9, k10, k11, k12, k13, k14, k15, k16, k17, k18, k19, k20, k21, k22, k23, k24, k25, k26, k27, k28, k29, k30, k31, k32, k33, k34, k35, k36, k37, k38, k39⟩ := h1 c
  constructor <;> assumption

theorem good_State_setDirs {s0 s : State} {v} (h : Good s0 s) (hv : s0.Canonical → spWf (fun _ => BridgeDir.reset) v = true) : Good s0 (s.setDirs v) := by
  obtain ⟨h1, h2, h3⟩ := h
  refine ⟨fun c => ?_, h2, h3⟩
  have := hv c
  obtain ⟨k0, k1, k2, k3, k4, k5, k6, k7, k8, k9, k10, k11, k12, k13, k14, k15, k16, k17, k18, k19, k20, k21, k22, k23, k24, k25, k26, k27, k28, k29, k30, k31, k32, k33, k34, k35, k36, k37, k38, k39⟩ := h1 c
  constructor <;> assumption

theorem good_State_setMons {s0 s : State} {v} (h : Good s0 s) (hv : s0.Canonical → spWf (fun _ => Mon.reset) v = true) : Good s0 (s.setMons v) := by
  obtain ⟨h1, h2, h3⟩ := h
  refine ⟨fun c => ?_, h2, h3⟩
  have := hv c
  obtain ⟨k0, k1, k2, k3, k4, k5, k6, k7, k8, k9, k10, k11, k12, k13, k14, k15, k16, k17, k18, k19, k20, k21, k22, k23, k24, k25, k26, k27, k28, k29, k30, k31, k32, k33, k34, k35, k36, k37, k38, k39⟩ := h1 c
  constructor <;> assumption

theorem good_State_setHalves {s0 s : State} {v} (h : Good s0 s) (hv : s0.Canonical → spWf (fun _ => Half.reset) v = true) : Good s0 (s.setHalves v) := by
  obtain ⟨h1, h2, h3⟩ := h
  refine ⟨fun c => ?_, h2, h3⟩
  have := hv c
  obtain ⟨k0, k1, k2, k3, k4, k5, k6, k7, k8, k9, k10, k11, k12, k13, k14, k15, k16, k17, k18, k19, k20, k21, k22, k23, k24, k25, k26, k27, k28, k29, k30, k31, k32, k33, k34, k35, k36, k37, k38, k39⟩ := h1 c
  constructor <;> assumption

theorem good_State_setExts {s0 s : State} {v} (h : Good s0 s) (hv : s0.Canonical → spWf (fun _ => ExtPort.reset) v = true) : Good s0 (s.setExts v) := by
  obtain ⟨h1, h2, h3⟩ := h
  refine ⟨fun c => ?_, h2, h3⟩
  have := hv c
  obtain ⟨k0, k1, k2, k3, k4, k5, k6, k7, k8, k9, k10, k11, k12, k13, k14, k15, k16, k17, k18, k19, k20, k21, k22, k23, k24, k25, k26, k27, k28, k29, k30, k31, k32, k33, k34, k35, k36, k37, k38, k39⟩ := h1 c
  constructor <;> assumption

theorem good_State_setFeedFwd {s0 s : State} {v} (h : Good s0 s) (hv : s0.Canonical → spWf (fun _ => FeedFwd.reset) v = true) : Good s0 (s.setFeedFwd v) := by
  obtain ⟨h1, h2, h3⟩ := h
  refine ⟨fun c => ?_, h2, h3⟩
  have := hv c
  obtain ⟨k0, k1, k2, k3, k4, k5, k6, k7, k8, k9, k10, k11, k12, k13, k14, k15, k16, k17, k18, k19, k20, k21, k22, k23, k24, k25, k26, k27, k28, k29, k30, k31, k32, k33, k34, k35, k36, k37, k38, k39⟩ := h1 c
  constructor <;> assumption

theorem good_State_setSplitAt {s0 s : State} {v} (h : Good s0 s) : Good s0 (s.setSplitAt v) := by
  obtain ⟨h1, h2, h3⟩ := h
  refine ⟨fun c => ?_, h2, h3⟩
  obtain ⟨k0, k1, k2, k3, k4, k5, k6, k7, k8, k9, k10, k11, k12, k13, k14, k15, k16, k17, k18, k19, k20, k21, k22, k23, k24, k25, k26, k27, k28, k29, k30, k31, k32, k33, k34, k35, k36, k37, k38, k39⟩ := h1 c
  constructor <;> assumption

theorem good_State_setReturnAt {s0 s : State} {v} (h : Good s0 s) : Good s0 (s.setReturnAt v) := by
  obtain ⟨h1, h2, h3⟩ := h
  refine ⟨fun c => ?_, h2, h3⟩
  obtain ⟨k0, k1, k2, k3, k4, k5, k6, k7, k8, k9, k10, k11, k12, k13, k14, k15, k16, k17, k18, k19, k20, k21, k22, k23, k24, k25, k26, k27, k28, k29, k30, k31, k32, k33, k34, k35, k36, k37, k38, k39⟩ := h1 c
  constructor <;> assumption

theorem good_State_setStore {s0 s : State} {v} (h : Good s0 s) (hv : s0.Canonical → spWf (fun _ => StoreSlot.free) v = true) : Good s0 (s.setStore v) := by
  obtain ⟨h1, h2, h3⟩ := h
  refine ⟨fun c => ?_, h2, h3⟩
  have := hv c
  obtain ⟨k0, k1, k2, k3, k4, k5, k6, k7, k8, k9, k10, k11, k12, k13, k14, k15, k16, k17, k18, k19, k20, k21, k22, k23, k24, k25, k26, k27, k28, k29, k30, k31, k32, k33, k34, k35, k36, k37, k38, k39⟩ := h1 c
  constructor <;> assumption

theorem good_State_setWrites {s0 s : State} {v} (h : Good s0 s) : Good s0 (s.setWrites v) := by
  obtain ⟨h1, h2, h3⟩ := h
  refine ⟨fun c => ?_, h2, h3⟩
  obtain ⟨k0, k1, k2, k3, k4, k5, k6, k7, k8, k9, k10, k11, k12, k13, k14, k15, k16, k17, k18, k19, k20, k21, k22, k23, k24, k25, k26, k27, k28, k29, k30, k31, k32, k33, k34, k35, k36, k37, k38, k39⟩ := h1 c
  constructor <;> assumption

theorem good_State_setStages {s0 s : State} {v} (h : Good s0 s) (hv : s0.Canonical → spWf (fun _ => WStage.none) v = true) : Good s0 (s.setStages v) := by
  obtain ⟨h1, h2, h3⟩ := h
  refine ⟨fun c => ?_, h2, h3⟩
  have := hv c
  obtain ⟨k0, k1, k2, k3, k4, k5, k6, k7, k8, k9, k10, k11, k12, k13, k14, k15, k16, k17, k18, k19, k20, k21, k22, k23, k24, k25, k26, k27, k28, k29, k30, k31, k32, k33, k34, k35, k36, k37, k38, k39⟩ := h1 c
  constructor <;> assumption

theorem good_State_setQuads {s0 s : State} {v} (h : Good s0 s) (hv : s0.Canonical → spWf (fun _ => QuadCal.reset) v = true) : Good s0 (s.setQuads v) := by
  obtain ⟨h1, h2, h3⟩ := h
  refine ⟨fun c => ?_, h2, h3⟩
  have := hv c
  obtain ⟨k0, k1, k2, k3, k4, k5, k6, k7, k8, k9, k10, k11, k12, k13, k14, k15, k16, k17, k18, k19, k20, k21, k22, k23, k24, k25, k26, k27, k28, k29, k30, k31, k32, k33, k34, k35, k36, k37, k38, k39⟩ := h1 c
  constructor <;> assumption

theorem good_State_setHomework {s0 s : State} {v} (h : Good s0 s) : Good s0 (s.setHomework v) := by
  obtain ⟨h1, h2, h3⟩ := h
  refine ⟨fun c => ?_, h2, h3⟩
  obtain ⟨k0, k1, k2, k3, k4, k5, k6, k7, k8, k9, k10, k11, k12, k13, k14, k15, k16, k17, k18, k19, k20, k21, k22, k23, k24, k25, k26, k27, k28, k29, k30, k31, k32, k33, k34, k35, k36, k37, k38, k39⟩ := h1 c
  constructor <;> assumption

theorem good_State_setFirstForm {s0 s : State} {v} (h : Good s0 s) : Good s0 (s.setFirstForm v) := by
  obtain ⟨h1, h2, h3⟩ := h
  refine ⟨fun c => ?_, h2, h3⟩
  obtain ⟨k0, k1, k2, k3, k4, k5, k6, k7, k8, k9, k10, k11, k12, k13, k14, k15, k16, k17, k18, k19, k20, k21, k22, k23, k24, k25, k26, k27, k28, k29, k30, k31, k32, k33, k34, k35, k36, k37, k38, k39⟩ := h1 c
  constructor <;> assumption

theorem good_State_setReadbackAt {s0 s : State} {v} (h : Good s0 s) : Good s0 (s.setReadbackAt v) := by
  obtain ⟨h1, h2, h3⟩ := h
  refine ⟨fun c => ?_, h2, h3⟩
  obtain ⟨k0, k1, k2, k3, k4, k5, k6, k7, k8, k9, k10, k11, k12, k13, k14, k15, k16, k17, k18, k19, k20, k21, k22, k23, k24, k25, k26, k27, k28, k29, k30, k31, k32, k33, k34, k35, k36, k37, k38, k39⟩ := h1 c
  constructor <;> assumption

theorem good_State_setLoadWait {s0 s : State} {v} (h : Good s0 s) : Good s0 (s.setLoadWait v) := by
  obtain ⟨h1, h2, h3⟩ := h
  refine ⟨fun c => ?_, h2, h3⟩
  obtain ⟨k0, k1, k2, k3, k4, k5, k6, k7, k8, k9, k10, k11, k12, k13, k14, k15, k16, k17, k18, k19, k20, k21, k22, k23, k24, k25, k26, k27, k28, k29, k30, k31, k32, k33, k34, k35, k36, k37, k38, k39⟩ := h1 c
  constructor <;> assumption

theorem good_State_setFeedMove {s0 s : State} {v} (h : Good s0 s) : Good s0 (s.setFeedMove v) := by
  obtain ⟨h1, h2, h3⟩ := h
  refine ⟨fun c => ?_, h2, h3⟩
  obtain ⟨k0, k1, k2, k3, k4, k5, k6, k7, k8, k9, k10, k11, k12, k13, k14, k15, k16, k17, k18, k19, k20, k21, k22, k23, k24, k25, k26, k27, k28, k29, k30, k31, k32, k33, k34, k35, k36, k37, k38, k39⟩ := h1 c
  constructor <;> assumption

theorem good_State_setBridgeBuild {s0 s : State} {v} (h : Good s0 s) (hv : s0.Canonical → spWf (fun _ => none) v = true) : Good s0 (s.setBridgeBuild v) := by
  obtain ⟨h1, h2, h3⟩ := h
  refine ⟨fun c => ?_, h2, h3⟩
  have := hv c
  obtain ⟨k0, k1, k2, k3, k4, k5, k6, k7, k8, k9, k10, k11, k12, k13, k14, k15, k16, k17, k18, k19, k20, k21, k22, k23, k24, k25, k26, k27, k28, k29, k30, k31, k32, k33, k34, k35, k36, k37, k38, k39⟩ := h1 c
  constructor <;> assumption

theorem good_State_setClk {s0 s : State} {v} (h : Good s0 s) : Good s0 (s.setClk v) := by
  obtain ⟨h1, h2, h3⟩ := h
  refine ⟨fun c => ?_, h2, h3⟩
  obtain ⟨k0, k1, k2, k3, k4, k5, k6, k7, k8, k9, k10, k11, k12, k13, k14, k15, k16, k17, k18, k19, k20, k21, k22, k23, k24, k25, k26, k27, k28, k29, k30, k31, k32, k33, k34, k35, k36, k37, k38, k39⟩ := h1 c
  constructor <;> assumption

theorem good_State_setPwr {s0 s : State} {v} (h : Good s0 s) : Good s0 (s.setPwr v) := by
  obtain ⟨h1, h2, h3⟩ := h
  refine ⟨fun c => ?_, h2, h3⟩
  obtain ⟨k0, k1, k2, k3, k4, k5, k6, k7, k8, k9, k10, k11, k12, k13, k14, k15, k16, k17, k18, k19, k20, k21, k22, k23, k24, k25, k26, k27, k28, k29, k30, k31, k32, k33, k34, k35, k36, k37, k38, k39⟩ := h1 c
  constructor <;> assumption

theorem good_State_setSensors {s0 s : State} {v} (h : Good s0 s) (hv : s0.Canonical → spWf (fun _ => Sensor.reset) v = true) : Good s0 (s.setSensors v) := by
  obtain ⟨h1, h2, h3⟩ := h
  refine ⟨fun c => ?_, h2, h3⟩
  have := hv c
  obtain ⟨k0, k1, k2, k3, k4, k5, k6, k7, k8, k9, k10, k11, k12, k13, k14, k15, k16, k17, k18, k19, k20, k21, k22, k23, k24, k25, k26, k27, k28, k29, k30, k31, k32, k33, k34, k35, k36, k37, k38, k39⟩ := h1 c
  constructor <;> assumption

theorem good_State_setNvArr {s0 s : State} {v} (h : Good s0 s) (hv : s0.Canonical → Memory.wf v = true) : Good s0 (s.setNvArr v) := by
  obtain ⟨h1, h2, h3⟩ := h
  refine ⟨fun c => ?_, h2, h3⟩
  have := hv c
  obtain ⟨k0, k1, k2, k3, k4, k5, k6, k7, k8, k9, k10, k11, k12, k13, k14, k15, k16, k17, k18, k19, k20, k21, k22, k23, k24, k25, k26, k27, k28, k29, k30, k31, k32, k33, k34, k35, k36, k37, k38, k39⟩ := h1 c
  constructor <;> assumption

theorem good_State_setNvShadow {s0 s : State} {v} (h : Good s0 s) (hv : s0.Canonical → spWf nvShipped v = true) : Good s0 (s.setNvShadow v) := by
  obtain ⟨h1, h2, h3⟩ := h
  refine ⟨fun c => ?_, h2, h3⟩
  have := hv c
  obtain ⟨k0, k1, k2, k3, k4, k5, k6, k7, k8, k9, k10, k11, k12, k13, k14, k15, k16, k17, k18, k19, k20, k21, k22, k23, k24, k25, k26, k27, k28, k29, k30, k31, k32, k33, k34, k35, k36, k37, k38, k39⟩ := h1 c
  constructor <;> assumption

theorem good_State_setNvRun {s0 s : State} {v} (h : Good s0 s) : Good s0 (s.setNvRun v) := by
  obtain ⟨h1, h2, h3⟩ := h
  refine ⟨fun c => ?_, h2, h3⟩
  obtain ⟨k0, k1, k2, k3, k4, k5, k6, k7, k8, k9, k10, k11, k12, k13, k14, k15, k16, k17, k18, k19, k20, k21, k22, k23, k24, k25, k26, k27, k28, k29, k30, k31, k32, k33, k34, k35, k36, k37, k38, k39⟩ := h1 c
  constructor <;> assumption

theorem good_State_setBoot {s0 s : State} {v} (h : Good s0 s) : Good s0 (s.setBoot v) := by
  obtain ⟨h1, h2, h3⟩ := h
  refine ⟨fun c => ?_, h2, h3⟩
  obtain ⟨k0, k1, k2, k3, k4, k5, k6, k7, k8, k9, k10, k11, k12, k13, k14, k15, k16, k17, k18, k19, k20, k21, k22, k23, k24, k25, k26, k27, k28, k29, k30, k31, k32, k33, k34, k35, k36, k37, k38, k39⟩ := h1 c
  constructor <;> assumption

theorem good_State_setFw {s0 s : State} {v} (h : Good s0 s) : Good s0 (s.setFw v) := by
  obtain ⟨h1, h2, h3⟩ := h
  refine ⟨fun c => ?_, h2, h3⟩
  obtain ⟨k0, k1, k2, k3, k4, k5, k6, k7, k8, k9, k10, k11, k12, k13, k14, k15, k16, k17, k18, k19, k20, k21, k22, k23, k24, k25, k26, k27, k28, k29, k30, k31, k32, k33, k34, k35, k36, k37, k38, k39⟩ := h1 c
  constructor <;> assumption

theorem good_State_setSup {s0 s : State} {v} (h : Good s0 s) : Good s0 (s.setSup v) := by
  obtain ⟨h1, h2, h3⟩ := h
  refine ⟨fun c => ?_, h2, h3⟩
  obtain ⟨k0, k1, k2, k3, k4, k5, k6, k7, k8, k9, k10, k11, k12, k13, k14, k15, k16, k17, k18, k19, k20, k21, k22, k23, k24, k25, k26, k27, k28, k29, k30, k31, k32, k33, k34, k35, k36, k37, k38, k39⟩ := h1 c
  constructor <;> assumption

theorem Good.at_regs {s0 s : State} (h : Good s0 s) (c : s0.Canonical) : spWf regReset s.regs = true := (h.canonical c).regs

theorem Good.at_inForce {s0 s : State} (h : Good s0 s) (c : s0.Canonical) : spWf regReset s.inForce = true := (h.canonical c).inForce

theorem Good.at_wb {s0 s : State} (h : Good s0 s) (c : s0.Canonical) : spWf (fun _ => none) s.wb = true := (h.canonical c).wb

theorem Good.at_shadow {s0 s : State} (h : Good s0 s) (c : s0.Canonical) : spWf (fun _ => none) s.shadow = true := (h.canonical c).shadow

theorem Good.at_staging {s0 s : State} (h : Good s0 s) (c : s0.Canonical) : Memory.wf s.staging = true := (h.canonical c).staging

theorem Good.at_jobs {s0 s : State} (h : Good s0 s) (c : s0.Canonical) : spWf (fun _ => Job.empty) s.jobs = true := (h.canonical c).jobs

theorem Good.at_binds {s0 s : State} (h : Good s0 s) (c : s0.Canonical) : spWf (fun _ => Bind.none) s.binds = true := (h.canonical c).binds

theorem Good.at_tagAt {s0 s : State} (h : Good s0 s) (c : s0.Canonical) : spWf (fun _ => none) s.tagAt = true := (h.canonical c).tagAt

theorem Good.at_outs {s0 s : State} (h : Good s0 s) (c : s0.Canonical) : spWf (fun _ => OutStream.reset) s.outs = true := (h.canonical c).outs

theorem Good.at_tx {s0 s : State} (h : Good s0 s) (c : s0.Canonical) : spWf (fun _ => TxPort.reset) s.tx = true := (h.canonical c).tx

theorem Good.at_chans {s0 s : State} (h : Good s0 s) (c : s0.Canonical) : spWf (fun _ => Chan.reset) s.chans = true := (h.canonical c).chans

theorem Good.at_ingest {s0 s : State} (h : Good s0 s) (c : s0.Canonical) : spWf (fun _ => Ingest.reset) s.ingest = true := (h.canonical c).ingest

theorem Good.at_arms {s0 s : State} (h : Good s0 s) (c : s0.Canonical) : spWf (fun _ => Arm.none) s.arms = true := (h.canonical c).arms

theorem Good.at_rxAt {s0 s : State} (h : Good s0 s) (c : s0.Canonical) : spWf (fun _ => none) s.rxAt = true := (h.canonical c).rxAt

theorem Good.at_grantRr {s0 s : State} (h : Good s0 s) (c : s0.Canonical) : spWf grantFirst s.grantRr = true := (h.canonical c).grantRr

theorem Good.at_ptes {s0 s : State} (h : Good s0 s) (c : s0.Canonical) : spWf (fun _ => Pte.none) s.ptes = true := (h.canonical c).ptes

theorem Good.at_sram {s0 s : State} (h : Good s0 s) (c : s0.Canonical) : Memory.wf s.sram = true := (h.canonical c).sram

theorem Good.at_pageUe {s0 s : State} (h : Good s0 s) (c : s0.Canonical) : spWf (fun _ => none) s.pageUe = true := (h.canonical c).pageUe

theorem Good.at_unitUe {s0 s : State} (h : Good s0 s) (c : s0.Canonical) : spWf (fun _ => none) s.unitUe = true := (h.canonical c).unitUe

theorem Good.at_tiles {s0 s : State} (h : Good s0 s) (c : s0.Canonical) : spWf (fun _ => TileRec.reset) s.tiles = true := (h.canonical c).tiles

theorem Good.at_cells {s0 s : State} (h : Good s0 s) (c : s0.Canonical) : spWf (fun _ => Cells.none) s.cells = true := (h.canonical c).cells

theorem Good.at_occ {s0 s : State} (h : Good s0 s) (c : s0.Canonical) : spWf (fun _ => Occ.none) s.occ = true := (h.canonical c).occ

theorem Good.at_tcal {s0 s : State} (h : Good s0 s) (c : s0.Canonical) : spWf tcalReset s.tcal = true := (h.canonical c).tcal

theorem Good.at_recur {s0 s : State} (h : Good s0 s) (c : s0.Canonical) : spWf (fun _ => []) s.recur = true := (h.canonical c).recur

theorem Good.at_chips {s0 s : State} (h : Good s0 s) (c : s0.Canonical) : spWf (fun _ => Chip.reset) s.chips = true := (h.canonical c).chips

theorem Good.at_meshTbl {s0 s : State} (h : Good s0 s) (c : s0.Canonical) : spWf meshTblReset s.meshTbl = true := (h.canonical c).meshTbl

theorem Good.at_rings {s0 s : State} (h : Good s0 s) (c : s0.Canonical) : spWf (fun _ => Ring.reset) s.rings = true := (h.canonical c).rings

theorem Good.at_lanes {s0 s : State} (h : Good s0 s) (c : s0.Canonical) : spWf (fun _ => Lane.idle) s.lanes = true := (h.canonical c).lanes

theorem Good.at_dirs {s0 s : State} (h : Good s0 s) (c : s0.Canonical) : spWf (fun _ => BridgeDir.reset) s.dirs = true := (h.canonical c).dirs

theorem Good.at_mons {s0 s : State} (h : Good s0 s) (c : s0.Canonical) : spWf (fun _ => Mon.reset) s.mons = true := (h.canonical c).mons

theorem Good.at_halves {s0 s : State} (h : Good s0 s) (c : s0.Canonical) : spWf (fun _ => Half.reset) s.halves = true := (h.canonical c).halves

theorem Good.at_exts {s0 s : State} (h : Good s0 s) (c : s0.Canonical) : spWf (fun _ => ExtPort.reset) s.exts = true := (h.canonical c).exts

theorem Good.at_feedFwd {s0 s : State} (h : Good s0 s) (c : s0.Canonical) : spWf (fun _ => FeedFwd.reset) s.feedFwd = true := (h.canonical c).feedFwd

theorem Good.at_store {s0 s : State} (h : Good s0 s) (c : s0.Canonical) : spWf (fun _ => StoreSlot.free) s.store = true := (h.canonical c).store

theorem Good.at_stages {s0 s : State} (h : Good s0 s) (c : s0.Canonical) : spWf (fun _ => WStage.none) s.stages = true := (h.canonical c).stages

theorem Good.at_quads {s0 s : State} (h : Good s0 s) (c : s0.Canonical) : spWf (fun _ => QuadCal.reset) s.quads = true := (h.canonical c).quads

theorem Good.at_bridgeBuild {s0 s : State} (h : Good s0 s) (c : s0.Canonical) : spWf (fun _ => none) s.bridgeBuild = true := (h.canonical c).bridgeBuild

theorem Good.at_sensors {s0 s : State} (h : Good s0 s) (c : s0.Canonical) : spWf (fun _ => Sensor.reset) s.sensors = true := (h.canonical c).sensors

theorem Good.at_nvArr {s0 s : State} (h : Good s0 s) (c : s0.Canonical) : Memory.wf s.nvArr = true := (h.canonical c).nvArr

theorem Good.at_nvShadow {s0 s : State} (h : Good s0 s) (c : s0.Canonical) : spWf nvShipped s.nvShadow = true := (h.canonical c).nvShadow

end Sys2Proof.Machine
end

