-- ==== Sys2Proof/Laws/KeepsOps.lean ====
section
/-! SUPPORT. Laws/KeepsOps.lean: every operation of Machine/Ops.lean keeps what Laws/Keeps.lean names. -/

namespace Sys2Proof.Machine

theorem good_State_setWord {s0 : State} {a0 : State} {a1 : ℕ} {a2 : Sys2Proof.Word} (a0h : Good s0 a0) : Good s0 (State.setWord
    a0 a1 a2) := by
  unfold State.setWord
  refine good_State_setRegs a0h (fun c => ?_)
  refine spWf_spSet _ _ _ _ ?_
  refine Good.at_regs (s0 := s0) ?_ c
  exact a0h

theorem good_State_wr2 {s0 : State} {a0 : State} {a1 : Fld} {a2 : ℕ} {a3 : ℕ} {a4 : ℕ} (a0h : Good s0 a0) : Good s0 (State.wr2 a0
    a1 a2 a3 a4) := by
  unfold State.wr2
  exact good_State_setWord a0h

theorem good_State_wr {s0 : State} {a0 : State} {a1 : Fld} {a2 : ℕ} {a3 : ℕ} (a0h : Good s0 a0) : Good s0 (State.wr a0 a1 a2 a3)
    := by
  unfold State.wr
  exact good_State_wr2 a0h

theorem good_State_wrInt {s0 : State} {a0 : State} {a1 : Fld} {a2 : ℕ} {a3 : ℤ} (a0h : Good s0 a0) : Good s0 (State.wrInt a0 a1
    a2 a3) := by
  unfold State.wrInt
  exact good_State_wr a0h

theorem good_State_wrB {s0 : State} {a0 : State} {a1 : Fld} {a2 : ℕ} {a3 : Bool} (a0h : Good s0 a0) : Good s0 (State.wrB a0 a1 a2
    a3) := by
  unfold State.wrB
  exact good_State_wr a0h

theorem good_State_bumpBy {s0 : State} {a0 : State} {a1 : Fld} {a2 : ℕ} {a3 : ℕ} (a0h : Good s0 a0) : Good s0 (State.bumpBy a0 a1
    a2 a3) := by
  unfold State.bumpBy
  exact good_State_wr a0h

theorem good_State_bump {s0 : State} {a0 : State} {a1 : Fld} {a2 : ℕ} (a0h : Good s0 a0) : Good s0 (State.bump a0 a1 a2) := by
  unfold State.bump
  exact good_State_bumpBy a0h

theorem good_State_bump64 {s0 : State} {a0 : State} {a1 : Fld} {a2 : Fld} {a3 : ℕ} (a0h : Good s0 a0) : Good s0 (State.bump64 a0
    a1 a2 a3) := by
  unfold State.bump64
  extract_lets -merge -useContext -underBinder +onlyGivenNames x0
  try clear_value x0
  refine good_State_wr (good_State_wr a0h)

theorem good_State_wrSat {s0 : State} {a0 : State} {a1 : Fld} {a2 : ℕ} {a3 : ℕ} (a0h : Good s0 a0) : Good s0 (State.wrSat a0 a1
    a2 a3) := by
  unfold State.wrSat
  exact good_State_wr a0h

theorem good_State_apply {s0 : State} {a0 : State} {a1 : ℕ} (a0h : Good s0 a0) : Good s0 (State.apply a0 a1) := by
  unfold State.apply
  refine good_State_setInForce a0h (fun c => ?_)
  refine spWf_spSet _ _ _ _ ?_
  refine Good.at_inForce (s0 := s0) ?_ c
  exact a0h

theorem good_State_wrTime {s0 : State} {a0 : State} {a1 : Fld} {a2 : Fld} {a3 : ℕ} (a0h : Good s0 a0) : Good s0 (State.wrTime a0
    a1 a2 a3) := by
  unfold State.wrTime
  exact good_State_wr (good_State_wr a0h)

theorem good_State_draw {s0 s : State} (h : Good s0 s) : Good s0 (State.draw s).2 :=
  good_State_setFreeIx h (Nat.le_succ _)

theorem good_State_holdStart {s0 : State} {a0 : State} {a1 : HeldStart} (a0h : Good s0 a0) : Good s0 (State.holdStart a0 a1) := by
  unfold State.holdStart
  exact good_ite a0h (good_State_setSup a0h)

theorem good_State_putJob {s0 : State} {a0 : State} {a1 : ℕ} {a2 : Job} (a0h : Good s0 a0) : Good s0 (State.putJob a0 a1 a2) := by
  unfold State.putJob
  refine good_State_setJobs a0h (fun c => ?_)
  refine spWf_spSet _ _ _ _ ?_
  refine Good.at_jobs (s0 := s0) ?_ c
  exact a0h

theorem good_State_putBind {s0 : State} {a0 : State} {a1 : ℕ} {a2 : ℕ} {a3 : Sys2Proof.Machine.Bind} (a0h : Good s0 a0) : Good s0
    (State.putBind a0 a1 a2 a3) := by
  unfold State.putBind
  refine good_State_setBinds a0h (fun c => ?_)
  refine spWf_spSet _ _ _ _ ?_
  refine Good.at_binds (s0 := s0) ?_ c
  exact a0h

theorem good_State_putOut {s0 : State} {a0 : State} {a1 : ℕ} {a2 : OutStream} (a0h : Good s0 a0) : Good s0 (State.putOut a0 a1
    a2) := by
  unfold State.putOut
  refine good_State_setOuts a0h (fun c => ?_)
  refine spWf_spSet _ _ _ _ ?_
  refine Good.at_outs (s0 := s0) ?_ c
  exact a0h

theorem good_State_putTx {s0 : State} {a0 : State} {a1 : ℕ} {a2 : TxPort} (a0h : Good s0 a0) : Good s0 (State.putTx a0 a1 a2) :=
    by
  unfold State.putTx
  refine good_State_setTx a0h (fun c => ?_)
  refine spWf_spSet _ _ _ _ ?_
  refine Good.at_tx (s0 := s0) ?_ c
  exact a0h

theorem good_State_putChan {s0 : State} {a0 : State} {a1 : ℕ} {a2 : ℕ} {a3 : Chan} (a0h : Good s0 a0) : Good s0 (State.putChan a0
    a1 a2 a3) := by
  unfold State.putChan
  refine good_State_setChans a0h (fun c => ?_)
  refine spWf_spSet _ _ _ _ ?_
  refine Good.at_chans (s0 := s0) ?_ c
  exact a0h

theorem good_State_putIng {s0 : State} {a0 : State} {a1 : ℕ} {a2 : Ingest} (a0h : Good s0 a0) : Good s0 (State.putIng a0 a1 a2)
    := by
  unfold State.putIng
  refine good_State_setIngest a0h (fun c => ?_)
  refine spWf_spSet _ _ _ _ ?_
  refine Good.at_ingest (s0 := s0) ?_ c
  exact a0h

theorem good_State_putArm {s0 : State} {a0 : State} {a1 : ℕ} {a2 : Arm} (a0h : Good s0 a0) : Good s0 (State.putArm a0 a1 a2) := by
  unfold State.putArm
  refine good_State_setArms a0h (fun c => ?_)
  refine spWf_spSet _ _ _ _ ?_
  refine Good.at_arms (s0 := s0) ?_ c
  exact a0h

theorem good_State_putPte {s0 : State} {a0 : State} {a1 : ℕ} {a2 : ℕ} {a3 : Pte} (a0h : Good s0 a0) : Good s0 (State.putPte a0 a1
    a2 a3) := by
  unfold State.putPte
  refine good_State_setPtes a0h (fun c => ?_)
  refine spWf_spSet _ _ _ _ ?_
  refine Good.at_ptes (s0 := s0) ?_ c
  exact a0h

theorem good_State_putSt {s0 : State} {a0 : State} {a1 : ℕ} {a2 : List Sys2Proof.Byte} (a0h : Good s0 a0) : Good s0 (State.putSt
    a0 a1 a2) := by
  unfold State.putSt
  refine good_State_setStaging a0h (fun c => ?_)
  refine spWf_spSetList _ _ _ _ _ ?_
  refine Good.at_staging (s0 := s0) ?_ c
  exact a0h

theorem good_State_each {α : Type} {s0 s : State} {l : List α} {f : State → α → State} (h : Good s0 s)
    (hf : ∀ s a, Good s0 s → Good s0 (f s a)) : Good s0 (s.each l f) := good_foldl h hf

theorem good_State_raise {s0 : State} {a0 : State} {a1 : Fld} {a2 : ℕ} (a0h : Good s0 a0) : Good s0 (State.raise a0 a1 a2) := by
  unfold State.raise
  extract_lets -merge -useContext -underBinder +onlyGivenNames x0 x1 x2 x3 x4 x5 x6
  try clear_value x0
  try clear_value x1
  try clear_value x2
  have h7 : Good s0 x3 := by
    unfold x3
    refine good_State_setWord a0h
  try clear_value x3
  have h8 : Good s0 x4 := by
    unfold x4
    split
    · exact h7
    · refine good_State_setWb h7 (fun c => ?_)
      refine spWf_spSet _ _ _ _ ?_
      refine Good.at_wb (s0 := s0) ?_ c
      exact h7
  try clear_value x4
  try clear_value x5
  have h12 : Good s0 x6 := by
    unfold x6
    refine good_ite (good_State_setBus h8) h8
  try clear_value x6
  refine good_ite (good_State_wr h12) h12

theorem good_State_raiseRx {s0 : State} {a0 : State} {a1 : Fld} {a2 : ℕ} (a0h : Good s0 a0) : Good s0 (State.raiseRx a0 a1 a2) :=
    by
  unfold State.raiseRx
  exact good_State_wr (good_State_raise a0h)

end Sys2Proof.Machine
end

