-- ==== Sys2Proof/Laws/KeepsMailbox.lean ====
section
/-! SUPPORT. Laws/KeepsMailbox.lean: every operation of Machine/Mailbox.lean keeps what Laws/Keeps.lean names. -/

namespace Sys2Proof.Machine

theorem good_State_putRsp {s0 s : State} {m w : Nat} {bs : List Byte} {n : Nat} (h : Good s0 s) : Good s0 (s.putRsp m w bs n) := by
  induction n generalizing s w bs with
  | zero => exact h
  | succ n ih => exact ih (good_State_setWord h)

theorem good_State_respond {s0 : State} {a0 : State} {a1 : ℕ} {a2 : Status} {a3 : ℕ} {a4 : List Sys2Proof.Byte} (a0h : Good s0
    a0) : Good s0 (State.respond a0 a1 a2 a3 a4) := by
  unfold State.respond
  extract_lets -merge -useContext -underBinder +onlyGivenNames x0 x1 x2 x3 x4
  try clear_value x0
  have h5 : Good s0 x1 := by
    unfold x1
    refine good_State_putRsp a0h
  try clear_value x1
  have h6 : Good s0 x2 := by
    unfold x2
    refine good_State_wr h5
  try clear_value x2
  have h7 : Good s0 x3 := by
    unfold x3
    refine good_State_setMbxOrder h6
  try clear_value x3
  try clear_value x4
  refine good_State_setBus h7

theorem good_State_peade {s0 : State} {a0 : State} {a1 : ℕ} {a2 : ℕ} {a3 : Bool} {a4 : Bool} {a5 : Bool} {a6 : ℕ} {a7 :
    Sys2Proof.Machine.State → Sys2Proof.Machine.State} (a0h : Good s0 a0) (a7h : ∀ z0, Good s0 z0 → Good s0 (a7 z0)) : Good s0
    (State.peade a0 a1 a2 a3 a4 a5 a6 a7) := by
  unfold State.peade
  refine good_ite ?_ a0h
  split
  · exact a0h
  · split
    · exact good_State_respond (good_State_wr a0h)
    · exact a7h _ (good_State_wr a0h)

theorem good_refuseUnknown {s0 : State} {a0 : State} {a1 : ℕ} (a0h : Good s0 a0) : Good s0 (refuseUnknown a0 a1) := by
  unfold refuseUnknown
  exact good_ite (good_State_respond a0h) a0h

theorem good_mbxRing {s0 : State} {a0 : State} {a1 : ℕ} (a0h : Good s0 a0) : Good s0 (mbxRing a0 a1) := by
  unfold mbxRing
  refine good_ite ?_ (good_State_raise a0h)
  extract_lets -merge -useContext -underBinder +onlyGivenNames x0 x1 x2
  have h3 : Good s0 x0 := by
    unfold x0
    refine good_State_wr (good_State_wr a0h)
  try clear_value x0
  have h4 : Good s0 x1 := by
    unfold x1
    refine good_State_setMbxOrder h3
  try clear_value x1
  try clear_value x2
  refine good_refuseUnknown (good_State_setBus h4)

theorem good_mbxRelease {s0 : State} {a0 : State} {a1 : ℕ} (a0h : Good s0 a0) : Good s0 (mbxRelease a0 a1) := by
  unfold mbxRelease
  exact good_ite (good_State_wr (good_State_putRsp a0h)) (good_State_raise a0h)

theorem good_mbxReqWrite {s0 : State} {a0 : State} {a1 : ℕ} {a2 : ℕ} {a3 : Sys2Proof.Word} (a0h : Good s0 a0) : Good s0
    (mbxReqWrite a0 a1 a2 a3) := by
  unfold mbxReqWrite
  exact good_ite (good_State_setWord a0h) (good_State_raise a0h)

theorem good_mbxDoor {s0 : State} {a0 : State} {a1 : ℕ} {a2 : Sys2Proof.Word} (a0h : Good s0 a0) : Good s0 (mbxDoor a0 a1 a2) :=
    by
  unfold mbxDoor
  exact good_ite (good_mbxRing a0h) (good_ite (good_mbxRelease a0h) a0h)

end Sys2Proof.Machine
end

