-- ==== Sys2Proof/Laws/KeepsRegAccess.lean ====
section
/-! SUPPORT. Laws/KeepsRegAccess.lean: every operation of Machine/RegAccess.lean keeps what Laws/Keeps.lean names. -/

namespace Sys2Proof.Machine

theorem good_setKey {s0 : State} {a0 : State} {a1 : Bool} (a0h : Good s0 a0) : Good s0 (setKey a0 a1) := by
  unfold setKey
  exact good_State_wrB a0h

theorem good_settleState {s0 : State} {a0 : State} {a1 : Bool} (a0h : Good s0 a0) : Good s0 (settleState a0 a1) := by
  unfold settleState
  exact good_ite (good_State_wr a0h) (good_ite (good_State_wr a0h) a0h)

theorem good_readEffect {s0 : State} {a0 : State} {a1 : RegSpec} {a2 : ℕ} {a3 : Sys2Proof.Word} (a0h : Good s0 a0) : Good s0
    (readEffect a0 a1 a2 a3) := by
  unfold readEffect
  extract_lets -merge -useContext -underBinder +onlyGivenNames x0
  have h1 : Good s0 x0 := by
    unfold x0
    refine good_ite a0h ?_
    refine good_State_setWb a0h (fun c => ?_)
    refine spWf_spSet _ _ _ _ ?_
    refine Good.at_wb (s0 := s0) ?_ c
    exact a0h
  try clear_value x0
  refine good_ite h1 (good_State_setWord h1)

theorem good_writeBack {s0 : State} {a0 : State} {a1 : RegSpec} {a2 : ℕ} {a3 : Sys2Proof.Word} (a0h : Good s0 a0) : Good s0
    (writeBack a0 a1 a2 a3) := by
  unfold writeBack
  refine good_ite a0h ?_
  split
  · exact a0h
  · refine good_ite ?_ a0h
    extract_lets -merge -useContext -underBinder +onlyGivenNames x3 x4
    try clear_value x3
    have h5 : Good s0 x4 := by
      unfold x4
      refine good_State_setWord a0h
    try clear_value x4
    refine good_ite (good_settleState h5) h5

theorem good_writeBits {s0 : State} {a0 : State} {a1 : RegSpec} {a2 : ℕ} {a3 : Sys2Proof.Word} {a4 : Sys2Proof.Word} {a5 : Bool}
    (a0h : Good s0 a0) : Good s0 (writeBits a0 a1 a2 a3 a4 a5) := by
  unfold writeBits
  extract_lets -merge -useContext -underBinder +onlyGivenNames x0 x1 x2 x3 x4 x5
  try clear_value x0
  try clear_value x1
  try clear_value x2
  try clear_value x3
  have h6 : Good s0 x4 := by
    unfold x4
    refine good_State_setWord a0h
  try clear_value x4
  have h7 : Good s0 x5 := by
    unfold x5
    refine good_ite (good_State_raise h6) h6
  try clear_value x5
  refine good_ite (good_State_raise h7) h7

theorem good_writeWhole {s0 : State} {a0 : State} {a1 : RegSpec} {a2 : ℕ} {a3 : Sys2Proof.Word} {a4 : Bool} (a0h : Good s0 a0) :
    Good s0 (writeWhole a0 a1 a2 a3 a4) := by
  unfold writeWhole
  extract_lets -merge -useContext -underBinder +onlyGivenNames x0
  have h1 : Good s0 x0 := by
    unfold x0
    refine good_writeBits a0h
  try clear_value x0
  refine good_ite h1 (good_writeBack h1)

end Sys2Proof.Machine
end

