-- ==== Sys2Proof/Laws/KeepsPlant.lean ====
section
/-! SUPPORT. Laws/KeepsPlant.lean: every operation of Machine/Plant.lean keeps what Laws/Keeps.lean names. -/

namespace Sys2Proof.Machine

theorem good_State_putAin {s0 : State} {a0 : State} {a1 : ℕ} {a2 : AinRec} (a0h : Good s0 a0) : Good s0 (State.putAin a0 a1 a2)
    := by
  unfold State.putAin
  exact good_State_setPlant a0h

theorem good_State_putAout {s0 : State} {a0 : State} {a1 : ℕ} {a2 : AoutRec} (a0h : Good s0 a0) : Good s0 (State.putAout a0 a1
    a2) := by
  unfold State.putAout
  exact good_State_setPlant a0h

theorem good_ainRestart {s0 : State} {a0 : State} {a1 : ℕ} (a0h : Good s0 a0) : Good s0 (ainRestart a0 a1) := by
  unfold ainRestart
  exact good_State_putAin a0h

theorem good_ainBoundary {s0 : State} {a0 : State} {a1 : ℕ} (a0h : Good s0 a0) : Good s0 (ainBoundary a0 a1) := by
  unfold ainBoundary
  extract_lets -merge -useContext -underBinder +onlyGivenNames x0 x1 x2 x3 x4 x5 x6 x7
  try clear_value x0
  try clear_value x1
  try clear_value x2
  have h8 : Good s0 x3 := by
    unfold x3
    refine good_State_apply a0h
  try clear_value x3
  have h9 : Good s0 x4 := by
    unfold x4
    refine good_ite (good_ainRestart h8) h8
  try clear_value x4
  try clear_value x5
  try clear_value x6
  try clear_value x7
  refine good_ite (good_ainRestart (good_State_putAin h9)) (good_ite (good_State_putAin h9) h9)

theorem good_ainCfgEffect {s0 : State} {a0 : State} {a1 : ℕ} (a0h : Good s0 a0) : Good s0 (ainCfgEffect a0 a1) := by
  unfold ainCfgEffect
  exact good_ite (good_ainBoundary a0h) a0h

theorem good_ainRecord {s0 : State} {a0 : State} {a1 : ℕ} {a2 : ℕ} {a3 : ℕ} (a0h : Good s0 a0) : Good s0 (ainRecord a0 a1 a2 a3)
    := by
  unfold ainRecord
  refine good_ite a0h ?_
  extract_lets -merge -useContext -underBinder +onlyGivenNames x0 x1 x2 x3 x4
  have h5 : Good s0 x0 := by
    unfold x0
    refine good_ite (good_State_raise (good_State_bump (good_State_wr a0h))) a0h
  try clear_value x0
  try clear_value x1
  have h6 : Good s0 x2 := by
    unfold x2
    refine good_State_putSt h5
  try clear_value x2
  try clear_value x3
  have h7 : Good s0 x4 := by
    unfold x4
    refine good_State_setPlant (good_State_wr h6)
  try clear_value x4
  refine good_ite (good_State_raise h7) h7

theorem good_conversionEnd {s0 : State} {a0 : State} {a1 : ℕ} {a2 : ℤ} (a0h : Good s0 a0) : Good s0 (conversionEnd a0 a1 a2) := by
  unfold conversionEnd
  refine good_ite a0h ?_
  refine good_ite (good_ainBoundary a0h) ?_
  extract_lets -merge -useContext -underBinder +onlyGivenNames x0 x1 x2 x3 x4 x5 x6 x7 x8 x9 x10 x11
  try clear_value x0
  try clear_value x1
  try clear_value x2
  try clear_value x3
  try clear_value x4
  try clear_value x5
  try clear_value x6
  have h12 : Good s0 x7 := by
    unfold x7
    refine good_State_putAin a0h
  try clear_value x7
  have h13 : Good s0 x8 := by
    unfold x8
    refine good_State_wr (good_State_wr h12)
  try clear_value x8
  have h14 : Good s0 x9 := by
    unfold x9
    refine good_ite (good_State_raise h13) h13
  try clear_value x9
  have h15 : Good s0 x10 := by
    unfold x10
    refine good_ite (good_ainRecord h14) h14
  try clear_value x10
  have h16 : Good s0 x11 := by
    unfold x11
    refine good_ite (good_State_raise h15) h15
  try clear_value x11
  refine good_ainBoundary h16

theorem good_execConversionEnd {s0 : State} {a0 : Fin 16} {a1 : ℤ} {a2 : State} (a2h : Good s0 a2) : ∃ t, execConversionEnd a0 a1
    a2 = .next t ∧ Good s0 t := by
  unfold execConversionEnd
  exact ⟨_, rfl, good_conversionEnd a2h⟩

theorem good_comparatorFire {s0 : State} {a0 : State} {a1 : ℕ} {a2 : Bool} (a0h : Good s0 a0) : Good s0 (comparatorFire a0 a1 a2)
    := by
  unfold comparatorFire
  refine good_ite a0h ?_
  extract_lets -merge -useContext -underBinder +onlyGivenNames x0 x1 x2 x3
  try clear_value x0
  try clear_value x1
  have h4 : Good s0 x2 := by
    unfold x2
    refine good_State_wrB a0h
  try clear_value x2
  have h5 : Good s0 x3 := by
    unfold x3
    refine good_State_putAin h4
  try clear_value x3
  refine good_ite (good_State_raise (good_State_bump h5)) h4

theorem good_execComparatorFire {s0 : State} {a0 : Fin 16} {a1 : Bool} {a2 : State} (a2h : Good s0 a2) : ∃ t, execComparatorFire
    a0 a1 a2 = .next t ∧ Good s0 t := by
  unfold execComparatorFire
  exact ⟨_, rfl, good_comparatorFire a2h⟩

theorem good_execComparatorRearm {s0 : State} {a0 : Fin 16} {a1 : Bool} {a2 : State} (a2h : Good s0 a2) : ∃ t,
    execComparatorRearm a0 a1 a2 = .next t ∧ Good s0 t := by
  unfold execComparatorRearm
  refine ⟨_, rfl, ?_⟩
  refine good_ite a2h ?_
  extract_lets -merge -useContext -underBinder +onlyGivenNames x0 x1
  try clear_value x0
  have h2 : Good s0 x1 := by
    unfold x1
    refine good_State_wrB a2h
  try clear_value x1
  refine good_State_putAin h2

theorem good_ainBufEffect {s0 : State} {a0 : State} {a1 : Bool} (a0h : Good s0 a0) : Good s0 (ainBufEffect a0 a1) := by
  unfold ainBufEffect
  exact good_ite (good_State_setPlant (good_State_wr (good_State_wr a0h))) a0h

theorem good_ainGate {s0 : State} {a0 : State} (a0h : Good s0 a0) : Good s0 (ainGate a0) := by
  unfold ainGate
  exact good_State_each a0h (fun y0 y1 y0h => good_State_putAin y0h)

theorem good_ainRestartAll {s0 : State} {a0 : State} (a0h : Good s0 a0) : Good s0 (ainRestartAll a0) := by
  unfold ainRestartAll
  exact good_State_each a0h (fun y0 y1 y0h => good_ite y0h (good_ainRestart y0h))

theorem good_showAout {s0 : State} {a0 : State} {a1 : ℕ} (a0h : Good s0 a0) : Good s0 (showAout a0 a1) := by
  unfold showAout
  extract_lets -merge -useContext -underBinder +onlyGivenNames x0
  try clear_value x0
  refine good_State_wrB (good_State_wrB (good_State_wr a0h))

theorem good_setCode {s0 : State} {a0 : State} {a1 : ℕ} {a2 : ℕ} (a0h : Good s0 a0) : Good s0 (setCode a0 a1 a2) := by
  unfold setCode
  extract_lets -merge -useContext -underBinder +onlyGivenNames x0 x1 x2
  try clear_value x0
  try clear_value x1
  try clear_value x2
  refine good_ite (good_showAout (good_State_putAout a0h)) (good_showAout (good_State_wr (good_State_putAout a0h)))

theorem good_execDeglitchEnd {s0 : State} {a0 : Fin 8} {a1 : State} (a1h : Good s0 a1) : ∃ t, execDeglitchEnd a0 a1 = .next t ∧
    Good s0 t := by
  unfold execDeglitchEnd
  refine ⟨_, rfl, ?_⟩
  split
  · exact a1h
  · exact good_ite a1h (good_showAout (good_State_wr (good_State_putAout a1h)))

theorem good_clearChannel {s0 : State} {a0 : State} {a1 : ℕ} (a0h : Good s0 a0) : Good s0 (clearChannel a0 a1) := by
  unfold clearChannel
  exact good_setCode a0h

theorem good_clearAll {s0 : State} {a0 : State} (a0h : Good s0 a0) : Good s0 (clearAll a0) := by
  unfold clearAll
  exact good_State_each a0h (fun y0 y1 y0h => good_clearChannel y0h)

theorem good_plantModuleClear {s0 : State} {a0 : State} {a1 : ℕ} (a0h : Good s0 a0) : Good s0 (plantModuleClear a0 a1) := by
  unfold plantModuleClear
  exact good_clearAll (good_State_raise (good_State_wr (good_State_wr a0h)))

theorem good_strobeChannel {s0 : State} {a0 : State} {a1 : ℕ} (a0h : Good s0 a0) : Good s0 (strobeChannel a0 a1) := by
  unfold strobeChannel
  extract_lets -merge -useContext -underBinder +onlyGivenNames x0 x1 x2 x3 x4 x5 x6 x7
  try clear_value x0
  try clear_value x1
  have h8 : Good s0 x2 := by
    unfold x2
    refine good_State_apply a0h
  try clear_value x2
  have h9 : Good s0 x3 := by
    unfold x3
    refine good_State_apply h8
  try clear_value x3
  have h10 : Good s0 x4 := by
    unfold x4
    refine good_State_apply h9
  try clear_value x4
  have h11 : Good s0 x5 := by
    unfold x5
    refine good_State_apply h10
  try clear_value x5
  try clear_value x6
  have h12 : Good s0 x7 := by
    unfold x7
    refine good_State_putAout h11
  try clear_value x7
  refine good_ite a0h (good_setCode h12)

theorem good_loadStrobe {s0 : State} {a0 : State} (a0h : Good s0 a0) : Good s0 (loadStrobe a0) := by
  unfold loadStrobe
  exact good_ite (good_State_each a0h (fun y0 y1 y0h => good_strobeChannel y0h)) (good_State_setPlant a0h)

theorem good_plantRelock {s0 : State} {a0 : State} (a0h : Good s0 a0) : Good s0 (plantRelock a0) := by
  unfold plantRelock
  extract_lets -merge -useContext -underBinder +onlyGivenNames x0 x1
  have h2 : Good s0 x0 := by
    unfold x0
    refine good_ainRestartAll a0h
  try clear_value x0
  try clear_value x1
  refine good_ite (good_State_each (good_State_setPlant h2) (fun y3 y4 y3h => good_strobeChannel y3h)) h2

theorem good_execPlantLoad {s0 : State} {a0 : State} (a0h : Good s0 a0) : ∃ t, execPlantLoad a0 = .next t ∧ Good s0 t := by
  unfold execPlantLoad
  exact ⟨_, rfl, good_loadStrobe a0h⟩

theorem good_execDacLoadEdge {s0 : State} {a0 : State} (a0h : Good s0 a0) : ∃ t, execDacLoadEdge a0 = .next t ∧ Good s0 t := by
  unfold execDacLoadEdge
  exact ⟨_, rfl, good_ite (good_loadStrobe a0h) a0h⟩

theorem good_execPeriodicStrobe {s0 : State} {a0 : State} (a0h : Good s0 a0) : ∃ t, execPeriodicStrobe a0 = .next t ∧ Good s0 t
    := by
  unfold execPeriodicStrobe
  exact ⟨_, rfl, good_ite (good_loadStrobe (good_State_setPlant a0h)) a0h⟩

theorem good_sineTick {s0 : State} {a0 : State} {a1 : ℕ} (a0h : Good s0 a0) : Good s0 (sineTick a0 a1) := by
  unfold sineTick
  refine good_ite a0h ?_
  extract_lets -merge -useContext -underBinder +onlyGivenNames x0 x1 x2 x3
  try clear_value x0
  try clear_value x1
  try clear_value x2
  have h4 : Good s0 x3 := by
    unfold x3
    refine good_State_putAout a0h
  try clear_value x3
  refine good_ite h4 (good_setCode h4)

theorem good_execSineTick {s0 : State} {a0 : Fin 8} {a1 : State} (a1h : Good s0 a1) : ∃ t, execSineTick a0 a1 = .next t ∧ Good s0
    t := by
  unfold execSineTick
  exact ⟨_, rfl, good_sineTick a1h⟩

theorem good_execDacClearEdge {s0 : State} {a0 : Bool} {a1 : State} (a1h : Good s0 a1) : ∃ t, execDacClearEdge a0 a1 = .next t ∧
    Good s0 t := by
  unfold execDacClearEdge
  exact ⟨_, rfl, good_ite (good_clearAll (good_State_raise (good_State_wr a1h))) (good_State_each (good_State_wr a1h) (fun y0 y1
    y0h => good_showAout y0h))⟩

theorem good_plantRelease {s0 : State} {a0 : State} (a0h : Good s0 a0) : Good s0 (plantRelease a0) := by
  unfold plantRelease
  refine good_ite a0h ?_
  extract_lets -merge -useContext -underBinder +onlyGivenNames x0
  have h1 : Good s0 x0 := by
    unfold x0
    refine good_State_wr a0h
  try clear_value x0
  refine good_State_each h1 (fun y2 y3 y2h => good_showAout (good_State_putAout y2h))

theorem good_execPlantRelease {s0 : State} {a0 : State} (a0h : Good s0 a0) : ∃ t, execPlantRelease a0 = .next t ∧ Good s0 t := by
  unfold execPlantRelease
  exact ⟨_, rfl, good_plantRelease a0h⟩

theorem good_selfCheck {s0 : State} {a0 : State} {a1 : ℕ} {a2 : SelfCheck} (a0h : Good s0 a0) : Good s0 (selfCheck a0 a1 a2) := by
  unfold selfCheck
  refine good_ite a0h ?_
  split
  · exact good_clearChannel (good_State_raise (good_State_putAout a0h))
  · exact good_ite (good_State_raise (good_State_wr a0h)) a0h
  · exact good_State_wr a0h

theorem good_execChannelSelfCheck {s0 : State} {a0 : Fin 8} {a1 : SelfCheck} {a2 : State} (a2h : Good s0 a2) : ∃ t,
    execChannelSelfCheck a0 a1 a2 = .next t ∧ Good s0 t := by
  unfold execChannelSelfCheck
  exact ⟨_, rfl, good_selfCheck a2h⟩

theorem good_aoutReject {s0 : State} {a0 : State} {a1 : ℕ} (a0h : Good s0 a0) : Good s0 (aoutReject a0 a1) := by
  unfold aoutReject
  exact good_State_raise (good_State_bump a0h)

theorem good_aoutCodeEffect {s0 : State} {a0 : State} {a1 : ℕ} {a2 : Sys2Proof.Word} (a0h : Good s0 a0) : Good s0 (aoutCodeEffect
    a0 a1 a2) := by
  unfold aoutCodeEffect
  exact good_ite (good_aoutReject (good_State_wr a0h)) (good_State_putAout a0h)

theorem good_aoutClearEffect {s0 : State} {a0 : State} {a1 : ℕ} (a0h : Good s0 a0) : Good s0 (aoutClearEffect a0 a1) := by
  unfold aoutClearEffect
  exact good_ite (good_clearChannel a0h) a0h

theorem good_outAout {s0 : State} {a0 : State} {a1 : ℕ} {a2 : ℕ} {a3 : ℕ} (a0h : Good s0 a0) : Good s0 (outAout a0 a1 a2 a3) := by
  unfold outAout
  refine good_ite (good_aoutReject a0h) ?_
  extract_lets -merge -useContext -underBinder +onlyGivenNames x0 x1
  try clear_value x0
  try clear_value x1
  split
  · exact good_State_raise a0h
  · extract_lets -merge -useContext -underBinder +onlyGivenNames x5
    try clear_value x5
    refine good_State_putAout a0h

theorem good_aoutJobLeaves {s0 : State} {a0 : State} {a1 : ℕ} (a0h : Good s0 a0) : Good s0 (aoutJobLeaves a0 a1) := by
  unfold aoutJobLeaves
  exact good_State_each a0h (fun y0 y1 y0h => good_ite (good_clearChannel (good_State_putAout y0h)) y0h)

end Sys2Proof.Machine
end

