-- ==== Sys2Proof/Laws/KeepsTimeBase.lean ====
section
/-! SUPPORT. Laws/KeepsTimeBase.lean: every operation of Machine/TimeBase.lean keeps what Laws/Keeps.lean names. -/

namespace Sys2Proof.Machine

theorem good_State_putTime {s0 : State} {a0 : State} {a1 : TimeUnit} (a0h : Good s0 a0) : Good s0 (State.putTime a0 a1) := by
  unfold State.putTime
  exact good_State_setTime a0h

theorem good_startTimebase {s0 : State} {a0 : State} (a0h : Good s0 a0) : Good s0 (startTimebase a0) := by
  unfold startTimebase
  exact good_ite a0h (good_State_setTime a0h)

theorem good_timebaseCycle {s0 : State} {a0 : State} (a0h : Good s0 a0) : Good s0 (timebaseCycle a0) := by
  unfold timebaseCycle
  refine good_ite ?_ a0h
  extract_lets -merge -useContext -underBinder +onlyGivenNames x0 x1 x2
  try clear_value x0
  try clear_value x1
  try clear_value x2
  refine good_State_setTime a0h

theorem good_idleCycle {s0 : State} {a0 : State} (a0h : Good s0 a0) : Good s0 (idleCycle a0) := by
  unfold idleCycle
  exact good_State_each (good_timebaseCycle (good_State_setNow a0h)) (fun y0 y1 y0h => good_refuseUnknown y0h)

theorem good_applyError {s0 : State} {a0 : State} {a1 : ℤ} (a0h : Good s0 a0) : Good s0 (applyError a0 a1) := by
  unfold applyError
  extract_lets -merge -useContext -underBinder +onlyGivenNames x0 x1 x2
  try clear_value x0
  try clear_value x1
  have h3 : Good s0 x2 := by
    unfold x2
    refine good_ite (good_State_raise (good_State_setTime a0h)) (good_ite (good_State_raise (good_State_wr a0h)) (good_State_wr
      a0h))
  try clear_value x2
  split
  · rename_i y5 y6 e4
    have y6h : Good s0 y6 := by
      exact (congrArg (fun p => Good s0 p.2) e4).mp (good_State_draw h3)
    refine good_State_wrInt y6h

theorem good_disciplineEvent {s0 : State} {a0 : State} {a1 : Sys2Proof.DWord} (a0h : Good s0 a0) : Good s0 (disciplineEvent a0
    a1) := by
  unfold disciplineEvent
  extract_lets -merge -useContext -underBinder +onlyGivenNames x0 x1 x2 x3 x4 x5 x6 x7 x8 x9 x10 x11 x12 x13 x14 x15 x16
  try clear_value x0
  try clear_value x1
  have h17 : Good s0 x2 := by
    unfold x2
    refine good_State_wrInt a0h
  try clear_value x2
  try clear_value x3
  try clear_value x4
  have h18 : Good s0 x5 := by
    unfold x5
    refine good_State_setTime h17
  try clear_value x5
  have h19 : Good s0 x6 := by
    unfold x6
    refine good_ite h18 (good_State_wr h18)
  try clear_value x6
  have h20 : Good s0 x7 := by
    unfold x7
    refine good_State_wr h19
  try clear_value x7
  try clear_value x8
  try clear_value x9
  try clear_value x10
  try clear_value x11
  have h21 : Good s0 x12 := by
    unfold x12
    refine good_State_wr h20
  try clear_value x12
  try clear_value x13
  have h22 : Good s0 x14 := by
    unfold x14
    refine good_applyError h21
  try clear_value x14
  try clear_value x15
  try clear_value x16
  refine good_ite a0h (good_ite (good_ite (good_ite (good_applyError (good_State_wr (good_State_setTime h20)))
    (good_State_setTime h20)) (good_applyError (good_State_setTime h20))) (good_ite (good_State_raise (good_State_wr
    (good_State_setTime h22))) (good_State_setTime h22)))

theorem good_execSyncInEdge {s0 : State} {a0 : Bool} {a1 : Fin 4} {a2 : State} (a2h : Good s0 a2) : ∃ t, execSyncInEdge a0 a1 a2
    = .next t ∧ Good s0 t := by
  unfold execSyncInEdge
  exact ⟨_, rfl, good_ite (good_disciplineEvent a2h) a2h⟩

theorem good_execHoldoverTimeout {s0 : State} {a0 : State} (a0h : Good s0 a0) : ∃ t, execHoldoverTimeout a0 = .next t ∧ Good s0 t
    := by
  unfold execHoldoverTimeout
  exact ⟨_, rfl, good_ite (good_State_raise (good_State_wr a0h)) a0h⟩

theorem good_tbCfgEffect {s0 : State} {a0 : State} (a0h : Good s0 a0) : Good s0 (tbCfgEffect a0) := by
  unfold tbCfgEffect
  exact good_ite (good_State_setTime (good_State_wr (good_State_wr a0h))) (good_ite (good_State_setTime (good_State_wr a0h)) a0h)

theorem good_tbSyncHiEffect {s0 : State} {a0 : State} (a0h : Good s0 a0) : Good s0 (tbSyncHiEffect a0) := by
  unfold tbSyncHiEffect
  extract_lets -merge -useContext -underBinder +onlyGivenNames x0 x1
  try clear_value x0
  try clear_value x1
  refine good_State_setTime a0h

theorem good_State_putMarkQ {s0 : State} {a0 : State} {a1 : ℕ} {a2 : List MarkEntry} (a0h : Good s0 a0) : Good s0 (State.putMarkQ
    a0 a1 a2) := by
  unfold State.putMarkQ
  exact good_State_wr (good_State_setTime a0h)

theorem good_State_putMarkLevel {s0 : State} {a0 : State} {a1 : ℕ} {a2 : Bool} (a0h : Good s0 a0) : Good s0 (State.putMarkLevel
    a0 a1 a2) := by
  unfold State.putMarkLevel
  exact good_State_setTime a0h

theorem good_markFire {s0 : State} {a0 : State} {a1 : ℕ} {a2 : Bool} (a0h : Good s0 a0) : Good s0 (markFire a0 a1 a2) := by
  unfold markFire
  extract_lets -merge -useContext -underBinder +onlyGivenNames x0 x1 x2
  try clear_value x0
  have h3 : Good s0 x1 := by
    unfold x1
    refine good_State_putMarkLevel (good_State_bump (good_State_wr a0h))
  try clear_value x1
  try clear_value x2
  refine good_State_setTime h3

theorem good_markInactive {s0 : State} {a0 : State} {a1 : ℕ} (a0h : Good s0 a0) : Good s0 (markInactive a0 a1) := by
  unfold markInactive
  exact good_ite (good_State_putMarkLevel (good_State_wr a0h)) a0h

theorem good_markHeads {s0 s : State} {k : Nat} {l : List MarkEntry} (h : Good s0 s) : Good s0 (markHeads s k l) := by
  induction l generalizing s with
  | nil => exact good_State_putMarkQ h
  | cons t l ih => exact good_ite (ih (good_markFire h)) (good_State_putMarkQ h)

theorem good_markAll {s0 : State} {a0 : State} (a0h : Good s0 a0) : Good s0 (markAll a0) := by
  unfold markAll
  exact good_State_each a0h (fun y0 y1 y0h => good_ite y0h (good_markHeads y0h))

theorem good_markSchedule {s0 : State} {a0 : State} {a1 : ℕ} {a2 : Sys2Proof.Word} (a0h : Good s0 a0) : Good s0 (markSchedule a0
    a1 a2).2 := by
  unfold markSchedule
  extract_lets -merge -useContext -underBinder +onlyGivenNames x0 x1 x2
  try clear_value x0
  try clear_value x1
  try clear_value x2
  refine good_ite2 (good_mk2 (good_State_raise a0h)) (good_ite2 (good_mk2 (good_State_raise a0h)) (good_ite2 (good_ite2 (good_mk2
    (good_State_raise (good_markFire a0h))) (good_mk2 (good_State_raise a0h))) (good_mk2 (good_State_putMarkQ a0h))))

theorem good_markClear {s0 : State} {a0 : State} {a1 : ℕ} (a0h : Good s0 a0) : Good s0 (markClear a0 a1) := by
  unfold markClear
  exact good_markInactive (good_State_putMarkQ a0h)

theorem good_markFlushAll {s0 : State} {a0 : State} (a0h : Good s0 a0) : Good s0 (markFlushAll a0) := by
  unfold markFlushAll
  exact good_State_raise (good_State_each a0h (fun y0 y1 y0h => good_markClear y0h))

theorem good_execMarkPulseEnd {s0 : State} {a0 : Fin 8} {a1 : State} (a1h : Good s0 a1) : ∃ t, execMarkPulseEnd a0 a1 = .next t ∧
    Good s0 t := by
  unfold execMarkPulseEnd
  exact ⟨_, rfl, good_ite (good_markInactive a1h) a1h⟩

theorem good_encoderSample {s0 : State} {a0 : State} {a1 : Bool} {a2 : Bool} (a0h : Good s0 a0) : Good s0 (encoderSample a0 a1
    a2) := by
  unfold encoderSample
  extract_lets -merge -useContext -underBinder +onlyGivenNames x0 x1 x2 x3 x4 x5 x6 x7 x8 x9
  try clear_value x0
  try clear_value x1
  try clear_value x2
  try clear_value x3
  try clear_value x4
  have h10 : Good s0 x5 := by
    unfold x5
    refine good_State_setTime a0h
  try clear_value x5
  try clear_value x6
  try clear_value x7
  have h11 : Good s0 x8 := by
    unfold x8
    refine good_State_setWord h10
  try clear_value x8
  try clear_value x9
  refine good_ite h10 (good_ite (good_State_raise (good_State_bump h10)) (good_ite h10 (good_markAll (good_State_setTime h11))))

theorem good_execEncoderTransition {s0 : State} {a0 : Bool} {a1 : Bool} {a2 : State} (a2h : Good s0 a2) : ∃ t,
    execEncoderTransition a0 a1 a2 = .next t ∧ Good s0 t := by
  unfold execEncoderTransition
  exact ⟨_, rfl, good_encoderSample a2h⟩

theorem good_execClkTbSet {s0 : State} {a0 : Fin 16} {a1 : State} (a1h : Good s0 a1) : ∃ t, execClkTbSet a0 a1 = .next t ∧ Good
    s0 t := by
  unfold execClkTbSet
  exact ⟨_, rfl, good_State_peade a1h (fun y0 y0h => good_ite (good_State_respond y0h) (good_State_respond (good_State_raise
    (good_State_setTime y0h))))⟩

theorem good_execClkEncPreset {s0 : State} {a0 : Fin 16} {a1 : State} (a1h : Good s0 a1) : ∃ t, execClkEncPreset a0 a1 = .next t
    ∧ Good s0 t := by
  unfold execClkEncPreset
  refine ⟨_, rfl, ?_⟩
  refine good_State_peade a1h ?_
  intro y0 y0h
  refine good_ite (good_State_respond y0h) ?_
  extract_lets -merge -useContext -underBinder +onlyGivenNames x1 x2
  have h3 : Good s0 x1 := by
    unfold x1
    refine good_State_setWord y0h
  try clear_value x1
  have h4 : Good s0 x2 := by
    unfold x2
    refine good_State_each h3 (fun y5 y6 y5h => good_State_putMarkQ y5h)
  try clear_value x2
  refine good_State_respond (good_State_raise h4)

theorem good_execStreamMark {s0 : State} {a0 : Fin 16} {a1 : State} (a1h : Good s0 a1) : ∃ t, execStreamMark a0 a1 = .next t ∧
    Good s0 t := by
  unfold execStreamMark
  refine ⟨_, rfl, ?_⟩
  refine good_State_peade a1h ?_
  intro y0 y0h
  extract_lets -merge -useContext -underBinder +onlyGivenNames x1
  have h2 : Good s0 x1.2 := by
    unfold x1
    refine good_markSchedule y0h
  try clear_value x1
  refine good_State_respond h2

theorem good_execStreamMarkClear {s0 : State} {a0 : Fin 16} {a1 : State} (a1h : Good s0 a1) : ∃ t, execStreamMarkClear a0 a1 =
    .next t ∧ Good s0 t := by
  unfold execStreamMarkClear
  refine ⟨_, rfl, ?_⟩
  refine good_State_peade a1h ?_
  intro y0 y0h
  extract_lets -merge -useContext -underBinder +onlyGivenNames x1 x2
  try clear_value x1
  try clear_value x2
  refine good_State_respond (good_State_raise (good_markClear y0h))

end Sys2Proof.Machine
end

