-- ==== Sys2Proof/Laws/KeepsRecords.lean ====
section
/-! SUPPORT. Laws/KeepsRecords.lean: every operation of Machine/Records.lean keeps what Laws/Keeps.lean names. -/

namespace Sys2Proof.Machine

theorem good_openFrame {s0 : State} {a0 : State} {a1 : ℕ} {a2 : ℕ} (a0h : Good s0 a0) : Good s0 (openFrame a0 a1 a2) := by
  unfold openFrame
  extract_lets -merge -useContext -underBinder +onlyGivenNames x0 x1
  try clear_value x0
  try clear_value x1
  refine good_ite a0h (good_State_putTx (good_State_putChan a0h))

theorem good_handRecord {s0 : State} {a0 : State} {a1 : ℕ} {a2 : ℕ} {a3 : ℕ} {a4 : List (List Sys2Proof.Byte)} (a0h : Good s0 a0)
    : Good s0 (handRecord a0 a1 a2 a3 a4) := by
  unfold handRecord
  extract_lets -merge -useContext -underBinder +onlyGivenNames x0 x1
  try clear_value x0
  try clear_value x1
  refine good_openFrame (good_State_setRecSeq (good_State_setRecQ a0h))

theorem good_emitDrop {s0 : State} {a0 : State} {a1 : DropRun} (a0h : Good s0 a0) : Good s0 (emitDrop a0 a1) := by
  unfold emitDrop
  exact good_handRecord a0h

theorem good_emitMiss {s0 : State} {a0 : State} {a1 : MissRun} {a2 : ℕ} {a3 : ℕ} {a4 : Stamp} {a5 : Stamp} (a0h : Good s0 a0) :
    Good s0 (emitMiss a0 a1 a2 a3 a4 a5) := by
  unfold emitMiss
  exact good_handRecord a0h

theorem good_addDrops {s0 s : State} {g : DropRun} {fuel : Nat} (h : Good s0 s) : Good s0 (addDrops s g fuel) := by
  induction fuel generalizing s g with
  | zero => exact h
  | succ n ih =>
    simp only [addDrops]
    refine good_ite h ?_
    split
    · exact ih (good_ite (good_emitDrop (good_State_setDrops h)) (good_State_setDrops h))
    · exact ih (good_ite (good_emitDrop h) (good_State_setDrops h))

theorem good_closeDrops {s0 : State} {a0 : State} {a1 : ℕ} {a2 : List DropRun} (a0h : Good s0 a0) : Good s0 (closeDrops a0 a1 a2)
    := by
  unfold closeDrops
  extract_lets -merge -useContext -underBinder +onlyGivenNames x0 x1
  try clear_value x0
  try clear_value x1
  refine good_State_each (good_State_setDrops a0h) (fun y2 y3 y2h => good_emitDrop y2h)

theorem good_lineDrops {s0 : State} {a0 : State} {a1 : ℕ} {a2 : List DropRun} (a0h : Good s0 a0) : Good s0 (lineDrops a0 a1 a2)
    := by
  unfold lineDrops
  exact good_State_each (good_closeDrops a0h) (fun y0 y1 y0h => good_addDrops y0h)

theorem good_execDropRunTimeout {s0 : State} {a0 : Fin 48} {a1 : State} (a1h : Good s0 a1) : ∃ t, execDropRunTimeout a0 a1 =
    .next t ∧ Good s0 t := by
  unfold execDropRunTimeout
  exact ⟨_, rfl, good_State_each (good_State_setDrops a1h) (fun y0 y1 y0h => good_emitDrop y0h)⟩

theorem good_closeMiss {s0 : State} {a0 : State} {a1 : MissRun} (a0h : Good s0 a0) : Good s0 (closeMiss a0 a1) := by
  unfold closeMiss
  exact good_State_each a0h (fun y0 y1 y0h => good_emitMiss y0h)

theorem good_addMiss {s0 : State} {a0 : State} {a1 : ℕ} {a2 : ℕ} {a3 : ℕ} {a4 : ℕ} {a5 : ℕ} {a6 : Stamp} {a7 : Stamp} (a0h : Good
    s0 a0) : Good s0 (addMiss a0 a1 a2 a3 a4 a5 a6 a7) := by
  unfold addMiss
  extract_lets -merge -useContext -underBinder +onlyGivenNames x0 x1 x2 x3 x4
  try clear_value x0
  try clear_value x1
  try clear_value x2
  try clear_value x3
  try clear_value x4
  refine good_ite (good_closeMiss (good_State_setMisses a0h)) (good_State_setMisses a0h)

theorem good_closeMisses {s0 : State} {a0 : State} {a1 : ℕ} {a2 : ℕ} (a0h : Good s0 a0) : Good s0 (closeMisses a0 a1 a2) := by
  unfold closeMisses
  extract_lets -merge -useContext -underBinder +onlyGivenNames x0
  try clear_value x0
  refine good_State_each (good_State_setMisses a0h) (fun y1 y2 y1h => good_closeMiss y1h)

theorem good_emitStatus {s0 : State} {a0 : State} {a1 : ℕ} {a2 : ℕ} {a3 : ℕ} {a4 : List Sys2Proof.Byte} (a0h : Good s0 a0) : Good
    s0 (emitStatus a0 a1 a2 a3 a4) := by
  unfold emitStatus
  extract_lets -merge -useContext -underBinder +onlyGivenNames x0 x1
  try clear_value x0
  try clear_value x1
  refine good_handRecord a0h

theorem good_execPeriodicStatus {s0 : State} {a0 : State} (a0h : Good s0 a0) : ∃ t, execPeriodicStatus a0 = .next t ∧ Good s0 t
    := by
  unfold execPeriodicStatus
  refine ⟨_, rfl, ?_⟩
  refine good_ite a0h ?_
  extract_lets -merge -useContext -underBinder +onlyGivenNames x0 x1
  try clear_value x0
  have h2 : Good s0 x1 := by
    unfold x1
    refine good_State_setTime a0h
  try clear_value x1
  refine good_State_each (good_emitStatus h2) (fun y3 y4 y3h => good_State_putIng y3h)

end Sys2Proof.Machine
end

