-- ==== Sys2Proof/Laws/KeepsHubTags.lean ====
section
/-! SUPPORT. Laws/KeepsHubTags.lean: every operation of Machine/HubTags.lean keeps what Laws/Keeps.lean names. -/

namespace Sys2Proof.Machine

theorem good_showTags {s0 : State} {a0 : State} {a1 : ℕ} (a0h : Good s0 a0) : Good s0 (showTags a0 a1) := by
  unfold showTags
  extract_lets -merge -useContext -underBinder +onlyGivenNames x0
  have h1 : Good s0 x0 := by
    unfold x0
    refine good_State_wr (good_State_wr a0h)
  try clear_value x0
  refine good_State_wr (good_State_wr h1)

theorem good_takeTag {s0 : State} {a0 : State} {a1 : ℕ} (a0h : Good s0 a0) : Good s0 (takeTag a0 a1).2 := by
  unfold takeTag
  extract_lets -merge -useContext -underBinder +onlyGivenNames x0 x1
  try clear_value x0
  have h2 : Good s0 x1 := by
    unfold x1
    refine good_State_setTagAt a0h (fun c => ?_)
    refine spWf_spSet _ _ _ _ ?_
    refine Good.at_tagAt (s0 := s0) ?_ c
    exact a0h
  try clear_value x1
  refine good_mk2 (good_showTags (good_State_setTagsHeld h2))

theorem good_refreshWait {s0 : State} {a0 : State} {a1 : ℕ} (a0h : Good s0 a0) : Good s0 (refreshWait a0 a1) := by
  unfold refreshWait
  extract_lets -merge -useContext -underBinder +onlyGivenNames x0 x1 x2 x3
  try clear_value x0
  have h4 : Good s0 x1 := by
    unfold x1
    refine good_ite (good_State_bump a0h) a0h
  try clear_value x1
  have h5 : Good s0 x2 := by
    unfold x2
    refine good_State_wrB h4
  try clear_value x2
  try clear_value x3
  refine good_ite h5 (good_State_putJob h5)

theorem good_returnTags {s0 : State} {a0 : State} {a1 : ℕ} {a2 : List ℕ} (a0h : Good s0 a0) : Good s0 (returnTags a0 a1 a2) := by
  unfold returnTags
  exact good_refreshWait (good_showTags (good_State_setTagsHeld a0h))

end Sys2Proof.Machine
end

