-- ==== Sys2Proof/Laws/KeepsSeating.lean ====
section
/-! SUPPORT. Laws/KeepsSeating.lean: every operation of Machine/Seating.lean keeps what Laws/Keeps.lean names. -/

namespace Sys2Proof.Machine

theorem good_showSeat {s0 : State} {a0 : State} {a1 : ℕ} (a0h : Good s0 a0) : Good s0 (showSeat a0 a1) := by
  unfold showSeat
  exact good_State_wr a0h

theorem good_openOut {s0 : State} {a0 : State} {a1 : ℕ} (a0h : Good s0 a0) : Good s0 (openOut a0 a1) := by
  unfold openOut
  extract_lets -merge -useContext -underBinder +onlyGivenNames x0
  try clear_value x0
  refine good_ite (good_openFrame a0h) a0h

theorem good_seatEmit {s0 : State} {a0 : State} {a1 : ℕ} {a2 : Result} (a0h : Good s0 a0) : Good s0 (seatEmit a0 a1 a2) := by
  unfold seatEmit
  extract_lets -merge -useContext -underBinder +onlyGivenNames x0
  try clear_value x0
  refine good_openOut (good_State_putOut a0h)

theorem good_seatDrain {s0 s : State} {n keep fuel : Nat} (h : Good s0 s) : Good s0 (seatDrain s n keep fuel) := by
  induction fuel generalizing s with
  | zero => exact h
  | succ m ih =>
    simp only [seatDrain]
    refine good_ite h ?_
    split
    · exact h
    · exact ih (good_seatEmit (good_State_putOut h))

theorem good_seatArrive {s0 : State} {a0 : State} {a1 : ℕ} {a2 : Result} (a0h : Good s0 a0) : Good s0 (seatArrive a0 a1 a2) := by
  unfold seatArrive
  extract_lets -merge -useContext -underBinder +onlyGivenNames x0 x1 x2 x3 x4
  have h5 : Good s0 x0 := by
    unfold x0
    refine good_State_apply a0h
  try clear_value x0
  have h6 : Good s0 x1 := by
    unfold x1
    refine good_seatDrain h5
  try clear_value x1
  try clear_value x2
  try clear_value x3
  have h7 : Good s0 x4 := by
    unfold x4
    refine good_State_putOut h6
  try clear_value x4
  refine good_ite (good_showSeat (good_seatEmit h6)) (good_ite (good_showSeat (good_State_bump (good_seatEmit h6)))
    (good_showSeat (good_seatDrain h7)))

theorem good_seatUpTo {s0 s : State} {n : Nat} {k : Nat × Nat} {fuel : Nat} (h : Good s0 s) : Good s0 (seatUpTo s n k fuel) := by
  induction fuel generalizing s with
  | zero => exact h
  | succ m ih =>
    simp only [seatUpTo]
    split
    · exact h
    · exact good_ite h (ih (good_State_bump (good_seatEmit (good_State_putOut h))))

theorem good_execSeatHoldExpiry {s0 : State} {a0 : Fin 128} {a1 : State} (a1h : Good s0 a1) : ∃ t, execSeatHoldExpiry a0 a1 =
    .next t ∧ Good s0 t := by
  unfold execSeatHoldExpiry
  refine ⟨_, rfl, ?_⟩
  split
  · exact a1h
  · exact good_ite (good_showSeat (good_seatUpTo a1h)) a1h

theorem good_seatFlush {s0 : State} {a0 : State} {a1 : ℕ} (a0h : Good s0 a0) : Good s0 (seatFlush a0 a1) := by
  unfold seatFlush
  exact good_showSeat (good_seatDrain a0h)

end Sys2Proof.Machine
end

