-- ==== Sys2Proof/Laws/KeepsStore.lean ====
section
/-! SUPPORT. Laws/KeepsStore.lean: every operation of Machine/Store.lean keeps what Laws/Keeps.lean names. -/

namespace Sys2Proof.Machine

theorem good_State_putSlot {s0 : State} {a0 : State} {a1 : ℕ} {a2 : StoreSlot} (a0h : Good s0 a0) : Good s0 (State.putSlot a0 a1
    a2) := by
  unfold State.putSlot
  extract_lets -merge -useContext -underBinder +onlyGivenNames x0 x1
  have h2 : Good s0 x0 := by
    unfold x0
    refine good_State_setStore a0h (fun c => ?_)
    refine spWf_spSet _ _ _ _ ?_
    refine Good.at_store (s0 := s0) ?_ c
    exact a0h
  try clear_value x0
  have h3 : Good s0 x1 := by
    unfold x1
    refine good_State_wr (good_State_wr h2)
  try clear_value x1
  refine good_State_wr h3

end Sys2Proof.Machine
end

