-- ==== Sys2Proof/Laws/KeepsFabric.lean ====
section
/-! SUPPORT. Laws/KeepsFabric.lean: every operation of Machine/Fabric.lean keeps what Laws/Keeps.lean names. -/

namespace Sys2Proof.Machine

theorem good_pitchPut {s0 : State} {a0 : State} {a1 : Place} {a2 : Token} (a0h : Good s0 a0) : Good s0 (pitchPut a0 a1 a2) := by
  unfold pitchPut
  exact good_State_setFabric a0h

theorem good_pitchTake {s0 : State} {a0 : State} {a1 : Held} (a0h : Good s0 a0) : Good s0 (pitchTake a0 a1) := by
  unfold pitchTake
  exact good_State_setFabric a0h

theorem good_countSent {s0 : State} {a0 : State} {a1 : Token} {a2 : Place} {a3 : ℕ} (a0h : Good s0 a0) : Good s0 (countSent a0 a1
    a2 a3) := by
  unfold countSent
  split
  · exact good_State_wr2 a0h
  · exact a0h
  · exact a0h
  · exact a0h
  · exact a0h
  · exact a0h
  · exact a0h

theorem good_flowOne {s0 : State} {a0 : State} {a1 : Held} (a0h : Good s0 a0) : Good s0 (flowOne a0 a1) := by
  unfold flowOne
  split
  · exact a0h
  · extract_lets -merge -useContext -underBinder +onlyGivenNames x4
    have h5 : Good s0 x4 := by
      unfold x4
      refine good_State_each a0h (fun y6 y7 y6h => good_countSent y6h)
    try clear_value x4
    refine good_State_setFabric h5

theorem good_settle {s0 : State} {a0 : State} (a0h : Good s0 a0) : Good s0 (settle a0) := by
  unfold settle
  exact good_State_each a0h (fun y0 y1 y0h => good_State_each y0h (fun y2 y3 y2h => good_flowOne y2h))

theorem good_pitchMove {s0 : State} {a0 : State} {a1 : Held} {a2 : Place} (a0h : Good s0 a0) : Good s0 (pitchMove a0 a1 a2) := by
  unfold pitchMove
  extract_lets -merge -useContext -underBinder +onlyGivenNames x0
  have h1 : Good s0 x0 := by
    unfold x0
    refine good_pitchTake a0h
  try clear_value x0
  refine good_settle (good_State_setFabric h1)

theorem good_noteEntry {s0 : State} {a0 : State} {a1 : Held} (a0h : Good s0 a0) : Good s0 (noteEntry a0 a1) := by
  unfold noteEntry
  refine good_ite (good_State_each (good_State_setGrantRr a0h fun c => ?_) fun _ _ h => good_State_bump h) a0h
  exact spWf_spSet _ _ _ _ (Good.at_grantRr (s0 := s0) a0h c)

theorem good_pitchEnter {s0 : State} {a0 : State} (a0h : Good s0 a0) : Good s0 (pitchEnter a0) := by
  unfold pitchEnter
  refine good_State_each (good_settle a0h) ?_
  intro y0 y1 y0h
  exact good_ite (good_pitchMove (good_noteEntry y0h)) y0h

theorem good_markCounted {s0 : State} {a0 : State} {a1 : Held} (a0h : Good s0 a0) : Good s0 (markCounted a0 a1) := by
  unfold markCounted
  exact good_State_setFabric a0h

theorem good_countWaits {s0 : State} {a0 : State} {a1 : ℕ} {a2 : ℕ} {a3 : List (ℕ × Held)} (a0h : Good s0 a0) : Good s0
    (countWaits a0 a1 a2 a3) := by
  unfold countWaits
  extract_lets -merge -useContext -underBinder +onlyGivenNames x0 x1
  try clear_value x0
  have h2 : Good s0 x1 := by
    unfold x1
    refine good_State_wr2 a0h
  try clear_value x1
  refine good_State_each h2 (fun y3 y4 y3h => good_markCounted y3h)

theorem good_routerGrant {s0 : State} {a0 : State} {a1 : ℕ} {a2 : ℕ} (a0h : Good s0 a0) : Good s0 (routerGrant a0 a1 a2) := by
  unfold routerGrant
  extract_lets -merge -useContext -underBinder +onlyGivenNames x0 x1 x2 x3 x4 x5
  try clear_value x0
  try clear_value x1
  try clear_value x2
  try clear_value x3
  try clear_value x4
  try clear_value x5
  split
  · exact good_countWaits a0h
  · split
    · exact a0h
    · extract_lets -merge -useContext -underBinder +onlyGivenNames x12 x13 x14 x15 x16
      try clear_value x12
      try clear_value x13
      have h17 : Good s0 x14 := by
        unfold x14
        refine good_State_setGrantRr a0h (fun c => ?_)
        refine spWf_spSet _ _ _ _ ?_
        refine Good.at_grantRr (s0 := s0) ?_ c
        exact a0h
      try clear_value x14
      have h18 : Good s0 x15 := by
        unfold x15
        refine good_countWaits h17
      try clear_value x15
      have h19 : Good s0 x16 := by
        unfold x16
        refine good_State_each h18 (fun y20 y21 y20h => good_State_bump y20h)
      try clear_value x16
      refine good_pitchEnter (good_pitchMove h19)

theorem good_execRouterGrant {s0 : State} {a0 : Fin 256} {a1 : Fin 5} {a2 : State} (a2h : Good s0 a2) : ∃ t, execRouterGrant a0
    a1 a2 = .next t ∧ Good s0 t := by
  unfold execRouterGrant
  exact ⟨_, rfl, good_routerGrant a2h⟩

theorem good_dropStale {s0 : State} {a0 : State} {a1 : Held} (a0h : Good s0 a0) : Good s0 (dropStale a0 a1) := by
  unfold dropStale
  extract_lets -merge -useContext -underBinder +onlyGivenNames x0
  have h1 : Good s0 x0 := by
    unfold x0
    refine good_pitchTake a0h
  try clear_value x0
  split
  · exact good_State_bump h1
  · exact h1

theorem good_execStaleTokenDiscard {s0 : State} {a0 : Place} {a1 : State} (a1h : Good s0 a1) : ∃ t, execStaleTokenDiscard a0 a1 =
    .next t ∧ Good s0 t := by
  unfold execStaleTokenDiscard
  refine ⟨_, rfl, ?_⟩
  split
  · exact good_ite (good_pitchEnter (good_dropStale a1h)) a1h
  · exact a1h

theorem good_markStale {s0 : State} {a0 : State} {a1 : ℕ} (a0h : Good s0 a0) : Good s0 (markStale a0 a1) := by
  unfold markStale
  exact good_State_setFabric a0h

theorem good_inject {s0 : State} {a0 : State} {a1 : ℕ} {a2 : Token} (a0h : Good s0 a0) : Good s0 (inject a0 a1 a2) := by
  unfold inject
  exact good_pitchPut a0h

end Sys2Proof.Machine
end

