-- ==== Sys2Proof/Laws/KeepsIngest.lean ====
section
/-! SUPPORT. Laws/KeepsIngest.lean: every operation of Machine/Ingest.lean keeps what Laws/Keeps.lean names. -/

namespace Sys2Proof.Machine

theorem good_countDrops {s0 : State} {a0 : State} {a1 : ℕ} {a2 : List ℕ} (a0h : Good s0 a0) : Good s0 (countDrops a0 a1 a2) := by
  unfold countDrops
  extract_lets -merge -useContext -underBinder +onlyGivenNames x0 x1 x2
  try clear_value x0
  try clear_value x1
  try clear_value x2
  refine good_State_putIng (good_State_bumpBy a0h)

theorem good_reportCollected {s0 : State} {a0 : State} {a1 : ℕ} {a2 : ℕ} {a3 : List ℕ} (a0h : Good s0 a0) : Good s0
    (reportCollected a0 a1 a2 a3) := by
  unfold reportCollected
  extract_lets -merge -useContext -underBinder +onlyGivenNames x0 x1 x2 x3 x4
  try clear_value x0
  try clear_value x1
  have h5 : Good s0 x2 := by
    unfold x2
    refine good_countDrops a0h
  try clear_value x2
  try clear_value x3
  have h6 : Good s0 x4 := by
    unfold x4
    refine good_State_each h5 (fun y7 y8 y7h => good_State_putBind y7h)
  try clear_value x4
  refine good_State_each h6 (fun y9 y10 y9h => good_emitDrop y9h)

theorem good_missOn {s0 : State} {a0 : State} {a1 : ℕ} {a2 : ℕ} {a3 : ℕ} {a4 : Stamp} {a5 : Stamp} (a0h : Good s0 a0) : Good s0
    (missOn a0 a1 a2 a3 a4 a5) := by
  unfold missOn
  extract_lets -merge -useContext -underBinder +onlyGivenNames x0 x1
  try clear_value x0
  try clear_value x1
  refine good_State_each a0h (fun y2 y3 y2h => good_addMiss y2h)

theorem good_resumeAt {s0 : State} {a0 : State} {a1 : ℕ} {a2 : ℕ} {a3 : ℕ} (a0h : Good s0 a0) : Good s0 (resumeAt a0 a1 a2 a3) :=
    by
  unfold resumeAt
  extract_lets -merge -useContext -underBinder +onlyGivenNames x0
  try clear_value x0
  refine good_ite (good_closeMisses (good_State_putBind a0h)) a0h

theorem good_acceptLine {s0 : State} {a0 : State} {a1 : ℕ} {a2 : ℕ} {a3 : Line} (a0h : Good s0 a0) : Good s0 (acceptLine a0 a1 a2
    a3) := by
  unfold acceptLine
  extract_lets -merge -useContext -underBinder +onlyGivenNames x0 x1 x2
  try clear_value x0
  try clear_value x1
  have h3 : Good s0 x2 := by
    unfold x2
    refine good_State_putBind a0h
  try clear_value x2
  refine good_ite (good_refreshWait (good_State_setBatches h3)) (good_State_putBind a0h)

theorem good_noteFirst {s0 : State} {a0 : State} {a1 : ℕ} {a2 : ℕ} {a3 : ℕ} {a4 : Stamp} (a0h : Good s0 a0) : Good s0 (noteFirst
    a0 a1 a2 a3 a4) := by
  unfold noteFirst
  extract_lets -merge -useContext -underBinder +onlyGivenNames x0
  try clear_value x0
  refine good_ite a0h (good_State_putBind a0h)

theorem good_offerLine {s0 : State} {a0 : State} {a1 : ℕ} {a2 : Stamp} {a3 : List ℕ} {a4 : ℕ} (a0h : Good s0 a0) : Good s0
    (offerLine a0 a1 a2 a3 a4) := by
  unfold offerLine
  extract_lets -merge -useContext -underBinder +onlyGivenNames x0 x1 x2 x3 x4 x5 x6 x7 x8 x9
  try clear_value x0
  try clear_value x1
  have h10 : Good s0 x2 := by
    unfold x2
    refine good_State_putIng (good_State_bump a0h)
  try clear_value x2
  try clear_value x3
  have h11 : Good s0 x4 := by
    unfold x4
    refine good_State_each h10 (fun y12 y13 y12h => good_noteFirst (good_resumeAt y12h))
  try clear_value x4
  try clear_value x5
  try clear_value x6
  have h14 : Good s0 x7 := by
    unfold x7
    refine good_reportCollected h11
  try clear_value x7
  have h15 : Good s0 x8 := by
    unfold x8
    refine good_ite h14 (good_countDrops h14)
  try clear_value x8
  have h16 : Good s0 x9 := by
    unfold x9
    refine good_lineDrops h15
  try clear_value x9
  refine good_State_each h16 ?_
  intro y17 y18 y17h
  extract_lets -merge -useContext -underBinder +onlyGivenNames x19 x20
  try clear_value x19
  try clear_value x20
  split
  · exact good_acceptLine y17h
  · exact good_missOn (good_State_putBind y17h)
  · extract_lets -merge -useContext -underBinder +onlyGivenNames x25 x26
    try clear_value x25
    have h27 : Good s0 x26 := by
      unfold x26
      refine good_State_putBind y17h
    try clear_value x26
    refine good_ite (good_missOn h27) h27

theorem good_lostLines {s0 : State} {a0 : State} {a1 : ℕ} {a2 : ℕ} {a3 : Stamp} {a4 : Stamp} (a0h : Good s0 a0) : Good s0
    (lostLines a0 a1 a2 a3 a4) := by
  unfold lostLines
  extract_lets -merge -useContext -underBinder +onlyGivenNames x0 x1 x2 x3 x4 x5 x6
  try clear_value x0
  try clear_value x1
  have h7 : Good s0 x2 := by
    unfold x2
    refine good_State_putIng (good_State_bumpBy a0h)
  try clear_value x2
  try clear_value x3
  have h8 : Good s0 x4 := by
    unfold x4
    refine good_reportCollected h7
  try clear_value x4
  have h9 : Good s0 x5 := by
    unfold x5
    refine good_ite h8 (good_countDrops h8)
  try clear_value x5
  have h10 : Good s0 x6 := by
    unfold x6
    refine good_lineDrops h9
  try clear_value x6
  refine good_State_each h10 ?_
  intro y11 y12 y11h
  extract_lets -merge -useContext -underBinder +onlyGivenNames x13 x14 x15 x16
  try clear_value x13
  try clear_value x14
  have h17 : Good s0 x15 := by
    unfold x15
    refine good_State_putBind y11h
  try clear_value x15
  have h18 : Good s0 x16 := by
    unfold x16
    refine good_noteFirst h17
  try clear_value x16
  refine good_ite (good_State_each h18 (fun y19 y20 y19h => good_missOn y19h)) h18

theorem good_losePending {s0 : State} {a0 : State} {a1 : ℕ} (a0h : Good s0 a0) : Good s0 (losePending a0 a1) := by
  unfold losePending
  split
  · exact a0h
  · extract_lets -merge -useContext -underBinder +onlyGivenNames x3 x4 x5 x6
    try clear_value x3
    have h7 : Good s0 x4 := by
      unfold x4
      refine good_State_putIng a0h
    try clear_value x4
    have h8 : Good s0 x5 := by
      unfold x5
      refine good_lostLines h7
    try clear_value x5
    try clear_value x6
    refine good_State_putIng h8

theorem good_headerCheck {s0 : State} {a0 : State} {a1 : ℕ} {a2 : HdrCheck} (a0h : Good s0 a0) : Good s0 (headerCheck a0 a1 a2).1
    := by
  unfold headerCheck
  extract_lets -merge -useContext -underBinder +onlyGivenNames x0
  have h1 : Good s0 x0 := by
    unfold x0
    refine good_State_setRxAt a0h (fun c => ?_)
    refine spWf_spSet _ _ _ _ ?_
    refine Good.at_rxAt (s0 := s0) ?_ c
    exact a0h
  try clear_value x0
  split
  · exact good_mk1 h1
  · exact good_mk1 (good_State_bump h1)
  · exact good_mk1 (good_State_raiseRx h1)

theorem good_streamOfPacket {s0 : State} {a0 : State} {a1 : ℕ} {a2 : ℕ} {a3 : HdrCheck} (a0h : Good s0 a0) : Good s0
    (streamOfPacket a0 a1 a2 a3).1 := by
  unfold streamOfPacket
  refine good_ite1 (good_mk1 a0h) ?_
  split
  · rename_i y1 e0
    have y1h : Good s0 y1 := by
      exact (congrArg (fun p => Good s0 p.1) e0).mp (good_headerCheck a0h)
    refine good_mk1 y1h
  · rename_i y3 e2
    have y3h : Good s0 y3 := by
      exact (congrArg (fun p => Good s0 p.1) e2).mp (good_headerCheck a0h)
    refine good_ite1 (good_mk1 y3h) (good_ite1 (good_mk1 (good_State_raiseRx y3h)) (good_mk1 y3h))

theorem good_bulkOutcome {s0 : State} {a0 : State} {a1 : ℕ} {a2 : ℕ} {a3 : ℕ} {a4 : ℕ} {a5 : ℕ} (a0h : Good s0 a0) : Good s0
    (bulkOutcome a0 a1 a2 a3 a4 a5) := by
  unfold bulkOutcome
  extract_lets -merge -useContext -underBinder +onlyGivenNames x0 x1
  try clear_value x0
  try clear_value x1
  refine good_emitStatus a0h

theorem good_lineNumber {s0 : State} {a0 : State} {a1 : ℕ} {a2 : ℕ} {a3 : ℕ} {a4 : Stamp} (a0h : Good s0 a0) : Good s0
    (lineNumber a0 a1 a2 a3 a4) := by
  unfold lineNumber
  split
  · exact a0h
  · exact good_ite (good_lostLines a0h) (good_ite (good_State_raiseRx a0h) a0h)

theorem good_execLineStart {s0 : State} {a0 : Fin 12} {a1 : Fin 16} {a2 : Header} {a3 : Fin 65536} {a5 : State}
    (a5h : Good s0 a5) : ∃ t, execLineStart a0 a1 a2 a3 a5 = .next t ∧ Good s0 t := by
  unfold execLineStart
  refine ⟨_, rfl, ?_⟩
  split
  · rename_i y1 y2 e0
    have y1h : Good s0 y1 := by
      exact (congrArg (fun p => Good s0 p.1) e0).mp (good_streamOfPacket a5h)
    refine good_ite y1h ?_
    extract_lets -merge -useContext -underBinder +onlyGivenNames x3 x4 x5
    have h6 : Good s0 x3 := by
      unfold x3
      refine good_losePending y1h
    try clear_value x3
    have h7 : Good s0 x4 := by
      unfold x4
      refine good_lineNumber h6
    try clear_value x4
    try clear_value x5
    refine good_State_putIng h7
  · rename_i y9 e8
    have y9h : Good s0 y9 := by
      exact (congrArg (fun p => Good s0 p.1) e8).mp (good_streamOfPacket a5h)
    exact y9h

theorem good_lineStamp {s0 : State} {a0 : State} {a1 : ℕ} {a2 : ℕ} (a0h : Good s0 a0) : Good s0 (lineStamp a0 a1 a2).1 := by
  unfold lineStamp
  extract_lets -merge -useContext -underBinder +onlyGivenNames x0
  try clear_value x0
  refine good_ite1 ?_ (good_mk1 a0h)
  split
  · exact good_mk1 (good_State_putIng a0h)
  · exact good_mk1 (good_State_putIng a0h)

theorem good_execRxSkewCalibration {s0 : State} {a0 : Fin 12} {a1 : State} (a1h : Good s0 a1) : ∃ t, execRxSkewCalibration a0 a1
    = .next t ∧ Good s0 t := by
  unfold execRxSkewCalibration
  exact ⟨_, rfl, good_ite (good_State_wr a1h) a1h⟩

theorem good_execRxUlpsRequest {s0 : State} {a0 : Fin 12} {a1 : Bool} {a2 : State} (a2h : Good s0 a2) : ∃ t, execRxUlpsRequest a0
    a1 a2 = .next t ∧ Good s0 t := by
  unfold execRxUlpsRequest
  refine ⟨_, rfl, ?_⟩
  refine good_ite ?_ a2h
  extract_lets -merge -useContext -underBinder +onlyGivenNames x0
  have h1 : Good s0 x0 := by
    unfold x0
    refine good_State_wrB a2h
  try clear_value x0
  refine good_ite (good_State_wr h1) h1

end Sys2Proof.Machine
end

