-- ==== Sys2Proof/Laws/KeepsHubDispatch.lean ====
section
/-! SUPPORT. Laws/KeepsHubDispatch.lean: every operation of Machine/HubDispatch.lean keeps what Laws/Keeps.lean names. -/

namespace Sys2Proof.Machine

theorem good_startBatch {s0 : State} {a0 : State} {a1 : Batch} (a0h : Good s0 a0) : Good s0 (startBatch a0 a1).1 := by
  unfold startBatch
  extract_lets -merge -useContext -underBinder +onlyGivenNames x0 x1 x2 x3 x4 x5
  try clear_value x0
  try clear_value x1
  try clear_value x2
  try clear_value x3
  try clear_value x4
  have h6 : Good s0 x5 := by
    unfold x5
    refine good_State_putBind a0h
  try clear_value x5
  refine good_mk1 (good_State_putJob h6)

theorem good_putBatch {s0 : State} {a0 : State} {a1 : Batch} (a0h : Good s0 a0) : Good s0 (putBatch a0 a1) := by
  unfold putBatch
  exact good_State_setBatches a0h

theorem good_cutTokens {s0 s : State} {hf : Nat} {b : Batch} {l : List InputSpec} (h : Good s0 s) : Good s0 (cutTokens s hf b l).1 := by
  induction l generalizing s b with
  | nil => exact h
  | cons i l ih => exact good_ite1 (good_ite1 h (ih (good_pitchEnter (good_pitchPut (good_takeTag h))))) (ih h)

theorem good_dispatch {s0 : State} {a0 : State} {a1 : ℕ} (a0h : Good s0 a0) : Good s0 (dispatch a0 a1) := by
  unfold dispatch
  extract_lets -merge -useContext -underBinder +onlyGivenNames x0 x1 x2
  try clear_value x0
  try clear_value x1
  try clear_value x2
  split
  · exact good_State_each a0h (fun y4 y5 y4h => good_refreshWait y4h)
  · extract_lets -merge -useContext -underBinder +onlyGivenNames x8 x9
    have h10 : Good s0 x8 := by
      unfold x8
      refine good_State_setGrantRr a0h (fun c => ?_)
      refine spWf_spSet _ _ _ _ ?_
      refine Good.at_grantRr (s0 := s0) ?_ c
      exact a0h
    try clear_value x8
    have h11 : Good s0 x9 := by
      unfold x9
      refine good_State_each h10 (fun y12 y13 y12h => good_State_bump y12h)
    try clear_value x9
    split
    · exact h11
    · split
      · rename_i y18 y19 e17
        have y18h : Good s0 y18 := by
          exact (congrArg (fun p => Good s0 p.1) e17).mp (good_ite1 (good_mk1 h11) (good_startBatch h11))
        extract_lets -merge -useContext -underBinder +onlyGivenNames x20
        have h21 : Good s0 x20.1 := by
          unfold x20
          refine good_cutTokens y18h
        try clear_value x20
        refine good_State_each (good_putBatch h21) (fun y22 y23 y22h => good_refreshWait y22h)

theorem good_execDispatch {s0 : State} {a0 : Fin 2} {a1 : State} (a1h : Good s0 a1) : ∃ t, execDispatch a0 a1 = .next t ∧ Good s0
    t := by
  unfold execDispatch
  exact ⟨_, rfl, good_dispatch a1h⟩

end Sys2Proof.Machine
end

