-- ==== Sys2Proof/Laws/KeepsFault.lean ====
section
/-! SUPPORT. Laws/KeepsFault.lean: every operation of Machine/Fault.lean keeps what Laws/Keeps.lean names. -/

namespace Sys2Proof.Machine

theorem good_fenceStream {s0 : State} {a0 : State} {a1 : ℕ} {a2 : ℕ} (a0h : Good s0 a0) : Good s0 (fenceStream a0 a1 a2) := by
  unfold fenceStream
  extract_lets -merge -useContext -underBinder +onlyGivenNames x0 x1 x2
  try clear_value x0
  try clear_value x1
  have h3 : Good s0 x2 := by
    unfold x2
    refine good_ite (good_missOn a0h) a0h
  try clear_value x2
  refine good_ite (good_State_putBind h3) h3

theorem good_fence {s0 : State} {a0 : State} {a1 : ℕ} (a0h : Good s0 a0) : Good s0 (fence a0 a1) := by
  unfold fence
  extract_lets -merge -useContext -underBinder +onlyGivenNames x0 x1 x2 x3 x4
  try clear_value x0
  have h5 : Good s0 x1 := by
    unfold x1
    refine good_State_putJob a0h
  try clear_value x1
  have h6 : Good s0 x2 := by
    unfold x2
    refine good_State_each h5 (fun y7 y8 y7h => good_fenceStream y7h)
  try clear_value x2
  try clear_value x3
  have h9 : Good s0 x4 := by
    unfold x4
    refine good_State_each h6 (fun y10 y11 y10h => good_missOn y10h)
  try clear_value x4
  refine good_refreshWait (good_State_setBatches h9)

theorem good_recordFault {s0 : State} {a0 : State} {a1 : ℕ} {a2 : ℕ} {a3 : ℕ} {a4 : ℕ} {a5 : Bool} {a6 : Sys2Proof.DWord} (a0h :
    Good s0 a0) : Good s0 (recordFault a0 a1 a2 a3 a4 a5 a6) := by
  unfold recordFault
  extract_lets -merge -useContext -underBinder +onlyGivenNames x0 x1
  have h2 : Good s0 x0 := by
    unfold x0
    refine good_State_wr (good_State_wrB (good_State_wr a0h))
  try clear_value x0
  have h3 : Good s0 x1 := by
    unfold x1
    refine good_State_wr h2
  try clear_value x1
  refine good_State_wr (good_State_wr h3)

theorem good_detectFault {s0 : State} {a0 : State} {a1 : ℕ} {a2 : FaultInfo} (a0h : Good s0 a0) : Good s0 (detectFault a0 a1 a2)
    := by
  unfold detectFault
  extract_lets -merge -useContext -underBinder +onlyGivenNames x0 x1
  try clear_value x0
  have h2 : Good s0 x1 := by
    unfold x1
    refine good_State_wr a0h
  try clear_value x1
  refine good_ite a0h ?_
  split
  · extract_lets -merge -useContext -underBinder +onlyGivenNames x5
    have h6 : Good s0 x5 := by
      unfold x5
      refine good_State_putJob h2
    try clear_value x5
    refine good_recordFault h6
  · refine good_ite h2 ?_
    extract_lets -merge -useContext -underBinder +onlyGivenNames x8
    try clear_value x8
    refine good_fence (good_State_putJob h2)

theorem good_faultAll {s0 : State} {a0 : State} {a1 : List ℕ} {a2 : FaultInfo} (a0h : Good s0 a0) : Good s0 (faultAll a0 a1 a2)
    := by
  unfold faultAll
  exact good_State_each a0h (fun y0 y1 y0h => good_detectFault y0h)

end Sys2Proof.Machine
end

