-- ==== Sys2Proof/Laws/KeepsTileMath.lean ====
section
/-! SUPPORT. Laws/KeepsTileMath.lean: every operation of Machine/TileMath.lean keeps what Laws/Keeps.lean names. -/

namespace Sys2Proof.Machine

theorem good_State_putTile {s0 : State} {a0 : State} {a1 : ℕ} {a2 : TileRec} (a0h : Good s0 a0) : Good s0 (State.putTile a0 a1
    a2) := by
  unfold State.putTile
  refine good_State_setTiles a0h (fun c => ?_)
  refine spWf_spSet _ _ _ _ ?_
  refine Good.at_tiles (s0 := s0) ?_ c
  exact a0h

theorem good_State_putCells {s0 : State} {a0 : State} {a1 : ℕ} {a2 : Cells} (a0h : Good s0 a0) : Good s0 (State.putCells a0 a1
    a2) := by
  unfold State.putCells
  refine good_State_setCells a0h (fun c => ?_)
  refine spWf_spSet _ _ _ _ ?_
  refine Good.at_cells (s0 := s0) ?_ c
  exact a0h

theorem good_State_putOcc {s0 : State} {a0 : State} {a1 : ℕ} {a2 : Occ} (a0h : Good s0 a0) : Good s0 (State.putOcc a0 a1 a2) := by
  unfold State.putOcc
  refine good_State_setOcc a0h (fun c => ?_)
  refine spWf_spSet _ _ _ _ ?_
  refine Good.at_occ (s0 := s0) ?_ c
  exact a0h

theorem good_State_putTcal {s0 : State} {a0 : State} {a1 : ℕ} {a2 : ℕ} {a3 : ℕ} {a4 : Sys2Proof.Word} (a0h : Good s0 a0) : Good
    s0 (State.putTcal a0 a1 a2 a3 a4) := by
  unfold State.putTcal
  refine good_State_setTcal a0h (fun c => ?_)
  refine spWf_spSet _ _ _ _ ?_
  refine Good.at_tcal (s0 := s0) ?_ c
  exact a0h

theorem good_chalkUpdate {s0 : State} {a0 : State} {a1 : ℕ} (a0h : Good s0 a0) : Good s0 (chalkUpdate a0 a1) := by
  unfold chalkUpdate
  extract_lets -merge -useContext -underBinder +onlyGivenNames x0 x1 x2 x3 x4 x5 x6 x7 x8
  try clear_value x0
  try clear_value x1
  try clear_value x2
  try clear_value x3
  try clear_value x4
  try clear_value x5
  try clear_value x6
  try clear_value x7
  try clear_value x8
  refine good_State_putTile a0h

theorem good_showMaxEst {s0 : State} {a0 : State} {a1 : ℕ} (a0h : Good s0 a0) : Good s0 (showMaxEst a0 a1) := by
  unfold showMaxEst
  extract_lets -merge -useContext -underBinder +onlyGivenNames x0
  try clear_value x0
  refine good_State_wr (good_State_wr a0h)

theorem good_staleCheck {s0 : State} {a0 : State} {a1 : ℕ} (a0h : Good s0 a0) : Good s0 (staleCheck a0 a1) := by
  unfold staleCheck
  extract_lets -merge -useContext -underBinder +onlyGivenNames x0
  try clear_value x0
  refine good_ite (good_State_wr a0h) a0h

theorem good_estimate {s0 : State} {a0 : State} {a1 : ℕ} (a0h : Good s0 a0) : Good s0 (estimate a0 a1) := by
  unfold estimate
  extract_lets -merge -useContext -underBinder +onlyGivenNames x0 x1 x2
  have h3 : Good s0 x0 := by
    unfold x0
    refine good_State_wrSat a0h
  try clear_value x0
  try clear_value x1
  have h4 : Good s0 x2 := by
    unfold x2
    refine good_State_putTile h3
  try clear_value x2
  refine good_staleCheck (good_showMaxEst (good_State_wrSat h4))

theorem good_withdraw {s0 : State} {a0 : State} {a1 : ℕ} {a2 : ℕ} (a0h : Good s0 a0) : Good s0 (withdraw a0 a1 a2) := by
  unfold withdraw
  refine good_ite a0h ?_
  extract_lets -merge -useContext -underBinder +onlyGivenNames x0
  have h1 : Good s0 x0 := by
    unfold x0
    refine good_State_bump (good_State_wr (good_State_wr a0h))
  try clear_value x0
  refine good_faultAll (good_State_raise h1)

theorem good_latchGain {s0 : State} {a0 : State} {a1 : ℕ} (a0h : Good s0 a0) : Good s0 (latchGain a0 a1) := by
  unfold latchGain
  exact good_State_wr a0h

theorem good_liveGainUpdate {s0 : State} {a0 : State} {a1 : ℕ} (a0h : Good s0 a0) : Good s0 (liveGainUpdate a0 a1) := by
  unfold liveGainUpdate
  extract_lets -merge -useContext -underBinder +onlyGivenNames x0
  have h1 : Good s0 x0 := by
    unfold x0
    refine good_chalkUpdate a0h
  try clear_value x0
  refine good_ite (good_latchGain h1) (good_withdraw (good_latchGain h1))

end Sys2Proof.Machine
end

