-- ==== Sys2Proof/Laws/KeepsTokens.lean ====
section
/-! SUPPORT. Laws/KeepsTokens.lean: every operation of Machine/Tokens.lean keeps what Laws/Keeps.lean names. -/

namespace Sys2Proof.Machine

theorem good_takeNext {s0 : State} {a0 : State} {a1 : ℕ} {a2 : ℕ} {a3 : Held → Bool} (a0h : Good s0 a0) : Good s0 (takeNext a0 a1
    a2 a3).1 := by
  unfold takeNext
  extract_lets -merge -useContext -underBinder +onlyGivenNames x0 x1 x2 x3
  try clear_value x0
  try clear_value x1
  try clear_value x2
  try clear_value x3
  split
  · exact good_mk1 a0h
  · split
    · exact good_mk1 a0h
    · extract_lets -merge -useContext -underBinder +onlyGivenNames x10 x11
      have h12 : Good s0 x10 := by
        unfold x10
        refine good_State_setGrantRr a0h (fun c => ?_)
        refine spWf_spSet _ _ _ _ ?_
        refine Good.at_grantRr (s0 := s0) ?_ c
        exact a0h
      try clear_value x10
      have h13 : Good s0 x11 := by
        unfold x11
        refine good_State_each h12 (fun y14 y15 y14h => good_State_bump y14h)
      try clear_value x11
      refine good_mk1 (good_pitchTake h13)

theorem good_tileSnap {s0 : State} {a0 : State} {a1 : ℕ} {a2 : ℕ} (a0h : Good s0 a0) : Good s0 (tileSnap a0 a1 a2) := by
  unfold tileSnap
  extract_lets -merge -useContext -underBinder +onlyGivenNames x0
  try clear_value x0
  refine good_ite a0h (good_State_putTile a0h)

theorem good_forward {s0 : State} {a0 : State} {a1 : ℕ} {a2 : Token} (a0h : Good s0 a0) : Good s0 (forward a0 a1 a2) := by
  unfold forward
  split
  · exact good_inject a0h
  · exact a0h

theorem good_forwardWaiting {s0 : State} {a0 : State} {a1 : ℕ} {a2 : ℕ} (a0h : Good s0 a0) : Good s0 (forwardWaiting a0 a1 a2) :=
    by
  unfold forwardWaiting
  exact good_State_each a0h (fun y0 y1 y0h => good_forward (good_pitchTake y0h))

theorem good_receive {s0 : State} {a0 : State} {a1 : ℕ} {a2 : ℕ} {a3 : Held} (a0h : Good s0 a0) : Good s0 (receive a0 a1 a2 a3)
    := by
  unfold receive
  extract_lets -merge -useContext -underBinder +onlyGivenNames x0 x1 x2
  try clear_value x0
  have h3 : Good s0 x1 := by
    unfold x1
    refine good_pitchPut (good_pitchTake a0h)
  try clear_value x1
  have h4 : Good s0 x2 := by
    unfold x2
    refine good_tileSnap h3
  try clear_value x2
  refine good_ite (good_detectFault (good_State_raise (good_pitchTake a0h))) (good_ite (good_State_bump (good_pitchTake a0h))
    (good_ite (good_detectFault (good_State_raise (good_pitchTake a0h))) (good_ite (good_forward (good_pitchTake a0h)) (good_ite
    (good_ite (good_tileSnap h4) h4) h3))))

theorem good_linkCheck {s0 : State} {a0 : State} {a1 : ℕ} {a2 : Held} {a3 : LinkErr} (a0h : Good s0 a0) : Good s0 (linkCheck a0
    a1 a2 a3).1 := by
  unfold linkCheck
  split
  · exact good_mk1 a0h
  · exact good_mk1 (good_State_raise (good_State_bump a0h))
  · exact good_mk1 (good_detectFault (good_State_raise (good_pitchTake a0h)))
  · exact good_mk1 (good_faultAll (good_State_raise (good_pitchTake a0h)))

theorem good_tokenReceipt {s0 : State} {a0 : State} {a1 : Place} {a2 : LinkErr} (a0h : Good s0 a0) : Good s0 (tokenReceipt a0 a1
    a2) := by
  unfold tokenReceipt
  split
  · exact a0h
  · split
    · extract_lets -merge -useContext -underBinder +onlyGivenNames x6
      have h7 : Good s0 x6.1 := by
        unfold x6
        refine good_linkCheck a0h
      try clear_value x6
      refine good_ite (good_pitchEnter (good_receive h7)) h7
    · exact good_linkCheck a0h
    · exact a0h
    · exact a0h
    · exact a0h
    · exact a0h
    · exact a0h

theorem good_execTokenReceipt {s0 : State} {a0 : Place} {a1 : LinkErr} {a2 : State} (a2h : Good s0 a2) : ∃ t, execTokenReceipt a0
    a1 a2 = .next t ∧ Good s0 t := by
  unfold execTokenReceipt
  exact ⟨_, rfl, good_tokenReceipt a2h⟩

theorem good_emitTo {s0 : State} {a0 : State} {a1 : ℕ} {a2 : ℕ} {a3 : Token} {a4 : ElemFmt} {a5 : List ℤ} {a6 : Route} (a0h :
    Good s0 a0) : Good s0 (emitTo a0 a1 a2 a3 a4 a5 a6) := by
  unfold emitTo
  exact good_inject a0h

theorem good_emitOne {s0 : State} {a0 : State} {a1 : ℕ} {a2 : ℕ} {a3 : Token} {a4 : ElemFmt} {a5 : List ℤ} {a6 : Route} (a0h :
    Good s0 a0) : Good s0 (emitOne a0 a1 a2 a3 a4 a5 a6) := by
  unfold emitOne
  exact good_emitTo a0h

theorem good_emitAll {s0 : State} {a0 : State} {a1 : ℕ} {a2 : ℕ} {a3 : Token} {a4 : ElemFmt} {a5 : List ℤ} {a6 : List Route} (a0h
    : Good s0 a0) : Good s0 (emitAll a0 a1 a2 a3 a4 a5 a6) := by
  unfold emitAll
  exact good_State_each a0h (fun y0 y1 y0h => good_emitOne y0h)

end Sys2Proof.Machine
end

