-- ==== Sys2Proof/Laws/KeepsTile.lean ====
section
/-! SUPPORT. Laws/KeepsTile.lean: every operation of Machine/Tile.lean keeps what Laws/Keeps.lean names. -/

namespace Sys2Proof.Machine

theorem good_raiseTimes {s0 : State} {a0 : State} {a1 : Fld} {a2 : ℕ} {a3 : ℕ} (a0h : Good s0 a0) : Good s0 (raiseTimes a0 a1 a2
    a3) := by
  unfold raiseTimes
  exact good_State_each a0h (fun y0 y1 y0h => good_State_raise y0h)

theorem good_tileEvents {s0 : State} {a0 : State} {a1 : ℕ} {a2 : TileRun} {a3 : Bool} {a4 : ℕ} (a0h : Good s0 a0) : Good s0
    (tileEvents a0 a1 a2 a3 a4) := by
  unfold tileEvents
  extract_lets -merge -useContext -underBinder +onlyGivenNames x0 x1 x2 x3 x4 x5
  have h6 : Good s0 x0 := by
    unfold x0
    refine good_ite (good_State_bump (good_State_raise a0h)) a0h
  try clear_value x0
  have h7 : Good s0 x1 := by
    unfold x1
    refine good_raiseTimes h6
  try clear_value x1
  have h8 : Good s0 x2 := by
    unfold x2
    refine good_raiseTimes h7
  try clear_value x2
  have h9 : Good s0 x3 := by
    unfold x3
    refine good_raiseTimes h8
  try clear_value x3
  have h10 : Good s0 x4 := by
    unfold x4
    refine good_raiseTimes h9
  try clear_value x4
  have h11 : Good s0 x5 := by
    unfold x5
    refine good_State_bumpBy (good_State_bumpBy h10)
  try clear_value x5
  refine good_State_bump64 h11

theorem good_showMode {s0 : State} {a0 : State} {a1 : ℕ} (a0h : Good s0 a0) : Good s0 (showMode a0 a1) := by
  unfold showMode
  exact good_State_wrB a0h

theorem good_applyTile {s0 : State} {a0 : State} {a1 : ℕ} {a2 : List Sys2Proof.Word} (a0h : Good s0 a0) : Good s0 (applyTile a0
    a1 a2) := by
  unfold applyTile
  extract_lets -merge -useContext -underBinder +onlyGivenNames x0
  have h1 : Good s0 x0 := by
    unfold x0
    refine good_State_each a0h ?_
    intro y2 y3 y2h
    refine good_State_setInForce y2h (fun c => ?_)
    refine spWf_spSet _ _ _ _ ?_
    refine Good.at_inForce (s0 := s0) ?_ c
    exact y2h
  try clear_value x0
  refine good_showMode h1

theorem good_tileBoundary {s0 : State} {a0 : State} {a1 : ℕ} {a2 : ℕ} (a0h : Good s0 a0) : Good s0 (tileBoundary a0 a1 a2) := by
  unfold tileBoundary
  extract_lets -merge -useContext -underBinder +onlyGivenNames x0 x1 x2
  try clear_value x0
  try clear_value x1
  have h3 : Good s0 x2 := by
    unfold x2
    refine good_State_putTile a0h
  try clear_value x2
  refine good_estimate (good_liveGainUpdate (good_applyTile h3))

theorem good_enterBatch {s0 : State} {a0 : State} {a1 : ℕ} {a2 : ℕ} (a0h : Good s0 a0) : Good s0 (enterBatch a0 a1 a2) := by
  unfold enterBatch
  refine good_ite a0h ?_
  extract_lets -merge -useContext -underBinder +onlyGivenNames x0 x1
  have h2 : Good s0 x0 := by
    unfold x0
    refine good_ite (good_tileBoundary a0h) (good_applyTile a0h)
  try clear_value x0
  try clear_value x1
  refine good_State_putTile h2

theorem good_enterUnit {s0 : State} {a0 : State} {a1 : ℕ} {a2 : ℕ} (a0h : Good s0 a0) : Good s0 (enterUnit a0 a1 a2) := by
  unfold enterUnit
  extract_lets -merge -useContext -underBinder +onlyGivenNames x0
  try clear_value x0
  refine good_ite (good_enterBatch (good_enterBatch a0h)) (good_enterBatch a0h)

theorem good_noteBatch {s0 : State} {a0 : State} {a1 : ℕ} {a2 : ℕ} (a0h : Good s0 a0) : Good s0 (noteBatch a0 a1 a2) := by
  unfold noteBatch
  extract_lets -merge -useContext -underBinder +onlyGivenNames x0 x1 x2
  try clear_value x0
  try clear_value x1
  try clear_value x2
  refine good_ite (good_State_putTile a0h) (good_State_putTile a0h)

theorem good_noteProduct {s0 : State} {a0 : State} {a1 : ℕ} {a2 : ℕ} {a3 : TileRun} (a0h : Good s0 a0) : Good s0 (noteProduct a0
    a1 a2 a3) := by
  unfold noteProduct
  extract_lets -merge -useContext -underBinder +onlyGivenNames x0 x1 x2
  have h3 : Good s0 x0 := by
    unfold x0
    refine good_noteBatch a0h
  try clear_value x0
  try clear_value x1
  try clear_value x2
  refine good_State_putTile h3

theorem good_emitProducts {s0 : State} {a0 : State} {a1 : ℕ} {a2 : ℕ} {a3 : Token} {a4 : Placed} {a5 : Bool} {a6 : List TileOut}
    (a0h : Good s0 a0) : Good s0 (emitProducts a0 a1 a2 a3 a4 a5 a6) := by
  unfold emitProducts
  extract_lets -merge -useContext -underBinder +onlyGivenNames x0 x1 x2
  try clear_value x0
  try clear_value x1
  try clear_value x2
  split
  · exact a0h
  · refine good_ite ?_ (good_emitOne a0h)
    extract_lets -merge -useContext -underBinder +onlyGivenNames x6 x7
    try clear_value x6
    try clear_value x7
    refine good_State_each a0h (fun y8 y9 y8h => good_emitOne y8h)

theorem good_tileOutput {s0 : State} {a0 : State} {a1 : ℕ} {a2 : Token} {a3 : List TileOut} (a0h : Good s0 a0) : Good s0
    (tileOutput a0 a1 a2 a3) := by
  unfold tileOutput
  split
  · exact good_emitProducts a0h
  · exact a0h

theorem good_singleProduct {s0 : State} {a0 : State} {a1 : ℕ} {a2 : Token} {a3 : List ℤ} (a0h : Good s0 a0) : Good s0
    (singleProduct a0 a1 a2 a3).1 := by
  unfold singleProduct
  extract_lets -merge -useContext -underBinder +onlyGivenNames x0
  try clear_value x0
  split
  · rename_i y2 y3 e1
    have y3h : Good s0 y3 := by
      exact (congrArg (fun p => Good s0 p.2) e1).mp (good_State_draw a0h)
    extract_lets -merge -useContext -underBinder +onlyGivenNames x4 x5 x6 x7 x8 x9 x10 x11 x12
    try clear_value x4
    try clear_value x5
    try clear_value x6
    try clear_value x7
    try clear_value x8
    try clear_value x9
    try clear_value x10
    try clear_value x11
    try clear_value x12
    refine good_mk1 (good_noteProduct (good_tileEvents y3h))

theorem good_pairProduct {s0 : State} {a0 : State} {a1 : ℕ} {a2 : Token} {a3 : List ℤ} (a0h : Good s0 a0) : Good s0 (pairProduct
    a0 a1 a2 a3).1 := by
  unfold pairProduct
  extract_lets -merge -useContext -underBinder +onlyGivenNames x0
  try clear_value x0
  split
  · rename_i y2 y3 e1
    have y3h : Good s0 y3 := by
      exact (congrArg (fun p => Good s0 p.2) e1).mp (good_State_draw a0h)
    split
    · rename_i y5 y6 e4
      have y6h : Good s0 y6 := by
        exact (congrArg (fun p => Good s0 p.2) e4).mp (good_State_draw y3h)
      extract_lets -merge -useContext -underBinder +onlyGivenNames x7 x8 x9 x10 x11 x12 x13 x14 x15 x16 x17 x18
      try clear_value x7
      try clear_value x8
      try clear_value x9
      try clear_value x10
      try clear_value x11
      try clear_value x12
      try clear_value x13
      try clear_value x14
      try clear_value x15
      try clear_value x16
      try clear_value x17
      have h19 : Good s0 x18 := by
        unfold x18
        refine good_noteProduct (good_tileEvents y6h)
      try clear_value x18
      refine good_mk1 (good_noteProduct (good_tileEvents h19))

theorem good_runProducts {s0 s : State} {t : Nat} {k : Token} {pair : Bool} {l : List (List Int)} (h : Good s0 s) :
    Good s0 (runProducts s t k pair l).1 := by
  induction l generalizing s with
  | nil => exact h
  | cons v l ih =>
    simp only [runProducts]
    refine ih ?_
    split
    · exact good_pairProduct h
    · exact good_singleProduct h

theorem good_tokenProduct {s0 : State} {a0 : State} {a1 : ℕ} {a2 : Token} {a3 : Bool} (a0h : Good s0 a0) : Good s0 (tokenProduct
    a0 a1 a2 a3) := by
  unfold tokenProduct
  extract_lets -merge -useContext -underBinder +onlyGivenNames x0
  have h1 : Good s0 x0.1 := by
    unfold x0
    refine good_runProducts a0h
  try clear_value x0
  refine good_tileOutput h1

theorem good_pairFault {s0 : State} {a0 : State} {a1 : ℕ} (a0h : Good s0 a0) : Good s0 (pairFault a0 a1) := by
  unfold pairFault
  extract_lets -merge -useContext -underBinder +onlyGivenNames x0 x1
  try clear_value x0
  have h2 : Good s0 x1 := by
    unfold x1
    refine good_State_raise (good_State_raise a0h)
  try clear_value x1
  refine good_faultAll h2

theorem good_tileProduct {s0 : State} {a0 : State} {a1 : ℕ} (a0h : Good s0 a0) : Good s0 (tileProduct a0 a1) := by
  unfold tileProduct
  refine good_ite (good_pairFault a0h) ?_
  extract_lets -merge -useContext -underBinder +onlyGivenNames x0 x1 x2 x3
  try clear_value x0
  try clear_value x1
  try clear_value x2
  have h4 : Good s0 x3.1 := by
    unfold x3
    refine good_takeNext a0h
  try clear_value x3
  refine good_ite a0h ?_
  split
  · exact a0h
  · refine good_ite (good_State_bump h4) ?_
    extract_lets -merge -useContext -underBinder +onlyGivenNames x8 x9 x10 x11
    have h12 : Good s0 x8 := by
      unfold x8
      refine good_enterUnit a0h
    try clear_value x8
    try clear_value x9
    try clear_value x10
    have h13 : Good s0 x11 := by
      unfold x11
      refine good_takeNext h12
    try clear_value x11
    refine good_ite (good_pairFault h12) (good_ite h12 (good_pitchEnter (good_tokenProduct h13)))

theorem good_execTileTimeout {s0 : State} {a0 : Fin 4096} {a1 : State} (a1h : Good s0 a1) : ∃ t, execTileTimeout a0 a1 = .next t
    ∧ Good s0 t := by
  unfold execTileTimeout
  refine ⟨_, rfl, ?_⟩
  extract_lets -merge -useContext -underBinder +onlyGivenNames x0
  try clear_value x0
  split
  · exact a1h
  · exact good_ite (good_faultAll (good_pitchTake a1h)) a1h

end Sys2Proof.Machine
end

