-- ==== Sys2Proof/Laws/KeepsVector.lean ====
section
/-! SUPPORT. Laws/KeepsVector.lean: every operation of Machine/Vector.lean keeps what Laws/Keeps.lean names. -/

namespace Sys2Proof.Machine

theorem good_vecProduct {s0 : State} {a0 : State} {a1 : ℕ} {a2 : Token} {a3 : Placed} (a0h : Good s0 a0) : Good s0 (vecProduct a0
    a1 a2 a3) := by
  unfold vecProduct
  extract_lets -merge -useContext -underBinder +onlyGivenNames x0 x1 x2
  try clear_value x0
  try clear_value x1
  try clear_value x2
  refine good_emitProducts (good_State_each a0h (fun y3 y4 y3h => good_noteBatch y3h))

theorem good_convertInput {s0 : State} {a0 : State} {a1 : ℕ} {a2 : Token} (a0h : Good s0 a0) : Good s0 (convertInput a0 a1 a2) :=
    by
  unfold convertInput
  split
  · extract_lets -merge -useContext -underBinder +onlyGivenNames x3 x4
    try clear_value x3
    try clear_value x4
    refine good_ite (good_pitchPut a0h) (good_emitOne a0h)
  · exact a0h

theorem good_State_putRecur {s0 : State} {a0 : State} {a1 : ℕ} {a2 : ℕ} {a3 : List ℤ} (a0h : Good s0 a0) : Good s0
    (State.putRecur a0 a1 a2 a3) := by
  unfold State.putRecur
  refine good_State_setRecur a0h (fun c => ?_)
  refine spWf_spSet _ _ _ _ ?_
  refine Good.at_recur (s0 := s0) ?_ c
  exact a0h

theorem good_takeKind {s0 : State} {a0 : State} {a1 : ℕ} {a2 : ℕ} {a3 : Held → Bool} {a4 : Held → Bool} (a0h : Good s0 a0) : Good
    s0 (takeKind a0 a1 a2 a3 a4).1 := by
  unfold takeKind
  split
  · rename_i y1 y2 e0
    have y1h : Good s0 y1 := by
      exact (congrArg (fun p => Good s0 p.1) e0).mp (good_takeNext a0h)
    refine good_ite1 (good_mk1 y1h) (good_mk1 a0h)
  · rename_i y4 e3
    have y4h : Good s0 y4 := by
      exact (congrArg (fun p => Good s0 p.1) e3).mp (good_takeNext a0h)
    refine good_mk1 a0h

theorem good_vectorOp {s0 : State} {a0 : State} {a1 : ℕ} (a0h : Good s0 a0) : Good s0 (vectorOp a0 a1) := by
  unfold vectorOp
  split
  · rename_i y1 e0
    have y1h : Good s0 y1 := by
      exact (congrArg (fun p => Good s0 p.1) e0).mp (good_takeKind a0h)
    exact y1h
  · rename_i y3 y4 e2
    have y3h : Good s0 y3 := by
      exact (congrArg (fun p => Good s0 p.1) e2).mp (good_takeKind a0h)
    extract_lets -merge -useContext -underBinder +onlyGivenNames x5
    try clear_value x5
    refine good_ite (good_State_bump y3h) ?_
    refine good_ite (good_pitchEnter (good_convertInput y3h)) ?_
    split
    · exact y3h
    · refine good_ite ?_ ?_
      · split
        · exact good_pitchEnter (good_vecProduct y3h)
        · exact y3h
      · refine good_ite ?_ (good_pitchEnter (good_emitAll y3h))
        split
        · extract_lets -merge -useContext -underBinder +onlyGivenNames x14 x15 x16
          have h17 : Good s0 x14 := by
            unfold x14
            refine good_pitchTake y3h
          try clear_value x14
          try clear_value x15
          try clear_value x16
          refine good_pitchEnter (good_emitAll h17)
        · exact y3h

theorem good_execVectorOp {s0 : State} {a0 : Fin 256} {a1 : State} (a1h : Good s0 a1) : ∃ t, execVectorOp a0 a1 = .next t ∧ Good
    s0 t := by
  unfold execVectorOp
  exact ⟨_, rfl, good_vectorOp a1h⟩

theorem good_showSlots {s0 : State} {a0 : State} {a1 : ℕ} (a0h : Good s0 a0) : Good s0 (showSlots a0 a1) := by
  unfold showSlots
  extract_lets -merge -useContext -underBinder +onlyGivenNames x0
  try clear_value x0
  refine good_State_wrSat (good_State_wrSat a0h)

theorem good_dropSlots {s0 : State} {a0 : State} {a1 : ℕ} (a0h : Good s0 a0) : Good s0 (dropSlots a0 a1) := by
  unfold dropSlots
  extract_lets -merge -useContext -underBinder +onlyGivenNames x0
  try clear_value x0
  refine good_State_each (good_State_setSlots a0h) (fun y1 y2 y1h => good_showSlots y1h)

theorem good_feedTile {s0 : State} {a0 : State} {a1 : ℕ} {a2 : Token} {a3 : Placed} (a0h : Good s0 a0) : Good s0 (feedTile a0 a1
    a2 a3) := by
  unfold feedTile
  split
  · exact a0h
  · extract_lets -merge -useContext -underBinder +onlyGivenNames x3 x4
    try clear_value x3
    try clear_value x4
    refine good_emitTo a0h

theorem good_slotOpen {s0 : State} {a0 : State} {a1 : ℕ} (a0h : Good s0 a0) : Good s0 (slotOpen a0 a1) := by
  unfold slotOpen
  split
  · rename_i y1 e0
    have y1h : Good s0 y1 := by
      exact (congrArg (fun p => Good s0 p.1) e0).mp (good_takeKind a0h)
    exact y1h
  · rename_i y3 y4 e2
    have y3h : Good s0 y3 := by
      exact (congrArg (fun p => Good s0 p.1) e2).mp (good_takeKind a0h)
    extract_lets -merge -useContext -underBinder +onlyGivenNames x5 x6
    try clear_value x5
    have h7 : Good s0 x6 := by
      unfold x6
      refine good_State_setSlots y3h
    try clear_value x6
    refine good_ite (good_State_bump y3h) (good_pitchEnter (good_State_each (good_showSlots h7) (fun y8 y9 y8h => good_feedTile
      y8h)))

theorem good_execSlotOpen {s0 : State} {a0 : Fin 256} {a1 : State} (a1h : Good s0 a1) : ∃ t, execSlotOpen a0 a1 = .next t ∧ Good
    s0 t := by
  unfold execSlotOpen
  exact ⟨_, rfl, good_slotOpen a1h⟩

theorem good_deliverSlot {s0 : State} {a0 : State} {a1 : ℕ} {a2 : RedSlot} {a3 : OperSpec} (a0h : Good s0 a0) : Good s0
    (deliverSlot a0 a1 a2 a3) := by
  unfold deliverSlot
  extract_lets -merge -useContext -underBinder +onlyGivenNames x0 x1 x2
  try clear_value x0
  try clear_value x1
  have h3 : Good s0 x2 := by
    unfold x2
    refine good_showSlots (good_State_setSlots a0h)
  try clear_value x2
  refine good_State_each h3 (fun y4 y5 y4h => good_ite (good_emitOne y4h) (good_emitOne y4h))

theorem good_addPartial {s0 : State} {a0 : State} {a1 : ℕ} {a2 : Token} (a0h : Good s0 a0) : Good s0 (addPartial a0 a1 a2) := by
  unfold addPartial
  split
  · exact good_detectFault (good_State_raise a0h)
  · refine good_ite (good_detectFault (good_State_raise a0h)) ?_
    extract_lets -merge -useContext -underBinder +onlyGivenNames x3 x4
    try clear_value x3
    have h5 : Good s0 x4 := by
      unfold x4
      refine good_State_setSlots a0h
    try clear_value x4
    refine good_ite ?_ h5
    split
    · exact good_deliverSlot h5
    · exact h5

theorem good_partialAccumulate {s0 : State} {a0 : State} {a1 : ℕ} (a0h : Good s0 a0) : Good s0 (partialAccumulate a0 a1) := by
  unfold partialAccumulate
  split
  · rename_i y1 e0
    have y1h : Good s0 y1 := by
      exact (congrArg (fun p => Good s0 p.1) e0).mp (good_takeKind a0h)
    exact y1h
  · rename_i y3 y4 e2
    have y3h : Good s0 y3 := by
      exact (congrArg (fun p => Good s0 p.1) e2).mp (good_takeKind a0h)
    refine good_ite (good_State_bump y3h) (good_pitchEnter (good_addPartial y3h))

theorem good_execPartialAccumulate {s0 : State} {a0 : Fin 256} {a1 : State} (a1h : Good s0 a1) : ∃ t, execPartialAccumulate a0 a1
    = .next t ∧ Good s0 t := by
  unfold execPartialAccumulate
  exact ⟨_, rfl, good_partialAccumulate a1h⟩

theorem good_stateUpdate {s0 : State} {a0 : State} {a1 : ℕ} (a0h : Good s0 a0) : Good s0 (stateUpdate a0 a1) := by
  unfold stateUpdate
  split
  · rename_i y1 e0
    have y1h : Good s0 y1 := by
      exact (congrArg (fun p => Good s0 p.1) e0).mp (good_takeKind a0h)
    exact y1h
  · rename_i y3 y4 e2
    have y3h : Good s0 y3 := by
      exact (congrArg (fun p => Good s0 p.1) e2).mp (good_takeKind a0h)
    extract_lets -merge -useContext -underBinder +onlyGivenNames x5
    try clear_value x5
    refine good_ite (good_State_bump y3h) ?_
    split
    · exact y3h
    · extract_lets -merge -useContext -underBinder +onlyGivenNames x9 x10 x11
      try clear_value x9
      have h12 : Good s0 x10 := by
        unfold x10
        refine good_State_putRecur y3h
      try clear_value x10
      have h13 : Good s0 x11 := by
        unfold x11
        split
        · exact good_State_setStDone h12
        · exact h12
      try clear_value x11
      refine good_pitchEnter (good_emitAll h13)

theorem good_execStateUpdate {s0 : State} {a0 : Fin 256} {a1 : State} (a1h : Good s0 a1) : ∃ t, execStateUpdate a0 a1 = .next t ∧
    Good s0 t := by
  unfold execStateUpdate
  exact ⟨_, rfl, good_stateUpdate a1h⟩

theorem good_fillXlate {s0 : State} {a0 : State} {a1 : ℕ} {a2 : ℕ} {a3 : ℕ} (a0h : Good s0 a0) : Good s0 (fillXlate a0 a1 a2 a3)
    := by
  unfold fillXlate
  extract_lets -merge -useContext -underBinder +onlyGivenNames x0 x1 x2
  try clear_value x0
  try clear_value x1
  try clear_value x2
  refine good_ite a0h (good_State_setXlates a0h)

theorem good_fillXlates {s0 : State} {a0 : State} {a1 : ℕ} {a2 : ℕ} {a3 : ℕ} {a4 : ℕ} (a0h : Good s0 a0) : Good s0 (fillXlates a0
    a1 a2 a3 a4) := by
  unfold fillXlates
  exact good_State_each a0h (fun y0 y1 y0h => good_fillXlate y0h)

theorem good_State_putPage {s0 : State} {a0 : State} {a1 : ℕ} {a2 : ℕ} {a3 : Sys2Proof.Byte} (a0h : Good s0 a0) : Good s0
    (State.putPage a0 a1 a2 a3) := by
  unfold State.putPage
  refine good_ite ?_ (good_State_putSt a0h)
  refine good_State_setSram a0h (fun c => ?_)
  refine spWf_spSet _ _ _ _ ?_
  refine Good.at_sram (s0 := s0) ?_ c
  exact a0h

theorem good_xlateFault {s0 : State} {a0 : State} {a1 : ℕ} {a2 : ℕ} {a3 : ℕ} (a0h : Good s0 a0) : Good s0 (xlateFault a0 a1 a2
    a3) := by
  unfold xlateFault
  exact good_detectFault (good_State_wr a0h)

theorem good_dmaWrite {s0 s : State} {c j addr : Nat} {l : List Byte} (h : Good s0 s) : Good s0 (dmaWrite s c j addr l).1 := by
  induction l generalizing s addr with
  | nil => exact h
  | cons b l ih =>
    simp only [dmaWrite]
    split
    · exact good_xlateFault (good_fillXlate h)
    · exact ih (good_State_putPage (good_fillXlate h))

theorem good_scrubPage {s0 : State} {a0 : State} {a1 : ℕ} (a0h : Good s0 a0) : Good s0 (scrubPage a0 a1) := by
  unfold scrubPage
  refine good_ite ?_ ?_
  · refine good_State_setSram a0h (fun c => ?_)
    refine spWf_filter _ _ _ ?_
    refine Good.at_sram (s0 := s0) ?_ c
    exact a0h
  · refine good_State_setStaging a0h (fun c => ?_)
    refine spWf_filter _ _ _ ?_
    refine Good.at_staging (s0 := s0) ?_ c
    exact a0h

theorem good_sramError {s0 : State} {a0 : State} {a1 : ℕ} {a2 : ℕ} {a3 : MemErr} (a0h : Good s0 a0) : Good s0 (sramError a0 a1 a2
    a3).1 := by
  unfold sramError
  split
  · exact good_mk1 a0h
  · exact good_mk1 (good_State_raise (good_State_bump a0h))
  · extract_lets -merge -useContext -underBinder +onlyGivenNames x3 x4
    have h5 : Good s0 x3 := by
      unfold x3
      refine good_State_raise a0h
    try clear_value x3
    try clear_value x4
    refine good_ite1 (good_mk1 (good_scrubPage h5)) (good_mk1 (good_faultAll h5))

theorem good_dmaMove {s0 : State} {a0 : State} {a1 : ℕ} {a2 : ℕ} (a0h : Good s0 a0) : Good s0 (dmaMove a0 a1 a2) := by
  unfold dmaMove
  split
  · rename_i y1 e0
    have y1h : Good s0 y1 := by
      exact (congrArg (fun p => Good s0 p.1) e0).mp (good_takeKind a0h)
    exact y1h
  · rename_i y3 y4 e2
    have y3h : Good s0 y3 := by
      exact (congrArg (fun p => Good s0 p.1) e2).mp (good_takeKind a0h)
    refine good_ite (good_State_bump y3h) (good_pitchEnter (good_pitchPut y3h))

theorem good_dmaTransfer {s0 : State} {a0 : State} {a1 : ℕ} {a2 : DmaAccess} (a0h : Good s0 a0) : Good s0 (dmaTransfer a0 a1 a2)
    := by
  unfold dmaTransfer
  refine good_ite ?_ ?_
  · extract_lets -merge -useContext -underBinder +onlyGivenNames x0
    have h1 : Good s0 x0.1 := by
      unfold x0
      refine good_dmaWrite a0h
    try clear_value x0
    refine good_ite (good_dmaMove h1) h1
  · split
    · exact good_xlateFault (good_fillXlates a0h)
    · extract_lets -merge -useContext -underBinder +onlyGivenNames x5 x6
      have h7 : Good s0 x5 := by
        unfold x5
        refine good_fillXlates a0h
      try clear_value x5
      have h8 : Good s0 x6.1 := by
        unfold x6
        split
        · exact good_ite1 (good_sramError h7) (good_mk1 h7)
        · exact good_mk1 h7
      try clear_value x6
      refine good_ite (good_dmaMove h8) h8

theorem good_execDmaTransfer {s0 : State} {a0 : Fin 256} {a1 : DmaAccess} {a2 : State} (a2h : Good s0 a2) : ∃ t, execDmaTransfer
    a0 a1 a2 = .next t ∧ Good s0 t := by
  unfold execDmaTransfer
  exact ⟨_, rfl, good_dmaTransfer a2h⟩

theorem good_unitFault {s0 : State} {a0 : State} {a1 : ℕ} {a2 : Bool} (a0h : Good s0 a0) : Good s0 (unitFault a0 a1 a2) := by
  unfold unitFault
  extract_lets -merge -useContext -underBinder +onlyGivenNames x0 x1 x2 x3
  try clear_value x0
  try clear_value x1
  have h4 : Good s0 x2 := by
    unfold x2
    refine good_State_setUnitUe a0h (fun c => ?_)
    refine spWf_spSet _ _ _ _ ?_
    refine Good.at_unitUe (s0 := s0) ?_ c
    exact a0h
  try clear_value x2
  have h5 : Good s0 x3 := by
    unfold x3
    refine good_faultAll h4
  try clear_value x3
  refine good_ite (good_State_setCluOut h5) h5

theorem good_execUnitTimeout {s0 : State} {a0 : Fin 256} {a1 : Bool} {a2 : State} (a2h : Good s0 a2) : ∃ t, execUnitTimeout a0 a1
    a2 = .next t ∧ Good s0 t := by
  unfold execUnitTimeout
  exact ⟨_, rfl, good_unitFault a2h⟩

end Sys2Proof.Machine
end

