-- ==== Sys2Proof/Laws/KeepsMesh.lean ====
section
/-! SUPPORT. Laws/KeepsMesh.lean: every operation of Machine/Mesh.lean keeps what Laws/Keeps.lean names. -/

namespace Sys2Proof.Machine

theorem good_State_putChip {s0 : State} {a0 : State} {a1 : ℕ} {a2 : Chip} (a0h : Good s0 a0) : Good s0 (State.putChip a0 a1 a2)
    := by
  unfold State.putChip
  refine good_State_setChips a0h (fun c => ?_)
  refine spWf_spSet _ _ _ _ ?_
  refine Good.at_chips (s0 := s0) ?_ c
  exact a0h

theorem good_setMesh {s0 : State} {a0 : State} {a1 : ℕ} {a2 : ℕ} (a0h : Good s0 a0) : Good s0 (setMesh a0 a1 a2) := by
  unfold setMesh
  exact good_State_wr a0h

theorem good_State_putMeshTbl {s0 : State} {a0 : State} {a1 : ℕ} {a2 : ℕ} {a3 : ℕ} {a4 : ℕ} {a5 : Sys2Proof.Word} (a0h : Good s0
    a0) : Good s0 (State.putMeshTbl a0 a1 a2 a3 a4 a5) := by
  unfold State.putMeshTbl
  refine good_State_setMeshTbl a0h (fun c => ?_)
  refine spWf_spSet _ _ _ _ ?_
  refine Good.at_meshTbl (s0 := s0) ?_ c
  exact a0h

theorem good_writeHeaters {s0 : State} {a0 : State} {a1 : ℕ} {a2 : ℕ} {a3 : ℕ} (a0h : Good s0 a0) : Good s0 (writeHeaters a0 a1
    a2 a3) := by
  unfold writeHeaters
  exact good_State_each a0h (fun y0 y1 y0h => good_State_putMeshTbl y0h)

theorem good_writeReceive {s0 : State} {a0 : State} {a1 : ℕ} {a2 : ℕ} {a3 : ℕ} (a0h : Good s0 a0) : Good s0 (writeReceive a0 a1
    a2 a3) := by
  unfold writeReceive
  exact good_State_each a0h (fun y0 y1 y0h => good_State_putMeshTbl y0h)

theorem good_startTrim {s0 : State} {a0 : State} {a1 : ℕ} (a0h : Good s0 a0) : Good s0 (startTrim a0 a1) := by
  unfold startTrim
  refine good_ite (good_State_holdStart a0h) ?_
  extract_lets -merge -useContext -underBinder +onlyGivenNames x0
  try clear_value x0
  refine good_ite (good_State_raise (good_setMesh (good_State_putChip a0h))) (good_ite (good_State_putChip a0h) a0h)

theorem good_startXtalk {s0 : State} {a0 : State} {a1 : ℕ} (a0h : Good s0 a0) : Good s0 (startXtalk a0 a1) := by
  unfold startXtalk
  extract_lets -merge -useContext -underBinder +onlyGivenNames x0 x1 x2
  try clear_value x0
  have h3 : Good s0 x1 := by
    unfold x1
    refine good_State_raise (good_State_putChip a0h)
  try clear_value x1
  try clear_value x2
  refine good_ite (good_setMesh (good_State_putChip h3)) (good_ite h3 a0h)

theorem good_startChange {s0 : State} {a0 : State} {a1 : ℕ} {a2 : ℕ} {a3 : List Sys2Proof.Byte} {a4 : MeshWhy} {a5 : List (ℕ ×
    ℕ)} (a0h : Good s0 a0) : Good s0 (startChange a0 a1 a2 a3 a4 a5) := by
  unfold startChange
  exact good_setMesh (good_State_putChip a0h)

theorem good_abandonChange {s0 : State} {a0 : State} {a1 : ℕ} (a0h : Good s0 a0) : Good s0 (abandonChange a0 a1) := by
  unfold abandonChange
  extract_lets -merge -useContext -underBinder +onlyGivenNames x0 x1
  try clear_value x0
  have h2 : Good s0 x1 := by
    unfold x1
    refine good_State_putChip a0h
  try clear_value x1
  refine good_ite (good_ite (good_ite (good_startTrim (good_setMesh h2)) (good_setMesh h2)) (good_setMesh h2)) h2

theorem good_dropPasses {s0 : State} {a0 : State} {a1 : ℕ} (a0h : Good s0 a0) : Good s0 (dropPasses a0 a1) := by
  unfold dropPasses
  exact good_State_putChip a0h

theorem good_meshFail {s0 : State} {a0 : State} {a1 : ℕ} {a2 : OosCause} (a0h : Good s0 a0) : Good s0 (meshFail a0 a1 a2) := by
  unfold meshFail
  refine good_ite a0h ?_
  extract_lets -merge -useContext -underBinder +onlyGivenNames x0 x1 x2 x3
  try clear_value x0
  try clear_value x1
  have h4 : Good s0 x2 := by
    unfold x2
    refine good_State_putChip a0h
  try clear_value x2
  have h5 : Good s0 x3 := by
    unfold x3
    refine good_setMesh h4
  try clear_value x3
  split
  · exact good_detectFault h5
  · exact h5

theorem good_applyMeshOps {s0 : State} {a0 : State} {a1 : ℕ} (a0h : Good s0 a0) : Good s0 (applyMeshOps a0 a1) := by
  unfold applyMeshOps
  exact good_State_each a0h (fun y0 y1 y0h => good_State_apply (good_State_apply y0h))

theorem good_meshSwap {s0 : State} {a0 : State} {a1 : ℕ} (a0h : Good s0 a0) : Good s0 (meshSwap a0 a1) := by
  unfold meshSwap
  extract_lets -merge -useContext -underBinder +onlyGivenNames x0 x1 x2 x3 x4 x5 x6
  try clear_value x0
  try clear_value x1
  have h7 : Good s0 x2 := by
    unfold x2
    split
    · exact good_ite (good_State_putJob a0h) a0h
    · exact a0h
  try clear_value x2
  have h11 : Good s0 x3 := by
    unfold x3
    refine good_State_putChip h7
  try clear_value x3
  have h12 : Good s0 x4 := by
    unfold x4
    refine good_State_wr h11
  try clear_value x4
  have h13 : Good s0 x5 := by
    unfold x5
    refine good_State_bump (good_State_wr h12)
  try clear_value x5
  have h14 : Good s0 x6 := by
    unfold x6
    refine good_State_wrTime h13
  try clear_value x6
  refine good_setMesh (good_State_raise (good_applyMeshOps h14))

theorem good_execMeshSwap {s0 : State} {a0 : Fin 4} {a1 : State} (a1h : Good s0 a1) : ∃ t, execMeshSwap a0 a1 = .next t ∧ Good s0
    t := by
  unfold execMeshSwap
  exact ⟨_, rfl, good_ite (good_meshSwap a1h) a1h⟩

theorem good_execMeshSwapForced {s0 : State} {a0 : Fin 4} {a1 : State} (a1h : Good s0 a1) : ∃ t, execMeshSwapForced a0 a1 = .next
    t ∧ Good s0 t := by
  unfold execMeshSwapForced
  refine ⟨_, rfl, ?_⟩
  extract_lets -merge -useContext -underBinder +onlyGivenNames x0
  try clear_value x0
  refine good_ite (good_meshSwap (good_State_raise (good_State_putChip a1h))) a1h

theorem good_execMeshAgeTrigger {s0 : State} {a0 : Fin 4} {a1 : State} (a1h : Good s0 a1) : ∃ t, execMeshAgeTrigger a0 a1 = .next
    t ∧ Good s0 t := by
  unfold execMeshAgeTrigger
  refine ⟨_, rfl, ?_⟩
  extract_lets -merge -useContext -underBinder +onlyGivenNames x0
  try clear_value x0
  refine good_ite (good_startTrim a1h) a1h

theorem good_execAmbientUpdate {s0 : State} {a0 : Fin 4} {a1 : Bool} {a2 : State} (a2h : Good s0 a2) : ∃ t, execAmbientUpdate a0
    a1 a2 = .next t ∧ Good s0 t := by
  unfold execAmbientUpdate
  refine ⟨_, rfl, ?_⟩
  refine good_ite a2h ?_
  split
  · rename_i y1 y2 e0
    have y2h : Good s0 y2 := by
      exact (congrArg (fun p => Good s0 p.2) e0).mp (good_State_draw a2h)
    refine good_writeHeaters y2h

theorem good_trimStart {s0 : State} {a0 : State} {a1 : ℕ} (a0h : Good s0 a0) : Good s0 (trimStart a0 a1) := by
  unfold trimStart
  exact good_ite (good_startTrim a0h) a0h

theorem good_xtStart {s0 : State} {a0 : State} {a1 : ℕ} (a0h : Good s0 a0) : Good s0 (xtStart a0 a1) := by
  unfold xtStart
  exact good_ite (good_State_holdStart a0h) (good_ite a0h (good_startXtalk a0h))

theorem good_execTrimStart {s0 : State} {a0 : Fin 4} {a1 : State} (a1h : Good s0 a1) : ∃ t, execTrimStart a0 a1 = .next t ∧ Good
    s0 t := by
  unfold execTrimStart
  exact ⟨_, rfl, good_trimStart a1h⟩

theorem good_execXtStart {s0 : State} {a0 : Fin 4} {a1 : State} (a1h : Good s0 a1) : ∃ t, execXtStart a0 a1 = .next t ∧ Good s0 t
    := by
  unfold execXtStart
  exact ⟨_, rfl, good_xtStart a1h⟩

theorem good_meshToken {s0 : State} {a0 : State} {a1 : ℕ} (a0h : Good s0 a0) : Good s0 (meshToken a0 a1) := by
  unfold meshToken
  split
  · exact a0h
  · split
    · exact a0h
    · extract_lets -merge -useContext -underBinder +onlyGivenNames x6 x7
      try clear_value x6
      try clear_value x7
      refine good_ite (good_State_bump (good_pitchTake a0h)) (good_ite (good_detectFault (good_State_raise (good_pitchTake a0h)))
        (good_ite a0h (good_pitchEnter (good_State_putChip (good_pitchTake a0h)))))

theorem good_execMeshToken {s0 : State} {a0 : Fin 256} {a1 : State} (a1h : Good s0 a1) : ∃ t, execMeshToken a0 a1 = .next t ∧
    Good s0 t := by
  unfold execMeshToken
  exact ⟨_, rfl, good_meshToken a1h⟩

theorem good_passLaunch {s0 : State} {a0 : State} {a1 : ℕ} (a0h : Good s0 a0) : Good s0 (passLaunch a0 a1) := by
  unfold passLaunch
  extract_lets -merge -useContext -underBinder +onlyGivenNames x0 x1
  try clear_value x0
  try clear_value x1
  refine good_ite a0h ?_
  split
  · exact a0h
  · split
    · exact a0h
    · extract_lets -merge -useContext -underBinder +onlyGivenNames x9 x10
      try clear_value x9
      try clear_value x10
      split
      · rename_i y12 y13 e11
        have y13h : Good s0 y13 := by
          exact (congrArg (fun p => Good s0 p.2) e11).mp (good_State_draw a0h)
        extract_lets -merge -useContext -underBinder +onlyGivenNames x14 x15 x16
        have h17 : Good s0 x14 := by
          unfold x14
          refine good_ite y13h (good_State_bump64 y13h)
        try clear_value x14
        try clear_value x15
        try clear_value x16
        refine good_State_putChip h17

theorem good_execPassLaunch {s0 : State} {a0 : Fin 4} {a1 : State} (a1h : Good s0 a1) : ∃ t, execPassLaunch a0 a1 = .next t ∧
    Good s0 t := by
  unfold execPassLaunch
  exact ⟨_, rfl, good_passLaunch a1h⟩

theorem good_meshOutput {s0 : State} {a0 : State} {a1 : ℕ} (a0h : Good s0 a0) : Good s0 (meshOutput a0 a1) := by
  unfold meshOutput
  extract_lets -merge -useContext -underBinder +onlyGivenNames x0
  try clear_value x0
  split
  · exact a0h
  · split
    · exact a0h
    · extract_lets -merge -useContext -underBinder +onlyGivenNames x7 x8 x9 x10 x11 x12 x13 x14 x15 x16 x17
      try clear_value x7
      try clear_value x8
      try clear_value x9
      try clear_value x10
      try clear_value x11
      try clear_value x12
      try clear_value x13
      try clear_value x14
      try clear_value x15
      try clear_value x16
      try clear_value x17
      refine good_pitchEnter (good_pitchPut (good_State_putChip a0h))

theorem good_execMeshOutputToken {s0 : State} {a0 : Fin 4} {a1 : State} (a1h : Good s0 a1) : ∃ t, execMeshOutputToken a0 a1 =
    .next t ∧ Good s0 t := by
  unfold execMeshOutputToken
  exact ⟨_, rfl, good_meshOutput a1h⟩

theorem good_meshDropJob {s0 : State} {a0 : State} {a1 : ℕ} (a0h : Good s0 a0) : Good s0 (meshDropJob a0 a1) := by
  unfold meshDropJob
  refine good_State_each a0h ?_
  intro y0 y1 y0h
  extract_lets -merge -useContext -underBinder +onlyGivenNames x2 x3
  try clear_value x2
  have h4 : Good s0 x3 := by
    unfold x3
    refine good_State_putChip y0h
  try clear_value x3
  refine good_ite (good_State_each h4 (fun y5 y6 y5h => good_State_bump y5h)) y0h

end Sys2Proof.Machine
end

