-- ==== Sys2Proof/Laws/KeepsTables.lean ====
section
/-! SUPPORT. Laws/KeepsTables.lean: every operation of Machine/Tables.lean keeps what Laws/Keeps.lean names. -/

namespace Sys2Proof.Machine

theorem good_State_putQuad {s0 : State} {a0 : State} {a1 : ℕ} {a2 : QuadCal} (a0h : Good s0 a0) : Good s0 (State.putQuad a0 a1
    a2) := by
  unfold State.putQuad
  refine good_State_setQuads a0h (fun c => ?_)
  refine spWf_spSet _ _ _ _ ?_
  refine Good.at_quads (s0 := s0) ?_ c
  exact a0h

theorem good_beginTile {s0 : State} {a0 : State} {a1 : ℕ} {a2 : ℕ} {a3 : Bool} (a0h : Good s0 a0) : Good s0 (beginTile a0 a1 a2
    a3) := by
  unfold beginTile
  extract_lets -merge -useContext -underBinder +onlyGivenNames x0 x1 x2 x3 x4
  try clear_value x0
  try clear_value x1
  have h5 : Good s0 x2 := by
    unfold x2
    refine good_State_putTile (good_State_wr a0h)
  try clear_value x2
  have h6 : Good s0 x3 := by
    unfold x3
    refine good_State_putTcal h5
  try clear_value x3
  have h7 : Good s0 x4 := by
    unfold x4
    refine good_State_putTcal h6
  try clear_value x4
  refine good_ite (good_State_wr h7) h7

theorem good_beginRound {s0 s : State} {q r fuel : Nat} (h : Good s0 s) : Good s0 (beginRound s q r fuel) := by
  induction fuel generalizing s r with
  | zero => exact good_State_putQuad h
  | succ m ih =>
    simp only [beginRound]
    refine good_ite (good_ite (ih (good_State_wr h)) (good_State_putQuad (good_State_wr h)))
      (good_State_each (good_State_putQuad (good_State_wr h)) fun _ _ hy => good_beginTile hy)

theorem good_beginRun {s0 : State} {a0 : State} {a1 : ℕ} {a2 : ℕ} (a0h : Good s0 a0) : Good s0 (beginRun a0 a1 a2) := by
  unfold beginRun
  extract_lets -merge -useContext -underBinder +onlyGivenNames x0 x1 x2 x3 x4
  try clear_value x0
  have h5 : Good s0 x1 := by
    unfold x1
    refine good_State_wrB (good_State_wr (good_State_wr a0h))
  try clear_value x1
  try clear_value x2
  have h6 : Good s0 x3 := by
    unfold x3
    refine good_State_putQuad h5
  try clear_value x3
  have h7 : Good s0 x4 := by
    unfold x4
    refine good_ite (good_State_each h6 (fun y8 y9 y8h => good_State_wr y8h)) h6
  try clear_value x4
  refine good_beginRound h7

theorem good_triggerRun {s0 : State} {a0 : State} {a1 : ℕ} {a2 : ℕ} (a0h : Good s0 a0) : Good s0 (triggerRun a0 a1 a2) := by
  unfold triggerRun
  refine good_ite (good_State_holdStart a0h) ?_
  refine good_ite a0h ?_
  refine good_ite (good_beginRun a0h) ?_
  extract_lets -merge -useContext -underBinder +onlyGivenNames x0
  try clear_value x0
  refine good_State_wr (good_State_putQuad a0h)

theorem good_endRun {s0 : State} {a0 : State} {a1 : ℕ} (a0h : Good s0 a0) : Good s0 (endRun a0 a1) := by
  unfold endRun
  extract_lets -merge -useContext -underBinder +onlyGivenNames x0 x1 x2 x3 x4
  have h5 : Good s0 x0 := by
    unfold x0
    refine good_State_wrTime (good_State_bump (good_State_wr (good_State_wr a0h)))
  try clear_value x0
  have h6 : Good s0 x1 := by
    unfold x1
    refine good_State_raise (good_State_wrInt h5)
  try clear_value x1
  try clear_value x2
  try clear_value x3
  have h7 : Good s0 x4 := by
    unfold x4
    refine good_State_wr (good_State_putQuad h6)
  try clear_value x4
  split
  · exact good_beginRun h7
  · exact h7

theorem good_checkRunEnd {s0 : State} {a0 : State} {a1 : ℕ} (a0h : Good s0 a0) : Good s0 (checkRunEnd a0 a1) := by
  unfold checkRunEnd
  extract_lets -merge -useContext -underBinder +onlyGivenNames x0
  try clear_value x0
  refine good_ite (good_endRun a0h) a0h

theorem good_applyMaps {s0 : State} {a0 : State} {a1 : ℕ} (a0h : Good s0 a0) : Good s0 (applyMaps a0 a1) := by
  unfold applyMaps
  exact good_State_apply (good_State_each a0h (fun y0 y1 y0h => good_State_apply y0h))

theorem good_applyClip {s0 : State} {a0 : State} {a1 : ℕ} (a0h : Good s0 a0) : Good s0 (applyClip a0 a1) := by
  unfold applyClip
  split
  · exact a0h
  · extract_lets -merge -useContext -underBinder +onlyGivenNames x3 x4 x5 x6
    try clear_value x3
    have h7 : Good s0 x4 := by
      unfold x4
      refine good_State_setWord a0h
    try clear_value x4
    have h8 : Good s0 x5 := by
      unfold x5
      refine good_State_setInForce h7 (fun c => ?_)
      refine spWf_spSet _ _ _ _ ?_
      refine Good.at_inForce (s0 := s0) ?_ c
      exact h7
    try clear_value x5
    try clear_value x6
    refine good_showMode (good_State_putTile h8)

theorem good_regain {s0 : State} {a0 : State} {a1 : ℕ} (a0h : Good s0 a0) : Good s0 (regain a0 a1) := by
  unfold regain
  extract_lets -merge -useContext -underBinder +onlyGivenNames x0 x1
  try clear_value x0
  try clear_value x1
  refine good_State_putTile a0h

theorem good_tableSwap {s0 : State} {a0 : State} {a1 : ℕ} {a2 : Bool} (a0h : Good s0 a0) : Good s0 (tableSwap a0 a1 a2) := by
  unfold tableSwap
  extract_lets -merge -useContext -underBinder +onlyGivenNames x0 x1 x2 x3 x4 x5 x6 x7
  have h8 : Good s0 x0 := by
    unfold x0
    refine good_applyClip (good_applyMaps (good_State_wr a0h))
  try clear_value x0
  try clear_value x1
  have h9 : Good s0 x2 := by
    unfold x2
    refine good_State_putTile h8
  try clear_value x2
  have h10 : Good s0 x3 := by
    unfold x3
    refine good_State_wrB (good_State_wr (good_State_wr h9))
  try clear_value x3
  have h11 : Good s0 x4 := by
    unfold x4
    refine good_ite (good_State_raise h10) h10
  try clear_value x4
  have h12 : Good s0 x5 := by
    unfold x5
    refine good_estimate (good_regain (good_latchGain h11))
  try clear_value x5
  try clear_value x6
  try clear_value x7
  refine good_checkRunEnd (good_State_putQuad h12)

theorem good_tableBuilt {s0 : State} {a0 : State} {a1 : ℕ} (a0h : Good s0 a0) : Good s0 (tableBuilt a0 a1) := by
  unfold tableBuilt
  exact good_ite (good_State_putTile (good_State_wr a0h)) (good_tableSwap a0h)

theorem good_execTableSwap {s0 : State} {a0 : Fin 4096} {a1 : State} (a1h : Good s0 a1) : ∃ t, execTableSwap a0 a1 = .next t ∧
    Good s0 t := by
  unfold execTableSwap
  exact ⟨_, rfl, good_ite (good_tableSwap a1h) a1h⟩

theorem good_execTableSwapForced {s0 : State} {a0 : Fin 4096} {a1 : State} (a1h : Good s0 a1) : ∃ t, execTableSwapForced a0 a1 =
    .next t ∧ Good s0 t := by
  unfold execTableSwapForced
  exact ⟨_, rfl, good_ite (good_tableSwap a1h) a1h⟩

theorem good_stopMeasuring {s0 : State} {a0 : State} {a1 : ℕ} (a0h : Good s0 a0) : Good s0 (stopMeasuring a0 a1) := by
  unfold stopMeasuring
  extract_lets -merge -useContext -underBinder +onlyGivenNames x0 x1
  try clear_value x0
  try clear_value x1
  refine good_ite a0h (good_checkRunEnd (good_State_putQuad (good_State_wr a0h)))

theorem good_leaveTable {s0 : State} {a0 : State} {a1 : ℕ} (a0h : Good s0 a0) : Good s0 (leaveTable a0 a1) := by
  unfold leaveTable
  exact good_ite (good_tableSwap a0h) (good_stopMeasuring a0h)

theorem good_abandonRoll {s0 : State} {a0 : State} {a1 : ℕ} (a0h : Good s0 a0) : Good s0 (abandonRoll a0 a1) := by
  unfold abandonRoll
  exact good_ite a0h (good_stopMeasuring a0h)

end Sys2Proof.Machine
end

