-- ==== Sys2Proof/Laws/KeepsGeneration.lean ====
section
/-! SUPPORT. Laws/KeepsGeneration.lean: every operation of Machine/Generation.lean keeps what Laws/Keeps.lean names. -/

namespace Sys2Proof.Machine

theorem good_fillReserve {s0 : State} {a0 : State} {a1 : ℕ} (a0h : Good s0 a0) : Good s0 (fillReserve a0 a1) := by
  unfold fillReserve
  extract_lets -merge -useContext -underBinder +onlyGivenNames x0 x1 x2
  try clear_value x0
  try clear_value x1
  have h3 : Good s0 x2 := by
    unfold x2
    refine good_State_each a0h (fun y4 y5 y4h => good_State_wr y4h)
  try clear_value x2
  refine good_State_each h3 (fun y6 y7 y6h => good_State_wr y6h)

theorem good_clearUse {s0 : State} {a0 : State} {a1 : ℕ} (a0h : Good s0 a0) : Good s0 (clearUse a0 a1) := by
  unfold clearUse
  exact good_State_wr (good_State_wr a0h)

theorem good_releaseTiles {s0 : State} {a0 : State} {a1 : List ℕ} (a0h : Good s0 a0) : Good s0 (releaseTiles a0 a1) := by
  unfold releaseTiles
  extract_lets -merge -useContext -underBinder +onlyGivenNames x0
  have h1 : Good s0 x0 := by
    unfold x0
    refine good_State_each a0h ?_
    intro y2 y3 y2h
    refine good_ite y2h ?_
    extract_lets -merge -useContext -underBinder +onlyGivenNames x4 x5 x6
    try clear_value x4
    have h7 : Good s0 x5 := by
      unfold x5
      refine good_ite (good_State_wr y2h) y2h
    try clear_value x5
    have h8 : Good s0 x6 := by
      unfold x6
      refine good_clearUse (good_State_wr h7)
    try clear_value x6
    refine good_ite (good_tableSwap h8) h8
  try clear_value x0
  refine good_State_each h1 (fun y9 y10 y9h => good_fillReserve y9h)

theorem good_showStore {s0 : State} {a0 : State} (a0h : Good s0 a0) : Good s0 (showStore a0) := by
  unfold showStore
  exact good_State_each a0h (fun y0 y1 y0h => good_State_wr y0h)

theorem good_retire {s0 : State} {a0 : State} {a1 : ℕ} (a0h : Good s0 a0) : Good s0 (retire a0 a1) := by
  unfold retire
  extract_lets -merge -useContext -underBinder +onlyGivenNames x0 x1 x2 x3 x4 x5 x6 x7 x8 x9
  try clear_value x0
  try clear_value x1
  try clear_value x2
  try clear_value x3
  try clear_value x4
  have h10 : Good s0 x5 := by
    unfold x5
    refine good_State_putJob a0h
  try clear_value x5
  have h11 : Good s0 x6 := by
    unfold x6
    refine good_State_wr (good_State_wr (good_State_wr (good_State_wr (good_State_wr h10))))
  try clear_value x6
  have h12 : Good s0 x7 := by
    unfold x7
    refine good_State_setStages h11 (fun c => ?_)
    refine spWf_spSet _ _ _ _ ?_
    refine Good.at_stages (s0 := s0) ?_ c
    exact h11
  try clear_value x7
  have h13 : Good s0 x8 := by
    unfold x8
    refine good_State_each h12 (fun y14 y15 y14h => good_ite (good_State_putChip y14h) y14h)
  try clear_value x8
  have h16 : Good s0 x9 := by
    unfold x9
    refine good_releaseTiles h13
  try clear_value x9
  refine good_ite (good_showStore (good_State_raise h16)) a0h

theorem good_State_putStage {s0 : State} {a0 : State} {a1 : ℕ} {a2 : WStage} (a0h : Good s0 a0) : Good s0 (State.putStage a0 a1
    a2) := by
  unfold State.putStage
  refine good_State_setStages a0h (fun c => ?_)
  refine spWf_spSet _ _ _ _ ?_
  refine Good.at_stages (s0 := s0) ?_ c
  exact a0h

theorem good_ringBell {s0 : State} {a0 : State} {a1 : ℕ} (a0h : Good s0 a0) : Good s0 (ringBell a0 a1) := by
  unfold ringBell
  extract_lets -merge -useContext -underBinder +onlyGivenNames x0 x1 x2 x3 x4 x5 x6 x7 x8
  try clear_value x0
  try clear_value x1
  try clear_value x2
  try clear_value x3
  try clear_value x4
  have h9 : Good s0 x5 := by
    unfold x5
    refine good_State_raise (good_State_wr (good_State_wr a0h))
  try clear_value x5
  have h10 : Good s0 x6 := by
    unfold x6
    refine good_State_putJob h9
  try clear_value x6
  have h11 : Good s0 x7 := by
    unfold x7
    refine good_State_each h10 ?_
    intro y12 y13 y12h
    extract_lets -merge -useContext -underBinder +onlyGivenNames x14
    try clear_value x14
    refine good_ite (good_State_putChip y12h) y12h
  try clear_value x7
  have h15 : Good s0 x8 := by
    unfold x8
    refine good_State_each h11 (fun y16 y17 y16h => good_State_each y16h (fun y18 y19 y18h => good_State_wr y18h))
  try clear_value x8
  refine good_retire h15

theorem good_bell {s0 : State} {a0 : State} {a1 : ℕ} (a0h : Good s0 a0) : Good s0 (bell a0 a1) := by
  unfold bell
  exact good_ite (good_State_putJob a0h) (good_ringBell a0h)

theorem good_execBell {s0 : State} {a0 : Fin 16} {a1 : State} (a1h : Good s0 a1) : ∃ t, execBell a0 a1 = .next t ∧ Good s0 t := by
  unfold execBell
  exact ⟨_, rfl, good_ite (good_ringBell a1h) a1h⟩

theorem good_enterLoaded {s0 : State} {a0 : State} {a1 : ℕ} (a0h : Good s0 a0) : Good s0 (enterLoaded a0 a1) := by
  unfold enterLoaded
  extract_lets -merge -useContext -underBinder +onlyGivenNames x0 x1 x2 x3
  try clear_value x0
  try clear_value x1
  have h4 : Good s0 x2 := by
    unfold x2
    refine good_State_putJob a0h
  try clear_value x2
  have h5 : Good s0 x3 := by
    unfold x3
    refine good_refreshWait (good_State_each h4 (fun y6 y7 y6h => good_State_putBind y6h))
  try clear_value x3
  refine good_aoutJobLeaves (good_State_each h5 (fun y8 y9 y8h => good_seatFlush y8h))

theorem good_checkStopped {s0 : State} {a0 : State} {a1 : ℕ} (a0h : Good s0 a0) : Good s0 (checkStopped a0 a1) := by
  unfold checkStopped
  refine good_ite ?_ a0h
  extract_lets -merge -useContext -underBinder +onlyGivenNames x0
  have h1 : Good s0 x0 := by
    unfold x0
    refine good_enterLoaded a0h
  try clear_value x0
  split
  · exact good_State_respond h1
  · exact h1

theorem good_checkWarm {s0 : State} {a0 : State} {a1 : ℕ} (a0h : Good s0 a0) : Good s0 (checkWarm a0 a1) := by
  unfold checkWarm
  extract_lets -merge -useContext -underBinder +onlyGivenNames x0
  try clear_value x0
  refine good_ite (good_State_putJob a0h) a0h

theorem good_finishBatch {s0 : State} {a0 : State} {a1 : Batch} (a0h : Good s0 a0) : Good s0 (finishBatch a0 a1) := by
  unfold finishBatch
  extract_lets -merge -useContext -underBinder +onlyGivenNames x0 x1 x2 x3 x4 x5
  have h6 : Good s0 x0 := by
    unfold x0
    refine good_State_setBatches a0h
  try clear_value x0
  have h7 : Good s0 x1 := by
    unfold x1
    refine good_returnTags h6
  try clear_value x1
  have h8 : Good s0 x2 := by
    unfold x2
    refine good_State_setStDone h7
  try clear_value x2
  have h9 : Good s0 x3 := by
    unfold x3
    refine good_State_each h8 (fun y10 y11 y10h => good_State_putChip y10h)
  try clear_value x3
  try clear_value x4
  have h12 : Good s0 x5 := by
    unfold x5
    refine good_ite (good_State_putBind h9) h9
  try clear_value x5
  refine good_checkStopped (good_retire (good_checkWarm h12))

theorem good_checkBatch {s0 : State} {a0 : State} {a1 : Batch} (a0h : Good s0 a0) : Good s0 (checkBatch a0 a1) := by
  unfold checkBatch
  exact good_ite (good_finishBatch a0h) a0h

end Sys2Proof.Machine
end

