-- ==== Sys2Proof/Laws/KeepsPlacement.lean ====
section
/-! SUPPORT. Laws/KeepsPlacement.lean: every operation of Machine/Placement.lean keeps what Laws/Keeps.lean names. -/

namespace Sys2Proof.Machine

theorem good_configTile {s0 : State} {a0 : State} {a1 : ℕ} {a2 : List Sys2Proof.Byte} {a3 : Bool} {a4 : Bool} {a5 : Bool} {a6 :
    ℕ} (a0h : Good s0 a0) : Good s0 (configTile a0 a1 a2 a3 a4 a5 a6) := by
  unfold configTile
  extract_lets -merge -useContext -underBinder +onlyGivenNames x0 x1 x2
  try clear_value x0
  have h3 : Good s0 x1 := by
    unfold x1
    refine good_State_wr (good_State_wr (good_State_wr a0h))
  try clear_value x1
  have h4 : Good s0 x2 := by
    unfold x2
    refine good_State_wr (good_State_wrB h3)
  try clear_value x2
  refine good_State_each h4 (fun y5 y6 y5h => good_State_setWord y5h)

theorem good_configSpan {s0 : State} {a0 : State} {a1 : ℕ} {a2 : List Sys2Proof.Byte} {a3 : Bool} {a4 : Bool} {a5 : ℕ} (a0h :
    Good s0 a0) : Good s0 (configSpan a0 a1 a2 a3 a4 a5) := by
  unfold configSpan
  extract_lets -merge -useContext -underBinder +onlyGivenNames x0
  have h1 : Good s0 x0 := by
    unfold x0
    refine good_configTile a0h
  try clear_value x0
  refine good_ite (good_configTile h1) h1

theorem good_serveTile {s0 : State} {a0 : State} {a1 : ℕ} (a0h : Good s0 a0) : Good s0 (serveTile a0 a1) := by
  unfold serveTile
  extract_lets -merge -useContext -underBinder +onlyGivenNames x0 x1 x2 x3
  have h4 : Good s0 x0 := by
    unfold x0
    refine good_State_wr a0h
  try clear_value x0
  try clear_value x1
  try clear_value x2
  try clear_value x3
  refine good_ite (good_State_wr h4) h4

end Sys2Proof.Machine
end

