-- ==== Sys2Proof/Laws/KeepsWrites.lean ====
section
/-! SUPPORT. Laws/KeepsWrites.lean: every operation of Machine/Writes.lean keeps what Laws/Keeps.lean names. -/

namespace Sys2Proof.Machine

theorem good_mapWrite {s0 : State} {a0 : State} {a1 : ℕ} {a2 : WriteReq → WriteReq} (a0h : Good s0 a0) : Good s0 (mapWrite a0 a1
    a2) := by
  unfold mapWrite
  exact good_State_setWrites a0h

theorem good_dropWrite {s0 : State} {a0 : State} {a1 : ℕ} (a0h : Good s0 a0) : Good s0 (dropWrite a0 a1) := by
  unfold dropWrite
  exact good_State_setWrites a0h

theorem good_releaseChip {s0 : State} {a0 : State} {a1 : ℕ} (a0h : Good s0 a0) : Good s0 (releaseChip a0 a1) := by
  unfold releaseChip
  extract_lets -merge -useContext -underBinder +onlyGivenNames x0 x1 x2 x3 x4 x5
  have h6 : Good s0 x0 := by
    unfold x0
    refine good_State_wr (good_State_wr a0h)
  try clear_value x0
  try clear_value x1
  have h7 : Good s0 x2 := by
    unfold x2
    refine good_State_putChip h6
  try clear_value x2
  have h8 : Good s0 x3 := by
    unfold x3
    refine good_State_each h7 (fun y9 y10 y9h => good_State_each y9h (fun y11 y12 y11h => good_State_putMeshTbl y11h))
  try clear_value x3
  have h13 : Good s0 x4 := by
    unfold x4
    refine good_State_each h8 (fun y14 y15 y14h => good_State_setWord y14h)
  try clear_value x4
  have h16 : Good s0 x5 := by
    unfold x5
    refine good_applyMeshOps h13
  try clear_value x5
  refine good_ite h16 (good_setMesh h16)

theorem good_writeMeshOps {s0 : State} {a0 : State} {a1 : ℕ} {a2 : ℕ} (a0h : Good s0 a0) : Good s0 (writeMeshOps a0 a1 a2) := by
  unfold writeMeshOps
  extract_lets -merge -useContext -underBinder +onlyGivenNames x0 x1 x2
  try clear_value x0
  try clear_value x1
  have h3 : Good s0 x2 := by
    unfold x2
    refine good_State_each a0h ?_
    intro y4 y5 y4h
    split
    · exact good_State_setWord (good_State_setWord y4h)
    · extract_lets -merge -useContext -underBinder +onlyGivenNames x9 x10
      try clear_value x9
      have h11 : Good s0 x10 := by
        unfold x10
        refine good_State_wr2 (good_State_wr2 (good_State_wr2 y4h))
      try clear_value x10
      refine good_State_wr2 (good_State_wr2 (good_State_wr2 h11))
  try clear_value x2
  refine good_ite (good_applyMeshOps h3) h3

theorem good_placeMatrix {s0 : State} {a0 : State} {a1 : ℕ} {a2 : ℕ} {a3 : MeshWhy} (a0h : Good s0 a0) : Good s0 (placeMatrix a0
    a1 a2 a3) := by
  unfold placeMatrix
  extract_lets -merge -useContext -underBinder +onlyGivenNames x0
  try clear_value x0
  split
  · exact a0h
  · extract_lets -merge -useContext -underBinder +onlyGivenNames x4 x5
    have h6 : Good s0 x4 := by
      unfold x4
      refine good_State_wr (good_State_wr a0h)
    try clear_value x4
    try clear_value x5
    refine good_startChange (good_writeMeshOps h6)

theorem good_moveChip {s0 : State} {a0 : State} {a1 : ℕ} {a2 : ℕ} {a3 : ℕ} (a0h : Good s0 a0) : Good s0 (moveChip a0 a1 a2 a3) :=
    by
  unfold moveChip
  extract_lets -merge -useContext -underBinder +onlyGivenNames x0 x1
  try clear_value x0
  have h2 : Good s0 x1 := by
    unfold x1
    refine good_State_putJob (good_releaseChip a0h)
  try clear_value x1
  refine good_State_wr (good_placeMatrix h2)

theorem good_seekReturn {s0 : State} {a0 : State} {a1 : ℕ} (a0h : Good s0 a0) : Good s0 (seekReturn a0 a1) := by
  unfold seekReturn
  refine good_State_each a0h ?_
  intro y0 y1 y0h
  refine good_ite (good_ite (good_placeMatrix y0h) y0h) ?_
  refine good_ite ?_ y0h
  split
  · exact good_moveChip y0h
  · exact y0h

theorem good_seekReturns {s0 : State} {a0 : State} (a0h : Good s0 a0) : Good s0 (seekReturns a0) := by
  unfold seekReturns
  exact good_State_each a0h (fun y0 y1 y0h => good_seekReturn y0h)

theorem good_showHwNow {s0 : State} {a0 : State} (a0h : Good s0 a0) : Good s0 (showHwNow a0) := by
  unfold showHwNow
  exact good_State_wrSat a0h

theorem good_dropStage {s0 : State} {a0 : State} {a1 : ℕ} {a2 : ℕ} (a0h : Good s0 a0) : Good s0 (dropStage a0 a1 a2) := by
  unfold dropStage
  extract_lets -merge -useContext -underBinder +onlyGivenNames x0 x1 x2 x3 x4 x5 x6 x7 x8
  try clear_value x0
  try clear_value x1
  have h9 : Good s0 x2 := by
    unfold x2
    refine good_State_putJob a0h
  try clear_value x2
  have h10 : Good s0 x3 := by
    unfold x3
    refine good_State_setWrites h9
  try clear_value x3
  try clear_value x4
  have h11 : Good s0 x5 := by
    unfold x5
    refine good_State_each h10 (fun y12 y13 y12h => good_clearUse (good_abandonRoll (good_ite (good_State_wr y12h) y12h)))
  try clear_value x5
  have h14 : Good s0 x6 := by
    unfold x6
    refine good_State_each h11 (fun y15 y16 y15h => good_ite (good_abandonChange y15h) y15h)
  try clear_value x6
  have h17 : Good s0 x7 := by
    unfold x7
    refine good_State_wr (good_State_wr (good_State_wr (good_State_wr h14)))
  try clear_value x7
  have h18 : Good s0 x8 := by
    unfold x8
    refine good_State_each (good_State_putStage h17) (fun y19 y20 y19h => good_fillReserve y19h)
  try clear_value x8
  refine good_State_raise (good_showStore (good_showHwNow h18))

theorem good_failStage {s0 : State} {a0 : State} {a1 : ℕ} (a0h : Good s0 a0) : Good s0 (failStage a0 a1) := by
  unfold failStage
  exact good_dropStage a0h

theorem good_dropPages {s0 : State} {a0 : State} {a1 : ℕ} (a0h : Good s0 a0) : Good s0 (dropPages a0 a1) := by
  unfold dropPages
  refine good_State_setXlates ?_
  refine good_State_setPtes a0h (fun c => ?_)
  refine spWf_filter _ _ _ ?_
  refine Good.at_ptes (s0 := s0) ?_ c
  exact a0h

theorem good_emptyJob {s0 : State} {a0 : State} {a1 : ℕ} (a0h : Good s0 a0) : Good s0 (emptyJob a0 a1) := by
  unfold emptyJob
  extract_lets -merge -useContext -underBinder +onlyGivenNames x0 x1 x2 x3 x4 x5 x6 x7 x8 x9 x10 x11 x12 x13 x14 x15 x16 x17
  try clear_value x0
  have h18 : Good s0 x1 := by
    unfold x1
    refine good_ite (good_dropStage a0h) a0h
  try clear_value x1
  try clear_value x2
  try clear_value x3
  try clear_value x4
  have h19 : Good s0 x5 := by
    unfold x5
    refine good_State_setWrites h18
  try clear_value x5
  try clear_value x6
  have h20 : Good s0 x7 := by
    unfold x7
    refine good_State_putJob h19
  try clear_value x7
  have h21 : Good s0 x8 := by
    unfold x8
    refine good_State_each h20 (fun y22 y23 y22h => good_ite y22h (good_abandonRoll y22h))
  try clear_value x8
  have h24 : Good s0 x9 := by
    unfold x9
    refine good_releaseTiles h21
  try clear_value x9
  have h25 : Good s0 x10 := by
    unfold x10
    refine good_dropPages h24
  try clear_value x10
  have h26 : Good s0 x11 := by
    unfold x11
    refine good_State_each h25 (fun y27 y28 y27h => good_releaseChip y27h)
  try clear_value x11
  have h29 : Good s0 x12 := by
    unfold x12
    refine good_State_setBatches h26
  try clear_value x12
  have h30 : Good s0 x13 := by
    unfold x13
    refine good_State_each h29 (fun y31 y32 y31h => good_State_putBind y31h)
  try clear_value x13
  have h33 : Good s0 x14 := by
    unfold x14
    refine good_State_setTagsHeld h30
  try clear_value x14
  have h34 : Good s0 x15 := by
    unfold x15
    refine good_State_setWord (good_showTags h33)
  try clear_value x15
  have h35 : Good s0 x16 := by
    unfold x16
    refine good_State_each h34 (fun y36 y37 y36h => good_State_setWord y36h)
  try clear_value x16
  have h38 : Good s0 x17 := by
    unfold x17
    refine good_State_setRecur h35 (fun c => ?_)
    refine spWf_filter _ _ _ ?_
    refine Good.at_recur (s0 := s0) ?_ c
    exact h35
  try clear_value x17
  refine good_seekReturns (good_showStore (good_showHwNow h38))

theorem good_failLoad {s0 : State} {a0 : State} {a1 : ℕ} {a2 : Status} (a0h : Good s0 a0) : Good s0 (failLoad a0 a1 a2) := by
  unfold failLoad
  extract_lets -merge -useContext -underBinder +onlyGivenNames x0 x1
  try clear_value x0
  have h2 : Good s0 x1 := by
    unfold x1
    refine good_emptyJob a0h
  try clear_value x1
  split
  · exact good_State_respond h2
  · exact h2

theorem good_loadProgress {s0 : State} {a0 : State} {a1 : ℕ} (a0h : Good s0 a0) : Good s0 (loadProgress a0 a1) := by
  unfold loadProgress
  extract_lets -merge -useContext -underBinder +onlyGivenNames x0 x1 x2 x3 x4
  try clear_value x0
  try clear_value x1
  try clear_value x2
  have h5 : Good s0 x3 := by
    unfold x3
    refine good_State_putJob a0h
  try clear_value x3
  have h6 : Good s0 x4 := by
    unfold x4
    refine good_State_each h5 (fun y7 y8 y7h => good_ite (good_serveTile y7h) y7h)
  try clear_value x4
  refine good_ite a0h ?_
  split
  · exact good_showStore (good_State_respond (good_showTags h6))
  · exact good_showStore (good_showTags h6)

theorem good_stageProgress {s0 : State} {a0 : State} {a1 : ℕ} (a0h : Good s0 a0) : Good s0 (stageProgress a0 a1) := by
  unfold stageProgress
  extract_lets -merge -useContext -underBinder +onlyGivenNames x0 x1
  try clear_value x0
  have h2 : Good s0 x1 := by
    unfold x1
    refine good_State_raise (good_State_wr a0h)
  try clear_value x1
  refine good_ite (good_ite (good_bell h2) h2) a0h

theorem good_copyReady {s0 : State} {a0 : State} {a1 : ℕ} {a2 : ℕ} (a0h : Good s0 a0) : Good s0 (copyReady a0 a1 a2) := by
  unfold copyReady
  extract_lets -merge -useContext -underBinder +onlyGivenNames x0
  try clear_value x0
  refine good_stageProgress (good_State_putStage a0h)

theorem good_meshReady {s0 : State} {a0 : State} {a1 : ℕ} {a2 : ℕ} (a0h : Good s0 a0) : Good s0 (meshReady a0 a1 a2) := by
  unfold meshReady
  extract_lets -merge -useContext -underBinder +onlyGivenNames x0
  try clear_value x0
  refine good_stageProgress (good_State_putStage a0h)

theorem good_unbindAll {s0 : State} {a0 : State} {a1 : ℕ} (a0h : Good s0 a0) : Good s0 (unbindAll a0 a1) := by
  unfold unbindAll
  exact good_State_each a0h (fun y0 y1 y0h => good_ite (good_State_putBind (good_reportCollected y0h)) y0h)

theorem good_stopJob {s0 : State} {a0 : State} {a1 : ℕ} (a0h : Good s0 a0) : Good s0 (stopJob a0 a1) := by
  unfold stopJob
  extract_lets -merge -useContext -underBinder +onlyGivenNames x0 x1
  have h2 : Good s0 x0 := by
    unfold x0
    refine good_unbindAll a0h
  try clear_value x0
  try clear_value x1
  refine good_checkStopped (good_State_putJob h2)

end Sys2Proof.Machine
end

