-- ==== Sys2Proof/Laws/KeepsHomework.lean ====
section
/-! SUPPORT. Laws/KeepsHomework.lean: every operation of Machine/Homework.lean keeps what Laws/Keeps.lean names. -/

namespace Sys2Proof.Machine

theorem good_putHw {s0 : State} {a0 : State} {a1 : Homework} (a0h : Good s0 a0) : Good s0 (putHw a0 a1) := by
  unfold putHw
  exact good_State_setHomework a0h

theorem good_dropHw {s0 : State} {a0 : State} {a1 : ℕ} (a0h : Good s0 a0) : Good s0 (dropHw a0 a1) := by
  unfold dropHw
  exact good_State_setHomework a0h

theorem good_setSvc {s0 : State} {a0 : State} {a1 : ℕ} {a2 : Bool} {a3 : ℕ} (a0h : Good s0 a0) : Good s0 (setSvc a0 a1 a2 a3) :=
    by
  unfold setSvc
  exact good_State_each a0h (fun y0 y1 y0h => good_State_wr y0h)

theorem good_setPath {s0 : State} {a0 : State} {a1 : ℕ} {a2 : Bool} {a3 : ℕ} (a0h : Good s0 a0) : Good s0 (setPath a0 a1 a2 a3)
    := by
  unfold setPath
  exact good_State_each a0h (fun y0 y1 y0h => good_State_wr y0h)

theorem good_giveSpares {s0 s s' : State} {t : Nat} {l : List Nat} (h : Good s0 s) (e : giveSpares s t l = some s') : Good s0 s' := by
  induction l generalizing s with
  | nil => obtain rfl := Option.some.inj e; exact h
  | cons c l ih =>
    simp only [giveSpares] at e
    split at e
    · cases e
    · refine ih ?_ e
      exact good_State_wr2 (good_State_wr2 (good_State_each h fun _ _ hy => good_ite (good_State_putTile (good_State_wr2 hy)) hy))

theorem good_restage {s0 : State} {a0 : State} {a1 : ℕ} {a2 : Copy} {a3 : ℕ} {a4 : Bool} (a0h : Good s0 a0) : Good s0 (restage a0
    a1 a2 a3 a4) := by
  unfold restage
  extract_lets -merge -useContext -underBinder +onlyGivenNames x0 x1
  try clear_value x0
  have h2 : Good s0 x1 := by
    unfold x1
    refine good_State_setWrites a0h
  try clear_value x1
  refine good_State_wr (good_State_putStage h2)

theorem good_makeDue {s0 : State} {a0 : State} {a1 : ℕ} {a2 : ℕ} {a3 : List ℕ} (a0h : Good s0 a0) : Good s0 (makeDue a0 a1 a2 a3)
    := by
  unfold makeDue
  extract_lets -merge -useContext -underBinder +onlyGivenNames x0 x1 x2 x3
  try clear_value x0
  try clear_value x1
  try clear_value x2
  have h4 : Good s0 x3 := by
    unfold x3
    refine good_State_each a0h (fun y5 y6 y5h => good_stopMeasuring y5h)
  try clear_value x3
  refine good_ite a0h ?_
  split
  · extract_lets -merge -useContext -underBinder +onlyGivenNames x9
    have h10 : Good s0 x9 := by
      unfold x9
      refine good_State_wr h4
    try clear_value x9
    refine good_mapWrite ?_
    split
    · rename_i y12 e11
      have y12h : Good s0 y12 := by
        exact good_giveSpares h10 e11
      exact y12h
    · exact h10
  · split
    · extract_lets -merge -useContext -underBinder +onlyGivenNames x18
      have h19 : Good s0 x18 := by
        unfold x18
        refine good_State_wr h4
      try clear_value x18
      refine good_restage ?_
      split
      · rename_i y21 e20
        have y21h : Good s0 y21 := by
          exact good_giveSpares h19 e20
        exact y21h
      · exact h19
    · split
      · extract_lets -merge -useContext -underBinder +onlyGivenNames x26
        have h27 : Good s0 x26 := by
          unfold x26
          refine good_ite (good_State_wr h4) h4
        try clear_value x26
        refine good_putHw h27
      · extract_lets -merge -useContext -underBinder +onlyGivenNames x29 x30
        try clear_value x29
        have h31 : Good s0 x30 := by
          unfold x30
          refine good_State_putOcc (good_State_wr h4)
        try clear_value x30
        refine good_ite h31 (good_State_setHomework (good_setSvc h31))

theorem good_beginHw {s0 : State} {a0 : State} {a1 : Homework} (a0h : Good s0 a0) : Good s0 (beginHw a0 a1) := by
  unfold beginHw
  exact good_showHwNow (good_State_raise (good_putHw a0h))

theorem good_hwWrite {s0 : State} {a0 : State} {a1 : ℕ} {a2 : Bool} {a3 : ℕ × ℕ} {a4 : WriteUse} {a5 : Bool} (a0h : Good s0 a0) :
    Good s0 (hwWrite a0 a1 a2 a3 a4 a5) := by
  unfold hwWrite
  exact good_State_setWrites a0h

theorem good_retryRewrite {s0 : State} {a0 : State} {a1 : Homework} (a0h : Good s0 a0) : Good s0 (retryRewrite a0 a1) := by
  unfold retryRewrite
  refine good_ite a0h ?_
  split
  · exact good_hwWrite a0h
  · exact a0h

theorem good_startHw {s0 : State} {a0 : State} {a1 : Homework} (a0h : Good s0 a0) : Good s0 (startHw a0 a1) := by
  unfold startHw
  extract_lets -merge -useContext -underBinder +onlyGivenNames x0
  try clear_value x0
  refine good_ite a0h ?_
  split
  · exact good_ite (good_setPath (good_putHw a0h)) (good_fillReserve (good_dropHw (good_setSvc a0h)))
  · extract_lets -merge -useContext -underBinder +onlyGivenNames x4
    try clear_value x4
    refine good_ite (good_hwWrite (good_beginHw (good_setSvc a0h))) ?_
    split
    · extract_lets -merge -useContext -underBinder +onlyGivenNames x7
      have h8 : Good s0 x7 := by
        unfold x7
        refine good_setPath (good_setSvc a0h)
      try clear_value x7
      refine good_hwWrite (good_beginHw h8)
    · refine good_ite (good_ite (good_setPath a0h) a0h) ?_
      split
      · exact good_setPath (good_beginHw a0h)
      · exact good_setPath (good_putHw a0h)

theorem good_checkStuck {s0 : State} {a0 : State} {a1 : ℕ} (a0h : Good s0 a0) : Good s0 (checkStuck a0 a1) := by
  unfold checkStuck
  split
  · exact a0h
  · exact good_ite (good_foldl a0h (fun y3 z4 y3h => good_State_raise (good_stopJob y3h))) a0h

theorem good_checkStale {s0 : State} {a0 : State} {a1 : ℕ} (a0h : Good s0 a0) : Good s0 (checkStale a0 a1) := by
  unfold checkStale
  split
  · exact a0h
  · exact good_ite (good_State_each a0h (fun y3 y4 y3h => good_State_wr y3h)) a0h

theorem good_hwTick {s0 : State} {a0 : State} (a0h : Good s0 a0) : Good s0 (hwTick a0) := by
  unfold hwTick
  refine good_ite a0h ?_
  refine good_State_each a0h ?_
  intro y0 y1 y0h
  split
  · exact good_checkStuck (good_checkStale (good_retryRewrite (good_startHw y0h)))
  · exact y0h

theorem good_mapServed {s0 : State} {a0 : State} {a1 : ℕ} {a2 : Placed → Placed} (a0h : Good s0 a0) : Good s0 (mapServed a0 a1
    a2) := by
  unfold mapServed
  refine good_State_each a0h ?_
  intro y0 y1 y0h
  extract_lets -merge -useContext -underBinder +onlyGivenNames x2 x3
  try clear_value x2
  try clear_value x3
  refine good_ite (good_State_putJob y0h) y0h

theorem good_copySettings {s0 : State} {a0 : State} {a1 : ℕ} {a2 : ℕ} {a3 : Bool} (a0h : Good s0 a0) : Good s0 (copySettings a0
    a1 a2 a3) := by
  unfold copySettings
  refine good_State_each a0h ?_
  intro y0 y1 y0h
  extract_lets -merge -useContext -underBinder +onlyGivenNames x2 x3 x4 x5 x6 x7
  try clear_value x2
  try clear_value x3
  try clear_value x4
  have h8 : Good s0 x5 := by
    unfold x5
    refine good_State_wr (good_State_setWord y0h)
  try clear_value x5
  have h9 : Good s0 x6 := by
    unfold x6
    refine good_State_wr h8
  try clear_value x6
  have h10 : Good s0 x7 := by
    unfold x7
    refine good_State_each h9 (fun y11 y12 y11h => good_State_setWord y11h)
  try clear_value x7
  refine good_State_wr h10

theorem good_leaveTile {s0 : State} {a0 : State} {a1 : Homework} (a0h : Good s0 a0) : Good s0 (leaveTile a0 a1) := by
  unfold leaveTile
  extract_lets -merge -useContext -underBinder +onlyGivenNames x0 x1
  have h2 : Good s0 x0 := by
    unfold x0
    refine good_setSvc (good_State_each a0h (fun y3 y4 y3h => good_leaveTable y3h))
  try clear_value x0
  have h5 : Good s0 x1 := by
    unfold x1
    refine good_State_each h2 (fun y6 y7 y6h => good_State_wr y6h)
  try clear_value x1
  split
  · exact good_hwWrite (good_putHw h5)
  · exact good_putHw h5

theorem good_endHw {s0 : State} {a0 : State} {a1 : ℕ} (a0h : Good s0 a0) : Good s0 (endHw a0 a1) := by
  unfold endHw
  extract_lets -merge -useContext -underBinder +onlyGivenNames x0 x1
  try clear_value x0
  have h2 : Good s0 x1 := by
    unfold x1
    refine good_setPath (good_dropHw a0h)
  try clear_value x1
  refine good_showHwNow (good_State_raise h2)

theorem good_releaseCopy {s0 : State} {a0 : State} {a1 : ℕ} {a2 : Bool} (a0h : Good s0 a0) : Good s0 (releaseCopy a0 a1 a2) := by
  unfold releaseCopy
  extract_lets -merge -useContext -underBinder +onlyGivenNames x0
  have h1 : Good s0 x0 := by
    unfold x0
    refine good_State_each (good_setSvc (good_State_each a0h (fun y2 y3 y2h => good_leaveTable y2h))) (fun y4 y5 y4h =>
      good_clearUse y4h)
  try clear_value x0
  split
  · exact good_makeDue h1
  · exact good_fillReserve h1

theorem good_carryBatches {s0 : State} {a0 : State} {a1 : ℕ} {a2 : ℕ} {a3 : Bool} {a4 : Bool} (a0h : Good s0 a0) : Good s0
    (carryBatches a0 a1 a2 a3 a4) := by
  unfold carryBatches
  refine good_State_each a0h ?_
  intro y0 y1 y0h
  extract_lets -merge -useContext -underBinder +onlyGivenNames x2 x3 x4 x5 x6 x7
  try clear_value x2
  try clear_value x3
  try clear_value x4
  have h8 : Good s0 x5 := by
    unfold x5
    refine good_State_putTile y0h
  try clear_value x5
  try clear_value x6
  have h9 : Good s0 x7 := by
    unfold x7
    refine good_State_putTile h8
  try clear_value x7
  refine good_ite (good_State_wr h9) h9

theorem good_forwardAll {s0 : State} {a0 : State} {a1 : ℕ} {a2 : Bool} (a0h : Good s0 a0) : Good s0 (forwardAll a0 a1 a2) := by
  unfold forwardAll
  exact good_State_each a0h (fun y0 y1 y0h => good_forwardWaiting (good_forwardWaiting y0h))

theorem good_copyMove {s0 : State} {a0 : State} {a1 : Homework} {a2 : Bool} (a0h : Good s0 a0) : Good s0 (copyMove a0 a1 a2) := by
  unfold copyMove
  extract_lets -merge -useContext -underBinder +onlyGivenNames x0 x1 x2
  try clear_value x0
  have h3 : Good s0 x1 := by
    unfold x1
    refine good_setSvc a0h
  try clear_value x1
  have h4 : Good s0 x2 := by
    unfold x2
    refine good_State_each h3 (fun y5 y6 y5h => good_State_putOcc y5h)
  try clear_value x2
  refine good_ite ?_ ?_
  · split
    · extract_lets -merge -useContext -underBinder +onlyGivenNames x9 x10 x11
      have h12 : Good s0 x9 := by
        unfold x9
        refine good_carryBatches a0h
      try clear_value x9
      have h13 : Good s0 x10 := by
        unfold x10
        refine good_endHw (good_setSvc (good_mapServed h12))
      try clear_value x10
      have h14 : Good s0 x11 := by
        unfold x11
        refine good_State_each h13 (fun y15 y16 y15h => good_ite y15h (good_clearUse (good_State_wr y15h)))
      try clear_value x11
      refine good_ite (good_hwTick (good_fillReserve (good_forwardAll h14))) (good_forwardAll (good_leaveTile (good_mapServed
        h12)))
    · extract_lets -merge -useContext -underBinder +onlyGivenNames x18
      have h19 : Good s0 x18 := by
        unfold x18
        refine good_carryBatches a0h
      try clear_value x18
      refine good_forwardAll (good_leaveTile (good_mapServed h19))
  · refine good_ite ?_ a0h
    split
    · extract_lets -merge -useContext -underBinder +onlyGivenNames x22
      have h23 : Good s0 x22 := by
        unfold x22
        refine good_endHw (good_mapServed (good_carryBatches h4))
      try clear_value x22
      refine good_hwTick (good_releaseCopy (good_forwardAll h23))
    · extract_lets -merge -useContext -underBinder +onlyGivenNames x25
      have h26 : Good s0 x25 := by
        unfold x25
        refine good_carryBatches h4
      try clear_value x25
      refine good_hwTick (good_forwardAll (good_endHw (good_mapServed h26)))

theorem good_execCopyMove {s0 : State} {a0 : Fin 4096} {a1 : State} (a1h : Good s0 a1) : ∃ t, execCopyMove a0 a1 = .next t ∧ Good
    s0 t := by
  unfold execCopyMove
  refine ⟨_, rfl, ?_⟩
  split
  · exact a1h
  · exact good_ite (good_copyMove a1h) a1h

theorem good_moveWrite {s0 : State} {a0 : State} {a1 : ℕ} {a2 : ℕ} (a0h : Good s0 a0) : Good s0 (moveWrite a0 a1 a2) := by
  unfold moveWrite
  exact good_mapWrite a0h

theorem good_freeOthers {s0 : State} {a0 : State} {a1 : ℕ} {a2 : Bool} {a3 : ℕ} (a0h : Good s0 a0) : Good s0 (freeOthers a0 a1 a2
    a3) := by
  unfold freeOthers
  exact good_State_each a0h (fun y0 y1 y0h => good_clearUse (good_State_wr y0h))

theorem good_rescueWrite {s0 : State} {a0 : State} {a1 : WriteReq} (a0h : Good s0 a0) : Good s0 (rescueWrite a0 a1) := by
  unfold rescueWrite
  split
  · split
    · extract_lets -merge -useContext -underBinder +onlyGivenNames x4 x5 x6 x7
      try clear_value x4
      try clear_value x5
      have h8 : Good s0 x6 := by
        unfold x6
        refine good_moveWrite (good_setSvc (good_freeOthers a0h))
      try clear_value x6
      have h9 : Good s0 x7 := by
        unfold x7
        split
        · exact good_configSpan h8
        · exact h8
      try clear_value x7
      refine good_State_putJob h9
    · exact good_failLoad (good_dropWrite a0h)
  · split
    · extract_lets -merge -useContext -underBinder +onlyGivenNames x19 x20
      try clear_value x19
      have h21 : Good s0 x20 := by
        unfold x20
        refine good_moveWrite (good_setSvc (good_freeOthers a0h))
      try clear_value x20
      refine good_State_putStage h21
    · exact good_failStage (good_dropWrite a0h)
  · extract_lets -merge -useContext -underBinder +onlyGivenNames x25
    have h26 : Good s0 x25 := by
      unfold x25
      refine good_dropWrite a0h
    try clear_value x25
    split
    · exact good_hwTick (good_showHwNow (good_putHw (good_freeOthers h26)))
    · exact h26
  · extract_lets -merge -useContext -underBinder +onlyGivenNames x31
    have h32 : Good s0 x31 := by
      unfold x31
      refine good_dropWrite a0h
    try clear_value x31
    split
    · exact h32
    · split
      · extract_lets -merge -useContext -underBinder +onlyGivenNames x38
        have h39 : Good s0 x38 := by
          unfold x38
          refine good_setSvc (good_mapServed h32)
        try clear_value x38
        refine good_hwTick (good_endHw (good_freeOthers h39))
      · exact good_ite (good_hwTick (good_showHwNow (good_putHw h32))) (good_hwTick (good_endHw (good_freeOthers h32)))

theorem good_afterWithdraw {s0 : State} {a0 : State} {a1 : ℕ} (a0h : Good s0 a0) : Good s0 (afterWithdraw a0 a1) := by
  unfold afterWithdraw
  extract_lets -merge -useContext -underBinder +onlyGivenNames x0
  have h1 : Good s0 x0 := by
    unfold x0
    split
    · exact good_rescueWrite a0h
    · split
      · split
        · exact good_restage (good_setSvc (good_freeOthers a0h))
        · exact good_failStage a0h
      · split
        · exact good_dropHw a0h
        · exact a0h
  try clear_value x0
  refine good_fillReserve h1

theorem good_withdrawTile {s0 : State} {a0 : State} {a1 : ℕ} {a2 : ℕ} (a0h : Good s0 a0) : Good s0 (withdrawTile a0 a1 a2) := by
  unfold withdrawTile
  exact good_ite a0h (good_afterWithdraw (good_withdraw (good_leaveTable a0h)))

theorem good_remedyTile {s0 : State} {a0 : State} {a1 : ℕ} (a0h : Good s0 a0) : Good s0 (remedyTile a0 a1) := by
  unfold remedyTile
  refine good_ite a0h ?_
  extract_lets -merge -useContext -underBinder +onlyGivenNames x0 x1 x2 x3 x4 x5
  try clear_value x0
  try clear_value x1
  try clear_value x2
  have h6 : Good s0 x3 := by
    unfold x3
    refine good_State_each a0h (fun y7 y8 y7h => good_ite y7h (good_State_wr (good_leaveTable y7h)))
  try clear_value x3
  have h9 : Good s0 x4 := by
    unfold x4
    split
    · exact good_putHw h6
    · exact good_State_setHomework h6
  try clear_value x4
  have h13 : Good s0 x5 := by
    unfold x5
    split
    · extract_lets -merge -useContext -underBinder +onlyGivenNames x16
      have h17 : Good s0 x16 := by
        unfold x16
        refine good_forwardAll (good_mapServed h9)
      try clear_value x16
      split
      · exact good_setPath (good_putHw h17)
      · exact h17
    · exact h9
  try clear_value x5
  refine good_hwTick h13

theorem good_remedySlices {s0 : State} {a0 : State} {a1 : ℕ} (a0h : Good s0 a0) : Good s0 (remedySlices a0 a1) := by
  unfold remedySlices
  extract_lets -merge -useContext -underBinder +onlyGivenNames x0
  have h1 : Good s0 x0 := by
    unfold x0
    refine good_remedyTile a0h
  try clear_value x0
  refine good_ite (good_remedyTile h1) h1

end Sys2Proof.Machine
end

