-- ==== Sys2Proof/Laws/KeepsCalibration.lean ====
section
/-! SUPPORT. Laws/KeepsCalibration.lean: every operation of Machine/Calibration.lean keeps what Laws/Keeps.lean names. -/

namespace Sys2Proof.Machine

theorem good_calibrationSlot {s0 : State} {a0 : State} {a1 : ℕ} (a0h : Good s0 a0) : Good s0 (calibrationSlot a0 a1) := by
  unfold calibrationSlot
  extract_lets -merge -useContext -underBinder +onlyGivenNames x0
  try clear_value x0
  refine good_ite a0h (good_ite (good_State_putTile a0h) (good_ite (good_State_putTile a0h) a0h))

theorem good_execCalibrationSlot {s0 : State} {a0 : Fin 4096} {a1 : State} (a1h : Good s0 a1) : ∃ t, execCalibrationSlot a0 a1 =
    .next t ∧ Good s0 t := by
  unfold execCalibrationSlot
  exact ⟨_, rfl, good_calibrationSlot a1h⟩

theorem good_judgeTile {s0 : State} {a0 : State} {a1 : ℕ} (a0h : Good s0 a0) : Good s0 (judgeTile a0 a1) := by
  unfold judgeTile
  refine good_ite (good_ite (good_afterWithdraw a0h) a0h) ?_
  refine good_ite a0h ?_
  extract_lets -merge -useContext -underBinder +onlyGivenNames x0
  have h1 : Good s0 x0 := by
    unfold x0
    refine good_ite (good_hwTick (good_makeDue a0h)) (good_checkStuck (good_checkStale a0h))
  try clear_value x0
  refine good_ite (good_ite (good_triggerRun h1) h1) h1

theorem good_execTileProduct {s0 : State} {a0 : Fin 4096} {a1 : State} (a1h : Good s0 a1) : ∃ t, execTileProduct a0 a1 = .next t
    ∧ Good s0 t := by
  unfold execTileProduct
  refine ⟨_, rfl, ?_⟩
  extract_lets -merge -useContext -underBinder +onlyGivenNames x0
  have h1 : Good s0 x0 := by
    unfold x0
    refine good_tileProduct a1h
  try clear_value x0
  refine good_ite (good_judgeTile (good_judgeTile h1)) (good_judgeTile h1)

theorem good_spareLeg {s0 : State} {a0 : State} {a1 : ℕ} {a2 : ℕ} {a3 : ℕ} (a0h : Good s0 a0) : Good s0 (spareLeg a0 a1 a2 a3).1
    := by
  unfold spareLeg
  extract_lets -merge -useContext -underBinder +onlyGivenNames x0 x1 x2 x3 x4 x5
  try clear_value x0
  try clear_value x1
  try clear_value x2
  try clear_value x3
  have h6 : Good s0 x4 := by
    unfold x4
    refine good_State_putTile a0h
  try clear_value x4
  have h7 : Good s0 x5 := by
    unfold x5
    refine good_State_each h6 (fun y8 y9 y8h => good_State_setWord y8h)
  try clear_value x5
  split
  · exact good_mk1 (good_State_setWord h7)
  · exact good_mk1 h7

theorem good_spareDriver {s0 : State} {a0 : State} {a1 : ℕ} {a2 : ℕ} (a0h : Good s0 a0) : Good s0 (spareDriver a0 a1 a2).1 := by
  unfold spareDriver
  extract_lets -merge -useContext -underBinder +onlyGivenNames x0 x1 x2 x3 x4
  try clear_value x0
  try clear_value x1
  try clear_value x2
  have h5 : Good s0 x3 := by
    unfold x3
    refine good_State_putTile a0h
  try clear_value x3
  have h6 : Good s0 x4 := by
    unfold x4
    refine good_State_each h5 (fun y7 y8 y7h => good_State_setWord y7h)
  try clear_value x4
  split
  · exact good_mk1 (good_State_setWord h6)
  · exact good_mk1 h6

theorem good_fixLegs {s0 s : State} {t : Nat} {l : List (Nat × Nat)} (h : Good s0 s) : Good s0 (fixLegs s t l).1 := by
  induction l generalizing s with
  | nil => exact h
  | cons a l ih => exact ih (good_spareLeg h)

theorem good_fixDrivers {s0 s : State} {t : Nat} {l : List Nat} (h : Good s0 s) : Good s0 (fixDrivers s t l).1 := by
  induction l generalizing s with
  | nil => exact h
  | cons a l ih => exact ih (good_spareDriver h)

theorem good_buildTable {s0 : State} {a0 : State} {a1 : ℕ} {a2 : ℕ} (a0h : Good s0 a0) : Good s0 (buildTable a0 a1 a2) := by
  unfold buildTable
  extract_lets -merge -useContext -underBinder +onlyGivenNames x0 x1 x2 x3
  try clear_value x0
  have h4 : Good s0 x1 := by
    unfold x1
    refine good_State_each a0h (fun y5 y6 y5h => good_State_putTcal y5h)
  try clear_value x1
  have h7 : Good s0 x2 := by
    unfold x2
    refine good_State_wrSat h4
  try clear_value x2
  try clear_value x3
  refine good_State_putTile h7

theorem good_actOnFindings {s0 : State} {a0 : State} {a1 : ℕ} {a2 : Option TileFinding} (a0h : Good s0 a0) : Good s0
    (actOnFindings a0 a1 a2) := by
  unfold actOnFindings
  extract_lets -merge -useContext -underBinder +onlyGivenNames x0 x1 x2 x3 x4 x5 x6 x7 x8
  try clear_value x0
  have h9 : Good s0 x1.1 := by
    unfold x1
    refine good_fixLegs a0h
  try clear_value x1
  have h10 : Good s0 x2.1 := by
    unfold x2
    refine good_fixDrivers h9
  try clear_value x2
  have h11 : Good s0 x3 := by
    unfold x3
    exact h10
  try clear_value x3
  try clear_value x4
  try clear_value x5
  try clear_value x6
  try clear_value x7
  have h12 : Good s0 x8 := by
    unfold x8
    refine good_State_putTile h11
  try clear_value x8
  refine good_ite (good_withdrawTile h12) (good_ite (good_withdrawTile h12) (good_ite (good_withdrawTile h12) (good_ite
    (good_makeDue h12) (good_ite (good_makeDue h12) (good_tableBuilt h12)))))

theorem good_refuseWrite {s0 : State} {a0 : State} {a1 : WriteReq} (a0h : Good s0 a0) : Good s0 (refuseWrite a0 a1) := by
  unfold refuseWrite
  extract_lets -merge -useContext -underBinder +onlyGivenNames x0 x1 x2
  have h3 : Good s0 x0 := by
    unfold x0
    refine good_dropWrite (good_State_raise a0h)
  try clear_value x0
  try clear_value x1
  have h4 : Good s0 x2 := by
    unfold x2
    refine good_State_putSlot h3
  try clear_value x2
  split
  · exact good_failLoad h4
  · exact good_failStage h4
  · split
    · exact good_showHwNow (good_releaseCopy (good_putHw h4))
    · exact h4
  · exact h4

theorem good_prepareColumns {s0 : State} {a0 : State} {a1 : WriteReq} (a0h : Good s0 a0) : Good s0 (prepareColumns a0 a1) := by
  unfold prepareColumns
  split
  · exact a0h
  · extract_lets -merge -useContext -underBinder +onlyGivenNames x3
    have h4 : Good s0 x3 := by
      unfold x3
      refine good_putHw a0h
    try clear_value x3
    refine good_State_each h4 ?_
    intro y5 y6 y5h
    split
    · rename_i y8 e7
      have y8h : Good s0 y8 := by
        exact good_giveSpares y5h e7
      exact y8h
    · exact good_withdrawTile y5h

theorem good_beginColumn {s0 : State} {a0 : State} {a1 : WriteReq} (a0h : Good s0 a0) : Good s0 (beginColumn a0 a1) := by
  unfold beginColumn
  exact good_ite (good_State_raise (good_setSvc a0h)) a0h

theorem good_writeStart {s0 : State} {a0 : State} {a1 : ℕ} (a0h : Good s0 a0) : Good s0 (writeStart a0 a1) := by
  unfold writeStart
  split
  · exact a0h
  · split
    · exact good_refuseWrite a0h
    · refine good_ite (good_refuseWrite a0h) ?_
      extract_lets -merge -useContext -underBinder +onlyGivenNames x6
      have h7 : Good s0 x6 := by
        unfold x6
        refine good_ite (good_prepareColumns a0h) a0h
      try clear_value x6
      refine good_showHwNow (good_mapWrite (good_beginColumn h7))

theorem good_execWriteVerifyStart {s0 : State} {a0 : Fin 8} {a1 : State} (a1h : Good s0 a1) : ∃ t, execWriteVerifyStart a0 a1 =
    .next t ∧ Good s0 t := by
  unfold execWriteVerifyStart
  exact ⟨_, rfl, good_writeStart a1h⟩

theorem good_recordWrite {s0 : State} {a0 : State} {a1 : ℕ} {a2 : Cells} {a3 : List Sys2Proof.Byte} {a4 : WriteMeas} (a0h : Good
    s0 a0) : Good s0 (recordWrite a0 a1 a2 a3 a4) := by
  unfold recordWrite
  extract_lets -merge -useContext -underBinder +onlyGivenNames x0 x1 x2 x3 x4
  have h5 : Good s0 x0 := by
    unfold x0
    refine good_State_bump (good_State_putCells a0h)
  try clear_value x0
  have h6 : Good s0 x1 := by
    unfold x1
    refine good_State_wr (good_State_wr h5)
  try clear_value x1
  have h7 : Good s0 x2 := by
    unfold x2
    refine good_State_putOcc h6
  try clear_value x2
  try clear_value x3
  try clear_value x4
  refine good_estimate (good_State_putTile h7)

theorem good_dueColumn {s0 : State} {a0 : State} {a1 : WriteReq} (a0h : Good s0 a0) : Good s0 (dueColumn a0 a1) := by
  unfold dueColumn
  split
  · exact good_mapWrite a0h
  · exact good_mapWrite a0h
  · exact good_mapWrite (good_ite a0h (good_setSvc a0h))
  · exact good_mapWrite (good_ite a0h (good_setSvc a0h))

theorem good_afterWrite {s0 : State} {a0 : State} {a1 : WriteReq} {a2 : List (ℕ × List ℕ)} (a0h : Good s0 a0) : Good s0
    (afterWrite a0 a1 a2) := by
  unfold afterWrite
  extract_lets -merge -useContext -underBinder +onlyGivenNames x0 x1
  have h2 : Good s0 x0 := by
    unfold x0
    refine good_State_each a0h (fun y3 y4 y3h => good_State_putTile y3h)
  try clear_value x0
  try clear_value x1
  refine good_ite (good_mapWrite h2) ?_
  refine good_ite (good_State_each h2 (fun y5 y6 y5h => good_withdrawTile y5h)) ?_
  refine good_dueColumn ?_
  refine good_State_each h2 ?_
  intro y7 y8 y7h
  split
  · rename_i y10 e9
    have y10h : Good s0 y10 := by
      exact good_giveSpares (good_State_wr y7h) e9
    exact y10h
  · exact y7h

theorem good_writeDone {s0 : State} {a0 : State} {a1 : ℕ} {a2 : WriteMeas} {a3 : WriteMeas} (a0h : Good s0 a0) : Good s0
    (writeDone a0 a1 a2 a3) := by
  unfold writeDone
  split
  · exact a0h
  · split
    · exact good_refuseWrite a0h
    · extract_lets -merge -useContext -underBinder +onlyGivenNames x6 x7 x8
      have h9 : Good s0 x6 := by
        unfold x6
        refine good_recordWrite a0h
      try clear_value x6
      have h10 : Good s0 x7 := by
        unfold x7
        refine good_ite (good_recordWrite h9) h9
      try clear_value x7
      have h11 : Good s0 x8 := by
        unfold x8
        split
        · exact good_State_putJob h10
        · exact h10
        · exact h10
        · exact h10
      try clear_value x8
      refine good_afterWrite h11

theorem good_execWriteVerifyDone {s0 : State} {a0 : Fin 4096} {a1 : WriteMeas} {a2 : WriteMeas} {a3 : State} (a3h : Good s0 a3) :
    ∃ t, execWriteVerifyDone a0 a1 a2 a3 = .next t ∧ Good s0 t := by
  unfold execWriteVerifyDone
  exact ⟨_, rfl, good_writeDone a3h⟩

theorem good_beginIdleRoll {s0 : State} {a0 : State} {a1 : WriteReq} (a0h : Good s0 a0) : Good s0 (beginIdleRoll a0 a1) := by
  unfold beginIdleRoll
  extract_lets -merge -useContext -underBinder +onlyGivenNames x0
  have h1 : Good s0 x0 := by
    unfold x0
    refine good_mapWrite a0h
  try clear_value x0
  refine good_ite h1 (good_State_each h1 (fun y2 y3 y2h => good_beginTile y2h))

theorem good_endColumn {s0 : State} {a0 : State} {a1 : WriteReq} (a0h : Good s0 a0) : Good s0 (endColumn a0 a1) := by
  unfold endColumn
  refine good_ite a0h ?_
  extract_lets -merge -useContext -underBinder +onlyGivenNames x0 x1
  try clear_value x0
  have h2 : Good s0 x1 := by
    unfold x1
    refine good_mapWrite (good_setSvc a0h)
  try clear_value x1
  refine good_showHwNow (good_State_raise h2)

theorem good_writeEnds {s0 : State} {a0 : State} {a1 : WriteReq} (a0h : Good s0 a0) : Good s0 (writeEnds a0 a1) := by
  unfold writeEnds
  extract_lets -merge -useContext -underBinder +onlyGivenNames x0
  have h1 : Good s0 x0 := by
    unfold x0
    refine good_endColumn a0h
  try clear_value x0
  split
  · exact good_ite (good_loadProgress (good_dropWrite h1)) (good_dropWrite h1)
  · extract_lets -merge -useContext -underBinder +onlyGivenNames x7 x8 x9 x10
    have h11 : Good s0 x7 := by
      unfold x7
      refine good_dropWrite h1
    try clear_value x7
    try clear_value x8
    try clear_value x9
    have h12 : Good s0 x10 := by
      unfold x10
      split
      · exact good_configSpan h11
      · exact h11
    try clear_value x10
    refine good_copyReady h12
  · extract_lets -merge -useContext -underBinder +onlyGivenNames x21
    have h22 : Good s0 x21 := by
      unfold x21
      refine good_copySettings (good_dropWrite h1)
    try clear_value x21
    split
    · exact good_putHw h22
    · exact h22
  · split
    · exact good_dropWrite h1
    · extract_lets -merge -useContext -underBinder +onlyGivenNames x30 x31 x32
      have h33 : Good s0 x30 := by
        unfold x30
        refine good_State_each h1 (fun y34 y35 y34h => good_estimate y34h)
      try clear_value x30
      have h36 : Good s0 x31 := by
        unfold x31
        refine good_dropWrite h33
      try clear_value x31
      have h37 : Good s0 x32 := by
        unfold x32
        refine good_State_each h36 (fun y38 y39 y38h => good_State_putOcc y38h)
      try clear_value x32
      refine good_ite (good_ite (good_withdrawTile h33) (good_mapWrite (good_putHw h33))) (good_ite (good_putHw h36) (good_hwTick
        (good_fillReserve (good_endHw (good_setSvc h37)))))

theorem good_countReadback {s0 : State} {a0 : State} {a1 : ℕ} {a2 : Bool} {a3 : ℕ} (a0h : Good s0 a0) : Good s0 (countReadback a0
    a1 a2 a3) := by
  unfold countReadback
  extract_lets -merge -useContext -underBinder +onlyGivenNames x0 x1 x2
  try clear_value x0
  have h3 : Good s0 x1 := by
    unfold x1
    refine good_State_putTile (good_State_bump a0h)
  try clear_value x1
  have h4 : Good s0 x2 := by
    unfold x2
    refine good_State_wr (good_State_bump h3)
  try clear_value x2
  refine good_ite (good_State_raise (good_State_wrSat h4)) h3

theorem good_readbackDone {s0 : State} {a0 : State} {a1 : ℕ} {a2 a3 : List CellRead} (a0h : Good s0 a0) : Good s0 (readbackDone a0
    a1 a2 a3) := by
  unfold readbackDone
  split
  · refine good_ite a0h ?_
    extract_lets -merge -useContext -underBinder +onlyGivenNames x4 x5 x6 x7 x8 x9 x10
    try clear_value x4
    try clear_value x5
    try clear_value x6
    try clear_value x7
    have h11 : Good s0 x8 := by
      unfold x8
      refine good_countReadback a0h
    try clear_value x8
    have h12 : Good s0 x9 := by
      unfold x9
      refine good_ite (good_countReadback h11) h11
    try clear_value x9
    have h13 : Good s0 x10 := by
      unfold x10
      refine good_ite (good_dropWrite h12) (good_beginIdleRoll h12)
    try clear_value x10
    refine good_ite (good_ite (good_withdrawTile h12) (good_mapWrite h12)) ?_
    split
    · exact good_loadProgress h13
    · exact h13
    · exact h13
    · exact h13
  · extract_lets -merge -useContext -underBinder +onlyGivenNames x23 x24 x25 x26 x27 x28
    try clear_value x23
    try clear_value x24
    try clear_value x25
    try clear_value x26
    try clear_value x27
    have h29 : Good s0 x28 := by
      unfold x28
      refine good_countReadback (good_State_putQuad a0h)
    try clear_value x28
    refine good_ite a0h (good_ite (good_hwTick (good_makeDue h29)) h29)

theorem good_execReadbackDone {s0 : State} {a0 : Fin 4096} {a1 a3 : List CellRead} {a2 : State} (a2h : Good s0 a2) : ∃ t,
    execReadbackDone a0 a1 a3 a2 = .next t ∧ Good s0 t := by
  unfold execReadbackDone
  exact ⟨_, rfl, good_readbackDone a2h⟩

theorem good_execPeriodicReadback {s0 : State} {a0 : State} (a0h : Good s0 a0) : ∃ t, execPeriodicReadback a0 = .next t ∧ Good s0
    t := by
  unfold execPeriodicReadback
  refine ⟨_, rfl, ?_⟩
  extract_lets -merge -useContext -underBinder +onlyGivenNames x0
  try clear_value x0
  refine good_ite ?_ a0h
  refine good_State_each (good_State_setReadbackAt a0h) ?_
  intro y1 y2 y1h
  extract_lets -merge -useContext -underBinder +onlyGivenNames x3
  try clear_value x3
  refine good_ite (good_State_putQuad y1h) y1h

theorem good_markRolled {s0 : State} {a0 : State} {a1 : List ℕ} {a2 : ℕ} {a3 : ℕ} (a0h : Good s0 a0) : Good s0 (markRolled a0 a1
    a2 a3) := by
  unfold markRolled
  exact good_State_setWrites a0h

theorem good_buildRound {s0 : State} {a0 : State} {a1 : ℕ} {a2 : List TileFinding} (a0h : Good s0 a0) : Good s0 (buildRound a0 a1
    a2) := by
  unfold buildRound
  extract_lets -merge -useContext -underBinder +onlyGivenNames x0 x1
  try clear_value x0
  try clear_value x1
  refine good_ite a0h ?_
  refine good_ite (good_checkRunEnd a0h) ?_
  split
  · rename_i y3 y4 e2
    have y4h : Good s0 y4 := by
      exact (congrArg (fun p => Good s0 p.2) e2).mp (good_State_draw a0h)
    extract_lets -merge -useContext -underBinder +onlyGivenNames x5 x6 x7 x8 x9 x10 x11
    have h12 : Good s0 x5 := by
      unfold x5
      refine good_State_putQuad y4h
    try clear_value x5
    try clear_value x6
    have h13 : Good s0 x7 := by
      unfold x7
      refine good_State_each h12 (fun y14 y15 y14h => good_buildTable y14h)
    try clear_value x7
    try clear_value x8
    have h16 : Good s0 x9 := by
      unfold x9
      refine good_ite (good_beginRound h13) (good_State_putQuad h13)
    try clear_value x9
    have h17 : Good s0 x10 := by
      unfold x10
      refine good_State_each (good_markRolled h16) (fun y18 y19 y18h => good_actOnFindings y18h)
    try clear_value x10
    have h20 : Good s0 x11 := by
      unfold x11
      refine good_State_each h17 (fun y21 y22 y21h => good_writeEnds y21h)
    try clear_value x11
    refine good_hwTick (good_checkRunEnd h20)

theorem good_buildIdle {s0 : State} {a0 : State} {a1 : ℕ} {a2 : List TileFinding} (a0h : Good s0 a0) : Good s0 (buildIdle a0 a1
    a2) := by
  unfold buildIdle
  split
  · exact a0h
  · refine good_ite a0h ?_
    split
    · rename_i y4 y5 e3
      have y5h : Good s0 y5 := by
        exact (congrArg (fun p => Good s0 p.2) e3).mp (good_State_draw a0h)
      extract_lets -merge -useContext -underBinder +onlyGivenNames x6 x7 x8
      have h9 : Good s0 x6 := by
        unfold x6
        refine good_State_each y5h (fun y10 y11 y10h => good_buildTable y10h)
      try clear_value x6
      have h12 : Good s0 x7 := by
        unfold x7
        refine good_mapWrite h9
      try clear_value x7
      have h13 : Good s0 x8 := by
        unfold x8
        refine good_State_each h12 (fun y14 y15 y14h => good_actOnFindings y14h)
      try clear_value x8
      split
      · exact good_writeEnds h13
      · exact h13

theorem good_execRoundBuild {s0 : State} {a0 : Fin 8} {a1 : Option (Fin 4096)} {a2 : List TileFinding} {a3 : State} (a3h : Good
    s0 a3) : ∃ t, execRoundBuild a0 a1 a2 a3 = .next t ∧ Good s0 t := by
  unfold execRoundBuild
  refine ⟨_, rfl, ?_⟩
  split
  · exact good_buildIdle a3h
  · exact good_buildRound a3h

theorem good_execCalAgeTrigger {s0 : State} {a0 : Fin 8} {a1 : State} (a1h : Good s0 a1) : ∃ t, execCalAgeTrigger a0 a1 = .next t
    ∧ Good s0 t := by
  unfold execCalAgeTrigger
  refine ⟨_, rfl, ?_⟩
  extract_lets -merge -useContext -underBinder +onlyGivenNames x0
  try clear_value x0
  refine good_ite (good_triggerRun a1h) a1h

theorem good_execRunStart {s0 : State} {a0 : Fin 8} {a1 : State} (a1h : Good s0 a1) : ∃ t, execRunStart a0 a1 = .next t ∧ Good s0
    t := by
  unfold execRunStart
  exact ⟨_, rfl, good_triggerRun a1h⟩

end Sys2Proof.Machine
end

