-- ==== Sys2Proof/Laws/KeepsFirstSweep.lean ====
section
/-! SUPPORT. Laws/KeepsFirstSweep.lean: every operation of Machine/FirstSweep.lean keeps what Laws/Keeps.lean names. -/

namespace Sys2Proof.Machine

theorem good_startFirst {s0 : State} {a0 : State} {a1 : ℕ} (a0h : Good s0 a0) : Good s0 (startFirst a0 a1) := by
  unfold startFirst
  refine good_ite a0h ?_
  extract_lets -merge -useContext -underBinder +onlyGivenNames x0
  have h1 : Good s0 x0 := by
    unfold x0
    refine good_State_wr (good_State_setFirstForm a0h)
  try clear_value x0
  refine good_State_each h1 (fun y2 y3 y2h => good_State_putQuad (good_State_wr (good_State_wr (good_State_wr y2h))))

theorem good_clearMaps {s0 : State} {a0 : State} {a1 : ℕ} (a0h : Good s0 a0) : Good s0 (clearMaps a0 a1) := by
  unfold clearMaps
  extract_lets -merge -useContext -underBinder +onlyGivenNames x0 x1 x2 x3
  have h4 : Good s0 x0 := by
    unfold x0
    refine good_State_each a0h (fun y5 y6 y5h => good_State_setWord y5h)
  try clear_value x0
  have h7 : Good s0 x1 := by
    unfold x1
    refine good_State_setWord h4
  try clear_value x1
  have h8 : Good s0 x2 := by
    unfold x2
    refine good_State_each h7 (fun y9 y10 y9h => good_State_setWord y9h)
  try clear_value x2
  try clear_value x3
  refine good_State_putTile h8

theorem good_firstTile {s0 : State} {a0 : State} {a1 : ℕ} {a2 : ℕ} {a3 : ℕ} {a4 : Option TileFinding} (a0h : Good s0 a0) : Good
    s0 (firstTile a0 a1 a2 a3 a4) := by
  unfold firstTile
  extract_lets -merge -useContext -underBinder +onlyGivenNames x0 x1 x2 x3
  have h4 : Good s0 x0 := by
    unfold x0
    refine good_ite (good_clearMaps a0h) a0h
  try clear_value x0
  have h5 : Good s0 x1 := by
    unfold x1
    refine good_buildTable h4
  try clear_value x1
  try clear_value x2
  have h6 : Good s0 x3 := by
    unfold x3
    refine good_estimate (good_State_putTile h5)
  try clear_value x3
  refine good_actOnFindings (good_beginTile h6)

theorem good_firstRewrite {s0 : State} {a0 : State} {a1 : ℕ} (a0h : Good s0 a0) : Good s0 (firstRewrite a0 a1) := by
  unfold firstRewrite
  split
  · exact a0h
  · extract_lets -merge -useContext -underBinder +onlyGivenNames x4 x5 x6 x7
    have h8 : Good s0 x4 := by
      unfold x4
      refine good_State_each a0h (fun y9 y10 y9h => good_State_wr y9h)
    try clear_value x4
    have h11 : Good s0 x5 := by
      unfold x5
      refine good_setSvc h8
    try clear_value x5
    try clear_value x6
    have h12 : Good s0 x7 := by
      unfold x7
      refine good_State_setHomework (good_dropHw h11)
    try clear_value x7
    refine good_hwWrite (good_beginHw h12)

theorem good_endFirst {s0 : State} {a0 : State} (a0h : Good s0 a0) : Good s0 (endFirst a0) := by
  unfold endFirst
  extract_lets -merge -useContext -underBinder +onlyGivenNames x0 x1 x2
  have h3 : Good s0 x0 := by
    unfold x0
    refine good_State_wr (good_State_wr (good_State_setFirstForm a0h))
  try clear_value x0
  have h4 : Good s0 x1 := by
    unfold x1
    refine good_State_each h3 (fun y5 y6 y5h => good_endRun y5h)
  try clear_value x1
  have h7 : Good s0 x2 := by
    unfold x2
    refine good_State_raise h4
  try clear_value x2
  refine good_hwTick (good_State_each h7 (fun y8 y9 y8h => good_fillReserve y8h))

theorem good_firstSweepDone {s0 : State} {a0 : State} {a1 : List TileFinding} (a0h : Good s0 a0) : Good s0 (firstSweepDone a0 a1)
    := by
  unfold firstSweepDone
  extract_lets -merge -useContext -underBinder +onlyGivenNames x0
  try clear_value x0
  refine good_ite ?_ (good_ite (good_endFirst a0h) a0h)
  split
  · rename_i y2 y3 e1
    have y3h : Good s0 y3 := by
      exact (congrArg (fun p => Good s0 p.2) e1).mp (good_State_draw a0h)
    extract_lets -merge -useContext -underBinder +onlyGivenNames x4 x5
    have h6 : Good s0 x4 := by
      unfold x4
      refine good_State_each y3h (fun y7 y8 y7h => good_ite y7h (good_firstTile y7h))
    try clear_value x4
    have h9 : Good s0 x5 := by
      unfold x5
      refine good_State_setFirstForm (good_State_each h6 (fun y10 y11 y10h => good_firstRewrite y10h))
    try clear_value x5
    refine good_ite h9 (good_endFirst h9)

end Sys2Proof.Machine
end

