-- ==== Sys2Proof/Laws/KeepsPathOrder.lean ====
section
/-! SUPPORT. Laws/KeepsPathOrder.lean: every operation of Machine/PathOrder.lean keeps what Laws/Keeps.lean names. -/

namespace Sys2Proof.Machine

theorem good_assemble {s0 : State} {a0 : State} {a1 : Token} (a0h : Good s0 a0) : Good s0 (assemble a0 a1) := by
  unfold assemble
  extract_lets -merge -useContext -underBinder +onlyGivenNames x0
  try clear_value x0
  refine good_ite a0h ?_
  split
  · extract_lets -merge -useContext -underBinder +onlyGivenNames x4 x5 x6 x7 x8
    try clear_value x4
    try clear_value x5
    try clear_value x6
    try clear_value x7
    try clear_value x8
    refine good_State_setArrived (good_State_each a0h (fun y9 y10 y9h => good_pitchTake y9h))
  · exact good_State_each a0h (fun y14 y15 y14h => good_pitchTake y14h)

theorem good_resultArrival {s0 : State} {a0 : State} {a1 : LinkErr} (a0h : Good s0 a0) : Good s0 (resultArrival a0 a1) := by
  unfold resultArrival
  split
  · exact a0h
  · extract_lets -merge -useContext -underBinder +onlyGivenNames x3 x4 x5 x6
    try clear_value x3
    try clear_value x4
    have h7 : Good s0 x5.1 := by
      unfold x5
      refine good_linkCheck a0h
    try clear_value x5
    have h8 : Good s0 x6 := by
      unfold x6
      exact h7
    try clear_value x6
    refine good_ite (good_pitchEnter h7) (good_ite (good_detectFault (good_State_raise (good_pitchTake h8))) (good_ite
      (good_State_bump (good_pitchTake h8)) (good_ite (good_pitchTake h8) (good_assemble (good_pitchPut (good_pitchTake h8))))))

theorem good_execResultArrival {s0 : State} {a0 : LinkErr} {a1 : State} (a1h : Good s0 a1) : ∃ t, execResultArrival a0 a1 = .next
    t ∧ Good s0 t := by
  unfold execResultArrival
  exact ⟨_, rfl, good_resultArrival a1h⟩

theorem good_hubOperators {s0 : State} {a0 : State} {a1 : Result} (a0h : Good s0 a0) : Good s0 (hubOperators a0 a1) := by
  unfold hubOperators
  split
  · exact a0h
  · extract_lets -merge -useContext -underBinder +onlyGivenNames x3
    have h4 : Good s0 x3 := by
      unfold x3
      split
      · exact a0h
      · exact good_State_each a0h (fun y8 y9 y8h => good_markSchedule y8h)
    try clear_value x3
    split
    · exact good_outAout h4
    · exact h4
    · exact h4

theorem good_emitResult {s0 : State} {a0 : State} {a1 : Result} (a0h : Good s0 a0) : Good s0 (emitResult a0 a1) := by
  unfold emitResult
  extract_lets -merge -useContext -underBinder +onlyGivenNames x0 x1
  have h2 : Good s0 x0 := by
    unfold x0
    refine good_State_setArrived a0h
  try clear_value x0
  have h3 : Good s0 x1 := by
    unfold x1
    refine good_seatArrive (good_hubOperators h2)
  try clear_value x1
  split
  · exact h3
  · extract_lets -merge -useContext -underBinder +onlyGivenNames x7
    try clear_value x7
    refine good_checkBatch (good_putBatch h3)

theorem good_pathOrderEmit {s0 : State} {a0 : State} {a1 : ℕ} {a2 : ℕ} {a3 : ℕ} (a0h : Good s0 a0) : Good s0 (pathOrderEmit a0 a1
    a2 a3) := by
  unfold pathOrderEmit
  split
  · exact a0h
  · exact good_ite a0h (good_emitResult a0h)

theorem good_execPathOrderEmit {s0 : State} {a0 : Fin 16} {a1 : Fin 8} {a2 : Fin 48} {a3 : State} (a3h : Good s0 a3) : ∃ t,
    execPathOrderEmit a0 a1 a2 a3 = .next t ∧ Good s0 t := by
  unfold execPathOrderEmit
  exact ⟨_, rfl, good_pathOrderEmit a3h⟩

end Sys2Proof.Machine
end

