-- ==== Sys2Proof/Laws/KeepsCircuits.lean ====
section
/-! SUPPORT. Laws/KeepsCircuits.lean: every operation of Machine/Circuits.lean keeps what Laws/Keeps.lean names. -/

namespace Sys2Proof.Machine

theorem good_State_putLane {s0 : State} {a0 : State} {a1 : ℕ} {a2 : ℕ} {a3 : Lane} (a0h : Good s0 a0) : Good s0 (State.putLane a0
    a1 a2 a3) := by
  unfold State.putLane
  refine good_State_setLanes a0h (fun c => ?_)
  refine spWf_spSet _ _ _ _ ?_
  refine Good.at_lanes (s0 := s0) ?_ c
  exact a0h

theorem good_State_putHalf {s0 : State} {a0 : State} {a1 : ℕ} {a2 : Half} (a0h : Good s0 a0) : Good s0 (State.putHalf a0 a1 a2)
    := by
  unfold State.putHalf
  refine good_State_setHalves a0h (fun c => ?_)
  refine spWf_spSet _ _ _ _ ?_
  refine Good.at_halves (s0 := s0) ?_ c
  exact a0h

theorem good_State_putDir {s0 : State} {a0 : State} {a1 : ℕ} {a2 : BridgeDir} (a0h : Good s0 a0) : Good s0 (State.putDir a0 a1
    a2) := by
  unfold State.putDir
  refine good_State_setDirs a0h (fun c => ?_)
  refine spWf_spSet _ _ _ _ ?_
  refine Good.at_dirs (s0 := s0) ?_ c
  exact a0h

theorem good_State_putExt {s0 : State} {a0 : State} {a1 : ℕ} {a2 : ExtPort} (a0h : Good s0 a0) : Good s0 (State.putExt a0 a1 a2)
    := by
  unfold State.putExt
  refine good_State_setExts a0h (fun c => ?_)
  refine spWf_spSet _ _ _ _ ?_
  refine Good.at_exts (s0 := s0) ?_ c
  exact a0h

end Sys2Proof.Machine
end

