-- ==== Sys2Proof/Laws/KeepsMeshJobs.lean ====
section
/-! SUPPORT. Laws/KeepsMeshJobs.lean: every operation of Machine/MeshJobs.lean keeps what Laws/Keeps.lean names. -/

namespace Sys2Proof.Machine

theorem good_releaseHolds {s0 : State} {a0 : State} {a1 : ℕ} (a0h : Good s0 a0) : Good s0 (releaseHolds a0 a1) := by
  unfold releaseHolds
  extract_lets -merge -useContext -underBinder +onlyGivenNames x0 x1
  try clear_value x0
  try clear_value x1
  refine good_ite (good_refreshWait (good_State_putJob a0h)) a0h

theorem good_setGrade {s0 : State} {a0 : State} {a1 : ℕ} {a2 : ℕ} {a3 : ℕ} (a0h : Good s0 a0) : Good s0 (setGrade a0 a1 a2 a3) :=
    by
  unfold setGrade
  exact good_releaseHolds (good_State_respond (good_State_putJob a0h))

theorem good_gradeStart {s0 : State} {a0 : State} {a1 : ℕ} {a2 : ℕ} {a3 : ℕ} (a0h : Good s0 a0) : Good s0 (gradeStart a0 a1 a2
    a3) := by
  unfold gradeStart
  extract_lets -merge -useContext -underBinder +onlyGivenNames x0 x1 x2 x3 x4
  try clear_value x0
  try clear_value x1
  have h5 : Good s0 x2 := by
    unfold x2
    refine good_State_each a0h (fun y6 y7 y6h => good_ite (good_abandonChange y6h) (good_startChange y6h))
  try clear_value x2
  try clear_value x3
  try clear_value x4
  refine good_ite (good_setGrade a0h) (good_ite a0h (good_State_putJob h5))

theorem good_gradeProgress {s0 : State} {a0 : State} {a1 : ℕ} (a0h : Good s0 a0) : Good s0 (gradeProgress a0 a1) := by
  unfold gradeProgress
  split
  · exact a0h
  · extract_lets -merge -useContext -underBinder +onlyGivenNames x3 x4
    try clear_value x3
    try clear_value x4
    refine good_ite (good_gradeStart a0h) (good_ite (good_setGrade a0h) a0h)

theorem good_stagedMatrix {s0 : State} {a0 : State} {a1 : ℕ} (a0h : Good s0 a0) : Good s0 (stagedMatrix a0 a1) := by
  unfold stagedMatrix
  split
  · exact a0h
  · extract_lets -merge -useContext -underBinder +onlyGivenNames x3 x4 x5
    try clear_value x3
    try clear_value x4
    try clear_value x5
    split
    · refine good_ite ?_ a0h
      extract_lets -merge -useContext -underBinder +onlyGivenNames x10 x11
      try clear_value x10
      try clear_value x11
      refine good_startChange a0h
    · exact a0h

theorem good_gradeFails {s0 : State} {a0 : State} {a1 : ℕ} (a0h : Good s0 a0) : Good s0 (gradeFails a0 a1) := by
  unfold gradeFails
  extract_lets -merge -useContext -underBinder +onlyGivenNames x0 x1
  have h2 : Good s0 x0 := by
    unfold x0
    refine good_State_each a0h (fun y3 y4 y3h => good_ite (good_abandonChange y3h) y3h)
  try clear_value x0
  have h5 : Good s0 x1 := by
    unfold x1
    refine good_State_each (good_releaseHolds h2) (fun y6 y7 y6h => good_stagedMatrix y6h)
  try clear_value x1
  split
  · exact good_State_respond h5
  · exact h5

theorem good_meshServes {s0 : State} {a0 : State} {a1 : ℕ} (a0h : Good s0 a0) : Good s0 (meshServes a0 a1) := by
  unfold meshServes
  split
  · exact a0h
  · extract_lets -merge -useContext -underBinder +onlyGivenNames x3 x4 x5
    try clear_value x3
    try clear_value x4
    have h6 : Good s0 x5 := by
      unfold x5
      refine good_State_putJob a0h
    try clear_value x5
    refine good_stagedMatrix (good_gradeProgress (good_releaseHolds (good_loadProgress (good_State_wr h6))))

theorem good_afterLoss {s0 : State} {a0 : State} {a1 : ℕ} (a0h : Good s0 a0) : Good s0 (afterLoss a0 a1) := by
  unfold afterLoss
  split
  · exact a0h
  · extract_lets -merge -useContext -underBinder +onlyGivenNames x3 x4 x5 x6 x7
    try clear_value x3
    try clear_value x4
    have h8 : Good s0 x5 := by
      unfold x5
      refine good_ite a0h (good_State_wr (good_State_putJob a0h))
    try clear_value x5
    try clear_value x6
    have h9 : Good s0 x7 := by
      unfold x7
      refine good_State_putStage h8
    try clear_value x7
    refine good_ite (good_failLoad a0h) (good_gradeProgress (good_stageProgress (good_releaseHolds (good_ite h9 (good_seekReturn
      h9)))))

theorem good_meshLost {s0 : State} {a0 : State} {a1 : ℕ} {a2 : OosCause} (a0h : Good s0 a0) : Good s0 (meshLost a0 a1 a2) := by
  unfold meshLost
  exact good_ite a0h (good_afterLoss (good_meshFail a0h))

theorem good_execReferenceLoss {s0 : State} {a0 : Fin 4} {a1 : State} (a1h : Good s0 a1) : ∃ t, execReferenceLoss a0 a1 = .next t
    ∧ Good s0 t := by
  unfold execReferenceLoss
  exact ⟨_, rfl, good_meshLost (good_State_raise (good_State_wr a1h))⟩

theorem good_execHeaterFault {s0 : State} {a0 : Fin 4} {a1 : State} (a1h : Good s0 a1) : ∃ t, execHeaterFault a0 a1 = .next t ∧
    Good s0 t := by
  unfold execHeaterFault
  exact ⟨_, rfl, good_meshLost (good_State_raise a1h)⟩

theorem good_execSettleLate {s0 : State} {a0 : Fin 4} {a1 : State} (a1h : Good s0 a1) : ∃ t, execSettleLate a0 a1 = .next t ∧
    Good s0 t := by
  unfold execSettleLate
  exact ⟨_, rfl, good_ite (good_meshLost (good_State_raise a1h)) a1h⟩

theorem good_residEstimate {s0 : State} {a0 : State} {a1 : ℕ} {a2 : ℕ} (a0h : Good s0 a0) : Good s0 (residEstimate a0 a1 a2) := by
  unfold residEstimate
  extract_lets -merge -useContext -underBinder +onlyGivenNames x0
  have h1 : Good s0 x0 := by
    unfold x0
    refine good_State_wrSat a0h
  try clear_value x0
  refine good_ite (good_meshLost (good_State_raise h1)) (good_ite (good_startTrim h1) h1)

theorem good_execPilotPass {s0 : State} {a0 : Fin 4} {a1 : Fin 65536} {a2 : Option (Fin 512)} {a3 : State} (a3h : Good s0 a3) : ∃
    t, execPilotPass a0 a1 a2 a3 = .next t ∧ Good s0 t := by
  unfold execPilotPass
  refine ⟨_, rfl, ?_⟩
  refine good_ite a3h ?_
  extract_lets -merge -useContext -underBinder +onlyGivenNames x0 x1 x2 x3
  have h4 : Good s0 x0 := by
    unfold x0
    refine good_State_bump a3h
  try clear_value x0
  try clear_value x1
  try clear_value x2
  have h5 : Good s0 x3 := by
    unfold x3
    refine good_State_putChip h4
  try clear_value x3
  split
  · exact good_meshLost (good_State_raise h5)
  · exact good_ite h5 (good_residEstimate h5)

end Sys2Proof.Machine
end

