-- ==== Sys2Proof/Laws/KeepsRestart.lean ====
section
/-! SUPPORT. Laws/KeepsRestart.lean: every operation of Machine/Restart.lean keeps what Laws/Keeps.lean names. -/

namespace Sys2Proof.Machine

theorem good_flushPathOrder {s0 : State} {a0 : State} {a1 : ℕ} (a0h : Good s0 a0) : Good s0 (flushPathOrder a0 a1) := by
  unfold flushPathOrder
  extract_lets -merge -useContext -underBinder +onlyGivenNames x0 x1 x2 x3
  try clear_value x0
  try clear_value x1
  have h4 : Good s0 x2 := by
    unfold x2
    refine good_State_each a0h ?_
    intro y5 y6 y5h
    extract_lets -merge -useContext -underBinder +onlyGivenNames x7 x8
    try clear_value x7
    try clear_value x8
    refine good_State_each y5h ?_
    intro y9 y10 y9h
    split
    · exact good_seatArrive (good_hubOperators (good_State_setArrived y9h))
    · exact good_addMiss y9h
  try clear_value x2
  have h14 : Good s0 x3 := by
    unfold x3
    refine good_State_setArrived h4
  try clear_value x3
  refine good_State_setBatches h14

theorem good_strikeTiles {s0 : State} {a0 : State} {a1 : ℕ} (a0h : Good s0 a0) : Good s0 (strikeTiles a0 a1) := by
  unfold strikeTiles
  refine good_State_each a0h ?_
  intro y0 y1 y0h
  extract_lets -merge -useContext -underBinder +onlyGivenNames x2 x3 x4
  try clear_value x2
  try clear_value x3
  have h5 : Good s0 x4 := by
    unfold x4
    refine good_State_putTile y0h
  try clear_value x4
  refine good_ite (good_tableSwap h5) h5

theorem good_advanceEpoch {s0 : State} {a0 : State} {a1 : ℕ} (a0h : Good s0 a0) : Good s0 (advanceEpoch a0 a1) := by
  unfold advanceEpoch
  extract_lets -merge -useContext -underBinder +onlyGivenNames x0 x1 x2 x3 x4 x5 x6 x7
  try clear_value x0
  have h8 : Good s0 x1 := by
    unfold x1
    refine good_State_putJob a0h
  try clear_value x1
  have h9 : Good s0 x2 := by
    unfold x2
    refine good_markStale h8
  try clear_value x2
  have h10 : Good s0 x3 := by
    unfold x3
    refine good_State_setFabric h9
  try clear_value x3
  have h11 : Good s0 x4 := by
    unfold x4
    refine good_showTags (good_State_setTagsHeld h10)
  try clear_value x4
  have h12 : Good s0 x5 := by
    unfold x5
    refine good_flushPathOrder h11
  try clear_value x5
  have h13 : Good s0 x6 := by
    unfold x6
    refine good_State_each h12 (fun y14 y15 y14h => good_seatFlush y14h)
  try clear_value x6
  have h16 : Good s0 x7 := by
    unfold x7
    refine good_strikeTiles (good_meshDropJob h13)
  try clear_value x7
  refine good_refreshWait (good_retire h16)

theorem good_clearRecur {s0 : State} {a0 : State} {a1 : ℕ} (a0h : Good s0 a0) : Good s0 (clearRecur a0 a1) := by
  unfold clearRecur
  refine good_State_setStDone ?_
  refine good_State_setRecur a0h (fun c => ?_)
  refine spWf_filter _ _ _ ?_
  refine Good.at_recur (s0 := s0) ?_ c
  exact a0h

theorem good_clearPages {s0 : State} {a0 : State} {a1 : ℕ} (a0h : Good s0 a0) : Good s0 (clearPages a0 a1) := by
  unfold clearPages
  exact good_State_each a0h (fun y0 y1 y0h => good_scrubPage y0h)

theorem good_clearJob {s0 : State} {a0 : State} {a1 : ℕ} (a0h : Good s0 a0) : Good s0 (clearJob a0 a1) := by
  unfold clearJob
  exact good_clearRecur (good_dropSlots (good_clearPages a0h))

theorem good_endStruck {s0 : State} {a0 : State} {a1 : ℕ} (a0h : Good s0 a0) : Good s0 (endStruck a0 a1) := by
  unfold endStruck
  extract_lets -merge -useContext -underBinder +onlyGivenNames x0 x1 x2 x3 x4
  have h5 : Good s0 x0 := by
    unfold x0
    refine good_clearJob a0h
  try clear_value x0
  have h6 : Good s0 x1 := by
    unfold x1
    refine good_State_each h5 (fun y7 y8 y7h => good_closeMisses y7h)
  try clear_value x1
  try clear_value x2
  have h9 : Good s0 x3 := by
    unfold x3
    refine good_State_putJob h6
  try clear_value x3
  have h10 : Good s0 x4 := by
    unfold x4
    refine good_enterLoaded h9
  try clear_value x4
  split
  · exact good_State_respond h10
  · exact h10

theorem good_stopStruck {s0 : State} {a0 : State} {a1 : ℕ} (a0h : Good s0 a0) : Good s0 (stopStruck a0 a1) := by
  unfold stopStruck
  split
  · exact a0h
  · extract_lets -merge -useContext -underBinder +onlyGivenNames x3 x4
    try clear_value x3
    have h5 : Good s0 x4 := by
      unfold x4
      refine good_State_putJob a0h
    try clear_value x4
    refine good_ite (good_endStruck h5) (good_ite (good_endStruck (good_advanceEpoch h5)) h5)

theorem good_faultStop {s0 : State} {a0 : State} {a1 : ℕ} (a0h : Good s0 a0) : Good s0 (faultStop a0 a1) := by
  unfold faultStop
  extract_lets -merge -useContext -underBinder +onlyGivenNames x0
  have h1 : Good s0 x0 := by
    unfold x0
    refine good_State_raise a0h
  try clear_value x0
  refine good_ite (good_stopStruck h1) (good_stopJob h1)

theorem good_takeUp {s0 : State} {a0 : State} {a1 : ℕ} (a0h : Good s0 a0) : Good s0 (takeUp a0 a1) := by
  unfold takeUp
  extract_lets -merge -useContext -underBinder +onlyGivenNames x0
  try clear_value x0
  split
  · exact a0h
  · refine good_ite a0h ?_
    extract_lets -merge -useContext -underBinder +onlyGivenNames x4 x5 x6 x7 x8
    have h9 : Good s0 x4 := by
      unfold x4
      refine good_ite (good_recordFault a0h) a0h
    try clear_value x4
    try clear_value x5
    have h10 : Good s0 x6 := by
      unfold x6
      refine good_State_putJob h9
    try clear_value x6
    have h11 : Good s0 x7 := by
      unfold x7
      refine good_State_raise (good_State_bump h10)
    try clear_value x7
    have h12 : Good s0 x8 := by
      unfold x8
      refine good_State_each h11 (fun y13 y14 y13h => good_State_putExt y13h)
    try clear_value x8
    refine good_ite (good_stopStruck h9) (good_ite (good_faultStop h9) (good_aoutJobLeaves h12))

theorem good_execJobRestart {s0 : State} {a0 : Fin 16} {a1 : State} (a1h : Good s0 a1) : ∃ t, execJobRestart a0 a1 = .next t ∧
    Good s0 t := by
  unfold execJobRestart
  exact ⟨_, rfl, good_ite (good_takeUp a1h) a1h⟩

theorem good_execEpochAdvance {s0 : State} {a0 : Fin 16} {a1 : State} (a1h : Good s0 a1) : ∃ t, execEpochAdvance a0 a1 = .next t
    ∧ Good s0 t := by
  unfold execEpochAdvance
  refine ⟨_, rfl, ?_⟩
  split
  · exact a1h
  · refine good_ite a1h ?_
    extract_lets -merge -useContext -underBinder +onlyGivenNames x3
    have h4 : Good s0 x3 := by
      unfold x3
      refine good_advanceEpoch a1h
    try clear_value x3
    refine good_ite (good_endStruck h4) h4

theorem good_remedyPage {s0 : State} {a0 : State} {a1 : ℕ} {a2 : ℕ} (a0h : Good s0 a0) : Good s0 (remedyPage a0 a1 a2) := by
  unfold remedyPage
  extract_lets -merge -useContext -underBinder +onlyGivenNames x0 x1 x2 x3 x4
  try clear_value x0
  have h5 : Good s0 x1 := by
    unfold x1
    refine good_State_setPageUe (good_scrubPage a0h) (fun c => ?_)
    refine spWf_spSet _ _ _ _ ?_
    refine Good.at_pageUe (s0 := s0) ?_ c
    exact a0h
  try clear_value x1
  try clear_value x2
  have h6 : Good s0 x3 := by
    unfold x3
    refine good_State_setRetired h5
  try clear_value x3
  have h7 : Good s0 x4 := by
    unfold x4
    refine good_State_raise (good_State_bump h6)
  try clear_value x4
  refine good_ite h5 ?_
  split
  · refine good_State_each (good_State_setXlates h7) ?_
    intro y10 y11 y10h
    refine good_State_setPtes y10h (fun c => ?_)
    refine spWf_spSet _ _ _ _ ?_
    refine Good.at_ptes (s0 := s0) ?_ c
    exact y10h
  · exact good_faultStop h7

theorem good_remedyMesh {s0 : State} {a0 : State} {a1 : ℕ} {a2 : ℕ} (a0h : Good s0 a0) : Good s0 (remedyMesh a0 a1 a2) := by
  unfold remedyMesh
  extract_lets -merge -useContext -underBinder +onlyGivenNames x0 x1 x2
  try clear_value x0
  try clear_value x1
  have h3 : Good s0 x2 := by
    unfold x2
    refine good_State_putJob a0h
  try clear_value x2
  refine good_ite (good_State_wr h3) h3

theorem good_resetUnit {s0 : State} {a0 : State} {a1 : ℕ} (a0h : Good s0 a0) : Good s0 (resetUnit a0 a1) := by
  unfold resetUnit
  extract_lets -merge -useContext -underBinder +onlyGivenNames x0
  have h1 : Good s0 x0 := by
    unfold x0
    refine good_State_setGrantRr a0h (fun c => ?_)
    refine spWf_filter _ _ _ ?_
    refine Good.at_grantRr (s0 := s0) ?_ c
    exact a0h
  try clear_value x0
  refine good_State_each h1 (fun y2 y3 y2h => good_State_bump (good_pitchTake y2h))

theorem good_remedyUnit {s0 : State} {a0 : State} {a1 : ℕ} {a2 : ℕ} (a0h : Good s0 a0) : Good s0 (remedyUnit a0 a1 a2) := by
  unfold remedyUnit
  refine good_ite (good_faultStop a0h) ?_
  extract_lets -merge -useContext -underBinder +onlyGivenNames x0
  try clear_value x0
  refine good_State_each (good_State_setCluOut a0h) (fun y1 y2 y1h => good_faultStop y1h)

theorem good_reduceOrHold {s0 : State} {a0 : State} {a1 : ℕ} {a2 : ℕ} {a3 : ℕ} (a0h : Good s0 a0) : Good s0 (reduceOrHold a0 a1
    a2 a3) := by
  unfold reduceOrHold
  extract_lets -merge -useContext -underBinder +onlyGivenNames x0
  try clear_value x0
  refine good_ite (good_State_putJob a0h) (good_State_putJob a0h)

theorem good_remedyHalf {s0 : State} {a0 : State} {a1 : ℕ} {a2 : ℕ} (a0h : Good s0 a0) : Good s0 (remedyHalf a0 a1 a2) := by
  unfold remedyHalf
  exact good_reduceOrHold a0h

theorem good_remedySplit {s0 : State} {a0 : State} {a1 : ℕ} (a0h : Good s0 a0) : Good s0 (remedySplit a0 a1) := by
  unfold remedySplit
  exact good_ite (good_reduceOrHold a0h) a0h

theorem good_remedyPeer {s0 : State} {a0 : State} {a1 : ℕ} (a0h : Good s0 a0) : Good s0 (remedyPeer a0 a1) := by
  unfold remedyPeer
  refine good_ite a0h ?_
  split
  · exact good_State_putJob a0h
  · exact good_State_putJob a0h

theorem good_applyRemedy {s0 : State} {a0 : State} {a1 : ℕ} {a2 : Remedy} (a0h : Good s0 a0) : Good s0 (applyRemedy a0 a1 a2) :=
    by
  unfold applyRemedy
  split
  · exact a0h
  · exact good_remedyPage a0h
  · exact good_remedyTile a0h
  · exact good_remedyMesh a0h
  · exact good_remedySplit a0h
  · exact good_remedySplit a0h
  · exact good_reduceOrHold a0h
  · exact good_remedyHalf a0h
  · exact good_remedyUnit a0h
  · exact good_resetUnit a0h
  · exact good_remedySlices a0h
  · exact good_remedyPeer a0h
  · exact good_State_putJob a0h

theorem good_recordGap {s0 : State} {a0 : State} {a1 : ℕ} {a2 : ℕ} (a0h : Good s0 a0) : Good s0 (recordGap a0 a1 a2) := by
  unfold recordGap
  extract_lets -merge -useContext -underBinder +onlyGivenNames x0 x1
  try clear_value x0
  have h2 : Good s0 x1 := by
    unfold x1
    refine good_State_wrSat (good_State_wrSat a0h)
  try clear_value x1
  refine good_ite (good_State_raise h2) h2

theorem good_restartDone {s0 : State} {a0 : State} {a1 : ℕ} {a2 : Restart} (a0h : Good s0 a0) : Good s0 (restartDone a0 a1 a2) :=
    by
  unfold restartDone
  extract_lets -merge -useContext -underBinder +onlyGivenNames x0 x1 x2 x3
  try clear_value x0
  have h4 : Good s0 x1 := by
    unfold x1
    refine good_State_each a0h ?_
    intro y5 y6 y5h
    extract_lets -merge -useContext -underBinder +onlyGivenNames x7
    try clear_value x7
    refine good_ite (good_State_putBind y5h) y5h
  try clear_value x1
  try clear_value x2
  have h8 : Good s0 x3 := by
    unfold x3
    refine good_State_putJob h4
  try clear_value x3
  refine good_seekReturn (good_refreshWait (good_releaseHolds (good_checkWarm (good_recordGap h8))))

theorem good_restartComplete {s0 : State} {a0 : State} {a1 : ℕ} (a0h : Good s0 a0) : Good s0 (restartComplete a0 a1) := by
  unfold restartComplete
  split
  · exact a0h
  · refine good_ite a0h ?_
    extract_lets -merge -useContext -underBinder +onlyGivenNames x3 x4 x5 x6
    have h7 : Good s0 x3 := by
      unfold x3
      refine good_clearJob a0h
    try clear_value x3
    try clear_value x4
    have h8 : Good s0 x5 := by
      unfold x5
      refine good_State_putJob h7
    try clear_value x5
    have h9 : Good s0 x6 := by
      unfold x6
      refine good_State_each h8 (fun y10 y11 y10h => good_applyRemedy y10h)
    try clear_value x6
    refine good_ite h9 (good_restartDone h9)

theorem good_execRestartComplete {s0 : State} {a0 : Fin 16} {a1 : State} (a1h : Good s0 a1) : ∃ t, execRestartComplete a0 a1 =
    .next t ∧ Good s0 t := by
  unfold execRestartComplete
  exact ⟨_, rfl, good_ite (good_restartComplete a1h) a1h⟩

theorem good_execStallWatchdog {s0 : State} {a0 : Fin 16} {a1 : State} (a1h : Good s0 a1) : ∃ t, execStallWatchdog a0 a1 = .next
    t ∧ Good s0 t := by
  unfold execStallWatchdog
  exact ⟨_, rfl, good_ite (good_detectFault a1h) a1h⟩

theorem good_execPeerRestart {s0 : State} {a0 : Fin 16} {a1 : State} (a1h : Good s0 a1) : ∃ t, execPeerRestart a0 a1 = .next t ∧
    Good s0 t := by
  unfold execPeerRestart
  exact ⟨_, rfl, good_detectFault a1h⟩

theorem good_failHalf {s0 : State} {a0 : State} {a1 : ℕ} (a0h : Good s0 a0) : Good s0 (failHalf a0 a1) := by
  unfold failHalf
  refine good_ite a0h ?_
  extract_lets -merge -useContext -underBinder +onlyGivenNames x0 x1
  try clear_value x0
  have h2 : Good s0 x1 := by
    unfold x1
    refine good_State_raise (good_State_putHalf a0h)
  try clear_value x1
  refine good_faultAll h2

theorem good_execHubLinkLoss {s0 : State} {a0 : Fin 2} {a1 : State} (a1h : Good s0 a1) : ∃ t, execHubLinkLoss a0 a1 = .next t ∧
    Good s0 t := by
  unfold execHubLinkLoss
  refine ⟨_, rfl, ?_⟩
  split
  · exact a1h
  · exact good_State_putHalf a1h

theorem good_execHalfFailTimeout {s0 : State} {a0 : Fin 2} {a1 : State} (a1h : Good s0 a1) : ∃ t, execHalfFailTimeout a0 a1 =
    .next t ∧ Good s0 t := by
  unfold execHalfFailTimeout
  exact ⟨_, rfl, good_ite (good_failHalf a1h) a1h⟩

end Sys2Proof.Machine
end

