-- ==== Sys2Proof/Laws/KeepsAdmission.lean ====
section
/-! SUPPORT. Laws/KeepsAdmission.lean: every operation of Machine/Admission.lean keeps what Laws/Keeps.lean names. -/

namespace Sys2Proof.Machine

theorem good_mapPages {s0 : State} {a0 : State} {a1 : ℕ} {a2 : List (ℕ × ℕ × Bool × Bool × Bool)} (a0h : Good s0 a0) : Good s0
    (mapPages a0 a1 a2) := by
  unfold mapPages
  extract_lets -merge -useContext -underBinder +onlyGivenNames x0
  have h1 : Good s0 x0 := by
    unfold x0
    refine good_State_setXlates a0h
  try clear_value x0
  refine good_State_each h1 (fun y2 y3 y2h => good_State_putPte (good_scrubPage y2h))

theorem good_jobRegs {s0 : State} {a0 : State} {a1 : ℕ} {a2 : ℕ} {a3 : ImageHdr} {a4 : Plan} (a0h : Good s0 a0) : Good s0
    (jobRegs a0 a1 a2 a3 a4) := by
  unfold jobRegs
  extract_lets -merge -useContext -underBinder +onlyGivenNames x0 x1 x2 x3
  have h4 : Good s0 x0 := by
    unfold x0
    refine good_State_each a0h (fun y5 y6 y5h => good_State_setWord y5h)
  try clear_value x0
  have h7 : Good s0 x1 := by
    unfold x1
    refine good_State_wr (good_State_wr h4)
  try clear_value x1
  have h8 : Good s0 x2 := by
    unfold x2
    refine good_State_setWord h7
  try clear_value x2
  have h9 : Good s0 x3 := by
    unfold x3
    refine good_State_wr h8
  try clear_value x3
  refine good_State_each h9 (fun y10 y11 y10h => good_State_setWord y10h)

theorem good_takeTile {s0 : State} {a0 : State} {a1 : ℕ} {a2 : ℕ} {a3 : Bool} {a4 : Pick} (a0h : Good s0 a0) : Good s0 (takeTile
    a0 a1 a2 a3 a4) := by
  unfold takeTile
  refine good_ite a0h ?_
  split
  · exact a0h
  · extract_lets -merge -useContext -underBinder +onlyGivenNames x3
    have h4 : Good s0 x3 := by
      unfold x3
      refine good_configSpan (good_setSvc a0h)
    try clear_value x3
    refine good_State_setWrites h4

theorem good_reserve {s0 : State} {a0 : State} {a1 : ℕ} {a2 : ℕ} {a3 : ImageHdr} {a4 : Section} {a5 : List ℕ} {a6 : List
    Sys2Proof.Byte} {a7 : Plan} (a0h : Good s0 a0) : Good s0 (reserve a0 a1 a2 a3 a4 a5 a6 a7) := by
  unfold reserve
  extract_lets -merge -useContext -underBinder +onlyGivenNames x0 x1 x2 x3 x4 x5 x6 x7 x8
  try clear_value x0
  try clear_value x1
  try clear_value x2
  try clear_value x3
  have h9 : Good s0 x4 := by
    unfold x4
    refine good_State_putJob a0h
  try clear_value x4
  have h10 : Good s0 x5 := by
    unfold x5
    refine good_jobRegs h9
  try clear_value x5
  have h11 : Good s0 x6 := by
    unfold x6
    refine good_mapPages (good_mapPages h10)
  try clear_value x6
  have h12 : Good s0 x7 := by
    unfold x7
    refine good_State_each h11 (fun y13 y14 y13h => good_takeTile y13h)
  try clear_value x7
  have h15 : Good s0 x8 := by
    unfold x8
    refine good_State_each h12 (fun y16 y17 y16h => good_placeMatrix y16h)
  try clear_value x8
  refine good_loadProgress (good_showStore h15)

theorem good_processLoad {s0 : State} {a0 : State} {a1 : ℕ} {a2 : Section} (a0h : Good s0 a0) : Good s0 (processLoad a0 a1 a2) :=
    by
  unfold processLoad
  split
  · exact good_State_respond a0h
  · extract_lets -merge -useContext -underBinder +onlyGivenNames x4 x5
    try clear_value x4
    try clear_value x5
    split
    · split
      · exact good_State_respond a0h
      · exact good_reserve a0h
    · exact good_State_respond a0h
    · exact good_State_respond a0h

theorem good_tryLoad {s0 : State} {a0 : State} (a0h : Good s0 a0) : Good s0 (tryLoad a0) := by
  unfold tryLoad
  split
  · exact a0h
  · exact good_ite a0h (good_processLoad (good_State_setLoadWait a0h))

theorem good_execJobLoad {s0 : State} {a0 : Fin 16} {a1 : Section} {a2 : State} (a2h : Good s0 a2) : ∃ t, execJobLoad a0 a1 a2 =
    .next t ∧ Good s0 t := by
  unfold execJobLoad
  exact ⟨_, rfl, good_State_peade a2h (fun y0 y0h => good_tryLoad (good_startFirst (good_State_setLoadWait y0h)))⟩

theorem good_strikeStart {s0 : State} {a0 : State} {a1 : ℕ} (a0h : Good s0 a0) : Good s0 (strikeStart a0 a1) := by
  unfold strikeStart
  extract_lets -merge -useContext -underBinder +onlyGivenNames x0 x1
  have h2 : Good s0 x0 := by
    unfold x0
    refine good_State_each a0h (fun y3 y4 y3h => good_ite (good_detectFault y3h) y3h)
  try clear_value x0
  have h5 : Good s0 x1 := by
    unfold x1
    refine good_ite (good_detectFault h2) h2
  try clear_value x1
  split
  · exact good_detectFault h5
  · exact h5

theorem good_startJob {s0 : State} {a0 : State} {a1 : ℕ} (a0h : Good s0 a0) : Good s0 (startJob a0 a1) := by
  unfold startJob
  extract_lets -merge -useContext -underBinder +onlyGivenNames x0 x1 x2 x3 x4 x5
  try clear_value x0
  try clear_value x1
  have h6 : Good s0 x2 := by
    unfold x2
    refine good_clearRecur (good_clearPages a0h)
  try clear_value x2
  have h7 : Good s0 x3 := by
    unfold x3
    refine good_State_each h6 (fun y8 y9 y8h => good_State_putBind y8h)
  try clear_value x3
  have h10 : Good s0 x4 := by
    unfold x4
    refine good_State_each h7 (fun y11 y12 y11h => good_State_putOut y11h)
  try clear_value x4
  try clear_value x5
  refine good_strikeStart (good_State_putJob h10)

theorem good_execJobStart {s0 : State} {a0 : Fin 16} {a1 : State} (a1h : Good s0 a1) : ∃ t, execJobStart a0 a1 = .next t ∧ Good
    s0 t := by
  unfold execJobStart
  refine ⟨_, rfl, ?_⟩
  refine good_State_peade a1h ?_
  intro y0 y0h
  extract_lets -merge -useContext -underBinder +onlyGivenNames x1
  try clear_value x1
  refine good_ite (good_State_respond y0h) (good_ite (good_State_respond y0h) (good_State_respond (good_startJob y0h)))

theorem good_execJobStop {s0 : State} {a0 : Fin 16} {a1 : State} (a1h : Good s0 a1) : ∃ t, execJobStop a0 a1 = .next t ∧ Good s0
    t := by
  unfold execJobStop
  refine ⟨_, rfl, ?_⟩
  refine good_State_peade a1h ?_
  intro y0 y0h
  extract_lets -merge -useContext -underBinder +onlyGivenNames x1 x2
  try clear_value x1
  try clear_value x2
  refine good_ite (good_State_respond y0h) ?_
  split
  · exact good_stopJob y0h
  · extract_lets -merge -useContext -underBinder +onlyGivenNames x6
    have h7 : Good s0 x6 := by
      unfold x6
      refine good_State_putJob y0h
    try clear_value x6
    refine good_ite (good_stopStruck h7) h7

theorem good_execJobUnload {s0 : State} {a0 : Fin 16} {a1 : State} (a1h : Good s0 a1) : ∃ t, execJobUnload a0 a1 = .next t ∧ Good
    s0 t := by
  unfold execJobUnload
  refine ⟨_, rfl, ?_⟩
  refine good_State_peade a1h ?_
  intro y0 y0h
  extract_lets -merge -useContext -underBinder +onlyGivenNames x1 x2 x3
  try clear_value x1
  have h4 : Good s0 x2 := by
    unfold x2
    refine good_State_wr (good_emptyJob y0h)
  try clear_value x2
  have h5 : Good s0 x3 := by
    unfold x3
    refine good_State_wr h4
  try clear_value x3
  refine good_ite (good_State_respond y0h) (good_State_respond h5)

theorem good_execJobGrade {s0 : State} {a0 : Fin 16} {a1 : State} (a1h : Good s0 a1) : ∃ t, execJobGrade a0 a1 = .next t ∧ Good
    s0 t := by
  unfold execJobGrade
  refine ⟨_, rfl, ?_⟩
  refine good_State_peade a1h ?_
  intro y0 y0h
  extract_lets -merge -useContext -underBinder +onlyGivenNames x1 x2
  try clear_value x1
  try clear_value x2
  refine good_ite (good_State_respond y0h) (good_ite (good_State_respond y0h) (good_gradeStart y0h))

theorem good_execJobStatus {s0 : State} {a0 : Fin 16} {a1 : State} (a1h : Good s0 a1) : ∃ t, execJobStatus a0 a1 = .next t ∧ Good
    s0 t := by
  unfold execJobStatus
  exact ⟨_, rfl, good_State_peade a1h (fun y0 y0h => good_State_respond y0h)⟩

theorem good_execCapsGet {s0 : State} {a0 : Fin 16} {a1 : State} (a1h : Good s0 a1) : ∃ t, execCapsGet a0 a1 = .next t ∧ Good s0
    t := by
  unfold execCapsGet
  exact ⟨_, rfl, good_State_peade a1h (fun y0 y0h => good_State_respond y0h)⟩

end Sys2Proof.Machine
end

