-- ==== Sys2Proof/Laws/KeepsTransmit.lean ====
section
/-! SUPPORT. Laws/KeepsTransmit.lean: every operation of Machine/Transmit.lean keeps what Laws/Keeps.lean names. -/

namespace Sys2Proof.Machine

theorem good_sendSkew {s0 : State} {a0 : State} {a1 : ℕ} (a0h : Good s0 a0) : Good s0 (sendSkew a0 a1) := by
  unfold sendSkew
  extract_lets -merge -useContext -underBinder +onlyGivenNames x0 x1
  try clear_value x0
  try clear_value x1
  refine good_State_putTx a0h

theorem good_startTx {s0 : State} {a0 : State} {a1 : ℕ} (a0h : Good s0 a0) : Good s0 (startTx a0 a1) := by
  unfold startTx
  exact good_ite (good_State_putTx a0h) (good_ite a0h (good_sendSkew (good_State_putTx a0h)))

theorem good_applyTx {s0 : State} {a0 : State} {a1 : ℕ} (a0h : Good s0 a0) : Good s0 (applyTx a0 a1) := by
  unfold applyTx
  exact good_ite a0h (good_startTx (good_State_apply a0h))

theorem good_applyOutMap {s0 : State} {a0 : State} {a1 : ℕ} (a0h : Good s0 a0) : Good s0 (applyOutMap a0 a1) := by
  unfold applyOutMap
  extract_lets -merge -useContext -underBinder +onlyGivenNames x0
  try clear_value x0
  refine good_ite a0h (good_State_apply a0h)

theorem good_closeFrame {s0 : State} {a0 : State} {a1 : ℕ} {a2 : ℕ} (a0h : Good s0 a0) : Good s0 (closeFrame a0 a1 a2) := by
  unfold closeFrame
  extract_lets -merge -useContext -underBinder +onlyGivenNames x0 x1 x2 x3 x4 x5 x6
  try clear_value x0
  have h7 : Good s0 x1 := by
    unfold x1
    refine good_State_putChan a0h
  try clear_value x1
  try clear_value x2
  have h8 : Good s0 x3 := by
    unfold x3
    refine good_State_putTx h7
  try clear_value x3
  have h9 : Good s0 x4 := by
    unfold x4
    refine good_State_each h8 (fun y10 y11 y10h => good_applyOutMap y10h)
  try clear_value x4
  try clear_value x5
  have h12 : Good s0 x6 := by
    unfold x6
    refine good_ite h9 (good_applyTx (good_State_putTx h9))
  try clear_value x6
  refine good_ite (good_openFrame h12) h12

theorem good_sendPacket {s0 : State} {a0 : State} {a1 : ℕ} {a2 : ℕ} {a3 : ℕ} {a4 : Packet} (a0h : Good s0 a0) : Good s0
    (sendPacket a0 a1 a2 a3 a4) := by
  unfold sendPacket
  extract_lets -merge -useContext -underBinder +onlyGivenNames x0 x1 x2 x3 x4 x5
  have h6 : Good s0 x0 := by
    unfold x0
    refine good_openFrame (good_startTx a0h)
  try clear_value x0
  try clear_value x1
  try clear_value x2
  have h7 : Good s0 x3 := by
    unfold x3
    refine good_State_putTx h6
  try clear_value x3
  have h8 : Good s0 x4 := by
    unfold x4
    refine good_State_wr h7
  try clear_value x4
  have h9 : Good s0 x5 := by
    unfold x5
    refine good_State_putChan h8
  try clear_value x5
  refine good_ite (good_closeFrame h9) h9

theorem good_recordSend {s0 : State} {a0 : State} {a1 : ℕ} (a0h : Good s0 a0) : Good s0 (recordSend a0 a1) := by
  unfold recordSend
  refine good_ite a0h ?_
  split
  · exact good_sendPacket (good_State_setRecQ a0h)
  · extract_lets -merge -useContext -underBinder +onlyGivenNames x3
    try clear_value x3
    split
    · exact a0h
    · extract_lets -merge -useContext -underBinder +onlyGivenNames x7
      try clear_value x7
      split
      · exact a0h
      · extract_lets -merge -useContext -underBinder +onlyGivenNames x12 x13
        try clear_value x12
        have h14 : Good s0 x13 := by
          unfold x13
          refine good_State_putTx (good_State_putOut a0h)
        try clear_value x13
        refine good_sendPacket h14

theorem good_execRecordSend {s0 : State} {a0 : Fin 4} {a1 : State} (a1h : Good s0 a1) : ∃ t, execRecordSend a0 a1 = .next t ∧
    Good s0 t := by
  unfold execRecordSend
  refine ⟨_, rfl, ?_⟩
  extract_lets -merge -useContext -underBinder +onlyGivenNames x0 x1
  try clear_value x0
  have h2 : Good s0 x1 := by
    unfold x1
    refine good_recordSend a1h
  try clear_value x1
  refine good_ite ?_ h2
  split
  · exact good_State_respond h2
  · exact h2

theorem good_execFrameTimeout {s0 : State} {a0 : Fin 4} {a1 : Fin 16} {a2 : State} (a2h : Good s0 a2) : ∃ t, execFrameTimeout a0
    a1 a2 = .next t ∧ Good s0 t := by
  unfold execFrameTimeout
  refine ⟨_, rfl, ?_⟩
  extract_lets -merge -useContext -underBinder +onlyGivenNames x0
  try clear_value x0
  refine good_ite (good_closeFrame a2h) a2h

theorem good_execDeskew {s0 : State} {a0 : Fin 4} {a1 : State} (a1h : Good s0 a1) : ∃ t, execDeskew a0 a1 = .next t ∧ Good s0 t
    := by
  unfold execDeskew
  exact ⟨_, rfl, good_ite (good_sendSkew a1h) a1h⟩

theorem good_execUlpsEntry {s0 : State} {a0 : Fin 4} {a1 : State} (a1h : Good s0 a1) : ∃ t, execUlpsEntry a0 a1 = .next t ∧ Good
    s0 t := by
  unfold execUlpsEntry
  exact ⟨_, rfl, good_ite (good_State_wr a1h) a1h⟩

end Sys2Proof.Machine
end

