-- ==== Sys2Proof/Laws/KeepsLinks.lean ====
section
/-! SUPPORT. Laws/KeepsLinks.lean: every operation of Machine/Links.lean keeps what Laws/Keeps.lean names. -/

namespace Sys2Proof.Machine

theorem good_State_putRing {s0 : State} {a0 : State} {a1 : ℕ} {a2 : ℕ} {a3 : Sys2Proof.Machine.Ring} (a0h : Good s0 a0) : Good s0
    (State.putRing a0 a1 a2 a3) := by
  unfold State.putRing
  refine good_State_setRings a0h (fun c => ?_)
  refine spWf_spSet _ _ _ _ ?_
  refine Good.at_rings (s0 := s0) ?_ c
  exact a0h

theorem good_showRings {s0 : State} {a0 : State} {a1 : ℕ} (a0h : Good s0 a0) : Good s0 (showRings a0 a1) := by
  unfold showRings
  extract_lets -merge -useContext -underBinder +onlyGivenNames x0
  try clear_value x0
  refine good_State_wr a0h

theorem good_tuneRing {s0 : State} {a0 : State} {a1 : ℕ} {a2 : ℕ} {a3 : ℕ} {a4 : ℕ} (a0h : Good s0 a0) : Good s0 (tuneRing a0 a1
    a2 a3 a4) := by
  unfold tuneRing
  extract_lets -merge -useContext -underBinder +onlyGivenNames x0
  try clear_value x0
  refine good_State_putRing a0h

theorem good_coupleRing {s0 : State} {a0 : State} {a1 : ℕ} {a2 : ℕ} {a3 : Bool} {a4 : Bool} (a0h : Good s0 a0) : Good s0
    (coupleRing a0 a1 a2 a3 a4) := by
  unfold coupleRing
  exact good_ite a0h (good_State_putRing a0h)

theorem good_parkLane {s0 : State} {a0 : State} {a1 : ℕ} {a2 : ℕ} {a3 : ℕ} (a0h : Good s0 a0) : Good s0 (parkLane a0 a1 a2 a3) :=
    by
  unfold parkLane
  refine good_showRings ?_
  refine good_State_each a0h ?_
  intro y0 y1 y0h
  extract_lets -merge -useContext -underBinder +onlyGivenNames x2
  try clear_value x2
  refine good_ite y0h (good_ite (good_State_putRing y0h) (good_coupleRing (good_tuneRing y0h)))

theorem good_searchLane {s0 : State} {a0 : State} {a1 : ℕ} {a2 : ℕ} {a3 : ℕ} (a0h : Good s0 a0) : Good s0 (searchLane a0 a1 a2
    a3) := by
  unfold searchLane
  refine good_showRings ?_
  refine good_State_each a0h ?_
  intro y0 y1 y0h
  refine good_ite y0h ?_
  extract_lets -merge -useContext -underBinder +onlyGivenNames x2 x3
  have h4 : Good s0 x2 := by
    unfold x2
    refine good_coupleRing (good_tuneRing y0h)
  try clear_value x2
  try clear_value x3
  refine good_State_putRing h4

theorem good_restripe {s0 : State} {a0 : State} {a1 : ℕ} (a0h : Good s0 a0) : Good s0 (restripe a0 a1) := by
  unfold restripe
  extract_lets -merge -useContext -underBinder +onlyGivenNames x0 x1
  try clear_value x0
  try clear_value x1
  refine good_ite a0h (good_State_putDir a0h)

theorem good_linkWatch {s0 : State} {a0 : State} (a0h : Good s0 a0) : Good s0 (linkWatch a0) := by
  unfold linkWatch
  extract_lets -merge -useContext -underBinder +onlyGivenNames x0 x1 x2
  have h3 : Good s0 x0 := by
    unfold x0
    refine good_State_each a0h (fun y4 y5 y4h => good_restripe y4h)
  try clear_value x0
  have h6 : Good s0 x1 := by
    unfold x1
    refine good_ite (good_State_setSplitAt h3) (good_State_setSplitAt h3)
  try clear_value x1
  have h7 : Good s0 x2 := by
    unfold x2
    refine good_State_setReturnAt h6
  try clear_value x2
  refine good_State_each h7 ?_
  intro y8 y9 y8h
  extract_lets -merge -useContext -underBinder +onlyGivenNames x10 x11
  try clear_value x10
  try clear_value x11
  refine good_State_putExt y8h

theorem good_addCircuit {s0 : State} {a0 : State} {a1 : List (ℕ × ℕ × ℕ)} {a2 : ℕ} {a3 : ℕ} {a4 : Bool} (a0h : Good s0 a0) : Good
    s0 (addCircuit a0 a1 a2 a3 a4) := by
  unfold addCircuit
  refine good_State_each a0h ?_
  intro y0 y1 y0h
  extract_lets -merge -useContext -underBinder +onlyGivenNames x2
  try clear_value x2
  refine good_State_putLane y0h

theorem good_beginBridge {s0 : State} {a0 : State} {a1 : ℕ} {a2 : ℕ} {a3 : ℕ} {a4 : ℕ} (a0h : Good s0 a0) : Good s0 (beginBridge
    a0 a1 a2 a3 a4) := by
  unfold beginBridge
  extract_lets -merge -useContext -underBinder +onlyGivenNames x0 x1
  try clear_value x0
  try clear_value x1
  refine good_ite a0h (good_ite (good_addCircuit a0h) (good_ite (good_State_putDir a0h) a0h))

theorem good_beginExt {s0 : State} {a0 : State} {a1 : ℕ} {a2 : Bool} {a3 : ℕ} {a4 : ℕ} (a0h : Good s0 a0) : Good s0 (beginExt a0
    a1 a2 a3 a4) := by
  unfold beginExt
  extract_lets -merge -useContext -underBinder +onlyGivenNames x0 x1
  try clear_value x0
  try clear_value x1
  refine good_ite a0h (good_ite (good_addCircuit a0h) (good_ite (good_State_putExt a0h) a0h))

theorem good_retryWaits {s0 : State} {a0 : State} (a0h : Good s0 a0) : Good s0 (retryWaits a0) := by
  unfold retryWaits
  extract_lets -merge -useContext -underBinder +onlyGivenNames x0
  have h1 : Good s0 x0 := by
    unfold x0
    refine good_State_each a0h ?_
    intro y2 y3 y2h
    extract_lets -merge -useContext -underBinder +onlyGivenNames x4 x5
    try clear_value x4
    try clear_value x5
    refine good_ite y2h (good_State_each (good_State_putDir y2h) (fun y6 y7 y6h => good_beginBridge y6h))
  try clear_value x0
  refine good_State_each h1 ?_
  intro y8 y9 y8h
  extract_lets -merge -useContext -underBinder +onlyGivenNames x10 x11
  try clear_value x10
  try clear_value x11
  refine good_ite y8h (good_State_each (good_State_putExt y8h) (fun y12 y13 y12h => good_beginExt y12h))

theorem good_setEnds {s0 : State} {a0 : State} {a1 : List (ℕ × ℕ)} {a2 : ℕ} (a0h : Good s0 a0) : Good s0 (setEnds a0 a1 a2) := by
  unfold setEnds
  refine good_State_each a0h ?_
  intro y0 y1 y0h
  extract_lets -merge -useContext -underBinder +onlyGivenNames x2
  try clear_value x2
  refine good_ite y0h (good_State_putLane y0h)

theorem good_State_putMon {s0 : State} {a0 : State} {a1 : ℕ} {a2 : ℕ} {a3 : Mon} (a0h : Good s0 a0) : Good s0 (State.putMon a0 a1
    a2 a3) := by
  unfold State.putMon
  refine good_State_setMons a0h (fun c => ?_)
  refine spWf_spSet _ _ _ _ ?_
  refine Good.at_mons (s0 := s0) ?_ c
  exact a0h

theorem good_lockMon {s0 : State} {a0 : State} {a1 : ℕ} {a2 : ℕ} (a0h : Good s0 a0) : Good s0 (lockMon a0 a1 a2) := by
  unfold lockMon
  exact good_State_putMon a0h

theorem good_trainFail {s0 : State} {a0 : State} {a1 : ℕ} {a2 : ℕ} (a0h : Good s0 a0) : Good s0 (trainFail a0 a1 a2) := by
  unfold trainFail
  refine good_State_each a0h ?_
  intro y0 y1 y0h
  extract_lets -merge -useContext -underBinder +onlyGivenNames x2
  have h3 : Good s0 x2 := by
    unfold x2
    refine good_searchLane y0h
  try clear_value x2
  refine good_State_raise (good_ite h3 (good_State_putLane h3))

theorem good_tuneLane {s0 : State} {a0 : State} {a1 : ℕ} {a2 : ℕ} (a0h : Good s0 a0) : Good s0 (tuneLane a0 a1 a2) := by
  unfold tuneLane
  extract_lets -merge -useContext -underBinder +onlyGivenNames x0 x1 x2 x3
  try clear_value x0
  try clear_value x1
  try clear_value x2
  have h4 : Good s0 x3 := by
    unfold x3
    refine good_showRings (good_State_each a0h (fun y5 y6 y5h => good_coupleRing (good_tuneRing y5h)))
  try clear_value x3
  refine good_ite a0h (good_ite (good_State_putLane h4) h4)

theorem good_tuneCircuit {s0 : State} {a0 : State} {a1 : ℕ} {a2 : ℕ} (a0h : Good s0 a0) : Good s0 (tuneCircuit a0 a1 a2) := by
  unfold tuneCircuit
  refine good_ite a0h ?_
  extract_lets -merge -useContext -underBinder +onlyGivenNames x0 x1
  try clear_value x0
  have h2 : Good s0 x1 := by
    unfold x1
    refine good_State_each a0h (fun y3 y4 y3h => good_tuneLane y3h)
  try clear_value x1
  refine good_ite (good_trainFail h2) h2

theorem good_tuneAll {s0 : State} {a0 : State} (a0h : Good s0 a0) : Good s0 (tuneAll a0) := by
  unfold tuneAll
  exact good_State_each a0h (fun y0 y1 y0h => good_tuneCircuit y0h)

theorem good_circuitUp {s0 : State} {a0 : State} {a1 : ℕ} {a2 : ℕ} {a3 : Bool} (a0h : Good s0 a0) : Good s0 (circuitUp a0 a1 a2
    a3) := by
  unfold circuitUp
  extract_lets -merge -useContext -underBinder +onlyGivenNames x0 x1 x2 x3
  have h4 : Good s0 x0 := by
    unfold x0
    refine good_tuneCircuit a0h
  try clear_value x0
  try clear_value x1
  try clear_value x2
  have h5 : Good s0 x3 := by
    unfold x3
    refine good_setEnds h4
  try clear_value x3
  refine good_ite (good_ite (good_linkWatch (good_State_each h5 (fun y6 y7 y6h => good_State_raise (good_lockMon (good_showRings
    y6h))))) (good_trainFail h4)) h4

theorem good_crossToken {s0 : State} {a0 : State} {a1 : ℕ} {a2 : ℕ} {a3 : Token} (a0h : Good s0 a0) : Good s0 (crossToken a0 a1
    a2 a3) := by
  unfold crossToken
  exact good_ite a0h (good_pitchPut a0h)

theorem good_moveTransfers {s0 s : State} {b : Nat} {peer lost : Bool} {fuel room : Nat} (h : Good s0 s) :
    Good s0 (moveTransfers s b peer lost fuel room) := by
  induction fuel generalizing s room with
  | zero => exact h
  | succ n ih =>
    simp only [moveTransfers]
    split
    · exact h
    · refine good_ite (ih (good_State_putDir (good_dropStale h))) (good_ite (ih (good_State_putDir (good_pitchTake h)))
        (good_ite (good_State_putDir h) (ih ?_)))
      exact good_ite (good_State_putDir (good_pitchTake h)) (good_crossToken (good_State_putDir (good_pitchTake h)))

theorem good_sendCodeword {s0 : State} {a0 : State} {a1 : ℕ} {a2 : Bool} {a3 : Bool} (a0h : Good s0 a0) : Good s0 (sendCodeword
    a0 a1 a2 a3) := by
  unfold sendCodeword
  exact good_pitchEnter (good_moveTransfers a0h)

theorem good_loseCodeword {s0 : State} {a0 : State} {a1 : ℕ} {a2 : Bool} (a0h : Good s0 a0) : Good s0 (loseCodeword a0 a1 a2) :=
    by
  unfold loseCodeword
  extract_lets -merge -useContext -underBinder +onlyGivenNames x0 x1 x2
  try clear_value x0
  try clear_value x1
  have h3 : Good s0 x2 := by
    unfold x2
    refine good_sendCodeword a0h
  try clear_value x2
  refine good_faultAll h3

theorem good_loseOnCircuit {s0 : State} {a0 : State} {a1 : ℕ} {a2 : ℕ} {a3 : Bool} (a0h : Good s0 a0) : Good s0 (loseOnCircuit a0
    a1 a2 a3) := by
  unfold loseOnCircuit
  extract_lets -merge -useContext -underBinder +onlyGivenNames x0 x1 x2
  try clear_value x0
  try clear_value x1
  have h3 : Good s0 x2 := by
    unfold x2
    refine good_ite (good_State_bump a0h) a0h
  try clear_value x2
  refine good_ite (good_faultAll h3) (good_ite (good_loseCodeword h3) h3)

theorem good_circuitDown {s0 : State} {a0 : State} {a1 : ℕ} {a2 : ℕ} {a3 : Bool} (a0h : Good s0 a0) : Good s0 (circuitDown a0 a1
    a2 a3) := by
  unfold circuitDown
  extract_lets -merge -useContext -underBinder +onlyGivenNames x0 x1 x2 x3 x4 x5 x6 x7 x8
  try clear_value x0
  try clear_value x1
  try clear_value x2
  have h9 : Good s0 x3 := by
    unfold x3
    refine good_loseOnCircuit a0h
  try clear_value x3
  have h10 : Good s0 x4 := by
    unfold x4
    refine good_setEnds h9
  try clear_value x4
  have h11 : Good s0 x5 := by
    unfold x5
    refine good_State_each h10 (fun y12 y13 y12h => good_State_raise y12h)
  try clear_value x5
  have h14 : Good s0 x6 := by
    unfold x6
    refine good_ite (good_State_each h11 (fun y15 y16 y15h => good_State_raise y15h)) h11
  try clear_value x6
  have h17 : Good s0 x7 := by
    unfold x7
    refine good_ite (good_faultAll h14) h14
  try clear_value x7
  have h18 : Good s0 x8 := by
    unfold x8
    refine good_ite (good_faultAll h17) h17
  try clear_value x8
  refine good_ite a0h (good_linkWatch h18)

theorem good_execCircuitDown {s0 : State} {a0 : Fin 4} {a1 : Fin 32} {a2 : Bool} {a3 : State} (a3h : Good s0 a3) : ∃ t,
    execCircuitDown a0 a1 a2 a3 = .next t ∧ Good s0 t := by
  unfold execCircuitDown
  exact ⟨_, rfl, good_circuitDown a3h⟩

theorem good_removeCircuit {s0 : State} {a0 : State} {a1 : ℕ} {a2 : ℕ} (a0h : Good s0 a0) : Good s0 (removeCircuit a0 a1 a2) := by
  unfold removeCircuit
  extract_lets -merge -useContext -underBinder +onlyGivenNames x0
  try clear_value x0
  refine good_ite (good_linkWatch (good_setEnds a0h)) a0h

theorem good_execCircuitRemove {s0 : State} {a0 : Fin 4} {a1 : Fin 32} {a2 : State} (a2h : Good s0 a2) : ∃ t, execCircuitRemove
    a0 a1 a2 = .next t ∧ Good s0 t := by
  unfold execCircuitRemove
  exact ⟨_, rfl, good_ite a2h (good_removeCircuit a2h)⟩

theorem good_parkingDone {s0 : State} {a0 : State} {a1 : ℕ} {a2 : ℕ} (a0h : Good s0 a0) : Good s0 (parkingDone a0 a1 a2) := by
  unfold parkingDone
  refine good_ite ?_ a0h
  extract_lets -merge -useContext -underBinder +onlyGivenNames x0
  have h1 : Good s0 x0 := by
    unfold x0
    refine good_State_each a0h ?_
    intro y2 y3 y2h
    extract_lets -merge -useContext -underBinder +onlyGivenNames x4
    try clear_value x4
    refine good_ite y2h (good_State_putLane (good_parkLane y2h))
  try clear_value x0
  refine good_retryWaits h1

theorem good_execParkingDone {s0 : State} {a0 : Fin 4} {a1 : Fin 32} {a2 : State} (a2h : Good s0 a2) : ∃ t, execParkingDone a0 a1
    a2 = .next t ∧ Good s0 t := by
  unfold execParkingDone
  exact ⟨_, rfl, good_parkingDone a2h⟩

theorem good_chipCircuitsDown {s0 : State} {a0 : State} {a1 : ℕ} (a0h : Good s0 a0) : Good s0 (chipCircuitsDown a0 a1) := by
  unfold chipCircuitsDown
  exact good_State_each a0h (fun y0 y1 y0h => good_circuitDown y0h)

theorem good_peerToken {s0 : State} {a0 : State} {a1 : ℕ} {a2 : ℕ} {a3 : Token} (a0h : Good s0 a0) : Good s0 (peerToken a0 a1 a2
    a3) := by
  unfold peerToken
  exact good_pitchPut a0h

theorem good_takeCodeword {s0 : State} {a0 : State} {a1 : ℕ} {a2 : ℕ} {a3 : Codeword} (a0h : Good s0 a0) : Good s0 (takeCodeword
    a0 a1 a2 a3) := by
  unfold takeCodeword
  extract_lets -merge -useContext -underBinder +onlyGivenNames x0 x1 x2 x3 x4 x5 x6 x7 x8 x9 x10 x11 x12 x13 x14 x15
  try clear_value x0
  try clear_value x1
  try clear_value x2
  try clear_value x3
  try clear_value x4
  have h16 : Good s0 x5 := by
    unfold x5
    refine good_State_putDir a0h
  try clear_value x5
  have h17 : Good s0 x6 := by
    unfold x6
    refine good_ite h16 (good_State_bump h16)
  try clear_value x6
  have h18 : Good s0 x7 := by
    unfold x7
    refine good_State_each h17 (fun y19 y20 y19h => good_State_putLane y19h)
  try clear_value x7
  try clear_value x8
  have h21 : Good s0 x9 := by
    unfold x9
    refine good_ite h18 (good_State_putExt h18)
  try clear_value x9
  try clear_value x10
  have h22 : Good s0 x11 := by
    unfold x11
    refine good_ite (good_State_putExt h18) h18
  try clear_value x11
  have h23 : Good s0 x12 := by
    unfold x12
    refine good_State_raise (good_State_bump h16)
  try clear_value x12
  have h24 : Good s0 x13 := by
    unfold x13
    refine good_ite (good_faultAll h23) (good_loseCodeword h23)
  try clear_value x13
  try clear_value x14
  have h25 : Good s0 x15 := by
    unfold x15
    refine good_State_each h24 (fun y26 y27 y26h => good_State_putLane y26h)
  try clear_value x15
  refine good_ite ?_ (good_ite h25 (good_circuitDown h25))
  refine good_ite ?_ (good_sendCodeword h22)
  refine good_pitchEnter ?_
  split
  · exact good_State_each h21 (fun y30 y31 y30h => good_peerToken y30h)
  · exact h21

theorem good_mergeOne {s0 : State} {a0 : State} {a1 : ℕ} (a0h : Good s0 a0) : Good s0 (mergeOne a0 a1) := by
  unfold mergeOne
  extract_lets -merge -useContext -underBinder +onlyGivenNames x0 x1 x2
  try clear_value x0
  try clear_value x1
  try clear_value x2
  refine good_ite a0h ?_
  split
  · exact a0h
  · extract_lets -merge -useContext -underBinder +onlyGivenNames x7 x8 x9
    have h10 : Good s0 x7 := by
      unfold x7
      refine good_State_putLane a0h
    try clear_value x7
    try clear_value x8
    have h11 : Good s0 x9 := by
      unfold x9
      refine good_State_putDir h10
    try clear_value x9
    refine good_takeCodeword h11

theorem good_codeword {s0 : State} {a0 : State} {a1 : ℕ} {a2 : ℕ} {a3 : ℕ} {a4 : List Token} (a0h : Good s0 a0) : Good s0
    (codeword a0 a1 a2 a3 a4) := by
  unfold codeword
  extract_lets -merge -useContext -underBinder +onlyGivenNames x0 x1 x2 x3 x4
  try clear_value x0
  try clear_value x1
  try clear_value x2
  try clear_value x3
  have h5 : Good s0 x4 := by
    unfold x4
    refine good_State_putLane a0h
  try clear_value x4
  refine good_ite a0h (good_ite a0h (good_State_each h5 (fun y6 y7 y6h => good_mergeOne y6h)))

theorem good_execCodewordReceived {s0 : State} {a0 : Fin 4} {a1 : Fin 32} {a2 : Fin 273} {a3 : List Token} {a4 : State} (a4h :
    Good s0 a4) : ∃ t, execCodewordReceived a0 a1 a2 a3 a4 = .next t ∧ Good s0 t := by
  unfold execCodewordReceived
  exact ⟨_, rfl, good_codeword a4h⟩

theorem good_growBridge {s0 s s' : State} {b : Nat} (h : Good s0 s) (e : growBridge s b = some s') : Good s0 s' := by
  simp only [growBridge] at e
  split at e
  · obtain rfl := Option.some.inj e; exact good_beginBridge h
  · cases e

theorem good_growExt {s0 : State} {a0 : State} {a1 : ℕ} {a2 : Bool} (a0h : Good s0 a0) : Good s0 (growExt a0 a1 a2) := by
  unfold growExt
  split
  · exact good_beginExt a0h
  · exact a0h

theorem good_startCircuit {s0 : State} {a0 : State} {a1 : Option ℕ} {a2 : ℕ} {a3 : Bool} {a4 : ℕ} {a5 : ℕ} {a6 : ℕ} (a0h : Good
    s0 a0) : Good s0 (startCircuit a0 a1 a2 a3 a4 a5 a6) := by
  unfold startCircuit
  split
  · exact good_beginExt a0h
  · extract_lets -merge -useContext -underBinder +onlyGivenNames x3 x4 x5
    try clear_value x3
    have h6 : Good s0 x4 := by
      unfold x4
      refine good_State_each a0h (fun y7 y8 y7h => good_State_each y7h (fun y9 y10 y9h => good_State_putLane y9h))
    try clear_value x4
    have h11 : Good s0 x5 := by
      unfold x5
      refine good_beginBridge h6
    try clear_value x5
    refine good_ite (good_beginBridge a0h) ?_
    split
    · rename_i y13 e12
      have y13h : Good s0 y13 := by
        exact good_growBridge h11 e12
      exact y13h
    · exact h11

theorem good_execCircuitAdd {s0 : State} {a0 : Option (Fin 8)} {a1 : Fin 16} {a2 : Bool} {a3 : Fin 8} {a4 : Fin 16} {a5 : Fin 16}
    {a6 : State} (a6h : Good s0 a6) : ∃ t, execCircuitAdd a0 a1 a2 a3 a4 a5 a6 = .next t ∧ Good s0 t := by
  unfold execCircuitAdd
  exact ⟨_, rfl, good_startCircuit a6h⟩

theorem good_takeLane {s0 : State} {a0 : State} {a1 : ℕ} {a2 : ℕ} (a0h : Good s0 a0) : Good s0 (takeLane a0 a1 a2) := by
  unfold takeLane
  extract_lets -merge -useContext -underBinder +onlyGivenNames x0 x1
  try clear_value x0
  try clear_value x1
  refine good_ite a0h ?_
  split
  · exact good_removeCircuit a0h
  · exact a0h

theorem good_sampleBridge {s0 : State} {a0 : State} {a1 : ℕ} (a0h : Good s0 a0) : Good s0 (sampleBridge a0 a1) := by
  unfold sampleBridge
  extract_lets -merge -useContext -underBinder +onlyGivenNames x0 x1 x2 x3
  try clear_value x0
  try clear_value x1
  have h4 : Good s0 x2 := by
    unfold x2
    refine good_State_putDir a0h
  try clear_value x2
  try clear_value x3
  refine good_ite h4 ?_
  refine good_ite ?_ h4
  split
  · rename_i y6 e5
    have y6h : Good s0 y6 := by
      exact good_growBridge h4 e5
    exact y6h
  · exact good_takeLane h4

theorem good_sampleExt {s0 : State} {a0 : State} {a1 : ℕ} (a0h : Good s0 a0) : Good s0 (sampleExt a0 a1) := by
  unfold sampleExt
  refine good_ite a0h ?_
  extract_lets -merge -useContext -underBinder +onlyGivenNames x0
  have h1 : Good s0 x0 := by
    unfold x0
    refine good_ite (good_growExt a0h) a0h
  try clear_value x0
  refine good_ite (good_growExt h1) h1

theorem good_endBuild {s0 : State} {a0 : State} {a1 : ℕ} {a2 : Status} {a3 : List Sys2Proof.Byte} (a0h : Good s0 a0) : Good s0
    (endBuild a0 a1 a2 a3) := by
  unfold endBuild
  refine good_State_setBridgeBuild (good_State_respond a0h) (fun c => ?_)
  refine spWf_spSet _ _ _ _ ?_
  refine Good.at_bridgeBuild (s0 := s0) ?_ c
  exact a0h

theorem good_beginBuild {s0 : State} {a0 : State} {a1 : ℕ} (a0h : Good s0 a0) : Good s0 (beginBuild a0 a1) := by
  unfold beginBuild
  refine good_State_setBridgeBuild a0h (fun c => ?_)
  refine spWf_spSet _ _ _ _ ?_
  refine Good.at_bridgeBuild (s0 := s0) ?_ c
  exact a0h

theorem good_checkExt {s0 : State} {a0 : State} (a0h : Good s0 a0) : Good s0 (checkExt a0) := by
  unfold checkExt
  refine good_State_each a0h ?_
  intro y0 y1 y0h
  extract_lets -merge -useContext -underBinder +onlyGivenNames x2
  try clear_value x2
  refine good_ite (good_endBuild y0h) y0h

theorem good_checkRoute {s0 : State} {a0 : State} (a0h : Good s0 a0) : Good s0 (checkRoute a0) := by
  unfold checkRoute
  exact good_State_each a0h (fun y0 y1 y0h => good_ite (good_endBuild y0h) y0h)

theorem good_execCircuitUp {s0 : State} {a0 : Fin 4} {a1 : Fin 32} {a2 : Bool} {a3 : State} (a3h : Good s0 a3) : ∃ t,
    execCircuitUp a0 a1 a2 a3 = .next t ∧ Good s0 t := by
  unfold execCircuitUp
  exact ⟨_, rfl, good_checkRoute (good_checkExt (good_circuitUp a3h))⟩

theorem good_endWaits {s0 : State} {a0 : State} (a0h : Good s0 a0) : Good s0 (endWaits a0) := by
  unfold endWaits
  refine good_State_each a0h ?_
  intro y0 y1 y0h
  extract_lets -merge -useContext -underBinder +onlyGivenNames x2
  try clear_value x2
  refine good_ite (good_endBuild y0h) (good_ite (good_endBuild y0h) y0h)

theorem good_execBridgeSample {s0 : State} {a0 : State} (a0h : Good s0 a0) : ∃ t, execBridgeSample a0 = .next t ∧ Good s0 t := by
  unfold execBridgeSample
  exact ⟨_, rfl, good_ite a0h (good_endWaits (good_State_each (good_State_each (good_tuneAll a0h) (fun y0 y1 y0h =>
    good_sampleBridge y0h)) (fun y2 y3 y2h => good_sampleExt y2h)))⟩

theorem good_execOptExtSet {s0 : State} {a0 : Fin 16} {a1 : State} (a1h : Good s0 a1) : ∃ t, execOptExtSet a0 a1 = .next t ∧ Good
    s0 t := by
  unfold execOptExtSet
  refine ⟨_, rfl, ?_⟩
  refine good_State_peade a1h ?_
  intro y0 y0h
  extract_lets -merge -useContext -underBinder +onlyGivenNames x1 x2
  try clear_value x1
  have h3 : Good s0 x2 := by
    unfold x2
    refine good_State_wr (good_State_wr y0h)
  try clear_value x2
  refine good_ite (good_checkExt (good_sampleExt (good_beginBuild h3))) (good_State_respond h3)

theorem good_rebuildBridge {s0 : State} {a0 : State} {a1 : ℕ} (a0h : Good s0 a0) : Good s0 (rebuildBridge a0 a1) := by
  unfold rebuildBridge
  extract_lets -merge -useContext -underBinder +onlyGivenNames x0 x1
  try clear_value x0
  have h2 : Good s0 x1 := by
    unfold x1
    refine good_State_each a0h ?_
    intro y3 y4 y3h
    extract_lets -merge -useContext -underBinder +onlyGivenNames x5 x6
    try clear_value x5
    try clear_value x6
    refine good_ite (good_removeCircuit y3h) (good_ite (good_State_putLane y3h) y3h)
  try clear_value x1
  refine good_linkWatch h2

theorem good_routeBridge {s0 : State} {a0 : State} {a1 : ℕ} {a2 : ℕ} {a3 : ℕ} (a0h : Good s0 a0) : Good s0 (routeBridge a0 a1 a2
    a3) := by
  unfold routeBridge
  refine good_ite a0h ?_
  extract_lets -merge -useContext -underBinder +onlyGivenNames x0 x1 x2
  try clear_value x0
  have h3 : Good s0 x1 := by
    unfold x1
    refine good_State_wr (good_State_wr a0h)
  try clear_value x1
  have h4 : Good s0 x2 := by
    unfold x2
    refine good_State_wr h3
  try clear_value x2
  refine good_ite (good_rebuildBridge h4) h4

theorem good_execOptBridgeRoute {s0 : State} {a0 : Fin 16} {a1 : State} (a1h : Good s0 a1) : ∃ t, execOptBridgeRoute a0 a1 =
    .next t ∧ Good s0 t := by
  unfold execOptBridgeRoute
  refine ⟨_, rfl, ?_⟩
  refine good_State_peade a1h ?_
  intro y0 y0h
  extract_lets -merge -useContext -underBinder +onlyGivenNames x1
  try clear_value x1
  refine good_ite (good_State_respond y0h) (good_checkRoute (good_beginBuild (good_routeBridge y0h)))

theorem good_execOptCaptainSet {s0 : State} {a0 : Fin 16} {a1 : State} (a1h : Good s0 a1) : ∃ t, execOptCaptainSet a0 a1 = .next
    t ∧ Good s0 t := by
  unfold execOptCaptainSet
  exact ⟨_, rfl, good_State_peade a1h (fun y0 y0h => good_ite (good_State_respond (good_State_wr y0h)) (good_State_respond
    (good_State_wr y0h)))⟩

theorem good_showSelfRule {s0 : State} {a0 : State} (a0h : Good s0 a0) : Good s0 (showSelfRule a0) := by
  unfold showSelfRule
  exact good_State_wrB a0h

theorem good_execSidebandHeartbeat {s0 : State} {a0 : Fin 2} {a1 : State} (a1h : Good s0 a1) : ∃ t, execSidebandHeartbeat a0 a1 =
    .next t ∧ Good s0 t := by
  unfold execSidebandHeartbeat
  exact ⟨_, rfl, good_ite (good_showSelfRule (good_State_wr (good_State_putHalf a1h))) a1h⟩

theorem good_dropCross {s0 : State} {a0 : State} {a1 : ℕ} (a0h : Good s0 a0) : Good s0 (dropCross a0 a1) := by
  unfold dropCross
  exact good_State_setFabric a0h

theorem good_selfRule {s0 : State} {a0 : State} {a1 : ℕ} (a0h : Good s0 a0) : Good s0 (selfRule a0 a1) := by
  unfold selfRule
  extract_lets -merge -useContext -underBinder +onlyGivenNames x0 x1
  try clear_value x0
  have h2 : Good s0 x1 := by
    unfold x1
    refine good_showSelfRule (good_State_putHalf a0h)
  try clear_value x1
  refine good_ite (good_faultAll h2) (good_dropCross h2)

theorem good_loseSideband {s0 : State} {a0 : State} {a1 : ℕ} (a0h : Good s0 a0) : Good s0 (loseSideband a0 a1) := by
  unfold loseSideband
  extract_lets -merge -useContext -underBinder +onlyGivenNames x0 x1
  try clear_value x0
  have h2 : Good s0 x1 := by
    unfold x1
    refine good_State_wr (good_State_putHalf a0h)
  try clear_value x1
  refine good_ite (good_ite (good_selfRule h2) h2) h2

theorem good_execSidebandLoss {s0 : State} {a0 : Fin 2} {a1 : State} (a1h : Good s0 a1) : ∃ t, execSidebandLoss a0 a1 = .next t ∧
    Good s0 t := by
  unfold execSidebandLoss
  refine ⟨_, rfl, ?_⟩
  split
  · exact good_ite (good_loseSideband a1h) a1h
  · exact a1h

theorem good_declareSplit {s0 : State} {a0 : State} (a0h : Good s0 a0) : Good s0 (declareSplit a0) := by
  unfold declareSplit
  extract_lets -merge -useContext -underBinder +onlyGivenNames x0 x1
  have h2 : Good s0 x0 := by
    unfold x0
    refine good_State_wr a0h
  try clear_value x0
  have h3 : Good s0 x1 := by
    unfold x1
    refine good_faultAll h2
  try clear_value x1
  refine good_State_each h3 (fun y4 y5 y4h => good_ite (good_selfRule y4h) y4h)

theorem good_declarePeerSplit {s0 : State} {a0 : State} {a1 : ℕ} (a0h : Good s0 a0) : Good s0 (declarePeerSplit a0 a1) := by
  unfold declarePeerSplit
  extract_lets -merge -useContext -underBinder +onlyGivenNames x0 x1
  try clear_value x0
  have h2 : Good s0 x1 := by
    unfold x1
    refine good_State_putExt a0h
  try clear_value x1
  refine good_faultAll h2

theorem good_execHalfSplit {s0 : State} {a0 : Option (Fin 8)} {a1 : State} (a1h : Good s0 a1) : ∃ t, execHalfSplit a0 a1 = .next
    t ∧ Good s0 t := by
  unfold execHalfSplit
  refine ⟨_, rfl, ?_⟩
  split
  · exact good_ite (good_declareSplit a1h) a1h
  · extract_lets -merge -useContext -underBinder +onlyGivenNames x3
    try clear_value x3
    refine good_ite (good_declarePeerSplit a1h) a1h

theorem good_returnFull {s0 : State} {a0 : State} {a1 : ℕ} (a0h : Good s0 a0) : Good s0 (returnFull a0 a1) := by
  unfold returnFull
  extract_lets -merge -useContext -underBinder +onlyGivenNames x0
  try clear_value x0
  split
  · exact good_State_putJob a0h
  · exact good_ite (good_State_putJob a0h) (good_fence (good_State_putJob a0h))

theorem good_execSplitEnd {s0 : State} {a0 : Option (Fin 8)} {a1 : State} (a1h : Good s0 a1) : ∃ t, execSplitEnd a0 a1 = .next t
    ∧ Good s0 t := by
  unfold execSplitEnd
  refine ⟨_, rfl, ?_⟩
  split
  · refine good_ite ?_ a1h
    extract_lets -merge -useContext -underBinder +onlyGivenNames x1 x2
    try clear_value x1
    have h3 : Good s0 x2 := by
      unfold x2
      refine good_State_wr a1h
    try clear_value x2
    refine good_State_each (good_showSelfRule (good_State_each h3 (fun y4 y5 y4h => good_State_putHalf y4h))) (fun y6 y7 y6h =>
      good_returnFull y6h)
  · extract_lets -merge -useContext -underBinder +onlyGivenNames x10
    try clear_value x10
    refine good_ite (good_State_each (good_State_putExt a1h) (fun y11 y12 y11h => good_returnFull y11h)) a1h

end Sys2Proof.Machine
end

