-- ==== Sys2Proof/Laws/KeepsMeshProgress.lean ====
section
/-! SUPPORT. Laws/KeepsMeshProgress.lean: every operation of Machine/MeshProgress.lean keeps what Laws/Keeps.lean names. -/

namespace Sys2Proof.Machine

theorem good_carryReceive {s0 : State} {a0 : State} {a1 : ℕ} (a0h : Good s0 a0) : Good s0 (carryReceive a0 a1) := by
  unfold carryReceive
  exact good_State_each a0h (fun y0 y1 y0h => good_State_putMeshTbl y0h)

theorem good_matrixComputed {s0 : State} {a0 : State} {a1 : ℕ} (a0h : Good s0 a0) : Good s0 (matrixComputed a0 a1) := by
  unfold matrixComputed
  extract_lets -merge -useContext -underBinder +onlyGivenNames x0
  try clear_value x0
  split
  · rename_i y2 y3 e1
    have y3h : Good s0 y3 := by
      exact (congrArg (fun p => Good s0 p.2) e1).mp (good_State_draw a0h)
    extract_lets -merge -useContext -underBinder +onlyGivenNames x4 x5 x6
    have h7 : Good s0 x4 := by
      unfold x4
      refine good_writeReceive (good_writeHeaters y3h)
    try clear_value x4
    try clear_value x5
    have h8 : Good s0 x6 := by
      unfold x6
      refine good_State_putChip h7
    try clear_value x6
    split
    · exact h8
    · split
      · exact good_gradeProgress h8
      · exact good_meshReady h8
      · exact h8
      · exact h8
      · exact h8

theorem good_matrixRefused {s0 : State} {a0 : State} {a1 : ℕ} (a0h : Good s0 a0) : Good s0 (matrixRefused a0 a1) := by
  unfold matrixRefused
  split
  · exact good_abandonChange a0h
  · split
    · exact good_failLoad a0h
    · exact good_gradeFails a0h
    · exact good_failStage a0h
    · exact good_abandonChange a0h
    · exact good_abandonChange a0h

theorem good_execMatrixComputeDone {s0 : State} {a0 : Fin 4} {a1 : Bool} {a2 : State} (a2h : Good s0 a2) : ∃ t,
    execMatrixComputeDone a0 a1 a2 = .next t ∧ Good s0 t := by
  unfold execMatrixComputeDone
  refine ⟨_, rfl, ?_⟩
  extract_lets -merge -useContext -underBinder +onlyGivenNames x0
  try clear_value x0
  refine good_ite a2h ?_
  split
  · exact good_ite (good_matrixComputed a2h) (good_matrixRefused a2h)
  · refine good_ite ?_ a2h
    split
    · rename_i y4 y5 e3
      have y5h : Good s0 y5 := by
        exact (congrArg (fun p => Good s0 p.2) e3).mp (good_State_draw a2h)
      extract_lets -merge -useContext -underBinder +onlyGivenNames x6 x7
      have h8 : Good s0 x6 := by
        unfold x6
        refine good_carryReceive (good_writeHeaters y5h)
      try clear_value x6
      try clear_value x7
      refine good_State_putChip h8
  · exact a2h
  · exact a2h

theorem good_settleDone {s0 : State} {a0 : State} {a1 : ℕ} {a2 : ℕ} (a0h : Good s0 a0) : Good s0 (settleDone a0 a1 a2) := by
  unfold settleDone
  refine good_ite a0h ?_
  extract_lets -merge -useContext -underBinder +onlyGivenNames x0 x1 x2 x3
  have h4 : Good s0 x0 := by
    unfold x0
    refine good_State_wrSat (good_State_bumpBy a0h)
  try clear_value x0
  try clear_value x1
  have h5 : Good s0 x2 := by
    unfold x2
    refine good_State_putChip h4
  try clear_value x2
  try clear_value x3
  refine good_ite (good_meshLost (good_State_raise h5)) (good_ite (good_startTrim (good_setMesh h5)) (good_meshServes
    (good_setMesh (good_State_putChip h5))))

theorem good_execMeshSettleDone {s0 : State} {a0 : Fin 4} {a1 : Fin 65536} {a2 : State} (a2h : Good s0 a2) : ∃ t,
    execMeshSettleDone a0 a1 a2 = .next t ∧ Good s0 t := by
  unfold execMeshSettleDone
  exact ⟨_, rfl, good_settleDone a2h⟩

theorem good_chipFailed {s0 : State} {a0 : State} {a1 : ℕ} (a0h : Good s0 a0) : Good s0 (chipFailed a0 a1) := by
  unfold chipFailed
  exact good_setMesh (good_State_putChip a0h)

theorem good_chipAvailable {s0 : State} {a0 : State} {a1 : ℕ} (a0h : Good s0 a0) : Good s0 (chipAvailable a0 a1) := by
  unfold chipAvailable
  extract_lets -merge -useContext -underBinder +onlyGivenNames x0 x1
  try clear_value x0
  have h2 : Good s0 x1 := by
    unfold x1
    refine good_setMesh (good_State_putChip a0h)
  try clear_value x1
  split
  · exact good_placeMatrix h2
  · exact good_seekReturns h2

theorem good_xtalkDone {s0 : State} {a0 : State} {a1 : ℕ} {a2 : Bool} {a3 : ℕ} (a0h : Good s0 a0) : Good s0 (xtalkDone a0 a1 a2
    a3) := by
  unfold xtalkDone
  extract_lets -merge -useContext -underBinder +onlyGivenNames x0
  try clear_value x0
  refine good_ite a0h ?_
  split
  · rename_i y2 y3 e1
    have y3h : Good s0 y3 := by
      exact (congrArg (fun p => Good s0 p.2) e1).mp (good_State_draw a0h)
    extract_lets -merge -useContext -underBinder +onlyGivenNames x4 x5 x6 x7 x8 x9 x10 x11 x12
    try clear_value x4
    try clear_value x5
    have h13 : Good s0 x6 := by
      unfold x6
      refine good_ite (good_State_putChip y3h) y3h
    try clear_value x6
    have h14 : Good s0 x7 := by
      unfold x7
      refine good_State_wrSat (good_State_bumpBy h13)
    try clear_value x7
    try clear_value x8
    have h15 : Good s0 x9 := by
      unfold x9
      refine good_carryReceive (good_writeHeaters h13)
    try clear_value x9
    try clear_value x10
    try clear_value x11
    have h16 : Good s0 x12 := by
      unfold x12
      refine good_ite (good_ite (good_chipAvailable h14) (good_chipFailed h14)) (good_ite (good_ite (good_State_putChip h13)
        (good_chipFailed h13)) (good_ite (good_State_putChip h15) (good_State_putChip h13)))
    try clear_value x12
    refine good_tryLoad h16

theorem good_execXtalkRebuildDone {s0 : State} {a0 : Fin 4} {a1 : Bool} {a2 : Fin 65536} {a3 : State} (a3h : Good s0 a3) : ∃ t,
    execXtalkRebuildDone a0 a1 a2 a3 = .next t ∧ Good s0 t := by
  unfold execXtalkRebuildDone
  exact ⟨_, rfl, good_xtalkDone a3h⟩

theorem good_execOosCleared {s0 : State} {a0 : Fin 4} {a1 : State} (a1h : Good s0 a1) : ∃ t, execOosCleared a0 a1 = .next t ∧
    Good s0 t := by
  unfold execOosCleared
  refine ⟨_, rfl, ?_⟩
  extract_lets -merge -useContext -underBinder +onlyGivenNames x0
  try clear_value x0
  refine good_ite (good_startXtalk (good_State_putChip a1h)) a1h

theorem good_execOptClockTimeout {s0 : State} {a0 : Fin 4} {a1 : State} (a1h : Good s0 a1) : ∃ t, execOptClockTimeout a0 a1 =
    .next t ∧ Good s0 t := by
  unfold execOptClockTimeout
  exact ⟨_, rfl, good_ite (good_meshLost a1h) a1h⟩

theorem good_putFeed {s0 : State} {a0 : State} {a1 : ℕ} {a2 : Bool} (a0h : Good s0 a0) : Good s0 (putFeed a0 a1 a2) := by
  unfold putFeed
  exact good_ite (good_State_wrB a0h) (good_State_wrB a0h)

theorem good_darkChip {s0 : State} {a0 : State} {a1 : ℕ} (a0h : Good s0 a0) : Good s0 (darkChip a0 a1) := by
  unfold darkChip
  extract_lets -merge -useContext -underBinder +onlyGivenNames x0 x1 x2 x3
  have h4 : Good s0 x0 := by
    unfold x0
    refine good_dropPasses a0h
  try clear_value x0
  try clear_value x1
  have h5 : Good s0 x2 := by
    unfold x2
    refine good_State_putChip h4
  try clear_value x2
  try clear_value x3
  refine good_ite (good_setMesh (good_State_putChip h5)) h5

theorem good_darken {s0 : State} {a0 : State} (a0h : Good s0 a0) : Good s0 (darken a0) := by
  unfold darken
  extract_lets -merge -useContext -underBinder +onlyGivenNames x0 x1
  have h2 : Good s0 x0 := by
    unfold x0
    refine good_State_each a0h (fun y3 y4 y3h => good_chipCircuitsDown y3h)
  try clear_value x0
  try clear_value x1
  refine good_State_each h2 (fun y5 y6 y5h => good_detectFault y5h)

theorem good_beginMove {s0 : State} {a0 : State} {a1 : ℕ} (a0h : Good s0 a0) : Good s0 (beginMove a0 a1) := by
  unfold beginMove
  exact good_ite a0h (good_State_setFeedMove (good_State_wr (good_State_each (good_darken a0h) (fun y0 y1 y0h => good_darkChip
    y0h))))

theorem good_feedGone {s0 : State} {a0 : State} (a0h : Good s0 a0) : Good s0 (feedGone a0) := by
  unfold feedGone
  extract_lets -merge -useContext -underBinder +onlyGivenNames x0
  try clear_value x0
  refine good_ite a0h (good_ite (good_ite (good_beginMove a0h) (good_State_each a0h (fun y1 y2 y1h => good_chipCircuitsDown
    y1h))) (good_State_each a0h (fun y3 y4 y3h => good_meshLost (good_chipCircuitsDown y3h))))

theorem good_execFeedLoss {s0 : State} {a0 : Fin 2} {a1 : State} (a1h : Good s0 a1) : ∃ t, execFeedLoss a0 a1 = .next t ∧ Good s0
    t := by
  unfold execFeedLoss
  refine ⟨_, rfl, ?_⟩
  refine good_ite a1h ?_
  extract_lets -merge -useContext -underBinder +onlyGivenNames x0
  have h1 : Good s0 x0 := by
    unfold x0
    refine good_putFeed a1h
  try clear_value x0
  refine good_ite h1 (good_feedGone h1)

theorem good_execFeedPresent {s0 : State} {a0 : Fin 2} {a1 : State} (a1h : Good s0 a1) : ∃ t, execFeedPresent a0 a1 = .next t ∧
    Good s0 t := by
  unfold execFeedPresent
  refine ⟨_, rfl, ?_⟩
  extract_lets -merge -useContext -underBinder +onlyGivenNames x0
  have h1 : Good s0 x0 := by
    unfold x0
    refine good_putFeed a1h
  try clear_value x0
  refine good_ite (good_beginMove h1) h1

theorem good_moveDone {s0 : State} {a0 : State} (a0h : Good s0 a0) : Good s0 (moveDone a0) := by
  unfold moveDone
  split
  · exact a0h
  · refine good_ite a0h ?_
    extract_lets -merge -useContext -underBinder +onlyGivenNames x4 x5 x6
    have h7 : Good s0 x4 := by
      unfold x4
      refine good_State_bump (good_State_wr (good_State_wr a0h))
    try clear_value x4
    have h8 : Good s0 x5 := by
      unfold x5
      refine good_State_setFeedMove h7
    try clear_value x5
    have h9 : Good s0 x6 := by
      unfold x6
      split
      · exact good_State_respond h8
      · exact h8
    try clear_value x6
    refine good_feedGone h9

theorem good_execFeedMoveDone {s0 : State} {a0 : State} (a0h : Good s0 a0) : ∃ t, execFeedMoveDone a0 = .next t ∧ Good s0 t := by
  unfold execFeedMoveDone
  exact ⟨_, rfl, good_moveDone a0h⟩

theorem good_feedCfgEffect {s0 : State} {a0 : State} (a0h : Good s0 a0) : Good s0 (feedCfgEffect a0) := by
  unfold feedCfgEffect
  extract_lets -merge -useContext -underBinder +onlyGivenNames x0
  try clear_value x0
  refine good_ite (good_beginMove a0h) (good_ite (good_beginMove a0h) a0h)

theorem good_execOptFeedSet {s0 : State} {a0 : Fin 16} {a1 : State} (a1h : Good s0 a1) : ∃ t, execOptFeedSet a0 a1 = .next t ∧
    Good s0 t := by
  unfold execOptFeedSet
  refine ⟨_, rfl, ?_⟩
  refine good_State_peade a1h ?_
  intro y0 y0h
  extract_lets -merge -useContext -underBinder +onlyGivenNames x1 x2
  have h3 : Good s0 x1 := by
    unfold x1
    refine good_State_wr (good_State_wr y0h)
  try clear_value x1
  have h4 : Good s0 x2 := by
    unfold x2
    refine good_feedCfgEffect h3
  try clear_value x2
  refine good_ite h4 (good_State_respond h4)

theorem good_execOptStatus {s0 : State} {a0 : Fin 16} {a1 : State} (a1h : Good s0 a1) : ∃ t, execOptStatus a0 a1 = .next t ∧ Good
    s0 t := by
  unfold execOptStatus
  refine ⟨_, rfl, ?_⟩
  refine good_State_peade a1h ?_
  intro y0 y0h
  extract_lets -merge -useContext -underBinder +onlyGivenNames x1 x2 x3
  try clear_value x1
  try clear_value x2
  try clear_value x3
  refine good_State_respond y0h

end Sys2Proof.Machine
end

