-- ==== Sys2Proof/Laws/KeepsRings.lean ====
section
/-! SUPPORT. Laws/KeepsRings.lean: every operation of Machine/Rings.lean keeps what Laws/Keeps.lean names. -/

namespace Sys2Proof.Machine

theorem good_ringCircuitDown {s0 : State} {a0 : State} {a1 : ℕ} {a2 : ℕ} (a0h : Good s0 a0) : Good s0 (ringCircuitDown a0 a1 a2)
    := by
  unfold ringCircuitDown
  split
  · exact a0h
  · extract_lets -merge -useContext -underBinder +onlyGivenNames x4
    try clear_value x4
    refine good_ite (good_circuitDown a0h) a0h

theorem good_ringTakesChip {s0 : State} {a0 : State} {a1 : ℕ} {a2 : ℕ} (a0h : Good s0 a0) : Good s0 (ringTakesChip a0 a1 a2) := by
  unfold ringTakesChip
  extract_lets -merge -useContext -underBinder +onlyGivenNames x0
  have h1 : Good s0 x0 := by
    unfold x0
    refine good_ite (good_chipCircuitsDown a0h) a0h
  try clear_value x0
  refine good_ite (good_ite h1 (good_meshLost (good_State_raise h1))) (good_ringCircuitDown h1)

theorem good_failRing {s0 : State} {a0 : State} {a1 : ℕ} {a2 : ℕ} (a0h : Good s0 a0) : Good s0 (failRing a0 a1 a2) := by
  unfold failRing
  extract_lets -merge -useContext -underBinder +onlyGivenNames x0 x1 x2 x3 x4 x5
  try clear_value x0
  have h6 : Good s0 x1 := by
    unfold x1
    refine good_State_raise (good_State_putRing a0h)
  try clear_value x1
  have h7 : Good s0 x2 := by
    unfold x2
    refine good_ringTakesChip h6
  try clear_value x2
  try clear_value x3
  have h8 : Good s0 x4 := by
    unfold x4
    refine good_ite (good_State_putChip h7) h7
  try clear_value x4
  have h9 : Good s0 x5 := by
    unfold x5
    split
    · exact good_State_putLane h8
    · exact h8
  try clear_value x5
  refine good_showRings h9

theorem good_putRingWork {s0 : State} {a0 : State} {a1 : ℕ} {a2 : FeedFwd} (a0h : Good s0 a0) : Good s0 (putRingWork a0 a1 a2) :=
    by
  unfold putRingWork
  refine good_State_setFeedFwd a0h (fun c => ?_)
  refine spWf_spSet _ _ _ _ ?_
  refine Good.at_feedFwd (s0 := s0) ?_ c
  exact a0h

theorem good_startSweeps {s0 : State} {a0 : State} {a1 : ℕ} (a0h : Good s0 a0) : Good s0 (startSweeps a0 a1) := by
  unfold startSweeps
  extract_lets -merge -useContext -underBinder +onlyGivenNames x0 x1
  try clear_value x0
  have h2 : Good s0 x1 := by
    unfold x1
    refine good_State_each a0h (fun y3 y4 y3h => good_coupleRing (good_State_putRing y3h))
  try clear_value x1
  refine good_showRings h2

theorem good_lockPhase {s0 : State} {a0 : State} {a1 : ℕ} (a0h : Good s0 a0) : Good s0 (lockPhase a0 a1) := by
  unfold lockPhase
  refine good_State_each a0h ?_
  intro y0 y1 y0h
  extract_lets -merge -useContext -underBinder +onlyGivenNames x2
  try clear_value x2
  refine good_ite (good_State_putRing y0h) y0h

theorem good_searchOn {s0 : State} {a0 : State} {a1 : ℕ} (a0h : Good s0 a0) : Good s0 (searchOn a0 a1) := by
  unfold searchOn
  extract_lets -merge -useContext -underBinder +onlyGivenNames x0 x1 x2 x3
  try clear_value x0
  try clear_value x1
  have h4 : Good s0 x2 := by
    unfold x2
    refine good_lockPhase a0h
  try clear_value x2
  try clear_value x3
  refine good_ite (good_startSweeps a0h) (good_startSweeps (good_putRingWork h4))

theorem good_execRingSearchStart {s0 : State} {a0 : State} (a0h : Good s0 a0) : ∃ t, execRingSearchStart a0 = .next t ∧ Good s0 t
    := by
  unfold execRingSearchStart
  exact ⟨_, rfl, good_ite (good_State_each a0h (fun y0 y1 y0h => good_ite (good_startSweeps (good_putRingWork (good_State_wr
    y0h))) y0h)) a0h⟩

theorem good_sweepDone {s0 : State} {a0 : State} {a1 : ℕ} {a2 : ℕ} {a3 : List ℕ} {a4 : ℕ} {a5 : ℕ} (a0h : Good s0 a0) : Good s0
    (sweepDone a0 a1 a2 a3 a4 a5) := by
  unfold sweepDone
  extract_lets -merge -useContext -underBinder +onlyGivenNames x0 x1
  try clear_value x0
  try clear_value x1
  split
  · extract_lets -merge -useContext -underBinder +onlyGivenNames x4 x5 x6
    try clear_value x4
    have h7 : Good s0 x5 := by
      unfold x5
      refine good_coupleRing a0h
    try clear_value x5
    try clear_value x6
    refine good_showRings (good_State_putRing h7)
  · exact good_ite (good_State_putRing a0h) (good_failRing a0h)

theorem good_execRingSweepDone {s0 : State} {a0 : Fin 4} {a1 : Fin 1584} {a2 : List ℕ} {a3 : State} (a3h : Good s0 a3) : ∃ t,
    execRingSweepDone a0 a1 a2 a3 = .next t ∧ Good s0 t := by
  unfold execRingSweepDone
  exact ⟨_, rfl, good_ite (good_searchOn (good_sweepDone a3h)) a3h⟩

theorem good_searchDone {s0 : State} {a0 : State} {a1 : ℕ} (a0h : Good s0 a0) : Good s0 (searchDone a0 a1) := by
  unfold searchDone
  extract_lets -merge -useContext -underBinder +onlyGivenNames x0 x1 x2 x3 x4 x5 x6 x7
  try clear_value x0
  have h8 : Good s0 x1 := by
    unfold x1
    refine good_State_each a0h (fun y9 y10 y9h => good_ite (good_coupleRing (good_tuneRing y9h)) y9h)
  try clear_value x1
  try clear_value x2
  have h11 : Good s0 x3 := by
    unfold x3
    refine good_State_raise (good_State_wr h8)
  try clear_value x3
  try clear_value x4
  have h12 : Good s0 x5 := by
    unfold x5
    refine good_putRingWork h11
  try clear_value x5
  have h13 : Good s0 x6 := by
    unfold x6
    refine good_State_each h12 (fun y14 y15 y14h => good_lockMon y14h)
  try clear_value x6
  have h16 : Good s0 x7 := by
    unfold x7
    refine good_State_wr (good_showRings h13)
  try clear_value x7
  refine good_ite a0h (good_ite (good_tryLoad h16) (good_tryLoad (good_startXtalk h16)))

theorem good_execRingSearchDone {s0 : State} {a0 : Fin 4} {a1 : State} (a1h : Good s0 a1) : ∃ t, execRingSearchDone a0 a1 = .next
    t ∧ Good s0 t := by
  unfold execRingSearchDone
  exact ⟨_, rfl, good_searchDone a1h⟩

theorem good_ringWrong {s0 : State} {a0 : State} {a1 : ℕ} {a2 : ℕ} {a3 : Fld} (a0h : Good s0 a0) : Good s0 (ringWrong a0 a1 a2
    a3) := by
  unfold ringWrong
  extract_lets -merge -useContext -underBinder +onlyGivenNames x0 x1 x2 x3
  have h4 : Good s0 x0 := by
    unfold x0
    refine good_ite (good_State_each a0h (fun y5 y6 y5h => good_ite y5h (good_State_putRing y5h))) a0h
  try clear_value x0
  have h7 : Good s0 x1 := by
    unfold x1
    refine good_State_raise (good_coupleRing h4)
  try clear_value x1
  try clear_value x2
  have h8 : Good s0 x3 := by
    unfold x3
    refine good_State_putRing h7
  try clear_value x3
  refine good_showRings (good_ringTakesChip h8)

theorem good_confirmFails {s0 : State} {a0 : State} {a1 : ℕ} {a2 : ℕ} {a3 : ℕ} (a0h : Good s0 a0) : Good s0 (confirmFails a0 a1
    a2 a3) := by
  unfold confirmFails
  extract_lets -merge -useContext -underBinder +onlyGivenNames x0 x1
  try clear_value x0
  try clear_value x1
  refine good_ite (good_failRing (good_State_putRing a0h)) (good_State_putRing a0h)

theorem good_judgeTone {s0 : State} {a0 : State} {a1 : ℕ} {a2 : ToneRead} (a0h : Good s0 a0) : Good s0 (judgeTone a0 a1 a2) := by
  unfold judgeTone
  extract_lets -merge -useContext -underBinder +onlyGivenNames x0 x1 x2 x3
  try clear_value x0
  try clear_value x1
  have h4 : Good s0 x2 := by
    unfold x2
    refine good_putRingWork a0h
  try clear_value x2
  try clear_value x3
  refine good_ite (good_ite (good_State_putRing h4) (good_ite (good_confirmFails h4) (good_ringWrong (good_State_putRing h4))))
    (good_ite (good_ite (good_State_putRing h4) (good_ite (good_confirmFails h4) (good_ringWrong (good_State_putRing h4)))) h4)

theorem good_showStepCheck {s0 : State} {a0 : State} {a1 : ℕ} (a0h : Good s0 a0) : Good s0 (showStepCheck a0 a1) := by
  unfold showStepCheck
  exact good_ite (good_State_wr a0h) a0h

theorem good_toneWindow {s0 : State} {a0 : State} {a1 : ℕ} {a2 : List ToneRead} (a0h : Good s0 a0) : Good s0 (toneWindow a0 a1
    a2) := by
  unfold toneWindow
  extract_lets -merge -useContext -underBinder +onlyGivenNames x0 x1 x2
  try clear_value x0
  try clear_value x1
  have h3 : Good s0 x2 := by
    unfold x2
    refine good_ite a0h (good_putRingWork a0h)
  try clear_value x2
  refine good_showStepCheck (good_State_each h3 (fun y4 y5 y4h => good_judgeTone y4h))

theorem good_execToneWindow {s0 : State} {a0 : Fin 4} {a1 : List ToneRead} {a2 : State} (a2h : Good s0 a2) : ∃ t, execToneWindow
    a0 a1 a2 = .next t ∧ Good s0 t := by
  unfold execToneWindow
  exact ⟨_, rfl, good_toneWindow a2h⟩

theorem good_execRingDark {s0 : State} {a0 : Fin 4} {a1 : Fin 1584} {a2 : State} (a2h : Good s0 a2) : ∃ t, execRingDark a0 a1 a2
    = .next t ∧ Good s0 t := by
  unfold execRingDark
  refine ⟨_, rfl, ?_⟩
  extract_lets -merge -useContext -underBinder +onlyGivenNames x0
  try clear_value x0
  refine good_ite (good_State_putRing a2h) a2h

theorem good_retrain {s0 : State} {a0 : State} {a1 : ℕ} {a2 : ℕ} (a0h : Good s0 a0) : Good s0 (retrain a0 a1 a2) := by
  unfold retrain
  split
  · extract_lets -merge -useContext -underBinder +onlyGivenNames x2
    try clear_value x2
    refine good_ite (good_State_each (good_setEnds a0h) (fun y3 y4 y3h => good_State_putLane y3h)) a0h
  · exact a0h

theorem good_execRingLightReturn {s0 : State} {a0 : Fin 4} {a1 : Fin 1584} {a2 : State} (a2h : Good s0 a2) : ∃ t,
    execRingLightReturn a0 a1 a2 = .next t ∧ Good s0 t := by
  unfold execRingLightReturn
  refine ⟨_, rfl, ?_⟩
  extract_lets -merge -useContext -underBinder +onlyGivenNames x0
  try clear_value x0
  split
  · exact good_ite (good_retrain (good_State_putRing a2h)) a2h
  · exact a2h

theorem good_execRingDarkTimeout {s0 : State} {a0 : Fin 4} {a1 : State} (a1h : Good s0 a1) : ∃ t, execRingDarkTimeout a0 a1 =
    .next t ∧ Good s0 t := by
  unfold execRingDarkTimeout
  refine ⟨_, rfl, ?_⟩
  extract_lets -merge -useContext -underBinder +onlyGivenNames x0
  try clear_value x0
  refine good_ite (good_showRings (good_State_each a1h (fun y1 y2 y1h => good_coupleRing (good_State_putRing y1h)))) a1h

theorem good_researchDone {s0 : State} {a0 : State} {a1 : ℕ} {a2 : ℕ} {a3 : List ℕ} {a4 : ToneRead} (a0h : Good s0 a0) : Good s0
    (researchDone a0 a1 a2 a3 a4) := by
  unfold researchDone
  extract_lets -merge -useContext -underBinder +onlyGivenNames x0 x1 x2
  try clear_value x0
  have h3 : Good s0 x1 := by
    unfold x1
    refine good_State_raise a0h
  try clear_value x1
  have h4 : Good s0 x2 := by
    unfold x2
    refine good_sweepDone h3
  try clear_value x2
  refine good_ite (good_ite (good_judgeTone h4) h4) a0h

theorem good_execPartialResearchDone {s0 : State} {a0 : Fin 4} {a1 : Fin 1584} {a2 : List ℕ} {a3 : ToneRead} {a4 : State} (a4h :
    Good s0 a4) : ∃ t, execPartialResearchDone a0 a1 a2 a3 a4 = .next t ∧ Good s0 t := by
  unfold execPartialResearchDone
  exact ⟨_, rfl, good_researchDone a4h⟩

theorem good_readMonitor {s0 : State} {a0 : State} {a1 : MonRead} (a0h : Good s0 a0) : Good s0 (readMonitor a0 a1) := by
  unfold readMonitor
  extract_lets -merge -useContext -underBinder +onlyGivenNames x0 x1 x2 x3
  try clear_value x0
  have h4 : Good s0 x1 := by
    unfold x1
    refine good_State_putMon a0h
  try clear_value x1
  try clear_value x2
  try clear_value x3
  refine good_ite (good_State_putMon h4) (good_State_putMon h4)

theorem good_locateLoss {s0 : State} {a0 : State} {a1 : ℕ × ℕ × ℕ × ℕ} {a2 : Bool} (a0h : Good s0 a0) : Good s0 (locateLoss a0 a1
    a2) := by
  unfold locateLoss
  extract_lets -merge -useContext -underBinder +onlyGivenNames x0
  have h1 : Good s0 x0 := by
    unfold x0
    refine good_State_bump (good_State_raise a0h)
  try clear_value x0
  refine good_ite (good_State_wr (good_State_wr (good_State_wr (good_State_wr h1)))) h1

theorem good_showLight {s0 : State} {a0 : State} {a1 : ℕ} (a0h : Good s0 a0) : Good s0 (showLight a0 a1) := by
  unfold showLight
  extract_lets -merge -useContext -underBinder +onlyGivenNames x0 x1 x2
  try clear_value x0
  try clear_value x1
  try clear_value x2
  refine good_ite (good_State_wrB (good_State_putChip a0h)) a0h

theorem good_execMonitorSample {s0 : State} {a0 : List MonRead} {a1 : State} (a1h : Good s0 a1) : ∃ t, execMonitorSample a0 a1 =
    .next t ∧ Good s0 t := by
  unfold execMonitorSample
  refine ⟨_, rfl, ?_⟩
  extract_lets -merge -useContext -underBinder +onlyGivenNames x0 x1 x2 x3 x4
  have h5 : Good s0 x0 := by
    unfold x0
    refine good_State_each a1h (fun y6 y7 y6h => good_readMonitor y6h)
  try clear_value x0
  try clear_value x1
  try clear_value x2
  try clear_value x3
  have h8 : Good s0 x4 := by
    unfold x4
    refine good_State_each h5 (fun y9 y10 y9h => good_locateLoss (good_State_putMon y9h))
  try clear_value x4
  refine good_tuneAll (good_State_each h8 (fun y11 y12 y11h => good_showLight y11h))

end Sys2Proof.Machine
end

