-- ==== Sys2Proof/Laws/KeepsWset.lean ====
section
/-! SUPPORT. Laws/KeepsWset.lean: every operation of Machine/Wset.lean keeps what Laws/Keeps.lean names. -/

namespace Sys2Proof.Machine

theorem good_showArm {s0 : State} {a0 : State} {a1 : ℕ} (a0h : Good s0 a0) : Good s0 (showArm a0 a1) := by
  unfold showArm
  extract_lets -merge -useContext -underBinder +onlyGivenNames x0 x1
  try clear_value x0
  have h2 : Good s0 x1 := by
    unfold x1
    refine good_State_wrB a0h
  try clear_value x1
  refine good_ite (good_State_wr (good_State_wr h2)) h2

theorem good_clearArm {s0 : State} {a0 : State} {a1 : ℕ} (a0h : Good s0 a0) : Good s0 (clearArm a0 a1) := by
  unfold clearArm
  exact good_showArm (good_State_putArm a0h)

theorem good_clearSlotArms {s0 : State} {a0 : State} {a1 : ℕ} (a0h : Good s0 a0) : Good s0 (clearSlotArms a0 a1) := by
  unfold clearSlotArms
  exact good_State_each a0h (fun y0 y1 y0h => good_ite (good_clearArm y0h) y0h)

theorem good_execStreamBulkArm {s0 : State} {a0 : Fin 16} {a1 : State} (a1h : Good s0 a1) : ∃ t, execStreamBulkArm a0 a1 = .next
    t ∧ Good s0 t := by
  unfold execStreamBulkArm
  refine ⟨_, rfl, ?_⟩
  refine good_State_peade a1h ?_
  intro y0 y0h
  extract_lets -merge -useContext -underBinder +onlyGivenNames x1 x2 x3 x4 x5 x6
  try clear_value x1
  try clear_value x2
  try clear_value x3
  try clear_value x4
  have h7 : Good s0 x5 := by
    unfold x5
    refine good_State_setBulk y0h
  try clear_value x5
  have h8 : Good s0 x6 := by
    unfold x6
    refine good_State_putArm h7
  try clear_value x6
  refine good_ite (good_State_respond y0h) (good_ite (good_State_respond y0h) (good_State_respond (good_showArm h8)))

theorem good_execStreamBulkDisarm {s0 : State} {a0 : Fin 16} {a1 : State} (a1h : Good s0 a1) : ∃ t, execStreamBulkDisarm a0 a1 =
    .next t ∧ Good s0 t := by
  unfold execStreamBulkDisarm
  refine ⟨_, rfl, ?_⟩
  refine good_State_peade a1h ?_
  intro y0 y0h
  extract_lets -merge -useContext -underBinder +onlyGivenNames x1 x2
  try clear_value x1
  try clear_value x2
  refine good_ite (good_State_respond y0h) (good_ite (good_State_respond y0h) (good_State_respond (good_clearArm y0h)))

theorem good_takeManifest {s0 : State} {a0 : State} {a1 : ℕ} {a2 : ℕ} {a3 : ℕ} {a4 : List Sys2Proof.Byte} (a0h : Good s0 a0) :
    Good s0 (takeManifest a0 a1 a2 a3 a4) := by
  unfold takeManifest
  extract_lets -merge -useContext -underBinder +onlyGivenNames x0 x1 x2 x3
  try clear_value x0
  have h4 : Good s0 x1 := by
    unfold x1
    refine good_bulkOutcome a0h
  try clear_value x1
  have h5 : Good s0 x2 := by
    unfold x2
    refine good_State_putSlot h4
  try clear_value x2
  try clear_value x3
  refine good_ite (good_clearArm (good_bulkOutcome a0h)) (good_showArm (good_State_putArm h5))

theorem good_takeShard {s0 : State} {a0 : State} {a1 : ℕ} {a2 : ℕ} {a3 : ℕ} {a4 : List Sys2Proof.Byte} (a0h : Good s0 a0) : Good
    s0 (takeShard a0 a1 a2 a3 a4) := by
  unfold takeShard
  extract_lets -merge -useContext -underBinder +onlyGivenNames x0 x1 x2
  try clear_value x0
  try clear_value x1
  have h3 : Good s0 x2 := by
    unfold x2
    refine good_bulkOutcome a0h
  try clear_value x2
  refine good_ite (good_State_raise (good_bulkOutcome a0h)) (good_State_setBulk h3)

theorem good_endFrame {s0 : State} {a0 : State} {a1 : ℕ} {a2 : Bool} (a0h : Good s0 a0) : Good s0 (endFrame a0 a1 a2) := by
  unfold endFrame
  extract_lets -merge -useContext -underBinder +onlyGivenNames x0 x1 x2 x3 x4 x5
  try clear_value x0
  try clear_value x1
  have h6 : Good s0 x2 := by
    unfold x2
    refine good_State_putArm a0h
  try clear_value x2
  try clear_value x3
  try clear_value x4
  have h7 : Good s0 x5 := by
    unfold x5
    refine good_bulkOutcome (good_State_putSt h6)
  try clear_value x5
  refine good_ite (good_ite h7 (good_clearArm (good_State_setBulk h7))) ?_
  refine good_ite (good_bulkOutcome h6) ?_
  split
  · extract_lets -merge -useContext -underBinder +onlyGivenNames x9
    have h10 : Good s0 x9 := by
      unfold x9
      refine good_bulkOutcome h6
    try clear_value x9
    refine good_ite (good_State_raise h10) h10
  · extract_lets -merge -useContext -underBinder +onlyGivenNames x13
    have h14 : Good s0 x13 := by
      unfold x13
      refine good_State_putSt h6
    try clear_value x13
    refine good_ite (good_takeManifest h14) (good_takeShard h14)

theorem good_bulkStart {s0 : State} {a0 : State} {a1 : ℕ} (a0h : Good s0 a0) : Good s0 (bulkStart a0 a1) := by
  unfold bulkStart
  split
  · exact good_State_raiseRx a0h
  · extract_lets -merge -useContext -underBinder +onlyGivenNames x3 x4
    have h5 : Good s0 x3 := by
      unfold x3
      refine good_ite (good_endFrame a0h) a0h
    try clear_value x3
    try clear_value x4
    refine good_State_wr (good_State_putArm h5)

theorem good_bulkPacket {s0 : State} {a0 : State} {a1 : ℕ} {a2 : List Sys2Proof.Byte} {a3 : Bool} (a0h : Good s0 a0) : Good s0
    (bulkPacket a0 a1 a2 a3) := by
  unfold bulkPacket
  extract_lets -merge -useContext -underBinder +onlyGivenNames x0
  have h1 : Good s0 x0 := by
    unfold x0
    refine good_ite a0h (good_State_raiseRx (good_State_bump a0h))
  try clear_value x0
  split
  · exact h1
  · extract_lets -merge -useContext -underBinder +onlyGivenNames x5 x6 x7
    try clear_value x5
    try clear_value x6
    try clear_value x7
    refine good_ite h1 (good_State_wr (good_State_putArm h1))

theorem good_bulkEnd_ {s0 : State} {a0 : State} {a1 : ℕ} {a2 : Bool} (a0h : Good s0 a0) : Good s0 (bulkEnd_ a0 a1 a2) := by
  unfold bulkEnd_
  split
  · exact a0h
  · exact good_ite (good_endFrame a0h) a0h

theorem good_execBulkFrame {s0 : State} {a0 : Fin 12} {a1 : List (List Sys2Proof.Byte × Bool)} {a2 : Bool} {a3 : State} (a3h :
    Good s0 a3) : ∃ t, execBulkFrame a0 a1 a2 a3 = .next t ∧ Good s0 t := by
  unfold execBulkFrame
  refine ⟨_, rfl, ?_⟩
  refine good_ite a3h ?_
  extract_lets -merge -useContext -underBinder +onlyGivenNames x0
  have h1 : Good s0 x0 := by
    unfold x0
    refine good_bulkStart ?_
    refine good_State_setRxAt a3h (fun c => ?_)
    refine spWf_spSet _ _ _ _ ?_
    refine Good.at_rxAt (s0 := s0) ?_ c
    exact a3h
  try clear_value x0
  refine good_bulkEnd_ (good_State_each h1 (fun y2 y3 y2h => good_bulkPacket y2h))

theorem good_execFrameStart {s0 : State} {a0 : Fin 12} {a1 : Fin 16} {a2 : HdrCheck} {a3 : State} (a3h : Good s0 a3) : ∃ t,
    execFrameStart a0 a1 a2 a3 = .next t ∧ Good s0 t := by
  unfold execFrameStart
  refine ⟨_, rfl, ?_⟩
  split
  · rename_i y1 y2 e0
    have y1h : Good s0 y1 := by
      exact (congrArg (fun p => Good s0 p.1) e0).mp (good_streamOfPacket a3h)
    extract_lets -merge -useContext -underBinder +onlyGivenNames x3 x4 x5
    have h6 : Good s0 x3 := by
      unfold x3
      refine good_losePending y1h
    try clear_value x3
    have h7 : Good s0 x4 := by
      unfold x4
      refine good_State_apply h6
    try clear_value x4
    try clear_value x5
    refine good_State_putIng h7
  · rename_i y9 e8
    have y9h : Good s0 y9 := by
      exact (congrArg (fun p => Good s0 p.1) e8).mp (good_streamOfPacket a3h)
    refine good_ite (good_bulkStart y9h) y9h

theorem good_execFrameEnd {s0 : State} {a0 : Fin 12} {a1 : Fin 16} {a2 : HdrCheck} {a3 : State} (a3h : Good s0 a3) : ∃ t,
    execFrameEnd a0 a1 a2 a3 = .next t ∧ Good s0 t := by
  unfold execFrameEnd
  refine ⟨_, rfl, ?_⟩
  split
  · rename_i y1 y2 e0
    have y1h : Good s0 y1 := by
      exact (congrArg (fun p => Good s0 p.1) e0).mp (good_streamOfPacket a3h)
    extract_lets -merge -useContext -underBinder +onlyGivenNames x3 x4
    have h5 : Good s0 x3 := by
      unfold x3
      refine good_ite y1h (good_losePending y1h)
    try clear_value x3
    try clear_value x4
    refine good_State_putIng h5
  · rename_i y7 e6
    have y7h : Good s0 y7 := by
      exact (congrArg (fun p => Good s0 p.1) e6).mp (good_streamOfPacket a3h)
    refine good_ite (good_bulkEnd_ y7h) y7h

theorem good_execLongPacket {s0 : State} {a0 : Fin 12} {a1 : Fin 16} {a2 : Header} {a3 : Fin 64} {a4 : Bool} {a5 : Bool} {a6 :
    List ℕ} {a8 : State} (a8h : Good s0 a8) : ∃ t, execLongPacket a0 a1 a2 a3 a4 a5 a6 a8 = .next t ∧ Good s0 t :=
    by
  unfold execLongPacket
  refine ⟨_, rfl, ?_⟩
  split
  · rename_i y1 y2 e0
    have y1h : Good s0 y1 := by
      exact (congrArg (fun p => Good s0 p.1) e0).mp (good_streamOfPacket a8h)
    refine good_ite y1h ?_
    refine good_ite y1h ?_
    refine good_ite (good_State_raiseRx y1h) ?_
    extract_lets -merge -useContext -underBinder +onlyGivenNames x3 x4 x5
    have h6 : Good s0 x3 := by
      unfold x3
      refine good_ite y1h (good_State_raiseRx (good_State_bump y1h))
    try clear_value x3
    have h7 : Good s0 x4.1 := by
      unfold x4
      refine good_lineStamp h6
    try clear_value x4
    try clear_value x5
    refine good_offerLine h7
  · rename_i y9 e8
    have y9h : Good s0 y9 := by
      exact (congrArg (fun p => Good s0 p.1) e8).mp (good_streamOfPacket a8h)
    refine good_ite (good_ite (good_bulkPacket y9h) (good_State_raiseRx y9h)) y9h

theorem good_execShardWritten {s0 : State} {a0 : Fin 8} {a1 : Fin 65536} {a2 : State} (a2h : Good s0 a2) : ∃ t, execShardWritten
    a0 a1 a2 = .next t ∧ Good s0 t := by
  unfold execShardWritten
  refine ⟨_, rfl, ?_⟩
  split
  · exact a2h
  · extract_lets -merge -useContext -underBinder +onlyGivenNames x3
    try clear_value x3
    refine good_State_putSlot (good_State_setBulk a2h)

theorem good_execWsetBegin {s0 : State} {a0 : Fin 16} {a1 : State} (a1h : Good s0 a1) : ∃ t, execWsetBegin a0 a1 = .next t ∧ Good
    s0 t := by
  unfold execWsetBegin
  refine ⟨_, rfl, ?_⟩
  refine good_State_peade a1h ?_
  intro y0 y0h
  extract_lets -merge -useContext -underBinder +onlyGivenNames x1 x2 x3 x4 x5
  try clear_value x1
  try clear_value x2
  try clear_value x3
  try clear_value x4
  have h6 : Good s0 x5 := by
    unfold x5
    refine good_State_putArm y0h
  try clear_value x5
  refine good_ite (good_State_respond y0h) (good_ite (good_State_respond y0h) (good_State_respond (good_showArm h6)))

theorem good_execWsetCommit {s0 : State} {a0 : Fin 16} {a1 : State} (a1h : Good s0 a1) : ∃ t, execWsetCommit a0 a1 = .next t ∧
    Good s0 t := by
  unfold execWsetCommit
  refine ⟨_, rfl, ?_⟩
  refine good_State_peade a1h ?_
  intro y0 y0h
  extract_lets -merge -useContext -underBinder +onlyGivenNames x1 x2
  try clear_value x1
  try clear_value x2
  refine good_ite (good_State_respond y0h) ?_
  split
  · exact good_State_respond y0h
  · exact good_State_respond (good_State_raise (good_State_putSlot (good_clearSlotArms y0h)))

theorem good_execWsetDelete {s0 : State} {a0 : Fin 16} {a1 : State} (a1h : Good s0 a1) : ∃ t, execWsetDelete a0 a1 = .next t ∧
    Good s0 t := by
  unfold execWsetDelete
  refine ⟨_, rfl, ?_⟩
  refine good_State_peade a1h ?_
  intro y0 y0h
  extract_lets -merge -useContext -underBinder +onlyGivenNames x1 x2 x3
  try clear_value x1
  try clear_value x2
  have h4 : Good s0 x3 := by
    unfold x3
    refine good_clearSlotArms y0h
  try clear_value x3
  refine good_ite (good_State_respond y0h) (good_ite (good_State_respond y0h) (good_State_putSlot (good_State_setBulk h4)))

theorem good_execEraseDone {s0 : State} {a0 : Fin 8} {a1 : State} (a1h : Good s0 a1) : ∃ t, execEraseDone a0 a1 = .next t ∧ Good
    s0 t := by
  unfold execEraseDone
  refine ⟨_, rfl, ?_⟩
  refine good_ite a1h ?_
  extract_lets -merge -useContext -underBinder +onlyGivenNames x0
  have h1 : Good s0 x0 := by
    unfold x0
    refine good_State_putSlot a1h
  try clear_value x0
  split
  · exact good_State_respond h1
  · exact h1

theorem good_execWsetList {s0 : State} {a0 : Fin 16} {a1 : State} (a1h : Good s0 a1) : ∃ t, execWsetList a0 a1 = .next t ∧ Good
    s0 t := by
  unfold execWsetList
  refine ⟨_, rfl, ?_⟩
  refine good_State_peade a1h ?_
  intro y0 y0h
  extract_lets -merge -useContext -underBinder +onlyGivenNames x1
  try clear_value x1
  refine good_State_respond y0h

theorem good_placeCopies {s0 s s' : State} {j new : Nat} {nos : List (Nat × Nat)} {l : List Placed} (h : Good s0 s)
    (e : placeCopies s j new nos l = some s') : Good s0 s' := by
  induction l generalizing s with
  | nil => obtain rfl := Option.some.inj e; exact h
  | cons p l ih =>
    simp only [placeCopies] at e
    split at e
    · exact ih (good_State_setWrites (good_setSvc (good_State_putStage h))) e
    · cases e

theorem good_beginStage {s0 : State} {a0 : State} {a1 : ℕ} {a2 : ℕ} {a3 : ℕ} {a4 : Bool} (a0h : Good s0 a0) : Good s0 (beginStage
    a0 a1 a2 a3 a4) := by
  unfold beginStage
  extract_lets -merge -useContext -underBinder +onlyGivenNames x0 x1 x2 x3 x4 x5
  try clear_value x0
  try clear_value x1
  try clear_value x2
  try clear_value x3
  try clear_value x4
  have h6 : Good s0 x5 := by
    unfold x5
    refine good_State_putStage a0h
  try clear_value x5
  split
  · exact good_State_respond a0h
  · rename_i y9 e8
    have y9h : Good s0 y9 := by
      exact good_placeCopies h6 e8
    extract_lets -merge -useContext -underBinder +onlyGivenNames x10 x11 x12 x13
    try clear_value x10
    have h14 : Good s0 x11 := by
      unfold x11
      refine good_State_wr (good_State_wr (good_State_wr y9h))
    try clear_value x11
    have h15 : Good s0 x12 := by
      unfold x12
      refine good_State_wrB h14
    try clear_value x12
    have h16 : Good s0 x13 := by
      unfold x13
      refine good_State_respond (good_State_each h15 (fun y17 y18 y17h => good_stagedMatrix y17h))
    try clear_value x13
    refine good_stageProgress (good_showStore h16)

theorem good_execWsetStage {s0 : State} {a0 : Fin 16} {a1 : State} (a1h : Good s0 a1) : ∃ t, execWsetStage a0 a1 = .next t ∧ Good
    s0 t := by
  unfold execWsetStage
  refine ⟨_, rfl, ?_⟩
  refine good_State_peade a1h ?_
  intro y0 y0h
  extract_lets -merge -useContext -underBinder +onlyGivenNames x1 x2
  try clear_value x1
  try clear_value x2
  refine good_ite (good_State_respond y0h) (good_ite (good_State_respond y0h) (good_ite (good_State_respond y0h) (good_ite
    (good_State_respond y0h) (good_beginStage y0h))))

theorem good_execWsetRing {s0 : State} {a0 : Fin 16} {a1 : State} (a1h : Good s0 a1) : ∃ t, execWsetRing a0 a1 = .next t ∧ Good
    s0 t := by
  unfold execWsetRing
  refine ⟨_, rfl, ?_⟩
  refine good_State_peade a1h ?_
  intro y0 y0h
  extract_lets -merge -useContext -underBinder +onlyGivenNames x1 x2 x3
  try clear_value x1
  try clear_value x2
  try clear_value x3
  refine good_ite (good_State_respond (good_bell y0h)) (good_ite (good_State_respond (good_State_putStage y0h))
    (good_State_respond y0h))

theorem good_execWsetAbort {s0 : State} {a0 : Fin 16} {a1 : State} (a1h : Good s0 a1) : ∃ t, execWsetAbort a0 a1 = .next t ∧ Good
    s0 t := by
  unfold execWsetAbort
  refine ⟨_, rfl, ?_⟩
  refine good_State_peade a1h ?_
  intro y0 y0h
  extract_lets -merge -useContext -underBinder +onlyGivenNames x1
  try clear_value x1
  refine good_ite (good_State_respond y0h) (good_ite (good_State_respond y0h) (good_gradeProgress (good_State_respond
    (good_dropStage y0h))))

theorem good_execWsetStatus {s0 : State} {a0 : Fin 16} {a1 : State} (a1h : Good s0 a1) : ∃ t, execWsetStatus a0 a1 = .next t ∧
    Good s0 t := by
  unfold execWsetStatus
  refine ⟨_, rfl, ?_⟩
  refine good_State_peade a1h ?_
  intro y0 y0h
  extract_lets -merge -useContext -underBinder +onlyGivenNames x1
  try clear_value x1
  refine good_State_respond y0h

end Sys2Proof.Machine
end

