-- ==== Sys2Proof/Laws/KeepsCalCmds.lean ====
section
/-! SUPPORT. Laws/KeepsCalCmds.lean: every operation of Machine/CalCmds.lean keeps what Laws/Keeps.lean names. -/

namespace Sys2Proof.Machine

theorem good_execCalRun {s0 : State} {a0 : Fin 16} {a1 : State} (a1h : Good s0 a1) : ∃ t, execCalRun a0 a1 = .next t ∧ Good s0 t
    := by
  unfold execCalRun
  refine ⟨_, rfl, ?_⟩
  refine good_State_peade a1h ?_
  intro y0 y0h
  extract_lets -merge -useContext -underBinder +onlyGivenNames x1 x2
  try clear_value x1
  have h3 : Good s0 x2 := by
    unfold x2
    refine good_State_respond y0h
  try clear_value x2
  refine good_ite (good_startFirst h3) (good_State_each h3 (fun y4 y5 y4h => good_triggerRun y4h))

theorem good_execCalThreshSet {s0 : State} {a0 : Fin 16} {a1 : State} (a1h : Good s0 a1) : ∃ t, execCalThreshSet a0 a1 = .next t
    ∧ Good s0 t := by
  unfold execCalThreshSet
  refine ⟨_, rfl, ?_⟩
  refine good_State_peade a1h ?_
  intro y0 y0h
  extract_lets -merge -useContext -underBinder +onlyGivenNames x1 x2 x3 x4
  try clear_value x1
  try clear_value x2
  try clear_value x3
  have h5 : Good s0 x4 := by
    unfold x4
    refine good_State_respond (good_State_wr y0h)
  try clear_value x4
  refine good_ite (good_State_respond y0h) (good_ite (good_State_each h5 (fun y6 y7 y6h => good_judgeTile y6h)) h5)

theorem good_execCalSave {s0 : State} {a0 : Fin 16} {a1 : State} (a1h : Good s0 a1) : ∃ t, execCalSave a0 a1 = .next t ∧ Good s0
    t := by
  unfold execCalSave
  exact ⟨_, rfl, good_State_peade a1h (fun y0 y0h => good_ite (good_State_respond y0h) (good_emitStatus (good_State_putSt y0h)))⟩

theorem good_restoreTile {s0 : State} {a0 : State} {a1 : List Sys2Proof.Byte} {a2 : ℕ} (a0h : Good s0 a0) : Good s0 (restoreTile
    a0 a1 a2) := by
  unfold restoreTile
  extract_lets -merge -useContext -underBinder +onlyGivenNames x0 x1 x2 x3 x4 x5 x6
  try clear_value x0
  try clear_value x1
  try clear_value x2
  have h7 : Good s0 x3 := by
    unfold x3
    refine good_State_each a0h (fun y8 y9 y8h => good_State_putTcal y8h)
  try clear_value x3
  have h10 : Good s0 x4 := by
    unfold x4
    refine good_State_each h7 (fun y11 y12 y11h => good_State_setWord y11h)
  try clear_value x4
  have h13 : Good s0 x5 := by
    unfold x5
    refine good_State_setWord h10
  try clear_value x5
  have h14 : Good s0 x6 := by
    unfold x6
    refine good_State_wr (good_State_wr h13)
  try clear_value x6
  refine good_State_each h14 (fun y15 y16 y15h => good_State_setWord y15h)

theorem good_execCalRestore {s0 : State} {a0 : Fin 16} {a1 : State} (a1h : Good s0 a1) : ∃ t, execCalRestore a0 a1 = .next t ∧
    Good s0 t := by
  unfold execCalRestore
  refine ⟨_, rfl, ?_⟩
  refine good_State_peade a1h ?_
  intro y0 y0h
  extract_lets -merge -useContext -underBinder +onlyGivenNames x1
  try clear_value x1
  split
  · exact good_State_respond y0h
  · extract_lets -merge -useContext -underBinder +onlyGivenNames x5 x6 x7 x8
    try clear_value x5
    have h9 : Good s0 x6 := by
      unfold x6
      refine good_State_each y0h (fun y10 y11 y10h => good_restoreTile y10h)
    try clear_value x6
    have h12 : Good s0 x7 := by
      unfold x7
      refine good_State_each h9 (fun y13 y14 y13h => good_State_putChip y13h)
    try clear_value x7
    have h15 : Good s0 x8 := by
      unfold x8
      refine good_State_wr h12
    try clear_value x8
    refine good_State_respond (good_startFirst h15)

theorem good_execCalStatus {s0 : State} {a0 : Fin 16} {a1 : State} (a1h : Good s0 a1) : ∃ t, execCalStatus a0 a1 = .next t ∧ Good
    s0 t := by
  unfold execCalStatus
  refine ⟨_, rfl, ?_⟩
  refine good_State_peade a1h ?_
  intro y0 y0h
  extract_lets -merge -useContext -underBinder +onlyGivenNames x1
  try clear_value x1
  refine good_State_respond y0h

theorem good_execFirstSweepTimer {s0 : State} {a0 : State} (a0h : Good s0 a0) : ∃ t, execFirstSweepTimer a0 = .next t ∧ Good s0 t
    := by
  unfold execFirstSweepTimer
  exact ⟨_, rfl, good_ite (good_startFirst a0h) a0h⟩

theorem good_execFirstSweepDone {s0 : State} {a0 : List TileFinding} {a1 : State} (a1h : Good s0 a1) : ∃ t, execFirstSweepDone a0
    a1 = .next t ∧ Good s0 t := by
  unfold execFirstSweepDone
  exact ⟨_, rfl, good_tryLoad (good_firstSweepDone a1h)⟩

end Sys2Proof.Machine
end

