-- ==== Sys2Proof/Laws/KeepsModuleStops.lean ====
section
/-! SUPPORT. Laws/KeepsModuleStops.lean: every operation of Machine/ModuleStops.lean keeps what Laws/Keeps.lean names. -/

namespace Sys2Proof.Machine

theorem good_haltAll {s0 : State} {a0 : State} {a1 : Bool} (a0h : Good s0 a0) : Good s0 (haltAll a0 a1) := by
  unfold haltAll
  exact good_State_each (good_State_setHalt a0h) (fun y0 y1 y0h => good_refreshWait y0h)

theorem good_moduleFault {s0 : State} {a0 : State} {a1 : ℕ} (a0h : Good s0 a0) : Good s0 (moduleFault a0 a1) := by
  unfold moduleFault
  exact good_markFlushAll (good_plantModuleClear (good_haltAll a0h))

theorem good_dropUndispatched {s0 : State} {a0 : State} {a1 : List ℕ} (a0h : Good s0 a0) : Good s0 (dropUndispatched a0 a1) := by
  unfold dropUndispatched
  extract_lets -merge -useContext -underBinder +onlyGivenNames x0 x1 x2 x3
  try clear_value x0
  have h4 : Good s0 x1 := by
    unfold x1
    refine good_State_setBatches a0h
  try clear_value x1
  try clear_value x2
  try clear_value x3
  refine good_State_each h4 ?_
  intro y5 y6 y5h
  extract_lets -merge -useContext -underBinder +onlyGivenNames x7 x8
  try clear_value x7
  try clear_value x8
  refine good_emitDrop (good_countDrops y5h)

theorem good_dropLines {s0 : State} {a0 : State} {a1 : List ℕ} (a0h : Good s0 a0) : Good s0 (dropLines a0 a1) := by
  unfold dropLines
  extract_lets -merge -useContext -underBinder +onlyGivenNames x0
  have h1 : Good s0 x0 := by
    unfold x0
    refine good_State_each a0h (fun y2 y3 y2h => good_reportCollected y2h)
  try clear_value x0
  refine good_dropUndispatched h1

theorem good_discardJob {s0 : State} {a0 : State} {a1 : ℕ} {a2 : Bool} (a0h : Good s0 a0) : Good s0 (discardJob a0 a1 a2) := by
  unfold discardJob
  extract_lets -merge -useContext -underBinder +onlyGivenNames x0 x1 x2 x3 x4 x5 x6
  have h7 : Good s0 x0 := by
    unfold x0
    refine good_dropUndispatched a0h
  try clear_value x0
  have h8 : Good s0 x1 := by
    unfold x1
    refine good_State_setFabric h7
  try clear_value x1
  have h9 : Good s0 x2 := by
    unfold x2
    refine good_State_setBatches h8
  try clear_value x2
  have h10 : Good s0 x3 := by
    unfold x3
    refine good_showTags (good_State_setTagsHeld h9)
  try clear_value x3
  have h11 : Good s0 x4 := by
    unfold x4
    refine good_State_setMisses (good_State_setArrived h10)
  try clear_value x4
  have h12 : Good s0 x5 := by
    unfold x5
    refine good_ite (good_State_each h11 (fun y13 y14 y13h => good_State_putOut y13h)) h11
  try clear_value x5
  have h15 : Good s0 x6 := by
    unfold x6
    refine good_strikeTiles (good_meshDropJob (good_dropSlots h12))
  try clear_value x6
  refine good_retire (good_clearRecur h15)

theorem good_answerJob {s0 : State} {a0 : State} {a1 : ℕ} {a2 : ℕ} {a3 : Status} (a0h : Good s0 a0) : Good s0 (answerJob a0 a1 a2
    a3) := by
  unfold answerJob
  split
  · exact good_State_respond a0h
  · exact a0h

theorem good_loadedByFault {s0 : State} {a0 : State} {a1 : ℕ} (a0h : Good s0 a0) : Good s0 (loadedByFault a0 a1) := by
  unfold loadedByFault
  refine good_ite a0h ?_
  extract_lets -merge -useContext -underBinder +onlyGivenNames x0 x1 x2
  have h3 : Good s0 x0 := by
    unfold x0
    refine good_clearJob (good_discardJob (good_unbindAll a0h))
  try clear_value x0
  try clear_value x1
  have h4 : Good s0 x2 := by
    unfold x2
    refine good_State_putJob h3
  try clear_value x2
  refine good_answerJob (good_enterLoaded h4)

theorem good_emptyByFault {s0 : State} {a0 : State} {a1 : ℕ} {a2 : Bool} (a0h : Good s0 a0) : Good s0 (emptyByFault a0 a1 a2) :=
    by
  unfold emptyByFault
  extract_lets -merge -useContext -underBinder +onlyGivenNames x0 x1 x2 x3 x4 x5
  try clear_value x0
  have h6 : Good s0 x1 := by
    unfold x1
    refine good_ite (good_failStage a0h) a0h
  try clear_value x1
  have h7 : Good s0 x2 := by
    unfold x2
    refine good_discardJob (good_unbindAll h6)
  try clear_value x2
  have h8 : Good s0 x3 := by
    unfold x3
    refine good_State_each h7 (fun y9 y10 y9h => good_seatFlush y9h)
  try clear_value x3
  have h11 : Good s0 x4 := by
    unfold x4
    refine good_ite (good_aoutJobLeaves h8) h8
  try clear_value x4
  have h12 : Good s0 x5 := by
    unfold x5
    refine good_State_wr (good_emptyJob h11)
  try clear_value x5
  refine good_ite a0h (good_ite (good_failLoad h6) (good_answerJob (good_answerJob (good_State_wr h12))))

theorem good_abandonWrites {s0 : State} {a0 : State} (a0h : Good s0 a0) : Good s0 (abandonWrites a0) := by
  unfold abandonWrites
  extract_lets -merge -useContext -underBinder +onlyGivenNames x0
  try clear_value x0
  refine good_State_setWrites (good_State_each a0h (fun y1 y2 y1h => good_State_putOcc y1h))

theorem good_restoreDue {s0 : State} {a0 : State} {a1 : ℕ} (a0h : Good s0 a0) : Good s0 (restoreDue a0 a1) := by
  unfold restoreDue
  extract_lets -merge -useContext -underBinder +onlyGivenNames x0 x1 x2
  try clear_value x0
  try clear_value x1
  have h3 : Good s0 x2 := by
    unfold x2
    refine good_State_each a0h (fun y4 y5 y4h => good_State_wr y4h)
  try clear_value x2
  refine good_ite (good_State_setHomework (good_setSvc h3)) a0h

theorem good_loadOcc {s0 : State} {a0 : State} {a1 : ℕ} (a0h : Good s0 a0) : Good s0 (loadOcc a0 a1) := by
  unfold loadOcc
  extract_lets -merge -useContext -underBinder +onlyGivenNames x0 x1
  try clear_value x0
  have h2 : Good s0 x1 := by
    unfold x1
    refine good_State_each a0h (fun y3 y4 y3h => good_State_wr (good_State_wr (good_State_wr y3h)))
  try clear_value x1
  refine good_State_each h2 (fun y5 y6 y5h => good_restoreDue y5h)

theorem good_clearWork {s0 : State} {a0 : State} (a0h : Good s0 a0) : Good s0 (clearWork a0) := by
  unfold clearWork
  extract_lets -merge -useContext -underBinder +onlyGivenNames x0 x1 x2 x3 x4 x5
  have h6 : Good s0 x0 := by
    unfold x0
    refine good_abandonWrites a0h
  try clear_value x0
  try clear_value x1
  have h7 : Good s0 x2 := by
    unfold x2
    refine good_State_each h6 (fun y8 y9 y8h => good_State_wr (good_stopMeasuring y8h))
  try clear_value x2
  have h10 : Good s0 x3 := by
    unfold x3
    refine good_showHwNow (good_State_setHomework (good_State_setWrites h7))
  try clear_value x3
  have h11 : Good s0 x4 := by
    unfold x4
    refine good_State_each h10 ?_
    intro y12 y13 y12h
    extract_lets -merge -useContext -underBinder +onlyGivenNames x14 x15
    try clear_value x14
    have h16 : Good s0 x15 := by
      unfold x15
      refine good_State_each y12h (fun y17 y18 y17h => good_stopMeasuring y17h)
    try clear_value x15
    refine good_State_setWord (good_State_putQuad h16)
  try clear_value x4
  have h19 : Good s0 x5 := by
    unfold x5
    refine good_State_setWord (good_State_setFirstForm h11)
  try clear_value x5
  split
  · exact good_State_respond (good_State_setLoadWait h19)
  · exact h19

theorem good_emptyAll {s0 : State} {a0 : State} {a1 : Bool} (a0h : Good s0 a0) : Good s0 (emptyAll a0 a1) := by
  unfold emptyAll
  extract_lets -merge -useContext -underBinder +onlyGivenNames x0
  have h1 : Good s0 x0 := by
    unfold x0
    refine good_dropLines a0h
  try clear_value x0
  refine good_clearWork (good_State_each h1 (fun y2 y3 y2h => good_emptyByFault y2h))

theorem good_ringsOff {s0 : State} {a0 : State} {a1 : ℕ} (a0h : Good s0 a0) : Good s0 (ringsOff a0 a1) := by
  unfold ringsOff
  extract_lets -merge -useContext -underBinder +onlyGivenNames x0 x1
  have h2 : Good s0 x0 := by
    unfold x0
    refine good_State_setLanes ?_ (fun c => ?_)
    · refine good_State_setRings a0h (fun c => ?_)
      refine spWf_filter _ _ _ ?_
      refine Good.at_rings (s0 := s0) ?_ c
      exact a0h
    · refine spWf_filter _ _ _ ?_
      refine Good.at_lanes (s0 := s0) ?_ c
      exact a0h
  try clear_value x0
  have h3 : Good s0 x1 := by
    unfold x1
    refine good_State_setFeedFwd ?_ (fun c => ?_)
    · refine good_State_setMons h2 (fun c => ?_)
      refine spWf_filter _ _ _ ?_
      refine Good.at_mons (s0 := s0) ?_ c
      exact h2
    · refine spWf_filter _ _ _ ?_
      refine Good.at_feedFwd (s0 := s0) ?_ c
      exact h2
  try clear_value x1
  refine good_State_setWord h3

theorem good_chipOff {s0 : State} {a0 : State} {a1 : ℕ} {a2 : Bool} (a0h : Good s0 a0) : Good s0 (chipOff a0 a1 a2) := by
  unfold chipOff
  extract_lets -merge -useContext -underBinder +onlyGivenNames x0 x1 x2 x3
  try clear_value x0
  try clear_value x1
  have h4 : Good s0 x2 := by
    unfold x2
    refine good_ringsOff (good_State_putChip a0h)
  try clear_value x2
  have h5 : Good s0 x3 := by
    unfold x3
    refine good_State_setMeshTbl h4 (fun c => ?_)
    refine spWf_filter _ _ _ ?_
    refine Good.at_meshTbl (s0 := s0) ?_ c
    exact h4
  try clear_value x3
  refine good_State_wr (good_State_wr (good_setMesh h5))

theorem good_switchOffHalf {s0 : State} {a0 : State} {a1 : ℕ} {a2 : Bool} (a0h : Good s0 a0) : Good s0 (switchOffHalf a0 a1 a2)
    := by
  unfold switchOffHalf
  refine good_ite a0h ?_
  extract_lets -merge -useContext -underBinder +onlyGivenNames x0 x1 x2 x3 x4 x5 x6 x7 x8 x9 x10 x11 x12 x13 x14
  try clear_value x0
  try clear_value x1
  try clear_value x2
  have h15 : Good s0 x3 := by
    unfold x3
    refine good_State_setInForce ?_ (fun c => ?_)
    · refine good_State_setRegs a0h (fun c => ?_)
      refine spWf_filter _ _ _ ?_
      refine Good.at_regs (s0 := s0) ?_ c
      exact a0h
    · refine spWf_filter _ _ _ ?_
      refine Good.at_inForce (s0 := s0) ?_ c
      exact a0h
  try clear_value x3
  have h16 : Good s0 x4 := by
    unfold x4
    refine good_State_setShadow ?_ (fun c => ?_)
    · refine good_State_setWb h15 (fun c => ?_)
      refine spWf_filter _ _ _ ?_
      refine Good.at_wb (s0 := s0) ?_ c
      exact h15
    · refine spWf_filter _ _ _ ?_
      refine Good.at_shadow (s0 := s0) ?_ c
      exact h15
  try clear_value x4
  have h17 : Good s0 x5 := by
    unfold x5
    refine good_State_each h16 (fun y18 y19 y18h => good_State_wr (good_State_wr y18h))
  try clear_value x5
  have h20 : Good s0 x6 := by
    unfold x6
    refine good_State_setTiles h17 (fun c => ?_)
    refine spWf_filter _ _ _ ?_
    refine Good.at_tiles (s0 := s0) ?_ c
    exact h17
  try clear_value x6
  have h21 : Good s0 x7 := by
    unfold x7
    refine good_State_setTcal h20 (fun c => ?_)
    refine spWf_filter _ _ _ ?_
    refine Good.at_tcal (s0 := s0) ?_ c
    exact h20
  try clear_value x7
  have h22 : Good s0 x8 := by
    unfold x8
    refine good_State_setSram h21 (fun c => ?_)
    refine spWf_filter _ _ _ ?_
    refine Good.at_sram (s0 := s0) ?_ c
    exact h21
  try clear_value x8
  have h23 : Good s0 x9 := by
    unfold x9
    refine good_State_setFabric h22
  try clear_value x9
  have h24 : Good s0 x10 := by
    unfold x10
    refine good_State_setSlots h23
  try clear_value x10
  have h25 : Good s0 x11 := by
    unfold x11
    refine good_State_setDirs h24 (fun c => ?_)
    refine spWf_filter _ _ _ ?_
    refine Good.at_dirs (s0 := s0) ?_ c
    exact h24
  try clear_value x11
  have h26 : Good s0 x12 := by
    unfold x12
    refine good_State_each h25 (fun y27 y28 y27h => good_chipOff y27h)
  try clear_value x12
  try clear_value x13
  have h29 : Good s0 x14 := by
    unfold x14
    refine good_State_putHalf h26
  try clear_value x14
  refine good_linkWatch (good_showSelfRule (good_State_wr (good_State_wr h29)))

theorem good_switchOn {s0 : State} {a0 : State} (a0h : Good s0 a0) : Good s0 (switchOn a0) := by
  unfold switchOn
  exact good_State_each a0h (fun y0 y1 y0h => good_ite y0h (good_linkWatch (good_loadOcc (good_State_putHalf (good_State_wr
    y0h)))))

theorem good_freshState {s0 s : State} (h : Good s0 s) : Good s0 (freshState s) := by
  obtain ⟨h1, h2, h3⟩ := h
  refine ⟨fun c => ?_, h2, h3⟩
  obtain ⟨h4, h5, h6, h7⟩ := And.intro (h1 c).cells (And.intro (h1 c).occ (And.intro (h1 c).store (h1 c).nvShadow))
  constructor <;> first | rfl | assumption

end Sys2Proof.Machine
end

