-- ==== Sys2Proof/Laws/KeepsNvStore.lean ====
section
/-! SUPPORT. Laws/KeepsNvStore.lean: every operation of Machine/NvStore.lean keeps what Laws/Keeps.lean names. -/

namespace Sys2Proof.Machine

theorem good_putNv {s0 : State} {a0 : State} {a1 : ℕ} {a2 : ℕ} {a3 : ℕ} {a4 : List Sys2Proof.Byte} (a0h : Good s0 a0) : Good s0
    (putNv a0 a1 a2 a3 a4) := by
  unfold putNv
  refine good_State_setNvShadow a0h (fun c => ?_)
  refine spWf_spSetList _ _ _ _ _ ?_
  refine Good.at_nvShadow (s0 := s0) ?_ c
  exact a0h

theorem good_writeLines {s0 : State} {a0 : State} {a1 : NvRun} {a2 : ℕ} (a0h : Good s0 a0) : Good s0 (writeLines a0 a1 a2) := by
  unfold writeLines
  exact good_ite a0h (good_State_setNvRun (good_putNv a0h))

theorem good_nvPages {s0 s : State} {t fuel : Nat} (h : Good s0 s) : Good s0 (nvPages s t fuel) := by
  induction fuel generalizing s with
  | zero => exact h
  | succ n ih =>
    simp only [nvPages]
    split
    · exact h
    · split
      · exact good_writeLines h
      · exact good_ite (ih (good_State_setNvRun (good_writeLines h))) (good_writeLines h)

theorem good_nvAdvance {s0 : State} {a0 : State} (a0h : Good s0 a0) : Good s0 (nvAdvance a0) := by
  unfold nvAdvance
  split
  · exact a0h
  · exact good_nvPages a0h

theorem good_nvRescale {s0 : State} {a0 : State} {a1 : Sys2Proof.Machine.State → Sys2Proof.Machine.State} (a0h : Good s0 a0) (a1h
    : ∀ z0, Good s0 z0 → Good s0 (a1 z0)) : Good s0 (nvRescale a0 a1) := by
  unfold nvRescale
  extract_lets -merge -useContext -underBinder +onlyGivenNames x0
  have h1 : Good s0 x0 := by
    unfold x0
    refine good_nvAdvance a0h
  try clear_value x0
  split
  · exact a1h _ h1
  · extract_lets -merge -useContext -underBinder +onlyGivenNames x5 x6
    try clear_value x5
    have h7 : Good s0 x6 := by
      unfold x6
      refine a1h _ h1
    try clear_value x6
    refine good_State_setNvRun h7

theorem good_startStore {s0 : State} {a0 : State} {a1 : Option ℕ} (a0h : Good s0 a0) : Good s0 (startStore a0 a1) := by
  unfold startStore
  extract_lets -merge -useContext -underBinder +onlyGivenNames x0 x1 x2
  try clear_value x0
  try clear_value x1
  try clear_value x2
  refine good_State_setNvRun (good_State_wr a0h)

theorem good_writeLog {s0 : State} {a0 : State} {a1 : ℕ} {a2 : ℕ} (a0h : Good s0 a0) : Good s0 (writeLog a0 a1 a2) := by
  unfold writeLog
  extract_lets -merge -useContext -underBinder +onlyGivenNames x0
  try clear_value x0
  refine good_putNv a0h

theorem good_powerFailStore {s0 : State} {a0 : State} (a0h : Good s0 a0) : Good s0 (powerFailStore a0) := by
  unfold powerFailStore
  exact good_ite (good_writeLog a0h) (good_ite (good_writeLog a0h) (good_startStore a0h))

theorem good_powerOff {s0 : State} {a0 : State} (a0h : Good s0 a0) : Good s0 (powerOff a0) := by
  unfold powerOff
  exact good_State_setPwr (good_freshState a0h)

theorem good_storeDone {s0 : State} {a0 : State} {a1 : NvRun} (a0h : Good s0 a0) : Good s0 (storeDone a0 a1) := by
  unfold storeDone
  extract_lets -merge -useContext -underBinder +onlyGivenNames x0 x1 x2 x3
  have h4 : Good s0 x0 := by
    unfold x0
    refine good_putNv (good_nvPages a0h)
  try clear_value x0
  have h5 : Good s0 x1 := by
    unfold x1
    refine good_State_wr (good_State_wr (good_State_setNvRun h4))
  try clear_value x1
  have h6 : Good s0 x2 := by
    unfold x2
    refine good_State_bump (good_State_wr (good_State_wr h5))
  try clear_value x2
  have h7 : Good s0 x3 := by
    unfold x3
    refine good_State_raise h6
  try clear_value x3
  split
  · exact good_State_respond h7
  · exact h7

theorem good_execNvStoreEnd {s0 : State} {a0 : State} (a0h : Good s0 a0) : ∃ t, execNvStoreEnd a0 = .next t ∧ Good s0 t := by
  unfold execNvStoreEnd
  refine ⟨_, rfl, ?_⟩
  split
  · refine good_ite a0h ?_
    extract_lets -merge -useContext -underBinder +onlyGivenNames x2
    have h3 : Good s0 x2 := by
      unfold x2
      refine good_storeDone a0h
    try clear_value x2
    refine good_ite h3 (good_ite (good_powerFailStore h3) (good_powerOff (good_writeLog h3)))
  · exact good_ite (good_powerOff a0h) a0h

theorem good_nvRefuse {s0 : State} {a0 : State} {a1 : ℕ} (a0h : Good s0 a0) : Good s0 (nvRefuse a0 a1) := by
  unfold nvRefuse
  exact good_State_respond (good_State_raise a0h)

theorem good_execNvStore {s0 : State} {a0 : Fin 16} {a1 : State} (a1h : Good s0 a1) : ∃ t, execNvStore a0 a1 = .next t ∧ Good s0
    t := by
  unfold execNvStore
  exact ⟨_, rfl, good_State_peade a1h (fun y0 y0h => good_ite (good_nvRefuse y0h) (good_startStore y0h))⟩

theorem good_readCounter {s0 : State} {a0 : State} {a1 : ℕ} (a0h : Good s0 a0) : Good s0 (readCounter a0 a1).1 := by
  unfold readCounter
  extract_lets -merge -useContext -underBinder +onlyGivenNames x0 x1 x2
  try clear_value x0
  try clear_value x1
  have h3 : Good s0 x2 := by
    unfold x2
    refine good_State_wr a0h
  try clear_value x2
  refine good_mk1 (good_ite h3 (good_State_raise h3))

theorem good_bumpCounter {s0 : State} {a0 : State} {a1 : ℕ} {a2 : ℕ} (a0h : Good s0 a0) : Good s0 (bumpCounter a0 a1 a2).1 := by
  unfold bumpCounter
  refine good_ite1 (good_mk1 a0h) ?_
  extract_lets -merge -useContext -underBinder +onlyGivenNames x0 x1 x2 x3
  have h4 : Good s0 x0 := by
    unfold x0
    refine good_nvAdvance a0h
  try clear_value x0
  try clear_value x1
  have h5 : Good s0 x2 := by
    unfold x2
    refine good_putNv h4
  try clear_value x2
  have h6 : Good s0 x3 := by
    unfold x3
    split
    · exact good_State_setNvRun h5
    · exact h5
  try clear_value x3
  refine good_mk1 (good_State_wr h6)

theorem good_execNvCount {s0 : State} {a0 : Fin 16} {a1 : State} (a1h : Good s0 a1) : ∃ t, execNvCount a0 a1 = .next t ∧ Good s0
    t := by
  unfold execNvCount
  refine ⟨_, rfl, ?_⟩
  refine good_State_peade a1h ?_
  intro y0 y0h
  extract_lets -merge -useContext -underBinder +onlyGivenNames x1 x2 x3 x4
  try clear_value x1
  have h5 : Good s0 x2.1 := by
    unfold x2
    refine good_readCounter y0h
  try clear_value x2
  have h6 : Good s0 x3.1 := by
    unfold x3
    refine good_bumpCounter h5
  try clear_value x3
  have h7 : Good s0 x4.1 := by
    unfold x4
    refine good_readCounter y0h
  try clear_value x4
  refine good_ite (good_ite (good_nvRefuse y0h) (good_State_respond h6)) (good_State_respond h7)

theorem good_execNvProtect {s0 : State} {a0 : Fin 16} {a1 : State} (a1h : Good s0 a1) : ∃ t, execNvProtect a0 a1 = .next t ∧ Good
    s0 t := by
  unfold execNvProtect
  refine ⟨_, rfl, ?_⟩
  refine good_State_peade a1h ?_
  intro y0 y0h
  extract_lets -merge -useContext -underBinder +onlyGivenNames x1 x2
  try clear_value x1
  have h3 : Good s0 x2 := by
    unfold x2
    refine good_putNv y0h
  try clear_value x2
  refine good_State_respond (good_State_wr h3)

theorem good_nvWrite {s0 : State} {a0 : State} {a1 : ℕ} {a2 : Sys2Proof.Word} (a0h : Good s0 a0) : Good s0 (nvWrite a0 a1 a2) :=
    by
  unfold nvWrite
  refine good_ite (good_State_raise a0h) ?_
  extract_lets -merge -useContext -underBinder +onlyGivenNames x0
  have h1 : Good s0 x0 := by
    unfold x0
    refine good_nvAdvance a0h
  try clear_value x0
  refine good_State_setNvArr h1 (fun c => ?_)
  refine spWf_spSetList _ _ _ _ _ ?_
  refine Good.at_nvArr (s0 := s0) ?_ c
  exact h1

theorem good_nvComplete {s0 : State} {a0 : Sys2Proof.Machine.State × List (ℕ × ℕ × Bool)} {a1 : ℕ} (a0h : Good s0 a0.1) : Good s0
    (nvComplete a0 a1).1 := by
  unfold nvComplete
  split
  · exact a0h
  · exact good_ite1 (good_mk1 (good_putNv a0h)) a0h

theorem foldl_spWf {α β : Type} [DecidableEq α] (d : Nat → α) (f : Sparse α → β → Sparse α) (l : List β) (m : Sparse α)
    (hm : spWf d m = true) (hf : ∀ m b, spWf d m = true → spWf d (f m b) = true) : spWf d (l.foldl f m) = true := by
  induction l generalizing m with
  | nil => exact hm
  | cons b l ih => exact ih _ (hf m b hm)

theorem bankImage_wf (s : State) (b : Nat) : Memory.wf (s.bankImage b) = true := by
  refine foldl_spWf _ _ _ _ rfl fun m e hm => ?_
  dsimp only
  split
  · exact spWf_spSet _ _ _ _ hm
  · exact hm

theorem good_nvRecover {s0 : State} {a0 : State} (a0h : Good s0 a0) :
    Good s0 (nvRecover a0) := by
  unfold nvRecover
  extract_lets -merge -useContext -underBinder +onlyGivenNames x0
  try clear_value x0
  split
  · rename_i y2 y3 e1
    have y2h : Good s0 y2 := by
      refine (congrArg (fun p => Good s0 p.1) e1).mp ?_
      exact good_foldl1 a0h fun _ _ hp => good_nvComplete hp
    extract_lets -merge -useContext -underBinder +onlyGivenNames x4 x5 x6 x7 x8
    try clear_value x4
    have h9 : Good s0 x5 := by
      unfold x5
      split
      · refine good_State_wr ?_
        · refine good_State_wr ?_
          · refine good_State_setNvArr ?_ (fun c => ?_)
            · exact y2h
            · rfl
      · extract_lets -merge -useContext -underBinder +onlyGivenNames x15 x16
        try clear_value x15
        have h17 : Good s0 x16 := by
          unfold x16
          refine good_State_wr ?_
          · refine good_State_wr ?_
            · refine good_State_setNvArr ?_ (fun c => ?_)
              · exact y2h
              · exact bankImage_wf _ _
        try clear_value x16
        refine good_State_wr ?_
        · exact h17
    try clear_value x5
    have h18 : Good s0 x6 := by
      unfold x6
      refine good_State_wr ?_
      · exact h9
    try clear_value x6
    try clear_value x7
    have h19 : Good s0 x8 := by
      unfold x8
      refine good_ite ?_ ?_
      · refine good_State_wr ?_
        · exact h18
      · exact h18
    try clear_value x8
    refine good_State_each ?_ ?_
    · exact h19
    · intro y20 y21 y20h
      refine good_readCounter ?_
      · exact y20h

end Sys2Proof.Machine
end

