-- ==== Sys2Proof/Laws/KeepsClocks.lean ====
section
/-! SUPPORT. Laws/KeepsClocks.lean: every operation of Machine/Clocks.lean keeps what Laws/Keeps.lean names. -/

namespace Sys2Proof.Machine

theorem good_State_putClk {s0 : State} {a0 : State} {a1 : Clk} (a0h : Good s0 a0) : Good s0 (State.putClk a0 a1) := by
  unfold State.putClk
  exact good_State_setClk a0h

theorem good_showOpt {s0 : State} {a0 : State} {a1 : Bool} (a0h : Good s0 a0) : Good s0 (showOpt a0 a1) := by
  unfold showOpt
  extract_lets -merge -useContext -underBinder +onlyGivenNames x0 x1 x2
  have h3 : Good s0 x0 := by
    unfold x0
    refine good_State_each a0h (fun y4 y5 y4h => good_State_wrB y4h)
  try clear_value x0
  try clear_value x1
  try clear_value x2
  refine good_State_putClk h3

theorem good_setLock {s0 : State} {a0 : State} {a1 : ℕ} {a2 : Bool} (a0h : Good s0 a0) : Good s0 (setLock a0 a1 a2) := by
  unfold setLock
  extract_lets -merge -useContext -underBinder +onlyGivenNames x0 x1
  try clear_value x0
  try clear_value x1
  refine good_State_wrB (good_State_wr a0h)

theorem good_loopCoasts {s0 : State} {a0 : State} {a1 : ℕ} (a0h : Good s0 a0) : Good s0 (loopCoasts a0 a1) := by
  unfold loopCoasts
  exact good_ite a0h (good_ite (good_nvRescale a0h (fun y0 y0h => good_setLock y0h)) (good_ite (good_showOpt (good_setLock a0h))
    (good_setLock a0h)))

theorem good_allCoast {s0 : State} {a0 : State} (a0h : Good s0 a0) : Good s0 (allCoast a0) := by
  unfold allCoast
  exact good_State_putClk (good_State_each a0h (fun y0 y1 y0h => good_loopCoasts y0h))

theorem good_loopLocks {s0 : State} {a0 : State} {a1 : ℕ} (a0h : Good s0 a0) : Good s0 (loopLocks a0 a1) := by
  unfold loopLocks
  refine good_ite a0h ?_
  refine good_ite (good_nvRescale a0h (fun y0 y0h => good_setLock y0h)) ?_
  extract_lets -merge -useContext -underBinder +onlyGivenNames x1
  have h2 : Good s0 x1 := by
    unfold x1
    refine good_setLock a0h
  try clear_value x1
  refine good_ite (good_startTimebase h2) (good_ite (good_showOpt h2) (good_ite (good_plantRelock h2) (good_ite (good_sendSkew
    h2) h2)))

theorem good_execLoopLocked {s0 : State} {a0 : Fin 8} {a1 : State} (a1h : Good s0 a1) : ∃ t, execLoopLocked a0 a1 = .next t ∧
    Good s0 t := by
  unfold execLoopLocked
  exact ⟨_, rfl, good_loopLocks a1h⟩

theorem good_execLockLoss {s0 : State} {a0 : Fin 8} {a1 : State} (a1h : Good s0 a1) : ∃ t, execLockLoss a0 a1 = .next t ∧ Good s0
    t := by
  unfold execLockLoss
  exact ⟨_, rfl, good_ite (good_State_raise (good_loopCoasts a1h)) a1h⟩

theorem good_beginSwitch {s0 : State} {a0 : State} {a1 : RefSwitch} (a0h : Good s0 a0) : Good s0 (beginSwitch a0 a1) := by
  unfold beginSwitch
  exact good_State_wr (good_State_putClk a0h)

theorem good_endSwitch {s0 : State} {a0 : State} (a0h : Good s0 a0) : Good s0 (endSwitch a0) := by
  unfold endSwitch
  exact good_State_wr (good_State_putClk a0h)

theorem good_switched {s0 : State} {a0 : State} {a1 : Bool} {a2 : Bool} (a0h : Good s0 a0) : Good s0 (switched a0 a1 a2) := by
  unfold switched
  extract_lets -merge -useContext -underBinder +onlyGivenNames x0 x1 x2
  have h3 : Good s0 x0 := by
    unfold x0
    refine good_State_bump (good_State_wrB (good_endSwitch a0h))
  try clear_value x0
  have h4 : Good s0 x1 := by
    unfold x1
    refine good_ite (good_State_raise (good_State_bump h3)) h3
  try clear_value x1
  try clear_value x2
  refine good_State_putClk h4

theorem good_refSwitchDone {s0 : State} {a0 : State} (a0h : Good s0 a0) : Good s0 (refSwitchDone a0) := by
  unfold refSwitchDone
  refine good_ite a0h ?_
  split
  · exact a0h
  · exact good_ite (good_switched a0h) (good_State_raise (good_endSwitch a0h))
  · exact good_ite (good_State_raise (good_switched a0h)) (good_State_raise (good_endSwitch a0h))

theorem good_obsSwitchDone {s0 : State} {a0 : State} (a0h : Good s0 a0) : Good s0 (obsSwitchDone a0) := by
  unfold obsSwitchDone
  refine good_ite a0h ?_
  extract_lets -merge -useContext -underBinder +onlyGivenNames x0 x1 x2 x3
  try clear_value x0
  try clear_value x1
  have h4 : Good s0 x2 := by
    unfold x2
    refine good_State_putClk a0h
  try clear_value x2
  have h5 : Good s0 x3 := by
    unfold x3
    refine good_State_apply h4
  try clear_value x3
  refine good_ite h4 (good_ite h5 (good_State_raise (good_State_bump h5)))

theorem good_execMuxSwitchDone {s0 : State} {a0 : Bool} {a1 : State} (a1h : Good s0 a1) : ∃ t, execMuxSwitchDone a0 a1 = .next t
    ∧ Good s0 t := by
  unfold execMuxSwitchDone
  exact ⟨_, rfl, good_ite (good_obsSwitchDone a1h) (good_refSwitchDone a1h)⟩

theorem good_startReturn {s0 : State} {a0 : State} (a0h : Good s0 a0) : Good s0 (startReturn a0) := by
  unfold startReturn
  exact good_ite (good_beginSwitch a0h) a0h

theorem good_execClkCfgReturn {s0 : State} {a0 : State} (a0h : Good s0 a0) : ∃ t, execClkCfgReturn a0 = .next t ∧ Good s0 t := by
  unfold execClkCfgReturn
  exact ⟨_, rfl, good_startReturn a0h⟩

theorem good_crystalStop {s0 : State} {a0 : State} (a0h : Good s0 a0) : Good s0 (crystalStop a0) := by
  unfold crystalStop
  refine good_ite a0h ?_
  extract_lets -merge -useContext -underBinder +onlyGivenNames x0 x1 x2 x3
  have h4 : Good s0 x0 := by
    unfold x0
    refine good_State_wr (good_State_wr a0h)
  try clear_value x0
  try clear_value x1
  have h5 : Good s0 x2 := by
    unfold x2
    refine good_State_putClk h4
  try clear_value x2
  have h6 : Good s0 x3 := by
    unfold x3
    refine good_State_raise (good_State_raise (good_allCoast h5))
  try clear_value x3
  refine good_ite h5 (good_ite (good_beginSwitch h6) (good_State_raise h6))

theorem good_execCrystalStop {s0 : State} {a0 : State} (a0h : Good s0 a0) : ∃ t, execCrystalStop a0 = .next t ∧ Good s0 t := by
  unfold execCrystalStop
  exact ⟨_, rfl, good_crystalStop a0h⟩

theorem good_ratioWindow {s0 : State} {a0 : State} {a1 : ℕ} (a0h : Good s0 a0) : Good s0 (ratioWindow a0 a1) := by
  unfold ratioWindow
  refine good_ite a0h ?_
  extract_lets -merge -useContext -underBinder +onlyGivenNames x0 x1 x2 x3 x4 x5 x6 x7 x8 x9 x10 x11
  try clear_value x0
  try clear_value x1
  try clear_value x2
  try clear_value x3
  try clear_value x4
  try clear_value x5
  have h12 : Good s0 x6 := by
    unfold x6
    refine good_State_putClk (good_State_wr a0h)
  try clear_value x6
  have h13 : Good s0 x7 := by
    unfold x7
    refine good_ite (good_State_wrInt h12) h12
  try clear_value x7
  have h14 : Good s0 x8 := by
    unfold x8
    refine good_State_wr h13
  try clear_value x8
  have h15 : Good s0 x9 := by
    unfold x9
    refine good_State_wr h13
  try clear_value x9
  try clear_value x10
  have h16 : Good s0 x11 := by
    unfold x11
    refine good_ite (good_State_putClk h15) h15
  try clear_value x11
  refine good_ite (good_ite (good_State_raise h14) h14) (good_ite h13 (good_ite (good_startReturn h16) h16))

theorem good_execRatioWindow {s0 : State} {a0 : ℕ} {a1 : State} (a1h : Good s0 a1) : ∃ t, execRatioWindow a0 a1 = .next t ∧ Good
    s0 t := by
  unfold execRatioWindow
  exact ⟨_, rfl, good_ratioWindow a1h⟩

theorem good_startOnRc {s0 : State} {a0 : State} (a0h : Good s0 a0) : Good s0 (startOnRc a0) := by
  unfold startOnRc
  exact good_State_raise (good_State_raise (good_beginSwitch a0h))

theorem good_execStartDeadline {s0 : State} {a0 : State} (a0h : Good s0 a0) : ∃ t, execStartDeadline a0 = .next t ∧ Good s0 t :=
    by
  unfold execStartDeadline
  refine ⟨_, rfl, ?_⟩
  refine good_ite a0h ?_
  extract_lets -merge -useContext -underBinder +onlyGivenNames x0 x1
  try clear_value x0
  have h2 : Good s0 x1 := by
    unfold x1
    refine good_State_putClk a0h
  try clear_value x1
  refine good_ite (good_startOnRc h2) h2

theorem good_execRcStop {s0 : State} {a0 : State} (a0h : Good s0 a0) : ∃ t, execRcStop a0 = .next t ∧ Good s0 t := by
  unfold execRcStop
  refine ⟨_, rfl, ?_⟩
  refine good_ite a0h ?_
  extract_lets -merge -useContext -underBinder +onlyGivenNames x0 x1
  try clear_value x0
  have h2 : Good s0 x1 := by
    unfold x1
    refine good_State_putClk (good_State_raise (good_State_wr a0h))
  try clear_value x1
  refine good_ite (good_allCoast h2) h2

theorem good_releaseHalt {s0 : State} {a0 : State} (a0h : Good s0 a0) : Good s0 (releaseHalt a0) := by
  unfold releaseHalt
  exact good_ite (good_haltAll a0h) a0h

theorem good_leaveFault {s0 : State} {a0 : State} (a0h : Good s0 a0) : Good s0 (leaveFault a0) := by
  unfold leaveFault
  extract_lets -merge -useContext -underBinder +onlyGivenNames x0 x1
  have h2 : Good s0 x0 := by
    unfold x0
    refine good_State_raise (good_State_wr a0h)
  try clear_value x0
  have h3 : Good s0 x1 := by
    unfold x1
    refine good_dropLines h2
  try clear_value x1
  refine good_releaseHalt (good_settleState (good_State_each h3 (fun y4 y5 y4h => good_loadedByFault y4h)))

theorem good_rcReadyNow {s0 : State} {a0 : State} (a0h : Good s0 a0) : Good s0 (rcReadyNow a0) := by
  unfold rcReadyNow
  refine good_ite a0h ?_
  extract_lets -merge -useContext -underBinder +onlyGivenNames x0 x1 x2 x3
  try clear_value x0
  have h4 : Good s0 x1 := by
    unfold x1
    refine good_State_putClk (good_State_wr a0h)
  try clear_value x1
  have h5 : Good s0 x2 := by
    unfold x2
    refine good_ite (good_leaveFault h4) h4
  try clear_value x2
  try clear_value x3
  refine good_ite h5 (good_ite (good_State_putClk h5) (good_ite (good_beginSwitch h5) (good_ite (good_startOnRc h5) h5)))

theorem good_execRcReady {s0 : State} {a0 : State} (a0h : Good s0 a0) : ∃ t, execRcReady a0 = .next t ∧ Good s0 t := by
  unfold execRcReady
  exact ⟨_, rfl, good_rcReadyNow a0h⟩

theorem good_execClockFaultEntry {s0 : State} {a0 : State} (a0h : Good s0 a0) : ∃ t, execClockFaultEntry a0 = .next t ∧ Good s0 t
    := by
  unfold execClockFaultEntry
  refine ⟨_, rfl, ?_⟩
  extract_lets -merge -useContext -underBinder +onlyGivenNames x0 x1 x2
  try clear_value x0
  try clear_value x1
  have h3 : Good s0 x2 := by
    unfold x2
    refine good_State_raise (good_State_wr a0h)
  try clear_value x2
  refine good_ite a0h (good_moduleFault (good_State_wr h3))

end Sys2Proof.Machine
end

