-- ==== Sys2Proof/Laws/KeepsBoot.lean ====
section
/-! SUPPORT. Laws/KeepsBoot.lean: every operation of Machine/Boot.lean keeps what Laws/Keeps.lean names. -/

namespace Sys2Proof.Machine

theorem good_State_putBoot {s0 : State} {a0 : State} {a1 : Boot} (a0h : Good s0 a0) : Good s0 (State.putBoot a0 a1) := by
  unfold State.putBoot
  exact good_State_setBoot a0h

theorem good_showDigest {s0 : State} {a0 : State} {a1 : List Sys2Proof.Byte} (a0h : Good s0 a0) : Good s0 (showDigest a0 a1) := by
  unfold showDigest
  exact good_State_each a0h (fun y0 y1 y0h => good_State_wr y0h)

theorem good_inService {s0 : State} {a0 : State} {a1 : FwImage} {a2 : ℕ} (a0h : Good s0 a0) : Good s0 (inService a0 a1 a2) := by
  unfold inService
  extract_lets -merge -useContext -underBinder +onlyGivenNames x0 x1 x2
  have h3 : Good s0 x0 := by
    unfold x0
    refine good_State_wrB (good_State_wr a0h)
  try clear_value x0
  have h4 : Good s0 x1 := by
    unfold x1
    refine good_State_wr (good_State_wr h3)
  try clear_value x1
  try clear_value x2
  refine good_showDigest (good_State_putBoot h4)

theorem good_bootRom {s0 : State} {a0 : State} {a1 : Bool} (a0h : Good s0 a0) : Good s0 (bootRom a0 a1) := by
  unfold bootRom
  extract_lets -merge -useContext -underBinder +onlyGivenNames x0 x1
  have h2 : Good s0 x0 := by
    unfold x0
    refine good_State_wrB (good_State_wrB a0h)
  try clear_value x0
  try clear_value x1
  refine good_State_putBoot h2

theorem good_releaseReset {s0 : State} {a0 : State} {a1 : Bool} {a2 : Bool} (a0h : Good s0 a0) : Good s0 (releaseReset a0 a1 a2)
    := by
  unfold releaseReset
  extract_lets -merge -useContext -underBinder +onlyGivenNames x0 x1 x2 x3 x4 x5 x6 x7 x8 x9
  try clear_value x0
  try clear_value x1
  try clear_value x2
  have h10 : Good s0 x3 := by
    unfold x3
    refine good_freshState a0h
  try clear_value x3
  have h11 : Good s0 x4 := by
    unfold x4
    refine good_State_wrB (good_State_wr (good_State_wr h10))
  try clear_value x4
  try clear_value x5
  have h12 : Good s0 x6 := by
    unfold x6
    refine good_State_setPwr (good_State_wrB h11)
  try clear_value x6
  have h13 : Good s0 x7 := by
    unfold x7
    refine good_nvRecover (good_State_wr h12)
  try clear_value x7
  have h14 : Good s0 x8 := by
    unfold x8
    refine good_State_wr (good_State_wr (good_State_wr h13))
  try clear_value x8
  have h15 : Good s0 x9 := by
    unfold x9
    refine good_State_wr (good_State_wr h14)
  try clear_value x9
  refine good_bootRom (good_State_wrB h15)

theorem good_execPowerOnReset {s0 : State} {a0 : Bool} {a1 : State} (a1h : Good s0 a1) : ∃ t, execPowerOnReset a0 a1 = .next t ∧
    Good s0 t := by
  unfold execPowerOnReset
  exact ⟨_, rfl, good_releaseReset a1h⟩

theorem good_protect {s0 : State} {a0 : State} {a1 : FwImage} {a2 : ℕ} (a0h : Good s0 a0) : Good s0 (protect a0 a1 a2) := by
  unfold protect
  refine good_ite a0h ?_
  extract_lets -merge -useContext -underBinder +onlyGivenNames x0 x1 x2
  have h3 : Good s0 x0 := by
    unfold x0
    refine good_State_wr (good_State_wr a0h)
  try clear_value x0
  try clear_value x1
  have h4 : Good s0 x2 := by
    unfold x2
    refine good_ite (good_State_raise (good_State_wr (good_State_setFw h3))) h3
  try clear_value x2
  refine good_State_wr h4

theorem good_bankChecked {s0 : State} {a0 : State} {a1 : Option FwImage} (a0h : Good s0 a0) : Good s0 (bankChecked a0 a1) := by
  unfold bankChecked
  refine good_ite a0h ?_
  extract_lets -merge -useContext -underBinder +onlyGivenNames x0
  try clear_value x0
  split
  · extract_lets -merge -useContext -underBinder +onlyGivenNames x3 x4 x5 x6 x7
    try clear_value x3
    have h8 : Good s0 x4 := by
      unfold x4
      refine good_State_wrB (good_State_wrB a0h)
    try clear_value x4
    have h9 : Good s0 x5 := by
      unfold x5
      refine good_ite h8 (good_State_raise h8)
    try clear_value x5
    have h10 : Good s0 x6 := by
      unfold x6
      refine good_protect (good_inService h9)
    try clear_value x6
    try clear_value x7
    refine good_State_putBoot h10
  · split
    · exact good_State_putBoot a0h
    · exact good_State_putBoot a0h

theorem good_execBankCheckDone {s0 : State} {a0 : Option FwImage} {a1 : State} (a1h : Good s0 a1) : ∃ t, execBankCheckDone a0 a1
    = .next t ∧ Good s0 t := by
  unfold execBankCheckDone
  exact ⟨_, rfl, good_bankChecked a1h⟩

theorem good_scanSlot {s0 : State} {a0 : State} {a1 : ℕ} (a0h : Good s0 a0) : Good s0 (scanSlot a0 a1) := by
  unfold scanSlot
  extract_lets -merge -useContext -underBinder +onlyGivenNames x0 x1 x2 x3
  try clear_value x0
  try clear_value x1
  have h4 : Good s0 x2 := by
    unfold x2
    refine good_clearSlotArms a0h
  try clear_value x2
  have h5 : Good s0 x3 := by
    unfold x3
    refine good_ite (good_State_putSlot (good_State_setBulk h4)) (good_State_putSlot a0h)
  try clear_value x3
  refine good_ite (good_State_raise h5) h5

theorem good_dropWork {s0 : State} {a0 : State} {a1 : ℕ} (a0h : Good s0 a0) : Good s0 (dropWork a0 a1) := by
  unfold dropWork
  exact good_State_putChip a0h

theorem good_afterLost {s0 : State} {a0 : State} (a0h : Good s0 a0) : Good s0 (afterLost a0) := by
  unfold afterLost
  exact good_State_each (good_emptyAll a0h) (fun y0 y1 y0h => good_dropWork y0h)

theorem good_bootDone {s0 : State} {a0 : State} (a0h : Good s0 a0) : Good s0 (bootDone a0) := by
  unfold bootDone
  refine good_ite a0h ?_
  extract_lets -merge -useContext -underBinder +onlyGivenNames x0 x1 x2 x3 x4 x5 x6 x7 x8 x9
  try clear_value x0
  have h10 : Good s0 x1 := by
    unfold x1
    refine good_ite (good_afterLost a0h) a0h
  try clear_value x1
  have h11 : Good s0 x2 := by
    unfold x2
    refine good_State_each h10 (fun y12 y13 y12h => good_scanSlot y12h)
  try clear_value x2
  have h14 : Good s0 x3 := by
    unfold x3
    refine good_State_each h11 (fun y15 y16 y15h => good_ite (good_loadOcc y15h) y15h)
  try clear_value x3
  have h17 : Good s0 x4 := by
    unfold x4
    refine good_ite h14 (good_State_wrSat h14)
  try clear_value x4
  try clear_value x5
  have h18 : Good s0 x6 := by
    unfold x6
    refine good_State_putBoot h17
  try clear_value x6
  have h19 : Good s0 x7 := by
    unfold x7
    refine good_State_wr (good_State_wr h18)
  try clear_value x7
  try clear_value x8
  have h20 : Good s0 x9 := by
    unfold x9
    refine good_State_setSup h19
  try clear_value x9
  refine good_releaseHalt (good_State_raise (good_State_wr h20))

theorem good_execBootDone {s0 : State} {a0 : State} (a0h : Good s0 a0) : ∃ t, execBootDone a0 = .next t ∧ Good s0 t := by
  unfold execBootDone
  exact ⟨_, rfl, good_bootDone a0h⟩

theorem good_execDebugAccess {s0 : State} {a0 : Bool} {a1 : State} (a1h : Good s0 a1) : ∃ t, execDebugAccess a0 a1 = .next t ∧
    Good s0 t := by
  unfold execDebugAccess
  exact ⟨_, rfl, good_ite (good_State_raise a1h) a1h⟩

theorem good_execSecIdGet {s0 : State} {a0 : Fin 16} {a1 : State} (a1h : Good s0 a1) : ∃ t, execSecIdGet a0 a1 = .next t ∧ Good
    s0 t := by
  unfold execSecIdGet
  exact ⟨_, rfl, good_State_peade a1h (fun y0 y0h => good_State_respond (good_State_putSt y0h))⟩

theorem good_execSecAttest {s0 : State} {a0 : Fin 16} {a1 : State} (a1h : Good s0 a1) : ∃ t, execSecAttest a0 a1 = .next t ∧ Good
    s0 t := by
  unfold execSecAttest
  refine ⟨_, rfl, ?_⟩
  refine good_State_peade a1h ?_
  intro y0 y0h
  extract_lets -merge -useContext -underBinder +onlyGivenNames x1
  try clear_value x1
  split
  · rename_i y3 y4 e2
    have y4h : Good s0 y4 := by
      exact (congrArg (fun p => Good s0 p.2) e2).mp (good_State_draw y0h)
    extract_lets -merge -useContext -underBinder +onlyGivenNames x5
    try clear_value x5
    refine good_State_respond (good_State_bump (good_State_putSt y4h))

theorem good_refuseFw {s0 : State} {a0 : State} {a1 : ℕ} {a2 : Status} {a3 : ℕ} (a0h : Good s0 a0) : Good s0 (refuseFw a0 a1 a2
    a3) := by
  unfold refuseFw
  extract_lets -merge -useContext -underBinder +onlyGivenNames x0 x1
  try clear_value x0
  have h2 : Good s0 x1 := by
    unfold x1
    refine good_State_wr (good_State_setSup a0h)
  try clear_value x1
  refine good_State_respond (good_State_raise h2)

theorem good_resetSubst {s0 : State} {a0 : State} {a1 : FwImage} {a2 : ℕ} (a0h : Good s0 a0) : Good s0 (resetSubst a0 a1 a2) := by
  unfold resetSubst
  extract_lets -merge -useContext -underBinder +onlyGivenNames x0 x1
  have h2 : Good s0 x0 := by
    unfold x0
    refine good_State_wr (good_State_wr a0h)
  try clear_value x0
  try clear_value x1
  refine good_State_putBoot (good_State_wr h2)

theorem good_loadFw {s0 : State} {a0 : State} {a1 : ℕ} {a2 : Bool} (a0h : Good s0 a0) : Good s0 (loadFw a0 a1 a2) := by
  unfold loadFw
  extract_lets -merge -useContext -underBinder +onlyGivenNames x0 x1 x2 x3
  try clear_value x0
  try clear_value x1
  try clear_value x2
  try clear_value x3
  refine good_ite (good_refuseFw a0h) ?_
  refine good_ite (good_refuseFw a0h) ?_
  split
  · exact good_refuseFw a0h
  · extract_lets -merge -useContext -underBinder +onlyGivenNames x7 x8 x9 x10 x11 x12 x13
    try clear_value x7
    try clear_value x8
    try clear_value x9
    try clear_value x10
    try clear_value x11
    have h14 : Good s0 x12 := by
      unfold x12
      refine good_State_setFw a0h
    try clear_value x12
    try clear_value x13
    refine good_ite (good_refuseFw a0h) (good_ite (good_refuseFw (good_State_raise (good_State_setFw a0h))) (good_State_wr
      (good_resetSubst (good_State_setSup h14))))

theorem good_execSecFwLoad {s0 : State} {a0 : Fin 16} {a1 : Bool} {a2 : State} (a2h : Good s0 a2) : ∃ t, execSecFwLoad a0 a1 a2 =
    .next t ∧ Good s0 t := by
  unfold execSecFwLoad
  exact ⟨_, rfl, good_State_peade a2h (fun y0 y0h => good_loadFw y0h)⟩

end Sys2Proof.Machine
end

