-- ==== Sys2Proof/Laws/KeepsSupervision.lean ====
section
/-! SUPPORT. Laws/KeepsSupervision.lean: every operation of Machine/Supervision.lean keeps what Laws/Keeps.lean names. -/

namespace Sys2Proof.Machine

theorem good_resumeStart {s0 : State} {a0 : State} {a1 : HeldStart} (a0h : Good s0 a0) : Good s0 (resumeStart a0 a1) := by
  unfold resumeStart
  split
  · exact good_startTrim a0h
  · exact good_xtStart a0h
  · exact good_triggerRun a0h

theorem good_resumeDuties {s0 : State} {a0 : State} (a0h : Good s0 a0) : Good s0 (resumeDuties a0) := by
  unfold resumeDuties
  exact good_ite a0h (good_State_each (good_State_setSup a0h) (fun y0 y1 y0h => good_resumeStart y0h))

theorem good_showJournal {s0 : State} {a0 : State} (a0h : Good s0 a0) : Good s0 (showJournal a0) := by
  unfold showJournal
  extract_lets -merge -useContext -underBinder +onlyGivenNames x0 x1
  try clear_value x0
  have h2 : Good s0 x1 := by
    unfold x1
    refine good_State_wrSat (good_State_wr a0h)
  try clear_value x1
  refine good_State_wrSat h2

theorem good_journal {s0 : State} {a0 : State} {a1 : Bool} (a0h : Good s0 a0) : Good s0 (journal a0 a1) := by
  unfold journal
  extract_lets -merge -useContext -underBinder +onlyGivenNames x0 x1 x2 x3
  try clear_value x0
  try clear_value x1
  have h4 : Good s0 x2 := by
    unfold x2
    refine good_showJournal (good_State_setSup a0h)
  try clear_value x2
  try clear_value x3
  refine good_ite (good_resumeDuties (good_showJournal (good_State_setSup h4))) h4

theorem good_execJournalRecord {s0 : State} {a0 : Bool} {a1 : State} (a1h : Good s0 a1) : ∃ t, execJournalRecord a0 a1 = .next t
    ∧ Good s0 t := by
  unfold execJournalRecord
  exact ⟨_, rfl, good_ite (good_journal a1h) a1h⟩

theorem good_substUp {s0 : State} {a0 : State} (a0h : Good s0 a0) : Good s0 (substUp a0) := by
  unfold substUp
  refine good_ite ?_ a0h
  extract_lets -merge -useContext -underBinder +onlyGivenNames x0 x1
  have h2 : Good s0 x0 := by
    unfold x0
    refine good_State_wr (good_State_wr a0h)
  try clear_value x0
  try clear_value x1
  refine good_State_setSup h2

theorem good_execRally {s0 : State} {a0 : Bool} {a1 : State} (a1h : Good s0 a1) : ∃ t, execRally a0 a1 = .next t ∧ Good s0 t := by
  unfold execRally
  refine ⟨_, rfl, ?_⟩
  refine good_ite a1h ?_
  extract_lets -merge -useContext -underBinder +onlyGivenNames x0 x1 x2
  try clear_value x0
  have h3 : Good s0 x1 := by
    unfold x1
    refine good_State_setSup a1h
  try clear_value x1
  try clear_value x2
  refine good_ite (good_substUp (good_State_setSup h3)) h3

theorem good_swapActive {s0 : State} {a0 : State} (a0h : Good s0 a0) : Good s0 (swapActive a0) := by
  unfold swapActive
  exact good_State_wr a0h

theorem good_execRallyMissed {s0 : State} {a0 : Bool} {a1 : State} (a1h : Good s0 a1) : ∃ t, execRallyMissed a0 a1 = .next t ∧
    Good s0 t := by
  unfold execRallyMissed
  refine ⟨_, rfl, ?_⟩
  extract_lets -merge -useContext -underBinder +onlyGivenNames x0 x1
  try clear_value x0
  have h2 : Good s0 x1 := by
    unfold x1
    refine good_ite (good_State_setSup a1h) a1h
  try clear_value x1
  refine good_ite (good_State_setSup (good_State_wr (good_swapActive h2))) h2

theorem good_substInService {s0 : State} {a0 : State} (a0h : Good s0 a0) : Good s0 (substInService a0) := by
  unfold substInService
  extract_lets -merge -useContext -underBinder +onlyGivenNames x0 x1 x2 x3
  try clear_value x0
  try clear_value x1
  have h4 : Good s0 x2 := by
    unfold x2
    refine good_substUp (good_resetSubst (good_inService a0h))
  try clear_value x2
  try clear_value x3
  refine good_State_setSup h4

theorem good_fwLoaded {s0 : State} {a0 : State} {a1 : ℕ} {a2 : FwImage} {a3 : ℕ} (a0h : Good s0 a0) : Good s0 (fwLoaded a0 a1 a2
    a3) := by
  unfold fwLoaded
  extract_lets -merge -useContext -underBinder +onlyGivenNames x0 x1 x2 x3
  try clear_value x0
  have h4 : Good s0 x1 := by
    unfold x1
    refine good_State_wr (good_State_setSup a0h)
  try clear_value x1
  try clear_value x2
  have h5 : Good s0 x3 := by
    unfold x3
    refine good_State_wr (good_State_setFw h4)
  try clear_value x3
  refine good_State_respond h5

theorem good_takenOver {s0 : State} {a0 : State} (a0h : Good s0 a0) : Good s0 (takenOver a0) := by
  unfold takenOver
  extract_lets -merge -useContext -underBinder +onlyGivenNames x0 x1 x2 x3
  try clear_value x0
  have h4 : Good s0 x1 := by
    unfold x1
    refine good_showJournal (good_State_setSup a0h)
  try clear_value x1
  have h5 : Good s0 x2 := by
    unfold x2
    refine good_State_raise (good_State_raise h4)
  try clear_value x2
  have h6 : Good s0 x3 := by
    unfold x3
    refine good_resumeDuties (good_substInService (good_State_bump h5))
  try clear_value x3
  split
  · exact good_fwLoaded h6
  · exact h6

theorem good_execTakeoverDone {s0 : State} {a0 : State} (a0h : Good s0 a0) : ∃ t, execTakeoverDone a0 = .next t ∧ Good s0 t := by
  unfold execTakeoverDone
  exact ⟨_, rfl, good_ite (good_takenOver a0h) a0h⟩

theorem good_execSubstFollowing {s0 : State} {a0 : State} (a0h : Good s0 a0) : ∃ t, execSubstFollowing a0 = .next t ∧ Good s0 t
    := by
  unfold execSubstFollowing
  exact ⟨_, rfl, good_ite (good_State_raise (good_State_wr a0h)) a0h⟩

theorem good_rebootSubst {s0 : State} {a0 : State} (a0h : Good s0 a0) : Good s0 (rebootSubst a0) := by
  unfold rebootSubst
  exact good_resetSubst a0h

theorem good_fwNotFollowing {s0 : State} {a0 : State} (a0h : Good s0 a0) : Good s0 (fwNotFollowing a0) := by
  unfold fwNotFollowing
  split
  · exact good_refuseFw (good_rebootSubst a0h)
  · exact a0h

theorem good_substLost {s0 : State} {a0 : State} (a0h : Good s0 a0) : Good s0 (substLost a0) := by
  unfold substLost
  extract_lets -merge -useContext -underBinder +onlyGivenNames x0 x1
  have h2 : Good s0 x0 := by
    unfold x0
    refine good_State_raise (good_rebootSubst a0h)
  try clear_value x0
  try clear_value x1
  refine good_fwNotFollowing (good_State_setSup h2)

theorem good_execSubstLost {s0 : State} {a0 : Bool} {a1 : State} (a1h : Good s0 a1) : ∃ t, execSubstLost a0 a1 = .next t ∧ Good
    s0 t := by
  unfold execSubstLost
  exact ⟨_, rfl, good_ite (good_substLost a1h) a1h⟩

theorem good_mailboxesLost {s0 : State} {a0 : State} (a0h : Good s0 a0) : Good s0 (mailboxesLost a0) := by
  unfold mailboxesLost
  exact good_State_setMbxOrder (good_State_each a0h (fun y0 y1 y0h => good_State_wr y0h))

theorem good_supervisionLost {s0 : State} {a0 : State} {a1 : Bool} (a0h : Good s0 a0) : Good s0 (supervisionLost a0 a1) := by
  unfold supervisionLost
  extract_lets -merge -useContext -underBinder +onlyGivenNames x0 x1 x2
  have h3 : Good s0 x0 := by
    unfold x0
    refine good_State_raise (good_moduleFault a0h)
  try clear_value x0
  have h4 : Good s0 x1 := by
    unfold x1
    refine good_State_wr (good_State_wr h3)
  try clear_value x1
  have h5 : Good s0 x2 := by
    unfold x2
    refine good_State_wr (good_State_wr (good_mailboxesLost h4))
  try clear_value x2
  refine good_bootRom (good_State_setSup (good_State_wr h5))

theorem good_execSupervisionLost {s0 : State} {a0 : Bool} {a1 : State} (a1h : Good s0 a1) : ∃ t, execSupervisionLost a0 a1 =
    .next t ∧ Good s0 t := by
  unfold execSupervisionLost
  exact ⟨_, rfl, good_ite (good_supervisionLost a1h) a1h⟩

theorem good_plannedTakeover {s0 : State} {a0 : State} {a1 : ℕ} {a2 : FwImage} {a3 : ℕ} (a0h : Good s0 a0) : Good s0
    (plannedTakeover a0 a1 a2 a3) := by
  unfold plannedTakeover
  extract_lets -merge -useContext -underBinder +onlyGivenNames x0
  have h1 : Good s0 x0 := by
    unfold x0
    refine good_substInService (good_swapActive a0h)
  try clear_value x0
  refine good_fwLoaded (good_State_bump (good_State_raise h1))

theorem good_execPlannedTakeover {s0 : State} {a0 : State} (a0h : Good s0 a0) : ∃ t, execPlannedTakeover a0 = .next t ∧ Good s0 t
    := by
  unfold execPlannedTakeover
  refine ⟨_, rfl, ?_⟩
  split
  · exact good_ite (good_plannedTakeover a0h) a0h
  · exact a0h

theorem good_execFwCatchupTimeout {s0 : State} {a0 : State} (a0h : Good s0 a0) : ∃ t, execFwCatchupTimeout a0 = .next t ∧ Good s0
    t := by
  unfold execFwCatchupTimeout
  refine ⟨_, rfl, ?_⟩
  split
  · exact good_ite (good_fwNotFollowing a0h) a0h
  · exact a0h

theorem good_execDiagPing {s0 : State} {a0 : Fin 16} {a1 : State} (a1h : Good s0 a1) : ∃ t, execDiagPing a0 a1 = .next t ∧ Good
    s0 t := by
  unfold execDiagPing
  exact ⟨_, rfl, good_State_peade a1h (fun y0 y0h => good_State_respond y0h)⟩

theorem good_execDiagMode {s0 : State} {a0 : Fin 16} {a1 : State} (a1h : Good s0 a1) : ∃ t, execDiagMode a0 a1 = .next t ∧ Good
    s0 t := by
  unfold execDiagMode
  refine ⟨_, rfl, ?_⟩
  refine good_State_peade a1h ?_
  intro y0 y0h
  extract_lets -merge -useContext -underBinder +onlyGivenNames x1
  have h2 : Good s0 x1 := by
    unfold x1
    refine good_ite (good_State_wr y0h) (good_State_wr y0h)
  try clear_value x1
  refine good_State_respond h2

theorem good_execDiagFault {s0 : State} {a0 : Fin 16} {a1 : State} (a1h : Good s0 a1) : ∃ t, execDiagFault a0 a1 = .next t ∧ Good
    s0 t := by
  unfold execDiagFault
  refine ⟨_, rfl, ?_⟩
  refine good_State_peade a1h ?_
  intro y0 y0h
  extract_lets -merge -useContext -underBinder +onlyGivenNames x1
  try clear_value x1
  refine good_ite (good_State_respond (good_detectFault y0h)) (good_State_respond y0h)

end Sys2Proof.Machine
end

