-- ==== Sys2Proof/Laws/KeepsPower.lean ====
section
/-! SUPPORT. Laws/KeepsPower.lean: every operation of Machine/Power.lean keeps what Laws/Keeps.lean names. -/

namespace Sys2Proof.Machine

theorem good_State_putPwr {s0 : State} {a0 : State} {a1 : Pwr} (a0h : Good s0 a0) : Good s0 (State.putPwr a0 a1) := by
  unfold State.putPwr
  exact good_State_setPwr a0h

theorem good_setPower {s0 : State} {a0 : State} {a1 : ℕ} (a0h : Good s0 a0) : Good s0 (setPower a0 a1) := by
  unfold setPower
  exact good_State_wr a0h

theorem good_setInput {s0 : State} {a0 : State} {a1 : Bool} {a2 : Bool} (a0h : Good s0 a0) : Good s0 (setInput a0 a1 a2) := by
  unfold setInput
  exact good_State_wrB a0h

theorem good_returnMain {s0 : State} {a0 : State} (a0h : Good s0 a0) : Good s0 (returnMain a0) := by
  unfold returnMain
  exact good_State_raise (good_State_wr a0h)

theorem good_switchBackup {s0 : State} {a0 : State} (a0h : Good s0 a0) : Good s0 (switchBackup a0) := by
  unfold switchBackup
  exact good_State_bump (good_State_raise (good_State_wr a0h))

theorem good_inputValid {s0 : State} {a0 : State} {a1 : Bool} (a0h : Good s0 a0) : Good s0 (inputValid a0 a1) := by
  unfold inputValid
  extract_lets -merge -useContext -underBinder +onlyGivenNames x0 x1 x2 x3 x4 x5
  have h6 : Good s0 x0 := by
    unfold x0
    refine good_ite (good_State_wr (good_freshState a0h)) a0h
  try clear_value x0
  have h7 : Good s0 x1 := by
    unfold x1
    refine good_setInput h6
  try clear_value x1
  try clear_value x2
  have h8 : Good s0 x3 := by
    unfold x3
    refine good_ite h6 (good_ite h7 (good_State_putPwr h7))
  try clear_value x3
  try clear_value x4
  have h9 : Good s0 x5 := by
    unfold x5
    refine good_State_putPwr h8
  try clear_value x5
  refine good_ite h8 (good_ite h9 (good_ite (good_switchBackup h9) (good_returnMain h9)))

theorem good_execInputValid {s0 : State} {a0 : Bool} {a1 : State} (a1h : Good s0 a1) : ∃ t, execInputValid a0 a1 = .next t ∧ Good
    s0 t := by
  unfold execInputValid
  exact ⟨_, rfl, good_inputValid a1h⟩

theorem good_bothLost {s0 : State} {a0 : State} (a0h : Good s0 a0) : Good s0 (bothLost a0) := by
  unfold bothLost
  extract_lets -merge -useContext -underBinder +onlyGivenNames x0 x1
  have h2 : Good s0 x0 := by
    unfold x0
    refine good_State_bump (good_State_raise a0h)
  try clear_value x0
  try clear_value x1
  refine good_State_putPwr h2

theorem good_inputLost {s0 : State} {a0 : State} {a1 : Bool} (a0h : Good s0 a0) : Good s0 (inputLost a0 a1) := by
  unfold inputLost
  refine good_ite (good_setInput a0h) ?_
  extract_lets -merge -useContext -underBinder +onlyGivenNames x0 x1 x2 x3
  try clear_value x0
  have h4 : Good s0 x1 := by
    unfold x1
    refine good_setInput a0h
  try clear_value x1
  try clear_value x2
  have h5 : Good s0 x3 := by
    unfold x3
    refine good_ite h4 (good_State_putPwr h4)
  try clear_value x3
  refine good_ite (good_ite h5 (good_ite (good_returnMain h5) (good_switchBackup h5))) (good_bothLost h5)

theorem good_execInputLost {s0 : State} {a0 : Bool} {a1 : State} (a1h : Good s0 a1) : ∃ t, execInputLost a0 a1 = .next t ∧ Good
    s0 t := by
  unfold execInputLost
  exact ⟨_, rfl, good_inputLost a1h⟩

theorem good_execMainReturn {s0 : State} {a0 : State} (a0h : Good s0 a0) : ∃ t, execMainReturn a0 = .next t ∧ Good s0 t := by
  unfold execMainReturn
  refine ⟨_, rfl, ?_⟩
  extract_lets -merge -useContext -underBinder +onlyGivenNames x0
  try clear_value x0
  refine good_ite (good_returnMain a0h) a0h

theorem good_commandReturn {s0 : State} {a0 : State} (a0h : Good s0 a0) : Good s0 (commandReturn a0) := by
  unfold commandReturn
  exact good_ite (good_returnMain a0h) a0h

theorem good_execPwrCfgReturn {s0 : State} {a0 : State} (a0h : Good s0 a0) : ∃ t, execPwrCfgReturn a0 = .next t ∧ Good s0 t := by
  unfold execPwrCfgReturn
  exact ⟨_, rfl, good_commandReturn a0h⟩

theorem good_confirmFail {s0 : State} {a0 : State} (a0h : Good s0 a0) : Good s0 (confirmFail a0) := by
  unfold confirmFail
  extract_lets -merge -useContext -underBinder +onlyGivenNames x0 x1 x2 x3 x4
  have h5 : Good s0 x0 := by
    unfold x0
    refine good_haltAll a0h
  try clear_value x0
  try clear_value x1
  have h6 : Good s0 x2 := by
    unfold x2
    refine good_markFlushAll (good_clearAll (good_State_setPlant h5))
  try clear_value x2
  try clear_value x3
  have h7 : Good s0 x4 := by
    unfold x4
    refine good_State_putPwr (good_setPower h6)
  try clear_value x4
  refine good_ite h7 (good_powerFailStore h7)

theorem good_execPowerFailConfirm {s0 : State} {a0 : State} (a0h : Good s0 a0) : ∃ t, execPowerFailConfirm a0 = .next t ∧ Good s0
    t := by
  unfold execPowerFailConfirm
  refine ⟨_, rfl, ?_⟩
  extract_lets -merge -useContext -underBinder +onlyGivenNames x0
  try clear_value x0
  refine good_ite (good_confirmFail a0h) a0h

theorem good_switchOffAll {s0 : State} {a0 : State} (a0h : Good s0 a0) : Good s0 (switchOffAll a0) := by
  unfold switchOffAll
  exact good_switchOffHalf (good_switchOffHalf a0h)

theorem good_execPowerFailSwitchOff {s0 : State} {a0 : State} (a0h : Good s0 a0) : ∃ t, execPowerFailSwitchOff a0 = .next t ∧
    Good s0 t := by
  unfold execPowerFailSwitchOff
  refine ⟨_, rfl, ?_⟩
  extract_lets -merge -useContext -underBinder +onlyGivenNames x0
  try clear_value x0
  refine good_ite (good_switchOffAll (good_emptyAll a0h)) a0h

theorem good_holdupSample {s0 : State} {a0 : State} {a1 : ℕ} {a2 : ℕ} {a3 : ℕ} {a4 : ℕ} {a5 : ℕ} (a0h : Good s0 a0) : Good s0
    (holdupSample a0 a1 a2 a3 a4 a5) := by
  unfold holdupSample
  extract_lets -merge -useContext -underBinder +onlyGivenNames x0 x1 x2 x3 x4
  have h5 : Good s0 x0 := by
    unfold x0
    refine good_State_wrSat (good_State_wrSat a0h)
  try clear_value x0
  have h6 : Good s0 x1 := by
    unfold x1
    refine good_State_wrSat (good_State_wrSat h5)
  try clear_value x1
  try clear_value x2
  try clear_value x3
  have h7 : Good s0 x4 := by
    unfold x4
    refine good_State_wrB (good_State_wrSat h6)
  try clear_value x4
  refine good_ite (good_State_raise h7) h7

theorem good_execHoldupSample {s0 : State} {a0 : ℕ} {a1 : ℕ} {a2 : ℕ} {a3 : ℕ} {a4 : ℕ} {a5 : State} (a5h : Good s0 a5) : ∃ t,
    execHoldupSample a0 a1 a2 a3 a4 a5 = .next t ∧ Good s0 t := by
  unfold execHoldupSample
  exact ⟨_, rfl, good_holdupSample a5h⟩

theorem good_dropPlans {s0 : State} {a0 : State} {a1 : ℕ} (a0h : Good s0 a0) : Good s0 (dropPlans a0 a1) := by
  unfold dropPlans
  extract_lets -merge -useContext -underBinder +onlyGivenNames x0
  have h1 : Good s0 x0 := by
    unfold x0
    refine good_State_each a0h (fun y2 y3 y2h => good_ite (good_failLoad y2h) y2h)
  try clear_value x0
  refine good_State_each h1 (fun y4 y5 y4h => good_ite (good_failStage y4h) y4h)

theorem good_halfSupplyFails {s0 : State} {a0 : State} {a1 : ℕ} (a0h : Good s0 a0) : Good s0 (halfSupplyFails a0 a1) := by
  unfold halfSupplyFails
  extract_lets -merge -useContext -underBinder +onlyGivenNames x0 x1
  have h2 : Good s0 x0 := by
    unfold x0
    refine good_State_raise (good_State_wr a0h)
  try clear_value x0
  have h3 : Good s0 x1 := by
    unfold x1
    refine good_State_each (good_dropPlans (good_failHalf h2)) (fun y4 y5 y4h => good_chipCircuitsDown y4h)
  try clear_value x1
  refine good_switchOffHalf h3

theorem good_execHalfSupplyFail {s0 : State} {a0 : Fin 2} {a1 : State} (a1h : Good s0 a1) : ∃ t, execHalfSupplyFail a0 a1 = .next
    t ∧ Good s0 t := by
  unfold execHalfSupplyFail
  exact ⟨_, rfl, good_ite (good_halfSupplyFails a1h) a1h⟩

theorem good_execChipletRailFail {s0 : State} {a0 : Fin 4} {a1 : State} (a1h : Good s0 a1) : ∃ t, execChipletRailFail a0 a1 =
    .next t ∧ Good s0 t := by
  unfold execChipletRailFail
  exact ⟨_, rfl, good_ite a1h (good_ringsOff (good_meshLost (good_chipCircuitsDown (good_State_raise a1h))))⟩

theorem good_noteStop {s0 : State} {a0 : State} {a1 : ℕ} (a0h : Good s0 a0) : Good s0 (noteStop a0 a1) := by
  unfold noteStop
  exact good_State_raise (good_State_wr a0h)

theorem good_orderlyStop {s0 : State} {a0 : State} {a1 : ℕ} (a0h : Good s0 a0) : Good s0 (orderlyStop a0 a1) := by
  unfold orderlyStop
  extract_lets -merge -useContext -underBinder +onlyGivenNames x0 x1
  try clear_value x0
  have h2 : Good s0 x1 := by
    unfold x1
    refine good_State_putPwr (good_noteStop (good_State_raise a0h))
  try clear_value x1
  refine good_abandonWrites (good_haltAll (good_setPower h2))

theorem good_stopped {s0 : State} {a0 : State} {a1 : Bool} (a0h : Good s0 a0) : Good s0 (stopped a0 a1) := by
  unfold stopped
  extract_lets -merge -useContext -underBinder +onlyGivenNames x0 x1
  have h2 : Good s0 x0 := by
    unfold x0
    refine good_setPower (good_switchOffAll (good_emptyAll a0h))
  try clear_value x0
  try clear_value x1
  refine good_State_putPwr h2

theorem good_immediateStop {s0 : State} {a0 : State} (a0h : Good s0 a0) : Good s0 (immediateStop a0) := by
  unfold immediateStop
  exact good_stopped (good_moduleFault (good_noteStop (good_State_raise a0h)))

theorem good_execOrderlyStopFault {s0 : State} {a0 : State} (a0h : Good s0 a0) : ∃ t, execOrderlyStopFault a0 = .next t ∧ Good s0
    t := by
  unfold execOrderlyStopFault
  refine ⟨_, rfl, ?_⟩
  extract_lets -merge -useContext -underBinder +onlyGivenNames x0 x1 x2
  try clear_value x0
  try clear_value x1
  have h3 : Good s0 x2 := by
    unfold x2
    refine good_moduleFault (good_State_putPwr a0h)
  try clear_value x2
  refine good_ite (good_State_each h3 (fun y4 y5 y4h => good_ite (good_discardJob y4h) y4h)) a0h

theorem good_execOrderlyStopOff {s0 : State} {a0 : State} (a0h : Good s0 a0) : ∃ t, execOrderlyStopOff a0 = .next t ∧ Good s0 t
    := by
  unfold execOrderlyStopOff
  refine ⟨_, rfl, ?_⟩
  extract_lets -merge -useContext -underBinder +onlyGivenNames x0
  try clear_value x0
  refine good_ite (good_stopped a0h) a0h

theorem good_resume {s0 : State} {a0 : State} (a0h : Good s0 a0) : Good s0 (resume a0) := by
  unfold resume
  extract_lets -merge -useContext -underBinder +onlyGivenNames x0 x1 x2
  have h3 : Good s0 x0 := by
    unfold x0
    refine good_switchOn (good_setPower a0h)
  try clear_value x0
  try clear_value x1
  have h4 : Good s0 x2 := by
    unfold x2
    refine good_State_raise (good_State_putPwr h3)
  try clear_value x2
  refine good_releaseHalt (good_ite (good_startFirst h4) h4)

theorem good_execAutoResume {s0 : State} {a0 : State} (a0h : Good s0 a0) : ∃ t, execAutoResume a0 = .next t ∧ Good s0 t := by
  unfold execAutoResume
  refine ⟨_, rfl, ?_⟩
  extract_lets -merge -useContext -underBinder +onlyGivenNames x0
  try clear_value x0
  refine good_ite (good_resume a0h) a0h

theorem good_commandResume {s0 : State} {a0 : State} (a0h : Good s0 a0) : Good s0 (commandResume a0) := by
  unfold commandResume
  exact good_ite (good_resume a0h) a0h

theorem good_execResume {s0 : State} {a0 : State} (a0h : Good s0 a0) : ∃ t, execResume a0 = .next t ∧ Good s0 t := by
  unfold execResume
  exact ⟨_, rfl, good_commandResume a0h⟩

theorem good_endOfStart {s0 : State} {a0 : State} (a0h : Good s0 a0) : Good s0 (endOfStart a0) := by
  unfold endOfStart
  exact good_ite (good_setPower (good_noteStop (good_State_raise a0h))) (good_releaseHalt (good_switchOn (good_setPower a0h)))

theorem good_execEndOfStart {s0 : State} {a0 : State} (a0h : Good s0 a0) : ∃ t, execEndOfStart a0 = .next t ∧ Good s0 t := by
  unfold execEndOfStart
  exact ⟨_, rfl, good_ite (good_endOfStart a0h) a0h⟩

theorem good_throttleEval {s0 : State} {a0 : State} (a0h : Good s0 a0) : Good s0 (throttleEval a0) := by
  unfold throttleEval
  extract_lets -merge -useContext -underBinder +onlyGivenNames x0
  try clear_value x0
  split
  · refine good_ite a0h ?_
    extract_lets -merge -useContext -underBinder +onlyGivenNames x3 x4 x5 x6
    have h7 : Good s0 x3 := by
      unfold x3
      refine good_State_bump (good_State_wr (good_State_wr a0h))
    try clear_value x3
    have h8 : Good s0 x4 := by
      unfold x4
      refine good_State_wr h7
    try clear_value x4
    try clear_value x5
    have h9 : Good s0 x6 := by
      unfold x6
      refine good_State_putPwr h8
    try clear_value x6
    refine good_ite (good_State_raise h9) h9
  · exact good_ite (good_State_putPwr (good_State_wr a0h)) a0h

theorem good_execThrottleEval {s0 : State} {a0 : ℕ} {a1 : ℕ} {a2 : State} (a2h : Good s0 a2) : ∃ t, execThrottleEval a0 a1 a2 =
    .next t ∧ Good s0 t := by
  unfold execThrottleEval
  exact ⟨_, rfl, good_throttleEval (good_State_wrSat (good_State_wrSat a2h))⟩

theorem good_State_putSensor {s0 : State} {a0 : State} {a1 : ℕ} {a2 : Sensor} (a0h : Good s0 a0) : Good s0 (State.putSensor a0 a1
    a2) := by
  unfold State.putSensor
  refine good_State_setSensors a0h (fun c => ?_)
  refine spWf_spSet _ _ _ _ ?_
  refine Good.at_sensors (s0 := s0) ?_ c
  exact a0h

theorem good_judgeSensor {s0 : State} {a0 : State} {a1 : ℤ} {a2 : ℕ} (a0h : Good s0 a0) : Good s0 (judgeSensor a0 a1 a2) := by
  unfold judgeSensor
  extract_lets -merge -useContext -underBinder +onlyGivenNames x0 x1 x2 x3 x4
  try clear_value x0
  try clear_value x1
  try clear_value x2
  try clear_value x3
  try clear_value x4
  refine good_ite (good_ite (good_State_raise (good_State_putSensor a0h)) (good_State_putSensor a0h)) (good_State_putSensor a0h)

theorem good_judgeGroup {s0 : State} {a0 : State} {a1 : ℕ} (a0h : Good s0 a0) : Good s0 (judgeGroup a0 a1) := by
  unfold judgeGroup
  extract_lets -merge -useContext -underBinder +onlyGivenNames x0
  try clear_value x0
  refine good_State_each a0h (fun y1 y2 y1h => good_judgeSensor y1h)

theorem good_showTmax {s0 : State} {a0 : State} (a0h : Good s0 a0) : Good s0 (showTmax a0) := by
  unfold showTmax
  extract_lets -merge -useContext -underBinder +onlyGivenNames x0
  try clear_value x0
  split
  · exact a0h
  · extract_lets -merge -useContext -underBinder +onlyGivenNames x5 x6 x7 x8 x9
    try clear_value x5
    try clear_value x6
    try clear_value x7
    have h10 : Good s0 x8 := by
      unfold x8
      refine good_State_wr (good_State_wr (good_State_wrInt a0h))
    try clear_value x8
    have h11 : Good s0 x9 := by
      unfold x9
      refine good_ite (good_State_raise h10) h10
    try clear_value x9
    refine good_ite (good_State_raise h11) h11

theorem good_thermalStops {s0 : State} {a0 : State} (a0h : Good s0 a0) : Good s0 (thermalStops a0) := by
  unfold thermalStops
  extract_lets -merge -useContext -underBinder +onlyGivenNames x0 x1
  try clear_value x0
  try clear_value x1
  refine good_ite (good_immediateStop a0h) (good_ite (good_ite (good_orderlyStop a0h) (good_immediateStop a0h)) (good_ite
    (good_orderlyStop a0h) a0h))

theorem good_watchCool {s0 : State} {a0 : State} (a0h : Good s0 a0) : Good s0 (watchCool a0) := by
  unfold watchCool
  exact good_ite (good_State_putPwr a0h) (good_State_putPwr a0h)

theorem good_moveRings {s0 : State} {a0 : State} {a1 : ℕ} (a0h : Good s0 a0) : Good s0 (moveRings a0 a1) := by
  unfold moveRings
  refine good_State_each a0h ?_
  intro y0 y1 y0h
  extract_lets -merge -useContext -underBinder +onlyGivenNames x2 x3
  try clear_value x2
  try clear_value x3
  refine good_State_putRing y0h

theorem good_feedForwardQuiet {s0 : State} {a0 : State} {a1 : ℕ} (a0h : Good s0 a0) : Good s0 (feedForwardQuiet a0 a1) := by
  unfold feedForwardQuiet
  extract_lets -merge -useContext -underBinder +onlyGivenNames x0 x1 x2 x3
  try clear_value x0
  try clear_value x1
  try clear_value x2
  have h4 : Good s0 x3 := by
    unfold x3
    refine good_State_wr (good_State_wr a0h)
  try clear_value x3
  refine good_ite (good_showStepCheck (good_putRingWork h4)) (good_putRingWork a0h)

theorem good_feedForward {s0 : State} {a0 : State} {a1 : ℕ} (a0h : Good s0 a0) : Good s0 (feedForward a0 a1) := by
  unfold feedForward
  extract_lets -merge -useContext -underBinder +onlyGivenNames x0 x1 x2 x3 x4
  try clear_value x0
  try clear_value x1
  have h5 : Good s0 x2 := by
    unfold x2
    refine good_ite (good_State_raise (good_State_wr a0h)) a0h
  try clear_value x2
  have h6 : Good s0 x3 := by
    unfold x3
    refine good_moveRings h5
  try clear_value x3
  try clear_value x4
  refine good_ite (good_putRingWork (good_State_wr a0h)) (good_ite h5 (good_ite (good_putRingWork h6) (good_feedForwardQuiet h6)))

theorem good_chipTemp {s0 : State} {a0 : State} {a1 : ℕ} {a2 : ℤ} (a0h : Good s0 a0) : Good s0 (chipTemp a0 a1 a2) := by
  unfold chipTemp
  extract_lets -merge -useContext -underBinder +onlyGivenNames x0 x1 x2 x3 x4 x5
  try clear_value x0
  try clear_value x1
  try clear_value x2
  have h6 : Good s0 x3 := by
    unfold x3
    refine good_State_wrInt a0h
  try clear_value x3
  try clear_value x4
  try clear_value x5
  refine good_ite h6 (good_ite (good_startXtalk h6) (good_ite (good_startTrim h6) h6))

theorem good_quadTempRead {s0 : State} {a0 : State} {a1 : ℕ} {a2 : ℤ} (a0h : Good s0 a0) : Good s0 (quadTempRead a0 a1 a2) := by
  unfold quadTempRead
  extract_lets -merge -useContext -underBinder +onlyGivenNames x0
  have h1 : Good s0 x0 := by
    unfold x0
    refine good_State_wrInt a0h
  try clear_value x0
  refine good_ite (good_triggerRun h1) h1

theorem good_actOnSensors {s0 : State} {a0 : State} (a0h : Good s0 a0) : Good s0 (actOnSensors a0) := by
  unfold actOnSensors
  extract_lets -merge -useContext -underBinder +onlyGivenNames x0 x1
  have h2 : Good s0 x0 := by
    unfold x0
    refine good_State_each a0h (fun y3 y4 y3h => good_ite (good_quadTempRead y3h) y3h)
  try clear_value x0
  have h5 : Good s0 x1 := by
    unfold x1
    refine good_State_each h2 (fun y6 y7 y6h => good_ite (good_chipTemp y6h) y6h)
  try clear_value x1
  refine good_ite (good_hwTick h5) h5

theorem good_feedForwardAll {s0 : State} {a0 : State} (a0h : Good s0 a0) : Good s0 (feedForwardAll a0) := by
  unfold feedForwardAll
  exact good_ite a0h (good_State_each a0h (fun y0 y1 y0h => good_ite (good_feedForward y0h) y0h))

theorem good_sensorRead {s0 : State} {a0 : State} {a1 : List ℤ} (a0h : Good s0 a0) : Good s0 (sensorRead a0 a1) := by
  unfold sensorRead
  extract_lets -merge -useContext -underBinder +onlyGivenNames x0 x1
  have h2 : Good s0 x0 := by
    unfold x0
    refine good_State_each a0h ?_
    intro y3 y4 y3h
    extract_lets -merge -useContext -underBinder +onlyGivenNames x5
    try clear_value x5
    refine good_State_putSensor y3h
  try clear_value x0
  have h6 : Good s0 x1 := by
    unfold x1
    refine good_feedForwardAll (good_watchCool (good_thermalStops (good_showTmax (good_State_each h2 (fun y7 y8 y7h =>
      good_judgeGroup y7h)))))
  try clear_value x1
  refine good_ite (good_actOnSensors h6) h6

theorem good_execSensorRead {s0 : State} {a0 : List ℤ} {a1 : State} (a1h : Good s0 a1) : ∃ t, execSensorRead a0 a1 = .next t ∧
    Good s0 t := by
  unfold execSensorRead
  exact ⟨_, rfl, good_ite a1h (good_sensorRead a1h)⟩

end Sys2Proof.Machine
end

