-- ==== Sys2Proof/Laws/KeepsBus.lean ====
section
/-! SUPPORT. Laws/KeepsBus.lean: every operation of Machine/Bus.lean keeps what Laws/Keeps.lean names. -/

namespace Sys2Proof.Machine

theorem good_stepIndex {s0 : State} {a0 : State} {a1 : Fld} {a2 : Fld} {a3 : ℕ} {a4 : ℕ} (a0h : Good s0 a0) : Good s0 (stepIndex
    a0 a1 a2 a3 a4) := by
  unfold stepIndex
  exact good_ite (good_State_wr a0h) a0h

theorem good_windowStep {s0 : State} {a0 : State} {a1 : RegSpec} {a2 : ℕ} {a3 : Bool} (a0h : Good s0 a0) : Good s0 (windowStep a0
    a1 a2 a3) := by
  unfold windowStep
  extract_lets -merge -useContext -underBinder +onlyGivenNames x0
  try clear_value x0
  split
  · exact good_stepIndex a0h
  · exact good_stepIndex a0h
  · exact good_stepIndex a0h
  · exact good_stepIndex a0h
  · exact good_stepIndex a0h
  · exact good_ite (good_stepIndex a0h) a0h
  · exact good_ite (good_stepIndex a0h) a0h
  · exact a0h

theorem good_meshTblWrite {s0 : State} {a0 : State} {a1 : ℕ} {a2 : Sys2Proof.Word} (a0h : Good s0 a0) : Good s0 (meshTblWrite a0
    a1 a2) := by
  unfold meshTblWrite
  extract_lets -merge -useContext -underBinder +onlyGivenNames x0 x1 x2 x3 x4
  try clear_value x0
  try clear_value x1
  try clear_value x2
  try clear_value x3
  have h5 : Good s0 x4 := by
    unfold x4
    refine good_State_putMeshTbl a0h
  try clear_value x4
  refine good_ite (good_ite (good_State_raise h5) h5) a0h

theorem good_tcalWrite {s0 : State} {a0 : State} {a1 : ℕ} {a2 : Sys2Proof.Word} (a0h : Good s0 a0) : Good s0 (tcalWrite a0 a1 a2)
    := by
  unfold tcalWrite
  extract_lets -merge -useContext -underBinder +onlyGivenNames x0 x1
  try clear_value x0
  try clear_value x1
  refine good_ite (good_State_putTcal a0h) a0h

theorem good_sineWrite {s0 : State} {a0 : State} {a1 : RegSpec} {a2 : ℕ} {a3 : Sys2Proof.Word} (a0h : Good s0 a0) : Good s0
    (sineWrite a0 a1 a2 a3) := by
  unfold sineWrite
  extract_lets -merge -useContext -underBinder +onlyGivenNames x0 x1 x2
  try clear_value x0
  have h3 : Good s0 x1 := by
    unfold x1
    refine good_writeBits a0h
  try clear_value x1
  try clear_value x2
  refine good_State_setPlant h3

theorem good_readPlain {s0 : State} {a0 : State} {a1 : RegSpec} {a2 : ℕ} (a0h : Good s0 a0) : Good s0 (readPlain a0 a1 a2).2 := by
  unfold readPlain
  refine good_ite2 (good_mk2 a0h) ?_
  extract_lets -merge -useContext -underBinder +onlyGivenNames x0 x1
  have h2 : Good s0 x0 := by
    unfold x0
    refine good_ite (good_nvAdvance a0h) a0h
  try clear_value x0
  try clear_value x1
  refine good_mk2 (good_windowStep (good_readEffect h2))

theorem good_readDirect {s0 : State} {a0 : State} {a1 : RegSpec} {a2 : ℕ} (a0h : Good s0 a0) : Good s0 (readDirect a0 a1 a2).2 :=
    by
  unfold readDirect
  refine good_ite2 (good_mk2 a0h) ?_
  refine good_ite2 ?_ ?_
  · extract_lets -merge -useContext -underBinder +onlyGivenNames x0 x1
    try clear_value x0
    have h2 : Good s0 x1.2 := by
      unfold x1
      refine good_readPlain a0h
    try clear_value x1
    refine good_mk2 ?_
    refine good_State_setShadow h2 (fun c => ?_)
    refine spWf_spSet _ _ _ _ ?_
    refine Good.at_shadow (s0 := s0) ?_ c
    exact h2
  · refine good_ite2 ?_ (good_readPlain a0h)
    split
    · refine good_mk2 ?_
      refine good_State_setShadow a0h (fun c => ?_)
      refine spWf_spSet _ _ _ _ ?_
      refine Good.at_shadow (s0 := s0) ?_ c
      exact a0h
    · exact good_readPlain a0h

theorem good_aliasRead {s0 : State} {a0 : State} {a1 : ℕ} {a2 : ℕ} (a0h : Good s0 a0) : Good s0 (aliasRead a0 a1 a2).2 := by
  unfold aliasRead
  split
  · exact good_mk2 a0h
  · refine good_ite2 (good_mk2 a0h) ?_
    extract_lets -merge -useContext -underBinder +onlyGivenNames x4 x5
    try clear_value x4
    try clear_value x5
    refine good_mk2 (good_ite a0h (good_State_setWord a0h))

theorem good_startFetch {s0 : State} {a0 : State} (a0h : Good s0 a0) : Good s0 (startFetch a0) := by
  unfold startFetch
  extract_lets -merge -useContext -underBinder +onlyGivenNames x0 x1
  try clear_value x0
  try clear_value x1
  refine good_State_setBus a0h

theorem good_indRead {s0 : State} {a0 : State} (a0h : Good s0 a0) : Good s0 (indRead a0).2 := by
  unfold indRead
  split
  · exact good_mk2 a0h
  · exact good_mk2 (good_ite (good_startFetch (good_State_wr a0h)) a0h)

theorem good_indPost {s0 : State} {a0 : State} {a1 : Sys2Proof.Word} {a2 : Bool} (a0h : Good s0 a0) : Good s0 (indPost a0 a1 a2)
    := by
  unfold indPost
  extract_lets -merge -useContext -underBinder +onlyGivenNames x0 x1 x2
  try clear_value x0
  try clear_value x1
  have h3 : Good s0 x2 := by
    unfold x2
    refine good_State_setBus a0h
  try clear_value x2
  refine good_stepIndex h3

theorem good_State_readWord {s0 s : State} {a : ℕ} (h : Good s0 s) : Good s0 (s.readWord a).2 := by
  unfold State.readWord
  generalize (a - 0x800000) / 0x80 = k
  generalize (a - 0x800000) % 0x80 / 4 = b
  have h1 := good_aliasRead (a1 := k) (a2 := b) h
  generalize aliasRead s k b = v at h1 ⊢
  refine good_ite2 (good_indRead h) (good_ite2 h (good_ite2 (good_mk2 h1) ?_))
  split
  · exact good_ite2 h (good_readDirect h)
  · exact h

theorem good_hostRead {s0 : State} {a0 : State} {a1 : ℕ} (a0h : Good s0 a0) : Good s0 (hostRead a0 a1).2 := by
  unfold hostRead
  exact good_ite2 (good_State_readWord a0h) (good_mk2 a0h)

theorem good_rxForget {s0 : State} {a0 : State} {a1 : ℕ} (a0h : Good s0 a0) : Good s0 (rxForget a0 a1) := by
  unfold rxForget
  exact good_State_each a0h (fun y0 y1 y0h => good_State_putIng y0h)

theorem good_blockEffect {s0 : State} {a0 : State} {a1 : ℕ} {a2 : Bool} (a0h : Good s0 a0) : Good s0 (blockEffect a0 a1 a2) := by
  unfold blockEffect
  exact good_ite (good_ite a0h (good_rxForget a0h)) (good_ite (good_ite (good_sendSkew a0h) a0h) (good_ite (good_ite
    (good_ainRestartAll a0h) (good_ainGate a0h)) (good_ite (good_ite (good_State_each a0h (fun y0 y1 y0h => good_showAout y0h))
    (good_clearAll a0h)) (good_ite (good_ite a0h (good_markFlushAll a0h)) a0h))))

theorem good_clkEnWrite {s0 : State} {a0 : State} {a1 : RegSpec} {a2 : ℕ} {a3 : Sys2Proof.Word} (a0h : Good s0 a0) : Good s0
    (clkEnWrite a0 a1 a2 a3) := by
  unfold clkEnWrite
  refine good_ite (good_State_raise a0h) ?_
  extract_lets -merge -useContext -underBinder +onlyGivenNames x0 x1 x2
  try clear_value x0
  have h3 : Good s0 x1 := by
    unfold x1
    refine good_writeWhole a0h
  try clear_value x1
  try clear_value x2
  refine good_State_each h3 (fun y4 y5 y4h => good_ite y4h (good_blockEffect y4h))

theorem good_halfCfgWrite {s0 : State} {a0 : State} {a1 : RegSpec} {a2 : ℕ} {a3 : Sys2Proof.Word} {a4 : Bool} (a0h : Good s0 a0)
    : Good s0 (halfCfgWrite a0 a1 a2 a3 a4) := by
  unfold halfCfgWrite
  exact good_ite (good_State_wr (good_writeBits a0h)) (good_writeWhole a0h)

theorem good_bridgeCfgWrite {s0 : State} {a0 : State} {a1 : RegSpec} {a2 : ℕ} {a3 : ℕ} {a4 : Sys2Proof.Word} {a5 : Bool} (a0h :
    Good s0 a0) : Good s0 (bridgeCfgWrite a0 a1 a2 a3 a4 a5) := by
  unfold bridgeCfgWrite
  exact good_ite a0h (good_ite (good_routeBridge (good_writeBits a0h)) (good_writeWhole a0h))

theorem good_streamCfgWrite {s0 : State} {a0 : State} {a1 : RegSpec} {a2 : ℕ} {a3 : ℕ} {a4 : Sys2Proof.Word} (a0h : Good s0 a0) :
    Good s0 (streamCfgWrite a0 a1 a2 a3 a4) := by
  unfold streamCfgWrite
  exact good_ite (good_writeWhole a0h) (good_State_raiseRx a0h)

theorem good_outMapWrite {s0 : State} {a0 : State} {a1 : RegSpec} {a2 : ℕ} {a3 : ℕ} {a4 : Sys2Proof.Word} (a0h : Good s0 a0) :
    Good s0 (outMapWrite a0 a1 a2 a3 a4) := by
  unfold outMapWrite
  exact good_ite (good_State_raise a0h) (good_applyOutMap (good_writeWhole a0h))

theorem good_feedCfgWrite {s0 : State} {a0 : State} {a1 : RegSpec} {a2 : ℕ} {a3 : Sys2Proof.Word} {a4 : Bool} (a0h : Good s0 a0)
    : Good s0 (feedCfgWrite a0 a1 a2 a3 a4) := by
  unfold feedCfgWrite
  extract_lets -merge -useContext -underBinder +onlyGivenNames x0
  have h1 : Good s0 x0 := by
    unfold x0
    refine good_writeWhole a0h
  try clear_value x0
  refine good_ite (good_feedCfgEffect h1) h1

theorem good_tbSyncLoWrite {s0 : State} {a0 : State} {a1 : RegSpec} {a2 : ℕ} {a3 : Sys2Proof.Word} (a0h : Good s0 a0) : Good s0
    (tbSyncLoWrite a0 a1 a2 a3) := by
  unfold tbSyncLoWrite
  extract_lets -merge -useContext -underBinder +onlyGivenNames x0 x1
  have h2 : Good s0 x0 := by
    unfold x0
    refine good_writeWhole a0h
  try clear_value x0
  try clear_value x1
  refine good_State_setTime h2

theorem good_sliceCheck {s0 : State} {a0 : State} {a1 : ℕ} (a0h : Good s0 a0) : Good s0 (sliceCheck a0 a1) := by
  unfold sliceCheck
  extract_lets -merge -useContext -underBinder +onlyGivenNames x0 x1
  try clear_value x0
  try clear_value x1
  refine good_ite a0h (good_faultAll (good_State_wr (good_State_wr a0h)))

theorem good_tileWrite {s0 : State} {a0 : State} {a1 : RegSpec} {a2 : ℕ} {a3 : ℕ} {a4 : Sys2Proof.Word} (a0h : Good s0 a0) : Good
    s0 (tileWrite a0 a1 a2 a3 a4) := by
  unfold tileWrite
  exact good_sliceCheck (good_writeWhole a0h)

theorem good_meshOpWrite {s0 : State} {a0 : State} {a1 : RegSpec} {a2 : ℕ} {a3 : ℕ} {a4 : Sys2Proof.Word} (a0h : Good s0 a0) :
    Good s0 (meshOpWrite a0 a1 a2 a3 a4) := by
  unfold meshOpWrite
  extract_lets -merge -useContext -underBinder +onlyGivenNames x0
  have h1 : Good s0 x0 := by
    unfold x0
    refine good_writeWhole a0h
  try clear_value x0
  refine good_ite (good_applyMeshOps h1) h1

theorem good_rxCfgWrite {s0 : State} {a0 : State} {a1 : RegSpec} {a2 : ℕ} {a3 : ℕ} {a4 : Sys2Proof.Word} (a0h : Good s0 a0) :
    Good s0 (rxCfgWrite a0 a1 a2 a3 a4) := by
  unfold rxCfgWrite
  extract_lets -merge -useContext -underBinder +onlyGivenNames x0
  have h1 : Good s0 x0 := by
    unfold x0
    refine good_writeWhole a0h
  try clear_value x0
  refine good_ite h1 (good_rxForget h1)

theorem good_writeReg {s0 : State} {a0 : State} {a1 : RegSpec} {a2 : ℕ} {a3 : Sys2Proof.Word} {a4 : Bool} (a0h : Good s0 a0) :
    Good s0 (writeReg a0 a1 a2 a3 a4) := by
  unfold writeReg
  refine good_ite a0h ?_
  extract_lets -merge -useContext -underBinder +onlyGivenNames x0 x1
  try clear_value x0
  have h2 : Good s0 x1 := by
    unfold x1
    refine good_writeWhole a0h
  try clear_value x1
  split
  · exact good_startFetch h2
  · exact good_indPost a0h
  · exact good_mbxReqWrite a0h
  · exact good_mbxDoor a0h
  · extract_lets -merge -useContext -underBinder +onlyGivenNames x8
    have h9 : Good s0 x8 := by
      unfold x8
      refine good_ite (good_trimStart a0h) a0h
    try clear_value x8
    refine good_ite (good_xtStart h9) h9
  · exact good_windowStep (good_meshTblWrite a0h)
  · exact good_meshOpWrite a0h
  · exact good_meshOpWrite a0h
  · exact good_feedCfgWrite a0h
  · exact good_windowStep a0h
  · exact good_halfCfgWrite a0h
  · exact good_bridgeCfgWrite a0h
  · exact good_State_each h2 (fun y18 y19 y18h => good_fillReserve y18h)
  · exact good_rxCfgWrite a0h
  · exact good_streamCfgWrite a0h
  · exact good_applyTx h2
  · exact good_outMapWrite a0h
  · exact good_tbCfgEffect h2
  · exact good_tbSyncLoWrite a0h
  · exact good_tbSyncHiEffect h2
  · exact good_ite (good_startReturn h2) h2
  · exact good_clkEnWrite a0h
  · exact good_State_putClk h2
  · exact good_ite (good_commandReturn h2) h2
  · exact good_windowStep a0h
  · exact good_ite (good_commandResume h2) h2
  · extract_lets -merge -useContext -underBinder +onlyGivenNames x34
    have h35 : Good s0 x34 := by
      unfold x34
      refine good_ite (good_plantRelease a0h) a0h
    try clear_value x34
    refine good_ite (good_loadStrobe h35) h35
  · exact good_ainBufEffect h2
  · exact good_windowStep (good_sineWrite a0h)
  · exact good_ainCfgEffect h2
  · exact good_aoutCodeEffect h2
  · exact good_ite (good_aoutClearEffect h2) h2
  · exact good_ite (good_triggerRun a0h) a0h
  · exact good_tileWrite a0h
  · exact good_tileWrite a0h
  · exact good_tileWrite a0h
  · exact good_windowStep (good_tcalWrite a0h)
  · exact h2

theorem good_aliasWrite {s0 : State} {a0 : State} {a1 : ℕ} {a2 : ℕ} {a3 : Sys2Proof.Word} {a4 : Bool} (a0h : Good s0 a0) : Good
    s0 (aliasWrite a0 a1 a2 a3 a4) := by
  unfold aliasWrite
  split
  · exact a0h
  · extract_lets -merge -useContext -underBinder +onlyGivenNames x4
    try clear_value x4
    split
    · exact good_writeReg a0h
    · exact good_writeReg a0h
    · exact good_ite (good_writeReg a0h) a0h
    · exact a0h

theorem good_badAddr {s0 : State} {a0 : State} (a0h : Good s0 a0) : Good s0 (badAddr a0) := by
  unfold badAddr
  exact good_State_raise a0h

theorem good_State_writeWord {s0 : State} {a0 : State} {a1 : ℕ} {a2 : Sys2Proof.Word} {a3 : Bool} (a0h : Good s0 a0) : Good s0
    (State.writeWord a0 a1 a2 a3) := by
  unfold State.writeWord
  refine good_ite (good_nvWrite a0h) ?_
  refine good_ite (good_aliasWrite a0h) ?_
  split
  · exact good_ite (good_badAddr a0h) (good_writeReg a0h)
  · exact good_badAddr a0h

theorem good_hostWrite {s0 : State} {a0 : State} {a1 : ℕ} {a2 : Sys2Proof.Word} (a0h : Good s0 a0) : Good s0 (hostWrite a0 a1 a2)
    := by
  unfold hostWrite
  exact good_ite a0h (good_ite (good_setKey a0h) (good_State_writeWord (good_setKey a0h)))

theorem good_indFails {s0 : State} {a0 : State} (a0h : Good s0 a0) : Good s0 (indFails a0) := by
  unfold indFails
  exact good_State_raise (good_State_wr a0h)

theorem good_indFetch {s0 : State} {a0 : State} {a1 : ℕ} {a2 : ℕ} (a0h : Good s0 a0) : Good s0 (indFetch a0 a1 a2).2 := by
  unfold indFetch
  refine good_ite2 ?_ (good_ite2 (good_mk2 a0h) (good_mk2 (good_indFails a0h)))
  refine good_ite2 ?_ (good_mk2 (good_indFails a0h))
  split
  · exact good_readPlain a0h
  · exact good_mk2 a0h

theorem good_indWrite {s0 : State} {a0 : State} {a1 : ℕ} {a2 : ℕ} {a3 : Sys2Proof.Word} {a4 : Bool} (a0h : Good s0 a0) : Good s0
    (indWrite a0 a1 a2 a3 a4) := by
  unfold indWrite
  refine good_ite ?_ (good_indFails a0h)
  split
  · exact good_writeReg a0h
  · exact good_badAddr a0h

theorem good_indDone {s0 : State} {a0 : State} (a0h : Good s0 a0) : Good s0 (indDone a0) := by
  unfold indDone
  split
  · exact a0h
  · extract_lets -merge -useContext -underBinder +onlyGivenNames x4 x5 x6 x7
    try clear_value x4
    have h8 : Good s0 x5 := by
      unfold x5
      refine good_State_setBus a0h
    try clear_value x5
    have h9 : Good s0 x6.2 := by
      unfold x6
      refine good_indFetch h8
    try clear_value x6
    try clear_value x7
    refine good_ite (good_indWrite h8) (good_State_setBus h9)

theorem good_gave {s0 : State} {a0 : State} {a1 : Sys2Proof.Word} (a0h : Good s0 a0) : Good s0 (gave a0 a1) := by
  unfold gave
  exact good_State_setBus a0h

theorem good_keyRead {s0 : State} {a0 : State} {a1 : ℕ} (a0h : Good s0 a0) : Good s0 (keyRead a0 a1) := by
  unfold keyRead
  refine good_ite ?_ ?_
  · split
    · rename_i y1 y2 e0
      have y2h : Good s0 y2 := by
        exact (congrArg (fun p => Good s0 p.2) e0).mp (good_hostRead a0h)
      refine good_gave y2h
    · rename_i y4 e3
      have y4h : Good s0 y4 := by
        exact (congrArg (fun p => Good s0 p.2) e3).mp (good_hostRead a0h)
      exact y4h
  · refine good_ite ?_ a0h
    extract_lets -merge -useContext -underBinder +onlyGivenNames x5
    have h6 : Good s0 x5.2 := by
      unfold x5
      refine good_indFetch a0h
    try clear_value x5
    refine good_gave h6

theorem good_keyWrite {s0 : State} {a0 : State} {a1 : ℕ} {a2 : Sys2Proof.Word} (a0h : Good s0 a0) : Good s0 (keyWrite a0 a1 a2)
    := by
  unfold keyWrite
  exact good_ite (good_hostWrite a0h) (good_ite (good_indWrite (good_setKey a0h)) a0h)

theorem good_windowAccess {s0 : State} {a0 : State} {a1 : ℕ} {a2 : Option Sys2Proof.Word} (a0h : Good s0 a0) : Good s0
    (windowAccess a0 a1 a2) := by
  unfold windowAccess
  split
  · exact good_keyWrite a0h
  · exact good_keyRead a0h

end Sys2Proof.Machine
end

