-- ==== Sys2Proof/Laws/KeepsI3c.lean ====
section
/-! SUPPORT. Laws/KeepsI3c.lean: every operation of Machine/I3c.lean keeps what Laws/Keeps.lean names. -/

namespace Sys2Proof.Machine

theorem good_State_putBus {s0 : State} {a0 : State} {a1 : Bus} (a0h : Good s0 a0) : Good s0 (State.putBus a0 a1) := by
  unfold State.putBus
  exact good_State_setBus a0h

theorem good_sdr {s0 : State} {a0 : State} {a1 : Bool} (a0h : Good s0 a0) : Good s0 (sdr a0 a1) := by
  unfold sdr
  exact good_State_putBus a0h

theorem good_broadcast {s0 : State} {a0 : State} {a1 : Sys2Proof.Machine.State → Sys2Proof.Machine.State} (a0h : Good s0 a0) (a1h
    : ∀ z0, Good s0 z0 → Good s0 (a1 z0)) : Good s0 (broadcast a0 a1) := by
  unfold broadcast
  exact good_ite (a1h _ (good_sdr a0h)) a0h

theorem good_directed {s0 : State} {a0 : State} {a1 : Sys2Proof.Machine.State → Sys2Proof.Machine.State} (a0h : Good s0 a0) (a1h
    : ∀ z0, Good s0 z0 → Good s0 (a1 z0)) : Good s0 (directed a0 a1) := by
  unfold directed
  exact good_ite a0h (good_ite (a1h _ (good_sdr a0h)) (good_sdr a0h))

theorem good_answer {s0 : State} {a0 : State} {a1 : List Sys2Proof.Byte} (a0h : Good s0 a0) : Good s0 (answer a0 a1) := by
  unfold answer
  exact good_State_putBus a0h

theorem good_requestIbi {s0 : State} {a0 : State} {a1 : Bool} (a0h : Good s0 a0) : Good s0 (requestIbi a0 a1) := by
  unfold requestIbi
  exact good_ite a0h (good_ite (good_State_putBus a0h) (good_State_putBus a0h))

theorem good_execInBandInterrupt {s0 : State} {a0 : Bool} {a1 : State} (a1h : Good s0 a1) : ∃ t, execInBandInterrupt a0 a1 =
    .next t ∧ Good s0 t := by
  unfold execInBandInterrupt
  exact ⟨_, rfl, good_ite a1h (good_requestIbi a1h)⟩

theorem good_execIbiRetry {s0 : State} {a0 : Bool} {a1 : State} (a1h : Good s0 a1) : ∃ t, execIbiRetry a0 a1 = .next t ∧ Good s0
    t := by
  unfold execIbiRetry
  exact ⟨_, rfl, good_ite (good_requestIbi a1h) a1h⟩

theorem good_execEnec {s0 : State} {a0 : Bool} {a1 : Bool} {a2 : Bool} {a3 : State} (a3h : Good s0 a3) : ∃ t, execEnec a0 a1 a2
    a3 = .next t ∧ Good s0 t := by
  unfold execEnec
  refine ⟨_, rfl, ?_⟩
  refine good_broadcast a3h ?_
  intro y0 y0h
  extract_lets -merge -useContext -underBinder +onlyGivenNames x1 x2
  try clear_value x1
  have h3 : Good s0 x2 := by
    unfold x2
    refine good_State_putBus y0h
  try clear_value x2
  refine good_ite (good_requestIbi h3) h3

theorem good_execDisec {s0 : State} {a0 : Bool} {a1 : Bool} {a2 : State} (a2h : Good s0 a2) : ∃ t, execDisec a0 a1 a2 = .next t ∧
    Good s0 t := by
  unfold execDisec
  exact ⟨_, rfl, good_broadcast a2h (fun y0 y0h => good_State_putBus y0h)⟩

theorem good_execRstdaa {s0 : State} {a0 : State} (a0h : Good s0 a0) : ∃ t, execRstdaa a0 = .next t ∧ Good s0 t := by
  unfold execRstdaa
  exact ⟨_, rfl, good_broadcast a0h (fun y0 y0h => good_State_putBus y0h)⟩

theorem good_execEntdaa {s0 : State} {a0 : Fin 128} {a1 : State} (a1h : Good s0 a1) : ∃ t, execEntdaa a0 a1 = .next t ∧ Good s0 t
    := by
  unfold execEntdaa
  exact ⟨_, rfl, good_broadcast a1h (fun y0 y0h => good_ite y0h (good_State_putBus y0h))⟩

theorem good_execSetdasa {s0 : State} {a0 : Fin 128} {a1 : Fin 128} {a2 : State} (a2h : Good s0 a2) : ∃ t, execSetdasa a0 a1 a2 =
    .next t ∧ Good s0 t := by
  unfold execSetdasa
  exact ⟨_, rfl, good_ite (good_State_putBus (good_sdr a2h)) a2h⟩

theorem good_execSetnewda {s0 : State} {a0 : Fin 128} {a1 : State} (a1h : Good s0 a1) : ∃ t, execSetnewda a0 a1 = .next t ∧ Good
    s0 t := by
  unfold execSetnewda
  exact ⟨_, rfl, good_directed a1h (fun y0 y0h => good_State_putBus y0h)⟩

theorem good_execHotJoin {s0 : State} {a0 : Bool} {a1 : State} (a1h : Good s0 a1) : ∃ t, execHotJoin a0 a1 = .next t ∧ Good s0 t
    := by
  unfold execHotJoin
  exact ⟨_, rfl, good_ite (good_State_putBus a1h) a1h⟩

theorem good_execSetmwl {s0 : State} {a0 : Fin 65536} {a1 : State} (a1h : Good s0 a1) : ∃ t, execSetmwl a0 a1 = .next t ∧ Good s0
    t := by
  unfold execSetmwl
  exact ⟨_, rfl, good_broadcast a1h (fun y0 y0h => good_ite (good_State_putBus y0h) y0h)⟩

theorem good_execGetmwl {s0 : State} {a0 : State} (a0h : Good s0 a0) : ∃ t, execGetmwl a0 = .next t ∧ Good s0 t := by
  unfold execGetmwl
  exact ⟨_, rfl, good_directed a0h (fun y0 y0h => good_answer y0h)⟩

theorem good_execSetmrl {s0 : State} {a0 : Fin 65536} {a1 : State} (a1h : Good s0 a1) : ∃ t, execSetmrl a0 a1 = .next t ∧ Good s0
    t := by
  unfold execSetmrl
  exact ⟨_, rfl, good_broadcast a1h (fun y0 y0h => good_ite (good_State_putBus y0h) y0h)⟩

theorem good_execGetmrl {s0 : State} {a0 : State} (a0h : Good s0 a0) : ∃ t, execGetmrl a0 = .next t ∧ Good s0 t := by
  unfold execGetmrl
  exact ⟨_, rfl, good_directed a0h (fun y0 y0h => good_answer y0h)⟩

theorem good_execGetpid {s0 : State} {a0 : State} (a0h : Good s0 a0) : ∃ t, execGetpid a0 = .next t ∧ Good s0 t := by
  unfold execGetpid
  exact ⟨_, rfl, good_directed a0h (fun y0 y0h => good_answer y0h)⟩

theorem good_execGetbcr {s0 : State} {a0 : State} (a0h : Good s0 a0) : ∃ t, execGetbcr a0 = .next t ∧ Good s0 t := by
  unfold execGetbcr
  exact ⟨_, rfl, good_directed a0h (fun y0 y0h => good_answer y0h)⟩

theorem good_execGetdcr {s0 : State} {a0 : State} (a0h : Good s0 a0) : ∃ t, execGetdcr a0 = .next t ∧ Good s0 t := by
  unfold execGetdcr
  exact ⟨_, rfl, good_directed a0h (fun y0 y0h => good_answer y0h)⟩

theorem good_execGetstatus {s0 : State} {a0 : State} (a0h : Good s0 a0) : ∃ t, execGetstatus a0 = .next t ∧ Good s0 t := by
  unfold execGetstatus
  refine ⟨_, rfl, ?_⟩
  refine good_directed a0h ?_
  intro y0 y0h
  extract_lets -merge -useContext -underBinder +onlyGivenNames x1 x2
  try clear_value x1
  try clear_value x2
  refine good_State_putBus y0h

theorem good_execGetcaps {s0 : State} {a0 : State} (a0h : Good s0 a0) : ∃ t, execGetcaps a0 = .next t ∧ Good s0 t := by
  unfold execGetcaps
  exact ⟨_, rfl, good_directed a0h (fun y0 y0h => good_answer y0h)⟩

theorem good_execEntas0 {s0 : State} {a0 : State} (a0h : Good s0 a0) : ∃ t, execEntas0 a0 = .next t ∧ Good s0 t := by
  unfold execEntas0
  exact ⟨_, rfl, good_broadcast a0h (fun y0 y0h => y0h)⟩

theorem good_execEntas1 {s0 : State} {a0 : State} (a0h : Good s0 a0) : ∃ t, execEntas1 a0 = .next t ∧ Good s0 t := by
  unfold execEntas1
  exact ⟨_, rfl, good_broadcast a0h (fun y0 y0h => y0h)⟩

theorem good_execEntas2 {s0 : State} {a0 : State} (a0h : Good s0 a0) : ∃ t, execEntas2 a0 = .next t ∧ Good s0 t := by
  unfold execEntas2
  exact ⟨_, rfl, good_broadcast a0h (fun y0 y0h => y0h)⟩

theorem good_execEntas3 {s0 : State} {a0 : State} (a0h : Good s0 a0) : ∃ t, execEntas3 a0 = .next t ∧ Good s0 t := by
  unfold execEntas3
  exact ⟨_, rfl, good_broadcast a0h (fun y0 y0h => y0h)⟩

theorem good_execSetxtime {s0 : State} {a0 : XTimeSub} {a1 : Fin 4} {a2 : State} (a2h : Good s0 a2) : ∃ t, execSetxtime a0 a1 a2
    = .next t ∧ Good s0 t := by
  unfold execSetxtime
  refine ⟨_, rfl, ?_⟩
  refine good_broadcast a2h ?_
  intro y0 y0h
  split
  · exact good_ite (good_disciplineEvent y0h) y0h
  · exact y0h
  · exact y0h

theorem good_execGetxtime {s0 : State} {a0 : State} (a0h : Good s0 a0) : ∃ t, execGetxtime a0 = .next t ∧ Good s0 t := by
  unfold execGetxtime
  exact ⟨_, rfl, good_directed a0h (fun y0 y0h => good_answer y0h)⟩

theorem good_resetTarget {s0 : State} {a0 : State} (a0h : Good s0 a0) : Good s0 (resetTarget a0) := by
  unfold resetTarget
  extract_lets -merge -useContext -underBinder +onlyGivenNames x0 x1
  try clear_value x0
  try clear_value x1
  refine good_setKey (good_State_putBus a0h)

theorem good_execRstact {s0 : State} {a0 : Fin 256} {a1 : Bool} {a2 : State} (a2h : Good s0 a2) : ∃ t, execRstact a0 a1 a2 =
    .next t ∧ Good s0 t := by
  unfold execRstact
  refine ⟨_, rfl, ?_⟩
  refine good_ite a2h ?_
  extract_lets -merge -useContext -underBinder +onlyGivenNames x0 x1
  have h2 : Good s0 x0 := by
    unfold x0
    refine good_resetTarget a2h
  try clear_value x0
  have h3 : Good s0 x1 := by
    unfold x1
    refine good_ite (good_releaseReset h2) h2
  try clear_value x1
  refine good_State_raise h3

theorem good_writeOne {s0 : State} {a0 : State} {a1 : Sys2Proof.Word} (a0h : Good s0 a0) : Good s0 (writeOne a0 a1) := by
  unfold writeOne
  extract_lets -merge -useContext -underBinder +onlyGivenNames x0 x1 x2
  try clear_value x0
  have h3 : Good s0 x1 := by
    unfold x1
    refine good_hostWrite a0h
  try clear_value x1
  try clear_value x2
  refine good_State_putBus h3

theorem good_transferIn {s0 : State} {a0 : State} {a1 : List Sys2Proof.Byte} (a0h : Good s0 a0) : Good s0 (transferIn a0 a1) := by
  unfold transferIn
  extract_lets -merge -useContext -underBinder +onlyGivenNames x0
  try clear_value x0
  split
  · extract_lets -merge -useContext -underBinder +onlyGivenNames x6 x7
    try clear_value x6
    try clear_value x7
    refine good_State_each (good_State_putBus a0h) (fun y8 y9 y8h => good_writeOne y8h)
  · exact a0h

theorem good_readWords {s0 s : State} {acc : List Byte} {n : Nat} (h : Good s0 s) : Good s0 (readWords s acc n).2 := by
  induction n generalizing s acc with
  | zero => exact h
  | succ n ih =>
    simp only [readWords]
    split
    · rename_i v t e
      have ht : Good s0 t := by
        have := good_hostRead (a1 := s.bus.ptr) h
        rwa [e] at this
      exact ih (good_State_putBus ht)
    · rename_i t e
      have := good_hostRead (a1 := s.bus.ptr) h
      rwa [e] at this

theorem good_transferOut {s0 : State} {a0 : State} {a1 : ℕ} (a0h : Good s0 a0) : Good s0 (transferOut a0 a1) := by
  unfold transferOut
  extract_lets -merge -useContext -underBinder +onlyGivenNames x0 x1 x2
  try clear_value x0
  have h3 : Good s0 x1.2 := by
    unfold x1
    refine good_readWords a0h
  try clear_value x1
  try clear_value x2
  refine good_State_putBus h3

theorem good_privateTransfer {s0 : State} {a0 : State} {a1 : Sys2Proof.Machine.State → Sys2Proof.Machine.State} (a0h : Good s0
    a0) (a1h : ∀ z0, Good s0 z0 → Good s0 (a1 z0)) : Good s0 (privateTransfer a0 a1) := by
  unfold privateTransfer
  exact good_directed a0h (fun y0 y0h => a1h _ y0h)

theorem good_execPrivateWrite {s0 : State} {a0 : List Sys2Proof.Byte} {a1 : State} (a1h : Good s0 a1) : ∃ t, execPrivateWrite a0
    a1 = .next t ∧ Good s0 t := by
  unfold execPrivateWrite
  exact ⟨_, rfl, good_privateTransfer a1h (fun y0 y0h => good_transferIn y0h)⟩

theorem good_execPrivateRead {s0 : State} {a0 : ℕ} {a1 : State} (a1h : Good s0 a1) : ∃ t, execPrivateRead a0 a1 = .next t ∧ Good
    s0 t := by
  unfold execPrivateRead
  exact ⟨_, rfl, good_privateTransfer a1h (fun y0 y0h => good_transferOut y0h)⟩

theorem good_execEnthdr0 {s0 : State} {a0 : State} (a0h : Good s0 a0) : ∃ t, execEnthdr0 a0 = .next t ∧ Good s0 t := by
  unfold execEnthdr0
  exact ⟨_, rfl, good_broadcast a0h (fun y0 y0h => good_State_putBus y0h)⟩

theorem good_hdrTransfer {s0 : State} {a0 : State} {a1 : Bool} {a2 : Sys2Proof.Machine.State → Sys2Proof.Machine.State} (a0h :
    Good s0 a0) (a2h : ∀ z0, Good s0 z0 → Good s0 (a2 z0)) : Good s0 (hdrTransfer a0 a1 a2) := by
  unfold hdrTransfer
  exact good_ite a0h (good_ite (a2h _ (good_State_putBus a0h)) (good_State_putBus a0h))

theorem good_execHdrDdrWrite {s0 : State} {a0 : Fin 256} {a1 : List Sys2Proof.Byte} {a2 : State} (a2h : Good s0 a2) : ∃ t,
    execHdrDdrWrite a0 a1 a2 = .next t ∧ Good s0 t := by
  unfold execHdrDdrWrite
  exact ⟨_, rfl, good_hdrTransfer a2h (fun y0 y0h => good_transferIn y0h)⟩

theorem good_execHdrDdrRead {s0 : State} {a0 : Fin 256} {a1 : ℕ} {a2 : State} (a2h : Good s0 a2) : ∃ t, execHdrDdrRead a0 a1 a2 =
    .next t ∧ Good s0 t := by
  unfold execHdrDdrRead
  exact ⟨_, rfl, good_hdrTransfer a2h (fun y0 y0h => good_transferOut y0h)⟩

theorem good_execLegacyI2cTraffic {s0 : State} {a0 : State} (a0h : Good s0 a0) : ∃ t, execLegacyI2cTraffic a0 = .next t ∧ Good s0
    t := by
  unfold execLegacyI2cTraffic
  exact ⟨_, rfl, a0h⟩

end Sys2Proof.Machine
end

