-- ==== Sys2Proof/Laws/KeepsHostRegs.lean ====
section
/-! SUPPORT. Laws/KeepsHostRegs.lean: every operation of Machine/HostRegs.lean keeps what Laws/Keeps.lean names. -/

namespace Sys2Proof.Machine

theorem good_execRegisterWrite {s0 : State} {a0 : ℕ} {a1 : Sys2Proof.Word} {a2 : State} (a2h : Good s0 a2) : ∃ t,
    execRegisterWrite a0 a1 a2 = .next t ∧ Good s0 t := by
  unfold execRegisterWrite
  exact ⟨_, rfl, good_keyWrite a2h⟩

theorem good_execStatusWordRead {s0 : State} {a0 : ℕ} {a1 : State} (a1h : Good s0 a1) : ∃ t, execStatusWordRead a0 a1 = .next t ∧
    Good s0 t := by
  unfold execStatusWordRead
  exact ⟨_, rfl, good_keyRead a1h⟩

theorem good_execStatusWriteBack {s0 : State} {a0 : ℕ} {a1 : Fin 256} {a2 : State} (a2h : Good s0 a2) : ∃ t, execStatusWriteBack
    a0 a1 a2 = .next t ∧ Good s0 t := by
  unfold execStatusWriteBack
  exact ⟨_, rfl, good_keyWrite a2h⟩

theorem good_execWideValueRead {s0 : State} {a0 : ℕ} {a1 : State} (a1h : Good s0 a1) : ∃ t, execWideValueRead a0 a1 = .next t ∧
    Good s0 t := by
  unfold execWideValueRead
  exact ⟨_, rfl, good_keyRead a1h⟩

theorem good_execKeyUnlock {s0 : State} {a0 : Sys2Proof.Word} {a1 : State} (a1h : Good s0 a1) : ∃ t, execKeyUnlock a0 a1 = .next
    t ∧ Good s0 t := by
  unfold execKeyUnlock
  exact ⟨_, rfl, good_hostWrite a1h⟩

theorem good_execIndAddrWrite {s0 : State} {a0 : Sys2Proof.Word} {a1 : State} (a1h : Good s0 a1) : ∃ t, execIndAddrWrite a0 a1 =
    .next t ∧ Good s0 t := by
  unfold execIndAddrWrite
  exact ⟨_, rfl, good_hostWrite a1h⟩

theorem good_execIndDataRead {s0 : State} {a0 : State} (a0h : Good s0 a0) : ∃ t, execIndDataRead a0 = .next t ∧ Good s0 t := by
  unfold execIndDataRead
  exact ⟨_, rfl, good_keyRead a0h⟩

theorem good_execIndDataWrite {s0 : State} {a0 : Sys2Proof.Word} {a1 : State} (a1h : Good s0 a1) : ∃ t, execIndDataWrite a0 a1 =
    .next t ∧ Good s0 t := by
  unfold execIndDataWrite
  exact ⟨_, rfl, good_hostWrite a1h⟩

theorem good_execIndAccessDone {s0 : State} {a0 : State} (a0h : Good s0 a0) : ∃ t, execIndAccessDone a0 = .next t ∧ Good s0 t :=
    by
  unfold execIndAccessDone
  exact ⟨_, rfl, good_indDone a0h⟩

theorem good_execAliasRead {s0 : State} {a0 : Fin 128} {a1 : Fin 32} {a2 : State} (a2h : Good s0 a2) : ∃ t, execAliasRead a0 a1
    a2 = .next t ∧ Good s0 t := by
  unfold execAliasRead
  exact ⟨_, rfl, good_keyRead a2h⟩

theorem good_execAliasWrite {s0 : State} {a0 : Fin 128} {a1 : Fin 32} {a2 : Sys2Proof.Word} {a3 : State} (a3h : Good s0 a3) : ∃
    t, execAliasWrite a0 a1 a2 a3 = .next t ∧ Good s0 t := by
  unfold execAliasWrite
  exact ⟨_, rfl, good_hostWrite a3h⟩

theorem good_execMbxReqWrite {s0 : State} {a0 : Fin 16} {a1 : Fin 16} {a2 : Sys2Proof.Word} {a3 : State} (a3h : Good s0 a3) : ∃
    t, execMbxReqWrite a0 a1 a2 a3 = .next t ∧ Good s0 t := by
  unfold execMbxReqWrite
  exact ⟨_, rfl, good_hostWrite a3h⟩

theorem good_execMbxRing {s0 : State} {a0 : Fin 16} {a1 : State} (a1h : Good s0 a1) : ∃ t, execMbxRing a0 a1 = .next t ∧ Good s0
    t := by
  unfold execMbxRing
  exact ⟨_, rfl, good_hostWrite (good_State_setBus a1h)⟩

theorem good_execMbxRelease {s0 : State} {a0 : Fin 16} {a1 : State} (a1h : Good s0 a1) : ∃ t, execMbxRelease a0 a1 = .next t ∧
    Good s0 t := by
  unfold execMbxRelease
  exact ⟨_, rfl, good_hostWrite a1h⟩

theorem good_execFeedCfgWrite {s0 : State} {a0 : Sys2Proof.Word} {a1 : State} (a1h : Good s0 a1) : ∃ t, execFeedCfgWrite a0 a1 =
    .next t ∧ Good s0 t := by
  unfold execFeedCfgWrite
  exact ⟨_, rfl, good_hostWrite a1h⟩

theorem good_execHalfCfgWrite {s0 : State} {a0 : Sys2Proof.Word} {a1 : State} (a1h : Good s0 a1) : ∃ t, execHalfCfgWrite a0 a1 =
    .next t ∧ Good s0 t := by
  unfold execHalfCfgWrite
  exact ⟨_, rfl, good_hostWrite a1h⟩

theorem good_execBridgeCfgWrite {s0 : State} {a0 : Fin 16} {a1 : Sys2Proof.Word} {a2 : State} (a2h : Good s0 a2) : ∃ t,
    execBridgeCfgWrite a0 a1 a2 = .next t ∧ Good s0 t := by
  unfold execBridgeCfgWrite
  exact ⟨_, rfl, good_hostWrite a2h⟩

theorem good_execStreamCfgWrite {s0 : State} {a0 : Fin 48} {a1 : Sys2Proof.Word} {a2 : State} (a2h : Good s0 a2) : ∃ t,
    execStreamCfgWrite a0 a1 a2 = .next t ∧ Good s0 t := by
  unfold execStreamCfgWrite
  exact ⟨_, rfl, good_hostWrite a2h⟩

theorem good_execOutMapWrite {s0 : State} {a0 : Fin 128} {a1 : Sys2Proof.Word} {a2 : State} (a2h : Good s0 a2) : ∃ t,
    execOutMapWrite a0 a1 a2 = .next t ∧ Good s0 t := by
  unfold execOutMapWrite
  exact ⟨_, rfl, good_hostWrite a2h⟩

theorem good_execClkEnWrite {s0 : State} {a0 : Sys2Proof.Word} {a1 : State} (a1h : Good s0 a1) : ∃ t, execClkEnWrite a0 a1 =
    .next t ∧ Good s0 t := by
  unfold execClkEnWrite
  exact ⟨_, rfl, good_hostWrite a1h⟩

theorem good_execTbCfgWrite {s0 : State} {a0 : Sys2Proof.Word} {a1 : State} (a1h : Good s0 a1) : ∃ t, execTbCfgWrite a0 a1 =
    .next t ∧ Good s0 t := by
  unfold execTbCfgWrite
  exact ⟨_, rfl, good_hostWrite a1h⟩

theorem good_execTbSyncHiWrite {s0 : State} {a0 : Sys2Proof.Word} {a1 : State} (a1h : Good s0 a1) : ∃ t, execTbSyncHiWrite a0 a1
    = .next t ∧ Good s0 t := by
  unfold execTbSyncHiWrite
  exact ⟨_, rfl, good_hostWrite a1h⟩

theorem good_execMeshTblDataAccess {s0 : State} {a0 : Fin 4} {a1 : Option Sys2Proof.Word} {a2 : State} (a2h : Good s0 a2) : ∃ t,
    execMeshTblDataAccess a0 a1 a2 = .next t ∧ Good s0 t := by
  unfold execMeshTblDataAccess
  exact ⟨_, rfl, good_windowAccess a2h⟩

theorem good_execTcalDataAccess {s0 : State} {a0 : Fin 4096} {a1 : Option Sys2Proof.Word} {a2 : State} (a2h : Good s0 a2) : ∃ t,
    execTcalDataAccess a0 a1 a2 = .next t ∧ Good s0 t := by
  unfold execTcalDataAccess
  exact ⟨_, rfl, good_windowAccess a2h⟩

theorem good_execRingDataAccess {s0 : State} {a0 : Fin 4} {a1 : Option Sys2Proof.Word} {a2 : State} (a2h : Good s0 a2) : ∃ t,
    execRingDataAccess a0 a1 a2 = .next t ∧ Good s0 t := by
  unfold execRingDataAccess
  exact ⟨_, rfl, good_windowAccess a2h⟩

theorem good_execTempDataAccess {s0 : State} {a0 : Option Sys2Proof.Word} {a1 : State} (a1h : Good s0 a1) : ∃ t,
    execTempDataAccess a0 a1 = .next t ∧ Good s0 t := by
  unfold execTempDataAccess
  exact ⟨_, rfl, good_windowAccess a1h⟩

theorem good_execPtDataRead {s0 : State} {a0 : State} (a0h : Good s0 a0) : ∃ t, execPtDataRead a0 = .next t ∧ Good s0 t := by
  unfold execPtDataRead
  exact ⟨_, rfl, good_keyRead a0h⟩

theorem good_execNvRawDataRead {s0 : State} {a0 : State} (a0h : Good s0 a0) : ∃ t, execNvRawDataRead a0 = .next t ∧ Good s0 t :=
    by
  unfold execNvRawDataRead
  exact ⟨_, rfl, good_keyRead a0h⟩

theorem good_execSineTblDataAccess {s0 : State} {a0 : Option Sys2Proof.Word} {a1 : State} (a1h : Good s0 a1) : ∃ t,
    execSineTblDataAccess a0 a1 = .next t ∧ Good s0 t := by
  unfold execSineTblDataAccess
  exact ⟨_, rfl, good_windowAccess a1h⟩

theorem good_execNvArrayWrite {s0 : State} {a0 : Fin 65536} {a1 : Sys2Proof.Word} {a2 : State} (a2h : Good s0 a2) : ∃ t,
    execNvArrayWrite a0 a1 a2 = .next t ∧ Good s0 t := by
  unfold execNvArrayWrite
  exact ⟨_, rfl, good_hostWrite a2h⟩

end Sys2Proof.Machine
end

