-- ==== Sys2Proof/WellFormed.lean ====
section
/-! DEFINITION. WellFormed.lean: the operands that a command's type leaves too wide, held to the ranges the spec gives them. -/

namespace Sys2Proof

open Sys2Proof.Machine

/-- A place of the fabric: halves 0 and 1, clusters 0 to 255, ports 0 to 4 and classes 0 to 2, bridges 0 to 15, units by
the five bits of DST_UNIT (R94, R97 to R99). -/
def Machine.Place.wf : Place → Bool
  | .hubLink half => decide (half < 2)
  | .router clu port cls => decide (clu < 256) && decide (port < 5) && decide (cls < 3)
  | .entry clu port => decide (clu < 256) && decide (port < 5)
  | .bridge b => decide (b < 16)
  | .arrived clu u => decide (clu < 256) && decide (u < 32)
  | .unit clu u => decide (clu < 256) && decide (u < 32)
  | .hub => true

/-- The fields of a header in the widths of R93. -/
def Machine.Token.wf (k : Token) : Bool :=
  decide (k.tag < 4096) && decide (k.job < 16) && decide (k.gen < 16) && decide (k.path < 8) && decide (k.stream < 64) && decide (k.bseq < 256) &&
    decide (k.kind < 16) && decide (k.dstClu < 256) && decide (k.dstUnit < 32) && decide (k.srcClu < 256) && decide (k.srcUnit < 32) &&
    decide (k.part < 64) && decide (k.npart < 64) && decide (k.len < 256) && decide (k.epoch < 4) && decide (k.oper < 256) &&
    decide (k.seg < 65536) && decide (k.bridge < 8)

/-- A job address is 32 bits; a read moves no bytes in, a write no read length (R326). -/
def Machine.DmaAccess.wf (a : DmaAccess) : Bool :=
  decide (a.job < 16) && decide (a.addr < 2 ^ 32) && (if a.write then !a.bytes.isEmpty && a.len == 0 else a.bytes.isEmpty && decide (0 < a.len))

/-- Logical columns are 0 to 271 (R57, R234). -/
def Machine.WriteMeas.wf (m : WriteMeas) : Bool := m.failed.all fun j => decide (j < 272)

/-- A cell lies in one of 512 rows and 272 logical columns (R57, R247). -/
def Machine.CellRead.wf (r : CellRead) : Bool := decide (r.row < 512) && decide (r.col < 272)

/-- A tile is 0 to 4095, a leg and a driver of the tile (R201). -/
def Machine.TileFinding.wf (f : TileFinding) : Bool := decide (f.tile < 4096)

/-- A ring is 0 to 1583 (R159). -/
def Machine.ToneRead.wf (t : ToneRead) : Bool := decide (t.ring < 1584)

/-- A chiplet is 0 to 3 and a monitor 0 to 114 (R180). -/
def Machine.MonRead.wf (r : MonRead) : Bool := decide (r.chip < 4) && decide (r.ix < 115)

/-- A firmware digest is 32 bytes (R344). -/
def Machine.FwImage.wf (f : FwImage) : Bool := f.digest.length == 32

/-- Paths are 0 to 7 and streams 0 to 47, clusters 0 to 255 and units below 20 (R94, R115). -/
def Machine.Section.wf (sec : Section) : Bool :=
  sec.paths.all (fun p => decide (p.path < 8)) && sec.opers.all (fun o => decide (o.path < 8) && decide (o.clu < 256) && decide (o.unit < 20)) &&
    sec.inputs.all (fun i => decide (i.path < 8) && decide (i.stream < 48) && decide (i.clu < 256))

/-- An address of a target on the I3C bus: not 0, and not the broadcast address 0x7E (R288). -/
def i3cAddr (a : Fin 128) : Bool := decide (0 < a.val) && decide (a.val ≠ 0x7E)

/-- A key names a register of the register map. -/
def keyKnown (key : Nat) : Bool := (findReg key).isSome

/-- A command whose operands lie in the ranges the spec gives them. -/
def Instr.wf (i : Instr) : Bool :=
  match i with
  | .syncInEdge _ _ => true
  | .holdoverTimeout => true
  | .markPulseEnd _ => true
  | .encoderTransition _ _ => true
  | .clkTbSet _ => true
  | .clkEncPreset _ => true
  | .streamMark _ => true
  | .streamMarkClear _ => true
  | .dropRunTimeout _ => true
  | .periodicStatus => true
  | .frameStart _ _ _ => true
  | .frameEnd _ _ _ => true
  | .lineStart _ _ _ _ => true
  | .longPacket _ _ _ _ _ _ pix => decide (pix.length ≤ 65536) && pix.all (fun x => decide (x < 65536))
  | .rxSkewCalibration _ => true
  | .rxUlpsRequest _ _ => true
  | .dispatch _ => true
  | .seatHoldExpiry _ => true
  | .routerGrant _ _ => true
  | .staleTokenDiscard p => p.wf
  | .frameTimeout _ _ => true
  | .deskew _ => true
  | .ulpsEntry _ => true
  | .recordSend _ => true
  | .conversionEnd _ _ => true
  | .comparatorFire _ _ => true
  | .comparatorRearm _ _ => true
  | .deglitchEnd _ => true
  | .plantLoad => true
  | .dacLoadEdge => true
  | .periodicStrobe => true
  | .sineTick _ => true
  | .dacClearEdge _ => true
  | .plantRelease => true
  | .channelSelfCheck _ _ => true
  | .tokenReceipt p _ => p.wf
  | .tileProduct _ => true
  | .tileTimeout _ => true
  | .vectorOp _ => true
  | .slotOpen _ => true
  | .partialAccumulate _ => true
  | .stateUpdate _ => true
  | .dmaTransfer _ a => a.wf
  | .unitTimeout _ _ => true
  | .meshSwap _ => true
  | .meshSwapForced _ => true
  | .meshAgeTrigger _ => true
  | .ambientUpdate _ _ => true
  | .trimStart _ => true
  | .xtStart _ => true
  | .referenceLoss _ => true
  | .heaterFault _ => true
  | .settleLate _ => true
  | .pilotPass _ _ _ => true
  | .meshToken _ => true
  | .passLaunch _ => true
  | .meshOutputToken _ => true
  | .tableSwap _ => true
  | .tableSwapForced _ => true
  | .bell _ => true
  | .resultArrival _ => true
  | .pathOrderEmit _ _ _ => true
  | .calibrationSlot _ => true
  | .writeVerifyStart _ => true
  | .writeVerifyDone _ m l => m.wf && l.wf
  | .readbackDone _ high low => high.all CellRead.wf && low.all CellRead.wf
  | .periodicReadback => true
  | .roundBuild _ _ fs => fs.all TileFinding.wf
  | .calAgeTrigger _ => true
  | .runStart _ => true
  | .copyMove _ => true
  | .jobRestart _ => true
  | .epochAdvance _ => true
  | .restartComplete _ => true
  | .stallWatchdog _ => true
  | .peerRestart _ => true
  | .hubLinkLoss _ => true
  | .halfFailTimeout _ => true
  | .jobLoad _ sec => sec.wf
  | .jobStart _ => true
  | .jobStop _ => true
  | .jobUnload _ => true
  | .jobGrade _ => true
  | .jobStatus _ => true
  | .capsGet _ => true
  | .circuitAdd _ _ _ _ _ _ => true
  | .circuitUp _ _ _ => true
  | .circuitRemove _ _ => true
  | .parkingDone _ _ => true
  | .circuitDown _ _ _ => true
  | .codewordReceived _ _ _ inc => inc.all Token.wf
  | .bridgeSample => true
  | .optExtSet _ => true
  | .optBridgeRoute _ => true
  | .optCaptainSet _ => true
  | .optFeedSet _ => true
  | .optStatus _ => true
  | .sidebandHeartbeat _ => true
  | .sidebandLoss _ => true
  | .halfSplit _ => true
  | .splitEnd _ => true
  | .matrixComputeDone _ _ => true
  | .meshSettleDone _ _ => true
  | .xtalkRebuildDone _ _ _ => true
  | .oosCleared _ => true
  | .optClockTimeout _ => true
  | .feedLoss _ => true
  | .feedPresent _ => true
  | .feedMoveDone => true
  | .ringSearchStart => true
  | .ringSweepDone _ _ pk => pk.all (fun x => decide (x < 65536))
  | .ringSearchDone _ => true
  | .toneWindow _ ts => ts.all ToneRead.wf
  | .ringDark _ _ => true
  | .ringLightReturn _ _ => true
  | .ringDarkTimeout _ => true
  | .partialResearchDone _ _ pk _ => pk.all (fun x => decide (x < 65536))
  | .monitorSample rs => rs.all MonRead.wf
  | .streamBulkArm _ => true
  | .streamBulkDisarm _ => true
  | .bulkFrame _ pkts _ => pkts.all (fun q => decide (q.1.length ≤ 65536))
  | .shardWritten _ _ => true
  | .wsetBegin _ => true
  | .wsetCommit _ => true
  | .wsetDelete _ => true
  | .eraseDone _ => true
  | .wsetList _ => true
  | .wsetStage _ => true
  | .wsetRing _ => true
  | .wsetAbort _ => true
  | .wsetStatus _ => true
  | .calRun _ => true
  | .calThreshSet _ => true
  | .calSave _ => true
  | .calRestore _ => true
  | .calStatus _ => true
  | .firstSweepTimer => true
  | .firstSweepDone fs => fs.all TileFinding.wf
  | .nvStore _ => true
  | .nvCount _ => true
  | .nvProtect _ => true
  | .nvStoreEnd => true
  | .crystalStop => true
  | .rcStop => true
  | .rcReady => true
  | .ratioWindow _ => true
  | .startDeadline => true
  | .muxSwitchDone _ => true
  | .loopLocked _ => true
  | .lockLoss _ => true
  | .clockFaultEntry => true
  | .clkCfgReturn => true
  | .powerOnReset _ => true
  | .bankCheckDone found => found.all FwImage.wf
  | .bootDone => true
  | .debugAccess _ => true
  | .secIdGet _ => true
  | .secAttest _ => true
  | .secFwLoad _ _ => true
  | .journalRecord _ => true
  | .rally _ => true
  | .rallyMissed _ => true
  | .takeoverDone => true
  | .substFollowing => true
  | .substLost _ => true
  | .supervisionLost _ => true
  | .plannedTakeover => true
  | .fwCatchupTimeout => true
  | .diagPing _ => true
  | .diagMode _ => true
  | .diagFault _ => true
  | .inputValid _ => true
  | .inputLost _ => true
  | .mainReturn => true
  | .pwrCfgReturn => true
  | .powerFailConfirm => true
  | .powerFailSwitchOff => true
  | .holdupSample _ _ _ _ _ => true
  | .halfSupplyFail _ => true
  | .chipletRailFail _ => true
  | .orderlyStopFault => true
  | .orderlyStopOff => true
  | .autoResume => true
  | .resume => true
  | .endOfStart => true
  | .throttleEval _ _ => true
  | .sensorRead temps => decide (temps.length = 200)
  | .enec _ _ _ => true
  | .disec _ _ => true
  | .rstdaa => true
  | .entdaa addr => i3cAddr addr
  | .setdasa _ addr => i3cAddr addr
  | .setnewda addr => i3cAddr addr
  | .setmwl _ => true
  | .getmwl => true
  | .setmrl _ => true
  | .getmrl => true
  | .getpid => true
  | .getbcr => true
  | .getdcr => true
  | .getstatus => true
  | .getcaps => true
  | .enthdr0 => true
  | .entas0 => true
  | .entas1 => true
  | .entas2 => true
  | .entas3 => true
  | .setxtime _ _ => true
  | .getxtime => true
  | .rstact _ _ => true
  | .privateWrite _ => true
  | .privateRead n => decide (0 < n)
  | .hdrDdrWrite _ bytes => bytes.length % 2 == 0
  | .hdrDdrRead _ n => decide (0 < n) && n % 2 == 0
  | .legacyI2cTraffic => true
  | .inBandInterrupt _ => true
  | .ibiRetry _ => true
  | .hotJoin _ => true
  | .registerWrite key _ => keyKnown key
  | .statusWordRead key => keyKnown key
  | .statusWriteBack key _ => keyKnown key
  | .wideValueRead key => keyKnown key
  | .keyUnlock _ => true
  | .indAddrWrite _ => true
  | .indDataRead => true
  | .indDataWrite _ => true
  | .indAccessDone => true
  | .aliasRead _ _ => true
  | .aliasWrite _ _ _ => true
  | .mbxReqWrite _ _ _ => true
  | .mbxRing _ => true
  | .mbxRelease _ => true
  | .feedCfgWrite _ => true
  | .halfCfgWrite _ => true
  | .bridgeCfgWrite _ _ => true
  | .streamCfgWrite _ _ => true
  | .outMapWrite _ _ => true
  | .clkEnWrite _ => true
  | .tbCfgWrite _ => true
  | .tbSyncHiWrite _ => true
  | .meshTblDataAccess _ _ => true
  | .tcalDataAccess _ _ => true
  | .ringDataAccess _ _ => true
  | .tempDataAccess _ => true
  | .ptDataRead => true
  | .nvRawDataRead => true
  | .sineTblDataAccess _ => true
  | .nvArrayWrite _ _ => true

end Sys2Proof
end

