-- ==== Sys2Proof/Tests/Slice0.lean ====
section
/-! SUPPORT. Tests/Slice0.lean: ill-formed commands refused, one step of a few commands against values the spec states, and, for
every statement <N> with hypotheses, theorems wit_<N> with states and operands that meet them, clause by clause. -/

namespace Sys2Proof.Tests

open Sys2Proof Sys2Proof.Machine

set_option Elab.async false

/-- After reset, long enough for every wait counted from 0 to be over. -/
def late : State := State.reset.setNow (10 ^ 15)

/-- Firmware in service. -/
def up : State :=
  ((late.wr R.SYS_STAT_BOOT_DONE 0 1).wr R.SYS_STAT_SYS_STATE 0 stService).setBoot { Boot.reset with phase := 3, at_ := some 0 }

/-- A value in force of a buffered register. -/
def frcSet (s : State) (f : Fld) (i v : Nat) : State :=
  s.setInForce (spSet regReset s.inForce (f.key i 0) (withField f.lo f.w (s.forceWord (f.key i 0)) v))

/-- Mailbox `m` queued with a command and the bytes of its parameters. -/
def ask (s : State) (m code : Nat) (ps : List Nat) : State :=
  let bytes : List Byte := leBytes 4 code ++ leBytes 4 ps.length ++ ps.map (BitVec.ofNat 8)
  let s := (List.range 16).foldl (fun s w => s.setWord (R.MBX_REQ.key m w) (BitVec.ofNat 32 (leAt (bytes ++ List.replicate 64 0) (4 * w) 4))) s
  ((s.wr R.MBX_STAT_STATE m mbQueued).wr R.MBX_STAT_CMD m code).setMbxOrder (s.mbxOrder ++ [m])

/-- A dynamic address held on the bus. -/
def onBus : State := up.setBus { up.bus with dynAddr := some 9 }

/-- A running job that asks for `f`. -/
def withJob (s : State) (j : Nat) (f : Job → Job) : State := s.putJob j (f { Job.empty with st := .running, streams := [0] })

/-- A stamp, a token of job 0 with one element for unit `u` of cluster 0, and the token standing at a place. -/
def tok0 (u : Nat) : Token :=
  ⟨⟨0, 0⟩, 0, 0, 0, Flags.none, 0, 0, 0, 0, 0, u, 0, 0, 0, 1, 16, 0, 0, 0, 0, [1]⟩

/-- The token drawn up whole at a place since the start, fresh, and alone in the fabric. -/
def hd (p : Place) (k : Token) : Held := ⟨p, k, false, false, 0, k.transfers, []⟩

/-- The state with that token only. -/
def held (s : State) (p : Place) (k : Token) : State := s.setFabric [hd p k]

/-- A result of job 0, path 0 and stream 0. -/
def res0 : Result := ⟨0, 0, 0, 0, 0, Flags.none, ⟨0, 0⟩, 0, 0, 1, [], [], [], []⟩

/-- A batch of job 0 and stream 0, waiting. -/
def batch0 : Batch := ⟨0, 0, 0, [], false, [], [], [], 0, Flags.none, 0, []⟩

/-- A path without a marker and a plant output, in half 0, whose full form spans one half. -/
def path0 (n : Nat) : PathSpec := ⟨n, [], 0, 1, none, none, false, false, 0, 0⟩

/-- A RELU operator on INT16 elements in the vector unit of cluster 0, without a route. -/
def relu0 : OperSpec := ⟨0, 0, .relu, 0, 16, 0x3C00, 0, .int16, .int16, 1, 4, 0, 16, 16, 1, [], 1, false, []⟩

/-- An input of path 0 from stream 0: 16 pixels to operator 0 of cluster 0. -/
def input0 : InputSpec := ⟨0, 0, 0, 0, 0, 16, 0, 16, 0, 0x3C00⟩

/-- A receive port in use with stream 47 enabled. -/
def rx : State := frcSet (((up.wr R.RX_CFG_EN 11 1).wr R.CLK_EN_RX 0 0xFFF)) R.STREAM_CFG_EN 47 1

/-- The state after a command. -/
def run (c : Instr) (s : State) : State := match exec c s with
  | .next t => t
  | _ => s

/-- A job with one operator. -/
def withOper (s : State) (o : OperSpec) : State := withJob s 0 fun j => { j with sec := { j.sec with opers := [o] } }

/-- A restart taken up, its epoch not advanced. -/
def rst0 : Restart := ⟨fcTile, false, 0, 0, 0, 0, true, false, [.none], false⟩

/-- Chiplet 3 in a state, held by job 0 with an operator, and its record. -/
def chip3 (st : Nat) (c : Chip) : State := (up.wr R.MESH_STAT_STATE 3 st).putChip 3 c

/-- The peaks of the first eight tones, one slot of 2,731 codes apart, over the whole sweep. -/
def peaks0 : List Nat := ([0, 1, 2, 3, 4, 5, 6, 7, 18, 19, 20, 21, 22, 23] : List Nat).map fun n => 2000 + 2731 * n

/-- A weight field of no bytes with its digest, and a slot of the golden store that holds it as shard 0. -/
def shard0 : List Byte := List.replicate 64 0

/-- A slot whose manifest gives shard 0 the digest of `shard0` (or another). -/
def slot0 (ok : Bool) : StoreSlot :=
  ⟨2, 0, List.replicate 0x50 0 ++ (if ok then shake256 [] else List.replicate 64 0), [(0, shard0)]⟩

/-- A tile waiting to be written, being written, read back: step `st`, for a staging. -/
def write0 (st : Nat) : WriteReq := ⟨4095, false, 0, 0, .stage 0 0, st, 0, false, false⟩

/-- A job image of one stream and one path with no section of its own, and its digest. -/
def image0 : List Byte :=
  let h : List Byte := [0x57, 0x59, 0x47, 0x4A, 1, 0, 64, 0] ++ leBytes 4 64 ++ [1, 0, 1, 1] ++ leBytes 2 16 ++ leBytes 2 0 ++ List.replicate 16 0 ++
    leBytes 2 150 ++ List.replicate 26 0
  h ++ shake256 h

/-- JOB_LOAD of that image, received and with its weight set held. -/
def loading0 : State :=
  (((((ask up 15 0x0101 ([0, 0, 0x40, 1, 255, 1, 0, 0, 0] ++
    List.replicate 47 255)).putSt 0x01400000 image0).setBulk [⟨0x01400000, 128, 128, 1, 0, 0⟩]).setFirstForm 4).putSlot 0
    ⟨2, 0, [], []⟩).wr R.STREAM_CFG_EN 0 1

/-- What stands in an option or at the head of a list that the witnesses know to hold something. -/
def got {α : Type} (o : Option α) (h : o.isSome = true := by decide +kernel) : α := o.get h

def top {α : Type} (l : List α) (h : l.isEmpty = false := by decide +kernel) : α := l.head (by cases l <;> simp_all)

theorem test_wf_refuses_places : ([.staleTokenDiscard (.hubLink 2), .tokenReceipt (.router 256 0 0) .none, .tokenReceipt (.router 0 5 0) .none,
    .tokenReceipt (.router 0 0 3) .none, .staleTokenDiscard (.bridge 16), .tokenReceipt (.arrived 256 0) .none, .tokenReceipt (.unit 0 32) .none] :
    List Instr).any Instr.wf = false := by decide +kernel

theorem test_wf_refuses_accesses : ([.dmaTransfer 0 ⟨16, 0, false, [], 1, .none⟩, .dmaTransfer 0 ⟨0, 2 ^ 32, false, [], 1, .none⟩,
    .dmaTransfer 0 ⟨0, 0, true, [], 0, .none⟩, .dmaTransfer 0 ⟨0, 0, true, [1], 1, .none⟩, .dmaTransfer 0 ⟨0, 0, false, [1], 1, .none⟩,
    .dmaTransfer 0 ⟨0, 0, false, [], 0, .none⟩] : List Instr).any Instr.wf = false := by decide +kernel

theorem test_wf_refuses_measurements : ([.writeVerifyDone 0 ⟨0, 0, [272]⟩ ⟨0, 0, []⟩, .writeVerifyDone 0 ⟨0, 0, []⟩ ⟨0, 0, [272]⟩,
    .roundBuild 0 none [⟨4096, [], [], 0, false⟩], .firstSweepDone [⟨4096, [], [], 0, false⟩], .ringSweepDone 0 0 [65536],
    .partialResearchDone 0 0 [65536] ⟨0, 0, 0, 0, 0⟩, .toneWindow 0 [⟨1584, 0, 0, 0, 0⟩], .monitorSample [⟨4, 0, 0⟩], .monitorSample [⟨0, 115, 0⟩],
    .sensorRead [], .bankCheckDone (some FwImage.none)] : List Instr).any Instr.wf = false := by decide +kernel

theorem test_wf_refuses_jobs_and_codewords :
    ([.jobLoad 0 { Section.none with paths := [path0 8] },
      .jobLoad 0 { Section.none with opers := [{ relu0 with path := 8 }] }, .jobLoad 0 { Section.none with opers := [{ relu0 with clu := 256 }] },
      .jobLoad 0 { Section.none with opers := [{ relu0 with unit := 20 }] }, .jobLoad 0 { Section.none with inputs := [{ input0 with path := 8 }] },
      .jobLoad 0 { Section.none with inputs := [{ input0 with stream := 48 }] },
      .codewordReceived 0 0 0 [{ tok0 0 with tag := 4096 }], .codewordReceived 0 0 0 [{ tok0 0 with epoch := 4 }],
      .codewordReceived 0 0 0 [{ tok0 0 with len := 256 }]] : List Instr).any Instr.wf = false := by decide +kernel

theorem test_wf_refuses_bus_operands : ([.longPacket 0 0 ⟨.good, 0⟩ 0 true true [65536], .entdaa 0, .entdaa 0x7E, .setdasa 0x20 0x7E, .setnewda 0,
    .privateRead 0, .hdrDdrWrite 0x20 [1], .hdrDdrRead 0xA0 0, .hdrDdrRead 0xA0 3, .registerWrite 1 0, .statusWordRead 1, .statusWriteBack 1 0,
    .wideValueRead 1] : List Instr).any Instr.wf = false := by decide +kernel

theorem test_wf_accepts : ([.rstdaa, .entdaa 9, .privateRead 4, .registerWrite 0x18 0, .statusWordRead 0x8, .staleTokenDiscard (.hubLink 1),
    .dmaTransfer 0 ⟨15, 0, true, [1], 0, .none⟩, .jobLoad 0 Section.none] : List Instr).all Instr.wf = true := by decide +kernel

/-- The table gives no row any bits. -/
theorem test_no_word_is_a_command : decodeTableWord 32 0 = none ∧ State.reset.withFetchWord 32 0 = State.reset := ⟨rfl, rfl⟩

/-- SHAKE256 of no bytes (FIPS 202): its first four and last two bytes of 64. -/
theorem test_shake256_of_nothing : (shake256 []).take 4 = [0x46, 0xB9, 0xDD, 0x2B] ∧ (shake256 []).drop 62 = [0xC4, 0xBE] := by decide +kernel

/-- The bus and device characteristics of R287. -/
theorem test_characteristics : (run .getbcr onBus).bus.lastCcc = [0x26] ∧ (run .getdcr onBus).bus.lastCcc = [0x00] := by decide +kernel

/-- The pointer of R290: 0x010180 is MBX_REQ_3_0, and a word moves it by 4 (the worked example of chapter 10). -/
theorem test_private_write : (run (.privateWrite [0x01, 0x01, 0x80, 0x01, 0x01, 0x07, 0x00]) onBus).bus.ptr = 0x010184 ∧
    (run (.privateWrite [0x01, 0x01, 0x80, 0x01, 0x01, 0x07, 0x00]) onBus).mbReq 3 0 = 0x00070101 := by decide +kernel

/-- The key word of R297 opens the key, another closes it. -/
theorem test_key : (run (.keyUnlock 0x4B540640) up).keyOpen = true ∧ (run (.keyUnlock 0) (run (.keyUnlock 0x4B540640) up)).keyOpen = false := by
  decide +kernel

/-- An unknown command is answered BAD_COMMAND (0x22). -/
theorem test_bad_command : fieldOf 0 8 ((run (.mbxRing 3) (run (.mbxReqWrite 3 0 0x1234) up)).word (R.MBX_RSP.key 3 1)) = 0x22 := by decide +kernel

/-- The aged tile of chapter 3: the magnitude sums of its eight groups, and the sub-groups sizing lets it drive before the trip. -/
def aged : List Int :=
  let g (m : Nat) : List Int := (m : Int) :: List.replicate 63 0
  g 1500 ++ g 0 ++ ((900 : Int) :: List.replicate 15 0 ++ (1200 : Int) :: List.replicate 15 0 ++ (1300 : Int) :: List.replicate 31 0) ++
    ((1000 : Int) :: List.replicate 31 0 ++ (900 : Int) :: List.replicate 31 0) ++ g 1200 ++ g 800 ++ g 1700 ++ g 400

theorem test_aged_tile_sizing : driveList ⟨true, countWeight 2, 100, 12, 4, []⟩ aged =
    ([(0, 64), (128, 16), (144, 16), (160, 32), (192, 64), (256, 64), (320, 64), (384, 64), (448, 64)], 1) ∧ countWeight 2 = 240 := by
  decide +kernel

/-- Column values of R67: halves go to even and 32,768 saturates. -/
theorem test_finish_column : finishColumn (3 * 2 ^ 35) 0 = (2, false) ∧ finishColumn (5 * 2 ^ 35) 0 = (2, false) ∧
    finishColumn (32768 * 2 ^ 36) 0 = (32767, true) ∧ finishColumn (-(32768 * 2 ^ 36)) 0 = (-32767, true) := by decide +kernel

/-- The marker of chapter 9: d = −503,503 at the scheduling, across the wrap, and the entry is queued. -/
theorem test_marker_downstream : BitVec.ofNat 32 (4294902130 + 504000) = (0x0006B232 : Word) ∧
  markD (BitVec.ofNat 32 (438834 + 2 ^ 32 - 503503)) 438834 = -503503 := by
  decide +kernel

/-- The web position of R280: a quarter step forward and one back. -/
theorem test_encoder : let s := (up.wr R.ENC_CFG_EN 0 1).wr R.CLK_EN_ENC 0 1
    (run (.encoderTransition true false) s).word (R.ENC_POS.key 0 0) + (run (.encoderTransition false true) s).word (R.ENC_POS.key 0 0) = 0 ∧
    (run (.encoderTransition true true) s).on R.TIME_EVT_ENC_ERR 0 = true := by decide +kernel

/-- Step 4 of the coat-weight sensor of chapter 2: the threshold does not return to 1.50 % while a job of REQ_XBAR 120 is admitted. -/
theorem test_coat_weight :
    let s := withJob ((ask up 3 0x0302 [150, 0]).wr R.CAL_THRESH_THRESH 0 120) 0 fun j => { j with hdr := { j.hdr with reqXbar := 120 } }
    fieldOf 0 8 ((run (.calThreshSet 3) s).word (R.MBX_RSP.key 3 1)) = 0x07 ∧ (run (.calThreshSet 3) s).thresh = 120 := by decide +kernel

/-- The lowered power limit of chapter 14: 380 W lowers level 16 to 15 with cause power; 301 W at level 12 changes nothing. -/
theorem test_power_limit : let s (l : Nat) := ((up.wr R.THR_CFG_PWR_LIMIT 0 320).wr R.THR_STAT_LEVEL 0 l).wr R.TEMP_MAX_MAX 0 0
    (run (.throttleEval 3800 0) (s 16)).rd R.THR_STAT_LEVEL 0 = 15 ∧ (run (.throttleEval 3800 0) (s 16)).rd R.THR_STAT_CAUSE 0 = 1 ∧
    (run (.throttleEval 3010 0) (s 12)).rd R.THR_STAT_LEVEL 0 = 12 := by decide +kernel

/-- The crystal of chapter 13 stops: the Referee trips, every loop coasts and the module is in RECOVERY. -/
theorem test_crystal_stops :
    let s := (((up.wr R.CLK_STAT_XTAL_ACTIVE 0 1).wr R.CLK_STAT_RC_READY 0 1).wr R.CLK_STAT_LOCKED 0 0xFF).putClk { up.clk with fed := true }
    let t := run .crystalStop s
    t.on R.CLK_EVT_REF_TRIP 0 = true ∧ t.rd R.CLK_STAT_LOCKED 0 = 0 ∧ t.sysState = stRecovery := by decide +kernel

/-- A plant input of 2.5 V over-ranges at 2²³ − 1; zero reads zero. -/
theorem test_ain_codes : ainResult 0 = (0, false) ∧ (ainResult 2500000001) = (8388607, true) ∧ (ainResult (-1250000000)).1 = -4194304 := by decide +kernel

/-- The sine of chapter 16: FREQ 0x00A0_0000 advances the phase by that much at each tick. -/
theorem test_sine_tick : let s := frcSet (frcSet ((up.wr R.CLK_EN_AOUT 0 1).wr R.CLK_STAT_LOCKED 0 0xFF) R.AOUT_CFG_SINE_EN 2 1) R.AOUT_FREQ_FREQ 2 10485760
    ((run (.sineTick 2) s).aout 2).phase = 0x00A00000 := by decide +kernel

/-- One cycle of the timebase clock passes when nothing is commanded: from reset the HUB loop coasts (R275, R360). -/
theorem test_idle_cycle : (match step State.reset with | .next t => t.now | _ => 0) = 4 := by decide +kernel

theorem wit_StepRunsTheFrontCommand : (State.reset.setPending [.rstdaa]).pending = Instr.rstdaa :: [] := rfl

theorem wit_IdleStepIsOneTimebaseCycle : State.reset.pending = [] ∧ State.reset.time.started = false ∧
    (State.reset.setTime { TimeUnit.reset with started := true }).time.started = true := by decide +kernel

theorem wit_StepKeepsCanonicalForm : State.reset.Canonical ∧ ∃ t, step State.reset = .next t :=
  ⟨by constructor <;> rfl, _, rfl⟩

namespace WCommonCommandCodes

theorem wit_CommonCommandCodes :
    up.targetUp = true ∧ up.bus.dynAddr = none ∧ onBus.targetUp = true ∧ onBus.bus.dynAddr.isSome = true := by decide +kernel

end WCommonCommandCodes

theorem wit_CommonCommandCodes_setdasa : (∃ st : Fin 128, st.val = 0x20 + instanceNo) ∧ ∃ st : Fin 128, st.val ≠ 0x20 + instanceNo :=
  have h : instanceNo < 16 := Nat.mod_lt _ (by decide)
  ⟨⟨⟨0x20 + instanceNo, by omega⟩, rfl⟩, ⟨⟨0, by omega⟩, by show (0 : Nat) ≠ _; omega⟩⟩

namespace WInterruptsAndFrameOfTheBus

def i1 := onBus.setBus { onBus.bus with ibiMbx := true }
def i2 := i1.setBus { i1.bus with ibiRefused := true }
def i3 := i1.setBus { i1.bus with enInt := false }

theorem wit_InterruptsAndFrameOfTheBus :
    i1.ibiReady = true ∧ i1.bus.ibiRefused = false ∧ i2.ibiReady = true ∧ i2.bus.ibiRefused = true ∧ i3.bus.enInt = false ∧ up.targetUp = true ∧
    up.bus.enHj = true ∧ up.bus.dynAddr = none ∧ up.bus.hjDone = false := by decide +kernel

end WInterruptsAndFrameOfTheBus

namespace WInterruptsAndFrameOfTheBus2

def i1 := onBus.setBus { onBus.bus with ibiMbx := true }
def i2 := i1.setBus { i1.bus with ibiRefused := true }
def i3 := i1.setBus { i1.bus with enInt := false }

theorem wit_InterruptsAndFrameOfTheBus_2 :
    i1.ibiReady = true ∧ i1.bus.ibiRefused = false ∧ i2.ibiReady = true ∧ i2.bus.ibiRefused = true ∧ i3.bus.enInt = false ∧ up.targetUp = true ∧
    up.bus.enHj = true ∧ up.bus.dynAddr = none ∧ up.bus.hjDone = false := by decide +kernel

end WInterruptsAndFrameOfTheBus2

theorem wit_PrivateTransfers :
    let s := onBus.setBus { onBus.bus with ptr := 0x4, mwl := 7, mrl := 4, hdr := true }
    s.targetUp = true ∧ s.bus.dynAddr.isSome = true ∧ 7 ≤ s.bus.mwl ∧ 4 ≤ s.bus.mrl ∧ s.bus.hdr = true ∧
    (hostRead (s.setBus { s.bus with hdr := false, acked := true }) s.bus.ptr).1.isSome = true ∧
    (hostRead (s.setBus { s.bus with acked := true }) s.bus.ptr).1.isSome = true ∧
    (0x21 : Fin 256).val ≠ 0x20 ∧ (0x21 : Fin 256).val ≠ 0xA0 := by decide +kernel

theorem wit_TargetReset : up.targetUp = true ∧ ¬ ((2 : Fin 256).val = 2 ∧ up.sysState = stTest) ∧
    (up.wr R.SYS_STAT_SYS_STATE 0 stTest).targetUp = true ∧ (up.wr R.SYS_STAT_SYS_STATE 0 stTest).sysState = stTest := by decide +kernel

namespace WStatusWords

def t1 := (up.wr R.SYS_STAT_SYS_STATE 0 stTest)
def w1 := up.setWb [(sumKeyOf 1, some ⟨3, 0x300, 0x100⟩)]
def w2 := (t1.setWb [(sumKeyOf 1, some ⟨3, 0x300, 0x100⟩)]).wr R.MESH_EVT_REBUILD 0 1

theorem wit_StatusWords :
    R.RX_EVT_CRC_ERR.key 0 0 ≠ 4 ∧ 8 ≤ R.RX_EVT_CRC_ERR.lo ∧ R.RX_EVT_CRC_ERR.lo + R.RX_EVT_CRC_ERR.w ≤ 32 ∧ 0 ≠ R.RX_EVT_CRC_ERR.key 0 0 ∧
    up.sysState = stService ∧ (findReg (sumKeyOf 0)).isSome = true ∧ up.on R.SYS_STAT_BOOT_DONE 0 = true ∧ up.gated (sumKeyOf 0) = false ∧
    t1.on R.SYS_STAT_BOOT_DONE 0 = true ∧ t1.gated (sumKeyOf 0) = false ∧ t1.sysState ≠ stService ∧ (findReg (sumKeyOf 1)).isSome = true ∧
    w1.on R.SYS_STAT_BOOT_DONE 0 = true ∧ w1.gated (sumKeyOf 1) = false ∧ (spGet (fun (x : Nat) => none) w1.wb (sumKeyOf 1)).isSome = true ∧
    (w1.sysState = stService ∨ 3 ≠ (got (spGet (fun (x : Nat) => none) w1.wb (sumKeyOf 1))).seq) ∧ w2.on R.SYS_STAT_BOOT_DONE 0 = true ∧
    w2.gated (sumKeyOf 1) = false ∧ (spGet (fun (x : Nat) => none) w2.wb (sumKeyOf 1)).isSome = true ∧ w2.sysState ≠ stService ∧
    3 = (got (spGet (fun (x : Nat) => none) w2.wb (sumKeyOf 1))).seq := by decide +kernel

end WStatusWords

namespace WWideValuesLatch

def x1 := up.setShadow [(0x60904, some 1)]

theorem wit_WideValuesLatch :
    up.on R.SYS_STAT_BOOT_DONE 0 = true ∧ spGet (fun (x : Nat) => none) up.shadow 395524 = none ∧ x1.on R.SYS_STAT_BOOT_DONE 0 = true ∧
    (spGet (fun (x : Nat) => none) x1.shadow 395524).isSome = true := by decide +kernel

end WWideValuesLatch

namespace WPlainRegisterWrites

theorem wit_PlainRegisterWrites :
    327680 < halfStep ∧ (findReg 327680).isSome = true ∧ (got (findReg 327680)).actsPlainly = true ∧ (got (findReg 327680)).accMask Acc.rs = 0 ∧
    up.on R.SYS_STAT_BOOT_DONE 0 = true ∧ up.gated 327680 = false := by decide +kernel

end WPlainRegisterWrites

namespace WKeyAndUnreadableAddresses

def x1 := up.wr R.CLK_EN_RX 0 0

theorem wit_KeyAndUnreadableAddresses :
    up.on R.SYS_STAT_BOOT_DONE 0 = true ∧ 1048572 < halfStep ∧ findReg 1048572 = none ∧ 393216 < halfStep ∧
    x1.on R.SYS_STAT_BOOT_DONE 0 = true ∧ (findReg 393216).isSome = true ∧ x1.gated 393216 = true := by decide +kernel

end WKeyAndUnreadableAddresses

namespace WIndirectWindow

def op (w : Bool) (d o : Nat) (s : State) : State := s.setBus { s.bus with indQueue := [⟨w, d, o, 0, false⟩, ⟨true, 1, 4, 7, false⟩] }
def x2 := op false 2 0x1FFFFFC up
def x3 := op true 2 0 up
def x4 := op false 1 0 up

theorem wit_IndirectWindow :
    up.on R.SYS_STAT_BOOT_DONE 0 = true ∧ (up.bus.fetched).isSome = true ∧ up.on R.IND_ADDR_AINC 0 = false ∧
    x2.on R.SYS_STAT_BOOT_DONE 0 = true ∧ x2.bus.indQueue = top x2.bus.indQueue :: x2.bus.indQueue.tail ∧ (top x2.bus.indQueue).domain = 2 ∧
    (top x2.bus.indQueue).write = false ∧ (top x2.bus.indQueue).offset < 33554432 ∧ x3.on R.SYS_STAT_BOOT_DONE 0 = true ∧
    x3.bus.indQueue = top x3.bus.indQueue :: x3.bus.indQueue.tail ∧ (top x3.bus.indQueue).domain = 2 ∧ (top x3.bus.indQueue).write = true ∧
    x4.on R.SYS_STAT_BOOT_DONE 0 = true ∧ x4.bus.indQueue = top x4.bus.indQueue :: x4.bus.indQueue.tail ∧ (top x4.bus.indQueue).domain < 2 ∧
    x4.halfReached (top x4.bus.indQueue).domain = false := by decide +kernel

end WIndirectWindow

namespace WIndirectWindow2

def noWord := up.setBus { up.bus with fetched := none }

theorem wit_IndirectWindow_2 :
    noWord.on R.SYS_STAT_BOOT_DONE 0 = true ∧ noWord.bus.fetched = none := by decide +kernel

end WIndirectWindow2

namespace WAliasRegion

theorem wit_AliasRegion :
    up.on R.SYS_STAT_BOOT_DONE 0 = true := by decide +kernel

end WAliasRegion

namespace WMailboxHandshake

def x1 := ask up 15 0x0901 []
def x2 := (ask up 15 0x0901 []).wr R.MBX_STAT_STATE 15 mbIdle
def x3 := (ask up 15 0x0901 []).wr R.MBX_STAT_STATE 15 mbDone
def x4 := ask (up.setWord (R.MBX_REQ.key 0 0) 0x09FF) 15 0x0901 []

theorem wit_MailboxHandshake :
    up.on R.SYS_STAT_BOOT_DONE 0 = true ∧ up.mbState 0 = mbIdle ∧ findCmd (up.req 0 0 2) = none ∧ up.dutiesRun = true ∧
    (∀ q ∈ up.mbxOrder, up.mbCmd q / 256 ≠ up.req 0 0 2 / 256) ∧ up.mbState 0 ≠ mbDone ∧ x1.on R.SYS_STAT_BOOT_DONE 0 = true ∧
    x1.mbState 15 ≠ mbIdle ∧ x2.on R.SYS_STAT_BOOT_DONE 0 = true ∧ x2.mbState 15 = mbIdle ∧ (findCmd (x2.req 15 0 2)).isSome = true ∧
    x3.on R.SYS_STAT_BOOT_DONE 0 = true ∧ x3.mbState 15 = mbDone ∧ x4.on R.SYS_STAT_BOOT_DONE 0 = true ∧ x4.mbState 0 = mbIdle ∧
    findCmd (x4.req 0 0 2) = none ∧ (∃ q ∈ x4.mbxOrder, x4.mbCmd q / 256 = x4.req 0 0 2 / 256) ∧ 0 ∉ x4.mbxOrder := by decide +kernel

end WMailboxHandshake

namespace WTimebaseDiscipline

def a0 := ask up 0 0x0601 [1, 2, 3, 0, 0, 0, 0, 0x80]
def j0 := withJob a0 0 id
def hi := up.setTime { up.time with syncHeld := some 5 }
def src (n st : Nat) (s : State) : State := (s.wr R.TB_CFG_SRC 0 n).wr R.TB_STAT_STATE 0 st
def off (n good far : Nat) (s : State) : State := s.setTime { s.time with count := BitVec.ofNat 64 n, good := good, far := far }
def x1 := off 100 7 0 (src 1 tbAcquiring up)
def x12 := off (1500 * up.tbPeriodUs) 0 0 (src 1 tbLocked up)

theorem wit_TimebaseDiscipline :
    a0.begins 0 1537 true true true = true ∧ a0.anyStarted = false ∧ j0.begins 0 1537 true true true = true ∧ j0.anyStarted = true ∧
    hi.on R.SYS_STAT_BOOT_DONE 0 = true ∧ (hi.time.syncHeld).isSome = true ∧ up.on R.SYS_STAT_BOOT_DONE 0 = true ∧
    (fieldOf R.TB_CFG_SRC.lo R.TB_CFG_SRC.w 0 = 0 ∨ fieldOf R.TB_CFG_SRC.lo R.TB_CFG_SRC.w 0 = 3) ∧
    (fieldOf R.TB_CFG_SRC.lo R.TB_CFG_SRC.w 1 = 1 ∨ fieldOf R.TB_CFG_SRC.lo R.TB_CFG_SRC.w 1 = 2) ∧ up.rd R.TB_STAT_STATE 0 = tbFree ∧
    (up.tbSrc ≠ 1 ∨ up.on R.TB_CFG_EDGE 0 ≠ true ∨ up.rd R.TB_STAT_STATE 0 = tbFree) ∧ up.targetUp = true ∧
    (up.tbSrc ≠ 2 ∨ up.rd R.TB_STAT_STATE 0 = tbFree) ∧ XTimeSub.sync ≠ XTimeSub.syncTick ∧
    (Instr.syncInEdge false 0 = Instr.syncInEdge false 0 ∧ x1.tbSrc = 1 ∧ x1.on R.TB_CFG_EDGE 0 = false ∨
      Instr.syncInEdge false 0 = Instr.setxtime XTimeSub.syncTick 0 ∧ x1.tbSrc = 2 ∧ x1.targetUp = true) ∧
    x1.rd R.TB_STAT_STATE 0 ≠ tbFree ∧ x12.rd R.TB_STAT_STATE 0 = tbLocked ∧
    1500 * ↑x12.tbPeriodUs ≤ BitVec.toInt (x12.time.count - x12.time.expect) := by decide +kernel

end WTimebaseDiscipline

namespace WEncoderCounts

def en := (up.wr R.ENC_CFG_EN 0 1).wr R.CLK_EN_ENC 0 1
def en3 := en.setTime { en.time with encAAt := some en.now }
def x1 := en.wr R.ENC_CFG_EN 0 0

theorem wit_EncoderCounts :
    (∀ k < 8, en.markQ k = []) ∧ en.on R.ENC_CFG_EN 0 = true ∧ en.on R.CLK_EN_ENC 0 = true ∧ en.tooShort en.time.encAAt = false ∧
    en.tooShort en.time.encBAt = false ∧ true ≠ en.time.encA ∧ true ≠ en.time.encB ∧ false = en.time.encB ∧ false = en.time.encA ∧
    (∀ k < 8, en3.markQ k = []) ∧ true ≠ en3.time.encA ∧ false = en3.time.encB ∧ en3.tooShort en3.time.encAAt = true ∧
    (∀ k < 8, x1.markQ k = []) ∧ (x1.on R.ENC_CFG_EN 0 = false ∨ x1.on R.CLK_EN_ENC 0 = false) ∧ x1.tooShort x1.time.encAAt = false ∧
    x1.tooShort x1.time.encBAt = false := by decide +kernel

end WEncoderCounts

namespace WMarkerEntries

def en := (up.wr R.ENC_CFG_EN 0 1).wr R.CLK_EN_ENC 0 1
def mk (n : Nat) : State := (ask up 0 0x0503 [7, 0, 0, 0, n % 256, n / 256 % 256, 0, 0]).wr R.CLK_EN_MARK 0 1
def on_ (s : State) : State := s.wr R.MARK_CFG_EN 7 1
def full := (on_ (mk 1)).setTime { up.time with marks := [(7, List.replicate 64 ⟨5, false⟩)] }
def past (n : Nat) : State := (on_ (mk 0)).setWord (R.ENC_POS.key 0 0) (BitVec.ofNat 32 n)
def win := up.rd R.MARK_LATE_WIN_LATE_WIN 0
def mc := ((ask up 0 0x0504 [7]).wr R.CLK_EN_MARK 0 1).setTime { up.time with marks := [(7, [⟨5, false⟩])] }
def mp := ((ask up 0 0x0602 [1, 0, 0, 0]).wr R.CLK_EN_ENC 0 1).setTime { up.time with marks := [(7, [⟨5, false⟩])] }
def mpj := withJob mp 0 id
def fire := (en.setTime { en.time with marks := [(7, [⟨1, true⟩, ⟨2, false⟩])] })
def puls := (State.reset.setTime { TimeUnit.reset with pulse := [(7, (1, 1))] })
def puls2 := (((up.wr R.MARK_STAT_ACTIVE 7 1).putMarkLevel 7 true))
def x1 := mk 1
def x2 := on_ (mk 1)
def x4 := past 0
def x6 := past (win+1)

theorem wit_MarkerEntries :
    x1.begins 0 1283 true (x1.on R.CLK_EN_MARK 0) true = true ∧ x1.on R.MARK_CFG_EN (x1.req 0 8 1) = false ∧
    x2.begins 0 1283 true (x2.on R.CLK_EN_MARK 0) true = true ∧ x2.on R.MARK_CFG_EN (x2.req 0 8 1) = true ∧
    (x2.markQ (x2.req 0 8 1)).length < 64 ∧ markD (x2.word (R.ENC_POS.key 0 0)) (BitVec.ofNat 32 (x2.req 0 12 4)) < 0 ∧
    full.begins 0 1283 true (full.on R.CLK_EN_MARK 0) true = true ∧ full.on R.MARK_CFG_EN (full.req 0 8 1) = true ∧
    (full.markQ (full.req 0 8 1)).length = 64 ∧ x4.begins 0 1283 true (x4.on R.CLK_EN_MARK 0) true = true ∧
    x4.on R.MARK_CFG_EN (x4.req 0 8 1) = true ∧ (x4.markQ (x4.req 0 8 1)).length < 64 ∧
    0 ≤ markD (x4.word (R.ENC_POS.key 0 0)) (BitVec.ofNat 32 (x4.req 0 12 4)) ∧
    markD (x4.word (R.ENC_POS.key 0 0)) (BitVec.ofNat 32 (x4.req 0 12 4)) ≤ ↑(x4.rd R.MARK_LATE_WIN_LATE_WIN 0) ∧
    x6.begins 0 1283 true (x6.on R.CLK_EN_MARK 0) true = true ∧ x6.on R.MARK_CFG_EN (x6.req 0 8 1) = true ∧
    (x6.markQ (x6.req 0 8 1)).length < 64 ∧ 0 ≤ markD (x6.word (R.ENC_POS.key 0 0)) (BitVec.ofNat 32 (x6.req 0 12 4)) := by decide +kernel

theorem wit_MarkerEntries_2 :
    ↑(x6.rd R.MARK_LATE_WIN_LATE_WIN 0) < markD (x6.word (R.ENC_POS.key 0 0)) (BitVec.ofNat 32 (x6.req 0 12 4)) ∧
    mc.begins 0 1284 true (mc.on R.CLK_EN_MARK 0) true = true ∧ mp.begins 0 1538 true (mp.on R.CLK_EN_ENC 0) true = true ∧
    mp.anyStarted = false ∧ mpj.begins 0 1538 true (mpj.on R.CLK_EN_ENC 0) true = true ∧ mpj.anyStarted = true ∧ fire.on R.ENC_CFG_EN 0 = true ∧
    fire.on R.CLK_EN_ENC 0 = true ∧ fire.tooShort fire.time.encAAt = false ∧ true ≠ fire.time.encA ∧
    fire.markQ 7 = top (fire.markQ 7) :: (fire.markQ 7).tail ∧
    (0 ≤
      markD
        (if ((true != fire.time.encB) != fire.on R.ENC_CFG_INVERT 0) = true then fire.word (R.ENC_POS.key 0 0) + 1
        else fire.word (R.ENC_POS.key 0 0) - 1)
        (top (fire.markQ 7)).target) ∧
    (∀ u ∈ (fire.markQ 7).tail,
      markD
          (if ((true != fire.time.encB) != fire.on R.ENC_CFG_INVERT 0) = true then fire.word (R.ENC_POS.key 0 0) + 1
          else fire.word (R.ENC_POS.key 0 0) - 1)
          u.target <
        0) ∧
    x1.on R.MARK_STAT_ACTIVE 7 = false ∧ puls.now < (spGet (fun (x : Nat) => (0, 0)) puls.time.pulse 7).1 ∧
    (spGet (fun (x : Nat) => (0, 0)) puls2.time.pulse 7).1 ≤ puls2.now ∧ puls2.on R.MARK_STAT_ACTIVE 7 = true := by decide +kernel

end WMarkerEntries

namespace WConfigurationWrites

def key (s : State) : State := s.wr R.SYS_STAT_KEY_OPEN 0 1
def kup := key up
def named : State := key (withJob up 0 fun j => { j with sec := { j.sec with bridges := [15], paths := [{ path0 0 with spans := true, reduced := true}] }, reduced := some 0 })
def kb := kup.wr R.FEED_STAT_B_OK 0 1
def bnd := up.putBind 0 47 { Bind.none with bound := true }
def jbs := withJob up 15 id

theorem wit_ConfigurationWrites :
    up.on R.SYS_STAT_BOOT_DONE 0 = true ∧ up.keyOpen = false ∧ up.bridgeNamed 15 = false ∧ up.boundJobs 47 = [] ∧
    (up.job (127 / 8)).started = false ∧ up.frc R.OUT_MAP_EN 127 = 0 ∧ up.gatesInUse 0 = true ∧ up.gatesInUse 2097151 = false ∧
    kup.on R.SYS_STAT_BOOT_DONE 0 = true ∧ kup.keyOpen = true ∧ kup.feedInUse = fieldOf 0 1 0 ∧
    (fieldOf 1 1 0 = 0 ∨ kup.feedOk kup.feedInUse = true ∨ kup.feedOk (1 - kup.feedInUse) = false) ∧ kup.reducedDeclared = false ∧
    kup.bridgeNamed 15 = false ∧ kb.on R.SYS_STAT_BOOT_DONE 0 = true ∧ kb.keyOpen = true ∧ kb.feedInUse ≠ fieldOf 0 1 1 ∧
    kb.feedOk (fieldOf 0 1 1) = true ∧ kb.on R.FEED_STAT_MOVING 0 = false ∧ kb.feedInUse = fieldOf 0 1 2 ∧ fieldOf 1 1 2 = 1 ∧
    kb.feedOk kb.feedInUse = false ∧ kb.feedOk (1 - kb.feedInUse) = true ∧ named.on R.SYS_STAT_BOOT_DONE 0 = true ∧ named.keyOpen = true ∧
    named.reducedDeclared = true ∧ named.bridgeNamed 15 = true ∧ bnd.on R.SYS_STAT_BOOT_DONE 0 = true ∧ bnd.boundJobs 47 ≠ [] ∧
    jbs.on R.SYS_STAT_BOOT_DONE 0 = true ∧ (jbs.job (127 / 8)).started = true := by decide +kernel

end WConfigurationWrites

namespace WDataWindowReads

def e := (up.wr R.PWR_STAT_EAST_ON 0 1).wr (sidebandFld 1) 0 1
def dw := ((((((e.wr R.MESH_TBL_ADDR_AINC 3 1).wr R.TCAL_ADDR_AINC 4095 1).wr R.RING_ADDR_AINC 0 1).wr R.TEMP_ADDR_AINC 0 1).wr R.PT_ADDR_AINC 0 1).wr R.NV_RAW_ADDR_AINC 0 1).wr R.SINE_TBL_ADDR_AINC 0 1
def x1 := e.wr R.CLK_EN_AOUT 0 1

theorem wit_DataWindowReads :
    up.on R.SYS_STAT_BOOT_DONE 0 = true ∧ up.on R.MESH_TBL_ADDR_AINC 0 = false ∧ up.on R.RING_ADDR_AINC 0 = false ∧
    up.on R.TEMP_ADDR_AINC 0 = false ∧ up.on R.PT_ADDR_AINC 0 = false ∧ up.nvRun = none ∧ up.on R.NV_RAW_ADDR_AINC 0 = false ∧
    up.on R.CLK_EN_AOUT 0 = true ∧ up.on R.SINE_TBL_ADDR_AINC 0 = false ∧ x1.on R.SYS_STAT_BOOT_DONE 0 = true ∧
    x1.halfReached (halfOfTile 4095) = true ∧ x1.on R.TCAL_ADDR_AINC 4095 = false ∧ dw.on R.SYS_STAT_BOOT_DONE 0 = true ∧
    dw.on R.MESH_TBL_ADDR_AINC 3 = true ∧ dw.halfReached (halfOfTile 4095) = true ∧ dw.on R.TCAL_ADDR_AINC 4095 = true ∧
    dw.on R.RING_ADDR_AINC 0 = true ∧ dw.on R.TEMP_ADDR_AINC 0 = true ∧ dw.on R.PT_ADDR_AINC 0 = true ∧ dw.nvRun = none ∧
    dw.on R.NV_RAW_ADDR_AINC 0 = true ∧ dw.on R.CLK_EN_AOUT 0 = true ∧ dw.on R.SINE_TBL_ADDR_AINC 0 = true := by decide +kernel

end WDataWindowReads

namespace WArraysAndDataWindowsAreWritten

def e := (up.wr R.PWR_STAT_EAST_ON 0 1).wr (sidebandFld 1) 0 1
def m (area bank ix : Nat) : State := ((up.wr R.MESH_TBL_ADDR_AREA 3 area).wr R.MESH_TBL_ADDR_BANK 3 bank).wr R.MESH_TBL_ADDR_INDEX 3 ix
def t (s : State) (bank ix : Nat) : State := (s.wr R.TCAL_ADDR_BANK 4095 bank).wr R.TCAL_ADDR_INDEX 4095 ix
def x1 := up.wr R.NV_STAT_LEVEL 0 1
def x2 := m 2 1 2047
def x5 := t e 1 275
def x6 := t e 0 0

theorem wit_ArraysAndDataWindowsAreWritten :
    up.on R.SYS_STAT_BOOT_DONE 0 = true ∧ up.nvProtected (4 * 49152) = false ∧ up.nvRun = none ∧ x1.on R.SYS_STAT_BOOT_DONE 0 = true ∧
    x1.nvProtected (4 * 49152) = true ∧
    (up.rd R.MESH_TBL_ADDR_BANK 0 = up.meshBank 0 ∨ areaSize (up.rd R.MESH_TBL_ADDR_AREA 0) ≤ up.rd R.MESH_TBL_ADDR_INDEX 0) ∧
    up.on R.RING_ADDR_AINC 0 = false ∧ up.on R.TEMP_ADDR_AINC 0 = false ∧ up.on R.CLK_EN_AOUT 0 = true ∧ x2.on R.SYS_STAT_BOOT_DONE 0 = true ∧
    x2.rd R.MESH_TBL_ADDR_BANK 3 ≠ x2.meshBank 3 ∧ x2.rd R.MESH_TBL_ADDR_INDEX 3 < areaSize (x2.rd R.MESH_TBL_ADDR_AREA 3) ∧
    1 &&& ~~~meshEntryMask (x2.rd R.MESH_TBL_ADDR_AREA 3) = 0 ∧
    x2.meshTblAt 3 (x2.rd R.MESH_TBL_ADDR_BANK 3) (x2.rd R.MESH_TBL_ADDR_AREA 3) (x2.rd R.MESH_TBL_ADDR_INDEX 3) &&&
        ~~~meshEntryMask (x2.rd R.MESH_TBL_ADDR_AREA 3) =
      0 ∧
    x5.on R.SYS_STAT_BOOT_DONE 0 = true ∧ x5.halfReached (halfOfTile 4095) = true ∧ x5.rd R.TCAL_ADDR_BANK 4095 ≠ x5.bankOf 4095 ∧
    x5.rd R.TCAL_ADDR_INDEX 4095 < 276 ∧ x5.rd R.TCAL_STAT_TABLE 4095 = tbServing ∧ x6.on R.SYS_STAT_BOOT_DONE 0 = true ∧
    x6.halfReached (halfOfTile 4095) = true ∧
    (x6.rd R.TCAL_ADDR_BANK 4095 = x6.bankOf 4095 ∨ 282 ≤ x6.rd R.TCAL_ADDR_INDEX 4095 ∨ x6.rd R.TCAL_STAT_TABLE 4095 ≠ tbServing) := by decide +kernel

end WArraysAndDataWindowsAreWritten

namespace WReceivePortsRest

def ulp := rx.wr R.RX_STAT_ULPS 11 1

theorem wit_ReceivePortsRest :
    up.rxOn 11 = false ∧ rx.rxOn 11 = true ∧ rx.on R.RX_STAT_ULPS 11 = false ∧ ulp.rxOn 11 = true ∧ ulp.on R.RX_STAT_ULPS 11 = true := by decide +kernel

end WReceivePortsRest

namespace WReceivedShortPackets

def ln1 := frcSet rx R.STREAM_CFG_LINE_NUM 47 1

theorem wit_ReceivedShortPackets :
    rx.rxOn 11 = true ∧ (rx.ing (4 * 11 + 3)).pendingLine = none ∧ rx.lineNum (4 * 11 + 3) = false ∧ ln1.rxOn 11 = true ∧
    (ln1.ing (4 * 11 + 3)).pendingLine = none ∧ ln1.frc R.STREAM_CFG_EN (4 * 11 + 3) ≠ 0 ∧ ln1.lineNum (4 * 11 + 3) = true ∧
    (∀ (e : Nat), (ln1.ing (4 * 11 + 3)).expected = some e → 9 ≤ e) := by decide +kernel

end WReceivedShortPackets

namespace WLinesFormBatches

def one := (withJob rx 0 id).putBind 0 47 { Bind.none with bound := true }
def most := (withJob rx 0 id).putBind 0 47 { Bind.none with bound := true, lines := List.replicate 63 ⟨0, 0, ⟨0, 0⟩, [], false⟩, next := 63 }
def pxs := List.replicate (rx.width 47) 7

theorem wit_LinesFormBatches :
    one.rxOn 11 = true ∧ one.frc R.STREAM_CFG_EN (4 * 11 + 3) ≠ 0 ∧ one.lineNum (4 * 11 + 3) = false ∧ (¬(16 ≤ 42 ∧ 42 ≤ 18)) ∧
    42 = one.dtypeOf (4 * 11 + 3) ∧ one.boundJobs (4 * 11 + 3) = [top (one.boundJobs (4 * 11 + 3))] ∧
    (one.bind (top (one.boundJobs (4 * 11 + 3))) (4 * 11 + 3)).resume = false ∧
    (one.bind (top (one.boundJobs (4 * 11 + 3))) (4 * 11 + 3)).lostBatch = none ∧ (one.job (top (one.boundJobs (4 * 11 + 3)))).fenced = false ∧
    (one.job (top (one.boundJobs (4 * 11 + 3)))).waiting = false ∧
    (one.job (top (one.boundJobs (4 * 11 + 3)))).holds = { grade := false, bell := false, tile := false, mesh := false } ∧ one.halt = false ∧
    pxs.length = one.width (4 * 11 + 3) ∧ (one.bind (top (one.boundJobs (4 * 11 + 3))) (4 * 11 + 3)).lines.length < 63 ∧
    (¬(16 ≤ 43 ∧ 43 ≤ 18)) ∧ 43 ≠ one.dtypeOf (4 * 11 + 3) ∧ most.rxOn 11 = true := by decide +kernel

theorem wit_LinesFormBatches_2 :
    most.frc R.STREAM_CFG_EN (4 * 11 + 3) ≠ 0 ∧ most.lineNum (4 * 11 + 3) = false ∧ 42 = most.dtypeOf (4 * 11 + 3) ∧
    most.boundJobs (4 * 11 + 3) = [top (most.boundJobs (4 * 11 + 3))] ∧
    (most.bind (top (most.boundJobs (4 * 11 + 3))) (4 * 11 + 3)).resume = false ∧
    (most.bind (top (most.boundJobs (4 * 11 + 3))) (4 * 11 + 3)).lostBatch = none ∧
    (most.job (top (most.boundJobs (4 * 11 + 3)))).fenced = false ∧ (most.job (top (most.boundJobs (4 * 11 + 3)))).waiting = false ∧
    (most.job (top (most.boundJobs (4 * 11 + 3)))).holds = { grade := false, bell := false, tile := false, mesh := false } ∧ most.halt = false ∧
    pxs.length = most.width (4 * 11 + 3) ∧ (most.bind (top (most.boundJobs (4 * 11 + 3))) (4 * 11 + 3)).lines.length = 63 ∧ rx.rxOn 11 = true ∧
    rx.frc R.STREAM_CFG_EN (4 * 11 + 3) ≠ 0 ∧ rx.lineNum (4 * 11 + 3) = false ∧ 42 = rx.dtypeOf (4 * 11 + 3) ∧ rx.boundJobs (4 * 11 + 3) = [] := by decide +kernel

end WLinesFormBatches

namespace WRecordsAndTransmitTimers

def open1 : State := up.putChan 3 15 { Chan.reset with open_ := true }
def fresh : State := up.putChan 3 15 { Chan.reset with open_ := true, at_ := up.now }
def onn := (frcSet (frcSet up R.TX_CFG_DESKEW_MS 3 1) R.TX_CFG_EN 3 1).wr R.CLK_EN_TX 0 15
def onn2 := onn.putTx 3 { TxPort.reset with skewAt := up.now }
def ul := frcSet up R.TX_CFG_ULPS_IDLE 3 1
def ul2 := (frcSet up R.TX_CFG_ULPS_IDLE 3 1).putTx 3 { TxPort.reset with idleAt := up.now }
def per0 := up.wr R.REC_PERIOD_PERIOD_MS 0 0

theorem wit_RecordsAndTransmitTimers :
    up.rd R.REC_PERIOD_PERIOD_MS 0 ≠ 0 ∧ up.passed up.time.statusAt (msec * up.rd R.REC_PERIOD_PERIOD_MS 0) = true ∧
    (per0.rd R.REC_PERIOD_PERIOD_MS 0 = 0 ∨ per0.passed per0.time.statusAt (msec * per0.rd R.REC_PERIOD_PERIOD_MS 0) = false) ∧
    (open1.chan 3 15).open_ = true ∧ open1.passed (open1.chan 3 15).at_ (usec * (open1.frameLimits 3 15).2) = true ∧
    (∀ r ∈ open1.recQ, r.port = 3 → r.vc ≠ 15) ∧ (∀ n < 128, (open1.out n).queue = []) ∧ (fresh.chan 3 15).open_ = true ∧
    fresh.passed (fresh.chan 3 15).at_ (usec * (fresh.frameLimits 3 15).2) = false ∧ onn.frc R.TX_CFG_DESKEW_MS 3 ≠ 0 ∧ onn.txClock 3 = true ∧
    onn.txResults 3 = true ∧ onn.passed (onn.txp 3).skewAt (msec * onn.frc R.TX_CFG_DESKEW_MS 3) = true ∧
    (onn2.frc R.TX_CFG_DESKEW_MS 3 = 0 ∨ onn2.passed (onn2.txp 3).skewAt (msec * onn2.frc R.TX_CFG_DESKEW_MS 3) = false) ∧
    ul.frc R.TX_CFG_ULPS_IDLE 3 ≠ 0 ∧ ul.txBusy 3 = false ∧ ul.passed (ul.txp 3).idleAt msec = true ∧ ul2.frc R.TX_CFG_ULPS_IDLE 3 ≠ 0 ∧
    ul2.txBusy 3 = false ∧ ul2.passed (ul2.txp 3).idleAt msec = false := by decide +kernel

end WRecordsAndTransmitTimers

namespace WTransmitPortSends

def lk := (up.wr R.CLK_EN_TX 0 15).wr R.CLK_STAT_LOCKED 0 0xFF
def rr := lk.setRecQ [⟨3, 0, ⟨0x30, true, []⟩⟩]
def oo := (frcSet (frcSet (frcSet lk R.TX_CFG_EN 3 1) R.OUT_MAP_EN 127 1) R.OUT_MAP_PORT 127 3).putOut 127 { OutStream.reset with queue := [⟨0x30, true, []⟩] }
def x1 := lk.wr R.CLK_EN_TX 0 7

theorem wit_TransmitPortSends :
    lk.txClock 3 = true ∧ lk.rd R.CLK_STAT_LOCKED 0 / 2 ^ (4 + 3) % 2 = 1 ∧ lk.nextRecord 3 = none ∧ lk.readyOuts 3 = [] ∧ rr.txClock 3 = true ∧
    rr.rd R.CLK_STAT_LOCKED 0 / 2 ^ (4 + 3) % 2 = 1 ∧ (rr.nextRecord 3).isSome = true ∧ oo.txClock 3 = true ∧
    oo.rd R.CLK_STAT_LOCKED 0 / 2 ^ (4 + 3) % 2 = 1 ∧ oo.nextRecord 3 = none ∧ oo.readyOuts 3 = [top (oo.readyOuts 3)] ∧
    (oo.out (top (oo.readyOuts 3))).queue =
      top (oo.out (top (oo.readyOuts 3))).queue :: (oo.out (top (oo.readyOuts 3))).queue.tail ∧
    (x1.txClock 3 = false ∨ x1.rd R.CLK_STAT_LOCKED 0 / 2 ^ (4 + 3) % 2 = 0) := by decide +kernel

end WTransmitPortSends

namespace WUnitsTakeByPriority

def okk (h : Held) : Bool := h.place == .unit 0 16
def u1 := held up (.unit 0 16) (tok0 16)

theorem wit_UnitsTakeByPriority :
    (takeNext up 0 0 okk).2 = none ∧ (takeNext u1 0 0 okk).2.isSome = true ∧ (∀ x ∈ u1.fabric, okk x = true → x.tok.job < 16) ∧
    (∃ x ∈ u1.fabric, okk x = true) := by decide +kernel

end WUnitsTakeByPriority

namespace WTokensMoveOnThePitch

def tk := { tok0 16 with dstClu := 1 }
def g5 := held up (.router 0 4 0) { tk with len := 3 }
def g2 := (up.setFabric [hd (.router 0 4 0) tk, hd (nextPlace 0 tk) {tok0 16 with dstClu := 1, tag := 3, len := 128, payload := []}])
def st := up.setFabric [{hd (.unit 255 16) (tok0 16) with stale := true}]
def ar := held up (.arrived 255 16) (tok0 16)
def ar2 := withJob ar 0 fun j => { j with epoch := 1 }

theorem wit_TokensMoveOnThePitch :
    (∀ x ∈ up.fabric, x.outside = false ∧ x.trail = []) ∧ up.requests 0 0 = [] ∧ up.front (Place.arrived 255 16) = none ∧
    (∀ x ∈ g5.fabric, x.outside = false ∧ x.trail = []) ∧ g5.requests 0 1 = [((top (g5.requests 0 1)).1, (top (g5.requests 0 1)).2)] ∧
    g5.roomAt (nextPlace 0 (top (g5.requests 0 1)).2.tok) (top (g5.requests 0 1)).2.tok = true ∧
    (top (g5.requests 0 1)).2.here = (top (g5.requests 0 1)).2.tok.transfers ∧
    (top (g5.requests 0 1)).2.tok.transfers ≤ g5.roomBeside (top (g5.requests 0 1)).2 (nextPlace 0 (top (g5.requests 0 1)).2.tok) ∧
    (∀ x ∈ g2.fabric, x.outside = false ∧ x.trail = []) ∧ g2.requests 0 1 = [((top (g2.requests 0 1)).1, (top (g2.requests 0 1)).2)] ∧
    g2.roomAt (nextPlace 0 (top (g2.requests 0 1)).2.tok) (top (g2.requests 0 1)).2.tok = false ∧
    (∀ x ∈ st.fabric, x.outside = false ∧ x.trail = []) ∧ (st.front (Place.unit 255 16)).isSome = true ∧
    (got (st.front (Place.unit 255 16))).stale = true ∧ ((Place.unit 255 16).cluster).isSome = true ∧ got (Place.unit 255 16).cluster < 256 ∧
    (∀ x ∈ ar.fabric, x.outside = false ∧ x.trail = []) := by decide +kernel

theorem wit_TokensMoveOnThePitch_2 :
    (ar.front (Place.arrived 255 16)).isSome = true ∧ (got (ar.front (Place.arrived 255 16))).stale = false ∧
    (got (ar.front (Place.arrived 255 16))).tok.kind < 8 ∧ (got (ar.front (Place.arrived 255 16))).tok.dstUnit < 20 ∧
    (got (ar.front (Place.arrived 255 16))).tok.stream < 48 ∧ (got (ar.front (Place.arrived 255 16))).tok.len ≤ 128 ∧
    (got (ar.front (Place.arrived 255 16))).tok.epoch = (ar.job (got (ar.front (Place.arrived 255 16))).tok.job).epoch ∧
    (got (ar.front (Place.arrived 255 16))).tok.gen ∈ ar.liveGens (got (ar.front (Place.arrived 255 16))).tok.job ∧
    (16 = 16 → (got (ar.front (Place.arrived 255 16))).tok.kind ≠ 1) ∧ (∀ x ∈ ar2.fabric, x.outside = false ∧ x.trail = []) ∧
    (ar2.front (Place.arrived 255 16)).isSome = true ∧ (got (ar2.front (Place.arrived 255 16))).tok.kind < 8 ∧
    (got (ar2.front (Place.arrived 255 16))).tok.dstUnit < 20 ∧ (got (ar2.front (Place.arrived 255 16))).tok.stream < 48 ∧
    (got (ar2.front (Place.arrived 255 16))).tok.len ≤ 128 ∧
    ((got (ar2.front (Place.arrived 255 16))).stale = true ∨
      (got (ar2.front (Place.arrived 255 16))).tok.epoch ≠ (ar2.job (got (ar2.front (Place.arrived 255 16))).tok.job).epoch) := by decide +kernel

end WTokensMoveOnThePitch

namespace WHubDispatchesBatches

def sec0 : Section := { Section.none with paths := [path0 0], inputs := [input0] }
def cut0 := (withJob up 0 fun j => { j with sec := sec0, hdr := { j.hdr with tagQuota := 1 } }).setBatches [batch0]

theorem wit_HubDispatchesBatches :
    List.filter (up.hasWork 0) jobNums = [] ∧ List.filter (cut0.hasWork 0) jobNums = [top (List.filter (cut0.hasWork 0) jobNums)] ∧
    (cut0.nextBatch (top (List.filter (cut0.hasWork 0) jobNums))).isSome = true ∧
    (got (cut0.nextBatch (top (List.filter (cut0.hasWork 0) jobNums)))).started = false := by decide +kernel

end WHubDispatchesBatches

namespace WTileProducts

def ts := (up.wr R.TCAL_STAT_SVC 4095 svcService).wr R.CAL_THRESH_THRESH 0 80
def th := (held ts (.unit 255 15) { tok0 15 with kind := 1 }).putTile 4095 { TileRec.reset with cur := some (tok0 15).batchKey }
def te := withJob th 0 fun j => { j with epoch := 1 }
def tf := ts.wr R.TCAL_STAT_SVC 4095 svcFree
def tp := frcSet ts R.TILE_CFG_SLICE 4095 2
def tpj := withJob tp 3 fun j => { j with placed := [⟨0, 4095, false, 0, false, none, none, false, [], false⟩] }

theorem wit_TileProducts :
    ts.estDue 4095 = false ∧ ts.hw (ts.baseOf 4095) = none ∧ ts.rd R.TCAL_EST_EST 4095 + 5 < ts.thresh ∧ ts.svc 4095 ≠ svcWithdrawn ∧
    ts.pairBad 4095 = false ∧ ts.pairFormed 4095 = false ∧ (∀ x ∈ ts.fabric, x.place ≠ Place.unit (4095 / 16) (4095 % 16)) ∧
    th.estDue 4095 = false ∧ th.hw (th.baseOf 4095) = none ∧ th.rd R.TCAL_EST_EST 4095 + 5 < th.thresh ∧ th.svc 4095 ≠ svcWithdrawn ∧
    th.pairBad 4095 = false ∧ th.pairFormed 4095 = false ∧ th.tileRuns 4095 = true ∧
    (takeNext th (4095 / 16) (4095 % 16) (th.tileTakes 4095 false)).2.isSome = true ∧
    (got (takeNext th (4095 / 16) (4095 % 16) (th.tileTakes 4095 false)).2).tok.epoch =
      (th.job (got (takeNext th (4095 / 16) (4095 % 16) (th.tileTakes 4095 false)).2).tok.job).epoch ∧
    (th.tile 4095).cur = some (got (takeNext th (4095 / 16) (4095 % 16) (th.tileTakes 4095 false)).2).tok.batchKey ∧
    th.sliceNear (4095 - 4095 % 2) (got (takeNext th (4095 / 16) (4095 % 16) (th.tileTakes 4095 false)).2).tok.batchKey = false ∧
    th.sliceNear (4095 - 4095 % 2 + 1) (got (takeNext th (4095 / 16) (4095 % 16) (th.tileTakes 4095 false)).2).tok.batchKey = false ∧
    (∀ (p : Placed),
      th.placedAt 4095 (got (takeNext th (4095 / 16) (4095 % 16) (th.tileTakes 4095 false)).2).tok = some p →
        th.isSubst (got (takeNext th (4095 / 16) (4095 % 16) (th.tileTakes 4095 false)).2).tok.job p = false) ∧
    te.estDue 4095 = false := by decide +kernel

theorem wit_TileProducts_2 :
    te.hw (te.baseOf 4095) = none ∧ te.rd R.TCAL_EST_EST 4095 + 5 < te.thresh ∧ te.svc 4095 ≠ svcWithdrawn ∧ te.pairBad 4095 = false ∧
    te.pairFormed 4095 = false ∧ te.tileRuns 4095 = true ∧ (takeNext te (4095 / 16) (4095 % 16) (te.tileTakes 4095 false)).2.isSome = true ∧
    (got (takeNext te (4095 / 16) (4095 % 16) (te.tileTakes 4095 false)).2).tok.epoch ≠
      (te.job (got (takeNext te (4095 / 16) (4095 % 16) (te.tileTakes 4095 false)).2).tok.job).epoch ∧
    tf.estDue 4095 = false ∧ tf.hw (tf.baseOf 4095) = none ∧ tf.rd R.TCAL_EST_EST 4095 + 5 < tf.thresh ∧ tf.svc 4095 ≠ svcWithdrawn ∧
    tf.pairBad 4095 = false ∧ tf.pairFormed 4095 = false ∧ tf.tileRuns 4095 = false ∧ tpj.estDue 4095 = false ∧
    tpj.hw (tpj.baseOf 4095) = none ∧ tpj.rd R.TCAL_EST_EST 4095 + 5 < tpj.thresh ∧ tpj.svc 4095 ≠ svcWithdrawn ∧ tpj.pairBad 4095 = true := by decide +kernel

end WTileProducts

theorem wit_ColumnArithmetic : (finishColumn (32767 * 2 ^ 36) 0).2 = false ∧ (finishColumn (32768 * 2 ^ 36) 0).2 = true ∧
    (satSum 8388352).2 = false := by decide +kernel

namespace WReductionSlots

def wo (s : State) (o : OperSpec) : State := withJob s 0 fun j => { j with sec := { j.sec with opers := [o] } }
def rt : Route := ⟨5, 7, 16, 1, 0, 0, 0⟩
def ro := { relu0 with clu := 255, routes := [rt] }
def so := held (wo up relu0) (.unit 255 17) { tok0 17 with kind := 1 }
def so2 := withJob so 0 fun j => { j with epoch := 1, sec := { j.sec with opers := [relu0] } }
def pq (o : OperSpec) (n c : Nat) : State := (held (wo up o) (.unit 255 16) { tok0 16 with kind := 2, npart := n }).setSlots [⟨255, 0, 0, 0, 0, [3], c, 2, Flags.none, tok0 16⟩]
def pe := withJob (pq ro 2 2) 0 fun j => { j with epoch := 1, sec := { j.sec with opers := [ro] } }
def x1 := pq ro 2 0
def x2 := pq ro 2 2
def x3 := pq ro 2 3

theorem wit_ReductionSlots :
    (takeKind up 255 17 (up.dmaReady 255) (up.slotReady 255)).2 = none ∧
    (takeKind up 255 16 (up.vecUnitReady 255) (partialReady 255)).2 = none ∧
    (takeKind so 255 17 (so.dmaReady 255) (so.slotReady 255)).2.isSome = true ∧
    (got (takeKind so 255 17 (so.dmaReady 255) (so.slotReady 255)).2).tok.epoch =
      (so.job (got (takeKind so 255 17 (so.dmaReady 255) (so.slotReady 255)).2).tok.job).epoch ∧
    (takeKind so2 255 17 (so2.dmaReady 255) (so2.slotReady 255)).2.isSome = true ∧
    (got (takeKind so2 255 17 (so2.dmaReady 255) (so2.slotReady 255)).2).tok.epoch ≠
      (so2.job (got (takeKind so2 255 17 (so2.dmaReady 255) (so2.slotReady 255)).2).tok.job).epoch ∧
    (takeKind x1 255 16 (x1.vecUnitReady 255) (partialReady 255)).2.isSome = true ∧
    (got (takeKind x1 255 16 (x1.vecUnitReady 255) (partialReady 255)).2).tok.epoch =
      (x1.job (got (takeKind x1 255 16 (x1.vecUnitReady 255) (partialReady 255)).2).tok.job).epoch ∧
    (List.find? (fun (y : RedSlot) => y.takes 255 (got (takeKind x1 255 16 (x1.vecUnitReady 255) (partialReady 255)).2).tok) x1.slots).isSome = true ∧
    (got
            (List.find? (fun (y : RedSlot) => y.takes 255 (got (takeKind x1 255 16 (x1.vecUnitReady 255) (partialReady 255)).2).tok)
              x1.slots)).count +
        1 <
      (got (takeKind x1 255 16 (x1.vecUnitReady 255) (partialReady 255)).2).tok.npart + 1 ∧
    (takeKind x2 255 16 (x2.vecUnitReady 255) (partialReady 255)).2.isSome = true ∧
    (got (takeKind x2 255 16 (x2.vecUnitReady 255) (partialReady 255)).2).tok.epoch =
      (x2.job (got (takeKind x2 255 16 (x2.vecUnitReady 255) (partialReady 255)).2).tok.job).epoch ∧
    (List.find? (fun (y : RedSlot) => y.takes 255 (got (takeKind x2 255 16 (x2.vecUnitReady 255) (partialReady 255)).2).tok) x2.slots).isSome = true ∧
    (got
          (List.find? (fun (y : RedSlot) => y.takes 255 (got (takeKind x2 255 16 (x2.vecUnitReady 255) (partialReady 255)).2).tok)
            x2.slots)).count =
      (got (takeKind x2 255 16 (x2.vecUnitReady 255) (partialReady 255)).2).tok.npart ∧
    (x2.operOf (got (takeKind x2 255 16 (x2.vecUnitReady 255) (partialReady 255)).2).tok).isSome = true ∧
    (got (x2.operOf (got (takeKind x2 255 16 (x2.vecUnitReady 255) (partialReady 255)).2).tok)).routes =
      [top (got (x2.operOf (got (takeKind x2 255 16 (x2.vecUnitReady 255) (partialReady 255)).2).tok)).routes] ∧
    16 ≤ (top (got (x2.operOf (got (takeKind x2 255 16 (x2.vecUnitReady 255) (partialReady 255)).2).tok)).routes).unit ∧
    (top (got (x2.operOf (got (takeKind x2 255 16 (x2.vecUnitReady 255) (partialReady 255)).2).tok)).routes).unit ≠ 19 ∧
    (takeKind x3 255 16 (x3.vecUnitReady 255) (partialReady 255)).2.isSome = true ∧
    (got (takeKind x3 255 16 (x3.vecUnitReady 255) (partialReady 255)).2).tok.epoch =
      (x3.job (got (takeKind x3 255 16 (x3.vecUnitReady 255) (partialReady 255)).2).tok.job).epoch ∧
    (List.find? (fun (y : RedSlot) => y.takes 255 (got (takeKind x3 255 16 (x3.vecUnitReady 255) (partialReady 255)).2).tok) x3.slots =
        none ∨
      ∃ (x : RedSlot),
        List.find? (fun (y : RedSlot) => y.takes 255 (got (takeKind x3 255 16 (x3.vecUnitReady 255) (partialReady 255)).2).tok) x3.slots =
            some x ∧
          (got (takeKind x3 255 16 (x3.vecUnitReady 255) (partialReady 255)).2).tok.npart < x.count) ∧
    (takeKind pe 255 16 (pe.vecUnitReady 255) (partialReady 255)).2.isSome = true ∧
    (got (takeKind pe 255 16 (pe.vecUnitReady 255) (partialReady 255)).2).tok.epoch ≠
      (pe.job (got (takeKind pe 255 16 (pe.vecUnitReady 255) (partialReady 255)).2).tok.job).epoch := by decide +kernel

end WReductionSlots

namespace WVectorUnits

def wo (s : State) (o : OperSpec) : State := withJob s 0 fun j => { j with sec := { j.sec with opers := [o] } }
def rt : Route := ⟨5, 7, 16, 1, 0, 0, 0⟩
def ro := { relu0 with clu := 255, routes := [rt] }
def vk := { tok0 16 with kind := 4 }
def v0 := held (wo up relu0) (.unit 255 16) vk
def v1 := held (wo up ro) (.unit 255 16) vk
def ve := withJob v0 0 fun j => { j with epoch := 1, sec := { j.sec with opers := [relu0] } }
def sto := { relu0 with kind := .state }
def vt := (held (wo up sto) (.unit 255 16) vk).setBatches [{ batch0 with started := true }]
def x1 := { relu0 with kind := .elemSum }

theorem wit_VectorUnits :
    (takeKind up 255 16 (up.vecUnitReady 255) (up.vectorReady 255)).2 = none ∧
    (takeKind v0 255 16 (v0.vecUnitReady 255) (v0.vectorReady 255)).2.isSome = true ∧ (∀ x ∈ v0.fabric, x.outside = false ∧ x.trail = []) ∧
    (got (takeKind v0 255 16 (v0.vecUnitReady 255) (v0.vectorReady 255)).2).tok.epoch =
      (v0.job (got (takeKind v0 255 16 (v0.vecUnitReady 255) (v0.vectorReady 255)).2).tok.job).epoch ∧
    (got (takeKind v0 255 16 (v0.vecUnitReady 255) (v0.vectorReady 255)).2).tok.kind ≠ 0 ∧
    (v0.operOf (got (takeKind v0 255 16 (v0.vecUnitReady 255) (v0.vectorReady 255)).2).tok).isSome = true ∧
    (got (v0.operOf (got (takeKind v0 255 16 (v0.vecUnitReady 255) (v0.vectorReady 255)).2).tok)).kind.onTiles = false ∧
    (got (v0.operOf (got (takeKind v0 255 16 (v0.vecUnitReady 255) (v0.vectorReady 255)).2).tok)).kind ≠ OperKind.mix64 ∧
    (got (v0.operOf (got (takeKind v0 255 16 (v0.vecUnitReady 255) (v0.vectorReady 255)).2).tok)).kind.binary = false ∧
    (got (v0.operOf (got (takeKind v0 255 16 (v0.vecUnitReady 255) (v0.vectorReady 255)).2).tok)).routes = [] ∧
    (takeKind v1 255 16 (v1.vecUnitReady 255) (v1.vectorReady 255)).2.isSome = true ∧
    (got (takeKind v1 255 16 (v1.vecUnitReady 255) (v1.vectorReady 255)).2).tok.epoch =
      (v1.job (got (takeKind v1 255 16 (v1.vecUnitReady 255) (v1.vectorReady 255)).2).tok.job).epoch ∧
    (got (takeKind v1 255 16 (v1.vecUnitReady 255) (v1.vectorReady 255)).2).tok.kind ≠ 0 ∧
    (v1.operOf (got (takeKind v1 255 16 (v1.vecUnitReady 255) (v1.vectorReady 255)).2).tok).isSome = true ∧
    (got (v1.operOf (got (takeKind v1 255 16 (v1.vecUnitReady 255) (v1.vectorReady 255)).2).tok)).kind.onTiles = false ∧
    (got (v1.operOf (got (takeKind v1 255 16 (v1.vecUnitReady 255) (v1.vectorReady 255)).2).tok)).kind ≠ OperKind.mix64 ∧
    (got (v1.operOf (got (takeKind v1 255 16 (v1.vecUnitReady 255) (v1.vectorReady 255)).2).tok)).kind.binary = false := by decide +kernel

theorem wit_VectorUnits_2 :
    (got (v1.operOf (got (takeKind v1 255 16 (v1.vecUnitReady 255) (v1.vectorReady 255)).2).tok)).routes =
      [top (got (v1.operOf (got (takeKind v1 255 16 (v1.vecUnitReady 255) (v1.vectorReady 255)).2).tok)).routes] ∧
    16 ≤ (top (got (v1.operOf (got (takeKind v1 255 16 (v1.vecUnitReady 255) (v1.vectorReady 255)).2).tok)).routes).unit ∧
    (top (got (v1.operOf (got (takeKind v1 255 16 (v1.vecUnitReady 255) (v1.vectorReady 255)).2).tok)).routes).unit ≠ 19 ∧
    (takeKind ve 255 16 (ve.vecUnitReady 255) (ve.vectorReady 255)).2.isSome = true ∧
    (got (takeKind ve 255 16 (ve.vecUnitReady 255) (ve.vectorReady 255)).2).tok.epoch ≠
      (ve.job (got (takeKind ve 255 16 (ve.vecUnitReady 255) (ve.vectorReady 255)).2).tok.job).epoch ∧
    relu0.kind = OperKind.relu ∧ relu0.inFmt = ElemFmt.int16 ∧ relu0.fmt = ElemFmt.int16 ∧
    (∀ x ∈ [-32767, 32767, -5, 0], -32767 ≤ x ∧ x ≤ 32767) ∧ x1.kind = OperKind.elemSum ∧ x1.inFmt = ElemFmt.int16 ∧ x1.fmt = ElemFmt.int16 ∧
    (takeKind up 255 16 (up.vecUnitReady 255) (up.stateReady 255)).2 = none ∧
    (takeKind vt 255 16 (vt.vecUnitReady 255) (vt.stateReady 255)).2.isSome = true ∧
    (got (takeKind vt 255 16 (vt.vecUnitReady 255) (vt.stateReady 255)).2).tok.epoch =
      (vt.job (got (takeKind vt 255 16 (vt.vecUnitReady 255) (vt.stateReady 255)).2).tok.job).epoch ∧
    (vt.operOf (got (takeKind vt 255 16 (vt.vecUnitReady 255) (vt.stateReady 255)).2).tok).isSome = true ∧
    (vt.batchOf (got (takeKind vt 255 16 (vt.vecUnitReady 255) (vt.stateReady 255)).2).tok).isSome = true := by decide +kernel

end WVectorUnits

namespace WJobAddressesAreTranslated

def xl := (up.putPte 15 4095 ⟨3071, true, true, true, false⟩).putPte 15 0 ⟨0xDFF, true, true, true, false⟩

theorem wit_JobAddressesAreTranslated :
    (∀ e ∈ up.xlates, e.clu = 255 → e.job = 255 → e.ix ≠ 255) ∧ up.translate 255 15 255 true = none ∧ up.translate 255 15 255 false = none ∧
    xl.translate 255 15 255 true = some ((got (xl.translate 255 15 255 true)).1, (got (xl.translate 255 15 255 true)).2) ∧
    3072 ≤ (got (xl.translate 255 15 255 true)).1 ∧
    xl.translate 255 15 268435455 true =
      some ((got (xl.translate 255 15 268435455 true)).1, (got (xl.translate 255 15 268435455 true)).2) ∧
    (got (xl.translate 255 15 268435455 true)).1 < 3072 := by decide +kernel

end WJobAddressesAreTranslated

namespace WPlantInputs

def key (s : State) : State := s.wr R.SYS_STAT_KEY_OPEN 0 1
def ai := ((frcSet up R.AIN_CFG_MODE 15 1).wr R.CLK_EN_AIN 0 1).wr R.CLK_STAT_LOCKED 0 0xFF
def aic := ai.wr R.AIN_CMP 15 0x3000
def aof := frcSet ai R.AIN_CFG_MODE 15 3
def agt := ai.wr R.CLK_EN_AIN 0 0

theorem wit_PlantInputs :
    ai.ainOn = true ∧ ai.loopLocked 3 = true ∧ ai.ainMode 15 ≠ 0 ∧
    (bitOf (ai.word (R.AIN_CMP.key 15 0)) (if true = true then 12 else 13) = false ∨
      (if true = true then (ai.ain 15).armRise else (ai.ain 15).armFall) = false) ∧
    aic.ainMode 15 ≠ 0 ∧ aic.ainOn = true ∧ (bitOf (aic.word (R.AIN_CMP.key 15 0)) (if true = true then 12 else 13) = true) ∧
    ((if true = true then (aic.ain 15).armRise else (aic.ain 15).armFall) = true) ∧ aof.ainOn = true ∧ aof.loopLocked 3 = true ∧
    aof.ainMode 15 = 0 ∧ (aof.ainMode 15 = 0 ∨ aof.ainOn = false) ∧ (agt.ainOn = false ∨ agt.loopLocked 3 = false) := by decide +kernel

end WPlantInputs

namespace WPlantOutputs

def l := up.wr R.CLK_STAT_LOCKED 0 0xFF
def on1 := (l.wr R.CLK_EN_AOUT 0 1).wr R.PLANT_STAT_CLEARED 0 0
def si := frcSet on1 R.AOUT_CFG_SINE_EN 7 1
def eo := frcSet (frcSet on1 R.AOUT_CFG_EN 7 1) R.AOUT_CFG_SPAN 7 4
def hh := up.putAout 7 { AoutRec.reset with holdTo := some 65535 }
def per := (on1.wr R.AOUT_LOAD_CFG_PERIOD_US 0 1).setTime { up.time with count := 5000 }
def x2 := up.wr R.AOUT_LOAD_CFG_PAD_EN 0 1
def x4 := on1.wr R.PWR_STAT_STATE 0 3

theorem wit_PlantOutputs :
    up.loopLocked 3 = false ∧ up.on R.AOUT_LOAD_CFG_PAD_EN 0 = false ∧
    (1000 * up.rd R.AOUT_LOAD_CFG_PERIOD_US 0 = 0 ∨
      BitVec.toNat up.tb / (1000 * up.rd R.AOUT_LOAD_CFG_PERIOD_US 0) = up.plant.strobeAt / (1000 * up.rd R.AOUT_LOAD_CFG_PERIOD_US 0)) ∧
    ((up.aout 7).holdTo = none ∨ up.passed (up.aout 7).holdAt (usec / 5) = false) ∧
    (up.frc R.AOUT_CFG_SINE_EN 7 = 0 ∨ up.loopLocked 3 = false ∨ up.aoutOn = false) ∧ up.frc R.AOUT_CFG_EN 7 = 0 ∧ up.clearPersists = false ∧
    l.loopLocked 3 = true ∧ si.frc R.AOUT_CFG_SINE_EN 7 ≠ 0 ∧ si.loopLocked 3 = true ∧ si.aoutOn = true ∧ eo.frc R.AOUT_CFG_EN 7 ≠ 0 ∧
    eo.frc R.AOUT_CFG_SPAN 7 = 4 ∧ ((hh.aout 7).holdTo).isSome = true ∧ hh.passed (hh.aout 7).holdAt (usec / 5) = true ∧
    1000 * per.rd R.AOUT_LOAD_CFG_PERIOD_US 0 ≠ 0 ∧
    BitVec.toNat per.tb / (1000 * per.rd R.AOUT_LOAD_CFG_PERIOD_US 0) ≠ per.plant.strobeAt / (1000 * per.rd R.AOUT_LOAD_CFG_PERIOD_US 0) ∧
    x2.on R.AOUT_LOAD_CFG_PAD_EN 0 = true ∧ x4.clearPersists = true := by decide +kernel

end WPlantOutputs

namespace WResultsLeaveInOrder

def k6 := { tok0 16 with kind := 6 }
def sh := held up .hub { k6 with npart := 1 }
def she := withJob sh 0 fun j => { j with epoch := 1 }
def n0 := outOf 0 0
def free0 := (up.wr R.SEAT_CFG n0 0).setArrived [res0]
def f0 := withJob free0 0 fun j => { j with sec := { Section.none with paths := [path0 0] } }
def h0 (t : Nat) := up.putOut 127 { OutStream.reset with held := [(res0, t)] }
def x1 := h0 0
def x2 := h0 up.now

theorem wit_ResultsLeaveInOrder :
    up.front Place.hub = none ∧ (up.nextResult 0 0 0 = none ∨ 512 ≤ (up.out (outOf 0 0)).room) ∧ (up.out 127).held = [] ∧
    (sh.front Place.hub).isSome = true ∧ (got (sh.front Place.hub)).tok.kind = 6 ∧ (got (sh.front Place.hub)).tok.dstUnit < 20 ∧
    (got (sh.front Place.hub)).tok.stream < 48 ∧ (got (sh.front Place.hub)).tok.len ≤ 128 ∧ (got (sh.front Place.hub)).stale = false ∧
    (got (sh.front Place.hub)).tok.epoch = (sh.job (got (sh.front Place.hub)).tok.job).epoch ∧ sh.partsOf (got (sh.front Place.hub)).tok = [] ∧
    1 ≤ (got (sh.front Place.hub)).tok.npart ∧ (she.front Place.hub).isSome = true ∧ (got (she.front Place.hub)).tok.kind = 6 ∧
    (got (she.front Place.hub)).tok.dstUnit < 20 ∧ (got (she.front Place.hub)).tok.stream < 48 ∧ (got (she.front Place.hub)).tok.len ≤ 128 ∧
    ((got (she.front Place.hub)).stale = true ∨
      (got (she.front Place.hub)).tok.epoch ≠ (she.job (got (she.front Place.hub)).tok.job).epoch) ∧
    (f0.nextResult 0 0 0).isSome = true ∧ (f0.out (outOf 0 0)).room < 512 ∧
    (∀ q ∈ (f0.job (got (f0.nextResult 0 0 0)).job).sec.paths, q.path = (got (f0.nextResult 0 0 0)).path → q.mark = none ∧ q.aout = none) ∧
    fieldOf R.SEAT_CFG_WINDOW.lo R.SEAT_CFG_WINDOW.w (f0.word (R.SEAT_CFG.key (outOf 0 0) 0)) = 0 ∧ (f0.out (outOf 0 0)).held = [] ∧
    (∀ b ∈ f0.batches,
      b.job = (got (f0.nextResult 0 0 0)).job →
        b.stream = (got (f0.nextResult 0 0 0)).stream →
          b.k = (got (f0.nextResult 0 0 0)).k → ∃ q ∈ b.paths, q ≠ (got (f0.nextResult 0 0 0)).path) ∧
    (x1.out 127).held = [((top (x1.out 127).held).1, (top (x1.out 127).held).2)] ∧
    x1.passed (top (x1.out 127).held).2 (10 * usec * max 1 (x1.frc R.SEAT_CFG_HOLD 127)) = true ∧
    (x2.out 127).held = [((top (x2.out 127).held).1, (top (x2.out 127).held).2)] ∧
    x2.passed (top (x2.out 127).held).2 (10 * usec * max 1 (x2.frc R.SEAT_CFG_HOLD 127)) = false := by decide +kernel

end WResultsLeaveInOrder

namespace WFaultsFenceTheirJobs

def jj (f : Job → Job) := withJob up 15 f
def p (t : Nat) : Placed := ⟨0, t, false, 0, false, none, none, false, [], false⟩
def gone := (withJob up 15 fun x => { x with placed := [p 4095] }).putHalf 1 { Half.reset with linkLostAt := some 0, sbLostAt := some 0 }
def stl := ((jj id).wr R.SUP_CFG_WATCH_MS 0 1).setTagsHeld [(4095, 15)]
def stl2 := stl.setTagAt [(4095, some 0)]
def tt := held (withJob up 15 fun x => { x with placed := [p 4095] }) (.unit 255 15) (tok0 15)
def tt2 := tt.setFabric [{ hd (.unit 255 15) (tok0 15) with at_ := tt.now }]

theorem wit_FaultsFenceTheirJobs :
    (up.job 15).started = false ∧ up.stalled 15 = false ∧
    (up.front
        (Place.unit ((if up.pairFormed 4095 = true then 4095 - 4095 % 2 else 4095) / 16)
          ((if up.pairFormed 4095 = true then 4095 - 4095 % 2 else 4095) % 16)) =
      none) ∧
    (up.half 1).linkLostAt = none ∧ (up.halfGone 1 = false ∨ (up.half 1).failed = true) ∧ ((gone.half 1).linkLostAt).isSome = true ∧
    gone.halfGone 1 = true ∧ (gone.half 1).failed = false ∧ stl2.stalled 15 = true ∧
    ((tt.front (Place.unit ((if tt.pairFormed 4095 = true then 4095 - 4095 % 2 else 4095) / 16) ((if tt.pairFormed 4095 = true then 4095 - 4095 % 2 else 4095) % 16))).isSome = true) ∧
    (tt.passed
        (got
            (tt.front
              (Place.unit ((if tt.pairFormed 4095 = true then 4095 - 4095 % 2 else 4095) / 16)
                ((if tt.pairFormed 4095 = true then 4095 - 4095 % 2 else 4095) % 16)))).at_
        (2 * usec) =
      true) ∧
    ((tt2.front (Place.unit ((if tt2.pairFormed 4095 = true then 4095 - 4095 % 2 else 4095) / 16) ((if tt2.pairFormed 4095 = true then 4095 - 4095 % 2 else 4095) % 16))).isSome = true) ∧
    (tt2.passed
        (got
            (tt2.front
              (Place.unit ((if tt2.pairFormed 4095 = true then 4095 - 4095 % 2 else 4095) / 16)
                ((if tt2.pairFormed 4095 = true then 4095 - 4095 % 2 else 4095) % 16)))).at_
        (2 * usec) =
      false) := by decide +kernel

end WFaultsFenceTheirJobs

namespace WRestartsProceed

def rst0' : Restart := ⟨fcTile, false, 0, 0, 0, 0, true, false, [.none], false⟩
def rs (f : Restart → Restart) (g : Job → Job) := withJob up 15 fun j => g { j with restart := some (f rst0') }
def ra := rs id id
def rn := rs (fun r => { r with taken := false }) fun j => { j with restartsAt := [up.now, up.now] }
def rd := rs (fun r => { r with advanced := true }) fun j => { j with st := .restarting }

theorem wit_RestartsProceed :
    (up.job 15).restart = none ∧ ((ra.job 15).restart).isSome = true ∧ (ra.dutiesRun = false ∨ (got (ra.job 15).restart).taken = true) ∧
    ra.dutiesRun = true ∧ (got (ra.job 15).restart).taken = true ∧ (got (ra.job 15).restart).advanced = false ∧
    (got (ra.job 15).restart).stop = false ∧ ra.epochReady 15 = true ∧ ra.rd R.WSET_JOB_STAGE 15 ≠ 3 ∧ (∀ x ∈ ra.arrived, x.job ≠ 15) ∧
    (∀ b ∈ ra.batches, b.job ≠ 15) ∧ (∀ t ∈ (ra.job 15).tiles, ra.tileHolding t = false) ∧
    (ra.dutiesRun = false ∨ (got (ra.job 15).restart).taken = false ∨ (got (ra.job 15).restart).advanced = false) ∧
    ((rn.job 15).restart).isSome = true ∧ rn.dutiesRun = true ∧ (got (rn.job 15).restart).taken = false ∧ (rn.job 15).stopping = false ∧
    (List.filter (fun (t : Nat) => !rn.passed t (10000 * msec)) (rn.job 15).restartsAt).length < 3 ∧
    (rn.dutiesRun = false ∨
      (got (rn.job 15).restart).taken = false ∨ (got (rn.job 15).restart).advanced = true ∨ rn.epochReady 15 = false) ∧
    ((rd.job 15).restart).isSome = true ∧ rd.dutiesRun = true ∧ (got (rd.job 15).restart).taken = true ∧
    (got (rd.job 15).restart).advanced = true ∧ (got (rd.job 15).restart).remedies = [Remedy.none] ∧ (rd.job 15).substOn = [] ∧
    (rd.job 15).st = JobState.restarting ∧ (rd.job 15).heldFor = 0 ∧ (rd.job 15).chips = [] := by decide +kernel

end WRestartsProceed

namespace WMeshFailures

def s1 := chip3 msService { Chip.reset with pilots := 63 }
def l2 := chip3 msSettling { Chip.reset with swapped := true }
def on1 := s1.wr R.MESH_STAT_CLK_OK 3 1

theorem wit_MeshFailures :
    s1.meshState 3 ≠ msOut ∧ (s1.meshState 3 ≠ msSettling ∨ (s1.chip 3).swapped = false ∨ s1.passed (s1.chip 3).swapAt (60 * usec) = false) ∧
    s1.on R.MESH_STAT_CLK_OK 3 = false ∧ (s1.clk.optLostAt).isSome = true ∧ s1.passed (got s1.clk.optLostAt) (100 * usec) = true ∧
    l2.meshState 3 ≠ msOut ∧ l2.meshState 3 = msSettling ∧ (l2.chip 3).swapped = true ∧ l2.passed (l2.chip 3).swapAt (60 * usec) = true ∧
    on1.meshState 3 ≠ msOut ∧ on1.on R.MESH_STAT_CLK_OK 3 = true ∧ on1.meshState 3 = msService ∧ (on1.chip 3).order = [] ∧
    on1.on R.FEED_STAT_MOVING 0 = false ∧ 64 ≤ (on1.chip 3).pilots + 1 ∧ on1.dutiesRun = true ∧ on1.residTrig 3 < 185 ∧
    ((on1.chip 3).pilots + 1 < 64 ∨ 0 ≤ on1.residTrig 3) := by decide +kernel

end WMeshFailures

theorem wit_MeshFailures_held : let s := chip3 msSettling Chip.reset
    s.meshState 3 ≠ msService ∧ s.meshState 3 ≠ msRebuild := by decide +kernel

namespace WMeshTrimsAndSwaps

def s1 := chip3 msService { Chip.reset with pilots := 63 }
def tk (s : State) := s.setSup { up.sup with takingAt := some 0 }
def r1 := chip3 msRebuild { Chip.reset with ready := true, work := .trim }
def h1 := chip3 msRebuild { Chip.reset with ready := true, work := .xtalk, holdAt := up.now }
def m1 := chip3 msChanging { Chip.reset with ready := true, work := .matrix, next := some (0, [1]) }
def x1 := tk s1
def x2 := chip3 msUnused Chip.reset

theorem wit_MeshTrimsAndSwaps :
    s1.meshState 3 = msService ∧ s1.dutiesRun = true ∧ s1.rd R.MESH_CAL_CFG_AGE_TRIG 3 ≠ 0 ∧
    s1.passed (s1.chip 3).swapAt (1000 * msec * s1.rd R.MESH_CAL_CFG_AGE_TRIG 3) = true ∧ s1.meshState 3 ≠ msUnused ∧ s1.meshState 3 ≠ msOut ∧
    s1.meshSwapPoint 3 = false ∧ (s1.chip 3).ready = false ∧ x1.dutiesRun = false ∧ x1.meshState 3 = msService ∧ r1.meshState 3 ≠ msService ∧
    r1.meshSwapPoint 3 = true ∧ (r1.chip 3).ready = true ∧ ((r1.chip 3).work = MeshWork.trim ∨ (r1.chip 3).work = MeshWork.xtalk) ∧
    r1.passed (r1.chip 3).holdAt (usec * r1.meshWait 3) = true ∧ (h1.chip 3).ready = true ∧
    ((h1.chip 3).work = MeshWork.trim ∨ (h1.chip 3).work = MeshWork.xtalk) ∧ h1.passed (h1.chip 3).holdAt (usec * h1.meshWait 3) = false ∧
    m1.dutiesRun = true ∧ (m1.meshState 3 = msChanging ∨ m1.meshState 3 = msSettling ∨ m1.meshState 3 = msOut ∧ (m1.chip 3).failed = true) ∧
    x2.meshState 3 = msUnused ∧ x2.dutiesRun = true ∧ (x2.meshState 3 = msUnused ∨ x2.meshState 3 = msOut) := by decide +kernel

end WMeshTrimsAndSwaps

namespace WMeshTrimsAndSwaps2

def noTrig := up.wr R.MESH_CAL_CFG_AGE_TRIG 3 0

theorem wit_MeshTrimsAndSwaps_2 :
    noTrig.meshState 3 ≠ msService ∧ noTrig.rd R.MESH_CAL_CFG_AGE_TRIG 3 = 0 ∧ noTrig.meshState 3 = msUnused ∧ noTrig.dutiesRun = true ∧
    (noTrig.meshState 3 = msUnused ∨ noTrig.meshState 3 = msOut) ∧ noTrig.meshSwapPoint 3 = false ∧ (noTrig.chip 3).ready = false := by decide +kernel

end WMeshTrimsAndSwaps2

namespace WMeshComputations

def m1 := chip3 msChanging { Chip.reset with work := .matrix, why := .load }
def t1 := chip3 msRebuild { Chip.reset with work := .trim }
def l1 := (chip3 msSettling Chip.reset).wr R.MESH_STAT_CLK_OK 3 1
def jm := withJob ((l1.wr R.MESH_STAT_HELD 3 1).wr R.MESH_STAT_JOB 3 15) 15 fun j => { j with chips := [(3, 0)], substOn := [0] }
def x (st : Nat) := chip3 st { Chip.reset with work := .xtalk }
def oc := (chip3 msOut { Chip.reset with cause := .pilotHigh }).wr R.PWR_STAT_EAST_ON 0 1
def x1 := x msUnused
def x2 := x msOut

theorem wit_MeshComputations :
    (m1.chip 3).ready = false ∧ (m1.chip 3).work = MeshWork.matrix ∧ ((m1.chip 3).why = MeshWhy.load ∨ m1.meshJob 3 = none) ∧
    (m1.meshState 3 ≠ msSettling ∨ m1.on R.FEED_STAT_MOVING 0 = true) ∧ ((m1.chip 3).work ≠ MeshWork.xtalk ∨ (m1.chip 3).ready = true) ∧
    (m1.meshState 3 ≠ msOut ∨ (m1.chip 3).failed = true ∨ (m1.chip 3).cleared = true ∨ m1.oosCleared 3 = false) ∧ (t1.chip 3).ready = false ∧
    (t1.chip 3).work = MeshWork.trim ∧ t1.meshState 3 = msRebuild ∧
    ((l1.chip 3).ready = true ∨ (l1.chip 3).work = MeshWork.none ∨ (l1.chip 3).work = MeshWork.xtalk) ∧ l1.meshState 3 = msSettling ∧
    l1.on R.FEED_STAT_MOVING 0 = false ∧ l1.on R.MESH_STAT_CLK_OK 3 = true ∧ l1.residTrig 3 < 185 ∧ l1.dutiesRun = true ∧
    jm.meshState 3 = msSettling ∧ jm.on R.FEED_STAT_MOVING 0 = false ∧ jm.on R.MESH_STAT_CLK_OK 3 = true ∧ 0 ≤ jm.residTrig 3 ∧
    (jm.meshJob 3).isSome = true ∧ (jm.job (got (jm.meshJob 3))).loading = false := by decide +kernel

theorem wit_MeshComputations_2 :
    (jm.job (got (jm.meshJob 3))).holds.grade = false ∧ (jm.job (got (jm.meshJob 3))).holds.bell = false ∧
    jm.runningWith 261 (got (jm.meshJob 3)) = none ∧ (jm.stage (got (jm.meshJob 3))).meshes = [] ∧ x1.loadWait = none ∧
    (x1.chip 3).work = MeshWork.xtalk ∧ (x1.chip 3).ready = false ∧ x1.meshState 3 = msUnused ∧ x2.loadWait = none ∧
    (x2.chip 3).work = MeshWork.xtalk ∧ (x2.chip 3).ready = false ∧ x2.meshState 3 = msOut ∧ (true = false ∨ x2.residTrig 3 < 186) ∧
    0 ≤ x2.residTrig 3 ∧ x2.meshJob 3 = none ∧ (∀ j < 16, (x2.job j).st = JobState.empty) ∧ oc.meshState 3 = msOut ∧
    (oc.chip 3).failed = false ∧ (oc.chip 3).cleared = false ∧ oc.oosCleared 3 = true := by decide +kernel

end WMeshComputations

namespace WMeshTokensAndPasses

def x (st : Nat) := chip3 st { Chip.reset with work := .xtalk }
def k := { tok0 19 with dstClu := 199, payload := List.replicate 512 3, len := 128 }
def onc (s : State) : State := ((s.wr R.MESH_STAT_HELD 3 1).wr R.MESH_STAT_JOB 3 0).setInForce [(R.MESH_OP_A.key 3 7, 0x80000000)]
def cs := onc (chip3 msService Chip.reset)
def s := held cs (.unit 199 19) k
def q := held cs (.unit 199 19) { k with len := 17 }
def e := held (withJob cs 0 fun j => { j with epoch := 1 }) (.unit 199 19) k
def hs := s.wr R.MESH_STAT_STATE 3 msSettling
def one (k : Token) : MeshTok := ⟨k, 199, 1, [], [], 0⟩
def all : MeshTok := ⟨k, 199, 1, [List.replicate 512 0], [false], 0⟩
def k1 := { k with len := 16, payload := List.replicate 64 0 }
def p (k : Token) := (onc (chip3 msService { Chip.reset with toks := [one k], order := [199], matrix := some (0, []) })).wr R.MESH_STAT_CLK_OK 3 1
def pa := (onc (chip3 msService { Chip.reset with toks := [{ all with tok := k1 }] })).wr R.MESH_STAT_CLK_OK 3 1
def x1 := p k

theorem wit_MeshTokensAndPasses :
    (∀ x ∈ up.fabric, x.outside = false ∧ x.trail = []) ∧ (chipOfClu 199 = none ∨ up.front (Place.unit 199 19) = none) ∧
    (up.on R.MESH_STAT_CLK_OK 3 = false ∨
      up.on R.FEED_STAT_MOVING 0 = true ∨
        up.meshState 3 = msSettling ∨ up.meshState 3 = msOut ∨ up.meshState 3 = msUnused ∨ (up.chip 3).toks = []) ∧
    (∀ m ∈ (up.chip 3).toks, m.outReady = false) ∧ (∀ x ∈ s.fabric, x.outside = false ∧ x.trail = []) ∧ (chipOfClu 199).isSome = true ∧
    (s.front (Place.unit 199 19)).isSome = true ∧ (got (s.front (Place.unit 199 19))).stale = false ∧
    (got (s.front (Place.unit 199 19))).tok.epoch = (s.job (got (s.front (Place.unit 199 19))).tok.job).epoch ∧
    s.meshJob (got (chipOfClu 199)) = some (got (s.front (Place.unit 199 19))).tok.job ∧ (got (s.front (Place.unit 199 19))).tok.len % 16 = 0 ∧
    (s.meshEntry (got (chipOfClu 199)) (got (s.front (Place.unit 199 19))).tok.oper).isSome = true ∧
    s.meshHolds (got (chipOfClu 199)) (got (s.front (Place.unit 199 19))).tok = false ∧ (s.chip (got (chipOfClu 199))).feeding 199 = false ∧
    (s.chip (got (chipOfClu 199))).order.length < 16 ∧ (∀ x ∈ q.fabric, x.outside = false ∧ x.trail = []) ∧
    (q.front (Place.unit 199 19)).isSome = true ∧ (got (q.front (Place.unit 199 19))).stale = false ∧
    (got (q.front (Place.unit 199 19))).tok.epoch = (q.job (got (q.front (Place.unit 199 19))).tok.job).epoch ∧
    q.meshJob (got (chipOfClu 199)) = some (got (q.front (Place.unit 199 19))).tok.job ∧ (got (q.front (Place.unit 199 19))).tok.len % 16 ≠ 0 ∧
    (∀ x ∈ e.fabric, x.outside = false ∧ x.trail = []) ∧ (e.front (Place.unit 199 19)).isSome = true := by decide +kernel

theorem wit_MeshTokensAndPasses_2 :
    ((got (e.front (Place.unit 199 19))).stale = true ∨
      (got (e.front (Place.unit 199 19))).tok.epoch ≠ (e.job (got (e.front (Place.unit 199 19))).tok.job).epoch) ∧
    (∀ x ∈ hs.fabric, x.outside = false ∧ x.trail = []) ∧ (hs.front (Place.unit 199 19)).isSome = true ∧
    (got (hs.front (Place.unit 199 19))).stale = false ∧
    (got (hs.front (Place.unit 199 19))).tok.epoch = (hs.job (got (hs.front (Place.unit 199 19))).tok.job).epoch ∧
    hs.meshJob (got (chipOfClu 199)) = some (got (hs.front (Place.unit 199 19))).tok.job ∧
    (got (hs.front (Place.unit 199 19))).tok.len % 16 = 0 ∧
    (hs.meshEntry (got (chipOfClu 199)) (got (hs.front (Place.unit 199 19))).tok.oper).isSome = true ∧
    (hs.meshHolds (got (chipOfClu 199)) (got (hs.front (Place.unit 199 19))).tok = true ∨
      (hs.chip (got (chipOfClu 199))).feeding 199 = true ∨ 16 ≤ (hs.chip (got (chipOfClu 199))).order.length) ∧
    (∀ x ∈ x1.fabric, x.outside = false ∧ x.trail = []) ∧ (x1.chip 3).toks = [top (x1.chip 3).toks] ∧
    (x1.chip 3).order = (top (x1.chip 3).toks).clu :: (x1.chip 3).order.tail ∧
    (top (x1.chip 3).toks).outs.length < (top (x1.chip 3).toks).loaded ∧ x1.on R.MESH_STAT_CLK_OK 3 = true ∧
    x1.on R.FEED_STAT_MOVING 0 = false ∧ (x1.chip 3).matrix ≠ none ∧ x1.meshState 3 ≠ msSettling ∧ x1.meshState 3 ≠ msOut ∧
    x1.meshState 3 ≠ msUnused ∧ (∀ x ∈ pa.fabric, x.outside = false ∧ x.trail = []) ∧ (pa.chip 3).toks = [top (pa.chip 3).toks] ∧
    (top (pa.chip 3).toks).outReady = true ∧ (pa.meshEntry 3 (top (pa.chip 3).toks).tok.oper).isSome = true := by decide +kernel

end WMeshTokensAndPasses

namespace WFeedSelector

def s0 := ((up.wr R.FEED_STAT_A_OK 0 1).wr R.FEED_STAT_B_OK 0 1).wr R.FEED_CFG_AUTO 0 1
def b0 := ((up.wr R.FEED_STAT_A_OK 0 0).wr R.FEED_CFG_AUTO 0 1)
def b1 := b0.wr R.FEED_STAT_B_OK 0 1
def mv (t : Nat) := s0.setFeedMove (some (1, t))
def a (s : State) (f n : Nat) := ask s 15 0x0404 [f, n]
def x1 := mv 0
def x2 := mv up.now
def x3 := a s0 0 1
def x5 := a b1 0 1
def x8 := ask up 15 0x0401 [3]

theorem wit_FeedSelector :
    (∀ j < 16, (up.job j).chips = []) ∧ up.on R.FEED_STAT_MOVING 0 = false ∧ up.on R.FEED_CFG_AUTO 0 = true ∧ up.feedInUse ≠ 1 ∧
    up.feedOk up.feedInUse = false ∧ up.feedOk 0 = false ∧
    (up.feedInUse = 0 ∨ up.feedOk up.feedInUse = true ∨ up.on R.FEED_CFG_AUTO 0 = false) ∧ up.feedMove = none ∧
    (∀ j < 16, (s0.job j).chips = []) ∧ s0.on R.FEED_STAT_MOVING 0 = false ∧ s0.on R.FEED_CFG_AUTO 0 = true ∧ s0.feedInUse = 0 ∧
    s0.feedOk 0 = true ∧ s0.feedOk (1 - 0) = true ∧ s0.feedInUse ≠ 1 ∧ s0.feedOk s0.feedInUse = true ∧ s0.feedOk 1 = true ∧
    x1.feedMove = some ((got x1.feedMove).1, (got x1.feedMove).2) := by decide +kernel

theorem wit_FeedSelector_2 :
    x1.passed (got x1.feedMove).2 (20 * usec) = true ∧ (got x1.feedMove).1 < 2 ∧ x1.feedOk (got x1.feedMove).1 = true ∧
    x1.runningAny 1028 = none ∧ x2.feedMove = some ((got x2.feedMove).1, (got x2.feedMove).2) ∧
    x2.passed (got x2.feedMove).2 (20 * usec) = false ∧ x3.begins 15 1028 true true true = true ∧ x3.on R.FEED_STAT_MOVING 0 = false ∧
    (x3.req 15 8 1 = x3.feedInUse ∨ x3.feedOk (x3.req 15 8 1) = false) ∧
    (x3.req 15 9 1 = 0 ∨ x3.feedOk x3.feedInUse = true ∨ x3.feedOk (1 - x3.feedInUse) = false) ∧ x5.begins 15 1028 true true true = true ∧
    x5.on R.FEED_STAT_MOVING 0 = false ∧ (x5.req 15 8 1 = x5.feedInUse ∨ x5.feedOk (x5.req 15 8 1) = false) ∧ x5.req 15 9 1 = 1 ∧
    x5.feedOk x5.feedInUse = false ∧ x5.feedOk (1 - x5.feedInUse) = true ∧ (∀ j < 16, (x5.job j).chips = []) ∧
    x8.begins 15 1025 true true true = true := by decide +kernel

end WFeedSelector

theorem wit_FeedSelector_lanes : ∀ k l, ((((up.wr R.FEED_STAT_A_OK 0 1).wr R.FEED_STAT_B_OK 0 1).wr R.FEED_CFG_AUTO 0 1).lane k l).st ≠ lnUp :=
  fun _ _ => by show (0 : Nat) ≠ 3; decide

namespace WRingsAreSearched

def lc := (up.wr R.FEED_STAT_A_OK 0 1).wr R.CLK_STAT 0 0x400
def p (st i : Nat) (r : Ring) (ph : Nat := 0) := putRingWork ((up.wr R.RING_STAT_PHASE 3 st).putRing 3 i r) 3 ⟨none, [], ph, 0⟩
def peaksS : List Nat := ([0, 1, 2, 3, 4] : List Nat).map fun n => 15000 + 2731 * n
def tn (a l : Nat) : ToneRead := ⟨1583, a, l, 10, 4⟩
def tn2 (a l : Nat) : ToneRead := ⟨528, a, l, 13, 4⟩
def x1 := p 1 1583 { Ring.reset with st := rgSearching } 2
def x2 := p 1 1583 { Ring.reset with st := rgSearching, sweeps := 1 } 2
def x4 := p 2 528 { Ring.reset with st := rgWrong, heater := 20000, assign := 0 }
def x5 := p 2 528 { Ring.reset with st := rgSearching, heater := 20000, assign := 16 }
def x6 := p 2 528 { Ring.reset with st := rgLocked, assign := 0, heater := 1000, lockLevel := some 100 }
def x8 := p 2 1583 { Ring.reset with st := rgLocked, assign := 3, heater := 30000, confirm := true, fails := 1 }
def x9 := p 2 1583 { Ring.reset with st := rgLocked, assign := 3, heater := 30000, frozen := some up.now }
def x10 := p 2 1583 { Ring.reset with st := rgLocked, assign := 3, heater := 30000, frozen := some 0 }
def x11 := putRingWork (p 2 1583 { Ring.reset with st := rgLocked, assign := 3, heater := 30000, lockLevel := some 100 }) 3 ⟨none, [1583], 0, 0⟩
def x12 := tn 3 50
def x13 := tn 3 24
def x14 := tn 5 50
def x15 := tn2 0 50
def x18 : MonRead := ⟨3, 114, -500⟩

theorem wit_RingsAreSearched :
    up.lightAndClock = false ∧ (up.rd R.RING_STAT_PHASE 3 ≠ 1 ∨ (up.ring 3 1583).st ≠ rgSearching) ∧
    ((up.ring 3 1583).st ≠ rgLocked ∨ (up.ring 3 1583).frozen ≠ none) ∧ (up.ring 3 1583).frozen = none ∧
    (up.rd R.RING_STAT_PHASE 3 = 1 ∨ (up.ring 3 1583).st ≠ rgSearching ∧ (up.ring 3 1583).st ≠ rgWrong ∧ (up.ring 3 1583).nearEnd = false) ∧
    up.loadWait = none ∧
    (up.rd R.RING_STAT_PHASE 3 ≠ 1 ∨
      (up.ringWork 3).phase ≠ 5 ∨
        (List.filter (fun (e : Nat × Machine.Ring) => e.1 / 2048 == 3 && (e.2.st == rgFailed || e.2.found && e.2.toneOk)) up.rings).length ≠
          1584) ∧
    x18.chip < 4 ∧ x18.ix < 115 ∧ (∀ e ∈ up.lanes, e.2.st ≠ lnTuning) ∧ lc.lightAndClock = true ∧ x1.rd R.RING_STAT_PHASE 3 = 1 ∧
    (x1.ring 3 1583).st = rgSearching ∧ (∃ n ∈ phaseRings (x1.ringWork 3).phase, n ≠ 1583 ∧ (x1.ring 3 n).found = false) ∧
    ((searchCode peaks0 (ringPattern 1583) (if (x1.ring 3 1583).assign = 17 then ringTarget 1583 else (x1.ring 3 1583).assign) 0 65535).isSome = true) ∧
    (searchCode peaksS (ringPattern 1583) (if (x1.ring 3 1583).assign = 17 then ringTarget 1583 else (x1.ring 3 1583).assign) 0 65535 = none) ∧
    (x1.ring 3 1583).sweeps = 0 ∧ x2.rd R.RING_STAT_PHASE 3 = 1 ∧ (x2.ring 3 1583).st = rgSearching ∧
    (∃ n ∈ phaseRings (x2.ringWork 3).phase, n ≠ 1583 ∧ (x2.ring 3 n).found = false) ∧
    (searchCode peaksS (ringPattern 1583) (if (x2.ring 3 1583).assign = 17 then ringTarget 1583 else (x2.ring 3 1583).assign) 0 65535 = none) ∧
    (x2.ring 3 1583).sweeps ≠ 0 ∧ x4.rd R.RING_STAT_PHASE 3 ≠ 1 ∧
    ((x4.ring 3 528).st = rgSearching ∨ (x4.ring 3 528).st = rgWrong ∨ (x4.ring 3 528).nearEnd = true) ∧
    ((searchCode peaks0 (ringPattern 528) (if (x4.ring 3 528).assign = 17 then ringTarget 528 else (x4.ring 3 528).assign) ((x4.ring 3 528).expected - 8193) (min 65535 ((x4.ring 3 528).expected + 8193))).isSome = true) ∧
    ((if (x4.ring 3 528).assign = 17 then ringTarget 528 else (x4.ring 3 528).assign) ≠ 16) ∧
    (x12.tone ≠ if (x4.ring 3 528).assign = 17 then ringTarget 528 else (x4.ring 3 528).assign) ∧
    (x15.tone = if (x4.ring 3 528).assign = 17 then ringTarget 528 else (x4.ring 3 528).assign) := by decide +kernel

theorem wit_RingsAreSearched_2 :
    x5.rd R.RING_STAT_PHASE 3 ≠ 1 ∧ ((x5.ring 3 528).st = rgSearching ∨ (x5.ring 3 528).st = rgWrong ∨ (x5.ring 3 528).nearEnd = true) ∧
    ((searchCode peaks0 (ringPattern 528) (if (x5.ring 3 528).assign = 17 then ringTarget 528 else (x5.ring 3 528).assign) ((x5.ring 3 528).expected - 8193) (min 65535 ((x5.ring 3 528).expected + 8193))).isSome = true) ∧
    ((if (x5.ring 3 528).assign = 17 then ringTarget 528 else (x5.ring 3 528).assign) = 16) ∧ x12.dark = true ∧ (x6.ring 3 528).st = rgLocked ∧
    (x6.ring 3 528).frozen = none ∧ (x8.ring 3 1583).st = rgLocked ∧ (x8.ring 3 1583).frozen = none ∧ x8.toneChecks 3 1583 = true ∧
    x12.ring = 1583 ∧ x12.tone = (x8.ring 3 1583).assign ∧
    (Option.map (fun (l : Nat) => decide (4 * x12.level < l)) (x8.ring 3 1583).lockLevel).getD false = false ∧ x14.ring = 1583 ∧
    (x14.tone ≠ (x8.ring 3 1583).assign ∨ (Option.map (fun (l : Nat) => decide (4 * x14.level < l)) (x8.ring 3 1583).lockLevel).getD false = true) ∧
    (x8.ring 3 1583).confirm = true ∧ (x8.ring 3 1583).fails < 2 ∧ ((x9.ring 3 1583).frozen).isSome = true ∧ (x9.ring 3 1583).st = rgLocked ∧
    x9.passed (got (x9.ring 3 1583).frozen) (10 * msec) = false ∧ (x11.ring 3 1583).st = rgLocked ∧ (x11.ring 3 1583).frozen = none ∧
    x11.toneChecks 3 1583 = true ∧ x13.ring = 1583 ∧
    (x13.tone ≠ (x11.ring 3 1583).assign ∨
      (Option.map (fun (l : Nat) => decide (4 * x13.level < l)) (x11.ring 3 1583).lockLevel).getD false = true) ∧
    (x11.ring 3 1583).confirm = false ∧ (∀ e ∈ up.rings, e.1 / 2048 = 3 → e.2.frozen = none) ∧
    (∃ i < 1584, ∃ (x : Nat), (x10.ring 3 i).frozen = some x ∧ x10.passed x (10 * msec) = true) := by decide +kernel

end WRingsAreSearched

namespace WRingsAreSearched2

def done := putRingWork ((up.wr R.RING_STAT_PHASE 3 1).setRings ((List.range 1584).map fun i => (2048 * 3 + i, { Ring.reset with st := rgParked, toneOk := true }))) 3 ⟨none, [], 5, 0⟩
def x2 : MonRead := ⟨3, 114, -500⟩

theorem wit_RingsAreSearched_3 :
    done.lightAndClock = false ∧ (done.rd R.RING_STAT_PHASE 3 ≠ 1 ∨ (done.ring 3 1583).st ≠ rgSearching) ∧
    ((done.ring 3 1583).st ≠ rgLocked ∨ (done.ring 3 1583).frozen ≠ none) ∧ (done.ring 3 1583).frozen = none ∧
    (done.rd R.RING_STAT_PHASE 3 = 1 ∨
      (done.ring 3 1583).st ≠ rgSearching ∧ (done.ring 3 1583).st ≠ rgWrong ∧ (done.ring 3 1583).nearEnd = false) ∧
    done.loadWait = none ∧ done.rd R.RING_STAT_PHASE 3 = 1 ∧ (done.ringWork 3).phase = 5 ∧
    (List.filter (fun (e : Nat × Machine.Ring) => e.1 / 2048 == 3 && (e.2.st == rgFailed || e.2.found && e.2.toneOk)) done.rings).length = 1584 ∧
    x2.chip < 4 ∧ x2.ix < 115 ∧ (∀ e ∈ done.lanes, e.2.st ≠ lnTuning) ∧ (∀ e ∈ done.rings, e.1 / 2048 = 3 → e.2.frozen = none) := by decide +kernel

end WRingsAreSearched2

theorem wit_RingsAreSearched_code : (searchCode peaks0 (ringPattern 528) (ringTarget 528) 0 65535).isSome = true ∧
    (searchCode (([0, 1, 2, 3, 4] : List Nat).map fun n => 15000 + 2731 * n) (ringPattern 528) 0 (20000 - 8193) (20000 + 8193)).isSome = true ∧
    (laneOfRing 1583).map Prod.fst = some 31 ∧ (up.lane 3 31).st ≠ lnUp := by decide +kernel

theorem wit_RingsAreSearched_frozen :
    let s := (State.reset.setNow (10 * msec)).putRing 3 1583 { Ring.reset with frozen := some 0 }
    s.Canonical ∧ ∃ i < 1584, ∃ x, (s.ring 3 i).frozen = some x ∧ s.passed x (10 * msec) = true :=
  ⟨by constructor <;> decide +kernel, 1583, by decide, 0, by decide +kernel, by decide +kernel⟩

namespace WCircuitsAndCodewords

def ready := ((((((up.wr R.PWR_STAT_WEST_ON 0 1).wr R.PWR_STAT_EAST_ON 0 1).wr R.RING_STAT_PHASE 0 2).wr R.RING_STAT_PHASE 1 2).wr
      R.RING_STAT_PHASE 2 2).wr R.RING_STAT_PHASE 3 2).wr R.EXT_CFG_EN 7 1
def parked (s : State) : State := ([(1, 15, 3), (3, 15, 3), (1, 31, 3), (3, 31, 3), (3, 15, 5), (3, 31, 5)] : List (Nat × Nat × Nat)).foldl
      (fun s e => (laneRings e.2.1 e.2.2).foldl (fun s i => s.putRing e.1 i { Ring.reset with st := rgParked, toneOk := true }) s) s
def s0 := parked ready
def busy := s0.putLane 3 15 { Lane.idle with st := lnParking, column := 3, wave := 15 }
def ln (x : Lane) := up.putLane 3 31 x
def cw (ue : Nat) := ((up.putLane 3 31 { Lane.idle with st := lnUp, bridge := 7, mate := some (32 + 15), wave := 15, column := 3 }).putLane 1 15 { Lane.idle with st := lnUp, bridge := 7, ue := ue, mate := some (3*32+31), wave := 15, column := 3 })
def cwm (ue : Nat) := (cw ue).putDir ((cw 0).senderOf 3 31) { ((cw 0).dir ((cw 0).senderOf 3 31)) with map := [32+15], turn := 32 + 15 }
def up2 := (cwm 0).putLane 3 30 { Lane.idle with st := lnUp, bridge := 7, mate := some (32 + 14), wave := 14, column := 3 }
def x1 := cwm 0
def x4 := ln { Lane.idle with st := lnTrain }
def x9 := up.setSup { up.sup with takingAt := some 0 }

theorem wit_CircuitsAndCodewords :
    up.rivals 15 (8 + 7) = [] ∧ (up.bridgeJoins (15 % 8) = false ∨ up.linkReady (chipOfBridge 15) = false) ∧ up.on R.EXT_CFG_EN 7 = false ∧
    up.mbxOrder = [] ∧ (up.lane 3 31).st ≠ lnTuning ∧ ((up.lane 3 31).st ≠ lnTrain ∨ up.passed (up.lane 3 31).at_ (19 * usec) = false) ∧
    ((up.lane 3 31).st ≠ lnUp ∨
      (up.lane 3 31).ext = false ∧ (up.upLanes 3 (up.lane 3 31).column (decide (16 ≤ 31))).length ≤ 1 ∨
        (up.lane 3 31).ext = true ∧ up.mustKeep 3 31 = true) ∧
    (up.lane 3 31).st ≠ lnParking ∧ (up.lane 3 31).st ≠ lnDown ∧ (up.lane 3 31).st ≠ lnUp ∧ up.dutiesRun = true ∧
    (∀ e ∈ up.lanes, e.2.st ≠ lnTuning) ∧ s0.bridgeJoins (15 % 8) = true ∧ s0.linkReady (chipOfBridge 15) = true ∧
    s0.linkReady (chipOfBridge ((15 + 8) % 16)) = true ∧ s0.laneFree (chipOfBridge 15) 15 (s0.columnOf 15) = true ∧
    s0.laneFree (chipOfBridge ((15 + 8) % 16)) (16 + 15) (s0.columnOf ((15 + 8) % 16)) = true ∧
    s0.waveFree (chipOfBridge 15) (s0.columnOf 15) (8 + 7) = true ∧
    s0.waveFree (chipOfBridge ((15 + 8) % 16)) (s0.columnOf ((15 + 8) % 16)) (8 + 7) = true ∧ s0.on R.EXT_CFG_EN 7 = true ∧
    s0.linkReady (7 / 2) = true ∧ (s0.laneFree (7 / 2) (if true = true then 15 else 16 + 15) (4 + 7 % 2) = true) ∧
    s0.waveFree (7 / 2) (4 + 7 % 2) (8 + 7) = true ∧ busy.rivals 15 (8 + 7) = [] := by decide +kernel

theorem wit_CircuitsAndCodewords_2 :
    busy.bridgeJoins (15 % 8) = true ∧ busy.endsParking (busy.bridgeEnds 15 15 15) (8 + 7) = true ∧
    ((busy.lane 3 15).st = lnParking ∨ (busy.lane 3 15).st = lnDown) ∧ (∀ b < 16, (busy.dir b).waits = []) ∧
    (∀ e < 8, (busy.ext e).waits = []) ∧ (x1.lane 3 31).st = lnUp ∧ (x1.lane 3 31).ext = false ∧ ((x1.lane 3 31).mate).isSome = true ∧
    (x1.lane 3 31).deskew = [] ∧ got (x1.lane 3 31).mate % 32 < 16 ∧
    (x1.lane (got (x1.lane 3 31).mate / 32) (got (x1.lane 3 31).mate % 32)).st = lnUp ∧
    (x1.lane (got (x1.lane 3 31).mate / 32) (got (x1.lane 3 31).mate % 32)).ext = false ∧
    (x1.lane (got (x1.lane 3 31).mate / 32) (got (x1.lane 3 31).mate % 32)).mate = some (32 * 3 + 31) ∧
    x1.senderOf (got (x1.lane 3 31).mate / 32) (got (x1.lane 3 31).mate % 32) = x1.senderOf 3 31 ∧
    (x1.dir (x1.senderOf 3 31)).map = [got (x1.lane 3 31).mate] ∧ (x1.dir (x1.senderOf 3 31)).turn = got (x1.lane 3 31).mate ∧
    x1.front (Place.bridge (x1.senderOf 3 31)) = none ∧ (up2.lane 3 31).st = lnUp ∧ up2.mustKeep 3 31 = false ∧ x4.mbxOrder = [] ∧
    (x4.lane 3 31).st = lnTrain ∧ x4.passed (x4.lane 3 31).at_ (19 * usec) = true ∧ x9.dutiesRun = false := by decide +kernel

end WCircuitsAndCodewords

namespace WCircuitsAndCodewords2

def e (n : Nat) := ask up 15 0x0402 [7, n, 1]
def b := ask up 15 0x0403 [15, 1, 1]
def jb := withJob b 0 fun j => { j with sec := { j.sec with bridges := [15] } }
def x1 := e 0
def x2 := e 1

theorem wit_CircuitsAndCodewords_3 :
    x1.rivals 15 (8 + 7) = [] ∧ (x1.bridgeJoins (15 % 8) = false ∨ x1.linkReady (chipOfBridge 15) = false) ∧ x1.on R.EXT_CFG_EN 7 = false ∧
    ((x1.lane 3 31).st ≠ lnUp ∨
      (x1.lane 3 31).ext = false ∧ (x1.upLanes 3 (x1.lane 3 31).column (decide (16 ≤ 31))).length ≤ 1 ∨
        (x1.lane 3 31).ext = true ∧ x1.mustKeep 3 31 = true) ∧
    (x1.lane 3 31).st ≠ lnParking ∧ (x1.lane 3 31).st ≠ lnDown ∧ (x1.lane 3 31).st ≠ lnUp ∧ x1.begins 15 1026 x1.notStopped true true = true ∧
    x1.req 15 9 1 = 0 ∧ x2.begins 15 1026 x2.notStopped true true = true ∧ x2.req 15 9 1 = 1 ∧ b.begins 15 1027 b.notStopped true true = true ∧
    b.bridgeNamed (b.req 15 8 1) = false ∧ jb.begins 15 1027 jb.notStopped true true = true ∧ jb.bridgeNamed (jb.req 15 8 1) = true := by decide +kernel

end WCircuitsAndCodewords2

theorem wit_CircuitsAndCodewords_unready : ∀ k, up.linkReady k = false := by
  intro k
  have h : ∀ i < 4, up.rd R.RING_STAT_PHASE i = 0 := by decide +kernel
  have e : up.rd R.RING_STAT_PHASE k = up.rd R.RING_STAT_PHASE (k % 4) := by
    simp [State.rd, State.rd2, Fld.key, R.RING_STAT_PHASE]
  simp [State.linkReady, e, h _ (Nat.mod_lt k (by decide : 0 < 4))]

namespace WSplitsOfTheHalves

def both := (up.wr R.PWR_STAT_WEST_ON 0 1).wr R.PWR_STAT_EAST_ON 0 1
def s := both.putHalf 1 { Half.reset with beatAt := some 0 }
def now := both.putHalf 1 { Half.reset with beatAt := some up.now }
def cut := s.setSplitAt (some 0)
def ex (x : ExtPort) := withJob ((up.wr R.EXT_CFG_EN 7 1).putExt 7 x) 15 fun j => { j with sec := { j.sec with extPorts := [7] } }
def sp := (up.wr R.HALF_STAT_SPLIT 0 1).setReturnAt (some 0)
def a := ask up 15 0x0405 [1]
def r := withJob a 0 fun j => { j with sec := { j.sec with paths := [{ path0 0 with reduced := true, spans := true }] } }
def x2 := ex { ExtPort.reset with downAt := some 0 }
def x3 := ex { ExtPort.reset with split := true, upAt := some 0 }

theorem wit_SplitsOfTheHalves :
    up.halfOn 1 = false ∧ (up.half 1).beatAt = none ∧ (up.cutOff = false ∨ up.halvesHealthy = false ∨ up.split = true) ∧
    ((up.split = false ∧ ∀ j < 16, up.returnsFull j = false) ∨ up.returnAt = none) ∧
    (up.on R.EXT_CFG_EN 7 = false ∨ (up.ext 7).split = true ∨ (up.ext 7).downAt = none) ∧ ((up.ext 7).split = false ∨ (up.ext 7).upAt = none) ∧
    both.halfOn 1 = true ∧ ((s.half 1).beatAt).isSome = true ∧ s.passed (got (s.half 1).beatAt) (30 * usec) = true ∧ s.cutOff = false ∧
    s.split = false ∧ ((now.half 1).beatAt).isSome = true ∧ now.passed (got (now.half 1).beatAt) (30 * usec) = false ∧
    ((cut.half 1).beatAt).isSome = true ∧ cut.passed (got (cut.half 1).beatAt) (30 * usec) = true ∧ cut.cutOff = true ∧ cut.halfOn 1 = true ∧
    1 ≠ cut.captain := by decide +kernel

theorem wit_SplitsOfTheHalves_2 :
    cut.halvesHealthy = true ∧ cut.split = false ∧ (cut.half 0).sbLostAt = none ∧ (cut.half 1).sbLostAt = none ∧ x2.on R.EXT_CFG_EN 7 = true ∧
    (x2.ext 7).split = false ∧ ((x2.ext 7).downAt).isSome = true ∧ x2.passed (got (x2.ext 7).downAt) x2.splitConfirm = true ∧
    (x3.ext 7).split = true ∧ ((x3.ext 7).upAt).isSome = true ∧ x3.passed (got (x3.ext 7).upAt) x3.returnStable = true ∧
    (sp.split = true ∨ ∃ j < 16, sp.returnsFull j = true) ∧ (sp.returnAt).isSome = true ∧ sp.passed (got sp.returnAt) sp.returnStable = true ∧
    a.begins 15 1029 true true true = true ∧ a.reducedDeclared = false ∧ r.begins 15 1029 true true true = true ∧ r.reducedDeclared = true := by decide +kernel

end WSplitsOfTheHalves

namespace WCalibrationRuns

def s := (up.wr R.CAL_STAT_FIRST 0 3).wr R.QCAL_STAT_STATE 7 0
def b := ((((s.wr R.QCAL_STAT_STATE 7 1).wr R.QCAL_STAT_ROUND 7 7).wr R.TCAL_STAT_TABLE 4095 1).putQuad 7 { QuadCal.reset with round := [4095] }).putTile 4095
      { TileRec.reset with calSlots := rollSlots }
def t (n st : Nat) := (up.wr R.TCAL_STAT_TABLE 4095 st).putTile 4095 { TileRec.reset with sinceCal := n, calSlots := rollSlots - 1 }
def h (x : TileRec) := (((up.wr R.TCAL_STAT_TABLE 4095 2).wr R.QCAL_STAT_STATE 7 0).putTile 4095 x).setFabric [hd (.unit 255 15) { tok0 15 with kind := 1 }]
def bg : TileBatch := ⟨0, 1, [], 0⟩
def tq (n : Nat) := ask up 15 0x0302 [n, 0]
def l := (tq 150).wr R.CAL_THRESH_THRESH 0 100
def v := ask up 15 0x0303 [3]
def rr := (ask up 15 0x0301 [255]).wr R.CAL_STAT_FIRST 0 3
def svc4 := h { TileRec.reset with begun := [bg] }
def x2 := s.setSup { up.sup with takingAt := some 0 }
def x3 := t 0 1
def x5 := h TileRec.reset
def x8 := up.setFirstForm 1
def x9 := up.setFirstForm 3
def x11 := rr.setFirstForm 4
def x12 := tq 79
def x15 := v.setFirstForm 4
def x16 := ask up 15 0x0304 [0, 0, 0x40, 1]
def x17 := ask up 15 0x0305 [6]

theorem wit_CalibrationRuns :
    up.dutiesRun = true ∧ up.rd R.CAL_STAT_FIRST 0 ≠ 3 ∧ up.rd R.QCAL_STAT_STATE 7 ≠ 2 ∧ up.rd R.QCAL_STAT_STATE 7 ≠ 1 ∧
    up.writeOf 4095 = none ∧ up.rolling 4095 = false ∧ up.reading 4095 = false ∧ (up.tileHolding 4095 = false ∨ up.swapPoint 4095 = false) ∧
    (up.tileHolding 4095 = false ∨ up.passed (up.tile 4095).holdAt (usec * up.swapWait 4095) = false) ∧ up.notStopped = true ∧
    (up.boot.at_).isSome = true ∧ up.passed (got up.boot.at_) (1000 * msec) = true ∧ up.firstForm = 0 ∧ up.loadWait = none ∧
    (up.firstForm = 0 ∨ up.firstForm = 4) ∧ s.dutiesRun = true ∧ s.rd R.CAL_STAT_FIRST 0 = 3 ∧ s.rd R.QCAL_STAT_STATE 7 = 0 ∧
    s.rd R.CAL_CFG_AGE_TRIG 0 ≠ 0 ∧ s.passed (s.quad 7).endAt (1000 * msec * s.rd R.CAL_CFG_AGE_TRIG 0) = true ∧ b.dutiesRun = true ∧
    b.rd R.CAL_STAT_FIRST 0 = 3 ∧ b.rd R.QCAL_STAT_STATE 7 ≠ 0 ∧ quadOf 4095 = 7 := by decide +kernel

theorem wit_CalibrationRuns_2 :
    b.rd R.QCAL_STAT_STATE 7 = 1 ∧ b.rd R.QCAL_STAT_ROUND 7 = 7 ∧ (b.quad 7).round = [4095] ∧ (b.quad 7).unswapped = [] ∧ (b.quad 7).held = [] ∧
    b.rd R.TCAL_STAT_TABLE 4095 = 1 ∧ rollSlots ≤ (b.tile 4095).calSlots ∧ b.tileHeld 4095 = false ∧ b.svc 4095 ≠ svcWithdrawn ∧ b.writes = [] ∧
    b.homework = [] ∧ x2.dutiesRun = false ∧ (x3.busy 4095 = false ∨ x3.share ≤ (x3.tile 4095).sinceCal) ∧ x3.rolling 4095 = true ∧
    x5.busy 4095 = true ∧ (x5.tile 4095).sinceCal < x5.share ∧ x5.tileHolding 4095 = true ∧ x5.rd R.QCAL_STAT_STATE (quadOf 4095) ≠ 1 ∧
    x5.swapPoint 4095 = true ∧ svc4.tileHolding 4095 = true ∧ svc4.rd R.QCAL_STAT_STATE (quadOf 4095) ≠ 1 ∧ svc4.swapPoint 4095 = false ∧
    svc4.passed (svc4.tile 4095).holdAt (usec * svc4.swapWait 4095) = true ∧ x8.notStopped = true := by decide +kernel

theorem wit_CalibrationRuns_3 :
    (x8.boot.at_).isSome = true ∧ x8.passed (got x8.boot.at_) (1000 * msec) = true ∧ x8.firstForm ≠ 0 ∧ x9.loadWait = none ∧ x9.firstForm = 3 ∧
    x9.rewriting = false ∧ (late.boot.at_ = none ∨ late.notStopped = false) ∧ rr.begins 15 769 rr.notStopped true true = true ∧
    rr.firstForm = 0 ∧ x11.begins 15 769 x11.notStopped true true = true ∧ x11.firstForm ≠ 0 ∧ x12.begins 15 770 true true true = true ∧
    (x12.req 15 8 2 < 80 ∨ 150 < x12.req 15 8 2) ∧ l.begins 15 770 true true true = true ∧ 80 ≤ l.req 15 8 2 ∧ l.req 15 8 2 ≤ 150 ∧
    l.thresh ≤ l.req 15 8 2 ∧ (∀ j < 16, (l.job j).admitted = true → l.req 15 8 2 ≤ (l.job j).hdr.reqXbar) ∧
    v.begins 15 771 v.notStopped (v.calPortOk 15) true = true ∧ v.firstForm ≠ 4 ∧
    x15.begins 15 771 x15.notStopped (x15.calPortOk 15) true = true ∧ x15.firstForm = 4 ∧ x16.begins 15 772 x16.notStopped true true = true ∧
    x17.begins 15 773 true true (x17.req 15 8 1 % 2 == 0) = true := by decide +kernel

end WCalibrationRuns

namespace WCalibrationRuns2

def occ := up.putOcc 4095 { (up.occOf 4095) with digest := [1] }
def rd2 := (occ.wr R.QCAL_STAT_STATE 7 0).putQuad 7 { QuadCal.reset with readback := [4095], rbRound := [4095] }
def noAge := up.wr R.CAL_CFG_AGE_TRIG 0 0

theorem wit_CalibrationRuns_4 :
    rd2.dutiesRun = true ∧ rd2.rd R.CAL_STAT_FIRST 0 ≠ 3 ∧ rd2.rd R.QCAL_STAT_STATE 7 ≠ 2 ∧ rd2.rd R.QCAL_STAT_STATE 7 ≠ 1 ∧
    rd2.writeOf 4095 = none ∧ (rd2.busy 4095 = false ∨ rd2.share ≤ (rd2.tile 4095).sinceCal) ∧ rd2.rolling 4095 = false ∧
    rd2.reading 4095 = true ∧ (rd2.tileHolding 4095 = false ∨ rd2.swapPoint 4095 = false) ∧
    (rd2.tileHolding 4095 = false ∨ rd2.passed (rd2.tile 4095).holdAt (usec * rd2.swapWait 4095) = false) ∧ rd2.notStopped = true ∧
    (rd2.boot.at_).isSome = true ∧ rd2.passed (got rd2.boot.at_) (1000 * msec) = true ∧ rd2.firstForm = 0 ∧ rd2.loadWait = none ∧
    (rd2.firstForm = 0 ∨ rd2.firstForm = 4) ∧ noAge.rd R.CAL_CFG_AGE_TRIG 0 = 0 ∧ noAge.rolling 4095 = false ∧ noAge.reading 4095 = false := by decide +kernel

end WCalibrationRuns2

namespace WTilesAreWritten

def w (x : WriteReq) (ok : Bool) := (up.putSlot 0 (slot0 ok)).setWrites [x]
def r := { write0 0 with use := .rewrite }
def d (st : Nat) := (w (write0 st) true).putTile 4095 { TileRec.reset with rbSlots := readSlots }
def p := ((((up.wr R.WSET_CFG_RB_EN 0 1).wr R.WSET_CFG_RB_PERIOD 0 1).wr R.CAL_STAT_FIRST 0 3).putOcc 4095 { (up.occOf 4095) with digest := [1] })
def h : Homework := ⟨4095, false, 0, 0, some 5, 2, 0, [], false, [], 0⟩
def hm (s : State) := withJob (s.setHomework [h]) 3 fun j => { j with placed := [⟨0, 4095, false, 0, false, none, none, false, [], false⟩] }
def late2 := (((hm up).putTile 4095 { TileRec.reset with begun := [⟨0, 1, [], 0⟩] })).setHomework [{ h with holdAt := up.now }]
def x1 := w (write0 0) true
def x6 := d 1
def x7 := d 2
def x8 := hm up
def x11 := up.wr R.WSET_CFG_RB_EN 0 0
def x12 : WriteMeas := ⟨1, 2, []⟩

theorem wit_TilesAreWritten :
    (up.nextWrite 7 = none ∨ up.rd R.PWR_STAT_STATE 0 = 2) ∧ List.find? (fun (w : WriteReq) => w.tile == 4095 && w.st == 1) up.writes = none ∧
    List.find? (fun (w : WriteReq) => w.tile == 4095 && w.st == 2) up.writes = none ∧ 4095 ∉ up.rbNow (quadOf 4095) ∧
    (∀ h ∈ up.homework, 4095 ∉ span h.tile h.pair) ∧ x1.rd R.PWR_STAT_STATE 0 ≠ 2 ∧ (x1.nextWrite 7).isSome = true ∧
    x1.writing 7 + (span (got (x1.nextWrite 7)).tile (got (x1.nextWrite 7)).pair).length ≤ 64 ∧
    (x1.shardIn (got (x1.nextWrite 7)).slot (got (x1.nextWrite 7)).no).isSome = true ∧
    ((got (x1.nextWrite 7)).use = WriteUse.rewrite → x1.hw (got (x1.nextWrite 7)).tile = none) ∧
    (List.find? (fun (w : WriteReq) => w.tile == 4095 && w.st == 1) x6.writes).isSome = true ∧
    (got (List.find? (fun (w : WriteReq) => w.tile == 4095 && w.st == 1) x6.writes)).pair = false ∧
    (x6.shardIn (got (List.find? (fun (w : WriteReq) => w.tile == 4095 && w.st == 1) x6.writes)).slot (got (List.find? (fun (w : WriteReq) => w.tile == 4095 && w.st == 1) x6.writes)).no).isSome = true ∧
    x12.failed = [] ∧ (List.find? (fun (w : WriteReq) => w.tile == 4095 && w.st == 2) x7.writes).isSome = true ∧
    (got (List.find? (fun (w : WriteReq) => w.tile == 4095 && w.st == 2) x7.writes)).pair = false ∧ readSlots ≤ (x7.tile 4095).rbSlots ∧
    (got (List.find? (fun (w : WriteReq) => w.tile == 4095 && w.st == 2) x7.writes)).tries = 0 := by decide +kernel

theorem wit_TilesAreWritten_2 :
    x7.mismatch 4095 [] = true ∧ p.dutiesRun = true ∧ p.on R.WSET_CFG_RB_EN 0 = true ∧
    p.passed p.readbackAt (60000 * msec * max 1 (p.rd R.WSET_CFG_RB_PERIOD 0)) = true ∧ p.rd R.CAL_STAT_FIRST 0 = 3 ∧
    x8.homework = [top x8.homework] ∧ (top x8.homework).tile = 4095 ∧ (top x8.homework).pair = false ∧ (top x8.homework).step = 2 ∧
    ((top x8.homework).copy).isSome = true ∧ got (top x8.homework).copy ≠ 4095 ∧ (top x8.homework).lost = false ∧ x8.dutiesRun = true ∧
    (x8.movePoint (top x8.homework) = true ∨ x8.moveLate (top x8.homework) = true) ∧ late2.homework = [top late2.homework] ∧
    (late2.dutiesRun = false ∨ late2.movePoint (top late2.homework) = false ∧ late2.moveLate (top late2.homework) = false) ∧
    x11.on R.WSET_CFG_RB_EN 0 = false := by decide +kernel

end WTilesAreWritten

theorem wit_TilesAreWritten_use : ∀ j, (write0 1).use ≠ .load j := nofun

/-- A weight field of zero weights: the five bytes of eight weights of 0, repeated. -/
def zeros5 : List Byte := leBytes 5 (((List.range 8).map fun e => 15 * 32 ^ e).sum)

theorem drop_zeros (n k r : Nat) (hk : k < n) (hr : r ≤ 5) :
    ((List.replicate n zeros5).flatten).drop (5 * k + r) = zeros5.drop r ++ (List.replicate (n - k - 1) zeros5).flatten := by
  have h5 : zeros5.length = 5 := by decide +kernel
  induction k generalizing n with
  | zero =>
    obtain ⟨n, rfl⟩ : ∃ m, n = m + 1 := ⟨n - 1, by omega⟩
    simp [List.replicate_succ, List.drop_append, h5, Nat.sub_eq_zero_of_le hr]
  | succ k ih =>
    obtain ⟨n, rfl⟩ : ∃ m, n = m + 1 := ⟨n - 1, by omega⟩
    have e : 5 * (k + 1) + r = 5 + (5 * k + r) := by omega
    rw [List.replicate_succ, List.flatten_cons, e, List.drop_append, List.drop_of_length_le (by omega), h5,
      show 5 + (5 * k + r) - 5 = 5 * k + r by omega, List.nil_append, ih n (by omega)]
    congr 3; omega

theorem five_zeros (e : Fin 8) (rest : List Byte) : let l := (zeros5.drop (5 * e.val / 8) ++ rest).take 2
    leNat (l ++ List.replicate (2 - l.length) 0) / 2 ^ (5 * e.val % 8) % 32 = 15 := by
  have hz : zeros5 = [0xEF, 0xBD, 0xF7, 0xDE, 0x7B] := by decide +kernel
  rw [hz]
  match rest with
  | [] => revert e; decide +kernel
  | b :: _ =>
    match e with
    | 0 | 1 | 2 | 3 | 4 | 5 | 6 => simp [leNat]
    | 7 => simp [leNat]; omega

/-- Every weight of a field of zero weights is 0. -/
theorem weight_zeros (c : Cells) (hc : c.weights = (List.replicate 16384 zeros5).flatten) (i j : Nat) (hi : i < 512) (hj : j < 256) :
    c.weight i j = 0 := by
  have hne : ((List.replicate 16384 zeros5).flatten).isEmpty = false := rfl
  obtain ⟨m, hm, hme⟩ : ∃ m, m < 131072 ∧ 256 * i + j = m := ⟨_, by omega, rfl⟩
  have hb : 5 * m / 8 = 5 * (m / 8) + 5 * (m % 8) / 8 := by omega
  have ho : 5 * m % 8 = 5 * (m % 8) % 8 := by omega
  rw [Cells.weight, hc, hne, hme]
  simp only [leAt, bytesAt, hb, ho]
  rw [drop_zeros _ _ _ (by omega) (by omega)]
  rw [five_zeros ⟨m % 8, Nat.mod_lt _ (by decide)⟩]
  rfl

theorem weightField_zeros (w : Nat → Nat → Int) (h : ∀ i < 512, ∀ j < 256, w i j = 0) :
    weightField w = (List.replicate 16384 zeros5).flatten := by
  have e : ∀ n ∈ List.range 16384,
      leBytes 5 (((List.range 8).map fun e => (w ((8 * n + e) / 256) ((8 * n + e) % 256) + 15).toNat * 32 ^ e).sum) = zeros5 := by
    intro n hn
    have hn := List.mem_range.1 hn
    have := List.map_congr_left (l := List.range 8) (f := fun e => (w ((8 * n + e) / 256) ((8 * n + e) % 256) + 15).toNat * 32 ^ e)
      (g := fun e => 15 * 32 ^ e) fun k hk => by
        have hk := List.mem_range.1 hk
        simp only [h _ (by omega : (8 * n + k) / 256 < 512) _ (Nat.mod_lt _ (by decide))]; rfl
    rw [this, zeros5]
  rw [weightField, List.flatMap, List.map_congr_left e, List.map_const', List.length_range]

/-- Tile 4,095 being read back, programmed with weights of 0, and no cell outside its window. -/
def clean : State := ((((up.putSlot 0 (slot0 true)).setWrites [write0 2]).putTile 4095 { TileRec.reset with rbSlots := readSlots }).wr
  R.QCAL_STAT_STATE 7 0).putCells 4095 { Cells.none with weights := (List.replicate 16384 zeros5).flatten }

theorem wit_TilesAreWritten_clean : clean.rd R.QCAL_STAT_STATE (quadOf 4095) ≠ 1 ∧ readSlots ≤ (clean.tile 4095).rbSlots ∧
    clean.writes.find? (fun w => w.tile == 4095 && w.st == 2) = some (write0 2) ∧ (write0 2).pair = false := by decide +kernel

theorem wit_TilesAreWritten_match : clean.mismatch 4095 [] = false := by
  have hd : clean.findShard (clean.occOf 4095).digest = none := by decide +kernel
  have hw : (clean.cellsOf 4095).weights = (List.replicate 16384 zeros5).flatten := rfl
  have hf := weightField_zeros (clean.readWeight 4095 []) fun i hi j hj => by
    simp [State.readWeight, State.cellLevel, weight_zeros _ hw i j hi hj]
  simp only [State.mismatch, hd, hf, hw, bne_self_eq_false]

namespace WWeightSetsAreReceived

def arm (ps : List Nat) := (ask up 15 0x0501 ([11, 1, 0, 0] ++ ps)).wr R.CLK_EN_RX 0 0xFFF
def ok := arm [0, 0, 0x40, 1, 0, 0, 0xC0, 0]
def low := arm [0xFC, 0xFF, 0x3F, 1, 4, 0, 0, 0]
def busy := ok.putArm 3 { Arm.none with set := true, port := 11 }
def d := (ask up 15 0x0502 [3]).putArm 3 { Arm.none with set := true, purpose := 3 }
def f := (ask up 15 0x0502 [3]).putArm 3 { Arm.none with set := true, purpose := 5, inFrame := true }
def b := (ask up 15 0x0201 [7, 0, 11]).wr R.CLK_EN_RX 0 0xFFF
def c (st : Nat) (m : List Byte) := (ask up 15 0x0202 [7]).putSlot 7 ⟨st, 0, m, []⟩
def x (st : Nat) := (ask up 15 0x0203 [7]).putSlot 7 ⟨st, 0, [], []⟩
def u := withJob ((x 2).wr R.WSET_JOB_SLOT 15 7) 15 id
def g (l : Nat) := (rx.putArm 3 { Arm.none with set := true, port := 11, purpose := l, limit := 4, addr := 0x01400000 })
def gf := (((rx.putArm 3 { Arm.none with set := true, port := 11, purpose := 3, limit := 4, addr := 0x01400000, inFrame := true, data := [1,2] }).wr R.BULK_STAT_BYTES 3 2))
def rng : BulkRange := ⟨0x01400000, 4, 4, 5, 7, 65535⟩
def x1 := b.putSlot 7 ⟨1, 0, [], []⟩
def x2 := c 0 []
def x3 := c 1 []
def x4 := c 1 ((List.replicate 0x0C 0 ++ [1, 0]) ++ List.replicate 0x80 0)
def x5 := x 0
def x6 := x 2
def x7 := x 3
def x8 := g 3
def x9 := ask up 15 0x0204 [7]
def x10 := up.setBulk [rng]

theorem wit_WeightSetsAreReceived :
    up.rxOn 11 = false ∧ List.find? (fun (r : BulkRange) => r.purpose == 5 && r.slot == 7 && r.shard == 65535) up.bulk = none ∧
    (up.slot 7).st ≠ 3 ∧ rx.rxOn 11 = true ∧ rx.armFor 11 = none ∧ ok.begins 15 1281 true (ok.rxClock (ok.req 15 8 1)) true = true ∧
    ok.armsBusy (ok.req 15 8 1) = false ∧ ok.rangeBusy (ok.req 15 12 4) (ok.req 15 16 4) = false ∧ 20971520 ≤ ok.req 15 12 4 ∧
    ok.req 15 12 4 + ok.req 15 16 4 ≤ 33554432 ∧ low.begins 15 1281 true (low.rxClock (low.req 15 8 1)) true = true ∧
    low.armsBusy (low.req 15 8 1) = false ∧ low.rangeBusy (low.req 15 12 4) (low.req 15 16 4) = false ∧
    (low.req 15 12 4 < 20971520 ∨ 33554432 < low.req 15 12 4 + low.req 15 16 4) ∧
    busy.begins 15 1281 true (busy.rxClock (busy.req 15 8 1)) true = true ∧
    (busy.armsBusy (busy.req 15 8 1) = true ∨ busy.rangeBusy (busy.req 15 12 4) (busy.req 15 16 4) = true) ∧
    d.begins 15 1282 true true true = true ∧ (d.arm (d.req 15 8 1)).set = true ∧ (d.arm (d.req 15 8 1)).inFrame = false ∧
    (d.arm (d.req 15 8 1)).purpose ≠ 5 ∧ f.begins 15 1282 true true true = true ∧ (f.arm (f.req 15 8 1)).set = true ∧
    (f.arm (f.req 15 8 1)).inFrame = true ∧ b.begins 15 513 true (b.rxClock (b.req 15 10 1)) true = true ∧ (b.slot (b.req 15 8 1)).st = 0 ∧
    b.armsBusy (b.req 15 10 1) = false ∧ (∀ k < 4, (b.arm k).set = true → (b.arm k).purpose = 4 → (b.arm k).slot ≠ b.req 15 8 1) ∧
    x1.begins 15 513 true (x1.rxClock (x1.req 15 10 1)) true = true ∧ (x1.slot (x1.req 15 8 1)).st ≠ 0 ∧
    x2.begins 15 514 true true true = true ∧ (x2.slot (x2.req 15 8 1)).st ≠ 1 := by decide +kernel

theorem wit_WeightSetsAreReceived_2 :
    x3.begins 15 514 true true true = true ∧ (x3.slot (x3.req 15 8 1)).st = 1 ∧ (x3.slot (x3.req 15 8 1)).absent = none ∧
    x4.begins 15 514 true true true = true ∧ (x4.slot (x4.req 15 8 1)).st = 1 ∧ ((x4.slot (x4.req 15 8 1)).absent).isSome = true ∧
    x5.begins 15 515 true true true = true ∧ ((x5.slot (x5.req 15 8 1)).st = 0 ∨ (x5.slot (x5.req 15 8 1)).st = 3) ∧
    x6.begins 15 515 true true true = true ∧ ((x6.slot (x6.req 15 8 1)).st = 1 ∨ (x6.slot (x6.req 15 8 1)).st = 2) ∧
    (∀ j < 16, x6.usesSlot j (x6.req 15 8 1) = false) ∧ (x7.slot 7).st = 3 ∧ u.begins 15 515 true true true = true ∧
    ((u.slot (u.req 15 8 1)).st = 1 ∨ (u.slot (u.req 15 8 1)).st = 2) ∧ (∃ j < 16, u.usesSlot j (u.req 15 8 1) = true) ∧ x8.rxOn 11 = true ∧
    (x8.armFor 11).isSome = true ∧ (x8.arm (got (x8.armFor 11))).inFrame = false ∧ (x8.arm (got (x8.armFor 11))).purpose ≤ 3 ∧
    (x8.arm (got (x8.armFor 11))).limit < 2 ^ 24 ∧ [7, 9].length ≤ (x8.arm (got (x8.armFor 11))).limit ∧ gf.rxOn 11 = true ∧
    (gf.armFor 11).isSome = true ∧ (gf.arm (got (gf.armFor 11))).purpose ≤ 3 ∧ (gf.arm (got (gf.armFor 11))).limit < 2 ^ 24 ∧
    (gf.arm (got (gf.armFor 11))).inFrame = true ∧ (gf.arm (got (gf.armFor 11))).outcome = 0 ∧
    gf.rd R.BULK_STAT_BYTES (got (gf.armFor 11)) + [1, 2].length ≤ (gf.arm (got (gf.armFor 11))).limit ∧
    x9.begins 15 516 true true true = true ∧
    (List.find? (fun (r : BulkRange) => r.purpose == 5 && r.slot == 7 && r.shard == 65535) x10.bulk).isSome = true := by decide +kernel

end WWeightSetsAreReceived

namespace WWeightSetsAreStaged

def due := (withJob up 15 fun j => { j with bellDue := true }).setBatches [{ batch0 with job := 15, started := true }]
def cut := (withJob up 15 fun j => { j with bellDue := true }).setBatches [{ batch0 with job := 15, started := true, todo := [input0] }]
def st (n : Nat) (f : Job → Job) := withJob ((ask up 15 0x0205 [15, 7, 0]).putSlot 7 ⟨n, 0, [], []⟩) 15 f
def ring (n : Nat) := withJob ((ask up 15 0x0206 [15]).wr R.WSET_JOB_STAGE 15 n) 15 id
def ringc := (ring 2).setBatches cut.batches
def ab (n : Nat) := withJob ((ask up 15 0x0207 [15]).wr R.WSET_JOB_STAGE 15 n) 15 id
def dd := (st 2 id).putSlot 7 ⟨2, 0, List.replicate 0x0C 0 ++ [1, 0] ++ List.replicate 0x80 0, []⟩
def x1 := st 2 id
def x2 := st 0 id
def x3 := st 2 (fun j => { j with st := .empty })
def x4 := (st 2 id).wr R.WSET_JOB_STAGE 15 1
def x5 := ring 0
def x6 := ring 1
def x7 := ring 2
def x9 := ab 0
def x10 := ab 1
def x12 := ab 3
def x14 := ask up 15 0x0208 [15]

theorem wit_WeightSetsAreStaged :
    ((up.job 15).bellDue = false ∨ up.cutting 15 = true) ∧ (due.job 15).bellDue = true ∧ due.cutting 15 = false ∧
    due.batchesOfGen 15 (due.rd R.WSET_JOB_GEN 15) ≠ [] ∧ x1.begins 15 517 x1.notStopped true true = true ∧
    (x1.job (x1.req 15 8 1)).admitted = true ∧ (x1.slot (x1.req 15 9 1)).st = 2 ∧
    x1.sameShape (x1.req 15 8 1) (x1.rd R.WSET_JOB_SLOT (x1.req 15 8 1)) (x1.req 15 9 1) = true ∧ x1.stagingOn (x1.req 15 8 1) = false ∧
    x1.req 15 10 1 = 0 ∧ x2.begins 15 517 x2.notStopped true true = true ∧ (x2.job (x2.req 15 8 1)).admitted = true ∧
    (x2.slot (x2.req 15 9 1)).st ≠ 2 ∧ x3.begins 15 517 x3.notStopped true true = true ∧ (x3.job (x3.req 15 8 1)).admitted = false ∧
    x4.begins 15 517 x4.notStopped true true = true ∧ (x4.job (x4.req 15 8 1)).admitted = true ∧ (x4.slot (x4.req 15 9 1)).st = 2 ∧
    x4.sameShape (x4.req 15 8 1) (x4.rd R.WSET_JOB_SLOT (x4.req 15 8 1)) (x4.req 15 9 1) = true ∧ x4.stagingOn (x4.req 15 8 1) = true ∧
    dd.begins 15 517 dd.notStopped true true = true ∧ (dd.job (dd.req 15 8 1)).admitted = true := by decide +kernel

theorem wit_WeightSetsAreStaged_2 :
    (dd.slot (dd.req 15 9 1)).st = 2 ∧ dd.sameShape (dd.req 15 8 1) (dd.rd R.WSET_JOB_SLOT (dd.req 15 8 1)) (dd.req 15 9 1) = false ∧
    x5.begins 15 518 x5.notStopped true true = true ∧ x5.rd R.WSET_JOB_STAGE (x5.req 15 8 1) ≠ 1 ∧ x5.rd R.WSET_JOB_STAGE (x5.req 15 8 1) ≠ 2 ∧
    x6.begins 15 518 x6.notStopped true true = true ∧ x6.rd R.WSET_JOB_STAGE (x6.req 15 8 1) = 1 ∧
    x7.begins 15 518 x7.notStopped true true = true ∧ x7.rd R.WSET_JOB_STAGE (x7.req 15 8 1) = 2 ∧ x7.cutting (x7.req 15 8 1) = false ∧
    ringc.begins 15 518 ringc.notStopped true true = true ∧ ringc.rd R.WSET_JOB_STAGE (ringc.req 15 8 1) = 2 ∧
    ringc.cutting (ringc.req 15 8 1) = true ∧ x9.begins 15 519 true true true = true ∧
    (x9.rd R.WSET_JOB_STAGE (x9.req 15 8 1) = 0 ∨ x9.rd R.WSET_JOB_STAGE (x9.req 15 8 1) = 4) ∧ x10.begins 15 519 true true true = true ∧
    (x10.rd R.WSET_JOB_STAGE (x10.req 15 8 1) = 1 ∨ x10.rd R.WSET_JOB_STAGE (x10.req 15 8 1) = 2) ∧
    x10.runningWith 261 (x10.req 15 8 1) = none ∧ x12.begins 15 519 true true true = true ∧ x12.rd R.WSET_JOB_STAGE (x12.req 15 8 1) = 3 ∧
    x14.begins 15 520 true true true = true := by decide +kernel

end WWeightSetsAreStaged

theorem wit_WeightSetsAreStaged_unchanged : ∀ n, (withJob up 15 id).changed 15 0 7 n = false := fun _ => rfl

namespace WJobsAreLoadedAndRun

def x1 := loading0.setFirstForm 2

theorem wit_JobsAreLoadedAndRun :
    loading0.begins 15 257 loading0.notStopped true (loading0.loadBad 15).isNone = true ∧ loading0.firstForm = 4 ∧
    loading0.loadOptical 15 Section.none = false ∧ x1.begins 15 257 x1.notStopped true (x1.loadBad 15).isNone = true ∧ x1.firstForm ≠ 4 := by decide +kernel

end WJobsAreLoadedAndRun

namespace WJobsAreLoadedAndRun2

def st (n : Nat) (f : Job → Job) := withJob ((ask up 15 0x0205 [15, 7, 0]).putSlot 7 ⟨n, 0, [], []⟩) 15 f
def sec : Section := Section.none
def a (code : Nat) (ps : List Nat) (st : JobState) : State := withJob (ask up 15 code ps) 15 fun j => { j with st := st }
def un := withJob (ask up 15 0x0102 [15]) 15 fun j => { j with st := .loaded, sec := { j.sec with paths := [path0 0] } }
def b := (a 0x0103 [15] .running).setBatches [{ batch0 with job := 15 }]
def g (n : Nat) := a 0x0105 [15, n] .running
def x1 := a 0x0102 [15] .loaded
def x2 := a 0x0102 [15] .running
def x3 := a 0x0103 [15] .loaded
def x4 := a 0x0103 [15] .running
def x5 := a 0x0104 [15] .loaded
def x6 := a 0x0104 [15] .running
def x7 := g 0
def x8 := g 1
def x9 := a 0x0105 [15, 0] .empty
def x10 := a 0x0106 [15] .empty
def x11 := ask up 15 0x0001 [127]

theorem wit_JobsAreLoadedAndRun_2 :
    x1.begins 15 258 x1.notStopped true true = true ∧ (x1.job (x1.req 15 8 1)).st = JobState.loaded ∧ x1.outUnmapped (x1.req 15 8 1) = false ∧
    (x1.half 0).failed = false ∧ (x1.half 1).failed = false ∧ x1.split = false ∧ (∀ c ∈ x1.cluOut, c ∉ (x1.job (x1.req 15 8 1)).clusters) ∧
    x2.begins 15 258 x2.notStopped true true = true ∧ (x2.job (x2.req 15 8 1)).st ≠ JobState.loaded ∧
    un.begins 15 258 un.notStopped true true = true ∧ (un.job (un.req 15 8 1)).st = JobState.loaded ∧ un.outUnmapped (un.req 15 8 1) = true ∧
    b.begins 15 259 true true true = true ∧ (b.job (b.req 15 8 1)).started = true ∧ (b.job (b.req 15 8 1)).restart = none ∧
    (∃ b ∈ WJobsAreLoadedAndRun2.b.batches, b.job = WJobsAreLoadedAndRun2.b.req 15 8 1) ∧ x3.begins 15 259 true true true = true ∧
    (x3.job (x3.req 15 8 1)).started = false ∧ x4.begins 15 259 true true true = true := by decide +kernel

theorem wit_JobsAreLoadedAndRun_3 :
    (x4.job (x4.req 15 8 1)).started = true ∧ (x4.job (x4.req 15 8 1)).restart = none ∧ x4.mbxOrder = [15] ∧
    (∀ b ∈ x4.batches, b.job ≠ x4.req 15 8 1) ∧ x5.begins 15 260 true true true = true ∧ (x5.job (x5.req 15 8 1)).st = JobState.loaded ∧
    x6.begins 15 260 true true true = true ∧ (x6.job (x6.req 15 8 1)).st ≠ JobState.loaded ∧ x7.begins 15 261 x7.notStopped true true = true ∧
    (x7.job (x7.req 15 8 1)).admitted = true ∧ (x7.job (x7.req 15 8 1)).declares (x7.req 15 9 1) = true ∧
    x7.gradeChips (x7.req 15 8 1) (x7.req 15 9 1) = [] ∧ x8.begins 15 261 x8.notStopped true true = true ∧
    (x8.job (x8.req 15 8 1)).admitted = true ∧ (x8.job (x8.req 15 8 1)).declares (x8.req 15 9 1) = false ∧
    x9.begins 15 261 x9.notStopped true true = true ∧ (x9.job (x9.req 15 8 1)).admitted = false ∧ x10.begins 15 262 true true true = true ∧
    x11.begins 15 1 true true true = true := by decide +kernel

end WJobsAreLoadedAndRun2

namespace WClocksAreJudged

def x := (up.wr R.CLK_STAT_XTAL_ACTIVE 0 1).wr R.CLK_STAT_RC_READY 0 1
def c (s : State) (f : Clk → Clk) := s.putClk (f s.clk)
def rc := (up.wr R.CLK_STAT_REF 0 1).wr R.CLK_STAT_RC_READY 0 1
def xf := (c x fun k => { k with fed := true }).wr R.CLK_STAT_LOCKED 0 0xAF
def x2 := xf.wr R.CLK_STAT_RC_READY 0 0
def x7 := c x fun k => { k with judged := true }
def x10 := c x fun k => { k with mux := .toRc }
def x11 := c up fun k => { k with mux := .toRc }
def x12 := c x fun k => { k with mux := .toCrystal }
def x13 := c up fun k => { k with mux := .toCrystal }
def x14 := c x fun k => { k with obs := true }
def x15 := c up fun k => { k with mux := .toRc, muxAt := up.now }
def x16 := (rc.wr R.CLK_STAT_XTAL_GOOD 0 1)

theorem wit_ClocksAreJudged :
    up.xtalActive = false ∧ up.rcReady = false ∧ (∀ j < 16, (up.job j).started = false) ∧ up.clk.judged = false ∧ 1500 * usec ≤ up.now ∧
    up.clk.mux = RefSwitch.none ∧ up.clk.obs = false ∧ (up.loopLocked 7 = true ∨ up.clk.fed = false) ∧
    (up.loopLocked 7 = false ∨ up.clk.fed = false) ∧ up.on R.CLK_STAT_FAULT 0 = false ∧ up.clk.fed = false ∧
    up.passed (up.clk.tripAt.getD (up.clk.rcLostAt.getD up.now)) (2 * msec) = true ∧
    (up.xtalGood = false ∨ up.onRc = false ∨ up.clk.mux ≠ RefSwitch.none) ∧ x.xtalActive = true ∧ (x.onRc = true ∨ x.clk.fed = false) ∧
    x.rcReady = true ∧ (9994 < 9995 ∨ 10005 < 9994) ∧
    (x.on R.CLK_STAT_FAULT 0 = true ∨
      x.clk.fed = true ∨ x.rcReady = true ∨ x.passed (x.clk.tripAt.getD (x.clk.rcLostAt.getD x.now)) (2 * msec) = false) ∧
    xf.loopLocked 7 = true := by decide +kernel

theorem wit_ClocksAreJudged_2 :
    xf.clk.fed = true ∧ x2.xtalActive = true ∧ x2.onRc = false ∧ x2.clk.fed = true ∧ x2.rcReady = false ∧
    (x7.clk.judged = true ∨ x7.now < 1500 * usec) ∧ x10.clk.mux = RefSwitch.toRc ∧ x10.rcReady = true ∧ x11.clk.mux = RefSwitch.toRc ∧
    x11.rcReady = false ∧ x12.clk.mux = RefSwitch.toCrystal ∧ x12.xtalActive = true ∧ x13.clk.mux = RefSwitch.toCrystal ∧
    x13.xtalActive = false ∧ x10.muxReady = true ∧ x11.muxReady = true ∧ x12.muxReady = true ∧ x13.muxReady = true ∧
    x15.muxReady = false ∧ x14.clk.obs = true ∧ x14.obsRuns (x14.rd R.CLK_OBS_CFG_SRC 0) = true ∧ x16.xtalGood = true ∧ x16.onRc = true ∧
    x16.clk.mux = RefSwitch.none := by decide +kernel

end WClocksAreJudged

namespace WClocksAreJudged2

def x := (up.wr R.CLK_STAT_XTAL_ACTIVE 0 1).wr R.CLK_STAT_RC_READY 0 1
def c (s : State) (f : Clk → Clk) := s.putClk (f s.clk)
def xf := (c x fun k => { k with fed := true }).wr R.CLK_STAT_LOCKED 0 0xAF
def x1 := ((c xf fun k => { k with obs := true }).wr R.CLK_EN_OBS 0 1).wr R.CLK_OBS_CFG_DIV 0 3

theorem wit_ClocksAreJudged_3 :
    x1.xtalActive = true ∧ x1.rcReady = true ∧ (0 < 9995 ∨ 10005 < 0) ∧ x1.clk.judged = false ∧ 1500 * usec ≤ x1.now ∧
    x1.clk.mux = RefSwitch.none ∧ x1.clk.obs = true ∧ x1.obsRuns (x1.rd R.CLK_OBS_CFG_SRC 0) = true ∧
    (x1.loopLocked 7 = true ∨ x1.clk.fed = false) ∧ x1.loopLocked 7 = true ∧ x1.clk.fed = true ∧
    (x1.on R.CLK_STAT_FAULT 0 = true ∨
      x1.clk.fed = true ∨ x1.rcReady = true ∨ x1.passed (x1.clk.tripAt.getD (x1.clk.rcLostAt.getD x1.now)) (2 * msec) = false) ∧
    (x1.xtalGood = false ∨ x1.onRc = false ∨ x1.clk.mux ≠ RefSwitch.none) := by decide +kernel

end WClocksAreJudged2

namespace WClocksAreJudged3

def fedUp := (up.putClk { up.clk with fed := true }).wr R.CLK_STAT_LOCKED 0 0

theorem wit_ClocksAreJudged_4 :
    fedUp.xtalActive = false ∧ fedUp.rcReady = false ∧ (∀ j < 16, (fedUp.job j).started = false) ∧ fedUp.clk.judged = false ∧
    1500 * usec ≤ fedUp.now ∧ fedUp.clk.mux = RefSwitch.none ∧ fedUp.clk.obs = false ∧ fedUp.loopLocked 7 = false ∧ fedUp.clk.fed = true ∧
    (fedUp.loopLocked 7 = false ∨ fedUp.clk.fed = false) ∧
    (fedUp.on R.CLK_STAT_FAULT 0 = true ∨
      fedUp.clk.fed = true ∨
        fedUp.rcReady = true ∨ fedUp.passed (fedUp.clk.tripAt.getD (fedUp.clk.rcLostAt.getD fedUp.now)) (2 * msec) = false) ∧
    (fedUp.xtalGood = false ∨ fedUp.onRc = false ∨ fedUp.clk.mux ≠ RefSwitch.none) := by decide +kernel

end WClocksAreJudged3

namespace WBootAndIdentity

def bo (p k : Nat) := late.putBoot { Boot.reset with phase := p, bank := k }
def good : FwImage := { FwImage.none with ckpt := 1, fenceLo := 0, fenceHi := 15 }
def x1 := bo 1 0
def x3 := bo 1 2
def x4 := bo 2 0
def x5 := late.wr R.PROT_STAT_DBG_LOCKED 0 1

theorem wit_BootAndIdentity :
    up.boot.phase ≠ 1 ∧ up.boot.phase ≠ 2 ∧ (up.on R.PROT_STAT_DBG_LOCKED 0 = false ∨ true = true) ∧ x1.boot.phase = 1 ∧
    x1.bankBoots x1.boot.bank none = none ∧ (nextBank x1.fw.preferred x1.boot.bank).isSome = true ∧
    (x1.bankBoots x1.boot.bank (some good)).isSome = true ∧ x3.boot.phase = 1 ∧ x3.bankBoots x3.boot.bank none = none ∧
    nextBank x3.fw.preferred x3.boot.bank = none ∧ x4.boot.phase = 2 ∧ x4.boot.at_ = none ∧ x5.on R.PROT_STAT_DBG_LOCKED 0 = true := by decide +kernel

end WBootAndIdentity

namespace WBootAndIdentity2

def l := ((ask up 15 0x0803 [0, 0, 0x40, 1, 0, 5, 0, 0]).setBulk [⟨0x01400000, 1280, 1280, 3, 0, 0⟩])
def w := (((l.wr R.SUP_STAT_SUBST 0 2).wr R.SUP_STAT_CKPT_FMT 0 0).wr R.PROT_FENCE_FENCE_LO 0 0).wr R.PROT_FENCE_FENCE_HI 0 0
def x1 := ask up 15 0x0802 []
def x2 := ask up 15 0x0801 (List.replicate 32 1)

theorem wit_BootAndIdentity_2 :
    l.boot.phase ≠ 1 ∧ l.boot.phase ≠ 2 ∧ (l.on R.PROT_STAT_DBG_LOCKED 0 = false ∨ true = true) ∧ l.begins 15 2051 true true true = true ∧
    l.rd R.SUP_STAT_SUBST 0 ≠ 2 ∧ w.begins 15 2051 true true true = true ∧ w.rd R.SUP_STAT_SUBST 0 = 2 ∧
    w.req 15 12 4 = leAt (w.stBytes (w.req 15 8 4) 64) 8 4 + 1280 ∧ w.fwGot (w.req 15 8 4) (w.req 15 12 4) = true ∧
    (fwImage (w.stBytes (w.req 15 8 4) (w.req 15 12 4))).ckpt = w.rd R.SUP_STAT_CKPT_FMT 0 ∧
    (fwImage (w.stBytes (w.req 15 8 4) (w.req 15 12 4))).fenceLo = w.rd R.PROT_FENCE_FENCE_LO 0 ∧
    (fwImage (w.stBytes (w.req 15 8 4) (w.req 15 12 4))).fenceHi = w.rd R.PROT_FENCE_FENCE_HI 0 ∧ x1.begins 15 2050 true true true = true ∧
    x2.begins 15 2049 true true true = true := by decide +kernel

end WBootAndIdentity2

namespace WSupervisorsTakeOver

def s (n : Nat) := up.wr R.SUP_STAT_SUBST 0 n
def early (n : Nat) := (s n).setSup { up.sup with rallyAt := up.now, answerAt := up.now }
def fw (n : Nat) := (s n).setSup { up.sup with fw := some (15, FwImage.none, 1, 0), copy := up.fwState }
def taking := up.setSup { up.sup with takingAt := some 0 }
def p := ask up 15 0x0901 (List.replicate 56 1)
def m (n : Nat) := ask up 15 0x0902 [n]
def f := withJob ((ask up 15 0x0903 [15, 0x0C]).wr R.SYS_STAT_SYS_STATE 0 stTest) 15 id
def r := (ask up 15 0x0903 [15, 1]).wr R.SYS_STAT_SYS_STATE 0 stTest
def x2 := s 1
def x3 := s 2
def x4 := early 0
def x6 := fw 1
def x7 := fw 2
def x8 := m 1
def x9 := m 2

theorem wit_SupervisorsTakeOver :
    up.supRuns = true ∧ up.passed up.sup.rallyAt (up.hubTime (20 * usec)) = true ∧
    (up.rd R.SUP_STAT_SUBST 0 ≠ 1 ∨ up.sup.acked ≠ up.sup.sent ∨ up.sup.copy ≠ up.fwState) ∧ up.sup.takingAt = none ∧ up.sup.fw = none ∧
    up.boot.phase = 3 ∧ up.rd R.SUP_STAT_SUBST 0 ≠ 2 ∧ up.passed up.sup.rallyAt (up.hubTime (2 * msec)) = true ∧ late.supRuns = false ∧
    (late.boot.phase ≠ 3 ∨ late.rd R.SUP_STAT_SUBST 0 = 2 ∨ late.passed late.sup.rallyAt (late.hubTime (2 * msec)) = false) ∧
    x2.supRuns = true ∧ x2.rd R.SUP_STAT_SUBST 0 ≠ 0 ∧ (x2.rd R.SUP_STAT_SUBST 0 = 1 ∨ x2.rd R.SUP_STAT_SUBST 0 = 2) ∧
    (true = true ∨ x2.passed x2.sup.answerAt (x2.hubTime (100 * usec)) = true) ∧ x2.sup.fw = none ∧ x2.rd R.SUP_STAT_SUBST 0 = 1 ∧
    x2.sup.acked = x2.sup.sent ∧ x2.sup.copy = x2.fwState ∧ x3.supRuns = true ∧ x3.rd R.SUP_STAT_SUBST 0 = 2 ∧
    (true = true ∨ x3.sup.rallyOk = false ∨ x3.passed x3.sup.rallyAt (x3.hubTime (100 * usec)) = true) ∧ x4.supRuns = true := by decide +kernel

theorem wit_SupervisorsTakeOver_2 :
    x4.passed x4.sup.rallyAt (x4.hubTime (20 * usec)) = false ∧ x6.supRuns = true ∧
    x6.sup.fw = some ((got x6.sup.fw).1, (got x6.sup.fw).2.1, (got x6.sup.fw).2.2.1, (got x6.sup.fw).2.2.2) ∧ (got x6.sup.fw).1 < 16 ∧
    x6.rd R.SUP_STAT_SUBST 0 ≠ 2 ∧ x6.passed (got x6.sup.fw).2.2.2 (x6.hubTime (4000 * msec)) = true ∧ x7.supRuns = true ∧
    x7.sup.fw = some ((got x7.sup.fw).1, (got x7.sup.fw).2.1, (got x7.sup.fw).2.2.1, (got x7.sup.fw).2.2.2) ∧ (got x7.sup.fw).1 < 16 ∧
    x7.rd R.SUP_STAT_SUBST 0 = 2 ∧ taking.sup.takingAt.isSome = true ∧ taking.sup.fw = none ∧ p.begins 15 2305 true true true = true ∧
    x8.begins 15 2306 (decide (x8.sysState ≠ stStartUp)) true true = true ∧ x8.req 15 8 1 = 1 ∧
    x9.begins 15 2306 (decide (x9.sysState ≠ stStartUp)) true true = true ∧ x9.req 15 8 1 = 2 ∧
    f.begins 15 2307 (decide (f.sysState = stTest)) true true = true ∧ (f.job (f.req 15 8 1)).live = true ∧
    (f.job (f.req 15 8 1)).restart = none ∧ r.begins 15 2307 (decide (r.sysState = stTest)) true true = true ∧
    (r.job (r.req 15 8 1)).live = false := by decide +kernel

end WSupervisorsTakeOver

namespace WPowerIsLostAndRestored

def p (f : Pwr → Pwr) (s : State) := s.putPwr (f s.pwr)
def ok (m b : Nat) := (up.wr R.PWR_STAT_MAIN_OK 0 m).wr R.PWR_STAT_BACKUP_OK 0 b
def st (n : Nat) (s : State) := s.wr R.PWR_STAT_STATE 0 n
def stop (a : Nat) (b : Bool) := st psStopping (p (fun x => { x with stopAt := some a, stopFault := b }) up)
def src1 := (ok 1 1).wr R.PWR_STAT_SRC 0 1
def main0 := (p (fun x => { x with mainAt := some 0 }) src1).wr R.PWR_CFG_RET_MS 0 1
def fail0 := p (fun x => { x with failAt := some 0 }) (ok 0 0)
def east := up.wr R.PWR_STAT_EAST_ON 0 1
def stpd := (((p (fun x => { x with coolAt := some 0 }) (st psStopped up)).wr R.THERM_CFG_AUTO_RESUME 0 1).wr R.TEMP_MAX_MAX 0 0)
def start2 := (st psStart up).wr R.TEMP_MAX_MAX 0 1760
def lv (l : Nat) := (up.wr R.THR_STAT_LEVEL 0 l).wr R.TEMP_MAX_MAX 0 0
def lvn := (lv 15).putPwr { up.pwr with levelAt := up.now }
def x2 := ok 0 1
def x5 := stop 0 false
def x6 := stop 0 true
def x7 := st psStopped up
def x9 := lv 1

theorem wit_PowerIsLostAndRestored :
    up.pwr.off = false ∧ up.pwr.confirmed = false ∧ up.boot.phase ≠ 0 ∧ up.on R.PWR_STAT_SRC 0 = false ∧ up.inputOk false = false ∧
    (up.inputOk !true) = false ∧ (up.on R.PWR_STAT_SRC 0 = false ∨ up.inputOk false = false) ∧ up.pwr.failAt = none ∧
    (up.halfOn 1 = false ∨ up.supplyFailed 1 = true) ∧ up.halfOn (halfOfChip 3) = false ∧ up.power ≠ psStopping ∧ up.power ≠ psStopped ∧
    up.power = psStart ∧ up.tmax < 1760 ∧ x2.pwr.off = false ∧ x2.pwr.confirmed = false ∧ x2.on R.PWR_STAT_SRC 0 = false ∧
    x2.inputOk true = true ∧ src1.on R.PWR_STAT_SRC 0 = true ∧ src1.inputOk false = true ∧ main0.on R.PWR_STAT_SRC 0 = true ∧
    main0.inputOk false = true ∧ (main0.pwr.mainAt).isSome = true ∧ main0.rd R.PWR_CFG_RET_MS 0 ≠ 0 ∧
    main0.passed (got main0.pwr.mainAt) (msec * main0.rd R.PWR_CFG_RET_MS 0) = true ∧ (fail0.pwr.failAt).isSome = true ∧
    fail0.passed (got fail0.pwr.failAt) (200 * usec) = true ∧ fail0.pwr.confirmed = false ∧ fail0.inputOk false = false ∧
    fail0.inputOk true = false ∧ east.halfOn 1 = true := by decide +kernel

theorem wit_PowerIsLostAndRestored_2 :
    east.supplyFailed 1 = false ∧ east.halfOn (halfOfChip 3) = true ∧ east.meshJob 3 = none ∧ x5.power = psStopping ∧
    (x5.pwr.stopAt).isSome = true ∧ x5.passed (got x5.pwr.stopAt) (2000 * usec) = true ∧ x5.pwr.stopFault = false ∧ x5.power ≠ psStart ∧
    x6.power = psStopping ∧ (x6.pwr.stopAt).isSome = true ∧ x6.passed (got x6.pwr.stopAt) (2200 * usec) = true ∧ x6.pwr.stopFault = true ∧
    x7.power = psStopped ∧ x7.tmax ≤ x7.tResume ∧ stpd.power = psStopped ∧ stpd.on R.THERM_CFG_AUTO_RESUME 0 = true ∧
    (stpd.pwr.coolAt).isSome = true ∧ stpd.passed (got stpd.pwr.coolAt) (100 * msec) = true ∧ start2.power = psStart ∧ 1760 ≤ start2.tmax ∧
    759 ≤ 10 * (max 100 (min 380 (x9.rd R.THR_CFG_PWR_LIMIT 0)) - 20) ∧ x9.tmax ≤ 16 * ↑(max 80 (min 105 (x9.rd R.THR_CFG_T_THROTTLE 0))) - 48 ∧
    x9.rise < 20 ∧ x9.rd R.THR_STAT_LEVEL 0 < 16 ∧ x9.passed x9.pwr.levelAt msec = true ∧
    759 ≤ 10 * (max 100 (min 380 (lvn.rd R.THR_CFG_PWR_LIMIT 0)) - 20) ∧
    lvn.tmax ≤ 16 * ↑(max 80 (min 105 (lvn.rd R.THR_CFG_T_THROTTLE 0))) - 48 ∧ lvn.rise < 20 ∧ lvn.rd R.THR_STAT_LEVEL 0 < 16 ∧
    lvn.passed lvn.pwr.levelAt msec = false := by decide +kernel

end WPowerIsLostAndRestored

namespace WPowerIsLostAndRestored2

def confd := (up.putPwr { up.pwr with failAt := some 0, confirmed := true })
def lim := ((up.wr R.THR_STAT_LEVEL 0 2).wr R.TEMP_MAX_MAX 0 0).wr R.PWR_STAT_STATE 0 psFail
def lim1 := ((up.wr R.THR_STAT_LEVEL 0 1).wr R.TEMP_MAX_MAX 0 0).wr R.PWR_STAT_STATE 0 psStart

theorem wit_PowerIsLostAndRestored_3 :
    (confd.on R.PWR_STAT_SRC 0 = false ∨ confd.inputOk false = false) ∧ (confd.pwr.failAt).isSome = true ∧
    confd.passed (got confd.pwr.failAt) (210 * usec) = true ∧ confd.pwr.confirmed = true ∧
    (confd.halfOn 1 = false ∨ confd.supplyFailed 1 = true) ∧ confd.halfOn (halfOfChip 3) = false ∧ confd.power ≠ psStopping ∧
    confd.power ≠ psStopped ∧ confd.power = psStart ∧ confd.tmax < 1760 ∧ 10 * max 100 (min 380 (confd.rd R.THR_CFG_PWR_LIMIT 0)) < 3801 ∧
    1 < confd.rd R.THR_STAT_LEVEL 0 ∧ confd.pwr.off = false ∧ lim.pwr.off = false ∧ lim.pwr.confirmed = false ∧ lim.boot.phase ≠ 0 ∧
    lim.on R.PWR_STAT_SRC 0 = false ∧ lim.inputOk false = false ∧ (lim.inputOk !true) = false ∧ lim.pwr.failAt = none ∧ lim.power ≠ psStart ∧
    (lim.power = psFail ∨ lim.pwr.off = true) ∧ 10 * max 100 (min 380 (lim1.rd R.THR_CFG_PWR_LIMIT 0)) < 3801 ∧ lim1.rd R.THR_STAT_LEVEL 0 ≤ 1 := by decide +kernel

end WPowerIsLostAndRestored2

namespace WStoresAreMade

def n (e : Nat) := (ask up 15 0x0701 []).wr R.HOLDUP_ENERGY 0 e
def c (x : Nat) := (ask up 15 0x0702 [31, x]).wr R.HOLDUP_ENERGY 0 20
def run0 : NvRun := ⟨1, 5, some 15, 0, 0, [], 0⟩
def going := (up.setNvRun (some run0)).setNow 5500000
def soon := going.setNow 2000000
def conf := up.putPwr { up.pwr with confirmed := true }
def pr := ask up 15 0x0703 [3]
def x1 := n 540
def x2 := n 539
def x4 := c 0
def x5 := c 1

theorem wit_StoresAreMade :
    up.nvRun = none ∧ up.pwr.confirmed = false ∧ x1.begins 15 1793 true true true = true ∧ x1.pwr.confirmed = false ∧
    ((if x1.loopLocked 0 = true then 330 else 540) ≤ x1.rd R.HOLDUP_ENERGY 0) ∧ x2.begins 15 1793 true true true = true ∧
    (x2.pwr.confirmed = true ∨ x2.rd R.HOLDUP_ENERGY 0 < if x2.loopLocked 0 = true then 330 else 540) ∧
    x4.begins 15 1794 true true true = true ∧ x4.req 15 9 1 = 0 ∧ x5.begins 15 1794 true true true = true ∧ x5.req 15 9 1 = 1 ∧
    x5.pwr.confirmed = false ∧ 20 ≤ x5.rd R.HOLDUP_ENERGY 0 ∧ (readCounter x5 (x5.req 15 8 1)).2 < 4294967295 ∧ (going.nvRun).isSome = true ∧
    going.pwr.confirmed = false ∧ going.nvWhole run0 = true ∧ (soon.nvRun).isSome = true ∧ soon.nvWhole run0 = false ∧
    conf.nvRun = none ∧ conf.pwr.confirmed = true ∧ pr.begins 15 1795 true true true = true := by decide +kernel

end WStoresAreMade

theorem wit_StoresAreMade_counter : (readCounter (ask up 15 0x0702 [31, 1]) 31).2 < 0xFFFFFFFF := by decide +kernel

namespace WReferenceTrips

def x := (up.wr R.CLK_STAT_XTAL_ACTIVE 0 1).wr R.CLK_STAT_RC_READY 0 1
def c (s : State) (f : Clk → Clk) := s.putClk (f s.clk)
def xf := (c x fun k => { k with fed := true }).wr R.CLK_STAT_LOCKED 0 0xAF
def x2 := c x fun k => { k with mux := .toRc }

theorem wit_ReferenceTrips :
    xf.xtalActive = true ∧ xf.onRc = false ∧ xf.clk.fed = true ∧ x2.clk.mux = RefSwitch.toRc ∧ x2.muxReady = true ∧ x2.rcReady = true := by decide +kernel

end WReferenceTrips

namespace WThresholdWithinTolerance

def x1 := withJob ((ask up 15 0x0302 [150, 0]).wr R.CAL_THRESH_THRESH 0 149) 15 fun j => { j with hdr := { j.hdr with reqXbar := 149 } }

theorem wit_ThresholdWithinTolerance :
    x1.begins 15 770 true true true = true ∧ (x1.job 15).admitted = true ∧ x1.thresh < x1.req 15 8 2 ∧ (x1.job 15).hdr.reqXbar < x1.req 15 8 2 := by decide +kernel

end WThresholdWithinTolerance

end Sys2Proof.Tests
end

section
/-! PROOF. The family of 00_scope.md: the canonical form that every step keeps (O3, O4), and what a write of a register without an action
of its own leaves in it (O12). -/

namespace Sys2Proof.Machine

/-! ### What every command keeps -/

/-- A state's canonical form does not speak of the queue of waiting commands. -/
theorem State.Canonical.setPending {s : State} (h : s.Canonical) (q : List Instr) : (s.setPending q).Canonical := { h with }

/-- Every command completes, whatever its operands, and keeps what `Good` names: the cases are the arms of `exec`, each the lemma of its
meaning. -/
theorem good_exec {s0 s : State} (i : Instr) (h : Good s0 s) : ∃ t, exec i s = .next t ∧ Good s0 t := by
  cases i with
  | syncInEdge => exact good_execSyncInEdge h
  | holdoverTimeout => exact good_execHoldoverTimeout h
  | markPulseEnd => exact good_execMarkPulseEnd h
  | encoderTransition => exact good_execEncoderTransition h
  | clkTbSet => exact good_execClkTbSet h
  | clkEncPreset => exact good_execClkEncPreset h
  | streamMark => exact good_execStreamMark h
  | streamMarkClear => exact good_execStreamMarkClear h
  | dropRunTimeout => exact good_execDropRunTimeout h
  | periodicStatus => exact good_execPeriodicStatus h
  | frameStart => exact good_execFrameStart h
  | frameEnd => exact good_execFrameEnd h
  | lineStart => exact good_execLineStart h
  | longPacket => exact good_execLongPacket h
  | rxSkewCalibration => exact good_execRxSkewCalibration h
  | rxUlpsRequest => exact good_execRxUlpsRequest h
  | dispatch => exact good_execDispatch h
  | seatHoldExpiry => exact good_execSeatHoldExpiry h
  | routerGrant => exact good_execRouterGrant h
  | staleTokenDiscard => exact good_execStaleTokenDiscard h
  | frameTimeout => exact good_execFrameTimeout h
  | deskew => exact good_execDeskew h
  | ulpsEntry => exact good_execUlpsEntry h
  | recordSend => exact good_execRecordSend h
  | conversionEnd => exact good_execConversionEnd h
  | comparatorFire => exact good_execComparatorFire h
  | comparatorRearm => exact good_execComparatorRearm h
  | deglitchEnd => exact good_execDeglitchEnd h
  | plantLoad => exact good_execPlantLoad h
  | dacLoadEdge => exact good_execDacLoadEdge h
  | periodicStrobe => exact good_execPeriodicStrobe h
  | sineTick => exact good_execSineTick h
  | dacClearEdge => exact good_execDacClearEdge h
  | plantRelease => exact good_execPlantRelease h
  | channelSelfCheck => exact good_execChannelSelfCheck h
  | tokenReceipt => exact good_execTokenReceipt h
  | tileProduct => exact good_execTileProduct h
  | tileTimeout => exact good_execTileTimeout h
  | vectorOp => exact good_execVectorOp h
  | slotOpen => exact good_execSlotOpen h
  | partialAccumulate => exact good_execPartialAccumulate h
  | stateUpdate => exact good_execStateUpdate h
  | dmaTransfer => exact good_execDmaTransfer h
  | unitTimeout => exact good_execUnitTimeout h
  | meshSwap => exact good_execMeshSwap h
  | meshSwapForced => exact good_execMeshSwapForced h
  | meshAgeTrigger => exact good_execMeshAgeTrigger h
  | ambientUpdate => exact good_execAmbientUpdate h
  | trimStart => exact good_execTrimStart h
  | xtStart => exact good_execXtStart h
  | referenceLoss => exact good_execReferenceLoss h
  | heaterFault => exact good_execHeaterFault h
  | settleLate => exact good_execSettleLate h
  | pilotPass => exact good_execPilotPass h
  | meshToken => exact good_execMeshToken h
  | passLaunch => exact good_execPassLaunch h
  | meshOutputToken => exact good_execMeshOutputToken h
  | tableSwap => exact good_execTableSwap h
  | tableSwapForced => exact good_execTableSwapForced h
  | bell => exact good_execBell h
  | resultArrival => exact good_execResultArrival h
  | pathOrderEmit => exact good_execPathOrderEmit h
  | calibrationSlot => exact good_execCalibrationSlot h
  | writeVerifyStart => exact good_execWriteVerifyStart h
  | writeVerifyDone => exact good_execWriteVerifyDone h
  | readbackDone => exact good_execReadbackDone h
  | periodicReadback => exact good_execPeriodicReadback h
  | roundBuild => exact good_execRoundBuild h
  | calAgeTrigger => exact good_execCalAgeTrigger h
  | runStart => exact good_execRunStart h
  | copyMove => exact good_execCopyMove h
  | jobRestart => exact good_execJobRestart h
  | epochAdvance => exact good_execEpochAdvance h
  | restartComplete => exact good_execRestartComplete h
  | stallWatchdog => exact good_execStallWatchdog h
  | peerRestart => exact good_execPeerRestart h
  | hubLinkLoss => exact good_execHubLinkLoss h
  | halfFailTimeout => exact good_execHalfFailTimeout h
  | jobLoad => exact good_execJobLoad h
  | jobStart => exact good_execJobStart h
  | jobStop => exact good_execJobStop h
  | jobUnload => exact good_execJobUnload h
  | jobGrade => exact good_execJobGrade h
  | jobStatus => exact good_execJobStatus h
  | capsGet => exact good_execCapsGet h
  | circuitAdd => exact good_execCircuitAdd h
  | circuitUp => exact good_execCircuitUp h
  | circuitRemove => exact good_execCircuitRemove h
  | parkingDone => exact good_execParkingDone h
  | circuitDown => exact good_execCircuitDown h
  | codewordReceived => exact good_execCodewordReceived h
  | bridgeSample => exact good_execBridgeSample h
  | optExtSet => exact good_execOptExtSet h
  | optBridgeRoute => exact good_execOptBridgeRoute h
  | optCaptainSet => exact good_execOptCaptainSet h
  | optFeedSet => exact good_execOptFeedSet h
  | optStatus => exact good_execOptStatus h
  | sidebandHeartbeat => exact good_execSidebandHeartbeat h
  | sidebandLoss => exact good_execSidebandLoss h
  | halfSplit => exact good_execHalfSplit h
  | splitEnd => exact good_execSplitEnd h
  | matrixComputeDone => exact good_execMatrixComputeDone h
  | meshSettleDone => exact good_execMeshSettleDone h
  | xtalkRebuildDone => exact good_execXtalkRebuildDone h
  | oosCleared => exact good_execOosCleared h
  | optClockTimeout => exact good_execOptClockTimeout h
  | feedLoss => exact good_execFeedLoss h
  | feedPresent => exact good_execFeedPresent h
  | feedMoveDone => exact good_execFeedMoveDone h
  | ringSearchStart => exact good_execRingSearchStart h
  | ringSweepDone => exact good_execRingSweepDone h
  | ringSearchDone => exact good_execRingSearchDone h
  | toneWindow => exact good_execToneWindow h
  | ringDark => exact good_execRingDark h
  | ringLightReturn => exact good_execRingLightReturn h
  | ringDarkTimeout => exact good_execRingDarkTimeout h
  | partialResearchDone => exact good_execPartialResearchDone h
  | monitorSample => exact good_execMonitorSample h
  | streamBulkArm => exact good_execStreamBulkArm h
  | streamBulkDisarm => exact good_execStreamBulkDisarm h
  | bulkFrame => exact good_execBulkFrame h
  | shardWritten => exact good_execShardWritten h
  | wsetBegin => exact good_execWsetBegin h
  | wsetCommit => exact good_execWsetCommit h
  | wsetDelete => exact good_execWsetDelete h
  | eraseDone => exact good_execEraseDone h
  | wsetList => exact good_execWsetList h
  | wsetStage => exact good_execWsetStage h
  | wsetRing => exact good_execWsetRing h
  | wsetAbort => exact good_execWsetAbort h
  | wsetStatus => exact good_execWsetStatus h
  | calRun => exact good_execCalRun h
  | calThreshSet => exact good_execCalThreshSet h
  | calSave => exact good_execCalSave h
  | calRestore => exact good_execCalRestore h
  | calStatus => exact good_execCalStatus h
  | firstSweepTimer => exact good_execFirstSweepTimer h
  | firstSweepDone => exact good_execFirstSweepDone h
  | nvStore => exact good_execNvStore h
  | nvCount => exact good_execNvCount h
  | nvProtect => exact good_execNvProtect h
  | nvStoreEnd => exact good_execNvStoreEnd h
  | crystalStop => exact good_execCrystalStop h
  | rcStop => exact good_execRcStop h
  | rcReady => exact good_execRcReady h
  | ratioWindow => exact good_execRatioWindow h
  | startDeadline => exact good_execStartDeadline h
  | muxSwitchDone => exact good_execMuxSwitchDone h
  | loopLocked => exact good_execLoopLocked h
  | lockLoss => exact good_execLockLoss h
  | clockFaultEntry => exact good_execClockFaultEntry h
  | clkCfgReturn => exact good_execClkCfgReturn h
  | powerOnReset => exact good_execPowerOnReset h
  | bankCheckDone => exact good_execBankCheckDone h
  | bootDone => exact good_execBootDone h
  | debugAccess => exact good_execDebugAccess h
  | secIdGet => exact good_execSecIdGet h
  | secAttest => exact good_execSecAttest h
  | secFwLoad => exact good_execSecFwLoad h
  | journalRecord => exact good_execJournalRecord h
  | rally => exact good_execRally h
  | rallyMissed => exact good_execRallyMissed h
  | takeoverDone => exact good_execTakeoverDone h
  | substFollowing => exact good_execSubstFollowing h
  | substLost => exact good_execSubstLost h
  | supervisionLost => exact good_execSupervisionLost h
  | plannedTakeover => exact good_execPlannedTakeover h
  | fwCatchupTimeout => exact good_execFwCatchupTimeout h
  | diagPing => exact good_execDiagPing h
  | diagMode => exact good_execDiagMode h
  | diagFault => exact good_execDiagFault h
  | inputValid => exact good_execInputValid h
  | inputLost => exact good_execInputLost h
  | mainReturn => exact good_execMainReturn h
  | pwrCfgReturn => exact good_execPwrCfgReturn h
  | powerFailConfirm => exact good_execPowerFailConfirm h
  | powerFailSwitchOff => exact good_execPowerFailSwitchOff h
  | holdupSample => exact good_execHoldupSample h
  | halfSupplyFail => exact good_execHalfSupplyFail h
  | chipletRailFail => exact good_execChipletRailFail h
  | orderlyStopFault => exact good_execOrderlyStopFault h
  | orderlyStopOff => exact good_execOrderlyStopOff h
  | autoResume => exact good_execAutoResume h
  | resume => exact good_execResume h
  | endOfStart => exact good_execEndOfStart h
  | throttleEval => exact good_execThrottleEval h
  | sensorRead => exact good_execSensorRead h
  | enec => exact good_execEnec h
  | disec => exact good_execDisec h
  | rstdaa => exact good_execRstdaa h
  | entdaa => exact good_execEntdaa h
  | setdasa => exact good_execSetdasa h
  | setnewda => exact good_execSetnewda h
  | setmwl => exact good_execSetmwl h
  | getmwl => exact good_execGetmwl h
  | setmrl => exact good_execSetmrl h
  | getmrl => exact good_execGetmrl h
  | getpid => exact good_execGetpid h
  | getbcr => exact good_execGetbcr h
  | getdcr => exact good_execGetdcr h
  | getstatus => exact good_execGetstatus h
  | getcaps => exact good_execGetcaps h
  | enthdr0 => exact good_execEnthdr0 h
  | entas0 => exact good_execEntas0 h
  | entas1 => exact good_execEntas1 h
  | entas2 => exact good_execEntas2 h
  | entas3 => exact good_execEntas3 h
  | setxtime => exact good_execSetxtime h
  | getxtime => exact good_execGetxtime h
  | rstact => exact good_execRstact h
  | privateWrite => exact good_execPrivateWrite h
  | privateRead => exact good_execPrivateRead h
  | hdrDdrWrite => exact good_execHdrDdrWrite h
  | hdrDdrRead => exact good_execHdrDdrRead h
  | legacyI2cTraffic => exact good_execLegacyI2cTraffic h
  | inBandInterrupt => exact good_execInBandInterrupt h
  | ibiRetry => exact good_execIbiRetry h
  | hotJoin => exact good_execHotJoin h
  | registerWrite => exact good_execRegisterWrite h
  | statusWordRead => exact good_execStatusWordRead h
  | statusWriteBack => exact good_execStatusWriteBack h
  | wideValueRead => exact good_execWideValueRead h
  | keyUnlock => exact good_execKeyUnlock h
  | indAddrWrite => exact good_execIndAddrWrite h
  | indDataRead => exact good_execIndDataRead h
  | indDataWrite => exact good_execIndDataWrite h
  | indAccessDone => exact good_execIndAccessDone h
  | aliasRead => exact good_execAliasRead h
  | aliasWrite => exact good_execAliasWrite h
  | mbxReqWrite => exact good_execMbxReqWrite h
  | mbxRing => exact good_execMbxRing h
  | mbxRelease => exact good_execMbxRelease h
  | feedCfgWrite => exact good_execFeedCfgWrite h
  | halfCfgWrite => exact good_execHalfCfgWrite h
  | bridgeCfgWrite => exact good_execBridgeCfgWrite h
  | streamCfgWrite => exact good_execStreamCfgWrite h
  | outMapWrite => exact good_execOutMapWrite h
  | clkEnWrite => exact good_execClkEnWrite h
  | tbCfgWrite => exact good_execTbCfgWrite h
  | tbSyncHiWrite => exact good_execTbSyncHiWrite h
  | meshTblDataAccess => exact good_execMeshTblDataAccess h
  | tcalDataAccess => exact good_execTcalDataAccess h
  | ringDataAccess => exact good_execRingDataAccess h
  | tempDataAccess => exact good_execTempDataAccess h
  | ptDataRead => exact good_execPtDataRead h
  | nvRawDataRead => exact good_execNvRawDataRead h
  | sineTblDataAccess => exact good_execSineTblDataAccess h
  | nvArrayWrite => exact good_execNvArrayWrite h

/-- What a command answers is in canonical form, if what it found is. -/
theorem exec_keeps_canonical {i : Instr} {s t : State} (h : s.Canonical) (ht : exec i s = .next t) : t.Canonical := by
  obtain ⟨u, hu, hgood⟩ := good_exec i (Good.refl s)
  obtain rfl : u = t := by simpa [hu] using ht
  exact hgood.canonical h

/-- The state after reset lists no key in any of its maps. -/
theorem reset_canonical : State.reset.Canonical := by
  constructor <;> exact spWf_nil _

/-! ### Events, the key, and plain writes of registers -/

theorem fieldOf_or (lo w : Nat) (x y : Word) : fieldOf lo w (x ||| y) = fieldOf lo w x ||| fieldOf lo w y := by
  apply Nat.eq_of_testBit_eq
  intro i
  rw [Nat.testBit_or]
  simp only [fieldOf_testBit, BitVec.getLsbD_or, Bool.and_or_distrib_left]

theorem fieldOf_fieldMask (lo w : Nat) (h : lo + w ≤ 32) : fieldOf lo w (fieldMask lo w) = 2 ^ w - 1 := by
  apply Nat.eq_of_testBit_eq
  intro i
  rw [fieldOf_testBit, fieldMask_getLsbD, Nat.testBit_two_pow_sub_one]
  by_cases hi : i < w <;> simp [hi]
  omega

/-- A field above SEQ reads, after an event of its status word, as before but for the event's own bits, which are set. -/
theorem raise_rd_same_word (s : State) (f g : Fld) (i i' : Nat) (hk : g.key i' 0 = f.key i 0) (h4 : f.key i 0 ≠ 0x4) (hlo : 8 ≤ g.lo) :
    (s.raise f i).rd g i' = s.rd g i' ||| fieldOf g.lo g.w (fieldMask f.lo f.w) := by
  simp only [State.rd, State.rd2]
  rw [hk, raise_word_same s f i h4, fieldOf_withField_ne _ _ _ _ _ _ (.inr hlo), fieldOf_or]

/-- An event of a status word sets its field. -/
theorem raise_on_same (s : State) (f : Fld) (i : Nat) (h4 : f.key i 0 ≠ 0x4) (hlo : 8 ≤ f.lo) (hw : 0 < f.w) (hhi : f.lo + f.w ≤ 32) :
    (s.raise f i).on f i = true := by
  have hm : 2 ^ f.w - 1 ≠ 0 := by have := Nat.one_lt_two_pow hw.ne'; omega
  simp [State.on, raise_rd_same_word s f f i i rfl h4 hlo, fieldOf_fieldMask _ _ hhi, Nat.or_eq_zero_iff, hm]

/-- An event clears no field above SEQ of its own status word. -/
theorem raise_on_of_on (s : State) (f g : Fld) (i i' : Nat) (hk : g.key i' 0 = f.key i 0) (h4 : f.key i 0 ≠ 0x4) (hlo : 8 ≤ g.lo)
    (h : s.on g i' = true) : (s.raise f i).on g i' = true := by
  simp only [State.on, bne_iff_ne, ne_eq, raise_rd_same_word s f g i i' hk h4 hlo, Nat.or_eq_zero_iff] at h ⊢
  tauto

/-- An event writes its status word, and then at most the state of SYS_STAT (R294). -/
theorem raise_words (s : State) (f : Fld) (i : Nat) : ∃ u : State, (∀ k, k ≠ f.key i 0 → u.word k = s.word k) ∧
    (s.raise f i = u ∨ s.raise f i = u.wr R.SYS_STAT_SYS_STATE 0 stRecovery) := by
  unfold State.raise
  dsimp only
  refine ⟨_, fun k hk => ?_, (ite_eq_or_eq _ _ _).symm⟩
  split <;> split <;> exact word_setWord_ne s _ hk

/-- A field of SYS_STAT above the state of the module reads, after an event of another status word, as before. -/
theorem raise_rd_sysStat (s : State) (f g : Fld) (i i' : Nat) (h4 : f.key i 0 ≠ 0x4) (hg : g.key i' 0 = 0x4) (hlo : 2 ≤ g.lo) :
    (s.raise f i).rd g i' = s.rd g i' := by
  obtain ⟨u, hu, hraise⟩ := raise_words s f i
  have hrd : u.rd g i' = s.rd g i' := by
    simp only [State.rd, State.rd2, hu (g.key i' 0) fun e => h4 (e.symm.trans hg)]
  obtain hraise | hraise := hraise
  · rw [hraise, hrd]
  · rw [hraise, rd_wr_ne u R.SYS_STAT_SYS_STATE g 0 i' _ (.inr (.inr hlo)), hrd]

/-- The map assigns no direct address from 0x8_0000 on (R303). -/
theorem direct_key_lt {key : Nat} {r : RegSpec} (h : key < halfStep) (hr : findReg key = some r) : key < 0x80000 := by
  by_contra hge
  have hrows : regRows key = [] := by
    unfold regRows
    simp only [show ¬ key < 0x100 by omega, show ¬ key < 0x20000 by omega, show ¬ key < 0x30000 by omega, show ¬ key < 0x40000 by omega,
      show ¬ key < 0x41000 by omega, show ¬ key < 0x50000 by omega, show ¬ key < 0x51000 by omega, show ¬ key < 0x60000 by omega,
      show ¬ key < 0x70000 by omega, show ¬ key < 0x71000 by omega, show ¬ key < 0x72000 by omega, show ¬ key < 0x73000 by omega,
      show ¬ key < 0x74000 by omega, hge, h, if_true, if_false]
  simp [findReg, hrows] at hr

/-- A host write of a register of the direct space, whether or not the key is open, closes the key and writes the register (R297). -/
theorem hostWrite_register {s : State} {key : Nat} {v : Word} {r : RegSpec} (hk : key < halfStep) (h10 : key ≠ 0x10)
    (hr : findReg key = some r) (hboot : s.on R.SYS_STAT_BOOT_DONE 0 = true) :
    hostWrite s key v = writeReg (setKey s false) r key v s.keyOpen := by
  have hlt := direct_key_lt hk hr
  have hreach : s.reachable key = true := by simp [State.reachable, hboot]
  simp [hostWrite, hreach, h10, State.writeWord, hr, show ¬ 0x100000 ≤ key by omega, show ¬ 0x800000 ≤ key by omega, hk]

/-- A register whose write does nothing beyond its fields takes a write by its access types alone. -/
theorem writeReg_plain {s : State} {r : RegSpec} {key : Nat} (v : Word) (k : Bool) (hp : r.actsPlainly = true) (hg : s.gated key = false) :
    writeReg s r key v k = writeWhole s r key v k := by
  unfold writeReg
  simp only [hg, Bool.false_eq_true, if_false]
  split
  pick_goal -1
  · rfl
  all_goals rename_i hbase; simp [RegSpec.actsPlainly, hbase] at hp

/-! The key is one bit of SYS_STAT (R297): opening or closing it leaves every other word and the state of the module. -/

theorem setKey_word_ne (s : State) (b : Bool) {k : Nat} (h : k ≠ 0x4) : (setKey s b).word k = s.word k := word_wr_ne s _ 0 _ h

theorem setKey_keyOpen (s : State) (b : Bool) : (setKey s b).keyOpen = b := by
  have h : (setKey s b).rd R.SYS_STAT_KEY_OPEN 0 = b.toNat % 2 ^ 1 := rd_wr_same s R.SYS_STAT_KEY_OPEN 0 b.toNat (by decide)
  cases b <;> simp [State.keyOpen, State.on, h]

theorem setKey_sysState (s : State) (b : Bool) : (setKey s b).sysState = s.sysState :=
  rd_wr_ne s R.SYS_STAT_KEY_OPEN R.SYS_STAT_SYS_STATE 0 0 _ (by decide)

theorem setKey_gated (s : State) (b : Bool) (key : Nat) : (setKey s b).gated key = s.gated key := by
  simp only [State.gated, setKey_word_ne s b (show R.CLK_EN.key 0 0 ≠ 0x4 by decide)]

theorem setKey_writeMask (s : State) (b : Bool) (r : RegSpec) (k : Bool) : (setKey s b).writeMask r k = s.writeMask r k := by
  simp only [State.writeMask, setKey_sysState]

/-! What a write of some bits of a register word does. -/

/-- Whatever RSV_WR and WK_IGNORED leave alone is, after a write of bits, as the stored word alone makes it. -/
theorem writeBits_apart {α : Type} (g : State → α) (hrsv : ∀ u, g (u.raise R.SYS_EVT_RSV_WR 0) = g u)
    (hwk : ∀ u, g (u.raise R.SYS_EVT_WK_IGNORED 0) = g u) (s : State) (r : RegSpec) (key : Nat) (bits v : Word) (k : Bool) :
    g (writeBits s r key bits v k) = g (s.setWord key
      ((s.word key &&& ~~~(s.writeMask r k &&& bits)) ||| (v &&& (s.writeMask r k &&& bits)))) := by
  unfold writeBits
  dsimp only
  split <;> split <;> simp only [hrsv, hwk]

/-- The writable bits take the value, every other bit stays (R11). -/
theorem writeBits_word (s : State) (r : RegSpec) {key : Nat} (bits v : Word) (k : Bool) (h4 : key ≠ 0x4) (h8 : key ≠ 0x8) :
    (writeBits s r key bits v k).word key =
      (s.word key &&& ~~~(s.writeMask r k &&& bits)) ||| (v &&& (s.writeMask r k &&& bits)) := by
  rw [writeBits_apart (·.word key) (fun u => raise_word_ne u _ 0 h8 h4) (fun u => raise_word_ne u _ 0 h8 h4), word_setWord_same]

/-- A write of bits of another register than SYS_STAT leaves the key open or closed. -/
theorem writeBits_keyOpen (s : State) (r : RegSpec) {key : Nat} (bits v : Word) (k : Bool) (h4 : key ≠ 0x4) :
    (writeBits s r key bits v k).keyOpen = s.keyOpen := by
  have hraise (f : Fld) (hf : f.key 0 0 ≠ 0x4) (u : State) : (u.raise f 0).keyOpen = u.keyOpen := by
    simp only [State.keyOpen, State.on, raise_rd_sysStat u f R.SYS_STAT_KEY_OPEN 0 0 hf rfl (by decide)]
  rw [writeBits_apart State.keyOpen (hraise _ (by decide)) (hraise _ (by decide))]
  have hword := word_setWord_ne s ((s.word key &&& ~~~(s.writeMask r k &&& bits)) ||| (v &&& (s.writeMask r k &&& bits))) h4.symm
  simp only [State.keyOpen, State.on, State.rd, State.rd2, show R.SYS_STAT_KEY_OPEN.key 0 0 = 0x4 from rfl, hword]

/-- A reserved bit that would change sets RSV_WR outside TEST (R296). -/
theorem writeBits_rsvWr {s : State} {r : RegSpec} {key : Nat} {bits v : Word} (k : Bool)
    (hbits : (s.word key ^^^ v) &&& r.rsvMask &&& bits ≠ 0) (htest : s.sysState ≠ stTest) :
    (writeBits s r key bits v k).on R.SYS_EVT_RSV_WR 0 = true := by
  have hset (u : State) : (u.raise R.SYS_EVT_RSV_WR 0).on R.SYS_EVT_RSV_WR 0 = true :=
    raise_on_same u _ 0 (by decide) (by decide) (by decide) (by decide)
  simp only [writeBits, hbits, htest, ne_eq, not_false_eq_true, decide_true, Bool.and_self, if_true]
  split
  · exact raise_on_of_on _ R.SYS_EVT_WK_IGNORED R.SYS_EVT_RSV_WR 0 0 rfl (by decide) (by decide) (hset _)
  · exact hset _

/-- A keyed field that would change with the key closed sets WK_IGNORED (R297). -/
theorem writeBits_wkIgnored {s : State} {r : RegSpec} {key : Nat} {bits v : Word}
    (hbits : (s.word key ^^^ v) &&& r.accMask .wk &&& bits ≠ 0) :
    (writeBits s r key bits v false).on R.SYS_EVT_WK_IGNORED 0 = true := by
  simp only [writeBits, hbits, ne_eq, not_false_eq_true, decide_true, Bool.not_false, Bool.and_self, if_true]
  exact raise_on_same _ _ 0 (by decide) (by decide) (by decide) (by decide)

/-- A register without rs fields takes a whole write as a write of all its bits. -/
theorem writeWhole_of_no_rs {s : State} {r : RegSpec} {key : Nat} {v : Word} {k : Bool} (h : r.accMask .rs = 0) :
    writeWhole s r key v k = writeBits s r key (BitVec.allOnes 32) v k := by
  simp only [writeWhole, h, if_true]; rfl

/-! ### The obligations -/

/-- Settles O3: every map of the state after reset is empty, and so is its queue. -/
theorem resetIsCanonical : Obligations.ResetIsCanonical := ⟨reset_canonical, rfl⟩

/-- Settles O4, by the two kinds of step: one cycle of the timebase clock, or the command at the front of the queue. -/
theorem stepKeepsCanonicalForm : Obligations.StepKeepsCanonicalForm := by
  intro s t h hstep
  unfold step at hstep
  cases hq : s.pending with
  | nil =>
    obtain rfl : idleCycle s = t := by simpa [hq] using hstep
    exact (good_idleCycle (Good.refl s)).canonical h
  | cons c rest => exact exec_keeps_canonical (h.setPending rest) (by simpa [hq] using hstep)

/-- Settles O12: the write closes the key, and is then a write of all the bits of the word. -/
theorem plainRegisterWrites : Obligations.PlainRegisterWrites := by
  intro s key v r hk h4 h8 h10 hr hplain hrs hboot hgated
  have hword : (setKey s false).word key = s.word key := setKey_word_ne s false h4
  have hexec : exec (.registerWrite key v) s = .next (writeBits (setKey s false) r key (BitVec.allOnes 32) v s.keyOpen) := by
    rw [← writeWhole_of_no_rs hrs, ← writeReg_plain v s.keyOpen hplain (by rwa [setKey_gated]), ← hostWrite_register hk h10 hr hboot]
    simp only [exec, execRegisterWrite, keyWrite, hk, if_true]
  refine ⟨_, hexec, ?_, ?_, fun hbits htest => ?_, fun hbits hclosed => ?_⟩
  · rw [writeBits_word _ _ _ _ _ h4 h8, hword, setKey_writeMask, BitVec.and_allOnes]
  · exact (writeBits_keyOpen _ _ _ _ _ h4).trans (setKey_keyOpen s false)
  · exact writeBits_rsvWr _ (by rwa [hword, BitVec.and_allOnes]) (by rwa [setKey_sysState])
  · rw [hclosed]
    exact writeBits_wkIgnored (by rwa [hword, BitVec.and_allOnes])

end Sys2Proof.Machine
end

section
/-! PROOF. The family of 02_programming_model.md: the lines of a batch (O25), their dispatch (O30), the arithmetic of a product (O32), the
vector units (O34), the JOB_ commands (O53) and the tolerance of admitted jobs (O60). -/

namespace Sys2Proof.Machine

theorem key_ge_base (f : Fld) (i j : Nat) : f.base ≤ f.key i j := by unfold Fld.key; omega

/-- A field of a register beyond the mailboxes reads the same when a mailbox begins to run. -/
theorem rd_running {f : Fld} (hf : 0x10880 ≤ f.base) (s : State) (m i : Nat) : (s.running m).rd f i = s.rd f i := by
  have hkey := key_ge_base f i 0
  exact rd_wr_ne s _ f m i _ (.inl (by rw [MBX_STAT_key]; omega))

@[simp] theorem thresh_running (s : State) (m : Nat) : (s.running m).thresh = s.thresh := rd_running (by decide) s m 0

@[simp] theorem job_running (s : State) (m j : Nat) : (s.running m).job j = s.job j := rfl

/-- A command that begins and is only answered changes the words of its own mailbox, the doorbell order and the pending interrupt. -/
theorem running_respond_frame (s : State) (m : Nat) (st : Status) (d : Nat) (data : List Byte) :
    (s.running m).respond m st d data =
      ((s.setRegs ((s.running m).respond m st d data).regs).setMbxOrder ((s.running m).respond m st d data).mbxOrder).setBus
        ((s.running m).respond m st d data).bus := by
  have h := respond_eq (s.running m) m st d data
  generalize (s.running m).respond m st d data = t at h ⊢
  rw [h]
  rfl

theorem running_respond_word_ne (s : State) {m k : Nat} (st : Status) (d : Nat) (data : List Byte) (hstat : k ≠ R.MBX_STAT.key m 0)
    (hrsp : ∀ w < 16, k ≠ R.MBX_RSP.key m w) : ((s.running m).respond m st d data).word k = s.word k := by
  have hstat' : k ≠ 0x10840 + 4 * (m % 16) := by simpa [R.MBX_STAT, Fld.key] using hstat
  have hrsp' (j : Nat) (hj : j < 16) : k ≠ 0x10040 + 0x80 * (m % 16) + 4 * j := by
    have := hrsp j hj
    rwa [MBX_RSP_key, Nat.mod_eq_of_lt hj] at this
  rw [respond_word_ne _ _ _ _ _ hstat' hrsp', word_wr_ne _ _ _ _ (by rwa [MBX_STAT_key])]

/-- Settles O60: the refusal is the answer of its own mailbox and nothing more. -/
theorem thresholdWithinTolerance : Obligations.ThresholdWithinTolerance := by
  intro s m j hbegins hadmitted hraise htol
  have htooHigh : jobNums.any (fun j => (s.job j).admitted && decide ((s.job j).hdr.reqXbar < s.req m 8 2)) = true :=
    List.any_eq_true.2 ⟨j, List.mem_range.2 j.isLt, by simp [hadmitted, htol]⟩
  have hexec : exec (.calThreshSet m) s = .next ((s.running m).respond m .tolerance 0 []) := by
    simp only [exec, execCalThreshSet, peade_begins 0 _ hbegins, req_running, thresh_running, job_running, htooHigh, hraise, and_self,
      or_true, if_true]
  exact ⟨_, hexec, respond_answers .., running_respond_frame .., fun k hstat hrsp => running_respond_word_ne s _ _ _ hstat hrsp⟩

/-- The rounded quotient lies no further than half a divisor from the number divided. -/
theorem divRne_near (n : Nat) {d : Nat} (hd : 0 < d) : 2 * n ≤ 2 * (divRne n d * d) + d ∧ 2 * (divRne n d * d) ≤ 2 * n + d := by
  have hn : n / d * d + n % d = n := Nat.div_add_mod' n d
  have hr : n % d < d := Nat.mod_lt n hd
  have hup : (n / d + 1) * d = n / d * d + d := Nat.succ_mul _ _
  unfold divRne
  dsimp only
  split_ifs with hlo hhi
  · omega
  · omega
  · have hparity : n / d % 2 = 0 ∨ n / d % 2 = 1 := Nat.mod_two_eq_zero_or_one _
    obtain heven | hodd := hparity
    · rw [heven, Nat.add_zero]; omega
    · rw [hodd]; omega

/-- The rounded quotient of an integer likewise, whatever its sign. -/
theorem idivRne_near (n : Int) {d : Nat} (hd : 0 < d) : 2 * (idivRne n d * d - n).natAbs ≤ d := by
  have hnear := divRne_near n.natAbs hd
  unfold idivRne
  split
  · rw [Int.neg_mul, ← Int.natCast_mul]; omega
  · rw [← Int.natCast_mul]; omega

theorem sat16_range (v : Int) : -32767 ≤ sat16 v ∧ sat16 v ≤ 32767 := by unfold sat16; omega

theorem sat16_of_natAbs_le {v : Int} (h : v.natAbs ≤ 32767) : sat16 v = v := by unfold sat16; omega

/-- A finished column: within the range, marked when it was beyond, and within half a count of the exact value when not. -/
theorem finishColumn_spec (v bias : Int) : (-32767 ≤ (finishColumn v bias).1 ∧ (finishColumn v bias).1 ≤ 32767) ∧
    ((finishColumn v bias).2 = true ↔ (idivRne (v + bias * 2 ^ 36) (2 ^ 36)).natAbs > 32767) ∧
    ((finishColumn v bias).2 = false → 2 * ((finishColumn v bias).1 * 2 ^ 36 - (v + bias * 2 ^ 36)).natAbs ≤ 2 ^ 36) := by
  refine ⟨sat16_range _, decide_eq_true_iff, fun hin => ?_⟩
  have hle : (idivRne (v + bias * 2 ^ 36) (2 ^ 36)).natAbs ≤ 32767 := by simpa [finishColumn] using hin
  have hcol : (finishColumn v bias).1 = idivRne (v + bias * 2 ^ 36) (2 ^ 36) := sat16_of_natAbs_le hle
  rw [hcol]
  exact idivRne_near _ (by decide : 0 < 2 ^ 36)

theorem convert_natAbs_le (ideal err : Int) (cw lim : Nat) : (convert ideal err cw lim).natAbs ≤ lim := by unfold convert; omega

theorem satSum_spec (v : Int) : (satSum v).1.natAbs ≤ 8388352 ∧ ((satSum v).2 = false → (satSum v).1 = v) := by
  simp only [satSum, decide_eq_false_iff_not]; omega

/-- Outputs beyond the bound are replaced by the exact values, each in its column and with its mark of saturation. -/
theorem boundOutputs_of_not_within {fs bp den : Nat} {outs : List (Nat × Int × Bool)} {ideal : Nat → Int}
    (h : withinBound (fs * den) bp (outs.map fun e => e.2.1 * den - ideal e.1) = false) :
    boundOutputs fs bp den outs ideal = outs.map fun e => (e.1, sat16 (idivRne (ideal e.1) den), e.2.2) := by
  simp [boundOutputs, h]

theorem boundOutputs_of_within {fs bp den : Nat} {outs : List (Nat × Int × Bool)} {ideal : Nat → Int}
    (h : withinBound (fs * den) bp (outs.map fun e => e.2.1 * den - ideal e.1) = true) : boundOutputs fs bp den outs ideal = outs := by
  simp [boundOutputs, h]

theorem boundOutputs_columns (fs bp den : Nat) (outs : List (Nat × Int × Bool)) (ideal : Nat → Int) :
    (boundOutputs fs bp den outs ideal).map (·.1) = outs.map (·.1) := by
  cases h : withinBound (fs * den) bp (outs.map fun e => e.2.1 * den - ideal e.1) with
  | true => rw [boundOutputs_of_within h]
  | false => rw [boundOutputs_of_not_within h, List.map_map]; rfl

/-- Settles O32: rounding errs by half a unit at most, and saturation and the bound of log 162 are case distinctions. -/
theorem columnArithmetic : Obligations.ColumnArithmetic := by
  refine ⟨fun v bias => ?_, convert_natAbs_le, satSum_spec, fun fs bp den outs ideal =>
    ⟨boundOutputs_columns fs bp den outs ideal, boundOutputs_of_within, fun hout e he => ?_⟩⟩
  · obtain ⟨⟨hlo, hhi⟩, hsat, hnear⟩ := finishColumn_spec v bias
    exact ⟨hlo, hhi, hsat, hnear⟩
  · rw [boundOutputs_of_not_within hout, List.mem_map] at he
    obtain ⟨x, -, rfl⟩ := he
    rfl

/-! ### Tokens moving on the pitch -/

/-- What the movement of tokens on the pitch may change: register words, where tokens stand and the arbiters other than the two of
dispatch. No token is lost. -/
structure PitchFlow (s t : State) : Prop where
  frame : t = ((s.setRegs t.regs).setFabric t.fabric).setGrantRr t.grantRr
  hubArbiters : ∀ k < 2, spGet grantFirst t.grantRr k = spGet grantFirst s.grantRr k
  tokens : ∀ x ∈ s.fabric, ∃ y ∈ t.fabric, y.tok = x.tok

theorem PitchFlow.refl (s : State) : PitchFlow s s := ⟨rfl, fun _ _ => rfl, fun x hx => ⟨x, hx, rfl⟩⟩

theorem PitchFlow.trans {s t u : State} (h : PitchFlow s t) (h' : PitchFlow t u) : PitchFlow s u where
  frame := by rw [h'.frame, h.frame]; rfl
  hubArbiters k hk := (h'.hubArbiters k hk).trans (h.hubArbiters k hk)
  tokens x hx := by
    obtain ⟨y, hy, hxy⟩ := h.tokens x hx
    obtain ⟨z, hz, hyz⟩ := h'.tokens y hy
    exact ⟨z, hz, hyz.trans hxy⟩

theorem PitchFlow.batches {s t : State} (h : PitchFlow s t) : t.batches = s.batches := by rw [h.frame]; rfl

theorem PitchFlow.slots {s t : State} (h : PitchFlow s t) : t.slots = s.slots := by rw [h.frame]; rfl

theorem PitchFlow.recur {s t : State} (h : PitchFlow s t) : t.recur = s.recur := by rw [h.frame]; rfl

theorem PitchFlow.stDone {s t : State} (h : PitchFlow s t) : t.stDone = s.stDone := by rw [h.frame]; rfl

theorem PitchFlow.each {α : Type} {l : List α} {f : State → α → State} (hf : ∀ s a, PitchFlow s (f s a)) (s : State) :
    PitchFlow s (s.each l f) :=
  each_inv (PitchFlow s) l f s (fun t a ht => ht.trans (hf t a)) (.refl s)

/-- A write of a register word moves no token. -/
theorem pitchFlow_wr2 (s : State) (f : Fld) (i j v : Nat) : PitchFlow s (s.wr2 f i j v) :=
  ⟨rfl, fun _ _ => rfl, fun x hx => ⟨x, hx, rfl⟩⟩

theorem pitchFlow_bump (s : State) (f : Fld) (i : Nat) : PitchFlow s (s.bump f i) := pitchFlow_wr2 ..

theorem pitchFlow_countSent (s : State) (t : Token) (p : Place) (n : Nat) : PitchFlow s (countSent s t p n) := by
  cases p with
  | router => exact pitchFlow_wr2 ..
  | hubLink | entry | bridge | arrived | unit | hub => exact .refl s

/-- A new list of tokens that has every token of the old one. -/
theorem pitchFlow_setFabric {s : State} {l : List Held} (h : ∀ x ∈ s.fabric, ∃ y ∈ l, y.tok = x.tok) : PitchFlow s (s.setFabric l) :=
  ⟨rfl, fun _ _ => rfl, h⟩

theorem pitchFlow_flowOne (s : State) (h : Held) : PitchFlow s (flowOne s h) := by
  unfold flowOne
  split
  · exact .refl s
  · refine (PitchFlow.each (fun _ _ => pitchFlow_countSent ..) s).trans (pitchFlow_setFabric fun x hx => ?_)
    refine ⟨_, List.mem_map_of_mem hx, ?_⟩
    split
    · rename_i heq
      rw [beq_iff_eq.1 heq]
    · rfl

theorem pitchFlow_settle (s : State) : PitchFlow s (settle s) := .each (fun s _ => .each pitchFlow_flowOne s) s

theorem pitchFlow_pitchMove (s : State) (h : Held) (p : Place) : PitchFlow s (pitchMove s h p) := by
  refine (pitchFlow_setFabric fun x hx => ?_).trans (pitchFlow_settle _)
  by_cases hxh : x = h
  · exact ⟨_, List.mem_append_right _ (List.mem_singleton_self _), by rw [hxh]⟩
  · exact ⟨x, List.mem_append_left _ ((List.mem_erase_of_ne hxh).2 hx), rfl⟩

/-- A token entering the pitch sets the arbiter of a pitch link, which is none of dispatch. -/
theorem pitchFlow_noteEntry (s : State) (h : Held) : PitchFlow s (noteEntry s h) := by
  unfold noteEntry
  split
  · have harb : PitchFlow s (s.setGrantRr (spSet grantFirst s.grantRr (linkArb h.tok.dstClu) h.tok.job)) :=
      ⟨rfl, fun k hk => spGet_spSet_ne _ _ _ (by unfold linkArb; omega), fun x hx => ⟨x, hx, rfl⟩⟩
    exact harb.trans (.each (fun _ _ => pitchFlow_bump ..) _)
  · exact .refl s

theorem pitchFlow_pitchEnter (s : State) : PitchFlow s (pitchEnter s) := by
  refine (pitchFlow_settle s).trans (.each (fun s h => ?_) _)
  split
  · exact (pitchFlow_noteEntry s h).trans (pitchFlow_pitchMove ..)
  · exact .refl s

/-- A token put on the pitch joins those that stand there. -/
theorem pitchFlow_pitchPut (s : State) (p : Place) (t : Token) : PitchFlow s (pitchPut s p t) :=
  pitchFlow_setFabric fun x hx => ⟨x, List.mem_append_left _ hx, rfl⟩

/-! ### Dispatch -/

/-- Deciding anew whether a job waits changes register words and that job's mark. -/
theorem refreshWait_eq (s : State) (j : Nat) : ∃ r w, refreshWait s j = (s.setRegs r).setJobs
    (if (s.job j).waiting = w then s.jobs else spSet (fun _ => Job.empty) s.jobs j { s.job j with waiting := w }) := by
  unfold refreshWait
  dsimp only
  generalize (s.dispatchOpen j && (s.freeTags j == 0 || ((s.nextBatch j).map (s.overFlight j)).getD false)) = w
  have hcount : ∃ r, (if (w && !(s.job j).waiting) = true then s.bump R.TAG_WAIT_CNT_COUNT j else s) = s.setRegs r := by
    split
    · exact ⟨_, rfl⟩
    · exact ⟨s.regs, rfl⟩
  obtain ⟨r, hr⟩ := hcount
  refine ⟨((s.setRegs r).wrB R.TAG_STAT_WAITING j w).regs, w, ?_⟩
  rw [hr]
  by_cases hw : (s.job j).waiting = w
  · rw [if_pos hw]
    exact if_pos (beq_iff_eq.2 hw)
  · rw [if_neg hw]
    exact if_neg (by rwa [beq_iff_eq])

/-- What speaks neither of register words nor of jobs is the same when it is decided anew whether a job waits. -/
theorem refreshWait_apart {α : Type} (g : State → α) (hg : ∀ s r J, g ((s.setRegs r).setJobs J) = g s) (s : State) (j : Nat) :
    g (refreshWait s j) = g s := by
  obtain ⟨r, w, h⟩ := refreshWait_eq s j
  rw [h, hg]

/-- The same when it is decided of several jobs. -/
theorem refreshWaits_apart {α : Type} (g : State → α) (hg : ∀ s r J, g ((s.setRegs r).setJobs J) = g s) (s : State) (l : List Nat) :
    g (s.each l refreshWait) = g s :=
  each_keeps g l refreshWait s (refreshWait_apart g hg)

@[simp] theorem roundRobin_nil (n rr : Nat) : roundRobin n rr [] = none := by simp [roundRobin]

/-- The only candidate is the next in round-robin order. -/
theorem roundRobin_singleton (rr : Nat) {j : Nat} (hj : j < 16) : roundRobin 16 rr [j] = some j := by
  unfold roundRobin
  cases h : ((List.range 16).map fun d => (rr + 1 + d) % 16).find? [j].contains with
  | some x =>
    have hx := List.find?_some h
    simp only [List.contains_eq_mem, List.mem_singleton, decide_eq_true_eq] at hx
    rw [hx]
  | none =>
    have hnone := List.find?_eq_none.1 h j (List.mem_map.2 ⟨(j + 15 + 15 * rr) % 16, List.mem_range.2 (by omega), by omega⟩)
    simp at hnone

/-- Cutting takes tags and moves tokens: it leaves the batches and the arbiters of dispatch, and of the batch it cuts all but its tags
and what is left to cut. -/
theorem cutTokens_frame (h : Nat) (l : List InputSpec) (s : State) (b : Batch) :
    (cutTokens s h b l).1.batches = s.batches ∧
    (∀ k < 2, spGet grantFirst (cutTokens s h b l).1.grantRr k = spGet grantFirst s.grantRr k) ∧
    ∃ tags todo, (cutTokens s h b l).2 = { b with tags := tags, todo := todo } := by
  induction l generalizing s b with
  | nil => exact ⟨rfl, fun _ _ => rfl, _, _, rfl⟩
  | cons i rest ih =>
    unfold cutTokens
    split
    · split
      · exact ⟨rfl, fun _ _ => rfl, _, _, rfl⟩
      · have hflow := (pitchFlow_pitchPut (takeTag s b.job).2 (.hubLink h) (inputToken b (takeTag s b.job).1 i)).trans
          (pitchFlow_pitchEnter _)
        obtain ⟨hbatches, harb, tags, todo, hb⟩ := ih
          (pitchEnter (pitchPut (takeTag s b.job).2 (.hubLink h) (inputToken b (takeTag s b.job).1 i)))
          { b with tags := b.tags ++ [(takeTag s b.job).1], todo := b.todo.filter (· != i) }
        exact ⟨hbatches.trans hflow.batches, fun k hk => (harb k hk).trans (hflow.hubArbiters k hk), tags, todo, hb⟩
    · exact ih s b

/-- With no token to cut, dispatch decides the waiting of the jobs anew. -/
theorem dispatch_idle {s : State} {h : Nat} (hwork : jobNums.filter (s.hasWork h) = []) : dispatch s h = s.each jobNums refreshWait := by
  unfold dispatch
  simp only [hwork, List.filter_nil, roundRobin_nil]

/-- With one job that has tokens to cut, its next batch is begun and cut. -/
theorem dispatch_single {s : State} {h j : Nat} {b : Batch} (hwork : jobNums.filter (s.hasWork h) = [j]) (hb : s.nextBatch j = some b)
    (hstarted : b.started = false) :
    let r := startBatch (s.setGrantRr (spSet grantFirst s.grantRr h j)) b
    let c := cutTokens r.1 h r.2 r.2.todo
    dispatch s h = (putBatch c.1 c.2).each jobNums refreshWait := by
  have hj : j < 16 := List.mem_range.1 (List.mem_filter.1 (hwork ▸ List.mem_singleton_self j)).1
  have hnext : (s.setGrantRr (spSet grantFirst s.grantRr h j)).nextBatch j = some b := hb
  have hjob : (s.setGrantRr (spSet grantFirst s.grantRr h j)).job j = s.job j := rfl
  unfold dispatch
  simp only [hwork, List.foldl_cons, List.foldl_nil, Nat.zero_max, List.filter_cons, List.filter_nil, beq_self_eq_true, if_true,
    hjob, Nat.lt_irrefl, decide_false, Bool.false_eq_true, if_false, roundRobin_singleton _ hj, each_nil, hnext, hstarted]

/-- A batch put in the list stands there when one of its number did. -/
theorem mem_putBatch {s : State} {a b : Batch} (ha : a ∈ s.batches) (hjob : a.job = b.job) (hstream : a.stream = b.stream)
    (hk : a.k = b.k) : b ∈ (putBatch s b).batches :=
  List.mem_map.2 ⟨a, ha, by simp [hjob, hstream, hk]⟩

theorem nextBatch_some {s : State} {j : Nat} {b : Batch} (h : s.nextBatch j = some b) : b ∈ s.batches ∧ b.job = j := by
  unfold State.nextBatch at h
  have hb := List.find?_some h
  simp only [Bool.and_eq_true, beq_iff_eq] at hb
  exact ⟨List.mem_of_find?_eq_some h, hb.1⟩

/-- Settles O30: the one job's batch is begun as `startBatch` says, and cutting keeps all of it but its tags and what is left to cut. -/
theorem hubDispatchesBatches : Obligations.HubDispatchesBatches := by
  refine fun s half => ⟨fun hwork => ⟨_, congrArg Host.Outcome.next (dispatch_idle hwork), ?_, ?_, ?_⟩,
    fun j b hwork hb hstarted => ⟨_, congrArg Host.Outcome.next (dispatch_single hwork hb hstarted), ?_⟩⟩
  · exact refreshWaits_apart State.batches (fun _ _ _ => rfl) s _
  · exact refreshWaits_apart State.fabric (fun _ _ _ => rfl) s _
  · exact refreshWaits_apart State.tagsHeld (fun _ _ _ => rfl) s _
  · obtain ⟨hmem, rfl⟩ := nextBatch_some hb
    rw [refreshWaits_apart State.batches (fun _ _ _ => rfl),
      refreshWaits_apart (fun t => spGet grantFirst t.grantRr half) (fun _ _ _ => rfl)]
    generalize hstart : startBatch (s.setGrantRr (spSet grantFirst s.grantRr half b.job)) b = r
    obtain ⟨hbatches, harb, tags, todo, hcut⟩ := cutTokens_frame half r.2.todo r.1 r.2
    subst hstart
    rw [hcut]
    exact ⟨(harb half half.isLt).trans (spGet_spSet_same ..), _, mem_putBatch (a := b) (hbatches ▸ hmem) rfl rfl rfl,
      rfl, rfl, rfl, rfl, rfl, rfl, rfl, rfl⟩

/-! ### Units that take and emit tokens -/

/-- A unit that takes a token sets its arbiter, counts the tokens passed over, and removes the token from where it stood. -/
theorem takeNext_some {s u : State} {c n : Nat} {ok : Held → Bool} {h : Held} (ht : takeNext s c n ok = (u, some h)) :
    ∃ r g, u = ((s.setRegs r).setGrantRr g).setFabric (s.fabric.erase h) := by
  have heach (l : List Held) (v : State) : ∃ r, (v.each l fun s x => s.bump R.JOB_PREEMPT_CNT_COUNT x.tok.job) = v.setRegs r := by
    refine each_inv (fun w => ∃ r, w = v.setRegs r) l _ v (fun w x hw => ?_) ⟨v.regs, rfl⟩
    obtain ⟨r, rfl⟩ := hw
    exact ⟨_, rfl⟩
  unfold takeNext at ht
  dsimp only at ht
  split at ht
  · cases ht
  · split at ht
    · cases ht
    · simp only [Prod.mk.injEq, Option.some.injEq] at ht
      obtain ⟨rfl, rfl⟩ := ht
      obtain ⟨r, hr⟩ := heach (List.filter _ _) (s.setGrantRr _)
      rw [hr]
      exact ⟨_, _, rfl⟩

/-- The token a unit takes for one of its commands. -/
theorem takeKind_some {s u : State} {c n : Nat} {ready mine : Held → Bool} {h : Held} (ht : takeKind s c n ready mine = (u, some h)) :
    ∃ r g, u = ((s.setRegs r).setGrantRr g).setFabric (s.fabric.erase h) := by
  unfold takeKind at ht
  split at ht
  · rename_i s' x hx
    split at ht
    · exact takeNext_some (hx.trans ht)
    · cases ht
  · cases ht

theorem takeKind_keeps {s u : State} {c n : Nat} {ready mine : Held → Bool} {h : Held} (ht : takeKind s c n ready mine = (u, some h)) :
    u.slots = s.slots ∧ u.recur = s.recur := by
  obtain ⟨r, g, rfl⟩ := takeKind_some ht
  exact ⟨rfl, rfl⟩

theorem takeKind_none {s : State} {c n : Nat} {ready mine : Held → Bool} (ht : (takeKind s c n ready mine).2 = none) :
    takeKind s c n ready mine = (s, none) := by
  unfold takeKind at ht
  split at ht
  · rename_i s' x hx
    split at ht
    · cases ht
    · rename_i hmine
      simp [takeKind, hx, hmine]
  · rename_i hx
    simp [takeKind, hx]

/-- Where no token waits outside the pitch and every body is drawn up, nothing moves by itself. -/
theorem pitchEnter_quiet {s : State} (h : ∀ x ∈ s.fabric, x.outside = false ∧ x.trail = []) : pitchEnter s = s := by
  have hsettle : settle s = s := by
    have hnone : (s.fabric.filter fun h => !h.trail.isEmpty) = [] := List.filter_eq_nil_iff.2 fun x hx => by simp [(h x hx).2]
    rw [settle, hnone, each_nil]
  have hnone : s.fabric.filter Held.outside = [] := List.filter_eq_nil_iff.2 fun x hx => by simp [(h x hx).1]
  rw [pitchEnter, hsettle, hnone, each_nil]

theorem pitchFlow_emitAll (s : State) (c u : Nat) (t : Token) (fmt : ElemFmt) (pay : List Int) (routes : List Route) :
    PitchFlow s (emitAll s c u t fmt pay routes) := .each (fun _ _ => pitchFlow_pitchPut ..) s

/-- A route neither to a tile nor to a mesh interface is taken as it stands. -/
theorem emitOne_direct (s : State) (c u : Nat) (t : Token) (fmt : ElemFmt) (pay : List Int) {r : Route} (h16 : 16 ≤ r.unit)
    (h19 : r.unit ≠ 19) : emitOne s c u t fmt pay r = emitTo s c u t fmt pay r := by
  have htile : s.tileRoute t r = r := if_pos h16
  have hmesh : s.meshRoute t r = r := by
    simp only [State.meshRoute, h19, decide_false, Bool.false_and, Bool.false_eq_true, if_false]
    split <;> rfl
  rw [emitOne, htile, hmesh]

/-- What a unit emits along one such route stands on the pitch after it has entered. -/
theorem emitted_on_pitch (s : State) (c u : Nat) (t : Token) (fmt : ElemFmt) (pay : List Int) {r : Route} (h16 : 16 ≤ r.unit)
    (h19 : r.unit ≠ 19) : ∃ y ∈ (pitchEnter (emitAll s c u t fmt pay [r])).fabric, y.tok.kind = r.kind ∧ y.tok.oper = r.oper ∧
      y.tok.dstClu = r.clu ∧ y.tok.dstUnit = r.unit ∧ y.tok.srcClu = c ∧ y.tok.payload = pay := by
  have hput : ∃ x ∈ (emitTo s c u t fmt pay r).fabric, x.tok.kind = r.kind ∧ x.tok.oper = r.oper ∧ x.tok.dstClu = r.clu ∧
      x.tok.dstUnit = r.unit ∧ x.tok.srcClu = c ∧ x.tok.payload = pay :=
    ⟨_, List.mem_append_right _ (List.mem_singleton_self _), rfl, rfl, rfl, rfl, rfl, rfl⟩
  rw [← emitOne_direct s c u t fmt pay h16 h19] at hput
  obtain ⟨x, hx, htok⟩ := hput
  obtain ⟨y, hy, hyx⟩ := (pitchFlow_pitchEnter (emitAll s c u t fmt pay [r])).tokens x hx
  exact ⟨y, hy, by rwa [hyx]⟩

/-! ### Vector operators -/

/-- A vector unit that takes an activation of its job's epoch for an operator of its own with one input sends the operator's output. -/
theorem vectorOp_unary {s u : State} {c : Nat} {h : Held} {o : OperSpec}
    (ht : takeKind s c 16 (s.vecUnitReady c) (s.vectorReady c) = (u, some h)) (hepoch : h.tok.epoch = (s.job h.tok.job).epoch)
    (hkind : h.tok.kind ≠ 0) (ho : s.operOf h.tok = some o) (htiles : o.kind.onTiles = false) (hmix : o.kind ≠ .mix64)
    (hbin : o.kind.binary = false) :
    vectorOp s c = pitchEnter (emitAll u c 16 h.tok o.fmt (vectorOut o h.tok.payload []) o.routes) := by
  obtain ⟨r, g, rfl⟩ := takeKind_some ht
  have hjob : (((s.setRegs r).setGrantRr g).setFabric (s.fabric.erase h)).job h.tok.job = s.job h.tok.job := rfl
  have hoper : (((s.setRegs r).setGrantRr g).setFabric (s.fabric.erase h)).operOf h.tok = some o := ho
  simp [vectorOp, ht, hjob, hepoch, hkind, hoper, htiles, hmix, hbin]

theorem vectorOp_stale {s u : State} {c : Nat} {h : Held}
    (ht : takeKind s c 16 (s.vecUnitReady c) (s.vectorReady c) = (u, some h)) (hepoch : h.tok.epoch ≠ (s.job h.tok.job).epoch) :
    vectorOp s c = u.bump R.EPOCH_DROP_CNT_COUNT c := by
  obtain ⟨r, g, rfl⟩ := takeKind_some ht
  have hjob : (((s.setRegs r).setGrantRr g).setFabric (s.fabric.erase h)).job h.tok.job = s.job h.tok.job := rfl
  simp [vectorOp, ht, hjob, hepoch]

theorem vectorOp_idle {s : State} {c : Nat} (ht : (takeKind s c 16 (s.vecUnitReady c) (s.vectorReady c)).2 = none) : vectorOp s c = s := by
  simp [vectorOp, takeKind_none ht]

/-- An integer held as an exact value is delivered in int16 as itself, saturated. -/
theorem toInt16_integer (b : Bool) (n : Int) : (FVal.fin b ⟨n, 0⟩).toInt16 = sat16 n := by
  simp [FVal.toInt16, FVal.toIntSat, Dyadic.round, sat16]

theorem relu_int16 {o : OperSpec} (hkind : o.kind = .relu) (hin : o.inFmt = .int16) (hout : o.fmt = .int16) {l : List Int}
    (hl : ∀ x ∈ l, -32767 ≤ x ∧ x ≤ 32767) : vectorOut o l [] = l.map fun x => max 0 x := by
  simp only [vectorOut, hkind, hin, hout, ElemFmt.value, ElemFmt.deliver]
  refine List.map_congr_left fun x hx => ?_
  have hlt : (FVal.ofInt x).lt (FVal.ofInt 0) = decide (x < 0) := by simp [FVal.ofInt, FVal.lt, Dyadic.lt, Dyadic.ofInt, Dyadic.neg, Dyadic.add]
  rw [hlt]
  obtain ⟨hlo, hhi⟩ := hl x hx
  by_cases hneg : x < 0
  · rw [if_pos (decide_eq_true hneg)]
    exact (toInt16_integer _ 0).trans (by simp only [sat16]; omega)
  · rw [if_neg (by simpa using hneg)]
    exact (toInt16_integer _ x).trans (by simp only [sat16]; omega)

theorem elemSum_int16 {o : OperSpec} (hkind : o.kind = .elemSum) (hin : o.inFmt = .int16) (hout : o.fmt = .int16) (a b : Int) :
    vectorOut o [a] [b] = [sat16 (a + b)] := by
  have hadd : ∃ n, (FVal.ofInt a).add (FVal.ofInt b) = .fin n ⟨a + b, 0⟩ := by simp [FVal.ofInt, FVal.add, Dyadic.ofInt, Dyadic.add]
  obtain ⟨n, hn⟩ := hadd
  simp [vectorOut, hkind, hin, hout, ElemFmt.value, ElemFmt.deliver, hn, toInt16_integer]

/-! ### Recurrent state -/

theorem stateUpdate_idle {s : State} {c : Nat} (ht : (takeKind s c 16 (s.vecUnitReady c) (s.stateReady c)).2 = none) :
    stateUpdate s c = s := by
  simp [stateUpdate, takeKind_none ht]

/-- The value to which a STATE operator updates the recurrent state of the stream of a token (R109). -/
def State.gatedState (s : State) (o : OperSpec) (k : Token) : List Int :=
  (Config.gatedUpdate o.scale o.bias (s.recurOf k.job k.stream) k.payload).map o.fmt.hold

theorem stateUpdate_flow {s u : State} {c : Nat} {h : Held} {o : OperSpec} {b : Batch}
    (ht : takeKind s c 16 (s.vecUnitReady c) (s.stateReady c) = (u, some h)) (hepoch : h.tok.epoch = (s.job h.tok.job).epoch)
    (ho : s.operOf h.tok = some o) (hb : s.batchOf h.tok = some b) :
    PitchFlow ((u.putRecur h.tok.job h.tok.stream (s.gatedState o h.tok)).setStDone (s.stDone ++ [(b.job, b.stream, b.k)])) (stateUpdate s c) := by
  obtain ⟨r, g, hu⟩ := takeKind_some ht
  have hjob : u.job h.tok.job = s.job h.tok.job := by rw [hu]; rfl
  have hoper : u.operOf h.tok = some o := by rw [← ho, hu]; rfl
  have hrecur : u.recurOf h.tok.job h.tok.stream = s.recurOf h.tok.job h.tok.stream := by rw [hu]; rfl
  have hbatch (v : List Int) : (u.putRecur h.tok.job h.tok.stream v).batchOf h.tok = some b := by rw [← hb, hu]; rfl
  have hdone (v : List Int) : (u.putRecur h.tok.job h.tok.stream v).stDone = s.stDone := by rw [hu]; rfl
  have hout : stateUpdate s c = pitchEnter (emitAll ((u.putRecur h.tok.job h.tok.stream (s.gatedState o h.tok)).setStDone
      (s.stDone ++ [(b.job, b.stream, b.k)])) c 16 h.tok o.fmt (s.gatedState o h.tok) o.routes) := by
    simp only [stateUpdate, ht, hjob, hepoch, bne_self_eq_false, Bool.false_eq_true, if_false, hoper, hrecur, hbatch, hdone,
      State.gatedState]
  rw [hout]
  exact (pitchFlow_emitAll ..).trans (pitchFlow_pitchEnter _)

/-- Settles O34: what a unit takes it removes, and what it then emits only joins the tokens on the pitch. -/
theorem vectorUnits : Obligations.VectorUnits := by
  refine ⟨fun s c ht => ⟨_, congrArg Host.Outcome.next (vectorOp_idle ht), rfl⟩, fun s c u h ht => ⟨fun hepoch => ?_, ?_, ?_⟩,
    fun o l hkind hin hout hl => relu_int16 hkind hin hout hl, fun o a b hkind hin hout => elemSum_int16 hkind hin hout a b,
    fun s c => ⟨fun ht => ⟨_, congrArg Host.Outcome.next (stateUpdate_idle ht), rfl⟩, fun u h o b ht hepoch ho hb => ?_⟩⟩
  · exact ⟨_, congrArg Host.Outcome.next (vectorOp_stale ht hepoch), rfl⟩
  · intro hquiet hepoch hkind o ho htiles hmix hbin hroutes
    refine ⟨_, congrArg Host.Outcome.next (vectorOp_unary ht hepoch hkind ho htiles hmix hbin), ?_⟩
    obtain ⟨r, g, rfl⟩ := takeKind_some ht
    rw [hroutes, pitchEnter_quiet fun x hx => hquiet x (List.mem_of_mem_erase hx)]
    exact ⟨rfl, rfl, rfl⟩
  · intro hepoch hkind o r ho htiles hmix hbin hroutes h16 h19
    refine ⟨_, congrArg Host.Outcome.next (vectorOp_unary ht hepoch hkind ho htiles hmix hbin), ?_, ?_, ?_⟩
    · rw [((pitchFlow_emitAll ..).trans (pitchFlow_pitchEnter _)).slots, (takeKind_keeps ht).1]
    · rw [((pitchFlow_emitAll ..).trans (pitchFlow_pitchEnter _)).recur, (takeKind_keeps ht).2]
    · rw [hroutes]
      exact emitted_on_pitch u c 16 h.tok o.fmt _ h16 h19
  · have hflow := stateUpdate_flow ht hepoch ho hb
    refine ⟨_, rfl, ?_, hflow.stDone⟩
    rw [State.recurOf, hflow.recur]
    exact spGet_spSet_same ..

/-! ### Drop records -/

/-- What noting drops leaves alone: it changes the count of dropped lines of a stream, its ingest, the open runs and the record channel. -/
structure DropsNoted (s t : State) : Prop where
  binds : t.binds = s.binds
  batches : t.batches = s.batches
  jobs : t.jobs = s.jobs
  inForce : t.inForce = s.inForce
  mbxOrder : t.mbxOrder = s.mbxOrder
  words : ∀ k, (∀ i, k ≠ R.STREAM_DROP_COUNT.key i 0) → t.word k = s.word k
  lineAt : ∀ st, (t.ing st).lineAt = (s.ing st).lineAt

theorem DropsNoted.refl (s : State) : DropsNoted s s := ⟨rfl, rfl, rfl, rfl, rfl, fun _ _ => rfl, fun _ => rfl⟩

theorem DropsNoted.trans {s t u : State} (h : DropsNoted s t) (h' : DropsNoted t u) : DropsNoted s u where
  binds := h'.binds.trans h.binds
  batches := h'.batches.trans h.batches
  jobs := h'.jobs.trans h.jobs
  inForce := h'.inForce.trans h.inForce
  mbxOrder := h'.mbxOrder.trans h.mbxOrder
  words k hk := (h'.words k hk).trans (h.words k hk)
  lineAt st := (h'.lineAt st).trans (h.lineAt st)

theorem DropsNoted.each {α : Type} {l : List α} {f : State → α → State} (hf : ∀ s a, DropsNoted s (f s a)) (s : State) :
    DropsNoted s (s.each l f) :=
  each_inv (DropsNoted s) l f s (fun t a ht => ht.trans (hf t a)) (.refl s)

theorem DropsNoted.bind {s t : State} (h : DropsNoted s t) (j st : Nat) : t.bind j st = s.bind j st := by rw [State.bind, h.binds]; rfl

theorem DropsNoted.job {s t : State} (h : DropsNoted s t) (j : Nat) : t.job j = s.job j := by rw [State.job, h.jobs]; rfl

theorem DropsNoted.putBind {s t : State} (h : DropsNoted s t) (j st : Nat) (v : Bind) : DropsNoted (s.putBind j st v) (t.putBind j st v) :=
  { h with binds := by simp only [State.putBind, State.setBinds_frame, h.binds] }

theorem noted_countDrops (s : State) (st : Nat) (l : List Nat) : DropsNoted s (countDrops s st l) where
  binds := rfl
  batches := rfl
  jobs := rfl
  inForce := rfl
  mbxOrder := rfl
  words k hk := word_wr_ne s _ st _ (hk st)
  lineAt st' := by
    unfold countDrops
    dsimp only
    simp only [State.ing, State.putIng, State.setIngest_frame, spGet_spSet]
    split
    · rename_i heq
      rw [heq]
    · rfl

theorem noted_openFrame (s : State) (t vc : Nat) : DropsNoted s (openFrame s t vc) := by
  unfold openFrame
  dsimp only
  split
  · exact .refl s
  · exact ⟨rfl, rfl, rfl, rfl, rfl, fun _ _ => rfl, fun _ => rfl⟩

theorem noted_emitDrop (s : State) (r : DropRun) : DropsNoted s (emitDrop s r) := by
  have hq (q : List RecPacket) (n : Nat) : DropsNoted s ((s.setRecQ q).setRecSeq n) :=
    ⟨rfl, rfl, rfl, rfl, rfl, fun _ _ => rfl, fun _ => rfl⟩
  exact (hq _ _).trans (noted_openFrame ..)

theorem noted_setDrops (s : State) (l : List DropRun) : DropsNoted s (s.setDrops l) := ⟨rfl, rfl, rfl, rfl, rfl, fun _ _ => rfl, fun _ => rfl⟩

theorem noted_addDrops (fuel : Nat) (s : State) (g : DropRun) : DropsNoted s (addDrops s g fuel) := by
  induction fuel generalizing s g with
  | zero => exact .refl s
  | succ fuel ih =>
    unfold addDrops
    split
    · exact .refl s
    · dsimp only
      split
      · split
        · exact ((noted_setDrops s _).trans (noted_emitDrop ..)).trans (ih ..)
        · exact (noted_setDrops s _).trans (ih ..)
      · split
        · exact (noted_emitDrop ..).trans (ih ..)
        · exact (noted_setDrops s _).trans (ih ..)

theorem noted_lineDrops (s : State) (st : Nat) (gs : List DropRun) : DropsNoted s (lineDrops s st gs) :=
  ((noted_setDrops s _).trans (.each noted_emitDrop _)).trans (.each (fun _ _ => noted_addDrops ..) _)

/-- The batches being collected by some jobs on a stream are emptied. -/
def State.emptied (s : State) (st : Nat) (js : List Nat) : State :=
  s.each js fun s j => s.putBind j st { s.bind j st with lines := [] }

theorem DropsNoted.emptied {s t : State} (h : DropsNoted s t) (st : Nat) (js : List Nat) :
    DropsNoted (s.emptied st js) (t.emptied st js) := by
  induction js generalizing s t with
  | nil => exact h
  | cons j js ih =>
    have hcons (u : State) : u.emptied st (j :: js) = (u.putBind j st { u.bind j st with lines := [] }).emptied st js := rfl
    rw [hcons, hcons, h.bind]
    exact ih (h.putBind ..)

/-- Reporting the lines collected empties the batches that hold some and notes the drops. -/
theorem noted_reportCollected (s : State) (st cause : Nat) (js : List Nat) :
    DropsNoted (s.emptied st (js.filter fun j => !(s.bind j st).lines.isEmpty)) (reportCollected s st cause js) :=
  ((noted_countDrops s st _).emptied st _).trans (.each noted_emitDrop _)

/-! ### A line offered to the jobs bound to its stream -/

theorem bind_putBind_same (s : State) (j st : Nat) (v : Bind) : (s.putBind j st v).bind j st = v := spGet_spSet_same ..

/-- Emptying the batch being collected by one job, if it holds a line, leaves it without lines and everything else of the binding. -/
theorem emptied_single (s : State) (j st : Nat) :
    ∃ B, s.emptied st ([j].filter fun j => !(s.bind j st).lines.isEmpty) = s.setBinds B ∧
      (s.setBinds B).bind j st = { s.bind j st with lines := [] } := by
  cases hl : (s.bind j st).lines with
  | nil =>
    refine ⟨s.binds, by simp [hl, State.emptied]; rfl, ?_⟩
    rw [← hl]
    rfl
  | cons l ls => exact ⟨_, by simp [hl, State.emptied]; rfl, bind_putBind_same s j st { s.bind j st with lines := [] }⟩

/-- A job that does not wait for a batch boundary resumes nothing. -/
theorem resumeAt_idle {s : State} {j st : Nat} (n : Nat) (h : (s.bind j st).resume = false) : resumeAt s j st n = s := by
  simp [resumeAt, h]

/-- Noting the first line of a batch writes that field of the binding at most. -/
theorem noteFirst_eq (s : State) (j st n : Nat) (stamp : Stamp) :
    ∃ B f, noteFirst s j st n stamp = s.setBinds B ∧ (s.setBinds B).bind j st = { s.bind j st with first := f } := by
  unfold noteFirst
  dsimp only
  split
  · exact ⟨s.binds, (s.bind j st).first, rfl, rfl⟩
  · exact ⟨_, _, rfl, bind_putBind_same ..⟩

/-- A line arrives on a stream: it is counted and takes its place, its stamp and its instant. -/
def State.lineIn (s : State) (st : Nat) (stamp : Stamp) : State :=
  (s.bump R.STREAM_LINES_COUNT st).putIng st { s.ing st with abs := (s.ing st).abs + 1, last := stamp, lineAt := some s.now }

theorem offerLine_unbound {s : State} {st : Nat} (stamp : Stamp) (pix : List Nat) (pre : Nat) (h : s.boundJobs st = []) :
    DropsNoted (s.lineIn st stamp) (offerLine s st stamp pix pre) := by
  have hb : (s.lineIn st stamp).boundJobs st = [] := h
  unfold offerLine
  rw [State.lineIn] at hb ⊢
  simp only [hb, each_nil, List.map_nil, List.filterMap_nil, List.isEmpty_nil, if_true]
  exact (noted_reportCollected _ st 7 []).trans (noted_lineDrops ..)

/-- A job takes the lines of a stream: it is not fenced, waiting or held, resumes nothing and has lost no batch, and no module fault halts
dispatch. -/
structure State.Takes (s : State) (j st : Nat) : Prop where
  resume : (s.bind j st).resume = false
  lostBatch : (s.bind j st).lostBatch = none
  fenced : (s.job j).fenced = false
  waiting : (s.job j).waiting = false
  holds : (s.job j).holds = ⟨false, false, false, false⟩
  halt : s.halt = false

theorem lineFate_accept {s : State} {j st : Nat} (n : Nat) (h : s.Takes j st) : lineFate s j st n 0 = .accept := by
  obtain ⟨hresume, hlost, hfenced, hwaiting, hholds, hhalt⟩ := h
  simp [lineFate, hresume, hlost, hfenced, hwaiting, hholds, hhalt]

theorem lineFate_drop (s : State) (j st n : Nat) {pre : Nat} (h : pre ≠ 0) : lineFate s j st n pre = .drop pre := by simp [lineFate, h]

/-- A line arrives on a stream to which one job is bound that resumes nothing: what `offerLine` then does to the job starts from here. -/
theorem lineIn_single {s : State} {j st : Nat} (stamp : Stamp) (hresume : (s.bind j st).resume = false) : ∃ B f,
    noteFirst (resumeAt (s.lineIn st stamp) j st ((s.lineIn st stamp).bind j st).next) j st ((s.lineIn st stamp).bind j st).next stamp =
      (s.lineIn st stamp).setBinds B ∧
    ((s.lineIn st stamp).setBinds B).bind j st = { s.bind j st with first := f } := by
  rw [resumeAt_idle (s := s.lineIn st stamp) _ hresume]
  obtain ⟨B, f, hnote, hbind⟩ := noteFirst_eq (s.lineIn st stamp) j st ((s.lineIn st stamp).bind j st).next stamp
  exact ⟨B, f, hnote, hbind⟩

/-- The one job bound to the stream takes the line: the drops of earlier lines are closed, and the line joins its batch. -/
theorem offerLine_accept {s : State} {j st : Nat} (stamp : Stamp) (pix : List Nat) (hbound : s.boundJobs st = [j]) (h : s.Takes j st) :
    ∃ B f u, DropsNoted ((s.lineIn st stamp).setBinds B) u ∧ u.bind j st = { s.bind j st with first := f } ∧
      offerLine s st stamp pix 0 = acceptLine u j st ⟨(s.bind j st).next, (s.ing st).abs, stamp, pix, u.wideForm st⟩ := by
  have hb : (s.lineIn st stamp).boundJobs st = [j] := hbound
  obtain ⟨B, f, hnote, hbind⟩ := lineIn_single stamp h.resume
  have hnext : (((s.lineIn st stamp).setBinds B).bind j st).next = (s.bind j st).next := by rw [hbind]
  have htakes : ((s.lineIn st stamp).setBinds B).Takes j st :=
    ⟨by rw [hbind]; exact h.resume, by rw [hbind]; exact h.lostBatch, h.fenced, h.waiting, h.holds, h.halt⟩
  have hnoted := (noted_reportCollected ((s.lineIn st stamp).setBinds B) st 7 []).trans (noted_lineDrops _ st
    (groupDrops st 1 stamp stamp (reportCollected ((s.lineIn st stamp).setBinds B) st 7 []).now []))
  refine ⟨B, f, _, hnoted, (hnoted.bind j st).trans hbind, ?_⟩
  unfold offerLine
  rw [State.lineIn] at *
  simp only [hb, each_cons, each_nil, hnote, List.map_cons, List.map_nil, hnext, lineFate_accept _ htakes, List.filterMap_cons,
    List.filterMap_nil, List.isEmpty_nil, if_true]

/-- A line with a cause of its own to be dropped empties the batch being collected, whose number is lost. -/
theorem offerLine_drop {s : State} {j st pre : Nat} (stamp : Stamp) (pix : List Nat) (hbound : s.boundJobs st = [j]) (hpre : pre ≠ 0)
    (hresume : (s.bind j st).resume = false) (hfenced : (s.job j).fenced = false) :
    ∃ B f u, DropsNoted ((s.lineIn st stamp).setBinds B) u ∧ u.bind j st = { s.bind j st with first := f, lines := [] } ∧
      offerLine s st stamp pix pre = u.putBind j st
        { u.bind j st with next := (s.bind j st).next + 1, lostBatch := some ((s.bind j st).next / 64) } := by
  have hb : (s.lineIn st stamp).boundJobs st = [j] := hbound
  obtain ⟨B, f, hnote, hbind⟩ := lineIn_single stamp hresume
  have hnext : (((s.lineIn st stamp).setBinds B).bind j st).next = (s.bind j st).next := by rw [hbind]
  obtain ⟨B', hempty, hlines⟩ := emptied_single ((s.lineIn st stamp).setBinds B) j st
  have hreport := noted_reportCollected ((s.lineIn st stamp).setBinds B) st 7 [j]
  rw [hempty] at hreport
  have hnoted := (hreport.trans (noted_countDrops _ st [(s.ing st).abs])).trans (noted_lineDrops _ st (groupDrops st 1 stamp stamp
    (countDrops (reportCollected ((s.lineIn st stamp).setBinds B) st 7 [j]) st [(s.ing st).abs]).now [(j, pre, (s.bind j st).next)]))
  generalize hu : lineDrops _ st _ = u at hnoted
  have hubind : u.bind j st = { s.bind j st with first := f, lines := [] } := by rw [hnoted.bind, hlines, hbind]
  have hmissed (v : Bind) (hv : v.resume = false) : lineMissed (u.putBind j st v) j st (s.bind j st).next = false := by
    have hjob : ((u.putBind j st v).job j).fenced = false := (congrArg Job.fenced (hnoted.job j)).trans hfenced
    simp [lineMissed, hjob, bind_putBind_same, hv]
  refine ⟨B', f, u, hnoted, hubind, ?_⟩
  unfold offerLine
  rw [State.lineIn] at *
  simp only [hb, each_cons, each_nil, hnote, List.map_cons, List.map_nil, hnext, lineFate_drop _ j st _ hpre, List.filterMap_cons,
    List.filterMap_nil, List.isEmpty_cons, Bool.false_eq_true, if_false, hu,
    hmissed { u.bind j st with next := (s.bind j st).next + 1, lostBatch := some ((s.bind j st).next / 64) } (by rw [hubind]; exact hresume)]

theorem acceptLine_open {s : State} {j st : Nat} (l : Line) (h : (s.bind j st).lines.length < 63) :
    acceptLine s j st l = s.putBind j st { s.bind j st with lines := (s.bind j st).lines ++ [l], next := l.num + 1 } := by
  have hlen : ((s.bind j st).lines ++ [l]).length ≠ 64 := by rw [List.length_append, List.length_singleton]; omega
  exact if_neg hlen

/-- The 64th line completes the batch (R34). -/
theorem acceptLine_full {s : State} {j st : Nat} (l : Line) (h : (s.bind j st).lines.length = 63) :
    acceptLine s j st l = refreshWait ((s.putBind j st { s.bind j st with lines := [], next := l.num + 1 }).setBatches
      (s.batches ++ [⟨j, st, l.num / 64, (s.bind j st).lines ++ [l], false, [], [], [], 0, Flags.none, 0, []⟩])) j := by
  have hlen : ((s.bind j st).lines ++ [l]).length = 64 := by rw [List.length_append, List.length_singleton, h]
  exact if_pos hlen

theorem DropsNoted.wideForm {s t : State} (h : DropsNoted s t) (st : Nat) : t.wideForm st = s.wideForm st := by
  have hdtype : t.dtypeOf st = s.dtypeOf st := by
    unfold State.dtypeOf State.frc State.frc2 State.forceWord
    rw [h.inForce]
  unfold State.wideForm
  rw [hdtype]

/-- A line that arrives and the drops it brings to be noted write the counts of the stream's lines only. -/
theorem DropsNoted.rd_lineIn {s u : State} {st : Nat} {stamp : Stamp} {B : Sparse Bind} (h : DropsNoted ((s.lineIn st stamp).setBinds B) u)
    (f : Fld) (i : Nat) (hf : f.key i 0 < 0x60300) : u.rd f i = s.rd f i := by
  have hdrop (i' : Nat) : f.key i 0 ≠ R.STREAM_DROP_COUNT.key i' 0 := by
    simp only [R.STREAM_DROP_COUNT, Fld.key] at hf ⊢; omega
  have hlines : f.key i 0 ≠ R.STREAM_LINES_COUNT.key st 0 := by
    simp only [R.STREAM_LINES_COUNT, Fld.key] at hf ⊢; omega
  have hword : u.word (f.key i 0) = s.word (f.key i 0) := (h.words _ hdrop).trans (word_wr_ne s _ st _ hlines)
  simp only [State.rd, State.rd2, hword]

theorem DropsNoted.lines_counted {s u : State} {st : Nat} {stamp : Stamp} (h : DropsNoted (s.lineIn st stamp) u) :
    Counted s u R.STREAM_LINES_COUNT st := by
  have hkey (i : Nat) : R.STREAM_LINES_COUNT.key st 0 ≠ R.STREAM_DROP_COUNT.key i 0 := by
    simp only [R.STREAM_LINES_COUNT, R.STREAM_DROP_COUNT, Fld.key]; omega
  have hrd : u.rd R.STREAM_LINES_COUNT st = (s.bump R.STREAM_LINES_COUNT st).rd R.STREAM_LINES_COUNT st :=
    congrArg (fieldOf _ _) (h.words _ hkey)
  exact hrd.trans (rd_wr_same s R.STREAM_LINES_COUNT st _ (by decide))

/-! ### Long packets -/

/-- A packet is heard on a receive port. -/
def State.heard (s : State) (p : Nat) : State := s.setRxAt (spSet (fun _ => none) s.rxAt p (some s.now))

/-- The header of a packet that a port takes leads to the stream of its virtual channel. -/
theorem streamOfPacket_good {s : State} {p vc : Nat} (hon : s.rxOn p = true) (hvc : vc < 4) :
    streamOfPacket s p vc .good = (s.heard p, some (4 * p + vc)) := by
  simp [streamOfPacket, headerCheck, hon, hvc, streamOf, State.heard]

/-- A payload CRC that is wrong is counted and sets CRC_ERR (R255, R286). -/
def State.crcBad (s : State) (p : Nat) : State := (s.bump R.RX_STAT_CRC_CNT p).raiseRx R.RX_EVT_CRC_ERR p

theorem raiseRx_on (s : State) (f : Fld) (p : Nat) (hkey : f.key 0 0 = 0x60080) (hlo : 8 ≤ f.lo) (hw : 0 < f.w) (hhi : f.lo + f.w ≤ 24) :
    (s.raiseRx f p).on f 0 = true := by
  have hset := raise_on_same s f 0 (by rw [hkey]; decide) hlo hw (by omega)
  simp only [State.on, State.raiseRx] at hset ⊢
  rwa [rd_wr_ne _ R.RX_EVT_PORT f 0 0 _ (.inr (.inl hhi))]

theorem raiseRx_binds (s : State) (f : Fld) (p : Nat) : (s.raiseRx f p).binds = s.binds := raise_binds s f 0

theorem raiseRx_batches (s : State) (f : Fld) (p : Nat) : (s.raiseRx f p).batches = s.batches := raise_batches s f 0

theorem crcBad_counted (s : State) {p : Nat} : Counted s (s.crcBad p) R.RX_STAT_CRC_CNT p := by
  have hk : R.RX_STAT_CRC_CNT.key p 0 = 0x60040 + 4 * (p % 12) := by simp [R.RX_STAT_CRC_CNT, Fld.key]
  have hevt : R.RX_STAT_CRC_CNT.key p 0 ≠ 0x60080 := by rw [hk]; omega
  rw [Counted, State.crcBad, State.raiseRx, rd_wr_ne _ R.RX_EVT_PORT _ 0 p _ (.inl hevt),
    raise_rd_ne _ R.RX_EVT_CRC_ERR _ 0 p hevt (by rw [hk]; omega)]
  exact rd_wr_same s R.RX_STAT_CRC_CNT p _ (by decide)

/-- What a wrong CRC leaves alone. -/
theorem crcBad_frame (s : State) (p : Nat) : (s.crcBad p).binds = s.binds ∧ (s.crcBad p).jobs = s.jobs ∧
    (s.crcBad p).inForce = s.inForce := ⟨raise_binds .., raise_jobs .., raise_inForce ..⟩

theorem execLongPacket_dtypeBad {s : State} {p : Fin 12} {vc : Fin 16} {d : Fin 64} (ph : Fin 4) (a b : Bool) (pix : List Nat)
    (hon : s.rxOn p = true) (hvc : vc.val < 4) (hen : s.frc R.STREAM_CFG_EN (4 * p.val + vc.val) ≠ 0)
    (hd : ¬ (0x10 ≤ d.val ∧ d.val ≤ 0x12)) (hdt : d.val ≠ s.dtypeOf (4 * p.val + vc.val)) :
    exec (.longPacket p vc ⟨.good, ph⟩ d a b pix) s = .next ((s.heard p).raiseRx R.RX_EVT_DTYPE_BAD p) := by
  have hen' : (s.heard p).frc R.STREAM_CFG_EN (4 * p.val + vc.val) ≠ 0 := hen
  have hdt' : d.val ≠ (s.heard p).dtypeOf (4 * p.val + vc.val) := hdt
  simp only [exec, execLongPacket, streamOfPacket_good hon hvc, hen', hd, hdt', if_false, ne_eq, not_false_eq_true, if_true]

theorem execLongPacket_discarded {s : State} {p : Fin 12} {vc : Fin 16} {d : Fin 64} (ph : Fin 4) (a b : Bool) (pix : List Nat)
    (hon : s.rxOn p = true) (hvc : vc.val < 4) (hd : 0x10 ≤ d.val ∧ d.val ≤ 0x12) :
    exec (.longPacket p vc ⟨.good, ph⟩ d a b pix) s = .next (s.heard p) := by
  simp only [exec, execLongPacket, streamOfPacket_good hon hvc, hd, and_self, if_true, ite_self]

/-- A long packet of the stream's data type with its CRC right and room for it, on a stream without line numbers, offers its line. -/
theorem execLongPacket_line {s : State} {p : Fin 12} {vc : Fin 16} {d : Fin 64} (ph : Fin 4) (pix : List Nat)
    (hon : s.rxOn p = true) (hvc : vc.val < 4) (hen : s.frc R.STREAM_CFG_EN (4 * p.val + vc.val) ≠ 0)
    (hnum : s.lineNum (4 * p.val + vc.val) = false) (hd : ¬ (0x10 ≤ d.val ∧ d.val ≤ 0x12)) (hdt : d.val = s.dtypeOf (4 * p.val + vc.val)) :
    exec (.longPacket p vc ⟨.good, ph⟩ d true true pix) s =
      .next (offerLine (s.heard p) (4 * p.val + vc.val) (s.stampAt ph) pix (if pix.length ≠ s.width (4 * p.val + vc.val) then 2 else 0)) := by
  have hen' : (s.heard p).frc R.STREAM_CFG_EN (4 * p.val + vc.val) ≠ 0 := hen
  have hdt' : d.val = (s.heard p).dtypeOf (4 * p.val + vc.val) := hdt
  have hstamp : lineStamp (s.heard p) (4 * p.val + vc.val) ph = (s.heard p, s.stampAt ph) := if_neg (Bool.eq_false_iff.1 hnum)
  simp only [exec, execLongPacket, streamOfPacket_good hon hvc, hen', hd, ← hdt', if_false, ne_eq, not_true_eq_false, if_true,
    hstamp, Bool.not_true, Bool.false_eq_true]
  rfl

/-- One whose CRC is wrong offers a line that is to be dropped. -/
theorem execLongPacket_crc {s : State} {p : Fin 12} {vc : Fin 16} {d : Fin 64} (ph : Fin 4) (pix : List Nat)
    (hon : s.rxOn p = true) (hvc : vc.val < 4) (hen : s.frc R.STREAM_CFG_EN (4 * p.val + vc.val) ≠ 0)
    (hnum : s.lineNum (4 * p.val + vc.val) = false) (hd : ¬ (0x10 ≤ d.val ∧ d.val ≤ 0x12)) (hdt : d.val = s.dtypeOf (4 * p.val + vc.val)) :
    ∃ stamp, exec (.longPacket p vc ⟨.good, ph⟩ d false true pix) s =
      .next (offerLine ((s.heard p).crcBad p) (4 * p.val + vc.val) stamp pix 1) := by
  have hen' : (s.heard p).frc R.STREAM_CFG_EN (4 * p.val + vc.val) ≠ 0 := hen
  have hdt' : d.val = (s.heard p).dtypeOf (4 * p.val + vc.val) := hdt
  have hnum' : ((s.heard p).crcBad p).lineNum (4 * p.val + vc.val) = false := by
    rw [← hnum]
    simp only [State.lineNum, State.frc, State.frc2, State.forceWord, (crcBad_frame _ _).2.2]
    rfl
  have hstamp : lineStamp ((s.heard p).crcBad p) (4 * p.val + vc.val) ph = ((s.heard p).crcBad p, ((s.heard p).crcBad p).stampAt ph) :=
    if_neg (by rw [hnum']; decide)
  refine ⟨((s.heard p).crcBad p).stampAt ph, ?_⟩
  rw [State.crcBad] at *
  simp only [exec, execLongPacket, streamOfPacket_good hon hvc, hen', hd, ← hdt', if_false, ne_eq, not_true_eq_false,
    hstamp, Bool.not_false, Bool.false_eq_true, if_true]

/-- Settles O25: the line of a packet is offered to the jobs bound to its stream; what each takes and what a drop empties is said above. -/
theorem linesFormBatches : Obligations.LinesFormBatches := by
  intro s p vc pix d ph st hon hvc hen hnum hd
  refine ⟨fun hdt => ⟨fun j hbound hresume hlost hfenced hwaiting hholds hhalt hwidth => ?_, fun hbound => ?_⟩,
    fun hdt a b => ⟨_, execLongPacket_dtypeBad ph a b pix hon hvc hen hd hdt, ?_, ?_, ?_⟩,
    fun e a b hlo hhi => ⟨_, execLongPacket_discarded ph a b pix hon hvc ⟨hlo, hhi⟩, rfl⟩⟩
  · have htakes : (s.heard p).Takes j st := ⟨hresume, hlost, hfenced, hwaiting, hholds, hhalt⟩
    have hexec := execLongPacket_line ph pix hon hvc hen hnum hd hdt
    rw [if_neg (not_not.2 hwidth)] at hexec
    obtain ⟨B, f, u, hu, hbind, hoffer⟩ := offerLine_accept (s.stampAt ph) pix (s := s.heard p) hbound htakes
    rw [hoffer, hu.wideForm] at hexec
    have hbatches : u.batches = s.batches := hu.batches
    refine ⟨fun hlt => ⟨_, hexec, ?_⟩, fun hfull => ⟨_, hexec, ?_⟩, ?_⟩
    · beta_reduce
      rw [acceptLine_open _ (by rw [hbind]; exact hlt), bind_putBind_same, hbind]
      exact ⟨rfl, rfl, hbatches⟩
    · beta_reduce
      rw [acceptLine_full _ (by rw [hbind]; exact hfull), refreshWait_apart (fun t => t.bind j st) (fun _ _ _ => rfl),
        refreshWait_apart State.batches (fun _ _ _ => rfl), hbind]
      exact ⟨congrArg Bind.lines (bind_putBind_same ..), by rw [← hbatches]; rfl⟩
    · obtain ⟨hbinds, hjobs, -⟩ := crcBad_frame (s.heard p) p
      obtain ⟨stamp, hexec⟩ := execLongPacket_crc ph pix hon hvc hen hnum hd hdt
      have hbind' (k : Nat) : ((s.heard p).crcBad p).bind k st = s.bind k st := by rw [State.bind, hbinds]; rfl
      have hjob : ((s.heard p).crcBad p).job j = s.job j := by rw [State.job, hjobs]; rfl
      obtain ⟨B, f, u, hu, hlines, hoffer⟩ := offerLine_drop (s := (s.heard p).crcBad p) (j := j) (st := st) (pre := 1) stamp pix
        (by simp only [State.boundJobs, hbind']; exact hbound) (by decide) (by rw [hbind']; exact hresume) (by rw [hjob]; exact hfenced)
      rw [hoffer, hlines, hbind'] at hexec
      have hrd (v : Bind) (f : Fld) (i : Nat) (hf : f.key i 0 < 0x60300) :
          (u.putBind j st v).rd f i = ((s.heard p).crcBad p).rd f i := hu.rd_lineIn f i hf
      have hkey : R.RX_STAT_CRC_CNT.key p 0 < 0x60300 := by simp only [R.RX_STAT_CRC_CNT, Fld.key]; omega
      exact ⟨_, hexec, congrArg Bind.lines (bind_putBind_same ..), congrArg Bind.next (bind_putBind_same ..),
        congrArg Bind.lostBatch (bind_putBind_same ..),
        (congrArg (· != 0) (hrd _ R.RX_EVT_CRC_ERR 0 (by decide))).trans (raiseRx_on _ _ _ rfl (by decide) (by decide) (by decide)),
        (hrd _ R.RX_STAT_CRC_CNT p hkey).trans (crcBad_counted (s.heard p))⟩
  · have hexec := execLongPacket_line ph pix hon hvc hen hnum hd hdt
    have hu := offerLine_unbound (s := s.heard p) (s.stampAt ph) pix (if pix.length ≠ s.width st then 2 else 0) hbound
    exact ⟨_, hexec, hu.lines_counted, hu.binds, hu.batches, (hu.lineAt st).trans (congrArg Ingest.lineAt (spGet_spSet_same ..))⟩
  · exact raiseRx_on _ _ _ rfl (by decide) (by decide) (by decide)
  · exact raiseRx_binds ..
  · exact raiseRx_batches ..

/-! ### What the mailboxes and JOB_ commands share -/

/-- A command that begins and is answered at once leaves the jobs. -/
theorem running_respond_answers (s : State) (m : Nat) (st : Status) (d : Nat) (data : List Byte) :
    ((s.running m).respond m st d data).Answers m st data ∧ ((s.running m).respond m st d data).jobs = s.jobs :=
  ⟨respond_answers .., respond_jobs ..⟩

theorem job_respond (s : State) (m : Nat) (st : Status) (d : Nat) (data : List Byte) (j : Nat) : (s.respond m st d data).job j = s.job j := by
  rw [State.job, respond_jobs]; rfl

theorem bind_respond (s : State) (m : Nat) (st : Status) (d : Nat) (data : List Byte) (j n : Nat) :
    (s.respond m st d data).bind j n = s.bind j n := by
  rw [State.bind, respond_binds]; rfl

theorem job_putJob_same (s : State) (j : Nat) (v : Job) : (s.putJob j v).job j = v := spGet_spSet_same ..

theorem bind_putJob (s : State) (j : Nat) (v : Job) (i n : Nat) : (s.putJob j v).bind i n = s.bind i n := rfl

theorem mbState_running (s : State) (m : Nat) : (s.running m).mbState m = mbRunning :=
  rd_wr_same s R.MBX_STAT_STATE m mbRunning (by decide)

theorem statusData_running (s : State) (m j : Nat) : (s.running m).statusData j = s.statusData j := by
  unfold State.statusData
  rw [rd_running (f := R.WSET_JOB_GEN) (by decide), rd_running (f := R.JOB_RST_CNT_RESTARTS) (by decide)]
  rfl

theorem outUnmapped_running (s : State) (m j : Nat) : (s.running m).outUnmapped j = s.outUnmapped j := by
  simp only [State.outUnmapped, State.on, rd_running (f := R.OUT_MAP_EN) (by decide), job_running]

/-- JOB_STATUS and CAPS_GET are answered with their data (R54, R311). -/
theorem jobStatus_answers {s : State} {m : Fin 16} (h : s.begins m 0x0106 true true true = true) :
    Does (.jobStatus m) s fun t => t.Answers m .ok (s.statusData (s.req m 8 1)) ∧ t.jobs = s.jobs := by
  have hexec : exec (.jobStatus m) s = .next ((s.running m).respond m .ok 0 (s.statusData (s.req m 8 1))) := by
    simp only [exec, execJobStatus, peade_begins 0 _ h, req_running, statusData_running]
  exact ⟨_, hexec, running_respond_answers ..⟩

theorem capsGet_answers {s : State} {m : Fin 16} (h : s.begins m 0x0001 true true true = true) :
    Does (.capsGet m) s fun t => t.Answers m .ok ((descriptor.drop (s.req m 8 1)).take 56) ∧ t.jobs = s.jobs := by
  have hexec : exec (.capsGet m) s = .next ((s.running m).respond m .ok 0 ((descriptor.drop (s.req m 8 1)).take 56)) := by
    simp only [exec, execCapsGet, peade_begins 0 _ h, req_running]
  exact ⟨_, hexec, running_respond_answers ..⟩

/-! ### JOB_START -/

theorem scrubPage_apart {α : Type} (g : State → α) (hg : ∀ s a b, g ((s.setSram a).setStaging b) = g s) (s : State) (ppn : Nat) :
    g (scrubPage s ppn) = g s := by
  unfold scrubPage
  split
  · exact hg s (s.sram.filter fun e => e.1 / 65536 != ppn) s.staging
  · exact hg s s.sram (s.staging.filter fun e => e.1 / 65536 + 0xC00 != ppn)

theorem bind_putBind (s : State) (j st st' : Nat) (v : Bind) :
    (s.putBind j st v).bind j st' = if st' % 48 = st % 48 then v else s.bind j st' := by
  simp only [State.bind, State.putBind, State.setBinds_frame, spGet_spSet, Nat.add_left_cancel_iff]

/-- A stream is bound as its list is, unless it is written by none and was so before. -/
theorem bind_each_putBind (j : Nat) (v : Bind) (l : List Nat) (s : State) (st : Nat) (h : st ∈ l ∨ s.bind j st = v) :
    (s.each l fun s x => s.putBind j x v).bind j st = v := by
  induction l generalizing s with
  | nil => simpa using h
  | cons a l ih =>
    refine ih _ ?_
    rw [bind_putBind]
    obtain hmem | hv := h
    · obtain rfl | hmem := List.mem_cons.1 hmem
      · exact .inr (if_pos rfl)
      · exact .inl hmem
    · exact .inr (by rw [hv, ite_self])

/-- What a start does before the job's own state changes: its recurrent state and pages are cleared, its streams bound and its record
numbers begun anew (R41, R260, R267). -/
def State.startBinds (s : State) (j : Nat) : State :=
  let nb := (s.job j).hdr.nbBatches
  let s' := (clearRecur (clearPages s j) j).each (s.job j).streams fun s st => s.putBind j st ⟨true, 0, [], none, false, nb, nb, none⟩
  s'.each (List.range 8) fun s p => s.putOut (outOf j p) { s.out (outOf j p) with recSeq := 0 }

/-- It leaves alone whatever speaks of no memory, recurrent state, binding or output stream. -/
theorem startBinds_apart {α : Type} (g : State → α) (hmem : ∀ s a b, g ((s.setSram a).setStaging b) = g s)
    (hrec : ∀ s a b, g ((s.setRecur a).setStDone b) = g s) (hbind : ∀ s a, g (s.setBinds a) = g s) (hout : ∀ s a, g (s.setOuts a) = g s)
    (s : State) (j : Nat) : g (s.startBinds j) = g s :=
  calc g (s.startBinds j)
    _ = g (State.each (clearRecur (clearPages s j) j) (s.job j).streams fun s st => s.putBind j st _) := each_keeps g _ _ _ fun _ _ => hout ..
    _ = g (clearRecur (clearPages s j) j) := each_keeps g _ _ _ fun _ _ => hbind ..
    _ = g (clearPages s j) := hrec ..
    _ = g s := each_keeps g _ _ _ fun s a => scrubPage_apart g hmem s a

theorem startBinds_bind (s : State) {j st : Nat} (h : st ∈ (s.job j).streams) :
    (s.startBinds j).bind j st = ⟨true, 0, [], none, false, (s.job j).hdr.nbBatches, (s.job j).hdr.nbBatches, none⟩ := by
  unfold State.startBinds
  refine (each_keeps (fun s => s.bind j st) _ _ _ ?_).trans (bind_each_putBind j _ _ _ st (.inl h))
  exact fun _ _ => rfl

/-- The job as it has started: WARMING with NB_BATCHES, else RUNNING (R40). -/
def Job.begun (job : Job) : Job :=
  { job with st := if job.hdr.nbBatches = 0 then .running else .warming, restartDue := [], reduced := none }

theorem startJob_eq (s : State) (j : Nat) : startJob s j = strikeStart ((s.startBinds j).putJob j (s.job j).begun) j := by
  have hjob : (s.startBinds j).job j = s.job j :=
    startBinds_apart (·.job j) (fun _ _ _ => rfl) (fun _ _ _ => rfl) (fun _ _ => rfl) (fun _ _ => rfl) s j
  have hstart : startJob s j = strikeStart ((s.startBinds j).putJob j { (s.startBinds j).job j with
    st := if (s.job j).hdr.nbBatches = 0 then .running else .warming, restartDue := [], reduced := none }) j := rfl
  rw [hstart, hjob]
  rfl

/-- A job that starts in sound halves, without a split and on no cluster out of service is not struck. -/
theorem strikeStart_sound {s : State} {j : Nat} (h0 : (s.half 0).failed = false) (h1 : (s.half 1).failed = false) (hsplit : s.split = false)
    (hclu : ∀ c ∈ s.cluOut, c ∉ (s.job j).clusters) : strikeStart s j = s := by
  have hnone : s.cluOut.find? (s.job j).clusters.contains = none := List.find?_eq_none.2 fun c hc => by simpa using hclu c hc
  simp only [strikeStart, each_cons, each_nil, h0, h1, hsplit, Bool.false_and, Bool.false_eq_true, if_false, hnone]

/-- JOB_START of a job that is not LOADED, or with an output stream not mapped, is refused (R40, R266). -/
theorem jobStart_refused {s : State} {m : Fin 16} (h : s.begins m 0x0102 s.notStopped true true = true) :
    ((s.job (s.req m 8 1)).st ≠ .loaded → Does (.jobStart m) s fun t => t.Answers m .jobState [] ∧ t.jobs = s.jobs) ∧
    ((s.job (s.req m 8 1)).st = .loaded → s.outUnmapped (s.req m 8 1) = true →
      Does (.jobStart m) s fun t => t.Answers m .outUnmapped [] ∧ t.jobs = s.jobs) := by
  refine ⟨fun hst => ?_, fun hst hout => ?_⟩
  · have hexec : exec (.jobStart m) s = .next ((s.running m).respond m .jobState 0 []) := by
      simp [exec, execJobStart, peade_begins 0 _ h, req_running, hst]
    exact ⟨_, hexec, running_respond_answers ..⟩
  · have hexec : exec (.jobStart m) s = .next ((s.running m).respond m .outUnmapped 0 []) := by
      simp [exec, execJobStart, peade_begins 0 _ h, req_running, hst, outUnmapped_running, hout]
    exact ⟨_, hexec, running_respond_answers ..⟩

/-- In sound halves and clusters and without a split a job starts unstruck. -/
theorem startJob_sound {s : State} {j : Nat} (h0 : (s.half 0).failed = false) (h1 : (s.half 1).failed = false) (hsplit : s.split = false)
    (hclu : ∀ c ∈ s.cluOut, c ∉ (s.job j).clusters) : startJob s j = (s.startBinds j).putJob j (s.job j).begun := by
  have hkeep {α : Type} (g : State → α) (hmem : ∀ s a b, g ((s.setSram a).setStaging b) = g s)
      (hrec : ∀ s a b, g ((s.setRecur a).setStDone b) = g s) (hbind : ∀ s a, g (s.setBinds a) = g s)
      (hout : ∀ s a, g (s.setOuts a) = g s) (hjobs : ∀ s a, g (s.setJobs a) = g s) :
      g ((s.startBinds j).putJob j (s.job j).begun) = g s := (hjobs ..).trans (startBinds_apart g hmem hrec hbind hout s j)
  rw [startJob_eq]
  refine strikeStart_sound ?_ ?_ ?_ ?_
  · rwa [hkeep (fun s => (s.half 0).failed) (fun _ _ _ => rfl) (fun _ _ _ => rfl) (fun _ _ => rfl) (fun _ _ => rfl) (fun _ _ => rfl)]
  · rwa [hkeep (fun s => (s.half 1).failed) (fun _ _ _ => rfl) (fun _ _ _ => rfl) (fun _ _ => rfl) (fun _ _ => rfl) (fun _ _ => rfl)]
  · rwa [hkeep State.split (fun _ _ _ => rfl) (fun _ _ _ => rfl) (fun _ _ => rfl) (fun _ _ => rfl) (fun _ _ => rfl)]
  · rw [hkeep State.cluOut (fun _ _ _ => rfl) (fun _ _ _ => rfl) (fun _ _ => rfl) (fun _ _ => rfl) (fun _ _ => rfl), job_putJob_same]
    exact hclu

/-- JOB_START of a LOADED job in sound halves and clusters binds its streams and makes it RUNNING or WARMING (R40, R41). -/
theorem jobStart_starts {s : State} {m : Fin 16} (h : s.begins m 0x0102 s.notStopped true true = true)
    (hst : (s.job (s.req m 8 1)).st = .loaded) (hout : s.outUnmapped (s.req m 8 1) = false) (h0 : (s.half 0).failed = false)
    (h1 : (s.half 1).failed = false) (hsplit : s.split = false) (hclu : ∀ c ∈ s.cluOut, c ∉ (s.job (s.req m 8 1)).clusters) :
    Does (.jobStart m) s fun t => t.Answers m .ok [] ∧ t.job (s.req m 8 1) = (s.job (s.req m 8 1)).begun ∧
      ∀ st ∈ (s.job (s.req m 8 1)).streams, t.bind (s.req m 8 1) st = ⟨true, 0, [], none, false, (s.job (s.req m 8 1)).hdr.nbBatches,
        (s.job (s.req m 8 1)).hdr.nbBatches, none⟩ := by
  have hsplit' : (s.running m).split = false := by rw [← hsplit]; exact congrArg (· != 0) (rd_running (by decide) s m 0)
  have hstart : startJob (s.running m) (s.req m 8 1) =
    ((s.running m).startBinds (s.req m 8 1)).putJob (s.req m 8 1) (s.job (s.req m 8 1)).begun := startJob_sound h0 h1 hsplit' hclu
  have hexec : exec (.jobStart m) s = .next ((startJob (s.running m) (s.req m 8 1)).respond m .ok 0 []) := by
    simp [exec, execJobStart, peade_begins 0 _ h, req_running, hst, outUnmapped_running, hout]
  rw [hstart] at hexec
  refine ⟨_, hexec, respond_answers .., ?_, fun st hmem => ?_⟩
  · rw [job_respond, job_putJob_same]
  · rw [bind_respond, bind_putJob]
    exact startBinds_bind (s.running m) hmem

/-! ### JOB_STOP -/

/-- What the streams, results and outputs of a job do as it stops leaves the jobs, the batches and the mailboxes. -/
structure Aside (s t : State) : Prop where
  job : ∀ j, t.job j = s.job j
  batches : t.batches = s.batches
  mbxOrder : t.mbxOrder = s.mbxOrder
  mailboxes : ∀ k < 0x10880, t.word k = s.word k

theorem Aside.refl (s : State) : Aside s s := ⟨fun _ => rfl, rfl, rfl, fun _ _ => rfl⟩

theorem Aside.trans {s t u : State} (h : Aside s t) (h' : Aside t u) : Aside s u where
  job j := (h'.job j).trans (h.job j)
  batches := h'.batches.trans h.batches
  mbxOrder := h'.mbxOrder.trans h.mbxOrder
  mailboxes k hk := (h'.mailboxes k hk).trans (h.mailboxes k hk)

theorem Aside.each {α : Type} {l : List α} {f : State → α → State} (hf : ∀ s a, Aside s (f s a)) (s : State) : Aside s (s.each l f) :=
  each_inv (Aside s) l f s (fun t a ht => ht.trans (hf t a)) (.refl s)

theorem DropsNoted.aside {s t : State} (h : DropsNoted s t) : Aside s t where
  job := h.job
  batches := h.batches
  mbxOrder := h.mbxOrder
  mailboxes k hk := h.words k fun i => by
    have := key_ge_base R.STREAM_DROP_COUNT i 0
    simp only [R.STREAM_DROP_COUNT] at this ⊢; omega

theorem aside_wr {f : Fld} (hf : 0x10880 ≤ f.base) (s : State) (i v : Nat) : Aside s (s.wr f i v) :=
  ⟨fun _ => rfl, rfl, rfl, fun k hk => word_wr_ne s f i v (by have := key_ge_base f i 0; omega)⟩

theorem aside_putBind (s : State) (j st : Nat) (v : Bind) : Aside s (s.putBind j st v) := ⟨fun _ => rfl, rfl, rfl, fun _ _ => rfl⟩

theorem aside_reportCollected (s : State) (st cause : Nat) (js : List Nat) : Aside s (reportCollected s st cause js) :=
  (Aside.each (fun _ _ => aside_putBind ..) s).trans (noted_reportCollected s st cause js).aside

/-- A stream of a job is unbound when it is bound; its batch being collected is reported (R35). -/
def State.unbind (s : State) (j st : Nat) : State :=
  if (s.bind j st).bound then (reportCollected s st 8 [j]).putBind j st { Bind.none with nbDisp := (s.bind j st).nbDisp } else s

theorem aside_unbind (s : State) (j st : Nat) : Aside s (s.unbind j st) := by
  unfold State.unbind
  split
  · exact (aside_reportCollected ..).trans (aside_putBind ..)
  · exact .refl s

theorem aside_unbindAll (s : State) (j : Nat) : Aside s (unbindAll s j) := .each (fun s st => aside_unbind s j st) s

/-- Emptying batches being collected binds and unbinds no stream. -/
theorem emptied_bound (s : State) (st : Nat) (js : List Nat) (j st' : Nat) : ((s.emptied st js).bind j st').bound = (s.bind j st').bound := by
  refine each_keeps (fun s => (s.bind j st').bound) js _ s fun s i => ?_
  simp only [State.bind, State.putBind, State.setBinds_frame, spGet_spSet]
  split
  · rename_i heq
    rw [heq]
  · rfl

theorem unbind_bound (s : State) (j st st' : Nat) :
    ((s.unbind j st).bind j st').bound = if st' % 48 = st % 48 then false else (s.bind j st').bound := by
  unfold State.unbind
  split
  · rw [bind_putBind]
    split
    · rfl
    · rw [(noted_reportCollected s st 8 [j]).bind, emptied_bound]
  · rename_i hfree
    split
    · rename_i heq
      simpa only [State.bind, heq, Bool.not_eq_true] using hfree
    · rfl

theorem unbindAll_bound (s : State) (j : Nat) {st : Nat} (hst : st < 48) : ((unbindAll s j).bind j st).bound = false := by
  have hlist (l : List Nat) : ∀ s : State, st ∈ l ∨ (s.bind j st).bound = false →
      ((s.each l fun s st => s.unbind j st).bind j st).bound = false := by
    induction l with
    | nil => simp
    | cons a l ih =>
      intro s h
      refine ih _ ?_
      rw [unbind_bound]
      obtain hmem | hfree := h
      · obtain rfl | hmem := List.mem_cons.1 hmem
        · exact .inr (if_pos rfl)
        · exact .inl hmem
      · exact .inr (by rw [hfree, ite_self])
  exact hlist streamNums s (.inl (List.mem_range.2 hst))

theorem aside_openFrame (s : State) (t vc : Nat) : Aside s (openFrame s t vc) := (noted_openFrame s t vc).aside

theorem aside_seatEmit (s : State) (n : Nat) (r : Result) : Aside s (seatEmit s n r) := by
  have hout (o : OutStream) : Aside s (s.putOut n o) := ⟨fun _ => rfl, rfl, rfl, fun _ _ => rfl⟩
  unfold seatEmit openOut
  dsimp only
  split
  · exact (hout _).trans (aside_openFrame ..)
  · exact hout _

theorem aside_seatDrain (fuel : Nat) (s : State) (n keep : Nat) : Aside s (seatDrain s n keep fuel) := by
  induction fuel generalizing s with
  | zero => exact .refl s
  | succ fuel ih =>
    have hout (o : OutStream) : Aside s (s.putOut n o) := ⟨fun _ => rfl, rfl, rfl, fun _ _ => rfl⟩
    unfold seatDrain
    dsimp only
    split
    · exact .refl s
    · split
      · exact .refl s
      · exact ((hout _).trans (aside_seatEmit ..)).trans (ih _)

theorem aside_seatFlush (s : State) (n : Nat) : Aside s (seatFlush s n) :=
  (aside_seatDrain ..).trans (aside_wr (by decide) ..)

theorem aside_clearChannel (s : State) (c : Nat) : Aside s (clearChannel s c) := by
  have hout (s : State) (o : AoutRec) : Aside s (s.putAout c o) := ⟨fun _ => rfl, rfl, rfl, fun _ _ => rfl⟩
  have hshow (s : State) : Aside s (showAout s c) :=
    ((aside_wr (by decide) ..).trans (aside_wr (by decide) ..)).trans (aside_wr (by decide) ..)
  unfold clearChannel setCode
  dsimp only
  split
  · exact (hout ..).trans (hshow _)
  · exact ((hout ..).trans (aside_wr (by decide) ..)).trans (hshow _)

theorem aside_aoutJobLeaves (s : State) (j : Nat) : Aside s (aoutJobLeaves s j) := by
  refine .each (fun s c => ?_) s
  have hout (o : AoutRec) : Aside s (s.putAout c o) := ⟨fun _ => rfl, rfl, rfl, fun _ _ => rfl⟩
  split
  · exact (hout _).trans (aside_clearChannel ..)
  · exact .refl s

theorem aside_bump {f : Fld} (hf : 0x10880 ≤ f.base) (s : State) (i : Nat) : Aside s (s.bump f i) := aside_wr hf ..

theorem aside_putJob {s t : State} (h : Aside s t) (j : Nat) (v : Job) : Aside (s.putJob j v) (t.putJob j v) where
  job i := by
    simp only [State.job, State.putJob, State.setJobs_frame, spGet_spSet]
    split
    · rfl
    · exact h.job i
  batches := h.batches
  mbxOrder := h.mbxOrder
  mailboxes := h.mailboxes

/-- A job written with what it is changes nothing. -/
theorem aside_putJob_self (s : State) (j : Nat) : Aside (s.putJob j (s.job j)) s := by
  refine ⟨fun i => ?_, rfl, rfl, fun _ _ => rfl⟩
  simp only [State.job, State.putJob, State.setJobs_frame, spGet_spSet]
  split
  · rename_i h
    rw [h]
  · rfl

theorem aside_putJob_twice (s : State) (j : Nat) (v v' : Job) : Aside (s.putJob j v') ((s.putJob j v).putJob j v') := by
  refine ⟨fun i => ?_, rfl, rfl, fun _ _ => rfl⟩
  simp only [State.job, State.putJob, State.setJobs_frame, spGet_spSet]
  split <;> rfl

/-- Deciding anew whether a job waits leaves the rest of the jobs, the batches and the mailboxes. -/
theorem refreshWait_aside (s : State) (j : Nat) : ∃ w, Aside (s.putJob j { s.job j with waiting := w }) (refreshWait s j) := by
  have hshow (w : Bool) : Aside s ((if w && !(s.job j).waiting then s.bump R.TAG_WAIT_CNT_COUNT j else s).wrB R.TAG_STAT_WAITING j w) := by
    refine Aside.trans ?_ (aside_wr (by decide) ..)
    split
    · exact aside_bump (by decide) ..
    · exact .refl s
  unfold refreshWait
  dsimp only
  generalize (s.dispatchOpen j && (s.freeTags j == 0 || ((s.nextBatch j).map (s.overFlight j)).getD false)) = w
  replace hshow := hshow w
  generalize (if w && !(s.job j).waiting then s.bump R.TAG_WAIT_CNT_COUNT j else s).wrB R.TAG_STAT_WAITING j w = t at hshow ⊢
  refine ⟨w, ?_⟩
  rw [hshow.job]
  split
  · rename_i heq
    rw [← beq_iff_eq.1 heq]
    exact (aside_putJob_self s j).trans hshow
  · exact aside_putJob hshow ..

/-- A register field of a mailbox reads as before. -/
theorem Aside.mailbox {s t : State} (h : Aside s t) (f : Fld) (i : Nat) (hf : f.key i 0 < 0x10880) : t.rd f i = s.rd f i := by
  unfold State.rd State.rd2
  rw [h.mailboxes _ hf]

theorem Aside.mbState {s t : State} (h : Aside s t) (m : Nat) : t.mbState m = s.mbState m :=
  h.mailbox _ m (by rw [MBX_STAT_key]; omega)

theorem Aside.mbCmd {s t : State} (h : Aside s t) (m : Nat) : t.mbCmd m = s.mbCmd m :=
  h.mailbox _ m (show R.MBX_STAT_STATE.key m 0 < 0x10880 by rw [MBX_STAT_key]; omega)

theorem Aside.req {s t : State} (h : Aside s t) (m off n : Nat) : t.req m off n = s.req m off n := by
  unfold State.req State.mbBytes State.mbReq
  congr 1
  refine List.map_congr_left fun i _ => ?_
  rw [h.mailboxes _ (by rw [MBX_REQ_key]; omega)]

theorem mbCmd_running (s : State) (m : Nat) : (s.running m).mbCmd m = s.mbCmd m := rd_wr_ne s _ _ m m _ (.inr (.inr (by decide)))

theorem begins_mbCmd {s : State} {m code : Nat} {a g e : Bool} (h : s.begins m code a g e = true) : s.mbCmd m = code := by
  simp only [State.begins, State.isNext, Bool.and_eq_true, decide_eq_true_eq] at h
  obtain ⟨⟨⟨⟨⟨-, hcmd⟩, -⟩, -⟩, -⟩, -⟩ := h
  exact hcmd

/-- A job as it has stopped, but for the mark that it waits for tags. -/
def Job.ended (job : Job) : Job :=
  { job with st := .loaded, stopping := false, waiting := false, holds := { job.holds with grade := false, mesh := false } }

/-- A job becomes LOADED, its streams unbound and its outputs cleared, and nothing else of the jobs and the mailboxes changes. -/
theorem enterLoaded_aside (s : State) (j : Nat) : ∃ w, Aside (s.putJob j { (s.job j).ended with waiting := w }) (enterLoaded s j) := by
  have hfree : Aside (s.putJob j (s.job j).ended)
      ((s.putJob j (s.job j).ended).each streamNums fun s st => s.putBind j st Bind.none) := .each (fun _ _ => aside_putBind ..) _
  have hend (t : State) : Aside t (aoutJobLeaves (t.each (List.range 8) fun s p => seatFlush s (outOf j p)) j) :=
    (Aside.each (fun _ _ => aside_seatFlush ..) t).trans (aside_aoutJobLeaves ..)
  obtain ⟨w, hwait⟩ := refreshWait_aside ((s.putJob j (s.job j).ended).each streamNums fun s st => s.putBind j st Bind.none) j
  rw [hfree.job, job_putJob_same] at hwait
  exact ⟨w, ((aside_putJob_twice ..).trans (aside_putJob hfree ..)).trans (hwait.trans (hend _))⟩

/-- A job told to stop while batches of it are in flight waits for them. -/
theorem checkStopped_waits {s : State} {j : Nat} (h : ∃ b ∈ s.batches, b.job = j) : checkStopped s j = s := by
  obtain ⟨b, hb, hj⟩ := h
  have hany : s.batches.any (fun b => b.job == j) = true := List.any_eq_true.2 ⟨b, hb, beq_iff_eq.2 hj⟩
  simp [checkStopped, hany]

/-- Without any it is LOADED, and the command that stopped it answered. -/
theorem checkStopped_ends {s : State} {j m : Nat} (hstop : (s.job j).stopping = true) (hnone : ∀ b ∈ s.batches, b.job ≠ j)
    (hm : s.mbxOrder = [m]) (hrun : s.mbState m = mbRunning) (hcmd : s.mbCmd m = 0x0103) (hreq : s.req m 8 1 = j) :
    ((checkStopped s j).job j).st = .loaded ∧ (checkStopped s j).Answers m .ok [] := by
  obtain ⟨w, h⟩ := enterLoaded_aside s j
  have hany : s.batches.any (fun b => b.job == j) = false := by simpa [List.any_eq_false] using hnone
  have hfound : (enterLoaded s j).runningWith 0x0103 j = some m := by
    have horder : (enterLoaded s j).mbxOrder = [m] := h.mbxOrder.trans hm
    have hstate : (enterLoaded s j).mbState m = mbRunning := (h.mbState m).trans hrun
    have hcode : (enterLoaded s j).mbCmd m = 0x0103 := (h.mbCmd m).trans hcmd
    have hjob : (enterLoaded s j).req m 8 1 = j := (h.req m 8 1).trans hreq
    simp [State.runningWith, State.isRunning, horder, hstate, hcode, hjob]
  have hend : checkStopped s j = (enterLoaded s j).respond m .ok 0 [] := by simp [checkStopped, hstop, hany, hfound]
  rw [hend]
  refine ⟨?_, respond_answers ..⟩
  rw [job_respond, h.job, job_putJob_same]
  rfl

/-- The streams of a job are unbound, and it is told to stop. -/
def State.stopped (s : State) (j : Nat) : State := (unbindAll s j).putJob j { s.job j with stopping := true }

theorem stopJob_eq (s : State) (j : Nat) : stopJob s j = checkStopped (s.stopped j) j := by
  have hstop : stopJob s j = checkStopped ((unbindAll s j).putJob j { (unbindAll s j).job j with stopping := true }) j := rfl
  rw [hstop, (aside_unbindAll s j).job]
  rfl

theorem aside_stopped (s : State) (j : Nat) : Aside (s.putJob j { s.job j with stopping := true }) (s.stopped j) :=
  aside_putJob (aside_unbindAll s j) ..

theorem stopped_bound (s : State) (j : Nat) {st : Nat} (hst : st < 48) : ((s.stopped j).bind j st).bound = false := by
  rw [State.stopped, bind_putJob]
  exact unbindAll_bound s j hst

/-- JOB_STOP of a job that does not run is refused (R40). -/
theorem jobStop_refused {s : State} {m : Fin 16} (h : s.begins m 0x0103 true true true = true) (hst : (s.job (s.req m 8 1)).started = false) :
    Does (.jobStop m) s fun t => t.Answers m .jobState [] ∧ t.jobs = s.jobs := by
  have hexec : exec (.jobStop m) s = .next ((s.running m).respond m .jobState 0 []) := by
    simp [exec, execJobStop, peade_begins 0 _ h, req_running, hst]
  exact ⟨_, hexec, running_respond_answers ..⟩

/-- JOB_STOP of a running job unbinds its streams and lets the batches in flight end; without any it is LOADED at once (R40). -/
theorem jobStop_stops {s : State} {m : Fin 16} (h : s.begins m 0x0103 true true true = true) (hst : (s.job (s.req m 8 1)).started = true)
    (hrestart : (s.job (s.req m 8 1)).restart = none) :
    ((∃ b ∈ s.batches, b.job = s.req m 8 1) → Does (.jobStop m) s fun t => (t.job (s.req m 8 1)).stopping = true ∧
      t.mbState m = mbRunning ∧ ∀ st < 48, (t.bind (s.req m 8 1) st).bound = false) ∧
    (s.mbxOrder = [m.val] → (∀ b ∈ s.batches, b.job ≠ s.req m 8 1) →
      Does (.jobStop m) s fun t => (t.job (s.req m 8 1)).st = .loaded ∧ t.Answers m .ok []) := by
  have hexec : exec (.jobStop m) s = .next (checkStopped ((s.running m).stopped (s.req m 8 1)) (s.req m 8 1)) := by
    rw [← stopJob_eq]
    simp [exec, execJobStop, peade_begins 0 _ h, req_running, hst, hrestart]
  have hside := aside_stopped (s.running m) (s.req m 8 1)
  have hjob : ((s.running m).stopped (s.req m 8 1)).job (s.req m 8 1) = { s.job (s.req m 8 1) with stopping := true } := job_putJob_same ..
  have hrun : ((s.running m).stopped (s.req m 8 1)).mbState m = mbRunning := (hside.mbState m).trans (mbState_running s m)
  refine ⟨fun hflight => ?_, fun honly hnone => ?_⟩
  · rw [checkStopped_waits (by rwa [hside.batches])] at hexec
    exact ⟨_, hexec, congrArg Job.stopping hjob, hrun, fun st hst => stopped_bound _ _ hst⟩
  · refine ⟨_, hexec, checkStopped_ends (congrArg Job.stopping hjob) (by rwa [hside.batches]) (hside.mbxOrder.trans honly) hrun ?_ ?_⟩
    · exact ((hside.mbCmd m).trans (mbCmd_running s m)).trans (begins_mbCmd h)
    · exact (hside.req m 8 1).trans (req_running s m m 8 1)

/-! ### JOB_GRADE -/

theorem Aside.answers {s t : State} (h : Aside s t) {m : Nat} {st : Status} {data : List Byte} (ha : s.Answers m st data) :
    t.Answers m st data := by
  have hrsp (w : Nat) : t.word (R.MBX_RSP.key m w) = s.word (R.MBX_RSP.key m w) := h.mailboxes _ (by rw [MBX_RSP_key]; omega)
  simpa only [State.Answers, h.mbState, hrsp] using ha

theorem refreshWait_putJob (s : State) (j : Nat) (v : Job) :
    ∃ w, Aside (s.putJob j { v with waiting := w }) (refreshWait (s.putJob j v) j) := by
  obtain ⟨w, h⟩ := refreshWait_aside (s.putJob j v) j
  rw [job_putJob_same] at h
  exact ⟨w, (aside_putJob_twice ..).trans h⟩

/-- Ending what holds a job over a change of its grade keeps the grade and the mailboxes. -/
theorem releaseHolds_aside (s : State) (j : Nat) :
    ∃ v : Job, v.grade = (s.job j).grade ∧ Aside (s.putJob j v) (releaseHolds s j) := by
  unfold releaseHolds
  dsimp only
  split
  · obtain ⟨w, h⟩ := refreshWait_putJob s j { s.job j with holds := { (s.job j).holds with grade := false, bell := false } }
    refine ⟨_, ?_, h⟩
    rfl
  · exact ⟨s.job j, rfl, aside_putJob_self s j⟩

theorem releaseHolds_answered {s : State} {m : Nat} {st : Status} {data : List Byte} (j : Nat) (ha : s.Answers m st data) :
    (releaseHolds s j).Answers m st data ∧ ((releaseHolds s j).job j).grade = (s.job j).grade := by
  obtain ⟨v, hv, h⟩ := releaseHolds_aside s j
  have hput : (s.putJob j v).Answers m st data := ha
  exact ⟨h.answers hput, by rw [h.job, job_putJob_same, hv]⟩

theorem setGrade_grade (s : State) (j m g : Nat) : (setGrade s j m g).Answers m .ok [] ∧ ((setGrade s j m g).job j).grade = g := by
  obtain ⟨hans, hgrade⟩ := releaseHolds_answered j (respond_answers (s.putJob j { s.job j with grade := g }) m .ok 0 [])
  rw [job_respond, job_putJob_same] at hgrade
  exact ⟨hans, hgrade⟩

theorem gradeChips_running (s : State) (m j g : Nat) : (s.running m).gradeChips j g = s.gradeChips j g := by
  have hmesh (k : Nat) : (s.running m).meshState k = s.meshState k := rd_running (by decide) s m k
  have hmatrix (n : Nat) : (s.running m).matrixOf j n = s.matrixOf j n := by
    simp only [State.matrixOf, State.shardRef, rd_running (f := R.WSET_JOB_STAGE) (by decide),
      rd_running (f := R.WSET_JOB_NEW_SLOT) (by decide), rd_running (f := R.WSET_JOB_SLOT) (by decide)]
    rfl
  simp only [State.gradeChips, hmesh, hmatrix]
  rfl

/-- JOB_GRADE is refused for a job not admitted or a grade not declared (R39, R54). -/
theorem jobGrade_refused {s : State} {m : Fin 16} (h : s.begins m 0x0105 s.notStopped true true = true) :
    ((s.job (s.req m 8 1)).admitted = false → Does (.jobGrade m) s fun t => t.Answers m .jobState [] ∧ t.jobs = s.jobs) ∧
    ((s.job (s.req m 8 1)).admitted = true → (s.job (s.req m 8 1)).declares (s.req m 9 1) = false →
      Does (.jobGrade m) s fun t => t.Answers m .badParam [] ∧ t.jobs = s.jobs) := by
  refine ⟨fun hadm => ?_, fun hadm hdecl => ?_⟩
  · have hexec : exec (.jobGrade m) s = .next ((s.running m).respond m .jobState 0 []) := by
      simp [exec, execJobGrade, peade_begins 0 _ h, req_running, hadm]
    exact ⟨_, hexec, running_respond_answers ..⟩
  · have hexec : exec (.jobGrade m) s = .next ((s.running m).respond m .badParam 9 []) := by
      simp [exec, execJobGrade, peade_begins 0 _ h, req_running, hadm, hdecl]
    exact ⟨_, hexec, running_respond_answers ..⟩

/-- A declared grade that changes no matrix is the job's at once. -/
theorem jobGrade_sets {s : State} {m : Fin 16} (h : s.begins m 0x0105 s.notStopped true true = true)
    (hadm : (s.job (s.req m 8 1)).admitted = true) (hdecl : (s.job (s.req m 8 1)).declares (s.req m 9 1) = true)
    (hchips : s.gradeChips (s.req m 8 1) (s.req m 9 1) = []) :
    Does (.jobGrade m) s fun t => t.Answers m .ok [] ∧ (t.job (s.req m 8 1)).grade = s.req m 9 1 := by
  have hexec : exec (.jobGrade m) s = .next (setGrade (s.running m) (s.req m 8 1) m (s.req m 9 1)) := by
    simp [exec, execJobGrade, peade_begins 0 _ h, req_running, hadm, hdecl, gradeStart, gradeChips_running, hchips]
  exact ⟨_, hexec, setGrade_grade ..⟩

/-! ### What leaves the jobs

The setters' facts are proved by `(rfl)`, in parentheses: `simp` then takes them as rewrite rules with a proof, which it needs under
`each_jobs`. -/

@[simp] theorem wr2_jobs (s : State) (f : Fld) (i j v : Nat) : (s.wr2 f i j v).jobs = s.jobs := (rfl)

@[simp] theorem wr_jobs (s : State) (f : Fld) (i v : Nat) : (s.wr f i v).jobs = s.jobs := (rfl)

@[simp] theorem wrB_jobs (s : State) (f : Fld) (i : Nat) (b : Bool) : (s.wrB f i b).jobs = s.jobs := (rfl)

@[simp] theorem setWord_jobs (s : State) (k : Nat) (w : Word) : (s.setWord k w).jobs = s.jobs := (rfl)

@[simp] theorem putQuad_jobs (s : State) (q : Nat) (v : QuadCal) : (s.putQuad q v).jobs = s.jobs := (rfl)

@[simp] theorem putTile_jobs (s : State) (t : Nat) (v : TileRec) : (s.putTile t v).jobs = s.jobs := (rfl)

@[simp] theorem putMeshTbl_jobs (s : State) (k bank area i : Nat) (w : Word) : (s.putMeshTbl k bank area i w).jobs = s.jobs := (rfl)

@[simp] theorem putChip_jobs (s : State) (k : Nat) (v : Chip) : (s.putChip k v).jobs = s.jobs := (rfl)

/-- Updates that each leave the jobs leave them all together. -/
@[simp] theorem each_jobs {α : Type} (l : List α) (f : State → α → State) (s : State) (h : ∀ s a, (f s a).jobs = s.jobs) :
    (s.each l f).jobs = s.jobs := each_keeps State.jobs l f s h

@[simp] theorem showMaxEst_jobs (s : State) (q : Nat) : (showMaxEst s q).jobs = s.jobs := (rfl)

@[simp] theorem staleCheck_jobs (s : State) (t : Nat) : (staleCheck s t).jobs = s.jobs := by
  unfold staleCheck
  dsimp only
  split
  · exact wr_jobs ..
  · rfl

@[simp] theorem estimate_jobs (s : State) (t : Nat) : (estimate s t).jobs = s.jobs := by simp [estimate, State.wrSat]

@[simp] theorem apply_jobs (s : State) (k : Nat) : (s.apply k).jobs = s.jobs := (rfl)

@[simp] theorem applyMaps_jobs (s : State) (t : Nat) : (applyMaps s t).jobs = s.jobs := by
  simp [applyMaps]

@[simp] theorem applyClip_jobs (s : State) (t : Nat) : (applyClip s t).jobs = s.jobs := by
  unfold applyClip
  split
  · rfl
  · simp [showMode]

@[simp] theorem beginTile_jobs (s : State) (q t : Nat) (stale : Bool) : (beginTile s q t stale).jobs = s.jobs := by
  unfold beginTile
  dsimp only
  split <;> rfl

@[simp] theorem beginRound_jobs (s : State) (q r fuel : Nat) : (beginRound s q r fuel).jobs = s.jobs := by
  induction fuel generalizing s r with
  | zero => rfl
  | succ fuel ih =>
    unfold beginRound
    dsimp only
    split
    · split
      · exact ih _ _
      · rfl
    · simp

@[simp] theorem beginRun_jobs (s : State) (q cause : Nat) : (beginRun s q cause).jobs = s.jobs := by
  simp [beginRun, apply_ite State.jobs]

@[simp] theorem endRun_jobs (s : State) (q : Nat) : (endRun s q).jobs = s.jobs := by
  unfold endRun
  dsimp only
  split <;> simp [State.wrTime, State.wrInt, State.bump, State.bumpBy]

@[simp] theorem checkRunEnd_jobs (s : State) (q : Nat) : (checkRunEnd s q).jobs = s.jobs := by
  unfold checkRunEnd
  dsimp only
  split
  · exact endRun_jobs ..
  · rfl

@[simp] theorem stopMeasuring_jobs (s : State) (t : Nat) : (stopMeasuring s t).jobs = s.jobs := by
  unfold stopMeasuring
  dsimp only
  split
  · rfl
  · simp

@[simp] theorem abandonRoll_jobs (s : State) (t : Nat) : (abandonRoll s t).jobs = s.jobs := by
  unfold abandonRoll
  split
  · rfl
  · exact stopMeasuring_jobs ..

@[simp] theorem tableSwap_jobs (s : State) (t : Nat) (forced : Bool) : (tableSwap s t forced).jobs = s.jobs := by
  unfold tableSwap
  dsimp only
  split <;> simp [latchGain, regain]

@[simp] theorem clearUse_jobs (s : State) (t : Nat) : (clearUse s t).jobs = s.jobs := (rfl)

@[simp] theorem fillReserve_jobs (s : State) (q : Nat) : (fillReserve s q).jobs = s.jobs := by simp [fillReserve]

@[simp] theorem releaseTiles_jobs (s : State) (ts : List Nat) : (releaseTiles s ts).jobs = s.jobs := by
  simp [releaseTiles, apply_ite State.jobs]

@[simp] theorem dropPages_jobs (s : State) (j : Nat) : (dropPages s j).jobs = s.jobs := (rfl)

@[simp] theorem applyMeshOps_jobs (s : State) (k : Nat) : (applyMeshOps s k).jobs = s.jobs := each_jobs _ _ s fun _ _ => rfl

@[simp] theorem setMesh_jobs (s : State) (k st : Nat) : (setMesh s k st).jobs = s.jobs := (rfl)

@[simp] theorem startChange_jobs (s : State) (k shard : Nat) (m : List Byte) (why : MeshWhy) (drain : List (Nat × Nat)) :
    (startChange s k shard m why drain).jobs = s.jobs := (rfl)

@[simp] theorem showTags_jobs (s : State) (j : Nat) : (showTags s j).jobs = s.jobs := (rfl)

@[simp] theorem showStore_jobs (s : State) : (showStore s).jobs = s.jobs := each_jobs _ _ s fun _ _ => rfl

@[simp] theorem showHwNow_jobs (s : State) : (showHwNow s).jobs = s.jobs := (rfl)

/-- A chiplet without a job, `n` words of each of its tables cleared: what its release makes of it with all of them. -/
def State.chipBlank (n : Nat) (s : State) (k : Nat) : State :=
  let s := (s.wr R.MESH_STAT_HELD k 0).wr R.MESH_STAT_SUBST k 0
  let s := s.putChip k { s.chip k with
    matrix := none, next := none, work := if (s.chip k).work = .xtalk then .xtalk else .none, ready := false, why := .none,
    belled := false, drain := [], passed := [], toks := [], order := [], begun := [], straddle := [], stale := false }
  let s := s.each [0, 1] fun s bank => s.each (List.range n) fun s i => s.putMeshTbl k bank 0 i 0
  applyMeshOps (s.each (List.range 8) fun s i => s.setWord (R.MESH_OP_A.key k i) 0) k

theorem chipBlank_jobs (n : Nat) (s : State) (k : Nat) : (s.chipBlank n k).jobs = s.jobs := by simp [State.chipBlank]

theorem releaseChip_eq (s : State) (k : Nat) : releaseChip s k =
    if (s.chipBlank 8192 k).meshState k = msOut then s.chipBlank 8192 k else setMesh (s.chipBlank 8192 k) k msUnused := rfl

@[simp] theorem releaseChip_jobs (s : State) (k : Nat) : (releaseChip s k).jobs = s.jobs := by
  rw [releaseChip_eq]
  generalize 8192 = n
  split
  · exact chipBlank_jobs ..
  · exact (setMesh_jobs ..).trans (chipBlank_jobs ..)

@[simp] theorem writeMeshOps_jobs (s : State) (j k : Nat) : (writeMeshOps s j k).jobs = s.jobs := by
  unfold writeMeshOps
  extract_lets job ms t
  have ht : t.jobs = s.jobs := by
    refine each_jobs _ _ _ fun s n => ?_
    split <;> rfl
  split
  · exact (applyMeshOps_jobs ..).trans ht
  · exact ht

@[simp] theorem placeMatrix_jobs (s : State) (j k : Nat) (why : MeshWhy) : (placeMatrix s j k why).jobs = s.jobs := by
  unfold placeMatrix
  dsimp only
  split
  · rfl
  · simp

/-! ### JOB_UNLOAD -/

theorem job_of_jobs {s t : State} (h : t.jobs = s.jobs) (i : Nat) : t.job i = s.job i := by
  rw [State.job, h]
  rfl

theorem jobSt_of_jobs {s t : State} (h : t.jobs = s.jobs) (i : Nat) : (t.job i).st = (s.job i).st := by rw [job_of_jobs h]

/-- A matrix that moves to another chiplet changes no job but its list of chiplets. -/
theorem moveChip_jobSt (s : State) (j k k' i : Nat) : ((moveChip s j k k').job i).st = (s.job i).st := by
  have hmoved (l : List (Nat × Nat)) : (((releaseChip s k).putJob j { s.job j with chips := l }).job i).st = (s.job i).st := by
    simp only [State.job, State.putJob, State.setJobs_frame, releaseChip_jobs, spGet_spSet]
    split
    · rename_i heq
      rw [heq]
    · rfl
  unfold moveChip
  extract_lets job moved
  have ht : (moved.job i).st = (s.job i).st := hmoved _
  exact (jobSt_of_jobs ((wr_jobs ..).trans (placeMatrix_jobs ..)) i).trans ht

theorem seekReturn_jobSt (s : State) (j i : Nat) : ((seekReturn s j).job i).st = (s.job i).st := by
  refine each_keeps (fun s => (s.job i).st) _ _ s fun s k => ?_
  split
  · split
    · exact jobSt_of_jobs (placeMatrix_jobs ..) i
    · rfl
  · split
    · split
      · exact moveChip_jobSt ..
      · rfl
    · rfl

theorem seekReturns_jobSt (s : State) (i : Nat) : ((seekReturns s).job i).st = (s.job i).st :=
  each_keeps (fun s => (s.job i).st) _ _ s fun s j => seekReturn_jobSt s j i

/-- What a job held is given up: its tiles, pages, chiplets, batches, bindings, tags, priority and recurrent state. -/
def State.vacated (s : State) (j : Nat) (held : List Nat) : State :=
  let s := s.each held fun s t => if s.tileHeld t then s else abandonRoll s t
  let s := dropPages (releaseTiles s held) j
  let s := s.each (chipNums.filter fun k => s.meshJob k == some j) releaseChip
  let s := s.setBatches (s.batches.filter fun b => b.job != j)
  let s := s.each streamNums fun s st => s.putBind j st Bind.none
  let s := s.setTagsHeld (s.tagsHeld.filter fun e => e.2 != j)
  let s := (showTags s j).setWord (R.WSET_JOB.key j 0) 0
  let s := s.each (List.range 256) fun s c =>
    s.setWord (R.RTR_PRIO.key c 0) (withField (2 * j) 2 (s.word (R.RTR_PRIO.key c 0)) 0)
  showStore (showHwNow (s.setRecur (s.recur.filter fun e => e.1 / 48 != j)))

@[simp] theorem putBind_jobs (s : State) (j st : Nat) (v : Bind) : (s.putBind j st v).jobs = s.jobs := (rfl)

theorem vacated_jobs (s : State) (j : Nat) (held : List Nat) : (s.vacated j held).jobs = s.jobs := by
  simp [State.vacated, apply_ite State.jobs]

theorem emptyJob_eq (s : State) (j : Nat) :
    ∃ u held v, emptyJob s j = seekReturns ((State.putJob u j v).vacated j held) ∧ v.st = .empty := ⟨_, _, _, rfl, rfl⟩

theorem emptyJob_st (s : State) (j : Nat) : ((emptyJob s j).job j).st = .empty := by
  obtain ⟨u, held, v, h, hv⟩ := emptyJob_eq s j
  rw [h, seekReturns_jobSt, jobSt_of_jobs (vacated_jobs ..), job_putJob_same, hv]

/-- JOB_UNLOAD makes a LOADED job EMPTY and is refused for any other (R40). -/
theorem jobUnload_empties {s : State} {m : Fin 16} (h : s.begins m 0x0104 true true true = true) :
    ((s.job (s.req m 8 1)).st ≠ .loaded → Does (.jobUnload m) s fun t => t.Answers m .jobState [] ∧ t.jobs = s.jobs) ∧
    ((s.job (s.req m 8 1)).st = .loaded →
      Does (.jobUnload m) s fun t => t.Answers m .ok [] ∧ (t.job (s.req m 8 1)).st = .empty) := by
  refine ⟨fun hst => ?_, fun hst => ?_⟩
  · have hexec : exec (.jobUnload m) s = .next ((s.running m).respond m .jobState 0 []) := by
      simp [exec, execJobUnload, peade_begins 0 _ h, req_running, hst]
    exact ⟨_, hexec, running_respond_answers ..⟩
  · have hexec : exec (.jobUnload m) s = .next ((((emptyJob (s.running m) (s.req m 8 1)).wr R.JOB_PAGES_SRAM (s.req m 8 1) 0).wr
        R.JOB_PAGES_STAGE (s.req m 8 1) 0).respond m .ok 0 []) := by
      simp [exec, execJobUnload, peade_begins 0 _ h, req_running, hst]
    refine ⟨_, hexec, respond_answers .., ?_⟩
    rw [job_respond, jobSt_of_jobs (wr_jobs ..), jobSt_of_jobs (wr_jobs ..), emptyJob_st]

/-! ### JOB_LOAD -/

/-- The first sweep begins once; what speaks of no register word, sweep or quadrant is the same. -/
theorem startFirst_apart {α : Type} (g : State → α) (hreg : ∀ s r, g (s.setRegs r) = g s) (hquad : ∀ s q, g (s.setQuads q) = g s)
    (s : State) (form : Nat) : g (startFirst s form) = if s.firstForm ≠ 0 then g s else g (s.setFirstForm form) := by
  unfold startFirst
  split
  · rfl
  · refine (each_keeps g _ _ _ fun s q => ?_).trans (hreg ..)
    exact (hquad ..).trans ((hreg ..).trans ((hreg ..).trans (hreg ..)))

theorem startFirst_firstForm (s : State) (form : Nat) :
    (startFirst s form).firstForm = if s.firstForm = 0 then form else s.firstForm := by
  rw [startFirst_apart State.firstForm (fun _ _ => rfl) fun _ _ => rfl, ite_not]
  rfl

theorem startFirst_loadWait (s : State) (form : Nat) : (startFirst s form).loadWait = s.loadWait := by
  rw [startFirst_apart State.loadWait (fun _ _ => rfl) fun _ _ => rfl]
  exact ite_self _

theorem startFirst_mbState (s : State) (form m : Nat) : (startFirst s form).mbState m = s.mbState m := by
  have hwr (s : State) (f : Fld) (i v : Nat) (hf : 0x10880 ≤ f.base) : (s.wr f i v).mbState m = s.mbState m := (aside_wr hf s i v).mbState m
  have hquad (s : State) (q : Nat) (v : QuadCal) : (s.putQuad q v).mbState m = s.mbState m := rfl
  unfold startFirst
  split
  · rfl
  · refine (each_keeps (fun s => s.mbState m) _ _ _ fun s q => ?_).trans (hwr _ _ _ _ (by decide))
    rw [hquad, hwr _ _ _ _ (by decide), hwr _ _ _ _ (by decide), hwr _ _ _ _ (by decide)]

/-- Until the first sweep has ended the request waits, and starts it when none has run (R44). -/
theorem jobLoad_waits {s : State} {m : Fin 16} {sec : Section} (h : s.begins m 0x0101 s.notStopped true (s.loadBad m).isNone = true)
    (hform : s.firstForm ≠ 4) : Does (.jobLoad m sec) s fun t => t.loadWait = some (m.val, sec) ∧ t.mbState m = mbRunning ∧
      t.firstForm = if s.firstForm = 0 then 1 else s.firstForm := by
  have hfirst : (startFirst ((s.running m).setLoadWait (some (m.val, sec))) 1).firstForm = if s.firstForm = 0 then 1 else s.firstForm :=
    startFirst_firstForm ..
  have hwait : (startFirst ((s.running m).setLoadWait (some (m.val, sec))) 1).loadWait = some (m.val, sec) := startFirst_loadWait ..
  have hmb : (startFirst ((s.running m).setLoadWait (some (m.val, sec))) 1).mbState m = mbRunning :=
    (startFirst_mbState ..).trans (mbState_running s m)
  have hnot : (startFirst ((s.running m).setLoadWait (some (m.val, sec))) 1).firstForm ≠ 4 := by
    rw [hfirst]
    split
    · decide
    · exact hform
  have hexec : exec (.jobLoad m sec) s = .next (startFirst ((s.running m).setLoadWait (some (m.val, sec))) 1) := by
    simp [exec, execJobLoad, peade_begins ((s.loadBad m).getD 0) _ h, tryLoad, hwait, hnot]
  exact ⟨_, hexec, hwait, hmb, hfirst⟩

/-! ### A request as it is taken: the checks and the placement are those of the state before -/

/-- The state in which a request is processed: its mailbox runs and no request waits. -/
abbrev State.taken (s : State) (m : Nat) : State := (s.running m).setLoadWait none

section Taken
variable (s : State) (m : Nat)

theorem rd_taken {f : Fld} (hf : 0x10880 ≤ f.base) (i : Nat) : (s.taken m).rd f i = s.rd f i := rd_running hf s m i

theorem on_taken {f : Fld} (hf : 0x10880 ≤ f.base) (i : Nat) : (s.taken m).on f i = s.on f i := congrArg (· != 0) (rd_taken s m hf i)

theorem req_taken (m' off n : Nat) : (s.taken m).req m' off n = s.req m' off n := req_running s m m' off n

theorem loadJob_taken (m' : Nat) : (s.taken m).loadJob m' = s.loadJob m' := by
  simp only [State.loadJob, req_taken]
  rfl

theorem loadStreams_taken (m' : Nat) : (s.taken m).loadStreams m' = s.loadStreams m' := by simp only [State.loadStreams, req_taken]

theorem slotOf_taken (id : Nat) : (s.taken m).slotOf id = s.slotOf id := rfl

theorem streamBusy_taken (st : Nat) : (s.taken m).streamBusy st = s.streamBusy st := by
  simp only [State.streamBusy, on_taken s m (f := R.STREAM_CFG_EN) (by decide)]
  rfl

theorem freeChips_taken (h : Nat) : (s.taken m).freeChips h = s.freeChips h := by
  simp only [State.freeChips, State.meshState, State.meshJob, on_taken s m (f := R.MESH_STAT_HELD) (by decide),
    rd_taken s m (f := R.MESH_STAT_STATE) (by decide), rd_taken s m (f := R.MESH_STAT_JOB) (by decide)]

theorem thresh_taken : (s.taken m).thresh = s.thresh := rd_taken s m (by decide) 0

theorem pageHeld_taken (p : Nat) : (s.taken m).pageHeld p = s.pageHeld p := rfl

theorem ppnFenced_taken (p : Nat) : (s.taken m).ppnFenced p = s.ppnFenced p := by
  simp only [State.ppnFenced, rd_taken s m (f := R.PROT_FENCE_FENCE_LO) (by decide), rd_taken s m (f := R.PROT_FENCE_FENCE_HI) (by decide)]

theorem freeStagePages_taken : (s.taken m).freeStagePages = s.freeStagePages := by
  simp only [State.freeStagePages, pageHeld_taken, ppnFenced_taken]

theorem freeTile_taken (u : ShardUse) (used : List Nat) (ok : Nat → Bool) : (s.taken m).freeTile u used ok = s.freeTile u used ok := by
  simp only [State.freeTile, State.allSvc, State.svc, rd_taken s m (f := R.TCAL_STAT_SVC) (by decide)]
  rfl

theorem bridgesUp_taken : (s.taken m).bridgesUp = s.bridgesUp := by
  have hlanes (k c : Nat) (rx : Bool) : (s.taken m).upLanes k c rx = s.upLanes k c rx := rfl
  simp only [State.bridgesUp, State.bridgeJoins, State.bridgeBoth, State.circuits, State.columnOf, hlanes,
    on_taken s m (f := R.BRIDGE_CFG_ROUTE) (by decide), rd_taken s m (f := R.BRIDGE_CFG_EXT_SEL) (by decide)]

theorem slot_taken (n : Nat) : (s.taken m).slot n = s.slot n := rfl

theorem occOf_taken (t : Nat) : (s.taken m).occOf t = s.occOf t := rfl

theorem halfUsable_taken (h : Nat) : (s.taken m).halfUsable h = s.halfUsable h := rfl

theorem sharedWith_taken (slot : Nat) (u : ShardUse) (sa : Bool) : (s.taken m).sharedWith slot u sa = s.sharedWith slot u sa := by
  have hjob (j : Nat) : (s.taken m).job j = s.job j := rfl
  simp only [State.sharedWith, slot_taken, hjob]

/-- The picks of tiles recur over the shards: rewriting under the recursion carries them over (their equations cannot be had, for Lean
would evaluate the search for a free tile). -/
theorem pickHeld_taken : (s.taken m).pickHeld = s.pickHeld := by
  delta State.pickHeld State.pickHeld._f
  simp only [sharedWith_taken, freeTile_taken, slot_taken, occOf_taken]

theorem pickFree_taken : (s.taken m).pickFree = s.pickFree := by
  delta State.pickFree State.pickFree._f
  simp only [freeTile_taken, halfUsable_taken]

theorem pickTiles_taken (slot : Nat) (sa : Bool) (us : List ShardUse) : (s.taken m).pickTiles slot sa us = s.pickTiles slot sa us := by
  simp only [State.pickTiles, pickHeld_taken, pickFree_taken]

theorem pickSram_taken (l : List (Nat × Nat × Bool × Bool × Bool)) (used : List Nat) :
    (s.taken m).pickSram l used = s.pickSram l used := by
  induction l generalizing used with
  | nil => rfl
  | cons e l ih =>
    simp only [State.pickSram, ih]
    rfl

theorem pickChips_taken (l : List (List MeshUse)) (used : List Nat) : (s.taken m).pickChips l used = s.pickChips l used := by
  induction l generalizing used with
  | nil => rfl
  | cons g l ih => simp only [State.pickChips, ih, freeChips_taken]

theorem pickStage_taken (l : List (Nat × Bool × Bool × Bool)) : (s.taken m).pickStage l = s.pickStage l := by
  simp only [State.pickStage, freeStagePages_taken]

theorem memoryOk_taken (h : ImageHdr) (sec : Section) : (s.taken m).memoryOk h sec = s.memoryOk h sec := by
  simp only [State.memoryOk, freeStagePages_taken]
  rfl

theorem loadPlan_taken (h : ImageHdr) (sec : Section) (slot : Nat) : (s.taken m).loadPlan h sec slot = s.loadPlan h sec slot := by
  simp only [State.loadPlan, pickChips_taken, pickSram_taken, pickStage_taken, memoryOk_taken, pickTiles_taken, bridgesUp_taken]

theorem loadOptical_taken (m' : Nat) (sec : Section) : (s.taken m).loadOptical m' sec = s.loadOptical m' sec := by
  simp only [State.loadOptical, req_taken]
  rfl

theorem loadRefusal_taken (m' : Nat) (sec : Section) : (s.taken m).loadRefusal m' sec = s.loadRefusal m' sec := by
  have hbusy : (s.taken m).streamBusy = s.streamBusy := funext (streamBusy_taken s m)
  simp only [State.loadRefusal, req_taken, loadJob_taken, slotOf_taken, thresh_taken, loadStreams_taken, hbusy, freeChips_taken]
  rfl

end Taken

/-! ### Admission -/

@[simp] theorem jobRegs_jobs (s : State) (j slot : Nat) (h : ImageHdr) (p : Plan) : (jobRegs s j slot h p).jobs = s.jobs := by
  simp [jobRegs]

@[simp] theorem scrubPage_jobs (s : State) (ppn : Nat) : (scrubPage s ppn).jobs = s.jobs := scrubPage_apart State.jobs (fun _ _ _ => rfl) ..

@[simp] theorem putPte_jobs (s : State) (j i : Nat) (p : Pte) : (s.putPte j i p).jobs = s.jobs := (rfl)

@[simp] theorem mapPages_jobs (s : State) (j : Nat) (l : List (Nat × Nat × Bool × Bool × Bool)) : (mapPages s j l).jobs = s.jobs := by
  simp [mapPages]

@[simp] theorem setSvc_jobs (s : State) (t : Nat) (pair : Bool) (v : Nat) : (setSvc s t pair v).jobs = s.jobs := by simp [setSvc]

@[simp] theorem configTile_jobs (s : State) (t : Nat) (shard : List Byte) (pair low sa : Bool) (n : Nat) :
    (configTile s t shard pair low sa n).jobs = s.jobs := by simp [configTile]

@[simp] theorem configSpan_jobs (s : State) (t : Nat) (shard : List Byte) (pair sa : Bool) (n : Nat) :
    (configSpan s t shard pair sa n).jobs = s.jobs := by simp [configSpan, apply_ite State.jobs]

@[simp] theorem takeTile_jobs (s : State) (j slot : Nat) (sa : Bool) (p : Pick) : (takeTile s j slot sa p).jobs = s.jobs := by
  unfold takeTile
  split
  · rfl
  · split
    · rfl
    · exact (configSpan_jobs ..).trans (setSvc_jobs ..)

@[simp] theorem serveTile_jobs (s : State) (t : Nat) : (serveTile s t).jobs = s.jobs := by simp [serveTile, apply_ite State.jobs]

/-- A load that goes on leaves the job loading or makes it LOADED, whatever else it does. -/
theorem loadProgress_job (s : State) (j : Nat) :
    (loadProgress s j).job j = s.job j ∨ (loadProgress s j).job j = { s.job j with st := .loaded, loading := false } := by
  unfold loadProgress
  extract_lets job busy mbx loaded served
  have hserved : served.jobs = loaded.jobs := by
    refine each_jobs _ _ _ fun s t => ?_
    split
    · exact serveTile_jobs ..
    · rfl
  have hjob : served.job j = { s.job j with st := .loaded, loading := false } := (job_of_jobs hserved j).trans (job_putJob_same ..)
  clear_value served mbx
  split
  · exact .inl rfl
  · refine .inr (Eq.trans ?_ hjob)
    cases mbx with
    | none => exact job_of_jobs ((showStore_jobs ..).trans (showTags_jobs ..)) j
    | some m => exact job_of_jobs ((showStore_jobs ..).trans ((respond_jobs ..).trans (showTags_jobs ..))) j

/-- What is written for a job admitted: its registers, its pages, its tiles and its matrices. -/
def State.reserved (s : State) (j slot : Nat) (h : ImageHdr) (sa : Bool) (p : Plan) : State :=
  let s := mapPages (mapPages (jobRegs s j slot h p) j p.sram) j p.stage
  let s := s.each p.picks fun s x => takeTile s j slot sa x
  showStore (s.each (dedupNat (p.chips.map (·.1))) fun s k => placeMatrix s j k .load)

theorem reserved_jobs (s : State) (j slot : Nat) (h : ImageHdr) (sa : Bool) (p : Plan) : (s.reserved j slot h sa p).jobs = s.jobs := by
  simp [State.reserved]

theorem reserve_eq (s : State) (j slot : Nat) (h : ImageHdr) (sec : Section) (streams : List Nat) (digest : List Byte) (p : Plan) :
    ∃ v : Job, reserve s j slot h sec streams digest p =
        loadProgress ((s.putJob j v).reserved j slot h (bitOf (BitVec.ofNat 32 h.flags) 2) p) j ∧
      v.hdr = h ∧ v.streams = streams ∧ v.loading = true := ⟨_, rfl, rfl, rfl, rfl⟩

/-- A job admitted has its header and its streams, and is loading or LOADED (R44). -/
theorem reserve_admits (s : State) (j slot : Nat) (h : ImageHdr) (sec : Section) (streams : List Nat) (digest : List Byte) (p : Plan) :
    let job := (reserve s j slot h sec streams digest p).job j
    job.hdr = h ∧ job.streams = streams ∧ (job.loading = true ∨ job.st = .loaded) := by
  obtain ⟨v, heq, hhdr, hstreams, hloading⟩ := reserve_eq s j slot h sec streams digest p
  have hv : ((s.putJob j v).reserved j slot h (bitOf (BitVec.ofNat 32 h.flags) 2) p).job j = v := by
    rw [job_of_jobs (reserved_jobs ..), job_putJob_same]
  have hend := loadProgress_job ((s.putJob j v).reserved j slot h (bitOf (BitVec.ofNat 32 h.flags) 2) p) j
  rw [hv, ← heq] at hend
  obtain hkept | hloaded := hend
  · rw [hkept]
    exact ⟨hhdr, hstreams, .inl hloading⟩
  · rw [hloaded]
    exact ⟨hhdr, hstreams, .inr rfl⟩

theorem processLoad_refuses {s : State} {m : Nat} {sec : Section} {st : Status} {d : Nat} (h : s.loadRefusal m sec = some (st, d)) :
    processLoad s m sec = s.respond m st d [] := by simp [processLoad, h]

theorem processLoad_admits {s : State} {m n slot : Nat} {sec : Section} {p : Plan} (h : s.loadRefusal m sec = none)
    (hjob : s.loadJob m = some n) (hslot : s.slotOf (imageHdr (s.stBytes (s.req m 8 4) 64)).wsetId = some slot)
    (hplan : s.loadPlan (imageHdr (s.stBytes (s.req m 8 4) 64)) sec slot = .inr p) :
    processLoad s m sec = reserve s n slot (imageHdr (s.stBytes (s.req m 8 4) 64)) sec (s.loadStreams m)
      (s.stBytes (s.req m 8 4 + imageLen (s.stBytes (s.req m 8 4) 64)) 64) p := by
  simp [processLoad, h, hjob, hslot, hplan]

/-- After the first sweep a request without optics is processed at once (R44). -/
theorem jobLoad_processes {s : State} {m : Fin 16} {sec : Section} (h : s.begins m 0x0101 s.notStopped true (s.loadBad m).isNone = true)
    (hform : s.firstForm = 4) (hopt : s.loadOptical m sec = false) :
    exec (.jobLoad m sec) s = .next (processLoad (s.taken m) m sec) := by
  have hform' : (s.running m).firstForm = 4 := hform
  have hfirst : startFirst ((s.running m).setLoadWait (some (m.val, sec))) 1 = (s.running m).setLoadWait (some (m.val, sec)) := by
    simp [startFirst, hform']
  have hopt' : ((s.running m).setLoadWait (some (m.val, sec))).loadOptical m sec = false := (loadOptical_taken s m m sec).trans hopt
  have htry : tryLoad ((s.running m).setLoadWait (some (m.val, sec))) = processLoad (s.taken m) m sec := by
    have htaken : ((s.running m).setLoadWait (some (m.val, sec))).setLoadWait none = s.taken m := rfl
    simp [tryLoad, hform', hopt', htaken]
  simp only [exec, execJobLoad, peade_begins ((s.loadBad m).getD 0) _ h, hfirst, htry]

/-- Such a request is refused with the status of the first check that fails, or admitted (R39, R44). -/
theorem jobLoad_settles {s : State} {m : Fin 16} {sec : Section} (h : s.begins m 0x0101 s.notStopped true (s.loadBad m).isNone = true)
    (hform : s.firstForm = 4) (hopt : s.loadOptical m sec = false) : let hdr := imageHdr (s.stBytes (s.req m 8 4) 64)
    Does (.jobLoad m sec) s fun t => (∀ st d, s.loadRefusal m sec = some (st, d) → t.Answers m st [] ∧ t.jobs = s.jobs) ∧
      ∀ n slot p, s.loadRefusal m sec = none → s.loadJob m = some n → s.slotOf hdr.wsetId = some slot →
        s.loadPlan hdr sec slot = .inr p → (t.job n).hdr = hdr ∧ (t.job n).streams = s.loadStreams m ∧
          ((t.job n).loading = true ∨ (t.job n).st = .loaded) := by
  refine ⟨_, jobLoad_processes h hform hopt, fun st d href => ?_, fun n slot p hpass hjob hslot hplan => ?_⟩
  · rw [processLoad_refuses ((loadRefusal_taken s m m sec).trans href)]
    exact ⟨respond_answers .., respond_jobs ..⟩
  · have hbytes : (s.taken m).stBytes ((s.taken m).req m 8 4) 64 = s.stBytes (s.req m 8 4) 64 := by rw [req_taken]; rfl
    rw [processLoad_admits (n := n) (slot := slot) (p := p) ((loadRefusal_taken s m m sec).trans hpass) ((loadJob_taken s m m).trans hjob)
      (by rw [hbytes]; exact hslot) (by rw [hbytes, loadPlan_taken]; exact hplan), hbytes, loadStreams_taken]
    exact reserve_admits ..

/-- Settles O53: each command is refused or does its work by the theorem of its clause. -/
theorem jobsAreLoadedAndRun : Obligations.JobsAreLoadedAndRun := by
  intro s m
  refine ⟨fun sec h => ⟨jobLoad_waits h, jobLoad_settles h⟩, fun h => ?_, fun h => ⟨jobStop_refused h, jobStop_stops h⟩,
    fun h => jobUnload_empties h, fun h => ?_, jobStatus_answers, capsGet_answers⟩
  · obtain ⟨hstate, hout⟩ := jobStart_refused h
    refine ⟨hstate, hout, fun hst hmapped h0 h1 hsplit hclu => ?_⟩
    obtain ⟨t, hexec, hans, hjob, hbind⟩ := jobStart_starts h hst hmapped h0 h1 hsplit hclu
    refine ⟨t, hexec, hans, by rw [hjob]; rfl, fun st hst => ?_⟩
    rw [hbind st hst]
    exact ⟨rfl, rfl, rfl⟩
  · obtain ⟨hstate, hdecl⟩ := jobGrade_refused h
    exact ⟨hstate, hdecl, jobGrade_sets h⟩

end Sys2Proof.Machine
end

section
/-! PROOF. The family of 03_crossbar_tiles.md: the jobs that faults strike (O39) and the products of tiles (O31). -/

namespace Sys2Proof.Machine

/-! ### Missing runs -/

/-- The parts of the state that the detection of a fault does not touch, as far as tiles, halves and the pitch go. -/
def State.unfaulted (s : State) :
    Sparse Word × List Held × Sparse Half × Sparse TileRec × Sparse Occ × Sparse StoreSlot × List Homework :=
  (s.inForce, s.fabric, s.halves, s.tiles, s.occ, s.store, s.homework)

/-- What entering lost batches in the missing runs leaves alone: it changes the bindings of streams, the runs and the record channel. -/
structure RunsNoted (s t : State) : Prop where
  unfaulted : t.unfaulted = s.unfaulted
  regs : t.regs = s.regs
  jobs : t.jobs = s.jobs
  batches : t.batches = s.batches

theorem RunsNoted.refl (s : State) : RunsNoted s s := ⟨rfl, rfl, rfl, rfl⟩

theorem RunsNoted.trans {s t u : State} (h : RunsNoted s t) (h' : RunsNoted t u) : RunsNoted s u where
  unfaulted := h'.unfaulted.trans h.unfaulted
  regs := h'.regs.trans h.regs
  jobs := h'.jobs.trans h.jobs
  batches := h'.batches.trans h.batches

theorem RunsNoted.each {α : Type} {l : List α} {f : State → α → State} (hf : ∀ s a, RunsNoted s (f s a)) (s : State) :
    RunsNoted s (s.each l f) :=
  each_inv (RunsNoted s) l f s (fun t a ht => ht.trans (hf t a)) (.refl s)

theorem runsNoted_openFrame (s : State) (t vc : Nat) : RunsNoted s (openFrame s t vc) := by
  unfold openFrame
  dsimp only
  split
  · exact .refl s
  · exact ⟨rfl, rfl, rfl, rfl⟩

theorem runsNoted_emitMiss (s : State) (r : MissRun) (k n : Nat) (first last : Stamp) : RunsNoted s (emitMiss s r k n first last) := by
  have hqueue (q : List RecPacket) (n : Nat) : RunsNoted s ((s.setRecQ q).setRecSeq n) := ⟨rfl, rfl, rfl, rfl⟩
  exact (hqueue _ _).trans (runsNoted_openFrame ..)

theorem runsNoted_addMiss (s : State) (j path st cause k : Nat) (first last : Stamp) :
    RunsNoted s (addMiss s j path st cause k first last) := by
  have hruns (l : List MissRun) : RunsNoted s (s.setMisses l) := ⟨rfl, rfl, rfl, rfl⟩
  unfold addMiss
  dsimp only
  split
  · exact (hruns _).trans (.each (fun _ _ => runsNoted_emitMiss ..) _)
  · exact hruns _

theorem runsNoted_missOn (s : State) (j st k : Nat) (first last : Stamp) : RunsNoted s (missOn s j st k first last) :=
  .each (fun _ _ => runsNoted_addMiss ..) s

theorem runsNoted_fenceStream (s : State) (j st : Nat) : RunsNoted s (fenceStream s j st) := by
  have hbind (u : State) (v : Bind) : RunsNoted u (u.putBind j st v) := ⟨rfl, rfl, rfl, rfl⟩
  unfold fenceStream
  extract_lets b first u
  have hu : RunsNoted s u := by
    unfold u
    split
    · exact runsNoted_missOn ..
    · exact .refl s
  split
  · exact hu.trans (hbind ..)
  · exact hu

/-! ### The fence of a job -/

/-- Deciding anew whether a job waits writes that job's TAG_STAT and TAG_WAIT_CNT at most. -/
theorem refreshWait_word (s : State) (j : Nat) {k : Nat} (hk : k < 0x30000 ∨ 0x300C0 ≤ k) : (refreshWait s j).word k = s.word k := by
  have hcnt : k ≠ R.TAG_WAIT_CNT_COUNT.key j 0 := by simp only [R.TAG_WAIT_CNT_COUNT, Fld.key]; omega
  have hstat : k ≠ R.TAG_STAT_WAITING.key j 0 := by simp only [R.TAG_STAT_WAITING, Fld.key]; omega
  have hcount (c : Bool) : (if c then s.bump R.TAG_WAIT_CNT_COUNT j else s).word k = s.word k := by
    split
    · exact word_wr_ne _ _ _ _ hcnt
    · rfl
  have hshow (c w : Bool) : ((if c then s.bump R.TAG_WAIT_CNT_COUNT j else s).wrB R.TAG_STAT_WAITING j w).word k = s.word k :=
    (word_wr_ne _ _ _ _ hstat).trans (hcount c)
  unfold refreshWait
  extract_lets w t u
  have hu : u.word k = s.word k := hshow ..
  clear_value u
  split
  · exact hu
  · exact hu

/-- A fence enters what it discards in the missing runs, removes the job's complete batches and decides its waiting anew (R334). -/
theorem fence_eq (s : State) (j : Nat) : ∃ u, RunsNoted (s.putJob j { s.job j with fenced := true }) u ∧
    fence s j = refreshWait (u.setBatches (s.batches.filter fun b => !(b.job == j && !b.started))) j := by
  unfold fence
  extract_lets job t u gone v
  have hu : RunsNoted t u := .each (fun _ _ => runsNoted_fenceStream ..) t
  have hv : RunsNoted t v := hu.trans (.each (fun _ _ => runsNoted_missOn ..) u)
  have hbatches : v.batches = s.batches := hv.batches
  exact ⟨v, hv, by rw [hbatches]⟩

theorem fence_word (s : State) (j : Nat) {k : Nat} (hk : k < 0x30000 ∨ 0x300C0 ≤ k) : (fence s j).word k = s.word k := by
  obtain ⟨u, hu, hfence⟩ := fence_eq s j
  rw [hfence, refreshWait_word _ _ hk]
  exact congrArg (spGet regReset · k) hu.regs

theorem fence_batches (s : State) (j : Nat) : (fence s j).batches = s.batches.filter fun b => !(b.job == j && !b.started) := by
  obtain ⟨u, hu, hfence⟩ := fence_eq s j
  rw [hfence]
  exact refreshWait_apart State.batches (fun _ _ _ => rfl) ..

theorem job_putJob (s : State) (j i : Nat) (v : Job) : (s.putJob j v).job i = if i = j then v else s.job i := spGet_spSet ..

/-- A fence fences the job and decides whether it waits; the other jobs it leaves. -/
theorem fence_job (s : State) (j : Nat) :
    ∃ w, ∀ i, (fence s j).job i = if i = j then { s.job j with fenced := true, waiting := w } else s.job i := by
  obtain ⟨u, hu, hfence⟩ := fence_eq s j
  obtain ⟨w, hwait⟩ := refreshWait_aside (u.setBatches (s.batches.filter fun b => !(b.job == j && !b.started))) j
  have hjob (i : Nat) : (u.setBatches (s.batches.filter fun b => !(b.job == j && !b.started))).job i =
      if i = j then { s.job j with fenced := true } else s.job i := (job_of_jobs hu.jobs i).trans (job_putJob ..)
  refine ⟨w, fun i => ?_⟩
  rw [hfence, hwait.job, job_putJob, hjob, hjob, if_pos rfl]
  split <;> rfl

/-! ### What a fault leaves alone -/

/-- What the detection of faults leaves alone, whichever jobs they strike: most of the state, every register but those of the jobs' faults
and of their tags, and where the jobs are placed. -/
structure FaultKeeps (s t : State) : Prop where
  unfaulted : t.unfaulted = s.unfaulted
  words : ∀ k, k < 0x20100 ∨ 0x300C0 ≤ k → t.word k = s.word k
  placed : ∀ i, (t.job i).placed = (s.job i).placed

theorem FaultKeeps.refl (s : State) : FaultKeeps s s := ⟨rfl, fun _ _ => rfl, fun _ => rfl⟩

theorem FaultKeeps.trans {s t u : State} (h : FaultKeeps s t) (h' : FaultKeeps t u) : FaultKeeps s u where
  unfaulted := h'.unfaulted.trans h.unfaulted
  words k hk := (h'.words k hk).trans (h.words k hk)
  placed i := (h'.placed i).trans (h.placed i)

theorem FaultKeeps.fabric {s t : State} (h : FaultKeeps s t) : t.fabric = s.fabric := congrArg (·.2.1) h.unfaulted

theorem FaultKeeps.half {s t : State} (h : FaultKeeps s t) (n : Nat) : t.half n = s.half n :=
  congrArg (spGet (fun _ => Half.reset) · n) (congrArg (·.2.2.1) h.unfaulted)

/-- What a fault leaves of a job it does not strike: the job, the count of its faults, and no batch that was not there. -/
structure Spares (j : Nat) (s t : State) : Prop where
  job : t.job j = s.job j
  faults : t.rd R.JOB_RST_CNT_FAULTS j = s.rd R.JOB_RST_CNT_FAULTS j
  batches : ∀ b ∈ t.batches, b ∈ s.batches

theorem Spares.refl (j : Nat) (s : State) : Spares j s s := ⟨rfl, rfl, fun _ hb => hb⟩

theorem Spares.trans {j : Nat} {s t u : State} (h : Spares j s t) (h' : Spares j t u) : Spares j s u where
  job := h'.job.trans h.job
  faults := h'.faults.trans h.faults
  batches b hb := h.batches b (h'.batches b hb)

/-- The faults of job `j` advance by one (R342). -/
def State.countFault (s : State) (j : Nat) : State := s.wr R.JOB_RST_CNT_FAULTS j (s.rd R.JOB_RST_CNT_FAULTS j + 1)

/-- All a detected fault can do: nothing, count, be recorded as the last fault of a restart in progress, or fence the job. -/
theorem detectFault_cases (s : State) (j : Nat) (f : FaultInfo) :
    detectFault s j f = s ∨ detectFault s j f = s.countFault j ∨ ∃ v : Job, v.placed = (s.job j).placed ∧
      (detectFault s j f = recordFault ((s.countFault j).putJob j v) j f.cls f.kind f.unit f.injected s.tb ∨
        detectFault s j f = fence ((s.countFault j).putJob j v) j) := by
  unfold detectFault
  dsimp only
  split
  · exact .inl rfl
  · refine .inr ?_
    split
    · rename_i r hr
      exact .inr ⟨{ s.job j with restart := some { r with remedies := r.remedies ++ [f.remedy] } }, rfl, .inl rfl⟩
    · split
      · exact .inl rfl
      · let r : Restart := ⟨f.cls, f.injected, f.kind, f.unit, s.tb, s.now, false, false, [f.remedy], false⟩
        exact .inr ⟨{ s.job j with restart := some r }, rfl, .inr rfl⟩

theorem JOB_RST_CNT_key (j : Nat) : R.JOB_RST_CNT_FAULTS.key j 0 = 0x20104 + 0x20 * (j % 16) := by simp [R.JOB_RST_CNT_FAULTS, Fld.key]

theorem JOB_FAULT_key (j : Nat) : R.JOB_FAULT.key j 0 = 0x20100 + 0x20 * (j % 16) := by simp [R.JOB_FAULT, Fld.key]

theorem JOB_FTIME_LO_key (j : Nat) : R.JOB_FTIME_LO.key j 0 = 0x2010C + 0x20 * (j % 16) := by simp [R.JOB_FTIME_LO, Fld.key]

theorem JOB_FTIME_HI_key (j : Nat) : R.JOB_FTIME_HI.key j 0 = 0x20110 + 0x20 * (j % 16) := by simp [R.JOB_FTIME_HI, Fld.key]

/-- The record of a fault is written to registers. -/
theorem recordFault_apart {α : Type} (g : State → α) (hg : ∀ s r, g (s.setRegs r) = g s) (s : State) (j cls kind unit : Nat)
    (injected : Bool) (time : DWord) : g (recordFault s j cls kind unit injected time) = g s := by
  have hwr (s : State) (f : Fld) (v : Nat) : g (s.wr f j v) = g s := hg s _
  unfold recordFault State.wrB
  dsimp only
  rw [hwr, hwr, hwr, hwr, hwr, hwr]

/-- The record of a fault is written to JOB_FAULT_j and JOB_FTIME_j. -/
theorem recordFault_word (s : State) (j cls kind unit : Nat) (injected : Bool) (time : DWord) {k : Nat} (hfault : k ≠ R.JOB_FAULT.key j 0)
    (hlo : k ≠ R.JOB_FTIME_LO.key j 0) (hhi : k ≠ R.JOB_FTIME_HI.key j 0) :
    (recordFault s j cls kind unit injected time).word k = s.word k := by
  unfold recordFault State.wrB
  dsimp only
  rw [word_wr_ne _ R.JOB_FTIME_HI_TIME_HI _ _ hhi, word_wr_ne _ R.JOB_FTIME_LO_TIME_LO _ _ hlo, word_wr_ne _ R.JOB_FAULT_UNIT _ _ hfault,
    word_wr_ne _ R.JOB_FAULT_UNIT_KIND _ _ hfault, word_wr_ne _ R.JOB_FAULT_INJECTED _ _ hfault, word_wr_ne _ R.JOB_FAULT_CLASS _ _ hfault]

theorem faultKeeps_countFault (s : State) (j : Nat) : FaultKeeps s (s.countFault j) :=
  ⟨rfl, fun k hk => word_wr_ne s _ j _ (by rw [JOB_RST_CNT_key]; omega), fun _ => rfl⟩

theorem faultKeeps_putJob (s : State) (j : Nat) {v : Job} (hv : v.placed = (s.job j).placed) : FaultKeeps s (s.putJob j v) := by
  refine ⟨rfl, fun _ _ => rfl, fun i => ?_⟩
  rw [job_putJob]
  split
  · rename_i heq
    rw [heq, hv]
  · rfl

theorem faultKeeps_recordFault (s : State) (j cls kind unit : Nat) (injected : Bool) (time : DWord) :
    FaultKeeps s (recordFault s j cls kind unit injected time) := by
  refine ⟨recordFault_apart State.unfaulted (fun _ _ => rfl) .., fun k hk => recordFault_word s j cls kind unit injected time ?_ ?_ ?_,
    fun i => congrArg Job.placed (recordFault_apart (State.job · i) (fun _ _ => rfl) ..)⟩
  · rw [JOB_FAULT_key]; omega
  · rw [JOB_FTIME_LO_key]; omega
  · rw [JOB_FTIME_HI_key]; omega

theorem faultKeeps_fence (s : State) (j : Nat) : FaultKeeps s (fence s j) where
  unfaulted := by
    obtain ⟨u, hu, hfence⟩ := fence_eq s j
    rw [hfence, refreshWait_apart State.unfaulted fun _ _ _ => rfl]
    exact hu.unfaulted
  words k hk := fence_word s j (by omega)
  placed i := by
    obtain ⟨w, hjob⟩ := fence_job s j
    rw [hjob]
    split
    · rename_i heq
      rw [heq]
    · rfl

/-- A fault leaves what `FaultKeeps` says. -/
theorem faultKeeps_detectFault (s : State) (j : Nat) (f : FaultInfo) : FaultKeeps s (detectFault s j f) := by
  obtain h | h | ⟨v, hv, h | h⟩ := detectFault_cases s j f
  · rw [h]; exact .refl s
  · rw [h]; exact faultKeeps_countFault s j
  · rw [h]; exact ((faultKeeps_countFault s j).trans (faultKeeps_putJob _ j hv)).trans (faultKeeps_recordFault ..)
  · rw [h]; exact ((faultKeeps_countFault s j).trans (faultKeeps_putJob _ j hv)).trans (faultKeeps_fence ..)

theorem faultKeeps_faultAll (s : State) (l : List Nat) (f : FaultInfo) : FaultKeeps s (faultAll s l f) :=
  each_inv (FaultKeeps s) l _ s (fun t i ht => ht.trans (faultKeeps_detectFault t i f)) (.refl s)

theorem spares_putJob (s : State) {i j : Nat} (hij : j ≠ i) (v : Job) : Spares j s (s.putJob i v) :=
  ⟨by rw [job_putJob, if_neg hij], rfl, fun _ hb => hb⟩

theorem spares_fence (s : State) {i j : Nat} (hij : j ≠ i) : Spares j s (fence s i) where
  job := by
    obtain ⟨w, hjob⟩ := fence_job s i
    rw [hjob, if_neg hij]
  faults := by
    unfold State.rd State.rd2
    rw [fence_word s i (by rw [JOB_RST_CNT_key]; omega)]
  batches b hb := by
    rw [fence_batches] at hb
    exact List.mem_of_mem_filter hb

/-- A fault of job `i` leaves every other job. -/
theorem spares_detectFault (s : State) {i j : Nat} (hi : i < 16) (hj : j < 16) (hij : j ≠ i) (f : FaultInfo) :
    Spares j s (detectFault s i f) := by
  have hcount : Spares j s (s.countFault i) :=
    ⟨rfl, rd_wr_ne s _ _ i j _ (.inl (by rw [JOB_RST_CNT_key, JOB_RST_CNT_key]; omega)), fun _ hb => hb⟩
  have hrecord (t : State) : Spares j t (recordFault t i f.cls f.kind f.unit f.injected s.tb) := by
    refine ⟨recordFault_apart (State.job · j) (fun _ _ => rfl) .., ?_,
      fun b hb => by rwa [recordFault_apart State.batches fun _ _ => rfl] at hb⟩
    unfold State.rd State.rd2
    rw [recordFault_word]
    · rw [JOB_RST_CNT_key, JOB_FAULT_key]; omega
    · rw [JOB_RST_CNT_key, JOB_FTIME_LO_key]; omega
    · rw [JOB_RST_CNT_key, JOB_FTIME_HI_key]; omega
  obtain h | h | ⟨v, -, h | h⟩ := detectFault_cases s i f
  · rw [h]; exact .refl j s
  · rw [h]; exact hcount
  · rw [h]; exact (hcount.trans (spares_putJob _ hij v)).trans (hrecord _)
  · rw [h]; exact (hcount.trans (spares_putJob _ hij v)).trans (spares_fence _ hij)

theorem spares_faultAll {j : Nat} (hj : j < 16) {l : List Nat} (hl : ∀ i ∈ l, i < 16) (hmem : j ∉ l) (s : State) (f : FaultInfo) :
    Spares j s (faultAll s l f) := by
  induction l generalizing s with
  | nil => exact .refl j s
  | cons i l ih =>
    have hij : j ≠ i := fun h => hmem (h ▸ List.mem_cons_self)
    exact (spares_detectFault s (hl i List.mem_cons_self) hj hij f).trans
      (ih (fun a ha => hl a (List.mem_cons_of_mem i ha)) (fun h => hmem (List.mem_cons_of_mem i h)) _)

/-! ### What a fault does to a job it strikes -/

/-- Job `j` is struck from state `s` to state `t` by a fault of class `cls`: fenced with that class, its faults counted, and none of its
complete batches awaiting dispatch (R332, R334, R342). -/
def Strikes (s t : State) (j cls : Nat) : Prop :=
  t.Struck j cls ∧ Counted s t R.JOB_RST_CNT_FAULTS j ∧ ∀ b ∈ t.batches, b.job = j → b.started = true

theorem Spares.strikes {j cls : Nat} {s t u : State} (h : Spares j s t) (h' : Strikes t u j cls) : Strikes s u j cls := by
  obtain ⟨hstruck, hcount, hbatches⟩ := h'
  exact ⟨hstruck, by rw [Counted, hcount, h.faults], hbatches⟩

theorem Strikes.spared {j cls : Nat} {s t u : State} (h : Strikes s t j cls) (h' : Spares j t u) : Strikes s u j cls := by
  obtain ⟨hstruck, hcount, hbatches⟩ := h
  exact ⟨by rwa [State.Struck, h'.job], by rwa [Counted, h'.faults], fun b hb => hbatches b (h'.batches b hb)⟩

theorem Job.started_of_live {job : Job} (h : job.live = true) : job.started = true := by
  unfold Job.live at h
  unfold Job.started
  cases hst : job.st <;> simp_all

theorem Job.not_restarting_of_live {job : Job} (h : job.live = true) : job.st ≠ .restarting := by
  intro hst
  simp [Job.live, hst] at h

theorem Job.admitted_of_live {job : Job} (h : job.live = true) : job.admitted = true := by
  simp only [Job.admitted, decide_eq_true_eq]
  intro hst
  simp [Job.live, hst] at h

/-- A job that does not run is left as it is. -/
theorem detectFault_idle {s : State} {j : Nat} (f : FaultInfo) (h : (s.job j).started = false) : detectFault s j f = s := by
  simp [detectFault, h]

/-- A job that runs and is not in a restart is struck. -/
theorem detectFault_strikes {s : State} {j : Nat} (f : FaultInfo) (hlive : (s.job j).live = true) (hrestart : (s.job j).restart = none) :
    Strikes s (detectFault s j f) j f.cls := by
  let v : Job := { s.job j with restart := some ⟨f.cls, f.injected, f.kind, f.unit, s.tb, s.now, false, false, [f.remedy], false⟩ }
  have heq : detectFault s j f = fence ((s.countFault j).putJob j v) j := by
    simp only [detectFault, Job.started_of_live hlive, hrestart, Job.not_restarting_of_live hlive, Bool.not_true, Bool.false_eq_true,
      if_false]
    rfl
  obtain ⟨w, hjob⟩ := fence_job ((s.countFault j).putJob j v) j
  rw [heq]
  refine ⟨?_, ?_, fun b hb hbj => ?_⟩
  · rw [State.Struck, hjob, if_pos rfl, job_putJob_same]
    exact ⟨rfl, rfl⟩
  · rw [Counted, State.rd, State.rd2, fence_word _ _ (by rw [JOB_RST_CNT_key]; omega)]
    exact rd_wr_same s R.JOB_RST_CNT_FAULTS j _ (by decide)
  · rw [fence_batches, List.mem_filter] at hb
    simpa [hbj] using hb.2

/-- A fault of several jobs strikes each of them. -/
theorem faultAll_strikes {s : State} {l : List Nat} {j : Nat} (f : FaultInfo) (hl : ∀ i ∈ l, i < 16) (hnodup : l.Nodup) (hj : j ∈ l)
    (hlive : (s.job j).live = true) (hrestart : (s.job j).restart = none) : Strikes s (faultAll s l f) j f.cls := by
  obtain ⟨a, b, rfl⟩ := List.append_of_mem hj
  have hsplit : faultAll s (a ++ j :: b) f = faultAll (detectFault (faultAll s a f) j f) b f := by
    simp only [faultAll, State.each, List.foldl_append, List.foldl_cons]
  have ha : j ∉ a := fun h => (List.nodup_append.1 hnodup).2.2 j h j List.mem_cons_self rfl
  have hb : j ∉ b := (List.nodup_cons.1 (List.nodup_append.1 hnodup).2.1).1
  have hbefore := spares_faultAll (hl j hj) (fun i hi => hl i (List.mem_append_left _ hi)) ha s f
  have hafter := spares_faultAll (hl j hj) (fun i hi => hl i (List.mem_append_right _ (List.mem_cons_of_mem j hi))) hb
    (detectFault (faultAll s a f) j f) f
  rw [hsplit]
  refine (hbefore.strikes (detectFault_strikes f ?_ ?_)).spared hafter
  · rwa [hbefore.job]
  · rwa [hbefore.job]

/-- A fault of all the jobs that satisfy a condition strikes each of them. -/
theorem faultJobs_strikes {s : State} {p : Nat → Bool} {j : Nat} (f : FaultInfo) (hj : j < 16) (hp : p j = true)
    (hlive : (s.job j).live = true) (hrestart : (s.job j).restart = none) : Strikes s (faultAll s (jobNums.filter p) f) j f.cls :=
  faultAll_strikes f (fun _ hi => List.mem_range.1 (List.mem_of_mem_filter hi)) (List.nodup_range.filter p)
    (List.mem_filter.2 ⟨List.mem_range.2 hj, hp⟩) hlive hrestart

/-! ### The faults of units, tiles and halves -/

/-- A failed unit of a cluster strikes every job that uses the cluster. -/
theorem unitFault_strikes {s : State} {c j : Nat} (dma : Bool) (hj : j < 16) (hc : c ∈ (s.job j).clusters)
    (hlive : (s.job j).live = true) (hrestart : (s.job j).restart = none) : Strikes s (unitFault s c dma) j fcUnit := by
  have huses : ((s.job j).started && (s.job j).clusters.contains c) = true := by
    rw [Job.started_of_live hlive, List.contains_iff_mem.2 hc]; rfl
  unfold unitFault
  extract_lets again js t u
  have hstrikes : Strikes s u j fcUnit :=
    faultJobs_strikes (s := t) (p := fun j => (s.job j).started && (s.job j).clusters.contains c) _ hj huses hlive hrestart
  split
  · exact hstrikes
  · exact hstrikes

/-- The failure of a half strikes every job placed in it. -/
theorem failHalf_spec {s : State} {h : Nat} (hok : (s.half h).failed = false) :
    ((failHalf s h).half h).failed = true ∧ (failHalf s h).on R.SUP_EVT_HALF_FAIL 0 = true ∧
    ∀ j < 16, (s.job j).inHalf h = true → (s.job j).live = true → (s.job j).restart = none → Strikes s (failHalf s h) j fcHalf := by
  let t := (s.putHalf h { s.half h with failed := true }).raise R.SUP_EVT_HALF_FAIL 0
  have hjobs : t.jobs = s.jobs := raise_jobs ..
  have hfail : failHalf s h = faultAll t (t.jobsInHalf h) ⟨fcHalf, false, 8, h, .half h⟩ := by simp [failHalf, hok, t]
  have hkeeps := faultKeeps_faultAll t (t.jobsInHalf h) ⟨fcHalf, false, 8, h, .half h⟩
  rw [hfail]
  refine ⟨?_, ?_, fun j hj hin hlive hrestart => ?_⟩
  · rw [hkeeps.half, State.half, raise_halves]
    simp [State.putHalf]
  · have hon : t.on R.SUP_EVT_HALF_FAIL 0 = true := raise_on_same _ _ 0 (by decide) (by decide) (by decide) (by decide)
    rw [State.on, State.rd, State.rd2, hkeeps.words _ (by decide)]
    exact hon
  · have hkey : R.SUP_EVT_HALF_FAIL.key 0 0 = 0x20004 := by decide
    have hfaults : t.rd R.JOB_RST_CNT_FAULTS j = s.rd R.JOB_RST_CNT_FAULTS j :=
      raise_rd_ne _ _ _ 0 j (by rw [JOB_RST_CNT_key, hkey]; omega) (by rw [JOB_RST_CNT_key]; omega)
    have hspares : Spares j s t := ⟨job_of_jobs hjobs j, hfaults, fun b hb => by rwa [raise_batches] at hb⟩
    refine hspares.strikes (faultJobs_strikes _ hj ?_ ?_ ?_)
    · rw [hspares.job, Job.admitted_of_live hlive, hin]; rfl
    · rwa [hspares.job]
    · rwa [hspares.job]

theorem failHalf_again {s : State} {h : Nat} (hfailed : (s.half h).failed = true) : failHalf s h = s := by simp [failHalf, hfailed]

/-- The token of a product that is not finished in time is discarded, and the product strikes every job that holds the tile. -/
theorem tileTimeout_late {s : State} {t : Fin 4096} {h : Held}
    (hfront : let u := if s.pairFormed t then t.val - t.val % 2 else t.val; s.front (.unit (u / 16) (u % 16)) = some h)
    (hlate : s.passed h.at_ (2 * usec) = true) :
    Does (.tileTimeout t) s fun v => v.fabric = s.fabric.erase h ∧ ∀ j < 16, t.val ∈ (s.job j).tiles → (s.job j).live = true →
      (s.job j).restart = none → Strikes s v j fcTile := by
  have hexec : exec (.tileTimeout t) s =
      .next (faultAll (pitchTake s h) (s.jobsOnTile t) ⟨fcTile, false, 1, t.val, .tile t.val⟩) := by
    simp [exec, execTileTimeout, hfront, hlate]
  refine ⟨_, hexec, (faultKeeps_faultAll ..).fabric, fun j hj ht hlive hrestart => ?_⟩
  have htaken : Spares j s (pitchTake s h) := ⟨rfl, rfl, fun _ hb => hb⟩
  exact htaken.strikes (faultJobs_strikes _ hj (List.contains_iff_mem.2 ht) hlive hrestart)

/-- Without such a product nothing changes. -/
theorem tileTimeout_idle {s : State} {t : Fin 4096}
    (hidle : let u := if s.pairFormed t then t.val - t.val % 2 else t.val
      ∀ h, s.front (.unit (u / 16) (u % 16)) = some h → s.passed h.at_ (2 * usec) = false) :
    Does (.tileTimeout t) s fun v => v = s := by
  refine ⟨s, congrArg Host.Outcome.next ?_, rfl⟩
  dsimp only
  split
  · rfl
  · rename_i h hfront
    exact if_neg (by simp [hidle h hfront])

/-- A lost hub link is noted with its instant, once. -/
theorem hubLinkLoss_notes (s : State) (h : Fin 2) :
    ((s.half h).linkLostAt = none → Does (.hubLinkLoss h) s fun t => (t.half h).linkLostAt = some s.now ∧ t = s.setHalves t.halves) ∧
    (∀ x, (s.half h).linkLostAt = some x → Does (.hubLinkLoss h) s fun t => t = s) := by
  refine ⟨fun hlost => ?_, fun x hlost => ?_⟩
  · have hexec : exec (.hubLinkLoss h) s = .next (s.putHalf h { s.half h with linkLostAt := some s.now }) := by
      simp [exec, execHubLinkLoss, hlost]
    have hput : (s.putHalf h { s.half h with linkLostAt := some s.now }).half h = { s.half h with linkLostAt := some s.now } :=
      spGet_spSet_same ..
    exact ⟨_, hexec, by rw [hput], rfl⟩
  · exact ⟨s, by simp [exec, execHubLinkLoss, hlost], rfl⟩

/-- Settles O39: each fault is a detection of `detectFault` or `faultAll`, after updates that spare the jobs. -/
theorem faultsFenceTheirJobs : Obligations.FaultsFenceTheirJobs := by
  intro s
  have hpeer (j : Fin 16) : exec (.peerRestart j) s = .next (detectFault s j ⟨fcPeer, false, 9, 0, .none⟩) := rfl
  have hunit (c : Fin 256) (dma : Bool) : exec (.unitTimeout c dma) s = .next (unitFault s c dma) := rfl
  refine ⟨fun j => ⟨⟨_, hpeer j, detectFault_strikes _⟩, fun hst => ⟨_, hpeer j, detectFault_idle _ hst⟩, fun hstall => ?_,
      fun hstall => ?_⟩,
    fun c dma => ⟨_, hunit c dma, fun j hj hc => unitFault_strikes dma hj hc⟩,
    fun t => ⟨fun h hfront => ⟨tileTimeout_late hfront, fun hlate => tileTimeout_idle fun x hx => ?_⟩,
      fun hfront => tileTimeout_idle fun x hx => ?_⟩,
    fun h => ⟨(hubLinkLoss_notes s h).1, (hubLinkLoss_notes s h).2, fun hgone hok => ?_, fun hidle => ?_⟩⟩
  · exact ⟨_, congrArg Host.Outcome.next (if_pos hstall), detectFault_strikes _⟩
  · exact ⟨_, congrArg Host.Outcome.next (if_neg (by simp [hstall])), rfl⟩
  · cases hfront.symm.trans hx
    exact hlate
  · cases hfront.symm.trans hx
  · exact ⟨_, congrArg Host.Outcome.next (if_pos hgone), failHalf_spec hok⟩
  · refine ⟨_, congrArg Host.Outcome.next ?_, rfl⟩
    obtain hgone | hfailed := hidle
    · exact if_neg (by simp [hgone])
    · rw [failHalf_again hfailed, ite_self]

/-! ### The judging of a tile -/

theorem pairFormed_of_inForce {s v : State} (h : v.inForce = s.inForce) (t : Nat) : v.pairFormed t = s.pairFormed t := by
  simp only [State.pairFormed, State.frc, State.frc2, State.forceWord, h]

/-- The estimates of tile `t` give no cause: it is neither due nor withdrawn, under no homework, and below the level of a run (R209). -/
structure State.Rests (s : State) (t : Nat) : Prop where
  due : s.estDue t = false
  hw : s.hw (s.baseOf t) = none
  est : s.rd R.TCAL_EST_EST t + 5 < s.thresh
  svc : s.svc t ≠ svcWithdrawn

/-- The judging of such a tile changes nothing. -/
theorem judgeTile_rests {s : State} {t : Nat} (h : s.Rests t) : judgeTile s t = s := by
  obtain ⟨hdue, hhw, hest, hsvc⟩ := h
  have hstale : checkStale s (s.baseOf t) = s := by simp [checkStale, hhw]
  have hstuck : checkStuck s (s.baseOf t) = s := by simp [checkStuck, hhw]
  have hlow : ¬ s.thresh - 5 ≤ s.rd R.TCAL_EST_EST t := by omega
  unfold judgeTile
  rw [if_neg hsvc]
  split
  · rfl
  · simp [hdue, hstale, hstuck, hlow]

/-- What the judging of tile `t` looks at, besides its registers and the placements of the jobs. -/
def State.judged (s : State) (t : Nat) : Rat × Sparse Word × Sparse Occ × Sparse StoreSlot × List Homework :=
  ((s.tile t).settled2, s.inForce, s.occ, s.store, s.homework)

/-- The registers the judging of tile `t` looks at: CAL_THRESH, TCAL_EST and TCAL_STAT. -/
def JudgedKey (t k : Nat) : Prop := k = R.CAL_THRESH.key 0 0 ∨ k = R.TCAL_EST.key t 0 ∨ k = R.TCAL_STAT.key t 0

theorem JudgedKey.eq {t k : Nat} (h : JudgedKey t k) :
    k = 0x50004 ∨ k = 0x4100028 + 0x4000000 * (t % 4096 / 2048) + 0x200 * (t % 4096 % 2048) ∨
      k = 0x4100020 + 0x4000000 * (t % 4096 / 2048) + 0x200 * (t % 4096 % 2048) := by
  simpa [JudgedKey, R.CAL_THRESH, R.TCAL_EST, R.TCAL_STAT, Fld.key] using h

/-- Whether tile `t` rests is the same in two states. -/
structure JudgedAlike (t : Nat) (s v : State) : Prop where
  judged : v.judged t = s.judged t
  words : ∀ k, JudgedKey t k → v.word k = s.word k
  placed : ∀ j, (v.job j).placed = (s.job j).placed

theorem JudgedAlike.trans {t : Nat} {s u v : State} (h : JudgedAlike t s u) (h' : JudgedAlike t u v) : JudgedAlike t s v where
  judged := h'.judged.trans h.judged
  words k hk := (h'.words k hk).trans (h.words k hk)
  placed j := (h'.placed j).trans (h.placed j)

theorem JudgedAlike.rests {t : Nat} {s v : State} (h : JudgedAlike t s v) (hs : s.Rests t) : v.Rests t := by
  obtain ⟨hdue, hhw, hest, hsvc⟩ := hs
  obtain ⟨hjudged, hwords, hplaced⟩ := h
  simp only [State.judged, Prod.mk.injEq] at hjudged
  obtain ⟨hsettled, hforce, hocc, hstore, hwork⟩ := hjudged
  have hthresh : v.thresh = s.thresh := congrArg (fieldOf _ _) (hwords _ (.inl rfl))
  have hestimate : v.rd R.TCAL_EST_EST t = s.rd R.TCAL_EST_EST t := congrArg (fieldOf _ _) (hwords _ (.inr (.inl rfl)))
  have hservice : v.svc t = s.svc t := congrArg (fieldOf _ _) (hwords _ (.inr (.inr rfl)))
  have hserved : v.servedBy t = s.servedBy t := by simp only [State.servedBy, hplaced]
  have hslot : v.slot = s.slot := by unfold State.slot; rw [hstore]
  have hbase : v.baseOf t = s.baseOf t := by
    unfold State.baseOf State.pairAt State.findShard State.occOf
    rw [hserved, hocc, hslot, pairFormed_of_inForce hforce]
  exact ⟨by rwa [State.estDue, State.dueLevel, hthresh, hsettled], by rwa [hbase, State.hw, hwork], by rwa [hestimate, hthresh],
    by rwa [hservice]⟩

theorem FaultKeeps.judgedAlike {s v : State} (h : FaultKeeps s v) (t : Nat) : JudgedAlike t s v where
  judged := by
    have hunfaulted := h.unfaulted
    simp only [State.unfaulted, Prod.mk.injEq] at hunfaulted
    obtain ⟨hforce, -, -, htiles, hocc, hstore, hwork⟩ := hunfaulted
    simp only [State.judged, State.tile, hforce, htiles, hocc, hstore, hwork]
  words k hk := h.words k (by have := hk.eq; omega)
  placed := h.placed

/-- A tile that forms no pair is judged after its product, and rests as before. -/
theorem tileProduct_judged {s v : State} {t : Fin 4096} (hrests : s.Rests t) (hpair : s.pairFormed t = false) (hv : tileProduct s t = v)
    (halike : JudgedAlike t s v) : exec (.tileProduct t) s = .next v := by
  have hforce : v.inForce = s.inForce := congrArg (·.2.1) halike.judged
  have hexec : exec (.tileProduct t) s = .next (
      if (tileProduct s t).pairFormed t then
        judgeTile (judgeTile (tileProduct s t) (t.val - t.val % 2)) (t.val - t.val % 2 + 1)
      else judgeTile (tileProduct s t) t) := rfl
  rw [hexec, hv, pairFormed_of_inForce hforce, hpair, if_neg (by decide), judgeTile_rests (halike.rests hrests)]

/-! ### Inconsistent slices -/

theorem PAIR_ERR_key (t : Nat) :
    R.TILE_EVT_PAIR_ERR.key t 0 = 0x4100004 + 0x4000000 * (t % 4096 / 2048) + 0x200 * (t % 4096 % 2048) := by
  simp [R.TILE_EVT_PAIR_ERR, Fld.key]

theorem pairBad_not_formed {s : State} {t : Nat} (h : s.pairBad t = true) : s.pairFormed t = false := by
  simp only [State.pairBad, Bool.and_eq_true, Bool.not_eq_true'] at h
  exact h.2

/-- The state in which both tiles of a pair show PAIR_ERR. -/
def State.pairErr (s : State) (e : Nat) : State := (s.raise R.TILE_EVT_PAIR_ERR e).raise R.TILE_EVT_PAIR_ERR (e + 1)

theorem pairErr_jobs (s : State) (e : Nat) : (s.pairErr e).jobs = s.jobs := by simp only [State.pairErr, raise_jobs]

theorem pairErr_word (s : State) (e : Nat) {k : Nat} (he : k ≠ R.TILE_EVT_PAIR_ERR.key e 0)
    (he' : k ≠ R.TILE_EVT_PAIR_ERR.key (e + 1) 0) (h4 : k ≠ 0x4) : (s.pairErr e).word k = s.word k :=
  (raise_word_ne _ _ _ he' h4).trans (raise_word_ne _ _ _ he h4)

theorem pairErr_on (s : State) {e : Nat} (he : e % 2 = 0) :
    (s.pairErr e).on R.TILE_EVT_PAIR_ERR e = true ∧ (s.pairErr e).on R.TILE_EVT_PAIR_ERR (e + 1) = true := by
  have hset (u : State) (n : Nat) : (u.raise R.TILE_EVT_PAIR_ERR n).on R.TILE_EVT_PAIR_ERR n = true :=
    raise_on_same u _ n (by rw [PAIR_ERR_key]; omega) (by decide) (by decide) (by decide)
  refine ⟨?_, hset ..⟩
  rw [State.on, State.pairErr, raise_rd_ne, ← State.on]
  · exact hset ..
  · rw [PAIR_ERR_key, PAIR_ERR_key]; omega
  · rw [PAIR_ERR_key]; omega

/-- Slices set without a pair show PAIR_ERR at both tiles and strike the jobs that hold them; the tile computes nothing (R78). -/
theorem tileProduct_pairBad {s : State} {t : Fin 4096} (hrests : s.Rests t) (hbad : s.pairBad t = true) : let e := t.val - t.val % 2
    Does (.tileProduct t) s fun v => v.on R.TILE_EVT_PAIR_ERR e = true ∧ v.on R.TILE_EVT_PAIR_ERR (e + 1) = true ∧
      v.fabric = s.fabric ∧ ∀ j < 16, e ∈ (s.job j).tiles ∨ e + 1 ∈ (s.job j).tiles → (s.job j).live = true →
        (s.job j).restart = none → v.Struck j fcTile := by
  intro e
  have hkeeps : FaultKeeps (s.pairErr e) (pairFault s t) := faultKeeps_faultAll ..
  have hraised : JudgedAlike t s (s.pairErr e) := by
    refine ⟨?_, fun k hk => pairErr_word s e ?_ ?_ ?_, fun j => congrArg Job.placed (job_of_jobs (pairErr_jobs s e) j)⟩
    · simp only [State.judged, State.tile, State.pairErr, raise_tiles, raise_inForce, raise_occ, raise_store, raise_homework]
    all_goals have := hk.eq
    · rw [PAIR_ERR_key]; omega
    · rw [PAIR_ERR_key]; omega
    · omega
  have hproduct : tileProduct s t = pairFault s t := by simp [tileProduct, hbad]
  have hon (n : Nat) (h : (s.pairErr e).on R.TILE_EVT_PAIR_ERR n = true) : (pairFault s t).on R.TILE_EVT_PAIR_ERR n = true := by
    rw [State.on, State.rd, State.rd2, hkeeps.words _ (by rw [PAIR_ERR_key]; omega)]
    exact h
  have herr := pairErr_on s (e := e) (by omega)
  refine ⟨_, tileProduct_judged hrests (pairBad_not_formed hbad) hproduct (hraised.trans (hkeeps.judgedAlike t)), hon _ herr.1,
    hon _ herr.2, hkeeps.fabric.trans ?_, fun j hj hholds hlive hrestart => ?_⟩
  · simp only [State.pairErr, raise_fabric]
  · have hjob := job_of_jobs (pairErr_jobs s e) j
    have hstrikes := faultJobs_strikes (s := s.pairErr e) (p := fun j => ((s.pairErr e).job j).tiles.contains e ||
      ((s.pairErr e).job j).tiles.contains (e + 1)) ⟨fcTile, false, 1, e, .slices e⟩ hj (by simpa [hjob] using hholds) (by rwa [hjob])
      (by rwa [hjob])
    exact hstrikes.1

/-! ### Counters of the pitch

A register that counts neither the tokens passed over nor the transfers of the routers is not written by the pitch. -/

section PitchWords
variable {k : Nat} (hpassed : ∀ j, k ≠ R.JOB_PREEMPT_CNT_COUNT.key j 0) (hsent : ∀ c o, k ≠ R.RTR_XFER_CNT_COUNT.key c o)

include hpassed in
theorem countPassed_word (l : List Held) (s : State) :
    (s.each l fun s x => s.bump R.JOB_PREEMPT_CNT_COUNT x.tok.job).word k = s.word k :=
  each_keeps (State.word · k) l _ s fun s _ => word_wr_ne s _ _ _ (hpassed _)

include hpassed in
theorem takeNext_word {s u : State} {c n : Nat} {ok : Held → Bool} {h : Held} (ht : takeNext s c n ok = (u, some h)) :
    u.word k = s.word k := by
  unfold takeNext at ht
  dsimp only at ht
  split at ht
  · cases ht
  · split at ht
    · cases ht
    · simp only [Prod.mk.injEq, Option.some.injEq] at ht
      obtain ⟨rfl, rfl⟩ := ht
      exact countPassed_word hpassed _ (s.setGrantRr _)

include hsent in
theorem countSent_word (s : State) (t : Token) (p : Place) (n : Nat) : (countSent s t p n).word k = s.word k := by
  cases p with
  | router c _ _ => exact word_setWord_ne s _ (hsent _ _)
  | hubLink | entry | bridge | arrived | unit | hub => rfl

include hsent in
theorem settle_word (s : State) : (settle s).word k = s.word k := by
  have hflow (s : State) (h : Held) : (flowOne s h).word k = s.word k := by
    unfold flowOne
    split
    · rfl
    · exact each_keeps (State.word · k) _ _ s fun s _ => countSent_word hsent ..
  exact each_keeps (State.word · k) _ _ s fun s _ => each_keeps (State.word · k) _ _ s hflow

include hpassed hsent in
theorem pitchEnter_word (s : State) : (pitchEnter s).word k = s.word k := by
  have hnote (s : State) (h : Held) : (noteEntry s h).word k = s.word k := by
    unfold noteEntry
    split
    · exact countPassed_word hpassed _ (s.setGrantRr _)
    · rfl
  refine (each_keeps (State.word · k) _ _ (settle s) fun s h => ?_).trans (settle_word hsent s)
  split
  · exact (settle_word hsent _).trans (hnote s h)
  · rfl

end PitchWords

/-! ### The events and counters of a product -/

theorem TILE_EVT_key (t : Nat) : R.TILE_EVT.key t 0 = 0x4100004 + 0x4000000 * (t % 4096 / 2048) + 0x200 * (t % 4096 % 2048) := by
  simp [R.TILE_EVT, Fld.key]

theorem SKIP_CNT_key (t : Nat) : R.SKIP_CNT.key t 0 = R.TILE_EVT.key t 0 + 0xC := by simp only [R.SKIP_CNT, R.TILE_EVT, Fld.key]; omega

theorem PROD_CNT_LO_key (t : Nat) : R.PROD_CNT_LO_COUNT_LO.key t 0 = R.TILE_EVT.key t 0 + 0x10 := by
  simp only [R.PROD_CNT_LO_COUNT_LO, R.TILE_EVT, Fld.key]; omega

theorem PROD_CNT_HI_key (t : Nat) : R.PROD_CNT_HI_COUNT_HI.key t 0 = R.TILE_EVT.key t 0 + 0x14 := by
  simp only [R.PROD_CNT_HI_COUNT_HI, R.TILE_EVT, Fld.key]; omega

/-- What the events of a product and its counters before PROD_CNT may change: the state of the module, the registers of the tile from
TILE_EVT to SKIP_CNT, and what goes with events. -/
structure TileNoted (t : Nat) (s v : State) : Prop where
  frame : v = ((s.setRegs v.regs).setWb v.wb).setBus v.bus
  words : ∀ k, k ≠ 0x4 → k < R.TILE_EVT.key t 0 ∨ R.SKIP_CNT.key t 0 < k → v.word k = s.word k

/-- A field of the registers of tile `t` from TILE_EVT to SKIP_CNT. -/
def TileCounter (t : Nat) (f : Fld) : Prop := R.TILE_EVT.key t 0 ≤ f.key t 0 ∧ f.key t 0 ≤ R.SKIP_CNT.key t 0

theorem TileNoted.refl (t : Nat) (s : State) : TileNoted t s s := ⟨rfl, fun _ _ _ => rfl⟩

theorem TileNoted.trans {t : Nat} {s u v : State} (h : TileNoted t s u) (h' : TileNoted t u v) : TileNoted t s v where
  frame := by rw [h'.frame, h.frame]; rfl
  words k h4 hk := (h'.words k h4 hk).trans (h.words k h4 hk)

theorem tileNoted_raise (s : State) (t : Nat) {f : Fld} (hf : TileCounter t f) :
    TileNoted t s (s.raise f t) :=
  ⟨raise_eq .., fun _ h4 hk => raise_word_ne _ _ _ (by unfold TileCounter at hf; omega) h4⟩

theorem tileNoted_bumpBy (s : State) (t n : Nat) {f : Fld} (hf : TileCounter t f) :
    TileNoted t s (s.bumpBy f t n) :=
  ⟨rfl, fun _ _ hk => word_wr_ne _ _ _ _ (by unfold TileCounter at hf; omega)⟩

theorem tileNoted_raiseTimes (s : State) (t n : Nat) {f : Fld} (hf : TileCounter t f) :
    TileNoted t s (raiseTimes s f t n) :=
  each_inv (TileNoted t s) _ _ s (fun u _ hu => hu.trans (tileNoted_raise u t hf)) (.refl t s)

/-- A product raises its events, counts what it saw, and is counted in PROD_CNT (R85, R86). -/
theorem tileEvents_eq (s : State) (t : Nat) (r : TileRun) (tokenSat : Bool) (outSat : Nat) : ∃ v, TileNoted t s v ∧
    tileEvents s t r tokenSat outSat = v.bump64 R.PROD_CNT_LO_COUNT_LO R.PROD_CNT_HI_COUNT_HI t := by
  have hkey {f : Fld} (hf : 0x4100004 ≤ f.base ∧ f.base ≤ 0x4100010 ∧ f.per = 2048 ∧ f.n1 = 4096 ∧ f.s1 = 0x200 ∧ f.n2 = 1) :
      TileCounter t f := by
    obtain ⟨hlo, hhi, hper, hn1, hs1, hn2⟩ := hf
    simp only [TileCounter, R.TILE_EVT, R.SKIP_CNT, Fld.key, hper, hn1, hs1, hn2]
    omega
  unfold tileEvents
  extract_lets sat splits clips sums chalk skips
  have hsat : TileNoted t s sat := by
    unfold sat
    split
    · exact (tileNoted_raise s t (hkey (by decide))).trans (tileNoted_bumpBy _ t 1 (hkey (by decide)))
    · exact .refl t s
  have hsplits : TileNoted t s splits := hsat.trans (tileNoted_raiseTimes _ t _ (hkey (by decide)))
  have hclips : TileNoted t s clips := hsplits.trans (tileNoted_raiseTimes _ t _ (hkey (by decide)))
  have hsums : TileNoted t s sums := hclips.trans (tileNoted_raiseTimes _ t _ (hkey (by decide)))
  have hchalk : TileNoted t s chalk := hsums.trans (tileNoted_raiseTimes _ t _ (hkey (by decide)))
  have hskips : TileNoted t s skips :=
    (hchalk.trans (tileNoted_bumpBy _ t _ (hkey (by decide)))).trans (tileNoted_bumpBy _ t _ (hkey (by decide)))
  exact ⟨skips, hskips, rfl⟩

/-- A 64-bit counter of a tile advances by one in its low word. -/
theorem prodCnt_bump (s : State) (t : Nat) :
    (s.bump64 R.PROD_CNT_LO_COUNT_LO R.PROD_CNT_HI_COUNT_HI t).rd R.PROD_CNT_LO_COUNT_LO t =
      (s.rd R.PROD_CNT_LO_COUNT_LO t + 1) % 2 ^ 32 := by
  unfold State.bump64
  rw [rd_wr_ne, rd_wr_same _ _ _ _ (by decide)]
  · have hw : R.PROD_CNT_LO_COUNT_LO.w = 32 := rfl
    rw [hw]; omega
  · rw [PROD_CNT_LO_key, PROD_CNT_HI_key]; omega

theorem prodCnt_bump_word (s : State) (t : Nat) {k : Nat} (hlo : k ≠ R.PROD_CNT_LO_COUNT_LO.key t 0)
    (hhi : k ≠ R.PROD_CNT_HI_COUNT_HI.key t 0) :
    (s.bump64 R.PROD_CNT_LO_COUNT_LO R.PROD_CNT_HI_COUNT_HI t).word k = s.word k := by
  unfold State.bump64
  rw [word_wr_ne _ _ _ _ hhi, word_wr_ne _ _ _ _ hlo]

/-! ### A product of a single tile -/

theorem tile_putTile_same (s : State) (t : Nat) (v : TileRec) : (s.putTile t v).tile t = v := spGet_spSet_same ..

theorem noteBatch_eq (s : State) (t key : Nat) : ∃ b l, noteBatch s t key = s.putTile t { s.tile t with begun := b, straddle := l } := by
  unfold noteBatch
  dsimp only
  split
  · exact ⟨_, _, rfl⟩
  · exact ⟨_, _, rfl⟩

/-- A product is noted at its tile only: as one of its batch, and since the tile's last calibration slot. -/
theorem noteProduct_eq (s : State) (t key : Nat) (r : TileRun) : ∃ v v' : TileRec,
    noteProduct s t key r = (s.putTile t v).putTile t v' ∧ v'.cur = some key ∧ v'.sinceCal = (s.tile t).sinceCal + 1 ∧
      v'.settled2 = (s.tile t).settled2 := by
  obtain ⟨b, l, hnote⟩ := noteBatch_eq s t key
  unfold noteProduct
  dsimp only
  rw [hnote, tile_putTile_same]
  exact ⟨_, _, rfl, rfl, rfl, rfl⟩

/-- What one product of tile `t` for the batch `key` does: it draws a free value, raises events and counts, and is noted at the tile. -/
structure ProductNoted (t key : Nat) (s v : State) : Prop where
  frame : v = ((((s.setRegs v.regs).setWb v.wb).setBus v.bus).setTiles v.tiles).setFreeIx (s.freeIx + 1)
  words : ∀ k, k ≠ 0x4 → k < R.TILE_EVT.key t 0 ∨ R.PROD_CNT_HI_COUNT_HI.key t 0 < k → v.word k = s.word k
  counted : v.rd R.PROD_CNT_LO_COUNT_LO t = (s.rd R.PROD_CNT_LO_COUNT_LO t + 1) % 2 ^ 32
  cur : (v.tile t).cur = some key
  sinceCal : (v.tile t).sinceCal = (s.tile t).sinceCal + 1
  settled : (v.tile t).settled2 = (s.tile t).settled2

theorem singleProduct_noted (s : State) (t : Nat) (k : Token) (pay : List Int) :
    ProductNoted t k.batchKey s (singleProduct s t k pay).1 := by
  obtain ⟨r, sat, outSat, hproduct⟩ : ∃ r sat outSat, (singleProduct s t k pay).1 =
    noteProduct (tileEvents (s.setFreeIx (s.freeIx + 1)) t r sat outSat) t k.batchKey r := ⟨_, _, _, rfl⟩
  obtain ⟨u, hu, hevents⟩ := tileEvents_eq (s.setFreeIx (s.freeIx + 1)) t r sat outSat
  obtain ⟨v, v', hnote, hcur, hsince, hsettled⟩ :=
    noteProduct_eq (u.bump64 R.PROD_CNT_LO_COUNT_LO R.PROD_CNT_HI_COUNT_HI t) t k.batchKey r
  have htile : u.tile t = s.tile t := by rw [hu.frame]; rfl
  have hwords := hu.words
  have hput (w : State) (key : Nat) : ((w.putTile t v).putTile t v').word key = w.word key := rfl
  rw [hproduct, hevents, hnote]
  constructor
  · rw [hu.frame]; rfl
  · intro key h4 hkey
    rw [PROD_CNT_HI_key] at hkey
    rw [hput, prodCnt_bump_word, hwords key h4 (by rw [SKIP_CNT_key]; omega)]
    · rfl
    · rw [PROD_CNT_LO_key]; omega
    · rw [PROD_CNT_HI_key]; omega
  · rw [State.rd, State.rd2, hput]
    refine (prodCnt_bump u t).trans ?_
    rw [State.rd, State.rd2, hwords _ (by rw [PROD_CNT_LO_key, TILE_EVT_key]; omega) (by rw [PROD_CNT_LO_key, SKIP_CNT_key]; omega)]
    rfl
  · rw [tile_putTile_same, hcur]
  · rw [tile_putTile_same, hsince, ← htile]; rfl
  · rw [tile_putTile_same, hsettled, ← htile]; rfl

/-! ### The product of a token -/

theorem passed_key_ne {k : Nat} (hk : 0x20300 ≤ k) (j : Nat) : k ≠ R.JOB_PREEMPT_CNT_COUNT.key j 0 := by
  simp only [R.JOB_PREEMPT_CNT_COUNT, Fld.key]; omega

theorem sent_key_ne {k : Nat} (hk : k < 0x4000000 ∨ 0x100000 ≤ k % 0x4000000) (c o : Nat) : k ≠ R.RTR_XFER_CNT_COUNT.key c o := by
  simp only [R.RTR_XFER_CNT_COUNT, Fld.key, halfStep]; omega

/-- A unit that takes a token moves no placement. -/
theorem takeNext_placedAt {s u : State} {c n : Nat} {ok : Held → Bool} {h : Held} (ht : takeNext s c n ok = (u, some h)) (t : Nat)
    (k : Token) : u.placedAt t k = s.placedAt t k := by
  have hreg {f : Fld} (hf : 0x20300 ≤ f.base) (j : Nat) : u.rd f j = s.rd f j := by
    have := key_ge_base f j 0
    rw [State.rd, State.rd2, takeNext_word (passed_key_ne (by omega)) ht]
    rfl
  have hgen (j : Nat) : u.rd R.WSET_JOB_GEN j = s.rd R.WSET_JOB_GEN j := hreg (by decide) j
  have hstage (j : Nat) : u.rd R.WSET_JOB_STAGE j = s.rd R.WSET_JOB_STAGE j := hreg (by decide) j
  obtain ⟨r, g, rfl⟩ := takeNext_some ht
  simp only [State.placedAt, State.tileFor, State.placeFor, hgen, hstage]
  rfl

theorem takeNext_judgedAlike {s u : State} {c n : Nat} {ok : Held → Bool} {h : Held} (ht : takeNext s c n ok = (u, some h)) (t : Nat) :
    JudgedAlike t s u := by
  have hword {k : Nat} (hk : JudgedKey t k) : u.word k = s.word k :=
    takeNext_word (passed_key_ne (by have := hk.eq; omega)) ht
  obtain ⟨r, g, rfl⟩ := takeNext_some ht
  exact ⟨rfl, fun k hk => hword hk, fun _ => rfl⟩

theorem ProductNoted.judgedAlike {t key : Nat} {s v : State} (h : ProductNoted t key s v) : JudgedAlike t s v where
  judged := by
    rw [State.judged, h.settled, h.frame]
    rfl
  words k hk := by
    have hk := hk.eq
    refine h.words k (by omega) ?_
    rw [PROD_CNT_HI_key, TILE_EVT_key]
    omega
  placed j := by rw [h.frame]; rfl

/-- A product's output only joins the tokens. -/
theorem tileOutput_eq (s : State) (t : Nat) (k : Token) (outs : List TileOut) : ∃ F, tileOutput s t k outs = s.setFabric F := by
  unfold tileOutput
  split
  · unfold emitProducts
    dsimp only
    split
    · exact ⟨s.fabric, rfl⟩
    · split
      · refine each_inv (fun v => ∃ F, v = s.setFabric F) _ _ s (fun v e hv => ?_) ⟨s.fabric, rfl⟩
        obtain ⟨F, rfl⟩ := hv
        exact ⟨_, rfl⟩
      · exact ⟨_, rfl⟩
  · exact ⟨s.fabric, rfl⟩

/-- A token that is not for the place of a chiplet brings one product. -/
theorem vectorsOf_single {s : State} {t : Nat} {k : Token} (h : ∀ p, s.placedAt t k = some p → s.isSubst k.job p = false) :
    s.vectorsOf t k = [k.payload] := by
  unfold State.vectorsOf
  cases hp : s.placedAt t k with
  | none => rfl
  | some p => simp [h p hp]

theorem tokenProduct_single {s : State} {t : Nat} {k : Token} (h : s.vectorsOf t k = [k.payload]) :
    ∃ v F, ProductNoted t k.batchKey s v ∧ tokenProduct s t k false = v.setFabric F := by
  have hrun : (runProducts s t k false [k.payload]).1 = (singleProduct s t k k.payload).1 := rfl
  obtain ⟨F, hout⟩ := tileOutput_eq (runProducts s t k false [k.payload]).1 t k (runProducts s t k false [k.payload]).2
  refine ⟨_, F, singleProduct_noted s t k k.payload, ?_⟩
  rw [tokenProduct, h, ← hrun]
  exact hout

/-- The output of a product leaves on the pitch: the tile keeps its record and its count, no free value is drawn, and the tile is judged
as before. -/
theorem outputLeaves (v : State) (F : List Held) (t : Nat) :
    JudgedAlike t v (pitchEnter (v.setFabric F)) ∧
    (pitchEnter (v.setFabric F)).rd R.PROD_CNT_LO_COUNT_LO t = v.rd R.PROD_CNT_LO_COUNT_LO t ∧
    (pitchEnter (v.setFabric F)).tile t = v.tile t ∧ (pitchEnter (v.setFabric F)).freeIx = v.freeIx := by
  have hflow := pitchFlow_pitchEnter (v.setFabric F)
  have hword {k : Nat} (hk : JudgedKey t k ∨ k = R.PROD_CNT_LO_COUNT_LO.key t 0) : (pitchEnter (v.setFabric F)).word k = v.word k := by
    have hk : 0x20300 ≤ k ∧ (k < 0x4000000 ∨ 0x100000 ≤ k % 0x4000000) := by
      rw [PROD_CNT_LO_key, TILE_EVT_key] at hk
      have := hk.imp_left JudgedKey.eq
      omega
    exact pitchEnter_word (passed_key_ne hk.1) (sent_key_ne hk.2) (v.setFabric F)
  refine ⟨⟨?_, fun k hk => hword (.inl hk), fun j => ?_⟩, congrArg (fieldOf _ _) (hword (.inr rfl)), ?_, ?_⟩
  · rw [hflow.frame]; rfl
  · rw [hflow.frame]; rfl
  · rw [hflow.frame]; rfl
  · rw [hflow.frame]; rfl

/-- A tile in the midst of a batch, it and its neighbour no slices, turns to it without a change. -/
theorem enterUnit_current {s : State} {t key : Nat} (hcur : (s.tile t).cur = some key) (he : s.sliceNear (t - t % 2) key = false)
    (ho : s.sliceNear (t - t % 2 + 1) key = false) : enterUnit s t key = s := by
  simp [enterUnit, he, ho, enterBatch, hcur]

section TakesProducts
variable {s u : State} {t : Fin 4096} {h : Held} (hrests : s.Rests t) (hbad : s.pairBad t = false) (hpair : s.pairFormed t = false)

include hrests hbad hpair

/-- A tile that may not run products, or has no token for one, computes nothing. -/
theorem tileProduct_idle (hidle : s.tileRuns t = false ∨ ∀ x ∈ s.fabric, x.place ≠ .unit (t.val / 16) (t.val % 16)) :
    Does (.tileProduct t) s fun v => v = s := by
  have hproduct : tileProduct s t = s := by
    obtain hstopped | hnone := hidle
    · simp [tileProduct, hbad, hpair, hstopped]
    · have hnil : s.fabric.filter (s.tileTakes t false) = [] :=
        List.filter_eq_nil_iff.2 fun x hx => by simp [State.tileTakes, hnone x hx]
      have htake : takeNext s (t.val / 16) (t.val % 16) (s.tileTakes t false) = (s, none) := by simp [takeNext, hnil]
      simp [tileProduct, hbad, hpair, htake]
  exact ⟨s, tileProduct_judged hrests hpair hproduct ⟨rfl, fun _ _ => rfl, fun _ => rfl⟩, rfl⟩

variable (hruns : s.tileRuns t = true) (ht : takeNext s (t.val / 16) (t.val % 16) (s.tileTakes t false) = (u, some h))
include hruns ht

/-- A token of another epoch is counted and does no more (R96). -/
theorem tileProduct_stale (hepoch : h.tok.epoch ≠ (s.job h.tok.job).epoch) :
    Does (.tileProduct t) s fun v => v = u.bump R.EPOCH_DROP_CNT_COUNT (t.val / 16) := by
  have hproduct : tileProduct s t = u.bump R.EPOCH_DROP_CNT_COUNT (t.val / 16) := by
    simp [tileProduct, hbad, hpair, hruns, ht, hepoch]
  have hdrop : JudgedAlike t u (u.bump R.EPOCH_DROP_CNT_COUNT (t.val / 16)) := by
    refine ⟨rfl, fun k hk => word_wr_ne u _ _ _ ?_, fun _ => rfl⟩
    have := hk.eq
    simp only [R.EPOCH_DROP_CNT_COUNT, Fld.key, halfStep]
    omega
  exact ⟨_, tileProduct_judged hrests hpair hproduct ((takeNext_judgedAlike ht t).trans hdrop), rfl⟩

/-- A token of its job's epoch, of the batch whose settings are in force, brings one product (R67, R74). -/
theorem tileProduct_counts (hepoch : h.tok.epoch = (s.job h.tok.job).epoch) (hcur : (s.tile t).cur = some h.tok.batchKey)
    (he : s.sliceNear (t.val - t.val % 2) h.tok.batchKey = false) (ho : s.sliceNear (t.val - t.val % 2 + 1) h.tok.batchKey = false)
    (hsub : ∀ p, s.placedAt t h.tok = some p → s.isSubst h.tok.job p = false) :
    Does (.tileProduct t) s fun v =>
      v.rd R.PROD_CNT_LO_COUNT_LO t = (s.rd R.PROD_CNT_LO_COUNT_LO t + 1) % 2 ^ 32 ∧ (v.tile t).cur = some h.tok.batchKey ∧
      (v.tile t).sinceCal = (s.tile t).sinceCal + 1 ∧ v.freeIx = s.freeIx + 1 := by
  have hproduct : tileProduct s t = pitchEnter (tokenProduct u t h.tok false) := by
    simp [tileProduct, hbad, hpair, hruns, ht, hepoch, enterUnit_current hcur he ho]
  have htaken := takeNext_judgedAlike ht t
  have hsub' : ∀ p, u.placedAt t h.tok = some p → u.isSubst h.tok.job p = false := by
    rw [takeNext_placedAt ht]
    obtain ⟨r, g, rfl⟩ := takeNext_some ht
    exact hsub
  obtain ⟨v, F, hnoted, htoken⟩ := tokenProduct_single (vectorsOf_single hsub')
  rw [htoken] at hproduct
  obtain ⟨hleft, hcount, htile, hfree⟩ := outputLeaves v F t
  have htaken_count : u.rd R.PROD_CNT_LO_COUNT_LO t = s.rd R.PROD_CNT_LO_COUNT_LO t := by
    rw [State.rd, State.rd2, takeNext_word (passed_key_ne (by rw [PROD_CNT_LO_key, TILE_EVT_key]; omega)) ht]
    rfl
  refine ⟨_, tileProduct_judged hrests hpair hproduct ((htaken.trans hnoted.judgedAlike).trans hleft), ?_, ?_, ?_, ?_⟩
  · rw [hcount, hnoted.counted, htaken_count]
  · rw [htile, hnoted.cur]
  · rw [htile, hnoted.sinceCal]
    obtain ⟨r, g, rfl⟩ := takeNext_some ht
    rfl
  · rw [hfree, hnoted.frame]
    obtain ⟨r, g, rfl⟩ := takeNext_some ht
    rfl

end TakesProducts

/-- Settles O31: the tile takes its token, computes and is judged as it rests. -/
theorem tileProducts : Obligations.TileProducts := by
  intro s t hdue hhw hest hsvc
  have hrests : s.Rests t := ⟨hdue, hhw, hest, hsvc⟩
  exact ⟨fun hbad hpair => ⟨
      fun hruns u h ht => ⟨tileProduct_counts hrests hbad hpair hruns ht, tileProduct_stale hrests hbad hpair hruns ht⟩,
    fun hruns => tileProduct_idle hrests hbad hpair (.inl hruns), fun hnone => tileProduct_idle hrests hbad hpair (.inr hnone)⟩,
    tileProduct_pairBad hrests⟩

end Sys2Proof.Machine
end

section
/-! PROOF. The family of 04_clusters_and_pitch.md: tokens granted, discarded and received on the pitch (O29). -/

namespace Sys2Proof.Machine

/-! ### Grants on the pitch -/

/-- No token waits outside the pitch and every body is drawn up behind its header. -/
def State.Quiet (s : State) : Prop := ∀ x ∈ s.fabric, x.outside = false ∧ x.trail = []

theorem withField_fieldOf (lo w : Nat) (x : Word) : withField lo w x (fieldOf lo w x) = x := by
  refine BitVec.eq_of_getLsbD_eq fun i hi => ?_
  rw [withField_getLsbD _ _ _ _ _ hi, fieldOf_testBit]
  split
  · rename_i hin
    rw [decide_eq_true (by omega : i - lo < w), Bool.true_and, Nat.add_sub_cancel' hin.1]
  · rfl

/-- Writing a field as it reads leaves every register word. -/
theorem word_wr2_rd2 (s : State) (f : Fld) (i j k : Nat) : (s.wr2 f i j (s.rd2 f i j)).word k = s.word k := by
  by_cases hk : k = f.key i j
  · rw [hk, State.wr2, word_setWord_same, State.rd2, withField_fieldOf]
  · exact word_setWord_ne s _ hk

theorem requests_singleton {s : State} {c o i : Nat} {h : Held} (hreq : s.requests c o = [(i, h)]) :
    i < 15 ∧ s.front (.router c (i / 3) (i % 3)) = some h ∧ h.stale = false ∧ outPort c h.tok = o := by
  have hmem : (i, h) ∈ s.requests c o := hreq ▸ List.mem_singleton_self _
  obtain ⟨k, hk, hsome⟩ := List.mem_filterMap.1 hmem
  split at hsome
  · cases hsome
  · rename_i x hfront
    split at hsome
    · rename_i hcond
      obtain ⟨rfl, rfl⟩ : k = i ∧ x = h := by simpa using hsome
      simp only [Bool.and_eq_true, Bool.not_eq_true', beq_iff_eq] at hcond
      exact ⟨List.mem_range.1 hk, hfront, hcond.1, hcond.2⟩
    · cases hsome

theorem front_some {s : State} {p : Place} {h : Held} (hf : s.front p = some h) : h ∈ s.fabric ∧ h.place = p := by
  unfold State.front at hf
  split at hf
  · cases hf
  · exact ⟨List.mem_of_find?_eq_some hf, by simpa using List.find?_some hf⟩

theorem State.Quiet.portFree {s : State} (hq : s.Quiet) (c o : Nat) : s.portHeld c o = false := by
  refine List.any_eq_false.2 fun x hx => ?_
  simp [(hq x hx).2]

/-- The only buffer that asks is the next in round-robin order. -/
theorem nextBuffer_singleton (rr : Nat) {i : Nat} (hi : i < 15) :
    ((List.range 15).map fun d => (rr + 1 + d) % 15).find? [i].contains = some i := by
  cases h : ((List.range 15).map fun d => (rr + 1 + d) % 15).find? [i].contains with
  | some x =>
    have hx := List.find?_some h
    simp only [List.contains_eq_mem, List.mem_singleton, decide_eq_true_eq] at hx
    rw [hx]
  | none =>
    have hnone := List.find?_eq_none.1 h i (List.mem_map.2 ⟨(i + 14 + 14 * rr) % 15, List.mem_range.2 (by omega), by omega⟩)
    simp at hnone

theorem nextBuffer_nil (rr : Nat) : ((List.range 15).map fun d => (rr + 1 + d) % 15).find? [].contains = none := roundRobin_nil 15 rr

/-- A port that one header requests, free and with room ahead, is granted to it. -/
theorem routerGrant_granted {s : State} {c o i : Nat} {h : Held} (hq : s.Quiet) (hreq : s.requests c o = [(i, h)])
    (hroom : s.roomAt (nextPlace c h.tok) h.tok = true) : routerGrant s c o =
      pitchEnter (pitchMove (countWaits (s.setGrantRr (spSet grantFirst s.grantRr (16 + 5 * c + o) i)) c o []) h (nextPlace c h.tok)) := by
  simp only [routerGrant, hreq, hq.portFree, hroom, Bool.false_eq_true, if_false, if_true, List.filter_cons, List.filter_nil,
    List.foldl_cons, List.foldl_nil, Nat.zero_max, List.map_cons, List.map_nil, beq_self_eq_true, bne_self_eq_false,
    nextBuffer_singleton _ (requests_singleton hreq).1, List.find?_cons, each_nil]

/-- One whose next place has no room waits. -/
theorem routerGrant_waits {s : State} {c o i : Nat} {h : Held} (hreq : s.requests c o = [(i, h)])
    (hroom : s.roomAt (nextPlace c h.tok) h.tok = false) : routerGrant s c o = countWaits s c o [(i, h)] := by
  simp only [routerGrant, hreq, hroom, Bool.false_eq_true, if_false, List.filter_cons, List.filter_nil, ite_self, List.map_nil,
    nextBuffer_nil]

theorem routerGrant_unrequested {s : State} {c o : Nat} (hreq : s.requests c o = []) : routerGrant s c o = countWaits s c o [] := by
  simp only [routerGrant, hreq, List.filter_nil, ite_self, List.map_nil, nextBuffer_nil]

/-- What leaves a router stays on the pitch. -/
theorem nextPlace_inside (c : Nat) (t : Token) : (∀ h, nextPlace c t ≠ .hubLink h) ∧ ∀ a b, nextPlace c t ≠ .entry a b := by
  unfold nextPlace
  dsimp only
  constructor <;> intros <;> split
  · split
    · simp
    · split <;> simp
  · split <;> simp
  · split
    · simp
    · split <;> simp
  · split <;> simp


/-- A held token once its header has moved on to a place with room for all of it. -/
def State.movedTo (s : State) (h : Held) (p : Place) : Held :=
  ⟨p, h.tok, p.marks && decide (h.tok.epoch ≠ (s.job h.tok.job).epoch), false, s.now, h.tok.transfers, []⟩

/-- A held token whose header alone has moved on, its body behind it. -/
def State.drawnTo (s : State) (h : Held) (p : Place) : Held :=
  { s.movedTo h p with here := 0, trail := [(h.place, h.here)] }

/-- Beside a token that moves on, its next place keeps the room it had. -/
theorem roomBeside_drawnTo {s : State} {h : Held} (hmem : h ∈ s.fabric) (p : Place) :
    (s.setFabric (s.fabric.erase h ++ [s.drawnTo h p])).roomBeside (s.drawnTo h p) p = s.roomBeside h p := by
  have hold : s.transfersAt p = h.partAt p + ((s.fabric.erase h).map fun x => x.partAt p).sum :=
    (List.sum_map_erase (fun x : Held => x.partAt p) hmem).symm
  have hnew : (s.setFabric (s.fabric.erase h ++ [s.drawnTo h p])).transfersAt p =
      ((s.fabric.erase h).map fun x => x.partAt p).sum + (s.drawnTo h p).partAt p := by
    simp [State.transfersAt]
  unfold State.roomBeside
  split
  · rfl
  · rw [hold, hnew, Nat.add_sub_cancel, Nat.add_sub_cancel_left]

theorem countSent_setFabric (s : State) (F : List Held) (t : Token) (p : Place) (n : Nat) :
    countSent (s.setFabric F) t p n = (countSent s t p n).setFabric F := by cases p <;> rfl

theorem countSent_fabric (s : State) (t : Token) (p : Place) (n : Nat) : (countSent s t p n).fabric = s.fabric := by cases p <;> rfl

theorem flowOne_drawnTo {s : State} {h : Held} {p : Place} (hq : s.Quiet) (hmem : h ∈ s.fabric) (hhere : h.here = h.tok.transfers)
    (hfit : h.tok.transfers ≤ s.roomBeside h p) :
    flowOne (s.setFabric (s.fabric.erase h ++ [s.drawnTo h p])) (s.drawnTo h p) =
      (countSent s h.tok h.place h.tok.transfers).setFabric (s.fabric.erase h ++ [s.movedTo h p]) := by
  have hpos : h.tok.transfers ≠ 0 := Nat.succ_ne_zero _
  have htok : (s.drawnTo h p).tok = h.tok := rfl
  have hroom : min h.tok.transfers ((s.setFabric (s.fabric.erase h ++ [s.drawnTo h p])).roomBeside (s.drawnTo h p) p) =
      h.tok.transfers := by
    rw [roomBeside_drawnTo hmem, min_eq_left hfit]
  have hspread : spread (s.setFabric (s.fabric.erase h ++ [s.drawnTo h p])) (s.drawnTo h p) [p, h.place] h.tok.transfers =
      [(p, h.tok.transfers)] := by
    simp only [spread, hpos, if_false, hroom, Nat.sub_self, if_true]
  have hothers : ∀ x ∈ s.fabric.erase h, x ≠ s.drawnTo h p := by
    intro x hx heq
    have htrail := (hq x (List.mem_of_mem_erase hx)).2
    rw [heq] at htrail
    cases htrail
  have hmap (v : Held) : ((s.fabric.erase h ++ [s.drawnTo h p]).map fun x => if x == s.drawnTo h p then v else x) =
      s.fabric.erase h ++ [v] := by
    rw [List.map_append, List.map_cons, List.map_nil, beq_self_eq_true, if_pos rfl]
    congr 1
    exact (List.map_congr_left fun x hx => if_neg (by simpa using hothers x hx)).trans (List.map_id _)
  have hplaces : (s.drawnTo h p).place :: (s.drawnTo h p).trail.map (·.1) = [p, h.place] := rfl
  rw [flowOne, hplaces, htok, hspread]
  have hbody : bodyFrom h.place [(h.place, h.here)] - bodyFrom h.place [] = h.tok.transfers := by simp [bodyFrom, hhere]
  have htrail : (s.drawnTo h p).trail = [(h.place, h.here)] := rfl
  simp only [htrail, each_cons, each_nil, hbody, countSent_setFabric, State.setFabric_frame, hmap]
  rfl

/-- A header moves on with all its token, where that stood together and has room ahead (R99). -/
theorem pitchMove_whole {s : State} {h : Held} {p : Place} (hq : s.Quiet) (hmem : h ∈ s.fabric) (hhere : h.here = h.tok.transfers)
    (hfit : h.tok.transfers ≤ s.roomBeside h p) :
    pitchMove s h p = (countSent s h.tok h.place h.tok.transfers).setFabric (s.fabric.erase h ++ [s.movedTo h p]) := by
  have hbody : (s.fabric.erase h ++ [s.drawnTo h p]).filter (fun x => !x.trail.isEmpty) = [s.drawnTo h p] := by
    rw [List.filter_append, List.filter_eq_nil_iff.2 fun x hx => by simp [(hq x (List.mem_of_mem_erase hx)).2]]
    rfl
  have hdrawn : pitchMove s h p = settle (s.setFabric (s.fabric.erase h ++ [s.drawnTo h p])) := by
    rw [State.drawnTo, State.movedTo, ← (hq h hmem).2]
    rfl
  rw [hdrawn, ← flowOne_drawnTo hq hmem hhere hfit, settle]
  simp only [State.setFabric_frame, hbody, each_cons, each_nil]


theorem State.Quiet.erase {s : State} (hq : s.Quiet) (h : Held) : ∀ x ∈ s.fabric.erase h, x.outside = false ∧ x.trail = [] :=
  fun x hx => hq x (List.mem_of_mem_erase hx)

/-- A token taken away, and one that stands with all its transfers inside the pitch put down, leave the pitch quiet. -/
theorem State.Quiet.erase_append {s : State} (hq : s.Quiet) (h : Held) {x : Held} (hout : x.outside = false) (htrail : x.trail = []) :
    ∀ y ∈ s.fabric.erase h ++ [x], y.outside = false ∧ y.trail = [] := by
  intro y hy
  obtain hy | hy := List.mem_append.1 hy
  · exact hq.erase h y hy
  · rw [List.mem_singleton.1 hy]
    exact ⟨hout, htrail⟩

theorem countWaits_nil_word (s : State) (c o k : Nat) : (countWaits s c o []).word k = s.word k := word_wr2_rd2 ..

theorem movedTo_nextPlace_inside (s : State) (h : Held) (c : Nat) : (s.movedTo h (nextPlace c h.tok)).outside = false := by
  obtain ⟨hhub, hentry⟩ := nextPlace_inside c h.tok
  unfold Held.outside
  split
  · exact absurd ‹_› (hhub _)
  · exact absurd ‹_› (hentry _ _)
  all_goals rfl

/-- A grant moves the whole token, sets the arbiter and counts the transfers (R99, R100, R122). -/
theorem routerGrant_moves {s : State} {c o i : Nat} {h : Held} (hq : s.Quiet) (hreq : s.requests c o = [(i, h)])
    (hroom : s.roomAt (nextPlace c h.tok) h.tok = true) (hhere : h.here = h.tok.transfers)
    (hfit : h.tok.transfers ≤ s.roomBeside h (nextPlace c h.tok)) : ∃ u : State, (∀ k, u.word k = s.word k) ∧
      u.grantRr = spSet grantFirst s.grantRr (16 + 5 * c + o) i ∧
      routerGrant s c o = (u.wr2 R.RTR_XFER_CNT_COUNT c o (u.rd2 R.RTR_XFER_CNT_COUNT c o + h.tok.transfers)).setFabric
        (s.fabric.erase h ++ [s.movedTo h (nextPlace c h.tok)]) := by
  obtain ⟨-, hfront, -, hport⟩ := requests_singleton hreq
  obtain ⟨hmem, hplace⟩ := front_some hfront
  have hmoves := pitchMove_whole (s := countWaits (s.setGrantRr (spSet grantFirst s.grantRr (16 + 5 * c + o) i)) c o []) hq hmem hhere hfit
  refine ⟨_, countWaits_nil_word (s.setGrantRr (spSet grantFirst s.grantRr (16 + 5 * c + o) i)) c o, rfl, ?_⟩
  rw [routerGrant_granted hq hreq hroom, hmoves, hplace, countSent, hport]
  exact pitchEnter_quiet (hq.erase_append h (movedTo_nextPlace_inside s h c) rfl)

/-- A header left waiting is counted once (R122). -/
theorem countWaits_single (s : State) (c o i : Nat) (h : Held) : (countWaits s c o [(i, h)]).grantRr = s.grantRr ∧
    (countWaits s c o [(i, h)]).fabric =
      (if h.counted then s.fabric else s.fabric.map fun x => if x == h then { x with counted := true } else x) ∧
    (countWaits s c o [(i, h)]).rd2 R.RTR_WAIT_CNT_COUNT c o =
      (s.rd2 R.RTR_WAIT_CNT_COUNT c o + (!h.counted).toNat) % 2 ^ R.RTR_WAIT_CNT_COUNT.w := by
  cases hc : h.counted with
  | true =>
    have heq : countWaits s c o [(i, h)] = s.wr2 R.RTR_WAIT_CNT_COUNT c o (s.rd2 R.RTR_WAIT_CNT_COUNT c o + 0) := by
      simp [countWaits, hc]
    rw [heq]
    exact ⟨rfl, rfl, rd2_wr2_same _ _ _ _ _ (by decide)⟩
  | false =>
    have heq : countWaits s c o [(i, h)] = markCounted (s.wr2 R.RTR_WAIT_CNT_COUNT c o (s.rd2 R.RTR_WAIT_CNT_COUNT c o + 1)) h := by
      simp [countWaits, hc]
    rw [heq]
    exact ⟨rfl, rfl, rd2_wr2_same s R.RTR_WAIT_CNT_COUNT c o _ (by decide)⟩

/-! ### Tokens discarded and received -/

theorem counted_bump (s : State) {f : Fld} (i : Nat) (h : f.lo + f.w ≤ 32) : Counted s (s.bump f i) f i := rd_wr_same s f i _ h

/-- A stale token at the front of its buffer is discarded, and counted at the buffer's cluster (R96). -/
theorem staleTokenDiscard_drops {s : State} {p : Place} {h : Held} {c : Nat} (hq : s.Quiet) (hfront : s.front p = some h)
    (hstale : h.stale = true) (hc : p.cluster = some c) : Does (.staleTokenDiscard p) s fun t =>
      t.fabric = s.fabric.erase h ∧ Counted s t R.EPOCH_DROP_CNT_COUNT c := by
  have hdrop : dropStale s h = (pitchTake s h).bump R.EPOCH_DROP_CNT_COUNT c := by
    rw [dropStale, (front_some hfront).2, hc]
  refine ⟨(pitchTake s h).bump R.EPOCH_DROP_CNT_COUNT c, ?_, rfl, counted_bump (pitchTake s h) c (by decide)⟩
  simp only [exec, execStaleTokenDiscard, hfront, hstale, if_true, hdrop, pitchEnter_quiet (s := (pitchTake s h).bump _ c) (hq.erase h)]

theorem staleTokenDiscard_keeps {s : State} {p : Place} {h : Held} (hfront : s.front p = some h) (hstale : h.stale = false) :
    Does (.staleTokenDiscard p) s fun t => t = s :=
  ⟨s, by simp only [exec, execStaleTokenDiscard, hfront, hstale, Bool.false_eq_true, if_false], rfl⟩

/-- A token whose fields are all within the ranges of R94. -/
def Token.good (t : Token) : Prop := t.kind < 8 ∧ t.dstUnit < 20 ∧ t.stream < 48 ∧ t.len ≤ 128

theorem Token.good.not_bad {t : Token} (h : t.good) : (8 ≤ t.kind || 20 ≤ t.dstUnit || 47 < t.stream || 128 < t.len) = false := by
  obtain ⟨hkind, hunit, hstream, hlen⟩ := h
  simp only [Bool.or_eq_false_iff, decide_eq_false_iff_not]
  omega

/-- A good token of another epoch is discarded and counted where it is received (R96). -/
theorem receive_stale {s : State} {c u : Nat} {h : Held} (hgood : h.tok.good)
    (hstale : h.stale = true ∨ h.tok.epoch ≠ (s.job h.tok.job).epoch) :
    receive s c u h = (pitchTake s h).bump R.EPOCH_DROP_CNT_COUNT c := by
  have hdrop : (h.stale || h.tok.epoch != (s.job h.tok.job).epoch) = true := by simpa using hstale
  simp only [receive, hgood.not_bad, hdrop, Bool.false_eq_true, if_false, if_true]

/-- A token of its job's epoch is put down without a mark. -/
theorem pitchPut_current {s : State} {t : Token} (p : Place) (hepoch : t.epoch = (s.job t.job).epoch) :
    pitchPut s p t = s.setFabric (s.fabric ++ [⟨p, t, false, false, s.now, t.transfers, []⟩]) := by
  simp [pitchPut, hepoch]

/-- A good token of its job's epoch and of a generation with routes waits at a unit that is no tile (R94). -/
theorem receive_current {s : State} {c u : Nat} {h : Held} (hgood : h.tok.good) (hu : 16 ≤ u) (hstale : h.stale = false)
    (hepoch : h.tok.epoch = (s.job h.tok.job).epoch) (hgen : h.tok.gen ∈ s.liveGens h.tok.job) (hact : u = 16 → h.tok.kind ≠ 1) :
    receive s c u h = s.setFabric (s.fabric.erase h ++ [⟨.unit c u, h.tok, false, false, s.now, h.tok.transfers, []⟩]) := by
  have hgens : (s.liveGens h.tok.job).contains h.tok.gen = true := List.contains_iff_mem.2 hgen
  have htile : ¬ u < 16 := by omega
  have hvector : (u == 16 && h.tok.kind == 1) = false := by
    rw [Bool.and_eq_false_imp]
    exact fun h16 => beq_eq_false_iff_ne.2 (hact (beq_iff_eq.1 h16))
  have hplace : s.unitPlace c u = .unit c u := by simp [State.unitPlace, htile]
  have hput : receive s c u h = pitchPut (pitchTake s h) (.unit c u) h.tok := by
    rw [← hplace]
    simp only [receive, hgood.not_bad, hstale, hepoch, bne_self_eq_false, Bool.or_self, hgens, Bool.not_true, htile, decide_false,
      Bool.false_or, hvector, Bool.false_and, Bool.false_eq_true, if_false]
  rw [hput, pitchPut_current (s := pitchTake s h) _ hepoch]
  rfl

theorem tokenReceipt_arrived {s : State} {c u : Nat} {h : Held} (hfront : s.front (.arrived c u) = some h) :
    tokenReceipt s (.arrived c u) .none = pitchEnter (receive s c u h) := by
  simp only [tokenReceipt, hfront, linkCheck, if_true]

/-- Settles O29: a grant moves the one header and all its token, since nothing else on the pitch moves by itself. -/
theorem tokensMoveOnThePitch : Obligations.TokensMoveOnThePitch := by
  intro s hq
  replace hq : s.Quiet := hq
  refine ⟨fun c o i h hreq => ⟨fun hroom hhere hfit => ?_, fun hroom => ?_⟩,
    fun c o hreq => ?_, fun p h c hfront hstale hc _ => staleTokenDiscard_drops hq hfront hstale hc,
    fun p h hfront hstale => staleTokenDiscard_keeps hfront hstale,
    fun c u h hfront hu _ hkind hunit hstream hlen => ?_, fun p e hfront => ⟨s, ?_, rfl⟩⟩
  · obtain ⟨u, hwords, harb, hgrant⟩ := routerGrant_moves hq hreq hroom hhere hfit
    refine ⟨_, congrArg Host.Outcome.next hgrant, rfl, ?_, ?_⟩
    · exact (congrArg (spGet grantFirst · _) harb).trans (spGet_spSet_same ..)
    · have hread : u.rd2 R.RTR_XFER_CNT_COUNT c o = s.rd2 R.RTR_XFER_CNT_COUNT c o := congrArg (fieldOf _ _) (hwords _)
      rw [← hread]
      exact rd2_wr2_same u R.RTR_XFER_CNT_COUNT c o _ (by decide)
  · exact ⟨_, congrArg Host.Outcome.next (routerGrant_waits hreq hroom), countWaits_single ..⟩
  · exact ⟨_, congrArg Host.Outcome.next (routerGrant_unrequested hreq), rfl, countWaits_nil_word s c o⟩
  · have hgood : h.tok.good := ⟨hkind, hunit, hstream, hlen⟩
    refine ⟨fun hstale hepoch hgen hact => ⟨_, congrArg Host.Outcome.next (tokenReceipt_arrived hfront), ?_⟩,
      fun hstale => ⟨_, congrArg Host.Outcome.next (tokenReceipt_arrived hfront), ?_⟩⟩
    · rw [receive_current hgood hu hstale hepoch hgen hact, pitchEnter_quiet (hq.erase_append h rfl rfl)]
      rfl
    · rw [receive_stale hgood hstale, pitchEnter_quiet (s := (pitchTake s h).bump _ c) (hq.erase h)]
      exact ⟨rfl, counted_bump (pitchTake s h) c (by decide)⟩
  · simp only [exec, execTokenReceipt, tokenReceipt, hfront]

end Sys2Proof.Machine
end

section
/-! PROOF. The family of 04_clusters_and_pitch.md: the reduction slots (O33). -/

namespace Sys2Proof.Machine

/-! ### The frame of a fault -/

/-- State `t` is state `s` but for what the detection of faults writes: register words, jobs, bindings, batches, the missing runs and the
record channel. -/
structure FaultFrame (s t : State) : Prop where
  frame : t = { s with
    regs := t.regs, jobs := t.jobs, binds := t.binds, batches := t.batches, misses := t.misses,
    recQ := t.recQ, recSeq := t.recSeq, chans := t.chans, tx := t.tx }

theorem FaultFrame.refl (s : State) : FaultFrame s s := ⟨rfl⟩

theorem FaultFrame.trans {s t u : State} (h : FaultFrame s t) (h' : FaultFrame t u) : FaultFrame s u where
  frame := by rw [h'.frame, h.frame]

theorem FaultFrame.each {α : Type} {l : List α} {f : State → α → State} (hf : ∀ s a, FaultFrame s (f s a)) (s : State) :
    FaultFrame s (s.each l f) :=
  each_inv (FaultFrame s) l f s (fun t a ht => ht.trans (hf t a)) (.refl s)

theorem FaultFrame.ite {c : Prop} [Decidable c] {s a b : State} (ha : FaultFrame s a) (hb : FaultFrame s b) :
    FaultFrame s (if c then a else b) := by
  split <;> assumption

theorem FaultFrame.slots {s t : State} (h : FaultFrame s t) : t.slots = s.slots := by rw [h.frame]

theorem faultFrame_wr (s : State) (f : Fld) (i v : Nat) : FaultFrame s (s.wr f i v) := ⟨rfl⟩

theorem faultFrame_putJob (s : State) (j : Nat) (v : Job) : FaultFrame s (s.putJob j v) := ⟨rfl⟩

theorem faultFrame_putBind (s : State) (j st : Nat) (v : Bind) : FaultFrame s (s.putBind j st v) := ⟨rfl⟩

theorem faultFrame_setBatches (s : State) (l : List Batch) : FaultFrame s (s.setBatches l) := ⟨rfl⟩

theorem faultFrame_openFrame (s : State) (t vc : Nat) : FaultFrame s (openFrame s t vc) := by
  unfold openFrame
  exact .ite (.refl s) ⟨rfl⟩

theorem faultFrame_emitMiss (s : State) (r : MissRun) (k n : Nat) (first last : Stamp) : FaultFrame s (emitMiss s r k n first last) := by
  have hqueue (q : List RecPacket) (n : Nat) : FaultFrame s ((s.setRecQ q).setRecSeq n) := ⟨rfl⟩
  exact (hqueue _ _).trans (faultFrame_openFrame ..)

theorem faultFrame_missOn (s : State) (j st k : Nat) (first last : Stamp) : FaultFrame s (missOn s j st k first last) := by
  have hruns (s : State) (l : List MissRun) : FaultFrame s (s.setMisses l) := ⟨rfl⟩
  exact .each (fun s _ => .ite ((hruns s _).trans (.each (fun _ _ => faultFrame_emitMiss ..) _)) (hruns s _)) s

theorem faultFrame_fenceStream (s : State) (j st : Nat) : FaultFrame s (fenceStream s j st) := by
  unfold fenceStream
  extract_lets b first u
  have hu : FaultFrame s u := .ite (faultFrame_missOn ..) (.refl s)
  exact .ite (hu.trans (faultFrame_putBind ..)) hu

theorem faultFrame_refreshWait (s : State) (j : Nat) : FaultFrame s (refreshWait s j) := by
  obtain ⟨r, w, h⟩ := refreshWait_eq s j
  rw [h]
  exact ⟨rfl⟩

theorem faultFrame_fence (s : State) (j : Nat) : FaultFrame s (fence s j) := by
  unfold fence
  extract_lets job t u gone v
  have hu : FaultFrame t u := .each (fun _ _ => faultFrame_fenceStream ..) t
  have hv : FaultFrame t v := hu.trans (.each (fun _ _ => faultFrame_missOn ..) u)
  exact (((faultFrame_putJob ..).trans hv).trans (faultFrame_setBatches ..)).trans (faultFrame_refreshWait ..)

theorem faultFrame_recordFault (s : State) (j cls kind unit : Nat) (injected : Bool) (time : DWord) :
    FaultFrame s (recordFault s j cls kind unit injected time) :=
  (((((faultFrame_wr ..).trans (faultFrame_wr ..)).trans (faultFrame_wr ..)).trans (faultFrame_wr ..)).trans (faultFrame_wr ..)).trans
    (faultFrame_wr ..)

theorem faultFrame_detectFault (s : State) (j : Nat) (f : FaultInfo) : FaultFrame s (detectFault s j f) := by
  have hcount : FaultFrame s (s.countFault j) := faultFrame_wr ..
  obtain h | h | ⟨v, -, h | h⟩ := detectFault_cases s j f <;> rw [h]
  · exact .refl s
  · exact hcount
  · exact (hcount.trans (faultFrame_putJob ..)).trans (faultFrame_recordFault ..)
  · exact (hcount.trans (faultFrame_putJob ..)).trans (faultFrame_fence ..)

/-! ### What a unit takes -/

theorem takeKind_word {s u : State} {c n k : Nat} {ready mine : Held → Bool} {h : Held}
    (hpassed : ∀ j, k ≠ R.JOB_PREEMPT_CNT_COUNT.key j 0) (ht : takeKind s c n ready mine = (u, some h)) : u.word k = s.word k := by
  unfold takeKind at ht
  split at ht
  · rename_i s' x hx
    split at ht
    · exact takeNext_word hpassed (hx.trans ht)
    · cases ht
  · cases ht

theorem takeKind_job {s u : State} {c n : Nat} {ready mine : Held → Bool} {h : Held} (ht : takeKind s c n ready mine = (u, some h))
    (j : Nat) : u.job j = s.job j := by
  obtain ⟨r, g, rfl⟩ := takeKind_some ht
  rfl

theorem takeKind_slots {s u : State} {c n : Nat} {ready mine : Held → Bool} {h : Held} (ht : takeKind s c n ready mine = (u, some h)) :
    u.slots = s.slots := (takeKind_keeps ht).1

theorem EPOCH_DROP_CNT_key (c : Nat) :
    R.EPOCH_DROP_CNT_COUNT.key c 0 = 0x4000010 + 0x4000000 * (c % 256 / 128) + 0x400 * (c % 256 % 128) := by
  simp [R.EPOCH_DROP_CNT_COUNT, Fld.key]

/-- A token of an old epoch that a unit takes is counted, and the slots stay (R96). -/
theorem takeKind_stale {s u : State} {c n : Nat} {ready mine : Held → Bool} {h : Held} (ht : takeKind s c n ready mine = (u, some h)) :
    (u.bump R.EPOCH_DROP_CNT_COUNT c).slots = s.slots ∧ Counted s (u.bump R.EPOCH_DROP_CNT_COUNT c) R.EPOCH_DROP_CNT_COUNT c := by
  have hread : u.rd R.EPOCH_DROP_CNT_COUNT c = s.rd R.EPOCH_DROP_CNT_COUNT c :=
    congrArg (fieldOf _ _) (takeKind_word (passed_key_ne (by rw [EPOCH_DROP_CNT_key]; omega)) ht)
  have hslots : (u.bump R.EPOCH_DROP_CNT_COUNT c).slots = u.slots := rfl
  refine ⟨hslots.trans (takeKind_slots ht), ?_⟩
  rw [Counted, ← hread]
  exact counted_bump u c (by decide)

/-! ### Opening a slot -/

theorem pitchFlow_showSlots (s : State) (c : Nat) : PitchFlow s (showSlots s c) := (pitchFlow_wr2 ..).trans (pitchFlow_wr2 ..)

theorem pitchFlow_feedTile (s : State) (c : Nat) (k : Token) (p : Placed) : PitchFlow s (feedTile s c k p) := by
  unfold feedTile
  split
  · exact .refl s
  · exact pitchFlow_pitchPut ..

/-- The slot a reduction point opens for an ACT token (R106). -/
def Token.newSlot (k : Token) (c : Nat) : RedSlot := ⟨c, k.job, k.tag, k.oper, k.seg, List.replicate 256 0, 0, 0, k.flags, k⟩

theorem slotOpen_opens {s u : State} {c : Nat} {h : Held} (ht : takeKind s c 17 (s.dmaReady c) (s.slotReady c) = (u, some h))
    (hepoch : h.tok.epoch = (s.job h.tok.job).epoch) : (slotOpen s c).slots = s.slots ++ [h.tok.newSlot c] := by
  have hopen : PitchFlow (u.setSlots (u.slots ++ [h.tok.newSlot c])) (slotOpen s c) := by
    simp only [slotOpen, ht, takeKind_job ht, hepoch, bne_self_eq_false, Bool.false_eq_true, if_false]
    exact ((pitchFlow_showSlots ..).trans (.each (fun _ _ => pitchFlow_feedTile ..) _)).trans (pitchFlow_pitchEnter _)
  rw [hopen.slots, ← takeKind_slots ht]
  rfl

theorem slotOpen_stale {s u : State} {c : Nat} {h : Held} (ht : takeKind s c 17 (s.dmaReady c) (s.slotReady c) = (u, some h))
    (hepoch : h.tok.epoch ≠ (s.job h.tok.job).epoch) : slotOpen s c = u.bump R.EPOCH_DROP_CNT_COUNT c := by
  simp [slotOpen, ht, takeKind_job ht, hepoch]

theorem slotOpen_idle {s : State} {c : Nat} (ht : (takeKind s c 17 (s.dmaReady c) (s.slotReady c)).2 = none) : slotOpen s c = s := by
  simp [slotOpen, takeKind_none ht]

/-! ### Partials -/

section Partials
variable {s u : State} {c : Nat} {h : Held} (ht : takeKind s c 16 (s.vecUnitReady c) (partialReady c) = (u, some h))
include ht

theorem partialAccumulate_stale (hepoch : h.tok.epoch ≠ (s.job h.tok.job).epoch) :
    partialAccumulate s c = u.bump R.EPOCH_DROP_CNT_COUNT c := by
  simp [partialAccumulate, ht, takeKind_job ht, hepoch]

theorem partialAccumulate_adds (hepoch : h.tok.epoch = (s.job h.tok.job).epoch) :
    partialAccumulate s c = pitchEnter (addPartial u c h.tok) := by
  simp [partialAccumulate, ht, takeKind_job ht, hepoch]

end Partials

theorem partialAccumulate_idle {s : State} {c : Nat} (ht : (takeKind s c 16 (s.vecUnitReady c) (partialReady c)).2 = none) :
    partialAccumulate s c = s := by
  simp [partialAccumulate, takeKind_none ht]

/-- A slot with one more partial in it (R107). -/
def RedSlot.plus (x : RedSlot) (k : Token) : RedSlot :=
  { x with
    sums := (List.range 256).map fun i => (x.sums[i]?).getD 0 + (k.payload[i]?).getD 0
    count := x.count + 1, npart := k.npart, flags := x.flags.or k.flags }

/-- The state with one slot replaced. -/
def State.replaceSlot (s : State) (x x' : RedSlot) : State := s.setSlots (s.slots.map fun y => if y == x then x' else y)

theorem addPartial_over {s : State} {c : Nat} {k : Token}
    (hover : s.slots.find? (fun y => y.takes c k) = none ∨
      ∃ x, s.slots.find? (fun y => y.takes c k) = some x ∧ k.npart < x.count) :
    addPartial s c k = detectFault (s.raise R.CLU_EVT_RED_OVER c) k.job ⟨fcToken, false, 4, c, .none⟩ := by
  obtain hnone | ⟨x, hx, hlt⟩ := hover
  · simp only [addPartial, hnone]
  · have hmore : k.npart + 1 < x.count + 1 := by omega
    simp only [addPartial, hx, hmore, if_true]

theorem addPartial_within {s : State} {c : Nat} {k : Token} {x : RedSlot} (hx : s.slots.find? (fun y => y.takes c k) = some x)
    (hlt : x.count + 1 < k.npart + 1) : addPartial s c k = s.replaceSlot x (x.plus k) := by
  have hmore : ¬ k.npart + 1 < x.count + 1 := by omega
  have hlast : x.count + 1 ≠ k.npart + 1 := by omega
  simp only [addPartial, hx, hmore, hlast, if_false]
  rfl

theorem addPartial_last {s : State} {c : Nat} {k : Token} {x : RedSlot} {o : OperSpec}
    (hx : s.slots.find? (fun y => y.takes c k) = some x) (hcount : x.count = k.npart) (ho : s.operOf k = some o) :
    addPartial s c k = deliverSlot (s.replaceSlot x (x.plus k)) c (x.plus k) o := by
  have hoper (l : List RedSlot) : (s.setSlots l).operOf k = some o := ho
  have hmore : ¬ k.npart + 1 < x.count + 1 := by omega
  simp only [addPartial, hx, hmore, if_false, if_pos (congrArg (· + 1) hcount), hoper]
  rfl

/-- What a full slot sends along a route: its sums to a second-level reduction point, else their values in the operator's format (R107). -/
def RedSlot.delivery (x : RedSlot) (o : OperSpec) (r : Route) : List Int := if r.kind = 3 then x.sums else x.sums.map (slotValue o)

/-- A slot with one route is freed and sends its delivery along it. -/
theorem deliverSlot_single (s : State) (c : Nat) (x : RedSlot) {o : OperSpec} {r : Route} (hroutes : o.routes = [r]) : ∃ k fmt,
    deliverSlot s c x o = emitAll (showSlots (s.setSlots (s.slots.erase x)) c) c 16 k fmt (x.delivery o r) [r] := by
  unfold deliverSlot RedSlot.delivery emitAll
  simp only [hroutes, each_cons, each_nil]
  split
  · exact ⟨_, _, rfl⟩
  · exact ⟨_, _, rfl⟩

theorem replaceSlot_erase_length {s : State} {x : RedSlot} (hx : x ∈ s.slots) (x' : RedSlot) :
    ((s.replaceSlot x x').slots.erase x').length + 1 = s.slots.length := by
  have hmem : x' ∈ (s.replaceSlot x x').slots := List.mem_map.2 ⟨x, hx, by simp⟩
  have hlen : (s.replaceSlot x x').slots.length = s.slots.length := List.length_map ..
  have hpos : 0 < (s.replaceSlot x x').slots.length := List.length_pos_of_mem hmem
  rw [List.length_erase_of_mem hmem]
  omega

theorem CLU_EVT_RED_OVER_key (c : Nat) :
    R.CLU_EVT_RED_OVER.key c 0 = 0x4000000 + 0x4000000 * (c % 256 / 128) + 0x400 * (c % 256 % 128) := by
  simp [R.CLU_EVT_RED_OVER, Fld.key]

/-- A partial without room sets RED_OVER and leaves the slots (R106, R107). -/
theorem addPartial_over_marks {s : State} {c : Nat} {k : Token} (hover : s.slots.find? (fun y => y.takes c k) = none ∨
      ∃ x, s.slots.find? (fun y => y.takes c k) = some x ∧ k.npart < x.count) :
    (pitchEnter (addPartial s c k)).slots = s.slots ∧ (pitchEnter (addPartial s c k)).on R.CLU_EVT_RED_OVER c = true := by
  have hset : (s.raise R.CLU_EVT_RED_OVER c).on R.CLU_EVT_RED_OVER c = true :=
    raise_on_same s _ c (by rw [CLU_EVT_RED_OVER_key]; omega) (by decide) (by decide) (by decide)
  rw [addPartial_over hover]
  generalize hu : s.raise R.CLU_EVT_RED_OVER c = u at hset ⊢
  constructor
  · rw [(pitchFlow_pitchEnter _).slots, (faultFrame_detectFault ..).slots, ← hu, raise_slots]
  · have hword : (pitchEnter (detectFault u k.job ⟨fcToken, false, 4, c, .none⟩)).word (R.CLU_EVT_RED_OVER.key c 0) =
        u.word (R.CLU_EVT_RED_OVER.key c 0) := by
      rw [pitchEnter_word (passed_key_ne (by rw [CLU_EVT_RED_OVER_key]; omega)) (fun c' o => ?_),
        (faultKeeps_detectFault ..).words _ (by rw [CLU_EVT_RED_OVER_key]; omega)]
      simp only [R.CLU_EVT_RED_OVER, R.RTR_XFER_CNT_COUNT, Fld.key, halfStep]
      omega
    rw [State.on, State.rd, State.rd2, hword]
    exact hset

/-- Settles O33: what the unit takes leaves the slots, and of a slot's commands each does the one thing its lemma says. -/
theorem reductionSlots : Obligations.ReductionSlots := by
  intro s c
  refine ⟨fun u h ht hepoch => ⟨_, rfl, slotOpen_opens ht hepoch⟩,
    fun u h ht hepoch => ⟨_, congrArg Host.Outcome.next (slotOpen_stale ht hepoch), takeKind_stale ht⟩,
    fun ht => ⟨_, congrArg Host.Outcome.next (slotOpen_idle ht), rfl⟩,
    fun u h x ht hepoch hx hlt => ?_, fun u h x o r ht hepoch hx hcount ho hroutes h16 h19 => ?_, fun u h ht hepoch hover => ?_,
    fun u h ht hepoch => ⟨_, congrArg Host.Outcome.next (partialAccumulate_stale ht hepoch), takeKind_stale ht⟩,
    fun ht => ⟨_, congrArg Host.Outcome.next (partialAccumulate_idle ht), rfl⟩⟩
  · refine ⟨_, congrArg Host.Outcome.next (partialAccumulate_adds ht hepoch), ?_⟩
    rw [← takeKind_slots ht] at hx ⊢
    rw [addPartial_within hx hlt, (pitchFlow_pitchEnter _).slots]
    rfl
  · refine ⟨_, congrArg Host.Outcome.next (partialAccumulate_adds ht hepoch), ?_⟩
    rw [← takeKind_slots ht] at hx ⊢
    have ho' : u.operOf h.tok = some o := by rw [State.operOf, takeKind_job ht]; exact ho
    obtain ⟨k, fmt, hdeliver⟩ := deliverSlot_single (u.replaceSlot x (x.plus h.tok)) c (x.plus h.tok) hroutes
    rw [addPartial_last hx hcount ho', hdeliver]
    constructor
    · rw [((pitchFlow_emitAll ..).trans (pitchFlow_pitchEnter _)).slots, (pitchFlow_showSlots ..).slots]
      exact replaceSlot_erase_length (List.mem_of_find?_eq_some hx) _
    · obtain ⟨y, hy, hkind, hoper, hclu, hunit, -, hpay⟩ := emitted_on_pitch
        (showSlots ((u.replaceSlot x (x.plus h.tok)).setSlots ((u.replaceSlot x (x.plus h.tok)).slots.erase (x.plus h.tok))) c) c 16 k fmt
        ((x.plus h.tok).delivery o r) h16 h19
      exact ⟨y, hy, hkind, hoper, hclu, hunit, hpay⟩
  · refine ⟨_, congrArg Host.Outcome.next (partialAccumulate_adds ht hepoch), ?_⟩
    rw [← takeKind_slots ht] at hover ⊢
    exact addPartial_over_marks hover

end Sys2Proof.Machine
end

section
/-! PROOF. The family of 04_clusters_and_pitch.md: results on their way out (O38). -/

namespace Sys2Proof.Machine

/-! ### Results that reach the hub -/

theorem pitchTake_partsOf {s : State} {t : Token} (h : Held) (hnone : s.partsOf t = []) : (pitchTake s h).partsOf t = [] :=
  List.filter_eq_nil_iff.2 fun x hx => List.filter_eq_nil_iff.1 hnone x (List.mem_of_mem_erase hx)

/-- The first of several parts of a result waits at the hub (R110). -/
theorem assemble_first {s : State} {t : Token} (hepoch : t.epoch = (s.job t.job).epoch) (hnone : s.partsOf t = []) (hmore : 1 ≤ t.npart) :
    assemble (pitchPut s hubPlace t) t = s.setFabric (s.fabric ++ [⟨hubPlace, t, false, false, s.now, t.transfers, []⟩]) := by
  rw [pitchPut_current hubPlace hepoch]
  have hone : ((s.setFabric (s.fabric ++ [⟨hubPlace, t, false, false, s.now, t.transfers, []⟩])).partsOf t).length = 1 := by
    have hold : s.fabric.filter (fun h => h.place == hubPlace && h.tok.job == t.job && h.tok.path == t.path &&
        h.tok.stream == t.stream && h.tok.bseq == t.bseq) = [] := hnone
    simp only [State.partsOf, State.setFabric_frame, List.filter_append, hold]
    simp
  have hwaits : ((s.setFabric (s.fabric ++ [⟨hubPlace, t, false, false, s.now, t.transfers, []⟩])).partsOf t).length < t.npart + 1 := by
    omega
  simp only [assemble, hwaits, if_true]

section Arrivals
variable {s : State} {h : Held} (hfront : s.front .hub = some h) (hgood : h.tok.good)
include hfront hgood

theorem resultArrival_waits (hkind : h.tok.kind = 6) (hstale : h.stale = false) (hepoch : h.tok.epoch = (s.job h.tok.job).epoch)
    (hnone : s.partsOf h.tok = []) (hmore : 1 ≤ h.tok.npart) : resultArrival s .none =
      s.setFabric (s.fabric.erase h ++ [⟨hubPlace, h.tok, false, false, s.now, h.tok.transfers, []⟩]) := by
  have hresult : (h.tok.kind != 6) = false := by rw [hkind]; rfl
  have hassemble : resultArrival s .none = assemble (pitchPut (pitchTake s h) hubPlace h.tok) h.tok := by
    simp only [resultArrival, hfront, linkCheck, Bool.not_true, hgood.not_bad, hstale, hepoch, bne_self_eq_false, Bool.or_self, hresult,
      Bool.false_eq_true, if_false]
  rw [hassemble, assemble_first (s := pitchTake s h) hepoch (pitchTake_partsOf h hnone) hmore]
  rfl

theorem resultArrival_stale (hstale : h.stale = true ∨ h.tok.epoch ≠ (s.job h.tok.job).epoch) :
    resultArrival s .none = (pitchTake s h).bump R.EPOCH_DROP_CNT_COUNT (hubRouter h.tok.srcClu) := by
  have hdrop : (h.stale || h.tok.epoch != (s.job h.tok.job).epoch) = true := by simpa using hstale
  simp only [resultArrival, hfront, linkCheck, Bool.not_true, hgood.not_bad, hdrop, Bool.false_eq_true, if_false, if_true]

end Arrivals

/-! ### Results that leave for their output stream -/

/-- An output stream once a result has left the seating plan (R267). -/
def OutStream.sent (o : OutStream) (r : Result) : OutStream :=
  { o with
    queue := o.queue ++ resultPackets r o.recSeq, recSeq := (o.recSeq + 1) % 2 ^ 32,
    last := some (r.stamp.time.toNat, r.stamp.pos.toNat, r.stream) }

/-- A result that leaves the seating plan is queued, and may open a frame of its channel. -/
theorem seatEmit_eq (s : State) (n : Nat) (r : Result) : ∃ chans tx,
    seatEmit s n r = ((s.putOut n ((s.out n).sent r)).setChans chans).setTx tx := by
  have hput : seatEmit s n r = openOut (s.putOut n ((s.out n).sent r)) n := rfl
  rw [hput]
  generalize s.putOut n ((s.out n).sent r) = u
  unfold openOut openFrame
  dsimp only
  split
  · split
    · exact ⟨u.chans, u.tx, rfl⟩
    · exact ⟨_, _, rfl⟩
  · exact ⟨u.chans, u.tx, rfl⟩

theorem out_putOut_same (s : State) (n : Nat) (o : OutStream) : (s.putOut n o).out n = o := spGet_spSet_same ..

theorem seatEmit_out (s : State) (n : Nat) (r : Result) : (seatEmit s n r).out n = (s.out n).sent r := by
  obtain ⟨chans, tx, h⟩ := seatEmit_eq s n r
  rw [h]
  exact out_putOut_same ..

theorem seatEmit_regs (s : State) (n : Nat) (r : Result) : (seatEmit s n r).regs = s.regs := by
  obtain ⟨chans, tx, h⟩ := seatEmit_eq s n r
  rw [h]
  rfl

theorem seatEmit_batches (s : State) (n : Nat) (r : Result) : (seatEmit s n r).batches = s.batches ∧ (seatEmit s n r).arrived = s.arrived := by
  obtain ⟨chans, tx, h⟩ := seatEmit_eq s n r
  rw [h]
  exact ⟨rfl, rfl⟩

/-- What a write of SEAT_CFG brings into force when a result arrives (R300). -/
theorem window_apply (s : State) (n : Nat) :
    (s.apply (R.SEAT_CFG.key n 0)).window n = min 512 (fieldOf R.SEAT_CFG_WINDOW.lo R.SEAT_CFG_WINDOW.w (s.word (R.SEAT_CFG.key n 0))) := by
  have hforce : (s.apply (R.SEAT_CFG.key n 0)).forceWord (R.SEAT_CFG.key n 0) = s.word (R.SEAT_CFG.key n 0) := spGet_spSet_same ..
  exact congrArg (fun w => min 512 (fieldOf R.SEAT_CFG_WINDOW.lo R.SEAT_CFG_WINDOW.w w)) hforce

/-- Without a window a result passes the seating plan at once (R118). -/
theorem seatArrive_passes {s : State} {n : Nat} (r : Result)
    (hwindow : fieldOf R.SEAT_CFG_WINDOW.lo R.SEAT_CFG_WINDOW.w (s.word (R.SEAT_CFG.key n 0)) = 0) (hheld : (s.out n).held = []) :
    seatArrive s n r = showSeat (seatEmit (s.apply (R.SEAT_CFG.key n 0)) n r) n := by
  have hnone : (s.apply (R.SEAT_CFG.key n 0)).window n = 0 := by rw [window_apply, hwindow]; rfl
  have hempty : ((s.apply (R.SEAT_CFG.key n 0)).out n).held = [] := hheld
  simp only [seatArrive, hempty, List.length_nil, seatDrain, hnone, if_true]

/-- A path without a mark and a plant output brings the hub operators nothing to do. -/
theorem hubOperators_none {s : State} {r : Result}
    (hpaths : ∀ q ∈ (s.job r.job).sec.paths, q.path = r.path → q.mark = none ∧ q.aout = none) : hubOperators s r = s := by
  unfold hubOperators
  split
  · rfl
  · rename_i q hq
    obtain ⟨hmark, haout⟩ := hpaths q (List.mem_of_find?_eq_some hq) (by simpa using List.find?_some hq)
    simp only [hmark, haout]

theorem checkBatch_owing {s : State} {b : Batch} (h : b.paths ≠ []) : checkBatch s b = s := by
  simp [checkBatch, h]

/-- What is left of a search that keeps what it has or takes the next is one of the list. -/
theorem foldl_keep_or_take {α : Type} {f : Option α → α → Option α} (hf : ∀ m a, f m a = m ∨ f m a = some a) (l : List α) (m : Option α)
    {x : α} (h : l.foldl f m = some x) : x ∈ l ∨ m = some x := by
  induction l generalizing m with
  | nil => exact .inr h
  | cons a l ih =>
    obtain hx | hx := ih _ h
    · exact .inl (List.mem_cons_of_mem a hx)
    · obtain hm | hm := hf m a
      · exact .inr (hm.symm.trans hx)
      · rw [hm, Option.some.injEq] at hx
        exact .inl (hx ▸ List.mem_cons_self)

theorem nextResult_some {s : State} {j p st : Nat} {r : Result} (h : s.nextResult j p st = some r) : r.job = j ∧ r.path = p := by
  obtain ⟨hlowest, -⟩ := Option.filter_eq_some_iff.1 h
  have hmem : r ∈ s.arrived.filter fun r => r.job == j && r.path == p && r.stream == st := by
    refine (foldl_keep_or_take (fun m a => ?_) _ none hlowest).resolve_right nofun
    cases m with
    | none => exact .inr rfl
    | some x => exact (ite_eq_or_eq _ _ _).symm
  have hmine := (List.mem_filter.1 hmem).2
  simp only [Bool.and_eq_true, beq_iff_eq] at hmine
  exact hmine.1

/-- A result whose batch owes another path leaves the stage, passes the seating plan and is forgotten by its batch (R110, R111). -/
theorem emitResult_passes {s : State} {r : Result}
    (hpaths : ∀ q ∈ (s.job r.job).sec.paths, q.path = r.path → q.mark = none ∧ q.aout = none)
    (hwindow : fieldOf R.SEAT_CFG_WINDOW.lo R.SEAT_CFG_WINDOW.w (s.word (R.SEAT_CFG.key (outOf r.job r.path) 0)) = 0)
    (hheld : (s.out (outOf r.job r.path)).held = [])
    (howes : ∀ b ∈ s.batches, b.job = r.job → b.stream = r.stream → b.k = r.k → ∃ q ∈ b.paths, q ≠ r.path) :
    ∃ B, emitResult s r = (showSeat (seatEmit ((s.setArrived (s.arrived.erase r)).apply (R.SEAT_CFG.key (outOf r.job r.path) 0))
      (outOf r.job r.path) r) (outOf r.job r.path)).setBatches B := by
  have hnone : hubOperators (s.setArrived (s.arrived.erase r)) r = s.setArrived (s.arrived.erase r) := hubOperators_none hpaths
  have hseat := seatArrive_passes (s := s.setArrived (s.arrived.erase r)) r hwindow hheld
  unfold emitResult
  dsimp only
  rw [hnone, hseat]
  generalize hu : showSeat (seatEmit _ _ r) _ = u
  have hbatches : u.batches = s.batches := by
    rw [← hu]
    exact (seatEmit_batches _ _ r).1
  rw [hbatches]
  split
  · exact ⟨u.batches, rfl⟩
  · rename_i b hb
    have hmatch := List.find?_some hb
    simp only [Bool.and_eq_true, beq_iff_eq] at hmatch
    obtain ⟨⟨hjob, hstream⟩, hk⟩ := hmatch
    obtain ⟨q, hq, hne⟩ := howes b (List.mem_of_find?_eq_some hb) hjob hstream hk
    have hleft : q ∈ b.paths.filter (· != r.path) := List.mem_filter.2 ⟨hq, bne_iff_ne.2 hne⟩
    rw [checkBatch_owing (List.ne_nil_of_mem hleft)]
    exact ⟨_, rfl⟩

theorem pathOrderEmit_idle {s : State} {j p st : Nat} (h : s.nextResult j p st = none ∨ 512 ≤ (s.out (outOf j p)).room) :
    pathOrderEmit s j p st = s := by
  unfold pathOrderEmit
  split
  · rfl
  · rename_i r hr
    exact if_pos (h.resolve_left (by rw [hr]; exact nofun))

theorem pathOrderEmit_emits {s : State} {j p st : Nat} {r : Result} (hr : s.nextResult j p st = some r)
    (hroom : (s.out (outOf j p)).room < 512) : pathOrderEmit s j p st = emitResult s r := by
  have hfull : ¬ 512 ≤ (s.out (outOf j p)).room := by omega
  simp only [pathOrderEmit, hr, hfull, if_false]

/-! ### The seating plan's HOLD -/

theorem keyLt_irrefl (byPos : Bool) (k : Nat × Nat) : keyLt byPos k k = false := by simp [keyLt]

/-- The one result held leaves the seating plan, counted (R116). -/
theorem seatUpTo_single {s : State} {n at_ : Nat} {r : Result} (hheld : (s.out n).held = [(r, at_)]) :
    seatUpTo s n (s.seatKey n r) 1 = (seatEmit (s.putOut n { s.out n with held := [] }) n r).bump R.SEAT_STAT_HOLD_CNT n := by
  have herase : [(r, at_)].erase (r, at_) = [] := by simp
  simp only [seatUpTo, hheld, State.seatLeast, keyLt_irrefl, Bool.false_eq_true, if_false, herase]

theorem seatHoldExpiry_keeps {s : State} {n : Fin 128} {r : Result} {at_ : Nat} (hheld : (s.out n).held = [(r, at_)])
    (hearly : s.passed at_ (10 * usec * max 1 (s.frc R.SEAT_CFG_HOLD n)) = false) : Does (.seatHoldExpiry n) s fun t => t = s :=
  ⟨s, by simp only [exec, execSeatHoldExpiry, hheld, List.head?_cons, hearly, Bool.false_eq_true, if_false], rfl⟩

theorem seatHoldExpiry_emits {s : State} {n : Fin 128} {r : Result} {at_ : Nat} (hheld : (s.out n).held = [(r, at_)])
    (hpassed : s.passed at_ (10 * usec * max 1 (s.frc R.SEAT_CFG_HOLD n)) = true) : Does (.seatHoldExpiry n) s fun t =>
      (t.out n).held = [] ∧ (t.out n).queue = (s.out n).queue ++ resultPackets r (s.out n).recSeq ∧ Counted s t R.SEAT_STAT_HOLD_CNT n := by
  let u := seatEmit (s.putOut n { s.out n with held := [] }) n r
  have hexec : exec (.seatHoldExpiry n) s = .next (showSeat (u.bump R.SEAT_STAT_HOLD_CNT n) n) := by
    simp only [exec, execSeatHoldExpiry, hheld, List.head?_cons, hpassed, if_true, List.length_singleton, seatUpTo_single hheld]
    rfl
  have hout : u.out n = ({ s.out n with held := [] } : OutStream).sent r := by
    rw [seatEmit_out, out_putOut_same]
  have hcount : u.rd R.SEAT_STAT_HOLD_CNT n = s.rd R.SEAT_STAT_HOLD_CNT n :=
    congrArg (fun regs => fieldOf _ _ (spGet regReset regs _)) (seatEmit_regs _ _ r)
  refine ⟨_, hexec, congrArg OutStream.held hout, congrArg OutStream.queue hout, ?_⟩
  rw [Counted, ← hcount, showSeat, rd_wr_ne _ R.SEAT_STAT_HELD R.SEAT_STAT_HOLD_CNT n n _ (.inr (.inr (by decide)))]
  exact counted_bump u n (by decide)

/-- Settles O38: each result takes one way, since its batch, its stream and the plan hold nothing else that moves. -/
theorem resultsLeaveInOrder : Obligations.ResultsLeaveInOrder := by
  intro s
  refine ⟨fun h hfront hkind hunit hstream hlen => ?_, fun e hfront => ⟨s, ?_, rfl⟩, fun j p st =>
    ⟨fun r hr hroom hpaths hwindow hheld howes => ?_, fun hidle => ⟨s, congrArg Host.Outcome.next (pathOrderEmit_idle hidle), rfl⟩⟩,
    fun n r at_ hheld => ⟨seatHoldExpiry_emits hheld, seatHoldExpiry_keeps hheld⟩, fun n hheld => ⟨s, ?_, rfl⟩⟩
  · have hgood : h.tok.good := ⟨by omega, hunit, hstream, hlen⟩
    refine ⟨fun hstale hepoch hnone hmore =>
        ⟨_, congrArg Host.Outcome.next (resultArrival_waits hfront hgood hkind hstale hepoch hnone hmore), rfl, rfl⟩,
      fun hstale => ⟨_, congrArg Host.Outcome.next (resultArrival_stale hfront hgood hstale), rfl, ?_, rfl⟩⟩
    exact counted_bump (pitchTake s h) _ (by decide)
  · simp only [exec, execResultArrival, resultArrival, hfront]
  · obtain ⟨hjob, hpath⟩ := nextResult_some hr
    have hn : outOf r.job r.path = outOf j p := by rw [hjob, hpath]
    obtain ⟨B, hemit⟩ := emitResult_passes hpaths (by rwa [hn]) (by rwa [hn]) howes
    rw [← pathOrderEmit_emits hr hroom, hn] at hemit
    have hout := seatEmit_out ((s.setArrived (s.arrived.erase r)).apply (R.SEAT_CFG.key (outOf j p) 0)) (outOf j p) r
    exact ⟨_, congrArg Host.Outcome.next hemit, (seatEmit_batches _ _ r).2, congrArg OutStream.queue hout, congrArg OutStream.recSeq hout⟩
  · simp only [exec, execSeatHoldExpiry, hheld, List.head?_nil]

end Sys2Proof.Machine
end

section
/-! PROOF. The family of 04_clusters_and_pitch.md: the course of a restart (O40). -/

namespace Sys2Proof.Machine

theorem wr_batches (s : State) (f : Fld) (i v : Nat) : (s.wr f i v).batches = s.batches := by
  simp only [State.wr, State.wr2, State.setWord, State.setRegs_frame]

theorem dedupNat_subset {l : List Nat} {x : Nat} (h : x ∈ dedupNat l) : x ∈ l := by
  induction l with
  | nil => exact h
  | cons a l ih =>
    obtain heq | hx := List.mem_cons.1 (show x ∈ a :: (dedupNat l).filter (· != a) from h)
    · exact heq ▸ List.mem_cons_self
    · exact List.mem_cons_of_mem a (ih (List.mem_filter.1 hx).1)

/-- A property that the update of each member of a list keeps, the whole list keeps. -/
theorem each_inv_of_mem {α : Type} (P : State → Prop) (l : List α) (f : State → α → State) (s : State)
    (h : ∀ s, ∀ a ∈ l, P s → P (f s a)) (hs : P s) : P (s.each l f) := by
  induction l generalizing s with
  | nil => exact hs
  | cons a l ih =>
    exact ih (f s a) (fun s b hb => h s b (List.mem_cons_of_mem a hb)) (h s a List.mem_cons_self hs)

/-! ### Taking up a fault -/

theorem aoutJobLeaves_word (s : State) (j : Nat) {k : Nat} (hk : k < 0x73200) : (aoutJobLeaves s j).word k = s.word k := by
  have hwr (s : State) (f : Fld) (c v : Nat) (hf : 0x73200 ≤ f.base) : (s.wr f c v).word k = s.word k :=
    word_wr_ne s f c v (by have := key_ge_base f c 0; omega)
  have hshow (s : State) (c : Nat) : (showAout s c).word k = s.word k :=
    (hwr _ _ _ _ (by decide)).trans ((hwr _ _ _ _ (by decide)).trans (hwr _ _ _ _ (by decide)))
  refine each_keeps (State.word · k) _ _ s fun s c => ?_
  split
  · unfold clearChannel setCode
    dsimp only
    split
    · exact hshow ..
    · exact (hshow ..).trans (hwr _ _ _ _ (by decide))
  · rfl

theorem recordFault_class (s : State) (j cls kind unit : Nat) (injected : Bool) (time : DWord) :
    (recordFault s j cls kind unit injected time).rd R.JOB_FAULT_CLASS j = cls % 2 ^ R.JOB_FAULT_CLASS.w := by
  have hlo : R.JOB_FAULT_CLASS.key j 0 ≠ R.JOB_FTIME_LO_TIME_LO.key j 0 := by simp only [R.JOB_FAULT_CLASS, R.JOB_FTIME_LO_TIME_LO, Fld.key]; omega
  have hhi : R.JOB_FAULT_CLASS.key j 0 ≠ R.JOB_FTIME_HI_TIME_HI.key j 0 := by simp only [R.JOB_FAULT_CLASS, R.JOB_FTIME_HI_TIME_HI, Fld.key]; omega
  unfold recordFault State.wrB
  dsimp only
  rw [rd_wr_ne _ R.JOB_FTIME_HI_TIME_HI _ _ _ _ (.inl hhi), rd_wr_ne _ R.JOB_FTIME_LO_TIME_LO _ _ _ _ (.inl hlo),
    rd_wr_ne _ R.JOB_FAULT_UNIT _ _ _ _ (.inr (.inl (by decide))), rd_wr_ne _ R.JOB_FAULT_UNIT_KIND _ _ _ _ (.inr (.inl (by decide))),
    rd_wr_ne _ R.JOB_FAULT_INJECTED _ _ _ _ (.inr (.inl (by decide)))]
  exact rd_wr_same _ _ _ _ (by decide)

/-- The restarts of a job that began within the last 10 s (R333). -/
def State.recentRestarts (s : State) (j : Nat) : List Nat := (s.job j).restartsAt.filter fun t => !s.passed t (10000 * msec)

/-- A job whose fault firmware has taken up (R334). -/
def State.takenUp (s : State) (j : Nat) (r : Restart) : Job :=
  { s.job j with st := .restarting, restart := some { r with taken := true }, restartsAt := s.recentRestarts j ++ [s.now] }

/-- The state in which the restart is shown: the fault recorded, the restart counted and FAULT set. -/
def State.restartShown (s : State) (j : Nat) (r : Restart) : State :=
  (((if r.firstIsLast then recordFault s j r.cls r.kind r.unit r.injected r.time else s).putJob j (s.takenUp j r)).bump
    R.JOB_RST_CNT_RESTARTS j).raise R.SUP_EVT_FAULT 0

theorem takeUp_restarts {s : State} {j : Nat} {r : Restart} (hr : (s.job j).restart = some r) (htaken : r.taken = false)
    (hstop : (s.job j).stopping = false) (hfew : (s.recentRestarts j).length < 3) : takeUp s j =
      aoutJobLeaves ((s.restartShown j r).each (s.job j).sec.extPorts fun s e =>
        s.putExt e { s.ext e with ctrlOut := (s.ext e).ctrlOut ++ [j] }) j := by
  have hnow : (if r.firstIsLast then recordFault s j r.cls r.kind r.unit r.injected r.time else s).now = s.now := by
    split
    · exact recordFault_apart State.now (fun _ _ => rfl) ..
    · rfl
  have hpassed (t d : Nat) :
      (if r.firstIsLast then recordFault s j r.cls r.kind r.unit r.injected r.time else s).passed t d = s.passed t d := by
    simp only [State.passed, hnow]
  have hmany : ¬ 3 ≤ ((s.job j).restartsAt.filter fun t => !s.passed t (10000 * msec)).length := Nat.not_le.2 hfew
  simp only [takeUp, hr, htaken, if_neg (Bool.eq_false_iff.1 hstop), hpassed, hnow, hmany, Bool.false_eq_true, if_false]
  rfl

/-- Telling the peers of a restart and clearing the job's plant outputs leaves its record and what shows it. -/
theorem takeUp_shown {s : State} {j : Nat} {r : Restart} (hr : (s.job j).restart = some r) (htaken : r.taken = false)
    (hstop : (s.job j).stopping = false) (hfew : (s.recentRestarts j).length < 3) :
    (∀ i, (takeUp s j).job i = (s.restartShown j r).job i) ∧ ∀ k < 0x73200, (takeUp s j).word k = (s.restartShown j r).word k := by
  rw [takeUp_restarts hr htaken hstop hfew]
  constructor
  · intro i
    rw [(aside_aoutJobLeaves ..).job]
    exact each_keeps (State.job · i) _ _ _ fun _ _ => rfl
  · intro k hk
    rw [aoutJobLeaves_word _ _ hk]
    exact each_keeps (State.word · k) _ _ _ fun _ _ => rfl

theorem restartShown_job (s : State) (j : Nat) (r : Restart) : (s.restartShown j r).job j = s.takenUp j r := by
  unfold State.restartShown
  generalize (if r.firstIsLast then recordFault s j r.cls r.kind r.unit r.injected r.time else s) = u
  rw [job_of_jobs (raise_jobs ..)]
  exact job_putJob_same u j (s.takenUp j r)

theorem rd_putJob (s : State) (j : Nat) (v : Job) (f : Fld) (i : Nat) : (s.putJob j v).rd f i = s.rd f i := rfl

theorem restartShown_class (s : State) (j : Nat) {r : Restart} (hfirst : r.firstIsLast = true) :
    (s.restartShown j r).rd R.JOB_FAULT_CLASS j = r.cls % 2 ^ R.JOB_FAULT_CLASS.w := by
  have hevt : R.JOB_FAULT_CLASS.key j 0 ≠ R.SUP_EVT_FAULT.key 0 0 := by simp only [R.JOB_FAULT_CLASS, R.SUP_EVT_FAULT, Fld.key]; omega
  have hstat : R.JOB_FAULT_CLASS.key j 0 ≠ 0x4 := by simp only [R.JOB_FAULT_CLASS, Fld.key]; omega
  have hcount : R.JOB_FAULT_CLASS.key j 0 ≠ R.JOB_RST_CNT_RESTARTS.key j 0 := by
    simp only [R.JOB_FAULT_CLASS, R.JOB_RST_CNT_RESTARTS, Fld.key]; omega
  unfold State.restartShown
  rw [raise_rd_ne _ _ _ _ _ hevt hstat, if_pos hfirst, State.bump, State.bumpBy, rd_wr_ne _ _ _ _ _ _ (.inl hcount), rd_putJob,
    recordFault_class]

theorem restartShown_fault (s : State) (j : Nat) (r : Restart) : (s.restartShown j r).on R.SUP_EVT_FAULT 0 = true :=
  raise_on_same _ _ _ (by decide) (by decide) (by decide) (by decide)

/-! ### The epoch advance -/

/-- What the flush of an epoch leaves alone, of a job none of whose tiles holds for a swap: jobs, tags, and the registers of weight sets and
of tiles. -/
structure Flushed (s t : State) : Prop where
  jobs : t.jobs = s.jobs
  tagsHeld : t.tagsHeld = s.tagsHeld
  words : ∀ k, 0x30500 ≤ k → k < 0x4000000 ∨ 0x100000 ≤ k % 0x4000000 → t.word k = s.word k

theorem Flushed.refl (s : State) : Flushed s s := ⟨rfl, rfl, fun _ _ _ => rfl⟩

theorem Flushed.trans {s t u : State} (h : Flushed s t) (h' : Flushed t u) : Flushed s u where
  jobs := h'.jobs.trans h.jobs
  tagsHeld := h'.tagsHeld.trans h.tagsHeld
  words k hk hk' := (h'.words k hk hk').trans (h.words k hk hk')

theorem Flushed.each {α : Type} {l : List α} {f : State → α → State} (hf : ∀ s a, Flushed s (f s a)) (s : State) : Flushed s (s.each l f) :=
  each_inv (Flushed s) l f s (fun t a ht => ht.trans (hf t a)) (.refl s)

theorem Flushed.job {s t : State} (h : Flushed s t) (j : Nat) : t.job j = s.job j := job_of_jobs h.jobs j

theorem Flushed.tileHolding {s t : State} (h : Flushed s t) (x : Nat) : t.tileHolding x = s.tileHolding x := by
  have hword : t.word (R.TCAL_STAT_TABLE.key x 0) = s.word (R.TCAL_STAT_TABLE.key x 0) :=
    h.words _ (by simp only [R.TCAL_STAT_TABLE, Fld.key]; omega) (by simp only [R.TCAL_STAT_TABLE, Fld.key, halfStep]; omega)
  simp only [State.tileHolding, State.rd, State.rd2, hword]

theorem Flushed.wsetStage {s t : State} (h : Flushed s t) (j : Nat) : t.rd R.WSET_JOB_STAGE j = s.rd R.WSET_JOB_STAGE j :=
  congrArg (fieldOf _ _) (h.words _ (by simp only [R.WSET_JOB_STAGE, Fld.key]; omega) (by simp only [R.WSET_JOB_STAGE, Fld.key]; omega))

theorem flushed_wr (s : State) {f : Fld} {i v : Nat} (hf : f.key i 0 < 0x30500) : Flushed s (s.wr f i v) :=
  ⟨rfl, rfl, fun k hk _ => word_wr_ne s f i v (by omega)⟩

theorem flushed_showTags (s : State) (j : Nat) : Flushed s (showTags s j) := by
  have hstat (f : Fld) (hf : f.key j 0 = R.TAG_STAT.key j 0) : f.key j 0 < 0x30500 := by
    rw [hf]; simp only [R.TAG_STAT, Fld.key]; omega
  exact (((flushed_wr s (hstat R.TAG_STAT_IN_USE rfl)).trans (flushed_wr _ (by decide))).trans
    (flushed_wr _ (hstat R.TAG_STAT_QUOTA rfl))).trans (flushed_wr _ (by decide))

theorem flushed_seatEmit (s : State) (n : Nat) (r : Result) : Flushed s (seatEmit s n r) := by
  obtain ⟨chans, tx, h⟩ := seatEmit_eq s n r
  rw [h]
  constructor <;> simp only [State.putOut, State.word, State.setTx_frame, State.setChans_frame, State.setOuts_frame, implies_true]

theorem flushed_seatDrain (s : State) (n keep fuel : Nat) : Flushed s (seatDrain s n keep fuel) := by
  induction fuel generalizing s with
  | zero => exact .refl s
  | succ fuel ih =>
    have hout (o : OutStream) : Flushed s (s.putOut n o) := ⟨rfl, rfl, fun _ _ _ => rfl⟩
    unfold seatDrain
    dsimp only
    split
    · exact .refl s
    · split
      · exact .refl s
      · exact ((hout _).trans (flushed_seatEmit ..)).trans (ih _)

theorem flushed_seatFlush (s : State) (n : Nat) : Flushed s (seatFlush s n) :=
  (flushed_seatDrain ..).trans (flushed_wr _ (by simp only [R.SEAT_STAT_HELD, Fld.key]; omega))

/-- With no batch in flight the path-order stage only gives up what it holds (R110, R337). -/
theorem flushed_flushPathOrder {s : State} {j : Nat} (hnone : ∀ b ∈ s.batches, b.job ≠ j) : Flushed s (flushPathOrder s j) := by
  have hbatches : (s.batches.filter fun b => b.job == j && b.started) = [] :=
    List.filter_eq_nil_iff.2 fun b hb => by simp [hnone b hb]
  unfold flushPathOrder
  dsimp only
  rw [hbatches, each_nil]
  exact ⟨rfl, rfl, fun _ _ _ => rfl⟩

theorem flushed_meshDropJob (s : State) (j : Nat) : Flushed s (meshDropJob s j) := by
  refine .each (fun s k => ?_) s
  have hchip (c : Chip) : Flushed s (s.putChip k c) := ⟨rfl, rfl, fun _ _ _ => rfl⟩
  have hdrop (s : State) (m : MeshTok) : Flushed s (s.bump R.EPOCH_DROP_CNT_COUNT m.clu) :=
    ⟨rfl, rfl, fun k _ hk => word_wr_ne s _ _ _ (by rw [EPOCH_DROP_CNT_key]; omega)⟩
  dsimp only
  split
  · exact (hchip _).trans (.each hdrop _)
  · exact .refl s

/-- No tile of the job holds for a swap: striking its batches swaps none (R206). -/
theorem flushed_strikeTiles {s : State} {j : Nat} (hhold : ∀ t ∈ (s.job j).tiles, s.tileHolding t = false) :
    Flushed s (strikeTiles s j) := by
  refine each_inv_of_mem (Flushed s) _ _ s (fun u t ht hu => ?_) (.refl s)
  have htile (r : TileRec) : Flushed u (u.putTile t r) := ⟨rfl, rfl, fun _ _ _ => rfl⟩
  have hfree (r : TileRec) : (u.putTile t r).tileHolding t = false :=
    ((hu.trans (htile r)).tileHolding t).trans (hhold t (dedupNat_subset ht))
  dsimp only
  rw [hfree, Bool.false_and, if_neg Bool.false_ne_true]
  exact hu.trans (htile _)

theorem retire_idle {s : State} {j : Nat} (h : s.rd R.WSET_JOB_STAGE j ≠ 3) : retire s j = s := by
  simp [retire, h]

/-- A job whose epoch has advanced (R334). -/
def State.epochAdvanced (s : State) (j : Nat) : Job :=
  { s.job j with
    epoch := ((s.job j).epoch + 1) % 4, epochAt := some s.now
    restart := (s.job j).restart.map fun r => { r with advanced := true } }

/-- The state in which the job has its new epoch, its old tokens are marked or gone, and none of its tags is held. -/
def State.epochMarked (s : State) (j : Nat) : State :=
  let s := markStale (s.putJob j (s.epochAdvanced j)) j
  let s := s.setFabric (s.fabric.filter fun h => !(h.place == hubPlace && h.tok.job == j))
  s.setTagsHeld (s.tagsHeld.filter fun e => e.2 != j)

theorem epochMarked_batches (s : State) (j : Nat) : (s.epochMarked j).batches = s.batches := by
  simp only [State.epochMarked, markStale, State.putJob, State.setTagsHeld_frame, State.setFabric_frame, State.setJobs_frame]

theorem epochMarked_job (s : State) (j : Nat) : (s.epochMarked j).job j = s.epochAdvanced j := by
  simp only [State.job, State.epochMarked, markStale, State.putJob, State.setTagsHeld_frame, State.setFabric_frame, State.setJobs_frame,
    spGet_spSet_same]

theorem epochMarked_rd (s : State) (j : Nat) (f : Fld) (i : Nat) : (s.epochMarked j).rd f i = s.rd f i := by
  simp only [State.rd, State.rd2, State.word, State.epochMarked, markStale, State.putJob, State.setTagsHeld_frame, State.setFabric_frame,
    State.setJobs_frame]

theorem epochMarked_tagsHeld (s : State) (j : Nat) : (s.epochMarked j).tagsHeld = s.tagsHeld.filter fun e => e.2 != j := by
  simp only [State.epochMarked, markStale, State.putJob, State.setTagsHeld_frame, State.setFabric_frame, State.setJobs_frame]

/-- What then becomes of the job's results, tokens at chiplets and batches at tiles. -/
def State.epochFlushed (s : State) (j : Nat) : State :=
  strikeTiles (meshDropJob ((flushPathOrder (showTags s j) j).each (List.range 8) fun s p => seatFlush s (outOf j p)) j) j

theorem advanceEpoch_eq (s : State) (j : Nat) : advanceEpoch s j = refreshWait (retire ((s.epochMarked j).epochFlushed j) j) j := rfl

theorem showTags_batches (s : State) (j : Nat) : (showTags s j).batches = s.batches := by simp only [showTags, wr_batches]

theorem flushed_epochFlushed {s : State} {j : Nat} (hbatches : ∀ b ∈ s.batches, b.job ≠ j)
    (hhold : ∀ t ∈ (s.job j).tiles, s.tileHolding t = false) : Flushed s (s.epochFlushed j) := by
  have hpath : Flushed s (flushPathOrder (showTags s j) j) :=
    (flushed_showTags s j).trans (flushed_flushPathOrder (by rwa [showTags_batches]))
  have hmesh := (hpath.trans (.each (l := List.range 8) (fun s p => flushed_seatFlush s (outOf j p)) _)).trans (flushed_meshDropJob _ j)
  refine hmesh.trans (flushed_strikeTiles fun t ht => ?_)
  rw [hmesh.tileHolding]
  exact hhold t (by rwa [hmesh.job] at ht)

/-- The advance of a job's epoch gives it the new one, and returns its tags (R96, R105, R334). -/
theorem advanceEpoch_spec {s : State} {j : Nat} (hstage : s.rd R.WSET_JOB_STAGE j ≠ 3) (hbatches : ∀ b ∈ s.batches, b.job ≠ j)
    (hhold : ∀ t ∈ (s.job j).tiles, s.tileHolding t = false) :
    (∃ w, (advanceEpoch s j).job j = { s.epochAdvanced j with waiting := w }) ∧
      (advanceEpoch s j).tagsHeld = s.tagsHeld.filter fun e => e.2 != j := by
  have htiles : ((s.epochMarked j).job j).tiles = (s.job j).tiles := by rw [epochMarked_job]; rfl
  have hflush : Flushed (s.epochMarked j) ((s.epochMarked j).epochFlushed j) := by
    refine flushed_epochFlushed (by rwa [epochMarked_batches]) fun t ht => ?_
    rw [State.tileHolding, epochMarked_rd]
    exact hhold t (by rwa [htiles] at ht)
  have hretire : retire ((s.epochMarked j).epochFlushed j) j = (s.epochMarked j).epochFlushed j :=
    retire_idle (by rwa [hflush.wsetStage, epochMarked_rd])
  rw [advanceEpoch_eq, hretire]
  constructor
  · obtain ⟨w, hwait⟩ := refreshWait_aside ((s.epochMarked j).epochFlushed j) j
    refine ⟨w, ?_⟩
    rw [hwait.job, job_putJob_same, hflush.job, epochMarked_job]
  · rw [refreshWait_apart State.tagsHeld (fun _ _ _ => rfl), hflush.tagsHeld, epochMarked_tagsHeld]

/-! ### The end of a restart -/

/-- Clearing a job's state leaves the jobs (R334). -/
theorem clearJob_jobs (s : State) (j : Nat) : (clearJob s j).jobs = s.jobs := by
  have hscrub (s : State) (a : Sparse Byte) (b : Sparse Byte) : ((s.setSram a).setStaging b).jobs = s.jobs := by
    simp only [State.setStaging_frame, State.setSram_frame]
  have hpages : (clearPages s j).jobs = s.jobs := each_keeps State.jobs _ _ _ fun s a => scrubPage_apart State.jobs hscrub s a
  have hslots (u : State) : (dropSlots u j).jobs = u.jobs := by
    have hshow (u : State) (c : Nat) : (showSlots u c).jobs = u.jobs := by simp only [showSlots, State.wrSat, wr_jobs]
    have hset (l : List RedSlot) : (u.setSlots l).jobs = u.jobs := by simp only [State.setSlots_frame]
    exact (each_keeps State.jobs _ _ _ hshow).trans (hset _)
  simp only [clearJob, clearRecur, State.setStDone_frame, State.setRecur_frame, hslots, hpages]

theorem clearJob_job (s : State) (j i : Nat) : (clearJob s j).job i = s.job i := job_of_jobs (clearJob_jobs s j) i

/-- A job without chiplets whose restart is complete: WARMING or RUNNING, no longer fenced, and the streams whose first batches are to carry
RESTART (R334). -/
structure Job.Resumed (job : Job) (due : List Nat) : Prop where
  st : job.st = .warming ∨ job.st = .running
  fenced : job.fenced = false
  restart : job.restart = none
  restartDue : job.restartDue = due
  chips : job.chips = []

theorem Job.Resumed.withWaiting {job : Job} {due : List Nat} (h : job.Resumed due) (w : Bool) : { job with waiting := w }.Resumed due :=
  ⟨h.st, h.fenced, h.restart, h.restartDue, h.chips⟩

section Resumed
variable {s : State} {j : Nat} {due : List Nat} (h : (s.job j).Resumed due)
include h

theorem refreshWait_resumed : ((refreshWait s j).job j).Resumed due := by
  obtain ⟨w, hwait⟩ := refreshWait_aside s j
  rw [hwait.job, job_putJob_same]
  exact h.withWaiting w

theorem checkWarm_resumed : ((checkWarm s j).job j).Resumed due := by
  unfold checkWarm
  dsimp only
  split
  · rw [job_putJob_same]
    exact ⟨.inr rfl, h.fenced, h.restart, h.restartDue, h.chips⟩
  · exact h

theorem releaseHolds_resumed : ((releaseHolds s j).job j).Resumed due := by
  unfold releaseHolds
  dsimp only
  split
  · refine refreshWait_resumed ?_
    rw [job_putJob_same]
    exact ⟨h.st, h.fenced, h.restart, h.restartDue, h.chips⟩
  · exact h

/-- A job without chiplets returns to none. -/
theorem seekReturn_resumed : ((seekReturn s j).job j).Resumed due := by
  have hnone : seekReturn s j = s := by
    simp only [seekReturn, h.chips, List.map_nil, dedupNat, List.filter_nil, each_nil]
  rw [hnone]
  exact h

end Resumed

theorem recordGap_jobs (s : State) (j at_ : Nat) : (recordGap s j at_).jobs = s.jobs := by
  unfold recordGap
  extract_lets us u
  have hu : u.jobs = s.jobs := (wr_jobs ..).trans (wr_jobs ..)
  clear_value u
  split
  · rw [raise_jobs, hu]
  · exact hu

theorem restartDone_resumed {s : State} {j : Nat} (r : Restart) (hchips : (s.job j).chips = []) :
    ((restartDone s j r).job j).Resumed (s.job j).streams := by
  unfold restartDone
  extract_lets nb u job v
  have hu : u.job j = s.job j := each_keeps (State.job · j) _ _ _ fun u st => by
    dsimp only
    split <;> rfl
  clear_value u
  have hv : (v.job j).Resumed (s.job j).streams := by
    have hstreams : (u.job j).streams = (s.job j).streams := by rw [hu]
    have hnone : (u.job j).chips = [] := by rw [hu, hchips]
    rw [job_putJob_same]
    exact ⟨.inl rfl, rfl, rfl, hstreams, hnone⟩
  clear_value v
  have hgap : ((recordGap v j r.at_).job j).Resumed (s.job j).streams := by
    rwa [job_of_jobs (recordGap_jobs ..)]
  have hreleased := releaseHolds_resumed (checkWarm_resumed hgap)
  have hwaits := refreshWait_resumed hreleased
  exact seekReturn_resumed hwaits

/-- The state in which a restart has cleared the job and has no remedy left. -/
def State.restartCleared (s : State) (j : Nat) (r : Restart) : State :=
  (clearJob s j).putJob j { s.job j with restart := some { r with remedies := [] } }

/-- A restart with nothing to remedy that is not held completes (R332 to R335). -/
theorem restartComplete_done {s : State} {j : Nat} {r : Restart} (hr : (s.job j).restart = some r) (htaken : r.taken = true)
    (hadvanced : r.advanced = true) (hremedies : r.remedies = [.none]) (hst : (s.job j).st = .restarting) (hheld : (s.job j).heldFor = 0) :
    restartComplete s j = restartDone (s.restartCleared j r) j r := by
  have hready : ¬ (!r.taken || !r.advanced || s.splitOpen j r) = true := by
    simp [State.splitOpen, htaken, hadvanced, hremedies]
  have hjob : (s.restartCleared j r).job j = { s.job j with restart := some { r with remedies := [] } } := job_putJob_same ..
  have hgo : ¬ (decide (((s.restartCleared j r).job j).st ≠ .restarting) || decide (((s.restartCleared j r).job j).heldFor ≠ 0)) = true := by
    simp [hjob, hst, hheld]
  unfold restartComplete
  rw [hr]
  dsimp only
  rw [if_neg hready, clearJob_job, hremedies, each_cons, each_nil, applyRemedy, ← State.restartCleared, if_neg hgo]

/-- Settles O40: a restart that is taken up, advanced or completed is so by its own job's record; without it nothing happens. -/
theorem restartsProceed : Obligations.RestartsProceed := by
  intro s j
  refine ⟨fun r hr => ⟨fun hduties htaken hstop hfew => ?_, fun hidle => ⟨s, ?_, rfl⟩,
    fun hduties htaken hadvanced hstop hready hstage _ hbatches hhold => ?_, fun hidle => ⟨s, ?_, rfl⟩,
    fun hduties htaken hadvanced hremedies _ hst hheld hchips => ?_, fun hidle => ⟨s, ?_, rfl⟩⟩, fun hnone => ?_⟩
  · have hexec : exec (.jobRestart j) s = .next (takeUp s j) := by simp only [exec, execJobRestart, hduties, if_true]
    obtain ⟨hjob, hwords⟩ := takeUp_shown hr htaken hstop hfew
    refine ⟨_, hexec, ?_, ?_, fun hfirst => ?_, ?_, ?_⟩
    · rw [hjob, restartShown_job]; rfl
    · rw [hjob, restartShown_job]; rfl
    · rw [← restartShown_class s j hfirst]
      exact congrArg (fieldOf _ _) (hwords _ (by simp only [R.JOB_FAULT_CLASS, Fld.key]; omega))
    · rw [← restartShown_fault s j r, State.on, State.on]
      exact congrArg (fun w => fieldOf _ _ w != 0) (hwords _ (by decide))
    · rw [hjob, restartShown_job, State.takenUp, List.length_append, List.length_singleton]
      exact hfew
  · obtain hduties | htaken := hidle
    · simp only [exec, execJobRestart, hduties, Bool.false_eq_true, if_false]
    · simp only [exec, execJobRestart, takeUp, hr, htaken, if_true, ite_self]
  · have hexec : exec (.epochAdvance j) s = .next (advanceEpoch s j) := by
      simp only [exec, execEpochAdvance, hr, hduties, htaken, hadvanced, hready, hstop, Bool.not_true, Bool.or_self, Bool.false_eq_true,
        if_false]
    obtain ⟨⟨w, hjob⟩, htags⟩ := advanceEpoch_spec hstage hbatches hhold
    refine ⟨_, hexec, by rw [hjob]; rfl, by rw [hjob]; rfl, ?_, fun e he => ?_⟩
    · rw [hjob, State.epochAdvanced, hr]; rfl
    · rw [htags] at he
      exact bne_iff_ne.1 (List.mem_filter.1 he).2
  · have hwaits : (!s.dutiesRun || !r.taken || r.advanced || !s.epochReady j.val) = true := by
      obtain h | h | h | h := hidle <;> simp [h]
    simp only [exec, execEpochAdvance, hr, hwaits, if_true]
  · have hexec : exec (.restartComplete j) s = .next (restartDone (s.restartCleared j r) j r) := by
      simp only [exec, execRestartComplete, hduties, if_true, restartComplete_done hr htaken hadvanced hremedies hst hheld]
    have hjob : (s.restartCleared j r).job j = { s.job j with restart := some { r with remedies := [] } } := job_putJob_same ..
    obtain ⟨hst', hfenced, hrestart, hdue, -⟩ := restartDone_resumed (s := s.restartCleared j r) (j := j) r (by rw [hjob]; exact hchips)
    exact ⟨_, hexec, hst', hfenced, hrestart, by rw [hdue, hjob]⟩
  · obtain hduties | hidle := hidle
    · simp only [exec, execRestartComplete, hduties, Bool.false_eq_true, if_false]
    · have hwaits : (!r.taken || !r.advanced || s.splitOpen j r) = true := by
        obtain h | h := hidle <;> simp [h]
      simp only [exec, execRestartComplete, restartComplete, hr, hwaits, if_true, ite_self]
  · refine ⟨⟨s, ?_, rfl⟩, ⟨s, ?_, rfl⟩, ⟨s, ?_, rfl⟩⟩
    · simp only [exec, execJobRestart, takeUp, hnone, ite_self]
    · simp only [exec, execEpochAdvance, hnone]
    · simp only [exec, execRestartComplete, restartComplete, hnone, ite_self]

end Sys2Proof.Machine
end

section
/-! PROOF. The family of 04_clusters_and_pitch.md: where a circuit's loss merges a second codeword (O47). -/

namespace Sys2Proof.Machine

/-! O47 takes the direction's striping map to name one circuit, and leaves open how many of its circuits are UP. The state below has two
UP and one of them in the map, as `restripe` never leaves it: its sixteenth uncorrectable codeword in a row takes the mapped circuit
DOWN, `linkWatch` then brings the other into the map, and the codeword waiting there is merged in the same `codeword`, and counted too. -/

/-- A lane UP on column 0 for bridge 0, its circuit's other end at lane `mate`, after `ue` uncorrectable codewords in a row. -/
def staleLane (mate ue : Nat) (deskew : List Codeword) : Lane := ⟨lnUp, 0, 8, 0, false, some mate, ue, 0, deskew⟩

/-- Bridge direction 0 with the circuits from lanes 0 and 1 of chiplet 0 to lanes 16 and 17 of chiplet 2 UP, of which its map names the
first; at the second an uncorrectable codeword waits. -/
def staleMap : State :=
  (State.reset.setLanes
      [(0, staleLane 80 15 []), (1, staleLane 81 0 []), (80, staleLane 0 15 []), (81, staleLane 1 0 [⟨8, []⟩])]).setDirs
    [(0, { BridgeDir.reset with map := [0] })]

/-- The map of direction 0 lags behind its circuits: the hypothesis the statement lacks. -/
theorem staleMap_lags : (staleMap.dir 0).map = [0] ∧ staleMap.dirLanes 0 = [0, 1] := by decide +kernel

/-- One uncorrectable codeword received on the mapped circuit counts two, that of the other circuit with it. -/
theorem staleMap_counts_two : staleMap.rd R.CW_UE_CNT_COUNT 2 = 0 ∧ (codeword staleMap 2 16 8 []).rd R.CW_UE_CNT_COUNT 2 = 2 := by
  decide +kernel

/-- Refutes O47: in `staleMap` the sixteenth uncorrectable codeword in a row raises CW_UE_CNT of chiplet 2 by two. The statement asks that
the map of the direction names one circuit, not that only that one is UP. -/
theorem not_circuitsAndCodewords : ¬ Obligations.CircuitsAndCodewords := by
  intro h
  obtain ⟨-, lanes, -⟩ := h staleMap
  obtain ⟨-, -, -, -, -, -, -, -, received⟩ := lanes 2 16
  obtain ⟨-, uncorrectable⟩ := received 0 (by decide) (by decide) (by decide) (by decide) (by decide) (by decide) (by decide)
    (by decide) (by decide) (by decide) staleMap_lags.1 (by decide) (by decide) 8
  obtain ⟨t, merged, counted, -⟩ := uncorrectable (by decide)
  obtain rfl : codeword staleMap 2 16 8 [] = t := Host.Outcome.next.inj merged
  obtain ⟨before, after⟩ := staleMap_counts_two
  have counts_one : (codeword staleMap 2 16 8 []).rd R.CW_UE_CNT_COUNT 2 = (staleMap.rd R.CW_UE_CNT_COUNT 2 + 1) % 2 ^ 32 := counted
  rw [before, after] at counts_one
  exact absurd counts_one (by decide)

end Sys2Proof.Machine
end

section
/-! PROOF. The family of 05_optical_mixing_engine.md: reads of the data windows (O21). -/

namespace Sys2Proof.Machine

/-! ### Reads of a data window -/

/-- The register table of TCAL_DATA. -/
def tcalDataReg : RegSpec := ⟨"TCAL_DATA", 0x4100034, 2048, 4096, 0x200, 1, 0, .none, [⟨0, 32, .rw, 0, false⟩]⟩

/-- No register of the tile block that stands before TCAL_DATA in the map reaches its key: below its base it has no inner index, above it ends
before the next tile. -/
theorem tileRow_misses_tcalData {r : RegSpec} (h : r ∈ regsTile.take 16) (a q : Nat) :
    r.covers (0x4100034 + halfStep * a + 0x200 * q) = false := by
  have hrow : ∀ r ∈ regsTile.take 16, r.per = 2048 ∧ r.s1 = 0x200 ∧ 0x4100000 ≤ r.base ∧ r.base < 0x4100100 ∧ r.base ≠ 0x4100034 ∧
      (r.s2 = 0 ∨ 0x4100034 < r.base ∧ r.s2 = 4 ∧ r.n2 ≤ 16) := by decide
  obtain ⟨hper, hs1, hlo, hhi, hne, hs2⟩ := hrow r h
  unfold RegSpec.covers halfStep
  simp only [hper, hs1, Nat.reduceEqDiff, if_false, Bool.and_eq_false_iff, decide_eq_false_iff_not]
  obtain hs2 | ⟨habove, hs2, hn2⟩ := hs2
  · simp only [hs2, if_true, decide_eq_false_iff_not]
    omega
  · simp only [hs2, Nat.reduceEqDiff, if_false, Bool.and_eq_false_iff, decide_eq_false_iff_not]
    omega

theorem findReg_tcalData (t : Nat) : findReg (R.TCAL_DATA.key t 0) = some tcalDataReg := by
  let a := t % 4096 / 2048
  let q := t % 4096 % 2048
  have hkey : R.TCAL_DATA.key t 0 = 0x4100034 + halfStep * a + 0x200 * q := by simp [R.TCAL_DATA, Fld.key, a, q]
  have ha : a < 2 := by omega
  have hq : q < 2048 := by omega
  have hrows : regRows (R.TCAL_DATA.key t 0) = regsTile := by
    rw [hkey]
    unfold regRows halfStep
    dsimp only
    iterate 17 rw [if_neg (by omega)]
  rw [findReg, hrows, List.find?_eq_some_iff_append, hkey]
  refine ⟨?_, regsTile.take 16, regsTile.drop 17, rfl, fun r hr => by simp [tileRow_misses_tcalData hr a q]⟩
  unfold RegSpec.covers tcalDataReg halfStep
  simp only [Nat.reduceEqDiff, if_false, if_true, Bool.and_eq_true, decide_eq_true_eq]
  omega

/-- A register that a read leaves as it is: it has neither rc nor rs fields. -/
def RegSpec.readsPlainly (r : RegSpec) : Prop := r.accMask .rs = 0 ∧ r.accMask .rc = 0

theorem readEffect_plain {r : RegSpec} (h : r.readsPlainly) (s : State) (key : Nat) (v : Word) : readEffect s r key v = s := by
  obtain ⟨hrs, hrc⟩ := h
  simp [readEffect, State.clearMask, hrs, hrc]

/-- While no store of the array runs there is nothing to bring to this instant. -/
theorem nvAdvance_idle {s : State} (h : s.nvRun = none) : nvAdvance s = s := by simp [nvAdvance, h]

/-- A read of a word without fields to clear shows it and advances its window. -/
theorem readPlain_window {s : State} {r : RegSpec} {key : Nat} (hg : s.gated key = false) (hr : r.readsPlainly)
    (hnv : r.base = 0x72018 → s.nvRun = none) : readPlain s r key = (s.view r key, windowStep s r key true) := by
  have hadvance : (if r.base = 0x72018 then nvAdvance s else s) = s := by
    split
    · exact nvAdvance_idle (hnv ‹_›)
    · rfl
  simp only [readPlain, hg, Bool.false_eq_true, if_false, hadvance, readEffect_plain hr]

/-- A host read of a register of the direct space that is no word of a 64-bit value. -/
theorem keyRead_direct {s : State} {key : Nat} {r : RegSpec} (hk : key < halfStep) (hr : findReg key = some r)
    (hboot : s.on R.SYS_STAT_BOOT_DONE 0 = true) (h24 : key ≠ 0x24) (hwide : isWideLo key = false ∧ isWideHi key = false)
    (hg : s.gated key = false) : keyRead s key = gave (readPlain s r key).2 (readPlain s r key).1 := by
  have hlt := direct_key_lt hk hr
  have hreach : s.reachable key = true := by simp [State.reachable, hboot]
  have hdirect : readDirect s r key = readPlain s r key := by simp [readDirect, hg, hwide]
  simp only [keyRead, hk, if_true, hostRead, hreach, State.readWord, h24, if_false, show ¬ (0x100000 ≤ key ∧ key < 0x140000) by omega,
    show ¬ (0x800000 ≤ key ∧ key < 0x804000) by omega, hr, show ¬ halfStep ≤ key by omega, hdirect]

/-- A host read of a register of a half that can be reached. -/
theorem keyRead_half {s : State} {key : Nat} {r : RegSpec} (hk : halfStep ≤ key) (hd : key / halfStep - 1 < 2)
    (hr : findReg key = some r) (hboot : s.on R.SYS_STAT_BOOT_DONE 0 = true) (hreach : s.halfReached (key / halfStep - 1) = true) :
    keyRead s key = gave (readPlain s r key).2 (readPlain s r key).1 := by
  have hkey : indKey (key / halfStep - 1) (key % halfStep) = key := by unfold indKey halfStep at *; omega
  simp only [keyRead, show ¬ key < halfStep by omega, if_false, hboot, if_true, indFetch, hd, hreach, hkey, hr]

/-- The register of a data window (R154, R193, R224, R343, R395, R410, R426): at outer index `i` of its table of base `base`. -/
def WindowAt (key base i : Nat) : Prop :=
  ∃ r, findReg key = some r ∧ r.base = base ∧ r.outer key = i ∧ r.readsPlainly

theorem windowAt_of_eval {key base i : Nat}
    (h : (findReg key).any (fun r => r.base == base && r.outer key == i && r.accMask .rs == 0 && r.accMask .rc == 0) = true) :
    WindowAt key base i := by
  obtain ⟨r, hr, hrow⟩ := (Option.any_eq_true _ _).1 h
  simp only [Bool.and_eq_true, beq_iff_eq] at hrow
  obtain ⟨⟨⟨hbase, houter⟩, hrs⟩, hrc⟩ := hrow
  exact ⟨r, hr, hbase, houter, hrs, hrc⟩

theorem windowAt_tcal (t : Fin 4096) : WindowAt (R.TCAL_DATA.key t 0) 0x4100034 t := by
  refine ⟨tcalDataReg, findReg_tcalData t, rfl, ?_, by decide, by decide⟩
  simp only [RegSpec.outer, tcalDataReg, R.TCAL_DATA, Fld.key, halfStep, Nat.reduceEqDiff, if_false]
  omega

/-- What `DataWindowReads` says of one window: what its read gives, and how its index advances. -/
def Reads (s : State) (c : Instr) (ainc ix : Fld) (i n : Nat) (v : Word) : Prop :=
  (s.on ainc i = false → Does c s fun t => t = s.setBus { s.bus with lastRead := leBytes 4 v.toNat }) ∧
  (s.on ainc i = true → Does c s fun t => t = (s.wr ix i (s.rd ix i + n)).setBus { s.bus with lastRead := leBytes 4 v.toNat })

theorem reads_of_exec {s : State} {c : Instr} {ainc ix : Fld} {i n : Nat} {v : Word}
    (h : exec c s = .next (gave (stepIndex s ix ainc i n) v)) : Reads s c ainc ix i n v := by
  refine ⟨fun hoff => ⟨_, h, ?_⟩, fun hon => ⟨_, h, ?_⟩⟩
  · simp only [stepIndex, hoff, Bool.false_eq_true, if_false, gave]
  · simp only [stepIndex, hon, if_true, gave]
    rfl

/-- A read of the window at outer index `i` of the table of base `base` in the direct space. -/
theorem reads_direct {s : State} {c : Instr} {ainc ix : Fld} {key base i j n : Nat} {v : Word} (hboot : s.on R.SYS_STAT_BOOT_DONE 0 = true)
    (hexec : exec c s = .next (keyRead s key)) (hw : WindowAt key base i)
    (hkey : key < halfStep ∧ key ≠ 0x24 ∧ isWideLo key = false ∧ isWideHi key = false) (hg : s.gated key = false)
    (hnv : base = 0x72018 → s.nvRun = none)
    (hstep : ∀ r : RegSpec, r.base = base → r.outer key = i → windowStep s r key true = stepIndex s ix ainc j n)
    (hview : ∀ r : RegSpec, r.base = base → r.outer key = i → s.view r key = v) : Reads s c ainc ix j n v := by
  obtain ⟨r, hr, hbase, houter, hplain⟩ := hw
  obtain ⟨hk, h24, hwide⟩ := hkey
  refine reads_of_exec ?_
  rw [hexec, keyRead_direct hk hr hboot h24 hwide hg, readPlain_window hg hplain (hbase ▸ hnv), ← hstep r hbase houter,
    ← hview r hbase houter]

/-- A bit of a word is its field of width 1. -/
theorem bitOf_eq (x : Word) (b : Nat) : bitOf x b = (fieldOf b 1 x != 0) := by
  rw [Bool.eq_iff_iff, bne_iff_ne, fieldOf, pow_one, Nat.mod_two_ne_zero, bitOf, BitVec.getLsbD, Nat.testBit_eq_decide_div_mod_eq,
    decide_eq_true_eq]

/-- A block of registers outside CLK_EN is never gated. -/
theorem gated_free (s : State) {key : Nat} (h : blockBit key = none) : s.gated key = false := by simp [State.gated, h]

theorem blockBit_half {key : Nat} (h : halfStep ≤ key) : blockBit key = none := by
  unfold blockBit halfStep at *
  simp only [show ¬ key < 0x60030 by omega, show ¬ key < 0x60070 by omega, show ¬ key < 0x60510 by omega, show ¬ key < 0x60520 by omega,
    show ¬ key < 0x60940 by omega, show ¬ key < 0x60A60 by omega, show ¬ key < 0x73024 by omega, show ¬ key < 0x73200 by omega,
    show ¬ (key = 0x7300C ∨ 0x73024 ≤ key ∧ key < 0x7302C) by omega, show ¬ key < 0x73300 by omega, and_false, if_false]

theorem reads_meshTbl {s : State} (hboot : s.on R.SYS_STAT_BOOT_DONE 0 = true) (k : Fin 4) :
    Reads s (.meshTblDataAccess k none) R.MESH_TBL_ADDR_AINC R.MESH_TBL_ADDR_INDEX k 1
      (if s.rd R.MESH_TBL_ADDR_INDEX k < areaSize (s.rd R.MESH_TBL_ADDR_AREA k) then
        s.meshTblAt k (s.rd R.MESH_TBL_ADDR_BANK k) (s.rd R.MESH_TBL_ADDR_AREA k) (s.rd R.MESH_TBL_ADDR_INDEX k) else 0) :=
  reads_direct (key := R.MESH_TBL_DATA.key k 0) hboot rfl (windowAt_of_eval (base := 0x4003C) (i := k) (by revert k; decide +kernel))
    (by revert k; decide) (gated_free s (by revert k; decide)) (fun h => absurd h (by decide))
    (fun r hbase houter => by simp only [windowStep, hbase, houter]) (fun r hbase houter => by simp only [State.view, hbase, houter])

theorem reads_ring {s : State} (hboot : s.on R.SYS_STAT_BOOT_DONE 0 = true) (k : Fin 4) :
    Reads s (.ringDataAccess k none) R.RING_ADDR_AINC R.RING_ADDR_INDEX k 1 (s.ringWord k (s.rd R.RING_ADDR_INDEX k)) :=
  reads_direct (key := R.RING_DATA.key k 0) hboot rfl (windowAt_of_eval (base := 0x4100C) (i := k) (by revert k; decide +kernel))
    (by revert k; decide) (gated_free s (by revert k; decide)) (fun h => absurd h (by decide))
    (fun r hbase houter => by simp only [windowStep, hbase, houter]) (fun r hbase houter => by simp only [State.view, hbase, houter])

/-- TCAL_DATA lies behind the indirect window of its half. -/
theorem reads_tcal {s : State} (hboot : s.on R.SYS_STAT_BOOT_DONE 0 = true) {t : Fin 4096} (hreach : s.halfReached (halfOfTile t) = true) :
    Reads s (.tcalDataAccess t none) R.TCAL_ADDR_AINC R.TCAL_ADDR_INDEX t 1
      (if s.rd R.TCAL_ADDR_INDEX t < 282 then s.tcalAt t (s.rd R.TCAL_ADDR_BANK t) (s.rd R.TCAL_ADDR_INDEX t) else 0) := by
  obtain ⟨r, hr, hbase, houter, hplain⟩ := windowAt_tcal t
  have hkey : R.TCAL_DATA.key t 0 = 0x4100034 + 0x4000000 * (t.val / 2048) + 0x200 * (t.val % 2048) := by
    simp only [R.TCAL_DATA, Fld.key, halfStep]
    omega
  have hhalf : R.TCAL_DATA.key t 0 / halfStep - 1 = halfOfTile t := by unfold halfStep halfOfTile; omega
  have hfar : halfStep ≤ R.TCAL_DATA.key t 0 := by unfold halfStep; omega
  have hread : keyRead s (R.TCAL_DATA.key t 0) = _ :=
    keyRead_half hfar (by rw [hhalf]; unfold halfOfTile; omega) hr hboot (by rwa [hhalf])
  refine reads_of_exec ?_
  simp only [exec, execTcalDataAccess, windowAccess, hread, readPlain_window (gated_free s (blockBit_half hfar)) hplain
    (by simp [hbase]), windowStep, State.view, hbase, houter]

/-- Settles O21: each window is a register whose read clears nothing, shows the entry its address names and advances the address. -/
theorem dataWindowReads : Obligations.DataWindowReads := by
  intro s hboot
  refine ⟨reads_meshTbl hboot, fun t => reads_tcal hboot, reads_ring hboot, ?_, ?_, fun hnv => ?_, fun haout => ?_⟩
  · exact reads_direct (key := R.TEMP_DATA.key 0 0) hboot rfl (windowAt_of_eval (base := 0x71034) (i := 0) (by decide +kernel))
      (by decide) (gated_free s (by decide)) (fun h => absurd h (by decide)) (fun r hbase _ => by simp only [windowStep, hbase])
      (fun r hbase _ => by simp only [State.view, hbase])
  · exact reads_direct (key := R.PT_DATA.key 0 0) hboot rfl (windowAt_of_eval (base := 0x20404) (i := 0) (by decide +kernel))
      (by decide) (gated_free s (by decide)) (fun h => absurd h (by decide)) (fun r hbase _ => by simp only [windowStep, hbase, if_true])
      (fun r hbase _ => by simp only [State.view, hbase])
  · exact reads_direct (key := R.NV_RAW_DATA.key 0 0) hboot rfl (windowAt_of_eval (base := 0x72018) (i := 0) (by decide +kernel))
      (by decide) (gated_free s (by decide)) (fun _ => hnv) (fun r hbase _ => by simp only [windowStep, hbase, if_true])
      (fun r hbase _ => by simp only [State.view, hbase])
  · have hopen : s.gated (R.SINE_TBL_DATA.key 0 0) = false := by
      have hbit : bitOf (s.word (R.CLK_EN.key 0 0)) 17 = true := (bitOf_eq ..).trans haout
      simp only [State.gated, show blockBit (R.SINE_TBL_DATA.key 0 0) = some 17 by decide, Option.map_some, Option.getD_some, hbit,
        Bool.not_true]
    exact reads_direct (key := R.SINE_TBL_DATA.key 0 0) hboot rfl (windowAt_of_eval (base := 0x73028) (i := 0) (by decide +kernel))
      (by decide) hopen (fun h => absurd h (by decide)) (fun r hbase _ => by simp only [windowStep, hbase])
      (fun r hbase _ => by simp only [State.view, hbase])

end Sys2Proof.Machine
end

section
/-! PROOF. The family of 05_optical_mixing_engine.md: writes of the configuration registers (O20). -/

namespace Sys2Proof.Machine

/-! ### Fields of written words -/

theorem fieldOf_congr {lo w : Nat} {x y : Word} (hw : lo + w ≤ 32) (h : x &&& fieldMask lo w = y &&& fieldMask lo w) :
    fieldOf lo w x = fieldOf lo w y := by
  apply Nat.eq_of_testBit_eq
  intro i
  rw [fieldOf_testBit, fieldOf_testBit]
  by_cases hi : i < w
  · have hbit := congrArg (·.getLsbD (lo + i)) h
    simp only [BitVec.getLsbD_and, fieldMask_getLsbD] at hbit
    simpa [hi, show lo + i < 32 by omega] using hbit
  · simp [hi]

/-- Of a word merged from an old one and a new one by a mask, the bits within the mask are the new one's. -/
theorem merge_takes {x v m M : Word} (h : M &&& m = M) : ((x &&& ~~~m) ||| (v &&& m)) &&& M = v &&& M := by
  refine BitVec.eq_of_getLsbD_eq fun i hi => ?_
  have hbit := congrArg (·.getLsbD i) h
  simp only [BitVec.getLsbD_and] at hbit
  simp only [BitVec.getLsbD_and, BitVec.getLsbD_or, BitVec.getLsbD_not, hi]
  revert hbit
  cases M.getLsbD i <;> cases m.getLsbD i <;> simp

/-- The bits outside the mask are the old one's. -/
theorem merge_keeps {x v m M : Word} (h : M &&& m = 0) : ((x &&& ~~~m) ||| (v &&& m)) &&& M = x &&& M := by
  refine BitVec.eq_of_getLsbD_eq fun i hi => ?_
  have hbit := congrArg (·.getLsbD i) h
  simp only [BitVec.getLsbD_and, BitVec.ofNat_eq_ofNat, BitVec.getLsbD_zero] at hbit
  simp only [BitVec.getLsbD_and, BitVec.getLsbD_or, BitVec.getLsbD_not, hi]
  revert hbit
  cases M.getLsbD i <;> cases m.getLsbD i <;> simp

/-! ### Configuration registers -/

/-- A configuration register of the direct space that is never gated and has no rs fields, at outer index `i` of its table of base `base`:
its rw, wk and reserved rw bits. -/
structure CfgAt (key base i : Nat) (rw wk rsv : Word) (r : RegSpec) : Prop where
  found : findReg key = some r
  base : r.base = base
  outer : r.outer key = i
  rs : r.accMask .rs = 0
  rw : r.accMask .rw = rw
  wk : r.accMask .wk = wk
  rsv : r.rsvMask = rsv
  direct : key < halfStep
  apart : key ≠ 0x4 ∧ key ≠ 0x8 ∧ key ≠ 0x10
  block : blockBit key = none

theorem cfgAt_of_eval {key base i : Nat} {rw wk rsv : Word}
    (h : (findReg key).any (fun r => r.base == base && r.outer key == i && r.accMask .rs == 0 && r.accMask .rw == rw &&
      r.accMask .wk == wk && r.rsvMask == rsv) = true ∧ key < halfStep ∧ (key ≠ 0x4 ∧ key ≠ 0x8 ∧ key ≠ 0x10) ∧ blockBit key = none) :
    ∃ r, CfgAt key base i rw wk rsv r := by
  obtain ⟨hfind, hdirect, hapart, hblock⟩ := h
  obtain ⟨r, hr, hrow⟩ := (Option.any_eq_true _ _).1 hfind
  simp only [Bool.and_eq_true, beq_iff_eq] at hrow
  obtain ⟨⟨⟨⟨⟨hbase, houter⟩, hrs⟩, hrw⟩, hwk⟩, hrsv⟩ := hrow
  exact ⟨r, hr, hbase, houter, hrs, hrw, hwk, hrsv, hdirect, hapart, hblock⟩

section
/-! PROOF. The family of 05_optical_mixing_engine.md: writes of the configuration registers (O20). -/

variable {key base i : Nat} {rw wk rsv : Word} {r : RegSpec} (h : CfgAt key base i rw wk rsv r)
include h

theorem CfgAt.hostWrite {s : State} (v : Word) (hboot : s.on R.SYS_STAT_BOOT_DONE 0 = true) :
    hostWrite s key v = writeReg (setKey s false) r key v s.keyOpen := hostWrite_register h.direct h.apart.2.2 h.found hboot

theorem CfgAt.gated (s : State) : s.gated key = false := gated_free s h.block

theorem CfgAt.writeWhole (s : State) (v : Word) (k : Bool) : writeWhole s r key v k = writeBits s r key (BitVec.allOnes 32) v k :=
  writeWhole_of_no_rs h.rs

/-- Of the bits that are not reserved the access types alone say which a write sets. -/
theorem CfgAt.and_writeMask (s : State) (k : Bool) {M : Word} (hM : M &&& rsv = 0) :
    M &&& s.writeMask r k = M &&& (rw ||| if k then wk else 0) := by
  have hnone : M &&& (if s.sysState = stTest then rsv else 0) = 0 := by
    split
    · exact hM
    · exact BitVec.and_zero
  rw [State.writeMask, h.rw, h.wk, h.rsv, BitVec.and_or_distrib_left, hnone]
  exact BitVec.or_zero

/-- Writable bits take the value. -/
theorem CfgAt.takes (s : State) (k : Bool) (bits v : Word) {M : Word} (hrsv : M &&& rsv = 0)
    (hM : (M &&& (rw ||| if k then wk else 0)) &&& bits = M) : (writeBits s r key bits v k).word key &&& M = v &&& M := by
  rw [writeBits_word s r bits v k h.apart.1 h.apart.2.1]
  exact merge_takes (by rw [← BitVec.and_assoc, h.and_writeMask s k hrsv, hM])

/-- Bits that are not writable stay. -/
theorem CfgAt.keeps (s : State) (k : Bool) (bits v : Word) {M : Word} (hrsv : M &&& rsv = 0)
    (hM : (M &&& (rw ||| if k then wk else 0)) &&& bits = 0) : (writeBits s r key bits v k).word key &&& M = s.word key &&& M := by
  rw [writeBits_word s r bits v k h.apart.1 h.apart.2.1]
  exact merge_keeps (by rw [← BitVec.and_assoc, h.and_writeMask s k hrsv, hM])

/-- A writable field takes its bits of the value. -/
theorem CfgAt.rd_takes (s : State) (k : Bool) (bits v : Word) {f : Fld} {n : Nat} (hf : f.key n 0 = key) (hw : f.lo + f.w ≤ 32)
    (hrsv : fieldMask f.lo f.w &&& rsv = 0)
    (hM : (fieldMask f.lo f.w &&& (rw ||| if k then wk else 0)) &&& bits = fieldMask f.lo f.w) :
    (writeBits s r key bits v k).rd f n = fieldOf f.lo f.w v := by
  simp only [State.rd, State.rd2, hf]
  exact fieldOf_congr hw (h.takes s k bits v hrsv hM)

/-- A field that is not writable stays. -/
theorem CfgAt.rd_keeps (s : State) (k : Bool) (bits v : Word) {f : Fld} {n : Nat} (hf : f.key n 0 = key) (hw : f.lo + f.w ≤ 32)
    (hrsv : fieldMask f.lo f.w &&& rsv = 0)
    (hM : (fieldMask f.lo f.w &&& (rw ||| if k then wk else 0)) &&& bits = 0) :
    (writeBits s r key bits v k).rd f n = s.rd f n := by
  simp only [State.rd, State.rd2, hf]
  exact fieldOf_congr hw (h.keeps s k bits v hrsv hM)

end

/-- Every other word but SYS_STAT and SYS_EVT is left as it is. -/
theorem writeBits_word_ne (s : State) (r : RegSpec) {key k' : Nat} (bits v : Word) (k : Bool) (h : k' ≠ key) (h4 : k' ≠ 0x4)
    (h8 : k' ≠ 0x8) : (writeBits s r key bits v k).word k' = s.word k' := by
  rw [writeBits_apart (·.word k') (fun u => raise_word_ne u _ 0 h8 h4) (fun u => raise_word_ne u _ 0 h8 h4)]
  exact word_setWord_ne s _ h

/-- Whatever registers, write-back memory and bus leave alone, a write of bits leaves alone. -/
theorem writeBits_leaves {α : Type} (g : State → α) (hg : ∀ s r w b, g (((s.setRegs r).setWb w).setBus b) = g s) (s : State) (r : RegSpec)
    (key : Nat) (bits v : Word) (k : Bool) : g (writeBits s r key bits v k) = g s := by
  have hraise (f : Fld) (u : State) : g (u.raise f 0) = g u := by rw [raise_eq, hg]
  rw [writeBits_apart g (hraise _) (hraise _)]
  exact hg s (s.setWord key _).regs s.wb s.bus

theorem rd_of_word {s t : State} {f : Fld} {i : Nat} (h : t.word (f.key i 0) = s.word (f.key i 0)) : t.rd f i = s.rd f i := by
  simp only [State.rd, State.rd2, h]

theorem on_of_word {s t : State} {f : Fld} {i : Nat} (h : t.word (f.key i 0) = s.word (f.key i 0)) : t.on f i = s.on f i :=
  congrArg (· != 0) (rd_of_word h)

/-- Closing the key leaves every register but SYS_STAT. -/
theorem rd_setKey (s : State) (b : Bool) {f : Fld} {i : Nat} (h : f.key i 0 ≠ 0x4) : (setKey s b).rd f i = s.rd f i :=
  rd_of_word (setKey_word_ne s b h)

theorem on_eq_false {s : State} {f : Fld} {i : Nat} : s.on f i = false ↔ s.rd f i = 0 := by simp [State.on]

/-! ### The selector of the feeds -/

/-- Which feed is in use depends on the word of FEED_STAT alone. -/
theorem feedInUse_of_word {s t : State} (h : t.word 0x40804 = s.word 0x40804) : t.feedInUse = s.feedInUse := rd_of_word h

theorem feedOk_of_word {s t : State} (h : t.word 0x40804 = s.word 0x40804) (f : Nat) : t.feedOk f = s.feedOk f := by
  simp only [State.feedOk, on_of_word (f := R.FEED_STAT_A_OK) (i := 0) h, on_of_word (f := R.FEED_STAT_B_OK) (i := 0) h]

/-- A move of the selector begins. -/
theorem beginMove_moves {s : State} (f : Nat) (h : s.on R.FEED_STAT_MOVING 0 = false) :
    (beginMove s f).on R.FEED_STAT_MOVING 0 = true ∧ (beginMove s f).feedMove = some (f, s.now) := by
  unfold beginMove
  simp only [h, Bool.false_eq_true, if_false]
  generalize (darken s).each chipNums darkChip = u
  have hset : (u.wr R.FEED_STAT_MOVING 0 1).rd R.FEED_STAT_MOVING 0 = 1 := rd_wr_same u R.FEED_STAT_MOVING 0 1 (by decide)
  exact ⟨congrArg (· != 0) hset, rfl⟩

/-- FEED_CFG takes effect by a move to the primary feed (R127). -/
theorem feedCfgEffect_primary {s : State} (hother : s.rd R.FEED_CFG_PRIMARY 0 ≠ s.feedInUse)
    (hok : s.feedOk (s.rd R.FEED_CFG_PRIMARY 0) = true) : feedCfgEffect s = beginMove s (s.rd R.FEED_CFG_PRIMARY 0) := by
  simp only [feedCfgEffect, hother, hok, ne_eq, not_false_eq_true, and_self, if_true]

/-- With AUTO set it moves from a lost feed to the other one (R127). -/
theorem feedCfgEffect_auto {s : State} (hstay : s.rd R.FEED_CFG_PRIMARY 0 = s.feedInUse ∨ s.feedOk (s.rd R.FEED_CFG_PRIMARY 0) = false)
    (hauto : s.on R.FEED_CFG_AUTO 0 = true) (hlost : s.feedOk s.feedInUse = false) (hother : s.feedOk (1 - s.feedInUse) = true) :
    feedCfgEffect s = beginMove s (1 - s.feedInUse) := by
  have hno : ¬ (s.rd R.FEED_CFG_PRIMARY 0 ≠ s.feedInUse ∧ s.feedOk (s.rd R.FEED_CFG_PRIMARY 0) = true) := by
    obtain h | h := hstay <;> simp [h]
  simp only [feedCfgEffect, hno, if_false, hauto, hlost, hother, Bool.not_false, and_self, if_true]

/-- Otherwise the selector stays. -/
theorem feedCfgEffect_stays {s : State} (hstay : s.rd R.FEED_CFG_PRIMARY 0 = s.feedInUse ∨ s.feedOk (s.rd R.FEED_CFG_PRIMARY 0) = false)
    (hno : s.rd R.FEED_CFG_AUTO 0 = 0 ∨ s.feedOk s.feedInUse = true ∨ s.feedOk (1 - s.feedInUse) = false) : feedCfgEffect s = s := by
  have hprimary : ¬ (s.rd R.FEED_CFG_PRIMARY 0 ≠ s.feedInUse ∧ s.feedOk (s.rd R.FEED_CFG_PRIMARY 0) = true) := by
    obtain h | h := hstay <;> simp [h]
  have hauto : ¬ (s.on R.FEED_CFG_AUTO 0 = true ∧ (!s.feedOk s.feedInUse) = true ∧ s.feedOk (1 - s.feedInUse) = true) := by
    obtain h | h | h := hno
    · simp [on_eq_false.2 h]
    all_goals simp [h]
  simp only [feedCfgEffect, hprimary, hauto, if_false]

/-! ### The writes -/

/-- FEED_CFG as the host has written it, before it takes effect. -/
structure FeedCfgWritten (s u : State) (v : Word) : Prop where
  stat : u.word 0x40804 = s.word 0x40804
  move : u.feedMove = s.feedMove
  now : u.now = s.now
  closed : s.keyOpen = false → u.rd R.FEED_CFG_PRIMARY 0 = s.rd R.FEED_CFG_PRIMARY 0 ∧ u.rd R.FEED_CFG_AUTO 0 = s.rd R.FEED_CFG_AUTO 0
  opened : s.keyOpen = true → u.rd R.FEED_CFG_PRIMARY 0 = fieldOf 0 1 v ∧ u.rd R.FEED_CFG_AUTO 0 = fieldOf 1 1 v

theorem feedCfgWrite_written {s : State} (v : Word) (hboot : s.on R.SYS_STAT_BOOT_DONE 0 = true) :
    ∃ u, FeedCfgWritten s u v ∧ exec (.feedCfgWrite v) s = .next (if s.keyOpen then feedCfgEffect u else u) := by
  obtain ⟨r, h⟩ : ∃ r, CfgAt (R.FEED_CFG.key 0 0) 0x40800 0 0 3 0xFFFFFFFC r := cfgAt_of_eval (by decide +kernel)
  have hexec : exec (.feedCfgWrite v) s = .next (feedCfgWrite (setKey s false) r (R.FEED_CFG.key 0 0) v s.keyOpen) := by
    simp only [exec, execFeedCfgWrite, h.hostWrite v hboot, writeReg, h.gated, Bool.false_eq_true, if_false, h.base]
  refine ⟨writeBits (setKey s false) r (R.FEED_CFG.key 0 0) (BitVec.allOnes 32) v s.keyOpen, ⟨?_, ?_, ?_, fun hk => ?_, fun hk => ?_⟩, ?_⟩
  · exact (writeBits_word_ne _ _ _ _ _ (by decide) (by decide) (by decide)).trans (setKey_word_ne s false (by decide))
  · exact writeBits_leaves State.feedMove (fun _ _ _ _ => rfl) ..
  · exact writeBits_leaves State.now (fun _ _ _ _ => rfl) ..
  · rw [hk]
    exact ⟨(h.rd_keeps (f := R.FEED_CFG_PRIMARY) (n := 0) _ _ _ _ rfl (by decide) (by decide) (by decide)).trans
        (rd_setKey s _ (by decide)),
      (h.rd_keeps (f := R.FEED_CFG_AUTO) (n := 0) _ _ _ _ rfl (by decide) (by decide) (by decide)).trans
        (rd_setKey s _ (by decide))⟩
  · rw [hk]
    exact ⟨h.rd_takes (f := R.FEED_CFG_PRIMARY) (n := 0) _ _ _ _ rfl (by decide) (by decide) (by decide),
      h.rd_takes (f := R.FEED_CFG_AUTO) (n := 0) _ _ _ _ rfl (by decide) (by decide) (by decide)⟩
  · rw [hexec, feedCfgWrite, h.writeWhole]

/-- HALF_CFG with the key open and a reduced form declared: CAPTAIN stays, and the rejection shows (R188). -/
theorem halfCfgWrite_rejected {s : State} (v : Word) (hboot : s.on R.SYS_STAT_BOOT_DONE 0 = true) (hkey : s.keyOpen = true)
    (hred : s.reducedDeclared = true) : Does (.halfCfgWrite v) s fun t =>
      t.rd R.HALF_CFG_CAPTAIN 0 = s.rd R.HALF_CFG_CAPTAIN 0 ∧ t.on R.HALF_STAT_CAPTAIN_REJ 0 = true := by
  obtain ⟨r, h⟩ : ∃ r, CfgAt (R.HALF_CFG.key 0 0) 0x41410 0 0xFFFFFF00 1 0xFE r := cfgAt_of_eval (by decide +kernel)
  have hexec : exec (.halfCfgWrite v) s = .next ((writeBits (setKey s false) r (R.HALF_CFG.key 0 0) 0xFFFF_FFFE v true).wr
      R.HALF_STAT_CAPTAIN_REJ 0 1) := by
    simp only [exec, execHalfCfgWrite, h.hostWrite v hboot, writeReg, h.gated, Bool.false_eq_true, if_false, h.base, halfCfgWrite, hkey,
      show (setKey s false).reducedDeclared = true from hred, Bool.and_self, if_true]
  refine ⟨_, hexec, ?_, ?_⟩
  · rw [rd_wr_ne _ _ _ _ _ _ (by decide), h.rd_keeps (f := R.HALF_CFG_CAPTAIN) (n := 0) _ _ _ _ rfl (by decide) (by decide) (by decide),
      rd_setKey s _ (by decide)]
  · exact congrArg (· != 0) (rd_wr_same _ R.HALF_STAT_CAPTAIN_REJ 0 1 (by decide))

theorem halfCfgWrite_taken {s : State} (v : Word) (hboot : s.on R.SYS_STAT_BOOT_DONE 0 = true) (hkey : s.keyOpen = true)
    (hred : s.reducedDeclared = false) : Does (.halfCfgWrite v) s fun t => t.rd R.HALF_CFG_CAPTAIN 0 = fieldOf 0 1 v := by
  obtain ⟨r, h⟩ : ∃ r, CfgAt (R.HALF_CFG.key 0 0) 0x41410 0 0xFFFFFF00 1 0xFE r := cfgAt_of_eval (by decide +kernel)
  have hexec : exec (.halfCfgWrite v) s = .next (writeBits (setKey s false) r (R.HALF_CFG.key 0 0) (BitVec.allOnes 32) v true) := by
    simp only [exec, execHalfCfgWrite, h.hostWrite v hboot, writeReg, h.gated, Bool.false_eq_true, if_false, h.base, halfCfgWrite, hkey,
      show (setKey s false).reducedDeclared = false from hred, Bool.and_false, h.writeWhole]
  exact ⟨_, hexec, h.rd_takes (f := R.HALF_CFG_CAPTAIN) (n := 0) _ _ _ _ rfl (by decide) (by decide) (by decide)⟩

/-! The circuits of a bridge are removed and rebuilt without a register. -/

theorem each_regs {α : Type} {l : List α} {f : State → α → State} (h : ∀ s a, (f s a).regs = s.regs) (s : State) :
    (s.each l f).regs = s.regs := each_keeps State.regs l f s h

theorem linkWatch_regs (s : State) : (linkWatch s).regs = s.regs := by
  have hstripe (s : State) (b : Nat) : (restripe s b).regs = s.regs := by
    unfold restripe
    dsimp only
    split <;> rfl
  unfold linkWatch
  extract_lets u v w
  have hu : u.regs = s.regs := each_regs hstripe s
  clear_value u
  have hv : v.regs = u.regs := by
    unfold v
    split <;> rfl
  refine (each_regs (fun _ _ => ?_) w).trans (hv.trans hu)
  rfl

theorem removeCircuit_regs (s : State) (k l : Nat) : (removeCircuit s k l).regs = s.regs := by
  unfold removeCircuit
  dsimp only
  split
  · rw [linkWatch_regs]
    refine each_regs (fun s e => ?_) s
    dsimp only
    split <;> rfl
  · rfl

theorem rebuildBridge_regs (s : State) (b : Nat) : (rebuildBridge s b).regs = s.regs := by
  unfold rebuildBridge
  dsimp only
  rw [linkWatch_regs]
  refine each_regs (fun s l => ?_) s
  split
  · exact removeCircuit_regs ..
  · split <;> rfl

/-- A route written for a bridge that no admitted job names stands in BRIDGE_CFG (R189). -/
theorem routeBridge_routes {s : State} {b : Nat} (hfree : s.bridgeNamed b = false) {route sel : Nat} (hroute : route < 2) (hsel : sel < 2) :
    (routeBridge s b route sel).rd R.BRIDGE_CFG_ROUTE b = route ∧ (routeBridge s b route sel).rd R.BRIDGE_CFG_EXT_SEL b = sel := by
  have hstat : R.BRIDGE_STAT_ROUTED_EXT.key b 0 ≠ R.BRIDGE_CFG_ROUTE.key b 0 := by
    simp only [R.BRIDGE_STAT_ROUTED_EXT, R.BRIDGE_CFG_ROUTE, Fld.key]
    omega
  let u := ((s.wr R.BRIDGE_CFG_ROUTE b route).wr R.BRIDGE_CFG_EXT_SEL b sel).wr R.BRIDGE_STAT_ROUTED_EXT b route
  have hregs : (routeBridge s b route sel).regs = u.regs := by
    unfold routeBridge
    simp only [hfree, Bool.false_eq_true, if_false]
    split
    · exact rebuildBridge_regs u b
    · rfl
  have hrd (f : Fld) : (routeBridge s b route sel).rd f b = u.rd f b := rd_of_word (congrArg (spGet regReset · _) hregs)
  rw [hrd, hrd, rd_wr_ne _ _ R.BRIDGE_CFG_ROUTE _ _ _ (.inl hstat.symm), rd_wr_ne _ _ R.BRIDGE_CFG_EXT_SEL _ _ _ (.inl hstat.symm),
    rd_wr_ne _ R.BRIDGE_CFG_EXT_SEL R.BRIDGE_CFG_ROUTE _ _ _ (.inr (by decide)), rd_wr_same _ _ _ _ (by decide), rd_wr_same _ _ _ _ (by decide)]
  exact ⟨Nat.mod_eq_of_lt hroute, Nat.mod_eq_of_lt hsel⟩

theorem fieldOf_lt (lo w : Nat) (x : Word) : fieldOf lo w x < 2 ^ w := Nat.mod_lt _ (Nat.two_pow_pos w)

section
/-! PROOF. The family of 05_optical_mixing_engine.md: writes of the configuration registers (O20). -/

variable {s : State} (v : Word) (hboot : s.on R.SYS_STAT_BOOT_DONE 0 = true) (b : Fin 16)
include hboot

theorem exec_bridgeCfgWrite : ∃ r, CfgAt (R.BRIDGE_CFG.key b 0) 0x41460 b 0 3 0xFFFFFFFC r ∧
    exec (.bridgeCfgWrite b v) s = .next (bridgeCfgWrite (setKey s false) r (R.BRIDGE_CFG.key b 0) b v s.keyOpen) := by
  obtain ⟨r, h⟩ : ∃ r, CfgAt (R.BRIDGE_CFG.key b 0) 0x41460 b 0 3 0xFFFFFFFC r := cfgAt_of_eval (by revert b; decide +kernel)
  refine ⟨r, h, ?_⟩
  simp only [exec, execBridgeCfgWrite, h.hostWrite v hboot, writeReg, h.gated, Bool.false_eq_true, if_false, h.base, h.outer]

theorem bridgeCfgWrite_named (hnamed : s.bridgeNamed b = true) :
    Does (.bridgeCfgWrite b v) s fun t => t = s.wrB R.SYS_STAT_KEY_OPEN 0 false := by
  obtain ⟨r, -, hexec⟩ := exec_bridgeCfgWrite v hboot b
  refine ⟨_, hexec, ?_⟩
  simp only [bridgeCfgWrite, show (setKey s false).bridgeNamed b = true from hnamed, if_true]
  rfl

theorem bridgeCfgWrite_closed (hfree : s.bridgeNamed b = false) (hkey : s.keyOpen = false) : Does (.bridgeCfgWrite b v) s fun t =>
    t.rd R.BRIDGE_CFG_ROUTE b = s.rd R.BRIDGE_CFG_ROUTE b ∧ t.rd R.BRIDGE_CFG_EXT_SEL b = s.rd R.BRIDGE_CFG_EXT_SEL b := by
  obtain ⟨r, h, hexec⟩ := exec_bridgeCfgWrite v hboot b
  refine ⟨_, hexec, ?_⟩
  simp only [bridgeCfgWrite, show (setKey s false).bridgeNamed b = false from hfree, hkey, Bool.false_eq_true, if_false, h.writeWhole]
  exact ⟨(h.rd_keeps (f := R.BRIDGE_CFG_ROUTE) (n := b) _ _ _ _ rfl (by decide) (by decide) (by decide)).trans
      (rd_setKey s _ h.apart.1),
    (h.rd_keeps (f := R.BRIDGE_CFG_EXT_SEL) (n := b) _ _ _ _ rfl (by decide) (by decide) (by decide)).trans
      (rd_setKey s _ h.apart.1)⟩

theorem bridgeCfgWrite_open (hfree : s.bridgeNamed b = false) (hkey : s.keyOpen = true) : Does (.bridgeCfgWrite b v) s fun t =>
    t.rd R.BRIDGE_CFG_ROUTE b = fieldOf 0 1 v ∧ t.rd R.BRIDGE_CFG_EXT_SEL b = fieldOf 1 1 v := by
  obtain ⟨r, h, hexec⟩ := exec_bridgeCfgWrite v hboot b
  refine ⟨_, hexec, ?_⟩
  simp only [bridgeCfgWrite, show (setKey s false).bridgeNamed b = false from hfree, hkey, Bool.false_eq_true, if_false, if_true]
  refine routeBridge_routes ?_ (fieldOf_lt ..) (fieldOf_lt ..)
  exact (writeBits_leaves (State.bridgeNamed · b) (fun _ _ _ _ => rfl) ..).trans hfree

end

section
/-! PROOF. The family of 05_optical_mixing_engine.md: writes of the configuration registers (O20). -/

variable {s : State} (v : Word) (hboot : s.on R.SYS_STAT_BOOT_DONE 0 = true) (st : Fin 48)
include hboot

theorem exec_streamCfgWrite : ∃ r, CfgAt (R.STREAM_CFG.key st 0) 0x60100 st 0x7FFFFF 0 0xFF800000 r ∧
    exec (.streamCfgWrite st v) s = .next (streamCfgWrite (setKey s false) r (R.STREAM_CFG.key st 0) st v) := by
  obtain ⟨r, h⟩ : ∃ r, CfgAt (R.STREAM_CFG.key st 0) 0x60100 st 0x7FFFFF 0 0xFF800000 r := cfgAt_of_eval (by revert st; decide +kernel)
  refine ⟨r, h, ?_⟩
  simp only [exec, execStreamCfgWrite, h.hostWrite v hboot, writeReg, h.gated, Bool.false_eq_true, if_false, h.base, h.outer]

theorem streamCfgWrite_bound (hbound : s.boundJobs st ≠ []) : Does (.streamCfgWrite st v) s fun t =>
    t.word (R.STREAM_CFG.key st 0) = s.word (R.STREAM_CFG.key st 0) ∧ t.on R.RX_EVT_CFG_REJ 0 = true ∧ t.rd R.RX_EVT_PORT 0 = st.val / 4 := by
  obtain ⟨r, h, hexec⟩ := exec_streamCfgWrite v hboot st
  have hevt := (by decide : ∀ st : Fin 48, R.STREAM_CFG.key st 0 ≠ R.RX_EVT.key 0 0) st
  refine ⟨_, hexec, ?_⟩
  simp only [streamCfgWrite, show (setKey s false).boundJobs st = s.boundJobs st from rfl, List.isEmpty_eq_false_iff.2 hbound,
    Bool.false_eq_true, if_false]
  refine ⟨?_, raiseRx_on _ R.RX_EVT_CFG_REJ _ rfl (by decide) (by decide) (by decide), ?_⟩
  · rw [State.raiseRx, word_wr_ne _ R.RX_EVT_PORT _ _ hevt, raise_word_ne _ R.RX_EVT_CFG_REJ _ hevt h.apart.1, setKey_word_ne _ _ h.apart.1]
  · rw [State.raiseRx, rd_wr_same _ _ _ _ (by decide)]
    exact Nat.mod_eq_of_lt (by simp only [R.RX_EVT_PORT]; omega)

theorem streamCfgWrite_free (hfree : s.boundJobs st = []) : Does (.streamCfgWrite st v) s fun t =>
    t.word (R.STREAM_CFG.key st 0) &&& 0x7FFFFF = v &&& 0x7FFFFF ∧ t.inForce = s.inForce := by
  obtain ⟨r, h, hexec⟩ := exec_streamCfgWrite v hboot st
  refine ⟨_, hexec, ?_⟩
  simp only [streamCfgWrite, show (setKey s false).boundJobs st = s.boundJobs st from rfl, hfree, List.isEmpty_nil, if_true, h.writeWhole]
  exact ⟨h.takes _ _ _ _ (by decide) (by decide), writeBits_leaves State.inForce (fun _ _ _ _ => rfl) ..⟩

end

section
/-! PROOF. The family of 05_optical_mixing_engine.md: writes of the configuration registers (O20). -/

variable {s : State} (v : Word) (hboot : s.on R.SYS_STAT_BOOT_DONE 0 = true) (n : Fin 128)
include hboot

theorem exec_outMapWrite : ∃ r, CfgAt (R.OUT_MAP.key n 0) 0x60600 n 0xFFFFFF7F 0 0x80 r ∧
    exec (.outMapWrite n v) s = .next (outMapWrite (setKey s false) r (R.OUT_MAP.key n 0) n v) := by
  obtain ⟨r, h⟩ : ∃ r, CfgAt (R.OUT_MAP.key n 0) 0x60600 n 0xFFFFFF7F 0 0x80 r := cfgAt_of_eval (by revert n; decide +kernel)
  refine ⟨r, h, ?_⟩
  simp only [exec, execOutMapWrite, h.hostWrite v hboot, writeReg, h.gated, Bool.false_eq_true, if_false, h.base, h.outer]

theorem outMapWrite_started (hrun : (s.job (n.val / 8)).started = true) : Does (.outMapWrite n v) s fun t =>
    t.word (R.OUT_MAP.key n 0) = s.word (R.OUT_MAP.key n 0) ∧ t.on R.RX_EVT_CFG_REJ 0 = true ∧ t.inForce = s.inForce := by
  obtain ⟨r, h, hexec⟩ := exec_outMapWrite v hboot n
  have hevt := (by decide : ∀ n : Fin 128, R.OUT_MAP.key n 0 ≠ R.RX_EVT_CFG_REJ.key 0 0) n
  refine ⟨_, hexec, ?_⟩
  simp only [outMapWrite, show ((setKey s false).job (n.val / 8)).started = true from hrun, if_true]
  exact ⟨(raise_word_ne _ _ _ hevt h.apart.1).trans (setKey_word_ne _ _ h.apart.1),
    raise_on_same _ _ _ (by decide) (by decide) (by decide) (by decide), raise_inForce ..⟩

/-- An output that is off in force takes its new map at once. -/
theorem outMapWrite_off (hidle : (s.job (n.val / 8)).started = false) (hoff : s.frc R.OUT_MAP_EN n = 0) :
    Does (.outMapWrite n v) s fun t => t.word (R.OUT_MAP.key n 0) &&& 0xFFFFFF7F = v &&& 0xFFFFFF7F ∧
      t.forceWord (R.OUT_MAP.key n 0) = t.word (R.OUT_MAP.key n 0) := by
  obtain ⟨r, h, hexec⟩ := exec_outMapWrite v hboot n
  refine ⟨_, hexec, ?_⟩
  simp only [outMapWrite, show ((setKey s false).job (n.val / 8)).started = false from hidle, Bool.false_eq_true, if_false, h.writeWhole]
  have happly (u : State) (hu : u.frc R.OUT_MAP_EN n = 0) : applyOutMap u n = u.apply (R.OUT_MAP.key n 0) := by simp [applyOutMap, hu]
  rw [happly _ ((writeBits_leaves (State.frc · R.OUT_MAP_EN n) (fun _ _ _ _ => rfl) (setKey s false) ..).trans hoff)]
  exact ⟨h.takes _ _ _ _ (by decide) (by decide), spGet_spSet_same ..⟩

end

/-! Gating and enabling a block leave CLK_EN. -/

theorem showAout_word (s : State) (c : Nat) {k : Nat} (hk : k < 0x73200) : (showAout s c).word k = s.word k := by
  have hwr (s : State) (f : Fld) (v : Nat) (hf : 0x73200 ≤ f.base) : (s.wr f c v).word k = s.word k :=
    word_wr_ne s f c v (by have := key_ge_base f c 0; omega)
  exact (hwr _ _ _ (by decide)).trans ((hwr _ _ _ (by decide)).trans (hwr _ _ _ (by decide)))

theorem clearChannel_word (s : State) (c : Nat) {k : Nat} (hk : k < 0x73200) : (clearChannel s c).word k = s.word k := by
  have hpresent : k ≠ R.AOUT_CODE_PRESENT.key c 0 := by simp only [R.AOUT_CODE_PRESENT, Fld.key]; omega
  unfold clearChannel setCode
  dsimp only
  split
  · exact showAout_word _ c hk
  · exact (showAout_word _ c hk).trans (word_wr_ne _ _ _ _ hpresent)

theorem markClear_word (s : State) (c : Nat) {k : Nat} (hk : 0x70000 ≤ k) : (markClear s c).word k = s.word k := by
  have hpending : k ≠ R.MARK_STAT_PENDING.key c 0 := by simp only [R.MARK_STAT_PENDING, Fld.key]; omega
  unfold markClear markInactive
  split
  · exact (word_wr_ne _ R.MARK_STAT_ACTIVE _ _ hpending).trans (word_wr_ne _ _ _ _ hpending)
  · exact word_wr_ne _ _ _ _ hpending

theorem blockEffect_clkEn (s : State) (b : Nat) (on_ : Bool) :
    (blockEffect s b on_).word (R.CLK_EN.key 0 0) = s.word (R.CLK_EN.key 0 0) := by
  have heach {α : Type} (l : List α) (f : State → α → State) (h : ∀ s a, (f s a).word (R.CLK_EN.key 0 0) = s.word (R.CLK_EN.key 0 0)) :
      (s.each l f).word (R.CLK_EN.key 0 0) = s.word (R.CLK_EN.key 0 0) := each_keeps (State.word · _) l f s h
  have hrx (p : Nat) : (rxForget s p).word (R.CLK_EN.key 0 0) = s.word (R.CLK_EN.key 0 0) := heach _ _ fun _ _ => rfl
  have hgate : (ainGate s).word (R.CLK_EN.key 0 0) = s.word (R.CLK_EN.key 0 0) := heach _ _ fun _ _ => rfl
  have hrestart : (ainRestartAll s).word (R.CLK_EN.key 0 0) = s.word (R.CLK_EN.key 0 0) := heach _ _ fun s n => by split <;> rfl
  have hshow : (s.each (List.range 8) showAout).word (R.CLK_EN.key 0 0) = s.word (R.CLK_EN.key 0 0) :=
    heach _ _ fun s c => showAout_word s c (by decide)
  have hclear : (clearAll s).word (R.CLK_EN.key 0 0) = s.word (R.CLK_EN.key 0 0) := heach _ _ fun s c => clearChannel_word s c (by decide)
  have hflush : (markFlushAll s).word (R.CLK_EN.key 0 0) = s.word (R.CLK_EN.key 0 0) :=
    (raise_word_ne _ _ _ (by decide) (by decide)).trans (heach _ _ fun s c => markClear_word s c (by decide))
  unfold blockEffect
  split
  · split
    · rfl
    · exact hrx b
  split
  · split <;> rfl
  split
  · split
    · exact hrestart
    · exact hgate
  split
  · split
    · exact hshow
    · exact hclear
  split
  · split
    · rfl
    · exact hflush
  · rfl

/-- Closing the key gates no block and puts none in use. -/
theorem gatesInUse_setKey (s : State) (b : Bool) (v : Word) : (setKey s b).gatesInUse v = s.gatesInUse v := by
  have hrec : (setKey s b).recPort = s.recPort := by
    rw [State.recPort, rd_setKey s b (by decide), rd_setKey s b (by decide)]
    rfl
  have htx (t : Nat) : (setKey s b).txInUse t = s.txInUse t := by
    rw [State.txInUse, hrec]
    rfl
  simp only [State.gatesInUse, setKey_word_ne s b (show R.CLK_EN.key 0 0 ≠ 0x4 by decide), htx]
  rfl

section
/-! PROOF. The family of 05_optical_mixing_engine.md: writes of the configuration registers (O20). -/

variable {s : State} (v : Word) (hboot : s.on R.SYS_STAT_BOOT_DONE 0 = true)
include hboot

theorem exec_clkEnWrite : ∃ r, CfgAt (R.CLK_EN.key 0 0) 0x70014 0 0x1FFFFF 0 0xFFE00000 r ∧
    exec (.clkEnWrite v) s = .next (clkEnWrite (setKey s false) r (R.CLK_EN.key 0 0) v) := by
  obtain ⟨r, h⟩ : ∃ r, CfgAt (R.CLK_EN.key 0 0) 0x70014 0 0x1FFFFF 0 0xFFE00000 r := cfgAt_of_eval (by decide +kernel)
  refine ⟨r, h, ?_⟩
  simp only [exec, execClkEnWrite, h.hostWrite v hboot, writeReg, h.gated, Bool.false_eq_true, if_false, h.base]

theorem clkEnWrite_inUse (huse : s.gatesInUse v = true) : Does (.clkEnWrite v) s fun t =>
    t.word (R.CLK_EN.key 0 0) = s.word (R.CLK_EN.key 0 0) ∧ t.on R.CLK_EVT_GATE_REJ 0 = true := by
  obtain ⟨r, h, hexec⟩ := exec_clkEnWrite v hboot
  refine ⟨_, hexec, ?_⟩
  simp only [clkEnWrite, gatesInUse_setKey, huse, if_true]
  exact ⟨(raise_word_ne _ _ _ (by decide) h.apart.1).trans (setKey_word_ne _ _ h.apart.1),
    raise_on_same _ _ _ (by decide) (by decide) (by decide) (by decide)⟩

theorem clkEnWrite_free (huse : s.gatesInUse v = false) : Does (.clkEnWrite v) s fun t =>
    t.word (R.CLK_EN.key 0 0) &&& 0x1FFFFF = v &&& 0x1FFFFF := by
  obtain ⟨r, h, hexec⟩ := exec_clkEnWrite v hboot
  refine ⟨_, hexec, ?_⟩
  simp only [clkEnWrite, gatesInUse_setKey, huse, Bool.false_eq_true, if_false, h.writeWhole]
  rw [each_keeps (State.word · (R.CLK_EN.key 0 0)) _ _ _ fun s b => ?_]
  · exact h.takes _ _ _ _ (by decide) (by decide)
  · split
    · rfl
    · exact blockEffect_clkEn ..

end

/-- Settles O20: a write closes the key and reaches its register, whose bits take it by their access types; what the write of each register
asks beside is a lemma of its own. -/
theorem configurationWrites : Obligations.ConfigurationWrites := by
  intro s v hboot
  obtain ⟨u, hu, hexec⟩ := feedCfgWrite_written v hboot
  obtain ⟨hstat, hmove, hnow, hclosed, hopened⟩ := hu
  have hinUse := feedInUse_of_word hstat
  have hok := feedOk_of_word hstat
  have hmoving (h : s.on R.FEED_STAT_MOVING 0 = false) : u.on R.FEED_STAT_MOVING 0 = false := (on_of_word hstat).trans h
  refine ⟨fun hkey => ?_, fun hkey hstay hauto hlost hother hidle => ?_, fun hkey hstay hno => ?_, fun hkey hmoves hthere hidle => ?_,
    halfCfgWrite_rejected v hboot, halfCfgWrite_taken v hboot,
    fun b => ⟨bridgeCfgWrite_named v hboot b, bridgeCfgWrite_closed v hboot b, bridgeCfgWrite_open v hboot b⟩,
    fun st => ⟨streamCfgWrite_bound v hboot st, streamCfgWrite_free v hboot st⟩,
    fun n => ⟨outMapWrite_started v hboot n, outMapWrite_off v hboot n⟩, clkEnWrite_inUse v hboot, clkEnWrite_free v hboot⟩
  · rw [hkey] at hexec
    obtain ⟨hprimary, hauto⟩ := hclosed hkey
    exact ⟨u, hexec, hprimary, hauto, hmove⟩
  all_goals
    rw [hkey, if_pos rfl] at hexec
    obtain ⟨hp, ha⟩ := hopened hkey
  · have heffect : feedCfgEffect u = beginMove u (1 - s.feedInUse) := by
      rw [← hinUse]
      exact feedCfgEffect_auto (.inl (by rw [hp, hinUse, hstay])) (by simp [State.on, ha, hauto]) (by rw [hok, hinUse, hlost])
        (by rw [hok, hinUse, hother])
    obtain ⟨hon, hmoved⟩ := beginMove_moves (1 - s.feedInUse) (hmoving hidle)
    exact ⟨_, hexec, heffect ▸ hon, by rw [heffect, hmoved, hnow]⟩
  · have heffect : feedCfgEffect u = u := feedCfgEffect_stays (.inl (by rw [hp, hinUse, hstay])) (by rw [ha, hok, hok, hinUse]; exact hno)
    exact ⟨_, hexec, by rw [heffect, hp], by rw [heffect, ha], by rw [heffect, hmove]⟩
  · have heffect : feedCfgEffect u = beginMove u (fieldOf 0 1 v) := by
      rw [← hp]
      exact feedCfgEffect_primary (by rw [hp, hinUse]; exact hmoves.symm) (by rw [hp, hok, hthere])
    obtain ⟨hon, hmoved⟩ := beginMove_moves (fieldOf 0 1 v) (hmoving hidle)
    exact ⟨_, hexec, heffect ▸ hon, by rw [heffect, hmoved, hnow]⟩

end Sys2Proof.Machine
end

section
/-! PROOF. The family of 05_optical_mixing_engine.md: what takes a chiplet out of service (O41). -/

namespace Sys2Proof.Machine

/-! ### The registers of a chiplet -/

/-- A field of a register that each chiplet has one of. -/
def Fld.ofMesh (f : Fld) : Bool := f.per == 0 && f.n1 == 4 && f.s1 == 0x200 && decide (0x40000 ≤ f.base ∧ f.base < 0x40200)

theorem mesh_key {f : Fld} (h : f.ofMesh = true) (k : Nat) : f.key k 0 = f.base + 0x200 * (k % 4) := by
  simp only [Fld.ofMesh, Bool.and_eq_true, beq_iff_eq, decide_eq_true_eq] at h
  obtain ⟨⟨⟨hper, hn1⟩, hs1⟩, -⟩ := h
  simp [Fld.key, hper, hn1, hs1]

theorem mesh_key_range {f : Fld} (h : f.ofMesh = true) (k : Nat) : 0x40000 ≤ f.key k 0 ∧ f.key k 0 < 0x40800 := by
  rw [mesh_key h]
  simp only [Fld.ofMesh, Bool.and_eq_true, beq_iff_eq, decide_eq_true_eq] at h
  omega

theorem mesh_key_ne {f g : Fld} (hf : f.ofMesh = true) (hg : g.ofMesh = true) (h : f.base ≠ g.base) (k : Nat) : f.key k 0 ≠ g.key k 0 := by
  rw [mesh_key hf, mesh_key hg]
  omega

/-- Two fields of a chiplet's registers stand apart. -/
def Fld.apartFrom (f g : Fld) : Bool :=
  f.ofMesh && g.ofMesh && (f.base != g.base || decide (f.lo + f.w ≤ g.lo) || decide (g.lo + g.w ≤ f.lo))

theorem rd_wr_mesh (s : State) {f g : Fld} (h : g.apartFrom f = true) (k v : Nat) : (s.wr f k v).rd g k = s.rd g k := by
  simp only [Fld.apartFrom, Bool.and_eq_true, Bool.or_eq_true, bne_iff_ne, decide_eq_true_eq] at h
  obtain ⟨⟨hg, hf⟩, (hbase | hbits) | hbits⟩ := h
  · exact rd_wr_ne s f g k k v (.inl (mesh_key_ne hg hf hbase k))
  · exact rd_wr_ne s f g k k v (.inr (.inl hbits))
  · exact rd_wr_ne s f g k k v (.inr (.inr hbits))

theorem on_wr_mesh (s : State) {f g : Fld} (h : g.apartFrom f = true) (k v : Nat) : (s.wr f k v).on g k = s.on g k :=
  congrArg (· != 0) (rd_wr_mesh s h k v)

/-- An event of a chiplet leaves its other registers. -/
theorem rd_raise_mesh (s : State) {f g : Fld} (hf : f.ofMesh = true) (hg : g.ofMesh = true) (h : g.base ≠ f.base) (k : Nat) :
    (s.raise f k).rd g k = s.rd g k :=
  raise_rd_ne s f g k k (mesh_key_ne hg hf h k) (by have := mesh_key_range hg k; omega)

/-- An event bit of a chiplet's status word. -/
def Fld.meshEvt (f : Fld) : Bool := f.ofMesh && f.base == 0x40004 && decide (8 ≤ f.lo ∧ 0 < f.w ∧ f.lo + f.w ≤ 32)

theorem raise_meshEvt (s : State) {f : Fld} (h : f.meshEvt = true) (k : Nat) : (s.raise f k).on f k = true := by
  simp only [Fld.meshEvt, Bool.and_eq_true, beq_iff_eq, decide_eq_true_eq] at h
  obtain ⟨⟨hmesh, -⟩, hlo, hw, hhi⟩ := h
  exact raise_on_same s f k (by have := mesh_key_range hmesh k; omega) hlo hw hhi

theorem rd_raise_meshEvt (s : State) {f g : Fld} (hf : f.meshEvt = true) (hg : g.ofMesh = true) (h : g.base ≠ 0x40004) (k : Nat) :
    (s.raise f k).rd g k = s.rd g k := by
  simp only [Fld.meshEvt, Bool.and_eq_true, beq_iff_eq] at hf
  obtain ⟨⟨hmesh, hbase⟩, -⟩ := hf
  exact rd_raise_mesh s hmesh hg (hbase ▸ h) k

theorem meshState_setMesh (s : State) (k : Nat) {st : Nat} (h : st < 8) : (setMesh s k st).meshState k = st :=
  (rd_wr_same s R.MESH_STAT_STATE k st (by decide)).trans (Nat.mod_eq_of_lt h)

theorem chip_putChip (s : State) (k : Nat) (v : Chip) : (s.putChip k v).chip k = v := spGet_spSet_same ..

theorem chip_raise (s : State) (f : Fld) (i k : Nat) : (s.raise f i).chip k = s.chip k := by simp only [State.chip, raise_chips]

/-! ### What a chiplet's own steps leave -/

/-- State `u` is state `s` but for chiplets, their registers and status words, as far as the job that holds chiplet `k` goes. -/
structure ChipNoted (k : Nat) (s u : State) : Prop where
  jobs : u.jobs = s.jobs
  mbxOrder : u.mbxOrder = s.mbxOrder
  stages : u.stages = s.stages
  sup : u.sup = s.sup
  holder : u.meshJob k = s.meshJob k
  words : ∀ x, 0x10000 ≤ x → x < 0x40000 ∨ 0x40800 ≤ x → u.word x = s.word x

namespace ChipNoted
variable {k : Nat} {s u w : State}

theorem refl (k : Nat) (s : State) : ChipNoted k s s := ⟨rfl, rfl, rfl, rfl, rfl, fun _ _ _ => rfl⟩

theorem trans (h : ChipNoted k s u) (h' : ChipNoted k u w) : ChipNoted k s w where
  jobs := h'.jobs.trans h.jobs
  mbxOrder := h'.mbxOrder.trans h.mbxOrder
  stages := h'.stages.trans h.stages
  sup := h'.sup.trans h.sup
  holder := h'.holder.trans h.holder
  words x hx hx' := (h'.words x hx hx').trans (h.words x hx hx')

theorem job (h : ChipNoted k s u) (j : Nat) : u.job j = s.job j := job_of_jobs h.jobs j

theorem stage (h : ChipNoted k s u) (j : Nat) : u.stage j = s.stage j := congrArg (spGet (fun _ => WStage.none) · j) h.stages

theorem rd (h : ChipNoted k s u) {f : Fld} {i : Nat} (hlo : 0x10000 ≤ f.key i 0) (hhi : f.key i 0 < 0x40000 ∨ 0x40800 ≤ f.key i 0) :
    u.rd f i = s.rd f i := rd_of_word (h.words _ hlo hhi)

theorem wsetStage (h : ChipNoted k s u) (j : Nat) : u.rd R.WSET_JOB_STAGE j = s.rd R.WSET_JOB_STAGE j := by
  have hkey := key_ge_base R.WSET_JOB_STAGE j 0
  simp only [R.WSET_JOB_STAGE] at hkey
  exact h.rd (by simp only [R.WSET_JOB_STAGE]; omega) (.inr (by simp only [R.WSET_JOB_STAGE]; omega))

theorem dutiesRun (h : ChipNoted k s u) : u.dutiesRun = s.dutiesRun := by
  simp only [State.dutiesRun, State.withheld, h.sup, h.rd (f := R.SUP_STAT_SUBST) (i := 0) (by decide) (.inl (by decide))]

end ChipNoted

/-- The mailbox that runs a command depends on the doorbells' order and the mailboxes' own words. -/
theorem runningWith_of_words {s u : State} (horder : u.mbxOrder = s.mbxOrder) (hwords : ∀ x, 0x10000 ≤ x → x < 0x10880 → u.word x = s.word x)
    (code p : Nat) : u.runningWith code p = s.runningWith code p := by
  have hstat (m : Nat) : u.word (R.MBX_STAT_STATE.key m 0) = s.word (R.MBX_STAT_STATE.key m 0) :=
    hwords _ (by rw [MBX_STAT_key]; omega) (by rw [MBX_STAT_key]; omega)
  have hreq (m off n : Nat) : u.req m off n = s.req m off n := by
    unfold State.req State.mbBytes State.mbReq
    congr 1
    refine List.map_congr_left fun i _ => ?_
    rw [hwords _ (by rw [MBX_REQ_key]; omega) (by rw [MBX_REQ_key]; omega)]
  have hmine (m : Nat) : (u.isRunning m code && decide (u.req m 8 1 = p)) = (s.isRunning m code && decide (s.req m 8 1 = p)) := by
    rw [hreq]
    congr 1
    unfold State.isRunning State.mbState State.mbCmd
    rw [rd_of_word (f := R.MBX_STAT_STATE) (hstat m), rd_of_word (f := R.MBX_STAT_CMD) (hstat m)]
  simp only [State.runningWith, horder, hmine]

theorem ChipNoted.runningWith {k : Nat} {s u : State} (h : ChipNoted k s u) (code p : Nat) : u.runningWith code p = s.runningWith code p :=
  runningWith_of_words h.mbxOrder (fun x hlo hhi => h.words x hlo (.inl (by omega))) code p

theorem meshJob_of_word {s u : State} {k : Nat} (hheld : u.rd R.MESH_STAT_HELD k = s.rd R.MESH_STAT_HELD k)
    (hjob : u.rd R.MESH_STAT_JOB k = s.rd R.MESH_STAT_JOB k) : u.meshJob k = s.meshJob k := by
  unfold State.meshJob State.on
  rw [hheld, hjob]

theorem chipNoted_wr (s : State) {f : Fld} (h : (R.MESH_STAT_HELD.apartFrom f && R.MESH_STAT_JOB.apartFrom f) = true) (k v : Nat) :
    ChipNoted k s (s.wr f k v) := by
  obtain ⟨hheld, hjob⟩ := Bool.and_eq_true_iff.1 h
  have hmesh : f.ofMesh = true := by
    simp only [Fld.apartFrom, Bool.and_eq_true] at hheld
    exact hheld.1.2
  have hkey := mesh_key_range hmesh k
  exact ⟨rfl, rfl, rfl, rfl, meshJob_of_word (rd_wr_mesh s hheld k v) (rd_wr_mesh s hjob k v),
    fun x _ _ => word_wr_ne s f k v (by omega)⟩

theorem chipNoted_raise (s : State) {f : Fld} (h : f.meshEvt = true) (k : Nat) : ChipNoted k s (s.raise f k) where
  jobs := raise_jobs ..
  mbxOrder := raise_mbxOrder ..
  stages := raise_stages ..
  sup := raise_sup ..
  holder := meshJob_of_word (rd_raise_meshEvt s h (by decide) (by decide) k) (rd_raise_meshEvt s h (by decide) (by decide) k)
  words x hlo hx := by
    simp only [Fld.meshEvt, Bool.and_eq_true] at h
    have hkey := mesh_key_range h.1.1 k
    exact raise_word_ne s f k (by omega) (by omega)

theorem chipNoted_putChip (s : State) (k : Nat) (v : Chip) : ChipNoted k s (s.putChip k v) := ⟨rfl, rfl, rfl, rfl, rfl, fun _ _ _ => rfl⟩

theorem chipNoted_setMesh (s : State) (k st : Nat) : ChipNoted k s (setMesh s k st) := chipNoted_wr s (by decide) k st

/-! ### The loss of a chiplet -/

/-- The job that holds chiplet `k`, if any, runs, and the loss of the chiplet interrupts nothing else of it: neither restart, loading nor
staging, nor a change of its grade. -/
def State.plainlyHeld (s : State) (k : Nat) : Prop :=
  ∀ j, s.meshJob k = some j → (s.job j).live = true ∧ (s.job j).restart = none ∧ (s.job j).loading = false ∧
    s.runningWith 0x0105 j = none ∧ s.rd R.WSET_JOB_STAGE j ≠ 1

theorem ChipNoted.plainlyHeld {k : Nat} {s u : State} (h : ChipNoted k s u) (hs : s.plainlyHeld k) : u.plainlyHeld k := by
  intro j hj
  rw [h.job, h.runningWith, h.wsetStage]
  exact hs j (h.holder ▸ hj)

/-- Chiplet `k` has left service with a cause, its passes are lost, and the job that held it in `s` is struck. -/
def State.MeshOut (s t : State) (k : Nat) (cause : OosCause) : Prop :=
  t.meshState k = msOut ∧ (t.chip k).cause = cause ∧ (t.chip k).toks = [] ∧ ∀ j, s.meshJob k = some j → t.Struck j fcMesh

/-- Chiplet `k` is put out of service. -/
def State.chipLost (s : State) (k : Nat) (cause : OosCause) : State :=
  setMesh (s.putChip k { s.chip k with
    toks := [], order := [], begun := [], straddle := [], next := none, work := .none, why := .none, ready := false, cause := cause,
    stale := false, cleared := false, drain := [] }) k msOut

theorem chipNoted_chipLost (s : State) (k : Nat) (cause : OosCause) : ChipNoted k s (s.chipLost k cause) :=
  (chipNoted_putChip ..).trans (chipNoted_setMesh ..)

theorem meshFail_free {s : State} {k : Nat} (cause : OosCause) (hin : s.meshState k ≠ msOut) (hfree : s.meshJob k = none) :
    meshFail s k cause = s.chipLost k cause := by
  simp only [meshFail, hin, if_false, hfree, State.chipLost]

theorem meshFail_held {s : State} {k j : Nat} (cause : OosCause) (hin : s.meshState k ≠ msOut) (hheld : s.meshJob k = some j) :
    meshFail s k cause = detectFault (s.chipLost k cause) j ⟨fcMesh, false, 6, k, .mesh k⟩ := by
  simp only [meshFail, hin, if_false, hheld, State.chipLost]

theorem detectFault_word (s : State) (j : Nat) (f : FaultInfo) {x : Nat} (h : x < 0x20100 ∨ 0x300C0 ≤ x) :
    (detectFault s j f).word x = s.word x := (faultKeeps_detectFault s j f).words x h

theorem FaultFrame.chip {s t : State} (h : FaultFrame s t) (k : Nat) : t.chip k = s.chip k := by
  rw [State.chip, h.frame]
  rfl

theorem FaultFrame.mbxOrder {s t : State} (h : FaultFrame s t) : t.mbxOrder = s.mbxOrder := by rw [h.frame]

/-- Going on with what a job held dispatch for changes no register but those of its tags. -/
theorem releaseHolds_word (s : State) (j : Nat) {x : Nat} (h : x < 0x30000 ∨ 0x300C0 ≤ x) : (releaseHolds s j).word x = s.word x := by
  unfold releaseHolds
  dsimp only
  split
  · exact refreshWait_word _ _ h
  · rfl

theorem faultFrame_releaseHolds (s : State) (j : Nat) : FaultFrame s (releaseHolds s j) :=
  .ite ((faultFrame_putJob ..).trans (faultFrame_refreshWait ..)) (.refl s)

theorem releaseHolds_struck {s : State} {j cls : Nat} (h : s.Struck j cls) : (releaseHolds s j).Struck j cls := by
  unfold releaseHolds
  dsimp only
  split
  · obtain ⟨w, hwait⟩ := refreshWait_putJob s j { s.job j with holds := { (s.job j).holds with grade := false, bell := false } }
    rw [State.Struck, hwait.job, job_putJob_same]
    exact h
  · exact h

/-- A staging that is not building goes on with nothing. -/
theorem stageProgress_idle {s : State} {j : Nat} (h : s.rd R.WSET_JOB_STAGE j ≠ 1) : stageProgress s j = s := by
  simp only [stageProgress, h, decide_false, Bool.false_and, Bool.false_eq_true, if_false]

/-- Without a JOB_GRADE there is no change of grade to go on. -/
theorem gradeProgress_idle {s : State} {j : Nat} (h : s.runningWith 0x0105 j = none) : gradeProgress s j = s := by
  simp only [gradeProgress, h]

/-- What the loss of a chiplet means to a job that runs: the staging notes it, and a dispatch held for the chiplet alone goes on. -/
theorem afterLoss_running {s : State} {k j : Nat} (hheld : s.meshJob k = some j) (hrun : (s.job j).started = true)
    (hload : (s.job j).loading = false) (hgrade : s.runningWith 0x0105 j = none) (hstage : s.rd R.WSET_JOB_STAGE j ≠ 1) :
    ∃ v, afterLoss s k = releaseHolds (s.putStage j v) j := by
  refine ⟨{ s.stage j with meshes := (s.stage j).meshes.map fun m => if m.1 == k then (m.1, m.2.1, false) else m }, ?_⟩
  let u := s.putStage j { s.stage j with meshes := (s.stage j).meshes.map fun m => if m.1 == k then (m.1, m.2.1, false) else m }
  have hkey := key_ge_base R.WSET_JOB_STAGE j 0
  simp only [R.WSET_JOB_STAGE] at hkey
  have hstage' : (releaseHolds u j).rd R.WSET_JOB_STAGE j ≠ 1 := by
    rw [rd_of_word (releaseHolds_word u j (.inr (by simp only [R.WSET_JOB_STAGE]; omega)))]
    exact hstage
  have hgrade' : (releaseHolds u j).runningWith 0x0105 j = none :=
    (runningWith_of_words (s := u) (faultFrame_releaseHolds u j).mbxOrder
      (fun x _ hx => releaseHolds_word u j (.inl (by omega))) 0x0105 j).trans hgrade
  simp only [afterLoss, hheld, hload, Bool.false_eq_true, if_false, hrun, if_true]
  rw [stageProgress_idle hstage', gradeProgress_idle hgrade']

/-- A job that runs and is struck keeps all of its record but its restart, its fence and its wait. -/
theorem detectFault_live_job {s : State} {j : Nat} (f : FaultInfo) (hlive : (s.job j).live = true) (hrestart : (s.job j).restart = none) :
    ∃ r w, (detectFault s j f).job j = { s.job j with restart := some r, fenced := true, waiting := w } := by
  let r : Restart := ⟨f.cls, f.injected, f.kind, f.unit, s.tb, s.now, false, false, [f.remedy], false⟩
  have heq : detectFault s j f = fence ((s.countFault j).putJob j { s.job j with restart := some r }) j := by
    simp only [detectFault, Job.started_of_live hlive, hrestart, Job.not_restarting_of_live hlive, Bool.not_true, Bool.false_eq_true,
      if_false]
    rfl
  obtain ⟨w, hjob⟩ := fence_job ((s.countFault j).putJob j { s.job j with restart := some r }) j
  exact ⟨r, w, by rw [heq, hjob, if_pos rfl, job_putJob_same]⟩

/-- A chiplet in service that is lost goes out of service, its job is struck, and no register but those of the job's fault and tags changes
beside its state. -/
theorem meshLost_out {s : State} {k : Nat} (cause : OosCause) (hin : s.meshState k ≠ msOut) (hheld : s.plainlyHeld k) :
    s.MeshOut (meshLost s k cause) k cause ∧
      ∀ x, x < 0x20100 ∨ 0x300C0 ≤ x → (meshLost s k cause).word x = (setMesh s k msOut).word x := by
  have hstat := mesh_key_range (show R.MESH_STAT_STATE.ofMesh = true by decide) k
  have hnoted := chipNoted_chipLost s k cause
  have hchip : (s.chipLost k cause).chip k = _ := chip_putChip s k _
  have hstate : (s.chipLost k cause).meshState k = msOut := meshState_setMesh _ k (by decide)
  unfold meshLost
  rw [if_neg hin]
  cases hj : s.meshJob k with
  | none =>
    have hfree : afterLoss (s.chipLost k cause) k = s.chipLost k cause := by simp only [afterLoss, hnoted.holder, hj]
    rw [meshFail_free cause hin hj, hfree]
    exact ⟨⟨hstate, by rw [hchip], by rw [hchip], fun j h => by simp [hj] at h⟩, fun _ _ => rfl⟩
  | some j =>
    obtain ⟨hlive, hrestart, hload, hgrade, hstage⟩ := hheld j hj
    rw [meshFail_held cause hin hj]
    generalize hf : (⟨fcMesh, false, 6, k, .mesh k⟩ : FaultInfo) = f
    generalize hv : detectFault (s.chipLost k cause) j f = v
    have hword (x : Nat) (hx : x < 0x20100 ∨ 0x300C0 ≤ x) : v.word x = (s.chipLost k cause).word x := hv ▸ detectFault_word _ j f hx
    have hframe : FaultFrame (s.chipLost k cause) v := hv ▸ faultFrame_detectFault ..
    obtain ⟨hstruck, -⟩ : Strikes (s.chipLost k cause) v j f.cls :=
      hv ▸ detectFault_strikes f (by rwa [hnoted.job]) (by rwa [hnoted.job])
    have hheld' : v.meshJob k = some j := by
      rw [meshJob_of_word (rd_of_word (hword _ (.inr ?_))) (rd_of_word (hword _ (.inr ?_))), hnoted.holder, hj]
      all_goals exact (mesh_key_range (by decide) k).1.trans' (by decide)
    obtain ⟨r, w, hjob⟩ := detectFault_live_job f (s := s.chipLost k cause) (j := j) (by rwa [hnoted.job]) (by rwa [hnoted.job])
    rw [hv, hnoted.job] at hjob
    have hkey := key_ge_base R.WSET_JOB_STAGE j 0
    simp only [R.WSET_JOB_STAGE] at hkey
    obtain ⟨st, hafter⟩ := afterLoss_running hheld' (by rw [hjob]; exact Job.started_of_live hlive) (by rw [hjob]; exact hload)
      ((runningWith_of_words hframe.mbxOrder (fun x _ hx => hword x (.inl (by omega))) ..).trans ((hnoted.runningWith ..).trans hgrade))
      (by rw [rd_of_word (hword _ (.inr (by simp only [R.WSET_JOB_STAGE]; omega))), hnoted.wsetStage]; exact hstage)
    have hfinal (x : Nat) (hx : x < 0x20100 ∨ 0x300C0 ≤ x) : (afterLoss v k).word x = (s.chipLost k cause).word x := by
      rw [hafter, releaseHolds_word _ _ (by omega)]
      exact hword x hx
    have hchipAfter : (afterLoss v k).chip k = (s.chipLost k cause).chip k := by
      rw [hafter, (faultFrame_releaseHolds ..).chip]
      exact hframe.chip k
    refine ⟨⟨?_, ?_, ?_, fun i hi => ?_⟩, hfinal⟩
    · exact (rd_of_word (hfinal _ (.inr (by omega)))).trans hstate
    · rw [hchipAfter, hchip]
    · rw [hchipAfter, hchip]
    · obtain rfl : j = i := by simpa [hj] using hi
      subst hf
      rw [hafter]
      exact releaseHolds_struck hstruck

/-! ### The causes of a loss -/

/-- A chiplet that is lost after steps of its own takes the job with it that held it before them, and keeps the rest of its registers. -/
theorem meshLost_noted {s u : State} {k : Nat} (cause : OosCause) (hu : ChipNoted k s u) (hstate : u.meshState k = s.meshState k)
    (hin : s.meshState k ≠ msOut) (hheld : s.plainlyHeld k) : s.MeshOut (meshLost u k cause) k cause ∧
      ∀ f : Fld, f.apartFrom R.MESH_STAT_STATE = true → (meshLost u k cause).rd f k = u.rd f k := by
  obtain ⟨⟨hout, hcause, htoks, hstruck⟩, hwords⟩ := meshLost_out cause (by rwa [hstate]) (hu.plainlyHeld hheld)
  refine ⟨⟨hout, hcause, htoks, fun j hj => hstruck j (hu.holder.trans hj)⟩, fun f hf => ?_⟩
  have hmesh : f.ofMesh = true := by
    simp only [Fld.apartFrom, Bool.and_eq_true] at hf
    exact hf.1.1
  have hkey := mesh_key_range hmesh k
  exact (rd_of_word (hwords _ (.inr (by omega)))).trans (rd_wr_mesh u hf k msOut)

/-- An event is noted, and the chiplet is lost: the event shows, and the rest of its registers stays. -/
theorem meshLost_raise {s u : State} {k : Nat} {e : Fld} (cause : OosCause) (he : e.meshEvt = true) (hes : e.apartFrom R.MESH_STAT_STATE = true)
    (hu : ChipNoted k s u) (hstate : u.meshState k = s.meshState k) (hin : s.meshState k ≠ msOut) (hheld : s.plainlyHeld k) :
    s.MeshOut (meshLost (u.raise e k) k cause) k cause ∧ (meshLost (u.raise e k) k cause).on e k = true ∧
      ∀ f : Fld, f.apartFrom R.MESH_STAT_STATE = true → f.base ≠ 0x40004 → (meshLost (u.raise e k) k cause).rd f k = u.rd f k := by
  obtain ⟨hout, hkept⟩ := meshLost_noted cause (hu.trans (chipNoted_raise u he k))
    ((rd_raise_meshEvt u he (by decide) (by decide) k).trans hstate) hin hheld
  refine ⟨hout, (congrArg (· != 0) (hkept e hes)).trans (raise_meshEvt u he k), fun f hf hbase => (hkept f hf).trans ?_⟩
  simp only [Fld.apartFrom, Bool.and_eq_true] at hf
  exact rd_raise_meshEvt u he hf.1.1 hbase k

theorem referenceLoss_loses {s : State} {k : Fin 4} (hin : s.meshState k ≠ msOut) (hheld : s.plainlyHeld k) :
    Does (.referenceLoss k) s fun t => s.MeshOut t k .lightLoss ∧ t.on R.MESH_STAT_LIGHT_OK k = false ∧ t.on R.MESH_EVT_LIGHT_LOSS k = true := by
  obtain ⟨hout, hevt, hkept⟩ := meshLost_raise (e := R.MESH_EVT_LIGHT_LOSS) .lightLoss (by decide) (by decide)
    (chipNoted_wr s (f := R.MESH_STAT_LIGHT_OK) (by decide) k 0) (rd_wr_mesh s (by decide) k 0) hin hheld
  refine ⟨_, rfl, hout, on_eq_false.2 ?_, hevt⟩
  rw [hkept R.MESH_STAT_LIGHT_OK (by decide) (by decide)]
  exact rd_wr_same s R.MESH_STAT_LIGHT_OK k 0 (by decide)

theorem heaterFault_loses {s : State} {k : Fin 4} (hin : s.meshState k ≠ msOut) (hheld : s.plainlyHeld k) :
    Does (.heaterFault k) s fun t => s.MeshOut t k .heater ∧ t.on R.MESH_EVT_HEATER_FAIL k = true := by
  obtain ⟨hout, hevt, -⟩ := meshLost_raise (e := R.MESH_EVT_HEATER_FAIL) .heater (by decide) (by decide) (.refl k s) rfl hin hheld
  exact ⟨_, rfl, hout, hevt⟩

/-- A chiplet settles after a swap, and has done so for 60 µs. -/
def State.settlesLate (s : State) (k : Nat) : Prop :=
  s.meshState k = msSettling ∧ (s.chip k).swapped = true ∧ s.passed (s.chip k).swapAt (60 * usec) = true

theorem settleLate_loses {s : State} {k : Fin 4} (hin : s.meshState k ≠ msOut) (hheld : s.plainlyHeld k) (hlate : s.settlesLate k) :
    Does (.settleLate k) s fun t => s.MeshOut t k .settleLate ∧ t.on R.MESH_EVT_SETTLE_LATE k = true := by
  obtain ⟨hout, hevt, -⟩ := meshLost_raise (e := R.MESH_EVT_SETTLE_LATE) .settleLate (by decide) (by decide) (.refl k s) rfl hin hheld
  obtain ⟨hstate, hswapped, hpassed⟩ := hlate
  exact ⟨_, congrArg Host.Outcome.next (if_pos (by simp only [hstate, hswapped, hpassed, decide_true, Bool.and_self])), hout, hevt⟩

theorem settleLate_idle {s : State} {k : Fin 4}
    (h : s.meshState k ≠ msSettling ∨ (s.chip k).swapped = false ∨ s.passed (s.chip k).swapAt (60 * usec) = false) :
    Does (.settleLate k) s fun t => t = s := by
  refine ⟨s, congrArg Host.Outcome.next (if_neg ?_), rfl⟩
  obtain h | h | h := h <;> simp [h]

theorem optClockTimeout_loses {s : State} {k : Fin 4} (hin : s.meshState k ≠ msOut) (hheld : s.plainlyHeld k) {a : Nat}
    (hclk : s.on R.MESH_STAT_CLK_OK k = false) (hat : s.clk.optLostAt = some a) (hpassed : s.passed a (100 * usec) = true) :
    Does (.optClockTimeout k) s fun t => s.MeshOut t k .clock :=
  ⟨_, congrArg Host.Outcome.next (if_pos (by simp [hclk, hat, hpassed])), (meshLost_out .clock hin hheld).1⟩

theorem optClockTimeout_locked {s : State} {k : Fin 4} (hclk : s.on R.MESH_STAT_CLK_OK k = true) : Does (.optClockTimeout k) s fun t => t = s :=
  ⟨s, congrArg Host.Outcome.next (if_neg (by simp [hclk])), rfl⟩

/-! ### Pilot passes -/

/-- Chiplet `k` has passed a pilot without a failed channel. -/
def State.piloted (s : State) (k : Nat) : State :=
  (s.bump R.MESH_PILOT_CNT_COUNT k).putChip k { s.chip k with pilots := (s.chip k).pilots + 1, badChan := none, pilotAt := some s.now }

theorem chipNoted_piloted (s : State) (k : Nat) : ChipNoted k s (s.piloted k) :=
  (chipNoted_wr s (f := R.MESH_PILOT_CNT_COUNT) (by decide) k _).trans (chipNoted_putChip ..)

theorem rd_piloted (s : State) {f : Fld} (h : f.apartFrom R.MESH_PILOT_CNT_COUNT = true) (k : Nat) : (s.piloted k).rd f k = s.rd f k :=
  rd_wr_mesh s h k _

theorem counted_piloted (s : State) (k : Nat) : Counted s (s.piloted k) R.MESH_PILOT_CNT_COUNT k := counted_bump s k (by decide)

/-- The last pilot is long enough past for another. -/
def State.PilotElapsed (s : State) (k : Nat) : Prop :=
  ∀ a, (s.chip k).pilotAt = some a → 100 * a + 768 * max 1 (s.rd R.MESH_SWAP_CFG_PILOT_INT k) ≤ 100 * s.now

theorem pilotDue_iff (s : State) (k : Nat) :
    s.pilotDue k = true ↔ (s.chip k).order = [] ∧ s.on R.FEED_STAT_MOVING 0 = false ∧ s.PilotElapsed k := by
  unfold State.pilotDue State.PilotElapsed State.pilotInt
  cases (s.chip k).pilotAt <;> simp [and_assoc]

/-- A pilot pass that is due is made: below 64 pilots it is only counted, and then the estimate is judged. -/
theorem pilotPass_made {s : State} {k : Fin 4} (hstate : s.meshState k = msService) (hclk : s.on R.MESH_STAT_CLK_OK k = true)
    (hdue : s.pilotDue k = true) (resid : Fin 65536) : exec (.pilotPass k resid none) s =
      .next (if (s.chip k).pilots + 1 < 64 then s.piloted k else residEstimate (s.piloted k) k resid) := by
  have hchip : ((s.piloted k).chip k).pilots = (s.chip k).pilots + 1 := congrArg Chip.pilots (chip_putChip ..)
  refine congrArg Host.Outcome.next ((if_neg ?_).trans ?_)
  · simp [hstate, hclk, hdue]
  · rw [← hchip]
    rfl

theorem pilotPass_idle {s : State} {k : Fin 4}
    (h : (s.meshState k ≠ msService ∧ s.meshState k ≠ msRebuild) ∨ s.on R.MESH_STAT_CLK_OK k = false ∨ s.pilotDue k = false)
    (resid : Fin 65536) (bad : Option (Fin 512)) : Does (.pilotPass k resid bad) s fun t => t = s := by
  refine ⟨s, congrArg Host.Outcome.next (if_pos ?_), rfl⟩
  obtain h | h | h := h
  · exact .inl h
  · exact .inr (.inl (by simp [h]))
  · exact .inr (.inr (by simp [h]))

/-- The estimate is written. -/
def State.estimated (s : State) (k resid : Nat) : State := s.wrSat R.MESH_RESID_RESID k resid

theorem chipNoted_estimated (s : State) (k resid : Nat) : ChipNoted k s (s.estimated k resid) :=
  chipNoted_wr s (f := R.MESH_RESID_RESID) (by decide) k _

theorem rd_estimated (s : State) {f : Fld} (h : f.apartFrom R.MESH_RESID_RESID = true) (k resid : Nat) :
    (s.estimated k resid).rd f k = s.rd f k := rd_wr_mesh s h k _

theorem rd_resid_estimated (s : State) (k : Nat) (resid : Fin 65536) : (s.estimated k resid).rd R.MESH_RESID_RESID k = resid := by
  refine (rd_wr_same s R.MESH_RESID_RESID k _ (by decide)).trans ?_
  have := resid.isLt
  simp only [R.MESH_RESID_RESID]
  omega

theorem residTrig_estimated (s : State) (k resid : Nat) : (s.estimated k resid).residTrig k = s.residTrig k := by
  unfold State.residTrig
  rw [rd_estimated s (by decide) k resid]

theorem residTrig_piloted (s : State) (k : Nat) : (s.piloted k).residTrig k = s.residTrig k := by
  unfold State.residTrig
  rw [rd_piloted s (by decide) k]

theorem residEstimate_high {s : State} {k resid : Nat} (h : 185 < resid) :
    residEstimate s k resid = meshLost ((s.estimated k resid).raise R.MESH_EVT_PILOT_HIGH k) k .pilotHigh := if_pos h

theorem residEstimate_trims {s : State} {k resid : Nat} (hhigh : resid ≤ 185) (htrig : s.residTrig k < resid) :
    residEstimate s k resid = startTrim (s.estimated k resid) k :=
  (if_neg (by omega)).trans (if_pos ((residTrig_estimated s k resid).symm ▸ htrig))

theorem residEstimate_low {s : State} {k resid : Nat} (hhigh : resid ≤ 185) (htrig : resid ≤ s.residTrig k) :
    residEstimate s k resid = s.estimated k resid :=
  (if_neg (by omega)).trans (if_neg (not_lt_of_ge ((residTrig_estimated s k resid).symm ▸ htrig)))

/-- The start of a trim of a chiplet IN_SERVICE. -/
theorem startTrim_service {s : State} {k : Nat} (hduties : s.dutiesRun = true) (hstate : s.meshState k = msService) : startTrim s k =
    (setMesh (s.putChip k { s.chip k with work := .trim, ready := false, stale := true }) k msRebuild).raise R.MESH_EVT_REBUILD k := by
  simp [startTrim, hduties, hstate]

/-- A trim that starts changes, of the chiplet's registers, its state and its events. -/
theorem startTrim_rd (s : State) {f : Fld} (hf : f.apartFrom R.MESH_STAT_STATE = true) (hevt : f.base ≠ 0x40004) (k : Nat) :
    (startTrim s k).rd f k = s.rd f k := by
  have hmesh : f.ofMesh = true := by
    simp only [Fld.apartFrom, Bool.and_eq_true] at hf
    exact hf.1.1
  unfold startTrim
  split
  · unfold State.holdStart
    split <;> rfl
  dsimp only
  split
  · exact (rd_raise_meshEvt _ (by decide) hmesh hevt k).trans (rd_wr_mesh _ hf k _)
  · split <;> rfl

theorem startTrim_begins {s : State} {k : Nat} (hduties : s.dutiesRun = true) (hstate : s.meshState k = msService) :
    (startTrim s k).meshState k = msRebuild ∧ ((startTrim s k).chip k).work = .trim ∧ ((startTrim s k).chip k).ready = false ∧
      ((startTrim s k).chip k).stale = true ∧ (startTrim s k).on R.MESH_EVT_REBUILD k = true := by
  have hchip : (startTrim s k).chip k = { s.chip k with work := .trim, ready := false, stale := true } := by
    rw [startTrim_service hduties hstate, chip_raise]
    exact chip_putChip ..
  rw [hchip, startTrim_service hduties hstate]
  exact ⟨(rd_raise_meshEvt _ (by decide) (by decide) (by decide) k).trans (meshState_setMesh _ k (by decide)), rfl, rfl, rfl,
    raise_meshEvt _ (by decide) k⟩

theorem residEstimate_pilots {s : State} {k resid : Nat} (hin : s.meshState k ≠ msOut) (hheld : s.plainlyHeld k) :
    (residEstimate s k resid).rd R.MESH_PILOT_CNT_COUNT k = s.rd R.MESH_PILOT_CNT_COUNT k := by
  have hest := rd_estimated s (f := R.MESH_PILOT_CNT_COUNT) (by decide) k resid
  by_cases hhigh : 185 < resid
  · obtain ⟨-, -, hkept⟩ := meshLost_raise (e := R.MESH_EVT_PILOT_HIGH) .pilotHigh (by decide) (by decide) (chipNoted_estimated s k resid)
      (rd_estimated s (by decide) k resid) hin hheld
    rw [residEstimate_high hhigh, hkept _ (by decide) (by decide), hest]
  by_cases htrig : s.residTrig k < resid
  · rw [residEstimate_trims (by omega) htrig, startTrim_rd _ (by decide) (by decide), hest]
  · rw [residEstimate_low (by omega) (by omega), hest]

/-- Settles O41: each cause notes itself and loses the chiplet (`meshLost_raise`), and a pilot that is due is counted before its estimate is
judged. -/
theorem meshFailures : Obligations.MeshFailures := by
  unfold Obligations.MeshFailures
  intro s k hin hheld out
  have hnoted := chipNoted_piloted s k
  have hstate := rd_piloted s (f := R.MESH_STAT_STATE) (by decide) k
  refine ⟨referenceLoss_loses hin hheld, heaterFault_loses hin hheld, fun hst hsw hpassed => settleLate_loses hin hheld ⟨hst, hsw, hpassed⟩,
    settleLate_idle, fun a => optClockTimeout_loses hin hheld, optClockTimeout_locked, fun hserv hclk hempty hmoving helapsed resid => ?_,
    fun hnot => pilotPass_idle ?_⟩
  · have hmade := pilotPass_made hserv hclk ((pilotDue_iff s k).2 ⟨hempty, hmoving, helapsed⟩) resid
    refine ⟨⟨_, hmade, ?_⟩, fun hfull hhigh => ⟨_, hmade, ?_⟩, fun hfull hduties htrig hhigh => ⟨_, hmade, ?_⟩,
      fun hlow hhigh => ⟨_, hmade, ?_⟩⟩
    · split
      · exact counted_piloted s k
      · exact (residEstimate_pilots (by rwa [State.meshState, hstate]) (hnoted.plainlyHeld hheld)).trans (counted_piloted s k)
    · rw [if_neg (by omega), residEstimate_high hhigh]
      obtain ⟨hout, hevt, -⟩ := meshLost_raise (e := R.MESH_EVT_PILOT_HIGH) .pilotHigh (by decide) (by decide)
        (hnoted.trans (chipNoted_estimated _ k resid)) ((rd_estimated _ (by decide) k resid).trans hstate) hin hheld
      exact ⟨hout, hevt⟩
    · rw [if_neg (by omega), residEstimate_trims hhigh (by rwa [residTrig_piloted])]
      obtain ⟨hrebuild, hwork, -⟩ := startTrim_begins (s := (s.piloted k).estimated k resid) (k := k)
        ((hnoted.trans (chipNoted_estimated _ k resid)).dutiesRun.trans hduties)
        ((rd_estimated _ (by decide) k resid).trans (hstate.trans hserv))
      exact ⟨hrebuild, hwork, (startTrim_rd _ (by decide) (by decide) k).trans (rd_resid_estimated _ k resid)⟩
    · split
      · exact hstate.trans hserv
      · rw [residEstimate_low hhigh (by rw [residTrig_piloted]; omega)]
        exact (rd_estimated _ (by decide) k resid).trans (hstate.trans hserv)
  · have hdue : s.pilotDue k = false ↔ ¬ ((s.chip k).order = [] ∧ s.on R.FEED_STAT_MOVING 0 = false ∧ s.PilotElapsed k) := by
      rw [← pilotDue_iff, Bool.not_eq_true]
    obtain h | h | h | h | ⟨a, hat, hsoon⟩ := hnot
    · exact .inl h
    · exact .inr (.inl h)
    · exact .inr (.inr (hdue.2 fun hd => h hd.1))
    · exact .inr (.inr (hdue.2 fun hd => by simp [h] at hd))
    · refine .inr (.inr (hdue.2 fun ⟨_, _, helapsed⟩ => ?_))
      have := helapsed a hat
      omega

end Sys2Proof.Machine
end

section
/-! PROOF. The family of 05_optical_mixing_engine.md: the trims and swaps of the chiplets (O42). -/

namespace Sys2Proof.Machine

/-! ### The table areas of a chiplet -/

theorem meshTblAt_putMeshTbl (s : State) (k bank area i k' bank' area' i' : Nat) (w : Word) :
    (s.putMeshTbl k bank area i w).meshTblAt k' bank' area' i' =
      if meshKey k' bank' area' i' = meshKey k bank area i then w else s.meshTblAt k' bank' area' i' := spGet_spSet ..

/-- The first `n` entries of a table area are written. -/
def State.writeArea (s : State) (k bank area n : Nat) (g : Nat → Word) : State :=
  s.each (List.range n) fun s i => s.putMeshTbl k bank area i (g i)

theorem writeArea_succ (s : State) (k bank area n : Nat) (g : Nat → Word) :
    s.writeArea k bank area (n + 1) g = (s.writeArea k bank area n g).putMeshTbl k bank area n (g n) := by
  simp only [State.writeArea, State.each, List.range_succ, List.foldl_append, List.foldl_cons, List.foldl_nil]

/-- A table area is written without touching anything else. -/
theorem writeArea_aside (s : State) (k bank area n : Nat) (g : Nat → Word) : ∃ m, s.writeArea k bank area n g = s.setMeshTbl m := by
  induction n with
  | zero => exact ⟨s.meshTbl, rfl⟩
  | succ n ih =>
    obtain ⟨m, hm⟩ := ih
    rw [writeArea_succ, hm]
    exact ⟨_, rfl⟩

theorem meshTblAt_writeArea (s : State) (k bank area n : Nat) (g : Nat → Word) (k' bank' area' i' : Nat) :
    (s.writeArea k bank area n g).meshTblAt k' bank' area' i' =
      if meshKey k bank area 0 ≤ meshKey k' bank' area' i' ∧ meshKey k' bank' area' i' < meshKey k bank area n then
        g (meshKey k' bank' area' i' - meshKey k bank area 0)
      else s.meshTblAt k' bank' area' i' := by
  have hkey (i : Nat) : meshKey k bank area i = meshKey k bank area 0 + i := rfl
  induction n with
  | zero => exact (if_neg (by omega)).symm
  | succ n ih =>
    rw [writeArea_succ, meshTblAt_putMeshTbl, ih, hkey n, hkey (n + 1)]
    generalize meshKey k' bank' area' i' = x
    by_cases hx : x = meshKey k bank area 0 + n
    · rw [if_pos hx, if_pos (by omega)]
      exact congrArg g (by omega)
    · rw [if_neg hx]
      exact if_congr (by omega) rfl rfl

theorem meshTblAt_writeArea_same (s : State) (k bank area : Nat) {n i : Nat} (g : Nat → Word) (h : i < n) :
    (s.writeArea k bank area n g).meshTblAt k bank area i = g i := by
  rw [meshTblAt_writeArea, if_pos (by simp only [meshKey]; omega)]
  exact congrArg g (by simp only [meshKey]; omega)

theorem meshTblAt_writeArea_other (s : State) {k bank area n bank' area' i' : Nat} (g : Nat → Word) (hn : n ≤ 16384) (hi : i' < 16384)
    (harea : area < 4) (harea' : area' < 4) (h : bank' ≠ bank ∨ area' ≠ area) :
    (s.writeArea k bank area n g).meshTblAt k bank' area' i' = s.meshTblAt k bank' area' i' := by
  rw [meshTblAt_writeArea, if_neg (by simp only [meshKey]; omega)]

/-- A computation's heater powers are written. -/
theorem writeHeaters_eq (s : State) (k bank ix : Nat) :
    writeHeaters s k bank ix = s.writeArea k bank 0 8192 fun i => BitVec.ofNat 32 (Config.heaterPower ix i % 65536) := rfl

/-! ### The beginnings of trims and crosstalk rebuilds -/

/-- Work that a takeover holds back is noted, and nothing else. -/
theorem holdStart_waits (s : State) (h : HeldStart) : s.holdStart h = s.setSup (s.holdStart h).sup ∧ h ∈ (s.holdStart h).sup.waiting := by
  unfold State.holdStart
  split
  · rename_i hmem
    exact ⟨rfl, List.elem_iff.1 hmem⟩
  · exact ⟨rfl, List.mem_append_right _ (List.mem_singleton_self h)⟩

theorem on_putChip (s : State) (k i : Nat) (v : Chip) (f : Fld) : (s.putChip k v).on f i = s.on f i := rfl

theorem startXtalk_service {s : State} {k : Nat} (hstate : s.meshState k = msService) : (startXtalk s k).meshState k = msRebuild ∧
    ((startXtalk s k).chip k).work = .xtalk ∧ (startXtalk s k).on R.MESH_EVT_REBUILD k = true := by
  let u := (s.putChip k { s.chip k with work := .xtalk, ready := false }).raise R.MESH_EVT_REBUILD k
  have hchip : u.chip k = { s.chip k with work := .xtalk, ready := false } := (chip_raise ..).trans (chip_putChip ..)
  rw [show startXtalk s k = setMesh (u.putChip k { u.chip k with stale := true }) k msRebuild from if_pos hstate]
  refine ⟨meshState_setMesh _ k (by decide), ?_, ?_⟩
  · refine (congrArg Chip.work (chip_putChip ..)).trans ?_
    rw [hchip]
  · rw [setMesh, on_wr_mesh _ (by decide), on_putChip]
    exact raise_meshEvt _ (by decide) k

/-- A crosstalk rebuild of a chiplet UNUSED or OUT_OF_SERVICE leaves it in its state. -/
theorem startXtalk_aside {s : State} {k : Nat} (hstate : s.meshState k = msUnused ∨ s.meshState k = msOut) :
    (startXtalk s k).meshState k = s.meshState k ∧ (startXtalk s k).chip k = { s.chip k with work := .xtalk, ready := false } ∧
      (startXtalk s k).on R.MESH_EVT_REBUILD k = true := by
  have heq : startXtalk s k = (s.putChip k { s.chip k with work := .xtalk, ready := false }).raise R.MESH_EVT_REBUILD k := by
    unfold startXtalk
    obtain h | h := hstate <;> simp [h]
  rw [heq]
  exact ⟨rd_raise_meshEvt _ (by decide) (by decide) (by decide) k, (chip_raise ..).trans (chip_putChip ..), raise_meshEvt _ (by decide) k⟩

theorem startXtalk_idle {s : State} {k : Nat} (hstate : s.meshState k = msChanging ∨ s.meshState k = msSettling) : startXtalk s k = s := by
  unfold startXtalk
  obtain h | h := hstate <;> simp [h]

theorem xtStart_eq {s : State} {k : Nat} (hduties : s.dutiesRun = true) (h : s.meshState k ≠ msOut ∨ (s.chip k).failed = false) :
    xtStart s k = startXtalk s k := by
  unfold xtStart
  obtain h | h := h <;> simp [hduties, h]

theorem xtStart_idle {s : State} {k : Nat} (hduties : s.dutiesRun = true)
    (h : s.meshState k = msChanging ∨ s.meshState k = msSettling ∨ (s.meshState k = msOut ∧ (s.chip k).failed = true)) : xtStart s k = s := by
  obtain h | h | ⟨hout, hfailed⟩ := h
  · rw [xtStart_eq hduties (.inl (by simp [h])), startXtalk_idle (.inl h)]
  · rw [xtStart_eq hduties (.inl (by simp [h])), startXtalk_idle (.inr h)]
  · simp [xtStart, hduties, hout, hfailed]

theorem xtStart_held {s : State} {k : Nat} (hduties : s.dutiesRun = false) : xtStart s k = s.holdStart (.xtalk k) := by
  simp [xtStart, hduties]

theorem trimStart_service {s : State} {k : Nat} (hstate : s.meshState k = msService) : trimStart s k = startTrim s k := if_pos hstate

theorem startTrim_held {s : State} {k : Nat} (hduties : s.dutiesRun = false) : startTrim s k = s.holdStart (.trim k) := by
  simp [startTrim, hduties]

/-- The age trigger that is due is a TRIM_START. -/
theorem meshAgeTrigger_due {s : State} {k : Fin 4} (hstate : s.meshState k = msService) (hduties : s.dutiesRun = true)
    (hage : s.rd R.MESH_CAL_CFG_AGE_TRIG k ≠ 0) (hpassed : s.passed (s.chip k).swapAt (1000 * msec * s.rd R.MESH_CAL_CFG_AGE_TRIG k) = true) :
    Does (.meshAgeTrigger k) s fun t => exec (.trimStart k) s = .next t := by
  refine ⟨startTrim s k, congrArg Host.Outcome.next (if_pos ?_), congrArg Host.Outcome.next (trimStart_service hstate)⟩
  simp [hduties, hage, hpassed]

theorem meshAgeTrigger_off {s : State} {k : Fin 4} (hage : s.rd R.MESH_CAL_CFG_AGE_TRIG k = 0) : Does (.meshAgeTrigger k) s fun t => t = s :=
  ⟨s, congrArg Host.Outcome.next (if_neg (by simp [hage])), rfl⟩

/-! ### The ambient update -/

theorem ambientUpdate_small {s : State} {k : Fin 4} (hused : s.meshState k ≠ msUnused) (hin : s.meshState k ≠ msOut) :
    Does (.ambientUpdate k true) s fun t => t.freeIx = s.freeIx + 1 ∧
      ∀ i < 8192, t.meshTblAt k (s.meshBank k) 0 i = BitVec.ofNat 32 (Config.heaterPower s.freeIx i % 65536) := by
  refine ⟨writeHeaters (s.setFreeIx (s.freeIx + 1)) k (s.meshBank k) s.freeIx, congrArg Host.Outcome.next (if_neg ?_), ?_, fun i hi => ?_⟩
  · simp [hused, hin]
  · obtain ⟨m, hm⟩ := writeArea_aside (s.setFreeIx (s.freeIx + 1)) k (s.meshBank k) 0 8192
      fun i => BitVec.ofNat 32 (Config.heaterPower s.freeIx i % 65536)
    rw [writeHeaters_eq, hm]
    rfl
  · rw [writeHeaters_eq]
    exact meshTblAt_writeArea_same _ _ _ _ _ hi

theorem ambientUpdate_idle {s : State} {k : Fin 4} {small : Bool}
    (h : small = false ∨ s.meshState k = msUnused ∨ s.meshState k = msOut) : Does (.ambientUpdate k small) s fun t => t = s := by
  refine ⟨s, congrArg Host.Outcome.next (if_pos ?_), rfl⟩
  obtain h | h | h := h <;> simp [h]

/-! ### The swap -/

/-- The chiplet's record after a swap at `now`. -/
def Chip.swappedAt (c : Chip) (now : Nat) : Chip :=
  let full := decide (c.work = .matrix)
  { c with
    matrix := if full then c.next else c.matrix, next := if full then none else c.next, work := .none, ready := false, belled := false,
    drain := [], stale := false, swapAt := now, full := full, swapped := true, pilots := 0, badChan := none }

/-- The registers of a swap: the other bank, the temperature, the count and the time of the calibration. -/
def State.swapRegs (s : State) (k : Nat) : State :=
  let s := s.wr R.MESH_STAT_BANK k (1 - s.meshBank k)
  ((s.wr R.MESH_TEMP_CAL_MEAN k (s.rd R.MESH_TEMP_MEAN k)).bump R.MESH_CAL_CNT_COUNT k).wrTime R.MESH_CAL_TIME_LO_TIME_LO
    R.MESH_CAL_TIME_HI_TIME_HI k

/-- A swap is its record, its registers and its event, with the settling. -/
theorem meshSwap_eq (s : State) (k : Nat) : ∃ u : State, u.regs = s.regs ∧ u.chip k = (s.chip k).swappedAt s.now ∧
    meshSwap s k = setMesh ((applyMeshOps (u.swapRegs k) k).raise R.MESH_EVT_SWAP k) k msSettling := by
  have hset (w : State) (hchip : w.chip k = s.chip k) (hnow : w.now = s.now) :
      (w.putChip k ((s.chip k).swappedAt w.now)).chip k = (s.chip k).swappedAt s.now := by rw [hnow]; exact chip_putChip ..
  unfold meshSwap
  cases s.meshJob k with
  | none => exact ⟨s.putChip k ((s.chip k).swappedAt s.now), rfl, hset s rfl rfl, rfl⟩
  | some j =>
    dsimp only
    split
    · exact ⟨(s.putJob j _).putChip k ((s.chip k).swappedAt s.now), rfl, hset (s.putJob j _) rfl rfl, rfl⟩
    · exact ⟨s.putChip k ((s.chip k).swappedAt s.now), rfl, hset s rfl rfl, rfl⟩

theorem applyMeshOps_regs (s : State) (k : Nat) : (applyMeshOps s k).regs = s.regs := by
  unfold applyMeshOps
  refine each_regs (fun _ _ => ?_) s
  rfl

theorem applyMeshOps_chip (s : State) (k i : Nat) : (applyMeshOps s k).chip i = s.chip i := by
  unfold applyMeshOps
  refine each_keeps (State.chip · i) _ _ s fun _ _ => ?_
  rfl

theorem chip_wr (s : State) (f : Fld) (i v k : Nat) : (s.wr f i v).chip k = s.chip k := rfl

theorem chip_swapRegs (s : State) (k i : Nat) : (s.swapRegs k).chip i = s.chip i := by
  simp only [State.swapRegs, State.wrTime, State.bump, State.bumpBy, chip_wr]

theorem chip_setMesh (s : State) (k st i : Nat) : (setMesh s k st).chip i = s.chip i := rfl

/-- What a swap of chiplet `k` makes of it (R139, R145). -/
def State.MeshSwapped (s t : State) (k : Nat) : Prop :=
  t.meshBank k = 1 - s.meshBank k ∧ t.meshState k = msSettling ∧ (t.chip k).stale = false ∧ (t.chip k).work = .none ∧
    (t.chip k).matrix = (if (s.chip k).work = .matrix then (s.chip k).next else (s.chip k).matrix) ∧
    t.rd R.MESH_TEMP_CAL_MEAN k = s.rd R.MESH_TEMP_MEAN k ∧ Counted s t R.MESH_CAL_CNT_COUNT k ∧ t.on R.MESH_EVT_SWAP k = true

theorem rd_of_regs {s t : State} (h : t.regs = s.regs) (f : Fld) (i : Nat) : t.rd f i = s.rd f i := rd_of_word (by unfold State.word; rw [h])

theorem meshBank_swapRegs (s : State) (k : Nat) : (s.swapRegs k).meshBank k = 1 - s.meshBank k := by
  refine (rd_wr_mesh _ (by decide) k _).trans ((rd_wr_mesh _ (by decide) k _).trans ((rd_wr_mesh _ (by decide) k _).trans
    ((rd_wr_mesh _ (by decide) k _).trans ((rd_wr_same s R.MESH_STAT_BANK k _ (by decide)).trans (Nat.mod_eq_of_lt ?_)))))
  simp only [R.MESH_STAT_BANK]
  omega

theorem calMean_swapRegs (s : State) (k : Nat) : (s.swapRegs k).rd R.MESH_TEMP_CAL_MEAN k = s.rd R.MESH_TEMP_MEAN k :=
  (rd_wr_mesh _ (by decide) k _).trans ((rd_wr_mesh _ (by decide) k _).trans ((rd_wr_mesh _ (by decide) k _).trans
    ((rd_wr_same _ R.MESH_TEMP_CAL_MEAN k _ (by decide)).trans ((Nat.mod_eq_of_lt (fieldOf_lt ..)).trans (rd_wr_mesh s (by decide) k _)))))

/-- A write of another register than the events leaves them. -/
theorem on_wr_meshEvt (s : State) {f g : Fld} (hf : f.meshEvt = true) (hg : g.ofMesh = true) (hne : g.base ≠ 0x40004) (k v : Nat) :
    (s.wr g k v).on f k = s.on f k := by
  simp only [Fld.meshEvt, Bool.and_eq_true, beq_iff_eq] at hf
  obtain ⟨⟨hmesh, hbase⟩, -⟩ := hf
  exact on_wr_mesh s (by simp [Fld.apartFrom, hmesh, hg, hbase, hne.symm]) k v

/-- An event leaves those that stand. -/
theorem raise_meshEvt_keeps (s : State) {e f : Fld} (he : e.meshEvt = true) (hf : f.meshEvt = true) {k : Nat} (h : s.on f k = true) :
    (s.raise e k).on f k = true := by
  simp only [Fld.meshEvt, Bool.and_eq_true, beq_iff_eq, decide_eq_true_eq] at he hf
  obtain ⟨⟨hemesh, hebase⟩, -⟩ := he
  obtain ⟨⟨hfmesh, hfbase⟩, hlo, -⟩ := hf
  have hkey := mesh_key_range hemesh k
  exact raise_on_of_on s e f k k (by rw [mesh_key hemesh, mesh_key hfmesh, hebase, hfbase]) (by omega) hlo h

theorem on_swapRegs (s : State) {f : Fld} (h : f.meshEvt = true) (k : Nat) : (s.swapRegs k).on f k = s.on f k :=
  (on_wr_meshEvt _ h (by decide) (by decide) k _).trans ((on_wr_meshEvt _ h (by decide) (by decide) k _).trans
    ((on_wr_meshEvt _ h (by decide) (by decide) k _).trans ((on_wr_meshEvt _ h (by decide) (by decide) k _).trans
      (on_wr_meshEvt s h (by decide) (by decide) k _))))

theorem calCnt_swapRegs (s : State) (k : Nat) : Counted s (s.swapRegs k) R.MESH_CAL_CNT_COUNT k := by
  let u := (s.wr R.MESH_STAT_BANK k (1 - s.meshBank k)).wr R.MESH_TEMP_CAL_MEAN k ((s.wr R.MESH_STAT_BANK k (1 - s.meshBank k)).rd R.MESH_TEMP_MEAN k)
  have hcount : u.rd R.MESH_CAL_CNT_COUNT k = s.rd R.MESH_CAL_CNT_COUNT k := (rd_wr_mesh _ (by decide) k _).trans (rd_wr_mesh s (by decide) k _)
  have htime : (s.swapRegs k).rd R.MESH_CAL_CNT_COUNT k = (u.bump R.MESH_CAL_CNT_COUNT k).rd R.MESH_CAL_CNT_COUNT k :=
    (rd_wr_mesh _ (by decide) k _).trans (rd_wr_mesh _ (by decide) k _)
  rw [Counted, htime, ← hcount]
  exact counted_bump u k (by decide)

/-- The swap, and the straddling batches it leaves marked. -/
theorem meshSwap_swaps (s : State) (k : Nat) : s.MeshSwapped (meshSwap s k) k ∧ ((meshSwap s k).chip k).straddle = (s.chip k).straddle ∧
    ∀ f : Fld, f.meshEvt = true → s.on f k = true → (meshSwap s k).on f k = true := by
  obtain ⟨u, hregs, hchip, heq⟩ := meshSwap_eq s k
  have hrd {f : Fld} (hf : f.apartFrom R.MESH_STAT_STATE = true) (hbase : f.base ≠ 0x40004) : (meshSwap s k).rd f k = (u.swapRegs k).rd f k := by
    have hmesh : f.ofMesh = true := by
      simp only [Fld.apartFrom, Bool.and_eq_true] at hf
      exact hf.1.1
    rw [heq]
    exact (rd_wr_mesh _ hf k _).trans ((rd_raise_meshEvt _ (by decide) hmesh hbase k).trans (rd_of_regs (applyMeshOps_regs ..) f k))
  have hafter : (meshSwap s k).chip k = (s.chip k).swappedAt s.now := by
    rw [heq]
    rw [chip_setMesh, chip_raise, applyMeshOps_chip, chip_swapRegs, hchip]
  rw [State.MeshSwapped, hafter]
  refine ⟨⟨?_, ?_, rfl, rfl, ?_, ?_, ?_, ?_⟩, rfl, fun f hf hon => ?_⟩
  · have hbank : u.meshBank k = s.meshBank k := rd_of_regs hregs ..
    rw [← hbank, ← meshBank_swapRegs]
    exact hrd (by decide) (by decide)
  · rw [heq]
    exact meshState_setMesh _ k (by decide)
  · simp only [Chip.swappedAt, decide_eq_true_eq]
  · rw [hrd (by decide) (by decide), calMean_swapRegs]
    exact rd_of_regs hregs ..
  · rw [Counted, hrd (by decide) (by decide), ← rd_of_regs hregs]
    exact calCnt_swapRegs u k
  · rw [heq, setMesh, on_wr_mesh _ (by decide)]
    exact raise_meshEvt _ (by decide) k
  · rw [heq]
    refine (on_wr_meshEvt _ hf (by decide) (by decide) k _).trans (raise_meshEvt_keeps _ (by decide) hf ?_)
    have hops : (applyMeshOps (u.swapRegs k) k).on f k = (u.swapRegs k).on f k := congrArg (· != 0) (rd_of_regs (applyMeshOps_regs ..) f k)
    have hu : u.on f k = s.on f k := congrArg (· != 0) (rd_of_regs hregs f k)
    rw [hops, on_swapRegs u hf, hu, hon]

theorem meshSwap_reached {s : State} {k : Fin 4} (h : s.meshSwapPoint k = true) : Does (.meshSwap k) s fun t => s.MeshSwapped t k :=
  ⟨_, congrArg Host.Outcome.next (if_pos h), (meshSwap_swaps s k).1⟩

theorem meshSwap_unreached {s : State} {k : Fin 4} (h : s.meshSwapPoint k = false) : Does (.meshSwap k) s fun t => t = s :=
  ⟨s, congrArg Host.Outcome.next (if_neg (by simp [h])), rfl⟩

/-- A trim that has waited for SWAP_WAIT swaps regardless, and the batches that straddle the swap are marked. -/
theorem meshSwapForced_waited {s : State} {k : Fin 4} (hready : (s.chip k).ready = true)
    (hwork : (s.chip k).work = .trim ∨ (s.chip k).work = .xtalk) (hpassed : s.passed (s.chip k).holdAt (usec * s.meshWait k) = true) :
    Does (.meshSwapForced k) s fun t => s.MeshSwapped t k ∧ t.on R.MESH_EVT_SWAP_FORCED k = true ∧
      (t.chip k).straddle = (s.chip k).straddle ++ s.meshStraddle k := by
  let u := (s.putChip k { s.chip k with straddle := (s.chip k).straddle ++ s.meshStraddle k }).raise R.MESH_EVT_SWAP_FORCED k
  have hchip : u.chip k = { s.chip k with straddle := (s.chip k).straddle ++ s.meshStraddle k } := (chip_raise ..).trans (chip_putChip ..)
  have hrd {f : Fld} (hf : f.ofMesh = true) (hbase : f.base ≠ 0x40004) : u.rd f k = s.rd f k := rd_raise_meshEvt _ (by decide) hf hbase k
  obtain ⟨⟨hbank, hstate, hstale, hnone, hmatrix, hmean, hcount, hswap⟩, hstraddle, hkept⟩ := meshSwap_swaps u k
  rw [hchip] at hmatrix hstraddle
  refine ⟨meshSwap u k, congrArg Host.Outcome.next (if_pos ?_), ⟨?_, hstate, hstale, hnone, hmatrix, ?_, ?_, hswap⟩, ?_, hstraddle⟩
  · obtain h | h := hwork <;> simp [hready, h, hpassed]
  · rw [hbank, State.meshBank, hrd (by decide) (by decide), State.meshBank]
  · rw [hmean, hrd (by decide) (by decide)]
  · rw [Counted, hcount, hrd (by decide) (by decide)]
  · exact hkept _ (by decide) (raise_meshEvt _ (by decide) k)

theorem meshSwapForced_idle {s : State} {k : Fin 4}
    (h : (s.chip k).ready = false ∨ s.passed (s.chip k).holdAt (usec * s.meshWait k) = false) : Does (.meshSwapForced k) s fun t => t = s := by
  refine ⟨s, congrArg Host.Outcome.next (if_neg ?_), rfl⟩
  obtain h | h := h <;> simp [h]

/-- Settles O42: what starts and what is held (`startTrim_begins`, `startXtalk_service`, `holdStart_waits`), the bank's heaters
(`meshTblAt_writeArea_same`) and the swap (`meshSwap_swaps`). -/
theorem meshTrimsAndSwaps : Obligations.MeshTrimsAndSwaps := by
  unfold Obligations.MeshTrimsAndSwaps
  intro s k
  refine ⟨fun hserv hduties => ⟨⟨startTrim s k, congrArg Host.Outcome.next (trimStart_service hserv), startTrim_begins hduties hserv⟩,
    meshAgeTrigger_due hserv hduties, ⟨startXtalk s k, congrArg Host.Outcome.next ?_, startXtalk_service hserv⟩⟩,
    fun hnot => ⟨s, congrArg Host.Outcome.next (if_neg hnot), rfl⟩, fun hheld => ⟨fun hserv => ?_, ?_⟩, meshAgeTrigger_off,
    fun hunused hduties => ?_, fun hduties hnot => ⟨s, congrArg Host.Outcome.next (xtStart_idle hduties hnot), rfl⟩, ambientUpdate_small,
    ambientUpdate_idle (.inl rfl), fun hout => ambientUpdate_idle (.inr hout), meshSwap_reached, meshSwap_unreached,
    fun hready hwork => ⟨meshSwapForced_waited hready hwork, fun hsoon => meshSwapForced_idle (.inr hsoon)⟩,
    fun hready => meshSwapForced_idle (.inl hready)⟩
  · exact xtStart_eq hduties (.inl (by simp [hserv]))
  · exact ⟨_, congrArg Host.Outcome.next ((trimStart_service hserv).trans (startTrim_held hheld)), holdStart_waits s _⟩
  · exact ⟨_, congrArg Host.Outcome.next (xtStart_held hheld), holdStart_waits s _⟩
  · obtain ⟨hstate, hchip, -⟩ := startXtalk_aside (.inl hunused)
    exact ⟨_, congrArg Host.Outcome.next (xtStart_eq hduties (.inl (by simp [hunused]))), hstate.trans hunused, by rw [hchip]⟩

end Sys2Proof.Machine
end

section
/-! PROOF. The family of 05_optical_mixing_engine.md: how the computations of the chiplets end (O43). -/

namespace Sys2Proof.Machine

/-! ### Computed matrices and trims -/

/-- Two runs are one when their steps agree on the states that have a property the steps keep. -/
theorem each_congr_of_inv {α : Type} {P : State → Prop} {f g : State → α → State} {l : List α}
    (hfg : ∀ t, ∀ a ∈ l, P t → f t a = g t a) (hg : ∀ t, ∀ a ∈ l, P t → P (g t a)) {s : State} (hs : P s) :
    s.each l f = s.each l g := by
  induction l generalizing s with
  | nil => rfl
  | cons a l ih =>
    have ha := List.mem_cons_self (a := a) (l := l)
    rw [each_cons, each_cons, hfg s a ha hs]
    exact ih (fun t b hb => hfg t b (List.mem_cons_of_mem a hb)) (fun t b hb => hg t b (List.mem_cons_of_mem a hb)) (hg s a ha hs)

/-- The receive table in service is carried into the other bank. -/
theorem carryReceive_eq (s : State) (k : Nat) :
    carryReceive s k = s.writeArea k (1 - s.meshBank k) 1 512 fun i => s.meshTblAt k (s.meshBank k) 1 i := by
  have hrange (i : Nat) (h : i ∈ List.range 512) : i < 512 := List.mem_range.1 h
  unfold carryReceive State.writeArea
  generalize List.range 512 = l at hrange ⊢
  apply each_congr_of_inv
    (P := fun t => t.meshBank k = s.meshBank k ∧ ∀ i < 512, t.meshTblAt k (s.meshBank k) 1 i = s.meshTblAt k (s.meshBank k) 1 i)
  · intro t i hi ⟨hbank, hkept⟩
    rw [hbank, hkept i (hrange i hi)]
  · intro t i hi ⟨hbank, hkept⟩
    have hlt := hrange i hi
    refine ⟨hbank, fun i' hi' => ?_⟩
    rw [meshTblAt_putMeshTbl, if_neg (by simp only [meshKey]; omega), hkept i' hi']
  · exact ⟨rfl, fun _ _ => rfl⟩

/-- A computation of chiplet `k` has ended: a free value gave the heaters of the standby bank, the receive table in service stands, and the
swap is awaited. -/
def State.Heated (s t : State) (k : Nat) : Prop :=
  t.freeIx = s.freeIx + 1 ∧ (t.chip k).ready = true ∧ (t.chip k).holdAt = s.now ∧ ∀ i,
    (i < 8192 → t.meshTblAt k (1 - s.meshBank k) 0 i = BitVec.ofNat 32 (Config.heaterPower s.freeIx i % 65536)) ∧
    (i < 512 → t.meshTblAt k (s.meshBank k) 1 i = s.meshTblAt k (s.meshBank k) 1 i)

/-- The free value is drawn, and the heaters of chiplet `k` are written into its standby bank. -/
def State.heatersDrawn (s : State) (k : Nat) : State := writeHeaters (s.setFreeIx (s.freeIx + 1)) k (1 - s.meshBank k) s.freeIx

theorem heatersDrawn_aside (s : State) (k : Nat) : ∃ m, s.heatersDrawn k = (s.setFreeIx (s.freeIx + 1)).setMeshTbl m := writeArea_aside ..

theorem meshBank_heatersDrawn (s : State) (k : Nat) : (s.heatersDrawn k).meshBank k = s.meshBank k := by
  obtain ⟨m, hm⟩ := heatersDrawn_aside s k
  rw [hm]
  rfl

theorem meshTblAt_heatersDrawn (s : State) (k bank : Nat) {i : Nat} (h : i < 512) :
    (s.heatersDrawn k).meshTblAt k bank 1 i = s.meshTblAt k bank 1 i :=
  meshTblAt_writeArea_other _ _ (by decide) (by omega) (by decide) (by decide) (.inr (by decide))

/-- The computation awaits its swap. -/
def State.computed (s : State) (k : Nat) : State := s.putChip k { s.chip k with ready := true, holdAt := s.now }

theorem setMeshTbl_twice (s : State) (m m' : Sparse Word) : (s.setMeshTbl m).setMeshTbl m' = s.setMeshTbl m' := rfl

theorem meshTblAt_computed (s : State) (k k' bank area i : Nat) : (s.computed k).meshTblAt k' bank area i = s.meshTblAt k' bank area i := rfl

theorem computed_aside {s w : State} {m : Sparse Word} (h : w = (s.setFreeIx (s.freeIx + 1)).setMeshTbl m) (k : Nat) :
    (w.computed k).freeIx = s.freeIx + 1 ∧ (w.computed k).chip k = { s.chip k with ready := true, holdAt := s.now } ∧
      (w.computed k).meshJob k = s.meshJob k := by
  subst h
  exact ⟨rfl, chip_putChip .., rfl⟩

/-- With the receive table of the standby bank, the computation has ended. -/
theorem heatersDrawn_heated (s : State) (k : Nat) (g : Nat → Word) :
    let t := ((s.heatersDrawn k).writeArea k (1 - s.meshBank k) 1 512 g).computed k
    s.Heated t k ∧ ∀ i < 512, t.meshTblAt k (1 - s.meshBank k) 1 i = g i := by
  obtain ⟨m, hm⟩ := heatersDrawn_aside s k
  obtain ⟨m', hm'⟩ := writeArea_aside (s.heatersDrawn k) k (1 - s.meshBank k) 1 512 g
  obtain ⟨hfree, hchip, -⟩ := computed_aside (s := s) (m := m') (hm'.trans (by rw [hm, setMeshTbl_twice])) k
  refine ⟨⟨hfree, by rw [hchip], by rw [hchip], fun i => ⟨fun hi => ?_, fun hi => ?_⟩⟩, fun i hi => ?_⟩
  · rw [meshTblAt_computed, meshTblAt_writeArea_other _ _ (by decide) (by omega) (by decide) (by decide) (.inr (by decide))]
    exact meshTblAt_writeArea_same _ _ _ _ _ hi
  · rw [meshTblAt_computed, meshTblAt_writeArea_other _ _ (by decide) (by omega) (by decide) (by decide) (.inl (by omega)),
      meshTblAt_heatersDrawn s k _ hi]
  · rw [meshTblAt_computed]
    exact meshTblAt_writeArea_same _ _ _ _ _ hi

/-- A matrix of a load, or of no job, is computed into the standby bank with its receive table. -/
theorem matrixComputed_eq {s : State} {k : Nat} (h : (s.chip k).why = .load ∨ s.meshJob k = none) : matrixComputed s k =
    ((s.heatersDrawn k).writeArea k (1 - s.meshBank k) 1 512 fun i => Config.receiveEntry s.freeIx i &&& 0x00FF_FFFF).computed k := by
  obtain ⟨m, hm⟩ := heatersDrawn_aside s k
  obtain ⟨m', hm'⟩ := writeArea_aside (s.heatersDrawn k) k (1 - s.meshBank k) 1 512 fun i => Config.receiveEntry s.freeIx i &&& 0x00FF_FFFF
  generalize hu : ((s.heatersDrawn k).writeArea k (1 - s.meshBank k) 1 512 fun i => Config.receiveEntry s.freeIx i &&& 0x00FF_FFFF) = u at hm'
  have hstep : matrixComputed s k = (match (u.computed k).meshJob k with
      | none => u.computed k
      | some j =>
        match (s.chip k).why with
        | .grade => gradeProgress (u.computed k) j
        | .bell => meshReady (u.computed k) j k
        | .load | .back | .none => u.computed k) := by rw [← hu]; rfl
  obtain ⟨-, -, hjob⟩ := computed_aside (s := s) (m := m') (hm'.trans (by rw [hm, setMeshTbl_twice])) k
  rw [hstep, hjob]
  obtain h | h := h
  · cases s.meshJob k <;> simp only [h]
  · simp only [h]

theorem matrixComputeDone_matrix {s : State} {k : Fin 4} (hready : (s.chip k).ready = false) (hwork : (s.chip k).work = .matrix)
    (hwhy : (s.chip k).why = .load ∨ s.meshJob k = none) : Does (.matrixComputeDone k true) s fun t => s.Heated t k ∧
      ∀ i < 512, t.meshTblAt k (1 - s.meshBank k) 1 i = Config.receiveEntry s.freeIx i &&& 0x00FF_FFFF := by
  refine ⟨_, congrArg Host.Outcome.next ?_, heatersDrawn_heated s k _⟩
  rw [← matrixComputed_eq hwhy]
  simp only [hready, hwork, Bool.false_eq_true, if_false, if_true]

theorem matrixComputeDone_trim {s : State} {k : Fin 4} (hready : (s.chip k).ready = false) (hwork : (s.chip k).work = .trim)
    (hstate : s.meshState k = msRebuild) : Does (.matrixComputeDone k true) s fun t => s.Heated t k ∧
      ∀ i < 512, t.meshTblAt k (1 - s.meshBank k) 1 i = s.meshTblAt k (s.meshBank k) 1 i := by
  obtain ⟨hheated, hcarried⟩ := heatersDrawn_heated s k fun i => (s.heatersDrawn k).meshTblAt k (s.meshBank k) 1 i
  refine ⟨_, congrArg Host.Outcome.next ?_, hheated, fun i hi => (hcarried i hi).trans (meshTblAt_heatersDrawn s k _ hi)⟩
  have hcarry := carryReceive_eq (s.heatersDrawn k) k
  rw [meshBank_heatersDrawn] at hcarry
  rw [← hcarry]
  simp only [hready, hwork, hstate, Bool.false_eq_true, if_false, if_true, Bool.true_and, beq_self_eq_true]
  rfl

theorem matrixComputeDone_idle {s : State} {k : Fin 4} {ok : Bool}
    (h : (s.chip k).ready = true ∨ (s.chip k).work = .none ∨ (s.chip k).work = .xtalk ∨ ((s.chip k).work = .trim ∧ ok = false)) :
    Does (.matrixComputeDone k ok) s fun t => t = s := by
  refine ⟨s, congrArg Host.Outcome.next ?_, rfl⟩
  obtain h | h | h | ⟨h, hok⟩ := h
  · exact if_pos h
  · simp only [h, ite_self]
  · simp only [h, ite_self]
  · simp only [h, hok, Bool.false_and, Bool.false_eq_true, if_false, ite_self]

/-! ### Settling -/

/-- The counts of the settling of chiplet `k`: its pilots and the estimate. -/
def State.settleCounts (s : State) (k resid : Nat) : State := (s.bumpBy R.MESH_PILOT_CNT_COUNT k 64).wrSat R.MESH_RESID_RESID k resid

/-- The settling of chiplet `k` has ended with its pilots. -/
def State.settled (s : State) (k resid : Nat) : State :=
  (s.settleCounts k resid).putChip k { (s.settleCounts k resid).chip k with
    pilots := 64, work := .none, stale := false, pilotAt := some (s.settleCounts k resid).now }

theorem rd_putChip (s : State) (k : Nat) (v : Chip) (f : Fld) (i : Nat) : (s.putChip k v).rd f i = s.rd f i := rfl

theorem chipNoted_settled (s : State) (k resid : Nat) : ChipNoted k s (s.settled k resid) :=
  ((chipNoted_wr s (f := R.MESH_PILOT_CNT_COUNT) (by decide) k _).trans (chipNoted_wr _ (f := R.MESH_RESID_RESID) (by decide) k _)).trans
    (chipNoted_putChip ..)

theorem rd_settled (s : State) {f : Fld} (h : (f.apartFrom R.MESH_PILOT_CNT_COUNT && f.apartFrom R.MESH_RESID_RESID) = true) (k resid : Nat) :
    (s.settled k resid).rd f k = s.rd f k := by
  obtain ⟨hcount, hresid⟩ := Bool.and_eq_true_iff.1 h
  rw [State.settled, rd_putChip]
  exact (rd_wr_mesh _ hresid k _).trans (rd_wr_mesh s hcount k _)

theorem rd_resid_settled (s : State) (k : Nat) (resid : Fin 65536) : (s.settled k resid).rd R.MESH_RESID_RESID k = resid := by
  rw [State.settled, rd_putChip]
  exact rd_resid_estimated _ k resid

theorem rd_pilots_settled (s : State) (k resid : Nat) : (s.settled k resid).rd R.MESH_PILOT_CNT_COUNT k =
    (s.rd R.MESH_PILOT_CNT_COUNT k + 64) % 2 ^ R.MESH_PILOT_CNT_COUNT.w := by
  rw [State.settled, rd_putChip]
  exact (rd_estimated _ (by decide) k resid).trans (rd_wr_same s R.MESH_PILOT_CNT_COUNT k _ (by decide))

theorem residTrig_settled (s : State) (k resid : Nat) : (s.settled k resid).residTrig k = s.residTrig k := by
  unfold State.residTrig
  rw [rd_settled s (by decide)]

theorem residTrig_le (s : State) (k : Nat) : s.residTrig k ≤ 105 := by
  unfold State.residTrig
  omega

/-- Settling ends where the selector is still and the sample clock locked. -/
def State.mayEndSettling (s : State) (k : Nat) : Prop :=
  s.meshState k = msSettling ∧ s.on R.FEED_STAT_MOVING 0 = false ∧ s.on R.MESH_STAT_CLK_OK k = true

theorem settleDone_eq {s : State} {k : Nat} (h : s.mayEndSettling k) {resid : Nat} (hresid : resid ≤ 185) : settleDone s k resid =
    if s.residTrig k < resid then startTrim (setMesh (s.settled k resid) k msService) k
    else meshServes (setMesh ((s.settled k resid).putChip k { (s.settled k resid).chip k with why := .none }) k msService) k := by
  obtain ⟨hstate, hmoving, hclk⟩ := h
  have hends : settleDone s k resid = if 185 < resid then meshLost ((s.settled k resid).raise R.MESH_EVT_PILOT_HIGH k) k .pilotHigh
      else if (s.settled k resid).residTrig k < resid then startTrim (setMesh (s.settled k resid) k msService) k
      else meshServes (setMesh ((s.settled k resid).putChip k { (s.settled k resid).chip k with why := .none }) k msService) k :=
    if_neg (by simp [hstate, hmoving, hclk])
  rw [hends, if_neg (by omega), residTrig_settled]

/-- Nothing of a job waits for one of its chiplets to be in service: no load, no grade, no bell and no staging. -/
def State.awaitsNothing (s : State) (j : Nat) : Prop :=
  (s.job j).loading = false ∧ (s.job j).holds.grade = false ∧ (s.job j).holds.bell = false ∧ s.runningWith 0x0105 j = none ∧
    (s.stage j).meshes = []

theorem loadProgress_idle {s : State} {j : Nat} (h : (s.job j).loading = false) : loadProgress s j = s := by
  simp [loadProgress, h]

theorem releaseHolds_idle {s : State} {j : Nat} (hgrade : (s.job j).holds.grade = false) (hbell : (s.job j).holds.bell = false) :
    releaseHolds s j = s := by
  simp [releaseHolds, hgrade, hbell]

theorem stagedMatrix_idle {s : State} {j k : Nat} (hheld : s.meshJob k = some j) (h : (s.stage j).meshes = []) : stagedMatrix s k = s := by
  simp [stagedMatrix, hheld, h]

/-- A job's record once chiplet `k` serves it: none of its operators there is substituted. -/
def Job.servedBy (job : Job) (k : Nat) : Job :=
  { job with substOn := job.substOn.filter fun o => !((job.chips.filter fun e => e.1 == k).map (·.2)).contains o }

theorem Job.servedBy_spec {job : Job} {k o : Nat} (h : (k, o) ∈ job.chips) : o ∉ (job.servedBy k).substOn := by
  simp only [Job.servedBy, List.mem_filter, not_and, Bool.not_eq_true', Bool.not_eq_false, List.contains_iff_mem, List.mem_map]
  exact fun _ => ⟨(k, o), ⟨h, beq_self_eq_true _⟩, rfl⟩

/-- Chiplet `k` serves job `j`. -/
def State.meshServed (s : State) (j k : Nat) : State := (s.putJob j ((s.job j).servedBy k)).wr R.MESH_STAT_SUBST k 0

theorem job_meshServed (s : State) (j k : Nat) : (s.meshServed j k).job j = (s.job j).servedBy k := job_putJob_same ..

theorem rd_meshServed (s : State) {f : Fld} (h : f.apartFrom R.MESH_STAT_SUBST = true) (j k : Nat) : (s.meshServed j k).rd f k = s.rd f k := by
  rw [State.meshServed, rd_wr_mesh _ h, rd_putJob]

theorem word_meshServed (s : State) (j k : Nat) {x : Nat} (h : x < 0x40000) : (s.meshServed j k).word x = s.word x := by
  have hkey := mesh_key_range (show R.MESH_STAT_SUBST.ofMesh = true by decide) k
  exact word_wr_ne (s.putJob j _) R.MESH_STAT_SUBST k 0 (by omega)

theorem meshServed_unsubstituted (s : State) (j k : Nat) : (s.meshServed j k).on R.MESH_STAT_SUBST k = false :=
  on_eq_false.2 (rd_wr_same _ R.MESH_STAT_SUBST k 0 (by decide))

/-- A chiplet that serves a job again, of which nothing waits for it, is no longer one of those substituted. -/
theorem meshServes_eq {s : State} {j k : Nat} (hheld : s.meshJob k = some j) (h : s.awaitsNothing j) : meshServes s k = s.meshServed j k := by
  obtain ⟨hload, hgrade, hbell, hrunning, hmeshes⟩ := h
  have hstep : meshServes s k = stagedMatrix (gradeProgress (releaseHolds (loadProgress (s.meshServed j k) j) j) j) k := by
    simp only [meshServes, hheld]
    rfl
  have hheld' : (s.meshServed j k).meshJob k = some j :=
    (meshJob_of_word (rd_meshServed s (by decide) j k) (rd_meshServed s (by decide) j k)).trans hheld
  have hrunning' : (s.meshServed j k).runningWith 0x0105 j = none :=
    (runningWith_of_words (s := s) (u := s.meshServed j k) rfl (fun x _ hx => word_meshServed s j k (by omega)) 0x0105 j).trans hrunning
  rw [hstep, loadProgress_idle (by rw [job_meshServed]; exact hload),
    releaseHolds_idle (by rw [job_meshServed]; exact hgrade) (by rw [job_meshServed]; exact hbell),
    gradeProgress_idle hrunning', stagedMatrix_idle hheld' hmeshes]

theorem meshSettleDone_serves {s : State} {k : Fin 4} {resid : Fin 65536} (h : s.mayEndSettling k) (hlow : resid.val ≤ s.residTrig k) {j : Nat}
    (hheld : s.meshJob k = some j) (hawaits : s.awaitsNothing j) : Does (.meshSettleDone k resid) s fun t =>
      t.meshState k = msService ∧ t.rd R.MESH_RESID_RESID k = resid ∧ t.on R.MESH_STAT_SUBST k = false ∧
      t.rd R.MESH_PILOT_CNT_COUNT k = (s.rd R.MESH_PILOT_CNT_COUNT k + 64) % 2 ^ R.MESH_PILOT_CNT_COUNT.w ∧
      ∀ o, (k.val, o) ∈ (s.job j).chips → o ∉ (t.job j).substOn := by
  have htrig := residTrig_le s k
  have hdone := settleDone_eq h (resid := resid.val) (by omega)
  rw [if_neg (by omega)] at hdone
  generalize hv : (s.settled k resid).putChip k { (s.settled k resid).chip k with why := .none } = v at hdone
  have hnoted : ChipNoted k s (setMesh v k msService) := by
    rw [← hv]
    exact ((chipNoted_settled s k resid).trans (chipNoted_putChip ..)).trans (chipNoted_setMesh ..)
  have hrd {f : Fld} (hf : f.apartFrom R.MESH_STAT_STATE = true) : (setMesh v k msService).rd f k = (s.settled k resid).rd f k := by
    rw [setMesh, rd_wr_mesh v hf, ← hv, rd_putChip]
  have hawaits' : (setMesh v k msService).awaitsNothing j := by
    simpa only [State.awaitsNothing, hnoted.job, hnoted.runningWith, hnoted.stage] using hawaits
  rw [meshServes_eq (hnoted.holder.trans hheld) hawaits'] at hdone
  refine ⟨_, congrArg Host.Outcome.next hdone, ?_, ?_, meshServed_unsubstituted .., ?_, fun o ho => ?_⟩
  · rw [State.meshState, rd_meshServed _ (by decide)]
    exact meshState_setMesh v k (by decide)
  · rw [rd_meshServed _ (by decide), hrd (by decide), rd_resid_settled]
  · rw [rd_meshServed _ (by decide), hrd (by decide), rd_pilots_settled]
  · rw [job_meshServed, hnoted.job]
    exact Job.servedBy_spec ho

theorem meshSettleDone_trims {s : State} {k : Fin 4} {resid : Fin 65536} (h : s.mayEndSettling k) (htrig : s.residTrig k < resid.val)
    (hhigh : resid.val ≤ 185) (hduties : s.dutiesRun = true) : Does (.meshSettleDone k resid) s fun t =>
      t.meshState k = msRebuild ∧ (t.chip k).work = .trim := by
  obtain ⟨hrebuild, hwork, -⟩ := startTrim_begins (s := setMesh (s.settled k resid) k msService) (k := k)
    (((chipNoted_settled s k resid).trans (chipNoted_setMesh ..)).dutiesRun.trans hduties) (meshState_setMesh _ k (by decide))
  exact ⟨_, congrArg Host.Outcome.next ((settleDone_eq h hhigh).trans (if_pos htrig)), hrebuild, hwork⟩

theorem meshSettleDone_idle {s : State} {k : Fin 4} (h : s.meshState k ≠ msSettling ∨ s.on R.FEED_STAT_MOVING 0 = true) (resid : Fin 65536) :
    Does (.meshSettleDone k resid) s fun t => t = s := by
  refine ⟨s, congrArg Host.Outcome.next (if_pos ?_), rfl⟩
  obtain h | h := h
  · exact .inl h
  · exact .inr (.inl h)

/-! ### Crosstalk rebuilds -/

/-- Without a JOB_LOAD that waits there is none to go on. -/
theorem tryLoad_idle {s : State} (h : s.loadWait = none) : tryLoad s = s := by simp only [tryLoad, h]

/-- Without an admitted job none seeks a chiplet. -/
theorem seekReturns_idle {s : State} (h : ∀ j < 16, (s.job j).st = .empty) : seekReturns s = s := by
  have hnone : (jobNums.filter fun j => (s.job j).admitted) = [] :=
    List.filter_eq_nil_iff.2 fun j hj => by simp [Job.admitted, h j (List.mem_range.1 hj)]
  rw [seekReturns, hnone, each_nil]

/-- The crosstalk of chiplet `k` is known by a free value, if its rebuild succeeded. -/
def State.xtalkKnown (s : State) (k : Nat) (ok : Bool) : State :=
  let u := s.setFreeIx (s.freeIx + 1)
  if ok then u.putChip k { u.chip k with xt := some s.freeIx, xtMean := u.rdInt R.MESH_TEMP_MEAN k, xtDone := true } else u

theorem xtalkKnown_jobs (s : State) (k : Nat) (ok : Bool) : (s.xtalkKnown k ok).jobs = s.jobs := by cases ok <;> rfl

theorem xtalkKnown_loadWait (s : State) (k : Nat) (ok : Bool) : (s.xtalkKnown k ok).loadWait = s.loadWait := by cases ok <;> rfl

theorem rd_xtalkKnown (s : State) (k : Nat) (ok : Bool) (f : Fld) (i : Nat) : (s.xtalkKnown k ok).rd f i = s.rd f i := by cases ok <;> rfl

theorem chipFailed_out (s : State) (k : Nat) : (chipFailed s k).meshState k = msOut ∧ ((chipFailed s k).chip k).failed = true :=
  ⟨meshState_setMesh _ k (by decide), congrArg Chip.failed (chip_putChip ..)⟩

/-- The pilot check of chiplet `k`, after its rebuild. -/
def State.xtalkChecked (s : State) (k : Nat) (ok : Bool) (resid : Nat) : State := (s.xtalkKnown k ok).settleCounts k resid

theorem chipFailed_loadWait (s : State) (k : Nat) : (chipFailed s k).loadWait = s.loadWait := rfl

theorem xtalkChecked_loadWait (s : State) (k : Nat) (ok : Bool) (resid : Nat) : (s.xtalkChecked k ok resid).loadWait = s.loadWait :=
  xtalkKnown_loadWait s k ok

theorem rd_settleCounts (s : State) {f : Fld} (h : (f.apartFrom R.MESH_PILOT_CNT_COUNT && f.apartFrom R.MESH_RESID_RESID) = true)
    (k resid : Nat) : (s.settleCounts k resid).rd f k = s.rd f k := by
  obtain ⟨hcount, hresid⟩ := Bool.and_eq_true_iff.1 h
  exact (rd_wr_mesh _ hresid k _).trans (rd_wr_mesh s hcount k _)

theorem residTrig_xtalkChecked (s : State) (k : Nat) (ok : Bool) (resid : Nat) : (s.xtalkChecked k ok resid).residTrig k = s.residTrig k := by
  unfold State.residTrig State.xtalkChecked
  rw [rd_settleCounts _ (by decide), rd_xtalkKnown]

theorem meshJob_xtalkChecked (s : State) (k : Nat) (ok : Bool) (resid : Nat) : (s.xtalkChecked k ok resid).meshJob k = s.meshJob k :=
  meshJob_of_word (by rw [State.xtalkChecked, rd_settleCounts _ (by decide), rd_xtalkKnown])
    (by rw [State.xtalkChecked, rd_settleCounts _ (by decide), rd_xtalkKnown])

/-- A crosstalk rebuild of chiplet `k` awaits its end, and no JOB_LOAD awaits it. -/
def State.rebuildsXtalk (s : State) (k : Nat) : Prop := s.loadWait = none ∧ (s.chip k).work = .xtalk ∧ (s.chip k).ready = false

/-- What the rebuild makes of a chiplet in each state, before a JOB_LOAD that awaits it goes on. -/
def State.xtalkEnded (s : State) (k : Nat) (ok : Bool) (resid : Nat) : State :=
  let u := s.xtalkKnown k ok
  if s.meshState k = msOut then
    if ok && decide (resid ≤ (s.xtalkChecked k ok resid).residTrig k) then chipAvailable (s.xtalkChecked k ok resid) k
    else chipFailed (s.xtalkChecked k ok resid) k
  else if s.meshState k = msUnused then
    if ok then u.putChip k { u.chip k with work := .none } else chipFailed u k
  else if ok then (carryReceive (writeHeaters u k (1 - u.meshBank k) s.freeIx) k).computed k
  else u.putChip k { u.chip k with work := .trim }

theorem xtalkDone_eq {s : State} {k : Nat} (h : s.rebuildsXtalk k) (ok : Bool) (resid : Nat) :
    xtalkDone s k ok resid = tryLoad (s.xtalkEnded k ok resid) := by
  obtain ⟨-, hwork, hready⟩ := h
  exact if_neg (by simp [hwork, hready])

theorem xtalkDone_ends {s t : State} {k : Nat} (h : s.rebuildsXtalk k) {ok : Bool} {resid : Nat} (hended : s.xtalkEnded k ok resid = t)
    (hwait : t.loadWait = s.loadWait) : xtalkDone s k ok resid = t :=
  (xtalkDone_eq h ok resid).trans (hended ▸ tryLoad_idle (hended ▸ hwait.trans h.1))

/-- A chiplet UNUSED is free for use. -/
theorem xtalkRebuildDone_unused {s : State} {k : Fin 4} (h : s.rebuildsXtalk k) (hstate : s.meshState k = msUnused) (resid : Fin 65536) :
    Does (.xtalkRebuildDone k true resid) s fun t => t.meshState k = msUnused ∧ (t.chip k).xtDone = true ∧ (t.chip k).work = .none := by
  let u := s.xtalkKnown k true
  have hknown : (u.chip k).xtDone = true := congrArg Chip.xtDone (chip_putChip ..)
  have hended : s.xtalkEnded k true resid = u.putChip k { u.chip k with work := .none } :=
    (if_neg (by simp [hstate])).trans (if_pos hstate)
  refine ⟨_, congrArg Host.Outcome.next (xtalkDone_ends h hended (xtalkKnown_loadWait s k true)), ?_, ?_⟩
  · rw [State.meshState, rd_putChip]
    exact (rd_xtalkKnown ..).trans hstate
  · rw [chip_putChip]
    exact ⟨hknown, rfl⟩

/-- A chiplet OUT_OF_SERVICE whose rebuild or pilot check fails stays out. -/
theorem xtalkRebuildDone_fails {s : State} {k : Fin 4} (h : s.rebuildsXtalk k) (hstate : s.meshState k = msOut) {ok : Bool} {resid : Fin 65536}
    (hfails : ok = false ∨ s.residTrig k < resid.val) :
    Does (.xtalkRebuildDone k ok resid) s fun t => t.meshState k = msOut ∧ (t.chip k).failed = true := by
  have hended : s.xtalkEnded k ok resid = chipFailed (s.xtalkChecked k ok resid) k := by
    refine (if_pos hstate).trans (if_neg ?_)
    rw [residTrig_xtalkChecked, Bool.and_eq_true, decide_eq_true_eq, not_and, not_le]
    exact fun hok => hfails.resolve_left (by simp [hok])
  refine ⟨_, congrArg Host.Outcome.next (xtalkDone_ends h hended ?_), chipFailed_out ..⟩
  exact (chipFailed_loadWait ..).trans (xtalkChecked_loadWait ..)

/-- A chiplet that no job holds is available again, where no job seeks one. -/
theorem chipAvailable_free {s : State} {k : Nat} (hfree : s.meshJob k = none) (hjobs : ∀ j < 16, (s.job j).st = .empty) : chipAvailable s k =
    setMesh (s.putChip k { s.chip k with cause := .none, work := .none, matrix := none, stale := false }) k msUnused := by
  generalize hu : setMesh (s.putChip k { s.chip k with cause := .none, work := .none, matrix := none, stale := false }) k msUnused = u
  have hnoted : ChipNoted k s u := hu ▸ (chipNoted_putChip ..).trans (chipNoted_setMesh ..)
  have hwaits : u.waitsReturn k = none := by rw [State.waitsReturn, hnoted.holder, hfree]
  simp only [chipAvailable, hu, hwaits]
  exact seekReturns_idle fun j hj => by rw [hnoted.job, hjobs j hj]

/-- A chiplet OUT_OF_SERVICE whose rebuild succeeds and whose pilot check passes is available again. -/
theorem xtalkRebuildDone_passes {s : State} {k : Fin 4} (h : s.rebuildsXtalk k) (hstate : s.meshState k = msOut) {resid : Fin 65536}
    (hlow : resid.val ≤ s.residTrig k) (hfree : s.meshJob k = none) (hjobs : ∀ j < 16, (s.job j).st = .empty) :
    Does (.xtalkRebuildDone k true resid) s fun t => t.meshState k = msUnused ∧ (t.chip k).cause = .none ∧ (t.chip k).matrix = none := by
  let u := s.xtalkChecked k true resid
  have hended : s.xtalkEnded k true resid = chipAvailable u k := by
    refine (if_pos hstate).trans (if_pos ?_)
    rw [residTrig_xtalkChecked, Bool.true_and, decide_eq_true_eq]
    exact hlow
  have hempty (j : Nat) (hj : j < 16) : (u.job j).st = .empty := by
    rw [show u.job j = s.job j from job_of_jobs (xtalkKnown_jobs s k true) j, hjobs j hj]
  rw [chipAvailable_free ((meshJob_xtalkChecked ..).trans hfree) hempty] at hended
  refine ⟨_, congrArg Host.Outcome.next (xtalkDone_ends h hended (xtalkKnown_loadWait s k true)), meshState_setMesh _ k (by decide), ?_⟩
  rw [chip_setMesh, chip_putChip]
  exact ⟨rfl, rfl⟩

theorem xtalkRebuildDone_idle {s : State} {k : Fin 4} (h : (s.chip k).work ≠ .xtalk ∨ (s.chip k).ready = true) (ok : Bool) (resid : Fin 65536) :
    Does (.xtalkRebuildDone k ok resid) s fun t => t = s := ⟨s, congrArg Host.Outcome.next (if_pos h), rfl⟩

/-! ### Cleared causes -/

theorem oosCleared_starts {s : State} {k : Fin 4} (hstate : s.meshState k = msOut) (hfailed : (s.chip k).failed = false)
    (hfirst : (s.chip k).cleared = false) (hcleared : s.oosCleared k = true) : Does (.oosCleared k) s fun t =>
      (t.chip k).cleared = true ∧ (t.chip k).work = .xtalk ∧ t.meshState k = msOut ∧ t.on R.MESH_EVT_REBUILD k = true := by
  obtain ⟨hkept, hchip, hevt⟩ := startXtalk_aside (s := s.putChip k { s.chip k with cleared := true }) (k := k) (.inr hstate)
  rw [chip_putChip] at hchip
  refine ⟨startXtalk (s.putChip k { s.chip k with cleared := true }) k, congrArg Host.Outcome.next (if_pos ?_), ?_⟩
  · simp [hstate, hfailed, hfirst, hcleared]
  · exact ⟨by rw [hchip], by rw [hchip], hkept.trans hstate, hevt⟩

theorem oosCleared_idle {s : State} {k : Fin 4}
    (h : s.meshState k ≠ msOut ∨ (s.chip k).failed = true ∨ (s.chip k).cleared = true ∨ s.oosCleared k = false) :
    Does (.oosCleared k) s fun t => t = s := by
  refine ⟨s, congrArg Host.Outcome.next (if_neg ?_), rfl⟩
  obtain h | h | h | h := h <;> simp [h]

/-- Settles O43: the computations by the tables they write (`heatersDrawn_heated`), settling by `settleDone_eq` and `meshServes_eq`, and the
rebuilds by what `xtalkDone_eq` makes of each state. -/
theorem meshComputations : Obligations.MeshComputations := by
  unfold Obligations.MeshComputations
  intro s k heat
  refine ⟨matrixComputeDone_matrix, fun hready hwork hstate => ⟨matrixComputeDone_trim hready hwork hstate,
      matrixComputeDone_idle (.inr (.inr (.inr ⟨hwork, rfl⟩)))⟩, fun h ok => matrixComputeDone_idle (by tauto),
    fun resid hstate hmoving hclk => ⟨fun hlow j hheld hload hgrade hbell hrunning hmeshes =>
        meshSettleDone_serves ⟨hstate, hmoving, hclk⟩ hlow hheld ⟨hload, hgrade, hbell, hrunning, hmeshes⟩,
      meshSettleDone_trims ⟨hstate, hmoving, hclk⟩⟩, meshSettleDone_idle,
    fun ok resid hwait hwork hready => ⟨fun hstate => xtalkRebuildDone_unused ⟨hwait, hwork, hready⟩ hstate resid,
      fun hstate => xtalkRebuildDone_fails ⟨hwait, hwork, hready⟩ hstate,
      fun hstate => xtalkRebuildDone_passes ⟨hwait, hwork, hready⟩ hstate⟩,
    xtalkRebuildDone_idle, oosCleared_starts, oosCleared_idle⟩

end Sys2Proof.Machine
end

section
/-! PROOF. The family of 05_optical_mixing_engine.md: tokens and passes of the chiplets (O44). -/

namespace Sys2Proof.Machine

/-! ### The drive buffer -/

/-- Filling the drive buffer changes how much of each token is loaded, and no token. -/
theorem fillDrive_toks (n : Nat) (c : Chip) : (fillDrive n c).toks.map MeshTok.tok = c.toks.map MeshTok.tok := by
  induction n generalizing c with
  | zero => rfl
  | succ n ih =>
    unfold fillDrive
    split
    · rfl
    · split
      · rfl
      · rename_i m _ _
        rw [ih, List.map_map]
        refine List.map_congr_left fun x _ => ?_
        by_cases hx : x = m <;> simp [hx]

/-- The one token of a list is replaced. -/
theorem map_replace_single {l : List MeshTok} {m : MeshTok} (h : l = [m]) (v : MeshTok) : (l.map fun x => if x == m then v else x) = [v] := by
  rw [h, List.map_singleton, beq_self_eq_true, if_pos rfl]

/-- One more pass of a token is loaded. -/
def MeshTok.advance (m : MeshTok) : MeshTok := { m with loaded := m.loaded + 1 }

/-- The chiplet's one token `m` enters the drive buffer with a pass. -/
def Chip.loadPass (c : Chip) (m : MeshTok) : Chip := { c with toks := [m.advance], order := c.order ++ [m.clu] }

theorem fillDrive_succ {n : Nat} {c : Chip} {m : MeshTok} (h : c.toks = [m]) : fillDrive (n + 1) c =
    if m.loaded < m.passes ∧ c.order.length < 16 then fillDrive n (c.loadPass m) else c := by
  have hmap := map_replace_single h m.advance
  rw [fillDrive]
  by_cases hload : m.loaded < m.passes
  · have hfind : (c.toks.find? fun m => decide (m.loaded < m.passes)) = some m := by
      rw [h, List.find?_cons_of_pos (by simpa using hload)]
    unfold MeshTok.advance at hmap
    simp only [hfind, hmap, hload, true_and]
    by_cases hroom : c.order.length < 16
    · rw [if_neg (by omega), if_pos hroom]
      rfl
    · rw [if_pos (by omega), if_neg hroom]
  · have hfind : (c.toks.find? fun m => decide (m.loaded < m.passes)) = none := by
      rw [h, List.find?_cons_of_neg (by simpa using hload), List.find?_nil]
    simp only [hfind, hload, false_and, if_false]

/-- What is loaded of the one token in a chiplet is all that filling the drive buffer changes of it. -/
theorem fillDrive_single (n : Nat) {c : Chip} {m : MeshTok} (h : c.toks = [m]) : ∃ l, (fillDrive n c).toks = [{ m with loaded := l }] := by
  induction n generalizing c m with
  | zero => exact ⟨m.loaded, h⟩
  | succ n ih =>
    rw [fillDrive_succ h]
    split
    · exact ih (c := c.loadPass m) (m := m.advance) rfl
    · exact ⟨m.loaded, h⟩

/-- As many passes enter as the token has left, where the drive buffer has room for them. -/
theorem fillDrive_fills (n : Nat) {c : Chip} {m : MeshTok} (h : c.toks = [m]) (hroom : c.order.length + n ≤ 16) :
    (fillDrive n c).toks = [{ m with loaded := m.loaded + min n (m.passes - m.loaded) }] ∧
      (fillDrive n c).order = c.order ++ List.replicate (min n (m.passes - m.loaded)) m.clu := by
  induction n generalizing c m with
  | zero => simp [fillDrive, h]
  | succ n ih =>
    rw [fillDrive_succ h]
    by_cases hload : m.loaded < m.passes
    · have hlen : (c.loadPass m).order.length = c.order.length + 1 := List.length_append
      obtain ⟨htoks, horder⟩ := ih (c := c.loadPass m) (m := m.advance) rfl (by omega)
      have hleft : min (n + 1) (m.passes - m.loaded) = min n (m.advance.passes - m.advance.loaded) + 1 := by
        simp only [MeshTok.advance, MeshTok.passes] at hload ⊢
        omega
      rw [if_pos ⟨hload, by omega⟩, hleft, htoks, horder]
      refine ⟨by simp only [MeshTok.advance]; rw [Nat.add_assoc, Nat.add_comm 1], ?_⟩
      rw [List.replicate_succ, Chip.loadPass, List.append_assoc, List.singleton_append]
      rfl
    · rw [if_neg fun h => hload h.1, show min (n + 1) (m.passes - m.loaded) = 0 by omega]
      exact ⟨h, (List.append_nil _).symm⟩

theorem noteEntered_drive (c : Chip) (key oper : Nat) : (noteEntered c key oper).toks = c.toks ∧ (noteEntered c key oper).order = c.order := by
  unfold noteEntered
  split <;> exact ⟨rfl, rfl⟩

/-! ### Tokens at an interface -/

/-- The MESH token at the front of the interface of chiplet `k` at cluster `c`. -/
def State.AtInterface (s : State) (c k : Nat) (h : Held) : Prop := chipOfClu c = some k ∧ s.front (.unit c 19) = some h

theorem meshToken_stale {s : State} {c : Fin 256} {k : Nat} {h : Held} (hat : s.AtInterface c k h)
    (hstale : h.stale = true ∨ h.tok.epoch ≠ (s.job h.tok.job).epoch) : Does (.meshToken c) s fun t =>
      t.fabric = s.fabric.erase h ∧ Counted s t R.EPOCH_DROP_CNT_COUNT c := by
  obtain ⟨hchip, hfront⟩ := hat
  refine ⟨(pitchTake s h).bump R.EPOCH_DROP_CNT_COUNT c, congrArg Host.Outcome.next ?_, rfl, counted_bump (pitchTake s h) c (by decide)⟩
  simp only [meshToken, hchip, hfront]
  exact if_pos (by simpa using hstale)

/-- A token of its job's epoch, at a chiplet its job holds. -/
def State.ForHolder (s : State) (k : Nat) (h : Held) : Prop :=
  h.stale = false ∧ h.tok.epoch = (s.job h.tok.job).epoch ∧ s.meshJob k = some h.tok.job

/-- A token of a length that is no whole number of passes is discarded with BAD_OP. -/
theorem meshToken_bad {s : State} {c : Fin 256} {k : Nat} {h : Held} (hat : s.AtInterface c k h) (hcur : s.ForHolder k h)
    (hlen : h.tok.len % 16 ≠ 0) : Does (.meshToken c) s fun t => t.fabric = s.fabric.erase h ∧ t.on R.MESH_EVT_BAD_OP k = true := by
  obtain ⟨hchip, hfront⟩ := hat
  obtain ⟨hstale, hepoch, -⟩ := hcur
  have hkeeps := faultKeeps_detectFault ((pitchTake s h).raise R.MESH_EVT_BAD_OP k) h.tok.job ⟨fcToken, false, 6, k, .none⟩
  have hkey := mesh_key_range (show R.MESH_EVT_BAD_OP.ofMesh = true by decide) k
  refine ⟨_, congrArg Host.Outcome.next ?_, hkeeps.fabric.trans (raise_fabric ..), ?_⟩
  · simp only [meshToken, hchip, hfront, hstale, hepoch, bne_self_eq_false, Bool.or_self, Bool.false_eq_true, if_false]
    exact if_pos (by simp [hlen])
  · exact (on_of_word (hkeeps.words _ (.inr (by omega)))).trans (raise_meshEvt _ (by decide) k)

/-- A whole token that an entry in force serves enters, or waits. -/
theorem meshToken_whole {s : State} {c : Fin 256} {k : Nat} {h : Held} (hat : s.AtInterface c k h) (hcur : s.ForHolder k h)
    (hlen : h.tok.len % 16 = 0) (hentry : (s.meshEntry k h.tok.oper).isSome = true) : exec (.meshToken c) s = .next (
      if s.meshHolds k h.tok || (s.chip k).feeding c || decide (16 ≤ (s.chip k).order.length) then s
      else
        let c' := noteEntered (s.chip k) h.tok.batchKey h.tok.oper
        pitchEnter ((pitchTake s h).putChip k (fillDrive 16 { c' with toks := c'.toks ++ [⟨h.tok, c, 0, [], [], 0⟩] }))) := by
  obtain ⟨hchip, hfront⟩ := hat
  obtain ⟨hstale, hepoch, hheld⟩ := hcur
  refine congrArg Host.Outcome.next ?_
  simp only [meshToken, hchip, hfront, hstale, hepoch, bne_self_eq_false, Bool.or_self, Bool.false_eq_true, if_false]
  exact if_neg (by simp [hlen, hheld, Option.isSome_iff_ne_none.1 hentry])

theorem meshToken_waits {s : State} {c : Fin 256} {k : Nat} {h : Held} (hat : s.AtInterface c k h) (hcur : s.ForHolder k h)
    (hlen : h.tok.len % 16 = 0) (hentry : (s.meshEntry k h.tok.oper).isSome = true)
    (hfull : s.meshHolds k h.tok = true ∨ (s.chip k).feeding c = true ∨ 16 ≤ (s.chip k).order.length) :
    Does (.meshToken c) s fun t => t = s := by
  refine ⟨s, (meshToken_whole hat hcur hlen hentry).trans (congrArg Host.Outcome.next (if_pos ?_)), rfl⟩
  simpa [or_assoc] using hfull

theorem meshToken_enters {s : State} {c : Fin 256} {k : Nat} {h : Held} (hquiet : s.Quiet) (hat : s.AtInterface c k h)
    (hcur : s.ForHolder k h) (hlen : h.tok.len % 16 = 0) (hentry : (s.meshEntry k h.tok.oper).isSome = true)
    (hholds : s.meshHolds k h.tok = false) (hfeeding : (s.chip k).feeding c = false) (hroom : (s.chip k).order.length < 16) :
    Does (.meshToken c) s fun t => t.fabric = s.fabric.erase h ∧
      (t.chip k).toks.map MeshTok.tok = (s.chip k).toks.map MeshTok.tok ++ [h.tok] ∧
      ((s.chip k).toks = [] → (s.chip k).order = [] → 16 ≤ h.tok.len → let n := min 16 (h.tok.len / 16)
        (t.chip k).toks = [⟨h.tok, c, n, [], [], 0⟩] ∧ (t.chip k).order = List.replicate n c.val) := by
  let m : MeshTok := ⟨h.tok, c, 0, [], [], 0⟩
  let e := noteEntered (s.chip k) h.tok.batchKey h.tok.oper
  let d : Chip := { e with toks := e.toks ++ [m] }
  let t := (pitchTake s h).putChip k (fillDrive 16 d)
  obtain ⟨htoks, horder⟩ := noteEntered_drive (s.chip k) h.tok.batchKey h.tok.oper
  have hdrive : d.toks = (s.chip k).toks ++ [m] := congrArg (· ++ [m]) htoks
  have hchip : t.chip k = fillDrive 16 d := chip_putChip ..
  have hexec : exec (.meshToken c) s = .next t :=
    (meshToken_whole hat hcur hlen hentry).trans (congrArg Host.Outcome.next
      ((if_neg (by simp [hholds, hfeeding, hroom])).trans (pitchEnter_quiet (s := t) (hquiet.erase h))))
  refine ⟨t, hexec, rfl, ?_, fun hnone hempty _ => ?_⟩
  · rw [hchip, fillDrive_toks, hdrive, List.map_append]
    rfl
  · have hsingle : d.toks = [m] := by rw [hdrive, hnone, List.nil_append]
    have hfirst : d.order = [] := horder.trans hempty
    obtain ⟨hloaded, horders⟩ := fillDrive_fills 16 hsingle (by rw [hfirst]; decide)
    rw [hchip, hloaded, horders, hfirst]
    simp only [m, MeshTok.passes, Nat.zero_add, Nat.sub_zero, List.nil_append, and_self]

theorem meshToken_idle {s : State} {c : Fin 256} (h : chipOfClu c = none ∨ s.front (.unit c 19) = none) :
    Does (.meshToken c) s fun t => t = s := by
  refine ⟨s, congrArg Host.Outcome.next ?_, rfl⟩
  unfold meshToken
  obtain h | h := h
  · rw [h]
  · split
    · rfl
    · rw [h]

/-! ### Passes -/

theorem passOutputs_length (s : State) (k ix : Nat) (t : Token) (p : Nat) (stale : Bool) : (passOutputs s k ix t p stale).length = 512 := by
  simp only [passOutputs, apply_ite List.length, List.length_map, List.length_range, ite_self]

/-- All inputs of a pass are zero. -/
def Token.dark (t : Token) (p : Nat) : Prop := ∀ i < 512, passInput t p (i / 64) (i % 64) = 0

theorem Token.dark.input {t : Token} {p : Nat} (h : t.dark p) {w q : Nat} (hw : w < 8) (hq : q < 64) : passInput t p w q = 0 := by
  have := h (64 * w + q) (by omega)
  rwa [show (64 * w + q) / 64 = w by omega, show (64 * w + q) % 64 = q by omega] at this

theorem map_range_zero {f : Nat → Int} {n : Nat} (h : ∀ i < n, f i = 0) : (List.range n).map f = List.replicate n 0 :=
  List.eq_replicate_iff.2 ⟨by rw [List.length_map, List.length_range], fun x hx => by
    obtain ⟨i, hi, rfl⟩ := List.mem_map.1 hx
    exact h i (List.mem_range.1 hi)⟩

theorem meshIdeal_dark (s : State) (k : Nat) {t : Token} {p : Nat} (h : t.dark p) {i : Nat} (hi : i < 512) : s.meshIdeal k t p i = 0 := by
  unfold State.meshIdeal
  dsimp only
  rw [map_range_zero fun q hq => by rw [h.input (by omega) hq, Int.mul_zero], List.sum_replicate, smul_zero, Int.mul_zero]

/-- A pass whose inputs are all zero gives exact zero (R132). -/
theorem passOutputs_dark (s : State) (k ix : Nat) {t : Token} {p : Nat} (stale : Bool) (h : t.dark p) :
    passOutputs s k ix t p stale = List.replicate 512 0 := by
  unfold passOutputs
  extract_lets den outs ideal
  have houts : outs = List.replicate 512 0 := map_range_zero fun i hi => if_pos (List.all_eq_true.2 fun q hq => by
    rw [h.input (by omega) (List.mem_range.1 hq), beq_self_eq_true])
  have hideal : ideal = List.replicate 512 0 := map_range_zero fun i hi => meshIdeal_dark s k h hi
  have hzero : sat16 (idivRne 0 den) = 0 := by
    have hden : den ≠ 0 := by
      simp only [den, State.meshScale]
      omega
    simp [idivRne, divRne, sat16, Nat.pos_of_ne_zero hden]
  rw [houts, hideal, List.map_replicate, hzero]
  exact ite_self _

theorem Token.dark_iff (t : Token) (p : Nat) : ((List.range 512).all fun i => passInput t p (i / 64) (i % 64) == 0) = true ↔ t.dark p := by
  simp only [List.all_eq_true, List.mem_range, beq_iff_eq, Token.dark]

/-- A pass is launched with a locked clock, a still selector and a matrix, on a chiplet that serves. -/
def State.mayLaunch (s : State) (k : Nat) : Prop :=
  s.on R.MESH_STAT_CLK_OK k = true ∧ s.on R.FEED_STAT_MOVING 0 = false ∧ (s.chip k).matrix ≠ none ∧ s.meshState k ≠ msSettling ∧
    s.meshState k ≠ msOut ∧ s.meshState k ≠ msUnused

/-- The free value of a pass is drawn, and a pass that is not dark is counted. -/
def State.passDrawn (s : State) (k : Nat) (dark : Bool) : State :=
  if dark then s.setFreeIx (s.freeIx + 1)
  else (s.setFreeIx (s.freeIx + 1)).bump64 R.MESH_PASS_CNT_LO_COUNT_LO R.MESH_PASS_CNT_HI_COUNT_HI k

theorem passDrawn_freeIx (s : State) (k : Nat) (dark : Bool) : (s.passDrawn k dark).freeIx = s.freeIx + 1 := by cases dark <;> rfl

/-- The outputs of a token's next pass join it. -/
def MeshTok.withPass (m : MeshTok) (out : List Int) (stale : Bool) : MeshTok := { m with outs := m.outs ++ [out], stales := m.stales ++ [stale] }

/-- The token's outputs carry STALE on chiplet `k`. -/
def State.staleOn (s : State) (k : Nat) (t : Token) : Bool := (s.chip k).stale || (s.chip k).straddle.contains (t.batchKey, t.oper)

/-- The chiplet's record once the pass is launched. -/
def Chip.launched (c : Chip) (rest : List Nat) (m : MeshTok) : Chip := { c with order := rest, toks := [m] }

theorem passLaunch_launched {s : State} {k : Nat} {m : MeshTok} {rest : List Nat} {dark : Bool} (htoks : (s.chip k).toks = [m])
    (horder : (s.chip k).order = m.clu :: rest) (hleft : m.outs.length < m.loaded) (hmay : s.mayLaunch k)
    (hdark : ((List.range 512).all fun i => passInput m.tok m.outs.length (i / 64) (i % 64) == 0) = dark) :
    passLaunch s k = (s.passDrawn k dark).putChip k (fillDrive 16 ((s.chip k).launched rest
      (m.withPass (passOutputs (s.passDrawn k dark) k s.freeIx m.tok m.outs.length (s.staleOn k m.tok)) (s.staleOn k m.tok)))) := by
  obtain ⟨hclk, hmoving, hmatrix, hsettling, hout, hunused⟩ := hmay
  have hfind : ((s.chip k).toks.find? fun x => x.clu == m.clu && decide (x.outs.length < x.loaded)) = some m := by
    rw [htoks, List.find?_cons_of_pos (by simpa using hleft)]
  have hgo : (!s.on R.MESH_STAT_CLK_OK k || s.on R.FEED_STAT_MOVING 0 || (s.chip k).matrix.isNone || s.meshState k == msSettling ||
      s.meshState k == msOut || s.meshState k == msUnused) = false := by
    simp [hclk, hmoving, Option.isSome_iff_ne_none.2 hmatrix, hsettling, hout, hunused]
  have hstep : passLaunch s k = (s.passDrawn k dark).putChip k (fillDrive 16 { s.chip k with
      order := rest
      toks := (s.chip k).toks.map fun x => if x == m then
        m.withPass (passOutputs (s.passDrawn k dark) k s.freeIx m.tok m.outs.length (s.staleOn k m.tok)) (s.staleOn k m.tok) else x }) := by
    unfold passLaunch
    simp only [hgo, Bool.false_eq_true, if_false, horder, hfind, hdark]
    cases dark <;> rfl
  rw [hstep, map_replace_single htoks]
  rfl

theorem passLaunch_passes {s : State} {k : Fin 4} {m : MeshTok} {rest : List Nat} (htoks : (s.chip k).toks = [m])
    (horder : (s.chip k).order = m.clu :: rest) (hleft : m.outs.length < m.loaded) (hmay : s.mayLaunch k) :
    Does (.passLaunch k) s fun t => t.freeIx = s.freeIx + 1 ∧ ∃ (out : List Int) (n : Nat), out.length = 512 ∧
      (t.chip k).toks = [{ m with
        loaded := n, outs := m.outs ++ [out],
        stales := m.stales ++ [(s.chip k).stale || (s.chip k).straddle.contains (m.tok.batchKey, m.tok.oper)] }] ∧
      (m.tok.dark m.outs.length → out = List.replicate 512 0 ∧
        t.rd R.MESH_PASS_CNT_LO_COUNT_LO k = s.rd R.MESH_PASS_CNT_LO_COUNT_LO k) := by
  generalize hdark : ((List.range 512).all fun i => passInput m.tok m.outs.length (i / 64) (i % 64) == 0) = dark
  have hlaunch := passLaunch_launched htoks horder hleft hmay hdark
  generalize hout : passOutputs (s.passDrawn k dark) k s.freeIx m.tok m.outs.length (s.staleOn k m.tok) = out at hlaunch
  obtain ⟨n, hn⟩ := fillDrive_single 16 (c := (s.chip k).launched rest (m.withPass out (s.staleOn k m.tok))) rfl
  refine ⟨_, congrArg Host.Outcome.next hlaunch, passDrawn_freeIx .., out, n, hout ▸ passOutputs_length .., ?_, fun hzero => ⟨?_, ?_⟩⟩
  · rw [chip_putChip, hn]
    rfl
  · rw [← hout, passOutputs_dark _ _ _ _ hzero]
  · rw [rd_putChip, ← hdark, (m.tok.dark_iff m.outs.length).2 hzero]
    rfl

theorem passLaunch_idle {s : State} {k : Fin 4} (h : s.on R.MESH_STAT_CLK_OK k = false ∨ s.on R.FEED_STAT_MOVING 0 = true ∨
    s.meshState k = msSettling ∨ s.meshState k = msOut ∨ s.meshState k = msUnused ∨ (s.chip k).toks = []) :
    Does (.passLaunch k) s fun t => t = s := by
  refine ⟨s, congrArg Host.Outcome.next ?_, rfl⟩
  obtain h | h | h | h | h | h := h
  iterate 5 exact if_pos (by simp [h])
  unfold passLaunch
  dsimp only
  split
  · rfl
  · split
    · rfl
    · simp only [h, List.find?_nil]

/-! ### Output tokens -/

/-- Every token stands as in `F`, all quiet, but for one more, which holds `t`. -/
def State.Trails (s : State) (F : List Held) (t : Token) : Prop := ∃ x, s.fabric = F ++ [x] ∧ x.tok = t

/-- A body that follows its header moves none but its own token. -/
theorem trails_flowOne {s : State} {F : List Held} {t : Token} (hF : ∀ y ∈ F, y.outside = false ∧ y.trail = []) (h : s.Trails F t) {x : Held}
    (hx : x.trail ≠ []) : (flowOne s x).Trails F t := by
  obtain ⟨y, hy, htok⟩ := h
  unfold flowOne
  split
  · exact ⟨y, hy, htok⟩
  · rename_i e rest _
    have hcount : (s.each x.trail fun s a => countSent s x.tok a.1 (bodyFrom a.1 x.trail - bodyFrom a.1 rest)).fabric = s.fabric :=
      each_keeps State.fabric _ _ s fun s a => countSent_fabric ..
    have hothers : (F.map fun z => if z == x then { x with here := e.2, trail := rest } else z) = F :=
      (List.map_congr_left fun z hz => if_neg fun heq => hx ((congrArg Held.trail (eq_of_beq heq)).symm.trans (hF z hz).2)).trans (List.map_id _)
    refine ⟨if y == x then { x with here := e.2, trail := rest } else y, ?_, ?_⟩
    · simp only [hcount, hy, List.map_append, hothers, List.map_singleton]
      rfl
    · split
      · rename_i heq
        rw [← htok, beq_iff_eq.1 heq]
      · exact htok

theorem trails_settle {s : State} {F : List Held} {t : Token} (hF : ∀ y ∈ F, y.outside = false ∧ y.trail = []) (h : s.Trails F t) :
    (settle s).Trails F t :=
  each_inv (State.Trails · F t) _ _ s (fun u _ hu => each_inv_of_mem (State.Trails · F t) _ _ u
    (fun v x hx hv => trails_flowOne hF hv (by simpa using (List.mem_filter.1 hx).2)) hu) h

theorem noteEntry_fabric (s : State) (h : Held) : (noteEntry s h).fabric = s.fabric := by
  unfold noteEntry
  split
  · exact each_keeps State.fabric _ _ (s.setGrantRr _) fun _ _ => rfl
  · rfl

/-- The one token that is not quiet moves, and stays the one. -/
theorem trails_pitchMove {s : State} {F : List Held} {x : Held} (hF : ∀ y ∈ F, y.outside = false ∧ y.trail = []) (hs : s.fabric = F ++ [x])
    (hx : x.outside = true) (p : Place) : (pitchMove s x p).Trails F x.tok := by
  have hnot : x ∉ F := fun hmem => by simp [(hF x hmem).1] at hx
  refine trails_settle hF ⟨_, congrArg (· ++ [_]) (?_ : s.fabric.erase x = F), rfl⟩
  rw [hs, List.erase_append_right _ hnot, List.erase_cons_head, List.append_nil]

/-- Where every body is drawn up behind its header, none moves. -/
theorem settle_drawn {s : State} (h : ∀ x ∈ s.fabric, x.trail = []) : settle s = s := by
  have hnone : (s.fabric.filter fun h => !h.trail.isEmpty) = [] := List.filter_eq_nil_iff.2 fun x hx => by simp [h x hx]
  rw [settle, hnone, each_nil]

/-- A token put down among quiet ones stays the last, wherever it goes. -/
theorem trails_pitchEnter {s : State} {F : List Held} {x : Held} (hF : ∀ y ∈ F, y.outside = false ∧ y.trail = []) (hs : s.fabric = F ++ [x])
    (hx : x.trail = []) : (pitchEnter s).Trails F x.tok := by
  have hdrawn : ∀ y ∈ s.fabric, y.trail = [] := by
    intro y hy
    obtain hy | hy := List.mem_append.1 (hs ▸ hy)
    · exact (hF y hy).2
    · rwa [List.mem_singleton.1 hy]
  have hlast : s.fabric.filter Held.outside = [x].filter Held.outside := by
    rw [hs, List.filter_append, List.filter_eq_nil_iff.2 fun y hy => by simp [(hF y hy).1], List.nil_append]
  rw [pitchEnter, settle_drawn hdrawn, hlast]
  by_cases hout : x.outside = true
  · rw [List.filter_cons_of_pos hout, List.filter_nil, each_cons, each_nil]
    split
    · exact trails_pitchMove hF ((noteEntry_fabric ..).trans hs) hout _
    · exact ⟨x, hs, rfl⟩
  · rw [List.filter_cons_of_neg hout, List.filter_nil, each_nil]
    exact ⟨x, hs, rfl⟩

/-- The output token of the next passes of `m`, by entry `n` of chiplet `k` (R135). -/
def State.outToken (s : State) (k n : Nat) (m : MeshTok) : Token :=
  let pay := ((m.outs.drop (4 * m.emitted)).take 4).flatten
  let stale := ((m.stales.drop (4 * m.emitted)).take 4).any id
  { m.tok with
    kind := 5, srcUnit := 19, srcClu := m.clu, dstClu := s.frc2 R.MESH_OP_B_DST_CLU k n, dstUnit := s.frc2 R.MESH_OP_B_DST_UNIT k n,
    oper := s.frc2 R.MESH_OP_A_NEXT_OPER k n, part := m.emitted, npart := outTokens m.passes - 1, len := 32 * (pay.length / 512),
    flags := { s.formFlags m.tok with stale := m.tok.flags.stale || stale }, payload := pay }

theorem meshOutput_emits {s : State} {k n : Nat} {m : MeshTok} (htoks : (s.chip k).toks = [m]) (hready : m.outReady = true)
    (hentry : s.meshEntry k m.tok.oper = some n) :
    ∃ c, meshOutput s k = pitchEnter (pitchPut (s.putChip k c) (.entry m.clu 1) (s.outToken k n m)) := by
  have hfind : (s.chip k).toks.find? MeshTok.outReady = some m := by rw [htoks, List.find?_cons_of_pos hready]
  unfold meshOutput
  simp only [hfind, hentry]
  exact ⟨_, rfl⟩

theorem meshOutputToken_emits {s : State} (hquiet : s.Quiet) {k : Fin 4} {n : Nat} {m : MeshTok} (htoks : (s.chip k).toks = [m])
    (hready : m.outReady = true) (hentry : s.meshEntry k m.tok.oper = some n) : Does (.meshOutputToken k) s fun t => ∃ x : Held,
      t.fabric = s.fabric ++ [x] ∧ x.tok = s.outToken k n m := by
  obtain ⟨c, hemits⟩ := meshOutput_emits htoks hready hentry
  exact ⟨_, congrArg Host.Outcome.next hemits, trails_pitchEnter hquiet (s := pitchPut (s.putChip k c) (.entry m.clu 1) _) rfl rfl⟩

theorem meshOutputToken_idle {s : State} {k : Fin 4} (h : ∀ m ∈ (s.chip k).toks, m.outReady = false) :
    Does (.meshOutputToken k) s fun t => t = s := by
  have hfind : (s.chip k).toks.find? MeshTok.outReady = none := List.find?_eq_none.2 fun m hm => by simp [h m hm]
  exact ⟨s, congrArg Host.Outcome.next (by simp only [meshOutput, hfind]), rfl⟩

/-- Settles O44: at the interface by `meshToken_enters` and its refusals, the drive buffer by `fillDrive_fills`, dark passes by
`passOutputs_dark`, and the output token as the one that moves among quiet ones (`trails_pitchEnter`). -/
theorem meshTokensAndPasses : Obligations.MeshTokensAndPasses := by
  unfold Obligations.MeshTokensAndPasses
  intro s hquiet
  refine ⟨fun c k h hchip hfront => ⟨fun hstale hepoch hheld => ⟨fun hlen hentry => ⟨?_, ?_⟩, ?_⟩, meshToken_stale ⟨hchip, hfront⟩⟩,
    fun c => meshToken_idle, fun k m htoks => ⟨fun rest horder hleft hclk hmoving hmatrix hsettling hout hunused =>
      passLaunch_passes htoks horder hleft ⟨hclk, hmoving, hmatrix, hsettling, hout, hunused⟩, fun hready n hentry => ?_⟩,
    fun k => ⟨passLaunch_idle, meshOutputToken_idle⟩⟩
  · exact meshToken_enters hquiet ⟨hchip, hfront⟩ ⟨hstale, hepoch, hheld⟩ hlen hentry
  · exact meshToken_waits ⟨hchip, hfront⟩ ⟨hstale, hepoch, hheld⟩ hlen hentry
  · exact meshToken_bad ⟨hchip, hfront⟩ ⟨hstale, hepoch, hheld⟩
  · obtain ⟨t, hexec, x, hfabric, htok⟩ := meshOutputToken_emits hquiet htoks hready hentry
    exact ⟨t, hexec, x, hfabric, by simp only [htok, State.outToken, and_self]⟩

end Sys2Proof.Machine
end

section
/-! PROOF. The family of 05_optical_mixing_engine.md: the selector of the feeds (O45). -/

namespace Sys2Proof.Machine

/-! ### Chiplets without light -/

/-- No circuit is up, and no job holds a mesh. -/
def State.meshIdle (s : State) : Prop := (∀ k l, (s.lane k l).st ≠ lnUp) ∧ ∀ j < 16, (s.job j).chips = []

theorem chipCircuitsDown_idle {s : State} (h : ∀ k l, (s.lane k l).st ≠ lnUp) (k : Nat) : chipCircuitsDown s k = s :=
  each_inv (· = s) _ _ s (fun t l ht => by
    subst ht
    exact if_pos (h k l)) rfl

theorem darken_idle {s : State} (h : s.meshIdle) : darken s = s := by
  obtain ⟨hlanes, hjobs⟩ := h
  have hdown : s.each chipNums chipCircuitsDown = s := each_inv (· = s) _ _ s (fun t k ht => by
    subst ht
    exact chipCircuitsDown_idle hlanes k) rfl
  have hnone : (jobNums.filter fun j => (s.job j).chips.any fun e => s.meshState e.1 != msOut) = [] :=
    List.filter_eq_nil_iff.2 fun j hj => by simp [hjobs j (List.mem_range.1 hj)]
  unfold darken
  simp only [hdown, hnone, each_nil]

/-- Every chiplet goes dark. -/
def State.darkened (s : State) : State := s.each chipNums darkChip

theorem wr_regs_congr {s t : State} (h : t.regs = s.regs) (f : Fld) (i v : Nat) : (t.wr f i v).regs = (s.wr f i v).regs := by
  have hword : t.word (f.key i 0) = s.word (f.key i 0) := by rw [State.word, h, State.word]
  change spSet regReset t.regs _ (withField f.lo f.w (t.word _) v) = spSet regReset s.regs _ (withField f.lo f.w (s.word _) v)
  rw [h, hword]

/-- The passes of chiplet `k` are gone. -/
def State.passesGone (s : State) (k : Nat) : State := (dropPasses s k).putChip k { (dropPasses s k).chip k with begun := [], straddle := [] }

theorem passesGone_regs (s : State) (k : Nat) : (s.passesGone k).regs = s.regs := rfl

/-- A chiplet that goes dark settles if it serves or rebuilds; nothing else of the registers changes. -/
theorem darkChip_regs (s : State) (k : Nat) : (darkChip s k).regs =
    if s.meshState k = msService ∨ s.meshState k = msRebuild then (setMesh s k msSettling).regs else s.regs := by
  have hstep : darkChip s k = if (s.passesGone k).meshState k = msService ∨ (s.passesGone k).meshState k = msRebuild then
      setMesh ((s.passesGone k).putChip k { (s.passesGone k).chip k with work := .trim, ready := false, swapped := false }) k msSettling
    else s.passesGone k := rfl
  have hstate : (s.passesGone k).meshState k = s.meshState k := rd_of_regs (passesGone_regs s k) ..
  rw [hstep, hstate]
  split
  · exact wr_regs_congr (passesGone_regs s k) ..
  · exact passesGone_regs s k

theorem darkChip_word (s : State) (k : Nat) {x : Nat} (h : 0x40800 ≤ x) : (darkChip s k).word x = s.word x := by
  have hkey := mesh_key_range (show R.MESH_STAT_STATE.ofMesh = true by decide) k
  unfold State.word
  rw [darkChip_regs]
  split
  · exact word_wr_ne s R.MESH_STAT_STATE k msSettling (by omega)
  · rfl

theorem darkened_word (s : State) {x : Nat} (h : 0x40800 ≤ x) : s.darkened.word x = s.word x :=
  each_keeps (State.word · x) _ _ s fun t k => darkChip_word t k h

/-- Where a chiplet goes dark, every chiplet settles or stays in its state. -/
theorem darkChip_meshState (s : State) (i k : Nat) : (darkChip s i).meshState k = msSettling ∨ (darkChip s i).meshState k = s.meshState k := by
  have hof (t : State) : t.meshState k = fieldOf 0 3 (t.word (R.MESH_STAT_STATE.key k 0)) := rfl
  rw [hof, hof]
  unfold State.word
  rw [darkChip_regs]
  split
  · by_cases hkey : R.MESH_STAT_STATE.key k 0 = R.MESH_STAT_STATE.key i 0
    · rw [hkey]
      exact .inl (meshState_setMesh s i (by decide))
    · exact .inr (congrArg _ (word_wr_ne s R.MESH_STAT_STATE i msSettling hkey))
  · exact .inr rfl

/-- A chiplet in service, or that settles already, settles when it goes dark. -/
theorem darkChip_settles {s : State} {k : Nat} (h : s.meshState k = msService ∨ s.meshState k = msSettling) :
    (darkChip s k).meshState k = msSettling := by
  have hof (t : State) (r : Sparse Word) (hr : t.regs = r) : t.meshState k = (s.setRegs r).meshState k := rd_of_regs (by rw [hr]; rfl) ..
  rw [hof _ _ (darkChip_regs s k)]
  obtain h | h := h
  · rw [if_pos (.inl h)]
    exact meshState_setMesh s k (by decide)
  · rw [if_neg (by simp [h])]
    exact h

theorem darkened_settles {s : State} {k : Nat} (hk : k < 4) (h : s.meshState k = msService) : s.darkened.meshState k = msSettling := by
  obtain ⟨a, b, hab⟩ := List.append_of_mem (show k ∈ chipNums from List.mem_range.2 hk)
  have hsplit : s.darkened = (darkChip (s.each a darkChip) k).each b darkChip := by
    rw [State.darkened, hab, State.each, List.foldl_append, List.foldl_cons]
    rfl
  rw [hsplit]
  refine each_inv (·.meshState k = msSettling) b _ _ (fun t i ht => ?_) (darkChip_settles ?_)
  · obtain hi | hi := darkChip_meshState t i k
    · exact hi
    · exact hi.trans ht
  · refine each_inv (fun t => t.meshState k = msService ∨ t.meshState k = msSettling) a _ s (fun t i ht => ?_) (.inl h)
    obtain hi | hi := darkChip_meshState t i k
    · exact .inr hi
    · rwa [hi]

/-! ### A move begins -/

/-- The selector moves to a feed, and the chiplets that served settle. -/
def State.MovesTo (s t : State) (f : Nat) : Prop :=
  t.on R.FEED_STAT_MOVING 0 = true ∧ t.feedMove = some (f, s.now) ∧ ∀ k < 4, s.meshState k = msService → t.meshState k = msSettling

/-- A move that begins where no mesh is in use, and what it leaves of the feeds' settings and of their presence. -/
theorem beginMove_idle {s : State} (hidle : s.meshIdle) (hstill : s.on R.FEED_STAT_MOVING 0 = false) (f : Nat) :
    s.MovesTo (beginMove s f) f ∧ (∀ g, (beginMove s f).feedOk g = s.feedOk g) ∧
      (beginMove s f).rd R.FEED_CFG_AUTO 0 = s.rd R.FEED_CFG_AUTO 0 := by
  obtain ⟨hmoving, hmove⟩ := beginMove_moves f hstill
  have heq : beginMove s f = (s.darkened.wr R.FEED_STAT_MOVING 0 1).setFeedMove (some (f, s.now)) := by
    simp only [beginMove, hstill, Bool.false_eq_true, if_false, darken_idle hidle]
    rfl
  have hrd {g : Fld} (hkey : g.key 0 0 ≠ 0x40804 ∨ g.lo + g.w ≤ 3) : (beginMove s f).rd g 0 = s.darkened.rd g 0 := by
    rw [heq]
    refine rd_wr_ne s.darkened R.FEED_STAT_MOVING g 0 0 1 (hkey.imp id .inl)
  have hdark {g : Fld} (hkey : 0x40800 ≤ g.key 0 0) : s.darkened.rd g 0 = s.rd g 0 := rd_of_word (darkened_word s hkey)
  refine ⟨⟨hmoving, hmove, fun k hk hserv => ?_⟩, fun g => ?_, ?_⟩
  · have hkey := mesh_key_range (show R.MESH_STAT_STATE.ofMesh = true by decide) k
    rw [heq]
    exact (rd_wr_ne s.darkened R.FEED_STAT_MOVING R.MESH_STAT_STATE 0 k 1
      (.inl (by rw [show R.FEED_STAT_MOVING.key 0 0 = 0x40804 by decide]; omega))).trans (darkened_settles hk hserv)
  · unfold State.feedOk State.on
    rw [hrd (.inr (by decide)), hrd (.inr (by decide)), hdark (by decide), hdark (by decide)]
  · rw [hrd (.inl (by decide)), hdark (by decide)]

/-! ### The presence of a feed -/

/-- A feed's presence shows, and nothing else changes. -/
theorem putFeed_aside (s : State) (f : Nat) (b : Bool) : ∃ r, putFeed s f b = s.setRegs r := by
  unfold putFeed
  split <;> exact ⟨_, rfl⟩

theorem rd_putFeed (s : State) (f : Nat) (b : Bool) {g : Fld} (h : g.key 0 0 ≠ 0x40804 ∨ g.lo + g.w ≤ 1 ∨ 3 ≤ g.lo) :
    (putFeed s f b).rd g 0 = s.rd g 0 := by
  have hA : R.FEED_STAT_A_OK.key 0 0 = 0x40804 ∧ R.FEED_STAT_A_OK.lo = 1 ∧ R.FEED_STAT_A_OK.w = 1 := by decide
  have hB : R.FEED_STAT_B_OK.key 0 0 = 0x40804 ∧ R.FEED_STAT_B_OK.lo = 2 ∧ R.FEED_STAT_B_OK.w = 1 := by decide
  unfold putFeed
  split
  · exact rd_wr_ne s R.FEED_STAT_A_OK g 0 0 _ (by omega)
  · exact rd_wr_ne s R.FEED_STAT_B_OK g 0 0 _ (by omega)

theorem feedInUse_putFeed (s : State) (f : Nat) (b : Bool) : (putFeed s f b).feedInUse = s.feedInUse := rd_putFeed s f b (.inr (by decide))

theorem feedOk_putFeed_same (s : State) (f : Nat) (b : Bool) : (putFeed s f b).feedOk f = b := by
  have hset (g : Fld) (hw : g.w = 1 ∧ g.lo + g.w ≤ 32) : (s.wrB g 0 b).on g 0 = b := by
    rw [State.on, State.wrB, rd_wr_same s g 0 _ hw.2, hw.1]
    cases b <;> rfl
  unfold putFeed State.feedOk
  split
  · exact hset R.FEED_STAT_A_OK (by decide)
  · exact hset R.FEED_STAT_B_OK (by decide)

theorem feedOk_putFeed_other (s : State) {f g : Nat} (b : Bool) (hf : f < 2) (hg : g < 2) (h : g ≠ f) :
    (putFeed s f b).feedOk g = s.feedOk g := by
  unfold putFeed State.feedOk
  by_cases hzero : f = 0
  · rw [if_pos hzero, if_neg (by omega), if_neg (by omega)]
    exact congrArg (· != 0) (rd_wr_ne s R.FEED_STAT_A_OK R.FEED_STAT_B_OK 0 0 _ (.inr (by decide)))
  · rw [if_neg hzero, if_pos (by omega), if_pos (by omega)]
    exact congrArg (· != 0) (rd_wr_ne s R.FEED_STAT_B_OK R.FEED_STAT_A_OK 0 0 _ (.inr (by decide)))

theorem feedInUse_lt (s : State) : s.feedInUse < 2 := fieldOf_lt ..

theorem meshIdle_putFeed {s : State} (h : s.meshIdle) (f : Nat) (b : Bool) : (putFeed s f b).meshIdle := by
  obtain ⟨r, hr⟩ := putFeed_aside s f b
  rw [hr]
  exact h

theorem moving_putFeed (s : State) (f : Nat) (b : Bool) : (putFeed s f b).on R.FEED_STAT_MOVING 0 = s.on R.FEED_STAT_MOVING 0 :=
  congrArg (· != 0) (rd_putFeed s f b (.inr (by decide)))

theorem auto_putFeed (s : State) (f : Nat) (b : Bool) : (putFeed s f b).on R.FEED_CFG_AUTO 0 = s.on R.FEED_CFG_AUTO 0 :=
  congrArg (· != 0) (rd_putFeed s f b (.inl (by decide)))

theorem meshState_putFeed (s : State) (f : Nat) (b : Bool) (k : Nat) : (putFeed s f b).meshState k = s.meshState k := by
  have hkey := mesh_key_range (show R.MESH_STAT_STATE.ofMesh = true by decide) k
  have hA : R.FEED_STAT_A_OK.key 0 0 = 0x40804 := by decide
  have hB : R.FEED_STAT_B_OK.key 0 0 = 0x40804 := by decide
  unfold putFeed
  split
  · exact rd_wr_ne s R.FEED_STAT_A_OK R.MESH_STAT_STATE 0 k _ (.inl (by omega))
  · exact rd_wr_ne s R.FEED_STAT_B_OK R.MESH_STAT_STATE 0 k _ (.inl (by omega))

/-- A move that begins with the loss or the return of a feed is one of the state before. -/
theorem beginMove_putFeed {s : State} (hidle : s.meshIdle) (hstill : s.on R.FEED_STAT_MOVING 0 = false) (f : Nat) (b : Bool) (g : Nat) :
    s.MovesTo (beginMove (putFeed s f b) g) g ∧ (beginMove (putFeed s f b) g).feedOk f = b := by
  obtain ⟨⟨hmoving, hmove, hsettle⟩, hok, -⟩ := beginMove_idle (meshIdle_putFeed hidle f b) ((moving_putFeed s f b).trans hstill) g
  have hnow : (putFeed s f b).now = s.now := by
    obtain ⟨r, hr⟩ := putFeed_aside s f b
    rw [hr]
    rfl
  refine ⟨⟨hmoving, by rw [hmove, hnow], fun k hk hserv => hsettle k hk ?_⟩, (hok f).trans (feedOk_putFeed_same s f b)⟩
  rwa [meshState_putFeed]

/-! ### Losses and returns -/

theorem feedLoss_moves {s : State} {f : Fin 2} (hidle : s.meshIdle) (hstill : s.on R.FEED_STAT_MOVING 0 = false)
    (hauto : s.on R.FEED_CFG_AUTO 0 = true) (hinUse : s.feedInUse = f.val) (hok : s.feedOk f = true) (hother : s.feedOk (1 - f.val) = true) :
    Does (.feedLoss f) s fun t => s.MovesTo t (1 - f.val) ∧ t.feedOk f = false := by
  have hf := f.isLt
  have hgone : feedGone (putFeed s f false) = beginMove (putFeed s f false) (1 - f.val) := by
    simp only [feedGone, feedInUse_putFeed, hinUse, feedOk_putFeed_same, auto_putFeed, hauto,
      feedOk_putFeed_other s (f := f.val) (g := 1 - f.val) false hf (by omega) (by omega), hother, Bool.false_eq_true, if_false, if_true]
  refine ⟨_, congrArg Host.Outcome.next ?_, beginMove_putFeed hidle hstill f false (1 - f.val)⟩
  rw [← hgone]
  simp only [hok, moving_putFeed, hstill, Bool.not_true, Bool.false_eq_true, if_false]

theorem feedLoss_shows {s : State} {f : Fin 2} (hinUse : s.feedInUse ≠ f.val) (hserves : s.feedOk s.feedInUse = true)
    (hok : s.feedOk f = true) : Does (.feedLoss f) s fun t => t = putFeed s f false := by
  have hgone : feedGone (putFeed s f false) = putFeed s f false := by
    simp only [feedGone, feedInUse_putFeed, feedOk_putFeed_other s false f.isLt (feedInUse_lt s) hinUse, hserves, if_true]
  refine ⟨_, congrArg Host.Outcome.next ?_, rfl⟩
  simp only [hok, hgone, Bool.not_true, Bool.false_eq_true, if_false, ite_self]

theorem feedLoss_lost {s : State} {f : Fin 2} (hok : s.feedOk f = false) : Does (.feedLoss f) s fun t => t = s :=
  ⟨s, congrArg Host.Outcome.next (if_pos (by simp [hok])), rfl⟩

theorem feedPresent_moves {s : State} {f : Fin 2} (hidle : s.meshIdle) (hstill : s.on R.FEED_STAT_MOVING 0 = false)
    (hauto : s.on R.FEED_CFG_AUTO 0 = true) (hinUse : s.feedInUse ≠ f.val) (hlost : s.feedOk s.feedInUse = false) :
    Does (.feedPresent f) s fun t => s.MovesTo t f ∧ t.feedOk f = true := by
  refine ⟨_, congrArg Host.Outcome.next (if_pos ?_), beginMove_putFeed hidle hstill f true f⟩
  rw [feedInUse_putFeed, feedOk_putFeed_other s true f.isLt (feedInUse_lt s) hinUse, auto_putFeed, hlost]
  exact ⟨hinUse.symm, rfl, hauto⟩

theorem feedPresent_shows {s : State} {f : Fin 2}
    (h : s.feedInUse = f.val ∨ s.feedOk s.feedInUse = true ∨ s.on R.FEED_CFG_AUTO 0 = false) :
    Does (.feedPresent f) s fun t => t = putFeed s f true := by
  refine ⟨_, congrArg Host.Outcome.next (if_neg fun ⟨hother, hlost, hauto⟩ => ?_), rfl⟩
  rw [feedInUse_putFeed] at hother hlost
  rw [feedOk_putFeed_other s true f.isLt (feedInUse_lt s) hother.symm] at hlost
  rw [auto_putFeed] at hauto
  obtain h | h | h := h
  · exact hother h.symm
  · simp [h] at hlost
  · simp [h] at hauto

/-! ### The end of a move -/

/-- The mailbox that runs a command depends on the doorbells' order and the mailboxes' states and commands. -/
theorem runningAny_of_mailboxes {s u : State} (horder : u.mbxOrder = s.mbxOrder) (hstate : ∀ m, u.mbState m = s.mbState m)
    (hcmd : ∀ m, u.mbCmd m = s.mbCmd m) (code : Nat) : u.runningAny code = s.runningAny code := by
  simp only [State.runningAny, State.isRunning, horder, hstate, hcmd]

/-- The selector rests at feed `f`, and the move is counted. -/
def State.selectorAt (s : State) (f : Nat) : State :=
  (((s.wr R.FEED_STAT_IN_USE 0 f).wr R.FEED_STAT_MOVING 0 0).bump R.FEED_SW_CNT_COUNT 0).setFeedMove none

theorem rd_setFeedMove (s : State) (v : Option (Nat × Nat)) (g : Fld) (i : Nat) : (s.setFeedMove v).rd g i = s.rd g i := rfl

theorem selectorAt_keys : R.FEED_SW_CNT_COUNT.key 0 0 = 0x40808 ∧ R.FEED_STAT_MOVING.key 0 0 = 0x40804 ∧
    R.FEED_STAT_IN_USE.key 0 0 = 0x40804 := by decide

/-- What is neither the selector's place, its motion nor its count stands. -/
theorem rd_selectorAt (s : State) (f : Nat) {g : Fld} {i : Nat} (hcount : g.key i 0 ≠ 0x40808)
    (hstat : g.key i 0 ≠ 0x40804 ∨ 1 ≤ g.lo ∧ g.lo + g.w ≤ 3) : (s.selectorAt f).rd g i = s.rd g i := by
  obtain ⟨hcnt, hmoving, hinUse⟩ := selectorAt_keys
  have hbits : R.FEED_STAT_MOVING.lo = 3 ∧ R.FEED_STAT_IN_USE.lo + R.FEED_STAT_IN_USE.w = 1 := by decide
  rw [State.selectorAt, rd_setFeedMove, State.bump, State.bumpBy, rd_wr_ne _ _ g _ i _ (.inl (by omega)),
    rd_wr_ne _ _ g _ i _ (by omega), rd_wr_ne _ _ g _ i _ (by omega)]

theorem feedInUse_selectorAt (s : State) {f : Nat} (hf : f < 2) : (s.selectorAt f).feedInUse = f := by
  rw [State.feedInUse, State.selectorAt, rd_setFeedMove, State.bump, State.bumpBy, rd_wr_ne _ _ _ _ _ _ (.inl (by decide)),
    rd_wr_ne _ _ _ _ _ _ (.inr (by decide)), rd_wr_same _ _ _ _ (by decide)]
  exact Nat.mod_eq_of_lt hf

theorem still_selectorAt (s : State) (f : Nat) : (s.selectorAt f).on R.FEED_STAT_MOVING 0 = false := by
  rw [on_eq_false, State.selectorAt, rd_setFeedMove, State.bump, State.bumpBy, rd_wr_ne _ _ _ _ _ _ (.inl (by decide)),
    rd_wr_same _ _ _ _ (by decide), Nat.zero_mod]

theorem counted_selectorAt (s : State) (f : Nat) : Counted s (s.selectorAt f) R.FEED_SW_CNT_COUNT 0 := by
  rw [Counted, State.selectorAt, rd_setFeedMove, State.bump, State.bumpBy, rd_wr_same _ _ _ _ (by decide),
    rd_wr_ne _ _ _ _ _ _ (.inl (by decide)), rd_wr_ne _ _ _ _ _ _ (.inl (by decide))]

theorem feedOk_selectorAt (s : State) (f g : Nat) : (s.selectorAt f).feedOk g = s.feedOk g := by
  unfold State.feedOk State.on
  rw [rd_selectorAt s f (by decide) (.inr (by decide)), rd_selectorAt s f (by decide) (.inr (by decide))]

theorem runningAny_selectorAt (s : State) (f code : Nat) : (s.selectorAt f).runningAny code = s.runningAny code := by
  have hrd {g : Fld} {m : Nat} (hkey : g.key m 0 = 0x10840 + 4 * (m % 16)) : (s.selectorAt f).rd g m = s.rd g m :=
    rd_selectorAt s f (by omega) (.inl (by omega))
  exact runningAny_of_mailboxes (s := s) (u := s.selectorAt f) rfl (fun m => hrd (MBX_STAT_key m)) (fun m => hrd (MBX_STAT_key m)) code

theorem feedGone_present {s : State} (h : s.feedOk s.feedInUse = true) : feedGone s = s := if_pos h

theorem feedMoveDone_ends {s : State} {f a : Nat} (hmove : s.feedMove = some (f, a)) (hpassed : s.passed a (20 * usec) = true) (hf : f < 2)
    (hok : s.feedOk f = true) (hnone : s.runningAny 0x0404 = none) : Does .feedMoveDone s fun t =>
      t.feedInUse = f ∧ t.on R.FEED_STAT_MOVING 0 = false ∧ t.feedMove = none ∧ Counted s t R.FEED_SW_CNT_COUNT 0 := by
  have hinUse := feedInUse_selectorAt s hf
  have hidle : (s.selectorAt f).runningAny 0x0404 = none := (runningAny_selectorAt s f 0x0404).trans hnone
  have hstep : moveDone s = feedGone (match (s.selectorAt f).runningAny 0x0404 with
      | some m => (s.selectorAt f).respond m .ok 0 []
      | none => s.selectorAt f) := by
    simp only [moveDone, hmove, hpassed, Bool.not_true, Bool.false_eq_true, if_false]
    rfl
  simp only [hidle] at hstep
  rw [feedGone_present (by rw [hinUse, feedOk_selectorAt, hok])] at hstep
  exact ⟨_, congrArg Host.Outcome.next hstep, hinUse, still_selectorAt s f, rfl, counted_selectorAt s f⟩

theorem feedMoveDone_early {s : State} {f a : Nat} (hmove : s.feedMove = some (f, a)) (hsoon : s.passed a (20 * usec) = false) :
    Does .feedMoveDone s fun t => t = s :=
  ⟨s, congrArg Host.Outcome.next (by simp only [moveDone, hmove, hsoon, Bool.not_false, if_true]), rfl⟩

theorem feedMoveDone_none {s : State} (hmove : s.feedMove = none) : Does .feedMoveDone s fun t => t = s :=
  ⟨s, congrArg Host.Outcome.next (by simp only [moveDone, hmove]), rfl⟩

/-! ### The commands of the feed -/

/-- A parameter of a command that passes its checks is within its range (R308). -/
theorem precheck_param {s : State} {m off : Nat} {c : Cmd} {a e g : Bool} (h : s.precheck m c a e g off = none) {p : Param} (hp : p ∈ c.params) :
    s.req m p.off p.size ≤ p.hi := by
  have hbad : s.badParam m c = none := by
    unfold State.precheck at h
    obtain ⟨-, h⟩ | ⟨-, h⟩ := ite_eq_iff.1 h
    · cases h
    split at h
    · cases h
    obtain ⟨-, h⟩ | ⟨-, h⟩ := ite_eq_iff.1 h
    · cases h
    split at h
    · cases h
    · assumption
  have hin := List.find?_eq_none.1 (Option.map_eq_none_iff.1 hbad) p hp
  simp only [Bool.or_eq_true, decide_eq_true_eq, not_or, not_lt] at hin
  exact hin.2

theorem begins_param {s : State} {m code : Nat} {a g e : Bool} (h : s.begins m code a g e = true) {c : Cmd} (hc : findCmd code = some c)
    {p : Param} (hp : p ∈ c.params) : s.req m p.off p.size ≤ p.hi := by
  simp only [State.begins, Bool.and_eq_true, Option.any_eq_true] at h
  obtain ⟨-, d, hd, hpass⟩ := h
  obtain rfl : c = d := Option.some.inj (hc.symm.trans hd)
  exact precheck_param (Option.isNone_iff_eq_none.1 hpass) hp

theorem word_running (s : State) (m : Nat) {x : Nat} (h : 0x10880 ≤ x) : (s.running m).word x = s.word x := by
  have hkey := MBX_STAT_key m
  exact word_wr_ne s R.MBX_STAT_STATE m mbRunning (by omega)

/-- The settings of OPT_FEED_SET are stored. -/
def State.feedSet (s : State) (m : Nat) : State :=
  ((s.running m).wr R.FEED_CFG_PRIMARY 0 (s.req m 8 1)).wr R.FEED_CFG_AUTO 0 (s.req m 9 1)

/-- The settings as they stand then, and what else the move goes by. -/
theorem feedSet_stored {s : State} {m : Nat} (h : s.begins m 0x0404 true true true = true) :
    (s.feedSet m).rd R.FEED_CFG_PRIMARY 0 = s.req m 8 1 ∧ (s.feedSet m).rd R.FEED_CFG_AUTO 0 = s.req m 9 1 ∧
      (s.feedSet m).word 0x40804 = s.word 0x40804 := by
  have hcmd : findCmd 0x0404 = some ⟨0x0404, some 2, [], [⟨8, 1, 0, 1⟩, ⟨9, 1, 0, 1⟩]⟩ := by decide +kernel
  have hprimary : s.req m 8 1 ≤ 1 := begins_param h hcmd (p := ⟨8, 1, 0, 1⟩) (by decide)
  have hauto : s.req m 9 1 ≤ 1 := begins_param h hcmd (p := ⟨9, 1, 0, 1⟩) (by decide)
  refine ⟨?_, ?_, ?_⟩
  · rw [State.feedSet, rd_wr_ne _ _ _ _ _ _ (.inr (by decide)), rd_wr_same _ _ _ _ (by decide)]
    exact Nat.mod_eq_of_lt (Nat.lt_succ_of_le hprimary)
  · rw [State.feedSet, rd_wr_same _ _ _ _ (by decide)]
    exact Nat.mod_eq_of_lt (Nat.lt_succ_of_le hauto)
  · rw [State.feedSet, word_wr_ne _ _ _ _ (by decide), word_wr_ne _ _ _ _ (by decide), word_running s m (by decide)]

theorem meshIdle_wr {s : State} (h : s.meshIdle) (f : Fld) (i v : Nat) : (s.wr f i v).meshIdle := h

theorem meshIdle_feedSet {s : State} (h : s.meshIdle) (m : Nat) : (s.feedSet m).meshIdle := meshIdle_wr (meshIdle_wr (meshIdle_wr h ..) ..) ..

theorem optFeedSet_eq {s : State} {m : Fin 16} (h : s.begins m 0x0404 true true true = true) : exec (.optFeedSet m) s =
    .next (if (feedCfgEffect (s.feedSet m)).on R.FEED_STAT_MOVING 0 then feedCfgEffect (s.feedSet m)
      else (feedCfgEffect (s.feedSet m)).respond m .ok 0 []) := by
  simp only [exec, execOptFeedSet, peade_begins 0 _ h, req_running]
  rfl

/-- The selector is to stay or to move, as for the settings of mailbox `m` (R127). -/
theorem optFeedSet_answers {s : State} {m : Fin 16} (h : s.begins m 0x0404 true true true = true) (hstill : s.on R.FEED_STAT_MOVING 0 = false)
    (hstay : s.req m 8 1 = s.feedInUse ∨ s.feedOk (s.req m 8 1) = false)
    (hno : s.req m 9 1 = 0 ∨ s.feedOk s.feedInUse = true ∨ s.feedOk (1 - s.feedInUse) = false) : Does (.optFeedSet m) s fun t =>
      t.rd R.FEED_CFG_PRIMARY 0 = s.req m 8 1 ∧ t.rd R.FEED_CFG_AUTO 0 = s.req m 9 1 ∧ t.Answers m .ok [] := by
  obtain ⟨hprimary, hauto, hstat⟩ := feedSet_stored h
  have hinUse := feedInUse_of_word hstat
  have hok := feedOk_of_word hstat
  have heffect : feedCfgEffect (s.feedSet m) = s.feedSet m :=
    feedCfgEffect_stays (by rwa [hprimary, hinUse, hok]) (by rwa [hauto, hinUse, hok, hok])
  have hmoving : (s.feedSet m).on R.FEED_STAT_MOVING 0 = false := (on_of_word hstat).trans hstill
  have hkey : R.FEED_CFG_PRIMARY.key 0 0 = 0x40800 ∧ R.FEED_CFG_AUTO.key 0 0 = 0x40800 := by decide
  refine ⟨(s.feedSet m).respond m .ok 0 [], ?_, ?_, ?_, respond_answers ..⟩
  · rw [optFeedSet_eq h, heffect, hmoving]
    rfl
  · rw [respond_rd_ne _ _ _ _ _ _ _ (by omega) (fun w hw => by omega), hprimary]
  · rw [respond_rd_ne _ _ _ _ _ _ _ (by omega) (fun w hw => by omega), hauto]

theorem optFeedSet_moves {s : State} {m : Fin 16} (h : s.begins m 0x0404 true true true = true) (hstill : s.on R.FEED_STAT_MOVING 0 = false)
    (hstay : s.req m 8 1 = s.feedInUse ∨ s.feedOk (s.req m 8 1) = false) (hset : s.req m 9 1 = 1) (hlost : s.feedOk s.feedInUse = false)
    (hother : s.feedOk (1 - s.feedInUse) = true) (hidle : s.meshIdle) : Does (.optFeedSet m) s fun t => t.on R.FEED_STAT_MOVING 0 = true ∧
      t.feedMove = some (1 - s.feedInUse, s.now) ∧ t.rd R.FEED_CFG_AUTO 0 = 1 := by
  obtain ⟨hprimary, hauto, hstat⟩ := feedSet_stored h
  have hinUse := feedInUse_of_word hstat
  have hok := feedOk_of_word hstat
  have heffect : feedCfgEffect (s.feedSet m) = beginMove (s.feedSet m) (1 - s.feedInUse) := by
    rw [← hinUse]
    exact feedCfgEffect_auto (by rwa [hprimary, hinUse, hok]) (by rw [State.on, hauto, hset]; rfl) (by rwa [hok, hinUse])
      (by rwa [hok, hinUse])
  obtain ⟨⟨hmoving, hmove, -⟩, -, hkept⟩ := beginMove_idle (meshIdle_feedSet hidle m) ((on_of_word hstat).trans hstill) (1 - s.feedInUse)
  refine ⟨beginMove (s.feedSet m) (1 - s.feedInUse), ?_, hmoving, hmove, hkept.trans (hauto.trans hset)⟩
  rw [optFeedSet_eq h, heffect, hmoving]
  rfl

theorem bridgesUp_running (s : State) (m : Nat) : (s.running m).bridgesUp = s.bridgesUp := by
  have hlanes (k c : Nat) (rx : Bool) : (s.running m).upLanes k c rx = s.upLanes k c rx := rfl
  have hroute (i : Nat) : (s.running m).on R.BRIDGE_CFG_ROUTE i = s.on R.BRIDGE_CFG_ROUTE i := congrArg (· != 0) (rd_running (by decide) s m i)
  simp only [State.bridgesUp, State.bridgeJoins, State.bridgeBoth, State.circuits, State.columnOf, hlanes, hroute,
    rd_running (f := R.BRIDGE_CFG_EXT_SEL) (by decide) s m]

/-- The nine words of OPT_STATUS (R314). -/
def State.optWords (s : State) (k : Nat) : List Word :=
  [s.word (R.RING_STAT.key k 0), s.word (R.MESH_STAT.key k 0), s.word (R.MESH_RESID.key k 0), s.word (R.CW_CE_CNT.key k 0),
    s.word (R.CW_UE_CNT.key k 0), s.word (R.FEED_STAT.key 0 0), withField 8 4 (s.word (R.HALF_STAT.key 0 0)) s.bridgesUp,
    s.word (R.LOSS_LOC.key 0 0), s.word (R.LOSS_CNT.key 0 0)]

theorem optWords_running (s : State) (m k : Nat) : (s.running m).optWords k = s.optWords k := by
  have hword {f : Fld} (hf : 0x10880 ≤ f.base) (i : Nat) : (s.running m).word (f.key i 0) = s.word (f.key i 0) :=
    word_running s m (hf.trans (key_ge_base ..))
  simp only [State.optWords, bridgesUp_running, hword (f := R.RING_STAT) (by decide), hword (f := R.MESH_STAT) (by decide),
    hword (f := R.MESH_RESID) (by decide), hword (f := R.CW_CE_CNT) (by decide), hword (f := R.CW_UE_CNT) (by decide),
    hword (f := R.FEED_STAT) (by decide), hword (f := R.HALF_STAT) (by decide), hword (f := R.LOSS_LOC) (by decide),
    hword (f := R.LOSS_CNT) (by decide)]

theorem optStatus_answers {s : State} {m : Fin 16} (h : s.begins m 0x0401 true true true = true) :
    Does (.optStatus m) s fun t => t.Answers m .ok ((s.optWords (s.req m 8 1)).flatMap fun w => leBytes 4 w.toNat) := by
  have hexec : exec (.optStatus m) s = .next ((s.running m).respond m .ok 0
      (((s.running m).optWords ((s.running m).req m 8 1)).flatMap fun w => leBytes 4 w.toNat)) := by
    simp only [exec, execOptStatus, peade_begins 0 _ h]
    rfl
  rw [optWords_running, req_running] at hexec
  exact ⟨_, hexec, respond_answers ..⟩

/-- Settles O45: where no mesh is in use a move darkens the chiplets alone (`beginMove_idle`); the losses, the returns and OPT_FEED_SET are
told by what the feeds' words say of it. -/
theorem feedSelector : Obligations.FeedSelector := by
  unfold Obligations.FeedSelector
  intro s
  refine ⟨fun hlanes hjobs f hstill hauto =>
      ⟨feedLoss_moves ⟨hlanes, hjobs⟩ hstill hauto, feedPresent_moves ⟨hlanes, hjobs⟩ hstill hauto⟩,
    fun f => ⟨feedLoss_shows, feedLoss_lost, feedPresent_shows⟩,
    fun f a hmove => ⟨feedMoveDone_ends hmove, feedMoveDone_early hmove⟩, feedMoveDone_none,
    fun m => ⟨fun h hstill hstay => ⟨optFeedSet_answers h hstill hstay, fun hset hlost hother hlanes hjobs =>
      optFeedSet_moves h hstill hstay hset hlost hother ⟨hlanes, hjobs⟩⟩, optStatus_answers⟩⟩

end Sys2Proof.Machine
end

section
/-! PROOF. The family of 06_rings_lock_and_optical_links.md: heartbeats, their loss, a split of the halves and its end (O48). -/

namespace Sys2Proof.Machine

/-! ### Fields, halves and external ports -/

theorem on_wr_same (s : State) (f : Fld) (i v : Nat) (h : f.lo + f.w ≤ 32) : (s.wr f i v).on f i = (v % 2 ^ f.w != 0) :=
  congrArg (· != 0) (rd_wr_same s f i v h)

theorem on_wr_ne (s : State) (f g : Fld) (i i' v : Nat) (h : g.key i' 0 ≠ f.key i 0 ∨ g.lo + g.w ≤ f.lo ∨ f.lo + f.w ≤ g.lo) :
    (s.wr f i v).on g i' = s.on g i' :=
  congrArg (· != 0) (rd_wr_ne s f g i i' v h)

theorem half_putHalf (s : State) (h n : Nat) (v : Half) : (s.putHalf h v).half n = if n = h then v else s.half n := spGet_spSet ..

theorem half_putHalf_same (s : State) (h : Nat) (v : Half) : (s.putHalf h v).half h = v := spGet_spSet_same ..

theorem on_putHalf (s : State) (h i : Nat) (v : Half) (f : Fld) : (s.putHalf h v).on f i = s.on f i := rfl

theorem ext_putExt_same (s : State) (e : Nat) (v : ExtPort) : (s.putExt e v).ext e = v := spGet_spSet_same ..

theorem sidebandFld_cases (h : Nat) : sidebandFld h = R.HALF_STAT_SB_W_OK ∨ sidebandFld h = R.HALF_STAT_SB_E_OK := ite_eq_or_eq ..

/-- The bit of a sideband stands in HALF_STAT, between SPLIT and SELF_RULE (R196). -/
theorem sidebandFld_bits (h : Nat) : (sidebandFld h).key 0 0 = 0x41414 ∧ (sidebandFld h).w = 1 ∧ 1 ≤ (sidebandFld h).lo ∧
    (sidebandFld h).lo + (sidebandFld h).w ≤ 3 := by
  obtain heq | heq := sidebandFld_cases h <;> rw [heq] <;> decide

theorem on_sideband_wr (s : State) (h v : Nat) : (s.wr (sidebandFld h) 0 v).on (sidebandFld h) 0 = (v % 2 != 0) := by
  obtain ⟨-, hw, -, hhi⟩ := sidebandFld_bits h
  rw [on_wr_same _ _ _ _ (by omega), hw, pow_one]

/-- What is no sideband's bit stands when one is written. -/
theorem rd_wr_sideband (s : State) (h v : Nat) {g : Fld} {i : Nat} (hg : g.key i 0 ≠ 0x41414 ∨ g.lo + g.w ≤ 1 ∨ 3 ≤ g.lo) :
    (s.wr (sidebandFld h) 0 v).rd g i = s.rd g i := by
  obtain ⟨hkey, -, hlo, hhi⟩ := sidebandFld_bits h
  exact rd_wr_ne _ _ _ _ _ _ (by omega)

/-! ### Precedence by a half itself -/

/-- SELF_RULE shows beside the sidebands. -/
theorem on_sideband_showSelfRule (s : State) (h : Nat) : (showSelfRule s).on (sidebandFld h) 0 = s.on (sidebandFld h) 0 := by
  obtain ⟨-, -, -, hhi⟩ := sidebandFld_bits h
  exact on_wr_ne _ _ _ _ _ _ (.inr (.inl hhi))

theorem on_selfRule_showSelfRule (s : State) :
    (showSelfRule s).on R.HALF_STAT_SELF_RULE 0 = ((s.half 0).selfRule || (s.half 1).selfRule) := by
  rw [showSelfRule, State.wrB, on_wr_same _ _ _ _ (by decide)]
  cases (s.half 0).selfRule || (s.half 1).selfRule <;> rfl

/-- Precedence of a half that rules itself shows. -/
theorem on_selfRule_of_half {s : State} {h : Fin 2} (hrule : (s.half h).selfRule = true) :
    (showSelfRule s).on R.HALF_STAT_SELF_RULE 0 = true := by
  rw [on_selfRule_showSelfRule]
  match h with
  | 0 => rw [show (s.half 0).selfRule = true from hrule, Bool.true_or]
  | 1 => rw [show (s.half 1).selfRule = true from hrule, Bool.or_true]

theorem half_showSelfRule (s : State) (n : Nat) : (showSelfRule s).half n = s.half n := rfl

/-! ### Heartbeats -/

theorem sidebandHeartbeat_shows {s : State} {h : Fin 2} (hon : s.halfOn h = true) : Does (.sidebandHeartbeat h) s fun t =>
    t.on (sidebandFld h) 0 = true ∧ (t.half h).beatAt = some s.now ∧ (t.half h).sbLostAt = none ∧ (t.half h).selfRule = false := by
  let v : Half := { s.half h with beatAt := some s.now, sbLostAt := none, selfRule := false }
  have hhalf : (showSelfRule ((s.putHalf h v).wr (sidebandFld h) 0 1)).half h = v := half_putHalf_same s h v
  refine ⟨_, congrArg Host.Outcome.next (if_pos hon), ?_, congrArg Half.beatAt hhalf, congrArg Half.sbLostAt hhalf,
    congrArg Half.selfRule hhalf⟩
  rw [on_sideband_showSelfRule, on_sideband_wr]
  rfl

theorem sidebandHeartbeat_off {s : State} {h : Fin 2} (hoff : s.halfOn h = false) : Does (.sidebandHeartbeat h) s fun t => t = s :=
  ⟨s, congrArg Host.Outcome.next (if_neg (by simp [hoff])), rfl⟩

/-! ### The loss of a sideband -/

/-- The loss of the sideband of half `h` shows. -/
def State.sidebandDown (s : State) (h : Nat) : State :=
  (s.putHalf h { s.half h with sbLostAt := some ((s.half h).sbLostAt.getD s.now) }).wr (sidebandFld h) 0 0

theorem rd_sidebandDown (s : State) (h : Nat) {g : Fld} {i : Nat} (hg : g.key i 0 ≠ 0x41414 ∨ g.lo + g.w ≤ 1 ∨ 3 ≤ g.lo) :
    (s.sidebandDown h).rd g i = s.rd g i := rd_wr_sideband _ h 0 hg

theorem half_sidebandDown (s : State) (h n : Nat) : (s.sidebandDown h).half n =
    if n = h then { s.half h with sbLostAt := some ((s.half h).sbLostAt.getD s.now) } else s.half n := half_putHalf ..

theorem cutOff_sidebandDown (s : State) (h : Nat) : (s.sidebandDown h).cutOff = s.cutOff := by
  have hconf : (s.sidebandDown h).splitConfirm = s.splitConfirm := by
    rw [State.splitConfirm, rd_sidebandDown _ _ (.inl (by decide)), State.splitConfirm]
  unfold State.cutOff
  rw [hconf]
  rfl

theorem split_sidebandDown (s : State) (h : Nat) : (s.sidebandDown h).split = s.split :=
  congrArg (· != 0) (rd_sidebandDown s h (.inr (.inl (by decide))))

theorem halfOn_sidebandDown (s : State) (h n : Nat) : (s.sidebandDown h).halfOn n = s.halfOn n := by
  unfold State.halfOn State.on
  rw [rd_sidebandDown _ _ (.inl (by decide)), rd_sidebandDown _ _ (.inl (by decide))]

/-- Which half is captain depends on the halves that have failed and on CAPTAIN. -/
theorem captain_congr {s t : State} (hfailed : ∀ n, (t.half n).failed = (s.half n).failed)
    (hcfg : t.rd R.HALF_CFG_CAPTAIN 0 = s.rd R.HALF_CFG_CAPTAIN 0) : t.captain = s.captain := by
  unfold State.captain
  rw [hfailed, hfailed, hcfg]

/-- Half `h`, its sideband lost, rules itself. -/
def State.selfRuled (s : State) (h : Nat) : State :=
  showSelfRule ((s.sidebandDown h).putHalf h { (s.sidebandDown h).half h with selfRule := true })

theorem half_selfRuled (s : State) (h n : Nat) : (s.selfRuled h).half n =
    if n = h then { (s.sidebandDown h).half h with selfRule := true } else (s.sidebandDown h).half n :=
  (half_showSelfRule ..).trans (half_putHalf ..)

theorem on_selfRule_selfRuled (s : State) (h : Fin 2) : (s.selfRuled h).on R.HALF_STAT_SELF_RULE 0 = true :=
  on_selfRule_of_half (h := h) (by rw [half_putHalf_same])

theorem putHalf_jobs (s : State) (h : Nat) (v : Half) : (s.putHalf h v).jobs = s.jobs := rfl

theorem job_selfRuled (s : State) (h j : Nat) : (s.selfRuled h).job j = s.job j :=
  job_of_jobs (by rw [State.selfRuled, showSelfRule, State.wrB, wr_jobs, putHalf_jobs, State.sidebandDown, wr_jobs, putHalf_jobs]) j

theorem captain_selfRuled (s : State) (h : Nat) : (s.selfRuled h).captain = s.captain := by
  refine captain_congr (fun n => ?_) ((rd_wr_ne _ _ _ _ _ _ (.inl (by decide))).trans (rd_sidebandDown s h (.inl (by decide))))
  rw [half_selfRuled, half_sidebandDown, half_sidebandDown]
  by_cases hn : n = h
  · rw [if_pos hn, if_pos rfl, hn]
  · rw [if_neg hn, if_neg hn]

/-- What a half that drops its cross-half tokens still has to send is of jobs in one half. -/
theorem mem_dropCross {s : State} {h : Nat} {x : Held} (hx : x ∈ (dropCross s h).fabric) {b : Nat} (hplace : x.place = .bridge b)
    (hb : b / 8 = h) : (s.job x.tok.job).spans = false := by
  have hkept := (List.mem_filter.1 hx).2
  simpa [hplace, hb] using hkept

theorem half_dropCross (s : State) (h n : Nat) : (dropCross s h).half n = s.half n := rfl

theorem on_dropCross (s : State) (h i : Nat) (f : Fld) : (dropCross s h).on f i = s.on f i := rfl

theorem loseSideband_eq (s : State) (h : Nat) : loseSideband s h =
    if s.cutOff || s.split then (if s.halfOn h then selfRule (s.sidebandDown h) h else s.sidebandDown h) else s.sidebandDown h := by
  have hstep : loseSideband s h = if (s.sidebandDown h).cutOff || (s.sidebandDown h).split then
      (if (s.sidebandDown h).halfOn h then selfRule (s.sidebandDown h) h else s.sidebandDown h) else s.sidebandDown h := rfl
  rw [hstep, cutOff_sidebandDown, split_sidebandDown, halfOn_sidebandDown]

/-- A half that is not captain drops what it had to send of cross-half jobs (R185). -/
theorem selfRule_drops {s : State} {h : Nat} (hcaptain : h ≠ s.captain) :
    selfRule (s.sidebandDown h) h = dropCross (s.selfRuled h) h := by
  have hstep : selfRule (s.sidebandDown h) h = if h = (s.selfRuled h).captain then
      faultAll (s.selfRuled h) (jobNums.filter fun j => ((s.selfRuled h).job j).spans && ((s.selfRuled h).job j).reducedHalf == some h)
        ⟨fcSplit, false, 8, 0, .split⟩
      else dropCross (s.selfRuled h) h := rfl
  rw [hstep, captain_selfRuled, if_neg hcaptain]

theorem sidebandLoss_eq {s : State} {h : Fin 2} {a : Nat} (hbeat : (s.half h).beatAt = some a) :
    exec (.sidebandLoss h) s = .next (if s.passed a (30 * usec) = true then loseSideband s h else s) := by
  simp only [exec, execSidebandLoss, hbeat]

/-- While circuits join the halves the loss shows, and no more. -/
theorem sidebandLoss_shows {s : State} {h : Fin 2} {a : Nat} (hbeat : (s.half h).beatAt = some a) (hlate : s.passed a (30 * usec) = true)
    (hcut : s.cutOff = false) (hsplit : s.split = false) : Does (.sidebandLoss h) s fun t => t.on (sidebandFld h) 0 = false ∧
      (t.half h).sbLostAt = some ((s.half h).sbLostAt.getD s.now) ∧ t.fabric = s.fabric := by
  have hlose : loseSideband s h = s.sidebandDown h := by
    rw [loseSideband_eq, hcut, hsplit]
    rfl
  refine ⟨s.sidebandDown h, by rw [sidebandLoss_eq hbeat, if_pos hlate, hlose], on_sideband_wr .., ?_, rfl⟩
  rw [half_sidebandDown, if_pos rfl]

/-- A half cut off that is not captain rules itself and drops what it had to send of cross-half jobs. -/
theorem sidebandLoss_cutOff {s : State} {h : Fin 2} {a : Nat} (hbeat : (s.half h).beatAt = some a) (hlate : s.passed a (30 * usec) = true)
    (hcut : s.cutOff = true) (hon : s.halfOn h = true) (hcaptain : h.val ≠ s.captain) : Does (.sidebandLoss h) s fun t =>
      t.on (sidebandFld h) 0 = false ∧ (t.half h).selfRule = true ∧ t.on R.HALF_STAT_SELF_RULE 0 = true ∧
      ∀ x ∈ t.fabric, ∀ b, x.place = .bridge b → b / 8 = h.val → (s.job x.tok.job).spans = false := by
  have hlose : loseSideband s h = dropCross (s.selfRuled h) h := by
    rw [loseSideband_eq, hcut, hon, Bool.true_or, if_pos rfl, if_pos rfl, selfRule_drops hcaptain]
  have hdown : (s.selfRuled h).on (sidebandFld h) 0 = false := by
    rw [State.selfRuled, on_sideband_showSelfRule, on_putHalf]
    exact on_sideband_wr ..
  have hrule : ((s.selfRuled h).half h).selfRule = true := by rw [half_selfRuled, if_pos rfl]
  refine ⟨dropCross (s.selfRuled h) h, by rw [sidebandLoss_eq hbeat, if_pos hlate, hlose], ?_, ?_, ?_,
    fun x hx b hplace hb => ?_⟩
  · rw [on_dropCross, hdown]
  · rw [half_dropCross, hrule]
  · rw [on_dropCross, on_selfRule_selfRuled]
  · rw [← job_selfRuled s h, mem_dropCross hx hplace hb]

theorem sidebandLoss_early {s : State} {h : Fin 2} {a : Nat} (hbeat : (s.half h).beatAt = some a) (hsoon : s.passed a (30 * usec) = false) :
    Does (.sidebandLoss h) s fun t => t = s :=
  ⟨s, by rw [sidebandLoss_eq hbeat, if_neg (by simp [hsoon])], rfl⟩

theorem sidebandLoss_none {s : State} {h : Fin 2} (hbeat : (s.half h).beatAt = none) : Does (.sidebandLoss h) s fun t => t = s :=
  ⟨s, by simp only [exec, execSidebandLoss, hbeat], rfl⟩

/-! ### A split -/

theorem FaultFrame.ext {s t : State} (h : FaultFrame s t) (e : Nat) : t.ext e = s.ext e :=
  congrArg (spGet (fun _ => ExtPort.reset) · e) (show t.exts = s.exts by rw [h.frame])

theorem FaultKeeps.on {s t : State} (h : FaultKeeps s t) {f : Fld} {i : Nat} (hk : 0x300C0 ≤ f.key i 0) : t.on f i = s.on f i :=
  on_of_word (h.words _ (.inr hk))

/-- While both sidebands live, the split shows and strikes the jobs that span the halves, and no half rules itself. -/
theorem declareSplit_eq {s : State} (hwest : (s.half 0).sbLostAt = none) (heast : (s.half 1).sbLostAt = none) : declareSplit s =
    faultAll (s.wr R.HALF_STAT_SPLIT 0 1) (jobNums.filter fun j => (s.job j).spans) ⟨fcSplit, false, 8, 0, .split⟩ := by
  have hstep : declareSplit s =
      (faultAll (s.wr R.HALF_STAT_SPLIT 0 1) (jobNums.filter fun j => (s.job j).spans) ⟨fcSplit, false, 8, 0, .split⟩).each [0, 1]
        fun s h => if (s.half h).sbLostAt.isSome && s.halfOn h then selfRule s h else s := rfl
  have hkeeps := faultKeeps_faultAll (s.wr R.HALF_STAT_SPLIT 0 1) (jobNums.filter fun j => (s.job j).spans)
    ⟨fcSplit, false, 8, 0, .split⟩
  rw [hstep]
  generalize faultAll _ _ _ = t at hkeeps ⊢
  have hlive (n : Nat) (h : (s.half n).sbLostAt = none) : (t.half n).sbLostAt.isSome = false := by
    rw [hkeeps.half n]
    exact congrArg Option.isSome h
  simp only [each_cons, each_nil, hlive 0 hwest, hlive 1 heast, Bool.false_and, Bool.false_eq_true, if_false]

theorem halfSplit_declared {s : State} (hcut : s.cutOff = true) (hhealthy : s.halvesHealthy = true) (hsplit : s.split = false)
    (hwest : (s.half 0).sbLostAt = none) (heast : (s.half 1).sbLostAt = none) : Does (.halfSplit none) s fun t => t.split = true ∧
      ∀ j < 16, (s.job j).spans = true → (s.job j).live = true → (s.job j).restart = none → t.Struck j fcSplit := by
  refine ⟨declareSplit s, congrArg Host.Outcome.next (if_pos (by simp [hcut, hhealthy, hsplit])), ?_, fun j hj hspans hlive hrestart => ?_⟩
  · rw [declareSplit_eq hwest heast, State.split, (faultKeeps_faultAll ..).on (by decide)]
    exact on_wr_same _ _ _ _ (by decide)
  · rw [declareSplit_eq hwest heast]
    exact (faultJobs_strikes (s := s.wr R.HALF_STAT_SPLIT 0 1) (p := fun j => (s.job j).spans) _ hj hspans hlive hrestart).1

theorem halfSplit_idle {s : State} (h : s.cutOff = false ∨ s.halvesHealthy = false ∨ s.split = true) :
    Does (.halfSplit none) s fun t => t = s := by
  refine ⟨s, congrArg Host.Outcome.next (if_neg ?_), rfl⟩
  obtain h | h | h := h <;> simp [h]

theorem peerSplit_declared {s : State} {e : Fin 8} {a : Nat} (hon : s.on R.EXT_CFG_EN e = true) (hsplit : (s.ext e).split = false)
    (hdown : (s.ext e).downAt = some a) (hlate : s.passed a s.splitConfirm = true) : Does (.halfSplit (some e)) s fun t =>
      (t.ext e).split = true ∧ ∀ j < 16, e.val ∈ (s.job j).sec.extPorts → (s.job j).live = true → (s.job j).restart = none →
        t.Struck j fcSplit := by
  refine ⟨declarePeerSplit s e, congrArg Host.Outcome.next (if_pos (by simp [hon, hsplit, hdown, hlate])), ?_,
    fun j hj hport hlive hrestart =>
      (faultJobs_strikes (s := s.putExt e { s.ext e with split := true }) (p := fun j => (s.job j).sec.extPorts.contains e.val) _ hj
        (List.contains_iff_mem.2 hport) hlive hrestart).1⟩
  have hframe : FaultFrame (s.putExt e { s.ext e with split := true }) (declarePeerSplit s e) :=
    .each (fun _ _ => faultFrame_detectFault ..) _
  rw [hframe.ext, ext_putExt_same]

theorem peerSplit_idle {s : State} {e : Fin 8} (h : s.on R.EXT_CFG_EN e = false ∨ (s.ext e).split = true ∨ (s.ext e).downAt = none) :
    Does (.halfSplit (some e)) s fun t => t = s := by
  refine ⟨s, congrArg Host.Outcome.next (if_neg ?_), rfl⟩
  obtain h | h | h := h <;> simp [h]

/-! ### The return to the full form -/

/-- All a return to the full form can do: change the job's record, and fence it. -/
theorem returnFull_cases (s : State) (j : Nat) : ∃ v : Job, v.placed = (s.job j).placed ∧
    (returnFull s j = s.putJob j v ∨ returnFull s j = fence (s.putJob j v) j) := by
  unfold returnFull
  dsimp only
  split
  · rename_i r hr
    exact ⟨{ s.job j with heldFor := 0, restart := some { r with remedies := r.remedies ++ [.full] } }, rfl, .inl rfl⟩
  · split
    · exact ⟨{ s.job j with reduced := none, heldFor := 0 }, rfl, .inl rfl⟩
    · exact ⟨{ s.job j with restart := some ⟨fcSplit, false, 8, 0, s.tb, s.now, false, false, [.full], false⟩ }, rfl, .inr rfl⟩

theorem faultKeeps_returnFull (s : State) (j : Nat) : FaultKeeps s (returnFull s j) := by
  obtain ⟨v, hv, h | h⟩ := returnFull_cases s j
  · exact h ▸ faultKeeps_putJob s j hv
  · exact h ▸ (faultKeeps_putJob s j hv).trans (faultKeeps_fence ..)

theorem faultFrame_returnFull (s : State) (j : Nat) : FaultFrame s (returnFull s j) := by
  obtain ⟨v, -, h | h⟩ := returnFull_cases s j
  · exact h ▸ faultFrame_putJob ..
  · exact h ▸ (faultFrame_putJob s j v).trans (faultFrame_fence ..)

theorem job_returnFull_ne (s : State) {i j : Nat} (hij : j ≠ i) : (returnFull s i).job j = s.job j := by
  obtain ⟨v, -, h | h⟩ := returnFull_cases s i
  · rw [h, job_putJob, if_neg hij]
  · obtain ⟨w, hjob⟩ := fence_job (s.putJob i v) i
    rw [h, hjob, if_neg hij, job_putJob, if_neg hij]

/-- The job is fenced, in a restart that is to put it on its full form (R187). -/
def Job.returning (job : Job) : Prop := job.fenced = true ∧ job.restart.map Restart.remedies = some [.full]

/-- A running job returns to its full form by a restart. -/
theorem returnFull_live {s : State} {j : Nat} (hlive : (s.job j).live = true) (hrestart : (s.job j).restart = none) :
    ((returnFull s j).job j).returning := by
  let v : Job := { s.job j with restart := some ⟨fcSplit, false, 8, 0, s.tb, s.now, false, false, [.full], false⟩ }
  have heq : returnFull s j = fence (s.putJob j v) j := by
    simp only [returnFull, hrestart, Job.started_of_live hlive, Bool.not_true, Bool.false_eq_true, if_false, v]
  obtain ⟨w, hjob⟩ := fence_job (s.putJob j v) j
  rw [heq, hjob, if_pos rfl, job_putJob_same]
  exact ⟨rfl, rfl⟩

/-- What an update of one member of a list makes of a part that the other members' updates leave, the whole list makes of it. -/
theorem each_at {α β : Type} (g : State → β) {l : List α} {f : State → α → State} {a : α} (ha : a ∈ l) (hnodup : l.Nodup)
    (hother : ∀ s, ∀ b ∈ l, b ≠ a → g (f s b) = g s) (s : State) : ∃ u, g u = g s ∧ g (s.each l f) = g (f u a) := by
  obtain ⟨p, q, rfl⟩ := List.append_of_mem ha
  have hp : a ∉ p := fun h => (List.nodup_append.1 hnodup).2.2 a h a List.mem_cons_self rfl
  have hq : a ∉ q := (List.nodup_cons.1 (List.nodup_append.1 hnodup).2.1).1
  have hkeep (r : List α) (hr : a ∉ r) (hsub : ∀ b ∈ r, b ∈ p ++ a :: q) (s : State) : g (s.each r f) = g s :=
    each_inv_of_mem (fun t => g t = g s) r f s (fun t b hb ht => (hother t b (hsub b hb) fun h => hr (h ▸ hb)).trans ht) rfl
  refine ⟨s.each p f, hkeep p hp (fun b hb => List.mem_append_left _ hb) s, ?_⟩
  rw [show s.each (p ++ a :: q) f = (f (s.each p f) a).each q f by simp only [State.each, List.foldl_append, List.foldl_cons]]
  exact hkeep q hq (fun b hb => List.mem_append_right _ (List.mem_cons_of_mem a hb)) _

/-- Of several jobs that return, each that runs does so by a restart. -/
theorem returns_live {s : State} {p : Nat → Bool} {j : Nat} (hj : j < 16) (hp : p j = true) (hlive : (s.job j).live = true)
    (hrestart : (s.job j).restart = none) : ((s.each (jobNums.filter p) returnFull).job j).returning := by
  obtain ⟨u, hu, hall⟩ := each_at (State.job · j) (List.mem_filter.2 ⟨List.mem_range.2 hj, hp⟩) (List.nodup_range.filter p)
    (fun s i _ hi => job_returnFull_ne s hi.symm) s
  rw [show (s.each (jobNums.filter p) returnFull).job j = (returnFull u j).job j from hall]
  exact returnFull_live (by rwa [show u.job j = s.job j from hu]) (by rwa [show u.job j = s.job j from hu])

/-! ### The end of a split -/

/-- The split is over, and no half rules itself. -/
def State.splitOver (s : State) : State :=
  showSelfRule ((s.wr R.HALF_STAT_SPLIT 0 0).each [0, 1] fun s h => s.putHalf h { s.half h with selfRule := false })

theorem splitOver_split (s : State) : s.splitOver.split = false :=
  (on_wr_ne _ R.HALF_STAT_SELF_RULE R.HALF_STAT_SPLIT 0 0 _ (.inr (by decide))).trans (on_wr_same s R.HALF_STAT_SPLIT 0 0 (by decide))

theorem splitOver_selfRule (s : State) : s.splitOver.on R.HALF_STAT_SELF_RULE 0 = false := by
  rw [State.splitOver, on_selfRule_showSelfRule]
  simp only [each_cons, each_nil, half_putHalf]
  rfl

theorem splitEnd_ends {s : State} {a : Nat} (hset : s.split = true ∨ ∃ j < 16, s.returnsFull j = true) (hup : s.returnAt = some a)
    (hlate : s.passed a s.returnStable = true) : Does (.splitEnd none) s fun t => t.split = false ∧
      t.on R.HALF_STAT_SELF_RULE 0 = false ∧ ∀ j < 16, (s.job j).spans = true → (s.job j).setAside = true →
        (s.job j).live = true → (s.job j).restart = none → (t.job j).returning := by
  have hcond : ((s.split || jobNums.any s.returnsFull) && ((s.returnAt.map fun t => s.passed t s.returnStable).getD false)) = true := by
    simp only [hup, Option.map_some, Option.getD_some, hlate, Bool.and_true, Bool.or_eq_true, List.any_eq_true]
    exact hset.imp id fun ⟨j, hj, hreturns⟩ => ⟨j, List.mem_range.2 hj, hreturns⟩
  have hkeeps : FaultKeeps s.splitOver (s.splitOver.each (jobNums.filter s.returnsFull) returnFull) :=
    each_inv (FaultKeeps s.splitOver) _ _ _ (fun t i ht => ht.trans (faultKeeps_returnFull t i)) (.refl _)
  refine ⟨_, congrArg Host.Outcome.next (if_pos hcond), ?_, ?_, fun j hj hspans haside hlive hrestart => ?_⟩
  · exact (hkeeps.on (by decide)).trans (splitOver_split s)
  · exact (hkeeps.on (by decide)).trans (splitOver_selfRule s)
  · exact returns_live (s := s.splitOver) hj (by simp [State.returnsFull, hspans, haside]) hlive hrestart

theorem splitEnd_idle {s : State} (h : (s.split = false ∧ ∀ j < 16, s.returnsFull j = false) ∨ s.returnAt = none) :
    Does (.splitEnd none) s fun t => t = s := by
  refine ⟨s, congrArg Host.Outcome.next (if_neg ?_), rfl⟩
  obtain ⟨hsplit, hnone⟩ | hup := h
  · have hany : jobNums.any s.returnsFull = false := List.any_eq_false.2 fun j hj => by simp [hnone j (List.mem_range.1 hj)]
    simp [hsplit, hany]
  · simp [hup]

theorem peerSplitEnd_ends {s : State} {e : Fin 8} {a : Nat} (hsplit : (s.ext e).split = true) (hup : (s.ext e).upAt = some a)
    (hlate : s.passed a s.returnStable = true) : Does (.splitEnd (some e)) s fun t => (t.ext e).split = false := by
  refine ⟨_, congrArg Host.Outcome.next (if_pos (by simp [hsplit, hup, hlate])), ?_⟩
  exact congrArg ExtPort.split ((FaultFrame.ext (.each faultFrame_returnFull _) e).trans (ext_putExt_same ..))

theorem peerSplitEnd_idle {s : State} {e : Fin 8} (h : (s.ext e).split = false ∨ (s.ext e).upAt = none) :
    Does (.splitEnd (some e)) s fun t => t = s := by
  refine ⟨s, congrArg Host.Outcome.next (if_neg ?_), rfl⟩
  obtain h | h := h <;> simp [h]

/-! ### OPT_CAPTAIN_SET -/

theorem optCaptainSet_eq {s : State} {m : Fin 16} (h : s.begins m 0x0405 true true true = true) : exec (.optCaptainSet m) s =
    .next (if s.reducedDeclared then ((s.running m).wr R.HALF_STAT_CAPTAIN_REJ 0 1).respond m .inUse 0 []
      else ((s.running m).wr R.HALF_CFG_CAPTAIN 0 (s.req m 8 1)).respond m .ok 0 []) := by
  simp only [exec, execOptCaptainSet, peade_begins 0 _ h, req_running]
  rfl

theorem optCaptainSet_refused {s : State} {m : Fin 16} (h : s.begins m 0x0405 true true true = true) (hred : s.reducedDeclared = true) :
    Does (.optCaptainSet m) s fun t => t.on R.HALF_STAT_CAPTAIN_REJ 0 = true ∧ t.Answers m .inUse [] ∧
      t.rd R.HALF_CFG_CAPTAIN 0 = s.rd R.HALF_CFG_CAPTAIN 0 := by
  have hkey : R.HALF_STAT_CAPTAIN_REJ.key 0 0 = 0x41414 ∧ R.HALF_CFG_CAPTAIN.key 0 0 = 0x41410 := by decide
  refine ⟨((s.running m).wr R.HALF_STAT_CAPTAIN_REJ 0 1).respond m .inUse 0 [], by rw [optCaptainSet_eq h, if_pos hred], ?_,
    respond_answers .., ?_⟩
  · rw [State.on, respond_rd_ne _ _ _ _ _ _ _ (by omega) (fun w hw => by omega), rd_wr_same _ _ _ _ (by decide)]
    rfl
  · rw [respond_rd_ne _ _ _ _ _ _ _ (by omega) (fun w hw => by omega), rd_wr_ne _ _ _ _ _ _ (.inl (by decide)), rd_running (by decide)]

theorem optCaptainSet_takes {s : State} {m : Fin 16} (h : s.begins m 0x0405 true true true = true) (hred : s.reducedDeclared = false) :
    Does (.optCaptainSet m) s fun t => t.rd R.HALF_CFG_CAPTAIN 0 = s.req m 8 1 ∧ t.Answers m .ok [] := by
  have hcmd : findCmd 0x0405 = some ⟨0x0405, some 1, [], [⟨8, 1, 0, 1⟩]⟩ := by decide +kernel
  have hparam : s.req m 8 1 ≤ 1 := begins_param h hcmd (p := ⟨8, 1, 0, 1⟩) (by decide)
  have hkey : R.HALF_CFG_CAPTAIN.key 0 0 = 0x41410 := by decide
  refine ⟨((s.running m).wr R.HALF_CFG_CAPTAIN 0 (s.req m 8 1)).respond m .ok 0 [], ?_, ?_, respond_answers ..⟩
  · rw [optCaptainSet_eq h, hred]
    rfl
  · rw [respond_rd_ne _ _ _ _ _ _ _ (by omega) (fun w hw => by omega), rd_wr_same _ _ _ _ (by decide)]
    exact Nat.mod_eq_of_lt (Nat.lt_succ_of_le hparam)

/-- Settles O48: a split strikes jobs as a fault does (`faultJobs_strikes`), its end returns each of them alone (`returns_live`), and what a
half does for itself stands beside them in HALF_STAT. -/
theorem splitsOfTheHalves : Obligations.SplitsOfTheHalves := by
  unfold Obligations.SplitsOfTheHalves
  intro s
  refine ⟨fun h => ⟨sidebandHeartbeat_shows, sidebandHeartbeat_off, fun a hbeat =>
      ⟨fun hlate => ⟨sidebandLoss_shows hbeat hlate, sidebandLoss_cutOff hbeat hlate⟩, sidebandLoss_early hbeat⟩, sidebandLoss_none⟩,
    halfSplit_declared, halfSplit_idle, fun a => splitEnd_ends, splitEnd_idle,
    fun e => ⟨fun a => peerSplit_declared, peerSplit_idle, fun a => peerSplitEnd_ends, peerSplitEnd_idle⟩,
    fun m h => ⟨optCaptainSet_refused h, optCaptainSet_takes h⟩⟩

end Sys2Proof.Machine
end

section
/-! PROOF. The family of 06_rings_lock_and_optical_links.md: rings and monitors (O46). -/

namespace Sys2Proof.Machine

/-! ### Rings and what shows them -/

theorem ring_putRing_same (s : State) (k i : Nat) (v : Ring) : (s.putRing k i v).ring k i = v := spGet_spSet_same ..

theorem ring_putRing_ne (s : State) (k : Nat) {i n : Nat} (v : Ring) (hi : i < 1584) (hn : n < 1584) (h : n ≠ i) :
    (s.putRing k i v).ring k n = s.ring k n := spGet_spSet_ne _ _ _ (by omega)

theorem ring_of_rings {s t : State} (h : t.rings = s.rings) (k i : Nat) : t.ring k i = s.ring k i :=
  congrArg (spGet (fun _ => Ring.reset) · (2048 * k + i % 2048)) h

theorem lane_of_lanes {s t : State} (h : t.lanes = s.lanes) (k l : Nat) : t.lane k l = s.lane k l :=
  congrArg (spGet (fun _ => Lane.idle) · (32 * k + l % 32)) h

theorem ring_showRings (s : State) (k k' i : Nat) : (showRings s k).ring k' i = s.ring k' i := rfl

/-- Couplers are switched without anything else of the ring. -/
theorem ring_coupleRing_same (s : State) (k i : Nat) (lane col : Bool) :
    ∃ a b, (coupleRing s k i lane col).ring k i = { s.ring k i with laneSide := a, colSide := b } := by
  unfold coupleRing
  split
  · exact ⟨_, _, rfl⟩
  · exact ⟨_, _, ring_putRing_same ..⟩

theorem ring_coupleRing_ne (s : State) (k : Nat) {i n : Nat} (lane col : Bool) (hi : i < 1584) (hn : n < 1584) (h : n ≠ i) :
    (coupleRing s k i lane col).ring k n = s.ring k n := by
  unfold coupleRing
  split
  · rfl
  · exact ring_putRing_ne _ _ _ hi hn h

/-- A field that NOT_LOCKED of no chiplet shares a bit with (R193). -/
def Fld.besideCounts (f : Fld) (i : Nat) : Prop :=
  f.key i 0 < 0x41000 ∨ 0x41400 ≤ f.key i 0 ∨ f.key i 0 % 0x100 ≠ 0 ∨ f.lo + f.w ≤ 4

/-- State `t` is state `s` but for its rings and for NOT_LOCKED of the chiplets. -/
structure RingsNoted (s t : State) : Prop where
  frame : t = { s with rings := t.rings, regs := t.regs }
  rd : ∀ f i, f.besideCounts i → t.rd f i = s.rd f i

namespace RingsNoted
variable {s t u : State}

theorem refl (s : State) : RingsNoted s s := ⟨rfl, fun _ _ _ => rfl⟩

theorem trans (h : RingsNoted s t) (h' : RingsNoted t u) : RingsNoted s u where
  frame := by rw [h'.frame, h.frame]
  rd f i hf := (h'.rd f i hf).trans (h.rd f i hf)

theorem each {α : Type} {l : List α} {f : State → α → State} (hf : ∀ s a, RingsNoted s (f s a)) (s : State) : RingsNoted s (s.each l f) :=
  each_inv (RingsNoted s) l f s (fun t a ht => ht.trans (hf t a)) (.refl s)

theorem ite {c : Prop} [Decidable c] {a b : State} (ha : RingsNoted s a) (hb : RingsNoted s b) : RingsNoted s (if c then a else b) := by
  split <;> assumption

theorem on (h : RingsNoted s t) {f : Fld} {i : Nat} (hf : f.besideCounts i) : t.on f i = s.on f i := congrArg (· != 0) (h.rd f i hf)

theorem putRing (s : State) (k i : Nat) (v : Ring) : RingsNoted s (s.putRing k i v) := ⟨rfl, fun _ _ _ => rfl⟩

theorem lanes (h : RingsNoted s t) : t.lanes = s.lanes := by rw [h.frame]

theorem loadWait (h : RingsNoted s t) : t.loadWait = s.loadWait := by rw [h.frame]

theorem tuneRing (s : State) (k i a st : Nat) : RingsNoted s (tuneRing s k i a st) := putRing ..

theorem coupleRing (s : State) (k i : Nat) (lane col : Bool) : RingsNoted s (coupleRing s k i lane col) := .ite (.refl s) (putRing ..)

theorem showRings (s : State) (k : Nat) : RingsNoted s (showRings s k) := by
  refine ⟨rfl, fun f i hf => rd_wr_ne _ _ _ _ _ _ ?_⟩
  have hkey : R.RING_STAT_NOT_LOCKED.key k 0 = 0x41000 + 0x100 * (k % 4) := by simp [R.RING_STAT_NOT_LOCKED, Fld.key]
  have hlo : R.RING_STAT_NOT_LOCKED.lo = 4 := rfl
  unfold Fld.besideCounts at hf
  omega

end RingsNoted

/-- The phase of the search of a chiplet shows beside the counts. -/
theorem phase_beside (k : Nat) : R.RING_STAT_PHASE.besideCounts k := .inr (.inr (.inr (by decide)))

/-- An event bit of a chiplet's RING_EVT. -/
def Fld.ringEvt (f : Fld) : Bool :=
  f.per == 0 && f.n1 == 4 && f.s1 == 0x100 && f.base == 0x41004 && decide (8 ≤ f.lo ∧ 0 < f.w ∧ f.lo + f.w ≤ 32)

theorem ringEvt_key {f : Fld} (h : f.ringEvt = true) (k : Nat) : f.key k 0 = 0x41004 + 0x100 * (k % 4) := by
  simp only [Fld.ringEvt, Bool.and_eq_true, beq_iff_eq] at h
  obtain ⟨⟨⟨⟨hper, hn1⟩, hs1⟩, hbase⟩, -⟩ := h
  simp [Fld.key, hper, hn1, hs1, hbase]

theorem ringEvt_beside {f : Fld} (h : f.ringEvt = true) (k : Nat) : f.besideCounts k := by
  have hkey := ringEvt_key h k
  unfold Fld.besideCounts
  omega

theorem raise_ringEvt (s : State) {f : Fld} (h : f.ringEvt = true) (k : Nat) : (s.raise f k).on f k = true := by
  have hkey := ringEvt_key h k
  simp only [Fld.ringEvt, Bool.and_eq_true, decide_eq_true_eq] at h
  obtain ⟨-, hlo, hw, hhi⟩ := h
  exact raise_on_same s f k (by omega) hlo hw hhi

theorem RING_STAT_PHASE_key (k : Nat) : R.RING_STAT_PHASE.key k 0 = 0x41000 + 0x100 * (k % 4) := by simp [R.RING_STAT_PHASE, Fld.key]

/-- An event of the rings leaves the phase of the search. -/
theorem phase_raise (s : State) {f : Fld} (h : f.ringEvt = true) (i k : Nat) : (s.raise f i).rd R.RING_STAT_PHASE k = s.rd R.RING_STAT_PHASE k := by
  have hkey := ringEvt_key h i
  have hphase := RING_STAT_PHASE_key k
  exact raise_rd_ne _ _ _ _ _ (by omega) (by omega)

/-! ### Sweeps begin -/

theorem phaseRings_lt {p i : Nat} (h : i ∈ phaseRings p) : i < 1584 := by
  unfold phaseRings at h
  split at h <;> simp at h <;> omega

theorem ringsNoted_startSweeps (s : State) (k : Nat) : RingsNoted s (startSweeps s k) :=
  (RingsNoted.each (fun _ _ => (RingsNoted.putRing ..).trans (.coupleRing ..)) s).trans (.showRings ..)

/-- A ring whose search has begun is not swept anew. -/
theorem startSweeps_ring {s : State} {k i : Nat} (hi : i < 1584) (hst : (s.ring k i).st ≠ 0) : (startSweeps s k).ring k i = s.ring k i := by
  refine each_inv_of_mem (fun t => t.ring k i = s.ring k i) _ _ s (fun t n hn ht => ?_) rfl
  obtain ⟨hphase, hready⟩ := List.mem_filter.1 (List.mem_of_mem_take hn)
  have hne : i ≠ n := by
    rintro rfl
    simp only [State.sweepReady, Bool.and_eq_true, beq_iff_eq] at hready
    exact hst hready.1
  have hlt := phaseRings_lt hphase
  exact (ring_coupleRing_ne _ _ _ _ hlt hi hne).trans ((ring_putRing_ne _ _ _ hlt hi hne).trans ht)

theorem searchOn_sweeps {s : State} {k n : Nat} (hn : n ∈ phaseRings (s.ringWork k).phase) (hnot : (s.ring k n).found = false) :
    searchOn s k = startSweeps s k := by
  have hleft : (phaseRings (s.ringWork k).phase).any (fun i => !(s.ring k i).found) = true := List.any_eq_true.2 ⟨n, hn, by simp [hnot]⟩
  exact if_pos (by rw [hleft]; rfl)

/-- The search of chiplet `k` has begun (R160). -/
def State.searchBegun (s : State) (k : Nat) : State :=
  startSweeps (putRingWork (s.wr R.RING_STAT_PHASE k 1) k { (s.wr R.RING_STAT_PHASE k 1).ringWork k with phase := 1 }) k

theorem phase_searchBegun_same (s : State) (k : Nat) : (s.searchBegun k).rd R.RING_STAT_PHASE k = 1 :=
  ((ringsNoted_startSweeps ..).rd _ _ (phase_beside k)).trans (rd_wr_same s R.RING_STAT_PHASE k 1 (by decide))

theorem rd_searchBegun (s : State) (k : Nat) {f : Fld} {i : Nat} (hf : f.besideCounts i) (hkey : f.key i 0 ≠ R.RING_STAT_PHASE.key k 0) :
    (s.searchBegun k).rd f i = s.rd f i :=
  ((ringsNoted_startSweeps ..).rd _ _ hf).trans (rd_wr_ne s _ _ _ _ _ (.inl hkey))

theorem halfOn_searchBegun (s : State) (k h : Nat) : (s.searchBegun k).halfOn h = s.halfOn h := by
  have hphase := RING_STAT_PHASE_key k
  have hpwr : R.PWR_STAT_WEST_ON.key 0 0 = 0x71000 ∧ R.PWR_STAT_EAST_ON.key 0 0 = 0x71000 := by decide
  unfold State.halfOn State.on
  rw [rd_searchBegun s k (.inr (.inl (by omega))) (by omega), rd_searchBegun s k (.inr (.inl (by omega))) (by omega)]

/-- The search of chiplet `k` begins when it is switched on and has not begun it. -/
def State.searchStep (s : State) (k : Nat) : State :=
  if s.rd R.RING_STAT_PHASE k = 0 ∧ s.halfOn (halfOfChip k) = true then s.searchBegun k else s

/-- What the step of chiplet `k` goes by. -/
def State.searchGate (s : State) (k : Nat) : Nat × Bool := (s.rd R.RING_STAT_PHASE k, s.halfOn (halfOfChip k))

theorem searchGate_searchStep_ne (s : State) {i k : Nat} (hi : i < 4) (hk : k < 4) (hne : i ≠ k) :
    (s.searchStep i).searchGate k = s.searchGate k := by
  unfold State.searchStep
  split
  · refine Prod.ext (rd_searchBegun s i (phase_beside k) ?_) (halfOn_searchBegun ..)
    rw [RING_STAT_PHASE_key, RING_STAT_PHASE_key]
    omega
  · rfl

theorem phase_searchStep (s : State) (k : Nat) : (s.searchStep k).rd R.RING_STAT_PHASE k =
    if s.rd R.RING_STAT_PHASE k = 0 ∧ s.halfOn (halfOfChip k) = true then 1 else s.rd R.RING_STAT_PHASE k := by
  unfold State.searchStep
  split
  · exact phase_searchBegun_same s k
  · rfl

/-- Ring search begins on the chiplets that are switched on and have not begun it. -/
theorem ringSearchStart_begins {s : State} (hlight : s.lightAndClock = true) : Does .ringSearchStart s fun t => ∀ k < 4,
    t.rd R.RING_STAT_PHASE k =
      (if s.rd R.RING_STAT_PHASE k = 0 ∧ s.halfOn (halfOfChip k) = true then 1 else s.rd R.RING_STAT_PHASE k) := by
  refine ⟨_, congrArg Host.Outcome.next (if_pos hlight), fun k hk => ?_⟩
  obtain ⟨u, hu, hall⟩ := each_at (State.searchGate · k) (List.mem_range.2 hk) List.nodup_range
    (fun t i hi hne => searchGate_searchStep_ne t (List.mem_range.1 hi) hk hne) s
  obtain ⟨hphase, hon⟩ := Prod.mk.inj hu
  rw [← hphase, ← hon]
  exact (Prod.mk.inj hall).1.trans (phase_searchStep u k)

theorem ringSearchStart_dark {s : State} (hdark : s.lightAndClock = false) : Does .ringSearchStart s fun t => t = s :=
  ⟨s, congrArg Host.Outcome.next (if_neg (by simp [hdark])), rfl⟩

/-! ### The failure of a lane or switch ring -/

/-- The circuit of lane ring or switch ring `i` is not up. -/
def State.ringIdle (s : State) (k i : Nat) : Prop := ∀ l c, laneOfRing i = some (l, c) → (s.lane k l).st ≠ lnUp

/-- A lane or switch ring without a circuit takes nothing with it. -/
theorem ringTakesChip_idle {s : State} {k i : Nat} (hlink : 1040 ≤ i) (h : s.ringIdle k i) : ringTakesChip s k i = s := by
  have hdown : ringCircuitDown s k i = s := by
    unfold ringCircuitDown
    split
    · rfl
    · rename_i l c hlane
      exact if_neg fun hup => h l c hlane hup.1
  unfold ringTakesChip
  rw [if_neg (show ¬ i < 16 by omega)]
  dsimp only
  rw [if_neg (show ¬ i < 1040 by omega), hdown]

/-- What the failure of a lane or switch ring without a circuit does: the ring fails, the event shows, and the rest of the search stands. -/
theorem failRing_idle {s : State} {k i : Nat} (hlink : 1040 ≤ i) (hi : i < 1584) (h : s.ringIdle k i) :
    ((failRing s k i).ring k i).st = rgFailed ∧ (failRing s k i).on R.RING_EVT_SEARCH_FAIL k = true ∧
      (∀ n < 1584, n ≠ i → (failRing s k i).ring k n = s.ring k n) ∧ (failRing s k i).ringWork k = s.ringWork k := by
  let v : Ring := { s.ring k i with st := rgFailed, frozen := none, confirm := false }
  let t := (s.putRing k i v).raise R.RING_EVT_SEARCH_FAIL k
  have hrings (n : Nat) : t.ring k n = (s.putRing k i v).ring k n := ring_of_rings (raise_rings ..) ..
  have hevt : t.on R.RING_EVT_SEARCH_FAIL k = true := raise_ringEvt _ (by decide) k
  have hwork : t.ringWork k = s.ringWork k := congrArg (spGet (fun _ => FeedFwd.reset) · k) (raise_feedFwd ..)
  have htakes : ringTakesChip t k i = t := ringTakesChip_idle hlink fun l c hlane =>
    (congrArg Lane.st (lane_of_lanes (raise_lanes ..) k l)).trans_ne (h l c hlane)
  obtain ⟨L, hL⟩ : ∃ L, failRing s k i = showRings (t.setLanes L) k := by
    unfold failRing
    dsimp only
    rw [show ringTakesChip ((s.putRing k i _).raise R.RING_EVT_SEARCH_FAIL k) k i = t from htakes, if_neg (show ¬ i < 1040 by omega)]
    split
    · exact ⟨_, rfl⟩
    · exact ⟨t.lanes, rfl⟩
  clear_value t
  rw [hL]
  refine ⟨congrArg Ring.st ((hrings i).trans (ring_putRing_same ..)), ?_,
    fun n hn hne => (hrings n).trans (ring_putRing_ne _ _ _ hi hn hne), hwork⟩
  exact ((RingsNoted.showRings ..).on (ringEvt_beside (by decide) k)).trans hevt

/-! ### Sweeps end -/

/-- The slot ring `i` is searched for. -/
def Ring.target (r : Ring) (i : Nat) : Nat := if r.assign = 17 then ringTarget i else r.assign

/-- A ring that has been found: with the code `c` for slot `a`, parked or locked, and to be confirmed. -/
def Ring.assigned (r : Ring) (a c : Nat) (parks : Bool) : Ring :=
  { r with
    assign := a, st := if parks then rgParked else rgLocked, heater := if parks then moveCode c a 16 else c, home := c, frozen := none,
    sweeps := 0, fails := 0, toneOk := false, lockLevel := none, confirm := true }

section
variable {s : State} {k i : Nat} {pk : List Nat} {lo hi : Nat}

theorem sweepDone_found {c : Nat} (hcode : searchCode pk (ringPattern i) ((s.ring k i).target i) lo hi = some c) :
    RingsNoted s (sweepDone s k i pk lo hi) ∧
      ∃ r : Ring, (sweepDone s k i pk lo hi).ring k i =
        r.assigned ((s.ring k i).target i) c ((s.ring k i).target i == 16 || s.rd R.RING_STAT_PHASE k == 1) := by
  generalize hparks : ((s.ring k i).target i == 16 || s.rd R.RING_STAT_PHASE k == 1) = parks
  let u := coupleRing s k i (!parks) false
  have heq : sweepDone s k i pk lo hi = showRings (u.putRing k i ((u.ring k i).assigned ((s.ring k i).target i) c parks)) k := by
    unfold Ring.target at hcode hparks
    simp only [sweepDone, hcode, hparks]
    rfl
  rw [heq]
  exact ⟨((RingsNoted.coupleRing ..).trans (.putRing ..)).trans (.showRings ..), u.ring k i, ring_putRing_same ..⟩

/-- The other rings a sweep leaves. -/
theorem sweepDone_found_ne {c n : Nat} (hcode : searchCode pk (ringPattern i) ((s.ring k i).target i) lo hi = some c) (hi' : i < 1584)
    (hn : n < 1584) (hne : n ≠ i) : (sweepDone s k i pk lo hi).ring k n = s.ring k n := by
  unfold Ring.target at hcode
  simp only [sweepDone, hcode]
  exact (ring_putRing_ne _ _ _ hi' hn hne).trans (ring_coupleRing_ne _ _ _ _ hi' hn hne)

theorem sweepDone_again (hcode : searchCode pk (ringPattern i) ((s.ring k i).target i) lo hi = none) (hst : (s.ring k i).st = rgSearching)
    (hsweeps : (s.ring k i).sweeps = 0) : sweepDone s k i pk lo hi = s.putRing k i { s.ring k i with st := rgSearching, sweeps := 1 } := by
  unfold Ring.target at hcode
  simp only [sweepDone, hcode, hsweeps, if_true, hst]
  rfl

theorem sweepDone_fails (hcode : searchCode pk (ringPattern i) ((s.ring k i).target i) lo hi = none) (hsweeps : (s.ring k i).sweeps ≠ 0) :
    sweepDone s k i pk lo hi = failRing s k i := by
  unfold Ring.target at hcode
  simp only [sweepDone, hcode, hsweeps, if_false]

end

/-! ### Sweeps of the search -/

section
variable {s : State} {k : Fin 4} {i : Fin 1584} {pk : List Nat}

theorem ringSweepDone_idle (h : s.rd R.RING_STAT_PHASE k ≠ 1 ∨ (s.ring k i).st ≠ rgSearching) :
    Does (.ringSweepDone k i pk) s fun t => t = s :=
  ⟨s, congrArg Host.Outcome.next (if_neg (by tauto)), rfl⟩

section
variable (hphase : s.rd R.RING_STAT_PHASE k = 1) (hst : (s.ring k i).st = rgSearching)
include hphase hst

theorem ringSweepDone_eq : exec (.ringSweepDone k i pk) s = .next (searchOn (sweepDone s k i pk 0 65535) k) :=
  congrArg Host.Outcome.next (if_pos ⟨hphase, hst⟩)

variable (hleft : ∃ n ∈ phaseRings (s.ringWork k).phase, n ≠ i.val ∧ (s.ring k n).found = false)
include hleft

/-- While another ring of the phase is not found, the search goes on with the sweeps that may begin now. -/
theorem ringSweepDone_sweeps (hring : ∀ n < 1584, n ≠ i.val → (sweepDone s k i pk 0 65535).ring k n = s.ring k n)
    (hwork : (sweepDone s k i pk 0 65535).ringWork k = s.ringWork k) :
    exec (.ringSweepDone k i pk) s = .next (startSweeps (sweepDone s k i pk 0 65535) k) := by
  obtain ⟨n, hn, hne, hnot⟩ := hleft
  rw [ringSweepDone_eq hphase hst, searchOn_sweeps (by rwa [hwork]) (by rwa [hring n (phaseRings_lt hn) hne])]

theorem ringSweepDone_found {c : Nat} (hcode : searchCode pk (ringPattern i) ((s.ring k i).target i) 0 65535 = some c) :
    Does (.ringSweepDone k i pk) s fun t =>
      (t.ring k i).home = c ∧ (t.ring k i).heater = moveCode c ((s.ring k i).target i) 16 ∧
        (t.ring k i).assign = (s.ring k i).target i ∧ (t.ring k i).st = rgParked := by
  obtain ⟨hnoted, r, hr⟩ := sweepDone_found (lo := 0) (hi := 65535) hcode
  rw [hphase, beq_self_eq_true, Bool.or_true] at hr
  have hkept : (startSweeps (sweepDone s k i pk 0 65535) k).ring k i = r.assigned ((s.ring k i).target i) c true :=
    (startSweeps_ring i.isLt (by rw [hr]; exact Nat.succ_ne_zero _)).trans hr
  refine ⟨_, ringSweepDone_sweeps hphase hst hleft (fun n hn hne => sweepDone_found_ne hcode i.isLt hn hne) ?_, ?_⟩
  · rw [State.ringWork, hnoted.frame, State.ringWork]
  · beta_reduce
    rw [hkept]
    exact ⟨rfl, rfl, rfl, rfl⟩

theorem ringSweepDone_again (hcode : searchCode pk (ringPattern i) ((s.ring k i).target i) 0 65535 = none) (hsweeps : (s.ring k i).sweeps = 0) :
    Does (.ringSweepDone k i pk) s fun t => (t.ring k i).st = rgSearching ∧ (t.ring k i).sweeps = 1 := by
  have heq := sweepDone_again hcode hst hsweeps
  have hr : (sweepDone s k i pk 0 65535).ring k i = { s.ring k i with st := rgSearching, sweeps := 1 } := by rw [heq, ring_putRing_same]
  refine ⟨_, ringSweepDone_sweeps hphase hst hleft (fun n hn hne => ?_) (by rw [heq]; rfl), ?_⟩
  · rw [heq, ring_putRing_ne _ _ _ i.isLt hn hne]
  · beta_reduce
    rw [startSweeps_ring i.isLt (by rw [hr]; exact Nat.succ_ne_zero _), hr]
    exact ⟨rfl, rfl⟩

theorem ringSweepDone_fails (hcode : searchCode pk (ringPattern i) ((s.ring k i).target i) 0 65535 = none) (hsweeps : (s.ring k i).sweeps ≠ 0)
    (hlink : 1040 ≤ i.val) (hidle : s.ringIdle k i) : Does (.ringSweepDone k i pk) s fun t =>
      (t.ring k i).st = rgFailed ∧ t.on R.RING_EVT_SEARCH_FAIL k = true := by
  have heq := sweepDone_fails hcode hsweeps
  obtain ⟨hfailed, hevt, hring, hwork⟩ := failRing_idle hlink i.isLt hidle
  refine ⟨_, ringSweepDone_sweeps hphase hst hleft (fun n hn hne => by rw [heq, hring n hn hne]) (by rw [heq, hwork]), ?_, ?_⟩
  · rw [startSweeps_ring i.isLt (by rw [heq, hfailed]; decide), heq, hfailed]
  · rw [(ringsNoted_startSweeps ..).on (ringEvt_beside (by decide) k), heq, hevt]

end

/-! ### Darkness -/

theorem ringDark_freezes (hst : (s.ring k i).st = rgLocked) (hfrozen : (s.ring k i).frozen = none) : Does (.ringDark k i) s fun t =>
    (t.ring k i).frozen = some s.now ∧ t = s.setRings t.rings :=
  ⟨_, congrArg Host.Outcome.next (if_pos ⟨hst, by rw [hfrozen]; rfl⟩), congrArg Ring.frozen (ring_putRing_same ..), rfl⟩

theorem ringDark_idle (h : (s.ring k i).st ≠ rgLocked ∨ (s.ring k i).frozen ≠ none) : Does (.ringDark k i) s fun t => t = s :=
  ⟨s, congrArg Host.Outcome.next (if_neg fun hd => h.elim (· hd.1) (· (Option.isNone_iff_eq_none.1 hd.2))), rfl⟩

/-- The retraining of a circuit is of its lanes. -/
theorem retrain_rings (s : State) (k i : Nat) : (retrain s k i).rings = s.rings := by
  have hends (s : State) (es : List (Nat × Nat)) (st : Nat) : (setEnds s es st).rings = s.rings :=
    each_keeps State.rings _ _ s fun s e => by
      dsimp only
      split <;> rfl
  have hback (s : State) (es : List (Nat × Nat)) (v : State → Nat × Nat → Lane) :
      (s.each es fun s e => s.putLane e.1 e.2 (v s e)).rings = s.rings :=
    each_keeps State.rings _ _ s fun _ _ => rfl
  unfold retrain
  split
  · dsimp only
    split
    · exact (hback _ _ _).trans (hends ..)
    · rfl
  · rfl

theorem ringLightReturn_resumes {a : Nat} (hfrozen : (s.ring k i).frozen = some a) (hst : (s.ring k i).st = rgLocked)
    (hsoon : s.passed a (10 * msec) = false) : Does (.ringLightReturn k i) s fun t =>
      (t.ring k i).frozen = none ∧ (t.ring k i).heater = (s.ring k i).heater := by
  have hexec : exec (.ringLightReturn k i) s = .next (retrain (s.putRing k i { s.ring k i with frozen := none }) k i) := by
    simp only [exec, execRingLightReturn, hfrozen, hsoon, hst, Bool.not_false, beq_self_eq_true, Bool.and_self, if_true]
  refine ⟨_, hexec, ?_⟩
  beta_reduce
  rw [ring_of_rings (retrain_rings ..), ring_putRing_same]
  exact ⟨rfl, rfl⟩

theorem ringLightReturn_idle (hfrozen : (s.ring k i).frozen = none) : Does (.ringLightReturn k i) s fun t => t = s :=
  ⟨s, by simp only [exec, execRingLightReturn, hfrozen], rfl⟩

end

/-- An entry that the map does not read by default is listed. -/
theorem mem_of_spGet_ne {α : Type} {d : Nat → α} {m : Sparse α} {k : Nat} (h : spGet d m k ≠ d k) : (k, spGet d m k) ∈ m := by
  induction m with
  | nil => exact absurd rfl h
  | cons e m ih =>
    obtain ⟨q, v⟩ := e
    by_cases hk : k = q
    · simp [spGet, hk]
    · simp only [spGet, hk, if_false] at h ⊢
      exact List.mem_cons_of_mem _ (ih h)

/-- A frozen ring is listed. -/
theorem mem_rings_of_frozen {s : State} {k i : Nat} (h : (s.ring k i).frozen ≠ none) : (2048 * k + i % 2048, s.ring k i) ∈ s.rings :=
  mem_of_spGet_ne fun hreset => h (congrArg Ring.frozen hreset)

/-- What the update of one member of a list brings about and every update keeps, the whole list brings about. -/
theorem each_reaches {α : Type} {P : State → Prop} {l : List α} {f : State → α → State} {a : α} (ha : a ∈ l) (hset : ∀ s, P (f s a))
    (hkeep : ∀ s b, P s → P (f s b)) (s : State) : P (s.each l f) := by
  obtain ⟨p, q, rfl⟩ := List.append_of_mem ha
  rw [show s.each (p ++ a :: q) f = (f (s.each p f) a).each q f by simp only [State.each, List.foldl_append, List.foldl_cons]]
  exact each_inv P q f _ hkeep (hset _)

/-- The frozen rings of chiplet `k`, as they are listed. -/
def State.frozenRings (s : State) (k : Nat) : Sparse Ring := s.rings.filter fun e => e.1 / 2048 == k && e.2.frozen.isSome

/-- Ring `e` of chiplet `k` is to be searched again. -/
def State.searchAgain (s : State) (k : Nat) (e : Nat × Ring) : State :=
  coupleRing (s.putRing k (e.1 % 2048) { e.2 with st := rgSearching, sweeps := 0 }) k (e.1 % 2048) true false

theorem searchAgain_same (s : State) (k : Nat) {e : Nat × Ring} {i : Nat} (h : e.1 % 2048 = i) :
    ((s.searchAgain k e).ring k i).st = rgSearching := by
  obtain ⟨a, b, hr⟩ := ring_coupleRing_same (s.putRing k (e.1 % 2048) { e.2 with st := rgSearching, sweeps := 0 }) k (e.1 % 2048) true false
  rw [State.searchAgain, ← h, hr, ring_putRing_same]

/-- A ring that is searched stays so when another is searched again. -/
theorem searchAgain_keeps {s : State} {k i : Nat} (hi : i < 1584) (h : (s.ring k i).st = rgSearching) (e : Nat × Ring) :
    ((s.searchAgain k e).ring k i).st = rgSearching := by
  by_cases he : e.1 % 2048 = i
  · exact searchAgain_same s k he
  · have hput : (s.putRing k (e.1 % 2048) { e.2 with st := rgSearching, sweeps := 0 }).ring k i = s.ring k i :=
      spGet_spSet_ne _ _ _ (by omega)
    have hcouple : (s.searchAgain k e).ring k i = (s.putRing k (e.1 % 2048) { e.2 with st := rgSearching, sweeps := 0 }).ring k i := by
      unfold State.searchAgain coupleRing
      split
      · rfl
      · exact spGet_spSet_ne _ _ _ (by omega)
    rw [hcouple, hput, h]

theorem ringDarkTimeout_searches {s : State} {k : Fin 4}
    (hlate : ∃ i < 1584, ∃ x, (s.ring k i).frozen = some x ∧ s.passed x (10 * msec) = true) : Does (.ringDarkTimeout k) s fun t =>
      ∀ i < 1584, (s.ring k i).frozen ≠ none → (t.ring k i).st = rgSearching := by
  have hmem {i : Nat} (hi : i < 1584) (h : (s.ring k i).frozen ≠ none) : (2048 * k.val + i % 2048, s.ring k i) ∈ s.frozenRings k := by
    refine List.mem_filter.2 ⟨mem_rings_of_frozen h, ?_⟩
    rw [Bool.and_eq_true, beq_iff_eq]
    exact ⟨by dsimp only; omega, Option.isSome_iff_ne_none.2 h⟩
  obtain ⟨n, hn, x, hx, hpassed⟩ := hlate
  have hany : (s.frozenRings k).any (fun e => (e.2.frozen.map fun t => s.passed t (10 * msec)).getD false) = true :=
    List.any_eq_true.2 ⟨_, hmem hn (by simp [hx]), by simp [hx, hpassed]⟩
  refine ⟨showRings (s.each (s.frozenRings k) fun s e => s.searchAgain k e) k, congrArg Host.Outcome.next (if_pos hany), fun i hi h => ?_⟩
  exact each_reaches (P := fun t => (t.ring k i).st = rgSearching) (hmem hi h) (fun s => searchAgain_same s k (by dsimp only; omega))
    (fun s e ht => searchAgain_keeps hi ht e) s

theorem ringDarkTimeout_idle {s : State} {k : Fin 4} (h : ∀ e ∈ s.rings, e.1 / 2048 = k.val → e.2.frozen = none) :
    Does (.ringDarkTimeout k) s fun t => t = s := by
  have hnone : s.frozenRings k = [] := List.filter_eq_nil_iff.2 fun e he => by
    simp only [Bool.and_eq_true, beq_iff_eq, not_and]
    intro hk
    simp [h e he hk]
  refine ⟨s, congrArg Host.Outcome.next (if_neg ?_), rfl⟩
  rw [show s.rings.filter _ = s.frozenRings k from rfl, hnone]
  simp

end Sys2Proof.Machine
end

section
/-! PROOF. The family of 06_rings_lock_and_optical_links.md: tones, re-searches, the end of a search and the monitors (O46). -/

namespace Sys2Proof.Machine

/-! ### One ring in a tone window -/

/-- A ring's own tone reads below a quarter of its level at lock (R165). -/
def Ring.low (r : Ring) (t : ToneRead) : Bool := (r.lockLevel.map fun l => decide (4 * t.level < l)).getD false

/-- The ring that is judged is no longer to be checked. -/
def State.checked (s : State) (k i : Nat) : State :=
  putRingWork s k { s.ringWork k with toCheck := (s.ringWork k).toCheck.filter (· != i) }

section
variable {s : State} {k : Nat} {t : ToneRead}

theorem judgeTone_confirms (hst : (s.ring k t.ring).st = rgLocked) (hfrozen : (s.ring k t.ring).frozen = none)
    (htone : t.tone = (s.ring k t.ring).assign) (hlow : (s.ring k t.ring).low t = false) : judgeTone s k t =
      (s.checked k t.ring).putRing k t.ring { s.ring k t.ring with
        tone := t.tone, toneOk := true, fails := 0, confirm := false, lockLevel := some ((s.ring k t.ring).lockLevel.getD t.level) } := by
  unfold Ring.low at hlow
  simp only [judgeTone, hst, hfrozen, htone, hlow, Option.isNone_none, and_self, if_true]
  rfl

/-- A confirmation that fails the first or the second time moves a locked ring by the slots its tone is off (R162). -/
theorem confirmFails_moves {i tone : Nat} (hst : (s.ring k i).st = rgLocked) (hfails : (s.ring k i).fails < 2) : confirmFails s k i tone =
    s.putRing k i { s.ring k i with
      tone := tone, toneOk := false, fails := (s.ring k i).fails + 1, heater := moveCode (s.ring k i).heater tone (s.ring k i).assign } := by
  unfold confirmFails
  dsimp only
  rw [if_neg (Nat.not_le_of_lt hfails), if_pos hst]

/-- A tone that does not confirm its ring. -/
theorem not_confirmed {r : Ring} (hoff : t.tone ≠ r.assign ∨ r.low t = true) : ¬ (t.tone = r.assign ∧ r.low t = false) := by
  obtain h | h := hoff <;> simp [h]

theorem judgeTone_moves (hst : (s.ring k t.ring).st = rgLocked) (hfrozen : (s.ring k t.ring).frozen = none)
    (hoff : t.tone ≠ (s.ring k t.ring).assign ∨ (s.ring k t.ring).low t = true) (hconfirm : (s.ring k t.ring).confirm = true)
    (hfails : (s.ring k t.ring).fails < 2) : judgeTone s k t =
      (s.checked k t.ring).putRing k t.ring { s.ring k t.ring with
        tone := t.tone, toneOk := false, fails := (s.ring k t.ring).fails + 1,
        heater := moveCode (s.ring k t.ring).heater t.tone (s.ring k t.ring).assign } := by
  have hno := not_confirmed hoff
  unfold Ring.low at hno
  unfold judgeTone
  dsimp only
  rw [if_pos ⟨hst, Option.isNone_iff_eq_none.2 hfrozen⟩, if_neg hno, if_pos hconfirm]
  exact confirmFails_moves (s := s.checked k t.ring) hst hfails

/-- A parked ring that reads dark is confirmed. -/
theorem judgeTone_dark (hst : (s.ring k t.ring).st = rgParked) (hdark : t.dark = true) : judgeTone s k t =
    (s.checked k t.ring).putRing k t.ring { s.ring k t.ring with tone := t.tone, toneOk := true, fails := 0, confirm := false } := by
  have hno : ¬ ((s.ring k t.ring).st = rgLocked ∧ (s.ring k t.ring).frozen.isNone = true) := fun h =>
    absurd (hst.symm.trans h.1) (by decide)
  unfold judgeTone
  dsimp only
  rw [if_neg hno, if_pos hst, if_pos hdark]
  rfl

/-- A lane or switch ring without a circuit that is found wrong awaits its re-search, and the event shows. -/
theorem ringWrong_idle {i : Nat} {f : Fld} (hlink : 1040 ≤ i) (hidle : s.ringIdle k i) (hf : f.ringEvt = true) :
    ((ringWrong s k i f).ring k i).st = rgWrong ∧ ((ringWrong s k i f).ring k i).toneOk = false ∧ (ringWrong s k i f).on f k = true := by
  let u := (coupleRing s k i true false).raise f k
  let v := u.putRing k i { u.ring k i with st := rgWrong, toneOk := false, sweeps := 0 }
  have hlanes : v.lanes = s.lanes := ((RingsNoted.putRing u k i _).lanes.trans (raise_lanes ..)).trans (RingsNoted.coupleRing ..).lanes
  have htakes : ringTakesChip v k i = v := ringTakesChip_idle hlink fun l c hlane =>
    (congrArg Lane.st (lane_of_lanes hlanes k l)).trans_ne (hidle l c hlane)
  have heq : ringWrong s k i f = showRings v k := by
    have hstep : ringWrong s k i f = showRings (ringTakesChip v k i) k := by
      unfold ringWrong
      dsimp only
      rw [if_neg (show ¬ i < 16 by omega)]
    rw [hstep, htakes]
  have hring : (showRings v k).ring k i = { u.ring k i with st := rgWrong, toneOk := false, sweeps := 0 } :=
    (ring_showRings ..).trans (ring_putRing_same ..)
  rw [heq, hring]
  exact ⟨rfl, rfl, ((RingsNoted.showRings v k).on (ringEvt_beside hf k)).trans (raise_ringEvt _ hf k)⟩

/-- So it does when a tone window finds it wrong. -/
theorem judgeTone_wrong (hlink : 1040 ≤ t.ring) (hidle : s.ringIdle k t.ring) (hst : (s.ring k t.ring).st = rgLocked)
    (hfrozen : (s.ring k t.ring).frozen = none) (hoff : t.tone ≠ (s.ring k t.ring).assign ∨ (s.ring k t.ring).low t = true)
    (hconfirm : (s.ring k t.ring).confirm = false) :
    ((judgeTone s k t).ring k t.ring).st = rgWrong ∧ ((judgeTone s k t).ring k t.ring).toneOk = false ∧
      (judgeTone s k t).on (if t.tone = (s.ring k t.ring).assign then R.RING_EVT_UNLOCK else R.RING_EVT_WRONG_LAMBDA) k = true := by
  have hno := not_confirmed hoff
  unfold Ring.low at hno
  have heq : judgeTone s k t = ringWrong ((s.checked k t.ring).putRing k t.ring { s.ring k t.ring with tone := t.tone }) k t.ring
      (if t.tone = (s.ring k t.ring).assign then R.RING_EVT_UNLOCK else R.RING_EVT_WRONG_LAMBDA) := by
    unfold judgeTone
    dsimp only
    rw [if_pos ⟨hst, Option.isNone_iff_eq_none.2 hfrozen⟩, if_neg hno, if_neg (by simp [hconfirm])]
    rfl
  rw [heq]
  exact ringWrong_idle hlink hidle (by split <;> decide)

end

/-! ### Tone windows -/

/-- A window has begun that, without a ring named, reads a quarter of the rings. -/
def State.windowed (s : State) (k : Nat) : State :=
  if s.anyNamed k then s else putRingWork s k { s.ringWork k with quarter := ((s.ringWork k).quarter + 1) % 4 }

theorem windowed_aside (s : State) (k : Nat) : ∃ F, s.windowed k = s.setFeedFwd F := by
  unfold State.windowed
  split
  · exact ⟨s.feedFwd, rfl⟩
  · exact ⟨_, rfl⟩

theorem showStepCheck_ring (s : State) (k n : Nat) : (showStepCheck s k).ring k n = s.ring k n := by
  unfold showStepCheck
  split <;> rfl

theorem showStepCheck_ringEvt (s : State) (k : Nat) {f : Fld} (h : f.ringEvt = true) : (showStepCheck s k).on f k = s.on f k := by
  have hkey := ringEvt_key h k
  have hstat : R.RING_STAT_STEP_CHECK.key k 0 = 0x41000 + 0x100 * (k % 4) := by simp [R.RING_STAT_STEP_CHECK, Fld.key]
  unfold showStepCheck
  split
  · exact on_wr_ne _ _ _ _ _ _ (.inl (by omega))
  · rfl

section
variable {s : State} {k : Fin 4} {t : ToneRead}

/-- A window that reads one ring judges it. -/
theorem toneWindow_eq (hi : t.ring < 1584) (hcheck : s.toneChecks k t.ring = true) :
    exec (.toneWindow k [t]) s = .next (showStepCheck (judgeTone (s.windowed k) k t) k) := by
  have hread : [t].filter (fun t => decide (t.ring < 1584) && s.toneChecks k t.ring) = [t] := by simp [hi, hcheck]
  have hstep : toneWindow s k [t] =
      showStepCheck ((s.windowed k).each ([t].filter fun t => decide (t.ring < 1584) && s.toneChecks k t.ring) fun s t => judgeTone s k t) k :=
    rfl
  rw [hread] at hstep
  exact congrArg Host.Outcome.next hstep

theorem ring_windowed (s : State) (k k' i : Nat) : (s.windowed k).ring k' i = s.ring k' i := by
  obtain ⟨F, hF⟩ := windowed_aside s k
  rw [hF]
  rfl

theorem ringIdle_windowed {i : Nat} (h : s.ringIdle k i) : (s.windowed k).ringIdle k i := by
  obtain ⟨F, hF⟩ := windowed_aside s k
  rw [hF]
  exact h

variable (hi : t.ring < 1584) (hcheck : s.toneChecks k t.ring = true) (hst : (s.ring k t.ring).st = rgLocked)
  (hfrozen : (s.ring k t.ring).frozen = none)
include hi hcheck hst hfrozen

theorem toneWindow_confirms (htone : t.tone = (s.ring k t.ring).assign) (hlow : (s.ring k t.ring).low t = false) :
    Does (.toneWindow k [t]) s fun u => (u.ring k t.ring).toneOk = true ∧ (u.ring k t.ring).st = rgLocked ∧
      (u.ring k t.ring).tone = t.tone ∧ (u.ring k t.ring).lockLevel = some ((s.ring k t.ring).lockLevel.getD t.level) := by
  refine ⟨_, toneWindow_eq hi hcheck, ?_⟩
  rw [← ring_windowed s k] at hst hfrozen htone hlow ⊢
  rw [showStepCheck_ring, judgeTone_confirms hst hfrozen htone hlow, ring_putRing_same]
  exact ⟨rfl, hst, rfl, rfl⟩

theorem toneWindow_moves (hoff : t.tone ≠ (s.ring k t.ring).assign ∨ (s.ring k t.ring).low t = true)
    (hconfirm : (s.ring k t.ring).confirm = true) (hfails : (s.ring k t.ring).fails < 2) : Does (.toneWindow k [t]) s fun u =>
      (u.ring k t.ring).st = rgLocked ∧ (u.ring k t.ring).fails = (s.ring k t.ring).fails + 1 ∧
        (u.ring k t.ring).heater = moveCode (s.ring k t.ring).heater t.tone (s.ring k t.ring).assign := by
  refine ⟨_, toneWindow_eq hi hcheck, ?_⟩
  rw [← ring_windowed s k] at hst hfrozen hoff hconfirm hfails ⊢
  rw [showStepCheck_ring, judgeTone_moves hst hfrozen hoff hconfirm hfails, ring_putRing_same]
  exact ⟨hst, rfl, rfl⟩

theorem toneWindow_wrong (hoff : t.tone ≠ (s.ring k t.ring).assign ∨ (s.ring k t.ring).low t = true)
    (hconfirm : (s.ring k t.ring).confirm = false) (hlink : 1040 ≤ t.ring) (hidle : s.ringIdle k t.ring) :
    Does (.toneWindow k [t]) s fun u => (u.ring k t.ring).st = rgWrong ∧ (u.ring k t.ring).toneOk = false ∧
      u.on (if t.tone = (s.ring k t.ring).assign then R.RING_EVT_UNLOCK else R.RING_EVT_WRONG_LAMBDA) k = true := by
  refine ⟨_, toneWindow_eq hi hcheck, ?_⟩
  rw [← ring_windowed s k] at hst hfrozen hoff hconfirm ⊢
  rw [showStepCheck_ring, showStepCheck_ringEvt _ _ (by split <;> decide)]
  exact judgeTone_wrong hlink (ringIdle_windowed hidle) hst hfrozen hoff hconfirm

end

/-! ### Re-searches -/

/-- Ring `i` of chiplet `k` awaits a re-search: it is searched or wrong, or locked near an end of its range (R167). -/
def Ring.awaits (r : Ring) : Prop := r.st = rgSearching ∨ r.st = rgWrong ∨ r.nearEnd = true

/-- The code a re-search of ring `i` finds: an eighth of the range each way of the code expected (R167). -/
def Ring.researchCode (r : Ring) (i : Nat) (pk : List Nat) : Option Nat :=
  searchCode pk (ringPattern i) (r.target i) (r.expected - 8193) (min 65535 (r.expected + 8193))

section
variable {s : State} {k : Fin 4} {i : Fin 1584} {pk : List Nat} {tone : ToneRead}

/-- Ring `i` of chiplet `k` has been swept about its expected code (R167). -/
def State.researched (s : State) (k i : Nat) (pk : List Nat) : State :=
  sweepDone (s.raise R.RING_EVT_RESEARCH k) k i pk ((s.ring k i).expected - 8193) (min 65535 ((s.ring k i).expected + 8193))

theorem partialResearchDone_idle (h : s.rd R.RING_STAT_PHASE k = 1 ∨
    ((s.ring k i).st ≠ rgSearching ∧ (s.ring k i).st ≠ rgWrong ∧ (s.ring k i).nearEnd = false)) :
    Does (.partialResearchDone k i pk tone) s fun t => t = s := by
  refine ⟨s, congrArg Host.Outcome.next (if_neg ?_), rfl⟩
  obtain h | ⟨hsearching, hwrong, hend⟩ := h
  · simp [h]
  · simp [hsearching, hwrong, hend]

variable (hphase : s.rd R.RING_STAT_PHASE k ≠ 1) (hawaits : (s.ring k i).awaits)
include hphase hawaits

theorem researchDone_eq : researchDone s k i pk tone =
    if ((s.researched k i pk).ring k i).confirm then judgeTone (s.researched k i pk) k { tone with ring := i } else s.researched k i pk := by
  unfold researchDone
  dsimp only
  rw [if_pos ⟨hphase, hawaits⟩]
  rfl

variable {c : Nat} (hcode : (s.ring k i).researchCode i pk = some c)
include hcode

/-- A re-search that finds the ring assigns it, and its confirmation judges it. -/
theorem partialResearchDone_found :
    ∃ (u : State) (r : Ring), exec (.partialResearchDone k i pk tone) s = .next (judgeTone u k { tone with ring := i }) ∧
      u.ring k i = r.assigned ((s.ring k i).target i) c ((s.ring k i).target i == 16) ∧ u.on R.RING_EVT_RESEARCH k = true := by
  let t := s.raise R.RING_EVT_RESEARCH k
  have hring : t.ring k i = s.ring k i := ring_of_rings (raise_rings ..) ..
  have hphase' : (t.rd R.RING_STAT_PHASE k == 1) = false := beq_false_of_ne ((phase_raise s (by decide) k k).trans_ne hphase)
  unfold Ring.researchCode at hcode
  rw [← hring] at hcode
  obtain ⟨hnoted, r, hr⟩ := sweepDone_found hcode
  rw [hring] at hnoted
  rw [hphase', Bool.or_false, hring] at hr
  have hr : (s.researched k i pk).ring k i = r.assigned ((s.ring k i).target i) c ((s.ring k i).target i == 16) := hr
  refine ⟨s.researched k i pk, r, congrArg Host.Outcome.next ?_, hr, ?_⟩
  · rw [researchDone_eq hphase hawaits, hr]
    rfl
  · exact (RingsNoted.on (t := s.researched k i pk) hnoted (ringEvt_beside (by decide) k)).trans (raise_ringEvt s (by decide) k)

theorem partialResearchDone_confirms (hlock : (s.ring k i).target i ≠ 16) (htone : tone.tone = (s.ring k i).target i) :
    Does (.partialResearchDone k i pk tone) s fun t => (t.ring k i).heater = c ∧ (t.ring k i).toneOk = true ∧
      (t.ring k i).st = rgLocked ∧ t.on R.RING_EVT_RESEARCH k = true := by
  obtain ⟨u, r, hexec, hr, hevt⟩ := partialResearchDone_found (tone := tone) hphase hawaits hcode
  rw [beq_false_of_ne hlock] at hr
  have hjudged := judgeTone_confirms (s := u) (k := k) (t := { tone with ring := i })
    (by rw [hr]; rfl) (by rw [hr]; rfl) (by rw [hr]; exact htone) (by rw [hr]; rfl)
  rw [hjudged] at hexec
  refine ⟨_, hexec, ?_, ?_, ?_, hevt⟩ <;> rw [ring_putRing_same, hr] <;> rfl

theorem partialResearchDone_moves (hlock : (s.ring k i).target i ≠ 16) (htone : tone.tone ≠ (s.ring k i).target i) :
    Does (.partialResearchDone k i pk tone) s fun t => (t.ring k i).heater = moveCode c tone.tone ((s.ring k i).target i) ∧
      (t.ring k i).toneOk = false ∧ (t.ring k i).fails = 1 ∧ (t.ring k i).st = rgLocked := by
  obtain ⟨u, r, hexec, hr, -⟩ := partialResearchDone_found (tone := tone) hphase hawaits hcode
  rw [beq_false_of_ne hlock] at hr
  have hjudged := judgeTone_moves (s := u) (k := k) (t := { tone with ring := i })
    (by rw [hr]; rfl) (by rw [hr]; rfl) (.inl (by rw [hr]; exact htone)) (by rw [hr]; rfl) (by rw [hr]; exact Nat.two_pos)
  rw [hjudged] at hexec
  refine ⟨_, hexec, ?_, ?_, ?_, ?_⟩ <;> rw [ring_putRing_same, hr] <;> rfl

theorem partialResearchDone_parks (hpark : (s.ring k i).target i = 16) (hdark : tone.dark = true) :
    Does (.partialResearchDone k i pk tone) s fun t => (t.ring k i).heater = moveCode c 16 16 ∧ (t.ring k i).toneOk = true ∧
      (t.ring k i).st = rgParked ∧ t.on R.RING_EVT_RESEARCH k = true := by
  obtain ⟨u, r, hexec, hr, hevt⟩ := partialResearchDone_found (tone := tone) hphase hawaits hcode
  rw [hpark, beq_self_eq_true] at hr
  have hjudged := judgeTone_dark (s := u) (k := k) (t := { tone with ring := i }) (by rw [hr]; rfl) hdark
  rw [hjudged] at hexec
  refine ⟨_, hexec, ?_, ?_, ?_, hevt⟩ <;> rw [ring_putRing_same, hr] <;> rfl

end

/-! ### The end of a search -/

/-- The lane rings of chiplet `k` are left parked (R160). -/
def State.lanesParked (s : State) (k : Nat) : State :=
  s.each ((List.range 32).map (· + 1040)) fun s i =>
    if (s.ring k i).st = rgLocked then coupleRing (tuneRing s k i 16 rgParked) k i false false else s

theorem ringsNoted_lanesParked (s : State) (k : Nat) : RingsNoted s (s.lanesParked k) :=
  .each (fun _ _ => .ite ((RingsNoted.tuneRing ..).trans (.coupleRing ..)) (.refl _)) s

/-- The separation rings stand. -/
theorem lanesParked_ring (s : State) (k : Nat) {i : Nat} (hi : i < 1040) : (s.lanesParked k).ring k i = s.ring k i := by
  refine each_inv_of_mem (fun t => t.ring k i = s.ring k i) _ _ s (fun t n hn ht => ?_) rfl
  obtain ⟨m, hm, rfl⟩ := List.mem_map.1 hn
  have hm := List.mem_range.1 hm
  split
  · exact (ring_coupleRing_ne _ _ _ _ (by omega) (by omega) (by omega)).trans
      ((ring_putRing_ne _ _ _ (by omega) (by omega) (by omega)).trans ht)
  · exact ht

/-- The search of chiplet `k` has ended, in the phase given, with its monitors' light taken. -/
def State.searchShown (s : State) (k phase : Nat) : State :=
  let t := (s.wr R.RING_STAT_PHASE k phase).raise R.RING_EVT_SEARCH_DONE k
  (showRings ((putRingWork t k { t.ringWork k with phase := 0 }).each (lockMonitors k) fun s i => lockMon s k i) k).wr R.MESH_STAT_LIGHT_OK k 1

/-- What the end of a search shows of chiplet `k`. -/
def State.SearchEnded (t : State) (k phase : Nat) : Prop :=
  t.rd R.RING_STAT_PHASE k = phase ∧ t.on R.RING_EVT_SEARCH_DONE k = true ∧ t.on R.MESH_STAT_LIGHT_OK k = true

theorem searchShown_ended (s : State) (k : Nat) {phase : Nat} (hphase : phase < 4) : (s.searchShown k phase).SearchEnded k phase := by
  let t := (s.wr R.RING_STAT_PHASE k phase).raise R.RING_EVT_SEARCH_DONE k
  let u := (putRingWork t k { t.ringWork k with phase := 0 }).each (lockMonitors k) fun s i => lockMon s k i
  have hregs : u.regs = t.regs := each_regs (f := fun s i => lockMon s k i) (fun _ _ => rfl) _
  have hlight := mesh_key_range (show R.MESH_STAT_LIGHT_OK.ofMesh = true by decide) k
  have hdone := ringEvt_key (show R.RING_EVT_SEARCH_DONE.ringEvt = true by decide) k
  have hkey := RING_STAT_PHASE_key k
  have hrd {f : Fld} (hf : f.besideCounts k) (hne : f.key k 0 ≠ R.MESH_STAT_LIGHT_OK.key k 0) :
      (s.searchShown k phase).rd f k = t.rd f k :=
    ((rd_wr_ne _ _ _ _ _ _ (.inl hne)).trans ((RingsNoted.showRings u k).rd f k hf)).trans (rd_of_regs hregs f k)
  refine ⟨?_, ?_, on_wr_same _ _ _ _ (by decide)⟩
  · rw [hrd (phase_beside k) (by omega), show t.rd R.RING_STAT_PHASE k = _ from phase_raise _ (by decide) k k, rd_wr_same _ _ _ _ (by decide)]
    exact Nat.mod_eq_of_lt hphase
  · rw [State.on, hrd (ringEvt_beside (by decide) k) (by omega)]
    exact raise_ringEvt _ (by decide) k

theorem wr_loadWait (s : State) (f : Fld) (i v : Nat) : (s.wr f i v).loadWait = s.loadWait := rfl

theorem putChip_loadWait (s : State) (k : Nat) (v : Chip) : (s.putChip k v).loadWait = s.loadWait := rfl

/-- A crosstalk rebuild that starts leaves every register but the state of its chiplet and its events. -/
theorem startXtalk_rd (s : State) (k : Nat) {f : Fld} {i : Nat} (hevt : f.key i 0 ≠ R.MESH_EVT_REBUILD.key k 0)
    (hstat : f.key i 0 ≠ R.MESH_STAT_STATE.key k 0 ∨ 3 ≤ f.lo) (hsys : f.key i 0 ≠ 0x4) : (startXtalk s k).rd f i = s.rd f i := by
  unfold startXtalk
  dsimp only
  split
  · rw [setMesh, rd_wr_ne _ _ _ _ _ _ (hstat.imp id .inr), rd_putChip, raise_rd_ne _ _ _ _ _ hevt hsys, rd_putChip]
  · split
    · rw [raise_rd_ne _ _ _ _ _ hevt hsys, rd_putChip]
    · rfl

theorem startXtalk_loadWait (s : State) (k : Nat) : (startXtalk s k).loadWait = s.loadWait := by
  unfold startXtalk
  dsimp only
  split
  · rw [setMesh, wr_loadWait, putChip_loadWait, raise_loadWait, putChip_loadWait]
  · split
    · rw [raise_loadWait, putChip_loadWait]
    · rfl

theorem State.SearchEnded.startXtalk {s : State} {k phase : Nat} (h : s.SearchEnded k phase) : (startXtalk s k).SearchEnded k phase := by
  have hevt : R.MESH_EVT_REBUILD.key k 0 = 0x40004 + 0x200 * (k % 4) := mesh_key (by decide) k
  have hstat : R.MESH_STAT_STATE.key k 0 = 0x40000 + 0x200 * (k % 4) := mesh_key (by decide) k
  have hlight : R.MESH_STAT_LIGHT_OK.key k 0 = 0x40000 + 0x200 * (k % 4) := mesh_key (by decide) k
  have hdone := ringEvt_key (show R.RING_EVT_SEARCH_DONE.ringEvt = true by decide) k
  have hkey := RING_STAT_PHASE_key k
  obtain ⟨hphase, hsearch, hlit⟩ := h
  refine ⟨?_, ?_, ?_⟩
  · rw [startXtalk_rd s k (by omega) (.inl (by omega)) (by omega), hphase]
  · rw [State.on, startXtalk_rd s k (by omega) (.inl (by omega)) (by omega)]
    exact hsearch
  · rw [State.on, startXtalk_rd s k (by omega) (.inr (by decide)) (by omega)]
    exact hlit

/-- The rings of chiplet `k` that phase 5 has confirmed, and those that have failed. -/
def State.ringsDone (s : State) (k : Nat) : Nat :=
  (s.rings.filter fun e => e.1 / 2048 == k && (e.2.st == rgFailed || e.2.found && e.2.toneOk)).length

theorem putRingWork_loadWait (s : State) (k : Nat) (v : FeedFwd) : (putRingWork s k v).loadWait = s.loadWait := rfl

theorem searchShown_loadWait (s : State) (k phase : Nat) : (s.searchShown k phase).loadWait = s.loadWait := by
  have hlock (s : State) (l : List Nat) : (s.each l fun s i => lockMon s k i).loadWait = s.loadWait :=
    each_keeps State.loadWait l (fun s i => lockMon s k i) s fun _ _ => rfl
  unfold State.searchShown
  dsimp only
  rw [wr_loadWait, (RingsNoted.showRings _ k).loadWait, hlock, putRingWork_loadWait, raise_loadWait, wr_loadWait]

/-- Once its rings are done, the lane rings of a chiplet are parked, the end of its search shows, and its crosstalk rebuild starts. -/
theorem searchDone_eq {s : State} {k : Nat} (hphase : s.rd R.RING_STAT_PHASE k = 1) (hfive : (s.ringWork k).phase = 5)
    (hall : s.ringsDone k = 1584) : searchDone s k =
      let t := (s.lanesParked k).searchShown k
        (if (List.range 16).any (fun i => ((s.lanesParked k).ring k i).st == rgFailed) then 3 else 2)
      if (t.chip k).failed then tryLoad t else tryLoad (startXtalk t k) := by
  have hgo : ¬ (s.rd R.RING_STAT_PHASE k ≠ 1 ∨ (s.ringWork k).phase ≠ 5 ∨ s.ringsDone k ≠ 1584) := by simp [hphase, hfive, hall]
  exact if_neg hgo

theorem ringSearchDone_ends {s : State} {k : Fin 4} (hload : s.loadWait = none) (hphase : s.rd R.RING_STAT_PHASE k = 1)
    (hfive : (s.ringWork k).phase = 5) (hall : s.ringsDone k = 1584) : Does (.ringSearchDone k) s fun t =>
      t.SearchEnded k (if (List.range 16).any (fun i => (s.ring k i).st == rgFailed) then 3 else 2) := by
  let phase := if (List.range 16).any (fun i => (s.ring k i).st == rgFailed) then 3 else 2
  let t := (s.lanesParked k).searchShown k phase
  have hphase' : phase < 4 := by
    dsimp only [phase]
    split <;> decide
  have hended : t.SearchEnded k phase := searchShown_ended _ k hphase'
  have hbad : (List.range 16).any (fun i => ((s.lanesParked k).ring k i).st == rgFailed) =
      (List.range 16).any fun i => (s.ring k i).st == rgFailed := by
    rw [Bool.eq_iff_iff, List.any_eq_true, List.any_eq_true]
    refine exists_congr fun i => and_congr_right fun hi => ?_
    rw [lanesParked_ring s k (by have := List.mem_range.1 hi; omega)]
  have hwait : t.loadWait = none := (searchShown_loadWait ..).trans ((ringsNoted_lanesParked s k).loadWait.trans hload)
  have hstep : searchDone s k = if (t.chip k).failed then tryLoad t else tryLoad (startXtalk t k) := by
    rw [searchDone_eq hphase hfive hall, hbad]
  rw [tryLoad_idle hwait, tryLoad_idle ((startXtalk_loadWait t k).trans hwait)] at hstep
  refine ⟨_, congrArg Host.Outcome.next hstep, ?_⟩
  split
  · exact hended
  · exact hended.startXtalk

theorem ringSearchDone_idle {s : State} {k : Fin 4} (h : s.rd R.RING_STAT_PHASE k ≠ 1 ∨ (s.ringWork k).phase ≠ 5 ∨ s.ringsDone k ≠ 1584) :
    Does (.ringSearchDone k) s fun t => t = s :=
  ⟨s, congrArg Host.Outcome.next (if_pos h), rfl⟩

/-! ### Monitors -/

theorem mon_putMon_same (s : State) (k i : Nat) (v : Mon) : (s.putMon k i v).mon k i = v := spGet_spSet_same ..

theorem mon_putMon (s : State) (k i k' i' : Nat) (v : Mon) : (s.putMon k' i' v).mon k i =
    if 128 * k + i % 128 = 128 * k' + i' % 128 then v else s.mon k i := spGet_spSet ..

/-- A monitor with the power `p` now: whether it is below the loss level, how often in a row, and its warning (R181). -/
def State.ReadAs (s t : State) (k i : Nat) (p : Int) : Prop :=
  (t.mon k i).power = p ∧ (t.mon k i).lock = (s.mon k i).lock ∧
    (t.mon k i).runs = (match (s.mon k i).lock with
      | some l => if s.watched k i = true ∧ p < l - s.lossDb then (s.mon k i).runs + 1 else 0
      | none => 0) ∧
    (t.mon k i).warn = (s.watched k i && match (s.mon k i).lock with
      | some l => decide (p ≤ l - 300)
      | none => false)

theorem readMonitor_reads (s : State) (r : MonRead) : s.ReadAs (readMonitor s r) r.chip r.ix r.power := by
  let t := s.putMon r.chip r.ix { s.mon r.chip r.ix with power := r.power }
  have hmon : t.mon r.chip r.ix = { s.mon r.chip r.ix with power := r.power } := mon_putMon_same ..
  have hwatched : t.watched r.chip r.ix = s.watched r.chip r.ix := rfl
  have hwarned : t.warned r.chip r.ix = (s.watched r.chip r.ix && match (s.mon r.chip r.ix).lock with
      | some l => decide (r.power ≤ l - 300)
      | none => false) := by
    rw [State.warned, hmon, hwatched]
    cases (s.mon r.chip r.ix).lock <;> rfl
  have hbelow : t.below r.chip r.ix = (s.watched r.chip r.ix && match (s.mon r.chip r.ix).lock with
      | some l => decide (r.power < l - s.lossDb)
      | none => false) := by
    rw [State.below, State.faint, hmon, hwatched]
    cases (s.mon r.chip r.ix).lock <;> rfl
  have hread : (readMonitor s r).mon r.chip r.ix =
      if t.below r.chip r.ix then { t.mon r.chip r.ix with warn := t.warned r.chip r.ix, runs := (t.mon r.chip r.ix).runs + 1 }
      else { t.mon r.chip r.ix with warn := t.warned r.chip r.ix, runs := 0, located := false } := by
    change (if t.below r.chip r.ix then _ else _ : State).mon r.chip r.ix = _
    split <;> exact mon_putMon_same ..
  unfold State.ReadAs
  rw [hread, hbelow, hwarned, hmon]
  cases hlock : (s.mon r.chip r.ix).lock with
  | none => simp [hlock]
  | some l =>
    by_cases hloss : s.watched r.chip r.ix = true ∧ r.power < l - s.lossDb
    · simp [hlock, hloss]
    · simp [hlock, hloss]

/-- The location of a loss writes registers and raises its event. -/
theorem locateLoss_apart {α : Type} (g : State → α) (hwr : ∀ s f i v, g (State.wr s f i v) = g s)
    (hraise : ∀ s f i, g (State.raise s f i) = g s) (s : State) (l : Nat × Nat × Nat × Nat) (b : Bool) : g (locateLoss s l b) = g s := by
  unfold locateLoss State.bump State.bumpBy
  dsimp only
  split
  · rw [hwr, hwr, hwr, hwr, hwr, hraise]
  · rw [hwr, hraise]

theorem locateLoss_mons (s : State) (l : Nat × Nat × Nat × Nat) (b : Bool) : (locateLoss s l b).mons = s.mons :=
  locateLoss_apart State.mons (fun _ _ _ _ => rfl) raise_mons s l b

theorem locateLoss_lanes (s : State) (l : Nat × Nat × Nat × Nat) (b : Bool) : (locateLoss s l b).lanes = s.lanes :=
  locateLoss_apart State.lanes (fun _ _ _ _ => rfl) raise_lanes s l b

theorem showLight_mons (s : State) (k : Nat) : (showLight s k).mons = s.mons := by
  unfold showLight
  dsimp only
  split <;> rfl

theorem showLight_lanes (s : State) (k : Nat) : (showLight s k).lanes = s.lanes := by
  unfold showLight
  dsimp only
  split <;> rfl

theorem readMonitor_lanes (s : State) (r : MonRead) : (readMonitor s r).lanes = s.lanes := by
  unfold readMonitor
  dsimp only
  split <;> rfl

theorem tuneAll_idle {s : State} (h : ∀ e ∈ s.lanes, e.2.st ≠ lnTuning) : tuneAll s = s := by
  have hnone : (s.lanes.filter fun e => e.2.st == lnTuning) = [] := List.filter_eq_nil_iff.2 fun e he => by simp [h e he]
  unfold tuneAll
  rw [hnone]
  rfl

/-- A loss that is new is located, and shown when it is the first of the most upstream ones. -/
def State.lossNoted (s : State) (first : Option ((Nat × Nat) × (Nat × Nat × Nat × Nat))) (e : (Nat × Nat) × (Nat × Nat × Nat × Nat)) :
    State :=
  locateLoss (s.putMon e.1.1 e.1.2 { s.mon e.1.1 e.1.2 with located := true }) e.2 (first == some e)

theorem mon_of_mons {s t : State} (h : t.mons = s.mons) (k i : Nat) : t.mon k i = s.mon k i :=
  congrArg (spGet (fun _ => Mon.reset) · (128 * k + i % 128)) h

/-- The location of a loss marks its monitor, and leaves all else of the monitors. -/
theorem mon_lossNoted (s : State) (first : Option ((Nat × Nat) × (Nat × Nat × Nat × Nat))) (e : (Nat × Nat) × (Nat × Nat × Nat × Nat))
    (k i : Nat) : ∃ b, (s.lossNoted first e).mon k i = { s.mon k i with located := b } := by
  rw [State.lossNoted, mon_of_mons (locateLoss_mons ..), mon_putMon]
  split
  · rename_i hkey
    exact ⟨true, by rw [State.mon, ← hkey, ← State.mon]⟩
  · exact ⟨_, rfl⟩

/-- The losses are located, the light of the chiplets shows, and the circuits on their way go on (R181, R182). -/
def State.sampled (s : State) : State :=
  let new := s.newLosses
  let top := new.foldl (fun m e => min m e.2.1) 15
  let first := new.find? fun e => e.2.1 == top
  tuneAll ((s.each new fun s e => s.lossNoted first e).each chipNums showLight)

theorem sampled_mon {s : State} (hlanes : ∀ e ∈ s.lanes, e.2.st ≠ lnTuning) (k i : Nat) :
    ∃ b, s.sampled.mon k i = { s.mon k i with located := b } := by
  unfold State.sampled
  extract_lets new top first
  have hlight (t : State) : (t.each chipNums showLight).mon k i = t.mon k i :=
    mon_of_mons (each_keeps State.mons _ showLight t showLight_mons) k i
  have hstill : ((s.each new fun s e => s.lossNoted first e).each chipNums showLight).lanes = s.lanes :=
    (each_keeps State.lanes _ showLight _ showLight_lanes).trans (each_keeps State.lanes new _ s fun _ _ => locateLoss_lanes ..)
  rw [tuneAll_idle (by rwa [hstill]), hlight]
  refine each_inv (fun t => ∃ b, t.mon k i = { s.mon k i with located := b }) new _ s (fun t e ht => ?_) ⟨_, rfl⟩
  obtain ⟨b, hb⟩ := ht
  obtain ⟨c, hc⟩ := mon_lossNoted t first e k i
  exact ⟨c, by rw [hc, hb]⟩

theorem monitorSample_reads {s : State} {r : MonRead} (hchip : r.chip < 4) (hix : r.ix < 115) (hlanes : ∀ e ∈ s.lanes, e.2.st ≠ lnTuning) :
    Does (.monitorSample [r]) s fun t => s.ReadAs t r.chip r.ix r.power := by
  have hread : [r].filter (fun r => decide (r.chip < 4 ∧ r.ix < 115)) = [r] := by simp [hchip, hix]
  have hstep : exec (.monitorSample [r]) s =
      .next (s.each ([r].filter fun r => decide (r.chip < 4 ∧ r.ix < 115)) readMonitor).sampled := rfl
  rw [hread] at hstep
  obtain ⟨b, hb⟩ := sampled_mon (s := readMonitor s r) (by rwa [readMonitor_lanes]) r.chip r.ix
  obtain ⟨hpower, hlock, hruns, hwarn⟩ := readMonitor_reads s r
  refine ⟨(readMonitor s r).sampled, hstep, ?_⟩
  unfold State.ReadAs
  beta_reduce
  rw [hb]
  exact ⟨hpower, hlock, hruns, hwarn⟩

/-! ### The statement -/

/-- Settles O46: a search goes on without touching a ring it has found (`startSweeps_ring`), a sweep's end assigns its ring or fails it
(`sweepDone_found`, `failRing_idle`), a tone judges one ring (`judgeTone_confirms`, `judgeTone_moves`, `judgeTone_wrong`), and every frozen
ring that is listed is searched again (`each_reaches`). -/
theorem ringsAreSearched : Obligations.RingsAreSearched := by
  unfold Obligations.RingsAreSearched
  refine ⟨fun s => ⟨ringSearchStart_begins, ringSearchStart_dark, fun k i pk => ?_, fun k hload => ?_, fun r hchip hix hlanes =>
      monitorSample_reads hchip hix hlanes⟩,
    fun s k _ => ⟨ringDarkTimeout_searches, ringDarkTimeout_idle⟩⟩
  · refine ⟨fun hphase hst hleft => ⟨fun c => ringSweepDone_found hphase hst hleft, fun hnone => ⟨ringSweepDone_again hphase hst hleft hnone,
        ringSweepDone_fails hphase hst hleft hnone⟩⟩, ringSweepDone_idle, ringDark_freezes, ringDark_idle,
      fun a => ringLightReturn_resumes, ringLightReturn_idle,
      fun c tone hphase hawaits hcode => ⟨partialResearchDone_confirms hphase hawaits hcode, partialResearchDone_moves hphase hawaits hcode,
        partialResearchDone_parks hphase hawaits hcode⟩,
      fun tone => partialResearchDone_idle, fun hst hfrozen hcheck tone hring => ?_⟩
    have hi : tone.ring < 1584 := hring ▸ i.isLt
    rw [← hring] at hst hfrozen hcheck ⊢
    exact ⟨toneWindow_confirms hi hcheck hst hfrozen, toneWindow_moves hi hcheck hst hfrozen,
      fun hoff hconfirm => toneWindow_wrong hi hcheck hst hfrozen hoff hconfirm⟩
  · exact ⟨ringSearchDone_ends hload, ringSearchDone_idle⟩

end Sys2Proof.Machine
end

section
/-! PROOF. The family of 07_drift_and_calibration.md: a tile in service that its swap leaves STALE (O49). -/

namespace Sys2Proof.Machine

/-! O49 has a swap clear STALE on every tile but those due, under homework or serving as a spare copy. At its swap the tile's estimates are
made anew (`tableSwap` ends with `estimate`), and `staleCheck` flags a tile in service too once its settled estimate reaches THRESH (R203).
The tile below is one: its programming error alone is 1.60 %, and THRESH is at its reset of 1.50 %. -/

/-- Tile 0 in service, HOLDING a new table with no batch part done, after a programming error of 1.60 %. -/
def driftedTile : State :=
  ((State.reset.wr R.TCAL_STAT_TABLE 0 tbHolding).wr R.TCAL_STAT_SVC 0 svcService).wr R.TCAL_PROG_PROG_ERR 0 160

/-- What O49 asks of a tile before its swap, and that its error is beyond the threshold. -/
theorem driftedTile_holds : driftedTile.tileHolding 0 = true ∧ driftedTile.rd R.QCAL_STAT_STATE 0 ≠ 1 ∧ driftedTile.swapPoint 0 = true ∧
    driftedTile.svc 0 = svcService ∧ driftedTile.thresh = 150 := by decide +kernel

/-- The swap leaves it STALE. -/
theorem driftedTile_swaps_stale : (tableSwap driftedTile 0 false).on R.TCAL_STAT_STALE 0 = true := by decide +kernel

/-- Refutes O49: in `driftedTile` the swap exchanges the banks of a tile in service whose settled estimate is beyond THRESH, and it is STALE
afterwards. The statement leaves out tiles due, under homework and serving as copies, and not those in service. -/
theorem not_calibrationRuns : ¬ Obligations.CalibrationRuns := by
  intro h
  obtain ⟨-, tiles, -⟩ := h driftedTile
  obtain ⟨-, -, -, swaps, -⟩ := tiles 0
  obtain ⟨holding, noRun, atPoint, inService, -⟩ := driftedTile_holds
  obtain ⟨atSwapPoint, -⟩ := swaps holding noRun
  obtain ⟨t, swapped, -, -, cleared, -⟩ := atSwapPoint atPoint
  have hexec : exec (.tableSwap 0) driftedTile = .next (tableSwap driftedTile 0 false) :=
    congrArg Host.Outcome.next (if_pos (by rw [Bool.and_eq_true]; exact ⟨holding, atPoint⟩))
  obtain rfl : tableSwap driftedTile 0 false = t := Host.Outcome.next.inj (hexec.symm.trans swapped)
  have fresh : (tableSwap driftedTile 0 false).on R.TCAL_STAT_STALE 0 = false :=
    cleared (inService.trans_ne (by decide)) (inService.trans_ne (by decide)) (inService.trans_ne (by decide))
  exact Bool.noConfusion (driftedTile_swaps_stale.symm.trans fresh)

end Sys2Proof.Machine
end

section
/-! PROOF. The family of 07_drift_and_calibration.md: what calibration runs, table swaps and estimates leave of the state (O50). -/

namespace Sys2Proof.Machine

/-! ### What the tables of tiles leave alone -/

/-- What the work of writing tiles is about beside their registers: the jobs with their placements, the requests, the homework, and what
is programmed and recorded of the tiles. The tables, runs and estimates of tiles change none of it. -/
def State.tileWork (s : State) : Sparse Job × List WriteReq × List Homework × Sparse Cells × Sparse Occ :=
  (s.jobs, s.writes, s.homework, s.cells, s.occ)

section
variable {s t : State}

theorem writes_of_tileWork (h : t.tileWork = s.tileWork) : t.writes = s.writes := congrArg (·.2.1) h

theorem homework_of_tileWork (h : t.tileWork = s.tileWork) : t.homework = s.homework := congrArg (·.2.2.1) h

theorem job_of_tileWork (h : t.tileWork = s.tileWork) (j : Nat) : t.job j = s.job j := job_of_jobs (congrArg (·.1) h) j

theorem cellsOf_of_tileWork (h : t.tileWork = s.tileWork) (n : Nat) : t.cellsOf n = s.cellsOf n :=
  congrArg (spGet (fun _ => Cells.none) · n) (congrArg (·.2.2.2.1) h)

theorem occOf_of_tileWork (h : t.tileWork = s.tileWork) (n : Nat) : t.occOf n = s.occOf n :=
  congrArg (spGet (fun _ => Occ.none) · n) (congrArg (·.2.2.2.2) h)

end

@[simp] theorem wr_tileWork (s : State) (f : Fld) (i v : Nat) : (s.wr f i v).tileWork = s.tileWork := (rfl)

@[simp] theorem setWord_tileWork (s : State) (k : Nat) (w : Word) : (s.setWord k w).tileWork = s.tileWork := (rfl)

@[simp] theorem apply_tileWork (s : State) (k : Nat) : (s.apply k).tileWork = s.tileWork := (rfl)

@[simp] theorem setInForce_tileWork (s : State) (m : Sparse Word) : (s.setInForce m).tileWork = s.tileWork := (rfl)

@[simp] theorem putTile_tileWork (s : State) (n : Nat) (v : TileRec) : (s.putTile n v).tileWork = s.tileWork := (rfl)

@[simp] theorem putTcal_tileWork (s : State) (n bank i : Nat) (w : Word) : (s.putTcal n bank i w).tileWork = s.tileWork := (rfl)

@[simp] theorem putQuad_tileWork (s : State) (q : Nat) (v : QuadCal) : (s.putQuad q v).tileWork = s.tileWork := (rfl)

@[simp] theorem raise_tileWork (s : State) (f : Fld) (i : Nat) : (s.raise f i).tileWork = s.tileWork := by simp [State.tileWork]

/-- Updates that each leave it leave it all together. -/
@[simp] theorem each_tileWork {α : Type} (l : List α) (f : State → α → State) (s : State) (h : ∀ s a, (f s a).tileWork = s.tileWork) :
    (s.each l f).tileWork = s.tileWork := each_keeps State.tileWork l f s h

@[simp] theorem estimate_tileWork (s : State) (n : Nat) : (estimate s n).tileWork = s.tileWork := by
  simp [estimate, staleCheck, showMaxEst, State.wrSat, apply_ite State.tileWork]

@[simp] theorem beginTile_tileWork (s : State) (q n : Nat) (stale : Bool) : (beginTile s q n stale).tileWork = s.tileWork := by
  simp [beginTile, apply_ite State.tileWork]

@[simp] theorem beginRound_tileWork (s : State) (q r fuel : Nat) : (beginRound s q r fuel).tileWork = s.tileWork := by
  induction fuel generalizing s r with
  | zero => exact putQuad_tileWork ..
  | succ fuel ih => simp [beginRound, apply_ite State.tileWork, ih]

@[simp] theorem beginRun_tileWork (s : State) (q cause : Nat) : (beginRun s q cause).tileWork = s.tileWork := by
  simp [beginRun, State.wrB, apply_ite State.tileWork]

@[simp] theorem endRun_tileWork (s : State) (q : Nat) : (endRun s q).tileWork = s.tileWork := by
  unfold endRun
  dsimp only
  split <;> simp [State.wrTime, State.wrInt, State.bump, State.bumpBy]

@[simp] theorem checkRunEnd_tileWork (s : State) (q : Nat) : (checkRunEnd s q).tileWork = s.tileWork := by
  simp [checkRunEnd, apply_ite State.tileWork]

@[simp] theorem applyMaps_tileWork (s : State) (n : Nat) : (applyMaps s n).tileWork = s.tileWork := by simp [applyMaps]

@[simp] theorem applyClip_tileWork (s : State) (n : Nat) : (applyClip s n).tileWork = s.tileWork := by
  unfold applyClip
  split <;> simp [showMode, State.wrB]

@[simp] theorem tableSwap_tileWork (s : State) (n : Nat) (forced : Bool) : (tableSwap s n forced).tileWork = s.tileWork := by
  unfold tableSwap
  dsimp only
  split <;> simp [latchGain, regain, State.wrB]

@[simp] theorem stopMeasuring_tileWork (s : State) (n : Nat) : (stopMeasuring s n).tileWork = s.tileWork := by
  simp [stopMeasuring, apply_ite State.tileWork]

@[simp] theorem leaveTable_tileWork (s : State) (n : Nat) : (leaveTable s n).tileWork = s.tileWork := by
  simp [leaveTable, apply_ite State.tileWork]

end Sys2Proof.Machine
end

section
/-! PROOF. The family of 07_drift_and_calibration.md: the tiles' writes and read-backs (O50). -/

namespace Sys2Proof.Machine

/-! ### Requests -/

/-- The requests with those for tile `n` changed by `f`. -/
theorem mapWrite_writes (s : State) (n : Nat) (f : WriteReq → WriteReq) :
    (mapWrite s n f).writes = s.writes.map fun x => if x.tile == n then f x else x := (rfl)

theorem mapWrite_rd (s : State) (n : Nat) (f : WriteReq → WriteReq) (g : Fld) (i : Nat) : (mapWrite s n f).rd g i = s.rd g i := (rfl)

/-! ### The beginning of a write -/

theorem setSvc_tileWork (s : State) (n : Nat) (pair : Bool) (v : Nat) : (setSvc s n pair v).tileWork = s.tileWork := by simp [setSvc]

theorem beginColumn_writes (s : State) (w : WriteReq) : (beginColumn s w).writes = s.writes := by
  unfold beginColumn
  split
  · exact (raise_writes ..).trans (writes_of_tileWork (setSvc_tileWork ..))
  · rfl

theorem showHwNow_writes (s : State) : (showHwNow s).writes = s.writes := (rfl)

section
variable {s : State} {q : Fin 8} {w : WriteReq} {b : List Byte}

/-- A request with no columns to give spares to is begun as it stands. -/
theorem prepareColumns_idle (h : s.hw w.tile = none) : prepareColumns s w = s := by simp [prepareColumns, h]

theorem writeVerifyStart_begins (hpwr : s.rd R.PWR_STAT_STATE 0 ≠ 2) (hnext : s.nextWrite q = some w) (hshard : s.shardIn w.slot w.no = some b)
    (hrewrite : w.use = .rewrite → s.hw w.tile = none) (hok : shDigestOk b (mfDigest (s.slot w.slot).manifest w.no) = true) :
    Does (.writeVerifyStart q) s fun t => t.writes = s.writes.map fun x => if x.tile == w.tile then { x with st := 1 } else x := by
  have hprep : (if w.use = .rewrite then prepareColumns s w else s) = s := ite_eq_right_iff.2 fun huse => prepareColumns_idle (hrewrite huse)
  have hstep : writeStart s q = showHwNow (mapWrite (beginColumn s w) w.tile fun x => { x with st := 1 }) := by
    simp [writeStart, hpwr, hnext, hshard, hok, hprep]
  refine ⟨_, congrArg Host.Outcome.next hstep, ?_⟩
  beta_reduce
  rw [showHwNow_writes, mapWrite_writes, beginColumn_writes]

theorem writeVerifyStart_refuses (hpwr : s.rd R.PWR_STAT_STATE 0 ≠ 2) (hnext : s.nextWrite q = some w) (hshard : s.shardIn w.slot w.no = some b)
    (hbad : shDigestOk b (mfDigest (s.slot w.slot).manifest w.no) = false) :
    exec (.writeVerifyStart q) s = .next (refuseWrite s w) := by
  have hstep : writeStart s q = refuseWrite s w := by simp [writeStart, hpwr, hnext, hshard, hbad]
  exact congrArg Host.Outcome.next hstep

theorem writeVerifyStart_idle (h : s.nextWrite q = none ∨ s.rd R.PWR_STAT_STATE 0 = 2) : Does (.writeVerifyStart q) s fun t => t = s := by
  have hstep : writeStart s q = s := by
    unfold writeStart
    obtain h | h := h <;> simp [h]
  exact ⟨s, congrArg Host.Outcome.next hstep, rfl⟩

end

/-- A request given up: STORE_BAD, and its shard no longer in the slot. -/
def State.givenUp (s : State) (w : WriteReq) : State :=
  let s := dropWrite (s.raise R.WSET_EVT_STORE_BAD 0) w.tile
  s.putSlot w.slot { s.slot w.slot with shards := (s.slot w.slot).shards.filter fun e => e.1 != w.no }

theorem givenUp_writes (s : State) (w : WriteReq) : (s.givenUp w).writes = s.writes.filter fun x => x.tile != w.tile :=
  congrArg (List.filter _) (raise_writes ..)

theorem putSlot_tileWork (s : State) (n : Nat) (v : StoreSlot) : (s.putSlot n v).tileWork = s.tileWork := by
  simp only [State.putSlot, wr_tileWork]
  rfl

theorem givenUp_homework (s : State) (w : WriteReq) : (s.givenUp w).homework = s.homework :=
  (homework_of_tileWork (putSlot_tileWork ..)).trans (raise_homework ..)

theorem putSlot_word (s : State) (n : Nat) (v : StoreSlot) {k : Nat} (hk : k < 0x51010) : (s.putSlot n v).word k = s.word k := by
  unfold State.putSlot
  extract_lets stored shown
  rw [word_wr_ne, word_wr_ne, word_wr_ne]
  · rfl
  all_goals simp [R.WSET_SLOT_STATE, R.WSET_SLOT_MOD_INDEX, R.WSET_SLOT_ID_WSET_ID, Fld.key]; omega

theorem givenUp_storeBad (s : State) (w : WriteReq) : (s.givenUp w).on R.WSET_EVT_STORE_BAD 0 = true := by
  have hword : (s.givenUp w).word (R.WSET_EVT_STORE_BAD.key 0 0) = (s.raise R.WSET_EVT_STORE_BAD 0).word (R.WSET_EVT_STORE_BAD.key 0 0) :=
    putSlot_word _ _ _ (by decide)
  have hon := raise_on_same s R.WSET_EVT_STORE_BAD 0 (by decide) (by decide) (by decide) (by decide)
  rw [State.on, rd_of_word hword]
  exact hon

/-- A rewrite, or a spare copy of a tile no longer in homework, is only given up. -/
theorem refuseWrite_homework {s : State} {w : WriteReq} (h : w.use = .rewrite ∨ ∃ c, w.use = .copy c ∧ s.hw c = none) :
    refuseWrite s w = s.givenUp w := by
  unfold refuseWrite
  obtain huse | ⟨c, huse, hhw⟩ := h
  · rw [huse]
    rfl
  · have hnone : (s.givenUp w).hw c = none := by rwa [State.hw, givenUp_homework]
    rw [huse]
    change (match (s.givenUp w).hw c with | some h => _ | none => s.givenUp w) = s.givenUp w
    rw [hnone]

/-! ### The end of a write -/

/-- A word that holds no estimate of tile `n`: neither its own nor the quadrant's. -/
def State.apartFromEstimate (n k : Nat) : Prop :=
  k ≠ R.DRIFT_LN.key n 0 ∧ k ≠ R.TCAL_EST.key n 0 ∧ k ≠ R.QCAL_MAXEST.key (quadOf n) 0 ∧ k ≠ R.TCAL_STAT.key n 0

theorem estimate_word (s : State) {n k : Nat} (h : State.apartFromEstimate n k) : (estimate s n).word k = s.word k := by
  obtain ⟨hdrift, hest, hmax, hstat⟩ := h
  have hstale (u : State) : (staleCheck u n).word k = u.word k := by
    unfold staleCheck
    dsimp only
    split
    · exact word_wr_ne u R.TCAL_STAT_STALE n 1 hstat
    · rfl
  unfold estimate
  extract_lets aged settled
  rw [hstale, showMaxEst, word_wr_ne _ R.QCAL_MAXEST_TILE _ _ hmax, word_wr_ne _ R.QCAL_MAXEST_EST _ _ hmax, State.wrSat,
    word_wr_ne _ R.TCAL_EST_EST n _ hest]
  exact word_wr_ne s R.DRIFT_LN_LN n _ hdrift

/-- What the write–verify of tile `n` records of it (R211, R230, R234). -/
structure Recorded (s u : State) (n : Nat) (c : Cells) (digest : List Byte) (m : WriteMeas) : Prop where
  cells : u.cellsOf n = { c with spares := (List.range 16).map fun i => s.word (R.SPARE_MAP.key n i) }
  count : Counted s u R.PGM_CNT_COUNT n
  progRef : u.rd R.TCAL_PROG_PROG_REF n = m.progRef % 65536
  digest : (u.occOf n).digest = digest
  writes : u.writes = s.writes

theorem PGM_CNT_apart (n : Nat) : State.apartFromEstimate n (R.PGM_CNT_COUNT.key n 0) := by
  simp only [State.apartFromEstimate, R.PGM_CNT_COUNT, R.DRIFT_LN, R.TCAL_EST, R.QCAL_MAXEST, R.TCAL_STAT, Fld.key, halfStep]
  omega

theorem TCAL_PROG_apart (n : Nat) : State.apartFromEstimate n (R.TCAL_PROG_PROG_REF.key n 0) := by
  simp only [State.apartFromEstimate, R.TCAL_PROG_PROG_REF, R.DRIFT_LN, R.TCAL_EST, R.QCAL_MAXEST, R.TCAL_STAT, Fld.key, halfStep]
  omega

/-- A tile programmed, counted and shown with what its write–verify measured. -/
def State.programmed (s : State) (n : Nat) (c : Cells) (m : WriteMeas) : State :=
  let s := (s.putCells n { c with spares := (List.range 16).map fun i => s.word (R.SPARE_MAP.key n i) }).bump R.PGM_CNT_COUNT n
  (s.wr R.TCAL_PROG_PROG_REF n m.progRef).wr R.TCAL_PROG_PROG_ERR n m.progErr

theorem programmed_cells (s : State) (n : Nat) (c : Cells) (m : WriteMeas) :
    (s.programmed n c m).cellsOf n = { c with spares := (List.range 16).map fun i => s.word (R.SPARE_MAP.key n i) } :=
  (cellsOf_of_tileWork ((wr_tileWork ..).trans ((wr_tileWork ..).trans (wr_tileWork ..))) n).trans (spGet_spSet_same ..)

theorem programmed_writes (s : State) (n : Nat) (c : Cells) (m : WriteMeas) : (s.programmed n c m).writes = s.writes :=
  (writes_of_tileWork (s := s.putCells n _) ((wr_tileWork ..).trans ((wr_tileWork ..).trans (wr_tileWork ..)))).trans rfl

theorem programmed_counted (s : State) (n : Nat) (c : Cells) (m : WriteMeas) : Counted s (s.programmed n c m) R.PGM_CNT_COUNT n := by
  have hkey : R.PGM_CNT_COUNT.key n 0 ≠ R.TCAL_PROG.key n 0 := by simp only [R.PGM_CNT_COUNT, R.TCAL_PROG, Fld.key]; omega
  unfold Counted State.programmed
  extract_lets counted
  rw [rd_wr_ne _ R.TCAL_PROG_PROG_ERR _ n n _ (.inl hkey), rd_wr_ne _ R.TCAL_PROG_PROG_REF _ n n _ (.inl hkey)]
  exact counted_bump (s.putCells n _) n (by decide)

theorem programmed_progRef (s : State) (n : Nat) (c : Cells) (m : WriteMeas) :
    (s.programmed n c m).rd R.TCAL_PROG_PROG_REF n = m.progRef % 65536 := by
  unfold State.programmed
  extract_lets counted
  rw [rd_wr_ne _ R.TCAL_PROG_PROG_ERR _ n n _ (.inr (by decide))]
  exact rd_wr_same counted R.TCAL_PROG_PROG_REF n m.progRef (by decide)

theorem putOcc_cellsOf (s : State) (n i : Nat) (v : Occ) : (s.putOcc n v).cellsOf i = s.cellsOf i := rfl

theorem occOf_putOcc_same (s : State) (n : Nat) (v : Occ) : (s.putOcc n v).occOf n = v := spGet_spSet_same ..

theorem putOcc_writes (s : State) (n : Nat) (v : Occ) : (s.putOcc n v).writes = s.writes := rfl

theorem putOcc_putTile_rd (s : State) (n : Nat) (o : Occ) (v : TileRec) (f : Fld) (i : Nat) :
    ((s.putOcc n o).putTile n v).rd f i = s.rd f i := rfl

theorem recordWrite_eq (s : State) (n : Nat) (c : Cells) (digest : List Byte) (m : WriteMeas) : ∃ o v, o.digest = digest ∧
    recordWrite s n c digest m = estimate (((s.programmed n c m).putOcc n o).putTile n v) n := ⟨_, _, rfl, rfl⟩

theorem recordWrite_records (s : State) (n : Nat) (c : Cells) (digest : List Byte) (m : WriteMeas) :
    Recorded s (recordWrite s n c digest m) n c digest m := by
  obtain ⟨o, v, ho, heq⟩ := recordWrite_eq s n c digest m
  have hkept : (estimate (((s.programmed n c m).putOcc n o).putTile n v) n).tileWork = ((s.programmed n c m).putOcc n o).tileWork :=
    (estimate_tileWork ..).trans (putTile_tileWork ..)
  rw [heq]
  exact {
    cells := (cellsOf_of_tileWork hkept n).trans ((putOcc_cellsOf ..).trans (programmed_cells ..))
    count := (rd_of_word (estimate_word _ (PGM_CNT_apart n))).trans ((putOcc_putTile_rd ..).trans (programmed_counted ..))
    progRef := (rd_of_word (estimate_word _ (TCAL_PROG_apart n))).trans ((putOcc_putTile_rd ..).trans (programmed_progRef ..))
    digest := by rw [occOf_of_tileWork hkept n, occOf_putOcc_same, ho]
    writes := (writes_of_tileWork hkept).trans ((putOcc_writes ..).trans (programmed_writes ..)) }

/-- A tile written without a failed column goes on to its read-back. -/
theorem afterWrite_sound (s : State) (w : WriteReq) (n : Nat) : ∃ v : TileRec,
    afterWrite s w [(n, [])] = mapWrite (s.putTile n v) w.tile fun x => { x with st := 2 } := ⟨_, rfl⟩

/-- What is recorded is not touched as its request goes on. -/
theorem Recorded.goesOn {s u : State} {n : Nat} {c : Cells} {digest : List Byte} {m : WriteMeas} (h : Recorded s u n c digest m) (v : TileRec)
    (i : Nat) (f : WriteReq → WriteReq) : let t := mapWrite (u.putTile n v) i f
      t.cellsOf n = { c with spares := (List.range 16).map fun i => s.word (R.SPARE_MAP.key n i) } ∧ Counted s t R.PGM_CNT_COUNT n ∧
        t.rd R.TCAL_PROG_PROG_REF n = m.progRef % 65536 ∧ (t.occOf n).digest = digest ∧
        t.writes = s.writes.map fun x => if x.tile == i then f x else x :=
  ⟨h.cells, h.count, h.progRef, h.digest, congrArg (List.map _) h.writes⟩

/-- The request that is found for a tile is for that tile, and as far as asked. -/
theorem found_write {s : State} {n st : Nat} {w : WriteReq} (h : s.writes.find? (fun w => w.tile == n && w.st == st) = some w) :
    w.tile = n ∧ w.st = st := by simpa using List.find?_some h

theorem writeVerifyDone_records {s : State} {n : Fin 4096} {m l : WriteMeas} {w : WriteReq} {b : List Byte}
    (hfind : s.writes.find? (fun w => w.tile == n.val && w.st == 1) = some w) (hpair : w.pair = false)
    (hshard : s.shardIn w.slot w.no = some b) (hsound : m.failed = []) (huse : ∀ j, w.use ≠ .load j) :
    Does (.writeVerifyDone n m l) s fun t =>
      t.cellsOf n = { shardCells b with spares := (List.range 16).map fun i => s.word (R.SPARE_MAP.key n i) } ∧
      Counted s t R.PGM_CNT_COUNT n ∧ t.rd R.TCAL_PROG_PROG_REF n = m.progRef % 65536 ∧ (t.occOf n).digest = shDigest b ∧
      t.writes = s.writes.map fun x => if x.tile == w.tile then { x with st := 2 } else x := by
  have hrec := recordWrite_records s n (shardCells b) (shDigest b) m
  have hstep : writeDone s n m l = afterWrite (recordWrite s n (shardCells b) (shDigest b) m) w [(n.val, [])] := by
    cases hw : w.use with
    | load j => exact absurd hw (huse j)
    | stage | rewrite | copy => simp [writeDone, hfind, hshard, hpair, hsound, hw]
  obtain ⟨v, hv⟩ := afterWrite_sound (recordWrite s n (shardCells b) (shDigest b) m) w n
  exact ⟨_, congrArg Host.Outcome.next (hstep.trans hv), hrec.goesOn v w.tile _⟩

theorem writeVerifyDone_idle {s : State} {n : Fin 4096} {m l : WriteMeas}
    (h : s.writes.find? (fun w => w.tile == n.val && w.st == 1) = none) : Does (.writeVerifyDone n m l) s fun t => t = s :=
  ⟨s, congrArg Host.Outcome.next (by simp [writeDone, h]), rfl⟩

/-! ### Read-backs -/

theorem countReadback_writes (s : State) (n : Nat) (bad : Bool) (cells : Nat) : (countReadback s n bad cells).writes = s.writes := by
  unfold countReadback
  dsimp only
  split
  · exact raise_writes ..
  · rfl

/-- A read-back counted, the tile's slots beginning anew. -/
def State.readCounted (s : State) (n : Nat) : State := (s.bump R.RB_CNT_COUNT 0).putTile n { s.tile n with rbSlots := 0 }

/-- The last failed read-back shown: tile `n`, with `cells` cells that differ (R252, R254). -/
def State.lastRead (s : State) (n cells : Nat) : State := (s.wr R.RB_LAST_TILE 0 n).wrSat R.RB_LAST_CELLS 0 cells

theorem lastRead_rd_ne (s : State) (n cells : Nat) (f : Fld) (h : f.key 0 0 ≠ R.RB_LAST_TILE.key 0 0) :
    (s.lastRead n cells).rd f 0 = s.rd f 0 :=
  (rd_wr_ne (s.wr R.RB_LAST_TILE 0 n) R.RB_LAST_CELLS f 0 0 _ (.inl h)).trans (rd_wr_ne s R.RB_LAST_TILE f 0 0 n (.inl h))

theorem lastRead_tile (s : State) (n : Fin 4096) (cells : Nat) : (s.lastRead n cells).rd R.RB_LAST_TILE 0 = n :=
  calc (s.lastRead n cells).rd R.RB_LAST_TILE 0
      = (s.wr R.RB_LAST_TILE 0 n).rd R.RB_LAST_TILE 0 := rd_wr_ne _ R.RB_LAST_CELLS _ 0 0 _ (.inr (by decide))
    _ = n % 2 ^ 12 := rd_wr_same s R.RB_LAST_TILE 0 n (by decide)
    _ = n := Nat.mod_eq_of_lt n.isLt

/-- A read-back counted whose weights differ in `cells` cells (R252, R254). -/
def State.readFailed (s : State) (n cells : Nat) : State := ((s.readCounted n).bump R.RB_FAIL_CNT_COUNT 0).lastRead n cells

theorem countReadback_match (s : State) (n cells : Nat) : countReadback s n false cells = s.readCounted n := rfl

theorem countReadback_mismatch (s : State) (n cells : Nat) :
    countReadback s n true cells = (s.readFailed n cells).raise R.WSET_EVT_RB_FAIL 0 := rfl

theorem readCounted_rd (s : State) (n : Nat) (f : Fld) (i : Nat) : (s.readCounted n).rd f i = (s.bump R.RB_CNT_COUNT 0).rd f i := rfl

theorem readCounted_counted (s : State) (n : Nat) : Counted s (s.readCounted n) R.RB_CNT_COUNT 0 :=
  (readCounted_rd ..).trans (counted_bump s 0 (by decide))

theorem readFailed_count (s : State) (n cells : Nat) : Counted s (s.readFailed n cells) R.RB_CNT_COUNT 0 :=
  calc (s.readFailed n cells).rd R.RB_CNT_COUNT 0
      = ((s.readCounted n).bump R.RB_FAIL_CNT_COUNT 0).rd R.RB_CNT_COUNT 0 := lastRead_rd_ne _ n cells _ (by decide)
    _ = (s.readCounted n).rd R.RB_CNT_COUNT 0 := rd_wr_ne _ R.RB_FAIL_CNT_COUNT _ 0 0 _ (.inl (by decide))
    _ = _ := readCounted_counted s n

theorem readFailed_fails (s : State) (n cells : Nat) : Counted s (s.readFailed n cells) R.RB_FAIL_CNT_COUNT 0 := by
  have hbefore : (s.readCounted n).rd R.RB_FAIL_CNT_COUNT 0 = s.rd R.RB_FAIL_CNT_COUNT 0 :=
    (readCounted_rd ..).trans (rd_wr_ne s R.RB_CNT_COUNT R.RB_FAIL_CNT_COUNT 0 0 _ (.inl (by decide)))
  have hbump : Counted (s.readCounted n) ((s.readCounted n).bump R.RB_FAIL_CNT_COUNT 0) R.RB_FAIL_CNT_COUNT 0 :=
    counted_bump (s.readCounted n) 0 (by decide)
  unfold Counted at hbump ⊢
  rw [← hbefore, ← hbump]
  exact lastRead_rd_ne _ n cells _ (by decide)

/-- The event of a failed read-back leaves the other words as they are. -/
theorem raise_rbFail_rd (u : State) (f : Fld) (h : f.key 0 0 ≠ R.WSET_EVT_RB_FAIL.key 0 0) (hsys : f.key 0 0 ≠ 0x4) :
    (u.raise R.WSET_EVT_RB_FAIL 0).rd f 0 = u.rd f 0 := raise_rd_ne u R.WSET_EVT_RB_FAIL f 0 0 h hsys

/-- What a mismatch leaves in the counters and the last failure (R252). -/
theorem countReadback_fails (s : State) (n : Fin 4096) (cells : Nat) : Counted s (countReadback s n true cells) R.RB_CNT_COUNT 0 ∧
    Counted s (countReadback s n true cells) R.RB_FAIL_CNT_COUNT 0 ∧ (countReadback s n true cells).rd R.RB_LAST_TILE 0 = n ∧
    (countReadback s n true cells).on R.WSET_EVT_RB_FAIL 0 = true := by
  rw [countReadback_mismatch]
  exact ⟨(raise_rbFail_rd _ R.RB_CNT_COUNT (by decide) (by decide)).trans (readFailed_count ..),
    (raise_rbFail_rd _ R.RB_FAIL_CNT_COUNT (by decide) (by decide)).trans (readFailed_fails ..),
    (raise_rbFail_rd _ R.RB_LAST_TILE (by decide) (by decide)).trans (lastRead_tile ..),
    raise_on_same _ R.WSET_EVT_RB_FAIL 0 (by decide) (by decide) (by decide) (by decide)⟩

theorem beginTile_rd (s : State) (q n : Nat) (f : Fld) (i : Nat) (h : f.key i 0 ≠ R.TCAL_STAT.key n 0) :
    (beginTile s q n false).rd f i = s.rd f i := rd_wr_ne s R.TCAL_STAT_TABLE f n i tbMeasuring (.inl h)

theorem beginTile_measures (s : State) (q n : Nat) : (beginTile s q n false).rd R.TCAL_STAT_TABLE n = 1 :=
  rd_wr_same s R.TCAL_STAT_TABLE n tbMeasuring (by decide)

section
variable {s : State} {w : WriteReq}

/-- A single tile read back without mismatch awaits its roll call, which its round may still bring. -/
theorem beginIdleRoll_cases (s : State) (hpair : w.pair = false) :
    let rolled := mapWrite s w.tile fun x => { x with st := 3 }
    beginIdleRoll s w = rolled ∧ s.rd R.QCAL_STAT_STATE (quadOf w.tile) = 1 ∨
      beginIdleRoll s w = beginTile rolled (quadOf w.tile) w.tile false := by
  intro rolled
  by_cases hahead : (rolled.roundAhead w.tile && rolled.svc w.tile != svcHomework) = true
  · have hround := (Bool.and_eq_true_iff.1 hahead).1
    simp only [State.roundAhead, Bool.and_eq_true, beq_iff_eq] at hround
    exact .inl ⟨if_pos hahead, hround.1.1⟩
  · refine .inr ((if_neg hahead).trans ?_)
    rw [span, hpair]
    rfl

theorem beginIdleRoll_writes (hpair : w.pair = false) :
    (beginIdleRoll s w).writes = s.writes.map fun x => if x.tile == w.tile then { x with st := 3 } else x := by
  obtain ⟨h, -⟩ | h := beginIdleRoll_cases s hpair
  · rw [h, mapWrite_writes]
  · rw [h, writes_of_tileWork (beginTile_tileWork ..), mapWrite_writes]

theorem beginIdleRoll_rd (hpair : w.pair = false) (f : Fld) (i : Nat) (hkey : f.key i 0 ≠ R.TCAL_STAT.key w.tile 0) :
    (beginIdleRoll s w).rd f i = s.rd f i := by
  obtain ⟨h, -⟩ | h := beginIdleRoll_cases s hpair
  · rw [h, mapWrite_rd]
  · rw [h, beginTile_rd _ _ _ _ _ hkey, mapWrite_rd]

theorem beginIdleRoll_measures (hpair : w.pair = false) (hrun : s.rd R.QCAL_STAT_STATE (quadOf w.tile) ≠ 1) :
    (beginIdleRoll s w).rd R.TCAL_STAT_TABLE w.tile = 1 := by
  obtain ⟨-, h⟩ | h := beginIdleRoll_cases s hpair
  · exact absurd h hrun
  · rw [h, beginTile_measures]

end

section
variable {s : State} {n : Fin 4096} {cells low : List CellRead} {w : WriteReq}
  (hfind : s.writes.find? (fun w => w.tile == n.val && w.st == 2) = some w) (hpair : w.pair = false)
  (hslots : readSlots ≤ (s.tile n).rbSlots) (htries : w.tries = 0) (huse : ∀ j, w.use ≠ .load j)

include hfind hpair hslots htries huse in
theorem readbackDone_matches (hmatch : s.mismatch n cells = false) : Does (.readbackDone n cells low) s fun t =>
    Counted s t R.RB_CNT_COUNT 0 ∧ (s.rd R.QCAL_STAT_STATE (quadOf n) ≠ 1 → t.rd R.TCAL_STAT_TABLE n = 1) ∧
    t.writes = s.writes.map fun x => if x.tile == w.tile then { x with st := 3 } else x := by
  have htile := (found_write hfind).1
  have hstep : readbackDone s n cells low = beginIdleRoll (s.readCounted n) w := by
    rw [← countReadback_match s n (s.cellsOut n cells)]
    cases hw : w.use with
    | load j => exact absurd hw (huse j)
    | stage | rewrite | copy => simp [readbackDone, hfind, span, hpair, hslots, hmatch, htries, hw]
  refine ⟨_, congrArg Host.Outcome.next hstep, ?_, fun hrun => ?_, beginIdleRoll_writes hpair⟩
  · refine (beginIdleRoll_rd hpair _ 0 ?_).trans (readCounted_counted s n)
    simp only [R.RB_CNT_COUNT, R.TCAL_STAT, Fld.key, halfStep]
    omega
  · have hcounted : (s.readCounted n).rd R.QCAL_STAT_STATE (quadOf n) = s.rd R.QCAL_STAT_STATE (quadOf n) := by
      refine (readCounted_rd ..).trans (rd_wr_ne s R.RB_CNT_COUNT _ 0 _ _ (.inl ?_))
      simp only [R.RB_CNT_COUNT, R.QCAL_STAT_STATE, Fld.key, halfStep]
      omega
    rw [← htile] at hrun hcounted ⊢
    exact beginIdleRoll_measures hpair (hcounted.trans_ne hrun)

include hfind hpair hslots htries in
theorem readbackDone_mismatches (hbad : s.mismatch n cells = true) : Does (.readbackDone n cells low) s fun t =>
    Counted s t R.RB_CNT_COUNT 0 ∧ Counted s t R.RB_FAIL_CNT_COUNT 0 ∧ t.rd R.RB_LAST_TILE 0 = n ∧ t.on R.WSET_EVT_RB_FAIL 0 = true ∧
    t.writes = s.writes.map fun x => if x.tile == n.val then { x with st := 0, tries := 1 } else x := by
  have hstep : readbackDone s n cells low =
      mapWrite (countReadback s n true (s.cellsOut n cells)) n fun x => { x with st := 0, tries := 1 } := by
    simp [readbackDone, hfind, span, hpair, hslots, hbad, htries]
  obtain ⟨hcount, hfails, hlast, hevt⟩ := countReadback_fails s n (s.cellsOut n cells)
  refine ⟨_, congrArg Host.Outcome.next hstep, hcount, hfails, hlast, hevt, ?_⟩
  rw [mapWrite_writes, countReadback_writes]

end

theorem readbackDone_idle {s : State} {n : Fin 4096} {cells low : List CellRead}
    (hfind : s.writes.find? (fun w => w.tile == n.val && w.st == 2) = none) (hround : n.val ∉ s.rbNow (quadOf n)) :
    Does (.readbackDone n cells low) s fun t => t = s :=
  ⟨s, congrArg Host.Outcome.next (by simp [readbackDone, hfind, hround]), rfl⟩

/-! ### The periodic read-back -/

/-- The sequencer of quadrant `q` starts a read-back, unless one is on (R251). -/
def startReadback (s : State) (q : Nat) : State :=
  if (s.rbNow q).isEmpty then s.putQuad q { s.quad q with rbRound := [], readback := (tilesOf q).filter s.holdsShard } else s

/-- What the read-back of quadrant `q` goes by: its sequencer, and which tiles hold a shard. -/
def State.readbackOf (s : State) (q : Nat) : QuadCal × (Nat → Bool) := (s.quad q, s.holdsShard)

theorem quad_putQuad (s : State) (q i : Nat) (v : QuadCal) : (s.putQuad q v).quad i = if i = q then v else s.quad i := spGet_spSet ..

theorem startReadback_other (s : State) {q i : Nat} (h : i ≠ q) : (startReadback s i).readbackOf q = s.readbackOf q := by
  unfold startReadback
  split
  · rw [State.readbackOf, quad_putQuad, if_neg h.symm]
    rfl
  · rfl

theorem startReadback_readbackAt (s : State) (q : Nat) : (startReadback s q).readbackAt = s.readbackAt := by
  unfold startReadback
  split <;> rfl

theorem rbNow_of_readbackOf {s t : State} {q : Nat} (h : t.readbackOf q = s.readbackOf q) : t.rbNow q = s.rbNow q := by
  unfold State.rbNow
  rw [show t.quad q = s.quad q from congrArg Prod.fst h, show t.holdsShard = s.holdsShard from congrArg Prod.snd h]

theorem startReadback_readback {s u : State} {q : Nat} (h : u.readbackOf q = s.readbackOf q) : ((startReadback u q).quad q).readback =
    if s.rbNow q = [] then (tilesOf q).filter s.holdsShard else (s.quad q).readback := by
  unfold startReadback
  simp only [rbNow_of_readbackOf h, List.isEmpty_iff]
  split
  · rw [quad_putQuad, if_pos rfl, show u.holdsShard = s.holdsShard from congrArg Prod.snd h]
  · rw [show u.quad q = s.quad q from congrArg Prod.fst h]

theorem periodicReadback_starts {s : State} (hduties : s.dutiesRun = true) (hon : s.on R.WSET_CFG_RB_EN 0 = true)
    (hdue : s.passed s.readbackAt (60000 * msec * max 1 (s.rd R.WSET_CFG_RB_PERIOD 0)) = true) (hfirst : s.rd R.CAL_STAT_FIRST 0 = 3) :
    Does .periodicReadback s fun t => t.readbackAt = s.now ∧ ∀ q < 8, (t.quad q).readback =
      if s.rbNow q = [] then (tilesOf q).filter s.holdsShard else (s.quad q).readback := by
  have hexec : exec .periodicReadback s = .next ((s.setReadbackAt s.now).each (List.range 8) startReadback) :=
    congrArg Host.Outcome.next (if_pos (by simp [hduties, hon, hdue, hfirst]))
  refine ⟨_, hexec, each_keeps State.readbackAt _ _ _ startReadback_readbackAt, fun q hq => ?_⟩
  obtain ⟨u, hu, hall⟩ := each_at (State.readbackOf · q) (List.mem_range.2 hq) List.nodup_range
    (fun s i _ hi => startReadback_other s hi) (s.setReadbackAt s.now)
  exact (congrArg (·.1.readback) hall).trans (startReadback_readback (s := s) hu)

theorem periodicReadback_off {s : State} (hoff : s.on R.WSET_CFG_RB_EN 0 = false) : Does .periodicReadback s fun t => t = s :=
  ⟨s, congrArg Host.Outcome.next (if_neg (by simp [hoff])), rfl⟩

end Sys2Proof.Machine
end

section
/-! PROOF. The family of 07_drift_and_calibration.md: the move of a due tile to its copy, and the tiles written (O50). -/

namespace Sys2Proof.Machine

/-! ### The placements a tile serves -/

/-- Tile `b` serves no placement of job `j`. -/
def State.servesNone (s : State) (b j : Nat) : Prop := ∀ p ∈ (s.job j).placed, p.tile ≠ b

theorem servesNone_of_job {s t : State} {b j : Nat} (h : t.job j = s.job j) : t.servesNone b j ↔ s.servesNone b j := by
  rw [State.servesNone, State.servesNone, h]

/-- Whether a placement is served from tile `b`, or goes back to it. -/
def Placed.of (b : Nat) (p : Placed) : Bool := p.tile == b || p.old == some b || p.home == some b

/-- What moves to tile `c` is not served by the tile it leaves. -/
theorem moveTo_tile_ne {b c : Nat} (hne : c ≠ b) (keep : Bool) (p : Placed) : (moveTo b c keep p).tile ≠ b := by
  by_cases h : p.tile = b
  · simp [moveTo, h, hne]
  · simp [moveTo, h]

/-- The placements of job `j` that tile `b` serves move to tile `c`. -/
def moveJob (s : State) (b c : Nat) (j : Nat) : State :=
  if (s.job j).placed.any (Placed.of b) then
    s.putJob j { s.job j with placed := (s.job j).placed.map fun p => if p.of b then moveTo b c true p else p }
  else s

theorem mapServed_eq_each (s : State) (b c : Nat) : mapServed s b (moveTo b c true) = s.each jobNums fun s j => moveJob s b c j := rfl

theorem moveJob_servesNone (s : State) {b c : Nat} (hne : c ≠ b) (j : Nat) : (moveJob s b c j).servesNone b j := by
  unfold moveJob
  split
  next =>
    rw [State.servesNone, job_putJob_same]
    intro p hp
    obtain ⟨q, -, rfl⟩ := List.mem_map.1 hp
    split
    · exact moveTo_tile_ne hne true q
    · next hq => exact fun htile => hq (by simp [Placed.of, htile])
  next hnone =>
    intro p hp htile
    exact hnone (List.any_eq_true.2 ⟨p, hp, by simp [Placed.of, htile]⟩)

theorem moveJob_other (s : State) (b c : Nat) {i j : Nat} (h : j ≠ i) : (moveJob s b c i).job j = s.job j := by
  unfold moveJob
  split
  · rw [job_putJob, if_neg h]
  · rfl

theorem moveJob_homework (s : State) (b c j : Nat) : (moveJob s b c j).homework = s.homework := by
  unfold moveJob
  split <;> rfl

/-- After the move to tile `c`, no job is served by the tile it leaves. -/
theorem mapServed_servesNone (s : State) {b c : Nat} (hne : c ≠ b) {j : Nat} (hj : j < 16) :
    (mapServed s b (moveTo b c true)).servesNone b j := by
  rw [mapServed_eq_each]
  obtain ⟨u, -, hu⟩ := each_at (State.job · j) (List.mem_range.2 hj) List.nodup_range (fun s i _ hi => moveJob_other s b c hi.symm) s
  exact (servesNone_of_job hu).2 (moveJob_servesNone u hne j)

theorem mapServed_homework (s : State) (b c : Nat) : (mapServed s b (moveTo b c true)).homework = s.homework :=
  each_keeps State.homework jobNums _ s fun s j => moveJob_homework s b c j

/-! ### The move -/

theorem carryBatches_tileWork (s : State) (a b : Nat) (pair forced : Bool) : (carryBatches s a b pair forced).tileWork = s.tileWork := by
  refine each_tileWork _ _ s fun s e => ?_
  cases forced <;> rfl

/-- The tokens that go on change only what the fabric holds. -/
theorem forwardAll_keeps {β : Type} (g : State → β) (hfabric : ∀ s f, g (s.setFabric f) = g s) (s : State) (t : Nat) (pair : Bool) :
    g (forwardAll s t pair) = g s := by
  have hforward (s : State) (c : Nat) (k : Token) : g (forward s c k) = g s := by
    unfold forward
    split
    · exact hfabric ..
    · rfl
  have hwaiting (s : State) (c u : Nat) : g (forwardWaiting s c u) = g s :=
    each_keeps g _ _ s fun s h => (hforward ..).trans (hfabric ..)
  exact each_keeps g _ _ s fun s u => (hwaiting ..).trans (hwaiting ..)

/-- The tables of a single tile left, and the tile shown in homework with no stale table. -/
def State.leftForHomework (s : State) (n : Nat) : State := ((leaveTable s n).wr R.TCAL_STAT_SVC n svcHomework).wr R.TCAL_STAT_STALE n 0

theorem leftForHomework_tileWork (s : State) (n : Nat) : (s.leftForHomework n).tileWork = s.tileWork :=
  (wr_tileWork ..).trans ((wr_tileWork ..).trans (leaveTable_tileWork ..))

theorem leftForHomework_svc (s : State) (n : Nat) : (s.leftForHomework n).svc n = svcHomework :=
  (rd_wr_ne ((leaveTable s n).wr R.TCAL_STAT_SVC n svcHomework) R.TCAL_STAT_STALE R.TCAL_STAT_SVC n n 0 (.inr (by decide))).trans
    (rd_wr_same (leaveTable s n) R.TCAL_STAT_SVC n svcHomework (by decide))

/-- A single due tile is left, with its homework one step on and, where the store holds its shard, a request to rewrite it. -/
theorem leaveTile_eq (s : State) {h : Homework} (hpair : h.pair = false) : ∃ ws,
    leaveTile s h = (putHw (s.leftForHomework h.tile) { h with step := 3 }).setWrites ws := by
  unfold leaveTile setSvc span
  rw [hpair]
  dsimp only
  split
  · exact ⟨_, rfl⟩
  · exact ⟨_, rfl⟩

/-- Homework put in place of the tile's, and requests: what they leave of the tiles and the jobs. -/
theorem putHw_setWrites_svc (s : State) (h : Homework) (ws : List WriteReq) (n : Nat) : ((putHw s h).setWrites ws).svc n = s.svc n := (rfl)

theorem putHw_setWrites_job (s : State) (h : Homework) (ws : List WriteReq) (j : Nat) : ((putHw s h).setWrites ws).job j = s.job j := (rfl)

theorem putHw_setWrites_homework (s : State) (h : Homework) (ws : List WriteReq) :
    ((putHw s h).setWrites ws).homework = s.homework.map fun x => if x.tile == h.tile then h else x := (rfl)

/-- The batches and the jobs of a due tile moved to tile `c` (R204, R211). -/
def State.jobsMoved (s : State) (b c : Nat) (forced : Bool) : State := mapServed (carryBatches s b c false forced) b (moveTo b c true)

theorem jobsMoved_homework (s : State) (b c : Nat) (forced : Bool) : (s.jobsMoved b c forced).homework = s.homework :=
  (mapServed_homework ..).trans (homework_of_tileWork (carryBatches_tileWork ..))

/-- A due tile that its jobs have left, its tables left too and its rewriting asked for. -/
def State.movedAway (s : State) (h : Homework) (c : Nat) (forced : Bool) : State :=
  forwardAll (leaveTile (s.jobsMoved h.tile c forced) h) h.tile false

section
variable {s : State} {h : Homework} {c : Nat} {forced : Bool}

theorem movedAway_svc (hpair : h.pair = false) : (s.movedAway h c forced).svc h.tile = svcHomework := by
  obtain ⟨ws, hleave⟩ := leaveTile_eq (s.jobsMoved h.tile c forced) hpair
  rw [State.movedAway, forwardAll_keeps (State.svc · h.tile) (fun _ _ => rfl), hleave, putHw_setWrites_svc, leftForHomework_svc]

theorem movedAway_homework (hpair : h.pair = false) (hhw : s.homework = [h]) :
    (s.movedAway h c forced).homework = [{ h with step := 3 }] := by
  obtain ⟨ws, hleave⟩ := leaveTile_eq (s.jobsMoved h.tile c forced) hpair
  rw [State.movedAway, forwardAll_keeps State.homework (fun _ _ => rfl), hleave, putHw_setWrites_homework,
    homework_of_tileWork (leftForHomework_tileWork ..), jobsMoved_homework, hhw]
  simp

theorem movedAway_servesNone (hpair : h.pair = false) (hne : c ≠ h.tile) {j : Nat} (hj : j < 16) :
    (s.movedAway h c forced).servesNone h.tile j := by
  obtain ⟨ws, hleave⟩ := leaveTile_eq (s.jobsMoved h.tile c forced) hpair
  have hjob : (s.movedAway h c forced).job j = (s.jobsMoved h.tile c forced).job j := by
    rw [State.movedAway, forwardAll_keeps (State.job · j) (fun _ _ => rfl), hleave, putHw_setWrites_job,
      job_of_tileWork (leftForHomework_tileWork ..)]
  exact (servesNone_of_job hjob).2 (mapServed_servesNone _ hne hj)

/-- The first move of a single tile's homework is to its copy. -/
theorem copyMove_eq_movedAway (hpair : h.pair = false) (hstep : h.step = 2) (hcopy : h.copy = some c) (hlost : h.lost = false) :
    copyMove s h forced = s.movedAway h c forced := by
  simp only [copyMove, hstep, hcopy, hlost, hpair, if_true, Bool.false_eq_true, if_false]
  rfl

end

section
variable {s : State} {n : Fin 4096} {h : Homework}

/-- The homework that a single tile's move finds. -/
theorem copyMove_found (hhw : s.homework = [h]) (htile : h.tile = n.val) (hpair : h.pair = false) :
    (s.homework.find? fun h => (span h.tile h.pair).contains n.val) = some h := by
  simp [hhw, htile, hpair, span]

theorem copyMove_moves {c : Nat} (hhw : s.homework = [h]) (htile : h.tile = n.val) (hpair : h.pair = false) (hstep : h.step = 2)
    (hcopy : h.copy = some c) (hne : c ≠ n.val) (hlost : h.lost = false) (hduties : s.dutiesRun = true)
    (hmove : s.movePoint h = true ∨ s.moveLate h = true) : Does (.copyMove n) s fun t => t.svc n = svcHomework ∧
      t.homework = [{ h with step := 3 }] ∧ ∀ j < 16, ∀ p ∈ (t.job j).placed, p.tile ≠ n.val := by
  have hexec : exec (.copyMove n) s = .next (s.movedAway h c (!s.movePoint h)) := by
    refine congrArg Host.Outcome.next ?_
    rw [copyMove_found hhw htile hpair, ← copyMove_eq_movedAway hpair hstep hcopy hlost]
    exact if_pos (by simpa [hduties] using hmove)
  rw [← htile] at hne ⊢
  exact ⟨_, hexec, movedAway_svc hpair, movedAway_homework hpair hhw, fun j hj => movedAway_servesNone hpair hne hj⟩

theorem copyMove_waits (hhw : s.homework = [h]) (hwait : s.dutiesRun = false ∨ (s.movePoint h = false ∧ s.moveLate h = false)) :
    Does (.copyMove n) s fun t => t = s := by
  refine ⟨s, congrArg Host.Outcome.next ?_, rfl⟩
  have hdue : (s.dutiesRun && (s.movePoint h || s.moveLate h)) = false := by
    obtain hduties | ⟨hpoint, hlate⟩ := hwait
    · simp [hduties]
    · simp [hpoint, hlate]
  split
  · rfl
  · next g hfind =>
    obtain rfl : g = h := by simpa [hhw] using List.mem_of_find?_eq_some hfind
    simp [hdue]

theorem copyMove_idle (hnone : ∀ h ∈ s.homework, n.val ∉ span h.tile h.pair) : Does (.copyMove n) s fun t => t = s := by
  have hfind : (s.homework.find? fun h => (span h.tile h.pair).contains n.val) = none :=
    List.find?_eq_none.2 fun h hh => by simpa using hnone h hh
  exact ⟨s, congrArg Host.Outcome.next (by rw [hfind]), rfl⟩

end

/-- Settles O50: each clause is the lemma of its step. A request, a read-back and a due tile are followed through what the registers, the
tables and the placements keep (`State.tileWork`, `mapServed_servesNone`). -/
theorem tilesAreWritten : Obligations.TilesAreWritten := by
  unfold Obligations.TilesAreWritten
  intro s
  refine ⟨fun q => ⟨fun w b hpwr hnext _ hshard hrewrite => ?_, writeVerifyStart_idle⟩,
    fun tl m l => ⟨fun w b hfind hpair hshard hsound huse => writeVerifyDone_records hfind hpair hshard hsound huse, writeVerifyDone_idle⟩,
    fun tl cells low => ⟨fun w hfind hpair hslots htries huse =>
      ⟨readbackDone_matches hfind hpair hslots htries huse, readbackDone_mismatches hfind hpair hslots htries⟩, readbackDone_idle⟩,
    periodicReadback_starts, periodicReadback_off,
    fun tl h c hhw htile hpair hstep hcopy hne hlost hduties hmove =>
      copyMove_moves hhw htile hpair hstep hcopy hne hlost hduties hmove,
    fun tl h hhw hwait => copyMove_waits hhw hwait, fun tl hnone => copyMove_idle hnone⟩
  cases hok : shDigestOk b (mfDigest (s.slot w.slot).manifest w.no)
  case true =>
    obtain ⟨t, hexec, hwrites⟩ := writeVerifyStart_begins hpwr hnext hshard hrewrite hok
    exact ⟨t, hexec, fun _ => hwrites, fun hbad => absurd hbad (by decide)⟩
  case false =>
    refine ⟨_, writeVerifyStart_refuses hpwr hnext hshard hok, fun h => absurd h (by decide), fun _ huse => ?_⟩
    rw [refuseWrite_homework huse]
    exact ⟨givenUp_writes s w, givenUp_storeBad s w⟩

end Sys2Proof.Machine
end

section
/-! PROOF. The family of 08_weights_and_the_bell.md: bulk arms, frames and the slots of the golden store (O51). -/

namespace Sys2Proof.Machine

/-! ### Runs of bytes -/

/-- A key outside the run that is written reads as before. -/
theorem spGet_spSetList_outside {α : Type} [DecidableEq α] (d : Nat → α) (m : Sparse α) (k : Nat) (vs : List α) {a : Nat}
    (h : a < k ∨ k + vs.length ≤ a) : spGet d (spSetList d m k 1 vs) a = spGet d m a := by
  induction vs generalizing m k with
  | nil => rfl
  | cons v vs ih =>
    rw [List.length_cons] at h
    rw [spSetList, ih _ _ (by omega), spGet_spSet_ne _ _ _ (by omega)]

/-- A run reads back as it was written. -/
theorem spGetList_spSetList {α : Type} [DecidableEq α] (d : Nat → α) (m : Sparse α) (k : Nat) (vs : List α) :
    spGetList d (spSetList d m k 1 vs) k 1 vs.length = vs := by
  induction vs generalizing m k with
  | nil => rfl
  | cons v vs ih =>
    rw [spSetList, List.length_cons, spGetList, ih, spGet_spSetList_outside _ _ _ _ (.inl (Nat.lt_succ_self k)), spGet_spSet_same]

theorem stBytes_of_staging {s t : State} {a : Nat} {b : List Byte} (h : t.staging = (s.putSt a b).staging) : t.stBytes a b.length = b := by
  rw [State.stBytes, h]
  exact spGetList_spSetList ..

theorem stByte_of_staging {s t : State} {a : Nat} {b : List Byte} (h : t.staging = (s.putSt a b).staging) {x : Nat}
    (hx : x < a ∨ a + b.length ≤ x) : t.stByte x = s.stByte x := by
  rw [State.stByte, h]
  exact spGet_spSetList_outside _ _ _ _ hx

/-! ### Arms -/

theorem arm_putArm_same (s : State) (k : Nat) (v : Arm) : (s.putArm k v).arm k = v := spGet_spSet_same ..

theorem arm_putArm (s : State) (k i : Nat) (v : Arm) : (s.putArm k v).arm i = if i = k then v else s.arm i := spGet_spSet ..

theorem arm_of_arms {s t : State} (h : t.arms = s.arms) (k : Nat) : t.arm k = s.arm k := by
  rw [State.arm, h]
  rfl

theorem armFor_of_arms {s t : State} (h : t.arms = s.arms) (p : Nat) : t.armFor p = s.armFor p := by
  simp only [State.armFor, arm_of_arms h]

/-- State `t` is state `s` but for the arms and their status registers. -/
structure ArmsNoted (s t : State) : Prop where
  frame : t = (s.setArms t.arms).setRegs t.regs
  word : ∀ x < 0x60840, t.word x = s.word x

theorem ArmsNoted.refl (s : State) : ArmsNoted s s := ⟨rfl, fun _ _ => rfl⟩

theorem ArmsNoted.trans {s t u : State} (h : ArmsNoted s t) (h' : ArmsNoted t u) : ArmsNoted s u where
  frame := by
    rw [h'.frame, h.frame]
    rfl
  word x hx := (h'.word x hx).trans (h.word x hx)

theorem ArmsNoted.store {s t : State} (h : ArmsNoted s t) : t.store = s.store := by
  rw [h.frame]
  rfl

theorem ArmsNoted.staging {s t : State} (h : ArmsNoted s t) : t.staging = s.staging := by
  rw [h.frame]
  rfl

theorem ArmsNoted.bulk {s t : State} (h : ArmsNoted s t) : t.bulk = s.bulk := by
  rw [h.frame]
  rfl

theorem armsNoted_putArm (s : State) (k : Nat) (v : Arm) : ArmsNoted s (s.putArm k v) := ⟨rfl, fun _ _ => rfl⟩

theorem armsNoted_wr (s : State) {f : Fld} (hf : 0x60840 ≤ f.base) (i v : Nat) : ArmsNoted s (s.wr f i v) :=
  ⟨rfl, fun x hx => word_wr_ne s f i v (by have := key_ge_base f i 0; omega)⟩

theorem armsNoted_showArm (s : State) (k : Nat) : ArmsNoted s (showArm s k) := by
  have harmed := armsNoted_wr s (f := R.BULK_STAT_ARMED) (by decide) k (s.arm k).set.toNat
  unfold showArm State.wrB
  dsimp only
  split
  · exact (harmed.trans (armsNoted_wr _ (by decide) ..)).trans (armsNoted_wr _ (by decide) ..)
  · exact harmed

theorem arms_showArm (s : State) (k : Nat) : (showArm s k).arms = s.arms := by
  unfold showArm
  dsimp only
  split <;> rfl

theorem armsNoted_clearArm (s : State) (k : Nat) : ArmsNoted s (clearArm s k) := (armsNoted_putArm ..).trans (armsNoted_showArm ..)

theorem clearArm_set (s : State) (k : Nat) : ((clearArm s k).arm k).set = false := by
  rw [clearArm, arm_of_arms (arms_showArm ..), arm_putArm_same]

theorem armsNoted_clearSlotArms (s : State) (n : Nat) : ArmsNoted s (clearSlotArms s n) := by
  refine each_inv (ArmsNoted s) _ _ s (fun t k ht => ?_) (.refl s)
  split
  · exact ht.trans (armsNoted_clearArm t k)
  · exact ht

/-- The arm of a port depends on which arms are set, and for which ports. -/
theorem armFor_putArm (s : State) (k : Nat) {v : Arm} (hset : v.set = (s.arm k).set) (hport : v.port = (s.arm k).port) (p : Nat) :
    (s.putArm k v).armFor p = s.armFor p := by
  have halike (i : Nat) : ((s.putArm k v).arm i).set = (s.arm i).set ∧ ((s.putArm k v).arm i).port = (s.arm i).port := by
    rw [arm_putArm]
    split
    next h => rw [h]; exact ⟨hset, hport⟩
    next => exact ⟨rfl, rfl⟩
  simp only [State.armFor, (halike _).1, (halike _).2]

/-! ### The commands on arms -/

/-- A command that is refused leaves the arms and the golden store. -/
theorem running_respond_store (s : State) (m : Nat) (st : Status) (d : Nat) (data : List Byte) :
    ((s.running m).respond m st d data).Answers m st data ∧ ((s.running m).respond m st d data).store = s.store :=
  ⟨respond_answers .., respond_store ..⟩

theorem running_respond_arms (s : State) (m : Nat) (st : Status) (d : Nat) (data : List Byte) :
    ((s.running m).respond m st d data).Answers m st data ∧ ((s.running m).respond m st d data).arms = s.arms :=
  ⟨respond_answers .., respond_arms ..⟩

/-- An arm set and answered with its number stands as it was set. -/
theorem armSet_answers (s : State) (m k : Nat) (v : Arm) : let t := (showArm (s.putArm k v) k).respond m .ok 0 (leBytes 1 k)
    t.Answers m .ok (leBytes 1 k) ∧ t.arm k = v := by
  refine ⟨respond_answers .., ?_⟩
  rw [arm_of_arms (respond_arms ..), arm_of_arms (arms_showArm ..), arm_putArm_same]

section
variable {s : State} {m : Fin 16}

section
variable (h : s.begins m 0x0501 true (s.rxClock (s.req m 8 1)) true = true)
include h

/-- STREAM_BULK_ARM, as the checks of its range and its arm decide (R272, R273). -/
theorem streamBulkArm_eq : exec (.streamBulkArm m) s = .next (
    if s.armsBusy (s.req m 8 1) || s.rangeBusy (s.req m 0x0C 4) (s.req m 0x10 4) then (s.running m).respond m .bulkBusy 0 []
    else if s.req m 0x0C 4 < bulkBase ∨ bulkEnd < s.req m 0x0C 4 + s.req m 0x10 4 then (s.running m).respond m .bulkRange 0 []
    else
      let u := (s.running m).setBulk (s.bulk.filter fun r => !overlaps (s.req m 0x0C 4) (s.req m 0x10 4) r.addr r.len)
      (showArm (u.putArm s.armFree ⟨true, s.req m 8 1, s.req m 9 1, s.req m 0x0C 4, s.req m 0x10 4, 0, 0, false, 0, [], []⟩)
        s.armFree).respond m .ok 0 (leBytes 1 s.armFree)) := by
  have hreq (s : State) (l : List BulkRange) (off n : Nat) : (s.setBulk l).req m off n = s.req m off n := rfl
  simp only [exec, execStreamBulkArm, peade_begins 0 _ h, req_running, hreq]
  rfl

theorem streamBulkArm_busy (hbusy : s.armsBusy (s.req m 8 1) = true ∨ s.rangeBusy (s.req m 0x0C 4) (s.req m 0x10 4) = true) :
    Does (.streamBulkArm m) s fun t => t.Answers m .bulkBusy [] ∧ t.arms = s.arms := by
  refine ⟨_, ?_, running_respond_arms s m .bulkBusy 0 []⟩
  rw [streamBulkArm_eq h, if_pos (by simpa using hbusy)]

theorem streamBulkArm_outside (harms : s.armsBusy (s.req m 8 1) = false) (hrange : s.rangeBusy (s.req m 0x0C 4) (s.req m 0x10 4) = false)
    (hout : s.req m 0x0C 4 < 0x01400000 ∨ 0x02000000 < s.req m 0x0C 4 + s.req m 0x10 4) :
    Does (.streamBulkArm m) s fun t => t.Answers m .bulkRange [] ∧ t.arms = s.arms := by
  refine ⟨_, ?_, running_respond_arms s m .bulkRange 0 []⟩
  rw [streamBulkArm_eq h, if_neg (by simp [harms, hrange]), if_pos hout]

theorem streamBulkArm_sets (harms : s.armsBusy (s.req m 8 1) = false) (hrange : s.rangeBusy (s.req m 0x0C 4) (s.req m 0x10 4) = false)
    (hlo : 0x01400000 ≤ s.req m 0x0C 4) (hhi : s.req m 0x0C 4 + s.req m 0x10 4 ≤ 0x02000000) :
    Does (.streamBulkArm m) s fun t => t.Answers m .ok (leBytes 1 s.armFree) ∧
      t.arm s.armFree = ⟨true, s.req m 8 1, s.req m 9 1, s.req m 0x0C 4, s.req m 0x10 4, 0, 0, false, 0, [], []⟩ := by
  have hexec := streamBulkArm_eq h
  rw [if_neg (by simp [harms, hrange]), if_neg (by simp only [bulkBase, bulkEnd]; omega)] at hexec
  exact ⟨_, hexec, armSet_answers ..⟩

end

/-- STREAM_BULK_DISARM (R272). -/
theorem streamBulkDisarm_eq (h : s.begins m 0x0502 true true true = true) : exec (.streamBulkDisarm m) s = .next (
    if (s.arm (s.req m 8 1)).set && (s.arm (s.req m 8 1)).inFrame then (s.running m).respond m .bulkBusy 0 []
    else if !(s.arm (s.req m 8 1)).set || (s.arm (s.req m 8 1)).purpose == 5 then (s.running m).respond m .badParam 8 []
    else (clearArm (s.running m) (s.req m 8 1)).respond m .ok 0 []) := by
  simp only [exec, execStreamBulkDisarm, peade_begins 0 _ h, req_running]
  rfl

theorem streamBulkDisarm_busy (h : s.begins m 0x0502 true true true = true) (hset : (s.arm (s.req m 8 1)).set = true)
    (hframe : (s.arm (s.req m 8 1)).inFrame = true) :
    Does (.streamBulkDisarm m) s fun t => t.Answers m .bulkBusy [] ∧ t.arms = s.arms := by
  refine ⟨_, ?_, running_respond_arms s m .bulkBusy 0 []⟩
  rw [streamBulkDisarm_eq h, if_pos (by simp [hset, hframe])]

theorem streamBulkDisarm_clears (h : s.begins m 0x0502 true true true = true) (hset : (s.arm (s.req m 8 1)).set = true)
    (hframe : (s.arm (s.req m 8 1)).inFrame = false) (hpurpose : (s.arm (s.req m 8 1)).purpose ≠ 5) :
    Does (.streamBulkDisarm m) s fun t => t.Answers m .ok [] ∧ (t.arm (s.req m 8 1)).set = false := by
  refine ⟨(clearArm (s.running m) (s.req m 8 1)).respond m .ok 0 [], ?_, respond_answers .., ?_⟩
  · rw [streamBulkDisarm_eq h, if_neg (by simp [hframe]), if_neg (by simp [hset, hpurpose])]
  · rw [arm_of_arms (respond_arms ..), clearArm_set]

/-! ### The commands on slots -/

/-- An arm is set for the manifest of slot `n`. -/
def State.named (s : State) (n : Nat) : Bool := (List.range 4).any fun k => (s.arm k).set && (s.arm k).purpose == 4 && (s.arm k).slot == n

section
variable (h : s.begins m 0x0201 true (s.rxClock (s.req m 0x0A 1)) true = true)
include h

/-- WSET_BEGIN (R231, R272). -/
theorem wsetBegin_eq : exec (.wsetBegin m) s = .next (
    if (s.slot (s.req m 8 1)).st != slFree || s.named (s.req m 8 1) then (s.running m).respond m .slotState 0 []
    else if s.armsBusy (s.req m 0x0A 1) then (s.running m).respond m .bulkBusy 0 []
    else (showArm ((s.running m).putArm s.armFree
      ⟨true, s.req m 0x0A 1, 4, bulkBase, 348288, s.req m 8 1, s.req m 9 1, false, 0, [], []⟩) s.armFree).respond m .ok 0
        (leBytes 1 s.armFree)) := by
  simp only [exec, execWsetBegin, peade_begins 0 _ h, req_running]
  rfl

theorem wsetBegin_refused (hst : (s.slot (s.req m 8 1)).st ≠ 0) :
    Does (.wsetBegin m) s fun t => t.Answers m .slotState [] ∧ t.arms = s.arms := by
  refine ⟨_, ?_, running_respond_arms s m .slotState 0 []⟩
  rw [wsetBegin_eq h, if_pos (by simp [hst])]

theorem wsetBegin_arms (hst : (s.slot (s.req m 8 1)).st = 0) (harms : s.armsBusy (s.req m 0x0A 1) = false)
    (hnamed : ∀ k < 4, (s.arm k).set = true → (s.arm k).purpose = 4 → (s.arm k).slot ≠ s.req m 8 1) :
    Does (.wsetBegin m) s fun t => t.Answers m .ok (leBytes 1 s.armFree) ∧ (t.arm s.armFree).set = true ∧ (t.arm s.armFree).purpose = 4 ∧
      (t.arm s.armFree).slot = s.req m 8 1 ∧ (t.arm s.armFree).port = s.req m 0x0A 1 := by
  have hnot : s.named (s.req m 8 1) = false := by simpa [State.named, and_imp] using hnamed
  obtain ⟨hanswer, harm⟩ := armSet_answers (s.running m) m s.armFree
    ⟨true, s.req m 0x0A 1, 4, bulkBase, 348288, s.req m 8 1, s.req m 9 1, false, 0, [], []⟩
  refine ⟨_, ?_, hanswer, ?_⟩
  · rw [wsetBegin_eq h, if_neg (by simp [hst, hnot]), if_neg (by simp [harms])]
  · rw [harm]
    exact ⟨rfl, rfl, rfl, rfl⟩

end

theorem slot_putSlot_same (s : State) (n : Nat) (v : StoreSlot) : (s.putSlot n v).slot n = v := spGet_spSet_same ..

theorem putSlot_bulk (s : State) (n : Nat) (v : StoreSlot) : (s.putSlot n v).bulk = s.bulk := rfl

theorem slot_of_store {s t : State} (h : t.store = s.store) (n : Nat) : t.slot n = s.slot n := by
  rw [State.slot, h]
  rfl

section
variable (h : s.begins m 0x0202 true true true = true)
include h

/-- WSET_COMMIT (R233). -/
theorem wsetCommit_eq : exec (.wsetCommit m) s = .next (
    if (s.slot (s.req m 8 1)).st != slReceiving then (s.running m).respond m .slotState 0 []
    else match (s.slot (s.req m 8 1)).absent with
      | some e => (s.running m).respond m .wsetMissing e []
      | none => (((clearSlotArms (s.running m) (s.req m 8 1)).putSlot (s.req m 8 1) { s.slot (s.req m 8 1) with st := slHeld }).raise
          R.WSET_EVT_SET_HELD 0).respond m .ok 0 []) := by
  simp only [exec, execWsetCommit, peade_begins 0 _ h, req_running]
  rfl

theorem wsetCommit_refused (hst : (s.slot (s.req m 8 1)).st ≠ 1) :
    Does (.wsetCommit m) s fun t => t.Answers m .slotState [] ∧ t.store = s.store := by
  refine ⟨_, ?_, running_respond_store s m .slotState 0 []⟩
  rw [wsetCommit_eq h, if_pos (by simp [hst])]

theorem wsetCommit_missing {e : Nat} (hst : (s.slot (s.req m 8 1)).st = 1) (habsent : (s.slot (s.req m 8 1)).absent = some e) :
    Does (.wsetCommit m) s fun t => t.Answers m .wsetMissing [] ∧ t.store = s.store := by
  refine ⟨_, ?_, running_respond_store s m .wsetMissing e []⟩
  rw [wsetCommit_eq h, if_neg (by simp [hst]), habsent]

theorem wsetCommit_holds (hst : (s.slot (s.req m 8 1)).st = 1) (hwhole : (s.slot (s.req m 8 1)).absent = none) :
    Does (.wsetCommit m) s fun t => t.Answers m .ok [] ∧ t.slot (s.req m 8 1) = { s.slot (s.req m 8 1) with st := 2 } ∧
      t.on R.WSET_EVT_SET_HELD 0 = true := by
  refine ⟨_, by rw [wsetCommit_eq h, if_neg (by simp [hst]), hwhole], respond_answers .., ?_, ?_⟩
  · rw [slot_of_store (respond_store ..), slot_of_store (raise_store ..), slot_putSlot_same]
  · have hkey : R.WSET_EVT_SET_HELD.key 0 0 = 0x51004 := by decide
    rw [State.on, respond_rd_ne _ _ _ _ _ _ _ (by omega) (fun w hw => by omega)]
    exact raise_on_same _ R.WSET_EVT_SET_HELD 0 (by decide) (by decide) (by decide) (by decide)

end

theorem usesSlot_running (s : State) (m j n : Nat) : (s.running m).usesSlot j n = s.usesSlot j n := by
  simp only [State.usesSlot, job_running, rd_running (f := R.WSET_JOB_SLOT) (by decide), rd_running (f := R.WSET_JOB_STAGE) (by decide),
    rd_running (f := R.WSET_JOB_NEW_SLOT) (by decide)]

/-- A slot that receives or holds a set is neither free nor being erased. -/
theorem slot_standing {st : Nat} (h : st = 1 ∨ st = 2) : st ≠ slFree ∧ st ≠ slErasing := by
  obtain rfl | rfl := h <;> decide

section
variable (h : s.begins m 0x0203 true true true = true)
include h

/-- WSET_DELETE (R229, R250). -/
theorem wsetDelete_eq : exec (.wsetDelete m) s = .next (
    if (s.slot (s.req m 8 1)).st == slFree || (s.slot (s.req m 8 1)).st == slErasing then (s.running m).respond m .slotState 0 []
    else if jobNums.any fun j => s.usesSlot j (s.req m 8 1) then (s.running m).respond m .wsetInUse 0 []
    else
      let u := clearSlotArms (s.running m) (s.req m 8 1)
      (u.setBulk (u.bulk.filter fun r => !(r.purpose == 5 && r.slot == s.req m 8 1))).putSlot (s.req m 8 1)
        { s.slot (s.req m 8 1) with st := slErasing }) := by
  simp only [exec, execWsetDelete, peade_begins 0 _ h, req_running, usesSlot_running]
  rfl

theorem wsetDelete_refused (hst : (s.slot (s.req m 8 1)).st = 0 ∨ (s.slot (s.req m 8 1)).st = 3) :
    Does (.wsetDelete m) s fun t => t.Answers m .slotState [] ∧ t.store = s.store := by
  refine ⟨_, ?_, running_respond_store s m .slotState 0 []⟩
  rw [wsetDelete_eq h, if_pos (by simpa using hst)]

theorem wsetDelete_inUse (hst : (s.slot (s.req m 8 1)).st = 1 ∨ (s.slot (s.req m 8 1)).st = 2)
    (huse : ∃ j < 16, s.usesSlot j (s.req m 8 1) = true) : Does (.wsetDelete m) s fun t => t.Answers m .wsetInUse [] ∧ t.store = s.store := by
  refine ⟨_, ?_, running_respond_store s m .wsetInUse 0 []⟩
  rw [wsetDelete_eq h, if_neg (by simp [slot_standing hst]), if_pos (by simpa [jobNums] using huse)]

theorem wsetDelete_erases (hst : (s.slot (s.req m 8 1)).st = 1 ∨ (s.slot (s.req m 8 1)).st = 2)
    (hfree : ∀ j < 16, s.usesSlot j (s.req m 8 1) = false) :
    Does (.wsetDelete m) s fun t => (t.slot (s.req m 8 1)).st = 3 ∧ t.mbState m = mbRunning := by
  have hkey := MBX_STAT_key m
  have hexec := wsetDelete_eq h
  rw [if_neg (by simp [slot_standing hst]), if_neg (by simpa [jobNums] using hfree)] at hexec
  refine ⟨_, hexec, congrArg StoreSlot.st (slot_putSlot_same ..), (rd_of_word ?_).trans (mbState_running s m)⟩
  rw [putSlot_word _ _ _ (by omega)]
  exact (armsNoted_clearSlotArms (s.running m) (s.req m 8 1)).word _ (by omega)

end

theorem slotEntry_running (s : State) (m n : Nat) : (s.running m).slotEntry n = s.slotEntry n := by
  simp only [State.slotEntry, rd_running (f := R.WSET_SLOT_JOBS) (by decide), rd_running (f := R.WSET_SLOT_ID_WSET_ID) (by decide)]
  rfl

/-- WSET_LIST (R312). -/
theorem wsetList_answers (h : s.begins m 0x0204 true true true = true) : Does (.wsetList m) s fun t => t.Answers m .ok
    ((((List.range 8).drop (s.req m 8 1)).take 4).flatMap s.slotEntry) ∧ t.store = s.store := by
  refine ⟨_, ?_, running_respond_store s m .ok 0 _⟩
  simp only [exec, execWsetList, peade_begins 0 _ h, req_running, funext (slotEntry_running s m)]

end

/-! ### Shards and slots of the store -/

section
variable {s : State} {n : Fin 8}

theorem shardWritten_stands {no : Fin 65536} {r : BulkRange}
    (hfind : s.bulk.find? (fun r => r.purpose == 5 && r.slot == n.val && r.shard == no.val) = some r) : Does (.shardWritten n no) s fun t =>
      t.bulk = s.bulk.erase r ∧ (t.slot n).shards = (s.slot n).shards ++ [(no.val, s.stBytes r.addr r.len)] := by
  refine ⟨_, by simp only [exec, execShardWritten, hfind]; rfl, putSlot_bulk .., ?_⟩
  rw [slot_putSlot_same]

theorem shardWritten_idle {no : Fin 65536} (hfind : s.bulk.find? (fun r => r.purpose == 5 && r.slot == n.val && r.shard == no.val) = none) :
    Does (.shardWritten n no) s fun t => t = s := ⟨s, by simp only [exec, execShardWritten, hfind], rfl⟩

/-- An erased slot is FREE, and the WSET_DELETE that asked for it is answered (R229). -/
theorem eraseDone_frees (hst : (s.slot n).st = 3) : Does (.eraseDone n) s fun t => t.slot n = StoreSlot.free ∧
    ∀ m, s.runningWith 0x0203 n = some m → m < 16 → t.Answers m .ok [] := by
  have hrun : (s.putSlot n.val StoreSlot.free).runningWith 0x0203 n = s.runningWith 0x0203 n :=
    runningWith_of_words (s := s) (u := s.putSlot n StoreSlot.free) rfl (fun x _ hx => putSlot_word _ _ _ (by omega)) 0x0203 n
  cases hmbx : s.runningWith 0x0203 n with
  | none =>
    have hexec : exec (.eraseDone n) s = .next (s.putSlot n StoreSlot.free) := by simp [exec, execEraseDone, hst, hrun, hmbx]
    exact ⟨_, hexec, slot_putSlot_same .., fun m hm => by cases hm⟩
  | some q =>
    have hexec : exec (.eraseDone n) s = .next ((s.putSlot n StoreSlot.free).respond q .ok 0 []) := by
      simp [exec, execEraseDone, hst, hrun, hmbx]
    refine ⟨_, hexec, ?_, fun m hm _ => ?_⟩
    · rw [slot_of_store (respond_store ..), slot_putSlot_same]
    · obtain rfl := Option.some.inj hm
      exact respond_answers ..

theorem eraseDone_idle (hst : (s.slot n).st ≠ 3) : Does (.eraseDone n) s fun t => t = s :=
  ⟨s, congrArg Host.Outcome.next (if_pos (by simpa using hst)), rfl⟩

end

/-! ### Records and the end of a frame -/

theorem openFrame_eq (s : State) (t vc : Nat) : ∃ c x, openFrame s t vc = (s.setChans c).setTx x := by
  unfold openFrame
  dsimp only
  split
  · exact ⟨s.chans, s.tx, rfl⟩
  · exact ⟨_, _, rfl⟩

/-- A record of a frame's outcome changes what waits on the record channel and its frame. -/
theorem bulkOutcome_eq (s : State) (k result addr got shard : Nat) : ∃ q n c t,
    bulkOutcome s k result addr got shard = (((s.setRecQ q).setRecSeq n).setChans c).setTx t := by
  obtain ⟨c, t, hframe⟩ := openFrame_eq ((s.setRecQ _).setRecSeq _) s.recPort.1 s.recPort.2
  exact ⟨_, _, c, t, hframe⟩

theorem bulkOutcome_apart {α : Type} (g : State → α) (hg : ∀ s q n c t, g ((((State.setRecQ s q).setRecSeq n).setChans c).setTx t) = g s)
    (s : State) (k result addr got shard : Nat) : g (bulkOutcome s k result addr got shard) = g s := by
  obtain ⟨q, n, c, t, heq⟩ := bulkOutcome_eq s k result addr got shard
  rw [heq, hg]

/-- The frame on an arm of a range of the bulk region ends without an error: it is stored, its range is held, and the arm is cleared (R272 to
R274). -/
theorem endFrame_stores {s : State} {k : Nat} (hpurpose : (s.arm k).purpose ≤ 3) (hok : (s.arm k).outcome = 0) :
    (endFrame s k false).staging = (s.putSt (s.arm k).addr (s.arm k).data).staging ∧
    (endFrame s k false).bulk = s.bulk ++ [⟨(s.arm k).addr, (s.arm k).limit, s.rd R.BULK_STAT_BYTES k, (s.arm k).purpose, 0, 0⟩] ∧
    ((endFrame s k false).arm k).set = false := by
  unfold endFrame
  extract_lets a got u no result noted
  have hresult : result = 0 := by simp [result, a, hok]
  have hbulk : noted.bulk = s.bulk := bulkOutcome_apart State.bulk (fun _ _ _ _ _ => rfl) ..
  have hstaging : noted.staging = (s.putSt a.addr a.data).staging := bulkOutcome_apart State.staging (fun _ _ _ _ _ => rfl) ..
  rw [if_pos hpurpose, hresult, if_neg (by decide)]
  refine ⟨?_, ?_, clearArm_set ..⟩
  · rw [(armsNoted_clearArm ..).staging]
    exact hstaging
  · rw [(armsNoted_clearArm ..).bulk, ← hbulk]
    rfl

/-- One that has an error is only noted, where it was taken; the arm stays set (R274). -/
theorem endFrame_fails {s : State} {k : Nat} (hpurpose : (s.arm k).purpose ≤ 3) (hbad : (s.arm k).outcome ≠ 0) (trunc : Bool) :
    (endFrame s k trunc).staging = (s.putSt (s.arm k).addr (s.arm k).data).staging ∧ (endFrame s k trunc).bulk = s.bulk ∧
    (endFrame s k trunc).regs = s.regs ∧ ((endFrame s k trunc).arm k).set = (s.arm k).set := by
  unfold endFrame
  extract_lets a got u no result noted
  have hresult : result ≠ 0 := by simp [result, a, hbad]
  rw [if_pos hpurpose, if_pos hresult]
  refine ⟨bulkOutcome_apart State.staging (fun _ _ _ _ _ => rfl) .., bulkOutcome_apart State.bulk (fun _ _ _ _ _ => rfl) ..,
    bulkOutcome_apart State.regs (fun _ _ _ _ _ => rfl) .., ?_⟩
  have harm : noted.arm k = u.arm k := bulkOutcome_apart (State.arm · k) (fun _ _ _ _ _ => rfl) ..
  rw [harm, arm_putArm_same]

/-! ### Packets of a frame -/

theorem armFor_heard (s : State) (p q : Nat) : (s.heard p).armFor q = s.armFor q := rfl

theorem crcBad_arms (s : State) (p : Nat) : (s.crcBad p).arms = s.arms := raise_arms ..

theorem armFor_crcBad (s : State) (p q : Nat) : (s.crcBad p).armFor q = s.armFor q := armFor_of_arms (crcBad_arms ..) q

theorem BULK_STAT_key (k : Nat) : R.BULK_STAT_BYTES.key k 0 = 0x60840 + 4 * (k % 4) := by simp [R.BULK_STAT_BYTES, Fld.key]

/-- An arm whose frame has begun. -/
def Arm.opened (a : Arm) : Arm := { a with inFrame := true, outcome := 0, data := [], heard := [] }

/-- An arm that has taken a good packet of its frame. -/
def Arm.takes (a : Arm) (b : List Byte) : Arm := { a with data := a.data ++ b, heard := (a.heard ++ b).take 10 }

/-- An arm whose frame has had a bad packet. -/
def Arm.spoilt (a : Arm) (b : List Byte) : Arm := { a with outcome := 1, heard := (a.heard ++ b).take 10 }

/-- The arm as it is then, with the bytes of its frame received so far. -/
def State.receives (s : State) (k : Nat) (a : Arm) (got : Nat) : State := (s.putArm k a).wr R.BULK_STAT_BYTES k got

section
variable (s : State) (k : Nat) (a : Arm) (got : Nat)

theorem receives_arm : (s.receives k a got).arm k = a := arm_putArm_same ..

theorem receives_staging : (s.receives k a got).staging = s.staging := rfl

theorem receives_bulk : (s.receives k a got).bulk = s.bulk := rfl

theorem receives_bytes {got : Nat} (h : got < 2 ^ 24) : (s.receives k a got).rd R.BULK_STAT_BYTES k = got :=
  (rd_wr_same (s.putArm k a) R.BULK_STAT_BYTES k got (by decide)).trans (Nat.mod_eq_of_lt h)

theorem receives_armFor {a : Arm} (hset : a.set = (s.arm k).set) (hport : a.port = (s.arm k).port) (p : Nat) :
    (s.receives k a got).armFor p = s.armFor p := armFor_putArm s k hset hport p

theorem receives_rxEvt {f : Fld} (h : f.key 0 0 = 0x60080) : (s.receives k a got).on f 0 = s.on f 0 := by
  have hkey := BULK_STAT_key k
  exact on_of_word (word_wr_ne (s.putArm k a) R.BULK_STAT_BYTES k got (by omega))

end

section
variable {s : State} {p k : Nat} (harm : s.armFor p = some k)
include harm

theorem bulkStart_opens (hidle : (s.arm k).inFrame = false) : bulkStart s p = s.receives k (s.arm k).opened 0 := by
  simp only [bulkStart, harm, hidle, Bool.false_eq_true, if_false]
  rfl

theorem bulkPacket_takes {b : List Byte} (hin : (s.arm k).inFrame = true) (hok : (s.arm k).outcome = 0)
    (hfits : s.rd R.BULK_STAT_BYTES k + b.length ≤ (s.arm k).limit) :
    bulkPacket s p b true = s.receives k ((s.arm k).takes b) (s.rd R.BULK_STAT_BYTES k + b.length) := by
  simp [bulkPacket, harm, hin, hok, Nat.not_lt.2 hfits, State.receives, Arm.takes]

theorem bulkEnd_ends (hin : (s.arm k).inFrame = true) (trunc : Bool) : bulkEnd_ s p trunc = endFrame s k trunc := by
  simp only [bulkEnd_, harm, hin, if_true]

end

theorem bulkPacket_spoils {s : State} {p k : Nat} {b : List Byte} (harm : s.armFor p = some k) (hin : (s.arm k).inFrame = true)
    (hok : (s.arm k).outcome = 0) :
    bulkPacket s p b false = (s.crcBad p).receives k ((s.arm k).spoilt b) ((s.crcBad p).rd R.BULK_STAT_BYTES k + b.length) := by
  have hbad : (s.crcBad p).arm k = s.arm k := arm_of_arms (crcBad_arms ..) k
  have harm' := (armFor_crcBad s p p).trans harm
  rw [State.crcBad] at hbad harm' ⊢
  simp [bulkPacket, harm', hbad, hin, hok, State.receives, Arm.spoilt]

/-- A port without an arm takes nothing of a packet but its errors. -/
theorem bulkPacket_unarmed {s : State} {p : Nat} (hnone : s.armFor p = none) (b : List Byte) (ok : Bool) :
    bulkPacket s p b ok = if ok then s else s.crcBad p := by
  cases ok with
  | true => simp [bulkPacket, hnone]
  | false =>
    have hnone' := (armFor_crcBad s p p).trans hnone
    rw [State.crcBad] at hnone' ⊢
    simp [bulkPacket, hnone']

/-- The header of a good packet on virtual channel 15 leads to no stream (R256, R274). -/
theorem streamOfPacket_bulk {s : State} {p : Nat} (hon : s.rxOn p = true) : streamOfPacket s p 15 .good = (s.heard p, none) := by
  simp [streamOfPacket, headerCheck, hon, State.heard]

section
variable {s : State} {p : Fin 12} (hon : s.rxOn p = true)
include hon

theorem frameStart_bulk : exec (.frameStart p 15 .good) s = .next (bulkStart (s.heard p) p) := by
  have hon' : (s.heard p).rxOn p = true := hon
  simp only [exec, execFrameStart]
  rw [show ((15 : Fin 16) : Nat) = 15 from rfl, streamOfPacket_bulk hon]
  simp [hon']

theorem longPacket_bulk (ph : Fin 4) (pix : List Nat) :
    exec (.longPacket p 15 ⟨.good, ph⟩ 0x37 true true pix) s = .next (bulkPacket (s.heard p) p (pix.map (BitVec.ofNat 8)) true) := by
  have hon' : (s.heard p).rxOn p = true := hon
  simp only [exec, execLongPacket]
  rw [show ((15 : Fin 16) : Nat) = 15 from rfl, streamOfPacket_bulk hon]
  simp [hon']

theorem frameEnd_bulk : exec (.frameEnd p 15 .good) s = .next (bulkEnd_ (s.heard p) p false) := by
  have hon' : (s.heard p).rxOn p = true := hon
  simp only [exec, execFrameEnd]
  rw [show ((15 : Fin 16) : Nat) = 15 from rfl, streamOfPacket_bulk hon]
  simp [hon']

theorem bulkFrame_eq (pkts : List (List Byte × Bool)) (trunc : Bool) : exec (.bulkFrame p pkts trunc) s =
    .next (bulkEnd_ ((bulkStart (s.heard p) p).each pkts fun s q => bulkPacket s p q.1 q.2) p trunc) := by
  simp only [exec, execBulkFrame, hon, Bool.not_true, Bool.false_eq_true, if_false]
  rfl

end

theorem bulkFrame_off {s : State} {p : Fin 12} (hoff : s.rxOn p = false) (pkts : List (List Byte × Bool)) (trunc : Bool) :
    Does (.bulkFrame p pkts trunc) s fun t => t = s := ⟨s, by simp [exec, execBulkFrame, hoff], rfl⟩

/-! ### What frames without an arm leave -/

/-- BULK_UNARMED is shown for port `p`, and nothing is stored (R272). -/
structure Unarmed (s t : State) (p : Nat) : Prop where
  armFor : t.armFor p = none
  event : t.on R.RX_EVT_BULK_UNARMED 0 = true
  port : t.rd R.RX_EVT_PORT 0 = p % 16
  staging : t.staging = s.staging

theorem unarmed_bulkStart {s : State} {p : Nat} (hnone : s.armFor p = none) : Unarmed s (bulkStart s p) p := by
  have hstart : bulkStart s p = s.raiseRx R.RX_EVT_BULK_UNARMED p := by simp only [bulkStart, hnone]
  rw [hstart]
  exact ⟨(armFor_of_arms (s := s) (raise_arms ..) p).trans hnone,
    raiseRx_on s _ p (by decide) (by decide) (by decide) (by decide), rd_wr_same _ R.RX_EVT_PORT 0 p (by decide), raise_staging ..⟩

theorem Unarmed.crcBad {s t : State} {p : Nat} (h : Unarmed s t p) : Unarmed s (t.crcBad p) p where
  armFor := (armFor_crcBad t p p).trans h.armFor
  event := by
    have hkey : R.RX_STAT_CRC_CNT.key p 0 = 0x60040 + 4 * (p % 12) := by simp [R.RX_STAT_CRC_CNT, Fld.key]
    have hevt : R.RX_EVT_BULK_UNARMED.key 0 0 = 0x60080 := by decide
    have hcount : (t.bump R.RX_STAT_CRC_CNT p).on R.RX_EVT_BULK_UNARMED 0 = true :=
      (on_wr_ne t R.RX_STAT_CRC_CNT _ p 0 _ (.inl (by omega))).trans h.event
    have hraise := raise_on_of_on _ R.RX_EVT_CRC_ERR R.RX_EVT_BULK_UNARMED 0 0 (by decide) (by decide) (by decide) hcount
    exact (on_wr_ne _ R.RX_EVT_PORT _ 0 0 _ (.inr (by decide))).trans hraise
  port := rd_wr_same _ R.RX_EVT_PORT 0 p (by decide)
  staging := (raise_staging ..).trans h.staging

theorem Unarmed.bulkPacket {s t : State} {p : Nat} (h : Unarmed s t p) (b : List Byte) (ok : Bool) : Unarmed s (bulkPacket t p b ok) p := by
  rw [bulkPacket_unarmed h.armFor]
  cases ok with
  | true => exact h
  | false => exact h.crcBad

theorem bulkFrame_unarmed {s : State} {p : Fin 12} (hon : s.rxOn p = true) (hnone : s.armFor p = none) (pkts : List (List Byte × Bool))
    (trunc : Bool) : Does (.bulkFrame p pkts trunc) s fun t => t.on R.RX_EVT_BULK_UNARMED 0 = true ∧ t.rd R.RX_EVT_PORT 0 = p ∧
      t.staging = s.staging := by
  have hpackets : Unarmed (s.heard p) ((bulkStart (s.heard p) p).each pkts fun s q => bulkPacket s p q.1 q.2) p :=
    each_inv (Unarmed (s.heard p) · p) pkts _ _ (fun t q ht => ht.bulkPacket q.1 q.2) (unarmed_bulkStart (s := s.heard p) hnone)
  refine ⟨_, (bulkFrame_eq hon pkts trunc).trans (by rw [bulkEnd_, hpackets.armFor]), hpackets.event, hpackets.port.trans ?_, hpackets.staging⟩
  exact Nat.mod_eq_of_lt (by omega)

/-! ### A frame of one packet -/

/-- The frame on arm `k` of port `p` has begun, on the arm that was `a`. -/
structure Opened (o : State) (p k : Nat) (a : Arm) : Prop where
  armFor : o.armFor p = some k
  arm : o.arm k = a.opened
  bytes : o.rd R.BULK_STAT_BYTES k = 0

theorem opened_of_port {s : State} {p k : Nat} (harm : s.armFor p = some k) :
    Opened ((s.heard p).receives k (s.arm k).opened 0) p k (s.arm k) where
  armFor := (receives_armFor (s.heard p) k 0 (a := (s.arm k).opened) rfl rfl p).trans harm
  arm := receives_arm (s.heard p) k (s.arm k).opened 0
  bytes := receives_bytes (s.heard p) k (s.arm k).opened (by decide)

section
variable {o : State} {p k : Nat} {a : Arm} (b : List Byte) (h : Opened o p k a) (hpurpose : a.purpose ≤ 3)
include h hpurpose

theorem packet_stores (hlimit : a.limit < 2 ^ 24) (hfits : b.length ≤ a.limit) : let t := bulkEnd_ (bulkPacket o p b true) p false
    t.staging = (o.putSt a.addr b).staging ∧ t.bulk = o.bulk ++ [⟨a.addr, a.limit, b.length, a.purpose, 0, 0⟩] ∧ (t.arm k).set = false := by
  obtain ⟨harm, hopen, hnone⟩ := h
  have htakes := bulkPacket_takes (b := b) harm (by rw [hopen]; rfl) (by rw [hopen]; rfl) (by rw [hopen, hnone, Nat.zero_add]; exact hfits)
  rw [hopen, hnone, Nat.zero_add] at htakes
  have htaken := receives_arm o k (a.opened.takes b) b.length
  have hbytes := receives_bytes o k (a.opened.takes b) (hfits.trans_lt hlimit)
  have hfor := (receives_armFor o k b.length (a := a.opened.takes b) (by rw [hopen]; rfl) (by rw [hopen]; rfl) p).trans harm
  rw [htakes]
  generalize hu : o.receives k (a.opened.takes b) b.length = u at htaken hbytes hfor
  obtain ⟨hstaging, hbulk, hset⟩ := endFrame_stores (s := u) (k := k) (by rw [htaken]; exact hpurpose) (by rw [htaken]; rfl)
  rw [bulkEnd_ends hfor (by rw [htaken]; rfl)]
  rw [htaken] at hstaging
  rw [htaken, hbytes] at hbulk
  subst hu
  exact ⟨hstaging, hbulk, hset⟩

theorem packet_spoils : let t := bulkEnd_ (bulkPacket o p b false) p false
    t.staging = o.staging ∧ t.bulk = o.bulk ∧ (t.arm k).set = a.set ∧ t.on R.RX_EVT_CRC_ERR 0 = true := by
  obtain ⟨harm, hopen, -⟩ := h
  have hspoils := bulkPacket_spoils (b := b) harm (by rw [hopen]; rfl) (by rw [hopen]; rfl)
  have hbad : (o.crcBad p).arm k = a.opened := (arm_of_arms (crcBad_arms ..) k).trans hopen
  have hevt : (o.crcBad p).on R.RX_EVT_CRC_ERR 0 = true := raiseRx_on _ _ _ (by decide) (by decide) (by decide) (by decide)
  have hstored : (o.crcBad p).staging = o.staging ∧ (o.crcBad p).bulk = o.bulk := ⟨raise_staging .., raise_bulk ..⟩
  have hfor' := (armFor_crcBad o p p).trans harm
  rw [hopen] at hspoils
  rw [hspoils]
  generalize o.crcBad p = c at hbad hevt hstored hfor'
  generalize c.rd R.BULK_STAT_BYTES k + b.length = got
  have hspoilt := receives_arm c k (a.opened.spoilt b) got
  have hfor := (receives_armFor c k got (a := a.opened.spoilt b) (by rw [hbad]; rfl) (by rw [hbad]; rfl) p).trans hfor'
  have hevt' := (receives_rxEvt c k (a.opened.spoilt b) got (f := R.RX_EVT_CRC_ERR) (by decide)).trans hevt
  obtain ⟨hstaging, hbulk, hregs, hset⟩ := endFrame_fails (s := c.receives k (a.opened.spoilt b) got) (k := k)
    (by rw [hspoilt]; exact hpurpose) (by rw [hspoilt]; exact Nat.one_ne_zero) false
  rw [hspoilt] at hstaging hset
  rw [bulkEnd_ends hfor (by rw [hspoilt]; rfl)]
  exact ⟨hstaging.trans hstored.1, hbulk.trans hstored.2, hset, (on_of_word (by rw [State.word, hregs]; rfl)).trans hevt'⟩

end

/-! ### Frames on an arm -/

section
variable {s : State} {p : Fin 12} {k : Nat} (hon : s.rxOn p = true) (harm : s.armFor p = some k)
include hon harm

theorem frameStart_opens (hidle : (s.arm k).inFrame = false) : Does (.frameStart p 15 .good) s fun t =>
    (t.arm k).inFrame = true ∧ (t.arm k).data = [] ∧ t.rd R.BULK_STAT_BYTES k = 0 ∧ t.staging = s.staging := by
  refine ⟨(s.heard p).receives k (s.arm k).opened 0, ?_, ?_, ?_, receives_bytes _ _ _ (by decide), receives_staging ..⟩
  · rw [frameStart_bulk hon, bulkStart_opens (s := s.heard p) harm hidle]
    rfl
  · rw [receives_arm]
    rfl
  · rw [receives_arm]
    rfl

theorem longPacket_joins (hlimit : (s.arm k).limit < 2 ^ 24) (hin : (s.arm k).inFrame = true) (hok : (s.arm k).outcome = 0) (pix : List Nat)
    (ph : Fin 4) (hfits : s.rd R.BULK_STAT_BYTES k + pix.length ≤ (s.arm k).limit) :
    Does (.longPacket p 15 ⟨.good, ph⟩ 0x37 true true pix) s fun t => (t.arm k).data = (s.arm k).data ++ pix.map (BitVec.ofNat 8) ∧
      t.rd R.BULK_STAT_BYTES k = s.rd R.BULK_STAT_BYTES k + pix.length ∧ (t.arm k).inFrame = true ∧ t.staging = s.staging := by
  have htakes := bulkPacket_takes (s := s.heard p) (b := pix.map (BitVec.ofNat 8)) harm hin hok (by rwa [List.length_map])
  rw [List.length_map] at htakes
  refine ⟨_, (longPacket_bulk hon ph pix).trans (congrArg _ htakes), ?_, receives_bytes _ _ _ (hfits.trans_lt hlimit), ?_, receives_staging ..⟩
  · rw [receives_arm]
    rfl
  · rw [receives_arm]
    exact hin

theorem frameEnd_stores (hpurpose : (s.arm k).purpose ≤ 3) (hin : (s.arm k).inFrame = true) (hok : (s.arm k).outcome = 0) :
    Does (.frameEnd p 15 .good) s fun t => t.stBytes (s.arm k).addr (s.arm k).data.length = (s.arm k).data ∧
      t.bulk = s.bulk ++ [⟨(s.arm k).addr, (s.arm k).limit, s.rd R.BULK_STAT_BYTES k, (s.arm k).purpose, 0, 0⟩] ∧ (t.arm k).set = false := by
  obtain ⟨hstaging, hbulk, hset⟩ := endFrame_stores (s := s.heard p) hpurpose hok
  exact ⟨_, (frameEnd_bulk hon).trans (congrArg _ (bulkEnd_ends (s := s.heard p) harm hin false)), stBytes_of_staging hstaging, hbulk, hset⟩

section
variable (hidle : (s.arm k).inFrame = false) (b : List Byte)
include hidle

theorem bulkFrame_single (ok : Bool) : exec (.bulkFrame p [(b, ok)] false) s =
    .next (bulkEnd_ (bulkPacket ((s.heard p).receives k (s.arm k).opened 0) p b ok) p false) := by
  rw [bulkFrame_eq hon, bulkStart_opens (s := s.heard p) harm hidle]
  rfl

/-- A frame of one good packet within its limit is stored (R272, R273). -/
theorem bulkFrame_stores (hpurpose : (s.arm k).purpose ≤ 3) (hlimit : (s.arm k).limit < 2 ^ 24) (hfits : b.length ≤ (s.arm k).limit) :
    Does (.bulkFrame p [(b, true)] false) s fun t => t.stBytes (s.arm k).addr b.length = b ∧
      t.bulk = s.bulk ++ [⟨(s.arm k).addr, (s.arm k).limit, b.length, (s.arm k).purpose, 0, 0⟩] ∧ (t.arm k).set = false ∧
      ∀ a, a < (s.arm k).addr ∨ (s.arm k).addr + b.length ≤ a → t.stByte a = s.stByte a := by
  obtain ⟨hstaging, hbulk, hset⟩ := packet_stores (b := b) (opened_of_port harm) hpurpose hlimit hfits
  exact ⟨_, bulkFrame_single hon harm hidle b true, stBytes_of_staging hstaging, hbulk, hset, fun a ha => stByte_of_staging hstaging ha⟩

/-- A frame of one bad packet is counted, and nothing is stored (R274). -/
theorem bulkFrame_spoilt (hpurpose : (s.arm k).purpose ≤ 3) : Does (.bulkFrame p [(b, false)] false) s fun t => t.staging = s.staging ∧
    t.bulk = s.bulk ∧ (t.arm k).set = (s.arm k).set ∧ t.on R.RX_EVT_CRC_ERR 0 = true :=
  ⟨_, bulkFrame_single hon harm hidle b false, packet_spoils b (opened_of_port harm) hpurpose⟩

end

end

/-- Settles O51: each command, packet and completion by the lemma of its case. -/
theorem weightSetsAreReceived : Obligations.WeightSetsAreReceived := by
  unfold Obligations.WeightSetsAreReceived
  intro s
  refine ⟨fun m => ⟨fun h => ?_, fun h => ?_, fun h => ?_, fun h => ?_, fun h => ?_, fun h => wsetList_answers h⟩,
    fun p trunc => ⟨fun hoff pkts => bulkFrame_off hoff pkts trunc, fun hon hnone pkts => bulkFrame_unarmed hon hnone pkts trunc,
      fun k hon harm hidle => frameStart_opens hon harm hidle, fun k hon harm hpurpose hlimit hin hok => ?_,
      fun k b hon harm hpurpose hidle hlimit => ?_⟩,
    fun n no => ⟨fun r hfind => shardWritten_stands hfind, fun hfind => shardWritten_idle hfind⟩, fun n => ⟨eraseDone_frees, eraseDone_idle⟩⟩
  · exact ⟨streamBulkArm_busy h, fun harms hrange => ⟨streamBulkArm_outside h harms hrange, streamBulkArm_sets h harms hrange⟩⟩
  · exact ⟨streamBulkDisarm_busy h, streamBulkDisarm_clears h⟩
  · exact ⟨wsetBegin_refused h, wsetBegin_arms h⟩
  · exact ⟨wsetCommit_refused h, wsetCommit_holds h, fun e => wsetCommit_missing h⟩
  · exact ⟨wsetDelete_refused h, fun hst => ⟨wsetDelete_inUse h hst, wsetDelete_erases h hst⟩⟩
  · exact ⟨fun pix ph hfits => longPacket_joins hon harm hlimit hin hok pix ph hfits, frameEnd_stores hon harm hpurpose hin hok⟩
  · exact ⟨fun hfits => bulkFrame_stores hon harm hidle b hpurpose hlimit hfits, bulkFrame_spoilt hon harm hidle b hpurpose⟩

end Sys2Proof.Machine
end

section
/-! PROOF. The family of 08_weights_and_the_bell.md: sets staged, their bell, and stagings given up (O52). -/

namespace Sys2Proof.Machine

/-! ### What tiles and chiplets let go leave alone

A bell and a staging given up go on to release tiles, to end measurements and calibration runs, and to give up matrix changes. None of that
touches the mailboxes, the stagings, the events of the weight sets or the registers that show the jobs' sets. -/

/-- The key of a register of a mailbox, of WSET_EVT or of a WSET_JOB. -/
def stagingKey (x : Nat) : Bool := decide ((0x10000 ≤ x ∧ x < 0x10880) ∨ x = 0x51004 ∨ (0x51060 ≤ x ∧ x < 0x510A0))

/-- The doorbells' order, the stagings, and the registers that a staging goes by. -/
def State.stagingWork (s : State) : List Nat × Sparse WStage × (Nat → Word) :=
  (s.mbxOrder, s.stages, fun x => if stagingKey x then s.word x else 0)

/-- No register of the field's table is one that a staging goes by. -/
def Fld.besideStaging (f : Fld) : Bool :=
  decide (0x510A0 ≤ f.base) || (f.per == 0 && decide (0 < f.n1 ∧ f.s2 = 0 ∧
    (0x10880 ≤ f.base ∧ f.base + f.s1 * f.n1 < 0x51004 ∨ 0x51008 ≤ f.base ∧ f.base + f.s1 * f.n1 < 0x51060)))

theorem stagingKey_besideStaging {f : Fld} (h : f.besideStaging = true) (i j : Nat) : stagingKey (f.key i j) = false := by
  simp only [Fld.besideStaging, Bool.or_eq_true, Bool.and_eq_true, beq_iff_eq, decide_eq_true_eq] at h
  simp only [stagingKey, decide_eq_false_iff_not]
  have hbase := key_ge_base f i j
  obtain hhigh | ⟨hper, hn, hs2, hrange⟩ := h
  · omega
  · have hstep : f.s1 * (i % f.n1) ≤ f.s1 * f.n1 := Nat.mul_le_mul_left _ (Nat.mod_lt i hn).le
    have hkey : f.key i j = f.base + f.s1 * (i % f.n1) := by simp [Fld.key, hper, hs2]
    omega

section
variable {s t : State} (h : t.stagingWork = s.stagingWork)
include h

theorem mbxOrder_of_stagingWork : t.mbxOrder = s.mbxOrder := congrArg (·.1) h

theorem stages_of_stagingWork : t.stages = s.stages := congrArg (·.2.1) h

theorem word_of_stagingWork {x : Nat} (hx : stagingKey x = true) : t.word x = s.word x := by
  have hwords := congrFun (congrArg (·.2.2) h) x
  simpa [State.stagingWork, hx] using hwords

end

theorem stagingWork_of_words {s t : State} (horder : t.mbxOrder = s.mbxOrder) (hstages : t.stages = s.stages)
    (hwords : ∀ x, stagingKey x = true → t.word x = s.word x) : t.stagingWork = s.stagingWork := by
  unfold State.stagingWork
  rw [horder, hstages]
  congr 2
  funext x
  split
  next hx => exact hwords x hx
  next => rfl

@[simp] theorem wr_stagingWork (s : State) {f : Fld} (i v : Nat) (h : f.besideStaging = true) : (s.wr f i v).stagingWork = s.stagingWork :=
  stagingWork_of_words rfl rfl fun x hx => word_wr_ne s f i v fun heq => by simp [heq, stagingKey_besideStaging h] at hx

@[simp] theorem raise_stagingWork (s : State) {f : Fld} (i : Nat) (h : f.besideStaging = true) :
    (s.raise f i).stagingWork = s.stagingWork :=
  stagingWork_of_words (raise_mbxOrder ..) (raise_stages ..) fun x hx => by
    refine raise_word_ne s f i (fun heq => ?_) fun heq => ?_
    · simp [heq, stagingKey_besideStaging h] at hx
    · simp [heq, stagingKey] at hx

@[simp] theorem setWord_tileCfg_stagingWork (s : State) (n : Nat) (w : Word) :
    (s.setWord (R.TILE_CFG.key n 0) w).stagingWork = s.stagingWork :=
  stagingWork_of_words rfl rfl fun x hx => word_setWord_ne s w fun heq => by
    simp [heq, stagingKey_besideStaging (f := R.TILE_CFG) (by decide)] at hx

@[simp] theorem setInForce_stagingWork (s : State) (m : Sparse Word) : (s.setInForce m).stagingWork = s.stagingWork := (rfl)

@[simp] theorem apply_stagingWork (s : State) (k : Nat) : (s.apply k).stagingWork = s.stagingWork := (rfl)

@[simp] theorem putTile_stagingWork (s : State) (n : Nat) (v : TileRec) : (s.putTile n v).stagingWork = s.stagingWork := (rfl)

@[simp] theorem putTcal_stagingWork (s : State) (n bank i : Nat) (w : Word) : (s.putTcal n bank i w).stagingWork = s.stagingWork := (rfl)

@[simp] theorem putQuad_stagingWork (s : State) (q : Nat) (v : QuadCal) : (s.putQuad q v).stagingWork = s.stagingWork := (rfl)

@[simp] theorem putChip_stagingWork (s : State) (k : Nat) (v : Chip) : (s.putChip k v).stagingWork = s.stagingWork := (rfl)

@[simp] theorem putJob_stagingWork (s : State) (j : Nat) (v : Job) : (s.putJob j v).stagingWork = s.stagingWork := (rfl)

@[simp] theorem setWrites_stagingWork (s : State) (l : List WriteReq) : (s.setWrites l).stagingWork = s.stagingWork := (rfl)

@[simp] theorem each_stagingWork {α : Type} (l : List α) (f : State → α → State) (s : State)
    (h : ∀ s a, (f s a).stagingWork = s.stagingWork) : (s.each l f).stagingWork = s.stagingWork := each_keeps State.stagingWork l f s h

@[simp] theorem estimate_stagingWork (s : State) (n : Nat) : (estimate s n).stagingWork = s.stagingWork := by
  simp (disch := decide) [estimate, staleCheck, showMaxEst, State.wrSat, apply_ite State.stagingWork]

@[simp] theorem beginTile_stagingWork (s : State) (q n : Nat) (stale : Bool) : (beginTile s q n stale).stagingWork = s.stagingWork := by
  simp (disch := decide) [beginTile, apply_ite State.stagingWork]

@[simp] theorem beginRound_stagingWork (s : State) (q r fuel : Nat) : (beginRound s q r fuel).stagingWork = s.stagingWork := by
  induction fuel generalizing s r with
  | zero => exact putQuad_stagingWork ..
  | succ fuel ih =>
    have htiles (u : State) (l : List Nat) (stale : Bool) : (u.each l fun s n => beginTile s q n stale).stagingWork = u.stagingWork :=
      each_stagingWork l _ u fun s n => beginTile_stagingWork s q n stale
    simp (disch := decide) [beginRound, apply_ite State.stagingWork, ih, htiles]

@[simp] theorem beginRun_stagingWork (s : State) (q cause : Nat) : (beginRun s q cause).stagingWork = s.stagingWork := by
  have hstale (u : State) (l : List Nat) : (u.each l fun s n => s.wr R.TCAL_STAT_STALE n 1).stagingWork = u.stagingWork :=
    each_stagingWork l _ u fun s n => wr_stagingWork s n 1 (by decide)
  simp (disch := decide) [beginRun, State.wrB, apply_ite State.stagingWork, hstale]

@[simp] theorem endRun_stagingWork (s : State) (q : Nat) : (endRun s q).stagingWork = s.stagingWork := by
  unfold endRun
  dsimp only
  split <;> simp (disch := decide) [State.wrTime, State.wrInt, State.bump, State.bumpBy]

@[simp] theorem checkRunEnd_stagingWork (s : State) (q : Nat) : (checkRunEnd s q).stagingWork = s.stagingWork := by
  simp [checkRunEnd, apply_ite State.stagingWork]

@[simp] theorem applyMaps_stagingWork (s : State) (n : Nat) : (applyMaps s n).stagingWork = s.stagingWork := by simp [applyMaps]

@[simp] theorem applyClip_stagingWork (s : State) (n : Nat) : (applyClip s n).stagingWork = s.stagingWork := by
  unfold applyClip
  split <;> simp (disch := decide) [showMode, State.wrB]

@[simp] theorem tableSwap_stagingWork (s : State) (n : Nat) (forced : Bool) : (tableSwap s n forced).stagingWork = s.stagingWork := by
  unfold tableSwap
  dsimp only
  split <;> simp (disch := decide) [latchGain, regain, State.wrB]

@[simp] theorem abandonRoll_stagingWork (s : State) (n : Nat) : (abandonRoll s n).stagingWork = s.stagingWork := by
  simp (disch := decide) [abandonRoll, stopMeasuring, apply_ite State.stagingWork]

@[simp] theorem clearUse_stagingWork (s : State) (n : Nat) : (clearUse s n).stagingWork = s.stagingWork := by
  simp (disch := decide) [clearUse]

@[simp] theorem fillReserve_stagingWork (s : State) (q : Nat) : (fillReserve s q).stagingWork = s.stagingWork := by
  have hsvc (u : State) (l : List Nat) (v : Nat) : (u.each l fun s n => s.wr R.TCAL_STAT_SVC n v).stagingWork = u.stagingWork :=
    each_stagingWork l _ u fun s n => wr_stagingWork s n v (by decide)
  exact (hsvc ..).trans (hsvc ..)

@[simp] theorem releaseTiles_stagingWork (s : State) (ts : List Nat) : (releaseTiles s ts).stagingWork = s.stagingWork := by
  refine (each_stagingWork _ _ _ fillReserve_stagingWork).trans (each_stagingWork _ _ s fun s n => ?_)
  simp (disch := decide) [apply_ite State.stagingWork]

@[simp] theorem startTrim_stagingWork (s : State) (k : Nat) : (startTrim s k).stagingWork = s.stagingWork := by
  have hheld : (s.holdStart (.trim k)).stagingWork = s.stagingWork := by
    unfold State.holdStart
    split <;> rfl
  simp (disch := decide) [startTrim, setMesh, apply_ite State.stagingWork, hheld]

@[simp] theorem abandonChange_stagingWork (s : State) (k : Nat) : (abandonChange s k).stagingWork = s.stagingWork := by
  simp (disch := decide) [abandonChange, setMesh, apply_ite State.stagingWork]

@[simp] theorem showStore_stagingWork (s : State) : (showStore s).stagingWork = s.stagingWork :=
  each_stagingWork _ _ s fun s n => wr_stagingWork s n _ (by decide)

@[simp] theorem showHwNow_stagingWork (s : State) : (showHwNow s).stagingWork = s.stagingWork := by
  simp (disch := decide) [showHwNow, State.wrSat]

theorem WSET_JOB_key (j : Nat) : R.WSET_JOB.key j 0 = 0x51060 + 4 * (j % 16) := by simp [R.WSET_JOB, Fld.key]

/-- A field of the register that shows a job's set. -/
def Fld.ofSet (f : Fld) : Bool := decide (f.base = 0x51060 ∧ f.per = 0 ∧ f.n1 = 16 ∧ f.s1 = 4 ∧ f.s2 = 0 ∧ f.lo + f.w ≤ 32)

theorem ofSet_key {f : Fld} (h : f.ofSet = true) (j : Nat) : f.key j 0 = 0x51060 + 4 * (j % 16) := by
  simp only [Fld.ofSet, decide_eq_true_eq] at h
  obtain ⟨hbase, hper, hn, hs1, hs2, -⟩ := h
  simp [Fld.key, hbase, hper, hn, hs1, hs2]

theorem stagingKey_ofSet {f : Fld} (h : f.ofSet = true) (j : Nat) : stagingKey (f.key j 0) = true := by
  rw [ofSet_key h, stagingKey, decide_eq_true_eq]
  omega

theorem rd_of_stagingWork {s t : State} (h : t.stagingWork = s.stagingWork) {f : Fld} (hf : f.ofSet = true) (j : Nat) :
    t.rd f j = s.rd f j := rd_of_word (word_of_stagingWork h (stagingKey_ofSet hf j))

/-- Two fields of the register that share no bit. -/
def Fld.clearOf (f g : Fld) : Bool := g.ofSet && f.ofSet && decide (g.lo + g.w ≤ f.lo ∨ f.lo + f.w ≤ g.lo)

theorem rd_wr_ofSet (s : State) {f : Fld} (h : f.ofSet = true) (j v : Nat) : (s.wr f j v).rd f j = v % 2 ^ f.w :=
  rd_wr_same s f j v (by simp only [Fld.ofSet, decide_eq_true_eq] at h; exact h.2.2.2.2.2)

theorem rd_wr_clearOf (s : State) {f g : Fld} (h : f.clearOf g = true) (j v : Nat) : (s.wr f j v).rd g j = s.rd g j := by
  simp only [Fld.clearOf, Bool.and_eq_true, decide_eq_true_eq] at h
  exact rd_wr_ne s f g j j v (.inr h.2)

/-- An event of WSET_EVT leaves what shows the jobs' sets. -/
theorem rd_raise_ofSet (s : State) {f g : Fld} (hf : f.key 0 0 = 0x51004) (hg : g.ofSet = true) (j : Nat) :
    (s.raise f 0).rd g j = s.rd g j := by
  have hkey := ofSet_key hg j
  exact raise_rd_ne s f g 0 j (by omega) (by omega)

/-! ### Answers and the mailboxes that run -/

theorem answers_of_words {s t : State} (h : ∀ x, 0x10000 ≤ x → x < 0x10880 → t.word x = s.word x) {m : Nat} {st : Status} {data : List Byte}
    (ha : s.Answers m st data) : t.Answers m st data := by
  have hrsp (w : Nat) : t.word (R.MBX_RSP.key m w) = s.word (R.MBX_RSP.key m w) :=
    h _ (by rw [MBX_RSP_key]; omega) (by rw [MBX_RSP_key]; omega)
  have hstate : t.mbState m = s.mbState m := rd_of_word (h _ (by rw [MBX_STAT_key]; omega) (by rw [MBX_STAT_key]; omega))
  simpa only [State.Answers, hstate, hrsp] using ha

theorem answers_of_stagingWork {s t : State} (h : t.stagingWork = s.stagingWork) {m : Nat} {st : Status} {data : List Byte}
    (ha : s.Answers m st data) : t.Answers m st data :=
  answers_of_words (fun x hlo hhi => word_of_stagingWork h (by simp [stagingKey, hlo, hhi])) ha

theorem answers_wr {s : State} {f : Fld} {i v m : Nat} (hf : f.ofSet = true) {st : Status} {data : List Byte} (ha : s.Answers m st data) :
    (s.wr f i v).Answers m st data :=
  answers_of_words (fun x _ hx => word_wr_ne s f i v (by rw [ofSet_key hf]; omega)) ha

theorem answers_raise {s : State} {f : Fld} {m : Nat} (hf : f.key 0 0 = 0x51004) {st : Status} {data : List Byte} (ha : s.Answers m st data) :
    (s.raise f 0).Answers m st data :=
  answers_of_words (fun x _ hx => raise_word_ne s f 0 (by omega) (by omega)) ha

/-- A mailbox that does not run a command of another code does not do so when one begins to run its own. -/
theorem isRunning_running {s : State} {m code : Nat} (hcmd : s.mbCmd m ≠ code) (q : Nat) :
    (s.running m).isRunning q code = s.isRunning q code := by
  by_cases hq : q % 16 = m % 16
  · have hsame (u : State) : u.mbCmd q = u.mbCmd m := by
      simp only [State.mbCmd, State.rd, State.rd2, R.MBX_STAT_CMD, Fld.key, hq]
    simp [State.isRunning, hsame, mbCmd_running, hcmd]
  · have hword : (s.running m).word (R.MBX_STAT_STATE.key q 0) = s.word (R.MBX_STAT_STATE.key q 0) :=
      word_wr_ne s R.MBX_STAT_STATE m mbRunning (by rw [MBX_STAT_key, MBX_STAT_key]; omega)
    unfold State.isRunning State.mbState State.mbCmd
    rw [rd_of_word (f := R.MBX_STAT_STATE) hword, rd_of_word (f := R.MBX_STAT_CMD) hword]

theorem runningWith_running {s : State} {m code : Nat} (hcmd : s.mbCmd m ≠ code) (p : Nat) :
    (s.running m).runningWith code p = s.runningWith code p := by
  simp only [State.runningWith, isRunning_running hcmd, req_running]
  rfl

/-- A mailbox that is answered runs no command any more. -/
theorem isRunning_respond (s : State) (m : Nat) (st : Status) (d : Nat) (data : List Byte) {q code : Nat}
    (h : (s.respond m st d data).isRunning q code = true) : s.isRunning q code = true := by
  by_cases hq : q % 16 = m % 16
  · have hdone : (s.respond m st d data).mbState q = mbDone := by
      have hsame (u : State) : u.mbState q = u.mbState m := by
        simp only [State.mbState, State.rd, State.rd2, R.MBX_STAT_STATE, Fld.key, hq]
      rw [hsame]
      exact (respond_answers s m st d data).1
    simp [State.isRunning, hdone] at h
  · have hword : (s.respond m st d data).word (R.MBX_STAT_STATE.key q 0) = s.word (R.MBX_STAT_STATE.key q 0) := by
      rw [MBX_STAT_key]
      exact respond_word_ne s m st d data (by omega) fun w hw => by omega
    unfold State.isRunning State.mbState State.mbCmd at h ⊢
    rwa [rd_of_word (f := R.MBX_STAT_STATE) hword, rd_of_word (f := R.MBX_STAT_CMD) hword] at h

theorem req_respond (s : State) (m : Nat) (st : Status) (d : Nat) (data : List Byte) (q off n : Nat) :
    (s.respond m st d data).req q off n = s.req q off n := by
  have hword (w : Nat) : (s.respond m st d data).word (R.MBX_REQ.key q w) = s.word (R.MBX_REQ.key q w) := by
    rw [MBX_REQ_key]
    exact respond_word_ne s m st d data (by omega) fun j hj => by omega
  simp only [State.req, State.mbBytes, State.mbReq, hword]

theorem mem_respond_mbxOrder {s : State} {m q : Nat} {st : Status} {d : Nat} {data : List Byte}
    (h : q ∈ (s.respond m st d data).mbxOrder) : q ∈ s.mbxOrder := by
  rw [respond_eq] at h
  exact List.mem_of_mem_filter h

theorem runningWith_respond {s : State} {code p : Nat} (h : s.runningWith code p = none) (m : Nat) (st : Status) (d : Nat) (data : List Byte) :
    (s.respond m st d data).runningWith code p = none := by
  rw [State.runningWith, List.find?_eq_none] at h ⊢
  intro q hq hrun
  rw [req_respond, Bool.and_eq_true] at hrun
  exact h q (mem_respond_mbxOrder hq) (by rw [isRunning_respond s m st d data hrun.1, hrun.2]; rfl)

/-! ### The bell -/

theorem rd_respond_ofSet (s : State) (m : Nat) (st : Status) (d : Nat) (data : List Byte) {f : Fld} (hf : f.ofSet = true) (j : Nat) :
    (s.respond m st d data).rd f j = s.rd f j := by
  have hkey := ofSet_key hf j
  exact respond_rd_ne s m st d data f j (by omega) fun w hw => by omega

theorem rd_running_ofSet (s : State) (m : Nat) {f : Fld} (hf : f.ofSet = true) (j : Nat) : (s.running m).rd f j = s.rd f j := by
  have hkey := ofSet_key hf j
  exact rd_of_word (word_running s m (by omega))

theorem on_respond_wsetEvt (s : State) (m : Nat) (st : Status) (d : Nat) (data : List Byte) {f : Fld} (hf : f.key 0 0 = 0x51004) :
    (s.respond m st d data).on f 0 = s.on f 0 :=
  congrArg (· != 0) (respond_rd_ne s m st d data f 0 (by omega) fun w hw => by omega)

/-- What a write of a register that shows a job's set leaves of the events. -/
theorem on_wr_ofSet (s : State) {f g : Fld} (hf : f.ofSet = true) (hg : g.key 0 0 = 0x51004) (j v : Nat) : (s.wr f j v).on g 0 = s.on g 0 := by
  have hkey := ofSet_key hf j
  exact on_of_word (word_wr_ne s f j v (by omega))

/-- Job `j` is at generation `g` and the bell is shown to have struck. -/
def State.Rang (s : State) (j g : Nat) : Prop := s.rd R.WSET_JOB_GEN j = g ∧ s.on R.WSET_EVT_BELL 0 = true

theorem State.Rang.wr {s : State} {j g : Nat} (h : s.Rang j g) {f : Fld} (hf : f.clearOf R.WSET_JOB_GEN = true) (v : Nat) :
    (s.wr f j v).Rang j g := by
  have hset : f.ofSet = true := by simp only [Fld.clearOf, Bool.and_eq_true] at hf; exact hf.1.2
  exact ⟨(rd_wr_clearOf s hf j v).trans h.1, (on_wr_ofSet s hset (by decide) j v).trans h.2⟩

theorem State.Rang.raise {s : State} {j g : Nat} (h : s.Rang j g) {f : Fld} (hf : f.key 0 0 = 0x51004) : (s.raise f 0).Rang j g :=
  ⟨(rd_raise_ofSet s hf (by decide) j).trans h.1, raise_on_of_on s f R.WSET_EVT_BELL 0 0 hf.symm (by rw [hf]; decide) (by decide) h.2⟩

theorem State.Rang.of_stagingWork {s t : State} {j g : Nat} (h : s.Rang j g) (ht : t.stagingWork = s.stagingWork) : t.Rang j g :=
  ⟨(rd_of_stagingWork ht (by decide) j).trans h.1, (on_of_word (word_of_stagingWork ht (by decide))).trans h.2⟩

theorem State.Rang.putStage {s : State} {j g : Nat} (h : s.Rang j g) (v : WStage) : (s.putStage j v).Rang j g := h

/-- The registers of a job whose new set takes the place of the old one (R249). -/
theorem State.Rang.showSet {s : State} {j g : Nat} (h : s.Rang j g) (n : Nat) :
    (((((s.wr R.WSET_JOB_SLOT j n).wr R.WSET_JOB_NEW_SLOT j 0).wr R.WSET_JOB_STAGE j 0).wr R.WSET_JOB_COPIES j 0).wr R.WSET_JOB_AUTO j 0).Rang j g :=
  ((((h.wr (by decide) n).wr (by decide) 0).wr (by decide) 0).wr (by decide) 0).wr (by decide) 0

/-- The retirement of an old generation leaves the new one (R249). -/
theorem State.Rang.retire {s : State} {j g : Nat} (h : s.Rang j g) : (retire s j).Rang j g := by
  unfold Machine.retire
  dsimp only
  split
  · refine State.Rang.of_stagingWork (State.Rang.raise ?_ (by decide)) (showStore_stagingWork _)
    refine State.Rang.of_stagingWork ?_ ((releaseTiles_stagingWork ..).trans (each_stagingWork _ _ _ fun s k => ?_))
    · exact State.Rang.putStage (State.Rang.showSet (h.of_stagingWork (putJob_stagingWork ..)) _) _
    · split <;> rfl
  · exact h

/-- The bell of a job, before the old generation can retire: the new generation, the drain, and the event (R245, R246). -/
structure BellRung (s u : State) (j : Nat) : Prop where
  rang : u.Rang j ((s.rd R.WSET_JOB_GEN j + 1) % 16)
  drains : u.rd R.WSET_JOB_STAGE j = 3
  batches : u.batches = s.batches
  struck : (u.job j).bellDue = false

theorem ringBell_eq (s : State) (j : Nat) : ∃ u, ringBell s j = retire u j ∧ BellRung s u j := by
  unfold ringBell
  extract_lets g n st job inFlight rung belled drained served
  have hwork : served.stagingWork = rung.stagingWork := by
    refine (each_stagingWork _ _ drained fun s c => each_stagingWork _ _ s fun s t => wr_stagingWork s t _ (by decide)).trans
      ((each_stagingWork _ _ belled fun s k => ?_).trans (putJob_stagingWork ..))
    dsimp only
    split <;> rfl
  have hkeep {α : Type} (f : State → α) (hwr : ∀ s t v, f (s.wr R.TCAL_STAT_SVC t v) = f s) (hchip : ∀ s k c, f (State.putChip s k c) = f s) :
      f served = f belled := by
    refine (each_keeps f _ _ drained fun s c => each_keeps f _ _ s fun s t => hwr ..).trans (each_keeps f _ _ belled fun s k => ?_)
    dsimp only
    split
    · exact hchip ..
    · rfl
  refine ⟨served, rfl, State.Rang.of_stagingWork ⟨?_, ?_⟩ hwork, ?_, ?_, ?_⟩
  · exact (rd_raise_ofSet _ (by decide) (by decide) j).trans ((rd_wr_clearOf _ (by decide) j 3).trans (rd_wr_ofSet s (by decide) j (g + 1)))
  · exact raise_on_same _ R.WSET_EVT_BELL 0 (by decide) (by decide) (by decide) (by decide)
  · exact (rd_of_stagingWork hwork (by decide) j).trans ((rd_raise_ofSet _ (by decide) (by decide) j).trans (rd_wr_ofSet _ (by decide) j 3))
  · exact (hkeep State.batches (fun _ _ _ => rfl) (fun _ _ _ => rfl)).trans (raise_batches ..)
  · have hjob : served.job j = belled.job j := hkeep (State.job · j) (fun _ _ _ => rfl) (fun _ _ _ => rfl)
    rw [hjob, job_putJob_same]

theorem ringBell_rang (s : State) (j : Nat) : (ringBell s j).Rang j ((s.rd R.WSET_JOB_GEN j + 1) % 16) := by
  obtain ⟨u, heq, hu⟩ := ringBell_eq s j
  rw [heq]
  exact hu.rang.retire

/-- With batches of the old generation in flight it does not retire (R249). -/
theorem ringBell_drains {s : State} {j : Nat} (hflight : s.batchesOfGen j (s.rd R.WSET_JOB_GEN j) ≠ []) : BellRung s (ringBell s j) j := by
  obtain ⟨u, heq, hu⟩ := ringBell_eq s j
  have hgen : (u.rd R.WSET_JOB_GEN j + 15) % 16 = s.rd R.WSET_JOB_GEN j := by
    have hlt : s.rd R.WSET_JOB_GEN j < 2 ^ 4 := fieldOf_lt ..
    rw [hu.rang.1]
    omega
  have hbatches : u.batchesOfGen j (s.rd R.WSET_JOB_GEN j) = s.batchesOfGen j (s.rd R.WSET_JOB_GEN j) := by
    simp only [State.batchesOfGen, hu.batches]
  have hretire : retire u j = u := by simp [retire, hgen, hbatches, hflight]
  rwa [heq, hretire]

section
variable {s : State} {j : Fin 16}

theorem bell_strikes (hdue : (s.job j).bellDue = true) (hcut : s.cutting j = false) (hflight : s.batchesOfGen j (s.rd R.WSET_JOB_GEN j) ≠ []) :
    Does (.bell j) s fun t => t.rd R.WSET_JOB_GEN j = (s.rd R.WSET_JOB_GEN j + 1) % 16 ∧ t.rd R.WSET_JOB_STAGE j = 3 ∧
      t.on R.WSET_EVT_BELL 0 = true ∧ (t.job j).bellDue = false := by
  have hrung := ringBell_drains hflight
  exact ⟨_, congrArg Host.Outcome.next (if_pos (by simp [hdue, hcut])), hrung.rang.1, hrung.drains, hrung.rang.2, hrung.struck⟩

theorem bell_waits (h : (s.job j).bellDue = false ∨ s.cutting j = true) : Does (.bell j) s fun t => t = s := by
  refine ⟨s, congrArg Host.Outcome.next (if_neg ?_), rfl⟩
  obtain hdue | hcut := h
  · simp [hdue]
  · simp [hcut]

end

/-! ### A set that changes nothing -/

theorem stage_putStage_same (s : State) (j : Nat) (v : WStage) : (s.putStage j v).stage j = v := spGet_spSet_same ..

theorem stage_of_stages {s t : State} (h : t.stages = s.stages) (j : Nat) : t.stage j = s.stage j := by
  rw [State.stage, h]
  rfl

/-- A staging with no copy to write and no matrix to compute, before it is answered. -/
def State.stagedAlike (s : State) (j new : Nat) : State :=
  let base := s.putStage j { WStage.none with noMap := s.newNos j (s.rd R.WSET_JOB_SLOT j) new }
  (((base.wr R.WSET_JOB_STAGE j 1).wr R.WSET_JOB_NEW_SLOT j new).wr R.WSET_JOB_COPIES j 0).wrB R.WSET_JOB_AUTO j false

theorem beginStage_alike {s : State} {j new : Nat} (h : ∀ x, s.changed j (s.rd R.WSET_JOB_SLOT j) new x = false) (m : Nat) :
    beginStage s j m new false = stageProgress (showStore ((s.stagedAlike j new).respond m .ok 0 [0, 0, 0])) j := by
  have hmeshes : s.changedMeshes j (s.rd R.WSET_JOB_SLOT j) new = 0 := by simp [State.changedMeshes, h]
  have hchips : s.changedChips j (s.rd R.WSET_JOB_SLOT j) new = [] := by simp [State.changedChips, h]
  have hcopies : ((s.job j).placed.filter fun p => s.changed j (s.rd R.WSET_JOB_SLOT j) new p.shard) = [] := by simp [h]
  unfold beginStage
  simp only [hmeshes, hchips, hcopies, placeCopies, List.map_nil, each_nil, stage_putStage_same]
  rfl

/-- A staging whose copies and matrices are ready, with no bell asked for, is READY (R243). -/
theorem stageProgress_ready {s : State} {j : Nat} (hstage : s.rd R.WSET_JOB_STAGE j = 1) (hcopies : (s.stage j).copies = [])
    (hmeshes : (s.stage j).meshes = []) (hring : (s.stage j).ring = false) (hauto : s.rd R.WSET_JOB_AUTO j = 0) :
    stageProgress s j = (s.wr R.WSET_JOB_STAGE j 2).raise R.WSET_EVT_READY 0 := by
  have hauto' : ((s.wr R.WSET_JOB_STAGE j 2).raise R.WSET_EVT_READY 0).on R.WSET_JOB_AUTO j = false := by
    rw [on_eq_false, rd_raise_ofSet _ (by decide) (by decide), rd_wr_clearOf _ (by decide), hauto]
  simp [stageProgress, hstage, hcopies, hmeshes, hring, hauto']

/-- Once answered, and the use of the slots shown, it is READY at once. -/
theorem stagedAlike_ready (s : State) (m j : Nat) {new : Nat} (hnew : new < 8) :
    let t := stageProgress (showStore ((s.stagedAlike j new).respond m .ok 0 [0, 0, 0])) j
    t.Answers m .ok [0, 0, 0] ∧ t.rd R.WSET_JOB_STAGE j = 2 ∧ t.rd R.WSET_JOB_NEW_SLOT j = new ∧ t.on R.WSET_EVT_READY 0 = true := by
  have hanswer := answers_of_stagingWork (showStore_stagingWork _) (respond_answers (s.stagedAlike j new) m .ok 0 [0, 0, 0])
  have hrd {f : Fld} (hf : f.ofSet = true) : (showStore ((s.stagedAlike j new).respond m .ok 0 [0, 0, 0])).rd f j = (s.stagedAlike j new).rd f j :=
    (rd_of_stagingWork (showStore_stagingWork _) hf j).trans (rd_respond_ofSet _ m _ _ _ hf j)
  have hstage : (showStore ((s.stagedAlike j new).respond m .ok 0 [0, 0, 0])).stage j = (s.stagedAlike j new).stage j :=
    stage_of_stages ((stages_of_stagingWork (showStore_stagingWork _)).trans (respond_stages ..)) j
  have hplain : (s.stagedAlike j new).stage j = { WStage.none with noMap := s.newNos j (s.rd R.WSET_JOB_SLOT j) new } := stage_putStage_same ..
  have hbuilt : (s.stagedAlike j new).rd R.WSET_JOB_STAGE j = 1 := by
    rw [State.stagedAlike, State.wrB, rd_wr_clearOf _ (by decide), rd_wr_clearOf _ (by decide), rd_wr_clearOf _ (by decide),
      rd_wr_ofSet _ (by decide)]
    rfl
  have hslot : (s.stagedAlike j new).rd R.WSET_JOB_NEW_SLOT j = new := by
    rw [State.stagedAlike, State.wrB, rd_wr_clearOf _ (by decide), rd_wr_clearOf _ (by decide), rd_wr_ofSet _ (by decide)]
    exact Nat.mod_eq_of_lt hnew
  have hauto : (s.stagedAlike j new).rd R.WSET_JOB_AUTO j = 0 := rd_wr_ofSet _ (by decide) j 0
  rw [← hrd (f := R.WSET_JOB_STAGE) (by decide)] at hbuilt
  rw [← hrd (f := R.WSET_JOB_NEW_SLOT) (by decide)] at hslot
  rw [← hrd (f := R.WSET_JOB_AUTO) (by decide)] at hauto
  rw [← hstage] at hplain
  generalize showStore ((s.stagedAlike j new).respond m .ok 0 [0, 0, 0]) = u at *
  dsimp only
  rw [stageProgress_ready hbuilt (by rw [hplain]; rfl) (by rw [hplain]; rfl) (by rw [hplain]; rfl) hauto]
  refine ⟨answers_raise (by decide) (answers_wr (by decide) hanswer), ?_, ?_, raise_on_same _ _ _ (by decide) (by decide) (by decide) (by decide)⟩
  · rw [rd_raise_ofSet _ (by decide) (by decide), rd_wr_ofSet _ (by decide)]
    rfl
  · rw [rd_raise_ofSet _ (by decide) (by decide), rd_wr_clearOf _ (by decide), hslot]

/-! ### The commands of a staging -/

theorem stagingOn_running (s : State) (m j : Nat) : (s.running m).stagingOn j = s.stagingOn j := by
  simp only [State.stagingOn, rd_running_ofSet s m (f := R.WSET_JOB_STAGE) (by decide)]

/-- A command that is only answered leaves what shows the jobs' sets. -/
theorem running_respond_stage (s : State) (m : Nat) (st : Status) (d : Nat) (data : List Byte) (j : Nat) :
    ((s.running m).respond m st d data).Answers m st data ∧
      ((s.running m).respond m st d data).rd R.WSET_JOB_STAGE j = s.rd R.WSET_JOB_STAGE j :=
  ⟨respond_answers .., (rd_respond_ofSet _ m st d data (by decide) j).trans (rd_running_ofSet s m (by decide) j)⟩

section
variable {s : State} {m : Fin 16}

section
variable (h : s.begins m 0x0205 s.notStopped true true = true)
include h

/-- WSET_STAGE, as the checks of R242 decide. -/
theorem wsetStage_eq : exec (.wsetStage m) s = .next (
    if !(s.job (s.req m 8 1)).admitted then (s.running m).respond m .jobState 0 []
    else if (s.slot (s.req m 9 1)).st != slHeld then (s.running m).respond m .wsetMissing 0 []
    else if !s.sameShape (s.req m 8 1) (s.rd R.WSET_JOB_SLOT (s.req m 8 1)) (s.req m 9 1) then (s.running m).respond m .wsetShape 0 []
    else if s.stagingOn (s.req m 8 1) then (s.running m).respond m .wsetBusy 0 []
    else beginStage (s.running m) (s.req m 8 1) m (s.req m 9 1) (s.req m 0x0A 1 == 1)) := by
  have hshape (j cur new : Nat) : (s.running m).sameShape j cur new = s.sameShape j cur new := rfl
  have hslot (n : Nat) : (s.running m).slot n = s.slot n := rfl
  simp only [exec, execWsetStage, peade_begins 0 _ h, req_running, job_running, hslot, hshape, stagingOn_running,
    rd_running_ofSet s m (f := R.WSET_JOB_SLOT) (by decide)]

theorem wsetStage_notAdmitted (hjob : (s.job (s.req m 8 1)).admitted = false) : Does (.wsetStage m) s fun t =>
    t.Answers m .jobState [] ∧ t.rd R.WSET_JOB_STAGE (s.req m 8 1) = s.rd R.WSET_JOB_STAGE (s.req m 8 1) := by
  refine ⟨_, ?_, running_respond_stage s m .jobState 0 [] _⟩
  rw [wsetStage_eq h, if_pos (by simp [hjob])]

section
variable (hjob : (s.job (s.req m 8 1)).admitted = true)
include hjob

theorem wsetStage_missing (hst : (s.slot (s.req m 9 1)).st ≠ 2) : Does (.wsetStage m) s fun t =>
    t.Answers m .wsetMissing [] ∧ t.rd R.WSET_JOB_STAGE (s.req m 8 1) = s.rd R.WSET_JOB_STAGE (s.req m 8 1) := by
  refine ⟨_, ?_, running_respond_stage s m .wsetMissing 0 [] _⟩
  rw [wsetStage_eq h, if_neg (by simp [hjob]), if_pos (by simp [hst])]

section
variable (hst : (s.slot (s.req m 9 1)).st = 2)
include hst

theorem wsetStage_shape (hshape : s.sameShape (s.req m 8 1) (s.rd R.WSET_JOB_SLOT (s.req m 8 1)) (s.req m 9 1) = false) :
    Does (.wsetStage m) s fun t =>
      t.Answers m .wsetShape [] ∧ t.rd R.WSET_JOB_STAGE (s.req m 8 1) = s.rd R.WSET_JOB_STAGE (s.req m 8 1) := by
  refine ⟨_, ?_, running_respond_stage s m .wsetShape 0 [] _⟩
  rw [wsetStage_eq h, if_neg (by simp [hjob]), if_neg (by simp [hst]), if_pos (by simp [hshape])]

section
variable (hshape : s.sameShape (s.req m 8 1) (s.rd R.WSET_JOB_SLOT (s.req m 8 1)) (s.req m 9 1) = true)
include hshape

theorem wsetStage_busy (hon : s.stagingOn (s.req m 8 1) = true) : Does (.wsetStage m) s fun t =>
    t.Answers m .wsetBusy [] ∧ t.rd R.WSET_JOB_STAGE (s.req m 8 1) = s.rd R.WSET_JOB_STAGE (s.req m 8 1) := by
  refine ⟨_, ?_, running_respond_stage s m .wsetBusy 0 [] _⟩
  rw [wsetStage_eq h, if_neg (by simp [hjob]), if_neg (by simp [hst]), if_neg (by simp [hshape]), if_pos hon]

/-- A set that changes nothing the job uses is READY at once (R243). -/
theorem wsetStage_ready (hoff : s.stagingOn (s.req m 8 1) = false)
    (halike : ∀ x, s.changed (s.req m 8 1) (s.rd R.WSET_JOB_SLOT (s.req m 8 1)) (s.req m 9 1) x = false) (hauto : s.req m 0x0A 1 = 0) :
    Does (.wsetStage m) s fun t => t.Answers m .ok [0, 0, 0] ∧ t.rd R.WSET_JOB_STAGE (s.req m 8 1) = 2 ∧
      t.rd R.WSET_JOB_NEW_SLOT (s.req m 8 1) = s.req m 9 1 ∧ t.on R.WSET_EVT_READY 0 = true := by
  have hcmd : findCmd 0x0205 = some ⟨0x0205, some 3, [], [⟨8, 1, 0, 15⟩, ⟨9, 1, 0, 7⟩, ⟨10, 1, 0, 1⟩]⟩ := by decide +kernel
  have hnew : s.req m 9 1 ≤ 7 := begins_param h hcmd (p := ⟨9, 1, 0, 7⟩) (by decide)
  have hexec := wsetStage_eq h
  rw [if_neg (by simp [hjob]), if_neg (by simp [hst]), if_neg (by simp [hshape]), if_neg (by simp [hoff]), hauto,
    show ((0 : Nat) == 1) = false from rfl, beginStage_alike (by rw [rd_running_ofSet s m (by decide)]; exact halike)] at hexec
  exact ⟨_, hexec, stagedAlike_ready (s.running m) m (s.req m 8 1) (Nat.lt_succ_of_le hnew)⟩

end

end

end

end

section
variable (h : s.begins m 0x0206 s.notStopped true true = true)
include h

/-- WSET_RING (R245). -/
theorem wsetRing_eq : exec (.wsetRing m) s = .next (
    if s.rd R.WSET_JOB_STAGE (s.req m 8 1) = 2 then
      (bell (s.running m) (s.req m 8 1)).respond m .ok 0 (leBytes 1 1 ++ leBytes 1 ((s.rd R.WSET_JOB_GEN (s.req m 8 1) + 1) % 16))
    else if s.rd R.WSET_JOB_STAGE (s.req m 8 1) = 1 then
      ((s.running m).putStage (s.req m 8 1) { s.stage (s.req m 8 1) with ring := true }).respond m .ok 0
        (leBytes 1 0 ++ leBytes 1 ((s.rd R.WSET_JOB_GEN (s.req m 8 1) + 1) % 16))
    else (s.running m).respond m .stageNone 0 []) := by
  have hstage (j : Nat) : (s.running m).stage j = s.stage j := rfl
  simp only [exec, execWsetRing, peade_begins 0 _ h, req_running, hstage, rd_running_ofSet s m (f := R.WSET_JOB_STAGE) (by decide),
    rd_running_ofSet s m (f := R.WSET_JOB_GEN) (by decide)]

theorem wsetRing_rings (hready : s.rd R.WSET_JOB_STAGE (s.req m 8 1) = 2) (hcut : s.cutting (s.req m 8 1) = false) :
    Does (.wsetRing m) s fun t => t.Answers m .ok (leBytes 1 1 ++ leBytes 1 ((s.rd R.WSET_JOB_GEN (s.req m 8 1) + 1) % 16)) ∧
      t.rd R.WSET_JOB_GEN (s.req m 8 1) = (s.rd R.WSET_JOB_GEN (s.req m 8 1) + 1) % 16 ∧ t.on R.WSET_EVT_BELL 0 = true := by
  have hbell : bell (s.running m) (s.req m 8 1) = ringBell (s.running m) (s.req m 8 1) := if_neg (Bool.eq_false_iff.1 hcut)
  obtain ⟨hgen, hevt⟩ := ringBell_rang (s.running m) (s.req m 8 1)
  rw [rd_running_ofSet s m (by decide)] at hgen
  refine ⟨_, (wsetRing_eq h).trans (by rw [if_pos hready, hbell]), respond_answers .., ?_, ?_⟩
  · rw [rd_respond_ofSet _ _ _ _ _ (by decide), hgen]
  · rw [on_respond_wsetEvt _ _ _ _ _ (by decide), hevt]

theorem wsetRing_waits (hready : s.rd R.WSET_JOB_STAGE (s.req m 8 1) = 2) (hcut : s.cutting (s.req m 8 1) = true) :
    Does (.wsetRing m) s fun t => t.Answers m .ok (leBytes 1 1 ++ leBytes 1 ((s.rd R.WSET_JOB_GEN (s.req m 8 1) + 1) % 16)) ∧
      (t.job (s.req m 8 1)).bellDue = true ∧ t.rd R.WSET_JOB_GEN (s.req m 8 1) = s.rd R.WSET_JOB_GEN (s.req m 8 1) := by
  have hbell : bell (s.running m) (s.req m 8 1) =
      (s.running m).putJob (s.req m 8 1) { s.job (s.req m 8 1) with bellDue := true } := if_pos hcut
  refine ⟨_, (wsetRing_eq h).trans (by rw [if_pos hready, hbell]), respond_answers .., ?_, ?_⟩
  · rw [job_respond, job_putJob_same]
  · rw [rd_respond_ofSet _ _ _ _ _ (by decide), rd_putJob, rd_running_ofSet s m (by decide)]

theorem wsetRing_asks (hbuilt : s.rd R.WSET_JOB_STAGE (s.req m 8 1) = 1) :
    Does (.wsetRing m) s fun t => t.Answers m .ok (leBytes 1 0 ++ leBytes 1 ((s.rd R.WSET_JOB_GEN (s.req m 8 1) + 1) % 16)) ∧
      (t.stage (s.req m 8 1)).ring = true := by
  refine ⟨_, (wsetRing_eq h).trans (by rw [if_neg (by omega), if_pos hbuilt]), respond_answers .., ?_⟩
  rw [stage_of_stages (respond_stages ..), stage_putStage_same]

theorem wsetRing_refused (hbuilt : s.rd R.WSET_JOB_STAGE (s.req m 8 1) ≠ 1) (hready : s.rd R.WSET_JOB_STAGE (s.req m 8 1) ≠ 2) :
    Does (.wsetRing m) s fun t => t.Answers m .stageNone [] ∧ t.jobs = s.jobs :=
  ⟨_, (wsetRing_eq h).trans (by rw [if_neg hready, if_neg hbuilt]), running_respond_answers ..⟩

end

end

/-! ### A staging given up -/

/-- Job `j` stages nothing more, and the mailboxes are as they were. -/
structure Unstaged (s t : State) (j : Nat) : Prop where
  shown : t.rd R.WSET_JOB_STAGE j = 0
  none : t.stage j = WStage.none
  mbxOrder : t.mbxOrder = s.mbxOrder
  mailboxes : ∀ x, 0x10000 ≤ x → x < 0x10880 → t.word x = s.word x

/-- The registers that show job `j`'s staging, and the staging itself, cleared (R250). -/
def State.unstage (s : State) (j : Nat) : State :=
  ((((s.wr R.WSET_JOB_STAGE j 0).wr R.WSET_JOB_COPIES j 0).wr R.WSET_JOB_AUTO j 0).wr R.WSET_JOB_NEW_SLOT j 0).putStage j WStage.none

theorem rd_putStage (s : State) (j : Nat) (v : WStage) (f : Fld) (i : Nat) : (s.putStage j v).rd f i = s.rd f i := rfl

theorem word_putStage (s : State) (j : Nat) (v : WStage) (x : Nat) : (s.putStage j v).word x = s.word x := rfl

theorem mbxOrder_putStage (s : State) (j : Nat) (v : WStage) : (s.putStage j v).mbxOrder = s.mbxOrder := rfl

theorem mbxOrder_wr (s : State) (f : Fld) (i v : Nat) : (s.wr f i v).mbxOrder = s.mbxOrder := rfl

theorem unstage_unstages (s : State) (j : Nat) : Unstaged s (s.unstage j) j := by
  unfold State.unstage
  refine ⟨?_, stage_putStage_same .., ?_, fun x _ hhi => ?_⟩
  · rw [rd_putStage, rd_wr_clearOf _ (by decide), rd_wr_clearOf _ (by decide), rd_wr_clearOf _ (by decide), rd_wr_ofSet _ (by decide),
      Nat.zero_mod]
  · rw [mbxOrder_putStage, mbxOrder_wr, mbxOrder_wr, mbxOrder_wr, mbxOrder_wr]
  · have hkey (f : Fld) (hf : f.ofSet = true) : x ≠ f.key j 0 := by rw [ofSet_key hf]; omega
    rw [word_putStage, word_wr_ne _ R.WSET_JOB_NEW_SLOT j 0 (hkey _ (by decide)), word_wr_ne _ R.WSET_JOB_AUTO j 0 (hkey _ (by decide)),
      word_wr_ne _ R.WSET_JOB_COPIES j 0 (hkey _ (by decide)), word_wr_ne _ R.WSET_JOB_STAGE j 0 (hkey _ (by decide))]

theorem Unstaged.of_stagingWork {s t s' t' : State} {j : Nat} (h : Unstaged s t j) (hs : s.stagingWork = s'.stagingWork)
    (ht : t'.stagingWork = t.stagingWork) : Unstaged s' t' j where
  shown := (rd_of_stagingWork ht (by decide) j).trans h.shown
  none := (stage_of_stages (stages_of_stagingWork ht) j).trans h.none
  mbxOrder := (mbxOrder_of_stagingWork ht).trans (h.mbxOrder.trans (mbxOrder_of_stagingWork hs))
  mailboxes x hlo hhi := by
    have hx : stagingKey x = true := by simp [stagingKey, hlo, hhi]
    exact (word_of_stagingWork ht hx).trans ((h.mailboxes x hlo hhi).trans (word_of_stagingWork hs hx))

theorem Unstaged.raise {s t : State} {j : Nat} (h : Unstaged s t j) {f : Fld} (hf : f.key 0 0 = 0x51004) : Unstaged s (t.raise f 0) j where
  shown := (rd_raise_ofSet t hf (by decide) j).trans h.shown
  none := (stage_of_stages (raise_stages ..) j).trans h.none
  mbxOrder := (raise_mbxOrder ..).trans h.mbxOrder
  mailboxes x hlo hhi := (raise_word_ne t f 0 (by omega) (by omega)).trans (h.mailboxes x hlo hhi)

theorem dropStage_unstages (s : State) (j : Nat) : Unstaged s (dropStage s j 0) j := by
  unfold dropStage
  dsimp only
  refine Unstaged.raise (Unstaged.of_stagingWork (unstage_unstages _ j) ?_
    ((showStore_stagingWork _).trans ((showHwNow_stagingWork _).trans (each_stagingWork _ _ _ fillReserve_stagingWork)))) (by decide)
  refine (each_stagingWork _ _ _ fun s k => ?_).trans ((each_stagingWork _ _ _ fun s t => ?_).trans
    ((setWrites_stagingWork ..).trans (putJob_stagingWork ..)))
  · simp [apply_ite State.stagingWork]
  · simp (disch := decide) [apply_ite State.stagingWork]

section
variable {s : State} {m : Fin 16}

section
variable (h : s.begins m 0x0207 true true true = true)
include h

/-- WSET_ABORT (R250). -/
theorem wsetAbort_eq : exec (.wsetAbort m) s = .next (
    if s.rd R.WSET_JOB_STAGE (s.req m 8 1) = 3 then (s.running m).respond m .wsetBusy 0 []
    else if !s.stagingOn (s.req m 8 1) then (s.running m).respond m .stageNone 0 []
    else gradeProgress ((dropStage (s.running m) (s.req m 8 1) 0).respond m .ok 0 []) (s.req m 8 1)) := by
  simp only [exec, execWsetAbort, peade_begins 0 _ h, req_running, stagingOn_running,
    rd_running_ofSet s m (f := R.WSET_JOB_STAGE) (by decide)]

theorem wsetAbort_rung (hrung : s.rd R.WSET_JOB_STAGE (s.req m 8 1) = 3) :
    Does (.wsetAbort m) s fun t => t.Answers m .wsetBusy [] ∧ t.rd R.WSET_JOB_STAGE (s.req m 8 1) = 3 := by
  obtain ⟨hanswer, hstage⟩ := running_respond_stage s m .wsetBusy 0 [] (s.req m 8 1)
  exact ⟨_, (wsetAbort_eq h).trans (by rw [if_pos hrung]), hanswer, hstage.trans hrung⟩

theorem wsetAbort_none (hnone : s.rd R.WSET_JOB_STAGE (s.req m 8 1) = 0 ∨ s.rd R.WSET_JOB_STAGE (s.req m 8 1) = 4) :
    Does (.wsetAbort m) s fun t => t.Answers m .stageNone [] ∧ t.stages = s.stages := by
  have hoff : s.stagingOn (s.req m 8 1) = false := by rw [State.stagingOn, decide_eq_false_iff_not]; omega
  refine ⟨(s.running m).respond m .stageNone 0 [], ?_, respond_answers .., respond_stages ..⟩
  rw [wsetAbort_eq h, if_neg (by omega), if_pos (by simp [hoff])]

/-- A staging not yet rung ends; no grade change waits for it (R250). -/
theorem wsetAbort_ends (hon : s.rd R.WSET_JOB_STAGE (s.req m 8 1) = 1 ∨ s.rd R.WSET_JOB_STAGE (s.req m 8 1) = 2)
    (hgrade : s.runningWith 0x0105 (s.req m 8 1) = none) : Does (.wsetAbort m) s fun t => t.Answers m .ok [] ∧
      t.rd R.WSET_JOB_STAGE (s.req m 8 1) = 0 ∧ t.stage (s.req m 8 1) = WStage.none := by
  have hstaging : s.stagingOn (s.req m 8 1) = true := by rw [State.stagingOn, decide_eq_true_eq]; omega
  have hdrop := dropStage_unstages (s.running m) (s.req m 8 1)
  have hrunning : (dropStage (s.running m) (s.req m 8 1) 0).runningWith 0x0105 (s.req m 8 1) = none :=
    (runningWith_of_words hdrop.mbxOrder hdrop.mailboxes _ _).trans
      ((runningWith_running (by rw [begins_mbCmd h]; decide) _).trans hgrade)
  refine ⟨(dropStage (s.running m) (s.req m 8 1) 0).respond m .ok 0 [], ?_, respond_answers .., ?_, ?_⟩
  · rw [wsetAbort_eq h, if_neg (by omega), if_neg (by simp [hstaging]), gradeProgress_idle (runningWith_respond hrunning ..)]
  · rw [rd_respond_ofSet _ _ _ _ _ (by decide), hdrop.shown]
  · rw [stage_of_stages (respond_stages ..), hdrop.none]

end

/-- WSET_STATUS (R312). -/
theorem wsetStatus_answers (h : s.begins m 0x0208 true true true = true) : Does (.wsetStatus m) s fun t => t.Answers m .ok
    (leBytes 4 (s.word (R.WSET_JOB.key (s.req m 8 1) 0)).toNat ++ leBytes 2 (s.copiesPending (s.req m 8 1))) ∧ t.stages = s.stages := by
  have hpending (j : Nat) : (s.running m).copiesPending j = s.copiesPending j := rfl
  have hword (j : Nat) : (s.running m).word (R.WSET_JOB.key j 0) = s.word (R.WSET_JOB.key j 0) :=
    word_running s m (by rw [WSET_JOB_key]; omega)
  refine ⟨(s.running m).respond m .ok 0 _, ?_, respond_answers .., respond_stages ..⟩
  simp only [exec, execWsetStatus, peade_begins 0 _ h, req_running, hpending, hword]

end

/-- Settles O52: each command by the lemma of its case, with the bell and the staging given up followed through what tiles and chiplets leave
(`State.stagingWork`). -/
theorem weightSetsAreStaged : Obligations.WeightSetsAreStaged := by
  unfold Obligations.WeightSetsAreStaged
  intro s
  refine ⟨fun j => ⟨bell_strikes, bell_waits⟩, fun m => ⟨fun h => ⟨wsetStage_notAdmitted h, fun hjob => ⟨wsetStage_missing h hjob,
    fun hst => ⟨wsetStage_shape h hjob hst, wsetStage_busy h hjob hst, wsetStage_ready h hjob hst⟩⟩⟩, fun h => ?_, fun h => ?_,
    fun h => wsetStatus_answers h⟩⟩
  · exact ⟨wsetRing_rings h, wsetRing_waits h, wsetRing_asks h, wsetRing_refused h⟩
  · exact ⟨wsetAbort_rung h, wsetAbort_ends h, wsetAbort_none h⟩

end Sys2Proof.Machine
end
section
/-! PROOF. The family of 09_streams_and_time.md: an idle step (O2) and the 64-bit timebase as the host reads it (O11). -/

namespace Sys2Proof.Machine

/-! ### A cycle of the timebase clock -/

/-- A member that changes nothing, wherever it stands in the list, leaves the state. -/
theorem each_fixed {α : Type} {f : State → α → State} {s : State} {l : List α} (h : ∀ a ∈ l, f s a = s) : s.each l f = s := by
  induction l with
  | nil => rfl
  | cons a l ih => rw [each_cons, h a List.mem_cons_self, ih fun b hb => h b (List.mem_cons_of_mem a hb)]

/-- A request whose command is known is not refused for its code. -/
theorem refuseUnknown_known {s : State} {m : Nat} (h : (findCmd (s.mbCmd m)).isSome = true) : refuseUnknown s m = s := by
  simp [refuseUnknown, Option.isSome_iff_ne_none.1 h]

/-- Whatever an answer leaves alone, the refusal of unknown requests leaves alone. -/
theorem refuseUnknown_apart {α : Type} (g : State → α) (hg : ∀ (s : State) m st d data, g (s.respond m st d data) = g s) (s : State) (m : Nat) :
    g (refuseUnknown s m) = g s := by
  unfold refuseUnknown
  split
  · exact hg ..
  · rfl

theorem timebaseCycle_apart {α : Type} (g : State → α) (hg : ∀ (s : State) v, g (s.setTime v) = g s) (s : State) :
    g (timebaseCycle s) = g s := by
  unfold timebaseCycle
  split
  · exact hg ..
  · rfl

theorem timebaseCycle_counts {s : State} (h : s.time.started = true) : (timebaseCycle s).time.count = s.time.count + BitVec.ofNat 64
    ((s.time.frac + (10 * (100000000 + s.rdInt R.TB_STAT_RATE 0)).toNat) / 100000000) := by
  simp only [timebaseCycle, h, if_true]
  rfl

theorem timebaseCycle_stands {s : State} (h : s.time.started = false) : timebaseCycle s = s := by
  simp only [timebaseCycle, h, Bool.false_eq_true, if_false]

/-- The state one cycle of the timebase clock later, before unknown requests are refused. -/
def State.cycled (s : State) : State := timebaseCycle (s.setNow (s.now + if Nat.testBit (s.rd R.CLK_STAT_LOCKED 0) 1 then 3 else 4))

theorem idleCycle_eq (s : State) : idleCycle s = s.cycled.each s.mbxOrder refuseUnknown := rfl

theorem idleCycle_apart {α : Type} (g : State → α) (hg : ∀ (s : State) m st d data, g (s.respond m st d data) = g s) (s : State) :
    g (idleCycle s) = g s.cycled := each_keeps g _ _ _ (refuseUnknown_apart g hg)

/-- With every waiting request known, nothing but time passes. -/
theorem idleCycle_known {s : State} (h : ∀ m ∈ s.mbxOrder, (findCmd (s.mbCmd m)).isSome = true) : idleCycle s = s.cycled := by
  rw [idleCycle_eq]
  refine each_fixed fun m hm => refuseUnknown_known ?_
  have hcmd : s.cycled.mbCmd m = s.mbCmd m := timebaseCycle_apart (State.mbCmd · m) (fun _ _ => rfl) _
  rw [hcmd]
  exact h m hm

/-- Settles O2: time passes and the timebase counts, and refusing unknown requests changes neither. -/
theorem idleStepIsOneTimebaseCycle : Obligations.IdleStepIsOneTimebaseCycle := by
  intro s hq
  refine ⟨idleCycle s, by simp [step, hq], ?_, ?_, fun hknown => ?_, fun hstarted => ?_, fun hstopped => ?_⟩
  · exact (idleCycle_apart State.now respond_now s).trans (timebaseCycle_apart State.now (fun _ _ => rfl) _)
  · exact ((idleCycle_apart State.pending respond_pending s).trans (timebaseCycle_apart State.pending (fun _ _ => rfl) _)).trans hq
  · rw [idleCycle_known hknown]
    exact timebaseCycle_apart State.regs (fun _ _ => rfl) _
  · rw [idleCycle_apart State.time respond_time]
    exact timebaseCycle_counts hstarted
  · rw [idleCycle_apart State.time respond_time, State.cycled, timebaseCycle_stands]
    · rfl
    · exact hstopped

/-! ### The 64-bit timebase as the host reads it -/

/-- A host read of a register of the direct space, the words of 64-bit values included. -/
theorem keyRead_register {s : State} {key : Nat} {r : RegSpec} (hk : key < halfStep) (hr : findReg key = some r)
    (hboot : s.on R.SYS_STAT_BOOT_DONE 0 = true) (h24 : key ≠ 0x24) :
    keyRead s key = gave (readDirect s r key).2 (readDirect s r key).1 := by
  have hlt := direct_key_lt hk hr
  have hreach : s.reachable key = true := by simp [State.reachable, hboot]
  simp only [keyRead, hk, if_true, hostRead, hreach, State.readWord, h24, if_false, show ¬ (0x100000 ≤ key ∧ key < 0x140000) by omega,
    show ¬ (0x800000 ≤ key ∧ key < 0x804000) by omega, hr, show ¬ halfStep ≤ key by omega]

theorem readPlain_tbLo {s : State} {r : RegSpec} (hbase : r.base = 0x60900) (hr : r.readsPlainly) :
    readPlain s r 0x60900 = (BitVec.ofNat 32 s.tb.toNat, s) := by
  rw [readPlain_window (gated_free s rfl) hr (by simp [hbase])]
  simp only [State.view, windowStep, hbase]

theorem readPlain_tbHi {s : State} {r : RegSpec} (hbase : r.base = 0x60904) (hr : r.readsPlainly) :
    readPlain s r 0x60904 = (BitVec.ofNat 32 (s.tb.toNat / 2 ^ 32), s) := by
  rw [readPlain_window (gated_free s rfl) hr (by simp [hbase])]
  simp only [State.view, windowStep, hbase]

theorem tbLo_at : WindowAt 0x60900 0x60900 0 := windowAt_of_eval (by decide +kernel)

theorem tbHi_at : WindowAt 0x60904 0x60904 0 := windowAt_of_eval (by decide +kernel)

/-- A read of the low word gives it and latches the high word (R298). -/
theorem wideValueRead_tbLo {s : State} (hboot : s.on R.SYS_STAT_BOOT_DONE 0 = true) : exec (.wideValueRead 0x60900) s =
    .next (gave (s.setShadow (spSet (fun _ => none) s.shadow 0x60904 (some (BitVec.ofNat 32 (s.tb.toNat / 2 ^ 32)))))
      (BitVec.ofNat 32 s.tb.toNat)) := by
  obtain ⟨lo, hlo, hbase, -, hplain⟩ := tbLo_at
  obtain ⟨hi, hhi, hbase', -, -⟩ := tbHi_at
  have hview : s.view hi 0x60904 = BitVec.ofNat 32 (s.tb.toNat / 2 ^ 32) := by simp only [State.view, hbase']
  have hread : readDirect s lo 0x60900 = (BitVec.ofNat 32 s.tb.toNat,
      s.setShadow (spSet (fun _ => none) s.shadow 0x60904 (some (BitVec.ofNat 32 (s.tb.toNat / 2 ^ 32))))) := by
    simp only [readDirect, gated_free s (show blockBit 0x60900 = none from rfl), show isWideLo 0x60900 = true from rfl, Bool.false_eq_true,
      if_false, if_true, readPlain_tbLo hbase hplain, hhi, Option.map_some, Option.getD_some, hview]
  simp only [exec, execWideValueRead, keyRead_register (show 0x60900 < halfStep by decide) hlo hboot (by decide), hread]

/-- A read of the high word gives what was latched and uses it up, or with nothing latched the live high word (R298). -/
theorem wideValueRead_tbHi {s : State} (hboot : s.on R.SYS_STAT_BOOT_DONE 0 = true) {v : Option Word}
    (hv : spGet (fun _ => none) s.shadow 0x60904 = v) : exec (.wideValueRead 0x60904) s =
    .next (gave (v.elim s fun _ => s.setShadow (spSet (fun _ => none) s.shadow 0x60904 none))
      (v.getD (BitVec.ofNat 32 (s.tb.toNat / 2 ^ 32)))) := by
  obtain ⟨r, hr, hbase, -, hplain⟩ := tbHi_at
  simp only [exec, execWideValueRead, keyRead_register (show 0x60904 < halfStep by decide) hr hboot (by decide), readDirect,
    gated_free s (show blockBit 0x60904 = none from rfl), show isWideLo 0x60904 = false from rfl, show isWideHi 0x60904 = true from rfl,
    Bool.false_eq_true, if_false, if_true, readPlain_tbHi hbase hplain, hv]
  cases v <;> rfl

/-- Settles O11: the two words are read as `wideValueRead_tbLo` and `wideValueRead_tbHi` say. -/
theorem wideValuesLatch : Obligations.WideValuesLatch := by
  intro s hboot
  have hset (v : Option Word) (w : Word) :
      spGet (fun _ => none) (gave (s.setShadow (spSet (fun _ => none) s.shadow 0x60904 v)) w).shadow 0x60904 = v :=
    spGet_spSet_same (fun _ => none) s.shadow 0x60904 v
  refine ⟨⟨_, wideValueRead_tbLo hboot, ?_, hset ..⟩, fun hi hlatched => ⟨_, wideValueRead_tbHi hboot hlatched, rfl, hset ..⟩,
    fun hnone => ⟨_, wideValueRead_tbHi hboot hnone, ?_⟩⟩
  · exact congrArg (leBytes 4) (BitVec.toNat_ofNat ..)
  · have hlt : s.time.count.toNat / 2 ^ 32 < 2 ^ 32 := by have := s.time.count.isLt; omega
    exact congrArg (leBytes 4) ((BitVec.toNat_ofNat ..).trans (Nat.mod_eq_of_lt hlt))

end Sys2Proof.Machine
end

section
/-! PROOF. The family of 09_streams_and_time.md: drop and periodic records, and the timers of a transmit port (O26). -/

namespace Sys2Proof.Machine

/-! ### Records handed to the record channel -/

/-- Handing a record over appends its packets to the record channel, and may open a frame there. -/
theorem handRecord_eq (s : State) (port vc dtype : Nat) (ps : List (List Byte)) : ∃ q n c t, q.length = ps.length ∧
    handRecord s port vc dtype ps = (((s.setRecQ (s.recQ ++ q)).setRecSeq n).setChans c).setTx t := by
  obtain ⟨c, t, hframe⟩ := openFrame_eq ((s.setRecQ _).setRecSeq _) port vc
  exact ⟨_, _, c, t, by simp, hframe⟩

theorem handRecord_apart {α : Type} (g : State → α) (hg : ∀ s q n c t, g ((((State.setRecQ s q).setRecSeq n).setChans c).setTx t) = g s)
    (s : State) (port vc dtype : Nat) (ps : List (List Byte)) : g (handRecord s port vc dtype ps) = g s := by
  obtain ⟨q, n, c, t, -, heq⟩ := handRecord_eq s port vc dtype ps
  rw [heq, hg]

theorem handRecord_recQ (s : State) (port vc dtype : Nat) (ps : List (List Byte)) :
    (handRecord s port vc dtype ps).recQ.length = s.recQ.length + ps.length := by
  obtain ⟨q, n, c, t, hlen, heq⟩ := handRecord_eq s port vc dtype ps
  rw [heq, ← hlen]
  exact List.length_append

theorem emitDrops_recQ (l : List DropRun) (s : State) : (s.each l emitDrop).recQ.length = s.recQ.length + l.length := by
  induction l generalizing s with
  | nil => rfl
  | cons r l ih =>
    have hone : (emitDrop s r).recQ.length = s.recQ.length + 1 := handRecord_recQ ..
    rw [each_cons, ih, hone, List.length_cons]
    omega

/-- The drop runs that are due leave, each by its record (R262). -/
theorem dropRunTimeout_closes (s : State) (st : Fin 48) : let due (r : DropRun) : Bool := r.stream == st.val && s.passed r.at_ msec
    Does (.dropRunTimeout st) s fun t => t.drops = s.drops.filter (fun r => !due r) ∧
      t.recQ.length = s.recQ.length + (s.drops.filter due).length ∧ t.regs = s.regs := by
  intro due
  refine ⟨_, rfl, ?_, emitDrops_recQ .., ?_⟩
  · exact each_keeps State.drops _ emitDrop _ fun _ _ => handRecord_apart State.drops (fun _ _ _ _ _ => rfl) ..
  · exact each_keeps State.regs _ emitDrop _ fun _ _ => handRecord_apart State.regs (fun _ _ _ _ _ => rfl) ..

/-! ### Periodic status records -/

/-- A payload that one part carries is not cut (R267, R270). -/
theorem parts_single {bs : List Byte} (h : bs.length ≤ partMax) : parts bs = [bs] := if_pos h

theorem periodicBody_length (s : State) : s.periodicBody.length = 72 := by
  simp [State.periodicBody, leInt, leBytes_length, streamNums]

/-- Counting the drops of streams anew (R271). -/
def State.dropsAnew (s : State) (st : Nat) : State := s.putIng st { s.ing st with drops := 0 }

theorem dropsAnew_drops (s : State) (st i : Nat) (h : i = st ∨ (s.ing i).drops = 0) : ((s.dropsAnew st).ing i).drops = 0 := by
  simp only [State.dropsAnew, State.ing, State.putIng, State.setIngest_frame, spGet_spSet]
  split
  · rfl
  · exact h.resolve_left ‹_›

theorem each_dropsAnew_drops (l : List Nat) (s : State) (i : Nat) (h : i ∈ l ∨ (s.ing i).drops = 0) :
    ((s.each l State.dropsAnew).ing i).drops = 0 := by
  induction l generalizing s with
  | nil => exact h.resolve_left List.not_mem_nil
  | cons st l ih =>
    refine ih _ ?_
    rw [List.mem_cons, or_assoc, or_left_comm] at h
    exact h.imp_right (dropsAnew_drops s st i)

section
variable {s : State}

theorem periodicStatus_eq (hms : s.rd R.REC_PERIOD_PERIOD_MS 0 ≠ 0)
    (hdue : s.passed s.time.statusAt (msec * s.rd R.REC_PERIOD_PERIOD_MS 0) = true) : exec .periodicStatus s = .next
      ((handRecord (s.setTime { s.time with statusAt := s.now }) s.recPort.1 s.recPort.2 0x33
        [statusBytes 1 s.stampNow s.recSeq 0 0 s.periodicBody]).each streamNums State.dropsAnew) := by
  have hbody : parts (s.setTime { s.time with statusAt := s.now }).periodicBody = [s.periodicBody] :=
    parts_single (by rw [periodicBody_length]; decide)
  simp only [exec, execPeriodicStatus, hms, hdue, decide_false, Bool.not_true, Bool.or_self, Bool.false_eq_true, if_false, emitStatus, hbody]
  rfl

theorem periodicStatus_emits (hms : s.rd R.REC_PERIOD_PERIOD_MS 0 ≠ 0)
    (hdue : s.passed s.time.statusAt (msec * s.rd R.REC_PERIOD_PERIOD_MS 0) = true) : Does .periodicStatus s fun t =>
      t.recQ.length = s.recQ.length + 1 ∧ (∀ st < 48, (t.ing st).drops = 0) ∧ t.regs = s.regs ∧ t.time.statusAt = s.now := by
  refine ⟨_, periodicStatus_eq hms hdue, ?_, fun st hst => each_dropsAnew_drops _ _ st (.inl (List.mem_range.2 hst)), ?_, ?_⟩
  · rw [each_keeps State.recQ _ State.dropsAnew _ fun _ _ => rfl]
    exact handRecord_recQ ..
  · rw [each_keeps State.regs _ State.dropsAnew _ fun _ _ => rfl]
    exact handRecord_apart State.regs (fun _ _ _ _ _ => rfl) ..
  · rw [each_keeps State.time _ State.dropsAnew _ fun _ _ => rfl, handRecord_apart State.time fun _ _ _ _ _ => rfl]
    rfl

theorem periodicStatus_idle (h : s.rd R.REC_PERIOD_PERIOD_MS 0 = 0 ∨
    s.passed s.time.statusAt (msec * s.rd R.REC_PERIOD_PERIOD_MS 0) = false) : Does .periodicStatus s fun t => t = s := by
  refine ⟨s, ?_, rfl⟩
  obtain h | h := h <;> simp [exec, execPeriodicStatus, h]

end

/-! ### The records of a transmit port -/

theorem txp_putTx (s : State) (t : Nat) (v : TxPort) : (s.putTx t v).txp t = v := spGet_spSet_same ..

theorem chan_putChan (s : State) (t vc : Nat) (v : Chan) : (s.putChan t vc v).chan t vc = v := spGet_spSet_same ..

/-- What waits to be sent, and what port `t` sent last and from where. -/
def State.sending (s : State) (t : Nat) : List RecPacket × Sparse OutStream × Option (Nat × Nat × List Byte) × Nat :=
  (s.recQ, s.outs, (s.txp t).lastPacket, (s.txp t).rr)

/-- The frames, and the last short packet of port `t`. -/
def State.framing (s : State) (t : Nat) : Sparse Chan × Option ShortSent := (s.chans, (s.txp t).lastShort)

/-- What the settings, the skew calibration and the power state of port `t` leave alone: what it sends, and its frames. -/
structure PortKept (t : Nat) (s u : State) : Prop where
  sending : u.sending t = s.sending t
  framing : u.framing t = s.framing t

theorem PortKept.refl (t : Nat) (s : State) : PortKept t s s := ⟨rfl, rfl⟩

theorem PortKept.trans {t : Nat} {s u w : State} (h : PortKept t s u) (h' : PortKept t u w) : PortKept t s w :=
  ⟨h'.sending.trans h.sending, h'.framing.trans h.framing⟩

theorem portKept_putTx (s : State) (t : Nat) {v : TxPort} (hpkt : v.lastPacket = (s.txp t).lastPacket) (hrr : v.rr = (s.txp t).rr)
    (hshort : v.lastShort = (s.txp t).lastShort) : PortKept t s (s.putTx t v) := by
  constructor
  · simp only [State.sending, txp_putTx, hpkt, hrr]
    rfl
  · simp only [State.framing, txp_putTx, hshort]
    rfl

theorem portKept_sendSkew (s : State) (t : Nat) : PortKept t s (sendSkew s t) := portKept_putTx s t rfl rfl rfl

theorem portKept_startTx (s : State) (t : Nat) : PortKept t s (startTx s t) := by
  unfold startTx
  split
  · exact portKept_putTx s t rfl rfl rfl
  split
  · exact .refl t s
  · exact .trans (portKept_putTx s t (v := { s.txp t with started := true }) rfl rfl rfl) (portKept_sendSkew ..)

theorem portKept_applyTx (s : State) (t : Nat) : PortKept t s (applyTx s t) := by
  unfold applyTx
  split
  · exact .refl t s
  · exact PortKept.trans (u := s.apply _) ⟨rfl, rfl⟩ (portKept_startTx ..)

theorem portKept_applyOutMap (s : State) (t n : Nat) : PortKept t s (applyOutMap s n) := by
  unfold applyOutMap
  dsimp only
  split
  · exact .refl t s
  · exact ⟨rfl, rfl⟩

theorem portKept_applyOutMaps (s : State) (t : Nat) (l : List Nat) : PortKept t s (s.each l applyOutMap) :=
  each_inv (PortKept t s) l _ s (fun u n hu => hu.trans (portKept_applyOutMap u t n)) (.refl t s)

/-- A frame closed, before a record that waits opens the next (R264). -/
def State.frameClosed (s : State) (t vc : Nat) : State :=
  (s.putChan t vc { s.chan t vc with open_ := false, recs := 0 }).putTx t { s.txp t with lastShort := some (.frameEnd vc (s.chan t vc).num) }

/-- The output streams of a channel take the settings written while its frame was open (R266). -/
def State.outsApplied (s : State) (t vc : Nat) : State :=
  s.each ((List.range 128).filter fun n => s.mappedTo n t && s.frc R.OUT_MAP_VC n == vc) applyOutMap

/-- A port with no frame open is idle and takes the settings written meanwhile (R266). -/
def State.portRests (s : State) (t : Nat) : State := if s.txBusy t then s else applyTx (s.putTx t { s.txp t with idleAt := s.now }) t

/-- A frame closed, before a record that waits opens the next. -/
def State.frameDone (s : State) (t vc : Nat) : State := ((s.frameClosed t vc).outsApplied t vc).portRests t

theorem closeFrame_eq (s : State) (t vc : Nat) :
    closeFrame s t vc = if (s.frameDone t vc).chanWaits t vc then openFrame (s.frameDone t vc) t vc else s.frameDone t vc := rfl

theorem portKept_portRests (s : State) (t : Nat) : PortKept t s (s.portRests t) := by
  unfold State.portRests
  split
  · exact .refl t s
  · exact .trans (portKept_putTx s t (v := { s.txp t with idleAt := s.now }) rfl rfl rfl) (portKept_applyTx ..)

theorem portKept_frameDone (s : State) (t vc : Nat) : PortKept t (s.frameClosed t vc) (s.frameDone t vc) :=
  (portKept_applyOutMaps (s.frameClosed t vc) t _).trans (portKept_portRests _ t)

theorem sending_frameClosed (s : State) (t vc : Nat) : (s.frameClosed t vc).sending t = s.sending t := by
  simp only [State.sending, State.frameClosed, txp_putTx]
  rfl

theorem sending_openFrame (s : State) (t vc : Nat) : (openFrame s t vc).sending t = s.sending t := by
  unfold openFrame
  dsimp only
  split
  · rfl
  · simp only [State.sending, txp_putTx]
    rfl

theorem sending_closeFrame (s : State) (t vc : Nat) : (closeFrame s t vc).sending t = s.sending t := by
  have hdone := (portKept_frameDone s t vc).sending.trans (sending_frameClosed s t vc)
  rw [closeFrame_eq]
  split
  · exact (sending_openFrame ..).trans hdone
  · exact hdone

/-- No channel has a packet waiting if the record channel has none for it and the output streams have none at all. -/
theorem chanWaits_false {s : State} {t vc : Nat} (hrec : ∀ r ∈ s.recQ, r.port = t → r.vc ≠ vc) (hout : ∀ n < 128, (s.out n).queue = []) :
    s.chanWaits t vc = false := by
  have hrecs : (s.recQ.any fun r => r.port == t && r.vc == vc) = false := by
    rw [List.any_eq_false]
    intro r hr
    simpa using hrec r hr
  have houts : ((List.range 128).any fun n => s.mappedTo n t && s.frc R.OUT_MAP_VC n == vc && !(s.out n).queue.isEmpty) = false := by
    rw [List.any_eq_false]
    intro n hn
    simp [hout n (List.mem_range.1 hn)]
  simp only [State.chanWaits, hrecs, houts, Bool.and_false, Bool.or_self]

/-! ### The timers -/

theorem frameTimeout_closes {s : State} {t : Fin 4} {vc : Fin 16} (hopen : (s.chan t vc).open_ = true)
    (hdue : s.passed (s.chan t vc).at_ (usec * (s.frameLimits t vc).2) = true) (hrec : ∀ r ∈ s.recQ, r.port = t.val → r.vc ≠ vc.val)
    (hout : ∀ n < 128, (s.out n).queue = []) : Does (.frameTimeout t vc) s fun u =>
      (u.chan t vc).open_ = false ∧ (u.txp t).lastShort = some (.frameEnd vc (s.chan t vc).num) ∧ u.recQ = s.recQ := by
  have hkept := portKept_frameDone s t vc
  have hsending := hkept.sending.trans (sending_frameClosed s t vc)
  have hrecQ : (s.frameDone t vc).recQ = s.recQ := congrArg (·.1) hsending
  have houts : (s.frameDone t vc).outs = s.outs := congrArg (·.2.1) hsending
  have hwaits : (s.frameDone t vc).chanWaits t vc = false :=
    chanWaits_false (by rw [hrecQ]; exact hrec) fun n hn => by rw [State.out, houts]; exact hout n hn
  have hexec : exec (.frameTimeout t vc) s = .next (s.frameDone t vc) := by
    simp only [exec, execFrameTimeout, hopen, hdue, Bool.and_self, if_true, closeFrame_eq, hwaits, Bool.false_eq_true, if_false]
  have hchans : (s.frameDone t vc).chans = (s.frameClosed t vc).chans := congrArg (·.1) hkept.framing
  have hshort : ((s.frameDone t vc).txp t).lastShort = ((s.frameClosed t vc).txp t).lastShort := congrArg (·.2) hkept.framing
  refine ⟨_, hexec, ?_, ?_, hrecQ⟩
  · rw [State.chan, hchans]
    exact congrArg Chan.open_ (chan_putChan s t vc _)
  · rw [hshort, State.frameClosed, txp_putTx]

theorem frameTimeout_early {s : State} {t : Fin 4} {vc : Fin 16}
    (hsoon : s.passed (s.chan t vc).at_ (usec * (s.frameLimits t vc).2) = false) : Does (.frameTimeout t vc) s fun u => u = s :=
  ⟨s, by simp only [exec, execFrameTimeout, hsoon, Bool.and_false, Bool.false_eq_true, if_false], rfl⟩

theorem deskew_sends {s : State} {t : Fin 4} (hms : s.frc R.TX_CFG_DESKEW_MS t ≠ 0) (hclk : s.txClock t = true) (hres : s.txResults t = true)
    (hdue : s.passed (s.txp t).skewAt (msec * s.frc R.TX_CFG_DESKEW_MS t) = true) : Does (.deskew t) s fun u =>
      (u.txp t).skews = (s.txp t).skews + 1 ∧ (u.txp t).skewAt = s.now ∧ u = s.setTx u.tx := by
  have hskew : s.skewDue t = true := by simp [State.skewDue, hms, hclk, hres, hdue]
  refine ⟨sendSkew s t, by simp only [exec, execDeskew, hskew, if_true], ?_, ?_, rfl⟩ <;> simp only [sendSkew, txp_putTx]

theorem deskew_idle {s : State} {t : Fin 4}
    (h : s.frc R.TX_CFG_DESKEW_MS t = 0 ∨ s.passed (s.txp t).skewAt (msec * s.frc R.TX_CFG_DESKEW_MS t) = false) :
    Does (.deskew t) s fun u => u = s := by
  have hskew : s.skewDue t = false := by obtain h | h := h <;> simp [State.skewDue, h]
  exact ⟨s, by simp only [exec, execDeskew, hskew, Bool.false_eq_true, if_false], rfl⟩

theorem ulpsEntry_eq {s : State} {t : Fin 4} (hulps : s.frc R.TX_CFG_ULPS_IDLE t ≠ 0) (hidle : s.txBusy t = false) :
    exec (.ulpsEntry t) s = .next (if s.passed (s.txp t).idleAt msec then s.wr R.TX_STAT_ULPS t 1 else s) := by
  simp [exec, execUlpsEntry, hulps, hidle]

/-- Settles O26: each record and each timer by the lemma of its case. -/
theorem recordsAndTransmitTimers : Obligations.RecordsAndTransmitTimers := by
  refine ⟨⟨dropRunTimeout_closes, fun s => ⟨periodicStatus_emits, periodicStatus_idle⟩⟩,
    fun s t => ⟨fun vc hopen => ⟨frameTimeout_closes hopen, frameTimeout_early⟩, deskew_sends, deskew_idle,
      fun hulps hidle => ⟨fun hdue => ⟨_, ulpsEntry_eq hulps hidle, if_pos hdue⟩,
        fun hsoon => ⟨_, ulpsEntry_eq hulps hidle, if_neg (Bool.eq_false_iff.1 hsoon)⟩⟩⟩⟩

end Sys2Proof.Machine
end

section
/-! PROOF. The family of 09_streams_and_time.md: what a transmit port sends next (O27). -/

namespace Sys2Proof.Machine

/-- A packet noted as the port's last and counted in the frame of its channel. -/
def State.packetNoted (s : State) (t vc src : Nat) (p : Packet) : State :=
  ((s.putTx t { s.txp t with
    lastPacket := some (vc, p.dtype, p.bytes), ecc := Config.headerEcc p.dtype vc p.bytes.length, crc := Config.payloadCrc p.bytes,
    sent := ((s.txp t).sent.filter fun e => decide (s.now < e.1 + msec)) ++ [(s.now, 8 * p.bytes.length)] }).wr R.TX_STAT_ULPS t 0).putChan t vc
    { s.chan t vc with recs := (s.chan t vc).recs + 1, mid := if p.last then none else some src }

theorem sending_packetNoted (s : State) (t vc src : Nat) (p : Packet) :
    (s.packetNoted t vc src p).sending t = (s.recQ, s.outs, some (vc, p.dtype, p.bytes), (s.txp t).rr) :=
  congrArg (fun v : TxPort => (s.recQ, s.outs, v.lastPacket, v.rr)) (txp_putTx s t _)

/-- The state in which a packet leaves: the port started, and a frame open on the channel (R264). -/
def State.readyToSend (s : State) (t vc : Nat) : State := openFrame (startTx s t) t vc

theorem sending_readyToSend (s : State) (t vc : Nat) : (s.readyToSend t vc).sending t = s.sending t :=
  (sending_openFrame ..).trans (portKept_startTx s t).sending

theorem sendPacket_eq (s : State) (t vc src : Nat) (p : Packet) :
    let u := (s.readyToSend t vc).packetNoted t vc src p
    sendPacket s t vc src p = if (u.frameLimits t vc).1 ≤ ((s.readyToSend t vc).chan t vc).recs + 1 then closeFrame u t vc else u := rfl

/-- A packet that leaves is the port's last, with its channel, data type and bytes; nothing waiting is touched, nor the round-robin place. -/
theorem sendPacket_sending (s : State) (t vc src : Nat) (p : Packet) :
    (sendPacket s t vc src p).sending t = (s.recQ, s.outs, some (vc, p.dtype, p.bytes), (s.txp t).rr) := by
  have hready := sending_readyToSend s t vc
  have hrecQ : (s.readyToSend t vc).recQ = s.recQ := congrArg (·.1) hready
  have houts : (s.readyToSend t vc).outs = s.outs := congrArg (·.2.1) hready
  have hrr : ((s.readyToSend t vc).txp t).rr = (s.txp t).rr := congrArg (·.2.2.2) hready
  have hnoted := sending_packetNoted (s.readyToSend t vc) t vc src p
  rw [hrecQ, houts, hrr] at hnoted
  rw [sendPacket_eq]
  split
  · exact (sending_closeFrame ..).trans hnoted
  · exact hnoted

/-- The round-robin order of the output streams from any place comes to the one that is ready. -/
theorem find_ready_singleton (rr : Nat) {n : Nat} (hn : n < 128) :
    ((List.range 128).map fun d => (rr + 1 + d) % 128).find? [n].contains = some n := by
  have hmem : n ∈ (List.range 128).map fun d => (rr + 1 + d) % 128 :=
    List.mem_map.2 ⟨(n + 256 - (rr % 128 + 1)) % 128, List.mem_range.2 (Nat.mod_lt _ (by decide)), by omega⟩
  obtain ⟨m, hfind⟩ := Option.isSome_iff_exists.1 (List.find?_isSome (p := [n].contains).2 ⟨n, hmem, by simp⟩)
  have hm := List.find?_some hfind
  rw [hfind, show m = n by simpa using hm]

theorem readyOuts_lt {s : State} {t n : Nat} (h : n ∈ s.readyOuts t) : n < 128 := by
  unfold State.readyOuts at h
  split at h
  · exact List.mem_range.1 (List.mem_filter.1 h).1
  · exact absurd h List.not_mem_nil

section
variable {s : State} {t : Nat} (hclk : s.txClock t = true) (hlock : s.rd R.CLK_STAT_LOCKED 0 / 2 ^ (4 + t) % 2 = 1)
include hclk hlock

theorem recordSend_record {r : RecPacket} (hr : s.nextRecord t = some r) :
    recordSend s t = sendPacket (s.setRecQ (s.recQ.erase r)) t r.vc 128 r.pkt := by
  simp [recordSend, hclk, hlock, hr]

theorem recordSend_result {n : Nat} {p : Packet} {rest : List Packet} (hnone : s.nextRecord t = none) (hready : s.readyOuts t = [n])
    (hqueue : (s.out n).queue = p :: rest) : recordSend s t =
      sendPacket ((s.putOut n { s.out n with queue := rest }).putTx t { s.txp t with rr := n }) t (s.frc R.OUT_MAP_VC n) n p := by
  have hn : n < 128 := readyOuts_lt (by rw [hready]; exact List.mem_singleton_self n)
  simp only [recordSend, hclk, hlock, hnone, hready, find_ready_singleton _ hn, hqueue, Bool.not_true, Bool.false_or,
    show ((1 : Nat) == 0) = false from rfl, Bool.false_eq_true, if_false]
  rfl

theorem recordSend_nothing (hnone : s.nextRecord t = none) (hready : s.readyOuts t = []) : recordSend s t = s := by
  have hfind : ((List.range 128).map fun d => ((s.txp t).rr + 1 + d) % 128).find? [].contains = none := by
    rw [List.find?_eq_none]
    exact fun _ _ => by simp
  simp only [recordSend, hclk, hlock, hnone, hready, hfind, Bool.not_true, Bool.false_or, show ((1 : Nat) == 0) = false from rfl,
    Bool.false_eq_true, if_false]

end

theorem recordSend_off {s : State} {t : Nat} (h : s.txClock t = false ∨ s.rd R.CLK_STAT_LOCKED 0 / 2 ^ (4 + t) % 2 = 0) :
    recordSend s t = s := by
  obtain h | h := h <;> simp [recordSend, h]

/-- The command sends as `recordSend` says; the answer of a CAL_SAVE it may complete leaves the port alone (R313). -/
theorem execRecordSend_sending (s : State) (t : Fin 4) : ∃ u, exec (.recordSend t) s = .next u ∧ u.sending t = (recordSend s t).sending t := by
  have hresp (u : State) (m : Nat) (data : List Byte) : (u.respond m .ok 0 data).sending t = u.sending t := by
    simp only [State.sending, State.txp, respond_recQ, respond_outs, respond_tx]
  refine ⟨_, rfl, ?_⟩
  dsimp only
  split
  · split
    · exact hresp ..
    · rfl
  · rfl

/-- Sending nothing changes nothing. -/
theorem execRecordSend_nothing {s : State} {t : Fin 4} (h : recordSend s t = s) : Does (.recordSend t) s fun u => u = s :=
  ⟨s, by simp only [exec, execRecordSend, h, lt_irrefl, decide_false, Bool.and_false, Bool.false_eq_true, if_false], rfl⟩

/-- Settles O27: the packet that leaves is the one `recordSend` takes, and `sendPacket_sending` says what its sending leaves. -/
theorem transmitPortSends : Obligations.TransmitPortSends := by
  intro s t
  obtain ⟨u, hexec, hu⟩ := execRecordSend_sending s t
  refine ⟨fun hclk hlock => ⟨fun r hr => ⟨u, hexec, ?_⟩, fun n p rest hnone hready hqueue => ⟨u, hexec, ?_⟩,
    fun hnone hready => execRecordSend_nothing (recordSend_nothing hclk hlock hnone hready)⟩,
    fun h => execRecordSend_nothing (recordSend_off h)⟩
  · rw [recordSend_record hclk hlock hr, sendPacket_sending] at hu
    obtain ⟨hrecQ, houts, hpacket, -⟩ := by simpa only [State.sending, Prod.mk.injEq] using hu
    exact ⟨hrecQ, hpacket, houts⟩
  · rw [recordSend_result hclk hlock hnone hready hqueue, sendPacket_sending, txp_putTx] at hu
    obtain ⟨hrecQ, houts, hpacket, hrr⟩ := by simpa only [State.sending, Prod.mk.injEq] using hu
    refine ⟨?_, hrr, hrecQ, hpacket⟩
    rw [State.out, houts]
    exact congrArg OutStream.queue (spGet_spSet_same ..)

end Sys2Proof.Machine
end

section
/-! PROOF. The family of 09_streams_and_time.md: how the timebase is set, disciplined and judged (O17). -/

namespace Sys2Proof.Machine

/-! ### Signed fields, and what an answer leaves alone -/

/-- A number within the range of a field of `w` bits is read back from its two's complement. -/
theorem toSigned_of_range {w : Nat} {v : Int} (hw : 0 < w) (hlo : -2 ^ (w - 1) ≤ v) (hhi : v < 2 ^ (w - 1)) :
    toSigned w (v % 2 ^ w).toNat = v := by
  obtain ⟨n, rfl⟩ : ∃ n, w = n + 1 := ⟨w - 1, by omega⟩
  simp only [Nat.add_sub_cancel] at hlo hhi
  have hpow : (2 : Int) ^ (n + 1) = 2 * 2 ^ n := by rw [pow_succ, mul_comm]
  have hpos : (0 : Int) < 2 ^ (n + 1) := by positivity
  have hcast : ((2 ^ n : Nat) : Int) = 2 ^ n := by push_cast; rfl
  have hmod : (((v % 2 ^ (n + 1)).toNat % 2 ^ (n + 1) : Nat) : Int) = v % 2 ^ (n + 1) := by
    push_cast
    rw [Int.toNat_of_nonneg (Int.emod_nonneg _ hpos.ne'), Int.emod_emod_of_dvd _ dvd_rfl]
  have hval : v % 2 ^ (n + 1) = if 0 ≤ v then v else v + 2 ^ (n + 1) := by
    split
    · exact Int.emod_eq_of_lt ‹_› (by omega)
    · rw [← Int.add_emod_right, Int.emod_eq_of_lt (by omega) (by omega)]
  unfold toSigned
  simp only [Nat.add_sub_cancel]
  split at hval <;> split <;> omega

theorem rdInt_wrInt_same (s : State) (f : Fld) (i : Nat) {v : Int} (h : f.lo + f.w ≤ 32) (hw : 0 < f.w) (hlo : -2 ^ (f.w - 1) ≤ v)
    (hhi : v < 2 ^ (f.w - 1)) : (s.wrInt f i v).rdInt f i = v := by
  have hsigned : toSigned f.w ((v % 2 ^ f.w).toNat % 2 ^ f.w) = toSigned f.w (v % 2 ^ f.w).toNat := by
    simp only [toSigned, Nat.mod_mod]
  rw [State.rdInt, State.wrInt, rd_wr_same _ _ _ _ h, hsigned, toSigned_of_range hw hlo hhi]

theorem rdInt_of_rd {s t : State} {f : Fld} {i : Nat} (h : t.rd f i = s.rd f i) : t.rdInt f i = s.rdInt f i := congrArg (toSigned f.w) h

/-- The mailboxes lie below every register of the other blocks. -/
theorem word_respond (s : State) (m : Nat) (st : Status) (d : Nat) (data : List Byte) {k : Nat} (hk : 0x10880 ≤ k) :
    (s.respond m st d data).word k = s.word k := respond_word_ne s m st d data (by omega) fun _ _ => by omega

theorem rd_respond (s : State) (m : Nat) (st : Status) (d : Nat) (data : List Byte) {f : Fld} {i : Nat} (hf : 0x10880 ≤ f.base) :
    (s.respond m st d data).rd f i = s.rd f i := rd_of_word (word_respond s m st d data (hf.trans (key_ge_base f i 0)))

theorem on_respond (s : State) (m : Nat) (st : Status) (d : Nat) (data : List Byte) {f : Fld} {i : Nat} (hf : 0x10880 ≤ f.base) :
    (s.respond m st d data).on f i = s.on f i := congrArg (· != 0) (rd_respond s m st d data hf)

theorem on_running {f : Fld} (hf : 0x10880 ≤ f.base) (s : State) (m i : Nat) : (s.running m).on f i = s.on f i :=
  congrArg (· != 0) (rd_running hf s m i)

/-- An event of the time block sets its field in TIME_EVT. -/
def Fld.timeEvt (f : Fld) : Bool := f.key 0 0 == 0x60920 && decide (8 ≤ f.lo ∧ 0 < f.w ∧ f.lo + f.w ≤ 32)

theorem raise_timeEvt (s : State) {f : Fld} (hf : f.timeEvt = true) : (s.raise f 0).on f 0 = true := by
  simp only [Fld.timeEvt, Bool.and_eq_true, beq_iff_eq, decide_eq_true_eq] at hf
  obtain ⟨hkey, hlo, hw, hhi⟩ := hf
  exact raise_on_same s f 0 (by rw [hkey]; decide) hlo hw hhi

theorem raise_timeEvt_keeps (s : State) {e f : Fld} (he : e.timeEvt = true) (hf : f.timeEvt = true) (h : s.on f 0 = true) :
    (s.raise e 0).on f 0 = true := by
  simp only [Fld.timeEvt, Bool.and_eq_true, beq_iff_eq, decide_eq_true_eq] at he hf
  obtain ⟨hkey, -⟩ := he
  obtain ⟨hkey', hlo, -, -⟩ := hf
  exact raise_on_of_on s e f 0 0 (hkey'.trans hkey.symm) (by rw [hkey]; decide) hlo h

/-- It leaves every other word of the block. -/
theorem word_raise_timeEvt (s : State) {f : Fld} (hf : f.timeEvt = true) {k : Nat} (hk : k ≠ 0x60920) (h4 : k ≠ 0x4) :
    (s.raise f 0).word k = s.word k := by
  simp only [Fld.timeEvt, Bool.and_eq_true, beq_iff_eq] at hf
  exact raise_word_ne s f 0 (by rw [hf.1]; exact hk) h4

theorem rd_raise_timeEvt (s : State) {f g : Fld} (hf : f.timeEvt = true) {i : Nat} (hk : g.key i 0 ≠ 0x60920) (h4 : g.key i 0 ≠ 0x4) :
    (s.raise f 0).rd g i = s.rd g i := rd_of_word (word_raise_timeEvt s hf hk h4)

/-! ### CLK_TB_SET -/

section
variable {s : State} {m : Fin 16} (h : s.begins m 0x0601 true true true = true)
include h

theorem clkTbSet_eq : exec (.clkTbSet m) s = .next (
    if s.anyStarted then (s.running m).respond m .jobState 0 []
    else (((s.running m).setTime { s.time with count := BitVec.ofNat 64 (s.req m 8 8), frac := 0 }).raise R.TIME_EVT_STEP 0).respond
      m .ok 0 []) := by
  simp only [exec, execClkTbSet, peade_begins 0 _ h, req_running]
  rfl

theorem clkTbSet_sets (hidle : s.anyStarted = false) : Does (.clkTbSet m) s fun t =>
    t.time.count = BitVec.ofNat 64 (s.req m 8 8) ∧ t.time.frac = 0 ∧ t.on R.TIME_EVT_STEP 0 = true ∧ t.Answers m .ok [] := by
  have hexec := clkTbSet_eq h
  rw [hidle, if_neg Bool.false_ne_true] at hexec
  refine ⟨_, hexec, ?_, ?_, ?_, respond_answers ..⟩
  · rw [respond_time, raise_time]
    rfl
  · rw [respond_time, raise_time]
    rfl
  · rw [on_respond _ _ _ _ _ (by decide)]
    exact raise_timeEvt _ (by decide)

theorem clkTbSet_refused (hrun : s.anyStarted = true) : Does (.clkTbSet m) s fun t => t.time = s.time ∧ t.Answers m .jobState [] := by
  have hexec := clkTbSet_eq h
  rw [hrun, if_pos rfl] at hexec
  exact ⟨_, hexec, respond_time .., respond_answers ..⟩

end

/-! ### TB_SYNC_HI and TB_CFG -/

section
variable {s : State} (v : Word) (hboot : s.on R.SYS_STAT_BOOT_DONE 0 = true)
include hboot

/-- The two words of the expected value take effect together (R286). -/
theorem tbSyncHiWrite_takes {lo : Word} (hheld : s.time.syncHeld = some lo) : Does (.tbSyncHiWrite v) s fun t =>
    t.time = { s.time with expect := BitVec.ofNat 64 (lo.toNat + 2 ^ 32 * v.toNat), syncHeld := none } := by
  obtain ⟨r, h⟩ : ∃ r, CfgAt (R.TB_SYNC_HI.key 0 0) 0x60914 0 0xFFFFFFFF 0 0 r := cfgAt_of_eval (by decide +kernel)
  have hexec : exec (.tbSyncHiWrite v) s = .next (tbSyncHiEffect (writeBits (setKey s false) r (R.TB_SYNC_HI.key 0 0) (BitVec.allOnes 32) v
      s.keyOpen)) := by
    simp only [exec, execTbSyncHiWrite, h.hostWrite v hboot, writeReg, h.gated, Bool.false_eq_true, if_false, h.base, h.writeWhole]
  have htaken := h.rd_takes (setKey s false) s.keyOpen (BitVec.allOnes 32) v (f := R.TB_SYNC_HI_SYNC_HI) (n := 0) rfl (by decide) (by decide)
    (by cases s.keyOpen <;> decide)
  have htime : (writeBits (setKey s false) r (R.TB_SYNC_HI.key 0 0) (BitVec.allOnes 32) v s.keyOpen).time = s.time :=
    writeBits_leaves State.time (fun _ _ _ _ => rfl) ..
  have hwhole : fieldOf 0 32 v = v.toNat := by rw [fieldOf, pow_zero, Nat.div_one, Nat.mod_eq_of_lt v.isLt]
  refine ⟨_, hexec, ?_⟩
  simp only [tbSyncHiEffect, State.setTime_frame, htaken, htime, hheld, Option.getD_some]
  rw [show fieldOf R.TB_SYNC_HI_SYNC_HI.lo R.TB_SYNC_HI_SYNC_HI.w v = v.toNat from hwhole]

/-- TB_CFG as the host has written it, and then its effect on the discipline (R277). -/
theorem tbCfgWrite_written : ∃ u : State, exec (.tbCfgWrite v) s = .next (tbCfgEffect u) ∧ u.time = s.time ∧
    u.rd R.TB_CFG_SRC 0 = fieldOf R.TB_CFG_SRC.lo R.TB_CFG_SRC.w v ∧ u.rd R.TB_STAT_STATE 0 = s.rd R.TB_STAT_STATE 0 := by
  obtain ⟨r, h⟩ : ∃ r, CfgAt (R.TB_CFG.key 0 0) 0x60908 0 7 0 0xFFFFFFF8 r := cfgAt_of_eval (by decide +kernel)
  refine ⟨writeBits (setKey s false) r (R.TB_CFG.key 0 0) (BitVec.allOnes 32) v s.keyOpen, ?_, writeBits_leaves State.time (fun _ _ _ _ => rfl) ..,
    h.rd_takes (f := R.TB_CFG_SRC) (n := 0) _ _ _ _ rfl (by decide) (by decide) (by cases s.keyOpen <;> decide), rd_of_word ?_⟩
  · simp only [exec, execTbCfgWrite, h.hostWrite v hboot, writeReg, h.gated, Bool.false_eq_true, if_false, h.base, h.writeWhole]
  · exact (writeBits_word_ne _ _ _ _ _ (by decide) (by decide) (by decide)).trans (setKey_word_ne s false (by decide))

theorem tbCfgWrite_free (hsrc : fieldOf R.TB_CFG_SRC.lo R.TB_CFG_SRC.w v = 0 ∨ fieldOf R.TB_CFG_SRC.lo R.TB_CFG_SRC.w v = 3) :
    Does (.tbCfgWrite v) s fun t => t.rd R.TB_STAT_STATE 0 = tbFree ∧ t.rd R.TB_STAT_RATE 0 = 0 := by
  obtain ⟨u, hexec, -, hu, -⟩ := tbCfgWrite_written v hboot
  have hnone : u.tbSrc = 0 := by rcases hsrc with h | h <;> simp [State.tbSrc, hu, h]
  refine ⟨_, hexec, ?_⟩
  rw [tbCfgEffect, if_pos hnone]
  exact ⟨(rd_wr_ne (u.wr R.TB_STAT_STATE 0 tbFree) R.TB_STAT_RATE R.TB_STAT_STATE 0 0 0 (by decide)).trans
    (rd_wr_same u R.TB_STAT_STATE 0 tbFree (by decide)), rd_wr_same _ R.TB_STAT_RATE 0 0 (by decide)⟩

theorem tbCfgWrite_acquires (hsrc : fieldOf R.TB_CFG_SRC.lo R.TB_CFG_SRC.w v = 1 ∨ fieldOf R.TB_CFG_SRC.lo R.TB_CFG_SRC.w v = 2)
    (hfree : s.rd R.TB_STAT_STATE 0 = tbFree) : Does (.tbCfgWrite v) s fun t => t.rd R.TB_STAT_STATE 0 = tbAcquiring ∧
      t.rd R.TB_CFG_SRC 0 = fieldOf R.TB_CFG_SRC.lo R.TB_CFG_SRC.w v ∧ t.time.good = 0 ∧ t.time.count = s.time.count := by
  obtain ⟨u, hexec, htime, hu, hstate⟩ := tbCfgWrite_written v hboot
  have hsome : u.tbSrc ≠ 0 := by rcases hsrc with h | h <;> simp [State.tbSrc, hu, h]
  refine ⟨_, hexec, ?_⟩
  rw [tbCfgEffect, if_neg hsome, if_pos (hstate.trans hfree)]
  exact ⟨rd_wr_same u R.TB_STAT_STATE 0 tbAcquiring (by decide),
    (rd_wr_ne u R.TB_STAT_STATE R.TB_CFG_SRC 0 0 tbAcquiring (by decide)).trans hu, rfl, by rw [← htime]; rfl⟩

end

/-! ### Discipline events -/

/-- In FREE an event leaves the timebase (R277). -/
theorem disciplineEvent_free {s : State} (h : s.rd R.TB_STAT_STATE 0 = tbFree) (value : DWord) : disciplineEvent s value = s := if_pos h

/-- Which jobs are started does not depend on registers or the timebase. -/
theorem anyStarted_of_jobs {s t : State} (h : t.jobs = s.jobs) : t.anyStarted = s.anyStarted := by
  simp only [State.anyStarted, State.job, h]

/-- A discipline event as it is noted, before it is applied: its error, and the next expected value (R276, R286). -/
def State.eventNoted (s : State) (value : DWord) : State :=
  let u := s.wrInt R.TB_ERR_ERR 0 (clampInt (-2147483648) 2147483647 (value - s.time.expect).toInt)
  let next := u.time.expect + BitVec.ofNat 64 (1000 * u.tbPeriodUs)
  let u := u.setTime { u.time with expect := next, lastEvent := some u.now }
  let u := if u.time.syncHeld.isSome then u else u.wr R.TB_SYNC_LO_SYNC_LO 0 next.toNat
  u.wr R.TB_SYNC_HI_SYNC_HI 0 (next.toNat / 2 ^ 32)

/-- An error and an expected value noted: in TB_ERR and TB_SYNC, and with the instant of the event beside them. -/
def State.noted (s : State) (err : Int) (next : DWord) : State :=
  let u := (s.wrInt R.TB_ERR_ERR 0 err).setTime { s.time with expect := next, lastEvent := some s.now }
  (if s.time.syncHeld.isSome then u else u.wr R.TB_SYNC_LO_SYNC_LO 0 next.toNat).wr R.TB_SYNC_HI_SYNC_HI 0 (next.toNat / 2 ^ 32)

section
variable (s : State) (err : Int) (next : DWord)

theorem noted_time : (s.noted err next).time = { s.time with expect := next, lastEvent := some s.now } := by
  unfold State.noted
  dsimp only
  split <;> rfl

theorem noted_jobs : (s.noted err next).jobs = s.jobs := by
  unfold State.noted
  dsimp only
  split <;> rfl

theorem noted_word {k : Nat} (herr : k ≠ 0x6091C) (hlo : k ≠ 0x60910) (hhi : k ≠ 0x60914) : (s.noted err next).word k = s.word k := by
  have hwrite (u : State) (f : Fld) (v : Nat) (hf : k ≠ f.key 0 0) : (u.wr f 0 v).word k = u.word k := word_wr_ne u f 0 v hf
  unfold State.noted
  dsimp only
  rw [hwrite _ R.TB_SYNC_HI_SYNC_HI _ hhi]
  split
  · exact hwrite s R.TB_ERR_ERR _ herr
  · exact (hwrite _ R.TB_SYNC_LO_SYNC_LO _ hlo).trans (hwrite s R.TB_ERR_ERR _ herr)

theorem noted_err (hlo : -2147483648 ≤ err) (hhi : err ≤ 2147483647) : (s.noted err next).rdInt R.TB_ERR_ERR 0 = err := by
  have hkept (u : State) (f : Fld) (v : Nat) (hf : f.key 0 0 ≠ 0x6091C) : (u.wr f 0 v).rdInt R.TB_ERR_ERR 0 = u.rdInt R.TB_ERR_ERR 0 :=
    rdInt_of_rd (rd_wr_ne u f R.TB_ERR_ERR 0 0 v (.inl hf.symm))
  have hset : (s.wrInt R.TB_ERR_ERR 0 err).rdInt R.TB_ERR_ERR 0 = err :=
    rdInt_wrInt_same s R.TB_ERR_ERR 0 (by decide) (by decide) (by simp only [R.TB_ERR_ERR]; omega) (by simp only [R.TB_ERR_ERR]; omega)
  unfold State.noted
  dsimp only
  rw [hkept _ R.TB_SYNC_HI_SYNC_HI _ (by decide)]
  split
  · exact hset
  · exact (hkept _ R.TB_SYNC_LO_SYNC_LO _ (by decide)).trans hset

end

section
variable (s : State) (value : DWord)

theorem tbPeriodUs_wrErr (v : Int) : (s.wrInt R.TB_ERR_ERR 0 v).tbPeriodUs = s.tbPeriodUs := by
  have hperiod : (s.wrInt R.TB_ERR_ERR 0 v).rd R.TB_PERIOD_PERIOD_US 0 = s.rd R.TB_PERIOD_PERIOD_US 0 :=
    rd_wr_ne s R.TB_ERR_ERR R.TB_PERIOD_PERIOD_US 0 0 _ (by decide)
  rw [State.tbPeriodUs, hperiod, State.tbPeriodUs]

theorem eventNoted_eq : s.eventNoted value = s.noted (clampInt (-2147483648) 2147483647 (value - s.time.expect).toInt)
    (s.time.expect + BitVec.ofNat 64 (1000 * s.tbPeriodUs)) := by
  simp only [State.eventNoted, tbPeriodUs_wrErr]
  rfl

theorem eventNoted_word {k : Nat} (herr : k ≠ 0x6091C) (hlo : k ≠ 0x60910) (hhi : k ≠ 0x60914) :
    (s.eventNoted value).word k = s.word k := by rw [eventNoted_eq, noted_word s _ _ herr hlo hhi]

theorem eventNoted_err : (s.eventNoted value).rdInt R.TB_ERR_ERR 0 = clampInt (-2147483648) 2147483647 (value - s.time.expect).toInt := by
  rw [eventNoted_eq, noted_err]
  · unfold clampInt
    omega
  · unfold clampInt
    omega

theorem eventNoted_time : (s.eventNoted value).time =
    { s.time with expect := s.time.expect + BitVec.ofNat 64 (1000 * s.tbPeriodUs), lastEvent := some s.now } := by
  rw [eventNoted_eq, noted_time]

theorem eventNoted_count : (s.eventNoted value).time.count = s.time.count := by rw [eventNoted_time]

theorem eventNoted_expect : (s.eventNoted value).time.expect = s.time.expect + BitVec.ofNat 64 (1000 * s.tbPeriodUs) := by
  rw [eventNoted_time]

theorem eventNoted_lastEvent : (s.eventNoted value).time.lastEvent = some s.now := by rw [eventNoted_time]

theorem eventNoted_good : (s.eventNoted value).time.good = s.time.good := by rw [eventNoted_time]

theorem eventNoted_far : (s.eventNoted value).time.far = s.time.far := by rw [eventNoted_time]

theorem eventNoted_jobs : (s.eventNoted value).jobs = s.jobs := by rw [eventNoted_eq, noted_jobs]

theorem eventNoted_stat {f : Fld} (hf : f.key 0 0 = 0x60918) : (s.eventNoted value).rd f 0 = s.rd f 0 :=
  rd_of_word (eventNoted_word s value (by rw [hf]; decide) (by rw [hf]; decide) (by rw [hf]; decide))

end

/-! ### An error applied -/

/-- The judgement of an error: the timebase steps, or FAR is set or cleared (R277). -/
def State.errorJudged (s : State) (err : Int) : State :=
  if decide (1000000 < err.natAbs) && !s.anyStarted then
    (s.setTime { s.time with count := s.time.count - BitVec.ofInt 64 err }).raise R.TIME_EVT_STEP 0
  else if decide (1000000 < err.natAbs) then (s.wr R.TB_STAT_FAR 0 1).raise R.TIME_EVT_FAR 0
  else s.wr R.TB_STAT_FAR 0 0

/-- RATE then takes a free value within 100 ppm (R276, log 20). -/
theorem applyError_eq (s : State) (err : Int) : ∃ n v, (-10000 ≤ v ∧ v ≤ 10000) ∧
    applyError s err = ((s.errorJudged err).setFreeIx n).wrInt R.TB_STAT_RATE 0 v :=
  ⟨_, _, by unfold clampInt; omega, rfl⟩

/-- What the application of an error may do to the timebase: step it, set FAR, and set RATE. -/
structure ErrorApplied (s t : State) (err : Int) : Prop where
  rate : -10000 ≤ t.rdInt R.TB_STAT_RATE 0 ∧ t.rdInt R.TB_STAT_RATE 0 ≤ 10000
  near : err.natAbs ≤ 1000000 → t.time.count = s.time.count
  steps : 1000000 < err.natAbs → s.anyStarted = false → t.time.count = s.time.count - BitVec.ofInt 64 err ∧ t.on R.TIME_EVT_STEP 0 = true
  far : 1000000 < err.natAbs → s.anyStarted = true →
    t.time.count = s.time.count ∧ t.rd R.TB_STAT_FAR 0 = 1 ∧ t.on R.TIME_EVT_FAR 0 = true

section
variable (s : State) (err : Int)

theorem errorJudged_steps (hbig : 1000000 < err.natAbs) (hidle : s.anyStarted = false) : s.errorJudged err =
    (s.setTime { s.time with count := s.time.count - BitVec.ofInt 64 err }).raise R.TIME_EVT_STEP 0 := by
  simp only [State.errorJudged, hbig, hidle, decide_true, Bool.not_false, Bool.and_self, if_true]

theorem errorJudged_far (hbig : 1000000 < err.natAbs) (hrun : s.anyStarted = true) :
    s.errorJudged err = (s.wr R.TB_STAT_FAR 0 1).raise R.TIME_EVT_FAR 0 := by
  simp only [State.errorJudged, hbig, hrun, decide_true, Bool.not_true, Bool.and_false, Bool.false_eq_true, if_false, if_true]

theorem errorJudged_near (hnear : err.natAbs ≤ 1000000) : s.errorJudged err = s.wr R.TB_STAT_FAR 0 0 := by
  simp only [State.errorJudged, show ¬ 1000000 < err.natAbs by omega, decide_false, Bool.false_and, Bool.false_eq_true, if_false]

/-- Of the time unit an error changes the count alone. -/
theorem errorJudged_time : (s.errorJudged err).time = { s.time with count := (s.errorJudged err).time.count } := by
  unfold State.errorJudged
  split
  · rw [raise_time]
    rfl
  · split
    · rw [raise_time]
      rfl
    · rfl

theorem errorJudged_word {k : Nat} (hstat : k ≠ 0x60918) (hevt : k ≠ 0x60920) (h4 : k ≠ 0x4) : (s.errorJudged err).word k = s.word k := by
  unfold State.errorJudged
  split
  · exact word_raise_timeEvt _ (by decide) hevt h4
  · split
    · exact (word_raise_timeEvt _ (by decide) hevt h4).trans (word_wr_ne s R.TB_STAT_FAR 0 1 hstat)
    · exact word_wr_ne s R.TB_STAT_FAR 0 0 hstat

theorem errorJudged_state : (s.errorJudged err).rd R.TB_STAT_STATE 0 = s.rd R.TB_STAT_STATE 0 := by
  unfold State.errorJudged
  split
  · exact rd_raise_timeEvt _ (by decide) (by decide) (by decide)
  · split
    · exact (rd_raise_timeEvt _ (by decide) (by decide) (by decide)).trans (rd_wr_ne s R.TB_STAT_FAR _ 0 0 1 (by decide))
    · exact rd_wr_ne s R.TB_STAT_FAR _ 0 0 0 (by decide)

theorem applyError_time : (applyError s err).time = { s.time with count := (applyError s err).time.count } := by
  obtain ⟨n, v, -, heq⟩ := applyError_eq s err
  rw [heq]
  exact errorJudged_time s err

theorem applyError_expect : (applyError s err).time.expect = s.time.expect := by rw [applyError_time]

theorem applyError_lastEvent : (applyError s err).time.lastEvent = s.time.lastEvent := by rw [applyError_time]

theorem applyError_far : (applyError s err).time.far = s.time.far := by rw [applyError_time]

theorem applyError_err : (applyError s err).rd R.TB_ERR_ERR 0 = s.rd R.TB_ERR_ERR 0 := by
  obtain ⟨n, v, -, heq⟩ := applyError_eq s err
  rw [heq]
  exact (rd_wr_ne _ R.TB_STAT_RATE _ 0 0 _ (by decide)).trans (rd_of_word (errorJudged_word s err (by decide) (by decide) (by decide)))

theorem applyError_state : (applyError s err).rd R.TB_STAT_STATE 0 = s.rd R.TB_STAT_STATE 0 := by
  obtain ⟨n, v, -, heq⟩ := applyError_eq s err
  rw [heq]
  exact (rd_wr_ne _ R.TB_STAT_RATE _ 0 0 _ (by decide)).trans (errorJudged_state s err)

theorem applyError_applied : ErrorApplied s (applyError s err) err := by
  obtain ⟨n, v, ⟨hlo, hhi⟩, heq⟩ := applyError_eq s err
  rw [heq]
  have hon {f : Fld} (hf : f.key 0 0 ≠ 0x60918) :
      (((s.errorJudged err).setFreeIx n).wrInt R.TB_STAT_RATE 0 v).on f 0 = (s.errorJudged err).on f 0 :=
    on_wr_ne ((s.errorJudged err).setFreeIx n) R.TB_STAT_RATE f 0 0 _ (.inl hf)
  refine ⟨?_, fun hnear => ?_, fun hbig hidle => ?_, fun hbig hrun => ?_⟩
  · rw [rdInt_wrInt_same _ R.TB_STAT_RATE 0 (by decide) (by decide) (by simp only [R.TB_STAT_RATE]; omega)
      (by simp only [R.TB_STAT_RATE]; omega)]
    exact ⟨hlo, hhi⟩
  · rw [errorJudged_near s err hnear]
    rfl
  · rw [hon (by decide), errorJudged_steps s err hbig hidle]
    exact ⟨congrArg TimeUnit.count (raise_time ..), raise_timeEvt _ (by decide)⟩
  · rw [hon (by decide), errorJudged_far s err hbig hrun]
    refine ⟨congrArg TimeUnit.count (raise_time ..), ?_, raise_timeEvt _ (by decide)⟩
    have hrate (u : State) (x : Nat) : (u.wr R.TB_STAT_RATE 0 x).rd R.TB_STAT_FAR 0 = u.rd R.TB_STAT_FAR 0 :=
      rd_wr_ne u R.TB_STAT_RATE R.TB_STAT_FAR 0 0 x (by decide)
    exact ((hrate _ _).trans (rd_raise_timeEvt (s.wr R.TB_STAT_FAR 0 1) (f := R.TIME_EVT_FAR) (by decide) (by decide) (by decide))).trans
      (rd_wr_same s R.TB_STAT_FAR 0 1 (by decide))

end

/-- What an event leaves of the count and of the jobs before its error is applied, and what it does after it, are no part of it. -/
theorem ErrorApplied.of_count {s u t : State} {err : Int} (h : ErrorApplied u t err) (hcount : u.time.count = s.time.count)
    (hjobs : u.jobs = s.jobs) : ErrorApplied s t err where
  rate := h.rate
  near hn := (h.near hn).trans hcount
  steps hbig hidle := hcount ▸ h.steps hbig ((anyStarted_of_jobs hjobs).trans hidle)
  far hbig hrun := hcount ▸ h.far hbig ((anyStarted_of_jobs hjobs).trans hrun)

theorem ErrorApplied.counts {s t : State} {err : Int} (h : ErrorApplied s t err) (good far : Nat) :
    ErrorApplied s (t.setTime { t.time with good := good, far := far }) err := ⟨h.rate, h.near, h.steps, h.far⟩

theorem ErrorApplied.locks {s t : State} {err : Int} (h : ErrorApplied s t err) :
    ErrorApplied s ((t.wr R.TB_STAT_STATE 0 tbLocked).raise R.TIME_EVT_LOCK 0) err := by
  have hstat {f : Fld} (hf : f.key 0 0 = 0x60918) (hlo : 2 ≤ f.lo) :
      ((t.wr R.TB_STAT_STATE 0 tbLocked).raise R.TIME_EVT_LOCK 0).rd f 0 = t.rd f 0 :=
    (rd_raise_timeEvt _ (by decide) (by rw [hf]; decide) (by rw [hf]; decide)).trans (rd_wr_ne t R.TB_STAT_STATE f 0 0 _ (.inr (.inr hlo)))
  have hevt {f : Fld} (hf : f.timeEvt = true) (hkey : f.key 0 0 ≠ 0x60918) (hon : t.on f 0 = true) :
      ((t.wr R.TB_STAT_STATE 0 tbLocked).raise R.TIME_EVT_LOCK 0).on f 0 = true :=
    raise_timeEvt_keeps _ (by decide) hf ((on_wr_ne t R.TB_STAT_STATE f 0 0 _ (.inl hkey)).trans hon)
  have htime : ((t.wr R.TB_STAT_STATE 0 tbLocked).raise R.TIME_EVT_LOCK 0).time = t.time := raise_time ..
  refine ⟨?_, fun hn => ?_, fun hbig hidle => ?_, fun hbig hrun => ?_⟩
  · rw [rdInt_of_rd (hstat (f := R.TB_STAT_RATE) rfl (by decide))]
    exact h.rate
  · rw [htime]
    exact h.near hn
  · obtain ⟨hcount, hon⟩ := h.steps hbig hidle
    exact ⟨by rw [htime, hcount], hevt (by decide) (by decide) hon⟩
  · obtain ⟨hcount, hfar, hon⟩ := h.far hbig hrun
    exact ⟨by rw [htime, hcount], (hstat (f := R.TB_STAT_FAR) rfl (by decide)).trans hfar, hevt (by decide) (by decide) hon⟩

/-! ### What an event does, by the state of the discipline -/

theorem disciplineEvent_eq (s : State) (value : DWord) : disciplineEvent s value =
    if s.rd R.TB_STAT_STATE 0 = tbFree then s else
    let err := (value - s.time.expect).toInt
    let u := s.eventNoted value
    if s.rd R.TB_STAT_STATE 0 = tbLocked then
      if 10000 < err.natAbs then
        if u.time.far + 1 = 4 then
          applyError ((u.setTime { u.time with far := 0, good := 0 }).wr R.TB_STAT_STATE 0 tbAcquiring) err
        else u.setTime { u.time with far := u.time.far + 1 }
      else applyError (u.setTime { u.time with far := 0 }) err
    else
      let t := applyError (u.wr R.TB_STAT_STATE 0 tbAcquiring) err
      let good := if decide (err.natAbs ≤ 100) then (u.wr R.TB_STAT_STATE 0 tbAcquiring).time.good + 1 else 0
      if good = 8 then ((t.setTime { t.time with good := 0, far := 0 }).wr R.TB_STAT_STATE 0 tbLocked).raise R.TIME_EVT_LOCK 0
      else t.setTime { t.time with good := good } := rfl


section
variable {s : State} {value : DWord} {err : Int} (herr : (value - s.time.expect).toInt = err)
include herr

/-- In LOCKED an error within 10 us is applied (R277). -/
theorem disciplineEvent_within (hst : s.rd R.TB_STAT_STATE 0 = tbLocked) (hnear : err.natAbs ≤ 10000) : disciplineEvent s value =
    applyError ((s.eventNoted value).setTime { (s.eventNoted value).time with far := 0 }) err := by
  subst herr
  rw [disciplineEvent_eq, hst, if_neg (by decide), if_pos rfl, if_neg (not_lt.2 hnear)]

/-- One beyond it is ignored, but the fourth in a row is applied and leads back to ACQUIRING (R277). -/
theorem disciplineEvent_beyond (hst : s.rd R.TB_STAT_STATE 0 = tbLocked) (hfar : 10000 < err.natAbs) : disciplineEvent s value =
    if s.time.far + 1 = 4 then
      applyError (((s.eventNoted value).setTime { (s.eventNoted value).time with far := 0, good := 0 }).wr R.TB_STAT_STATE 0 tbAcquiring) err
    else (s.eventNoted value).setTime { (s.eventNoted value).time with far := s.time.far + 1 } := by
  subst herr
  rw [← eventNoted_far s value, disciplineEvent_eq, hst, if_neg (by decide), if_pos rfl, if_pos hfar]

/-- Outside LOCKED and FREE every error is applied, and the eighth in a row within 100 ns locks (R277). -/
theorem disciplineEvent_acquiring (hst : s.rd R.TB_STAT_STATE 0 ≠ tbFree) (hout : s.rd R.TB_STAT_STATE 0 ≠ tbLocked) :
    disciplineEvent s value =
      let t := applyError ((s.eventNoted value).wr R.TB_STAT_STATE 0 tbAcquiring) err
      let good := if decide (err.natAbs ≤ 100) then s.time.good + 1 else 0
      if good = 8 then ((t.setTime { t.time with good := 0, far := 0 }).wr R.TB_STAT_STATE 0 tbLocked).raise R.TIME_EVT_LOCK 0
      else t.setTime { t.time with good := good } := by
  subst herr
  have hkept (u : State) : (u.wr R.TB_STAT_STATE 0 tbAcquiring).time = u.time := rfl
  have htime : ((s.eventNoted value).wr R.TB_STAT_STATE 0 tbAcquiring).time.good = s.time.good := by
    rw [hkept, eventNoted_good]
  rw [← htime, disciplineEvent_eq, if_neg hst, if_neg hout]

end

end Sys2Proof.Machine
end

section
/-! PROOF. The family of 09_streams_and_time.md: what a discipline event leads to, in each state of the discipline (O17). -/

namespace Sys2Proof.Machine

/-! ### The error, the expected value and the instant -/

/-- What is noted of an event is not changed by what follows it. -/
structure EventKept (s t : State) : Prop where
  err : t.rd R.TB_ERR_ERR 0 = s.rd R.TB_ERR_ERR 0
  expect : t.time.expect = s.time.expect
  last : t.time.lastEvent = s.time.lastEvent

theorem EventKept.trans {s t u : State} (h : EventKept s t) (h' : EventKept t u) : EventKept s u :=
  ⟨h'.err.trans h.err, h'.expect.trans h.expect, h'.last.trans h.last⟩

theorem eventKept_counts (s : State) (good far : Nat) : EventKept s (s.setTime { s.time with good := good, far := far }) := ⟨rfl, rfl, rfl⟩

theorem eventKept_state (s : State) (v : Nat) : EventKept s (s.wr R.TB_STAT_STATE 0 v) :=
  ⟨rd_wr_ne s R.TB_STAT_STATE _ 0 0 v (by decide), rfl, rfl⟩

theorem eventKept_raise (s : State) {f : Fld} (hf : f.timeEvt = true) : EventKept s (s.raise f 0) :=
  ⟨rd_raise_timeEvt s hf (by decide) (by decide), congrArg TimeUnit.expect (raise_time ..), congrArg TimeUnit.lastEvent (raise_time ..)⟩

theorem eventKept_applyError (s : State) (err : Int) : EventKept s (applyError s err) :=
  ⟨applyError_err s err, applyError_expect s err, applyError_lastEvent s err⟩

theorem disciplineEvent_kept {s : State} (value : DWord) (hst : s.rd R.TB_STAT_STATE 0 ≠ tbFree) :
    EventKept (s.eventNoted value) (disciplineEvent s value) := by
  by_cases hlocked : s.rd R.TB_STAT_STATE 0 = tbLocked
  · by_cases hnear : (value - s.time.expect).toInt.natAbs ≤ 10000
    · rw [disciplineEvent_within rfl hlocked hnear]
      exact (eventKept_counts _ (s.eventNoted value).time.good 0).trans (eventKept_applyError ..)
    · rw [disciplineEvent_beyond rfl hlocked (Nat.lt_of_not_le hnear)]
      split
      · exact ((eventKept_counts _ 0 0).trans (eventKept_state ..)).trans (eventKept_applyError ..)
      · exact eventKept_counts _ (s.eventNoted value).time.good (s.time.far + 1)
  · rw [disciplineEvent_acquiring rfl hst hlocked]
    have happly := (eventKept_state (s.eventNoted value) tbAcquiring).trans (eventKept_applyError _ (value - s.time.expect).toInt)
    generalize applyError ((s.eventNoted value).wr R.TB_STAT_STATE 0 tbAcquiring) (value - s.time.expect).toInt = t at happly ⊢
    generalize (if decide ((value - s.time.expect).toInt.natAbs ≤ 100) then s.time.good + 1 else 0) = good
    dsimp only
    split
    · exact ((happly.trans (eventKept_counts t 0 0)).trans (eventKept_state ..)).trans (eventKept_raise _ (by decide))
    · exact happly.trans (eventKept_counts t good t.time.far)

theorem disciplineEvent_records {s : State} (value : DWord) (hst : s.rd R.TB_STAT_STATE 0 ≠ tbFree) :
    (disciplineEvent s value).rdInt R.TB_ERR_ERR 0 = clampInt (-2147483648) 2147483647 (value - s.time.expect).toInt ∧
    (disciplineEvent s value).time.expect = s.time.expect + BitVec.ofNat 64 (1000 * s.tbPeriodUs) ∧
    (disciplineEvent s value).time.lastEvent = some s.now := by
  have hkept := disciplineEvent_kept value hst
  exact ⟨(rdInt_of_rd hkept.err).trans (eventNoted_err s value),
    hkept.expect.trans (eventNoted_expect s value),
    hkept.last.trans (eventNoted_lastEvent s value)⟩

/-! ### The state of the discipline and its counts -/

section
variable {s : State} {value : DWord} {err : Int} (herr : (value - s.time.expect).toInt = err)
include herr

theorem disciplineEvent_acquires (hst : s.rd R.TB_STAT_STATE 0 ≠ tbFree) (hout : s.rd R.TB_STAT_STATE 0 ≠ tbLocked) :
    (disciplineEvent s value).rd R.TB_STAT_STATE 0 = (if err.natAbs ≤ 100 ∧ s.time.good = 7 then tbLocked else tbAcquiring) ∧
    (disciplineEvent s value).time.good = (if err.natAbs ≤ 100 ∧ s.time.good ≠ 7 then s.time.good + 1 else 0) := by
  rw [disciplineEvent_acquiring herr hst hout]
  dsimp only
  by_cases hnear : err.natAbs ≤ 100
  · rw [if_pos (decide_eq_true hnear)]
    by_cases hseven : s.time.good = 7
    · rw [if_pos (by omega), if_pos ⟨hnear, hseven⟩, if_neg (fun h => h.2 hseven)]
      exact ⟨(rd_raise_timeEvt _ (by decide) (by decide) (by decide)).trans (rd_wr_same _ R.TB_STAT_STATE 0 tbLocked (by decide)),
        congrArg TimeUnit.good (raise_time ..)⟩
    · rw [if_neg (by omega), if_neg (fun h => hseven h.2), if_pos ⟨hnear, hseven⟩]
      exact ⟨(applyError_state ..).trans (rd_wr_same _ R.TB_STAT_STATE 0 tbAcquiring (by decide)), rfl⟩
  · rw [if_neg (mt of_decide_eq_true hnear), if_neg (by decide), if_neg (fun h => hnear h.1), if_neg (fun h => hnear h.1)]
    exact ⟨(applyError_state ..).trans (rd_wr_same _ R.TB_STAT_STATE 0 tbAcquiring (by decide)), rfl⟩

theorem disciplineEvent_locks (hst : s.rd R.TB_STAT_STATE 0 ≠ tbFree) (hout : s.rd R.TB_STAT_STATE 0 ≠ tbLocked)
    (hnear : err.natAbs ≤ 100) (hseven : s.time.good = 7) : (disciplineEvent s value).on R.TIME_EVT_LOCK 0 = true := by
  rw [disciplineEvent_acquiring herr hst hout]
  dsimp only
  rw [if_pos (decide_eq_true hnear), hseven, if_pos rfl]
  exact raise_timeEvt _ (by decide)

theorem disciplineEvent_ignored (hst : s.rd R.TB_STAT_STATE 0 = tbLocked) (hbeyond : 10000 < err.natAbs) (hfew : s.time.far < 3) :
    (disciplineEvent s value).rd R.TB_STAT_STATE 0 = tbLocked ∧ (disciplineEvent s value).time.far = s.time.far + 1 ∧
    (disciplineEvent s value).time.count = s.time.count ∧ (disciplineEvent s value).rd R.TB_STAT_RATE 0 = s.rd R.TB_STAT_RATE 0 := by
  rw [disciplineEvent_beyond herr hst hbeyond, if_neg (by omega)]
  exact ⟨(eventNoted_stat s value rfl).trans hst, rfl, eventNoted_count s value, eventNoted_stat s value rfl⟩

theorem disciplineEvent_fourth (hst : s.rd R.TB_STAT_STATE 0 = tbLocked) (hbeyond : 10000 < err.natAbs) (hthree : s.time.far = 3) :
    (disciplineEvent s value).rd R.TB_STAT_STATE 0 = tbAcquiring ∧ (disciplineEvent s value).time.far = 0 := by
  rw [disciplineEvent_beyond herr hst hbeyond, hthree, if_pos rfl]
  exact ⟨(applyError_state ..).trans (rd_wr_same _ R.TB_STAT_STATE 0 tbAcquiring (by decide)), applyError_far ..⟩

theorem disciplineEvent_stays (hst : s.rd R.TB_STAT_STATE 0 = tbLocked) (hnear : err.natAbs ≤ 10000) :
    (disciplineEvent s value).rd R.TB_STAT_STATE 0 = tbLocked ∧ (disciplineEvent s value).time.far = 0 ∧
    (disciplineEvent s value).time.count = s.time.count := by
  rw [disciplineEvent_within herr hst hnear]
  exact ⟨(applyError_state ..).trans ((eventNoted_stat s value rfl).trans hst), applyError_far ..,
    ((applyError_applied _ err).near (by omega)).trans (eventNoted_count s value)⟩

/-- The error of every other event is applied. -/
theorem disciplineEvent_applied (hst : s.rd R.TB_STAT_STATE 0 ≠ tbFree)
    (h : s.rd R.TB_STAT_STATE 0 ≠ tbLocked ∨ err.natAbs ≤ 10000 ∨ s.time.far = 3) : ErrorApplied s (disciplineEvent s value) err := by
  have hcount := eventNoted_count s value
  have hjobs := eventNoted_jobs s value
  by_cases hlocked : s.rd R.TB_STAT_STATE 0 = tbLocked
  · by_cases hnear : err.natAbs ≤ 10000
    · rw [disciplineEvent_within herr hlocked hnear]
      generalize s.eventNoted value = u at hcount hjobs ⊢
      exact (applyError_applied _ err).of_count hcount hjobs
    · obtain h | h | hthree := h
      · exact absurd hlocked h
      · exact absurd h hnear
      · rw [disciplineEvent_beyond herr hlocked (Nat.lt_of_not_le hnear), hthree, if_pos rfl]
        generalize s.eventNoted value = u at hcount hjobs ⊢
        exact (applyError_applied _ err).of_count hcount hjobs
  · rw [disciplineEvent_acquiring herr hst hlocked]
    generalize s.eventNoted value = u at hcount hjobs ⊢
    have happlied : ErrorApplied s (applyError (u.wr R.TB_STAT_STATE 0 tbAcquiring) err) err :=
      (applyError_applied _ err).of_count hcount hjobs
    generalize applyError (u.wr R.TB_STAT_STATE 0 tbAcquiring) err = t at happlied ⊢
    generalize (if decide (err.natAbs ≤ 100) then s.time.good + 1 else 0) = good
    dsimp only
    split
    · exact (happlied.counts 0 0).locks
    · exact happlied.counts good t.time.far

end

/-! ### SYNC_IN, SETXTIME and HOLDOVER -/

theorem syncInEdge_idle {s : State} {falling : Bool} {phase : Fin 4}
    (h : s.tbSrc ≠ 1 ∨ s.on R.TB_CFG_EDGE 0 ≠ falling ∨ s.rd R.TB_STAT_STATE 0 = tbFree) :
    Does (.syncInEdge falling phase) s fun t => t = s := by
  refine ⟨s, ?_, rfl⟩
  simp only [exec, execSyncInEdge]
  obtain h | h | h := h
  · simp [h]
  · simp [h]
  · simp [disciplineEvent_free h]

/-- SETXTIME reaches the running target logic, and a Sync Tick that SRC selects is a discipline event (R278). -/
theorem setxtime_eq {s : State} (hup : s.targetUp = true) (sub : XTimeSub) (phase : Fin 4) : exec (.setxtime sub phase) s = .next (
    if sub = .syncTick ∧ s.tbSrc = 2 then
      disciplineEvent (s.setBus { s.bus with hdr := false, acked := true }) (s.latched phase)
    else s.setBus { s.bus with hdr := false, acked := true }) := by
  have hsrc : (sdr s true).tbSrc = s.tbSrc := rfl
  simp only [exec, execSetxtime, broadcast, hup, if_true]
  cases sub <;> simp only [hsrc, true_and, reduceCtorEq, false_and, if_false] <;> rfl

theorem setxtime_idle {s : State} {phase : Fin 4} (hup : s.targetUp = true) (h : s.tbSrc ≠ 2 ∨ s.rd R.TB_STAT_STATE 0 = tbFree) :
    Does (.setxtime .syncTick phase) s fun t => t = s.setBus { s.bus with hdr := false, acked := true } := by
  refine ⟨_, setxtime_eq hup .syncTick phase, ?_⟩
  split
  next hsel => exact disciplineEvent_free (s := s.setBus { s.bus with hdr := false, acked := true }) (h.resolve_left (not_not.2 hsel.2)) _
  next => rfl

theorem setxtime_other {s : State} {phase : Fin 4} (hup : s.targetUp = true) {sub : XTimeSub} (h : sub ≠ .syncTick) :
    Does (.setxtime sub phase) s fun t => t = s.setBus { s.bus with hdr := false, acked := true } :=
  ⟨_, setxtime_eq hup sub phase, if_neg fun hne => h hne.1⟩

/-- The edge and the tick that SRC and EDGE select are discipline events, of the state but for the bus (R276, R278). -/
theorem exec_disciplineEvent {s : State} {falling : Bool} {phase : Fin 4} {e : Instr}
    (h : (e = .syncInEdge falling phase ∧ s.tbSrc = 1 ∧ s.on R.TB_CFG_EDGE 0 = falling) ∨
      (e = .setxtime .syncTick phase ∧ s.tbSrc = 2 ∧ s.targetUp = true)) :
    ∃ b, exec e s = .next (disciplineEvent (s.setBus b) (s.latched phase)) := by
  obtain ⟨rfl, hsrc, hedge⟩ | ⟨rfl, hsrc, hup⟩ := h
  · refine ⟨s.bus, ?_⟩
    simp only [exec, execSyncInEdge, hsrc, hedge, decide_true, beq_self_eq_true, Bool.and_self, if_true]
    rfl
  · exact ⟨_, (setxtime_eq hup .syncTick phase).trans (by rw [if_pos ⟨rfl, hsrc⟩])⟩

theorem holdoverTimeout_holds {s : State} (hst : s.rd R.TB_STAT_STATE 0 = tbLocked)
    (hlate : (1500 * s.tbPeriodUs : Int) ≤ (s.time.count - s.time.expect).toInt) : Does .holdoverTimeout s fun t =>
      t.rd R.TB_STAT_STATE 0 = tbHoldover ∧ t.on R.TIME_EVT_HOLDOVER 0 = true ∧ t.rd R.TB_STAT_RATE 0 = s.rd R.TB_STAT_RATE 0 ∧
      t.time = s.time := by
  have hexec : exec .holdoverTimeout s = .next ((s.wr R.TB_STAT_STATE 0 tbHoldover).raise R.TIME_EVT_HOLDOVER 0) := by
    simp only [exec, execHoldoverTimeout, hst, hlate, decide_true, Bool.and_self, if_true]
  refine ⟨_, hexec, ?_, raise_timeEvt _ (by decide), ?_, raise_time ..⟩
  · exact (rd_raise_timeEvt _ (by decide) (by decide) (by decide)).trans (rd_wr_same s R.TB_STAT_STATE 0 tbHoldover (by decide))
  · exact (rd_raise_timeEvt _ (by decide) (by decide) (by decide)).trans (rd_wr_ne s R.TB_STAT_STATE _ 0 0 _ (by decide))

/-- Settles O17: each command by the lemma of its case; of an event that is applied, what its error does is `ErrorApplied`. -/
theorem timebaseDiscipline : Obligations.TimebaseDiscipline := by
  refine ⟨fun s m h => ⟨clkTbSet_sets h, clkTbSet_refused h⟩, fun s v lo hboot => tbSyncHiWrite_takes v hboot,
    fun s v hboot => ⟨tbCfgWrite_free v hboot, tbCfgWrite_acquires v hboot⟩,
    fun s falling phase => ⟨syncInEdge_idle, setxtime_idle, fun hup sub => setxtime_other hup⟩,
    fun s falling phase e he => ?_, fun s => holdoverTimeout_holds⟩
  intro st err hst
  obtain ⟨b, hexec⟩ := exec_disciplineEvent he
  have herr : (s.latched phase - (s.setBus b).time.expect).toInt = err := rfl
  have hperiod : (s.setBus b).tbPeriodUs = s.tbPeriodUs := by unfold State.tbPeriodUs; rfl
  have hjobs : (s.setBus b).anyStarted = s.anyStarted := anyStarted_of_jobs rfl
  have happlied := disciplineEvent_applied herr hst
  have hrecords := disciplineEvent_records (s := s.setBus b) (s.latched phase) hst
  rw [herr, hperiod] at hrecords
  obtain ⟨hrecord, hexpect, hlast⟩ := hrecords
  have hacquires := disciplineEvent_acquires (s := s.setBus b) herr hst
  have hlocks := disciplineEvent_locks (s := s.setBus b) herr hst
  have hignored := disciplineEvent_ignored (s := s.setBus b) herr
  have hfourth := disciplineEvent_fourth (s := s.setBus b) herr
  have hstays := disciplineEvent_stays (s := s.setBus b) herr
  refine ⟨_, hexec, hrecord, hexpect, hlast, hacquires, hlocks, hignored, hfourth, hstays, fun h hbig => ⟨?_, ?_⟩, fun h => (happlied h).rate⟩
  · rw [← hjobs]
    exact (happlied (h.imp_right .inr)).steps hbig
  · rw [← hjobs]
    exact (happlied (h.imp_right .inr)).far hbig

end Sys2Proof.Machine
end

section
/-! PROOF. The family of 09_streams_and_time.md: the receive ports at rest (O23), and the short packets they take (O24). -/

namespace Sys2Proof.Machine

/-! ### The header of a packet -/

theorem streamOfPacket_off {s : State} {p : Nat} (hoff : s.rxOn p = false) (vc : Nat) (h : HdrCheck) : streamOfPacket s p vc h = (s, none) := by
  simp [streamOfPacket, hoff]

/-- Settles O23: a port that is off hears nothing; a port that is on writes its own RX_STAT alone. -/
theorem receivePortsRest : Obligations.ReceivePortsRest := by
  refine ⟨fun s p hoff vc h n d a b pix ph c hc => ⟨s, ?_, rfl⟩, fun s p hon => ⟨fun hawake => ⟨_, ?_, rfl⟩, fun hulps => ⟨_, ?_, rfl⟩,
    ⟨(s.wrB R.RX_STAT_ULPS p true).wr R.RX_STAT_DESKEWED p 0, ?_, ?_, rfl⟩, ⟨s.wrB R.RX_STAT_ULPS p false, ?_, ?_, rfl⟩⟩⟩
  · simp only [List.mem_cons, List.not_mem_nil, or_false] at hc
    obtain rfl | rfl | rfl | rfl | rfl | rfl := hc
    · simp [exec, execFrameStart, streamOfPacket_off hoff, hoff]
    · simp [exec, execFrameEnd, streamOfPacket_off hoff, hoff]
    · simp [exec, execLineStart, streamOfPacket_off hoff]
    · simp [exec, execLongPacket, streamOfPacket_off hoff, hoff]
    · simp [exec, execRxSkewCalibration, hoff]
    · simp [exec, execRxUlpsRequest, hoff]
  · simp [exec, execRxSkewCalibration, hon, hawake]
  · simp [exec, execRxSkewCalibration, hulps]
  · simp [exec, execRxUlpsRequest, hon]
  · rw [on_wr_ne _ R.RX_STAT_DESKEWED _ _ _ _ (.inr (by decide))]
    exact on_wr_same s R.RX_STAT_ULPS p 1 (by decide)
  · simp [exec, execRxUlpsRequest, hon]
  · exact on_wr_same s R.RX_STAT_ULPS p 0 (by decide)

/-- The state once the header of a packet is taken: a corrected one is counted (R255). -/
def State.headed (s : State) (p : Nat) (h : HdrCheck) : State :=
  if h = .corrected then (s.heard p).bump R.RX_STAT_ECC_CE p else s.heard p

theorem streamOfPacket_stream {s : State} {p vc : Nat} {h : HdrCheck} (hon : s.rxOn p = true) (hvc : vc < 4) (hgood : h ≠ .bad) :
    streamOfPacket s p vc h = (s.headed p h, some (4 * p + vc)) := by
  cases h with
  | bad => exact absurd rfl hgood
  | good => simp [streamOfPacket, headerCheck, hon, hvc, streamOf, State.headed, State.heard]
  | corrected => simp [streamOfPacket, headerCheck, hon, hvc, streamOf, State.headed, State.heard]

theorem streamOfPacket_bad {s : State} {p : Nat} (hon : s.rxOn p = true) (vc : Nat) :
    streamOfPacket s p vc .bad = ((s.heard p).raiseRx R.RX_EVT_ECC_UE p, none) := by
  simp [streamOfPacket, headerCheck, hon, State.heard]

theorem streamOfPacket_unused {s : State} {p vc : Nat} (hon : s.rxOn p = true) (hlo : 4 ≤ vc) (hhi : vc < 15) :
    streamOfPacket s p vc .good = ((s.heard p).raiseRx R.RX_EVT_VC_UNUSED p, none) := by
  simp [streamOfPacket, headerCheck, hon, State.heard, show ¬ vc < 4 by omega, hhi]

section
variable (s : State) (p : Nat) (h : HdrCheck)

/-- A header changes when the port heard a packet last, and RX_STAT. -/
theorem headed_eq : ∃ r, s.headed p h = (s.heard p).setRegs r := by
  unfold State.headed
  split
  · exact ⟨_, rfl⟩
  · exact ⟨_, rfl⟩

theorem headed_apart {α : Type} (g : State → α) (hg : ∀ (s : State) r x, g ((s.setRxAt x).setRegs r) = g s) : g (s.headed p h) = g s := by
  obtain ⟨r, hr⟩ := headed_eq s p h
  rw [hr]
  exact hg ..

theorem headed_word {k : Nat} (hk : k < 0x60040 ∨ 0x60070 ≤ k) : (s.headed p h).word k = s.word k := by
  unfold State.headed
  split
  · exact word_wr_ne (s.heard p) R.RX_STAT_ECC_CE p _ (by simp only [R.RX_STAT_ECC_CE, Fld.key]; omega)
  · rfl

theorem headed_counted (hc : h = .corrected) :
    (s.headed p h).rd R.RX_STAT_ECC_CE p = (s.rd R.RX_STAT_ECC_CE p + 1) % 2 ^ R.RX_STAT_ECC_CE.w := by
  rw [State.headed, if_pos hc]
  exact rd_wr_same (s.heard p) R.RX_STAT_ECC_CE p _ (by decide)

end

/-! ### Events of the receive ports -/

theorem raiseRx_word (s : State) {f : Fld} (hf : f.key 0 0 = 0x60080) (p : Nat) {k : Nat} (hk : k ≠ 0x60080) (h4 : k ≠ 0x4) :
    (s.raiseRx f p).word k = s.word k :=
  (word_wr_ne _ R.RX_EVT_PORT 0 p hk).trans (raise_word_ne s f 0 (by rwa [hf]) h4)

theorem raiseRx_port (s : State) (f : Fld) (p : Fin 12) : (s.raiseRx f p).rd R.RX_EVT_PORT 0 = p :=
  (rd_wr_same _ R.RX_EVT_PORT 0 p (by decide)).trans (Nat.mod_eq_of_lt (by have := p.isLt; simp only [R.RX_EVT_PORT]; omega))

theorem raiseRx_ingest (s : State) (f : Fld) (p : Nat) : (s.raiseRx f p).ingest = s.ingest := raise_ingest s f 0

theorem raiseRx_time (s : State) (f : Fld) (p : Nat) : (s.raiseRx f p).time = s.time := raise_time s f 0

/-! ### Frames and lines -/

theorem ing_putIng (s : State) (st : Nat) (v : Ingest) : (s.putIng st v).ing st = v := spGet_spSet_same ..

theorem losePending_none {s : State} {st : Nat} (h : (s.ing st).pendingLine = none) : losePending s st = s := by
  simp only [losePending, h]

section
variable {s : State} {p : Fin 12} (hon : s.rxOn p = true) {vc : Fin 16} (hvc : vc.val < 4) {h : HdrCheck} (hgood : h ≠ .bad)
include hon hvc hgood

theorem frameStart_applies (hnone : (s.ing (4 * p.val + vc.val)).pendingLine = none) : Does (.frameStart p vc h) s fun t =>
    t.forceWord (R.STREAM_CFG.key (4 * p.val + vc.val) 0) = s.word (R.STREAM_CFG.key (4 * p.val + vc.val) 0) ∧
    (t.ing (4 * p.val + vc.val)).inFrame = true ∧ (t.ing (4 * p.val + vc.val)).expected = none ∧ (h = .corrected →
      t.rd R.RX_STAT_ECC_CE p = (s.rd R.RX_STAT_ECC_CE p + 1) % 2 ^ R.RX_STAT_ECC_CE.w) := by
  have hing : ((s.headed p h).ing (4 * p.val + vc.val)).pendingLine = none :=
    (headed_apart s p h (fun t => (t.ing (4 * p.val + vc.val)).pendingLine) fun _ _ _ => rfl).trans hnone
  have hkey : 0x60070 ≤ R.STREAM_CFG.key (4 * p.val + vc.val) 0 := by simp only [R.STREAM_CFG, Fld.key]; omega
  refine ⟨_, by simp only [exec, execFrameStart, streamOfPacket_stream hon hvc hgood, losePending_none hing]; rfl, ?_⟩
  refine ⟨(spGet_spSet_same ..).trans (headed_word s p h (.inr hkey)), ?_, ?_, headed_counted s p h⟩ <;> rw [ing_putIng]

theorem frameEnd_closes (hnone : (s.ing (4 * p.val + vc.val)).pendingLine = none) : Does (.frameEnd p vc h) s fun t =>
    (t.ing (4 * p.val + vc.val)).inFrame = false ∧ (t.ing (4 * p.val + vc.val)).pendingLine = none ∧ (h = .corrected →
      t.rd R.RX_STAT_ECC_CE p = (s.rd R.RX_STAT_ECC_CE p + 1) % 2 ^ R.RX_STAT_ECC_CE.w) := by
  have hing : ((s.headed p h).ing (4 * p.val + vc.val)).pendingLine = none :=
    (headed_apart s p h (fun t => (t.ing (4 * p.val + vc.val)).pendingLine) fun _ _ _ => rfl).trans hnone
  refine ⟨_, by simp only [exec, execFrameEnd, streamOfPacket_stream hon hvc hgood, losePending_none hing, ite_self]; rfl, ?_⟩
  refine ⟨?_, ?_, headed_counted s p h⟩ <;> rw [ing_putIng]

end

/-- The stamp of a phase depends on the time unit, RATE and the web position (R275). -/
theorem stampAt_of_words {s t : State} (htime : t.time = s.time) (hrate : t.word 0x60918 = s.word 0x60918)
    (hpos : t.word 0x60930 = s.word 0x60930) (phase : Nat) : t.stampAt phase = s.stampAt phase := by
  have hrd : t.rdInt R.TB_STAT_RATE 0 = s.rdInt R.TB_STAT_RATE 0 := rdInt_of_rd (rd_of_word hrate)
  simp only [State.stampAt, State.latched, htime, hrd, show t.word (R.ENC_POS.key 0 0) = s.word (R.ENC_POS.key 0 0) from hpos]

/-- A line number not beyond the one expected is irregular if it is smaller (R259). -/
theorem lineNumber_not_beyond {s : State} {p st n : Nat} (stamp : Stamp) (h : ∀ e, (s.ing st).expected = some e → n ≤ e) :
    lineNumber s p st n stamp = if (s.ing st).expected.any (n < ·) then s.raiseRx R.RX_EVT_LNUM_ERR p else s := by
  unfold lineNumber
  split
  · rename_i hnone
    simp [hnone]
  · rename_i e hsome
    have hle := h e hsome
    simp [hsome, show ¬ e < n by omega]

section
variable (s : State) (p : Nat) (h : HdrCheck)

theorem headed_ing (st : Nat) : (s.headed p h).ing st = s.ing st := headed_apart s p h (State.ing · st) fun _ _ _ => rfl

theorem headed_stamp (ph : Nat) : (s.headed p h).stampAt ph = s.stampAt ph :=
  stampAt_of_words (headed_apart s p h State.time fun _ _ _ => rfl) (headed_word s p h (.inr (by decide)))
    (headed_word s p h (.inr (by decide))) ph

theorem raiseRx_stamp {f : Fld} (hf : f.key 0 0 = 0x60080) (ph : Nat) : (s.raiseRx f p).stampAt ph = s.stampAt ph :=
  stampAt_of_words (raiseRx_time s f p) (raiseRx_word s hf p (by decide) (by decide)) (raiseRx_word s hf p (by decide) (by decide)) ph

/-- The state once the header of a Line Start is taken and its number judged, a number smaller than the one expected being an error. -/
def State.lineNumbered (st n : Nat) : State :=
  if (s.ing st).expected.any (n < ·) then (s.headed p h).raiseRx R.RX_EVT_LNUM_ERR p else s.headed p h

theorem lineNumber_headed {st n : Nat} (hn : ∀ e, (s.ing st).expected = some e → n ≤ e) (stamp : Stamp) :
    lineNumber (s.headed p h) p st n stamp = s.lineNumbered p h st n := by
  rw [lineNumber_not_beyond stamp (by rwa [headed_ing]), headed_ing]
  rfl

theorem lineNumbered_stamp (st n ph : Nat) : (s.lineNumbered p h st n).stampAt ph = s.stampAt ph := by
  unfold State.lineNumbered
  split
  · exact (raiseRx_stamp _ p rfl ph).trans (headed_stamp s p h ph)
  · exact headed_stamp s p h ph

theorem lineNumbered_smaller {st n e : Nat} (he : (s.ing st).expected = some e) (hlt : n < e) :
    s.lineNumbered p h st n = (s.headed p h).raiseRx R.RX_EVT_LNUM_ERR p := by
  rw [State.lineNumbered, he, if_pos (by simpa using hlt)]

end

theorem lineStart_latches {s : State} {p : Fin 12} {ph : Fin 4} {vc : Fin 16} {h : HdrCheck} (hon : s.rxOn p = true) (hvc : vc.val < 4)
    (hgood : h ≠ .bad) (hnone : (s.ing (4 * p.val + vc.val)).pendingLine = none) (hen : s.frc R.STREAM_CFG_EN (4 * p.val + vc.val) ≠ 0)
    (hnum : s.lineNum (4 * p.val + vc.val) = true) (n : Fin 65536)
    (hn : ∀ e, (s.ing (4 * p.val + vc.val)).expected = some e → n.val ≤ e) : Does (.lineStart p vc ⟨h, ph⟩ n) s fun t =>
      (t.ing (4 * p.val + vc.val)).pendingLine = some (s.stampAt ph) ∧
      (t.ing (4 * p.val + vc.val)).expected = some (if n.val = 65535 then 1 else n.val + 1) ∧
      (∀ e, (s.ing (4 * p.val + vc.val)).expected = some e → n.val < e →
        t.on R.RX_EVT_LNUM_ERR 0 = true ∧ t.rd R.RX_EVT_PORT 0 = p.val) := by
  generalize hst : 4 * p.val + vc.val = st at *
  have hen' : (s.headed p h).frc R.STREAM_CFG_EN st ≠ 0 := by
    rwa [headed_apart s p h (State.frc · R.STREAM_CFG_EN st) fun _ _ _ => rfl]
  have hnum' : (s.headed p h).lineNum st = true := by rwa [headed_apart s p h (State.lineNum · st) fun _ _ _ => rfl]
  have hnone' : ((s.headed p h).ing st).pendingLine = none := by rwa [headed_ing]
  refine ⟨_, by
    simp only [exec, execLineStart, streamOfPacket_stream hon hvc hgood, hst, hen', hnum', losePending_none hnone', lineNumber_headed s p h hn,
      decide_false, Bool.not_true, Bool.or_self, Bool.false_eq_true, if_false]
    rfl, ?_, ?_, fun e he hlt => ?_⟩
  · rw [ing_putIng, lineNumbered_stamp]
  · rw [ing_putIng]
    rfl
  · rw [lineNumbered_smaller s p h he hlt]
    exact ⟨raiseRx_on (s.headed p h) R.RX_EVT_LNUM_ERR p rfl (by decide) (by decide) (by decide), raiseRx_port (s.headed p h) R.RX_EVT_LNUM_ERR p⟩

theorem lineStart_ignored {s : State} {p : Fin 12} {vc : Fin 16} (ph : Fin 4) (hon : s.rxOn p = true) (hvc : vc.val < 4)
    (hnum : s.lineNum (4 * p.val + vc.val) = false) (n : Fin 65536) : Does (.lineStart p vc ⟨.good, ph⟩ n) s fun t => t = s.heard p := by
  have hnum' : (s.heard p).lineNum (4 * p.val + vc.val) = false := hnum
  exact ⟨_, by simp only [exec, execLineStart, streamOfPacket_good hon hvc, hnum', Bool.not_false, Bool.or_true, if_true], rfl⟩

/-- A packet that leads to no stream and not to channel 15 leaves nothing but what its header did. -/
theorem shortPacket_nowhere {s u : State} {p : Fin 12} {vc : Fin 16} {h : HdrCheck} {ph : Fin 4}
    (hnone : streamOfPacket s p vc h = (u, none)) (hnot : vc.val ≠ 15 ∨ h = .bad) :
    ∀ c ∈ [Instr.frameStart p vc h, .frameEnd p vc h, .lineStart p vc ⟨h, ph⟩ 1], exec c s = .next u := by
  have hbulk : (vc.val = 15 && u.rxOn p && decide (h ≠ .bad)) = false := by
    obtain hne | rfl := hnot
    · simp [hne]
    · simp
  intro c hc
  simp only [List.mem_cons, List.not_mem_nil, or_false] at hc
  obtain rfl | rfl | rfl := hc
  · simp only [exec, execFrameStart, hnone, hbulk, Bool.false_eq_true, if_false]
  · simp only [exec, execFrameEnd, hnone, hbulk, Bool.false_eq_true, if_false]
  · simp only [exec, execLineStart, hnone]

/-- Settles O24: a packet that leads to a stream does what its kind does there; any other leaves the event of its header alone. -/
theorem receivedShortPackets : Obligations.ReceivedShortPackets := by
  intro s p ph hon
  refine ⟨fun vc h hvc hgood => ?_,
    fun vc c hc => ⟨_, shortPacket_nowhere (streamOfPacket_bad hon vc) (.inr rfl) c hc, ?_, raiseRx_port .., raiseRx_ingest ..⟩,
    fun vc hlo hhi c hc => ⟨_, shortPacket_nowhere (streamOfPacket_unused hon hlo hhi) (.inl hhi.ne) c hc, ?_, raiseRx_ingest ..⟩⟩
  · intro st hnone
    exact ⟨frameStart_applies hon hvc hgood hnone, frameEnd_closes hon hvc hgood hnone, lineStart_latches hon hvc hgood hnone,
      fun hnum hh n => hh ▸ lineStart_ignored ph hon hvc hnum n⟩
  · exact raiseRx_on _ _ _ rfl (by decide) (by decide) (by decide)
  · exact raiseRx_on _ _ _ rfl (by decide) (by decide) (by decide)

end Sys2Proof.Machine
end

section
/-! PROOF. The family of 09_streams_and_time.md: how a marker takes, fires, discards and clears its entries (O19). -/

namespace Sys2Proof.Machine

/-! ### The queue and the output of a marker -/

theorem MARK_STAT_key (k : Nat) : R.MARK_STAT.key k 0 = 0x60A40 + 4 * (k % 8) := by simp [R.MARK_STAT, Fld.key]

theorem markQ_putMarkQ (s : State) (k : Nat) (q : List MarkEntry) : (s.putMarkQ k q).markQ k = q := spGet_spSet_same ..

theorem markLevel_putMarkQ (s : State) (k : Nat) (q : List MarkEntry) (i : Nat) : (s.putMarkQ k q).markLevel i = s.markLevel i := rfl

theorem pending_putMarkQ (s : State) (k : Nat) (q : List MarkEntry) : (s.putMarkQ k q).rd R.MARK_STAT_PENDING k = q.length % 2 ^ 7 :=
  rd_wr_same _ R.MARK_STAT_PENDING k _ (by decide)

/-- Replacing a queue leaves the outputs, and every word but MARK_STAT of its marker. -/
theorem word_putMarkQ (s : State) (k : Nat) (q : List MarkEntry) {x : Nat} (h : x ≠ R.MARK_STAT.key k 0) :
    (s.putMarkQ k q).word x = s.word x := word_wr_ne _ R.MARK_STAT_PENDING k _ h

theorem rd_putMarkQ (s : State) (k : Nat) (q : List MarkEntry) {f : Fld} (hf : 7 ≤ f.lo) (i : Nat) : (s.putMarkQ k q).rd f i = s.rd f i :=
  rd_wr_ne _ R.MARK_STAT_PENDING f k i _ (.inr (.inr hf))

/-- What a marker shows and holds: its word MARK_STAT, its queue and its level, and the web position its entries wait for. -/
structure MarkerKept (k : Nat) (s t : State) : Prop where
  stat : t.word (R.MARK_STAT.key k 0) = s.word (R.MARK_STAT.key k 0)
  queue : t.markQ k = s.markQ k
  level : t.markLevel k = s.markLevel k
  pos : t.word (R.ENC_POS.key 0 0) = s.word (R.ENC_POS.key 0 0)

theorem MarkerKept.refl (k : Nat) (s : State) : MarkerKept k s s := ⟨rfl, rfl, rfl, rfl⟩

theorem MarkerKept.trans {k : Nat} {s t u : State} (h : MarkerKept k s t) (h' : MarkerKept k t u) : MarkerKept k s u :=
  ⟨h'.stat.trans h.stat, h'.queue.trans h.queue, h'.level.trans h.level, h'.pos.trans h.pos⟩

/-- The web position lies below the words of the markers. -/
theorem pos_ne_markStat (k : Nat) : R.ENC_POS.key 0 0 ≠ R.MARK_STAT.key k 0 := by
  rw [MARK_STAT_key]
  simp only [R.ENC_POS, Fld.key]
  omega

/-! ### An entry that fires -/

/-- The time unit after an entry of marker `k` has fired: its level, and the end and width of its pulse. -/
theorem markFire_eq (s : State) (k : Nat) (low : Bool) : ∃ v : Nat × Nat, markFire s k low =
    ((s.wr R.MARK_STAT_ACTIVE k 1).bump R.MARK_STAT_FIRED k).setTime { s.time with
      markHigh := spSet (fun _ => false) s.time.markHigh k (!low), pulse := spSet (fun _ => (0, 0)) s.time.pulse k v } := ⟨_, rfl⟩

section
variable (s : State) (k : Nat) (low : Bool)

theorem markQ_markFire (i : Nat) : (markFire s k low).markQ i = s.markQ i := rfl

theorem markLevel_markFire : (markFire s k low).markLevel k = !low := spGet_spSet_same ..

theorem word_markFire {x : Nat} (h : x ≠ R.MARK_STAT.key k 0) : (markFire s k low).word x = s.word x :=
  (word_wr_ne _ R.MARK_STAT_FIRED k _ h).trans (word_wr_ne s R.MARK_STAT_ACTIVE k 1 h)

theorem active_markFire : (markFire s k low).on R.MARK_STAT_ACTIVE k = true :=
  (on_wr_ne _ R.MARK_STAT_FIRED R.MARK_STAT_ACTIVE k k _ (by right; decide)).trans (on_wr_same s R.MARK_STAT_ACTIVE k 1 (by decide))

theorem fired_markFire : (markFire s k low).rd R.MARK_STAT_FIRED k = (s.rd R.MARK_STAT_FIRED k + 1) % 2 ^ R.MARK_STAT_FIRED.w := by
  have hactive : (s.wr R.MARK_STAT_ACTIVE k 1).rd R.MARK_STAT_FIRED k = s.rd R.MARK_STAT_FIRED k :=
    rd_wr_ne s R.MARK_STAT_ACTIVE _ k k 1 (by right; decide)
  rw [← hactive]
  exact rd_wr_same (s.wr R.MARK_STAT_ACTIVE k 1) R.MARK_STAT_FIRED k _ (by decide)

end

/-! ### Looking at the heads of the queues -/

section
variable {j k : Nat} (hj : j < 8) (hk : k < 8) (hne : j ≠ k)
include hj hk hne

theorem markStat_ne : R.MARK_STAT.key k 0 ≠ R.MARK_STAT.key j 0 := by
  rw [MARK_STAT_key, MARK_STAT_key]
  omega

theorem markerKept_putMarkQ (s : State) (q : List MarkEntry) : MarkerKept k s (s.putMarkQ j q) where
  stat := word_putMarkQ s j q (markStat_ne hj hk hne)
  queue := spGet_spSet_ne _ _ _ hne.symm
  level := rfl
  pos := word_putMarkQ s j q (pos_ne_markStat j)

theorem markerKept_markFire (s : State) (low : Bool) : MarkerKept k s (markFire s j low) where
  stat := word_markFire s j low (markStat_ne hj hk hne)
  queue := rfl
  level := spGet_spSet_ne _ _ _ hne.symm
  pos := word_markFire s j low (pos_ne_markStat j)

theorem markerKept_markHeads (q : List MarkEntry) (s : State) : MarkerKept k s (markHeads s j q) := by
  induction q generalizing s with
  | nil => exact markerKept_putMarkQ hj hk hne s []
  | cons e q ih =>
    unfold markHeads
    split
    · exact (markerKept_markFire hj hk hne s e.low).trans (ih _)
    · exact markerKept_putMarkQ hj hk hne s (e :: q)

end

/-- A queue whose head still waits is kept as it is. -/
theorem markHeads_waits {s : State} (k : Nat) {q : List MarkEntry} (h : ∀ u ∈ q, markD (s.word (R.ENC_POS.key 0 0)) u.target < 0) :
    markHeads s k q = s.putMarkQ k q := by
  cases q with
  | nil => rfl
  | cons u q => exact if_neg (not_le.2 (h u List.mem_cons_self))

/-- Of a queue whose head alone is reached the head fires and the rest stays. -/
theorem markHeads_fires {s : State} (k : Nat) {e : MarkEntry} {rest : List MarkEntry}
    (hreached : 0 ≤ markD (s.word (R.ENC_POS.key 0 0)) e.target)
    (hwait : ∀ u ∈ rest, markD (s.word (R.ENC_POS.key 0 0)) u.target < 0) :
    markHeads s k (e :: rest) = (markFire s k e.low).putMarkQ k rest := by
  rw [markHeads, if_pos hreached]
  exact markHeads_waits k (by rwa [word_markFire s k e.low (pos_ne_markStat k)])

/-- Marker `k` looks at the head of its queue. -/
def State.markLook (s : State) (k : Nat) : State := if (s.markQ k).isEmpty then s else markHeads s k (s.markQ k)

theorem markAll_eq (s : State) : markAll s = s.each (List.range 8) State.markLook := rfl

theorem markerKept_markLook {j k : Nat} (hj : j < 8) (hk : k < 8) (hne : j ≠ k) (s : State) : MarkerKept k s (s.markLook j) := by
  unfold State.markLook
  split
  · exact .refl k s
  · exact markerKept_markHeads hj hk hne _ s

theorem markerKept_looks {k : Nat} (hk : k < 8) {l : List Nat} (hl : ∀ j ∈ l, j < 8) (hnot : k ∉ l) (s : State) :
    MarkerKept k s (s.each l State.markLook) := by
  induction l generalizing s with
  | nil => exact .refl k s
  | cons j l ih =>
    rw [List.mem_cons, not_or] at hnot
    exact (markerKept_markLook (hl j List.mem_cons_self) hk (Ne.symm hnot.1) s).trans
      (ih (fun i hi => hl i (List.mem_cons_of_mem j hi)) hnot.2 _)

/-- What every marker's look does to marker `k` its own look does. -/
theorem markAll_one (s : State) {k : Nat} (hk : k < 8) : ∃ u, MarkerKept k s u ∧ MarkerKept k (u.markLook k) (markAll s) := by
  obtain ⟨l₁, l₂, hl⟩ := List.append_of_mem (List.mem_range.2 hk)
  have hnodup : (l₁ ++ k :: l₂).Nodup := hl ▸ List.nodup_range
  have hlt (j : Nat) (hj : j ∈ l₁ ++ k :: l₂) : j < 8 := List.mem_range.1 (hl ▸ hj)
  rw [List.nodup_append] at hnodup
  obtain ⟨-, hright, hdisj⟩ := hnodup
  refine ⟨s.each l₁ State.markLook,
    markerKept_looks hk (fun j hj => hlt j (List.mem_append_left _ hj)) (fun h => hdisj k h k List.mem_cons_self rfl) s, ?_⟩
  have hall : markAll s = ((s.each l₁ State.markLook).markLook k).each l₂ State.markLook := by
    rw [markAll_eq, hl]
    exact List.foldl_append ..
  rw [hall]
  exact markerKept_looks hk (fun j hj => hlt j (List.mem_append_right _ (List.mem_cons_of_mem k hj))) (List.nodup_cons.1 hright).1 _

/-- The entry at the head of a queue fires when every marker looks and it alone is reached. -/
theorem markAll_fires {s : State} {k : Nat} (hk : k < 8) {e : MarkEntry} {rest : List MarkEntry} (hq : s.markQ k = e :: rest)
    (hreached : 0 ≤ markD (s.word (R.ENC_POS.key 0 0)) e.target)
    (hwait : ∀ u ∈ rest, markD (s.word (R.ENC_POS.key 0 0)) u.target < 0) :
    (markAll s).markQ k = rest ∧ (markAll s).on R.MARK_STAT_ACTIVE k = true ∧ (markAll s).markLevel k = !e.low ∧
    (markAll s).rd R.MARK_STAT_FIRED k = (s.rd R.MARK_STAT_FIRED k + 1) % 2 ^ R.MARK_STAT_FIRED.w := by
  obtain ⟨u, hu, hall⟩ := markAll_one s hk
  have huq : u.markQ k = e :: rest := hu.queue.trans hq
  have hlook : u.markLook k = (markFire u k e.low).putMarkQ k rest := by
    rw [State.markLook, huq]
    exact markHeads_fires k (by rwa [hu.pos]) (by rwa [hu.pos])
  rw [hlook] at hall
  generalize markAll s = t at hall ⊢
  have hstat {f : Fld} (hf : f.key k 0 = R.MARK_STAT.key k 0) (hlo : 7 ≤ f.lo) : t.rd f k = (markFire u k e.low).rd f k :=
    (rd_of_word (by rw [hf]; exact hall.stat)).trans (rd_putMarkQ _ k rest hlo k)
  have hfired : u.rd R.MARK_STAT_FIRED k = s.rd R.MARK_STAT_FIRED k := rd_of_word hu.stat
  have hactive : t.on R.MARK_STAT_ACTIVE k = (markFire u k e.low).on R.MARK_STAT_ACTIVE k :=
    congrArg (· != 0) (hstat (f := R.MARK_STAT_ACTIVE) rfl (by decide))
  refine ⟨?_, ?_, ?_, ?_⟩
  · rw [hall.queue, markQ_putMarkQ]
  · rw [hactive, active_markFire]
  · rw [hall.level, markLevel_putMarkQ, markLevel_markFire]
  · rw [hstat (f := R.MARK_STAT_FIRED) rfl (by decide), fired_markFire, hfired]

/-! ### A transition of the encoder -/

/-- A transition of ENC_A alone, past its filter, moves the web position, and the markers look at their heads (R280). -/
theorem encoderTransition_a {s : State} {a : Bool} (hen : s.on R.ENC_CFG_EN 0 = true) (hclk : s.on R.CLK_EN_ENC 0 = true)
    (hlong : s.tooShort s.time.encAAt = false) (ha : a ≠ s.time.encA) :
    let pos := if (a != s.time.encB) != s.on R.ENC_CFG_INVERT 0 then s.word (R.ENC_POS.key 0 0) + 1 else s.word (R.ENC_POS.key 0 0) - 1
    ∃ v : TimeUnit, v.marks = s.time.marks ∧
      exec (.encoderTransition a s.time.encB) s = .next (markAll ((s.setWord (R.ENC_POS.key 0 0) pos).setTime v)) := by
  intro pos
  have hstep : s.word (R.ENC_POS.key 0 0) + BitVec.ofInt 32 (if (a != s.time.encB) != s.on R.ENC_CFG_INVERT 0 then 1 else -1) = pos := by
    simp only [pos]
    split
    · rfl
    · rw [BitVec.sub_eq_add_neg]
      rfl
  have hchanged : (a != s.time.encA) = true := bne_iff_ne.2 ha
  have hother : (a == s.time.encA) = false := beq_eq_false_iff_ne.2 ha
  have hen' (v : TimeUnit) : (s.setTime v).on R.ENC_CFG_EN 0 = true := hen
  have hclk' (v : TimeUnit) : (s.setTime v).on R.CLK_EN_ENC 0 = true := hclk
  rw [← hstep]
  refine ⟨?_, ?marks, ?moved⟩
  case moved =>
    simp only [exec, execEncoderTransition, encoderSample, hlong, hchanged, hother, hen', hclk', bne_self_eq_false, Bool.and_false,
      Bool.false_and, Bool.not_true, Bool.or_self, Bool.false_eq_true, if_false]
    rfl
  case marks => rfl

/-- An entry at the head of a queue fires when a count brings the web position to its target. -/
theorem encoderTransition_fires {s : State} {a : Bool} {k : Nat} (hk : k < 8) {e : MarkEntry} {rest : List MarkEntry}
    (hen : s.on R.ENC_CFG_EN 0 = true) (hclk : s.on R.CLK_EN_ENC 0 = true) (hlong : s.tooShort s.time.encAAt = false)
    (ha : a ≠ s.time.encA) (hq : s.markQ k = e :: rest) :
    let pos := if (a != s.time.encB) != s.on R.ENC_CFG_INVERT 0 then s.word (R.ENC_POS.key 0 0) + 1 else s.word (R.ENC_POS.key 0 0) - 1
    0 ≤ markD pos e.target → (∀ u ∈ rest, markD pos u.target < 0) →
    Does (.encoderTransition a s.time.encB) s fun t => t.markQ k = rest ∧ t.on R.MARK_STAT_ACTIVE k = true ∧ t.markLevel k = !e.low ∧
      t.rd R.MARK_STAT_FIRED k = (s.rd R.MARK_STAT_FIRED k + 1) % 2 ^ R.MARK_STAT_FIRED.w := by
  intro pos hreached hwait
  obtain ⟨v, hmarks, hexec⟩ := encoderTransition_a hen hclk hlong ha
  have hpos : ((s.setWord (R.ENC_POS.key 0 0) pos).setTime v).word (R.ENC_POS.key 0 0) = pos := word_setWord_same s _ pos
  have hqueue : ((s.setWord (R.ENC_POS.key 0 0) pos).setTime v).markQ k = e :: rest :=
    (congrArg (fun marks => spGet (fun _ => []) marks k) hmarks).trans hq
  have hstat : ((s.setWord (R.ENC_POS.key 0 0) pos).setTime v).rd R.MARK_STAT_FIRED k = s.rd R.MARK_STAT_FIRED k :=
    rd_of_word (word_setWord_ne s pos (pos_ne_markStat k).symm)
  have hfires := markAll_fires hk hqueue (by rwa [hpos]) (by rwa [hpos])
  rw [hstat] at hfires
  exact ⟨_, hexec, hfires⟩

/-! ### The output that returns -/

section
variable (s : State) (k : Nat)

theorem markInactive_active (h : s.on R.MARK_STAT_ACTIVE k = true) :
    markInactive s k = (s.wr R.MARK_STAT_ACTIVE k 0).putMarkLevel k (!s.markLevel k) := if_pos h

theorem markInactive_idle (h : s.on R.MARK_STAT_ACTIVE k = false) : markInactive s k = s := if_neg (by simp [h])

theorem active_markInactive : (markInactive s k).on R.MARK_STAT_ACTIVE k = false := by
  cases h : s.on R.MARK_STAT_ACTIVE k with
  | false => rwa [markInactive_idle s k h]
  | true =>
    rw [markInactive_active s k h]
    exact on_wr_same s R.MARK_STAT_ACTIVE k 0 (by decide)

theorem markQ_markInactive (i : Nat) : (markInactive s k).markQ i = s.markQ i := by
  unfold markInactive
  split <;> rfl

end

/-- The output returns to the other level when the pulse has run out, not before (R282). -/
theorem markPulseEnd_ends {s : State} {k : Fin 8} (hend : (spGet (fun _ => (0, 0)) s.time.pulse k.val).1 ≤ s.now) :
    exec (.markPulseEnd k) s = .next (markInactive s k) := by simp only [exec, execMarkPulseEnd, hend, if_true]

theorem markPulseEnd_runs {s : State} {k : Fin 8} (hrun : s.now < (spGet (fun _ => (0, 0)) s.time.pulse k.val).1) :
    exec (.markPulseEnd k) s = .next s := by simp only [exec, execMarkPulseEnd, not_le.2 hrun, if_false]

theorem markPulseEnd_idle {s : State} {k : Fin 8} (hidle : s.on R.MARK_STAT_ACTIVE k = false) : exec (.markPulseEnd k) s = .next s := by
  rcases le_or_gt (spGet (fun _ => (0, 0)) s.time.pulse k.val).1 s.now with hend | hrun
  · rw [markPulseEnd_ends hend, markInactive_idle s k hidle]
  · exact markPulseEnd_runs hrun

theorem markPulseEnd_returns {s : State} {k : Fin 8} (hend : (spGet (fun _ => (0, 0)) s.time.pulse k.val).1 ≤ s.now)
    (hactive : s.on R.MARK_STAT_ACTIVE k = true) : Does (.markPulseEnd k) s fun t =>
      t.on R.MARK_STAT_ACTIVE k = false ∧ t.markLevel k = !s.markLevel k ∧ t.regs = (s.wr R.MARK_STAT_ACTIVE k 0).regs := by
  refine ⟨_, markPulseEnd_ends hend, active_markInactive s k, ?_, ?_⟩
  · rw [markInactive_active s k hactive]
    exact spGet_spSet_same ..
  · rw [markInactive_active s k hactive]
    rfl

end Sys2Proof.Machine
end

section
/-! PROOF. The family of 09_streams_and_time.md: the commands of the markers and of the encoder (O19). -/

namespace Sys2Proof.Machine

/-! ### What scheduling an entry answers -/

section
variable {s : State} {k : Nat} {target : Word} (hclk : s.on R.CLK_EN_MARK 0 = true)

theorem markSchedule_off (hoff : s.on R.MARK_CFG_EN k = false) : markSchedule s k target = (2, s.raise R.TIME_EVT_MARK_MISS 0) :=
  if_pos (by simp [hoff])

include hclk
variable (hen : s.on R.MARK_CFG_EN k = true)
include hen

theorem markSchedule_full (hfull : (s.markQ k).length = 64) : markSchedule s k target = (3, s.raise R.TIME_EVT_MARK_OVF 0) := by
  simp only [markSchedule, hen, hclk, hfull, Bool.not_true, Bool.or_self, Bool.false_eq_true, if_false, le_refl, if_true]

variable (hroom : (s.markQ k).length < 64)
include hroom

theorem markSchedule_queues (hd : markD (s.word (R.ENC_POS.key 0 0)) target < 0) : markSchedule s k target =
    (0, s.putMarkQ k (markInsert (s.word (R.ENC_POS.key 0 0)) ⟨target, s.on R.MARK_CFG_POL k⟩ (s.markQ k))) := by
  simp only [markSchedule, hen, hclk, Bool.not_true, Bool.or_self, Bool.false_eq_true, if_false, not_le.2 hroom, not_le.2 hd]

theorem markSchedule_late (hd : 0 ≤ markD (s.word (R.ENC_POS.key 0 0)) target)
    (hwin : markD (s.word (R.ENC_POS.key 0 0)) target ≤ s.rd R.MARK_LATE_WIN_LATE_WIN 0) :
    markSchedule s k target = (1, (markFire s k (s.on R.MARK_CFG_POL k)).raise R.TIME_EVT_MARK_LATE 0) := by
  simp only [markSchedule, hen, hclk, Bool.not_true, Bool.or_self, Bool.false_eq_true, if_false, not_le.2 hroom, hd, hwin, if_true]

theorem markSchedule_misses (hd : 0 ≤ markD (s.word (R.ENC_POS.key 0 0)) target)
    (hwin : (s.rd R.MARK_LATE_WIN_LATE_WIN 0 : Int) < markD (s.word (R.ENC_POS.key 0 0)) target) :
    markSchedule s k target = (2, s.raise R.TIME_EVT_MARK_MISS 0) := by
  simp only [markSchedule, hen, hclk, Bool.not_true, Bool.or_self, Bool.false_eq_true, if_false, not_le.2 hroom, hd, not_le.2 hwin, if_true]

end

theorem length_markInsert (pos : Word) (e : MarkEntry) (q : List MarkEntry) : (markInsert pos e q).length = q.length + 1 := by
  induction q with
  | nil => rfl
  | cons u q ih =>
    unfold markInsert
    split
    · rfl
    · exact congrArg (· + 1) ih

/-! ### STREAM_MARK -/

/-- A command begins only while the clock of its block runs. -/
theorem precheck_gate {s : State} {m : Nat} {c : Cmd} {a b g : Bool} {off : Nat} (h : s.precheck m c a b g off = none) : g = true := by
  unfold State.precheck at h
  dsimp only at h
  repeat' split at h
  all_goals simp_all

theorem begins_gate {s : State} {m code : Nat} {a g e : Bool} (h : s.begins m code a g e = true) : g = true := by
  simp only [State.begins, Bool.and_eq_true, Option.any_eq_true] at h
  obtain ⟨-, c, -, hpass⟩ := h
  exact precheck_gate (Option.isNone_iff_eq_none.1 hpass)

theorem markQ_of_time {s t : State} (h : t.time = s.time) (k : Nat) : t.markQ k = s.markQ k :=
  congrArg (fun u : TimeUnit => spGet (fun _ => []) u.marks k) h

theorem markLevel_of_time {s t : State} (h : t.time = s.time) (k : Nat) : t.markLevel k = s.markLevel k :=
  congrArg (fun u : TimeUnit => spGet (fun _ => false) u.markHigh k) h

/-- An event of the time block leaves the outputs of the markers. -/
theorem active_raise (s : State) {f : Fld} (hf : f.timeEvt = true) (k : Nat) :
    (s.raise f 0).on R.MARK_STAT_ACTIVE k = s.on R.MARK_STAT_ACTIVE k := by
  have hkey : R.MARK_STAT_ACTIVE.key k 0 = 0x60A40 + 4 * (k % 8) := MARK_STAT_key k
  exact on_of_word (word_raise_timeEvt s hf (by omega) (by omega))

theorem markCfgEn_running {s : State} {m : Fin 16} {k : Nat} (hen : s.on R.MARK_CFG_EN k = true) : (s.running m).on R.MARK_CFG_EN k = true :=
  (on_running (by decide) s m k).trans hen

section
variable {s : State} {m : Fin 16} (h : s.begins m 0x0503 true (s.on R.CLK_EN_MARK 0) true = true)
include h

theorem clkEnMark_running : (s.running m).on R.CLK_EN_MARK 0 = true := (on_running (by decide) s m 0).trans (begins_gate h)

theorem streamMark_answers {n : Nat} {u : State} (hs : markSchedule (s.running m) (s.req m 8 1) (BitVec.ofNat 32 (s.req m 12 4)) = (n, u)) :
    exec (.streamMark m) s = .next (u.respond m .ok 0 [BitVec.ofNat 8 n]) := by
  simp only [exec, execStreamMark, peade_begins 0 _ h, req_running, hs]

/-- An entry that is not taken changes an event alone. -/
theorem streamMark_raises {n : Nat} {f : Fld} (hf : f.timeEvt = true) (hbase : 0x10880 ≤ f.base)
    (hs : markSchedule (s.running m) (s.req m 8 1) (BitVec.ofNat 32 (s.req m 12 4)) = (n, (s.running m).raise f 0)) :
    Does (.streamMark m) s fun t => t.time = s.time ∧ t.on f 0 = true ∧ t.Answers m .ok [BitVec.ofNat 8 n] :=
  ⟨_, streamMark_answers h hs, (respond_time ..).trans (raise_time ..), (on_respond _ _ _ _ _ hbase).trans (raise_timeEvt _ hf),
    respond_answers ..⟩

theorem streamMark_off (hoff : s.on R.MARK_CFG_EN (s.req m 8 1) = false) : Does (.streamMark m) s fun t =>
    t.time = s.time ∧ t.on R.TIME_EVT_MARK_MISS 0 = true ∧ t.Answers m .ok [2] :=
  streamMark_raises h (by decide) (by decide) (markSchedule_off ((on_running (by decide) s m _).trans hoff))

variable (hen : s.on R.MARK_CFG_EN (s.req m 8 1) = true)
include hen

theorem streamMark_full (hfull : (s.markQ (s.req m 8 1)).length = 64) : Does (.streamMark m) s fun t =>
    t.time = s.time ∧ t.on R.TIME_EVT_MARK_OVF 0 = true ∧ t.Answers m .ok [3] :=
  streamMark_raises h (by decide) (by decide) (markSchedule_full (clkEnMark_running h) (markCfgEn_running hen) hfull)

variable (hroom : (s.markQ (s.req m 8 1)).length < 64)
include hroom

theorem streamMark_queues (hd : markD (s.word (R.ENC_POS.key 0 0)) (BitVec.ofNat 32 (s.req m 12 4)) < 0) :
    Does (.streamMark m) s fun t => t.markQ (s.req m 8 1) = markInsert (s.word (R.ENC_POS.key 0 0))
          ⟨BitVec.ofNat 32 (s.req m 12 4), s.on R.MARK_CFG_POL (s.req m 8 1)⟩ (s.markQ (s.req m 8 1)) ∧
      t.rd R.MARK_STAT_PENDING (s.req m 8 1) = (s.markQ (s.req m 8 1)).length + 1 ∧ t.Answers m .ok [0] := by
  have hpos : (s.running m).word (R.ENC_POS.key 0 0) = s.word (R.ENC_POS.key 0 0) := word_running s m (by decide)
  have hs := markSchedule_queues (clkEnMark_running h) (markCfgEn_running hen) hroom (by rwa [hpos])
  rw [hpos, on_running (by decide), markQ_of_time (s := s) (t := s.running m) rfl] at hs
  refine ⟨_, streamMark_answers h hs, (markQ_of_time (respond_time ..) _).trans (markQ_putMarkQ ..), ?_, respond_answers ..⟩
  rw [rd_respond _ _ _ _ _ (by decide), pending_putMarkQ, length_markInsert]
  exact Nat.mod_eq_of_lt (by omega)

theorem streamMark_late (hd : 0 ≤ markD (s.word (R.ENC_POS.key 0 0)) (BitVec.ofNat 32 (s.req m 12 4)))
    (hwin : markD (s.word (R.ENC_POS.key 0 0)) (BitVec.ofNat 32 (s.req m 12 4)) ≤ s.rd R.MARK_LATE_WIN_LATE_WIN 0) :
    Does (.streamMark m) s fun t => t.markQ (s.req m 8 1) = s.markQ (s.req m 8 1) ∧ t.on R.MARK_STAT_ACTIVE (s.req m 8 1) = true ∧
      t.markLevel (s.req m 8 1) = !s.on R.MARK_CFG_POL (s.req m 8 1) ∧ t.on R.TIME_EVT_MARK_LATE 0 = true ∧ t.Answers m .ok [1] := by
  have hpos : (s.running m).word (R.ENC_POS.key 0 0) = s.word (R.ENC_POS.key 0 0) := word_running s m (by decide)
  have hs := markSchedule_late (clkEnMark_running h) (markCfgEn_running hen) hroom (by rwa [hpos])
    (by rwa [hpos, rd_running (by decide)])
  rw [on_running (by decide)] at hs
  refine ⟨_, streamMark_answers h hs, ?_, ?_, ?_, ?_, respond_answers ..⟩
  · rw [markQ_of_time (respond_time ..), markQ_of_time (raise_time ..), markQ_markFire]
    rfl
  · rw [on_respond _ _ _ _ _ (by decide), active_raise _ (by decide), active_markFire]
  · rw [markLevel_of_time (respond_time ..), markLevel_of_time (raise_time ..), markLevel_markFire]
  · rw [on_respond _ _ _ _ _ (by decide)]
    exact raise_timeEvt _ (by decide)

theorem streamMark_misses (hd : 0 ≤ markD (s.word (R.ENC_POS.key 0 0)) (BitVec.ofNat 32 (s.req m 12 4)))
    (hwin : (s.rd R.MARK_LATE_WIN_LATE_WIN 0 : Int) < markD (s.word (R.ENC_POS.key 0 0)) (BitVec.ofNat 32 (s.req m 12 4))) :
    Does (.streamMark m) s fun t => t.time = s.time ∧ t.on R.TIME_EVT_MARK_MISS 0 = true ∧ t.Answers m .ok [2] := by
  have hpos : (s.running m).word (R.ENC_POS.key 0 0) = s.word (R.ENC_POS.key 0 0) := word_running s m (by decide)
  exact streamMark_raises h (by decide) (by decide) (markSchedule_misses (clkEnMark_running h) (markCfgEn_running hen) hroom
    (by rwa [hpos]) (by rwa [hpos, rd_running (by decide)]))

end

/-! ### STREAM_MARK_CLEAR and CLK_ENC_PRESET -/

theorem streamMarkClear_clears {s : State} {m : Fin 16} (h : s.begins m 0x0504 true (s.on R.CLK_EN_MARK 0) true = true) :
    Does (.streamMarkClear m) s fun t => t.markQ (s.req m 8 1) = [] ∧ t.on R.MARK_STAT_ACTIVE (s.req m 8 1) = false ∧
      t.on R.TIME_EVT_MARK_FLUSH 0 = true ∧ t.Answers m .ok [BitVec.ofNat 8 (s.markQ (s.req m 8 1)).length] := by
  have hexec : exec (.streamMarkClear m) s = .next (((markClear (s.running m) (s.req m 8 1)).raise R.TIME_EVT_MARK_FLUSH 0).respond
      m .ok 0 [BitVec.ofNat 8 (s.markQ (s.req m 8 1)).length]) := by
    simp only [exec, execStreamMarkClear, peade_begins 0 _ h, req_running]
    rfl
  refine ⟨_, hexec, ?_, ?_, ?_, respond_answers ..⟩
  · rw [markQ_of_time (respond_time ..), markQ_of_time (raise_time ..), markClear, markQ_markInactive, markQ_putMarkQ]
  · rw [on_respond _ _ _ _ _ (by decide), active_raise _ (by decide), markClear, active_markInactive]
  · rw [on_respond _ _ _ _ _ (by decide)]
    exact raise_timeEvt _ (by decide)

theorem markQ_emptied (l : List Nat) (s : State) (k : Nat) :
    (s.each l fun s k => s.putMarkQ k []).markQ k = if k ∈ l then [] else s.markQ k := by
  induction l generalizing s with
  | nil => rfl
  | cons j l ih =>
    rw [each_cons, ih]
    rcases eq_or_ne k j with rfl | hne
    · simp [markQ_putMarkQ]
    · have hkeep : (s.putMarkQ j []).markQ k = s.markQ k := spGet_spSet_ne (fun _ => []) s.time.marks [] hne
      simp [hne, hkeep]

section
variable {s : State} {m : Fin 16} (h : s.begins m 0x0602 true (s.on R.CLK_EN_ENC 0) true = true)
include h

theorem clkEncPreset_eq : exec (.clkEncPreset m) s = .next (
    if s.anyStarted then (s.running m).respond m .jobState 0 []
    else ((((s.running m).setWord (R.ENC_POS.key 0 0) (BitVec.ofNat 32 (s.req m 8 4))).each (List.range 8) fun s k =>
      s.putMarkQ k []).raise R.TIME_EVT_MARK_FLUSH 0).respond m .ok 0 []) := by
  simp only [exec, execClkEncPreset, peade_begins 0 _ h, req_running]
  rfl

theorem clkEncPreset_sets (hidle : s.anyStarted = false) : Does (.clkEncPreset m) s fun t =>
    t.word (R.ENC_POS.key 0 0) = BitVec.ofNat 32 (s.req m 8 4) ∧ (∀ k < 8, t.markQ k = []) ∧ t.time.pulse = s.time.pulse ∧
      t.on R.TIME_EVT_MARK_FLUSH 0 = true ∧ t.Answers m .ok [] := by
  have hexec := clkEncPreset_eq h
  rw [hidle, if_neg Bool.false_ne_true] at hexec
  refine ⟨_, hexec, ?_, fun k hk => ?_, ?_, ?_, respond_answers ..⟩
  · rw [word_respond _ _ _ _ _ (by decide), word_raise_timeEvt _ (by decide) (by decide) (by decide)]
    refine (each_keeps (State.word · (R.ENC_POS.key 0 0)) _ _ _ fun s k => word_putMarkQ s k [] (pos_ne_markStat k)).trans ?_
    exact word_setWord_same ..
  · rw [markQ_of_time (respond_time ..), markQ_of_time (raise_time ..), markQ_emptied]
    exact if_pos (List.mem_range.2 hk)
  · rw [respond_time, raise_time]
    exact each_keeps (fun s => s.time.pulse) _ _ _ fun _ _ => rfl
  · rw [on_respond _ _ _ _ _ (by decide)]
    exact raise_timeEvt _ (by decide)

theorem clkEncPreset_refused (hrun : s.anyStarted = true) : Does (.clkEncPreset m) s fun t => t.time = s.time ∧ t.Answers m .jobState [] := by
  have hexec := clkEncPreset_eq h
  rw [hrun, if_pos rfl] at hexec
  exact ⟨_, hexec, respond_time .., respond_answers ..⟩

end

/-- Settles O19: STREAM_MARK by the five outcomes of scheduling, the encoder by the one transition that lets the heads be looked at, the
end of a pulse by its instant. -/
theorem markerEntries : Obligations.MarkerEntries := by
  refine ⟨fun s m h => ⟨streamMark_off h, streamMark_full h, fun hen hroom => ⟨streamMark_queues h hen hroom, streamMark_late h hen hroom,
    streamMark_misses h hen hroom⟩⟩, fun s m h => streamMarkClear_clears h, fun s m h => ⟨clkEncPreset_sets h, clkEncPreset_refused h⟩,
    fun s a k e rest hen hclk hlong ha hq => encoderTransition_fires k.isLt hen hclk hlong ha hq, fun s k => ⟨markPulseEnd_returns,
    fun hidle => ⟨s, markPulseEnd_idle hidle, rfl⟩, fun hrun => ⟨s, markPulseEnd_runs hrun, rfl⟩⟩⟩

end Sys2Proof.Machine
end
